-- ==== Sys2Proof/Word.lean ====
section
/-! DEFINITION. The word types of the model: bytes and byte strings (R10, R75). -/

namespace Sys2Proof

/-- One byte. -/
abbrev Byte := BitVec 8

/-- A byte string, first byte first. -/
abbrev Bytes := List Byte

/-- A 32-bit register of BAR0 or BAR2. -/
abbrev W32 := BitVec 32

/-- A 64-bit register. -/
abbrev W64 := BitVec 64

/-- A relief texel word (R62). -/
abbrev Texel := BitVec 128

end Sys2Proof
end

