-- ==== Sys2Proof/Syntax.lean ====
section
/-! DEFINITION. The commands of the block: one constructor of `Instr` for each row of spec/opcode_table.json, with the row's operands. -/

namespace Sys2Proof

/-- The routes by which a dictionary request arrives, in the order of precedence of R372. -/
inductive Route
  | bar2 | mgmt | data0 | data1
  deriving DecidableEq, Repr

/-- Who makes a dictionary request: its route, its Vipex node ID (0 over BAR2), whether a Vipex request was secured (R390), and the seq of the timed action that makes it (R364). -/
structure Party where
  route : Route := .bar2
  node : Nat := 0
  secured : Bool := false
  action : Option Nat := none
  deriving DecidableEq, Repr

/-- A dictionary request's operation (R383, R386). `maq` is the bank flag of R371; `ue` is the uncorrectable sector of the management partition that the operation meets, none where it meets none (R216). -/
inductive DictOp
  | unknown
  | read (index sub : Nat) (maq : Bool)
  | write (index sub : Nat) (value : Bytes)
  | domainOpen (index sub : Nat) (dirRead maq : Bool) (total : Nat)
  | domainData (handle offset maxLen : Nat) (data : Bytes) (ue : Option Nat)
  | domainClose (handle crc : Nat) (ue : Option Nat)
  | domainAbort (handle : Nat)
  deriving DecidableEq, Repr

/-- One request of a dictionary tick. -/
structure Req where
  party : Party
  op : DictOp
  deriving DecidableEq, Repr

/-- How the read of a segment's buffer over PCIe ended (R319). -/
inductive Dma
  | ok (data : Bytes)
  | error
  deriving DecidableEq, Repr

/-- What an uncorrectable NOR read hits at its address: nothing in use, the newest record of a journal, the newest learned trims or coarse trip record of the state journal, or a log entry (R435, R438). -/
inductive NorHit
  | unused | newest | trims | coarse
  | entry (seq : Nat)
  deriving DecidableEq, Repr

/-- An uncorrectable NOR read while NOR is scanned at a start (R437, R438). -/
structure NorUe where
  addr : Nat
  hit : NorHit := .unused
  deriving DecidableEq, Repr

/-- What a PCIe reset or loss was (R315, R335). -/
inductive LinkLoss
  | l0Lost | busMasterCleared
  deriving DecidableEq, Repr

/-- The resets of R315. -/
inductive PcieReset
  | functionLevel | hot | linkDown
  deriving DecidableEq, Repr

/-- A received Ethernet frame as the port's parser sees it (R340 to R346): its IP packet length, its VLAN ID (0: untagged), whether its destination is the port's address, broadcast or a joined group other than one of `asirek_groups`, its multicast group, its source address and UDP ports, the address it shows to be in use elsewhere, the IPv4 address it leases, and the buffer that the descriptor at the head of its receive queue names (none: the queue is full). -/
structure RxFrame where
  port : Fin 3
  frame : Bytes := []
  payload : Bytes := []
  length : Nat := 46
  vlan : Nat := 0
  fcsOk : Bool := true
  dstOk : Bool := true
  group : Option Bytes := none
  fragment : Bool := false
  checksumsOk : Bool := true
  ipv6 : Bool := false
  udpPort : Option Nat := none
  ptpEther : Bool := false
  service : Bool := false
  conflict : Option Bytes := none
  lease : Option Nat := none
  src : Bytes := []
  srcPort : Nat := 0
  stamp : Nat := 0
  buf : Option (Nat × Nat) := none
  deriving DecidableEq, Repr

/-- A PTP message as the port hands it to its slot (R352 to R354). `origin` is the master's timestamp in it, in ns since the PTP epoch; `stamp` is display time in ns at the port's balls; `correction` is the correctionField in 2^-16 ns; `interval` is the sender's logMessageInterval, and `mine` says that a response's requestingPortIdentity is this port's. -/
structure PtpMsg where
  domain : Nat := 0
  seq : Nat := 0
  twoStep : Bool := true
  correction : Int := 0
  origin : Nat := 0
  stamp : Nat := 0
  source : Bytes := []
  interval : Int := 0
  mine : Bool := true
  deriving DecidableEq, Repr

/-- An Announce and its dataset (R351, R352, R355). `leapFlags` holds leap61, leap59 and currentUtcOffsetValid in bits 0 to 2. -/
structure Announce where
  msg : PtpMsg := {}
  gmIdentity : Bytes := []
  priority1 : Nat := 128
  clockClass : Nat := 248
  accuracy : Nat := 0xFE
  variance : Nat := 0xFFFF
  priority2 : Nat := 128
  steps : Nat := 0
  utcOffset : Int := 37
  leapFlags : Nat := 0
  deriving DecidableEq, Repr

/-- What one partner answers to a status read: its pstat and lane_lock, and the lanes on which it counted more than 16 errors in 1 ms (R287). -/
structure PartnerStat where
  answered : Bool := true
  pstat : Nat := 0
  laneLock : Nat := 0x1F
  overLanes : Nat := 0
  deriving DecidableEq, Repr

/-- Where an uncorrectable error of cluster storage strikes (R183): a word of a staged tile, the constants of a Figure's layer, or the result of a ray, each by its place in the unit. -/
inductive EccHit
  | tileWord (tile word : Nat)
  | layerConst (pos layer : Nat)
  | result (ray : Nat)
  deriving DecidableEq, Repr

/-- Where the staging read of a relief or overlay tile meets an uncorrectable error (R129, R216): a sector of its data, its directory entry, or the version record of the version read. -/
inductive TileUe
  | slot (sector : Nat)
  | entry
  | record
  deriving DecidableEq, Repr

/-- What a drive shows when the clip store starts (R472 to R476, R487): it answers, becomes ready in time, stays within the NVMe subset, its capacity in bytes, and which of its header and table copies read back intact. -/
structure DriveProbe where
  present : Bool := false
  ready : Bool := true
  subset : Bool := true
  capacity : Nat := 0
  headerOk : Bool := true
  copyAOk : Bool := true
  copyBOk : Bool := true
  deriving DecidableEq, Repr

/-- The commands. Each constructor is one row of the table; the row's rule stands behind it. A last operand with a default names reads that met errors; left out, there are none. -/
inductive Instr
  | coldStart (ue : List NorUe := [])                        -- R433
  | resetNAssert                                             -- R508
  | memTrainingDone (failed : List (Fin 4)) (answered : Nat) -- R219, R220
  | memReady                                                 -- R219
  | islandPowered (island : Fin 32)                          -- R26
  | functionEnable (src : Party) (f : Fin 17)                -- R44
  | functionDisable (src : Party) (f : Fin 17)               -- R44
  | portStartDone (p : Fin 3)                                -- R347
  | portStopDone (p : Fin 3)                                 -- R347
  | audPortStartDone (p : Fin 8)                             -- R409
  | audPortStopDone (p : Fin 8)                              -- R409
  | clpStartDone (d0 d1 : DriveProbe)                        -- R487
  | clpStopDone                                              -- R487
  | overlayStartDone                                         -- R309
  | overlayStopDone                                          -- R309
  | captureStartCheck                                        -- R151
  | captureStep (src : Party) (value : Bytes)                -- R153
  | captureReport (src : Party) (value : Bytes)              -- R155
  | captureTimeout                                           -- R155
  | segment (ue : List Nat) (ce : List Nat := [])            -- R78
  | frameMarker                                              -- R85
  | figureDefine                                             -- R65
  | figureModify                                             -- R90
  | figureRetire                                             -- R66
  | tileUpdate                                               -- R112
  | decoderFree                                              -- R112
  | tileDecodeDone (decoder : Fin 16)                        -- R104
  | tileCommit (ordinal : Nat) (entryUe : Bool := false)     -- R119
  | audioBlock                                               -- R402
  | paddingSection                                           -- R82
  | unknownSection                                           -- R83
  | privateSection                                           -- R83
  | admTakeFrame                                             -- R192
  | preCostingDone                                           -- R192
  | finalCostingStart                                        -- R192
  | finalCostingDone                                         -- R192
  | lateData                                                 -- R124
  | renderWindowOpen                                         -- R40
  | renderWindowClose                                        -- R34
  | unitDispatch                                             -- R168
  | unitStagingDone (cluster : Fin 64) (tileUe : List (Nat × TileUe)) (figUe : List (Nat × Nat)) (store : List EccHit) (ce : List Nat := []) -- R168
  | unitRenderStart (cluster : Fin 64)                       -- R169
  | unitRenderDone (cluster : Fin 64) (store : List EccHit) (calUe : List Nat := []) -- R170
  | latchPoint                                               -- R232
  | epoch (phaseError : Int)                                 -- R33
  | swapCopyDone                                             -- R379
  | pcieLinkLoss (kind : LinkLoss)                           -- R335
  | pcieReset (kind : PcieReset)                             -- R315
  | scanLine (ueA ueB : List Nat) (desync : Bool) (ce : List Nat := []) -- R253
  | underrun (head : Fin 2) (level : Nat)                    -- R236
  | refreshInstant                                           -- R212
  | toleranceReport (fifoA fifoB : Nat)                      -- R218
  | selfRefreshEntry (stack : Fin 4)                         -- R218
  | scrubPass (ue : List Nat) (ce : List Nat := [])          -- R217
  | thmSample (sensors : List (Option Int)) (hbmStacks : List (Option Int)) -- R412
  | tripRecordProgrammed                                     -- R421
  | thermalRestart (ue : List NorUe := [])                   -- R422
  | trimLearn                                                -- R416
  | pfailFall                                                -- R259
  | holdupConfirm                                            -- R259
  | holdupShed                                               -- R259
  | holdupParked                                             -- R259
  | holdupRecovery                                           -- R260
  | railDownStep                                             -- R259
  | deviceRailCompare (mv : List Nat)                        -- R510
  | railPgRise (rail : Fin 6)                                -- R256
  | railStepDelay                                            -- R256
  | railPgTimeout                                            -- R258
  | railFault (rail : Fin 6)                                 -- R258
  | railOffStep                                              -- R257
  | clockLost (island : Fin 32)                              -- R494
  | clockRestartAttempt (island : Fin 32)                    -- R495
  | clockRestartCheck (island : Fin 32) (ok : Bool)          -- R495
  | lockstepMismatch                                         -- R428
  | sramUncorrectable                                        -- R428
  | watchdogExpiry                                           -- R467
  | warmResetDone (ue : List NorUe := [])                    -- R429
  | atlWarmReset (src : Party)                               -- R429
  | plnWdKick (value : W32)                                  -- R468
  | trialConfirm                                             -- R442
  | stateJournalSave                                         -- R439
  | logNorFlush                                              -- R446
  | trimSave                                                 -- R416
  | limitRecordWrite                                         -- R466
  | dictionaryTick (reqs : List Req)                         -- R373
  | dictRead (src : Party) (index sub : Nat) (maq : Bool)    -- R371
  | dictWrite (src : Party) (index sub : Nat) (value : Bytes) -- R371
  | domainOpen (src : Party) (index sub : Nat) (dirRead maq : Bool) (total : Nat) -- R382
  | domainData (src : Party) (handle offset maxLen : Nat) (data : Bytes) (ue : Option Nat := none) -- R382
  | domainClose (src : Party) (handle crc : Nat) (ue : Option Nat := none) -- R382
  | domainAbort (src : Party) (handle : Nat)                 -- R382
  | domainTimeout (handle : Nat)                             -- R382
  | vipexHeartbeat                                           -- R392
  | heartbeatReceived (port : Fin 3) (node : Nat) (otherMac : Bool) -- R389
  | vipexKeyWrite (src : Party) (key : Bytes)                -- R390
  | swapRequest (src : Party)                                -- R376
  | swapValidationDone                                       -- R377
  | cfgMaquetteReset (src : Party)                           -- R375
  | cfgStore (src : Party)                                   -- R381
  | cfgStoreBegin                                            -- R381
  | cfgStoreDone (failed : Bool)                             -- R381
  | patinaStore (src : Party)                                -- R150
  | patinaStoreBegin                                         -- R150
  | patinaStoreDone (failed : Bool)                          -- R150
  | streamSourceWrite (src : Party) (value : Nat)            -- R320
  | timeSet (src : Party) (value : Bytes)                    -- R359
  | timeAdjust (src : Party) (value : Bytes)                 -- R359
  | timeActionAdd (src : Party) (value : Bytes)              -- R362
  | timeActionCancel (src : Party) (seq : Nat)               -- R362
  | ethFrameRx (f : RxFrame)                                 -- R341
  | ethFrameTx (port : Fin 3)                                -- R344
  | portLinkChange (port : Fin 3) (link : Nat)               -- R347
  | syncRx (slot : Fin 2) (m : PtpMsg)                       -- R353
  | followUpRx (slot : Fin 2) (m : PtpMsg)                   -- R354
  | announceRx (slot : Fin 2) (a : Announce)                 -- R352
  | delayReqSend (slot : Fin 2) (stamp : Nat)                -- R353
  | delayRespRx (slot : Fin 2) (m : PtpMsg)                  -- R354
  | pdelayReqRx (slot : Fin 2) (m : PtpMsg)                  -- R352
  | domainLost (slot : Fin 2)                                -- R356
  | domainRevert                                             -- R357
  | timeRateStep                                             -- R358
  | hifSegEn (on : Bool)                                     -- R317
  | hifFdrEn (on : Bool)                                     -- R317
  | hifCplEn (on : Bool)                                     -- R317
  | directReq (on : Bool)                                    -- R331
  | segDoorbell (value : W32)                                -- R317
  | segmentDescriptorCopy (desc : Bytes) (dma : Dma)         -- R319
  | fdrTail (value : W32)                                    -- R317
  | frameDescriptorTake (desc : Bytes)                       -- R334
  | directCommitInstant                                      -- R334
  | cplHead (value : W32)                                    -- R323
  | completionEntryWrite                                     -- R323
  | hostHeartbeat                                            -- R335
  | frameCommit (value : W32)                                -- R232
  | timeNowRead                                              -- R316
  | reg64LowRead (offset : Nat)                              -- R234
  | irqStatusClear (value : W32)                             -- R326
  | irqMaskWrite (value : W32)                               -- R327
  | cplCoalesceTimer                                         -- R328
  | apertureBaseWrite (value : W64)                          -- R330
  | apertureRead (offset length : Nat) (ue : List Nat) (ce : List Nat := []) -- R205
  | apertureWrite (offset : Nat) (data : Bytes)              -- R205
  | registerWrite (offset : Nat) (value : W32)               -- R317
  | raspRingTail (value : W32)                               -- R298
  | nop                                                      -- R299
  | fill (ue : List Nat) (ce : List Nat := [])               -- R301
  | copy (ue : List Nat) (ce : List Nat := [])               -- R303
  | publish                                                  -- R308
  | fence                                                    -- R304
  | publishCatchup                                           -- R307
  | audSlotPresent (p : Fin 8) (ue : Option Nat) (ce : Option Nat := none) -- R403
  | audPhaseMeasure (p : Fin 8) (error : Int)                -- R409
  | presenceFall (slot : Fin 32)                             -- R285
  | presenceConfirmed (slot : Fin 32)                        -- R285
  | descriptorRead (slot : Fin 32) (answer : Option Bytes)   -- R280
  | trainTimeout (slot : Fin 32)                             -- R285
  | discoveryRetry (slot : Fin 32)                           -- R285
  | sweepDone (slot : Fin 32) (passMap : Bytes)              -- R284
  | verifyDone (slot : Fin 32) (errors : Bytes)              -- R284
  | retrainRealignDone (slot : Fin 32) (errors : Option Bytes) -- R286
  | partnerAttention (pair : Fin 16) (even odd : PartnerStat) -- R287
  | laneRetry (slot : Fin 32) (lane : Fin 5)                 -- R288
  | partnerRemoved (slot : Fin 32)                           -- R289
  | telemetryRead (slot : Fin 32) (answer : Option Bytes)    -- R291
  | plinthStage (src : Party) (value : Bytes)                -- R462
  | stageVerified                                            -- R462
  | plinthConfirm (src : Party) (value : Bytes)              -- R463
  | consentFall                                              -- R463
  | consentConfirmed                                         -- R463
  | consentStuck                                             -- R463
  | commitExpired                                            -- R465
  | plinthCancel (src : Party)                               -- R465
  | updateVerifyDone                                         -- R444
  | updateWriteBegin                                         -- R444
  | updateWriteDone (failed : Bool) (ue : List NorUe := [])  -- R444
  | updateApply (src : Party)                                -- R444
  | crcInit (unit : Fin 4)                                   -- R451
  | crcData (unit : Fin 4) (data : Bytes)                    -- R452
  | crcSeed (unit : Fin 4) (value : W32)                     -- R451
  | crcAlive (unit : Fin 4)                                  -- R453
  | clpFormat (src : Party) (value : Bytes)                  -- R478
  | clpCreate (src : Party) (value : Bytes)                  -- R478
  | clpWrite (src : Party) (value : Bytes)                   -- R479
  | clpClose (src : Party) (value : Bytes)                   -- R478
  | clpDelete (src : Party) (value : Bytes)                  -- R478
  | clpPlay (src : Party) (value : Bytes)                    -- R481
  | clpStop (src : Party) (value : Bytes)                    -- R482
  | clpCommandDone                                           -- R477
  | clpReadIssue                                             -- R483
  | clpReadDone                                              -- R482
  | clpReadFail                                              -- R484
  | clpHealthPoll (drive : Fin 2) (warn : Bool)              -- R473
  | fallbackRelease (src : Party)                            -- R486
  | pfailRise                                                -- R260
  | consentRise                                              -- R463
  | presenceRise (slot : Fin 32)                             -- R285
  | pgPanelFall (rail : Fin 6)                               -- R257
  | rxReadyAligned (slot : Fin 32)                           -- R285
  | confirmVerified                                          -- R463
  | pcieLinkUp                                               -- R336
  | powerLoss                                                -- R465
  | raspCommandRefused (ecc : Bool)                          -- R299
  | dhcpRetry (port : Fin 3)                                 -- R340
  | audClockRestart (pair : Fin 4)                           -- R396
  deriving DecidableEq, Repr

end Sys2Proof
end

