-- ==== Sys2Proof/Decode.lean ====
section
/-! DEFINITION. The command that a word of the table spells. The block's table gives no row bits, so no word spells a command. -/

namespace Sys2Proof

/-- The command read from `nbits` bits `w`, numbered as the table numbers them: the table spells none by bits. -/
def decodeTableWord (_nbits _w : Nat) : Option Instr := none

end Sys2Proof
end

