-- ==== Sys2Proof/Config.lean ====
section
/-! DEFINITION. What the spec leaves to an implementation or to a standard outside it: opaque constants, which no proof can see through. -/

namespace Sys2Proof.Config

/-- SHA-384 of a byte string (R440, R134). The spec names the standard and gives no definition. (PRESUMED, log entry 11.) -/
opaque sha384 : Bytes → Bytes

/-- Whether an ECDSA P-384 signature (r, then s) over a digest verifies under a public key (R440, R462). (PRESUMED, log entry 11.) -/
opaque ecdsaP384 : Bytes → Bytes → Bytes → Bool

/-- HMAC-SHA-256 of a message under a key (R390). (PRESUMED, log entry 11.) -/
opaque hmacSha256 : Bytes → Bytes → Bytes

/-- The firmware key in OTP, x then y (R458). (DESIGN CHOICE, log entry 12.) -/
opaque fwKey : Bytes

/-- The owner key in OTP (R458). (DESIGN CHOICE, log entry 12.) -/
opaque ownerKey : Bytes

/-- The part's serial number, 16 ASCII characters set at manufacture (R369). (DESIGN CHOICE, log entry 12.) -/
opaque serialNumber : Bytes

/-- The part's first MAC address, 6 bytes set at manufacture (R369). (DESIGN CHOICE, log entry 12.) -/
opaque macBase : Bytes

/-- The stepping of the die (R369). (DESIGN CHOICE, log entry 12.) -/
opaque dieStepping : BitVec 16

/-- How the parameters of a code fill the 10 bytes of a log entry, where the spec does not say (R445). (DESIGN CHOICE, log entry 13.) -/
opaque logParam : Nat → List Nat → Bytes

/-- The n-th free number of `w` bits: a value the spec does not state. -/
opaque freeBits (w : Nat) : Nat → BitVec w

/-- The n-th free choice between two outcomes that the spec leaves open. -/
opaque freeBool : Nat → Bool

/-- The version and the manufacturer of the JTAG IDCODE, in their places (R512). (DESIGN CHOICE, log entry 114.) -/
opaque jtagRest : BitVec 32

/-- The address at which the firmware holds the frame of a transmit descriptor: port, queue, index in the ring (R344). (DESIGN CHOICE, log entry 85.) -/
opaque frameAddress : Nat → Nat → Nat → BitVec 64

end Sys2Proof.Config
end

