-- ==== Sys2Proof/Machine/Bits.lean ====
section
/-! DEFINITION. Bit fields, little-endian byte order, rounding and CRCs (R10, R19, R75, R77, R450). -/

namespace Sys2Proof.Machine

/-- The little-endian number a byte string spells (R10, R75). -/
def leNat : Bytes → Nat
  | [] => 0
  | b :: bs => b.toNat + 256 * leNat bs

/-- The `n` little-endian bytes of a number (R10). -/
def leBytes : Nat → Nat → Bytes
  | 0, _ => []
  | n + 1, v => BitVec.ofNat 8 v :: leBytes n (v / 256)

/-- `n` zero bytes. -/
def zeros (n : Nat) : Bytes := List.replicate n 0#8

/-- The bytes from offset `off`, `n` of them. -/
def cut (bs : Bytes) (off n : Nat) : Bytes := (bs.drop off).take n

/-- The unsigned field of `n` bytes at offset `off` (R75). -/
def fieldN (bs : Bytes) (off n : Nat) : Nat := leNat (cut bs off n)

/-- A `w`-bit pattern read as two's complement. -/
def signed (w v : Nat) : Int :=
  let m := v % 2 ^ w
  if 2 * m < 2 ^ w then (m : Int) else (m : Int) - (2 ^ w : Nat)

/-- The `w`-bit two's complement pattern of a value. -/
def unsigned (w : Nat) (v : Int) : Nat := (v % ((2 ^ w : Nat) : Int)).toNat

/-- The signed field of `n` bytes at offset `off`. -/
def fieldI (bs : Bytes) (off n : Nat) : Int := signed (8 * n) (fieldN bs off n)

/-- The `n` bytes of a signed value. -/
def leInt (n : Nat) (v : Int) : Bytes := leBytes n (unsigned (8 * n) v)

/-- Bits `lo + n - 1` down to `lo` of a number. -/
def bitsOf (v lo n : Nat) : Nat := v / 2 ^ lo % 2 ^ n

/-- Bit `k` as a Bool. -/
def bitOf (v k : Nat) : Bool := bitsOf v k 1 == 1

/-- 1 or 0. -/
def b2n (b : Bool) : Nat := if b then 1 else 0

/-- The number whose bit k is the k-th Bool. -/
def maskOf : List Bool → Nat
  | [] => 0
  | b :: bs => b2n b + 2 * maskOf bs

/-- Division rounded up. -/
def ceilDiv (a b : Nat) : Nat := (a + b - 1) / b

/-- Division of integers rounded up, for a positive divisor. -/
def iceilDiv (a : Int) (b : Nat) : Int := -((-a) / (b : Int))

/-- Division rounded to nearest, ties to even (R48, R241), for a positive divisor. (DEDUCED, log entry 82.) -/
def rhe (a : Int) (b : Nat) : Int :=
  let q := a / (b : Int)
  let r := (a % (b : Int)).toNat
  if 2 * r < b then q
  else if b < 2 * r then q + 1
  else if q % 2 = 0 then q else q + 1

/-- The value limited to `[lo, hi]`. -/
def clampI (lo hi v : Int) : Int := if v < lo then lo else if hi < v then hi else v

/-- The value limited to `[lo, hi]`. -/
def clampN (lo hi v : Nat) : Nat := if v < lo then lo else if hi < v then hi else v

/-- A counter of `w` bits that saturates. -/
def satAdd (w a b : Nat) : Nat := min (a + b) (2 ^ w - 1)

/-- Whether `a` comes after `b` in a 32-bit sequence, that is (a - b) mod 2^32 lies from 1 to 2^31 - 1 (R94, R445). -/
def newer32 (a b : Nat) : Bool :=
  let d := (a + 2 ^ 32 - b % 2 ^ 32) % 2 ^ 32
  1 ≤ d && d < 2 ^ 31

/-- One step of a reflected CRC register. -/
def crcBit (poly r : Nat) : Nat := if r % 2 = 1 then Nat.xor (r / 2) poly else r / 2

/-- A reflected 32-bit CRC register fed one byte, least significant bit first. -/
def crcByte (poly r : Nat) (b : Byte) : Nat :=
  let f := crcBit poly
  f (f (f (f (f (f (f (f (Nat.xor r b.toNat))))))))

/-- A reflected 32-bit CRC register fed a byte string. -/
def crcFeed (poly : Nat) (r : Nat) (bs : Bytes) : Nat := bs.foldl (crcByte poly) r

/-- The reflected form of the CRC-32C polynomial 0x1EDC6F41 (R77). -/
def polyC : Nat := 0x82F63B78

/-- The reflected form of the IEEE 802.3 polynomial 0x04C11DB7 (R450). -/
def polyE : Nat := 0xEDB88320

/-- CRC-32C of a byte string (R77). -/
def crc32c (bs : Bytes) : Nat := Nat.xor (crcFeed polyC 0xFFFFFFFF bs) 0xFFFFFFFF

/-- Exact integer square root by bisection on `fuel` bits: the largest `r` below `2^fuel` with `r * r ≤ n`. -/
def isqrtFuel : Nat → Nat → Nat → Nat
  | 0, _, r => r
  | f + 1, n, r =>
    let t := r + 2 ^ f
    isqrtFuel f n (if t * t ≤ n then t else r)

/-- floor(sqrt n) for n below 2^128. -/
def isqrt (n : Nat) : Nat := isqrtFuel 64 n 0

/-- Replace the `i`-th element of a list. -/
def setAt {α : Type} (l : List α) (i : Nat) (a : α) : List α := l.set i a

/-- Change the `i`-th element of a list. -/
def modAt {α : Type} (l : List α) (i : Nat) (f : α → α) : List α := l.modify i f

/-- Sum of a list of numbers. -/
def sumN (l : List Nat) : Nat := l.foldl (· + ·) 0

/-- Largest of a list of numbers, 0 for the empty list. -/
def maxN (l : List Nat) : Nat := l.foldl max 0

/-- Smallest of a list of numbers, `d` for the empty list. -/
def minN (d : Nat) : List Nat → Nat
  | [] => d
  | x :: xs => xs.foldl min x

/-- The lowest number below `n` that is not in the list. -/
def lowestFree (n : Nat) (used : List Nat) : Option Nat :=
  (List.range (min n (used.length + 1))).find? fun k => !used.contains k

end Sys2Proof.Machine
end

