-- ==== Sys2Proof/Machine/Objects.lean ====
section
/-! DEFINITION. The object dictionary's cards (R8 to R12): index, type, access, range and default of every object. A function of a number (a port, a slot, a sensor) gives one object for each of its cards, and reduces the number modulo how many there are. -/

namespace Sys2Proof.Machine

/-- Object types (R10). -/
inductive Ty
  | bool | u8 | u16 | u32 | u64 | i8 | i16 | i32 | i64 | tai | str | octs | domain
  deriving DecidableEq, Repr

/-- Access codes (R11). -/
inductive Access
  | ro | rw | wo | rws | cnst | two
  deriving DecidableEq, Repr

/-- The Range/Unit column, as far as a write is checked against it (R370 check 9, R527 for lengths). -/
inductive Rng
  | any
  | between (lo hi : Int)
  | oneOf (vs : List Int)
  | zeroOr (lo hi : Int)
  | multiple (m lo hi : Int)
  | pow2 (lo hi : Nat)
  | throttleStart
  | len (n : Nat)
  | lens (ns : List Nat)
  | upTo (n : Nat)
  | words16 (count hi : Nat)
  | rising16 (count : Nat)
  deriving DecidableEq, Repr

/-- The value of an object: a number, or a byte string for STR, OCTS and DOMAIN. -/
inductive Val
  | num (v : Int)
  | oct (bs : Bytes)
  deriving DecidableEq, Repr

/-- One object's card (R12). -/
structure Obj where
  index : Nat
  sub : Nat
  ty : Ty
  access : Access
  rng : Rng := .any
  dflt : Val := .num 0
  deriving DecidableEq, Repr

/-- The key under which a value of the object is stored. -/
def Obj.key (o : Obj) : Nat := o.index * 256 + o.sub

/-- Width in bytes of a fixed-width type, none for byte strings (R527). -/
def Ty.width : Ty → Option Nat
  | .bool => some 1 | .u8 => some 1 | .i8 => some 1
  | .u16 => some 2 | .i16 => some 2
  | .u32 => some 4 | .i32 => some 4
  | .u64 => some 8 | .i64 => some 8
  | .tai => some 10
  | .str => none | .octs => none | .domain => none

/-- Whether the type is signed. -/
def Ty.isSigned : Ty → Bool
  | .i8 => true | .i16 => true | .i32 => true | .i64 => true | _ => false

/-- A number reduced to the type's width. -/
def Ty.fit (t : Ty) (v : Int) : Int :=
  match t.width with
  | none => v
  | some w => if t.isSigned then signed (8 * w) (unsigned (8 * w) v) else (unsigned (8 * w) v : Int)

/-- A byte string's value under the type: a number for a fixed width, the bytes themselves otherwise. -/
def Ty.parse (t : Ty) (bs : Bytes) : Val :=
  match t.width with
  | none => .oct bs
  | some w => .num (t.fit (leNat (bs.take w)))

/-- The little-endian bytes of a value under the type (R10). -/
def Ty.render (t : Ty) : Val → Bytes
  | .oct bs => bs
  | .num v => match t.width with
    | none => []
    | some w => leInt w v

/-- Entries 0 to 63 of the default overlay lookup table (R296). -/
def srgb0 : List Nat :=
  [0, 5, 10, 15, 20, 25, 30, 35, 40, 45, 50, 55, 60, 66, 72, 78,
   85, 92, 99, 107, 115, 123, 131, 140, 150, 159, 169, 180, 190, 201, 213, 224,
   237, 249, 262, 275, 289, 303, 318, 332, 348, 363, 379, 396, 413, 430, 448, 466,
   484, 503, 523, 542, 563, 583, 604, 626, 648, 670, 693, 717, 740, 765, 789, 814]

/-- Entries 64 to 127 of the default overlay lookup table (R296). -/
def srgb1 : List Nat :=
  [840, 866, 893, 920, 947, 975, 1003, 1032, 1062, 1092, 1122, 1153, 1184, 1216, 1248, 1281,
   1314, 1348, 1382, 1417, 1452, 1488, 1525, 1561, 1599, 1637, 1675, 1714, 1753, 1793, 1834, 1875,
   1916, 1958, 2001, 2044, 2088, 2132, 2177, 2222, 2268, 2314, 2361, 2409, 2457, 2505, 2555, 2604,
   2655, 2705, 2757, 2809, 2861, 2914, 2968, 3022, 3077, 3132, 3188, 3245, 3302, 3360, 3418, 3477]

/-- Entries 128 to 191 of the default overlay lookup table (R296). -/
def srgb2 : List Nat :=
  [3536, 3596, 3657, 3718, 3780, 3843, 3906, 3969, 4034, 4098, 4164, 4230, 4296, 4364, 4432, 4500,
   4569, 4639, 4709, 4780, 4852, 4924, 4997, 5070, 5144, 5219, 5294, 5370, 5447, 5524, 5602, 5680,
   5759, 5839, 5919, 6000, 6082, 6164, 6247, 6331, 6415, 6500, 6586, 6672, 6759, 6846, 6934, 7023,
   7113, 7203, 7294, 7385, 7477, 7570, 7664, 7758, 7853, 7948, 8044, 8141, 8239, 8337, 8436, 8535]

/-- Entries 192 to 255 of the default overlay lookup table (R296). -/
def srgb3 : List Nat :=
  [8636, 8737, 8838, 8941, 9044, 9147, 9252, 9357, 9463, 9569, 9676, 9784, 9893, 10002, 10112, 10222,
   10334, 10446, 10559, 10672, 10786, 10901, 11017, 11133, 11250, 11368, 11486, 11605, 11725, 11846, 11967, 12089,
   12212, 12335, 12460, 12585, 12710, 12837, 12964, 13092, 13220, 13350, 13480, 13611, 13742, 13874, 14007, 14141,
   14276, 14411, 14547, 14684, 14821, 14959, 15098, 15238, 15378, 15520, 15662, 15804, 15948, 16092, 16237, 16383]

/-- The default overlay lookup table, round_half_even(16,383 x EOTF(c / 255)) with the sRGB EOTF (R296), as bytes. -/
def srgbLut : Bytes := (srgb0 ++ srgb1 ++ srgb2 ++ srgb3).flatMap (leBytes 2)

/-- The default lane map entry of slot `n`: group n mod 16, polarity 0, order 0x4688 (R265). -/
def laneMapDefault (n : Nat) : Nat := n % 16 + 0x4688 * 65536

namespace O

/-- `0x0002:01 hbm_stack_count` (R5). -/
def hbmStackCount : Obj := { index := 0x0002, sub := 1, ty := .u8, access := .cnst, dflt := .num 4 }

/-- `0x3100:01 fig_context_count` (R73). -/
def figContextCount : Obj := { index := 0x3100, sub := 1, ty := .u16, access := .cnst, dflt := .num 16384 }

/-- `0x3100:02 fig_live_count` (R73). -/
def figLiveCount : Obj := { index := 0x3100, sub := 2, ty := .u16, access := .ro }

/-- `0x3100:03 fig_no_context_count` (R73). -/
def figNoContextCount : Obj := { index := 0x3100, sub := 3, ty := .u32, access := .ro }

/-- `0x3100:04 fig_bin_drop_count` (R73). -/
def figBinDropCount : Obj := { index := 0x3100, sub := 4, ty := .u32, access := .ro }

/-- `0x3100:05 fig_bin_peak` (R73). -/
def figBinPeak : Obj := { index := 0x3100, sub := 5, ty := .u8, access := .ro }

/-- `0x3101:01 fig_inspect_id` (R73). -/
def figInspectId : Obj := { index := 0x3101, sub := 1, ty := .u32, access := .rw }

/-- `0x3101:02 fig_inspect_ctx` (R73). -/
def figInspectCtx : Obj := { index := 0x3101, sub := 2, ty := .octs, access := .ro, dflt := .oct [] }

/-- `0x3101:03 fig_inspect_layers` (R73). -/
def figInspectLayers : Obj := { index := 0x3101, sub := 3, ty := .octs, access := .ro, dflt := .oct [] }

/-- `0x3000:01 stream_version` (R110). -/
def streamVersion : Obj := { index := 0x3000, sub := 1, ty := .u8, access := .cnst, dflt := .num 1 }

/-- `0x3000:02 stream_current_id` (R110). -/
def streamCurrentId : Obj := { index := 0x3000, sub := 2, ty := .u32, access := .ro }

/-- `0x3000:03 seg_ok_count` (R110). -/
def segOkCount : Obj := { index := 0x3000, sub := 3, ty := .u32, access := .ro }

/-- `0x3000:04 seg_bad_count` (R110). -/
def segBadCount : Obj := { index := 0x3000, sub := 4, ty := .u32, access := .ro }

/-- `0x3000:05 seg_loss_count` (R110). -/
def segLossCount : Obj := { index := 0x3000, sub := 5, ty := .u32, access := .ro }

/-- `0x3000:06 sec_crc_fail_count` (R110). -/
def secCrcFailCount : Obj := { index := 0x3000, sub := 6, ty := .u32, access := .ro }

/-- `0x3000:07 entropy_error_count` (R110). -/
def entropyErrorCount : Obj := { index := 0x3000, sub := 7, ty := .u32, access := .ro }

/-- `0x3000:08 stale_tile_count` (R110). -/
def staleTileCount : Obj := { index := 0x3000, sub := 8, ty := .u32, access := .ro }

/-- `0x3000:09 sdec_last_status` (R110). -/
def sdecLastStatus : Obj := { index := 0x3000, sub := 9, ty := .u16, access := .ro }

/-- `0x3000:0A last_binned_epoch` (R110). -/
def lastBinnedEpoch : Obj := { index := 0x3000, sub := 10, ty := .u64, access := .ro }

/-- `0x3200:01 rrec_decoder_count` (R130). -/
def rrecDecoderCount : Obj := { index := 0x3200, sub := 1, ty := .u8, access := .cnst, dflt := .num 16 }

/-- `0x3200:02 rrec_pipe_count` (R130). -/
def rrecPipeCount : Obj := { index := 0x3200, sub := 2, ty := .u8, access := .cnst, dflt := .num 4 }

/-- `0x3200:03 relief_slot_count` (R130). -/
def reliefSlotCount : Obj := { index := 0x3200, sub := 3, ty := .u32, access := .ro, dflt := .num 4718592 }

/-- `0x3200:04 relief_slot_free` (R130). -/
def reliefSlotFree : Obj := { index := 0x3200, sub := 4, ty := .u32, access := .ro, dflt := .num 4718592 }

/-- `0x3200:05 relief_slot_retained` (R130). -/
def reliefSlotRetained : Obj := { index := 0x3200, sub := 5, ty := .u32, access := .ro }

/-- `0x3200:06 relief_dir_entries` (R130). -/
def reliefDirEntries : Obj := { index := 0x3200, sub := 6, ty := .u32, access := .ro, dflt := .num 67108864 }

/-- `0x3200:07 relief_dir_free` (R130). -/
def reliefDirFree : Obj := { index := 0x3200, sub := 7, ty := .u32, access := .ro, dflt := .num 67108864 }

/-- `0x3200:08 relief_record_free` (R130). -/
def reliefRecordFree : Obj := { index := 0x3200, sub := 8, ty := .u32, access := .ro, dflt := .num 1048576 }

/-- `0x3200:09 tiles_committed_count` (R130). -/
def tilesCommittedCount : Obj := { index := 0x3200, sub := 9, ty := .u64, access := .ro }

/-- `0x3200:0A tiles_in_flight` (R130). -/
def tilesInFlight : Obj := { index := 0x3200, sub := 10, ty := .u16, access := .ro }

/-- `0x3200:0B cache_full_count` (R130). -/
def cacheFullCount : Obj := { index := 0x3200, sub := 11, ty := .u32, access := .ro }

/-- `0x3200:0C poisoned_tile_count` (R130). -/
def poisonedTileCount : Obj := { index := 0x3200, sub := 12, ty := .u32, access := .ro }

/-- `0x3200:0D late_commit_dropped_count` (R130). -/
def lateCommitDroppedCount : Obj := { index := 0x3200, sub := 13, ty := .u32, access := .ro }

/-- `0x3200:0E rrec_last_status` (R130). -/
def rrecLastStatus : Obj := { index := 0x3200, sub := 14, ty := .u16, access := .ro }

/-- `0x3200:0F resident_ordinal` (R130). -/
def residentOrdinal : Obj := { index := 0x3200, sub := 15, ty := .u64, access := .ro }

/-- `0x4000:01 cal_status_flags` (R157). -/
def calStatusFlags : Obj := { index := 0x4000, sub := 1, ty := .u16, access := .ro }

/-- `0x4000:02 cal_lens_type` (R157). -/
def calLensType : Obj := { index := 0x4000, sub := 2, ty := .u8, access := .ro }

/-- `0x4000:03 cal_tan_u_max` (R157). -/
def calTanUMax : Obj := { index := 0x4000, sub := 3, ty := .u32, access := .ro }

/-- `0x4000:04 cal_tan_v_max` (R157). -/
def calTanVMax : Obj := { index := 0x4000, sub := 4, ty := .u32, access := .ro }

/-- `0x4000:05 cal_temp_latched` (R157). -/
def calTempLatched : Obj := { index := 0x4000, sub := 5, ty := .i16, access := .ro }

/-- `0x4000:06 cal_temp_measured` (R157). -/
def calTempMeasured : Obj := { index := 0x4000, sub := 6, ty := .i16, access := .ro }

/-- `0x4000:07 cal_ramp_step` (R157). -/
def calRampStep : Obj := { index := 0x4000, sub := 7, ty := .u8, access := .ro }

/-- `0x4100:01 bronze_global` (R157). -/
def bronzeGlobal : Obj := { index := 0x4100, sub := 1, ty := .octs, access := .ro, rng := .len 256, dflt := .oct [] }

/-- `0x4100:02 bronze_lattice` (R157). -/
def bronzeLattice : Obj := { index := 0x4100, sub := 2, ty := .domain, access := .ro, rng := .len 4194304, dflt := .oct [] }

/-- `0x4100:03 bronze_transfer` (R157). -/
def bronzeTransfer : Obj := { index := 0x4100, sub := 3, ty := .domain, access := .ro, rng := .len 12288, dflt := .oct [] }

/-- `0x4200:01 patina_lattice` (R157). -/
def patinaLattice : Obj := { index := 0x4200, sub := 1, ty := .domain, access := .rws, rng := .len 4194304, dflt := .oct [] }

/-- `0x4200:02 patina_ramp_frames` (R157). -/
def patinaRampFrames : Obj := { index := 0x4200, sub := 2, ty := .u8, access := .rws, rng := .between 1 255, dflt := .num 30 }

/-- `0x4200:03 view_distance` (R157). -/
def viewDistance : Obj := { index := 0x4200, sub := 3, ty := .u32, access := .rws, dflt := .num 12288000 }

/-- `0x4200:04 view_height` (R157). -/
def viewHeight : Obj := { index := 0x4200, sub := 4, ty := .i32, access := .rws }

/-- `0x4200:05 nominal_pitch` (R157). -/
def nominalPitch : Obj := { index := 0x4200, sub := 5, ty := .u32, access := .rws, dflt := .num 1048576 }

/-- `0x4201:01 patina_store` (R157). -/
def patinaStore : Obj := { index := 0x4201, sub := 1, ty := .u8, access := .wo, rng := .between 1 1 }

/-- `0x4201:02 patina_store_state` (R157). -/
def patinaStoreState : Obj := { index := 0x4201, sub := 2, ty := .u8, access := .ro }

/-- `0x4201:03 patina_generation` (R157). -/
def patinaGeneration : Obj := { index := 0x4201, sub := 3, ty := .u32, access := .ro }

/-- `0x4300:01 capture_enable` (R157). -/
def captureEnable : Obj := { index := 0x4300, sub := 1, ty := .bool, access := .rw }

/-- `0x4300:02 capture_state` (R157). -/
def captureState : Obj := { index := 0x4300, sub := 2, ty := .u8, access := .ro }

/-- `0x4300:03 capture_tf_num` (R157). -/
def captureTfNum : Obj := { index := 0x4300, sub := 3, ty := .u32, access := .rw }

/-- `0x4300:04 capture_tf_den` (R157). -/
def captureTfDen : Obj := { index := 0x4300, sub := 4, ty := .u32, access := .rw }

/-- `0x4300:05 capture_step` (R157). -/
def captureStep : Obj := { index := 0x4300, sub := 5, ty := .octs, access := .wo, rng := .len 16, dflt := .oct [] }

/-- `0x4300:06 capture_report` (R157). -/
def captureReport : Obj := { index := 0x4300, sub := 6, ty := .octs, access := .wo, rng := .len 8, dflt := .oct [] }

/-- `0x4300:07 capture_result` (R157). -/
def captureResult : Obj := { index := 0x4300, sub := 7, ty := .u16, access := .ro }

/-- `0x4300:08 capture_run_id` (R157). -/
def captureRunId : Obj := { index := 0x4300, sub := 8, ty := .u8, access := .ro }

/-- `0x4300:09 capture_confirmed` (R157). -/
def captureConfirmed : Obj := { index := 0x4300, sub := 9, ty := .u16, access := .ro }

/-- `0x4300:0A capture_tag_x` (R157). -/
def captureTagX : Obj := { index := 0x4300, sub := 10, ty := .u16, access := .rw }

/-- `0x4300:0B capture_tag_y` (R157). -/
def captureTagY : Obj := { index := 0x4300, sub := 11, ty := .u16, access := .rw }

/-- `0x4300:0C capture_tag_cell` (R157). -/
def captureTagCell : Obj := { index := 0x4300, sub := 12, ty := .u8, access := .rw, rng := .between 4 255, dflt := .num 16 }

/-- `0x4300:0D capture_timeout` (R157). -/
def captureTimeout : Obj := { index := 0x4300, sub := 13, ty := .u16, access := .rw, rng := .between 100 60000, dflt := .num 5000 }

/-- `0x4300:0E capture_cause` (R157). -/
def captureCause : Obj := { index := 0x4300, sub := 14, ty := .u16, access := .ro }

/-- `0x3300:01 rse_cluster_count` (R184). -/
def rseClusterCount : Obj := { index := 0x3300, sub := 1, ty := .u8, access := .cnst, dflt := .num 64 }

/-- `0x3300:02 rse_lanes_per_cluster` (R184). -/
def rseLanesPerCluster : Obj := { index := 0x3300, sub := 2, ty := .u8, access := .cnst, dflt := .num 16 }

/-- `0x3300:03 rse_islands_enabled` (R184). -/
def rseIslandsEnabled : Obj := { index := 0x3300, sub := 3, ty := .u8, access := .rws, rng := .between 1 8, dflt := .num 8 }

/-- `0x3300:04 rse_store_slots` (R184). -/
def rseStoreSlots : Obj := { index := 0x3300, sub := 4, ty := .u8, access := .cnst, dflt := .num 96 }

/-- `0x3300:05 rse_unit_tile_limit` (R184). -/
def rseUnitTileLimit : Obj := { index := 0x3300, sub := 5, ty := .u8, access := .cnst, dflt := .num 48 }

/-- `0x3300:06 rse_hit_buffer` (R184). -/
def rseHitBuffer : Obj := { index := 0x3300, sub := 6, ty := .u8, access := .cnst, dflt := .num 32 }

/-- `0x3300:07 rse_steps_last` (R184). -/
def rseStepsLast : Obj := { index := 0x3300, sub := 7, ty := .u64, access := .ro }

/-- `0x3300:08 rse_step_bound_last` (R184). -/
def rseStepBoundLast : Obj := { index := 0x3300, sub := 8, ty := .u64, access := .ro }

/-- `0x3300:09 rse_render_time_last` (R184). -/
def rseRenderTimeLast : Obj := { index := 0x3300, sub := 9, ty := .u32, access := .ro }

/-- `0x3300:0A rse_split_bins_last` (R184). -/
def rseSplitBinsLast : Obj := { index := 0x3300, sub := 10, ty := .u16, access := .ro }

/-- `0x3300:0B rse_hit_overflow_count` (R184). -/
def rseHitOverflowCount : Obj := { index := 0x3300, sub := 11, ty := .u32, access := .ro }

/-- `0x3300:0C rse_overrun_count` (R184). -/
def rseOverrunCount : Obj := { index := 0x3300, sub := 12, ty := .u32, access := .ro }

/-- `0x3300:0D rse_store_ecc_count` (R184). -/
def rseStoreEccCount : Obj := { index := 0x3300, sub := 13, ty := .u32, access := .ro }

/-- `0x3300:0E rse_throttle_level` (R184). -/
def rseThrottleLevel : Obj := { index := 0x3300, sub := 14, ty := .u8, access := .ro }

/-- `0x3300:0F rse_last_status` (R184). -/
def rseLastStatus : Obj := { index := 0x3300, sub := 15, ty := .u16, access := .ro }

/-- `0x3400:01 adm_fixed_overhead` (R200). -/
def admFixedOverhead : Obj := { index := 0x3400, sub := 1, ty := .u32, access := .cnst, dflt := .num 8192 }

/-- `0x3400:02 adm_stage_rate` (R200). -/
def admStageRate : Obj := { index := 0x3400, sub := 2, ty := .u16, access := .cnst, dflt := .num 2560 }

/-- `0x3400:03 adm_derate_normal` (R200). -/
def admDerateNormal : Obj := { index := 0x3400, sub := 3, ty := .u16, access := .cnst, dflt := .num 895 }

/-- `0x3400:04 adm_derate_hot` (R200). -/
def admDerateHot : Obj := { index := 0x3400, sub := 4, ty := .u16, access := .cnst, dflt := .num 790 }

/-- `0x3400:05 adm_derate_now` (R200). -/
def admDerateNow : Obj := { index := 0x3400, sub := 5, ty := .u16, access := .ro, dflt := .num 895 }

/-- `0x3400:06 adm_throttle_now` (R200). -/
def admThrottleNow : Obj := { index := 0x3400, sub := 6, ty := .u8, access := .ro }

/-- `0x3400:07 adm_admitted_count` (R200). -/
def admAdmittedCount : Obj := { index := 0x3400, sub := 7, ty := .u64, access := .ro }

/-- `0x3400:08 adm_refused_count` (R200). -/
def admRefusedCount : Obj := { index := 0x3400, sub := 8, ty := .u32, access := .ro }

/-- `0x3400:09 adm_last_status` (R200). -/
def admLastStatus : Obj := { index := 0x3400, sub := 9, ty := .u16, access := .ro }

/-- `0x3400:0A adm_last_cost` (R200). -/
def admLastCost : Obj := { index := 0x3400, sub := 10, ty := .u32, access := .ro }

/-- `0x3400:0B adm_last_budget` (R200). -/
def admLastBudget : Obj := { index := 0x3400, sub := 11, ty := .u32, access := .ro }

/-- `0x3400:0C adm_broken_count` (R200). -/
def admBrokenCount : Obj := { index := 0x3400, sub := 12, ty := .u32, access := .ro }

/-- `0x3400:0D adm_promise_state` (R200). -/
def admPromiseState : Obj := { index := 0x3400, sub := 13, ty := .u8, access := .ro }

/-- `0x3400:0E adm_suspend_causes` (R200). -/
def admSuspendCauses : Obj := { index := 0x3400, sub := 14, ty := .u8, access := .ro }

/-- `0x3400:0F adm_suspend_count` (R200). -/
def admSuspendCount : Obj := { index := 0x3400, sub := 15, ty := .u32, access := .ro }

/-- `0x3400:10 adm_last_bad_bin` (R200). -/
def admLastBadBin : Obj := { index := 0x3400, sub := 16, ty := .u16, access := .ro, dflt := .num 65535 }

/-- `0xA500:01 mem_state` (R221). -/
def memState : Obj := { index := 0xA500, sub := 1, ty := .u8, access := .ro }

/-- `0xA500:02 mem_capacity` (R221). -/
def memCapacity : Obj := { index := 0xA500, sub := 2, ty := .u64, access := .cnst, dflt := .num 96000000000 }

/-- `0xA500:03 mem_pc_count` (R221). -/
def memPcCount : Obj := { index := 0xA500, sub := 3, ty := .u8, access := .cnst, dflt := .num 128 }

/-- `0xA500:04 mem_hot_refresh_mask` (R221). -/
def memHotRefreshMask : Obj := { index := 0xA500, sub := 4, ty := .u8, access := .ro }

/-- `0xA500:05 mem_last_ue_addr` (R221). -/
def memLastUeAddr : Obj := { index := 0xA500, sub := 5, ty := .u64, access := .ro }

/-- `0xA500:06 mem_last_ue_class` (R221). -/
def memLastUeClass : Obj := { index := 0xA500, sub := 6, ty := .u8, access := .ro }

/-- `0xA500:07 mem_scrub_passes` (R221). -/
def memScrubPasses : Obj := { index := 0xA500, sub := 7, ty := .u32, access := .ro }

/-- `0xA500:08 mem_min_tolerance` (R221). -/
def memMinTolerance : Obj := { index := 0xA500, sub := 8, ty := .u32, access := .ro, dflt := .num 4294967295 }

/-- `0xA500:09 mem_aperture_refused_count` (R221). -/
def memApertureRefusedCount : Obj := { index := 0xA500, sub := 9, ty := .u32, access := .ro }

/-- `0xA500:0A mem_training_time` (R221). -/
def memTrainingTime : Obj := { index := 0xA500, sub := 10, ty := .u32, access := .ro }

/-- `0xA500:0B mem_last_status` (R221). -/
def memLastStatus : Obj := { index := 0xA500, sub := 11, ty := .u16, access := .ro }

/-- `0xA501:01–04 mem_stack_temp` (R221). -/
def memStackTemp (n : Nat) : Obj := { index := 0xA501, sub := n % 4 + 1, ty := .i16, access := .ro }

/-- `0xA502:01–04 mem_ecc_corrected` (R221). -/
def memEccCorrected (n : Nat) : Obj := { index := 0xA502, sub := n % 4 + 1, ty := .u32, access := .ro }

/-- `0xA503:01–04 mem_ecc_uncorrectable` (R221). -/
def memEccUncorrectable (n : Nat) : Obj := { index := 0xA503, sub := n % 4 + 1, ty := .u32, access := .ro }

/-- `0x2100:01 tf_num` (R225). -/
def tfNum : Obj := { index := 0x2100, sub := 1, ty := .u32, access := .rws, rng := .between 1 4294967295, dflt := .num 1 }

/-- `0x2100:02 tf_den` (R225). -/
def tfDen : Obj := { index := 0x2100, sub := 2, ty := .u32, access := .rws, rng := .between 1 4294967295, dflt := .num 60 }

/-- `0x2100:03 bits_per_subpixel` (R225). -/
def bitsPerSubpixel : Obj := { index := 0x2100, sub := 3, ty := .u8, access := .rws, rng := .oneOf [8, 10, 12], dflt := .num 12 }

/-- `0x2100:04 head_count` (R225). -/
def headCount : Obj := { index := 0x2100, sub := 4, ty := .u8, access := .rws, rng := .between 1 2, dflt := .num 2 }

/-- `0x2104:01 head_h_active` (R225). -/
def headHActive : Obj := { index := 0x2104, sub := 1, ty := .u16, access := .rws, dflt := .num 15360 }

/-- `0x2104:02 head_h_total` (R225). -/
def headHTotal : Obj := { index := 0x2104, sub := 2, ty := .u16, access := .rws, dflt := .num 15600 }

/-- `0x2104:03 head_v_active` (R225). -/
def headVActive : Obj := { index := 0x2104, sub := 3, ty := .u16, access := .rws, dflt := .num 17280 }

/-- `0x2104:04 head_v_total` (R225). -/
def headVTotal : Obj := { index := 0x2104, sub := 4, ty := .u16, access := .rws, dflt := .num 17600 }

/-- `0x2104:05 head_h_front` (R225). -/
def headHFront : Obj := { index := 0x2104, sub := 5, ty := .u16, access := .rws, dflt := .num 64 }

/-- `0x2104:06 head_h_sync` (R225). -/
def headHSync : Obj := { index := 0x2104, sub := 6, ty := .u16, access := .rws, dflt := .num 64 }

/-- `0x2104:07 head_h_back` (R225). -/
def headHBack : Obj := { index := 0x2104, sub := 7, ty := .u16, access := .rws, dflt := .num 112 }

/-- `0x2104:08 head_v_front` (R225). -/
def headVFront : Obj := { index := 0x2104, sub := 8, ty := .u16, access := .rws, dflt := .num 96 }

/-- `0x2104:09 head_v_sync` (R225). -/
def headVSync : Obj := { index := 0x2104, sub := 9, ty := .u16, access := .rws, dflt := .num 16 }

/-- `0x2104:0A head_v_back` (R225). -/
def headVBack : Obj := { index := 0x2104, sub := 10, ty := .u16, access := .rws, dflt := .num 208 }

/-- `0x2110:01 head_a_slot_mask` (R235). -/
def headASlotMask : Obj := { index := 0x2110, sub := 1, ty := .u16, access := .rws, dflt := .num 65535 }

/-- `0x2110:02 head_b_slot_mask` (R235). -/
def headBSlotMask : Obj := { index := 0x2110, sub := 2, ty := .u16, access := .rws, dflt := .num 65535 }

/-- `0x2000:01 head_a_enable` (R241). -/
def headAEnable : Obj := { index := 0x2000, sub := 1, ty := .bool, access := .rw }

/-- `0x2000:02 head_a_state` (R241). -/
def headAState : Obj := { index := 0x2000, sub := 2, ty := .u8, access := .ro }

/-- `0x2000:03 head_b_enable` (R241). -/
def headBEnable : Obj := { index := 0x2000, sub := 3, ty := .bool, access := .rw }

/-- `0x2000:04 head_b_state` (R241). -/
def headBState : Obj := { index := 0x2000, sub := 4, ty := .u8, access := .ro }

/-- `0x2105:01 scan_group_clock` (R241). -/
def scanGroupClock : Obj := { index := 0x2105, sub := 1, ty := .u32, access := .ro, dflt := .num 514800000 }

/-- `0x2105:02 scan_line_period` (R241). -/
def scanLinePeriod : Obj := { index := 0x2105, sub := 2, ty := .u32, access := .ro, dflt := .num 946970 }

/-- `0x2105:03 head_line_bytes` (R241). -/
def headLineBytes : Obj := { index := 0x2105, sub := 3, ty := .u32, access := .ro, dflt := .num 69120 }

/-- `0x2105:04 frame_line_pitch` (R241). -/
def frameLinePitch : Obj := { index := 0x2105, sub := 4, ty := .u32, access := .ro, dflt := .num 138240 }

/-- `0x2120:01 scan_phase_error` (R241). -/
def scanPhaseError : Obj := { index := 0x2120, sub := 1, ty := .i32, access := .ro }

/-- `0x2120:02 scan_lock_state` (R241). -/
def scanLockState : Obj := { index := 0x2120, sub := 2, ty := .u8, access := .ro }

/-- `0x2120:03 scan_frame_number` (R241). -/
def scanFrameNumber : Obj := { index := 0x2120, sub := 3, ty := .u64, access := .ro }

/-- `0x2120:04 scan_underrun_count` (R241). -/
def scanUnderrunCount : Obj := { index := 0x2120, sub := 4, ty := .u32, access := .ro }

/-- `0x2120:05 scan_resync_count` (R241). -/
def scanResyncCount : Obj := { index := 0x2120, sub := 5, ty := .u32, access := .ro }

/-- `0x2120:06 scan_retrain_skipped_count` (R241). -/
def scanRetrainSkippedCount : Obj := { index := 0x2120, sub := 6, ty := .u32, access := .ro }

/-- `0x2120:07 scan_commit_ignored_count` (R241). -/
def scanCommitIgnoredCount : Obj := { index := 0x2120, sub := 7, ty := .u32, access := .ro }

/-- `0x2120:08 scan_last_status` (R241). -/
def scanLastStatus : Obj := { index := 0x2120, sub := 8, ty := .u16, access := .ro }

/-- `0x5400:01 drive_curves` (R262). -/
def driveCurves : Obj := { index := 0x5400, sub := 1, ty := .domain, access := .rws, rng := .len 49200, dflt := .oct [] }

/-- `0x5400:02 drive_band_thresholds` (R262). -/
def driveBandThresholds : Obj := { index := 0x5400, sub := 2, ty := .octs, access := .rws, rng := .rising16 7, dflt := .oct [160#8, 0#8, 64#8, 1#8, 224#8, 1#8, 128#8, 2#8, 32#8, 3#8, 192#8, 3#8, 96#8, 4#8] }

/-- `0x5400:03 drive_band_default` (R262). -/
def driveBandDefault : Obj := { index := 0x5400, sub := 3, ty := .u8, access := .rws, rng := .between 0 7, dflt := .num 2 }

/-- `0x5401:01 uniformity_source` (R262). -/
def uniformitySource : Obj := { index := 0x5401, sub := 1, ty := .u8, access := .rws, rng := .between 0 1 }

/-- `0x5402:01–20 uniformity_host` (R262). -/
def uniformityHost (n : Nat) : Obj := { index := 0x5402, sub := n % 32 + 1, ty := .octs, access := .rws, rng := .len 6, dflt := .oct [0#8, 64#8, 0#8, 64#8, 0#8, 64#8] }

/-- `0x5403:01–20 uniformity_partner` (R262). -/
def uniformityPartner (n : Nat) : Obj := { index := 0x5403, sub := n % 32 + 1, ty := .octs, access := .ro, dflt := .oct [] }

/-- `0x5404:01–20 drive_band_now` (R262). -/
def driveBandNow (n : Nat) : Obj := { index := 0x5404, sub := n % 32 + 1, ty := .u8, access := .ro, dflt := .num 2 }

/-- `0x5405:01 drive_gain_now` (R262). -/
def driveGainNow : Obj := { index := 0x5405, sub := 1, ty := .u32, access := .ro, dflt := .num 65536 }

/-- `0x5405:02 drive_mean_last` (R262). -/
def driveMeanLast : Obj := { index := 0x5405, sub := 2, ty := .u16, access := .ro }

/-- `0x5405:03 drive_backstop_count` (R262). -/
def driveBackstopCount : Obj := { index := 0x5405, sub := 3, ty := .u32, access := .ro }

/-- `0x5405:04 line_crc_fail_count` (R262). -/
def lineCrcFailCount : Obj := { index := 0x5405, sub := 4, ty := .u32, access := .ro }

/-- `0x5405:05 line_zeroed_count` (R262). -/
def lineZeroedCount : Obj := { index := 0x5405, sub := 5, ty := .u32, access := .ro }

/-- `0x5405:06 partner_crc_count` (R262). -/
def partnerCrcCount : Obj := { index := 0x5405, sub := 6, ty := .u32, access := .ro }

/-- `0x5405:07 pdp_last_status` (R262). -/
def pdpLastStatus : Obj := { index := 0x5405, sub := 7, ty := .u16, access := .ro }

/-- `0x6200:01 panel_power_enable` (R262). -/
def panelPowerEnable : Obj := { index := 0x6200, sub := 1, ty := .bool, access := .rw }

/-- `0x6200:02 panel_power_state` (R262). -/
def panelPowerState : Obj := { index := 0x6200, sub := 2, ty := .u8, access := .ro }

/-- `0x6200:03 rail_pg_timeout` (R262). -/
def railPgTimeout : Obj := { index := 0x6200, sub := 3, ty := .u16, access := .rw, rng := .between 1 1000, dflt := .num 20 }

/-- `0x6200:04 rail_step_delay` (R262). -/
def railStepDelay : Obj := { index := 0x6200, sub := 4, ty := .u16, access := .rw, rng := .between 0 1000, dflt := .num 2 }

/-- `0x6200:05 rail_off_delay` (R262). -/
def railOffDelay : Obj := { index := 0x6200, sub := 5, ty := .u16, access := .rw, rng := .between 0 1000, dflt := .num 5 }

/-- `0x6200:06 rail_pg_status` (R262). -/
def railPgStatus : Obj := { index := 0x6200, sub := 6, ty := .u8, access := .ro }

/-- `0x6200:07 pwr_holdup_state` (R262). -/
def pwrHoldupState : Obj := { index := 0x6200, sub := 7, ty := .u8, access := .ro }

/-- `0x6200:08 pwr_holdup_count` (R262). -/
def pwrHoldupCount : Obj := { index := 0x6200, sub := 8, ty := .u32, access := .ro }

/-- `0x6200:09 pwr_last_status` (R262). -/
def pwrLastStatus : Obj := { index := 0x6200, sub := 9, ty := .u16, access := .ro }

/-- `0x5000:01 link_lane_rate` (R292). -/
def linkLaneRate : Obj := { index := 0x5000, sub := 1, ty := .u8, access := .rws, rng := .between 0 1 }

/-- `0x5000:02 link_tx_amplitude` (R292). -/
def linkTxAmplitude : Obj := { index := 0x5000, sub := 2, ty := .u16, access := .rws, rng := .between 400 1000, dflt := .num 800 }

/-- `0x5000:03 link_telemetry_period` (R292). -/
def linkTelemetryPeriod : Obj := { index := 0x5000, sub := 3, ty := .u16, access := .rws, rng := .between 10 1000, dflt := .num 100 }

/-- `0x5000:04 link_spare_switch_count` (R292). -/
def linkSpareSwitchCount : Obj := { index := 0x5000, sub := 4, ty := .u32, access := .ro }

/-- `0x5000:05 link_retry_count` (R292). -/
def linkRetryCount : Obj := { index := 0x5000, sub := 5, ty := .u32, access := .ro }

/-- `0x5000:06 link_last_status` (R292). -/
def linkLastStatus : Obj := { index := 0x5000, sub := 6, ty := .u16, access := .ro }

/-- `0x5001:01–20 link_lane_map` (R292). -/
def linkLaneMap (n : Nat) : Obj := { index := 0x5001, sub := n % 32 + 1, ty := .octs, access := .rws, rng := .len 4, dflt := .oct (leBytes 4 (laneMapDefault n)) }

/-- `0x5002:01–20 link_slot_region` (R292). -/
def linkSlotRegion (n : Nat) : Obj := { index := 0x5002, sub := n % 32 + 1, ty := .octs, access := .rws, rng := .len 4, dflt := .oct (leBytes 2 (n % 16 * 960) ++ leBytes 2 960) }

/-- `0x5003:01–20 link_slot_state` (R292). -/
def linkSlotState (n : Nat) : Obj := { index := 0x5003, sub := n % 32 + 1, ty := .u8, access := .ro }

/-- `0x5004:01–20 partner_descriptor` (R292). -/
def partnerDescriptor (n : Nat) : Obj := { index := 0x5004, sub := n % 32 + 1, ty := .octs, access := .ro, dflt := .oct [] }

/-- `0x5005:01–20 partner_telemetry` (R292). -/
def partnerTelemetry (n : Nat) : Obj := { index := 0x5005, sub := n % 32 + 1, ty := .octs, access := .ro, dflt := .oct [] }

/-- `0x5006:01–A0 link_lane_state` (R292). -/
def linkLaneState (n : Nat) : Obj := { index := 0x5006, sub := n % 160 + 1, ty := .u8, access := .ro }

/-- `0x5007:01–A0 link_lane_setting` (R292). -/
def linkLaneSetting (n : Nat) : Obj := { index := 0x5007, sub := n % 160 + 1, ty := .u16, access := .ro }

/-- `0x8000:01 overlay_enable` (R311). -/
def overlayEnable : Obj := { index := 0x8000, sub := 1, ty := .bool, access := .rw }

/-- `0x8000:02 overlay_state` (R311). -/
def overlayState : Obj := { index := 0x8000, sub := 2, ty := .u8, access := .ro }

/-- `0x8000:03 overlay_width` (R311). -/
def overlayWidth : Obj := { index := 0x8000, sub := 3, ty := .u16, access := .rw, rng := .multiple 32 32 7680, dflt := .num 7680 }

/-- `0x8000:04 overlay_height` (R311). -/
def overlayHeight : Obj := { index := 0x8000, sub := 4, ty := .u16, access := .rw, rng := .multiple 32 32 4320, dflt := .num 4320 }

/-- `0x8000:05 rasp_ring_size` (R311). -/
def raspRingSize : Obj := { index := 0x8000, sub := 5, ty := .u32, access := .rw, rng := .pow2 4096 1048576, dflt := .num 1048576 }

/-- `0x8000:06 overlay_lut` (R311). -/
def overlayLut : Obj := { index := 0x8000, sub := 6, ty := .octs, access := .rws, rng := .words16 256 16383, dflt := .oct srgbLut }

/-- `0x8000:07 overlay_shown` (R311). -/
def overlayShown : Obj := { index := 0x8000, sub := 7, ty := .u8, access := .ro, dflt := .num 1 }

/-- `0x8000:08 rasp_published_epoch` (R311). -/
def raspPublishedEpoch : Obj := { index := 0x8000, sub := 8, ty := .u64, access := .ro }

/-- `0x8000:09 rasp_cmd_count` (R311). -/
def raspCmdCount : Obj := { index := 0x8000, sub := 9, ty := .u64, access := .ro }

/-- `0x8000:0A rasp_refused_count` (R311). -/
def raspRefusedCount : Obj := { index := 0x8000, sub := 10, ty := .u32, access := .ro }

/-- `0x8000:0B rasp_last_status` (R311). -/
def raspLastStatus : Obj := { index := 0x8000, sub := 11, ty := .u16, access := .ro }

/-- `0x0001:01 pcie_vendor_id` (R337). -/
def pcieVendorId : Obj := { index := 0x0001, sub := 1, ty := .u16, access := .cnst, dflt := .num 8094 }

/-- `0x0001:02 pcie_device_id` (R337). -/
def pcieDeviceId : Obj := { index := 0x0001, sub := 2, ty := .u16, access := .cnst, dflt := .num 2468 }

/-- `0x0001:03 pcie_link_speed` (R337). -/
def pcieLinkSpeed : Obj := { index := 0x0001, sub := 3, ty := .u8, access := .ro }

/-- `0x0001:04 pcie_link_width` (R337). -/
def pcieLinkWidth : Obj := { index := 0x0001, sub := 4, ty := .u8, access := .ro }

/-- `0x3001:01 stream_source` (R337). -/
def streamSource : Obj := { index := 0x3001, sub := 1, ty := .u8, access := .rw, rng := .between 0 3 }

/-- `0xA600:01 host_watchdog_epochs` (R337). -/
def hostWatchdogEpochs : Obj := { index := 0xA600, sub := 1, ty := .u8, access := .rw, rng := .zeroOr 2 255, dflt := .num 2 }

/-- `0xA600:02 host_state` (R337). -/
def hostState : Obj := { index := 0xA600, sub := 2, ty := .u8, access := .ro }

/-- `0xA600:03 seg_copied_count` (R337). -/
def segCopiedCount : Obj := { index := 0xA600, sub := 3, ty := .u64, access := .ro }

/-- `0xA600:04 seg_copied_bytes` (R337). -/
def segCopiedBytes : Obj := { index := 0xA600, sub := 4, ty := .u64, access := .ro }

/-- `0xA600:05 dma_error_count` (R337). -/
def dmaErrorCount : Obj := { index := 0xA600, sub := 5, ty := .u32, access := .ro }

/-- `0xA600:06 cpl_lost_count` (R337). -/
def cplLostCount : Obj := { index := 0xA600, sub := 6, ty := .u32, access := .ro }

/-- `0xA600:07 host_silent_count` (R337). -/
def hostSilentCount : Obj := { index := 0xA600, sub := 7, ty := .u32, access := .ro }

/-- `0xA600:08 hif_last_status` (R337). -/
def hifLastStatus : Obj := { index := 0xA600, sub := 8, ty := .u16, access := .ro }

/-- `0x110p:01 port_enable` (R365). -/
def portEnable (p : Nat) : Obj := { index := 0x1100 + p % 3, sub := 1, ty := .bool, access := .rw, dflt := .num (if p = 0 then 1 else 0) }

/-- `0x110p:02 port_state` (R365). -/
def portState (p : Nat) : Obj := { index := 0x1100 + p % 3, sub := 2, ty := .u8, access := .ro }

/-- `0x110p:03 port_link` (R365). -/
def portLink (p : Nat) : Obj := { index := 0x1100 + p % 3, sub := 3, ty := .u8, access := .ro }

/-- `0x110p:04 port_mtu` (R365). -/
def portMtu (p : Nat) : Obj := { index := 0x1100 + p % 3, sub := 4, ty := .u16, access := .rw, rng := .between 576 (if p = 0 then 1500 else 9000), dflt := .num 1500 }

/-- `0x110p:05 port_vlan` (R365). -/
def portVlan (p : Nat) : Obj := { index := 0x1100 + p % 3, sub := 5, ty := .u16, access := .rw, rng := .between 0 4094 }

/-- `0x110p:06 ipv4_mode` (R365). -/
def ipv4Mode (p : Nat) : Obj := { index := 0x1100 + p % 3, sub := 6, ty := .u8, access := .rw, rng := .between 0 2, dflt := .num (if p = 0 then 2 else 0) }

/-- `0x110p:07 ipv4_addr` (R365). -/
def ipv4Addr (p : Nat) : Obj := { index := 0x1100 + p % 3, sub := 7, ty := .u32, access := .rw }

/-- `0x110p:08 ipv4_prefix` (R365). -/
def ipv4Prefix (p : Nat) : Obj := { index := 0x1100 + p % 3, sub := 8, ty := .u8, access := .rw, rng := .between 1 31, dflt := .num 24 }

/-- `0x110p:09 ipv4_gateway` (R365). -/
def ipv4Gateway (p : Nat) : Obj := { index := 0x1100 + p % 3, sub := 9, ty := .u32, access := .rw }

/-- `0x110p:0A ipv6_enable` (R365). -/
def ipv6Enable (p : Nat) : Obj := { index := 0x1100 + p % 3, sub := 10, ty := .bool, access := .rw, dflt := .num 1 }

/-- `0x110p:0B ipv6_addr` (R365). -/
def ipv6Addr (p : Nat) : Obj := { index := 0x1100 + p % 3, sub := 11, ty := .octs, access := .rw, rng := .len 16, dflt := .oct (zeros 16) }

/-- `0x110p:0C port_ext_rx_latency` (R365). -/
def portExtRxLatency (p : Nat) : Obj := { index := 0x1100 + p % 3, sub := 12, ty := .i32, access := .rw }

/-- `0x110p:0D port_ext_tx_latency` (R365). -/
def portExtTxLatency (p : Nat) : Obj := { index := 0x1100 + p % 3, sub := 13, ty := .i32, access := .rw }

/-- `0x110p:0E asirek_groups` (R365). -/
def asirekGroups (p : Nat) : Obj := { index := 0x1100 + p % 3, sub := 14, ty := .octs, access := .rw, rng := .lens [0, 16, 32, 48, 64], dflt := .oct [] }

/-- `0x110p:0F port_rx_frames` (R365). -/
def portRxFrames (p : Nat) : Obj := { index := 0x1100 + p % 3, sub := 15, ty := .u64, access := .ro }

/-- `0x110p:10 port_tx_frames` (R365). -/
def portTxFrames (p : Nat) : Obj := { index := 0x1100 + p % 3, sub := 16, ty := .u64, access := .ro }

/-- `0x110p:11 port_rx_dropped` (R365). -/
def portRxDropped (p : Nat) : Obj := { index := 0x1100 + p % 3, sub := 17, ty := .u32, access := .ro }

/-- `0x110p:12 port_asirek_discard_count` (R365). -/
def portAsirekDiscardCount (p : Nat) : Obj := { index := 0x1100 + p % 3, sub := 18, ty := .u32, access := .ro }

/-- `0x110p:13 port_last_status` (R365). -/
def portLastStatus (p : Nat) : Obj := { index := 0x1100 + p % 3, sub := 19, ty := .u16, access := .ro }

/-- `0x120d:01 ptp_enable` (R366). -/
def ptpEnable (p : Nat) : Obj := { index := 0x1200 + p % 2, sub := 1, ty := .bool, access := .rw }

/-- `0x120d:02 ptp_port` (R366). -/
def ptpPort (p : Nat) : Obj := { index := 0x1200 + p % 2, sub := 2, ty := .u8, access := .rw, rng := .between 0 2 }

/-- `0x120d:03 ptp_profile` (R366). -/
def ptpProfile (p : Nat) : Obj := { index := 0x1200 + p % 2, sub := 3, ty := .u8, access := .rw, rng := .between 0 2 }

/-- `0x120d:04 ptp_domain_number` (R366). -/
def ptpDomainNumber (p : Nat) : Obj := { index := 0x1200 + p % 2, sub := 4, ty := .u8, access := .rw }

/-- `0x120d:05 ptp_transport` (R366). -/
def ptpTransport (p : Nat) : Obj := { index := 0x1200 + p % 2, sub := 5, ty := .u8, access := .rw, rng := .between 0 2, dflt := .num 1 }

/-- `0x120d:06 ptp_delay_mech` (R366). -/
def ptpDelayMech (p : Nat) : Obj := { index := 0x1200 + p % 2, sub := 6, ty := .u8, access := .rw, rng := .between 0 1 }

/-- `0x120d:07 ptp_delay_req_unicast` (R366). -/
def ptpDelayReqUnicast (p : Nat) : Obj := { index := 0x1200 + p % 2, sub := 7, ty := .bool, access := .rw }

/-- `0x120d:08 ptp_asymmetry` (R366). -/
def ptpAsymmetry (p : Nat) : Obj := { index := 0x1200 + p % 2, sub := 8, ty := .i32, access := .rw }

/-- `0x120d:09 ptp_state` (R366). -/
def ptpState (p : Nat) : Obj := { index := 0x1200 + p % 2, sub := 9, ty := .u8, access := .ro }

/-- `0x120d:0A ptp_offset` (R366). -/
def ptpOffset (p : Nat) : Obj := { index := 0x1200 + p % 2, sub := 10, ty := .i64, access := .ro }

/-- `0x120d:0B ptp_path_delay` (R366). -/
def ptpPathDelay (p : Nat) : Obj := { index := 0x1200 + p % 2, sub := 11, ty := .u32, access := .ro }

/-- `0x120d:0C ptp_rate` (R366). -/
def ptpRate (p : Nat) : Obj := { index := 0x1200 + p % 2, sub := 12, ty := .i64, access := .ro }

/-- `0x120d:0D ptp_master_port` (R366). -/
def ptpMasterPort (p : Nat) : Obj := { index := 0x1200 + p % 2, sub := 13, ty := .octs, access := .ro, dflt := .oct (zeros 10) }

/-- `0x120d:0E ptp_gm_identity` (R366). -/
def ptpGmIdentity (p : Nat) : Obj := { index := 0x1200 + p % 2, sub := 14, ty := .octs, access := .ro, dflt := .oct (zeros 8) }

/-- `0x120d:0F ptp_lost_count` (R366). -/
def ptpLostCount (p : Nat) : Obj := { index := 0x1200 + p % 2, sub := 15, ty := .u32, access := .ro }

/-- `0x1300:01 time_state` (R367). -/
def timeState : Obj := { index := 0x1300, sub := 1, ty := .u8, access := .ro }

/-- `0x1300:02 time_selected_domain` (R367). -/
def timeSelectedDomain : Obj := { index := 0x1300, sub := 2, ty := .u8, access := .ro, dflt := .num 255 }

/-- `0x1300:03 time_preferred_domain` (R367). -/
def timePreferredDomain : Obj := { index := 0x1300, sub := 3, ty := .u8, access := .rw, rng := .between 0 1 }

/-- `0x1300:04 time_revert_s` (R367). -/
def timeRevertS : Obj := { index := 0x1300, sub := 4, ty := .u16, access := .rw, dflt := .num 60 }

/-- `0x1300:05 time_rate` (R367). -/
def timeRate : Obj := { index := 0x1300, sub := 5, ty := .i64, access := .ro }

/-- `0x1300:06 time_slew_max` (R367). -/
def timeSlewMax : Obj := { index := 0x1300, sub := 6, ty := .u16, access := .rw, rng := .between 1 500, dflt := .num 100 }

/-- `0x1300:07 time_servo_tc` (R367). -/
def timeServoTc : Obj := { index := 0x1300, sub := 7, ty := .u8, access := .rw, rng := .between 1 64, dflt := .num 4 }

/-- `0x1300:08 time_step_threshold` (R367). -/
def timeStepThreshold : Obj := { index := 0x1300, sub := 8, ty := .u32, access := .rw, dflt := .num 10000 }

/-- `0x1300:09 time_first_step` (R367). -/
def timeFirstStep : Obj := { index := 0x1300, sub := 9, ty := .bool, access := .rw, dflt := .num 1 }

/-- `0x1300:0A time_set` (R367). -/
def timeSet : Obj := { index := 0x1300, sub := 10, ty := .tai, access := .wo }

/-- `0x1300:0B time_adjust` (R367). -/
def timeAdjust : Obj := { index := 0x1300, sub := 11, ty := .i64, access := .wo }

/-- `0x1300:0C time_now` (R367). -/
def timeNow : Obj := { index := 0x1300, sub := 12, ty := .tai, access := .ro }

/-- `0x1300:0D time_utc_offset` (R367). -/
def timeUtcOffset : Obj := { index := 0x1300, sub := 13, ty := .i16, access := .ro, dflt := .num 37 }

/-- `0x1300:0E time_leap_flags` (R367). -/
def timeLeapFlags : Obj := { index := 0x1300, sub := 14, ty := .u8, access := .ro }

/-- `0x1300:0F time_step_count` (R367). -/
def timeStepCount : Obj := { index := 0x1300, sub := 15, ty := .u32, access := .ro }

/-- `0x1300:10 time_last_step` (R367). -/
def timeLastStep : Obj := { index := 0x1300, sub := 16, ty := .i64, access := .ro }

/-- `0x1300:11 time_epoch_now` (R367). -/
def timeEpochNow : Obj := { index := 0x1300, sub := 17, ty := .u64, access := .ro }

/-- `0x1400:01 time_action_add` (R367). -/
def timeActionAdd : Obj := { index := 0x1400, sub := 1, ty := .octs, access := .wo, rng := .len 32, dflt := .oct [] }

/-- `0x1400:02 time_action_cancel` (R367). -/
def timeActionCancel : Obj := { index := 0x1400, sub := 2, ty := .u32, access := .wo }

/-- `0x1400:03 time_action_pending` (R367). -/
def timeActionPending : Obj := { index := 0x1400, sub := 3, ty := .u16, access := .ro }

/-- `0x1400:04 time_action_done_seq` (R367). -/
def timeActionDoneSeq : Obj := { index := 0x1400, sub := 4, ty := .u32, access := .ro }

/-- `0x1400:05 time_action_late_count` (R367). -/
def timeActionLateCount : Obj := { index := 0x1400, sub := 5, ty := .u32, access := .ro }

/-- `0x1400:06 time_action_dropped_count` (R367). -/
def timeActionDroppedCount : Obj := { index := 0x1400, sub := 6, ty := .u32, access := .ro }

/-- `0x1400:07 time_action_last_lateness` (R367). -/
def timeActionLastLateness : Obj := { index := 0x1400, sub := 7, ty := .u64, access := .ro }

/-- `0x0000:01 vendor_name` (R369). -/
def vendorName : Obj := { index := 0x0000, sub := 1, ty := .str, access := .cnst, dflt := .oct [79#8, 100#8, 121#8, 97#8, 103#8, 111#8, 114#8] }

/-- `0x0000:02 product_name` (R369). -/
def productName : Obj := { index := 0x0000, sub := 2, ty := .str, access := .cnst, dflt := .oct [80#8, 121#8, 114#8, 105#8, 111#8, 115#8, 111#8, 32#8, 76#8, 88#8, 57#8] }

/-- `0x0000:03 ordering_code` (R369). -/
def orderingCode : Obj := { index := 0x0000, sub := 3, ty := .str, access := .cnst, dflt := .oct [79#8, 68#8, 45#8, 76#8, 88#8, 57#8, 45#8, 72#8, 52#8] }

/-- `0x0000:04 serial_number` (R369). -/
def serialNumber : Obj := { index := 0x0000, sub := 4, ty := .str, access := .cnst, dflt := .oct [] }

/-- `0x0000:05 die_stepping` (R369). -/
def dieStepping : Obj := { index := 0x0000, sub := 5, ty := .u16, access := .cnst }

/-- `0x0000:06 firmware_version` (R369). -/
def firmwareVersion : Obj := { index := 0x0000, sub := 6, ty := .u32, access := .ro }

/-- `0x0000:07 dictionary_version` (R369). -/
def dictionaryVersion : Obj := { index := 0x0000, sub := 7, ty := .u16, access := .cnst, dflt := .num 256 }

/-- `0x0003:01 mac_base` (R369). -/
def macBase : Obj := { index := 0x0003, sub := 1, ty := .octs, access := .cnst, dflt := .oct [] }

/-- `0x0003:02 mac_count` (R369). -/
def macCount : Obj := { index := 0x0003, sub := 2, ty := .u8, access := .cnst, dflt := .num 3 }

/-- `0x1000:01 vipex_node_id` (R393). -/
def vipexNodeId : Obj := { index := 0x1000, sub := 1, ty := .u16, access := .rw, rng := .between 1 4094, dflt := .num 1 }

/-- `0x1000:02 vipex_secured` (R393). -/
def vipexSecured : Obj := { index := 0x1000, sub := 2, ty := .bool, access := .rw }

/-- `0x1000:03 vipex_key` (R393). -/
def vipexKey : Obj := { index := 0x1000, sub := 3, ty := .octs, access := .wo, rng := .len 32, dflt := .oct [] }

/-- `0x1000:04 vipex_heartbeat_ms` (R393). -/
def vipexHeartbeatMs : Obj := { index := 0x1000, sub := 4, ty := .u16, access := .rw, rng := .zeroOr 100 10000, dflt := .num 1000 }

/-- `0x1000:05 vipex_heartbeat_addr` (R393). -/
def vipexHeartbeatAddr : Obj := { index := 0x1000, sub := 5, ty := .octs, access := .rw, rng := .len 16, dflt := .oct (zeros 16) }

/-- `0x1000:06 vipex_rx_count` (R393). -/
def vipexRxCount : Obj := { index := 0x1000, sub := 6, ty := .u64, access := .ro }

/-- `0x1000:07 vipex_discard_count` (R393). -/
def vipexDiscardCount : Obj := { index := 0x1000, sub := 7, ty := .u32, access := .ro }

/-- `0x1000:08 vipex_stale_count` (R393). -/
def vipexStaleCount : Obj := { index := 0x1000, sub := 8, ty := .u32, access := .ro }

/-- `0x1000:09 vipex_auth_fail_count` (R393). -/
def vipexAuthFailCount : Obj := { index := 0x1000, sub := 9, ty := .u32, access := .ro }

/-- `0x1000:0A vipex_alive_tx` (R393). -/
def vipexAliveTx : Obj := { index := 0x1000, sub := 10, ty := .u8, access := .ro }

/-- `0xA100:01 cfg_swap_request` (R393). -/
def cfgSwapRequest : Obj := { index := 0xA100, sub := 1, ty := .u8, access := .wo, rng := .between 1 1 }

/-- `0xA100:02 cfg_swap_state` (R393). -/
def cfgSwapState : Obj := { index := 0xA100, sub := 2, ty := .u8, access := .ro }

/-- `0xA100:03 cfg_swap_result` (R393). -/
def cfgSwapResult : Obj := { index := 0xA100, sub := 3, ty := .u16, access := .ro }

/-- `0xA100:04 cfg_bank_generation` (R393). -/
def cfgBankGeneration : Obj := { index := 0xA100, sub := 4, ty := .u32, access := .ro, dflt := .num 1 }

/-- `0xA100:05 cfg_maquette_dirty` (R393). -/
def cfgMaquetteDirty : Obj := { index := 0xA100, sub := 5, ty := .bool, access := .ro }

/-- `0xA100:06 cfg_maquette_reset` (R393). -/
def cfgMaquetteReset : Obj := { index := 0xA100, sub := 6, ty := .u8, access := .wo, rng := .between 1 1 }

/-- `0xA100:07 cfg_swap_kind` (R393). -/
def cfgSwapKind : Obj := { index := 0xA100, sub := 7, ty := .u8, access := .ro }

/-- `0xA100:08 cfg_bound_frame` (R393). -/
def cfgBoundFrame : Obj := { index := 0xA100, sub := 8, ty := .u64, access := .ro }

/-- `0xA100:09 cfg_swap_count` (R393). -/
def cfgSwapCount : Obj := { index := 0xA100, sub := 9, ty := .u32, access := .ro }

/-- `0xA100:0A cfg_store` (R393). -/
def cfgStore : Obj := { index := 0xA100, sub := 10, ty := .u8, access := .wo, rng := .between 1 1 }

/-- `0xA100:0B cfg_store_state` (R393). -/
def cfgStoreState : Obj := { index := 0xA100, sub := 11, ty := .u8, access := .ro }

/-- `0xA100:0C cfg_stored_generation` (R393). -/
def cfgStoredGeneration : Obj := { index := 0xA100, sub := 12, ty := .u32, access := .ro }

/-- `0xA101:01 dict_busy_count` (R393). -/
def dictBusyCount : Obj := { index := 0xA101, sub := 1, ty := .u32, access := .ro }

/-- `0xA101:02 dict_domain_open` (R393). -/
def dictDomainOpen : Obj := { index := 0xA101, sub := 2, ty := .u8, access := .ro }

/-- `0xA101:03 dict_ignored_count` (R393). -/
def dictIgnoredCount : Obj := { index := 0xA101, sub := 3, ty := .u32, access := .ro }

/-- `0xA101:04 dict_last_status` (R393). -/
def dictLastStatus : Obj := { index := 0xA101, sub := 4, ty := .u16, access := .ro }

/-- `0x7000:01 aud_ring_frames` (R410). -/
def audRingFrames : Obj := { index := 0x7000, sub := 1, ty := .u32, access := .cnst, dflt := .num 2097152 }

/-- `0x7000:02 aud_accept_lead` (R410). -/
def audAcceptLead : Obj := { index := 0x7000, sub := 2, ty := .u16, access := .cnst, dflt := .num 1000 }

/-- `0x7000:03 aud_last_status` (R410). -/
def audLastStatus : Obj := { index := 0x7000, sub := 3, ty := .u16, access := .ro }

/-- `0x710q:01 aud_pair_rate` (R410). -/
def audPairRate (p : Nat) : Obj := { index := 0x7100 + p % 4, sub := 1, ty := .u8, access := .rws, rng := .between 0 5, dflt := .num 1 }

/-- `0x710q:02 aud_pair_mclk_mult` (R410). -/
def audPairMclkMult (p : Nat) : Obj := { index := 0x7100 + p % 4, sub := 2, ty := .u8, access := .rws, rng := .between 0 2, dflt := .num 1 }

/-- `0x720p:01 aud_port_enable` (R410). -/
def audPortEnable (p : Nat) : Obj := { index := 0x7200 + p % 8, sub := 1, ty := .bool, access := .rw }

/-- `0x720p:02 aud_port_state` (R410). -/
def audPortState (p : Nat) : Obj := { index := 0x7200 + p % 8, sub := 2, ty := .u8, access := .ro }

/-- `0x720p:03 aud_port_route` (R410). -/
def audPortRoute (p : Nat) : Obj := { index := 0x7200 + p % 8, sub := 3, ty := .u8, access := .rws, rng := .oneOf [0, 1, 2, 3, 4, 5, 6, 7, 255], dflt := .num p }

/-- `0x720p:04 aud_port_slot_bits` (R410). -/
def audPortSlotBits (p : Nat) : Obj := { index := 0x7200 + p % 8, sub := 4, ty := .u8, access := .rws, rng := .oneOf [16, 24, 32], dflt := .num 32 }

/-- `0x720p:05 aud_port_nonpcm` (R410). -/
def audPortNonpcm (p : Nat) : Obj := { index := 0x7200 + p % 8, sub := 5, ty := .u8, access := .rws, rng := .between 0 1 }

/-- `0x720p:06 aud_port_flags` (R410). -/
def audPortFlags (p : Nat) : Obj := { index := 0x7200 + p % 8, sub := 6, ty := .u8, access := .ro }

/-- `0x720p:07 aud_underrun_count` (R410). -/
def audUnderrunCount (p : Nat) : Obj := { index := 0x7200 + p % 8, sub := 7, ty := .u32, access := .ro }

/-- `0x720p:08 aud_late_discard_count` (R410). -/
def audLateDiscardCount (p : Nat) : Obj := { index := 0x7200 + p % 8, sub := 8, ty := .u32, access := .ro }

/-- `0x720p:09 aud_phase_error` (R410). -/
def audPhaseError (p : Nat) : Obj := { index := 0x7200 + p % 8, sub := 9, ty := .i32, access := .ro }

/-- `0x6000:01 thm_tj` (R425). -/
def thmTj : Obj := { index := 0x6000, sub := 1, ty := .i16, access := .ro }

/-- `0x6000:02 thm_tj_sensor` (R425). -/
def thmTjSensor : Obj := { index := 0x6000, sub := 2, ty := .u8, access := .ro }

/-- `0x6000:03 thm_rise_rate` (R425). -/
def thmRiseRate : Obj := { index := 0x6000, sub := 3, ty := .i16, access := .ro }

/-- `0x6000:04 thm_rise_level` (R425). -/
def thmRiseLevel : Obj := { index := 0x6000, sub := 4, ty := .u8, access := .ro }

/-- `0x6000:05 thm_throttle_level` (R425). -/
def thmThrottleLevel : Obj := { index := 0x6000, sub := 5, ty := .u8, access := .ro }

/-- `0x6000:06 thm_nor_window` (R425). -/
def thmNorWindow : Obj := { index := 0x6000, sub := 6, ty := .bool, access := .ro }

/-- `0x6000:07 thm_excluded_mask` (R425). -/
def thmExcludedMask : Obj := { index := 0x6000, sub := 7, ty := .u64, access := .ro }

/-- `0x6000:08 thm_trip_count` (R425). -/
def thmTripCount : Obj := { index := 0x6000, sub := 8, ty := .u32, access := .ro }

/-- `0x6000:09 thm_trip_slots_used` (R425). -/
def thmTripSlotsUsed : Obj := { index := 0x6000, sub := 9, ty := .u8, access := .ro }

/-- `0x6000:0A thm_restart_count` (R425). -/
def thmRestartCount : Obj := { index := 0x6000, sub := 10, ty := .u8, access := .ro }

/-- `0x6000:0B thm_last_status` (R425). -/
def thmLastStatus : Obj := { index := 0x6000, sub := 11, ty := .u16, access := .ro }

/-- `0x6001:01 thm_throttle_start` (R425). -/
def thmThrottleStart : Obj := { index := 0x6001, sub := 1, ty := .i16, access := .rw, rng := .throttleStart, dflt := .num 1520 }

/-- `0x6001:02 thm_throttle_step` (R425). -/
def thmThrottleStep : Obj := { index := 0x6001, sub := 2, ty := .u8, access := .rw, rng := .between 4 64, dflt := .num 16 }

/-- `0x6001:03 thm_hysteresis` (R425). -/
def thmHysteresis : Obj := { index := 0x6001, sub := 3, ty := .u8, access := .rw, rng := .between 16 160, dflt := .num 48 }

/-- `0x6001:04 thm_rise_early` (R425). -/
def thmRiseEarly : Obj := { index := 0x6001, sub := 4, ty := .i16, access := .rw, rng := .between 16 304, dflt := .num 80 }

/-- `0x6001:05 thm_rise_emergency` (R425). -/
def thmRiseEmergency : Obj := { index := 0x6001, sub := 5, ty := .i16, access := .rw, rng := .between 32 320, dflt := .num 240 }

/-- `0x6001:06 thm_early_offset` (R425). -/
def thmEarlyOffset : Obj := { index := 0x6001, sub := 6, ty := .u8, access := .rw, rng := .between 0 240, dflt := .num 160 }

/-- `0x6001:07 thm_neighbour_tol` (R425). -/
def thmNeighbourTol : Obj := { index := 0x6001, sub := 7, ty := .u8, access := .rw, rng := .between 96 255, dflt := .num 128 }

/-- `0x6001:08 thm_auto_restart` (R425). -/
def thmAutoRestart : Obj := { index := 0x6001, sub := 8, ty := .u8, access := .rw, rng := .between 0 3, dflt := .num 3 }

/-- `0x6002:01–30 thm_sensor_temp` (R425). -/
def thmSensorTemp (n : Nat) : Obj := { index := 0x6002, sub := n % 48 + 1, ty := .i16, access := .ro }

/-- `0x6003:01–30 thm_sensor_trim` (R425). -/
def thmSensorTrim (n : Nat) : Obj := { index := 0x6003, sub := n % 48 + 1, ty := .i16, access := .ro }

/-- `0x6004:01 thm_trip_records` (R425). -/
def thmTripRecords : Obj := { index := 0x6004, sub := 1, ty := .domain, access := .ro, dflt := .oct [] }

/-- `0xB103:01 plinth_trip_point` (R425). -/
def plinthTripPoint : Obj := { index := 0xB103, sub := 1, ty := .i16, access := .two, dflt := .num 1760 }

/-- `0xA300:01 power_on_seconds` (R449). -/
def powerOnSeconds : Obj := { index := 0xA300, sub := 1, ty := .u32, access := .ro }

/-- `0xA300:02 cold_start_count` (R449). -/
def coldStartCount : Obj := { index := 0xA300, sub := 2, ty := .u32, access := .ro }

/-- `0xA300:03 warm_reset_count` (R449). -/
def warmResetCount : Obj := { index := 0xA300, sub := 3, ty := .u32, access := .ro }

/-- `0xA300:04 lockstep_count` (R449). -/
def lockstepCount : Obj := { index := 0xA300, sub := 4, ty := .u32, access := .ro }

/-- `0xA300:05 frames_presented` (R449). -/
def framesPresented : Obj := { index := 0xA300, sub := 5, ty := .u64, access := .ro }

/-- `0xA300:06 holdup_lifetime` (R449). -/
def holdupLifetime : Obj := { index := 0xA300, sub := 6, ty := .u32, access := .ro }

/-- `0xA300:07 update_count` (R449). -/
def updateCount : Obj := { index := 0xA300, sub := 7, ty := .u32, access := .ro }

/-- `0xA300:08 nor_erase_max` (R449). -/
def norEraseMax : Obj := { index := 0xA300, sub := 8, ty := .u32, access := .ro }

/-- `0xA000:01 atl_state` (R454). -/
def atlState : Obj := { index := 0xA000, sub := 1, ty := .u8, access := .ro }

/-- `0xA000:02 atl_warm_reset` (R454). -/
def atlWarmReset : Obj := { index := 0xA000, sub := 2, ty := .u8, access := .wo, rng := .between 1 1 }

/-- `0xA000:03 atl_last_reset_cause` (R454). -/
def atlLastResetCause : Obj := { index := 0xA000, sub := 3, ty := .u8, access := .ro }

/-- `0xA000:04 atl_start_time_ms` (R454). -/
def atlStartTimeMs : Obj := { index := 0xA000, sub := 4, ty := .u32, access := .ro }

/-- `0xA000:05 atl_sram_corrected` (R454). -/
def atlSramCorrected : Obj := { index := 0xA000, sub := 5, ty := .u32, access := .ro }

/-- `0xA000:06 nor_ecc_count` (R454). -/
def norEccCount : Obj := { index := 0xA000, sub := 6, ty := .u32, access := .ro }

/-- `0xA000:07 atl_last_status` (R454). -/
def atlLastStatus : Obj := { index := 0xA000, sub := 7, ty := .u16, access := .ro }

/-- `0xA200:01 log_ring` (R454). -/
def logRing : Obj := { index := 0xA200, sub := 1, ty := .domain, access := .ro, dflt := .oct [] }

/-- `0xA200:02 log_pinned` (R454). -/
def logPinned : Obj := { index := 0xA200, sub := 2, ty := .domain, access := .ro, dflt := .oct [] }

/-- `0xA200:03 log_newest_seq` (R454). -/
def logNewestSeq : Obj := { index := 0xA200, sub := 3, ty := .u32, access := .ro }

/-- `0xA200:04 log_oldest_seq` (R454). -/
def logOldestSeq : Obj := { index := 0xA200, sub := 4, ty := .u32, access := .ro }

/-- `0xA200:05 log_lost_count` (R454). -/
def logLostCount : Obj := { index := 0xA200, sub := 5, ty := .u32, access := .ro }

/-- `0xA400:01 update_image` (R454). -/
def updateImage : Obj := { index := 0xA400, sub := 1, ty := .domain, access := .wo, rng := .upTo 8388608, dflt := .oct [] }

/-- `0xA400:02 update_state` (R454). -/
def updateState : Obj := { index := 0xA400, sub := 2, ty := .u8, access := .ro }

/-- `0xA400:03 update_apply` (R454). -/
def updateApply : Obj := { index := 0xA400, sub := 3, ty := .u8, access := .wo, rng := .between 1 1 }

/-- `0xA400:04 update_result` (R454). -/
def updateResult : Obj := { index := 0xA400, sub := 4, ty := .u16, access := .ro }

/-- `0xA400:05 fw_active_slot` (R454). -/
def fwActiveSlot : Obj := { index := 0xA400, sub := 5, ty := .u8, access := .ro }

/-- `0xA400:06 fw_slot_versions` (R454). -/
def fwSlotVersions : Obj := { index := 0xA400, sub := 6, ty := .octs, access := .ro, dflt := .oct [] }

/-- `0xA400:07 arb_count` (R454). -/
def arbCount : Obj := { index := 0xA400, sub := 7, ty := .u8, access := .ro }

/-- `0xB100:01 plinth_mean_drive` (R460). -/
def plinthMeanDrive : Obj := { index := 0xB100, sub := 1, ty := .u16, access := .two, dflt := .num 65535 }

/-- `0xB101:01–20 plinth_peak_drive` (R460). -/
def plinthPeakDrive (n : Nat) : Obj := { index := 0xB101, sub := n % 32 + 1, ty := .u16, access := .two, dflt := .num 65535 }

/-- `0xB102:01 plinth_lane_amplitude` (R460). -/
def plinthLaneAmplitude : Obj := { index := 0xB102, sub := 1, ty := .u16, access := .two, dflt := .num 1000 }

/-- `0xB104:01 plinth_tf_min_num` (R460). -/
def plinthTfMinNum : Obj := { index := 0xB104, sub := 1, ty := .u32, access := .two, dflt := .num 1 }

/-- `0xB104:02 plinth_tf_min_den` (R460). -/
def plinthTfMinDen : Obj := { index := 0xB104, sub := 2, ty := .u32, access := .two, dflt := .num 120 }

/-- `0xB105:01 plinth_wd_period` (R460). -/
def plinthWdPeriod : Obj := { index := 0xB105, sub := 1, ty := .u16, access := .two, dflt := .num 2000 }

/-- `0xB200:01 rail_order` (R460). -/
def railOrder : Obj := { index := 0xB200, sub := 1, ty := .octs, access := .two, rng := .len 6, dflt := .oct (List.replicate 6 255#8) }

/-- `0xB000:01 plinth_state` (R470). -/
def plinthState : Obj := { index := 0xB000, sub := 1, ty := .u8, access := .ro }

/-- `0xB000:02 plinth_stage` (R470). -/
def plinthStage : Obj := { index := 0xB000, sub := 2, ty := .octs, access := .wo, rng := .lens [224, 320], dflt := .oct [] }

/-- `0xB000:03 plinth_confirm` (R470). -/
def plinthConfirm : Obj := { index := 0xB000, sub := 3, ty := .octs, access := .wo, rng := .len 96, dflt := .oct [] }

/-- `0xB000:04 plinth_cancel` (R470). -/
def plinthCancel : Obj := { index := 0xB000, sub := 4, ty := .u8, access := .wo, rng := .between 1 1 }

/-- `0xB000:05 plinth_commit_seq` (R470). -/
def plinthCommitSeq : Obj := { index := 0xB000, sub := 5, ty := .u32, access := .ro }

/-- `0xB000:06 plinth_window_left` (R470). -/
def plinthWindowLeft : Obj := { index := 0xB000, sub := 6, ty := .u16, access := .ro }

/-- `0xB000:07 plinth_staged_set` (R470). -/
def plinthStagedSet : Obj := { index := 0xB000, sub := 7, ty := .octs, access := .ro, dflt := .oct [] }

/-- `0xB000:08 plinth_key_ids` (R470). -/
def plinthKeyIds : Obj := { index := 0xB000, sub := 8, ty := .octs, access := .ro, dflt := .oct [] }

/-- `0xB000:09 plinth_ceilings` (R470). -/
def plinthCeilings : Obj := { index := 0xB000, sub := 9, ty := .octs, access := .ro, dflt := .oct [] }

/-- `0xB000:0A plinth_consent` (R470). -/
def plinthConsent : Obj := { index := 0xB000, sub := 10, ty := .bool, access := .ro }

/-- `0xB000:0B plinth_last_result` (R470). -/
def plinthLastResult : Obj := { index := 0xB000, sub := 11, ty := .u16, access := .ro }

/-- `0x9000:01 clp_enable` (R488). -/
def clpEnable : Obj := { index := 0x9000, sub := 1, ty := .bool, access := .rw }

/-- `0x9000:02 clp_state` (R488). -/
def clpState : Obj := { index := 0x9000, sub := 2, ty := .u8, access := .ro }

/-- `0x9000:03 clp_layout` (R488). -/
def clpLayout : Obj := { index := 0x9000, sub := 3, ty := .u8, access := .ro }

/-- `0x9000:04 clp_capacity` (R488). -/
def clpCapacity : Obj := { index := 0x9000, sub := 4, ty := .u64, access := .ro }

/-- `0x9000:05 clp_free_largest` (R488). -/
def clpFreeLargest : Obj := { index := 0x9000, sub := 5, ty := .u64, access := .ro }

/-- `0x9000:06 clp_clip_count` (R488). -/
def clpClipCount : Obj := { index := 0x9000, sub := 6, ty := .u16, access := .ro }

/-- `0x9000:07 clp_command` (R488). -/
def clpCommand : Obj := { index := 0x9000, sub := 7, ty := .octs, access := .wo, rng := .len 32, dflt := .oct [] }

/-- `0x9000:08 clp_cmd_state` (R488). -/
def clpCmdState : Obj := { index := 0x9000, sub := 8, ty := .u8, access := .ro }

/-- `0x9000:09 clp_cmd_result` (R488). -/
def clpCmdResult : Obj := { index := 0x9000, sub := 9, ty := .u16, access := .ro }

/-- `0x9000:0A clp_last_id` (R488). -/
def clpLastId : Obj := { index := 0x9000, sub := 10, ty := .u16, access := .ro }

/-- `0x9000:0B clp_readahead` (R488). -/
def clpReadahead : Obj := { index := 0x9000, sub := 11, ty := .u8, access := .rw, rng := .between 4 64, dflt := .num 16 }

/-- `0x9000:0C clp_rated_read` (R488). -/
def clpRatedRead : Obj := { index := 0x9000, sub := 12, ty := .u16, access := .rw, rng := .between 100 7000, dflt := .num 2000 }

/-- `0x9000:0D clp_rated_latency` (R488). -/
def clpRatedLatency : Obj := { index := 0x9000, sub := 13, ty := .u16, access := .rw, rng := .between 1 1000, dflt := .num 50 }

/-- `0x9000:0E clp_fallback_clip` (R488). -/
def clpFallbackClip : Obj := { index := 0x9000, sub := 14, ty := .u16, access := .rw, rng := .between 0 4096 }

/-- `0x9000:0F clp_fallback_release` (R488). -/
def clpFallbackRelease : Obj := { index := 0x9000, sub := 15, ty := .u8, access := .wo, rng := .between 1 1 }

/-- `0x9000:10 clp_play_state` (R488). -/
def clpPlayState : Obj := { index := 0x9000, sub := 16, ty := .u8, access := .ro }

/-- `0x9000:11 clp_play_clip` (R488). -/
def clpPlayClip : Obj := { index := 0x9000, sub := 17, ty := .u16, access := .ro }

/-- `0x9000:12 clp_play_base` (R488). -/
def clpPlayBase : Obj := { index := 0x9000, sub := 18, ty := .u64, access := .ro }

/-- `0x9000:13 clp_read_fail_count` (R488). -/
def clpReadFailCount : Obj := { index := 0x9000, sub := 19, ty := .u32, access := .ro }

/-- `0x9000:14 clp_last_status` (R488). -/
def clpLastStatus : Obj := { index := 0x9000, sub := 20, ty := .u16, access := .ro }

/-- `0x9001:01–02 clp_drive_state` (R488). -/
def clpDriveState (n : Nat) : Obj := { index := 0x9001, sub := n % 2 + 1, ty := .u8, access := .ro }

/-- `0x9002:01 clp_clip_table` (R488). -/
def clpClipTable : Obj := { index := 0x9002, sub := 1, ty := .domain, access := .ro, dflt := .oct [] }

/-- `0xA700:01 fault_active` (R500). -/
def faultActive : Obj := { index := 0xA700, sub := 1, ty := .u32, access := .ro }

/-- `0xA700:02 fault_defeated` (R500). -/
def faultDefeated : Obj := { index := 0xA700, sub := 2, ty := .u32, access := .ro }

/-- `0xA700:03 fault_total_count` (R500). -/
def faultTotalCount : Obj := { index := 0xA700, sub := 3, ty := .u32, access := .ro }

/-- `0xA700:04 fault_last_code` (R500). -/
def faultLastCode : Obj := { index := 0xA700, sub := 4, ty := .u16, access := .ro }

/-- `0xA700:05 fault_n_asserted` (R500). -/
def faultNAsserted : Obj := { index := 0xA700, sub := 5, ty := .bool, access := .ro }

/-- `0xA700:06 clock_held_mask` (R500). -/
def clockHeldMask : Obj := { index := 0xA700, sub := 6, ty := .u32, access := .ro }

/-- `0xA701:01–10 fault_family_count` (R500). -/
def faultFamilyCount (n : Nat) : Obj := { index := 0xA701, sub := n % 16 + 1, ty := .u32, access := .ro }

/-- `0x1180:01 rgmii_tx_delay` (R524). -/
def rgmiiTxDelay : Obj := { index := 0x1180, sub := 1, ty := .bool, access := .rw, dflt := .num 1 }

/-- `0x1180:02 rgmii_rx_delay` (R524). -/
def rgmiiRxDelay : Obj := { index := 0x1180, sub := 2, ty := .bool, access := .rw, dflt := .num 1 }

/-- `0x1180:03 rgmii_io_voltage` (R524). -/
def rgmiiIoVoltage : Obj := { index := 0x1180, sub := 3, ty := .u8, access := .ro }

/-- `0x6300:01–0B device_rail_mv` (R524). -/
def deviceRailMv (n : Nat) : Obj := { index := 0x6300, sub := n % 11 + 1, ty := .u16, access := .ro }

/-- `0x6300:0C device_rail_low_count` (R524). -/
def deviceRailLowCount : Obj := { index := 0x6300, sub := 12, ty := .u32, access := .ro }

/-- Part 0 of the objects that exist once. -/
def singles0 : List Obj := [hbmStackCount, figContextCount, figLiveCount, figNoContextCount, figBinDropCount, figBinPeak, figInspectId, figInspectCtx, figInspectLayers, streamVersion, streamCurrentId, segOkCount, segBadCount, segLossCount, secCrcFailCount, entropyErrorCount, staleTileCount, sdecLastStatus, lastBinnedEpoch, rrecDecoderCount, rrecPipeCount, reliefSlotCount, reliefSlotFree, reliefSlotRetained, reliefDirEntries, reliefDirFree, reliefRecordFree, tilesCommittedCount, tilesInFlight, cacheFullCount, poisonedTileCount, lateCommitDroppedCount, rrecLastStatus, residentOrdinal, calStatusFlags, calLensType, calTanUMax, calTanVMax, calTempLatched, calTempMeasured]

/-- Part 1 of the objects that exist once. -/
def singles1 : List Obj := [calRampStep, bronzeGlobal, bronzeLattice, bronzeTransfer, patinaLattice, patinaRampFrames, viewDistance, viewHeight, nominalPitch, patinaStore, patinaStoreState, patinaGeneration, captureEnable, captureState, captureTfNum, captureTfDen, captureStep, captureReport, captureResult, captureRunId, captureConfirmed, captureTagX, captureTagY, captureTagCell, captureTimeout, captureCause, rseClusterCount, rseLanesPerCluster, rseIslandsEnabled, rseStoreSlots, rseUnitTileLimit, rseHitBuffer, rseStepsLast, rseStepBoundLast, rseRenderTimeLast, rseSplitBinsLast, rseHitOverflowCount, rseOverrunCount, rseStoreEccCount, rseThrottleLevel]

/-- Part 2 of the objects that exist once. -/
def singles2 : List Obj := [rseLastStatus, admFixedOverhead, admStageRate, admDerateNormal, admDerateHot, admDerateNow, admThrottleNow, admAdmittedCount, admRefusedCount, admLastStatus, admLastCost, admLastBudget, admBrokenCount, admPromiseState, admSuspendCauses, admSuspendCount, admLastBadBin, memState, memCapacity, memPcCount, memHotRefreshMask, memLastUeAddr, memLastUeClass, memScrubPasses, memMinTolerance, memApertureRefusedCount, memTrainingTime, memLastStatus, tfNum, tfDen, bitsPerSubpixel, headCount, headHActive, headHTotal, headVActive, headVTotal, headHFront, headHSync, headHBack, headVFront]

/-- Part 3 of the objects that exist once. -/
def singles3 : List Obj := [headVSync, headVBack, headASlotMask, headBSlotMask, headAEnable, headAState, headBEnable, headBState, scanGroupClock, scanLinePeriod, headLineBytes, frameLinePitch, scanPhaseError, scanLockState, scanFrameNumber, scanUnderrunCount, scanResyncCount, scanRetrainSkippedCount, scanCommitIgnoredCount, scanLastStatus, driveCurves, driveBandThresholds, driveBandDefault, uniformitySource, driveGainNow, driveMeanLast, driveBackstopCount, lineCrcFailCount, lineZeroedCount, partnerCrcCount, pdpLastStatus, panelPowerEnable, panelPowerState, railPgTimeout, railStepDelay, railOffDelay, railPgStatus, pwrHoldupState, pwrHoldupCount, pwrLastStatus]

/-- Part 4 of the objects that exist once. -/
def singles4 : List Obj := [linkLaneRate, linkTxAmplitude, linkTelemetryPeriod, linkSpareSwitchCount, linkRetryCount, linkLastStatus, overlayEnable, overlayState, overlayWidth, overlayHeight, raspRingSize, overlayLut, overlayShown, raspPublishedEpoch, raspCmdCount, raspRefusedCount, raspLastStatus, pcieVendorId, pcieDeviceId, pcieLinkSpeed, pcieLinkWidth, streamSource, hostWatchdogEpochs, hostState, segCopiedCount, segCopiedBytes, dmaErrorCount, cplLostCount, hostSilentCount, hifLastStatus, timeState, timeSelectedDomain, timePreferredDomain, timeRevertS, timeRate, timeSlewMax, timeServoTc, timeStepThreshold, timeFirstStep, timeSet]

/-- Part 5 of the objects that exist once. -/
def singles5 : List Obj := [timeAdjust, timeNow, timeUtcOffset, timeLeapFlags, timeStepCount, timeLastStep, timeEpochNow, timeActionAdd, timeActionCancel, timeActionPending, timeActionDoneSeq, timeActionLateCount, timeActionDroppedCount, timeActionLastLateness, vendorName, productName, orderingCode, serialNumber, dieStepping, firmwareVersion, dictionaryVersion, macBase, macCount, vipexNodeId, vipexSecured, vipexKey, vipexHeartbeatMs, vipexHeartbeatAddr, vipexRxCount, vipexDiscardCount, vipexStaleCount, vipexAuthFailCount, vipexAliveTx, cfgSwapRequest, cfgSwapState, cfgSwapResult, cfgBankGeneration, cfgMaquetteDirty, cfgMaquetteReset, cfgSwapKind]

/-- Part 6 of the objects that exist once. -/
def singles6 : List Obj := [cfgBoundFrame, cfgSwapCount, cfgStore, cfgStoreState, cfgStoredGeneration, dictBusyCount, dictDomainOpen, dictIgnoredCount, dictLastStatus, audRingFrames, audAcceptLead, audLastStatus, thmTj, thmTjSensor, thmRiseRate, thmRiseLevel, thmThrottleLevel, thmNorWindow, thmExcludedMask, thmTripCount, thmTripSlotsUsed, thmRestartCount, thmLastStatus, thmThrottleStart, thmThrottleStep, thmHysteresis, thmRiseEarly, thmRiseEmergency, thmEarlyOffset, thmNeighbourTol, thmAutoRestart, thmTripRecords, plinthTripPoint, powerOnSeconds, coldStartCount, warmResetCount, lockstepCount, framesPresented, holdupLifetime, updateCount]

/-- Part 7 of the objects that exist once. -/
def singles7 : List Obj := [norEraseMax, atlState, atlWarmReset, atlLastResetCause, atlStartTimeMs, atlSramCorrected, norEccCount, atlLastStatus, logRing, logPinned, logNewestSeq, logOldestSeq, logLostCount, updateImage, updateState, updateApply, updateResult, fwActiveSlot, fwSlotVersions, arbCount, plinthMeanDrive, plinthLaneAmplitude, plinthTfMinNum, plinthTfMinDen, plinthWdPeriod, railOrder, plinthState, plinthStage, plinthConfirm, plinthCancel, plinthCommitSeq, plinthWindowLeft, plinthStagedSet, plinthKeyIds, plinthCeilings, plinthConsent, plinthLastResult, clpEnable, clpState, clpLayout]

/-- Part 8 of the objects that exist once. -/
def singles8 : List Obj := [clpCapacity, clpFreeLargest, clpClipCount, clpCommand, clpCmdState, clpCmdResult, clpLastId, clpReadahead, clpRatedRead, clpRatedLatency, clpFallbackClip, clpFallbackRelease, clpPlayState, clpPlayClip, clpPlayBase, clpReadFailCount, clpLastStatus, clpClipTable, faultActive, faultDefeated, faultTotalCount, faultLastCode, faultNAsserted, clockHeldMask, rgmiiTxDelay, rgmiiRxDelay, rgmiiIoVoltage, deviceRailLowCount]

/-- Part 0 of the object families. -/
def families0 : List Obj :=
  (List.range 4).map memStackTemp ++
  (List.range 4).map memEccCorrected ++
  (List.range 4).map memEccUncorrectable ++
  (List.range 32).map uniformityHost ++
  (List.range 32).map uniformityPartner ++
  (List.range 32).map driveBandNow ++
  (List.range 32).map linkLaneMap ++
  (List.range 32).map linkSlotRegion ++
  (List.range 32).map linkSlotState ++
  (List.range 32).map partnerDescriptor ++
  (List.range 32).map partnerTelemetry ++
  (List.range 160).map linkLaneState ++
  (List.range 160).map linkLaneSetting ++
  (List.range 3).map portEnable ++
  (List.range 3).map portState ++
  (List.range 3).map portLink ++
  (List.range 3).map portMtu ++
  (List.range 3).map portVlan ++
  (List.range 3).map ipv4Mode ++
  (List.range 3).map ipv4Addr

/-- Part 1 of the object families. -/
def families1 : List Obj :=
  (List.range 3).map ipv4Prefix ++
  (List.range 3).map ipv4Gateway ++
  (List.range 3).map ipv6Enable ++
  (List.range 3).map ipv6Addr ++
  (List.range 3).map portExtRxLatency ++
  (List.range 3).map portExtTxLatency ++
  [1, 2].map asirekGroups ++
  (List.range 3).map portRxFrames ++
  (List.range 3).map portTxFrames ++
  (List.range 3).map portRxDropped ++
  (List.range 3).map portAsirekDiscardCount ++
  (List.range 3).map portLastStatus ++
  (List.range 2).map ptpEnable ++
  (List.range 2).map ptpPort ++
  (List.range 2).map ptpProfile ++
  (List.range 2).map ptpDomainNumber ++
  (List.range 2).map ptpTransport ++
  (List.range 2).map ptpDelayMech ++
  (List.range 2).map ptpDelayReqUnicast ++
  (List.range 2).map ptpAsymmetry

/-- Part 2 of the object families. -/
def families2 : List Obj :=
  (List.range 2).map ptpState ++
  (List.range 2).map ptpOffset ++
  (List.range 2).map ptpPathDelay ++
  (List.range 2).map ptpRate ++
  (List.range 2).map ptpMasterPort ++
  (List.range 2).map ptpGmIdentity ++
  (List.range 2).map ptpLostCount ++
  (List.range 4).map audPairRate ++
  (List.range 4).map audPairMclkMult ++
  (List.range 8).map audPortEnable ++
  (List.range 8).map audPortState ++
  (List.range 8).map audPortRoute ++
  (List.range 8).map audPortSlotBits ++
  (List.range 8).map audPortNonpcm ++
  (List.range 8).map audPortFlags ++
  (List.range 8).map audUnderrunCount ++
  (List.range 8).map audLateDiscardCount ++
  (List.range 8).map audPhaseError ++
  (List.range 48).map thmSensorTemp ++
  (List.range 48).map thmSensorTrim

/-- Part 3 of the object families. -/
def families3 : List Obj :=
  (List.range 32).map plinthPeakDrive ++
  (List.range 2).map clpDriveState ++
  (List.range 16).map faultFamilyCount ++
  (List.range 11).map deviceRailMv

/-- Every dictionary object of the spec. -/
def all : List Obj :=
  singles0 ++ singles1 ++ singles2 ++ singles3 ++ singles4 ++ singles5 ++ singles6 ++ singles7 ++ singles8 ++ families0 ++ families1 ++ families2 ++ families3

end O

/-- The object at index:sub, none where the dictionary has no such object (R370 check 4). -/
def objAt (index sub : Nat) : Option Obj := O.all.find? fun o => o.index == index && o.sub == sub

end Sys2Proof.Machine
end

