-- ==== Sys2Proof/Machine/Types.lean ====
section
/-! DEFINITION. The records the block's subsystems hold: frames, Figures, relief cache, rings, banks, logs. -/

namespace Sys2Proof.Machine

/-! ## Common -/

/-- The two orderable parts (R3). -/
inductive Part
  | h4 | h2
  deriving DecidableEq, Repr

/-- The switchable functions (R20, R44): heads, network ports, audio ports, clip store, overlay plane, reference capture, panel power. -/
inductive Fn
  | headA | headB
  | port (p : Nat)
  | aud (p : Nat)
  | clip
  | overlay
  | capture
  | panel
  deriving DecidableEq, Repr

/-- The die: held by RESET_N, running, or stopped by a thermal trip or a clock loss (R420, R432, R494). -/
inductive Die
  | inReset | running | stopped
  deriving DecidableEq, Repr

/-- Why the die is stopped, which decides whether it restarts (R422, R494). -/
inductive StopCause
  | none | trip | aonLost
  deriving DecidableEq, Repr

/-- A point or vector with integer components. -/
structure V3 where
  x : Int := 0
  y : Int := 0
  z : Int := 0
  deriving DecidableEq, Repr

/-- A quaternion in Q1.30 (R48). -/
structure Quat where
  w : Int := 0
  x : Int := 0
  y : Int := 0
  z : Int := 0
  deriving DecidableEq, Repr

/-- A 3 x 3 matrix in Q2.30, row order (R48). -/
structure Mat where
  r0 : V3 := {}
  r1 : V3 := {}
  r2 : V3 := {}
  deriving DecidableEq, Repr

/-- A pixel rectangle, x1 and y1 exclusive. -/
structure Rect where
  x0 : Nat := 0
  y0 : Nat := 0
  x1 : Nat := 0
  y1 : Nat := 0
  deriving DecidableEq, Repr

/-! ## Figures (02_scene_model.md) -/

/-- One layer descriptor (R57). -/
structure Layer where
  tilesX : Nat := 0
  tilesY : Nat := 0
  depthStep : Nat := 0
  gradY : Int := 0
  gradC : Int := 0
  pitchU : Nat := 0
  pitchV : Nat := 0
  q : Quat := {}
  origin : V3 := {}
  flags : Nat := 0
  maxRefine : Nat := 0
  reserved : Bytes := []
  deriving DecidableEq, Repr

/-- The fields of a Figure context that updates set, bytes 0x00 to 0x7F (R49). -/
structure Ctx where
  renderClass : Nat := 0
  layerCount : Nat := 0
  flags : Nat := 0
  layerMask : Nat := 0
  depthKey : Nat := 0
  opacity : Nat := 0
  rot : Quat := {}
  trans : V3 := {}
  scale : Nat := 0
  bmin : V3 := {}
  bmax : V3 := {}
  clip : Rect := {}
  deriving DecidableEq, Repr

/-- A live Figure: its context number and ID, the set and the derived fields, its layers and the directory of each layer (R49, R50, R57, R116). -/
structure Figure where
  slot : Nat
  id : Nat
  ctx : Ctx
  rotM : Mat := {}
  pmin : V3 := {}
  pmax : V3 := {}
  screen : Rect := {}
  layers : List Layer := []
  dirs : List (Option Nat) := []
  deriving DecidableEq, Repr

/-! ## Relief cache (04_relief_reconstruction.md) -/

/-- One version of a tile (R117). -/
structure Version where
  slot : Option Nat := none
  lastSeq : Nat := 0
  ordinal : Nat := 0
  fill : Option Texel := none
  seqValid : Bool := false
  poisoned : Bool := false
  deriving DecidableEq, Repr

/-- An older version kept in a version record (R121). -/
structure Record where
  index : Nat
  ver : Version
  release : Nat
  deriving DecidableEq, Repr

/-- A tile with an entry other than the empty one, its current version and its records, newest first (R117, R121). -/
structure TileEntry where
  tx : Nat
  ty : Nat
  cur : Version := {}
  older : List Record := []
  deriving DecidableEq, Repr

/-- A layer directory (R116, R122). -/
structure Dir where
  id : Nat
  figId : Nat
  layer : Nat
  tilesX : Nat
  tilesY : Nat
  units : List Nat
  allocOrd : Nat
  endOrd : Option Nat := none
  tiles : List TileEntry := []
  deriving DecidableEq, Repr

/-- What decoding a tile update has given so far (R104, R114). -/
inductive TileResult
  | pending
  | texels (ws : List Texel)
  | fill (w : Texel)
  | failed
  deriving DecidableEq, Repr

/-- A tile update in flight (R92, R112). -/
structure TileUpd where
  ordinal : Nat
  key : Nat
  figId : Nat
  layer : Nat
  tx : Nat
  ty : Nat
  dir : Nat
  flags : Nat
  seq : Nat
  qp : List Nat
  payload : Bytes
  decoder : Option Nat := none
  result : TileResult := .pending
  deriving DecidableEq, Repr

/-! ## Frames (01, 06, 07) -/

/-- A unit and its unit terms (R165, R186). -/
structure RUnit where
  bin : Nat
  sub : Nat := 255
  rect : Rect
  figs : List Nat := []
  s : Nat := 0
  m : Nat := 0
  n : Nat := 0
  nOvl : Nat := 0
  f : Nat := 0
  deriving DecidableEq, Repr

/-- What binning a frame under one bank gives (R69 to R71, R165, R186, R526). -/
structure Binning where
  newBank : Bool := false
  gen : Nat := 1
  screens : List Rect := []
  units : List RUnit := []
  drops : Nat := 0
  badBin : Option Nat := none
  peak : Nat := 0
  splitBins : Nat := 0
  deriving DecidableEq, Repr

/-- The admission record (R32, R195). -/
structure AdmRec where
  gen : Nat := 1
  newBank : Bool := false
  throttle : Nat := 0
  derate : Nat := 895
  budget : Nat := 0
  cost : Nat := 0
  deriving DecidableEq, Repr

/-- A binned frame (R29, R32, R88). `warn` is the first warning raised while it rendered or was scanned, and their number (R322). -/
structure Frame where
  number : Nat
  tag : Nat := 0
  epoch : Nat := 0
  tf : Nat × Nat := (1, 60)
  ordinal : Nat := 0
  key : Nat := 0
  figures : List Figure := []
  bin : Binning := {}
  adm : AdmRec := {}
  residentAt : Option Nat := none
  late : Bool := false
  covered : Bool := false
  overlayBuf : Option Nat := none
  presented : Bool := false
  captureRun : Option Nat := none
  warn : Nat × Nat := (0, 0)
  deriving DecidableEq, Repr

/-- The inputs of a costing, fixed when it starts: throttle l, clusters C, staging rate G and budget E (R189 to R191). -/
structure CostIn where
  l : Nat
  c : Nat
  g : Nat
  e : Nat
  deriving DecidableEq, Repr

/-- The stages of the frame at the head of the admission queue (R192); a costing keeps the inputs fixed at its start, with the derating and, for the final one, the bank. -/
inductive AdmStage
  | idle
  | preCosting (i : CostIn) (derate : Nat)
  | waiting
  | finalCosting (i : CostIn) (derate gen : Nat) (newBank : Bool)
  deriving DecidableEq, Repr

/-- The roles of the frame buffers (R33). -/
inductive Role
  | free | render | committed | scan | hold
  deriving DecidableEq, Repr

/-- One of the three frame buffers and the frame it holds (R33). -/
structure Buf where
  role : Role := .free
  frame : Option Frame := none
  deriving DecidableEq, Repr

/-! ## What leaves the block -/

/-- What LINK sends to the partner of a slot: a control block on its lanes, the idle pattern, nothing (electrical idle), or a sideband write or read on a pair's bus (R269, R271, R277, R278, R289). -/
inductive PanelOut
  | control (block : Bytes)
  | idle
  | silent
  | sideband (bus target offset : Nat) (data : Bytes)
  | sidebandRead (bus target offset length : Nat)
  deriving DecidableEq, Repr

/-- What a frame that the LX9 sends carries (R340, R342, R346, R352): a Vipex message; a PTP message of a slot, kind 1 Delay_Req, 2 Pdelay_Req, 3 Pdelay_Resp and 4 its Follow_Up, by multicast or to one port identity; a probe of an address; a report of the groups joined; or a search for a lease. -/
inductive TxBody
  | vipex (message : Bytes)
  | ptp (slot kind seq : Nat) (port : Option Bytes)
  | addressProbe (addr : Bytes)
  | groupReport (groups : List Bytes)
  | dhcpDiscover
  deriving DecidableEq, Repr

/-- The block's outputs. `laneIdle` stands until the lane's next block: the idle pattern from a scrambler state, with a SYNC block every 64 blocks where one is named (R269, R270); `laneFiller` is a number of bits, 0 and 1 alternately (R270); `lanePrbs` PRBS31 from a seed, as steps of a transmit preset and ps (R282, R284); `laneTx` the preset and swing that a transmitter takes (R267). `eth` names a frame's source MAC address, its VLAN ID and PCP, and the address and UDP port it goes to, none for its protocol's group address (R339, R340); `ethWb` is the written-back half of a descriptor (R343, R344); `i2s` the levels of WS and SD in each bit time of a frame (R399). -/
inductive Out
  | hostWrite (addr : Nat) (data : Bytes)
  | msix (vector : Nat)
  | apertureData (data : Bytes) (poisoned : Bool)
  | regData (offset value : Nat)
  | panel (slot : Nat) (what : PanelOut)
  | lane (phys : Nat) (blocks : List (Nat × Bytes))
  | laneIdle (phys : Nat) (inverted : Bool) (scrambler : Nat) (sync : Option (Nat × Bytes))
  | laneFiller (phys : Nat) (inverted : Bool) (bits : Nat)
  | lanePrbs (phys : Nat) (inverted : Bool) (seed : Nat) (steps : List (Nat × Nat))
  | laneTx (phys preset swing : Nat)
  | eth (port queue : Nat) (src : Bytes) (vlan : Option (Nat × Nat)) (dest : Option (Bytes × Nat)) (body : TxBody)
  | ethWb (port queue : Nat) (rx : Bool) (wb : Bytes)
  | i2s (port : Nat) (bits : List (Bool × Bool))
  | vipex (party : Party) (status : Nat) (data : Bytes)
  | drive (index : Nat) (write : Bool) (offset length : Nat)
  deriving DecidableEq, Repr

/-! ## Host interface (13) -/

/-- The kinds of completion entries (R321). -/
inductive CplKind
  | admission | presented | markerRefused | direct | lost
  deriving DecidableEq, Repr

/-- A completion entry (R321). -/
structure Completion where
  kind : CplKind
  covered : Bool := false
  status : Nat := 0
  tag : Nat := 0
  number : Nat := 0xFFFFFFFFFFFFFFFF
  epoch : Nat := 0
  badBin : Nat := 0xFFFF
  badSub : Nat := 0xFF
  throttle : Nat := 0
  derate : Nat := 0
  sdecStatus : Nat := 0
  cost : Nat := 0
  budget : Nat := 0
  gen : Nat := 0
  sdecCount : Nat := 0
  warnStatus : Nat := 0
  eventTime : Nat := 0
  warnCount : Nat := 0
  irq : Bool := false
  deriving DecidableEq, Repr

/-- The registers of one host ring (R316, R317). -/
structure Ring where
  base : Nat := 0
  size : Nat := 0
  head : Nat := 0
  tail : Nat := 0
  en : Bool := false
  deriving DecidableEq, Repr

/-- The frame descriptor in hand (R333, R334). -/
structure FdHeld where
  addrA : Nat := 0
  addrB : Nat := 0
  epoch : Nat := 0
  tag : Nat := 0
  crcSkip : Bool := false
  irq : Bool := false
  committed : Bool := false
  active : Bool := false
  deriving DecidableEq, Repr

/-- A committed pair of frame addresses (R232). -/
structure Pair where
  a : Nat := 0
  b : Nat := 0
  crcSkip : Bool := false
  deriving DecidableEq, Repr

/-- The host interface's registers and queues (R316 to R336). (DESIGN CHOICE, log entries 2, 3, 69; PRESUMED, log entry 68.) -/
structure Hif where
  seg : Ring := {}
  fdr : Ring := {}
  cpl : Ring := {}
  phase : Bool := true
  queue : List Completion := []
  lost : Nat := 0
  lastError : Nat := 0
  cplOverflow : Bool := false
  segStalled : Bool := false
  hostSilent : Bool := false
  fallback : Bool := false
  directReq : Bool := false
  directPending : Bool := false
  direct : Bool := false
  irqStatus : Nat := 0
  irqMask : Nat := 0xFF
  msixMask : Nat := 2 ^ 128 - 1
  msixFunctionMask : Bool := false
  msixPend : Nat := 0
  msixTable : List (Nat × Nat) := []
  coalesceCount : Nat := 1
  coalesceDelay : Nat := 0
  cplSince : Nat := 0
  cplFirstAt : Option Nat := none
  apertureBase : Nat := 0
  latchSec : Nat := 0
  warnRender : Nat × Nat := (0, 0)
  warnNext : Nat × Nat := (0, 0)
  armed : Bool := false
  activity : Bool := false
  silentPeriods : Nat := 0
  linkL0 : Bool := true
  busMaster : Bool := true
  held : Option FdHeld := none
  prevFdEpoch : Option Nat := none
  fdrStale : Nat := 0
  deriving DecidableEq, Repr

/-! ## Dictionary, banks (15) -/

/-- The value store of the dictionary: keys of objects and their values, at most one entry a key. -/
abbrev Store := List (Nat × Val)

/-- An open DOMAIN transfer (R382). -/
structure Transfer where
  handle : Nat
  party : Party
  obj : Obj
  isRead : Bool
  total : Nat
  maquette : Bool := false
  data : Bytes := []
  prevOff : Option Nat := none
  prevLen : Nat := 0
  lastAt : Nat := 0
  deriving DecidableEq, Repr

/-- What the LX9 keeps for one Vipex node (R388, R390). -/
structure Node where
  id : Nat
  alive : Nat
  txn : Nat := 0
  status : Nat := 0
  deriving DecidableEq, Repr

/-- A Vipex request that waits for its tick (R373, R387): who sent it and from which address and UDP port, its type and txn_id, whether it was broadcast, and whether it repeats the message before (R388, R391). -/
structure VxReq where
  party : Party
  kind : Nat
  txn : Nat
  broadcast : Bool := false
  again : Bool := false
  src : Bytes := []
  srcPort : Nat := 0
  op : DictOp
  deriving DecidableEq, Repr

/-- A request with its carrier: over BAR2 or a Vipex message, or none of them for one handed to the engine whole (R370). -/
structure Ask where
  party : Party
  op : DictOp
  vx : Option VxReq := none
  deriving DecidableEq, Repr

/-- The BAR2 window's registers and the Vipex engine (R383 to R392). `due` holds the timed actions that TIME has run and that wait for their tick (R364, R373). -/
structure Dict where
  ready : Bool := false
  transfers : List Transfer := []
  nextHandle : Nat := 0
  status : Nat := 0
  done : Bool := false
  busy : Bool := false
  index : Nat := 0
  length : Nat := 0
  offset : Nat := 0
  handle : Nat := 0
  crc : Nat := 0
  data : Bytes := []
  nodes : List Node := []
  lastSeq : List (Nat × Nat) := []
  key : Bytes := []
  keyWritten : Bool := false
  aliveTx : Nat := 0
  txAny : Bool := false
  sessionTx : Nat := 0
  conflictAt : Option Nat := none
  authAt : Option Nat := none
  inbox : List VxReq := []
  due : List Ask := []
  deriving DecidableEq, Repr

/-- The swap in progress (R237 to R239, R376 to R380). `grid` is the new grid on which markers name epochs from a binding that changes Tf to E_r, `gridNow` the grid in force until then where it is not Cast's; `patinaSwap` says that the bound swap changes the Patina, `switched` that the scan side has taken the new bank before the swap is complete, `blank` that the interval from S to E_r runs, `dueEpoch` the epoch of a discarded bound frame. -/
structure Cfg where
  retrain : Bool := false
  changesTf : Bool := false
  patinaChanged : Bool := false
  patinaSwap : Bool := false
  audioPairs : List Nat := []
  requester : Option Ask := none
  rampDue : Bool := false
  noFrameAtBind : Bool := false
  stopEpoch : Option Nat := none
  erEpoch : Option Nat := none
  stopAt : Nat := 0
  grid : Option (Nat × Nat) := none
  copying : Bool := false
  waiting : List Ask := []
  gridNow : Option (Nat × Nat) := none
  switched : Bool := false
  dueEpoch : Option Nat := none
  blank : Bool := false
  deriving DecidableEq, Repr

/-! ## Log and faults (18, 21) -/

/-- An event-log entry (R445). -/
structure LogEntry where
  seq : Nat
  time : Nat
  code : Nat
  pinned : Bool := false
  fault : Bool := false
  unsynced : Bool := false
  param : List Nat := []
  deriving DecidableEq, Repr

/-- The log's buffers: the always-on staging buffer, Atelier's SRAM buffer, losses not yet written, and the power-on seconds at which unpinned entries reached NOR (R446 to R448). -/
structure Log where
  seq : Nat := 0
  staging : List LogEntry := []
  sram : List LogEntry := []
  lostSince : Nat := 0
  rateTimes : List Nat := []
  deriving DecidableEq, Repr

/-- A fault that remains: its family, its class within the family and which fault of the class it is (R490, R493). -/
structure FaultRec where
  family : Nat
  cls : Nat
  item : Nat
  code : Nat
  deriving DecidableEq, Repr

/-! ## Islands and functions (01) -/

/-- Power of a clock island (R25, R26). -/
inductive Pow
  | gated | powering | powered
  deriving DecidableEq, Repr

/-- One clock island (R25 to R28, R494, R495). -/
structure Island where
  pow : Pow := .gated
  lost : Bool := false
  held : Bool := false
  restarting : Bool := false
  lostAt : Nat := 0
  lastRestart : Option Nat := none
  deriving DecidableEq, Repr

/-! ## Stream decoder (03) -/

/-- A segment in the stream queue (R106, R204): the transport that delivered it and its bytes. -/
structure Seg where
  transport : Nat
  addr : Nat := 0
  bytes : Bytes
  deriving DecidableEq, Repr

/-- A status code of SDEC, FIG or RREC waiting for its completion entry, with its position in the stream (R108). -/
structure SdecCode where
  key : Nat
  code : Nat
  deriving DecidableEq, Repr

/-- The stream decoder (R76 to R108, R111). `gate` holds the segments, with their transport, that wait for the SDEC and RREC islands to be powered (R27). -/
structure Sdec where
  queue : List Seg := []
  gate : List (Nat × Bytes) := []
  inSeg : Bool := false
  rest : Bytes := []
  bad : List Nat := []
  segLen : Nat := 0
  wr : Nat := 0
  secOff : Nat := 0
  curId : Option Nat := none
  expected : Nat := 0
  pos : Nat := 0
  ordinal : Nat := 0
  frames : Nat := 0
  lastEpoch : Option Nat := none
  codes : List SdecCode := []
  stalled : Option TileUpd := none
  deriving DecidableEq, Repr

/-- The relief cache (R111 to R129). `slots` are the slots in use and their texels; `stale` what freed slots still hold. (DEDUCED, log entry 38.) -/
structure Rrec where
  dirs : List Dir := []
  nextDir : Nat := 0
  slots : List (Nat × List Texel) := []
  stale : List (Nat × List Texel) := []
  upds : List TileUpd := []
  deriving DecidableEq, Repr

/-- The admission checker (R29, R30, R192). -/
structure Adm where
  waiting : List Frame := []
  stage : AdmStage := .idle
  pending : Option Frame := none
  rendering : Option Frame := none
  deriving DecidableEq, Repr

/-! ## Calibration (05) -/

/-- What CAL fixes at the opening of a render window (R133): the Bronze image in use, the ramp's start and target Patina with its step, T_cal and the view objects. (DESIGN CHOICE, log entry 47.) -/
structure CalIn where
  bronze : Option Bytes := none
  rampS : Bytes := []
  rampG : Bytes := []
  k : Nat := 0
  n : Nat := 1
  tcal : Int := 0
  viewDistance : Nat := 12288000
  viewHeight : Int := 0
  nominalPitch : Nat := 1048576
  deriving DecidableEq, Repr

/-- Reference capture (R151 to R156): whether the run is valid, the step accepted and its attempt, the tag of the pattern frame presented, whether the step is confirmed, and when its attempt was first shown. (DESIGN CHOICE, log entry 2.) -/
structure Capture where
  valid : Bool := false
  step : Bytes := []
  attempt : Nat := 0
  presented : Option Nat := none
  confirmed : Bool := true
  shownAt : Option Nat := none
  deriving DecidableEq, Repr

/-- The calibration subsystem (R132 to R156). `hist` holds T_meas with the instants at which it changed, newest first. (DESIGN CHOICE, log entry 2.) -/
structure Cal where
  bronze : Option Bytes := none
  rampS : Bytes := []
  rampN : Nat := 1
  rampK : Nat := 0
  running : Bool := false
  tMeas : Option Int := none
  tCal : Int := 0
  tSet : Bool := false
  hist : List (Nat × Option Int) := []
  unstored : Bool := false
  noPatina : Bool := false
  single : Bool := false
  cap : Capture := {}
  deriving DecidableEq, Repr

/-! ## Ray engine (06) and panel drive (10) -/

/-- The constants of an enabled layer (R172): LR by columns x, y, w, the origin in 2^-16 mm and 1/scale in 2^-24. -/
structure LayerK where
  lx : V3
  ly : V3
  lw : V3
  o : V3
  invS : Int
  deriving DecidableEq, Repr

/-- A unit staged in a cluster (R168): its place in the frame's units, whether its staging is complete and its rendering begun, the layer constants, the texels of each tile read, and the store words and layers an error took away (R183). -/
structure Staged where
  unit : Nat
  ready : Bool := false
  started : Bool := false
  consts : List ((Nat × Nat) × LayerK) := []
  tiles : List ((Nat × Nat × Nat × Nat) × List Texel) := []
  omitted : List Nat := []
  broken : List (Nat × Nat) := []
  deriving DecidableEq, Repr

/-- One cluster: its current unit, the unit it stages, and the result buffer with the 16-bit results of the last two units it finished, newest first (R159, R168, R169). -/
structure Cluster where
  cur : Option Staged := none
  next : Option Staged := none
  results : List (Nat × List Nat) := []
  deriving DecidableEq, Repr

/-- The ray engine and the frame it renders (R159 to R184). `given` holds the islands that units of this frame were given to, `removed` those that a clock loss took (R494). -/
structure Rse where
  clusters : List Cluster := List.replicate 64 {}
  frame : Option Nat := none
  nextUnit : Nat := 0
  written : List Nat := []
  calIn : CalIn := {}
  steps : Nat := 0
  stepBound : Nat := 0
  openAt : Nat := 0
  lastDoneAt : Nat := 0
  removed : List Nat := []
  given : List Nat := []
  pattern : Bool := false
  deriving DecidableEq, Repr

/-! ## Rasp (12) -/

/-- The 2-D engine (R294 to R310). -/
structure Rasp where
  head : Nat := 0
  tail : Nat := 0
  fence : Nat := 0
  status : Nat := 0
  incomplete : List Nat := []
  published : List (Nat × Nat) := []
  draft : Nat := 0
  dirty : List Nat := []
  catchup : Bool := false
  copying : List Nat := []
  startedFrame : Option Nat := none
  lastPublish : Option Nat := none
  draws : List (Nat × Nat) := []
  deriving DecidableEq, Repr

/-! ## Panel drive and panel power (10) -/

/-- Panel drive processing (R243 to R252). `g`, `l`, `peaks`, `bands` and `ug` are what the open render window latched; `conf` is each slot's target band and the openings that formed it in a row. (DESIGN CHOICE, log entry 2.) -/
structure Pdp where
  bands : List Nat := List.replicate 32 2
  conf : List (Nat × Nat) := List.replicate 32 (0, 0)
  opened : Bool := false
  noTemp : Bool := false
  ug : List (List Nat) := List.replicate 32 [16384, 16384, 16384]
  g : Nat := 65536
  l : Nat := 65535
  peaks : List Nat := List.replicate 32 65535
  mean : Nat := 0
  sPre : Nat := 0
  sPost : Nat := 0
  n : Nat := 0
  tripped : Bool := false
  deriving DecidableEq, Repr

/-- Where a rail sequence stands; the number is the place in rail_order (R256 to R259). -/
inductive RailPhase
  | rest
  | waitPg (i : Nat)
  | stepDelay (i : Nat)
  | stopHeads
  | waitFall (i : Nat)
  | offDelay (i : Nat)
  | down (i : Nat)
  deriving DecidableEq, Repr

/-- Panel rails and hold-up (R255 to R260, R510). `en` and `dschg` are RAIL_EN and DSCHG_EN; `pfailLow` is PFAIL_N asserted at its pin; `lows` and `highs` count consecutive comparisons of each device rail out of tolerance, and `okAt` is since when all lie within it. (DESIGN CHOICE, log entry 2.) -/
structure Pwr where
  en : Nat := 0
  dschg : Nat := 0x3F
  phase : RailPhase := .rest
  since : Nat := 0
  pgLowAt : List (Nat × Nat) := []
  pfailLow : Bool := false
  pfailAt : Nat := 0
  pfailHighAt : Option Nat := some 0
  holdupAt : Nat := 0
  shed : Bool := false
  lowCause : Bool := false
  lows : List Nat := List.replicate 11 0
  highs : List Nat := List.replicate 11 0
  highAt : List (Nat × Nat) := []
  okAt : Option Nat := some 0
  deriving DecidableEq, Repr

/-! ## Panel link (11) -/

/-- Where the discovery or training of a slot stands (R280, R285, R286). -/
inductive LinkPhase
  | none
  | confirming
  | reading (tries : Nat)
  | aligning
  | waitRetry
  | sweeping
  | verifying
  | realigning
  deriving DecidableEq, Repr

/-- A sweep or verify of one lane alone (R287, R288): the lane, whether its sweep is done, and whether it is a retry. -/
structure LaneJob where
  lane : Nat
  verifying : Bool := false
  retry : Bool := false
  since : Nat := 0
  deriving DecidableEq, Repr

/-- What LINK keeps for one partner slot (R277 to R291). `logical` lists the lanes, 0 to 4, that carry logical lanes 0 to 3; `choice` the settings (lane, k) chosen in the running training; `stored` the settings chosen for a rate as (rate, lane, k); `sweeps` the last sweep of a lane as (lane, instant, day, number that day); `scram` the scrambler states of lanes 0 to 4; `desc` the valid descriptor of the board present; `teleAgain` that a telemetry read is being repeated (R291). (DESIGN CHOICE, log entry 2.) -/
structure Slot where
  present : Bool := false
  presentAt : Nat := 0
  highAt : Option Nat := none
  phase : LinkPhase := .none
  since : Nat := 0
  trainedRates : List Nat := []
  choice : List (Nat × Nat) := []
  logical : List (Option Nat) := [none, none, none, none]
  stored : List (Nat × Nat × Nat) := []
  jobs : List LaneJob := []
  sweeps : List (Nat × Nat × Nat × Nat) := []
  fed : Bool := false
  blankNext : Bool := false
  spare : Option (Nat × Nat × Nat) := none
  temp : Option Int := none
  tempAt : Nat := 0
  crcSeen : Nat := 0
  crcBase : Nat := 0
  crcLoggedAt : Option Nat := none
  sideFails : Nat := 0
  stale : Bool := false
  scram : List Nat := List.replicate 5 0x7FFFFF
  desc : Bytes := []
  teleAgain : Bool := false
  deriving DecidableEq, Repr

/-! ## Audio (16) -/

/-- A sample frame held in a ring entry whose valid bit is set (R400 to R403): the left-justified words, the samples' width, whether it belongs to a non-PCM run, and the output ports that have sent it. -/
structure SampleFrame where
  entry : Nat
  left : Nat
  right : Nat
  width : Nat
  nonPcm : Bool := false
  sent : List Nat := []
  deriving DecidableEq, Repr

/-- A stream port (R401, R402, R407). -/
structure StreamPort where
  rate : Option Nat := none
  ring : List SampleFrame := []
  nonPcm : Bool := false
  pcmRun : Nat := 0
  lateAt : Option Nat := none
  deriving DecidableEq, Repr

/-- An output port (R403, R404, R409): the next grid slot, whether a sample was presented since ON or the last step, whether a run of empty slots is under way, the measurements of LOCKED, and whether BCLK runs. -/
structure AudPort where
  next : Option Nat := none
  started : Bool := false
  inRun : Bool := false
  truncated : Bool := false
  inside : Nat := 0
  outside : Nat := 0
  bclk : Bool := false
  deriving DecidableEq, Repr

/-- The audio subsystem (R395 to R409): stream ports, output ports, the pairs whose clocks restart (R396), the pairs whose MCLK runs, and whether the family clocks F44 and F48 run (R397, R409). -/
structure Aud where
  streams : List StreamPort := List.replicate 8 {}
  ports : List AudPort := List.replicate 8 {}
  restarting : List Bool := List.replicate 4 false
  mclk : List Bool := List.replicate 4 false
  family : List Bool := [false, false]
  earlyAt : Option Nat := none
  deriving DecidableEq, Repr

/-! ## Network and time (14) -/

/-- A transmit descriptor that the port owns, with the frame it names (R344): what the frame carries and to where, its length, and the flags TS_REQ, UDP_CSUM (with the offset of the UDP header) and IRQ. -/
structure TxDesc where
  body : TxBody
  dest : Option (Bytes × Nat) := none
  len : Nat
  tsReq : Bool := false
  csum : Option Nat := none
  irq : Bool := false
  deriving DecidableEq, Repr

/-- A queue's ring in the management partition (R342 to R344): its head and tail, counted on without wrapping, and the descriptor behind the head, as written back. -/
structure NetRing where
  head : Nat := 0
  tail : Nat := 0
  last : Bytes := []
  deriving DecidableEq, Repr

/-- A network port: the rings of its four receive and four transmit queues, the transmit descriptors it owns, the addresses in use elsewhere, and its lease (R339, R340, R342). -/
structure NetPort where
  rxRing : List NetRing := [{}, {}, {}, {}]
  txRing : List NetRing := [{}, {}, {}, {}]
  tx : List (List TxDesc) := [[], [], [], []]
  conflicts : List Bytes := []
  lease : Option Nat := none
  deriving DecidableEq, Repr

/-- A master that a slot hears: its last Announce, when it came and when the one before came (R352). -/
structure Foreign where
  ann : Announce
  heardAt : Nat
  before : Option Nat := none
  deriving DecidableEq, Repr

/-- What a PTP slot keeps (R353 to R356). `samples` holds master time and display time in 2^-16 ns of the last 16 used Syncs, `delays` the last 8 measurements in 2^-16 ns, newest first. -/
structure PtpSlot where
  heard : List Foreign := []
  master : Option Bytes := none
  gm : Bytes := []
  ann : Option Announce := none
  annAt : Nat := 0
  lastUsed : Option Nat := none
  waiting : List PtpMsg := []
  syncAt : Nat := 0
  syncInterval : Int := 0
  used : Nat := 0
  samples : List (Int × Int) := []
  delays : List Int := []
  reqSeq : Nat := 0
  sent : Option (Nat × Nat) := none
  trackSince : Nat := 0
  deriving DecidableEq, Repr

/-- A timed action (R361). -/
structure Action where
  seq : Nat
  due : Nat
  kind : Nat
  flags : Nat
  vector : Nat
  index : Nat
  sub : Nat
  len : Nat
  value : Bytes
  party : Party
  deriving DecidableEq, Repr

/-- The time base (R348, R357 to R363). `adjust` is what is left of a host slew in 2^-48 ns, with its base rate; `step` the step that waits for its epoch. -/
structure Tim where
  ports : List NetPort := [{}, {}, {}]
  slots : List PtpSlot := [{}, {}]
  firstSel : Bool := false
  target : Int := 0
  base : Int := 0
  inside : Nat := 0
  outside : Nat := 0
  step : Option Int := none
  adjust : Option (Int × Int) := none
  actions : List Action := []
  deriving DecidableEq, Repr

/-! ## Memory (08) -/

/-- The priority classes of memory requests (R206). -/
inductive MemClass
  | scanout | staging | renderWrite | relief | clip | rasp | aperture
  deriving DecidableEq, Repr

/-- The number of a class (R206). -/
def MemClass.num : MemClass → Nat
  | .scanout => 1
  | .staging => 2
  | .renderWrite => 3
  | .relief => 4
  | .clip => 5
  | .rasp => 6
  | .aperture => 7

/-- One HBM stack (R39, R215, R218, R220): its refresh state, the counts that confirm a change, its last samples newest first, and what it is doing. -/
structure Stack where
  hot : Bool := false
  want : Bool := false
  pre : Bool := false
  lost : Bool := false
  bad : Nat := 0
  good : Nat := 0
  above83 : Nat := 0
  above86 : Nat := 0
  below82 : Nat := 0
  hist : List Int := []
  refreshes : Nat := 0
  busyUntil : Nat := 0
  selfRefresh : Bool := false
  trained : Bool := false
  retrained : Bool := false
  deriving DecidableEq, Repr

/-- The memory subsystem (R202 to R221). `tol` holds the tolerances that heads A and B last reported in ns; `lastReq` is when a request of classes 2 to 7 was last seen. -/
structure Mem where
  hbmStacks : List Stack := List.replicate 4 {}
  all80 : Nat := 0
  grid : Nat := 0
  tol : Nat × Nat := (0xFFFFFFFF, 0xFFFFFFFF)
  powerDown : Bool := false
  lastReq : Nat := 0
  releasedAt : Nat := 0
  filling : Bool := false
  deriving DecidableEq, Repr

/-! ## Thermal (17) -/

/-- One die sensor (R412 to R416): its value, its last own reading, its reading in the sample before, its runs of suspect and unsuspect samples, whether it is excluded, its value while a neighbour was last valid, and whether its region is unsensed. (DESIGN CHOICE, log entry 2.) -/
structure Sensor where
  val : Int := 0
  last : Option Int := none
  prev : Option Int := none
  susp : Nat := 0
  ok : Nat := 0
  excl : Bool := false
  held : Option Int := none
  unsensed : Bool := false
  trim : Int := 0
  limitLogged : Bool := false
  deriving DecidableEq, Repr

/-- Thermal sensing and protection (R412 to R426). `record` is the trip record being programmed, `tripLog` the trips not yet logged, `slots` the one-time slots used; `restarts` holds power-on seconds. -/
structure Thm where
  sensors : List Sensor := List.replicate 48 {}
  hist : List Int := []
  up : List Int := []
  down : List Int := []
  atEarly : Nat := 0
  atEm : Nat := 0
  leaveEarly : Nat := 0
  leaveEm : Nat := 0
  openRun : Nat := 0
  closeRun : Nat := 0
  coldRun : Nat := 0
  cold : Bool := false
  tripRun : Nat := 0
  limited : Bool := false
  calmSince : Option Nat := none
  learnAt : Nat := 0
  trimsSavedAt : Option Nat := none
  record : Option Bytes := none
  slots : List Bytes := []
  coarse : Option Bytes := none
  tripLog : List (Nat × Int × Option Nat) := []
  tripCount : Nat := 0
  belowSince : Option Nat := none
  restarts : List Nat := []
  lockout : Bool := false
  restarted : Bool := false
  thermtrip : Bool := false
  powerBase : Nat := 0
  deriving DecidableEq, Repr

/-! ## Atelier and the NOR store (18) -/

/-- A state record of the state journal: display time in ns, rate, UTC offset, the eight lifetime counters in the order of R449, and the trip count (R349, R421, R449). -/
structure StateRec where
  time : Nat := 0
  rate : Int := 0
  utc : Int := 37
  counters : List Nat := []
  trips : Nat := 0
  deriving DecidableEq, Repr

/-- A Patina slot: data and commit record as they read (R148), and whether the record fails its check or a read of the slot is uncorrectable (R150, R438). -/
structure PatinaSlot where
  data : Bytes := []
  record : Bytes := []
  damaged : Bool := false
  deriving DecidableEq, Repr

/-- A firmware slot with an image the Plinth has verified: the header's version, anti-rollback value, parts and least stepping (R440). -/
structure FwImage where
  version : Nat := 1
  arb : Nat := 0
  parts : Nat := 3
  stepping : Nat := 0
  deriving DecidableEq, Repr

/-- The write before the newest one of each kind in the journals, which is in force again where the newest one cannot be read (R437, R438): boot selector, configuration, state record, learned trims, coarse trip record. -/
structure NorOld where
  sel : Nat × Option Nat × Bool := (0, none, false)
  config : Option (Nat × Store) := none
  saved : Option StateRec := none
  trims : List Int := []
  coarse : Option Bytes := none
  deriving DecidableEq, Repr

/-- What the NOR device holds (R435, R442). `config` is the stored configuration with its generation, `torn` the areas with a torn write, `old` the writes before the newest ones. (DESIGN CHOICE, log entry 3.) -/
structure Nor where
  fw : List (Option FwImage) := [some {}, none]
  bronze : List Bytes := [[], []]
  patina : List PatinaSlot := [{}, {}]
  config : Option (Nat × Store) := none
  active : Nat := 0
  trial : Option Nat := none
  attempted : Bool := false
  saved : Option StateRec := none
  coarse : Option Bytes := none
  coarseCount : Nat := 0
  trims : List Int := []
  limits : List Bytes := []
  ring : List LogEntry := []
  pinned : List LogEntry := []
  torn : List Nat := []
  old : NorOld := {}
  deriving DecidableEq, Repr

/-- Write the boot selector's record (R442). -/
def Nor.setSel (n : Nor) (active : Nat) (trial : Option Nat) (attempted : Bool) : Nor :=
  { n with active := active, trial := trial, attempted := attempted, old := { n.old with sel := (n.active, n.trial, n.attempted) } }

/-- The offsets at which the areas of NOR begin, in the order of the table (R435). -/
def norBases : List Nat := [0, 0x10000, 0x20000, 0x820000, 0x1020000, 0x1430000, 0x1840000, 0x1C50000, 0x2060000, 0x2260000, 0x22A0000, 0x24B0000, 0x25B0000]

/-- The area of an address by its place in the table (R435). -/
def norArea (a : Nat) : Nat := (norBases.filter (· ≤ a)).length - 1

/-- What an uncorrectable read takes: a slot or copy is invalid, a journal record counts as torn and the one before is in force, a log entry is lost (R438). (DESIGN CHOICE, log entry 130.) -/
def Nor.lose (n : Nor) (u : NorUe) : Nor :=
  let k := norArea u.addr
  let n : Nor := if k = 1 ∨ k = 8 ∨ k = 9 then { n with torn := n.torn ++ [k] } else n
  match k, u.hit with
  | 1, .newest => { n with active := n.old.sel.1, trial := n.old.sel.2.1, attempted := n.old.sel.2.2 }
  | 2, _ => { n with fw := setAt n.fw 0 none }
  | 3, _ => { n with fw := setAt n.fw 1 none }
  | 4, _ => { n with bronze := setAt n.bronze 0 [] }
  | 5, _ => { n with bronze := setAt n.bronze 1 [] }
  | 6, _ => { n with patina := modAt n.patina 0 fun x => { x with damaged := true } }
  | 7, _ => { n with patina := modAt n.patina 1 fun x => { x with damaged := true } }
  | 8, .newest => { n with config := n.old.config }
  | 9, .newest => { n with saved := n.old.saved }
  | 9, .trims => { n with trims := n.old.trims }
  | 9, .coarse => { n with coarse := n.old.coarse }
  | 10, .entry q => { n with ring := n.ring.filter fun e => e.seq != q }
  | 11, .entry q => { n with pinned := n.pinned.filter fun e => e.seq != q }
  | _, _ => n

/-- The instructions of the JTAG port (R512). -/
inductive JtagInstr
  | bypass | idcode | sample | extest | other
  deriving DecidableEq, Repr

/-- A CRC unit of Atelier (R450 to R453). -/
structure CrcUnit where
  reg : Nat := 0xFFFFFFFF
  count : Nat := 0
  aliveErr : Bool := false
  result : Nat := 0
  deriving DecidableEq, Repr

/-- Atelier (R428 to R444): power-on seconds of the fault resets, when the warm reset began, since when it runs, whether a trial image runs, the staged update image, the start being timed, and the CRC units. (DESIGN CHOICE, log entry 2.) -/
structure Atl where
  faultResets : List Nat := []
  resetAt : Nat := 0
  runningSince : Nat := 0
  trialRuns : Bool := false
  bootSlot : Option Nat := none
  image : Bytes := []
  updateTries : Nat := 0
  startAt : Nat := 0
  startTimed : Bool := true
  wasRecovery : Bool := false
  storeTries : Nat := 0
  patinaTries : Nat := 0
  patinaTarget : Nat := 0
  patinaImage : Bytes := []
  configImage : Store := []
  configGen : Nat := 0
  crc : List CrcUnit := List.replicate 4 {}
  deriving DecidableEq, Repr

/-! ## Plinth (19) -/

/-- A staged limit set (R462): the set, the new site key it carries, and the owner's signature. -/
structure Stage where
  set : Bytes
  key : Bytes := []
  sig : Bytes
  deriving DecidableEq, Repr

/-- The Plinth (R456 to R468): OTP, the stage under verification or standing, the window, agreement, CONSENT_N, the record in force and the watchdog. (DESIGN CHOICE, log entry 3.) -/
structure Pln where
  siteKeys : List Bytes := List.replicate 4 (zeros 96)
  ceilings : Bytes := leBytes 2 65535 ++ leBytes 2 65535 ++ leBytes 2 1000 ++ leBytes 2 1840 ++ leBytes 4 1 ++ leBytes 4 120
  arb : Nat := 0
  verifying : Option Stage := none
  stage : Option Stage := none
  windowEnd : Nat := 0
  confirming : Option Bytes := none
  siteSig : Bytes := []
  byConsent : Bool := false
  consentLow : Bool := false
  lowSince : Nat := 0
  fellAt : Option Nat := none
  stuck : Bool := false
  activeSlot : Option Nat := none
  toWrite : Option Bytes := none
  armed : Bool := false
  deadline : Nat := 0
  token : BitVec 16 := 0
  badKick : Bool := false
  deriving DecidableEq, Repr

/-! ## Clip store (20) -/

/-- A clip table entry that is not FREE (R475). -/
structure Clip where
  id : Nat
  state : Nat
  frames : Nat := 0
  start : Nat := 0
  blocks : Nat := 0
  len : Nat := 0
  bMax : Nat := 0
  span : Nat := 0
  tfNum : Nat := 1
  tfDen : Nat := 60
  created : Nat := 0
  deriving DecidableEq, Repr

/-- A drive (R472 to R474): its capacity, its header (layout, drive index, volume_id), the two table copies with their generations, and the instants of its failures. -/
structure Drive where
  capacity : Nat := 0
  header : Option (Nat × Nat × Nat) := none
  copyA : Option (Nat × List Clip) := none
  copyB : Option (Nat × List Clip) := none
  fails : List Nat := []
  deriving DecidableEq, Repr

/-- A play (R481 to R485): the clip, the passes asked for (0: endless), the pass, the base epoch of pass 0, the bytes passed on, the frame read next, and the bytes of the read in flight with its drive and start. -/
structure Play where
  clip : Nat
  passes : Nat
  pass : Nat := 0
  start : Nat
  pos : Nat := 0
  frame : Nat := 0
  reading : Option (Nat × Nat × Nat) := none
  fallback : Bool := false
  deriving DecidableEq, Repr

/-- The clip store (R472 to R487). `data` holds the bytes of each clip; `marks` the frame boundaries of each clip as end offsets. -/
structure Clp where
  drives : List Drive := [{}, {}]
  table : List Clip := []
  gen : Nat := 0
  data : List (Nat × Bytes) := []
  cmd : Option Bytes := none
  play : Option Play := none
  savedSource : Nat := 0
  fallbackDue : Bool := false
  volumes : Nat := 0
  deriving DecidableEq, Repr

/-! ## Scanout (09) -/

/-- A head line that SCAN has read ahead (R214): its head and number, the addresses of the line and of its CRC entry, and their bytes as read. -/
structure FifoLine where
  head : Nat
  line : Nat
  addr : Nat
  entryAddr : Nat
  data : Bytes
  entry : Bytes
  deriving DecidableEq, Repr

/-- The scanout heads and their registers (R228 to R240). `line` is the line sent next, `idleUntil` the epoch until which the lanes idle after an abort, `startAt` since when a STARTING head has met its conditions on the model's clock, `firstScan` that the frame in the SCAN role has not been scanned whole, `spoilt` why it is not presented at its epoch although it is scanned on: the code of a line sent as zeros, or 0 where a head the panel uses does not send, `stopCode` the code of the fault that stopped the heads since none has sent, `resync` the code of a resync that waits for the end of the line in progress, `newPair` that a pair has become active since the last epoch, `fifo` the lines read ahead (R214), `directTag` the host frame whose DIRECT entry is due. (DESIGN CHOICE, log entry 2.) -/
structure Scan where
  bufs : List Buf := [{}, {}, {}]
  pend : Option Pair := none
  active : Pair := {}
  addrA : Nat := 0
  addrB : Nat := 0
  commitResult : Nat := 0
  latches : List (Nat × Nat) := []
  line : Nat := 0
  running : Bool := false
  idleUntil : Option Nat := none
  goodCount : Nat := 0
  badCount : Nat := 0
  phaseAdjust : Int := 0
  pllRate : Int := 0
  startAt : List (Nat × Nat) := []
  firstScan : Bool := false
  spoilt : Option Nat := none
  stopCode : Option Nat := none
  resync : Option Nat := none
  newPair : Bool := false
  fifo : List FifoLine := []
  lineZeroAt : Nat := 0
  blankUntilNew : Bool := false
  holdValid : Bool := false
  directTag : Option FdHeld := none
  deriving DecidableEq, Repr

end Sys2Proof.Machine
end

