-- ==== Sys2Proof/Machine/State.lean ====
section
/-! DEFINITION. The state of the block: every register, queue, buffer, mode and pin the spec gives it, as plain data, and the queue of waiting commands. -/

namespace Sys2Proof.Machine

/-- Why a command stops the model. No command of this block stops it: every rule of the spec gives an effect, so the type has no constructor. -/
inductive Fault
  deriving DecidableEq, Repr

/-- Why a command is refused. -/
inductive Refusal
  /-- The command has no meaning yet. Raised by an arm of `exec` alone; safe, since nothing is claimed of the command. -/
  | notModelled (mnemonic : String)
  deriving DecidableEq, Repr

/-- The clock of the model and of TIME (R17, R348, R350). `now` counts ns since the supply came up, `disp` is display time in units of 2^-32 ns since the PTP epoch. -/
structure Clock where
  now : Nat := 0
  disp : Nat := 0
  rem : Nat := 0
  epoch : Nat := 0
  deriving DecidableEq, Repr

/-- The state of the block. `obj` holds the values of the objects that exist once, `cast` and `maq` the two banks of the shadowed ones; an object with no entry has its card's default. `out` is the model's own trace of what left the block, newest first; `free` is the model's own counter of free values drawn. -/
structure State where
  part : Part := .h4
  die : Die := .inReset
  stop : StopCause := .none
  clk : Clock := {}
  obj : Store := []
  cast : Store := []
  maq : Store := []
  cfg : Cfg := {}
  held : List Fn := []
  isl : List Island := List.replicate 32 {}
  hbm : List Host.Cell := []
  figs : List Figure := []
  sdec : Sdec := {}
  rrec : Rrec := {}
  adm : Adm := {}
  cal : Cal := {}
  rse : Rse := {}
  pdp : Pdp := {}
  pwr : Pwr := {}
  link : List Slot := List.replicate 32 {}
  scan : Scan := {}
  rasp : Rasp := {}
  aud : Aud := {}
  tim : Tim := {}
  mem : Mem := {}
  thm : Thm := {}
  nor : Nor := {}
  atl : Atl := {}
  pln : Pln := {}
  clp : Clp := {}
  hif : Hif := {}
  dict : Dict := {}
  log : Log := {}
  flt : List FaultRec := []
  out : List Out := []
  pending : List Instr := []
  free : Nat := 0
  deriving DecidableEq, Repr

/-- The state right after reset: RESET_N held low (R507), nothing stored, every object at its card's default. (DESIGN CHOICE, log entries 2, 3.) -/
def State.reset : State := {}

end Sys2Proof.Machine
end

