-- ==== Sys2Proof/Machine/Ops.lean ====
section
/-! DEFINITION. The operations every subsystem shares: objects, time, memory, interrupts, completion entries, the event log and the fault classes. -/

namespace Sys2Proof.Machine

/-! ## Values and objects -/

/-- The value as an integer. -/
def Val.toInt : Val → Int
  | .num v => v
  | .oct _ => 0

/-- The value as bytes. -/
def Val.toBytes : Val → Bytes
  | .num _ => []
  | .oct bs => bs

/-- The value stored under a key. -/
def storeGet : Store → Nat → Option Val
  | [], _ => none
  | (k, v) :: st, q => if k = q then some v else storeGet st q

/-- The store with a key's value replaced or added; the keys stay in rising order. -/
def storeSet : Store → Nat → Val → Store
  | [], q, w => [(q, w)]
  | (k, v) :: st, q, w =>
    if k = q then (q, w) :: st
    else if q < k then (q, w) :: (k, v) :: st
    else (k, v) :: storeSet st q w

/-- The card's default on this part (R3, R5): the H2 differs in its stack count, memory, relief cache, staging rate and device ID. Three of the identity objects are set at manufacture (R369). (DESIGN CHOICE, log entry 2.) -/
def dfltOn (p : Part) (o : Obj) : Val :=
  if o.index = 0x0000 ∧ o.sub = 4 then .oct Config.serialNumber
  else if o.index = 0x0000 ∧ o.sub = 5 then .num Config.dieStepping.toNat
  else if o.index = 0x0003 ∧ o.sub = 1 then .oct Config.macBase
  else match p with
  | .h4 => o.dflt
  | .h2 =>
    if o = O.hbmStackCount then .num 2
    else if o = O.reliefSlotCount ∨ o = O.reliefSlotFree then .num 1966080
    else if o = O.reliefDirEntries ∨ o = O.reliefDirFree then .num 33554432
    else if o = O.admStageRate then .num 1280
    else if o = O.memCapacity then .num 48000000000
    else if o = O.memPcCount then .num 64
    else if o = O.pcieDeviceId then .num 0x09A2
    else if o = O.orderingCode then .oct [79#8, 68#8, 45#8, 76#8, 88#8, 57#8, 45#8, 72#8, 50#8]
    else o.dflt

/-! ## The clock (R348) -/

/-- `n` TIME island clocks at a rate: display time, with the remainder of R348 below it, advances by n x (2^48 + rate) in units of 2^-48 ns. (DEDUCED, log entry 112.) -/
def tickBy (c : Clock) (rate : Int) (n : Nat) : Clock :=
  let total := c.disp * 65536 + c.rem + n * (2 ^ 48 + rate).toNat
  { c with now := c.now + n, disp := total / 65536, rem := total % 65536 }

/-- The clocks that TIME needs to reach an instant of display time. -/
def ticksTo (c : Clock) (rate : Int) (t : Nat) : Nat := ceilDiv (t * 2 ^ 48 - (c.disp * 65536 + c.rem)) (max 1 (2 ^ 48 + rate).toNat)

namespace State

/-- The store an object lives in: Cast for a shadowed one (R371). -/
def storeOf (s : State) (o : Obj) : Store := if o.access = .rws then s.cast else s.obj

/-- The value of an object; of a shadowed one, in Cast. -/
def val (s : State) (o : Obj) : Val := (storeGet (s.storeOf o) o.key).getD (dfltOn s.part o)

/-- The Maquette value of a shadowed object. -/
def valM (s : State) (o : Obj) : Val := (storeGet s.maq o.key).getD (dfltOn s.part o)

/-- The value of a shadowed object in the bank a swap is bringing (`true`) or in Cast (`false`) (R43). -/
def valB (s : State) (newBank : Bool) (o : Obj) : Val := if newBank then s.valM o else s.val o

/-- The value as an integer. -/
def int (s : State) (o : Obj) : Int := (s.val o).toInt

/-- The value as a natural number. -/
def nat (s : State) (o : Obj) : Nat := (s.val o).toInt.toNat

/-- The value as a Bool. -/
def flag (s : State) (o : Obj) : Bool := (s.val o).toInt != 0

/-- The value as bytes. -/
def oct (s : State) (o : Obj) : Bytes := (s.val o).toBytes

/-- The value in the chosen bank as a natural number. -/
def natB (s : State) (newBank : Bool) (o : Obj) : Nat := (s.valB newBank o).toInt.toNat

/-- The value in the chosen bank as bytes. -/
def octB (s : State) (newBank : Bool) (o : Obj) : Bytes := (s.valB newBank o).toBytes

/-- Store a value: shadowed objects into Cast, every other one into its only place. -/
def putV (s : State) (o : Obj) (v : Val) : State :=
  if o.access = .rws then { s with cast := storeSet s.cast o.key v } else { s with obj := storeSet s.obj o.key v }

/-- Store a Maquette value (R371). -/
def putM (s : State) (o : Obj) (v : Val) : State := { s with maq := storeSet s.maq o.key v }

/-- Store a number, reduced to the object's width. -/
def put (s : State) (o : Obj) (v : Int) : State := s.putV o (.num (o.ty.fit v))

/-- Store bytes. -/
def putO (s : State) (o : Obj) (bs : Bytes) : State := s.putV o (.oct bs)

/-- Store a Bool. -/
def putB (s : State) (o : Obj) (b : Bool) : State := s.put o (b2n b)

/-- Add to a counter, which saturates at its type's largest value (R73, R110 and every counter card). -/
def bumpBy (s : State) (o : Obj) (n : Nat) : State := s.put o (satAdd (8 * (o.ty.width.getD 4)) (s.nat o) n)

/-- Add 1 to a counter. -/
def bump (s : State) (o : Obj) : State := s.bumpBy o 1

/-! ## Time -/

/-- Display time in whole ns since the PTP epoch (R348). -/
def ns (s : State) : Nat := s.clk.disp / 2 ^ 32

/-- Move the clock to an instant of display time that lies ahead: the event that names the instant has come. (DESIGN CHOICE, log entry 6.) -/
def reach (s : State) (t : Nat) : State :=
  if s.ns < t then { s with clk := tickBy s.clk (s.int O.timeRate) (ticksTo s.clk (s.int O.timeRate) t) } else s

/-- Let time pass up to an instant of the model's own clock; display time counts on while TIME has its clock. (DESIGN CHOICE, log entry 6.) -/
def elapseTo (s : State) (t : Nat) : State :=
  if s.clk.now < t then
    if (s.isl.getD 5 {}).lost then { s with clk := { s.clk with now := t } }
    else { s with clk := tickBy s.clk (s.int O.timeRate) (t - s.clk.now) }
  else s

/-- Tf of the Cast bank: numerator and denominator (R17). -/
def castTf (s : State) : Nat × Nat := (s.nat O.tfNum, s.nat O.tfDen)

/-- Tf of the grid in force: Cast's, but the old one between S and E_r of a swap that changes Tf (R238, R350). -/
def tf (s : State) : Nat × Nat := s.cfg.gridNow.getD s.castTf

/-- The instant of epoch `k` on the grid of (num, den): k x num x 10^9 / den, rounded half-even to 1 ns (R350). -/
def epochAt (tf : Nat × Nat) (k : Nat) : Nat := (rhe (k * tf.1 * 1000000000 : Nat) tf.2).toNat

/-- The current epoch k = floor(t x den / (num x 10^9)) (R350). -/
def epochOf (tf : Nat × Nat) (t : Nat) : Nat := t * tf.2 / (tf.1 * 1000000000)

/-- The current epoch on the grid in force (R350). -/
def curEpoch (s : State) : Nat := epochOf s.tf s.ns

/-- The instant of an epoch on the grid in force. -/
def tEpoch (s : State) (k : Nat) : Nat := epochAt s.tf k

/-- Draw the number of a free value. (DESIGN CHOICE, log entry 9.) -/
def drawFree (s : State) : State := { s with free := s.free + 1 }

/-! ## Outputs and interrupts -/

/-- Something leaves the block. (DESIGN CHOICE, log entry 10.) -/
def emit (s : State) (o : Out) : State := { s with out := o :: s.out }

/-- Several things leave the block, in order. -/
def emits (s : State) (os : List Out) : State := os.foldl emit s

/-- Send an MSI-X vector, or mark it pending while its per-vector mask or the function mask is set (R327). -/
def sendVector (s : State) (v : Nat) : State :=
  if bitOf s.hif.msixMask v || s.hif.msixFunctionMask then { s with hif := { s.hif with msixPend := Nat.lor s.hif.msixPend (2 ^ v) } }
  else s.emit (.msix v)

/-- Set a cause in IRQ_STATUS; the message goes out when the bit rises unmasked (R326, R327). -/
def irq (s : State) (b : Nat) : State :=
  if bitOf s.hif.irqStatus b then s
  else
    let s := { s with hif := { s.hif with irqStatus := Nat.lor s.hif.irqStatus (2 ^ b) } }
    if bitOf s.hif.irqMask b then s else s.sendVector b

/-- LAST_ERROR of HIF_STATUS takes a code; a change raises HIF_ERROR (R316, R326). -/
def lastError (s : State) (code : Nat) : State :=
  if s.hif.lastError = code then s
  else ({ s with hif := { s.hif with lastError := code } } : State).irq 7

/-! ## Event log -/

/-- Whether R447 (with R429, R199 and the status tables) pins a code. -/
def isPinned (code : Nat) : Bool :=
  [0x1009, 0x1301, 0x120D, 0x120E, 0x120F, 0x1216, 0x0910, 0x0911, 0x1103, 0x1201, 0x1202, 0x1205, 0x1204, 0x1210].contains code

/-- Post an entry into the staging buffer of 256 entries; a full buffer loses it (R446, R448). -/
def postWith (s : State) (fault : Bool) (code : Nat) (param : List Nat) : State :=
  let s :=
    if 256 ≤ s.log.staging.length then
      ({ s with log := { s.log with lostSince := s.log.lostSince + 1 } } : State).bump O.logLostCount
    else
      let e : LogEntry := { seq := s.log.seq, time := s.ns, code := code, pinned := isPinned code, fault := fault, unsynced := s.nat O.timeState == 0, param := param }
      { s with log := { s.log with seq := (s.log.seq + 1) % 2 ^ 32, staging := s.log.staging ++ [e] } }
  if fault then ((s.bump O.faultTotalCount).put O.faultLastCode code).irq 5 else s

/-- Log a code that is no fault-class code. -/
def post (s : State) (code : Nat) (param : List Nat := []) : State := s.postWith false code param

/-- Log a fault-class code (R491). -/
def postFault (s : State) (code : Nat) (param : List Nat := []) : State := s.postWith true code param

/-- Log a code and record it as its subsystem's last status. -/
def note (s : State) (o : Obj) (code : Nat) (param : List Nat := []) : State := (s.put o code).post code param

/-! ## The promise (R198) -/

/-- Clear COVERED on every admitted frame that is not yet presented (R197). (DEDUCED, log entry 42.) -/
def uncover (s : State) : State :=
  let u : Frame → Frame := fun f => { f with covered := false }
  let b : Buf → Buf := fun x => if x.role = .render ∨ x.role = .committed then { x with frame := x.frame.map u } else x
  { s with
    adm := { s.adm with pending := s.adm.pending.map u, rendering := s.adm.rendering.map u }
    scan := { s.scan with bufs := s.scan.bufs.map b } }

/-- A cause of R198 begins: 0x0910 with the cause, pinned. -/
def suspend (s : State) (bit : Nat) : State :=
  if bitOf (s.nat O.admSuspendCauses) bit then s
  else (((((s.put O.admSuspendCauses (Nat.lor (s.nat O.admSuspendCauses) (2 ^ bit))).put O.admPromiseState 1).bump
    O.admSuspendCount).post 0x0910 [bit]).uncover)

/-- A cause of R198 ends; 0x0911 when none remains. -/
def resume (s : State) (bit : Nat) : State :=
  if bitOf (s.nat O.admSuspendCauses) bit then
    let m := s.nat O.admSuspendCauses - 2 ^ bit
    let s := s.put O.admSuspendCauses m
    if m = 0 then (s.put O.admPromiseState 0).post 0x0911 else s
  else s

/-! ## Faults (R490 to R498) -/

/-- The families of R493 that can hold a second fault in a class. -/
def secondFamilies : List Nat := [0, 1, 3, 8, 12]

/-- How many faults of a class remain. (DESIGN CHOICE, log entry 113.) -/
def faultCount (s : State) (fam cls : Nat) : Nat := (s.flt.filter fun f => f.family == fam && f.cls == cls).length

/-- The families with a remaining fault, as `fault_active` shows them. (DESIGN CHOICE, log entry 113.) -/
def activeMask (s : State) : Nat := maskOf ((List.range 16).map fun f => s.flt.any (·.family == f))

/-- The families with two faults in one class, as `fault_defeated` shows them (R496). -/
def defeatedMask (s : State) : Nat :=
  maskOf ((List.range 16).map fun f => s.flt.any fun x => x.family == f && 2 ≤ s.faultCount f x.cls)

/-- The islands held under R494 or R495. -/
def heldMask (s : State) : Nat := maskOf (s.isl.map (·.held))

/-- The level of FAULT_N under R498 (true: asserted). -/
def faultN (s : State) : Bool :=
  s.defeatedMask != 0 || s.heldMask != 0 || s.flt.any (fun f => f.family == 14 && f.code == 0x0A01) ||
  s.flt.any (·.family == 13) || s.nat O.atlState == 3 || s.nat O.atlState == 4

/-- Bring the fault objects, cause bit 3 of R198 and FAULT_N up to date with the remaining faults (R496, R498). -/
def refreshFaults (s : State) : State :=
  let s := ((s.put O.faultActive s.activeMask).put O.faultDefeated s.defeatedMask).put O.clockHeldMask s.heldMask
  let s := if s.defeatedMask != 0 then s.suspend 3 else s.resume 3
  s.putB O.faultNAsserted s.faultN

/-- A fault is detected: it remains, is counted and reported with its family's code (R490, R491). `posts` is false where the code carries no FAULT. (DESIGN CHOICE, log entry 113.) -/
def raise (s : State) (fam cls item code : Nat) (param : List Nat := []) : State :=
  let old := s.flt.filter fun f => !(f.family == fam && f.cls == cls && (f.item == item || !secondFamilies.contains fam))
  let s := { s with flt := old ++ [({ family := fam, cls := cls, item := item, code := code } : FaultRec)] }
  ((s.bump (O.faultFamilyCount fam)).postFault code param).refreshFaults

/-- Faults end: those of the family for which the test holds. -/
def settleIf (s : State) (fam : Nat) (p : FaultRec → Bool) : State :=
  if s.flt.any (fun f => f.family == fam && p f) then
    ({ s with flt := s.flt.filter fun f => !(f.family == fam && p f) } : State).refreshFaults
  else s

/-- Every fault of a class ends. (DESIGN CHOICE, log entry 113.) -/
def settle (s : State) (fam cls : Nat) : State := s.settleIf fam fun f => f.cls == cls

/-- One fault of a class ends. -/
def settleItem (s : State) (fam cls item : Nat) : State := s.settleIf fam fun f => f.cls == cls && f.item == item

/-! ## Completion entries (R321 to R324) -/

/-- One more warning in a tally of the first code and the number, at most 65,535 (R321). (DEDUCED, log entry 74.) -/
def addWarn (w : Nat × Nat) (code : Nat) : Nat × Nat := (if w.1 = 0 then code else w.1, min (w.2 + 1) 65535)

/-- A warning raised by the frame that is staged or renders: its own PRESENTED entry carries it (R180, R183, R249, R322). -/
def warnRender (s : State) (code : Nat) : State :=
  { s with hif := { s.hif with warnRender := addWarn s.hif.warnRender code } }

/-- An entry joins the internal queue of 256 entries, or is lost (R324). -/
def complete (s : State) (c : Completion) : State :=
  if 256 ≤ s.hif.queue.length then
    ((({ s with hif := { s.hif with cplOverflow := true, lost := s.hif.lost + 1 } } : State).bump O.cplLostCount).put
      O.hifLastStatus 0x010A).lastError 0x010A
  else { s with hif := { s.hif with queue := s.hif.queue ++ [c] } }

/-! ## HBM (R203 to R205) -/

/-- The byte at an address; an unlisted one reads 0, the fill of R219. (DEDUCED, log entry 15.) -/
def memGet : List Host.Cell → Nat → Byte
  | [], _ => 0
  | (k, v) :: m, a => if k = a then v else memGet m a

/-- The memory with one byte written. Cells stay in rising order of address, and none holds 0. -/
def memSet : List Host.Cell → Nat → Byte → List Host.Cell
  | [], a, b => if b = 0 then [] else [(a, b)]
  | (k, v) :: m, a, b =>
    if k = a then (if b = 0 then m else (a, b) :: m)
    else if a < k then (if b = 0 then (k, v) :: m else (a, b) :: (k, v) :: m)
    else (k, v) :: memSet m a b

/-- The memory with a byte string written from an address on. -/
def memWrite : List Host.Cell → Nat → Bytes → List Host.Cell
  | m, _, [] => m
  | m, a, b :: bs => memWrite (memSet m a b) (a + 1) bs

/-- `n` bytes from an address on. -/
def hbmRead (s : State) (a n : Nat) : Bytes := (List.range n).map fun i => memGet s.hbm (a + i)

/-- A request of classes 2 to 7 reaches MEM: it wakes the stacks, but in hold-up (R218). (DEDUCED, log entry 32.) -/
def memRequest (s : State) : State :=
  let wake : Stack → Stack := fun x => { x with selfRefresh := x.selfRefresh && s.pwr.shed }
  { s with mem := { s.mem with lastReq := s.clk.now, hbmStacks := s.mem.hbmStacks.map wake } }

/-- Write bytes from an address on. -/
def hbmWrite (s : State) (a : Nat) (bs : Bytes) : State := ({ s with hbm := memWrite s.hbm a bs } : State).memRequest

/-- The data capacity in bytes (R202). -/
def memTop (s : State) : Nat := if s.part = .h4 then 96000000000 else 48000000000

/-- The pseudo-channel of an address: the granule's place on the P pseudo-channels (R203). -/
def pcOf (s : State) (a : Nat) : Nat :=
  let p := if s.part = .h4 then 128 else 64
  let g := a / 128
  let q := g / p
  Nat.xor (Nat.xor (g % p) (q % p)) (q / p % p)

/-- The byte offset of an address within its pseudo-channel (R203). -/
def pcOffset (s : State) (a : Nat) : Nat :=
  a / 128 / (if s.part = .h4 then 128 else 64) * 128 + a % 128

/-- The stack of an address (R203). -/
def stackOf (s : State) (a : Nat) : Nat := s.pcOf a / 32

/-- The channel of an address within its stack (R203). -/
def channelOf (s : State) (a : Nat) : Nat := s.pcOf a / 2 % 16

/-- The pseudo-channel of an address within its channel (R203). -/
def pseudoOf (s : State) (a : Nat) : Nat := s.pcOf a % 2

/-- The partition of an address, by its place in the table of R204. -/
def partitionOf (s : State) (a : Nat) : Nat :=
  let dir := if s.part = .h4 then 0x374000000 else 0x2F4000000
  let pool := if s.part = .h4 then 0x1574000000 else 0xA74000000
  if a < 0x10000000 then 0 else if a < 0x20000000 then 1 else if a < 0x30000000 then 2 else if a < 0x40000000 then 3
  else if a < 0x80000000 then 4 else if a < 0xC0000000 then 5 else if a < 0x270000000 then 6 else if a < 0x274000000 then 7
  else if a < dir then 8 else if a < pool then 9 else 10

/-- An uncorrectable sector was read (R216): the objects of R221 and 0x0A02, with FAULT only for frame-buffer lines read by SCAN. (DESIGN CHOICE, log entry 18.) -/
def eccUncorrectable (s : State) (addr : Nat) (cls : MemClass) (fault : Bool := false) : State :=
  let s := (((s.put O.memLastUeAddr addr).put O.memLastUeClass cls.num).put O.memLastStatus 0x0A02).bump (O.memEccUncorrectable (s.stackOf addr))
  s.postWith fault 0x0A02 [addr, s.partitionOf addr, cls.num]

/-- Several uncorrectable sectors read by one class, none of them by SCAN (R216). (DESIGN CHOICE, log entry 18.) -/
def eccAll (s : State) (cls : MemClass) (addrs : List Nat) : State := addrs.foldl (fun s a => s.eccUncorrectable (a / 32 * 32) cls) s

/-- Sectors whose single-bit error a read corrects: they are counted by stack, and the corrected data is written back in class 7 (R216, R217, R221). (DESIGN CHOICE, log entry 18.) -/
def eccCorrected (s : State) (addrs : List Nat) : State :=
  addrs.foldl (fun s a => if a < s.memTop then (s.bump (O.memEccCorrected (s.stackOf a))).memRequest else s) s

/-! ## Islands and functions -/

/-- An island. -/
def island (s : State) (i : Nat) : Island := s.isl.getD i {}

/-- Change an island. -/
def modIsl (s : State) (i : Nat) (f : Island → Island) : State := { s with isl := s.isl.modify i f }

/-- Power a gated island up; it is ready at ISLAND_POWERED (R26). -/
def powerIsl (s : State) (i : Nat) : State :=
  s.modIsl i fun x => if x.pow = .gated ∧ ¬ x.held then { x with pow := .powering } else x

/-- Gate an island. -/
def gateIsl (s : State) (i : Nat) : State := s.modIsl i fun x => { x with pow := .gated }

/-- The islands whose clocks hold-up gates at 1 ms: RSE, CAL, PDP, SDEC, RREC, RASP, SCAN, LINK, DATA0 and DATA1 (R259). -/
def shedIslands : List Nat := [3, 4, 6, 7, 9, 10, 11, 12, 13, 14, 15, 16, 17, 22, 23, 24, 25, 26, 27]

/-- Whether an island is powered and clocked. -/
def islandUp (s : State) (i : Nat) : Bool :=
  let x := s.island i
  x.pow = .powered && !x.lost && !x.held && !(s.pwr.shed && shedIslands.contains i)

/-- Whether commands of the running die have effect. (DESIGN CHOICE, log entry 5.) -/
def live (s : State) : Bool := s.die == .running

/-- Run an operation while the die runs; in reset and while it is stopped the command finds nothing to act on. (DESIGN CHOICE, log entry 5.) -/
def ifLive (s : State) (f : State → State) : State := if s.live then f s else s

end State

end Sys2Proof.Machine
end

