-- ==== Sys2Proof/Machine/Flags.lean ====
section
/-! DEFINITION. Bits and status computations: the register bit maps of BAR0 and BAR2, and the one-deep slot of the switchable functions (R44, R45, R316, R383). -/

namespace Sys2Proof.Machine

/-- HIF_CONTROL as it reads (R316). -/
def hifControl (h : Hif) : Nat := maskOf [h.seg.en, h.fdr.en, h.cpl.en, h.directReq]

/-- HIF_STATUS as it reads (R316). -/
def hifStatus (h : Hif) : Nat :=
  maskOf [h.direct, h.directPending, h.cplOverflow, h.segStalled, h.hostSilent, h.fallback] + h.lastError * 65536

/-- FRAME_STATUS as it reads (R234). -/
def frameStatus (s : State) : Nat :=
  maskOf [s.scan.pend.isSome, s.scan.active.crcSkip, s.hif.direct, s.nat O.scanLockState == 2] + s.scan.commitResult * 65536

/-- The line in progress: SCAN_LINE has sent it, and `scan.line` is the next one (R231, R234). -/
def State.lineNow (s : State) : Nat := s.scan.line - 1

/-- SCAN_POSITION as it reads: LINE, and BLANKING outside the active lines and while the lanes are idle (R234). -/
def scanPosition (s : State) : Nat :=
  let idle := !s.scan.running || (s.scan.idleUntil.isSome && s.scan.resync.isNone)
  s.lineNow % 32768 + (if idle || s.nat O.headVActive ≤ s.lineNow then 2 ^ 31 else 0)

/-- What a read of a high half returns: the value that the last read of the same register's low half latched, else 0 (R234). -/
def regHigh (s : State) (off : Nat) : Nat := ((s.scan.latches.find? fun x => x.1 == off).map (·.2)).getD 0

/-- DICT_STATUS as it reads (R383). (DESIGN CHOICE, log entry 76.) -/
def dictStatus (d : Dict) : Nat := maskOf [d.busy, d.done] + d.status * 65536

/-- Whether FAULT_N is asserted at its pin: also while RESET_N is low (R498, R507). -/
def faultPin (s : State) : Bool := s.die == .inReset || s.flag O.faultNAsserted

/-- Whether THERMTRIP_N is asserted at its pin; it is released while RESET_N is low (R420, R507). -/
def thermtripPin (s : State) : Bool := s.die != .inReset && s.thm.thermtrip

/-- Whether the JTAG port of a part outside the factory takes an instruction: boundary scan only, and only while RESET_N is low (R512). -/
def jtagTakes (s : State) (i : JtagInstr) : Bool := s.die == .inReset && i != .other

/-- The 32 bits of IDCODE: the device ID of R313 in bits 27 to 12 and the mandatory 1 in bit 0; version and manufacturer, the spec leaves open (R512). (DESIGN CHOICE, log entry 114.) -/
def jtagIdcode (p : Part) : Nat :=
  (Config.jtagRest.toNat / 2 ^ 28 * 2 ^ 28 + (dfltOn p O.pcieDeviceId).toInt.toNat * 2 ^ 12 + Config.jtagRest.toNat % 2 ^ 12) / 2 * 2 + 1

/-- The next of the four states of a switchable function on a request (R44): the new state and whether the slot then holds an enable. -/
def fnRequest (enable : Bool) (st : Nat) (held : Bool) : Nat × Bool :=
  match enable, st with
  | true, 0 => (1, false)
  | true, 3 => (3, true)
  | true, n => (n, held)
  | false, 1 => (3, false)
  | false, 2 => (3, false)
  | false, 3 => (3, false)
  | false, n => (n, held)

/-- The state in which STOPPING ends: STARTING at once where the slot holds an enable, else OFF (R45). -/
def fnStopEnd (held : Bool) : Nat := if held then 1 else 0

end Sys2Proof.Machine
end

