-- ==== Sys2Proof/Machine/Entropy.lean ====
section
/-! DEFINITION. The entropy decoder and the inverse transform of a tile update: from a payload to 1,024 texel words (R62, R92 to R104). -/

namespace Sys2Proof.Machine

/-! ## Texel words (R61, R62) -/

/-- The eleven components of a texel (R61). -/
structure TexelParts where
  y : Int := 0
  co : Int := 0
  cg : Int := 0
  a : Int := 0
  d : Int := 0
  gyu : Int := 0
  gyv : Int := 0
  gcou : Int := 0
  gcov : Int := 0
  gcgu : Int := 0
  gcgv : Int := 0
  deriving DecidableEq, Repr

/-- The 128-bit word of a texel (R62). -/
def packTexel (t : TexelParts) : Texel :=
  let f : Int → Nat → Nat → Nat := fun v w lo => unsigned w v * 2 ^ lo
  BitVec.ofNat 128 (f t.y 14 0 + f t.co 15 14 + f t.cg 15 29 + f t.a 11 44 + f t.d 12 55 + f t.gyu 10 67 + f t.gyv 10 77 + f t.gcou 10 87 +
    f t.gcov 10 97 + f t.gcgu 10 107 + f t.gcgv 10 117)

/-- The components of a texel word (R62). -/
def unpackTexel (w : Texel) : TexelParts :=
  let n := w.toNat
  { y := bitsOf n 0 14, co := signed 15 (bitsOf n 14 15), cg := signed 15 (bitsOf n 29 15), a := bitsOf n 44 11,
    d := signed 12 (bitsOf n 55 12), gyu := signed 10 (bitsOf n 67 10), gyv := signed 10 (bitsOf n 77 10), gcou := signed 10 (bitsOf n 87 10),
    gcov := signed 10 (bitsOf n 97 10), gcgu := signed 10 (bitsOf n 107 10), gcgv := signed 10 (bitsOf n 117 10) }

/-- A FILL word as the writer stores it: bit 127 cleared and ALPHA clamped to 1,024 (R119). -/
def fillTexel (w : Texel) : Texel :=
  let t := unpackTexel w
  packTexel { t with a := min t.a 1024 }

/-! ## The range decoder (R96) -/

/-- The range decoder's registers, its input and its 504 probabilities (R96). -/
structure Rc where
  range : Nat
  code : Nat
  inp : Bytes
  p : List Nat
  deriving DecidableEq, Repr

/-- The next payload byte, 0 once the payload is exhausted. -/
def Rc.next (r : Rc) : Rc × Nat :=
  match r.inp with
  | [] => (r, 0)
  | b :: bs => ({ r with inp := bs }, b.toNat)

/-- One round of normalise. -/
def Rc.shift (r : Rc) : Rc :=
  if r.range < 0x01000000 then
    let (r, b) := r.next
    { r with range := r.range * 256 % 2 ^ 32, code := (r.code * 256 + b) % 2 ^ 32 }
  else r

/-- normalise: a range of at least 1 takes at most four rounds. -/
def Rc.normalise (r : Rc) : Rc := r.shift.shift.shift.shift

/-- rc_init: the leading byte must be 0x00, and code must not be 0xFFFF_FFFF (error 0x0405). -/
def rcInit (payload : Bytes) : Option Rc :=
  let r : Rc := { range := 0xFFFFFFFF, code := 0, inp := payload, p := List.replicate 504 2048 }
  let (r, b0) := r.next
  if b0 ≠ 0 then none
  else
    let (r, b1) := r.next
    let (r, b2) := r.next
    let (r, b3) := r.next
    let (r, b4) := r.next
    let code := ((b1 * 256 + b2) * 256 + b3) * 256 + b4
    if code = 0xFFFFFFFF then none else some { r with code := code }

/-- decode_bit in context `i` (R96). -/
def Rc.bit (r : Rc) (i : Nat) : Rc × Nat :=
  let pi := r.p.getD i 2048
  let bound := r.range / 4096 * pi
  if r.code < bound then
    (({ r with range := bound, p := r.p.set i (pi + (4096 - pi) / 32) } : Rc).normalise, 0)
  else
    (({ r with range := r.range - bound, code := r.code - bound, p := r.p.set i (pi - pi / 32) } : Rc).normalise, 1)

/-- decode_bypass (R96). -/
def Rc.bypass (r : Rc) : Rc × Nat :=
  let half := r.range / 2
  if r.code < half then (({ r with range := half } : Rc).normalise, 0)
  else (({ r with range := half, code := r.code - half } : Rc).normalise, 1)

/-- The prefix of decode_eg0: the number of 1 bits, none above 19 (R100). -/
def egPrefix : Nat → Rc → Nat → Option (Rc × Nat)
  | 0, _, _ => none
  | f + 1, r, k =>
    let (r, b) := r.bypass
    if b = 0 then some (r, k) else if 19 < k + 1 then none else egPrefix f r (k + 1)

/-- `n` bypass bits, most significant first. -/
def bypassBits : Nat → Rc → Nat → Rc × Nat
  | 0, r, v => (r, v)
  | n + 1, r, v => let (r, b) := r.bypass; bypassBits n r (2 * v + b)

/-- decode_eg0 (R100). -/
def decodeEg0 (r : Rc) : Option (Rc × Nat) :=
  match egPrefix 21 r 0 with
  | none => none
  | some (r, k) => let (r, v) := bypassBits k r 0; some (r, 2 ^ k - 1 + v)

/-- The significance band of a scan index (R98). -/
def band (n : Nat) : Nat := if n < 8 then n else 8 + (n - 8) / 8

/-- The last-position tree: six decisions (R98, R100). -/
def lastTree : Nat → Nat → Rc → Nat → Rc × Nat
  | 0, _, r, node => (r, node)
  | k + 1, base, r, node => let (r, b) := r.bit (base + 1 + node); lastTree k base r (2 * node + b)

/-- The levels from scan index `n` down to 0, most recent first in the result's front (R100). `first` marks n = last. -/
def levels (base : Nat) : Nat → Bool → Rc → Nat → Nat → List Int → Option (Rc × List Int)
  | 0, _, r, _, _, acc => some (r, acc)
  | n + 1, first, r, g, o, acc =>
    let (r, sig) := if first then (r, 1) else r.bit (base + 65 + band n)
    if sig = 0 then levels base n false r g o (0 :: acc)
    else
      let ctx := if 0 < g then 3 else min o 2
      let (r, gt) := r.bit (base + 80 + ctx)
      if gt = 0 then
        let (r, sgn) := r.bypass
        levels base n false r g (o + 1) ((if sgn = 1 then -1 else 1) :: acc)
      else match decodeEg0 r with
        | none => none
        | some (r, e) =>
          let (r, sgn) := r.bypass
          let mag : Int := 2 + e
          levels base n false r (g + 1) o ((if sgn = 1 then -mag else mag) :: acc)

/-- decode_block: 64 levels in scan order and the coded-block flag, none on error 0x0405 (R100). -/
def decodeBlock (r : Rc) (cls : Nat) (pred : Int) (prevCbf : Nat) : Option (Rc × List Int × Nat) :=
  let base := 84 * cls
  let (r, cbf) := r.bit (base + prevCbf)
  if cbf = 0 then some (r, pred :: List.replicate 63 0, 0)
  else
    let (r, node) := lastTree 6 base r 1
    let last := node - 64
    match levels base (last + 1) true r 0 0 [] with
    | none => none
    | some (r, lv) =>
      let dc := lv.headD 0 + pred
      if 2 ^ 20 < dc.natAbs then none
      else some (r, dc :: lv.drop 1 ++ List.replicate (63 - last) 0, 1)

/-! ## Zigzag, inverse quantisation and transform (R99, R101 to R103) -/

/-- The zigzag order: (k, l) of scan index n (R99). -/
def zigzag : List (Nat × Nat) :=
  (List.range 15).flatMap fun s =>
    let lo := s - 7
    let hi := min s 7
    (List.range (hi - lo + 1)).map fun t =>
      let k := if s % 2 = 1 then lo + t else hi - t
      (k, s - k)

/-- The scan index of the coefficient at (k, l). -/
def scanOf (k l : Nat) : Nat := zigzag.idxOf (k, l)

/-- The scan index of each coefficient position, row by row. -/
def scanTable : List Nat := (List.range 64).map fun i => scanOf (i / 8) (i % 8)

/-- The quantiser step (R101). -/
def qscale (qp : Nat) : Nat := ([16, 17, 19, 21, 23, 25, 27, 29].getD (qp % 8) 16) * 2 ^ (qp / 8)

/-- The 8-point transform matrix (R102). -/
def matT : List (List Int) :=
  [[64, 64, 64, 64, 64, 64, 64, 64], [89, 75, 50, 18, -18, -50, -75, -89], [84, 35, -35, -84, -84, -35, 35, 84],
   [75, -18, -89, -50, 50, 89, 18, -75], [64, -64, -64, 64, 64, -64, -64, 64], [50, -89, 18, 75, -75, -18, 89, -50],
   [35, -84, 84, -35, -35, 84, -84, 35], [18, -50, 75, -89, 89, -75, 50, -18]]

/-- Sum of products of two lists. -/
def dotI (a b : List Int) : Int := (List.zipWith (· * ·) a b).foldl (· + ·) 0

/-- Column `n` of the matrix: the weights of every frequency at sample n. -/
def tCol (n : Nat) : List Int := matT.map fun row => row.getD n 0

/-- The 64 sample values of a block from its 64 levels (R101, R103). -/
def blockValues (lv : List Int) (qp : Nat) (offset lo hi : Int) : List Int :=
  let c : Nat → Nat → Int := fun k l => clampI (-(2 ^ 21)) (2 ^ 21 - 1) (lv.getD (scanTable.getD (8 * k + l) 0) 0 * qscale qp)
  let cols := (List.range 8).map fun l => (List.range 8).map fun k => c k l
  let tmp := (List.range 8).map fun n => cols.map fun col => (dotI (tCol n) col + 64) / 128
  tmp.flatMap fun row => (List.range 8).map fun m => clampI lo hi (offset + (dotI (tCol m) row + 2048) / 4096)

/-! ## Components and tiles (R97, R99, R104) -/

/-- A component of R97: its class, the index of its qp byte, its offset and its clamp range. -/
structure Comp where
  cls : Nat
  qp : Nat
  offset : Int
  lo : Int
  hi : Int
  deriving DecidableEq, Repr

/-- The eleven components in the order of the payload (R97). -/
def comps : List Comp :=
  [⟨0, 0, 8192, 0, 16383⟩, ⟨1, 1, 0, -16383, 16383⟩, ⟨1, 1, 0, -16383, 16383⟩, ⟨2, 2, 512, 0, 1024⟩, ⟨3, 3, 0, -2048, 2047⟩,
   ⟨4, 4, 0, -512, 511⟩, ⟨4, 4, 0, -512, 511⟩, ⟨5, 5, 0, -512, 511⟩, ⟨5, 5, 0, -512, 511⟩, ⟨5, 5, 0, -512, 511⟩, ⟨5, 5, 0, -512, 511⟩]

/-- The value of a component that the flags leave uncoded, none when it is coded (R97): bit 1 NO_GRAD, bit 2 NO_DEPTH, bit 3 OPAQUE. -/
def uncoded (flags i : Nat) : Option Int :=
  if i = 3 ∧ bitOf flags 3 then some 1024
  else if i = 4 ∧ bitOf flags 2 then some 0
  else if 5 ≤ i ∧ bitOf flags 1 then some 0
  else none

/-- The sixteen blocks of a plane, in order. -/
def decodePlane (c : Comp) (qp : Nat) : Nat → Rc → Int → Nat → List (List Int) → Option (Rc × List (List Int))
  | 0, r, _, _, acc => some (r, acc.reverse)
  | n + 1, r, pred, prev, acc =>
    match decodeBlock r c.cls pred prev with
    | none => none
    | some (r, lv, cbf) => decodePlane c qp n r (lv.headD 0) cbf (blockValues lv qp c.offset c.lo c.hi :: acc)

/-- The 1,024 values of a plane in row-major order, from its sixteen blocks (R99). -/
def planeRows (blocks : List (List Int)) : List Int :=
  (List.range 32).flatMap fun jj => (List.range 4).flatMap fun bx =>
    cut8 ((blocks.getD (jj / 8 * 4 + bx) []).drop (jj % 8 * 8))
where
  /-- The first eight values. -/
  cut8 (l : List Int) : List Int := l.take 8

/-- The planes of a tile, none on error 0x0405 (R96 to R103). -/
def decodePlanes (flags : Nat) (qps : List Nat) : List (Nat × Comp) → Rc → Option (List (List Int))
  | [], _ => some []
  | (i, c) :: cs, r =>
    match uncoded flags i with
    | some v => (decodePlanes flags qps cs r).map fun ps => List.replicate 1024 v :: ps
    | none => match decodePlane c (qps.getD c.qp 0) 16 r 0 0 [] with
      | none => none
      | some (r, bs) => (decodePlanes flags qps cs r).map fun ps => planeRows bs :: ps

/-- One texel from its eleven component values. -/
def texelOf (v : List Int) : Texel :=
  let g := fun i => v.getD i 0
  packTexel { y := g 0, co := g 1, cg := g 2, a := g 3, d := g 4, gyu := g 5, gyv := g 6, gcou := g 7, gcov := g 8, gcgu := g 9, gcgv := g 10 }

/-- The texels of planes that lie side by side. -/
def zipPlanes : Nat → List (List Int) → List Texel
  | 0, _ => []
  | n + 1, ps => texelOf (ps.map fun p => p.headD 0) :: zipPlanes n (ps.map fun p => p.drop 1)

/-- A tile's 1,024 texel words from its entropy payload, none on error 0x0405 (R104). -/
def decodeTile (flags : Nat) (qps : List Nat) (payload : Bytes) : Option (List Texel) :=
  match rcInit payload with
  | none => none
  | some r => (decodePlanes flags qps ((List.range 11).zip comps) r).map (zipPlanes 1024)

end Sys2Proof.Machine
end

