-- ==== Sys2Proof/Machine/Figures.lean ====
section
/-! DEFINITION. Figure contexts and layers, their checks and derived fields, and the layer directories they allocate (R47 to R68, R116, R122, R128). -/

namespace Sys2Proof.Machine

/-! ## Reading and writing the byte maps of R49 and R57 -/

/-- Three I32 fields. -/
def v3At (bs : Bytes) (off : Nat) : V3 := { x := fieldI bs off 4, y := fieldI bs (off + 4) 4, z := fieldI bs (off + 8) 4 }

/-- Four I32 fields in the order w, x, y, z. -/
def quatAt (bs : Bytes) (off : Nat) : Quat :=
  { w := fieldI bs off 4, x := fieldI bs (off + 4) 4, y := fieldI bs (off + 8) 4, z := fieldI bs (off + 12) 4 }

/-- Four U16 fields. -/
def rectAt (bs : Bytes) (off : Nat) : Rect :=
  { x0 := fieldN bs off 2, y0 := fieldN bs (off + 2) 2, x1 := fieldN bs (off + 4) 2, y1 := fieldN bs (off + 6) 2 }

/-- A context's bytes 0x00 to 0x7F; the reserved bits of ctx_flags are ignored and read as zero (R14, R49). -/
def parseCtx (bs : Bytes) : Ctx :=
  { renderClass := fieldN bs 0 1, layerCount := fieldN bs 1 1, flags := fieldN bs 2 2 % 4, layerMask := fieldN bs 4 4,
    depthKey := fieldN bs 8 4, opacity := fieldN bs 12 2, rot := quatAt bs 0x10, trans := v3At bs 0x20, scale := fieldN bs 0x2C 4,
    bmin := v3At bs 0x30, bmax := v3At bs 0x3C, clip := rectAt bs 0x48 }

/-- A layer descriptor's 64 bytes (R57). -/
def parseLayer (bs : Bytes) : Layer :=
  { tilesX := fieldN bs 0 2, tilesY := fieldN bs 2 2, depthStep := fieldN bs 4 2, gradY := fieldI bs 6 1, gradC := fieldI bs 7 1,
    pitchU := fieldN bs 8 4, pitchV := fieldN bs 12 4, q := quatAt bs 0x10, origin := v3At bs 0x20, flags := fieldN bs 0x2C 1,
    maxRefine := fieldN bs 0x2D 1 }

/-- Layer descriptors that lie back to back. -/
def parseLayers (bs : Bytes) (n : Nat) : List Layer := (List.range n).map fun k => parseLayer (cut bs (64 * k) 64)

/-- The bytes of a vector. -/
def v3Bytes (v : V3) : Bytes := leInt 4 v.x ++ leInt 4 v.y ++ leInt 4 v.z

/-- The bytes of a quaternion. -/
def quatBytes (q : Quat) : Bytes := leInt 4 q.w ++ leInt 4 q.x ++ leInt 4 q.y ++ leInt 4 q.z

/-- The bytes of a rectangle. -/
def rectBytes (r : Rect) : Bytes := leBytes 2 r.x0 ++ leBytes 2 r.y0 ++ leBytes 2 r.x1 ++ leBytes 2 r.y1

/-- A live context's 256 bytes (R49). -/
def ctxBytes (f : Figure) : Bytes :=
  leBytes 1 f.ctx.renderClass ++ leBytes 1 f.ctx.layerCount ++ leBytes 2 f.ctx.flags ++ leBytes 4 f.ctx.layerMask ++
  leBytes 4 f.ctx.depthKey ++ leBytes 2 f.ctx.opacity ++ zeros 2 ++ quatBytes f.ctx.rot ++ v3Bytes f.ctx.trans ++
  leBytes 4 f.ctx.scale ++ v3Bytes f.ctx.bmin ++ v3Bytes f.ctx.bmax ++ rectBytes f.ctx.clip ++ zeros 48 ++
  leBytes 4 f.id ++ zeros 4 ++ v3Bytes f.rotM.r0 ++ v3Bytes f.rotM.r1 ++ v3Bytes f.rotM.r2 ++ v3Bytes f.pmin ++ v3Bytes f.pmax ++
  rectBytes f.screen ++ zeros 52

/-- A layer descriptor's 64 bytes (R57). -/
def layerBytes (l : Layer) : Bytes :=
  leBytes 2 l.tilesX ++ leBytes 2 l.tilesY ++ leBytes 2 l.depthStep ++ leInt 1 l.gradY ++ leInt 1 l.gradC ++ leBytes 4 l.pitchU ++
  leBytes 4 l.pitchV ++ quatBytes l.q ++ v3Bytes l.origin ++ leBytes 1 l.flags ++ leBytes 1 l.maxRefine ++ zeros 18

/-! ## Derived fields -/

/-- Whether a quaternion's squared norm is within 2^-16 of 1 (R48). -/
def quatOk (q : Quat) : Bool :=
  let n := q.w * q.w + q.x * q.x + q.y * q.y + q.z * q.z
  (n - 2 ^ 60).natAbs ≤ 2 ^ 44

/-- The rotation matrix of a quaternion, rounded half-even to Q2.30 (R48). -/
def quatMat (q : Quat) : Mat :=
  let h : Int → Int := fun a => rhe a (2 ^ 29)
  { r0 := ⟨2 ^ 30 - h (q.y * q.y + q.z * q.z), h (q.x * q.y - q.w * q.z), h (q.x * q.z + q.w * q.y)⟩,
    r1 := ⟨h (q.x * q.y + q.w * q.z), 2 ^ 30 - h (q.x * q.x + q.z * q.z), h (q.y * q.z - q.w * q.x)⟩,
    r2 := ⟨h (q.x * q.z - q.w * q.y), h (q.y * q.z + q.w * q.x), 2 ^ 30 - h (q.x * q.x + q.y * q.y)⟩ }

/-- Dot product. -/
def V3.dot (a b : V3) : Int := a.x * b.x + a.y * b.y + a.z * b.z

/-- The eight corners of a box. -/
def corners (a b : V3) : List V3 :=
  [⟨a.x, a.y, a.z⟩, ⟨b.x, a.y, a.z⟩, ⟨a.x, b.y, a.z⟩, ⟨b.x, b.y, a.z⟩, ⟨a.x, a.y, b.z⟩, ⟨b.x, a.y, b.z⟩, ⟨a.x, b.y, b.z⟩, ⟨b.x, b.y, b.z⟩]

/-- Least of a nonempty list. -/
def minI (d : Int) (l : List Int) : Int := l.foldl min d

/-- Greatest of a nonempty list. -/
def maxI (d : Int) (l : List Int) : Int := l.foldl max d

/-- One axis of the panel-space box: floor of the least and ceiling of the greatest image of the corners under R47, exact in units of 2^-66 mm (R50). -/
def boxAxis (row : V3) (scale : Nat) (t : Int) (cs : List V3) : Int × Int :=
  let vs := cs.map fun c => t * 2 ^ 54 + scale * row.dot c
  let d := vs.headD 0
  (minI d vs / 2 ^ 54, iceilDiv (maxI d vs) (2 ^ 54))

/-- The depth key of AUTO_KEY (R50). -/
def autoKey (zmax : Int) : Nat := unsigned 32 (0x80000000 - max zmax (-0x7FFFFFFF))

/-- The Figure with its matrix, panel-space box and, under AUTO_KEY, its key derived (R49, R50). The screen rectangle is filled in by the caller, under the bank of R526. A box that leaves the range of I32 keeps its value here. (DESIGN CHOICE, log entry 116.) -/
def deriveFig (f : Figure) : Figure :=
  let m := quatMat f.ctx.rot
  let cs := corners f.ctx.bmin f.ctx.bmax
  let ax := boxAxis m.r0 f.ctx.scale f.ctx.trans.x cs
  let ay := boxAxis m.r1 f.ctx.scale f.ctx.trans.y cs
  let az := boxAxis m.r2 f.ctx.scale f.ctx.trans.z cs
  { f with
    rotM := m, pmin := ⟨ax.1, ay.1, az.1⟩, pmax := ⟨ax.2, ay.2, az.2⟩
    ctx := if bitOf f.ctx.flags 1 then { f.ctx with depthKey := autoKey az.2 } else f.ctx }

/-! ## Checks of an update (R58, R64) -/

/-- Whether the layer's fields lie in their ranges (R58). -/
def layerOk (l : Layer) : Bool :=
  1 ≤ l.tilesX && l.tilesX ≤ 512 && 1 ≤ l.tilesY && l.tilesY ≤ 512 && -8 ≤ l.gradY && l.gradY ≤ 8 && -8 ≤ l.gradC && l.gradC ≤ 8 &&
  0 < l.pitchU && 0 < l.pitchV && l.flags < 2 && l.maxRefine ≤ 3 && quatOk l.q

/-- Whether the context's fields pass R48, R49, R51 and the layer_mask rule (R64). -/
def ctxOk (c : Ctx) : Bool :=
  c.renderClass ≤ 3 && 1 ≤ c.layerCount && c.layerCount ≤ 32 && c.layerMask < 2 ^ c.layerCount && c.opacity ≤ 1024 && quatOk c.rot &&
  0 < c.scale && c.bmin.x ≤ c.bmax.x && c.bmin.y ≤ c.bmax.y && c.bmin.z ≤ c.bmax.z && (c.renderClass != 3 || c.layerCount == 1)

/-- The code of the first failing check of R64, on the context as it would stand; `others` are the other live Figures. (DESIGN CHOICE, log entry 35.) -/
def figCheck (others : List Figure) (c : Ctx) (ls : List Layer) : Option Nat :=
  if !ctxOk c then some 0x0603
  else if !(ls.take c.layerCount).all layerOk || ls.length < c.layerCount then some 0x0605
  else if c.renderClass == 3 && others.any (·.ctx.renderClass == 3) then some 0x0606
  else none

/-! ## Directories -/

/-- Units of 1,024 entries that a layer of these dimensions takes (R116). -/
def dirUnits (tx ty : Nat) : Nat := ceilDiv (tx * ty) 1024

/-- The dimensions for which a layer has a directory: none above layer_count and none for the OVERLAY Figure (R57, R116). (DEDUCED, log entry 36.) -/
def dirDims (c : Ctx) (ls : List Layer) (k : Nat) : Option (Nat × Nat) :=
  if c.renderClass = 3 ∨ c.layerCount ≤ k then none else (ls[k]?).map fun l => (l.tilesX, l.tilesY)

namespace State

/-- The live Figure of an ID. -/
def fig? (s : State) (id : Nat) : Option Figure := s.figs.find? (·.id == id)

/-- Size of the directory area in entries (R116). -/
def dirTotal (s : State) : Nat := if s.part = .h4 then 67108864 else 33554432

/-- Size of the slot pool (R116). -/
def slotTotal (s : State) : Nat := if s.part = .h4 then 4718592 else 1966080

/-- Units of the directory area in use, those of detached directories included (R128). -/
def usedUnits (s : State) : List Nat := s.rrec.dirs.flatMap (·.units)

/-- Free directory entries (R116, R128). -/
def dirFree (s : State) : Nat := s.dirTotal - 1024 * s.usedUnits.length

/-- The lowest `n` free units, taken one after the other. -/
def takeUnits (total : Nat) : Nat → List Nat → List Nat
  | 0, _ => []
  | n + 1, used => match lowestFree total used with
    | none => []
    | some u => u :: takeUnits total n (u :: used)

/-- The frames in the render pipeline (R120). -/
def pipeline (s : State) : List Frame := s.adm.waiting ++ s.adm.pending.toList ++ s.adm.rendering.toList

/-- Whether a frame of this marker ordinal reads the directory (R122). -/
def readsDir (d : Dir) (m : Nat) : Bool := d.allocOrd < m && (match d.endOrd with | none => true | some e => m < e)

/-- Whether any frame in the render pipeline reads the directory. -/
def dirRead (s : State) (d : Dir) : Bool := s.pipeline.any fun f => readsDir d f.ordinal

/-- The slots a tile's versions hold. -/
def entrySlots (t : TileEntry) : List Nat := t.cur.slot.toList ++ t.older.filterMap (·.ver.slot)

/-- Free slots; their texels stay in memory until the slot is written again. -/
def dropSlots (s : State) (dead : List Nat) : State :=
  { s with rrec := { s.rrec with
      slots := s.rrec.slots.filter fun x => !dead.contains x.1
      stale := (s.rrec.slots.filter fun x => dead.contains x.1) ++ s.rrec.stale } }

/-- Free the detached directories that no frame reads, with everything they refer to (R122). -/
def dropDirs (s : State) : State :=
  let gone := s.rrec.dirs.filter fun d => d.endOrd.isSome && !s.dirRead d
  let dead := gone.flatMap fun d => d.tiles.flatMap entrySlots
  let s : State := { s with rrec := { s.rrec with dirs := s.rrec.dirs.filter fun d => !(d.endOrd.isSome && !s.dirRead d) } }
  s.dropSlots dead

/-- The lowest parse ordinal of an incomplete tile update, or the next ordinal to be given out (R123). -/
def residentOrdinal (s : State) : Nat :=
  (s.rrec.upds.map (·.ordinal) ++ (s.sdec.stalled.map (·.ordinal)).toList).foldl min s.sdec.ordinal

/-- Version records in use. -/
def recordsUsed (s : State) : List Nat := s.rrec.dirs.flatMap fun d => d.tiles.flatMap fun t => t.older.map (·.index)

/-- Slots held by version records and detached directories (R130). -/
def slotsRetained (s : State) : Nat :=
  sumN (s.rrec.dirs.map fun d => sumN (d.tiles.map fun t =>
    if d.endOrd.isSome then (entrySlots t).length else (t.older.filterMap (·.ver.slot)).length))

/-- Bring the relief cache's objects up to date (R130). -/
def refreshRelief (s : State) : State :=
  ((((((s.put O.reliefSlotFree (s.slotTotal - s.rrec.slots.length : Nat)).put O.reliefSlotRetained s.slotsRetained).put
    O.reliefDirFree s.dirFree).put O.reliefRecordFree (1048576 - s.recordsUsed.length : Nat)).put
    O.tilesInFlight s.rrec.upds.length).put O.residentOrdinal s.residentOrdinal).put O.figLiveCount s.figs.length

/-- Detach a directory at a parse ordinal (R122). -/
def detach (s : State) (ord : Nat) (id : Option Nat) : State :=
  match id with
  | none => s
  | some i => { s with rrec := { s.rrec with dirs := s.rrec.dirs.map fun d => if d.id = i then { d with endOrd := some ord } else d } }

/-- Allocate a fresh directory of the lowest free units (R116); its number is returned. (DESIGN CHOICE, log entry 119.) -/
def allocDir (s : State) (fig layer tx ty ord : Nat) : State × Nat :=
  let us := takeUnits (s.dirTotal / 1024) (dirUnits tx ty) s.usedUnits
  let d : Dir := { id := s.rrec.nextDir, figId := fig, layer := layer, tilesX := tx, tilesY := ty, units := us, allocOrd := ord }
  ({ s with rrec := { s.rrec with dirs := s.rrec.dirs ++ [d], nextDir := s.rrec.nextDir + 1 } }, s.rrec.nextDir)

/-- Give layer `k` of a Figure its directory: the old one where the dimensions stay, else the old one is detached and a fresh one allocated (R68, R116, R122). (DEDUCED, log entry 36.) -/
def layerDir (fig ord : Nat) (old new : Nat → Option (Nat × Nat)) (oldDirs : List (Option Nat)) (acc : State × List (Option Nat)) (k : Nat) :
    State × List (Option Nat) :=
  let prev := (oldDirs[k]?).getD none
  if old k = new k ∧ (new k).isSome then (acc.1, acc.2 ++ [prev])
  else
    let s := acc.1.detach ord prev
    match new k with
    | none => (s, acc.2 ++ [none])
    | some (tx, ty) => let (s, i) := s.allocDir fig k tx ty ord; (s, acc.2 ++ [some i])

/-- Directory entries a changed layer set needs (R128). (DEDUCED, log entry 36.) -/
def dirNeed (old new : Nat → Option (Nat × Nat)) : Nat :=
  sumN ((List.range 32).map fun k => match new k with
    | none => 0
    | some (tx, ty) => if old k = some (tx, ty) then 0 else 1024 * dirUnits tx ty)

/-- Record a status code of SDEC, FIG or RREC at a position in the stream, and in its subsystem's last-status object (R108, R110, R130). -/
def sdecCode (s : State) (key code : Nat) : State :=
  let s := { s with sdec := { s.sdec with codes := s.sdec.codes ++ [⟨key, code⟩] } }
  if code / 256 = 4 then s.put O.sdecLastStatus code else if code / 256 = 5 then s.put O.rrecLastStatus code else s

/-- Put a checked Figure in its place, with directories for the layers whose dimensions changed; refused whole with 0x0502 where too few entries are free (R65, R122, R128). `screen` gives the screen rectangle of a derived Figure. -/
def placeFig (s : State) (key ord : Nat) (old : Option Figure) (slot id : Nat) (c : Ctx) (ls : List Layer) (screen : Figure → Rect) : State :=
  let oldD : Nat → Option (Nat × Nat) := fun k => match old with | none => none | some f => dirDims f.ctx f.layers k
  let newD := dirDims c ls
  if s.dirFree < dirNeed oldD newD then s.sdecCode key 0x0502
  else
    let (s, dirs) := (List.range 32).foldl (layerDir id ord oldD newD ((old.map (·.dirs)).getD [])) (s, [])
    let f := deriveFig { slot := slot, id := id, ctx := c, layers := ls.take c.layerCount, dirs := dirs }
    let f := { f with screen := screen f }
    ({ s with figs := s.figs.filter (fun g => g.id != id) ++ [f] } : State).dropDirs

/-- Retire a Figure: its context is freed and every directory detached (R66, R68, R122). -/
def retireFig (s : State) (ord : Nat) (f : Figure) : State :=
  let s := f.dirs.foldl (fun s d => s.detach ord d) s
  ({ s with figs := s.figs.filter fun g => g.id != f.id } : State).dropDirs

/-- Retire every live Figure, as STREAM_START does (R79). -/
def retireAll (s : State) : State := s.figs.foldl (fun s f => s.retireFig s.sdec.ordinal f) s

/-- A Define's effect: the checks first, then a context, then the directories (R64, R65). (DESIGN CHOICE, log entry 35.) -/
def define (s : State) (key ord id : Nat) (c : Ctx) (ls : List Layer) (screen : Figure → Rect) : State :=
  match figCheck (s.figs.filter fun g => g.id != id) c ls with
  | some code => s.sdecCode key code
  | none => match s.fig? id with
    | some f => s.placeFig key ord (some f) f.slot id c ls screen
    | none => match lowestFree 16384 (s.figs.map (·.slot)) with
      | none => (s.sdecCode key 0x0601).bump O.figNoContextCount
      | some n => s.placeFig key ord none n id c ls screen

/-- A Modify's effect on a live Figure (R64, R65). (DESIGN CHOICE, log entry 35.) -/
def modify (s : State) (key ord id : Nat) (change : Figure → Except Nat (Ctx × List Layer)) (screen : Figure → Rect) : State :=
  match s.fig? id with
  | none => s.sdecCode key 0x0604
  | some f => match change f with
    | .error code => s.sdecCode key code
    | .ok (c, ls) => match figCheck (s.figs.filter fun g => g.id != id) c ls with
      | some code => s.sdecCode key code
      | none => s.placeFig key ord (some f) f.slot id c ls screen

/-- A Retire's effect (R65, R66). -/
def retire (s : State) (key ord id : Nat) : State :=
  match s.fig? id with
  | none => s.sdecCode key 0x0604
  | some f => s.retireFig ord f

end State

/-! ## The field groups of FIGURE_MODIFY (R90) -/

/-- Sizes of groups 0 to 7. -/
def groupSize : Nat → Nat
  | 0 => 32 | 5 => 24 | 6 => 8 | _ => 4

/-- The number of set bits among bits 31 to 0. -/
def popcount32 (m : Nat) : Nat := sumN ((List.range 32).map fun k => bitsOf m k 1)

/-- The size of the selected fields, none when the LAYER_DESC group is cut short (R82, R90). -/
def modifySize (mask : Nat) (bs : Bytes) : Nat :=
  let fixed := sumN ((List.range 8).map fun k => if bitOf mask k then groupSize k else 0)
  if bitOf mask 8 then fixed + 4 + 64 * popcount32 (fieldN bs fixed 4) else fixed

/-- One group 0 to 7 applied to the context, consuming its bytes. -/
def applyGroup (mask : Nat) (acc : Ctx × Bytes) (k : Nat) : Ctx × Bytes :=
  let (c, bs) := acc
  if !bitOf mask k then acc
  else
    let c := match k with
      | 0 => { c with rot := quatAt bs 0, trans := v3At bs 16, scale := fieldN bs 28 4 }
      | 1 => { c with opacity := fieldN bs 0 2 }
      | 2 => { c with renderClass := fieldN bs 0 1, flags := fieldN bs 2 2 % 4 }
      | 3 => { c with depthKey := fieldN bs 0 4 }
      | 4 => { c with layerMask := fieldN bs 0 4 }
      | 5 => { c with bmin := v3At bs 0, bmax := v3At bs 12 }
      | 6 => { c with clip := rectAt bs 0 }
      | _ => { c with layerCount := fieldN bs 0 1 }
    (c, bs.drop (groupSize k))

/-- The layers with the selected descriptors replaced, in ascending layer order. -/
def applyLayers : List Nat → Bytes → List Layer → List Layer
  | [], _, ls => ls
  | k :: ks, bs, ls => applyLayers ks (bs.drop 64) (ls.set k (parseLayer bs))

/-- The context and layers as they would stand after a Modify; layers above the old count read as zero (R57, R90). The context is checked before the selected layers. (DESIGN CHOICE, log entry 35.) -/
def applyModify (mask : Nat) (bs : Bytes) (f : Figure) : Except Nat (Ctx × List Layer) :=
  let (c, rest) := (List.range 8).foldl (applyGroup mask) (f.ctx, bs)
  let base := (f.layers ++ List.replicate 32 ({} : Layer)).take 32
  if bitOf mask 8 then
    let sel := fieldN rest 0 4
    if 2 ^ c.layerCount ≤ sel ∧ c.layerCount ≤ 32 then .error (if ctxOk c then 0x0605 else 0x0603)
    else .ok (c, applyLayers ((List.range 32).filter (bitOf sel)) (rest.drop 4) base)
  else .ok (c, base)

end Sys2Proof.Machine
end

