-- ==== Sys2Proof/Machine/Relief.lean ====
section
/-! DEFINITION. Relief reconstruction: tile decode, commit, versions and their release, residency, poisoning (R104, R111 to R129). -/

namespace Sys2Proof.Machine

/-- The entry of a tile in a directory; a tile never updated has the empty entry (R118). -/
def Dir.entry (d : Dir) (tx ty : Nat) : TileEntry := (d.tiles.find? fun t => t.tx == tx && t.ty == ty).getD { tx := tx, ty := ty }

/-- The directory with one tile's entry replaced. -/
def Dir.setEntry (d : Dir) (t : TileEntry) : Dir :=
  if d.tiles.any fun x => x.tx == t.tx && x.ty == t.ty then
    { d with tiles := d.tiles.map fun x => if x.tx = t.tx ∧ x.ty = t.ty then t else x }
  else { d with tiles := d.tiles ++ [t] }

/-- The version a frame of marker ordinal `m` reads: the newest whose ordinal is below m (R120). -/
def TileEntry.seen (t : TileEntry) (m : Nat) : Version :=
  if t.cur.ordinal < m ∧ (t.cur.ordinal ≠ 0 ∨ t.cur.slot.isSome ∨ t.cur.fill.isSome ∨ t.cur.poisoned) then t.cur
  else match t.older.find? fun r => r.ver.ordinal < m with
    | some r => r.ver
    | none => if t.cur.ordinal < m then t.cur else {}

namespace State

/-- The directory of a number. -/
def dir? (s : State) (id : Nat) : Option Dir := s.rrec.dirs.find? (·.id == id)

/-- Change a directory. -/
def modDir (s : State) (id : Nat) (f : Dir → Dir) : State :=
  { s with rrec := { s.rrec with dirs := s.rrec.dirs.map fun d => if d.id = id then f d else d } }

/-- The texels of a version (R118). -/
def versionTexels (s : State) (v : Version) : List Texel :=
  if v.poisoned then List.replicate 1024 0#128
  else match v.fill with
    | some w => List.replicate 1024 w
    | none => match v.slot with
      | none => List.replicate 1024 0#128
      | some n => ((s.rrec.slots.find? (·.1 == n)).map (·.2)).getD (List.replicate 1024 0#128)

/-- Whether a binned frame is resident: every earlier tile update is complete, and no accepted PUBLISH for its epoch is incomplete (R123, R295). -/
def isResident (s : State) (f : Frame) : Bool := f.ordinal ≤ s.residentOrdinal && !s.rasp.incomplete.any (· ≤ f.epoch)

/-- Record the instant at which waiting frames become resident (R123, R192). -/
def markResident (s : State) : State :=
  let m : Frame → Frame := fun f => if f.residentAt.isNone && s.isResident f then { f with residentAt := some s.ns } else f
  { s with adm := { s.adm with waiting := s.adm.waiting.map m } }

/-- After a change of the relief cache: its objects and the residency of the waiting frames. -/
def settleRelief (s : State) : State := s.refreshRelief.markResident

/-- A tile update leaves the pipeline with an outcome (R114). (DESIGN CHOICE, log entry 37.) -/
def endUpd (s : State) (ord : Nat) : State :=
  { s with rrec := { s.rrec with upds := s.rrec.upds.filter fun u => u.ordinal != ord } }

/-- The entropy decoders in use (R112). -/
def busyDecoders (s : State) : List Nat := s.rrec.upds.filterMap (·.decoder)

/-- Dispatch a tile update to the lowest free decoder, or straight to the writer for FILL; with all decoders busy the parser stalls on it (R112). -/
def dispatchUpd (s : State) (u : TileUpd) : State :=
  if bitOf u.flags 0 then
    { s with rrec := { s.rrec with upds := s.rrec.upds ++ [{ u with result := .fill (fillTexel (BitVec.ofNat 128 (leNat (u.payload.take 16)))) }] } }
  else match lowestFree 16 s.busyDecoders with
    | some d => { s with rrec := { s.rrec with upds := s.rrec.upds ++ [{ u with decoder := some d }] } }
    | none => { s with sdec := { s.sdec with stalled := some u } }

/-- The newest frame that still reads a version of ordinal `c` replaced by one of ordinal `o` in the directory (R121). -/
def keeper (s : State) (d : Dir) (c o : Nat) : Option Nat :=
  let ns := (s.pipeline.filter fun f => readsDir d f.ordinal && c < f.ordinal && f.ordinal < o).map (·.number)
  if ns.isEmpty then none else some (maxN ns)

/-- The lowest free slot of the pool (R119). (DESIGN CHOICE, log entry 119.) -/
def freeSlot (s : State) : Option Nat := lowestFree s.slotTotal (s.rrec.slots.map (·.1))

/-- The lowest free version record (R121). (DESIGN CHOICE, log entry 119.) -/
def freeRecord (s : State) : Option Nat := lowestFree 1048576 s.recordsUsed

/-- The commit itself: the new version becomes current, the old one moves into a record or gives up its slot (R119, R121). -/
def commitVersion (s : State) (d : Dir) (t : TileEntry) (v : Version) (keep : Option (Nat × Nat)) : State :=
  let hadOld := t.cur.slot.isSome || t.cur.fill.isSome || t.cur.poisoned || t.cur.ordinal != 0
  let t' : TileEntry := match keep with
    | some (idx, rel) => { t with cur := v, older := { index := idx, ver := t.cur, release := rel } :: t.older }
    | none => { t with cur := v }
  let s := s.modDir d.id fun d => d.setEntry t'
  let s := if keep.isNone && hadOld then s.dropSlots t.cur.slot.toList else s
  let s := s.settleIf 4 fun f => f.cls == d.id * 1048576 + t.tx * 1024 + t.ty
  (s.bump O.tilesCommittedCount).memRequest

/-- A discarded update's report: the counter of its code and its place in the stream (R125). -/
def discardUpd (s : State) (u : TileUpd) (code : Nat) : State :=
  let s := (s.endUpd u.ordinal).sdecCode u.key code
  if code = 0x0405 then s.bump O.entropyErrorCount
  else if code = 0x040A then s.bump O.staleTileCount
  else s.bump O.cacheFullCount

/-- The commit, or the outcome that takes its place: an update waits while a version record is needed but none is free, or a slot is needed and records or detached directories hold some (R113, R114, R122, R126, R127). A poisoned tile accepts any tile_seq (R129). (DESIGN CHOICE, log entries 37, 120.) -/
def commitUpd (s : State) (u : TileUpd) : State :=
  match u.result with
  | .pending => s
  | .failed => s.discardUpd u 0x0405
  | res => match s.dir? u.dir with
    | none => (s.endUpd u.ordinal).bump O.lateCommitDroppedCount
    | some d =>
      let t := d.entry u.tx u.ty
      if t.cur.seqValid && !t.cur.poisoned && !newer32 u.seq t.cur.lastSeq then s.discardUpd u 0x040A
      else
        let keep := s.keeper d t.cur.ordinal u.ordinal
        let v : Version := { lastSeq := u.seq, ordinal := u.ordinal, seqValid := true }
        match res with
        | .fill w => match keep, s.freeRecord with
          | none, _ => (s.endUpd u.ordinal).commitVersion d t { v with fill := some w } none
          | some n, some i => (s.endUpd u.ordinal).commitVersion d t { v with fill := some w } (some (i, n))
          | some _, none => s
        | .texels ws => match s.freeSlot with
          | none => if 0 < s.slotsRetained then s else s.discardUpd u 0x0501
          | some n =>
            let put : State → State := fun s => { s with rrec := { s.rrec with slots := s.rrec.slots ++ [(n, ws)], stale := s.rrec.stale.filter (·.1 != n) } }
            match keep, s.freeRecord with
            | none, _ => put ((s.endUpd u.ordinal).commitVersion d t { v with slot := some n } none)
            | some k, some i => put ((s.endUpd u.ordinal).commitVersion d t { v with slot := some n } (some (i, k)))
            | some _, none => s
        | _ => s

/-! ## Read errors of the cache (R129) -/

/-- The base of the slot pool (R204). -/
def poolBase (s : State) : Nat := if s.part = .h4 then 0x374000000 else 0x2F4000000

/-- The address of a tile's directory entry (R116, R204). -/
def entryAddr (d : Dir) (tx ty : Nat) : Nat :=
  let e := ty * d.tilesX + tx
  0x274000000 + 65536 * d.units.getD (e / 1024) 0 + 64 * (e % 1024)

/-- A tile is poisoned: counted, and reported with 0x0503 as a fault of the RELIEF family and a warning of the next completion entry (R129, R493). -/
def notePoison (s : State) (d : Dir) (tx ty : Nat) : State :=
  let s := (s.bump O.poisonedTileCount).put O.rrecLastStatus 0x0503
  let s := s.raise 4 (d.id * 1048576 + tx * 1024 + ty) 0 0x0503 [d.figId, d.layer, tx, ty]
  { s with hif := { s.hif with warnNext := addWarn s.hif.warnNext 0x0503 } }

/-- A directory entry is unreadable: it is rewritten with no slot, every other field zero and POISONED set, and nothing refers to the slot it held (R129). (DESIGN CHOICE, log entry 121.) -/
def entryLost (s : State) (d : Dir) (tx ty : Nat) (cls : MemClass) : State :=
  let t := d.entry tx ty
  let s := s.eccUncorrectable (entryAddr d tx ty) cls
  let s := (s.modDir d.id fun d => d.setEntry { t with cur := { poisoned := true } }).dropSlots t.cur.slot.toList
  s.notePoison d tx ty

/-- The version that a frame of marker ordinal `m` reads is poisoned (R129). -/
def poisonSeen (t : TileEntry) (m : Nat) : TileEntry :=
  let v := t.seen m
  if t.cur = v then { t with cur := { t.cur with poisoned := true } }
  else { t with older := t.older.map fun r => if r.ver = v then { r with ver := { r.ver with poisoned := true } } else r }

/-- Whether an earlier update of the same tile is still in flight (R113). -/
def blocked (s : State) (u : TileUpd) : Bool :=
  s.rrec.upds.any fun x => x.dir == u.dir && x.tx == u.tx && x.ty == u.ty && x.ordinal < u.ordinal

/-- The RSE islands that a bank does not use are gated (R25, R163). -/
def regateRse (s : State) (nb : Bool) : State :=
  (List.range 8).foldl (fun s n => if s.natB nb O.rseIslandsEnabled ≤ n then s.gateIsl (9 + n) else s) s

/-- While a swap is bound, the islands that the new bank disables are gated once no frame of the old bank is admitted and unfinished (R163). (DEDUCED, log entry 51.) -/
def regateOld (s : State) : State :=
  if s.nat O.cfgSwapState = 3 ∧ ¬ s.cfg.switched ∧ (s.adm.pending.toList ++ s.adm.rendering.toList).all (·.adm.newBank) then s.regateRse true else s

/-- When a frame leaves the render pipeline, the records it kept are freed with their slots, and so are the detached directories it alone read (R121, R122); RSE islands may now be gated (R163). The frame has already been taken out of ADM. -/
def releaseFrame (s : State) (number : Nat) : State :=
  let dead := s.rrec.dirs.flatMap fun d => d.tiles.flatMap fun t => (t.older.filter (·.release == number)).filterMap (·.ver.slot)
  let s : State := { s with rrec := { s.rrec with
    dirs := s.rrec.dirs.map fun d => { d with tiles := d.tiles.map fun t => { t with older := t.older.filter fun r => r.release != number } } } }
  ((s.dropSlots dead).dropDirs.settleRelief).regateOld

/-- SDEC and RREC islands are idle when nothing waits and the selected transport cannot deliver (R27). -/
def streamIdle (s : State) : Bool :=
  s.sdec.queue.isEmpty && s.sdec.gate.isEmpty && !s.sdec.inSeg && s.rrec.upds.isEmpty && s.sdec.stalled.isNone &&
  (match (if s.hif.fallback then 3 else s.nat O.streamSource) with
   | 0 => !s.hif.seg.en
   | 1 => s.nat (O.portState 1) == 0
   | 2 => s.nat (O.portState 2) == 0
   | _ => s.nat O.clpState == 0 || s.nat O.clpPlayState == 0)

/-- Gate SDEC and RREC while idle, power them up when the selected transport can deliver (R27). -/
def regateStream (s : State) : State :=
  if s.streamIdle then (s.gateIsl 6).gateIsl 7 else (s.powerIsl 6).powerIsl 7

end State

/-! ## TILE_DECODE_DONE, DECODER_FREE, TILE_COMMIT -/

/-- The decoder of a tile is done: its texels, or error 0x0405 to be reported at the commit (R104, R112, R114). -/
def cmdTileDecodeDone (s : State) (dec : Nat) : State :=
  let f : TileUpd → TileUpd := fun u =>
    if u.decoder = some dec then
      { u with decoder := none, result := match decodeTile u.flags u.qp u.payload with | some ws => .texels ws | none => .failed }
    else u
  { s with rrec := { s.rrec with upds := s.rrec.upds.map f } }

/-- A decoder is free and the parser, stalled on a tile update, dispatches it (R112). -/
def cmdDecoderFree (s : State) : State :=
  match s.sdec.stalled, lowestFree 16 s.busyDecoders with
  | some u, some _ => (({ s with sdec := { s.sdec with stalled := none } } : State).dispatchUpd u).settleRelief
  | _, _ => s

/-- The writer commits a finished update, unless an earlier one of its tile is in flight (R113, R119, R126, R127). `entryUe` says that the read of the tile's directory entry meets an uncorrectable error (R129). (DESIGN CHOICE, log entry 37.) -/
def cmdTileCommit (s : State) (ord : Nat) (entryUe : Bool) : State :=
  match s.rrec.upds.find? (·.ordinal == ord) with
  | none => s
  | some u =>
    if s.blocked u || u.result == .pending then s
    else
      let s := match s.dir? u.dir with
        | some d => if entryUe then s.entryLost d u.tx u.ty .relief else s
        | none => s
      ((s.commitUpd u).settleRelief).regateStream

/-- TILE_DECODE_DONE (R104). -/
def execTileDecodeDone (dec : Fin 16) (s : State) : Host.Outcome State Fault Refusal := .next (s.ifLive fun s => cmdTileDecodeDone s dec)

/-- DECODER_FREE (R112). -/
def execDecoderFree (s : State) : Host.Outcome State Fault Refusal := .next (s.ifLive cmdDecoderFree)

/-- TILE_COMMIT (R119). -/
def execTileCommit (ord : Nat) (s : State) (entryUe : Bool := false) : Host.Outcome State Fault Refusal :=
  .next (s.ifLive fun s => cmdTileCommit s ord entryUe)

end Sys2Proof.Machine
end

