-- ==== Sys2Proof/Machine/Calib.lean ====
section
/-! DEFINITION. Ray calibration: Bronze, the lattice, the thermal model, the ramp, the ray of every subpixel and the bounds for binning (R132 to R147). -/

namespace Sys2Proof.Machine

/-! ## Bronze (R134, R135) -/

/-- The fields of the Bronze global block that the arithmetic uses (R135). -/
structure BronzeGlobal where
  lensType : Nat := 0
  bgr : Bool := false
  axisY : Bool := false
  panelW : Nat := 0
  panelH : Nat := 0
  pitchX : Nat := 0
  pitchY : Nat := 0
  rpX : Nat := 0
  rpY : Nat := 0
  slant : Int := 0
  secA : Nat := 0
  anchorX : Int := 0
  anchorY : Int := 0
  phaseX : Nat := 0
  phaseY : Nat := 0
  tRef : Int := 0
  kPitch : Int := 0
  kGap : Int := 0
  deriving DecidableEq, Repr

/-- The global block of a Bronze image (R135). -/
def bronzeGlobal (b : Bytes) : BronzeGlobal :=
  let st := fieldN b 7 1
  { lensType := fieldN b 6 1, bgr := bitOf st 0, axisY := bitOf st 1, panelW := fieldN b 8 2, panelH := fieldN b 0x0A 2,
    pitchX := fieldN b 0x0C 4, pitchY := fieldN b 0x10 4, rpX := fieldN b 0x14 4, rpY := fieldN b 0x18 4, slant := fieldI b 0x1C 4,
    secA := fieldN b 0x20 4, anchorX := fieldI b 0x24 4, anchorY := fieldI b 0x28 4, phaseX := fieldN b 0x2C 4, phaseY := fieldN b 0x30 4,
    tRef := fieldI b 0x34 2, kPitch := fieldI b 0x38 4, kGap := fieldI b 0x3C 4 }

/-- Whether magic and version of a Bronze image are right (R136). -/
def bronzeFormOk (b : Bytes) : Bool := fieldN b 0 4 == 0x4E5A5242 && fieldN b 4 2 == 1

/-- The lattice part of a Bronze image (R134). -/
def bronzeLattice (b : Bytes) : Bytes := cut b 0x100 4194304

/-- The transfer part of a Bronze image (R134). -/
def bronzeTransfer (b : Bytes) : Bytes := cut b 0x400100 12288

/-! ## Lattice nodes (R138 to R140) -/

/-- A lattice node's fields (R138). -/
structure LNode where
  phase : Int := 0
  pitch : Int := 0
  slant : Int := 0
  gap : Int := 0
  gainR : Int := 0
  gainG : Int := 0
  gainB : Int := 0
  black : Int := 0
  phaseY : Int := 0
  masked : Bool := false
  deriving DecidableEq, Repr

/-- Node (i, j) of a lattice; bytes beyond a short image read as zero. -/
def nodeAt (lat : Bytes) (i j : Nat) : LNode :=
  let b := cut lat (32 * (512 * j + i)) 32
  { phase := fieldI b 0 4, pitch := fieldI b 4 4, slant := fieldI b 8 4, gap := fieldI b 12 4, gainR := fieldI b 16 2, gainG := fieldI b 18 2,
    gainB := fieldI b 20 2, black := fieldI b 22 2, phaseY := fieldI b 24 4, masked := bitOf (fieldN b 28 2) 0 }

/-- Saturation to a signed width. -/
def satI (w : Nat) (v : Int) : Int := clampI (-(2 ^ (w - 1))) (2 ^ (w - 1) - 1) v

/-- Combine two nodes field by field with saturation to each field's type. -/
def zipNode (f : Int → Int → Int) (a b : LNode) : LNode :=
  { phase := satI 32 (f a.phase b.phase), pitch := satI 32 (f a.pitch b.pitch), slant := satI 32 (f a.slant b.slant),
    gap := satI 32 (f a.gap b.gap), gainR := satI 16 (f a.gainR b.gainR), gainG := satI 16 (f a.gainG b.gainG),
    gainB := satI 16 (f a.gainB b.gainB), black := satI 16 (f a.black b.black), phaseY := satI 32 (f a.phaseY b.phaseY), masked := b.masked }

/-- The ramped Patina node P_k (R146); MASKED is the target's and is never ramped (R139). -/
def rampNode (k n : Nat) (s g : LNode) : LNode := zipNode (fun a b => a + rhe ((b - a) * k) n) s g

/-- The Patina node of the ramp at its step: the target itself once k = N. -/
def patinaNode (c : CalIn) (i j : Nat) : LNode :=
  if c.k = c.n ∨ c.k = 0 then nodeAt c.rampG i j else rampNode c.k c.n (nodeAt c.rampS i j) (nodeAt c.rampG i j)

/-- The effective node: Bronze plus Patina, saturated; MASKED of either (R139). -/
def effNode (c : CalIn) (i j : Nat) : LNode :=
  let b := nodeAt (bronzeLattice (c.bronze.getD [])) i j
  let p := patinaNode c i j
  { zipNode (· + ·) b p with masked := b.masked || p.masked }

/-- The bytes of a lattice node (R138). -/
def nodeBytes (n : LNode) : Bytes :=
  leInt 4 n.phase ++ leInt 4 n.pitch ++ leInt 4 n.slant ++ leInt 4 n.gap ++ leInt 2 n.gainR ++ leInt 2 n.gainG ++ leInt 2 n.gainB ++
  leInt 2 n.black ++ leInt 4 n.phaseY ++ leBytes 2 (b2n n.masked) ++ zeros 2

/-- The whole ramped Patina as a lattice: what becomes S of the next ramp (R146). -/
def rampedLattice (s g : Bytes) (k n : Nat) : Bytes :=
  if k = n ∨ s = g then g
  else (List.range 131072).flatMap fun a =>
    nodeBytes (rampNode k n (nodeAt s (a % 512) (a / 512)) (nodeAt g (a % 512) (a / 512)))

/-- The lattice cell and fractions of a pixel along one axis (R140); beyond the Bronze panel the last cell with fraction 65,535. -/
def latPos (x last size : Nat) : Nat × Nat :=
  let g := (2 * x + 1) * last * 65536 / (2 * size)
  if last - 1 < g / 65536 then (last - 1, 65535) else (g / 65536, g % 65536)

/-- The interpolated node at the centre of pixel (X, Y) (R140). -/
def interpNode (c : CalIn) (g : BronzeGlobal) (x y : Nat) : LNode :=
  let (i, fx) := latPos x 511 g.panelW
  let (j, fy) := latPos y 255 g.panelH
  let n00 := effNode c i j
  let n10 := effNode c (i + 1) j
  let n01 := effNode c i (j + 1)
  let n11 := effNode c (i + 1) (j + 1)
  let f : (LNode → Int) → Int := fun h =>
    let top := h n00 * (65536 - fx) + h n10 * fx
    let bot := h n01 * (65536 - fx) + h n11 * fx
    rhe (top * (65536 - fy) + bot * fy) (2 ^ 32)
  let m := if 32768 ≤ fy then (if 32768 ≤ fx then n11 else n01) else (if 32768 ≤ fx then n10 else n00)
  { phase := f (·.phase), pitch := f (·.pitch), slant := f (·.slant), gap := f (·.gap), gainR := f (·.gainR), gainG := f (·.gainG),
    gainB := f (·.gainB), black := f (·.black), phaseY := f (·.phaseY), masked := m.masked }

/-! ## Rays (R132, R136, R141, R142) -/

/-- A ray record (R132), with the channel of the subpixel and the lens phases that reference capture tests (R153). -/
structure Ray where
  px : Int := 0
  py : Int := 0
  tu : Int := 0
  tv : Int := 0
  gain : Nat := 16384
  black : Int := 0
  chan : Nat := 0
  phx : Nat := 0
  phy : Nat := 0
  deriving DecidableEq, Repr

/-- Entry e of the transfer table of channel c (R134). -/
def transferEntry (tr : Bytes) (c e : Nat) : Int := fieldI tr (4 * (1024 * c + e)) 4

/-- transfer(c, phi) (R141). -/
def transfer (tr : Bytes) (c phi : Nat) : Int :=
  let pos := phi * 1023
  let e : Nat := pos / 2 ^ 32
  let f : Nat := pos / 2 ^ 16 % 65536
  rhe (transferEntry tr c e * (65536 - f) + transferEntry tr c (e + 1) * f) 65536

/-- Subpixel centre along x and y in 2^-24 mm (R142). -/
def subpixelCentre (axisY : Bool) (pitchX pitchY x y s : Nat) : Int × Int :=
  if axisY then (rhe ((2 * x + 1) * pitchX : Nat) 2, rhe ((6 * y + 2 * s + 1) * pitchY : Nat) 6)
  else (rhe ((6 * x + 2 * s + 1) * pitchX : Nat) 6, rhe ((2 * y + 1) * pitchY : Nat) 2)

/-- The thermal terms th_p and th_g (R144). -/
def thermTerms (g : BronzeGlobal) (tcal : Int) : Int × Int :=
  let dT := clampI (-1280) 1280 (tcal - g.tRef)
  (rhe (g.kPitch * dT) 16, rhe (g.kGap * dT) 16)

/-- A division rounded half-even with the divisor's sign carried over; 0 for divisor 0. -/
def rheI (a b : Int) : Int := if b = 0 then 0 else if b < 0 then rhe (-a) b.natAbs else rhe a b.natAbs

/-- The ray of subpixel s of pixel (X, Y): the nominal lens model without a valid Bronze (R136), else the arithmetic of R142. -/
def rayOf (c : CalIn) (x y s : Nat) : Ray :=
  match c.bronze with
  | none =>
    let (xs, ys) := subpixelCentre false c.nominalPitch c.nominalPitch x y s
    { px := rhe xs 256, py := rhe ys 256, chan := s }
  | some img =>
    let g := bronzeGlobal img
    let tr := bronzeTransfer img
    let v := interpNode c g x y
    let (xs, ys) := subpixelCentre g.axisY g.pitchX g.pitchY x y s
    let ch := if g.bgr then 2 - s else s
    let (thP, thG) := thermTerms g c.tcal
    let xr := xs - g.anchorX * 4096
    let yr := ys - g.anchorY * 4096
    let sig := g.slant + v.slant
    let fs : Int := 2 ^ 30 - v.pitch - thP
    let xe := xr - rhe (sig * yr) (2 ^ 30)
    let phx := unsigned 32 (xe * g.rpX * fs / 2 ^ 46 + g.phaseX + v.phase)
    let phy := unsigned 32 (yr * g.rpY * fs / 2 ^ 46 + g.phaseY + v.phaseY)
    let gf : Int := 2 ^ 24 - v.gap - thG
    let tgx := rhe (transfer tr ch phx * gf) (2 ^ 24)
    let tvL : Int := if c.viewDistance = 0 then 0 else rhe ((c.viewHeight * 4096 - ys) * 2 ^ 28) (c.viewDistance * 4096)
    let (tu, tv) :=
      if g.lensType = 0 then (rhe (tgx * g.secA + sig * tvL) (2 ^ 30), tvL)
      else (tgx, rhe (transfer tr ch phy * gf) (2 ^ 24))
    let gain := clampI 0 32767 (16384 + (if ch = 0 then v.gainR else if ch = 1 then v.gainG else v.gainB))
    { px := rhe xs 256, py := rhe ys 256, tu := satI 32 tu, tv := satI 32 tv, gain := if v.masked then 0 else gain.toNat,
      black := if v.masked then 0 else v.black, chan := ch, phx := phx, phy := phy }

/-! ## Bounds (R143) -/

/-- The largest |E| over the three transfer tables. -/
def transferMax (tr : Bytes) : Nat := maxN ((List.range 3072).map fun e => (fieldI tr (4 * e) 4).natAbs)

/-- Every effective node under the given Patina lattice. -/
def effNodes (bronze patina : Bytes) : List LNode :=
  (List.range 131072).map fun a => effNode { bronze := some bronze, rampG := patina, k := 1, n := 1 } (a % 512) (a / 512)

/-- The bounds on tan U_max and tan V_max in 2^-16, rounded up, over the given Patina endpoints (R143); 0 under the nominal lens model, whose rays have tangent 0. -/
def tanBounds (bronze : Option Bytes) (ends : List Bytes) (tcal : Int) (viewDistance : Nat) (viewHeight : Int) : Nat × Nat :=
  match bronze with
  | none => (0, 0)
  | some img =>
    let g := bronzeGlobal img
    let nodes := ends.flatMap (effNodes img)
    let (_, thG) := thermTerms g tcal
    let tmax := transferMax (bronzeTransfer img)
    let gmax := maxN (nodes.map fun n => (2 ^ 24 - n.gap - thG).toNat)
    let t := tmax * gmax
    if g.lensType = 1 then (ceilDiv t (2 ^ 36), ceilDiv t (2 ^ 36))
    else
      let smax := g.slant.natAbs + maxN (nodes.map fun n => n.slant.natAbs)
      let h : Int := (g.panelH * g.pitchY : Nat)
      let vh := viewHeight * 4096
      let vnum := max vh.natAbs (h - vh).natAbs
      if viewDistance = 0 then (ceilDiv (t * g.secA) (2 ^ 66), 0)
      else
        let vden := viewDistance * 4096
        (ceilDiv (t * g.secA * vden + smax * vnum * 2 ^ 52) (vden * 2 ^ 66), ceilDiv (vnum * 2 ^ 16) vden)

namespace State

/-- The Patina target of Cast, or of the bank a swap brings. -/
def patinaOf (s : State) (newBank : Bool) : Bytes := s.octB newBank O.patinaLattice

/-- The ramped Patina of the last frame rendered (R146). -/
def rampedNow (s : State) : Bytes :=
  if s.cal.running then rampedLattice s.cal.rampS (s.patinaOf false) s.cal.rampK s.cal.rampN else s.patinaOf false

/-- The Patina lattices whose nodes bound the rays of a frame of the bank: both endpoints of a ramp (R143). -/
def rampEnds (s : State) (newBank : Bool) : List Bytes :=
  (if s.cal.running || (s.cfg.rampDue && (s.cfg.switched || s.nat O.cfgSwapState != 3)) then [s.cal.rampS] else []) ++ [s.patinaOf false] ++ (if newBank then [s.patinaOf true] else [])

/-- The bounds of R143 for the bank. -/
def tansOf (s : State) (newBank : Bool) : Nat × Nat :=
  tanBounds s.cal.bronze (s.rampEnds newBank) s.cal.tCal (s.natB newBank O.viewDistance) (s.valB newBank O.viewHeight).toInt

/-- The calibration inputs a render window would fix for a frame of the bank at ramp step `k` of `n` (R133). -/
def calInputs (s : State) (newBank : Bool) (rs : Bytes) (k n : Nat) : CalIn :=
  { bronze := s.cal.bronze, rampS := rs, rampG := s.patinaOf newBank, k := k, n := n, tcal := s.cal.tCal,
    viewDistance := s.natB newBank O.viewDistance, viewHeight := (s.valB newBank O.viewHeight).toInt,
    nominalPitch := s.natB newBank O.nominalPitch }

/-- The pixel pitches along x and y in 2^-24 mm (R135, R136, R167). -/
def pitches (s : State) (newBank : Bool) : Nat × Nat :=
  match s.cal.bronze with
  | some img => ((bronzeGlobal img).pitchX, (bronzeGlobal img).pitchY)
  | none => (s.natB newBank O.nominalPitch, s.natB newBank O.nominalPitch)

/-- The active area in pixels of the bank (R225). -/
def panelSize (s : State) (newBank : Bool) : Nat × Nat :=
  (s.natB newBank O.headCount * s.natB newBank O.headHActive, s.natB newBank O.headVActive)

/-- cal_status_flags (R157). -/
def calFlags (s : State) : Nat :=
  maskOf [s.cal.bronze.isNone, s.cal.running, s.cal.unstored, s.cal.tMeas.isNone,
    match s.cal.tMeas with | some t => 1 < (t - s.cal.tCal).natAbs | none => false,
    s.nat O.captureState != 0, s.cal.single, s.cal.noPatina]

/-- Bring CAL's objects up to date (R157). -/
def refreshCal (s : State) : State :=
  let s := (((s.put O.calStatusFlags s.calFlags).put O.calTempLatched s.cal.tCal).put O.calRampStep (if s.cal.running then s.cal.rampK else 0))
  match s.cal.tMeas with | some t => s.put O.calTempMeasured t | none => s

/-- A new measured lens temperature, or none (R144). The first one before the first frame is taken as T_cal directly (R145). -/
def setTMeas (s : State) (t : Option Int) : State :=
  if s.cal.tMeas = t then s
  else
    let keep := s.cal.hist.takeWhile fun e => s.clk.now < e.1 + 60000000000
    let older := (s.cal.hist.drop keep.length).take 1
    let first : Bool := !s.cal.tSet && t.isSome
    let tc : Int := if first then t.getD 0 else s.cal.tCal
    ({ s with cal := { s.cal with tMeas := t, tCal := tc, tSet := s.cal.tSet || first, hist := (s.clk.now, t) :: keep ++ older } } : State).refreshCal

/-- Move T_cal one step towards T_meas at a render window opening (R144, R145). (DEDUCED, log entry 46.) -/
def stepTCal (s : State) : State :=
  let t : Int := match s.cal.tMeas with
    | none => s.cal.tCal
    | some m => if s.cal.tCal < m then s.cal.tCal + 1 else if m < s.cal.tCal then s.cal.tCal - 1 else m
  ({ s with cal := { s.cal with tCal := t, tSet := true } } : State).refreshCal

end State

end Sys2Proof.Machine
end

