-- ==== Sys2Proof/Machine/Binning.lean ====
section
/-! DEFINITION. Binning a frame: screen rectangles, bins, drops, merge order, units and unit terms (R69 to R71, R161, R164, R165, R167, R186, R526). -/

namespace Sys2Proof.Machine

/-- What binning takes from a bank: the active area, the pixel pitches and the tangent bounds (R69, R164, R167, R526). -/
structure BinGeo where
  w : Nat
  h : Nat
  pitchX : Nat
  pitchY : Nat
  tanU : Nat
  tanV : Nat
  deriving DecidableEq, Repr

/-- One axis of the screen rectangle: the first pixel and the exclusive end, before clamping (R69). Positions are in 2^-12 mm, the tangent in 2^-16, the pitch in 2^-24 mm. -/
def screenAxis (pmin pmax : Int) (zabs tan pitch : Nat) : Int × Int :=
  let z : Int := (zabs * tan : Nat)
  ((pmin * 65536 - z) / (16 * pitch : Nat) - 1, (pmax * 65536 + z) / (16 * pitch : Nat) + 2)

/-- The screen rectangle of a derived Figure; empty ones have x1 ≤ x0 or y1 ≤ y0 (R55, R69). -/
def screenRect (geo : BinGeo) (f : Figure) : Rect :=
  let zabs := max f.pmin.z.natAbs f.pmax.z.natAbs
  let (x0, x1) := screenAxis f.pmin.x f.pmax.x zabs geo.tanU geo.pitchX
  let (y0, y1) := screenAxis f.pmin.y f.pmax.y zabs geo.tanV geo.pitchY
  let r : Rect := ⟨clampN 0 geo.w x0.toNat, clampN 0 geo.h y0.toNat, clampN 0 geo.w x1.toNat, clampN 0 geo.h y1.toNat⟩
  if bitOf f.ctx.flags 0 then
    ⟨max r.x0 f.ctx.clip.x0, max r.y0 f.ctx.clip.y0, min r.x1 f.ctx.clip.x1, min r.y1 f.ctx.clip.y1⟩
  else r

/-- Whether a rectangle has a pixel. -/
def Rect.nonempty (r : Rect) : Bool := r.x0 < r.x1 && r.y0 < r.y1

/-- The intersection of two rectangles. -/
def Rect.meet (a b : Rect) : Rect := ⟨max a.x0 b.x0, max a.y0 b.y0, min a.x1 b.x1, min a.y1 b.y1⟩

/-- Whether two rectangles overlap. -/
def Rect.overlaps (a b : Rect) : Bool := (a.meet b).nonempty

/-- Pixels of a rectangle. -/
def Rect.area (r : Rect) : Nat := (r.x1 - r.x0) * (r.y1 - r.y0)

/-- Whether a rectangle contains a pixel. -/
def Rect.has (r : Rect) (x y : Nat) : Bool := r.x0 ≤ x && x < r.x1 && r.y0 ≤ y && y < r.y1

/-- Whether a Figure may be binned at all (R51, R53, R55). -/
def binnable (f : Figure) : Bool :=
  f.ctx.renderClass != 0 && f.ctx.opacity != 0 && f.ctx.layerMask != 0 &&
  (!bitOf f.ctx.flags 0 || (f.ctx.clip.x0 < f.ctx.clip.x1 && f.ctx.clip.y0 < f.ctx.clip.y1))

/-- The order of R71: depth_key, then Figure ID. -/
def figBefore (a b : Figure) : Bool :=
  a.ctx.depthKey < b.ctx.depthKey || (a.ctx.depthKey == b.ctx.depthKey && a.id ≤ b.id)

/-- Insert a Figure after those that come before it in the order of R71. -/
def figInsert (f : Figure) : List Figure → List Figure
  | [] => [f]
  | g :: gs => if figBefore g f then g :: figInsert f gs else f :: g :: gs

/-- Figures in the order of R71. -/
def figSort : List Figure → List Figure
  | [] => []
  | f :: fs => figInsert f (figSort fs)

/-- The enabled layers of a Figure. -/
def enabledLayers (f : Figure) : List (Nat × Layer) :=
  ((List.range f.layers.length).zip f.layers).filter fun x => bitOf f.ctx.layerMask x.1

/-- rmax of a layer: 0 for a flat or OVERLAY layer, max_refine otherwise (R161). -/
def rmax (f : Figure) (l : Layer) : Nat := if l.depthStep = 0 ∨ f.ctx.renderClass = 3 then 0 else l.maxRefine

/-- The part of a ray's step bound that a Figure adds where its screen rectangle covers the pixel (R161, R171). -/
def figSteps (f : Figure) : Nat := sumN ((enabledLayers f).map fun x => 1 + rmax f x.2)

/-! ## The tile footprint (R167) -/

/-- Column `b` of a matrix. -/
def Mat.col (m : Mat) (b : Nat) : V3 :=
  match b with
  | 0 => ⟨m.r0.x, m.r1.x, m.r2.x⟩
  | 1 => ⟨m.r0.y, m.r1.y, m.r2.y⟩
  | _ => ⟨m.r0.z, m.r1.z, m.r2.z⟩

/-- Matrix times vector. -/
def Mat.mul (m : Mat) (v : V3) : V3 := ⟨m.r0.dot v, m.r1.dot v, m.r2.dot v⟩

/-- Vector scaled. -/
def V3.smul (k : Int) (v : V3) : V3 := ⟨k * v.x, k * v.y, k * v.z⟩

/-- Vector sum. -/
def V3.add (a b : V3) : V3 := ⟨a.x + b.x, a.y + b.y, a.z + b.z⟩

/-- Vector difference. -/
def V3.sub (a b : V3) : V3 := ⟨a.x - b.x, a.y - b.y, a.z - b.z⟩

/-- The tile range of one axis from the least and greatest layer coordinate, given as numerators over `den` texel pitches (R167). -/
def tileRange (lo hi : Int) (den : Nat) (tiles : Nat) : Nat × Nat :=
  let fl : Int → Int := fun v => (2 * v - den) / (2 * den : Nat)
  let i0 := clampI 0 (32 * tiles - 1) (fl lo - 1)
  let i1 := clampI 0 (32 * tiles - 1) (fl hi + 2)
  (i0.toNat / 32, i1.toNat / 32)

/-- The footprint of a layer in a unit: the first and last tile column and row, none when it is empty (R167). Corner positions are in 2^-28 mm, layer coordinates in units of 2^-126 mm over the scale. -/
def footprint (geo : BinGeo) (f : Figure) (l : Layer) (u : Rect) : Option (Nat × Nat × Nat × Nat) :=
  let za := max f.pmin.z.natAbs f.pmax.z.natAbs
  let bx0 := max ((u.x0 * geo.pitchX * 16 : Nat) - (za * geo.tanU : Nat) : Int) (f.pmin.x * 65536)
  let bx1 := min ((u.x1 * geo.pitchX * 16 : Nat) + (za * geo.tanU : Nat) : Int) (f.pmax.x * 65536)
  let by0 := max ((u.y0 * geo.pitchY * 16 : Nat) - (za * geo.tanV : Nat) : Int) (f.pmin.y * 65536)
  let by1 := min ((u.y1 * geo.pitchY * 16 : Nat) + (za * geo.tanV : Nat) : Int) (f.pmax.y * 65536)
  if bx1 < bx0 ∨ by1 < by0 then none
  else
    let lm := quatMat l.q
    let mo := f.rotM.mul l.origin
    let base : V3 := (f.ctx.trans.smul (2 ^ 54)).add (mo.smul f.ctx.scale)
    let es := (corners ⟨bx0, by0, f.pmin.z * 65536⟩ ⟨bx1, by1, f.pmax.z * 65536⟩).map fun p => (p.smul (2 ^ 38)).sub base
    let colOf : Nat → V3 := fun b => f.rotM.mul (lm.col b)
    let qs : Nat → List Int := fun b => es.map fun e => (colOf b).dot e
    let xs := qs 0
    let ys := qs 1
    let (t0, t1) := tileRange (minI (xs.headD 0) xs) (maxI (xs.headD 0) xs) (f.ctx.scale * l.pitchU * 2 ^ 86) l.tilesX
    let (r0, r1) := tileRange (minI (ys.headD 0) ys) (maxI (ys.headD 0) ys) (f.ctx.scale * l.pitchV * 2 ^ 86) l.tilesY
    some (t0, t1, r0, r1)

/-- The number of tiles of a footprint. -/
def footprintSize (x : Option (Nat × Nat × Nat × Nat)) : Nat :=
  match x with
  | none => 0
  | some (t0, t1, r0, r1) => (t1 + 1 - t0) * (r1 + 1 - r0)

/-- The tiles of a footprint, row by row. -/
def footprintTiles (x : Option (Nat × Nat × Nat × Nat)) : List (Nat × Nat) :=
  match x with
  | none => []
  | some (t0, t1, r0, r1) => (List.range (r1 + 1 - r0)).flatMap fun r => (List.range (t1 + 1 - t0)).map fun t => (t0 + t, r0 + r)

/-! ## Units (R164, R165) and their terms (R186) -/

/-- The largest step bound of a ray of the rectangle: reached at a corner where Figure rectangles begin (R161, R186). -/
def maxSteps (u : Rect) (cover : List (Rect × Nat)) : Nat :=
  let xs := u.x0 :: cover.map fun c => max u.x0 c.1.x0
  let ys := u.y0 :: cover.map fun c => max u.y0 c.1.y0
  maxN (xs.flatMap fun x => ys.map fun y => 2 + sumN (cover.map fun c => if (c.1.meet u).has x y then c.2 else 0))

/-- A unit with its unit terms: `figs` are the positions of the bin's kept Figures (R186). -/
def mkUnit (geo : BinGeo) (fs : List (Figure × Rect)) (bin sub : Nat) (u : Rect) (figs : List Nat) : RUnit :=
  let meets := figs.filterMap fun i => (fs[i]?).bind fun x => if x.2.overlaps u then some x else none
  let cover := meets.map fun x => (x.2, figSteps x.1)
  let count : (Figure × Rect) → Nat := fun x => sumN ((enabledLayers x.1).map fun l => footprintSize (footprint geo x.1 l.2 u))
  { bin := bin, sub := sub, rect := u, figs := figs,
    s := 3 * (2 * u.area + sumN (cover.map fun c => (c.1.meet u).area * c.2)),
    m := maxSteps u cover,
    n := sumN (meets.map count),
    nOvl := sumN ((meets.filter fun x => x.1.ctx.renderClass == 3).map count),
    f := meets.length }

/-- The cells of a split bin: 4 x 4 of 64 x 64 pixels, those with a pixel left (R165). -/
def subRects (b : Rect) : List (Nat × Rect) :=
  ((List.range 16).map fun n =>
    let x := b.x0 + 64 * (n % 4)
    let y := b.y0 + 64 * (n / 4)
    (n, (⟨x, y, min (x + 64) b.x1, min (y + 64) b.y1⟩ : Rect))).filter fun x => x.2.nonempty

/-- A bin's units: the bin itself with at most 48 tiles, its sub-bins otherwise (R165). -/
def binUnits (geo : BinGeo) (fs : List (Figure × Rect)) (bin : Nat) (b : Rect) (figs : List Nat) : List RUnit :=
  let whole := mkUnit geo fs bin 255 b figs
  if whole.n ≤ 48 then [whole] else (subRects b).map fun x => mkUnit geo fs bin x.1 x.2 figs

/-- Drop OPTIONAL Figures, the last in key order first, until 64 remain or none is left (R70). `rev` is the bin's list in reverse order. -/
def dropOptional (fs : List (Figure × Rect)) : List Nat → Nat → List Nat
  | [], _ => []
  | i :: rev, excess =>
    if excess = 0 then i :: rev
    else if (fs[i]?).any fun x => x.1.ctx.renderClass == 2 then dropOptional fs rev (excess - 1)
    else i :: dropOptional fs rev excess

/-- The result of binning one bin: kept Figures, drops, and whether more than 64 remain (R70). -/
def fillBin (fs : List (Figure × Rect)) (b : Rect) : List Nat × Nat × Bool :=
  let all := (List.range fs.length).filter fun i => (fs[i]?).any fun x => x.2.overlaps b
  let kept := (dropOptional fs all.reverse (all.length - 64)).reverse
  (kept, all.length - kept.length, 64 < kept.length)

/-- The bins of an active area in bin order (R164). -/
def binRects (w h : Nat) : List Rect :=
  (List.range (ceilDiv h 256)).flatMap fun y => (List.range (ceilDiv w 256)).map fun x =>
    ⟨256 * x, 256 * y, min (256 * x + 256) w, min (256 * y + 256) h⟩

/-- The Figures of a frame in the order of R71, those that may be binned. -/
def frameFigures (figs : List Figure) : List Figure := figSort (figs.filter binnable)

/-- Binning of a frame's Figures, already in order, under a bank (R69 to R71, R164, R165, R186). -/
def binFrame (geo : BinGeo) (newBank : Bool) (gen : Nat) (figs : List Figure) : Binning :=
  let fs := figs.map fun f => (f, screenRect geo f)
  let bins := (binRects geo.w geo.h).map fun b => (b, fillBin fs b)
  let ib := (List.range bins.length).zip bins
  let bad := (ib.find? fun x => x.2.2.2.2).map (·.1)
  let us := ib.map fun x => binUnits geo fs x.1 x.2.1 x.2.2.1
  { newBank := newBank, gen := gen, screens := fs.map (·.2), units := us.flatten, drops := sumN (bins.map fun x => x.2.2.1), badBin := bad,
    peak := min 64 (maxN (bins.map fun x => x.2.1.length)), splitBins := (us.filter fun u => 1 < u.length ∨ (u.any fun x => x.sub != 255)).length }

namespace State

/-- The binning geometry of a bank (R526). -/
def binGeo (s : State) (newBank : Bool) : BinGeo :=
  let (w, h) := s.panelSize newBank
  let (px, py) := s.pitches newBank
  let (tu, tv) := s.tansOf newBank
  { w := w, h := h, pitchX := px, pitchY := py, tanU := tu, tanV := tv }

/-- The generation of the bank: Cast's, or Cast's + 1 for the bank a swap brings (R374). -/
def genOf (s : State) (newBank : Bool) : Nat := s.nat O.cfgBankGeneration + b2n (newBank || s.cfg.switched)

/-- Whether a frame of this number is costed against the new bank of a bound swap (R43, R526). -/
def onNewBank (s : State) (number : Nat) : Bool := s.nat O.cfgSwapState == 3 && !s.cfg.switched && s.nat O.cfgBoundFrame ≤ number

/-- Bin a snapshot of Figures under a bank. -/
def binUnder (s : State) (newBank : Bool) (figs : List Figure) : Binning := binFrame (s.binGeo newBank) newBank (s.genOf newBank) figs

/-- The screen rectangle of an updated Figure, under Cast (R49, R69). -/
def screenOf (s : State) (f : Figure) : Rect := screenRect (s.binGeo false) f

end State

end Sys2Proof.Machine
end

