-- ==== Sys2Proof/Machine/Stream.lean ====
section
/-! DEFINITION. The stream decoder: segments, their tracking, and the sections other than the marker and the audio block (R75 to R95, R106 to R112). -/

namespace Sys2Proof.Machine

/-! ## Segments -/

/-- The stream_id of a segment (R76). -/
def segId (b : Bytes) : Nat := fieldN b 8 4

/-- The seg_seq of a segment (R76). -/
def segSeq (b : Bytes) : Nat := fieldN b 12 4

/-- The seg_len of a segment (R76). -/
def segLen (b : Bytes) : Nat := fieldN b 16 4

/-- Whether the bytes begin with a sync word, a valid hdr_crc and version 1 (R78, R107). -/
def segSync (b : Bytes) : Bool :=
  24 ≤ b.length && fieldN b 0 4 == 0x4B525341 && crc32c (b.take 20) == fieldN b 20 4 && fieldN b 4 1 == 1

/-- Whether the seg_len lies in its range (R76, R78). -/
def segLenOk (b : Bytes) : Bool := 36 ≤ segLen b && segLen b ≤ 16777216 && segLen b % 4 == 0

/-- Whether the header passes R78. A clip store's entry may hold further segments behind this one; the other transports deliver exactly one. -/
def segHeaderOk (transport : Nat) (b : Bytes) : Bool :=
  segSync b && segLenOk b && (if transport = 3 then segLen b ≤ b.length else segLen b == b.length)

/-- The search of R107: the rest of the bytes from the next aligned position that holds a valid header. (DEDUCED, log entry 33.) -/
def resync : Nat → Bytes → Bytes
  | 0, _ => []
  | n + 1, b =>
    let r := b.drop 4
    if r.isEmpty then [] else if segSync r then r else resync n r

namespace State

/-- A stream code that goes into the next entry (R108). -/
def streamCode (s : State) (code : Nat) : State := s.sdecCode s.sdec.pos code

/-- Change the stream decoder. -/
def modSdec (s : State) (f : Sdec → Sdec) : State := { s with sdec := f s.sdec }

/-- Take the segment at the front out of the stream queue; of a clip-store entry the segments behind it stay. -/
def popSegment (s : State) (rest : Bytes) : State :=
  s.modSdec fun d => { d with
    pos := d.pos + 1
    queue := match d.queue with
      | [] => []
      | g :: gs => if rest.isEmpty then gs else { g with bytes := rest } :: gs }

/-- What follows a discarded segment in the queue (R107). -/
def afterDiscard (g : Seg) (bad : Bool) : Bytes :=
  if g.transport ≠ 3 then [] else if bad then resync (g.bytes.length / 4 + 1) g.bytes else g.bytes.drop (segLen g.bytes)

/-- Discard the segment at the front with a code (R78, R79). (DEDUCED, log entry 33.) -/
def discardSegment (s : State) (g : Seg) (code : Nat) (bad : Bool) : State :=
  (((s.streamCode code).bump O.segBadCount).popSegment (afterDiscard g bad)).regateStream

/-- Accept the segment at the front: it is tracked and its sections are next (R79, R80). -/
def acceptSegment (s : State) (g : Seg) (ue : List Nat) : State :=
  let n := segLen g.bytes
  let s := (s.bump O.segOkCount).put O.streamCurrentId (segId g.bytes)
  (s.popSegment (if g.transport = 3 then g.bytes.drop n else [])).modSdec fun d => { d with
    inSeg := true, rest := (g.bytes.take n).drop 24, bad := ue, segLen := n, secOff := 24,
    curId := some (segId g.bytes), expected := (segSeq g.bytes + 1) % 2 ^ 32 }

end State

/-- SEGMENT: the segment at the front of the stream queue is checked and tracked (R78 to R80). `ue` lists the byte offsets at which its read met uncorrectable sectors, `ce` those corrected (R216). The report 0x0408 is one code; its count of segments shows in seg_loss_count. (DESIGN CHOICE, log entry 118.) -/
def cmdSegment (s : State) (ue ce : List Nat) : State :=
  match s.sdec.queue with
  | [] => s
  | g :: _ =>
    if s.sdec.inSeg || s.sdec.stalled.isSome || !s.islandUp 6 then s
    else
      let s := ((s.memRequest).eccAll .relief (ue.map fun u => g.addr + u)).eccCorrected (ce.map fun u => g.addr + u)
      if ue.any (· < 24) || !segHeaderOk g.transport g.bytes then s.discardSegment g 0x0401 true
      else if bitOf (fieldN g.bytes 5 1) 0 then s.retireAll.settleRelief.acceptSegment g ue
      else match s.sdec.curId with
        | none => s.discardSegment g 0x0409 false
        | some id =>
          if segId g.bytes ≠ id then s.discardSegment g 0x0409 false
          else
            let d := (segSeq g.bytes + 2 ^ 32 - s.sdec.expected) % 2 ^ 32
            if d = 0 then s.acceptSegment g ue
            else if d < 2 ^ 31 then ((s.streamCode 0x0408).bumpBy O.segLossCount d).acceptSegment g ue
            else ((s.streamCode 0x0408).popSegment (State.afterDiscard g false)).regateStream

/-! ## Sections (R81 to R83) -/

/-- The length of a section (R81). -/
def secLen (b : Bytes) : Nat := fieldN b 4 4

namespace State

/-- The segment ends: its last section has been passed or its rest is discarded. -/
def endSegment (s : State) : State :=
  (s.modSdec fun d => { d with inSeg := false, rest := [], bad := [], pos := d.pos + 1 }).regateStream

/-- Parsing goes on behind the section. -/
def nextSection (s : State) (n : Nat) : State :=
  let s := s.modSdec fun d => { d with rest := d.rest.drop n, secOff := d.secOff + n, pos := d.pos + 1 }
  if s.sdec.rest.isEmpty then s.endSegment else s

/-- Whether the parser stands before a section and can take it. -/
def canParse (s : State) : Bool := s.sdec.inSeg && s.sdec.stalled.isNone && s.islandUp 6

/-- Whether the section's CRC holds and no uncorrectable sector lies in it (R81, R216). -/
def secCrcOk (s : State) (sec : Bytes) : Bool :=
  crc32c (sec.take (sec.length - 4)) == fieldN sec (sec.length - 4) 4 &&
  !(s.sdec.bad.any fun o => s.sdec.secOff ≤ o && o < s.sdec.secOff + sec.length)

/-- The section is discarded with 0x0402 (R83 step 5). -/
def badSection (s : State) : State := s.streamCode 0x0402

/-- An accepted section takes the next parse ordinal (R111). -/
def acceptSection (s : State) : State := s.modSdec fun d => { d with ordinal := d.ordinal + 1 }

/-- The steps of R83 for the next section, if its type is one of those the command stands for; `body` is step 5 and the section's effect. -/
def withSection (s : State) (mine : Nat → Bool) (body : State → Bytes → State) : State :=
  match s.sdec.rest with
  | [] => s
  | t :: _ =>
    if !s.canParse || !mine t.toNat then s
    else
      let n := secLen s.sdec.rest
      if n < 12 ∨ n % 4 ≠ 0 ∨ s.sdec.rest.length < n then (s.streamCode 0x0402).endSegment
      else
        let sec := s.sdec.rest.take n
        if 0x80 ≤ t.toNat then s.nextSection n
        else if !s.secCrcOk sec then ((s.streamCode 0x0404).bump O.secCrcFailCount).nextSection n
        else if t.toNat = 0 ∨ 8 ≤ t.toNat then (s.streamCode 0x0403).nextSection n
        else (body s sec).nextSection n

end State

/-- FIGURE_DEFINE (R64, R65, R89). -/
def cmdFigureDefine (s : State) : State :=
  s.withSection (· == 2) fun s sec =>
    let n := fieldN sec 13 1
    if sec.length ≠ 144 + 64 * n then s.badSection
    else (s.acceptSection.define s.sdec.pos s.sdec.ordinal (fieldN sec 8 4) (parseCtx (cut sec 12 128))
      (parseLayers (cut sec 0x8C (64 * n)) n) s.screenOf).settleRelief

/-- FIGURE_MODIFY (R64, R65, R90). -/
def cmdFigureModify (s : State) : State :=
  s.withSection (· == 3) fun s sec =>
    let mask := fieldN sec 12 4
    let body := (sec.drop 16).take (sec.length - 20)
    if sec.length < 24 ∨ mask = 0 ∨ 512 ≤ mask ∨ sec.length ≠ 20 + modifySize mask body then s.badSection
    else (s.acceptSection.modify s.sdec.pos s.sdec.ordinal (fieldN sec 8 4) (applyModify mask body) s.screenOf).settleRelief

/-- FIGURE_RETIRE (R65, R66, R91). -/
def cmdFigureRetire (s : State) : State :=
  s.withSection (· == 4) fun s sec =>
    if sec.length ≠ 16 then s.badSection
    else (s.acceptSection.retire s.sdec.pos s.sdec.ordinal (fieldN sec 8 4)).settleRelief

/-- Whether the fields of a TILE_UPDATE lie in their ranges and its length agrees (R92, R93). -/
def tileFieldsOk (sec : Bytes) : Bool :=
  let flags := fieldN sec 13 1 % 16
  let n := fieldN sec 0x20 4
  40 ≤ sec.length && sec.length == 40 + (n + 3) / 4 * 4 && fieldN sec 12 1 < 32 && fieldN sec 14 2 < 512 && fieldN sec 16 2 < 512 &&
  (if bitOf flags 0 then flags == 1 && n == 16
   else 5 ≤ n && n ≤ 65536 && (cut sec 0x18 6).all fun q => q.toNat < 64)

/-- TILE_UPDATE: the tile is addressed, takes its ordinal and goes to a decoder or the writer (R65, R68, R92, R112). -/
def cmdTileUpdate (s : State) : State :=
  s.withSection (· == 5) fun s sec =>
    if !tileFieldsOk sec then s.badSection
    else
      let id := fieldN sec 8 4
      let k := fieldN sec 12 1
      let tx := fieldN sec 14 2
      let ty := fieldN sec 16 2
      let key := s.sdec.pos
      let ord := s.sdec.ordinal
      let s := s.acceptSection
      match s.fig? id with
      | none => (s.sdecCode key 0x0604).settleRelief
      | some f => match f.layers[k]?, (f.dirs[k]?).getD none with
        | some l, some d =>
          if l.tilesX ≤ tx ∨ l.tilesY ≤ ty then (s.sdecCode key 0x0605).settleRelief
          else (s.dispatchUpd {
            ordinal := ord, key := key, figId := id, layer := k, tx := tx, ty := ty, dir := d,
            flags := fieldN sec 13 1 % 16, seq := fieldN sec 0x14 4, qp := (cut sec 0x18 6).map (·.toNat),
            payload := cut sec 0x24 (fieldN sec 0x20 4) }).settleRelief
        | _, _ => (s.sdecCode key 0x0605).settleRelief

/-- PADDING_SECTION: accepted, its payload ignored (R82). -/
def cmdPadding (s : State) : State := s.withSection (· == 7) fun s _ => s.acceptSection.settleRelief

/-- UNKNOWN_SECTION: a section of type 0x00 or 0x08 to 0x7F (R82, R83). -/
def cmdUnknown (s : State) : State := s.withSection (fun t => t == 0 || (8 ≤ t && t < 0x80)) fun s _ => s

/-- PRIVATE_SECTION: a section of type 0x80 to 0xFF is skipped (R82, R83). -/
def cmdPrivate (s : State) : State := s.withSection (fun t => 0x80 ≤ t) fun s _ => s

/-- SEGMENT (R78). -/
def execSegment (ue : List Nat) (s : State) (ce : List Nat := []) : Host.Outcome State Fault Refusal := .next (s.ifLive fun s => cmdSegment s ue ce)

/-- FIGURE_DEFINE (R65). -/
def execFigureDefine (s : State) : Host.Outcome State Fault Refusal := .next (s.ifLive cmdFigureDefine)

/-- FIGURE_MODIFY (R90). -/
def execFigureModify (s : State) : Host.Outcome State Fault Refusal := .next (s.ifLive cmdFigureModify)

/-- FIGURE_RETIRE (R66). -/
def execFigureRetire (s : State) : Host.Outcome State Fault Refusal := .next (s.ifLive cmdFigureRetire)

/-- TILE_UPDATE (R112). -/
def execTileUpdate (s : State) : Host.Outcome State Fault Refusal := .next (s.ifLive cmdTileUpdate)

/-- PADDING_SECTION (R82). -/
def execPaddingSection (s : State) : Host.Outcome State Fault Refusal := .next (s.ifLive cmdPadding)

/-- UNKNOWN_SECTION (R83). -/
def execUnknownSection (s : State) : Host.Outcome State Fault Refusal := .next (s.ifLive cmdUnknown)

/-- PRIVATE_SECTION (R83). -/
def execPrivateSection (s : State) : Host.Outcome State Fault Refusal := .next (s.ifLive cmdPrivate)

end Sys2Proof.Machine
end

