-- ==== Sys2Proof/Machine/Queue.lean ====
section
/-! DEFINITION. The stream queue as its writers see it: room, and one segment entering it (R106, R204, R320). -/

namespace Sys2Proof.Machine

/-- The transport whose segments enter the stream queue (R320): 3 while fallback is in force. -/
def State.source (s : State) : Nat := if s.hif.fallback then 3 else s.nat O.streamSource

namespace State

/-- Bytes that wait in the stream queue, those at its gate included (R204). -/
def queueUsed (s : State) : Nat := sumN (s.sdec.queue.map fun g => g.bytes.length) + sumN (s.sdec.gate.map fun g => g.2.length)

/-- Whether the stream queue, the partition's 0x4000_0000 bytes, has room for `n` more (R204, R319). (DESIGN CHOICE, log entry 16.) -/
def queueRoom (s : State) (n : Nat) : Bool := s.queueUsed + n ≤ 0x40000000

/-- A segment is written into the stream queue (R204). (DESIGN CHOICE, log entry 16.) -/
def pushSegment (s : State) (transport : Nat) (bs : Bytes) : State :=
  s.memRequest.modSdec fun d => { d with
    queue := d.queue ++ [{ transport := transport, addr := 0x40000000 + d.wr, bytes := bs }]
    wr := (d.wr + bs.length) % 0x40000000 }

/-- Whether the SDEC and RREC islands are powered (R27). -/
def streamPowered (s : State) : Bool := (s.island 6).pow == .powered && (s.island 7).pow == .powered

/-- A segment is delivered: it enters the stream queue, or waits until the SDEC and RREC islands, which it powers up, are ready (R26, R27). -/
def enqueue (s : State) (transport : Nat) (bs : Bytes) : State :=
  let s := (s.powerIsl 6).powerIsl 7
  if s.streamPowered && s.sdec.gate.isEmpty then s.pushSegment transport bs
  else s.modSdec fun d => { d with gate := d.gate ++ [(transport, bs)] }

/-- The segments that waited for the islands enter the stream queue (R27). -/
def openGate (s : State) : State :=
  if !s.streamPowered then s
  else (s.sdec.gate).foldl (fun s g => s.pushSegment g.1 g.2) (s.modSdec fun d => { d with gate := [] })

end State

end Sys2Proof.Machine
end

