-- ==== Sys2Proof/Machine/Audio.lean ====
section
/-! DEFINITION. AUD, the audio output ports: sample grid, acceptance, presentation, underrun, non-PCM, clocks (R395 to R409). -/

namespace Sys2Proof.Machine

/-- Sample frames in the ring of a stream port (R401). -/
def ringFrames : Nat := 2097152

/-- The base rate of a rate_code in Hz (R95, R397). -/
def baseOf (code : Nat) : Nat := if code % 2 = 0 then 44100 else 48000

/-- The sample rate fs of a rate_code in Hz (R95). -/
def rateHz (code : Nat) : Nat := baseOf code * 2 ^ (code / 2)

/-- The MCLK multiple of an aud_pair_mclk_mult value (R397, R410). -/
def mclkMult (m : Nat) : Nat := 128 * 2 ^ m

/-- Whether a pair's MCLK lies within 1,024 x base (R398). -/
def mclkOk (rate mult : Nat) : Bool := mclkMult mult * rateHz rate ≤ 1024 * baseOf rate

/-- Sample width in bits of a packing (R400). -/
def packWidth (p : Nat) : Nat := if p = 0 then 16 else if p = 3 then 32 else 24

/-- Bytes a sample takes under a packing (R95). -/
def packBytes (p : Nat) : Nat := if p = 0 then 2 else if p = 1 then 3 else 4

/-- A sample's stored word, left-justified in 32 bits (R400). -/
def sampleWord (p : Nat) (bs : Bytes) : Nat := leNat bs % 2 ^ packWidth p * 2 ^ (32 - packWidth p)

/-- The grid slot of an instant of TAI ns (R401). (DEDUCED, log entry 90.) -/
def gridSlot (ns fs : Nat) : Nat := (rhe (ns * fs : Nat) 1000000000).toNat

/-- The slot being presented at display time `disp`, in units of 2^-32 ns (R401). (DEDUCED, log entry 90.) -/
def slotNow (disp fs : Nat) : Nat := disp * fs / (1000000000 * 2 ^ 32)

/-- The first slot whose instant is at or after `disp` (R396, R401). (DEDUCED, log entry 90.) -/
def slotFrom (disp fs : Nat) : Nat := ceilDiv (disp * fs) (1000000000 * 2 ^ 32)

/-- The whole ns at or after which a slot's instant has come. -/
def slotInstant (n fs : Nat) : Nat := ceilDiv (n * 1000000000) fs

namespace State

/-- Change a stream port. -/
def modStream (s : State) (i : Nat) (f : StreamPort → StreamPort) : State := { s with aud := { s.aud with streams := modAt s.aud.streams i f } }

/-- Change an output port. -/
def modPort (s : State) (p : Nat) (f : AudPort → AudPort) : State := { s with aud := { s.aud with ports := modAt s.aud.ports p f } }

/-- A stream port. -/
def streamPort (s : State) (i : Nat) : StreamPort := s.aud.streams.getD i {}

/-- An output port. -/
def audPort (s : State) (p : Nat) : AudPort := s.aud.ports.getD p {}

/-- Log an AUD code (R411). -/
def audNote (s : State) (code : Nat) (param : List Nat := []) : State := s.note O.audLastStatus code param

/-- The value of a shadowed audio object in the bank that AUD takes: until T_F the old one, also where the scan side has switched at S (R43, R396). -/
def audNat (s : State) (o : Obj) : Nat := s.natB s.cfg.switched o

/-- The output ports routed to a stream port. -/
def routedTo (s : State) (i : Nat) : List Nat := (List.range 8).filter fun p => s.audNat (O.audPortRoute p) == i

/-- Set or clear a bit of aud_port_flags. -/
def audFlag (s : State) (p b : Nat) (on : Bool) : State :=
  let v := s.nat (O.audPortFlags p)
  if bitOf v b = on then s else s.put (O.audPortFlags p) (if on then v + 2 ^ b else v - 2 ^ b)

/-! ## Acceptance (R402, R407) -/

/-- The non-PCM state of a stream port after one more sample frame (R407). The frame that ends the run of 8,192 still counts as non-PCM. (DEDUCED, log entry 91.) -/
def detectNonPcm (s : State) (i : Nat) (flag : Bool) (l r : Nat) : State × Bool :=
  let sp := s.streamPort i
  if flag || (l / 65536 == 0xF872 && r / 65536 == 0x4E1F) then
    let s := if sp.nonPcm then s else s.audNote 0x0F05 [i]
    (s.modStream i fun x => { x with nonPcm := true, pcmRun := 0 }, true)
  else if !sp.nonPcm then (s, false)
  else if sp.pcmRun + 1 < 8192 then (s.modStream i fun x => { x with pcmRun := x.pcmRun + 1 }, true)
  else (s.modStream i fun x => { x with nonPcm := false, pcmRun := 0 }, true)

/-- One sample frame of a block: late, too early, or written into its entry (R402). -/
def acceptSample (s : State) (i fs slot width : Nat) (flag : Bool) (l r : Nat) : State :=
  let (s, np) := s.detectNonPcm i flag l r
  if slot * 1000000000 * 2 ^ 32 < s.clk.disp * fs + 1000000 * 2 ^ 32 * fs then
    let s := (s.routedTo i).foldl (fun s p => s.bump (O.audLateDiscardCount p)) s
    match (s.streamPort i).lateAt with
    | some t => if s.ns < t + 1000000000 then s else (s.modStream i fun x => { x with lateAt := some s.ns }).audNote 0x0F02 [i]
    | none => (s.modStream i fun x => { x with lateAt := some s.ns }).audNote 0x0F02 [i]
  else if slotNow s.clk.disp fs + ringFrames ≤ slot then
    let due : Bool := match s.aud.earlyAt with
      | some t => decide (t + 1000000000 ≤ s.ns)
      | none => true
    if due then ({ s with aud := { s.aud with earlyAt := some s.ns } } : State).audNote 0x0F04 [i] else s
  else
    let e := slot % ringFrames
    s.modStream i fun x => { x with ring := (x.ring.filter (·.entry != e)) ++ [{ entry := e, left := l, right := r, width := width, nonPcm := np }] }

/-- The sample frames of a block in order, from their bytes (R95, R401). -/
def acceptSamples (s : State) (i fs width packing : Nat) (flag : Bool) : Nat → Nat → Bytes → State
  | 0, _, _ => s
  | n + 1, slot, bs =>
    let b := packBytes packing
    (s.acceptSample i fs slot width flag (sampleWord packing (bs.take b)) (sampleWord packing (cut bs b b))).acceptSamples i fs width packing flag
      n (slot + 1) (bs.drop (2 * b))

end State

/-- Whether an AUDIO_BLOCK's fields lie in their ranges and its length agrees (R82, R95). -/
def audioFieldsOk (sec : Bytes) : Bool :=
  let n := fieldN sec 0x18 2
  32 ≤ sec.length && fieldN sec 8 1 < 8 && fieldN sec 9 1 < 6 && fieldN sec 10 1 < 4 && fieldN sec 0x0C 8 < 2 ^ 48 &&
  fieldN sec 0x14 4 < 1000000000 && 1 ≤ n && n ≤ 4096 && sec.length == 32 + (n * 2 * packBytes (fieldN sec 10 1) + 3) / 4 * 4

/-- AUDIO_BLOCK: the block's sample frames are accepted or discarded as they are parsed (R95, R401, R402, R407). -/
def cmdAudioBlock (s : State) : State :=
  s.withSection (· == 6) fun s sec =>
    if !audioFieldsOk sec then s.badSection
    else
      let i := fieldN sec 8 1
      let rate := fieldN sec 9 1
      let p := fieldN sec 10 1
      let s := s.acceptSection
      let s := s.modStream i fun x => if x.rate = some rate then x else { x with rate := some rate, ring := [] }
      (s.acceptSamples i (rateHz rate) (packWidth p) p (bitOf (fieldN sec 11 1) 0) (fieldN sec 0x18 2)
        (gridSlot (fieldN sec 0x0C 8 * 1000000000 + fieldN sec 0x14 4) (rateHz rate)) (sec.drop 0x1C)).settleRelief

/-! ## Presentation (R399, R403, R404, R405, R408) -/

/-- The bit times of a frame as WS and SD carry them: the left word, then the right one, each most significant bit first; WS low for left and high for right, changing one bit time ahead (R399). -/
def i2sFrame (bits l r : Nat) : List (Bool × Bool) :=
  (List.range (2 * bits)).map fun k => (decide (bits ≤ (k + 1) % (2 * bits)), if k < bits then bitOf l (bits - 1 - k) else bitOf r (2 * bits - 1 - k))

namespace State

/-- The port sends a frame: the top slot_bits bits of the two words (R399, R400). -/
def sendFrame (s : State) (p l r : Nat) : State :=
  let bits := s.audNat (O.audPortSlotBits p)
  s.emit (.i2s p (i2sFrame bits (l / 2 ^ (32 - bits)) (r / 2 ^ (32 - bits))))

/-- The port sends a zero frame. -/
def sendZero (s : State) (p : Nat) : State := s.emit (.i2s p (i2sFrame (s.audNat (O.audPortSlotBits p)) 0 0))

/-- The family clocks that run: those of the pairs whose MCLK runs (R397, R409). -/
def showFamilies (s : State) : State :=
  { s with aud := { s.aud with family := [0, 1].map fun f => (List.range 4).any fun q => s.aud.mclk.getD q false && s.audNat (O.audPairRate q) % 2 == f } }

/-- A port's clocks start: the family clock and the pair's MCLK where they do not run, then BCLK and WS (R409). -/
def startClocks (s : State) (p : Nat) : State :=
  let q := p / 2
  let s : State := if s.aud.mclk.getD q false then s else { s with aud := { s.aud with mclk := setAt s.aud.mclk q true, restarting := setAt s.aud.restarting q false } }
  (s.modPort p fun x => { x with bclk := true }).showFamilies

/-- A port's clocks stop; MCLK runs on while the other port of the pair is STARTING or ON (R409). -/
def stopClocks (s : State) (p : Nat) : State :=
  let q := p / 2
  let other := s.nat (O.audPortState (4 * q + 1 - p))
  let s := s.modPort p fun x => { x with bclk := false }
  let s : State := if other = 1 ∨ other = 2 then s else { s with aud := { s.aud with mclk := setAt s.aud.mclk q false, restarting := setAt s.aud.restarting q false } }
  s.showFamilies

/-- Every audio clock stops. -/
def audClocksOff (s : State) : State :=
  { s with aud := { s.aud with
    ports := s.aud.ports.map fun x => { x with bclk := false }
    mclk := List.replicate 4 false, family := [false, false], restarting := List.replicate 4 false } }

/-- A port has sent the frame of an entry: the valid bit is clear once no other ON port of the stream port still has to send it (R403). -/
def clearValid (s : State) (i e p : Nat) : State :=
  let others := (s.routedTo i).filter fun q => q != p && s.nat (O.audPortState q) == 2 && s.audNat (O.audPairRate (q / 2)) == s.audNat (O.audPairRate (p / 2))
  let keep : SampleFrame → Option SampleFrame := fun f =>
    if f.entry ≠ e then some f
    else if others.all fun q => f.sent.contains q then none
    else some { f with sent := p :: f.sent }
  s.modStream i fun x => { x with ring := x.ring.filterMap keep }

/-- The port finds its slot empty (R404). -/
def emptySlot (s : State) (p n : Nat) : State :=
  let a := s.audPort p
  let s :=
    if a.started && !a.inRun then (((s.modPort p fun x => { x with inRun := true }).audFlag p 0 true).bump (O.audUnderrunCount p)).audNote 0x0F01 [p, n]
    else s
  s.sendZero p

/-- The port presents a frame it holds (R403, R405, R408). `zero` stands for an uncorrectable error or hold-up. (DEDUCED, log entry 90.) -/
def presentFrame (s : State) (p i : Nat) (f : SampleFrame) (zero : Bool) : State :=
  let bits := s.audNat (O.audPortSlotBits p)
  let mute := f.nonPcm && s.audNat (O.audPortNonpcm p) == 0
  let s := (s.modPort p fun x => { x with started := true, inRun := false }).audFlag p 1 mute
  let s :=
    if zero || mute || (f.nonPcm && bits < f.width) then s.sendZero p
    else
      let s :=
        if bits < f.width && !(s.audPort p).truncated then (s.modPort p fun x => { x with truncated := true }).audNote 0x0F07 [p]
        else s
      s.sendFrame p f.left f.right
  s.clearValid i f.entry p

end State

/-- The grid slot that a port presents next: the one after the last, never one that has passed; the first at or after the present without one (R404). -/
def State.nextSlot (s : State) (p fs : Nat) : Nat :=
  match (s.audPort p).next with
  | some n => max n (slotNow s.clk.disp fs)
  | none => slotFrom s.clk.disp fs

/-- What a port sends in slot `n` from the stream port routed to it: zero without a route or at another rate, the sample frame of the slot, or an empty slot (R403, R404). -/
def State.slotContent (s : State) (p rate n : Nat) (hit : Option Nat) : State :=
  let i := s.audNat (O.audPortRoute p)
  if 8 ≤ i then ((s.audFlag p 2 false).audFlag p 1 false).sendZero p
  else if (s.streamPort i).rate.isSome && (s.streamPort i).rate != some rate then
    (((if bitOf (s.nat (O.audPortFlags p)) 2 then s else s.audNote 0x0F03 [p]).audFlag p 2 true).audFlag p 1 false).sendZero p
  else
    match (s.streamPort i).ring.find? fun f => f.entry == n % ringFrames && !f.sent.contains p with
    | none => (s.audFlag p 2 false).emptySlot p n
    | some f =>
      (match hit with | some a => (s.audFlag p 2 false).eccUncorrectable (0x30000000 + a % 0x10000000 / 32 * 32) .scanout | none => s.audFlag p 2 false).presentFrame p i f
        (hit.isSome || s.nat O.pwrHoldupState != 0)

/-- AUD_SLOT_PRESENT: an ON port presents its next grid slot at the slot's instant; a STARTING one sends a zero frame, and a STOPPING one a last frame with SD and WS low (R403 to R405, R408, R409). `ue` and `ce` name the sector of the sample store, by its offset, at which the read of the entry met an uncorrectable or a corrected error (R216). (DESIGN CHOICE, log entry 18.) -/
def cmdSlotPresent (s : State) (p : Nat) (ue ce : Option Nat) : State :=
  let st := s.nat (O.audPortState p)
  if !s.islandUp 28 then s
  else if st = 1 then (s.startClocks p).sendZero p
  else if st = 3 && (s.audPort p).bclk then
    (s.modPort p fun x => { x with bclk := false }).emit (.i2s p ((i2sFrame (s.audNat (O.audPortSlotBits p)) 0 0).map fun _ => (false, false)))
  else if st ≠ 2 then s
  else if s.aud.restarting.getD (p / 2) false then s.sendZero p
  else
    let fs := rateHz (s.audNat (O.audPairRate (p / 2)))
    let n := s.nextSlot p fs
    (((s.reach (slotInstant n fs)).modPort p fun x => { x with next := some (n + 1) }).eccCorrected (ce.toList.map fun a => 0x30000000 + a % 0x10000000)).slotContent p (s.audNat (O.audPairRate (p / 2))) n ue

/-! ## Clocks, swap, step (R396, R406, R409) -/

namespace State

/-- The port restarts its presentation at the slot of the display time in force (R406, R409). (DESIGN CHOICE, log entry 92.) -/
def restartPort (s : State) (p : Nat) : State := s.modPort p fun x => { x with next := none, started := false, inRun := false }

/-- A display-time step from `old` to the time in force: every port restarts, and a forward step discards the slots it skips (R406). (DESIGN CHOICE, log entry 92.) -/
def audStep (s : State) (old : Nat) : State :=
  let s := (List.range 8).foldl (fun s p => s.restartPort p) s
  { s with aud := { s.aud with streams := s.aud.streams.map fun x =>
    match x.rate with
    | none => x
    | some r =>
      let a := slotFrom old (rateHz r)
      let b := slotFrom s.clk.disp (rateHz r)
      { x with ring := x.ring.filter fun f => !((f.entry + ringFrames - a % ringFrames) % ringFrames < b - a) } } }

/-- The swap at T_F: a pair whose rate, multiple or slot width changes outputs zero and restarts the clocks it runs (R396). -/
def audSwap (s : State) (pairs : List Nat) : State :=
  { s with aud := { s.aud with restarting := (List.range 4).map fun q => s.aud.restarting.getD q false || (pairs.contains q && s.aud.mclk.getD q false) } }

/-- What a port keeps when it leaves ON (R409). -/
def audLeaveOn (s : State) (p : Nat) : State :=
  let s := (s.restartPort p).modPort p fun x => { x with inside := 0, outside := 0 }
  ((s.audFlag p 1 false).audFlag p 2 false).audFlag p 3 false

end State

/-- AUD_CLOCK_RESTART: the pair's clocks run again (R396). (DESIGN CHOICE, log entry 92.) -/
def cmdClockRestart (s : State) (q : Nat) : State :=
  if !(s.aud.restarting.getD q false) || !s.islandUp 28 then s
  else
    let s : State := { s with aud := { s.aud with restarting := setAt s.aud.restarting q false } }
    ((s.restartPort (2 * q)).restartPort (2 * q + 1)).showFamilies

/-- AUD_PORT_START_DONE: the clocks are stable and the port enters ON (R409). -/
def cmdAudStartDone (s : State) (p : Nat) : State :=
  if s.nat (O.audPortState p) ≠ 1 || !s.islandUp 28 then s else ((s.startClocks p).restartPort p).put (O.audPortState p) 2

/-- AUD_PHASE_MEASURE: the error of the presentation edge is measured and LOCKED follows (R409). -/
def cmdPhaseMeasure (s : State) (p : Nat) (error : Int) : State :=
  if s.nat (O.audPortState p) ≠ 2 || !s.islandUp 28 then s
  else
    let s := s.put (O.audPhaseError p) error
    let a := s.audPort p
    let i := if error.natAbs ≤ 20 then min 16 (a.inside + 1) else 0
    let o := if 50 < error.natAbs then min 3 (a.outside + 1) else 0
    let s := s.modPort p fun x => { x with inside := i, outside := o }
    if i = 16 then s.audFlag p 3 true else if o = 3 then s.audFlag p 3 false else s

/-- AUDIO_BLOCK (R402). -/
def execAudioBlock (s : State) : Host.Outcome State Fault Refusal := .next (s.ifLive cmdAudioBlock)

/-- AUD_SLOT_PRESENT (R403). -/
def execAudSlotPresent (p : Fin 8) (ue : Option Nat) (s : State) (ce : Option Nat := none) : Host.Outcome State Fault Refusal :=
  .next (s.ifLive fun s => cmdSlotPresent s p ue ce)

/-- AUD_PORT_START_DONE (R409). -/
def execAudPortStartDone (p : Fin 8) (s : State) : Host.Outcome State Fault Refusal := .next (s.ifLive fun s => cmdAudStartDone s p)

/-- AUD_PHASE_MEASURE (R409). -/
def execAudPhaseMeasure (p : Fin 8) (error : Int) (s : State) : Host.Outcome State Fault Refusal :=
  .next (s.ifLive fun s => cmdPhaseMeasure s p error)

/-- AUD_CLOCK_RESTART (R396). -/
def execAudClockRestart (pair : Fin 4) (s : State) : Host.Outcome State Fault Refusal := .next (s.ifLive fun s => cmdClockRestart s pair)

end Sys2Proof.Machine
end

