-- ==== Sys2Proof/Machine/Time.lean ====
section
/-! DEFINITION. TIME: display time, the PTP slots, the servo, host steps and slews, and the queue of timed actions (R348 to R362). -/

namespace Sys2Proof.Machine

/-! ## The clock (R348) -/

/-- One TIME island clock (R348). (DESIGN CHOICE, log entry 1; DEDUCED, log entry 112.) -/
def tickClock (c : Clock) (rate : Int) : Clock := tickBy c rate 1

/-- Display time as a TAI value: 6 bytes of seconds, 4 bytes of nanoseconds (R10). (DEDUCED, log entry 84.) -/
def taiBytes (ns : Nat) : Bytes := leBytes 6 (ns / 1000000000) ++ leBytes 4 (ns % 1000000000)

/-- The largest rate, 500 ppm in units of 2^-48 (R348). -/
def rateMax : Int := 140737488355

namespace State

/-- Change the time base. -/
def modTim (s : State) (f : Tim → Tim) : State := { s with tim := f s.tim }

/-- A PTP slot. -/
def ptp (s : State) (d : Nat) : PtpSlot := s.tim.slots.getD d {}

/-- Change a PTP slot. -/
def modPtp (s : State) (d : Nat) (f : PtpSlot → PtpSlot) : State := s.modTim fun t => { t with slots := modAt t.slots d f }

/-- Whether a slot is enabled on a port that is ON. -/
def ptpUp (s : State) (d : Nat) : Bool := s.nat (O.ptpState d) != 0 && s.nat (O.portState (s.nat (O.ptpPort d))) == 2

/-- Whether a message belongs to the slot's domain (R352). -/
def ptpMatches (s : State) (d : Nat) (m : PtpMsg) : Bool := s.ptpUp d && m.domain == s.nat (O.ptpDomainNumber d)

/-- A receive timestamp of the slot's port in 2^-16 ns (R345). -/
def rxStamp (s : State) (d stamp : Nat) : Int := ((stamp : Int) - s.int (O.portExtRxLatency (s.nat (O.ptpPort d)))) * 65536

/-- An egress timestamp of the slot's port in 2^-16 ns (R345). -/
def txStamp (s : State) (d stamp : Nat) : Int := ((stamp : Int) + s.int (O.portExtTxLatency (s.nat (O.ptpPort d)))) * 65536

/-- ptp_asymmetry in 2^-16 ns. -/
def asym (s : State) (d : Nat) : Int := s.int (O.ptpAsymmetry d) * 65536

end State

/-! ## Frames that leave a port (R339, R340, R342, R344, R345) -/

/-- Whether an address is an IPv4 one, as IPv4-mapped IPv6. -/
def isV4 (a : Bytes) : Bool := a.take 12 == zeros 10 ++ [0xFF#8, 0xFF#8]

/-- An IPv4 address as IPv4-mapped IPv6. -/
def mapped (a : Nat) : Bytes := zeros 10 ++ [0xFF#8, 0xFF#8] ++ (leBytes 4 a).reverse

/-- The EUI-64 link-local address of a MAC address (R340). (PRESUMED, log entry 127.) -/
def linkLocal (mac : Bytes) : Bytes :=
  [0xFE#8, 0x80#8] ++ zeros 6 ++ [mac.getD 0 0 ^^^ 2#8] ++ cut mac 1 2 ++ [0xFF#8, 0xFE#8] ++ cut mac 3 3

/-- The bytes of a frame from its destination address to the end of its payload, without FCS (R344). (PRESUMED, log entry 127.) -/
def frameLen (vlan : Bool) (transport : Nat) (body : TxBody) : Nat :=
  let udp : Nat := if transport = 0 then 0 else if transport = 1 then 28 else 48
  let n := match body with
    | .vipex m => udp + m.length
    | .ptp _ kind _ _ => udp + (if kind = 1 then 44 else 54)
    | .addressProbe a => if isV4 a then 28 else 64
    | .groupReport gs => if gs.all isV4 then 32 + 8 * gs.length else 56 + 20 * gs.length
    | .dhcpDiscover => 328
  max 60 (14 + 4 * b2n vlan + n)

/-- The queue served next: 0 before 1 before 3 before 2 (R342). -/
def nextTx (x : NetPort) : Option (Nat × TxDesc) :=
  [0, 1, 3, 2].findSome? fun q => (x.tx.getD q []).head?.map fun t => (q, t)

namespace State

/-- Change a network port. -/
def modNet (s : State) (p : Nat) (f : NetPort → NetPort) : State := s.modTim fun t => { t with ports := modAt t.ports p f }

/-- Log a NET code of a port. -/
def netNote (s : State) (p code : Nat) : State := s.note (O.portLastStatus p) code [p]

/-- A port's MAC address: the three ports take consecutive ones from the base, MGMT first (R339). -/
def macOf (s : State) (p : Nat) : Bytes := (leBytes 6 (leNat (s.oct O.macBase).reverse + p)).reverse

/-- A transmit descriptor joins a queue of a port (R342, R344). `transport` is that of R366: 0 Ethernet, 1 UDP/IPv4, 2 UDP/IPv6. (DESIGN CHOICE, log entry 85.) -/
def queueTx (s : State) (p q transport : Nat) (body : TxBody) (dest : Option (Bytes × Nat) := none) (ts : Bool := false) : State :=
  let vlan := s.nat (O.portVlan p) != 0
  let csum := if transport = 0 then none else some (14 + 4 * b2n vlan + (if transport = 1 then 20 else 40))
  let x : TxDesc := { body := body, dest := dest, len := frameLen vlan transport body, tsReq := ts, csum := csum }
  s.modNet p fun n => { n with tx := modAt n.tx q fun l => l ++ [x], txRing := modAt n.txRing q fun r => { r with tail := r.tail + 1 } }

/-- The first 16 bytes of a transmit descriptor (R344). The address of its frame is the firmware's. (DESIGN CHOICE, log entry 85.) -/
def txImage (p q head : Nat) (x : TxDesc) : Bytes :=
  leBytes 8 (Config.frameAddress p q head).toNat ++ leBytes 2 x.len ++ leBytes 2 (maskOf [x.tsReq, x.csum.isSome, x.irq]) ++ leBytes 2 (x.csum.getD 0) ++ zeros 2

/-- The descriptor is written back with DONE as one write, and then the head advances (R344). -/
def txDone (s : State) (p q status : Nat) (ts : Option Nat) : State :=
  let flags := if ts.isSome then 3 else 1
  let wb := zeros 2 ++ leBytes 2 status ++ leBytes 2 flags ++ (match ts with
    | some t => taiBytes t
    | none => zeros 10)
  let image (n : NetPort) (r : NetRing) : Bytes := match (n.tx.getD q []).head? with
    | some x => txImage p q r.head x ++ wb
    | none => wb
  (s.modNet p fun n => { n with tx := modAt n.tx q List.tail, txRing := modAt n.txRing q fun r => { r with head := r.head + 1, last := image n r } }).emit
    (.ethWb p q false wb)

/-- The VLAN tag of a frame: the port's ID, with PCP 6 on a PTP event message and 0 on any other (R340). -/
def vlanTag (s : State) (p : Nat) (body : TxBody) : Option (Nat × Nat) :=
  let event : Bool := match body with
    | .ptp _ kind _ _ => kind != 4
    | _ => false
  if s.nat (O.portVlan p) = 0 then none else some (s.nat (O.portVlan p), if event then 6 else 0)

/-- The next transmit descriptor of a port that is ON is served: its frame is sent, and the descriptor is written back (R342, R344, R345). -/
def serveTx (s : State) (p : Nat) : State :=
  if s.nat (O.portState p) ≠ 2 then s
  else match nextTx (s.tim.ports.getD p {}) with
    | none => s
    | some (q, t) =>
      if t.len < 60 ∨ s.nat (O.portMtu p) + 18 < t.len then (s.txDone p q 0x0209 none).netNote p 0x0209
      else if s.nat (O.portLink p) = 0 then (s.txDone p q 0x0201 none).netNote p 0x0201
      else
        let ts := ((s.ns : Int) + s.int (O.portExtTxLatency p)).toNat
        ((s.emit (.eth p q (s.macOf p) (s.vlanTag p t.body) t.dest t.body)).bump (O.portTxFrames p)).txDone p q 0 (if t.tsReq then some ts else none)

/-- A PTP message of a slot leaves its port: through queue 0, which no other delays, with its egress timestamp where it is an event message; a Delay_Req goes to the master alone where ptp_delay_req_unicast says so (R342, R345, R352, R366). -/
def sendPtp (s : State) (d kind seq : Nat) : State :=
  let p := s.nat (O.ptpPort d)
  let dst := if kind = 1 && s.flag (O.ptpDelayReqUnicast d) then (s.ptp d).master else none
  (s.queueTx p 0 (s.nat (O.ptpTransport d)) (.ptp d kind seq dst) none (kind != 4)).serveTx p

/-! ## Selection and servo (R357, R358) -/

/-- The selected slot. -/
def selected (s : State) : Option Nat := if s.nat O.timeSelectedDomain = 0xFF then none else some (s.nat O.timeSelectedDomain)

/-- The correction c of R358 for an offset of `o` ns. (DEDUCED, log entry 59.) -/
def servoC (s : State) (o : Int) : Int :=
  let a := o.natAbs
  let m := s.nat O.timeSlewMax * 2 ^ 48 / 1000000
  let lin := a * 2 ^ 48 / (s.nat O.timeServoTc * 1000000000)
  let brake := isqrt (2 * a * 2 ^ 96 / 100000000000000)
  let c : Int := (min m (min lin brake) : Nat)
  if o < 0 then -c else c

/-- Set the target rate from an offset and a base rate (R358). (DEDUCED, log entry 59.) -/
def aim (s : State) (o base : Int) : State := s.modTim fun t => { t with target := clampI (-rateMax) rateMax (base + s.servoC o), base := base }

/-- The rate changes, and TIME passes the change to PLL_SCAN (R358). -/
def setRate (s : State) (r : Int) : State :=
  let s := s.put O.timeRate r
  { s with scan := { s.scan with pllRate := s.int O.timeRate } }

/-- Take the UTC offset and the leap flags from an Announce of the selected master (R351). -/
def takeUtc (s : State) (a : Option Announce) : State :=
  match a with
  | none => s
  | some a =>
    let s := s.put O.timeLeapFlags (a.leapFlags % 8 : Nat)
    if bitOf a.leapFlags 2 then s.put O.timeUtcOffset a.utcOffset else s

/-- The slot that is to be selected now (R357); `back` makes the return to the preferred slot. -/
def choose (s : State) (back : Bool) : Option Nat :=
  let tracking : Nat → Bool := fun d => s.nat (O.ptpState d) == 3
  let pref := s.nat O.timePreferredDomain
  let other := 1 - pref
  if s.selected = some other && tracking other && !back then some other
  else if tracking pref then some pref
  else if tracking other then some other
  else none

/-- The first selection after a cold start may request a step (R359). -/
def firstStep (s : State) (d : Nat) : State :=
  if s.tim.firstSel then s
  else
    let o := s.int (O.ptpOffset d)
    let s := s.modTim fun t => { t with firstSel := true }
    if s.flag O.timeFirstStep && s.nat O.timeStepThreshold < o.natAbs then s.modTim fun t => { t with step := some o } else s

/-- Bring the selection up to date (R357). -/
def reselect (s : State) (back : Bool := false) : State :=
  let new := s.choose back
  if new = s.selected then s
  else
    let s := ((s.put O.timeSelectedDomain (new.getD 0xFF)).post 0x0303 [s.nat O.timeSelectedDomain, new.getD 0xFF]).modTim fun t =>
      { t with inside := 0, outside := 0, adjust := none }
    match new with
    | none => ((s.put O.timeState (if s.tim.firstSel then 3 else 0)).modTim fun t => { t with target := s.int O.timeRate }).post 0x0304
    | some d => ((s.put O.timeState 1).firstStep d).takeUtc (s.ptp d).ann |>.aim (s.int (O.ptpOffset d)) (s.int (O.ptpRate d))

/-- The selected slot has used a Sync: the target is recomputed and the lock is judged (R358). -/
def feedServo (s : State) (d : Nat) : State :=
  if s.selected ≠ some d then s
  else
    let o := s.int (O.ptpOffset d)
    let i := if o.natAbs ≤ 100 then min 16 (s.tim.inside + 1) else 0
    let u := if 1000 < o.natAbs then min 4 (s.tim.outside + 1) else 0
    let s := (s.modTim fun t => { t with inside := i, outside := u }).aim o (s.int (O.ptpRate d))
    if s.nat O.timeState = 2 then (if u = 4 then s.put O.timeState 1 else s)
    else if i = 16 then (s.put O.timeState 2).post 0x0305
    else s

/-! ## PTP slots (R352 to R356) -/

/-- The slot is MEASURING with a master, its statistics cleared (R355). -/
def takeMaster (s : State) (d : Nat) (f : Foreign) : State :=
  let s := s.modPtp d fun p => { p with
    master := some f.ann.msg.source, gm := f.ann.gmIdentity, ann := some f.ann, annAt := f.heardAt, lastUsed := none, waiting := [],
    syncAt := s.ns, syncInterval := 0, used := 0, samples := [], delays := [], sent := none }
  ((((s.put (O.ptpState d) 2).putO (O.ptpMasterPort d) f.ann.msg.source).putO (O.ptpGmIdentity d) f.ann.gmIdentity)).reselect

/-- The slot has no master (R355, R356). -/
def dropMaster (s : State) (d st : Nat) : State :=
  let s := s.modPtp d fun p => { p with
    heard := [], master := none, gm := [], ann := none, lastUsed := none, waiting := [], used := 0, samples := [], delays := [], sent := none }
  (((s.put (O.ptpState d) (st : Nat)).putO (O.ptpMasterPort d) (zeros 10)).putO (O.ptpGmIdentity d) (zeros 8)).reselect

/-- The slot is enabled or disabled (R352). -/
def ptpSwitch (s : State) (d : Nat) (on : Bool) : State :=
  let s := s.putB (O.ptpEnable d) on
  if on then (if s.nat (O.ptpState d) = 0 then (s.modPtp d fun _ => {}).dropMaster d 1 else s)
  else s.dropMaster d 0

/-- Whether the slot's profile permits its transport and delay mechanism (R352). -/
def profileOk (s : State) (d : Nat) : Bool :=
  match s.nat (O.ptpProfile d) with
  | 0 => true
  | 1 => s.nat (O.ptpTransport d) == 0 && s.nat (O.ptpDelayMech d) == 1
  | _ => s.nat (O.ptpTransport d) != 0 && s.nat (O.ptpDelayMech d) == 0

end State

/-- The median of a list, the mean of the middle two for an even number, rounded half-even (R354). (DEDUCED, log entry 82.) -/
def median (l : List Int) : Int :=
  let m := l.mergeSort (· ≤ ·)
  let n := m.length
  if n % 2 = 1 then m.getD (n / 2) 0 else rhe (m.getD (n / 2 - 1) 0 + m.getD (n / 2) 0) 2

/-- The least-squares slope of master time against display time less 1, in units of 2^-48; none where it is not defined (R354). (DEDUCED, log entry 82.) -/
def slope (ps : List (Int × Int)) : Option Int :=
  match ps with
  | [] => none
  | (y0, x0) :: _ =>
    let n : Int := ps.length
    let xs := ps.map fun p => p.2 - x0
    let ys := ps.map fun p => p.1 - y0
    let sum : List Int → Int := fun l => l.foldl (· + ·) 0
    let sx := sum xs
    let num := n * sum (List.zipWith (· * ·) xs ys) - sx * sum ys
    let den := n * sum (List.zipWith (· * ·) xs xs) - sx * sx
    if den ≤ 0 then none else some (rhe ((num - den) * 2 ^ 48) den.toNat)

/-- A number of ns for a logarithmic message interval, held to 2^-7 to 2^4 s (R352). (DEDUCED, log entry 82.) -/
def intervalNs (log : Int) : Nat :=
  let k := clampI (-7) 4 log
  if k < 0 then 1000000000 / 2 ^ k.natAbs else 1000000000 * 2 ^ k.natAbs

/-- Whether a Sync's sequence ID follows that of the last one used (R353). -/
def freshSeq (last : Option Nat) (seq : Nat) : Bool :=
  match last with
  | none => true
  | some l => let k := (seq + 65536 - l) % 65536; decide (1 ≤ k ∧ k ≤ 32767)

namespace State

/-- The offset at the last used Sync, with a delay measured; and TRACKING once 16 Syncs have been used (R354, R355). (DEDUCED, log entry 82.) -/
def judge (s : State) (d : Nat) : State :=
  let p := s.ptp d
  match p.samples, p.delays with
  | (t1, t2) :: _, _ :: _ =>
    let s := s.put (O.ptpOffset d) (rhe (t1 + median p.delays - t2) 65536)
    if s.nat (O.ptpState d) = 2 && p.used == 16 then
      (((s.put (O.ptpState d) 3).modPtp d fun p => { p with trackSince := s.ns }).settle 2 d).reselect
    else s
  | _, _ => s

/-- A Sync is used: sample, base rate, offset, TRACKING, and the servo (R354, R355, R358). (DEDUCED, log entry 82.) -/
def useSync (s : State) (d : Nat) (sync : PtpMsg) (origin : Nat) (corr : Int) : State :=
  let t1 : Int := (origin : Int) * 65536 + corr + s.asym d
  let t2 := s.rxStamp d sync.stamp
  let s := s.modPtp d fun p => { p with
    lastUsed := some sync.seq, waiting := p.waiting.filter (fun w => w.source == sync.source && freshSeq (some sync.seq) w.seq), syncAt := s.ns, syncInterval := sync.interval, used := min 16 (p.used + 1),
    samples := ((t1, t2) :: p.samples).take 16 }
  let p := s.ptp d
  let s := match slope p.samples with
    | some r => s.put (O.ptpRate d) (s.int O.timeRate + r)
    | none => s.put (O.ptpRate d) (s.int O.timeRate)
  if p.delays.isEmpty then s else (s.judge d).feedServo d

/-- Add a delay measurement in 2^-16 ns; the first one makes a slot with 16 used Syncs TRACKING (R354, R355). (DEDUCED, log entry 82.) -/
def addDelay (s : State) (d : Nat) (m : Int) : State :=
  let s := s.modPtp d fun p => { p with delays := (m :: p.delays).take 8, sent := none }
  let s := s.put (O.ptpPathDelay d) (max 0 (rhe (median (s.ptp d).delays) 65536))
  if s.nat (O.ptpState d) = 2 then s.judge d else s

end State

/-- The order of the best master clock algorithm: whether `a` is better than `b` (R352). (PRESUMED, log entry 81.) -/
def better (a b : Announce) : Bool :=
  let key : Announce → List Nat := fun x =>
    if a.gmIdentity = b.gmIdentity then [x.steps, leNat x.msg.source.reverse]
    else [x.priority1, x.clockClass, x.accuracy, x.variance, x.priority2, leNat x.gmIdentity.reverse]
  decide (key a < key b)

/-- Whether a heard master still counts and may be chosen (R352, R356): heard within three of its intervals, and twice under the default algorithm. -/
def Foreign.qualified (f : Foreign) (now profile : Nat) (current : Bool) : Bool :=
  now ≤ f.heardAt + 3 * intervalNs f.ann.msg.interval && f.ann.steps < 255 &&
  (profile == 1 || current || match f.before with
    | none => false
    | some b => f.heardAt ≤ b + 4 * intervalNs f.ann.msg.interval)

/-- ANNOUNCE_RX: best master selection, UTC offset and leap flags (R351, R352, R355). (PRESUMED, log entry 81.) -/
def cmdAnnounceRx (s : State) (d : Nat) (a : Announce) : State :=
  if !s.ptpMatches d a.msg then s
  else
    let s := s.reach a.msg.stamp
    let p := s.ptp d
    let before := (p.heard.find? fun f => f.ann.msg.source == a.msg.source).map (·.heardAt)
    let heard := (p.heard.filter fun f => f.ann.msg.source != a.msg.source) ++ [{ ann := a, heardAt := s.ns, before := before }]
    let s := s.modPtp d fun p => { p with heard := heard }
    let ok := heard.filter fun f => f.qualified s.ns (s.nat (O.ptpProfile d)) (p.master == some f.ann.msg.source)
    match ok with
    | [] => s
    | f :: fs =>
      let best := fs.foldl (fun b f => if better f.ann b.ann then f else b) f
      if p.master = some best.ann.msg.source && p.gm == best.ann.gmIdentity then
        if best.ann.msg.source = a.msg.source then
          let s := s.modPtp d fun p => { p with ann := some a, annAt := s.ns }
          if s.selected = some d then s.takeUtc (some a) else s
        else s
      else s.takeMaster d best

/-- SYNC_RX: a Sync of the current master in order waits up to 1 s for its Follow_Up, beside those that wait already, or is used at once when one-step (R353). -/
def cmdSyncRx (s : State) (d : Nat) (m : PtpMsg) : State :=
  if !s.ptpMatches d m || (s.ptp d).master != some m.source then s
  else
    let s := s.reach m.stamp
    if !freshSeq (s.ptp d).lastUsed m.seq then s
    else if m.twoStep then s.modPtp d fun p => { p with waiting := p.waiting.filter (fun w => w.seq != m.seq && s.ns ≤ w.stamp + 1000000000) ++ [m] }
    else s.useSync d m m.origin m.correction

/-- FOLLOW_UP_RX: the Follow_Up of a waiting Sync completes it (R353, R354). -/
def cmdFollowUpRx (s : State) (d : Nat) (m : PtpMsg) : State :=
  if !s.ptpMatches d m then s
  else
    let s := s.reach m.stamp
    match (s.ptp d).waiting.find? fun w => w.seq == m.seq && w.source == m.source with
    | none => s
    | some w =>
      if w.stamp + 1000000000 < s.ns ∨ freshSeq (s.ptp d).lastUsed w.seq = false then s.modPtp d fun p => { p with waiting := p.waiting.filter (·.seq != m.seq) }
      else s.useSync d w m.origin (w.correction + m.correction)

/-- DELAY_REQ_SEND: a Delay_Req or Pdelay_Req with the next sequence ID leaves at `stamp` (R353). -/
def cmdDelayReqSend (s : State) (d stamp : Nat) : State :=
  if !s.ptpUp d || (s.nat (O.ptpDelayMech d) == 0 && (s.ptp d).master.isNone) then s
  else
    let s := s.reach stamp
    let q := (s.ptp d).reqSeq
    (s.modPtp d fun p => { p with reqSeq := (q + 1) % 65536, sent := some (q, stamp) }).sendPtp d (if s.nat (O.ptpDelayMech d) = 1 then 2 else 1) q

/-- DELAY_RESP_RX: the matching response adds a delay measurement (R353, R354). Under P2P the message stands for Pdelay_Resp and its Follow_Up together, with the responder's turnaround in its correction. (DEDUCED, log entry 83.) -/
def cmdDelayRespRx (s : State) (d : Nat) (m : PtpMsg) : State :=
  if !s.ptpMatches d m || !m.mine then s
  else
    match (s.ptp d).sent with
    | none => s
    | some (q, stamp) =>
      if q ≠ m.seq then s
      else
        let s := s.reach m.stamp
        let t3 := s.txStamp d stamp
        if s.nat (O.ptpDelayMech d) = 1 then s.addDelay d (rhe (s.rxStamp d m.stamp - t3 - m.correction) 2)
        else match (s.ptp d).samples with
          | [] => s
          | (t1, t2) :: _ => s.addDelay d (rhe (t2 - (t1 - s.asym d) + ((m.origin : Int) * 65536 - t3) - m.correction) 2)

/-- PDELAY_REQ_RX: a P2P slot answers as a two-step responder (R352). (DEDUCED, log entry 83.) -/
def cmdPdelayReqRx (s : State) (d : Nat) (m : PtpMsg) : State :=
  if !s.ptpMatches d m || s.nat (O.ptpDelayMech d) ≠ 1 then s
  else ((s.reach m.stamp).sendPtp d 3 m.seq).sendPtp d 4 m.seq

/-- DOMAIN_LOST: no used Sync for 3 intervals, or no Announce in time (R356). -/
def cmdDomainLost (s : State) (d : Nat) : State :=
  let p := s.ptp d
  match p.ann with
  | none => s
  | some a =>
    let due := min (p.syncAt + 3 * intervalNs p.syncInterval) (p.annAt + 3 * intervalNs a.msg.interval)
    ((((s.reach due).bump (O.ptpLostCount d)).raise 2 d 0 0x0301 [d]).dropMaster d 1)

/-- DOMAIN_REVERT: the preferred slot has been TRACKING for time_revert_s without a break (R357). -/
def cmdDomainRevert (s : State) : State :=
  let pref := s.nat O.timePreferredDomain
  if s.selected ≠ some (1 - pref) || s.nat (O.ptpState pref) ≠ 3 || s.nat O.timeRevertS = 0 then s
  else (s.reach ((s.ptp pref).trackSince + s.nat O.timeRevertS * 1000000000)).reselect true

/-- TIME_RATE_STEP: the rate moves towards its target by at most 10 ppm/s, every 1 ms (R358, R359). -/
def cmdTimeRateStep (s : State) : State :=
  let s := match s.tim.adjust with
    | none => s
    | some (left, base) =>
      let left' := left - (s.int O.timeRate - base) * 1000000
      if left'.natAbs < 2 ^ 48 ∨ (left < 0) ≠ (left' < 0) then s.modTim fun t => { t with adjust := none, target := base }
      else (s.modTim fun t => { t with adjust := some (left', base) }).aim (rhe left' (2 ^ 48)) base
  let r := s.int O.timeRate
  s.setRate (r + clampI (-2814750) 2814750 (s.tim.target - r))

/-! ## Steps and slews (R359, R360) -/

/-- TIME_SET: a host step waits for the next epoch, or is refused (R359, R360). -/
def timeSetWrite (s : State) (v : Bytes) : Nat × State :=
  let ns := fieldN v 6 4
  if s.selected.isSome then (0x0307, s)
  else if 999999999 < ns then (0x0306, s)
  else
    let d : Int := (fieldN v 0 6 * 1000000000 + ns : Nat) - (s.ns : Nat)
    (0, s.modTim fun t => { t with step := some d })

/-- TIME_ADJUST: a host slew (R359). -/
def timeAdjustWrite (s : State) (v : Int) : Nat × State :=
  if s.selected.isSome then (0x0307, s)
  else
    let base := s.int O.timeRate
    (0, (s.modTim fun t => { t with adjust := some (v * 2 ^ 48, base) }).aim v base)

/-- Display time moves by `d` ns: the clock, the slots' samples and audio (R360, R406). (DEDUCED, log entry 60.) -/
def State.shiftTime (s : State) (d : Int) : State :=
  let old := s.clk.disp
  let s : State := { s with clk := { s.clk with disp := ((old : Int) + d * 2 ^ 32).toNat } }
  let move : PtpSlot → PtpSlot := fun p => { p with
    samples := p.samples.map fun x => (x.1, x.2 + d * 65536)
    waiting := p.waiting.map fun m => { m with stamp := ((m.stamp : Int) + d).toNat }
    sent := p.sent.map fun x => (x.1, ((x.2 : Int) + d).toNat)
    syncAt := ((p.syncAt : Int) + d).toNat, annAt := ((p.annAt : Int) + d).toNat, trackSince := ((p.trackSince : Int) + d).toNat
    heard := p.heard.map fun f => { f with heardAt := ((f.heardAt : Int) + d).toNat, before := f.before.map fun b => ((b : Int) + d).toNat } }
  let s := s.modTim fun t => { t with step := none, slots := t.slots.map move }
  (((s.bump O.timeStepCount).put O.timeLastStep d).audStep old).post 0x0302 [(unsigned 64 d)]

/-! ## Timed actions (R361, R362) -/

/-- The action that a time_action_add value spells (R361). -/
def parseAction (party : Party) (v : Bytes) : Action :=
  { seq := fieldN v 0 4, due := fieldN v 8 8 * 1000000000 + fieldN v 4 4, kind := fieldN v 0x10 1, flags := fieldN v 0x11 1,
    vector := fieldN v 0x12 1, index := fieldN v 0x14 2, sub := fieldN v 0x16 1, len := fieldN v 0x17 1, value := cut v 0x18 8, party := party }

/-- Whether an action's fields are valid and its object exists and is writable (R361, R362 check 1). -/
def actionOk (a : Action) (v : Bytes) : Bool :=
  fieldN v 4 4 ≤ 999999999 && fieldN v 8 8 < 2 ^ 48 && 1 ≤ a.kind && a.kind ≤ 4 &&
  (a.kind != 1 || (16 ≤ a.vector && a.vector ≤ 127)) &&
  (a.kind != 3 || (1 ≤ a.len && a.len ≤ 8 && match objAt a.index a.sub with
    | none => false
    | some o => o.access == .rw || o.access == .wo || o.access == .rws))

/-- TIME_ACTION_ADD: the checks of R362 in order, then the action is pending. -/
def actionAddWrite (s : State) (party : Party) (v : Bytes) : Nat × State :=
  let a := parseAction party v
  if !actionOk a v then (0x0315, s)
  else if a.due + 10000000000 < s.ns then (0x0311, s)
  else if bitOf a.flags 0 && a.due < s.tEpoch s.curEpoch then (0x0310, s)
  else if s.tim.actions.any (·.seq == a.seq) then (0x0314, s)
  else if 256 ≤ s.tim.actions.length then (0x0312, s)
  else
    let s := s.modTim fun t => { t with actions := t.actions ++ [a] }
    (0, s.put O.timeActionPending s.tim.actions.length)

/-- TIME_ACTION_CANCEL: the pending action with that seq is removed (R362). -/
def actionCancelWrite (s : State) (seq : Nat) : Nat × State :=
  let s := s.modTim fun t => { t with actions := t.actions.filter (·.seq != seq) }
  (0, s.put O.timeActionPending s.tim.actions.length)

/-- A write of an object of a PTP slot (R352): refused while the slot is enabled, but for ptp_enable. -/
def ptpObjectWrite (s : State) (d sub : Nat) (v : Nat) (store : State) : Nat × State :=
  if sub = 1 then
    if v ≠ 0 && s.nat (O.ptpState d) = 0 && !s.profileOk d then (0x0309, s) else (0, s.ptpSwitch d (v != 0))
  else if s.nat (O.ptpState d) ≠ 0 then (0x0308, s)
  else (0, store)

/-- ANNOUNCE_RX (R352). -/
def execAnnounceRx (slot : Fin 2) (a : Announce) (s : State) : Host.Outcome State Fault Refusal := .next (s.ifLive fun s => cmdAnnounceRx s slot a)

/-- SYNC_RX (R353). -/
def execSyncRx (slot : Fin 2) (m : PtpMsg) (s : State) : Host.Outcome State Fault Refusal := .next (s.ifLive fun s => cmdSyncRx s slot m)

/-- FOLLOW_UP_RX (R354). -/
def execFollowUpRx (slot : Fin 2) (m : PtpMsg) (s : State) : Host.Outcome State Fault Refusal := .next (s.ifLive fun s => cmdFollowUpRx s slot m)

/-- DELAY_REQ_SEND (R353). -/
def execDelayReqSend (slot : Fin 2) (stamp : Nat) (s : State) : Host.Outcome State Fault Refusal :=
  .next (s.ifLive fun s => cmdDelayReqSend s slot stamp)

/-- DELAY_RESP_RX (R354). -/
def execDelayRespRx (slot : Fin 2) (m : PtpMsg) (s : State) : Host.Outcome State Fault Refusal :=
  .next (s.ifLive fun s => cmdDelayRespRx s slot m)

/-- PDELAY_REQ_RX (R352). -/
def execPdelayReqRx (slot : Fin 2) (m : PtpMsg) (s : State) : Host.Outcome State Fault Refusal :=
  .next (s.ifLive fun s => cmdPdelayReqRx s slot m)

/-- DOMAIN_LOST (R356). -/
def execDomainLost (slot : Fin 2) (s : State) : Host.Outcome State Fault Refusal := .next (s.ifLive fun s => cmdDomainLost s slot)

/-- DOMAIN_REVERT (R357). -/
def execDomainRevert (s : State) : Host.Outcome State Fault Refusal := .next (s.ifLive cmdDomainRevert)

/-- TIME_RATE_STEP (R358). -/
def execTimeRateStep (s : State) : Host.Outcome State Fault Refusal := .next (s.ifLive cmdTimeRateStep)

end Sys2Proof.Machine
end

