-- ==== Sys2Proof/Machine/Net.lean ====
section
/-! DEFINITION. The network ports and Vipex messages: classification, receive and transmit, message checks, replies and heartbeats (R339 to R347, R385 to R392). -/

namespace Sys2Proof.Machine

/-! ## Vipex messages (R385 to R391) -/

/-- The bytes of a Vipex message up to the end of its payload (R385). -/
def vxBody (kind src dst alive flags txn seq : Nat) (payload : Bytes) : Bytes :=
  leBytes 2 0x5856 ++ leBytes 1 1 ++ leBytes 1 kind ++ leBytes 2 src ++ leBytes 2 dst ++ leBytes 1 alive ++ leBytes 1 flags ++
  leBytes 2 payload.length ++ leBytes 4 txn ++ leBytes 4 seq ++ zeros 4 ++ payload

/-- The tag of a message: the first 16 bytes of the HMAC (R390). -/
def vxTag (key body : Bytes) : Bytes := (Config.hmacSha256 key body).take 16

/-- The operation that a request's type and payload spell (R386). -/
def vxOp (kind : Nat) (maq : Bool) (p : Bytes) : DictOp :=
  let index := fieldN p 0 2
  let sub := fieldN p 2 1
  match kind with
  | 1 => if p.length < 4 then .unknown else .read index sub maq
  | 2 => if p.length < 8 ∨ p.length < 8 + fieldN p 4 2 then .unknown else .write index sub (cut p 8 (fieldN p 4 2))
  | 3 => if p.length < 8 then .unknown else .domainOpen index sub (fieldN p 3 1 % 2 == 1) maq (fieldN p 4 4)
  | 4 => if p.length < 8 then .unknown else .domainData (fieldN p 0 1) (fieldN p 4 4) (fieldN p 8 4) (p.drop 8) none
  | 5 => if p.length < 8 then .unknown else .domainClose (fieldN p 0 1) (fieldN p 4 4) none
  | 6 => if p.length < 4 then .unknown else .domainAbort (fieldN p 0 1)
  | _ => .unknown

/-- The route of a port (R372). -/
def routeOf (p : Nat) : Route := if p = 0 then .mgmt else if p = 1 then .data0 else .data1

/-- The port of a route. -/
def portOf : Route → Nat
  | .data0 => 1
  | .data1 => 2
  | _ => 0

namespace State

/-- Change the dictionary engine. -/
def modDict (s : State) (f : Dict → Dict) : State := { s with dict := f s.dict }

/-- The alive value of the next message sent: 0 first, and 1 after 255 (R388). (DESIGN CHOICE, log entry 105.) -/
def nextAlive (s : State) : Nat := if !s.dict.txAny then 0 else if s.dict.aliveTx = 255 then 1 else s.dict.aliveTx + 1

/-- Send a Vipex message on a port and queue to an address and UDP port, secured while vipex_secured is 1 (R385, R388, R390). -/
def sendVipex (s : State) (p q kind dst txn : Nat) (payload : Bytes) (dest : Option (Bytes × Nat)) : State :=
  let a := s.nextAlive
  let sec := s.flag O.vipexSecured
  let seq := if sec then (s.dict.sessionTx + 1) % 2 ^ 32 else 0
  let body := vxBody kind (s.nat O.vipexNodeId) dst a (b2n sec) txn seq payload
  let m := if sec then body ++ vxTag s.dict.key body else body
  ((s.put O.vipexAliveTx a).modDict fun d => { d with txAny := true, aliveTx := a, sessionTx := if sec then seq else d.sessionTx }).queueTx p q
    (match dest with
      | some (a, _) => if isV4 a then 1 else 2
      | none => 1) (.vipex (m ++ leBytes 4 (crc32c m))) dest

/-- The response to a Vipex request, to where it came from: status, 2 reserved bytes, then the payload (R386, R391). -/
def replyVipex (s : State) (r : VxReq) (status : Nat) (payload : Bytes) : State :=
  s.sendVipex (portOf r.party.route) (if r.kind = 4 then 2 else 1) (r.kind + 0x80) r.party.node r.txn (leBytes 2 status ++ zeros 2 ++ payload) (some (r.src, r.srcPort))

/-- What the LX9 keeps for a node, none before it has been heard (R388). -/
def vxNode (s : State) (id : Nat) : Option Node := s.dict.nodes.find? (·.id == id)

/-- Keep a node's last accepted message (R388). -/
def setNode (s : State) (n : Node) : State :=
  s.modDict fun d => { d with nodes := (d.nodes.filter fun x => x.id != n.id) ++ [n] }

/-- A message fails R390. -/
def authFail (s : State) : State :=
  let s := s.bump O.vipexAuthFailCount
  let due : Bool := match s.dict.authAt with
    | some t => decide (t + 1000000000 ≤ s.clk.now)
    | none => true
  if due then (s.modDict fun d => { d with authAt := some s.clk.now }).note O.dictLastStatus 0x160E else s

/-- The last session_seq accepted from a node (R390). -/
def lastSeqOf (s : State) (id : Nat) : Option Nat := (s.dict.lastSeq.find? (·.1 == id)).map (·.2)

/-- Checks 5 to 7 of R387 on a message that passed the first four: the request waits for its tick. -/
def vxAccept (s : State) (port : Nat) (m : Bytes) (src : Bytes) (srcPort : Nat) : State :=
  let kind := fieldN m 3 1
  let node := fieldN m 4 2 % 4096
  let bcast := fieldN m 6 2 % 4096 == 0xFFF
  let alive := fieldN m 8 1
  let flags := fieldN m 9 1
  let len := fieldN m 10 2
  let txn := fieldN m 12 4
  let seq := fieldN m 16 4
  let d := match s.vxNode node with
    | none => 1
    | some n => (alive + 256 - n.alive) % 256
  let fresh := (s.vxNode node).isNone || alive == 0 || (1 ≤ d && d ≤ 127)
  let again := !fresh && d == 0 && (s.vxNode node).any fun n => n.txn == txn
  if !fresh && !again then s.bump O.vipexStaleCount
  else
    let sec := s.flag O.vipexSecured
    let seqOk := match s.lastSeqOf node with
      | none => true
      | some l => newer32 seq l || (again && seq == l)
    if sec && !(bitOf flags 0 && s.dict.keyWritten && vxTag s.dict.key (m.take (24 + len)) == cut m (24 + len) 16 && seqOk) then s.authFail
    else
      let s := if sec then s.modDict fun d => { d with lastSeq := (d.lastSeq.filter fun x => x.1 != node) ++ [(node, seq)] } else s
      let n := (s.vxNode node).getD { id := node, alive := 0 }
      let s := (s.setNode { n with alive := alive, txn := txn }).bump O.vipexRxCount
      let request : VxReq := {
        party := { route := routeOf port, node := node, secured := sec }, kind := kind, txn := txn, broadcast := bcast, again := again, src := src, srcPort := srcPort,
        op := vxOp kind (bitOf flags 1) (cut m 24 len) }
      if kind = 0x10 ∨ 0x80 ≤ kind ∨ (bcast ∧ 3 ≤ kind ∧ kind ≤ 6) then s
      else if again && kind == 2 then (if bcast then s else s.replyVipex request n.status [])
      else s.modDict fun d => { d with inbox := d.inbox ++ [request] }

/-- A Vipex message arrives on a port: checks 1 to 4 of R387. -/
def vxReceive (s : State) (port : Nat) (m : Bytes) (from_ : Bytes) (srcPort : Nat) : State :=
  let len := fieldN m 10 2
  let n := 28 + len + (if bitOf (fieldN m 9 1) 0 then 16 else 0)
  let src := fieldN m 4 2 % 4096
  let dst := fieldN m 6 2 % 4096
  if !s.dict.ready || s.nat O.atlState != 1 then s
  else if m.length < 28 ∨ m.length ≠ n ∨ crc32c (m.take (n - 4)) ≠ fieldN m (n - 4) 4 ∨ fieldN m 0 2 ≠ 0x5856 ∨ fieldN m 2 1 ≠ 1 ∨
     src < 1 ∨ 4094 < src ∨ (dst ≠ s.nat O.vipexNodeId ∧ dst ≠ 0xFFF) then s.bump O.vipexDiscardCount
  else s.vxAccept port m from_ srcPort

/-! ## Receive (R340 to R346) -/

/-- A received frame is discarded and counted (R340, R341). (DESIGN CHOICE, log entry 85.) -/
def dropRx (s : State) (p : Nat) : State := s.bump (O.portRxDropped p)

/-- The frame goes into the buffer at the head of receive queue `q`, the descriptor is written back, and the head advances; with no buffer the frame is discarded (R343, R345, R368). (DESIGN CHOICE, log entry 85.) -/
def deliverRx (s : State) (f : RxFrame) (q : Nat) : State :=
  let p : Nat := f.port
  match f.buf with
  | none => (s.modNet p fun n => { n with rxRing := modAt n.rxRing q fun r => { r with tail := r.head } }).netNote p 0x0203
  | some (addr, len) =>
    let cutoff := len < f.frame.length
    let s := s.hbmWrite addr (f.frame.take len)
    let ts := ((f.stamp : Int) - s.int (O.portExtRxLatency p)).toNat
    let flags := maskOf [true, true, f.vlan != 0, f.ipv6, f.group.isSome]
    let s := if cutoff then s.netNote p 0x0208 else s
    let wb := leBytes 2 f.frame.length ++ leBytes 2 (if cutoff then 0x0208 else 0) ++ leBytes 2 flags ++ taiBytes ts
    let image := leBytes 8 addr ++ leBytes 4 len ++ zeros 4 ++ wb
    (s.emit (.ethWb p q true wb)).modNet p fun n => { n with
      rxRing := modAt n.rxRing q fun r => { head := r.head + 1, tail := max r.tail (r.head + 1), last := image } }

/-- Whether a PTP frame is for an enabled domain of this port (R341 row 1). (DESIGN CHOICE, log entry 86.) -/
def ptpWanted (s : State) (f : RxFrame) : Bool :=
  let transport := if f.ptpEther then 0 else if f.ipv6 then 2 else 1
  (f.ptpEther || f.udpPort == some 319 || f.udpPort == some 320) && (List.range 2).any fun d =>
    s.nat (O.ptpState d) != 0 && s.nat (O.ptpPort d) == f.port && s.nat (O.ptpTransport d) == transport &&
    fieldN f.payload 4 1 == s.nat (O.ptpDomainNumber d)

/-- An Asirek datagram enters the stream queue as one segment, or is discarded and counted (R346). (DESIGN CHOICE, log entry 86.) -/
def asirekRx (s : State) (p : Nat) (m : Bytes) : State :=
  if s.source = p && s.queueRoom m.length then
    (s.enqueue p m).modNet p fun n => { n with rxRing := modAt n.rxRing 2 fun r => { r with head := r.head + 1, tail := r.tail + 1 } }
  else s.bump (O.portAsirekDiscardCount p)

/-! ## Addresses and groups (R340, R346, R347) -/

/-- The addresses a port is given: IPv4 by its mode, and the link-local and the global one of IPv6 (R340). -/
def givenAddrs (s : State) (p : Nat) : List Bytes :=
  let v4 := match s.nat (O.ipv4Mode p), (s.tim.ports.getD p {}).lease with
    | 1, _ => if s.nat (O.ipv4Addr p) = 0 then [] else [mapped (s.nat (O.ipv4Addr p))]
    | 2, some a => [mapped a]
    | _, _ => []
  let g := s.oct (O.ipv6Addr p)
  v4 ++ if s.flag (O.ipv6Enable p) then linkLocal (s.macOf p) :: (if g.all (· == 0) then [] else [g]) else []

/-- The addresses a port uses: those given that are not in use elsewhere (R340, R368). -/
def usedAddrs (s : State) (p : Nat) : List Bytes := (s.givenAddrs p).filter fun a => !(s.tim.ports.getD p {}).conflicts.contains a

/-- Duplicate address detection of every address a port is given, in the service queue (R340). (DESIGN CHOICE, log entry 128.) -/
def probeAddrs (s : State) (p : Nat) : State := (s.givenAddrs p).foldl (fun s a => s.queueTx p 3 0 (.addressProbe a)) s

/-- The groups a DATA port has joined (R346). -/
def groupsOf (s : State) (p : Nat) : List Bytes :=
  let gs := s.oct (O.asirekGroups p)
  if p = 0 then [] else (List.range (gs.length / 16)).map fun i => cut gs (16 * i) 16

/-- A DATA port reports the groups it has joined, by IGMPv3 and by MLDv2 (R346). (DESIGN CHOICE, log entry 128.) -/
def joinGroups (s : State) (p : Nat) : State :=
  let (a, b) := (s.groupsOf p).partition isV4
  let send : State → List Bytes → State := fun s gs => if gs.isEmpty then s else s.queueTx p 3 0 (.groupReport gs)
  send (send s a) b

/-- Without a lease a port in DHCP mode looks for one (R340). -/
def seekLease (s : State) (p : Nat) : State :=
  if s.nat (O.ipv4Mode p) = 2 && (s.tim.ports.getD p {}).lease.isNone then s.queueTx p 3 0 .dhcpDiscover else s

/-- An address of a port has changed: it is probed on a port that is ON (R340, R347). -/
def addrChanged (s : State) (p : Nat) : State :=
  let s := if s.nat (O.ipv4Mode p) = 2 then s else s.modNet p fun x => { x with lease := none }
  let given := s.givenAddrs p
  let s := s.modNet p fun x => { x with conflicts := x.conflicts.filter given.contains }
  if s.nat (O.portState p) = 2 then (s.probeAddrs p).seekLease p else s

/-- What a write of an object of a port does beside storing its value: an address or the groups change (R340, R346, R347). -/
def portWritten (s : State) (o : Obj) : State :=
  if o.index < 0x1100 ∨ 0x1103 ≤ o.index then s
  else
    let p := o.index - 0x1100
    if [6, 7, 0x0A, 0x0B].contains o.sub then s.addrChanged p
    else if o.sub = 0x0E ∧ s.nat (O.portState p) = 2 then s.joinGroups p
    else s

/-- A service frame can show that an address is in use elsewhere, or grant a lease (R340, R368). (DESIGN CHOICE, log entry 128.) -/
def serviceRx (s : State) (f : RxFrame) : State :=
  let p : Nat := f.port
  let s := match f.conflict with
    | none => s
    | some a => if (s.usedAddrs p).contains a then (s.modNet p fun x => { x with conflicts := x.conflicts ++ [a] }).netNote p 0x0204 else s
  match f.lease with
  | none => s
  | some a => if s.nat (O.ipv4Mode p) ≠ 2 || (s.tim.ports.getD p {}).lease == some a then s else (s.modNet p fun x => { x with lease := some a }).addrChanged p

end State

/-- ETH_FRAME_RX: a received frame is timestamped, checked and classified (R340, R341, R345, R346, R387). (DESIGN CHOICE, log entries 85, 115.) -/
def cmdEthFrameRx (s : State) (f : RxFrame) : State :=
  let p : Nat := f.port
  let wanted : Bool := f.dstOk || match f.group with
    | some g => (s.groupsOf p).contains g
    | none => false
  if s.nat (O.portState p) ≠ 2 || !f.fcsOk || !wanted then s
  else
    let s := (s.reach f.stamp).bump (O.portRxFrames p)
    let vid := s.nat (O.portVlan p)
    if s.nat (O.portMtu p) < f.length then s.dropRx p
    else if vid ≠ 0 ∧ f.vlan ≠ vid then s.dropRx p
    else if f.fragment then (s.dropRx p).netNote p 0x0206
    else if !f.checksumsOk then s.dropRx p
    else if s.ptpWanted f then s.deliverRx f 0
    else if f.udpPort = some 48005 then (if f.buf.isNone then s.deliverRx f 1 else (s.deliverRx f 1).vxReceive p f.payload f.src f.srcPort)
    else if f.udpPort = some 48006 ∧ p ≠ 0 then s.asirekRx p f.payload
    else if f.service then (if f.buf.isNone then s.deliverRx f 3 else (s.deliverRx f 3).serviceRx f)
    else s.dropRx p

/-! ## Transmit (R342, R344, R345) -/

/-- ETH_FRAME_TX: the next transmit descriptor's frame is sent and written back (R342, R344, R345). -/
def cmdEthFrameTx (s : State) (p : Nat) : State := s.serveTx p

/-- PORT_START_DONE: the port enters ON (R347). -/
def cmdPortStartDone (s : State) (p : Nat) : State :=
  if s.nat (O.portState p) ≠ 1 then s
  else if (p = 1 && !s.islandUp 3) || (p = 2 && !s.islandUp 4) then s
  else (s.put (O.portState p) 2).regateStream

/-- What a port gives up when it stops: its queued descriptors, with 0x0201, its lease and its link (R347). (DESIGN CHOICE, log entry 85.) -/
def State.closePort (s : State) (p : Nat) : State :=
  let n := sumN ((s.tim.ports.getD p {}).tx.map List.length)
  let s := (List.range n).foldl (fun s _ => match nextTx (s.tim.ports.getD p {}) with
    | some (q, _) => s.txDone p q 0x0201 none
    | none => s) s
  (s.modNet p fun _ => {}).put (O.portLink p) 0

/-- PORT_LINK_CHANGE: the link comes, and addresses are probed and groups joined, or it goes (R340, R346, R347). -/
def cmdPortLinkChange (s : State) (p link : Nat) : State :=
  if 3 < link ∨ s.nat (O.portState p) = 0 then s
  else
    let old := s.nat (O.portLink p)
    let s := s.put (O.portLink p) link
    if old = 0 ∧ link ≠ 0 then ((((s.modNet p fun x => { x with conflicts := [] }).netNote p 0x0202).probeAddrs p).joinGroups p).seekLease p
    else if old ≠ 0 ∧ link = 0 then s.netNote p 0x0201
    else s

/-- DHCP_RETRY: 60 s without a lease; it is looked for again (R340, R368). -/
def cmdDhcpRetry (s : State) (p : Nat) : State :=
  if s.nat (O.portState p) = 2 && s.nat (O.ipv4Mode p) == 2 && (s.tim.ports.getD p {}).lease.isNone then (s.netNote p 0x0205).seekLease p else s

/-! ## Heartbeats (R389, R392) -/

/-- Whether a port has an address of the heartbeat address's family (R392). -/
def State.hasFamily (s : State) (p : Nat) (addr : Bytes) : Bool :=
  (s.usedAddrs p).any fun a => isV4 a == isV4 addr

/-- VIPEX_HEARTBEAT: a HEARTBEAT to the configured address on each ON port (R392). -/
def cmdVipexHeartbeat (s : State) : State :=
  let addr := s.oct O.vipexHeartbeatAddr
  if s.nat O.vipexHeartbeatMs = 0 || addr.all (· == 0) then s
  else
    let payload := leBytes 8 (s.nat O.scanFrameNumber) ++ leBytes 4 (s.nat O.cfgBankGeneration) ++ leBytes 1 (s.nat O.timeState) ++
      leBytes 1 (s.nat O.admPromiseState) ++ leBytes 2 (b2n (!s.flt.isEmpty))
    (List.range 3).foldl (fun s p =>
      if s.nat (O.portState p) = 2 && s.hasFamily p addr then s.sendVipex p 1 0x10 0xFFF 0 payload (some (addr, 48005)) else s) s

/-- HEARTBEAT_RECEIVED: the LX9's node ID from another MAC is logged at most once a minute (R389). -/
def cmdHeartbeatReceived (s : State) (p node : Nat) (otherMac : Bool) : State :=
  let due : Bool := match s.dict.conflictAt with
    | some t => decide (t + 60000000000 ≤ s.clk.now)
    | none => true
  if s.nat (O.portState p) = 2 && node == s.nat O.vipexNodeId && otherMac && due then
    (s.modDict fun d => { d with conflictAt := some s.clk.now }).note O.dictLastStatus 0x1612 [node]
  else s

/-- ETH_FRAME_RX (R341). -/
def execEthFrameRx (f : RxFrame) (s : State) : Host.Outcome State Fault Refusal := .next (s.ifLive fun s => cmdEthFrameRx s f)

/-- ETH_FRAME_TX (R344). -/
def execEthFrameTx (port : Fin 3) (s : State) : Host.Outcome State Fault Refusal := .next (s.ifLive fun s => cmdEthFrameTx s port)

/-- PORT_START_DONE (R347). -/
def execPortStartDone (p : Fin 3) (s : State) : Host.Outcome State Fault Refusal := .next (s.ifLive fun s => cmdPortStartDone s p)

/-- PORT_LINK_CHANGE (R347). -/
def execPortLinkChange (port : Fin 3) (link : Nat) (s : State) : Host.Outcome State Fault Refusal :=
  .next (s.ifLive fun s => cmdPortLinkChange s port link)

/-- DHCP_RETRY (R340). -/
def execDhcpRetry (port : Fin 3) (s : State) : Host.Outcome State Fault Refusal := .next (s.ifLive fun s => cmdDhcpRetry s port)

/-- VIPEX_HEARTBEAT (R392). -/
def execVipexHeartbeat (s : State) : Host.Outcome State Fault Refusal := .next (s.ifLive cmdVipexHeartbeat)

/-- HEARTBEAT_RECEIVED (R389). -/
def execHeartbeatReceived (port : Fin 3) (node : Nat) (otherMac : Bool) (s : State) : Host.Outcome State Fault Refusal :=
  .next (s.ifLive fun s => cmdHeartbeatReceived s port node otherMac)

end Sys2Proof.Machine
end

