-- ==== Sys2Proof/Machine/Answer.lean ====
section
/-! DEFINITION. The answers of the dictionary engine: into the BAR2 window, as Vipex responses, and in the log for timed actions (R364, R383, R386 to R388, R393). -/

namespace Sys2Proof.Machine

/-- What a request is answered with: its status, and the value read, the handle opened, or the segment's offset and data. (DESIGN CHOICE, log entry 77.) -/
structure Reply where
  status : Nat := 0
  value : Option Bytes := none
  handle : Option Nat := none
  seg : Option (Nat × Option Bytes) := none
  deriving DecidableEq, Repr

/-- The response payload after status and its reserved bytes (R386). A refusal carries no more than its status. -/
def Reply.payload (r : Reply) : Bytes :=
  match r.value, r.handle, r.seg with
  | some v, _, _ => leBytes 2 v.length ++ zeros 2 ++ v
  | none, some h, _ => leBytes 1 h ++ zeros 3
  | none, none, some (o, d) => leBytes 4 o ++ d.getD []
  | none, none, none => []

/-- A buffer with bytes written at an offset; what lies before them and was never written is zero. -/
def overlayBytes (buf : Bytes) (off : Nat) (bs : Bytes) : Bytes := (buf ++ zeros (off - buf.length)).take off ++ bs ++ buf.drop (off + bs.length)

namespace State

/-- The BAR2 window shows the outcome of its request, and DICT rises (R326, R383, R384). -/
def answerWindow (s : State) (r : Reply) : State :=
  let data := match r.value, r.seg with
    | some v, _ => some v
    | none, some (_, d) => d
    | none, none => none
  (s.modDict fun d => { d with
    status := r.status, done := true, busy := false, handle := r.handle.getD d.handle, data := overlayBytes d.data 0 (data.getD [])
    length := match data with | some v => v.length | none => d.length }).irq 6

/-- A Vipex request is answered; the node keeps the status of its last WRITE, and a broadcast WRITE has no response (R387, R388). -/
def answerVipex (s : State) (v : VxReq) (r : Reply) : State :=
  let s := match s.vxNode v.party.node with
    | some n => if v.kind = 2 then s.setNode { n with status := r.status } else s
    | none => s
  if v.broadcast && v.kind != 1 then s else s.replyVipex v r.status r.payload

/-- The object that keeps the most recent status code of a subsystem, for those that keep one of every code (R15, R110, R221, R241, R262, R292, R311, R337, R393, R410). -/
def statusObj (code : Nat) : Option Obj :=
  match code / 256 with
  | 0x01 => some O.hifLastStatus
  | 0x0A => some O.memLastStatus
  | 0x0B => some O.scanLastStatus
  | 0x0C => some O.pdpLastStatus
  | 0x0D => some O.linkLastStatus
  | 0x0E => some O.raspLastStatus
  | 0x0F => some O.audLastStatus
  | 0x10 => some O.thmLastStatus
  | 0x11 => some O.pwrLastStatus
  | 0x12 => some O.atlLastStatus
  | 0x14 => some O.clpLastStatus
  | 0x16 => some O.dictLastStatus
  | _ => none

/-- A code is the most recent of its subsystem. -/
def recent (s : State) (code : Nat) : State :=
  match statusObj code with
  | some o => s.put o code
  | none => s

/-- A request is answered (R364, R370, R393); a code it carries is the most recent of its subsystem. (DESIGN CHOICE, log entry 77.) -/
def answer (s : State) (a : Ask) (r : Reply) : State :=
  let s := s.recent r.status
  let s := if r.status = 0x1601 then s.bump O.dictBusyCount else s
  match a.party.action with
  | some seq => if r.status = 0 then s else s.post 0x0313 [seq, r.status]
  | none => match a.vx with
    | some v => s.answerVipex v r
    | none => if a.party.route = .bar2 then s.answerWindow r else s.emit (.vipex a.party r.status r.payload)

/-- A swap request is refused: its code, the state back to IDLE, and its answer (R376). -/
def refuseSwap (s : State) (code : Nat) : State :=
  let who := s.cfg.requester
  let s : State := { (s.put O.cfgSwapState 0).put O.cfgSwapResult code with cfg := { s.cfg with requester := none } }
  let s := (s.recent code).post 0x1501 [code]
  match who with
  | none => s
  | some a => s.answer a { status := code }

/-- A request that a warm reset or a halt catches is answered over BAR2 alone (R430). -/
def dropAsk (s : State) (a : Ask) (code : Nat) : State :=
  if a.vx.isSome || a.party.route != .bar2 then s else s.answer a { status := code }

end State

end Sys2Proof.Machine
end

