-- ==== Sys2Proof/Machine/Admission.lean ====
section
/-! DEFINITION. Frame markers, the admission queue, costs and decisions (R29 to R32, R85 to R88, R123, R124, R185 to R201, R526). -/

namespace Sys2Proof.Machine

/-! ## Epochs of frames -/

/-- The instant T - Tf of epoch k on a grid, which is that of epoch k - 1 (R17, R40). -/
def windowOpenAt (tf : Nat × Nat) (k : Nat) : Int := rhe (((k : Int) - 1) * (tf.1 * 1000000000 : Nat)) tf.2

/-- The residency deadline T - Tf - 2 ms of epoch k (R31, R124). -/
def deadlineAt (tf : Nat × Nat) (k : Nat) : Int := windowOpenAt tf k - 2000000

/-- The first of `n` epochs from `k` on whose residency deadline is not earlier than the instant `t` (R86). -/
def firstMeeting (tf : Nat × Nat) (t : Nat) : Nat → Nat → Nat
  | 0, k => k
  | n + 1, k => if (t : Int) ≤ deadlineAt tf k then k else firstMeeting tf t n (k + 1)

namespace State

/-- The grid that markers name epochs on: the new one from the binding of a change of Tf on (R239). -/
def markerGrid (s : State) : Nat × Nat := s.cfg.grid.getD s.tf

/-- The epoch from which the range check of R87 measures (R239). (DESIGN CHOICE, log entry 34.) -/
def rangeBase (s : State) : Nat := if s.cfg.grid.isSome then s.cfg.erEpoch.getD s.curEpoch else s.curEpoch

/-- The epoch an ASAP marker is given (R86). -/
def asapEpoch (s : State) : Nat :=
  let g := s.markerGrid
  let k := firstMeeting g s.ns 3 (epochOf g (s.ns + 2000000) + 1)
  match s.sdec.lastEpoch with
  | none => k
  | some l => max k (l + 1)

/-- Change the admission checker. -/
def modAdm (s : State) (f : Adm → Adm) : State := { s with adm := f s.adm }

/-- A marker is refused: an entry with its tag and the code, and no frame (R87). -/
def refuseMarker (s : State) (tag epoch code : Nat) : State :=
  (s.put O.sdecLastStatus code).complete { kind := .markerRefused, status := code, tag := tag, epoch := epoch, eventTime := s.ns }

/-- A frame is binned: numbered, its Figures snapshot, and it joins the waiting frames (R29, R69, R88, R526). -/
def binMarker (s : State) (tag epoch ord key : Nat) : State :=
  let n := s.sdec.frames + 1
  let nb := s.onNewBank n
  let figs := frameFigures s.figs
  let f : Frame := { number := n, tag := tag, epoch := epoch, tf := s.markerGrid, ordinal := ord, key := key, figures := figs, bin := s.binUnder nb figs }
  let s := (s.modSdec fun d => { d with frames := n, lastEpoch := some epoch }).put O.lastBinnedEpoch epoch
  (s.modAdm fun a => { a with waiting := a.waiting ++ [f] }).settleRelief

end State

/-- FRAME_MARKER: closes a frame, unless 2 binned frames are waiting (R29, R85 to R88). (DESIGN CHOICE, log entry 34.) -/
def cmdFrameMarker (s : State) : State :=
  if 2 ≤ s.adm.waiting.length ∨ !s.islandUp 8 then s
  else s.withSection (· == 1) fun s sec =>
    let asap := bitOf (fieldN sec 20 4) 0
    let named := fieldN sec 8 8
    if sec.length ≠ 28 ∨ (asap ∧ named ≠ 0) then s.badSection
    else
      let tag := fieldN sec 16 4
      let epoch := if asap then s.asapEpoch else named
      let key := s.sdec.pos
      let ord := s.sdec.ordinal
      let s := s.acceptSection
      if s.sdec.lastEpoch.any (epoch ≤ ·) then (s.refuseMarker tag epoch 0x0406).settleRelief
      else if s.rangeBase + 16384 < epoch then (s.refuseMarker tag epoch 0x0407).settleRelief
      else s.binMarker tag epoch ord key

/-! ## Costs (R187 to R191) -/

/-- r_U: the render time of a unit, stretched by the throttle (R187). -/
def unitRender (i : CostIn) (u : RUnit) : Nat := ceilDiv (16 * (ceilDiv u.s 16 + u.m + 64)) (16 - i.l)

/-- b_U: the staging bytes of a unit (R187). -/
def unitBytes (u : RUnit) : Nat := 16384 * (u.n - u.nOvl) + 4096 * u.nOvl + 320 * u.n + 2304 * u.f

/-- s_mem: the time to read the staging bytes at one cluster's share (R187). -/
def unitMem (i : CostIn) (u : RUnit) : Nat := ceilDiv (3 * unitBytes u * i.c) (2 * i.g)

/-- d_U: the decode work of a unit (R187). -/
def unitDecode (u : RUnit) : Nat := 304 * u.n

/-- The measures of R193, each with the parts of w_U it counts. -/
inductive Measure
  | steps | memory | full
  deriving DecidableEq, Repr

/-- w_U under a measure (R187, R193). -/
def unitCost (m : Measure) (i : CostIn) (u : RUnit) : Nat :=
  match m with
  | .steps => unitRender i u
  | .memory => max (unitRender i u) (unitMem i u)
  | .full => max (unitRender i u) (max (unitMem i u) (unitDecode u))

/-- K from the sum and the largest of the unit costs (R188). -/
def costOf (c sum most : Nat) : Nat := ceilDiv sum c + 2 * most + 8192

/-- K of a frame's units under a measure (R188). -/
def frameCost (m : Measure) (i : CostIn) (us : List RUnit) : Nat :=
  let ws := us.map (unitCost m i)
  costOf i.c (sumN ws) (maxN ws)

/-- The offending unit: the first whose prefix exceeds the budget (R194). -/
def offending (m : Measure) (i : CostIn) : List RUnit → Nat → Nat → Option RUnit
  | [], _, _ => none
  | u :: us, sum, most =>
    let w := unitCost m i u
    if i.e < costOf i.c (sum + w) (max most w) then some u else offending m i us (sum + w) (max most w)

/-- The measure that names the limiting resource of a frame over budget (R193). -/
def limiting (i : CostIn) (us : List RUnit) : Measure :=
  if i.e < frameCost .steps i us then .steps else if i.e < frameCost .memory i us then .memory else .full

/-- The refusal code of a measure (R193). -/
def measureCode : Measure → Nat
  | .steps => 0x0901
  | .memory => 0x0903
  | .full => 0x0902

/-- The budget E of a grid and derating (R189). -/
def budgetOf (tf : Nat × Nat) (rho : Nat) : Nat := (1500000000 * tf.1 / tf.2 - 750000) * rho / 1000

namespace State

/-- Tf of a bank (R17). -/
def tfOf (s : State) (newBank : Bool) : Nat × Nat := (s.natB newBank O.tfNum, s.natB newBank O.tfDen)

/-- The RSE islands that render under a bank: those of the count that no clock loss has removed (R163, R494). -/
def rseIslands (s : State) (newBank : Bool) : List Nat :=
  (List.range (s.natB newBank O.rseIslandsEnabled)).filter fun n => !s.rse.removed.contains n

/-- Costing inputs for a bank under a throttle and derating (R189 to R191). (DEDUCED, log entry 39.) -/
def costIn (s : State) (newBank : Bool) (l rho : Nat) : CostIn :=
  { l := l, c := 8 * (s.rseIslands newBank).length, g := s.nat O.admStageRate, e := budgetOf (s.tfOf newBank) rho }

/-! ## Reports (R67, R108, R195, R322) -/

/-- The stream codes that a frame's entry takes: those that stand before its marker, first in stream order, with their number (R108, R195). A code that arises once the entry it belongs to is made goes into the next one. (DESIGN CHOICE, log entries 117, 124.) -/
def codesFor (s : State) (f : Frame) : Nat × Nat :=
  let mine := s.sdec.codes.filter (·.key < f.key)
  let first := mine.foldl (fun (a : Option SdecCode) c => match a with
    | none => some c
    | some b => if c.key < b.key then some c else a) none
  ((first.map (·.code)).getD 0, min mine.length 65535)

/-- The codes leave the list once reported. -/
def dropCodes (s : State) (f : Frame) : State :=
  s.modSdec fun d => { d with codes := d.codes.filter fun c => !(c.key < f.key) }

/-- A frame's ADMISSION entry with its stream codes and, where Figures were dropped, the warning 0x0607 (R70, R195). (DESIGN CHOICE, log entry 40.) -/
def admissionEntry (s : State) (f : Frame) (c : Completion) : State :=
  let (code, n) := s.codesFor f
  let s := (s.dropCodes f).bumpBy O.figBinDropCount f.bin.drops
  s.complete { c with
    kind := .admission, tag := f.tag, number := f.number, epoch := f.epoch, sdecStatus := code, sdecCount := n, eventTime := s.ns,
    warnStatus := if f.bin.drops = 0 then 0 else 0x0607, warnCount := if f.bin.drops = 0 then 0 else 1 }

/-- A frame leaves the head of the queue. -/
def dropHead (s : State) : State := s.modAdm fun a => { a with waiting := a.waiting.drop 1, stage := .idle }

/-- The next frame becomes the bound frame where a swap was bound to this one (01, boundary cases). (DEDUCED, log entry 39.) -/
def rebind (s : State) (number : Nat) : State :=
  if s.nat O.cfgSwapState = 3 ∧ s.nat O.cfgBoundFrame = number then s.put O.cfgBoundFrame (number + 1) else s

/-- The frame is refused: its report, and it leaves the render pipeline (R121, R192, R195, R200). -/
def refuseFrame (s : State) (f : Frame) (c : Completion) : State :=
  let s := s.admissionEntry f c
  let s := ((((s.bump O.admRefusedCount).put O.admLastStatus c.status).put O.admLastBadBin c.badBin).rebind f.number)
  let s := if c.budget = 0 then s else (s.put O.admLastCost c.cost).put O.admLastBudget c.budget
  s.releaseFrame f.number

/-- The report of a refusal that no costing decided (R195). (DESIGN CHOICE, log entry 40.) -/
def plainRefusal (s : State) (f : Frame) (code : Nat) : Completion :=
  { kind := .admission, status := code, throttle := s.nat O.admThrottleNow, derate := s.nat O.admDerateNow, gen := f.bin.gen }

/-- What a frame's binning alone refuses it with: a full bin, or a sub-bin of more than 48 tiles (steps 1 and 2 of R192, R70, R165). -/
def binRefusal (s : State) (f : Frame) : Option Completion :=
  match f.bin.badBin, f.bin.units.find? fun u => u.sub != 255 && 48 < u.n with
  | some b, _ => some { s.plainRefusal f 0x0602 with badBin := b }
  | none, some u => some { s.plainRefusal f 0x0903 with badBin := u.bin, badSub := u.sub }
  | none, none => none

/-- A refusal's code is the most recent of HIF, SCAN or PWR where it is one of theirs (R241, R262, R337). -/
def refusalStatus (s : State) (code : Nat) : State :=
  if code = 0x0105 then s.put O.hifLastStatus 0x0105
  else if code = 0x0B07 then s.put O.scanLastStatus 0x0B07
  else if code = 0x1105 then s.put O.pwrLastStatus 0x1105
  else s

/-- Refuse the frame at the head with a code that no costing decided. -/
def refuseHead (s : State) (f : Frame) (code : Nat) : State := (s.refusalStatus code).dropHead.refuseFrame f (s.plainRefusal f code)

/-- The overlay buffer that the last completed PUBLISH at or before an epoch shows; buffer 1 before the first (R295). -/
def shownFor (s : State) (epoch : Nat) : Nat := ((s.rasp.published.find? fun p => p.1 ≤ epoch).map (·.2)).getD 1

/-- The report of a costing that exceeds the budget (R193 to R195). -/
def costRefusal (i : CostIn) (rho gen : Nat) (us : List RUnit) : Completion :=
  let m := limiting i us
  let u := offending m i us 0 0
  { kind := .admission, status := measureCode m, throttle := i.l, derate := rho, gen := gen, cost := frameCost .full i us, budget := i.e,
    badBin := (u.map (·.bin)).getD 0xFFFF, badSub := (u.map (·.sub)).getD 0xFF }

end State

/-- ADM_TAKE_FRAME: steps 1 and 2 of R192, and the start of the pre-costing; in direct-frame mode and during hold-up the frame is refused (R332, R259). (DESIGN CHOICE, log entry 41.) -/
def cmdAdmTakeFrame (s : State) : State :=
  match s.adm.waiting, s.adm.stage with
  | f :: _, .idle =>
    if s.adm.pending.isSome || !s.islandUp 8 then s
    else if s.hif.direct then s.refuseHead f 0x0105
    else if s.nat O.pwrHoldupState ≠ 0 then s.refuseHead f 0x1105
    else match s.binRefusal f with
      | some c => s.dropHead.refuseFrame f c
      | none => s.modAdm fun a => { a with stage := .preCosting (s.costIn f.bin.newBank (s.nat O.admThrottleNow) (s.nat O.admDerateNow)) (s.nat O.admDerateNow) }
  | _, _ => s

/-- PRE_COSTING_DONE: step 3 of R192. (DEDUCED, log entry 39.) -/
def cmdPreCostingDone (s : State) : State :=
  match s.adm.waiting, s.adm.stage with
  | f :: _, .preCosting i rho =>
    if i.e < frameCost .full i f.bin.units then s.dropHead.refuseFrame f (State.costRefusal i rho f.bin.gen f.bin.units)
    else s.modAdm fun a => { a with stage := .waiting }
  | _, _ => s

/-- FINAL_COSTING_START: step 5 of R192 for a frame resident by its deadline: its bank, the grid check, a new binning where the bank differs, the overlay buffer of R295 (R124, R239, R526). -/
def cmdFinalCostingStart (s : State) : State :=
  match s.adm.waiting, s.adm.stage with
  | f :: rest, .waiting =>
    match f.residentAt with
    | none => s
    | some at_ =>
      if deadlineAt f.tf f.epoch < (at_ : Int) then s.refuseHead f 0x0904
      else
        let nb := s.onNewBank f.number
        if nb && s.cfg.changesTf && f.epoch < s.cfg.erEpoch.getD 0 then s.refuseHead f 0x0B07
        else
          let gen := s.genOf nb
          let f := if f.bin.gen = gen then f else { f with bin := s.binUnder nb f.figures }
          match s.binRefusal f with
          | some c => s.dropHead.refuseFrame f c
          | none =>
            let f := { f with overlayBuf := some (s.shownFor f.epoch) }
            let s : State := { s with rasp := { s.rasp with startedFrame := some (max f.epoch (s.rasp.startedFrame.getD 0)) } }
            s.modAdm fun a => { a with waiting := f :: rest, stage := .finalCosting (s.costIn nb (s.nat O.admThrottleNow) (s.nat O.admDerateNow)) (s.nat O.admDerateNow) gen nb }
  | _, _ => s

/-- FINAL_COSTING_DONE: the frame is admitted under its record, or refused (R32, R192 to R195, R197, R198). (DESIGN CHOICE, log entry 41.) -/
def cmdFinalCostingDone (s : State) : State :=
  match s.adm.waiting, s.adm.stage with
  | f :: _, .finalCosting i rho gen nb =>
    let k := frameCost .full i f.bin.units
    if i.e < k then s.dropHead.refuseFrame f (State.costRefusal i rho gen f.bin.units)
    else if s.hif.direct then s.refuseHead f 0x0105
    else if s.nat O.pwrHoldupState ≠ 0 then s.refuseHead f 0x1105
    else
      let g : Frame := { f with
        adm := { gen := gen, newBank := nb, throttle := i.l, derate := rho, budget := i.e, cost := k }
        tf := s.tfOf nb, covered := s.nat O.admSuspendCauses == 0, overlayBuf := if s.nat O.overlayState = 2 then f.overlayBuf else none }
      let s := (s.dropHead.modAdm fun a => { a with pending := some g }).admissionEntry f
        { kind := .admission, throttle := i.l, derate := rho, gen := gen, cost := k, budget := i.e }
      let s := match f.overlayBuf with | some b => s.put O.overlayShown b | none => s
      let s := (((((s.bump O.admAdmittedCount).put O.admLastStatus 0).put O.admLastCost k).put O.admLastBudget i.e).put
        O.figBinPeak f.bin.peak)
      let s := (s.rseIslands nb).foldl (fun s n => s.powerIsl (9 + n)) s
      (s.resume 0).settleRelief
  | _, _ => s

/-- LATE_DATA: at its residency deadline the frame at the head is refused if it is not resident (R31, R124). -/
def cmdLateData (s : State) : State :=
  match s.adm.waiting, s.adm.stage with
  | f :: _, .waiting =>
    let dl := deadlineAt f.tf f.epoch
    if f.residentAt.any fun t => (t : Int) ≤ dl then s
    else (s.reach dl.toNat).refuseHead f 0x0904
  | _, _ => s

/-- FRAME_MARKER (R85). -/
def execFrameMarker (s : State) : Host.Outcome State Fault Refusal := .next (s.ifLive cmdFrameMarker)

/-- ADM_TAKE_FRAME (R192). -/
def execAdmTakeFrame (s : State) : Host.Outcome State Fault Refusal := .next (s.ifLive cmdAdmTakeFrame)

/-- PRE_COSTING_DONE (R192). -/
def execPreCostingDone (s : State) : Host.Outcome State Fault Refusal := .next (s.ifLive cmdPreCostingDone)

/-- FINAL_COSTING_START (R192). -/
def execFinalCostingStart (s : State) : Host.Outcome State Fault Refusal := .next (s.ifLive cmdFinalCostingStart)

/-- FINAL_COSTING_DONE (R192). -/
def execFinalCostingDone (s : State) : Host.Outcome State Fault Refusal := .next (s.ifLive cmdFinalCostingDone)

/-- LATE_DATA (R124). -/
def execLateData (s : State) : Host.Outcome State Fault Refusal := .next (s.ifLive cmdLateData)

end Sys2Proof.Machine
end

