-- ==== Sys2Proof/Machine/Panel.lean ====
section
/-! DEFINITION. Panel drive processing: slots of pixels, drive curves and bands, the Plinth clamp, frame buffer lines and their CRC table (R227, R243 to R252). -/

namespace Sys2Proof.Machine

/-- Whether two copies of a region table entry hold a column: x0, width (R266). -/
def regionHas (r : Bytes) (col : Nat) : Bool := fieldN r 0 2 ≤ col && col < fieldN r 0 2 + fieldN r 2 2

/-- Entry e of a drive curve of a band and channel; the default curve, which stands while none is written, is linear (R246). -/
def curveEntry (curves : Bytes) (band c e : Nat) : Nat :=
  if curves.isEmpty then min 65535 (64 * e) else fieldN curves (6150 * band + 2050 * c + 2 * e) 2

/-- The drive curve read at a linear value, as a code of b bits (R245). -/
def curveCode (curves : Bytes) (band c x b : Nat) : Nat :=
  let e := x / 64
  let f := x % 64
  let v := rhe (curveEntry curves band c e * (64 - f) + curveEntry curves band c (e + 1) * f : Nat) 64
  (rhe (v * (2 ^ b - 1 : Nat)) 65535).toNat

/-- Bytes of a head line (R227). -/
def headLineBytesOf (hActive bits : Nat) : Nat := ceilDiv (hActive * 3 * bits) 1024 * 128

/-- The base of a frame buffer (R204). -/
def bufBase (n : Nat) : Nat := 0xC0000000 + 0x90000000 * n

/-- The offset of the line CRC table in a frame buffer (R251). -/
def crcTableOffset : Nat := 0x8F000000

/-- The line CRC table entry of a line (R251). -/
def crcEntry (crc y h : Nat) : Bytes := leBytes 4 crc ++ leBytes 2 y ++ leBytes 1 h ++ leBytes 1 1

/-- The threshold th[k] of the bands (R247). -/
def bandThreshold (ths : Bytes) (k : Nat) : Int := fieldI ths (2 * k) 2

/-- Move the target band up while the temperature reaches the thresholds (R247). -/
def bandUp (ths : Bytes) (t : Int) : Nat → Nat → Nat
  | 0, k => k
  | n + 1, k => if k < 7 ∧ bandThreshold ths k ≤ t then bandUp ths t n (k + 1) else k

/-- Move the target band down while the temperature is 2 degrees below the thresholds (R247). -/
def bandDown (ths : Bytes) (t : Int) : Nat → Nat → Nat
  | 0, k => k
  | n + 1, k => if 0 < k ∧ t < bandThreshold ths (k - 1) - 32 then bandDown ths t n (k - 1) else k

/-- The target band from the band in use and a temperature (R247). -/
def bandTarget (ths : Bytes) (k : Nat) (t : Int) : Nat := bandDown ths t 8 (bandUp ths t 8 k)

/-- What PDP has latched for the frame being written (R243, R247 to R249). -/
structure PdpIn where
  bits : Nat
  curves : Bytes
  bands : List Nat
  ug : List (List Nat)
  peaks : List Nat
  g : Nat
  allowance : Nat
  deriving DecidableEq, Repr

/-- The sums of the clamp and whether the backstop has tripped (R249). -/
structure DriveSums where
  pre : Nat := 0
  post : Nat := 0
  tripped : Bool := false
  deriving DecidableEq, Repr

/-- One subpixel through steps 1 to 6: its code and the sums after it (R243, R249). `raw` skips step 1. -/
def drive (p : PdpIn) (q : DriveSums) (raw : Bool) (slot c out gain : Nat) (black : Int) : Nat × DriveSums :=
  let lin1 := if raw then out else (clampI 0 65535 (rhe (out * gain : Nat) 16384 + black)).toNat
  let u := (p.ug.getD slot []).getD c 16384
  let pre := min 65535 (rhe (lin1 * u : Nat) 16384).toNat
  let lin3 := (rhe (pre * p.g : Nat) 65536).toNat
  let lin4 := min lin3 (p.peaks.getD slot 65535)
  let trip := q.tripped || p.allowance < q.post + lin4
  let lin := if trip then 0 else lin4
  (curveCode p.curves (p.bands.getD slot 0) c lin p.bits, { pre := q.pre + pre, post := q.post + lin4, tripped := trip })

/-- Codes packed as a little-endian bit string of b bits a code (R227). -/
def packCodes (b : Nat) (codes : List Nat) : Nat := codes.foldr (fun c acc => c + 2 ^ b * acc) 0

namespace State

/-- The slot mask of a head in a bank (R235). -/
def slotMask (s : State) (newBank : Bool) (h : Nat) : Nat := s.natB newBank (if h = 0 then O.headASlotMask else O.headBSlotMask)

/-- The region of a slot in a bank (R266). -/
def regionOf (s : State) (newBank : Bool) (slot : Nat) : Bytes := s.octB newBank (O.linkSlotRegion slot)

/-- The slot of a head column (R244). -/
def slotOfColumn (s : State) (newBank : Bool) (h col : Nat) : Option Nat :=
  let here := (List.range 16).filter fun n => regionHas (s.regionOf newBank (16 * h + n)) col
  let masked := here.filter fun n => bitOf (s.slotMask newBank h) n
  ((masked ++ here).head?).map (16 * h + ·)

/-- The head line bytes of a bank (R227). -/
def lineBytes (s : State) (newBank : Bool) : Nat := headLineBytesOf (s.natB newBank O.headHActive) (s.natB newBank O.bitsPerSubpixel)

/-- The line pitch of a bank (R227). -/
def linePitch (s : State) (newBank : Bool) : Nat := s.natB newBank O.headCount * s.lineBytes newBank

/-- scan_group_clock of a bank: f_g = H_TOTAL x V_TOTAL x den / (32 x num) Hz (R224, R241). The spec does not say how a fraction of a Hz is shown; it is rounded half-even, as Tl is. -/
def groupClock (s : State) (newBank : Bool) : Nat :=
  (rhe (s.natB newBank O.headHTotal * s.natB newBank O.headVTotal * s.natB newBank O.tfDen : Nat) (32 * s.natB newBank O.tfNum)).toNat

/-- scan_line_period of a bank: Tl = num / (den x V_TOTAL) s, in ps, rounded half-even (R224, R241). -/
def linePeriod (s : State) (newBank : Bool) : Nat :=
  (rhe (s.natB newBank O.tfNum * 1000000000000 : Nat) (s.natB newBank O.tfDen * s.natB newBank O.headVTotal)).toNat

/-- The columns of a panel that have a slot (R249). -/
def slotColumns (s : State) (newBank : Bool) : Nat :=
  let w := s.natB newBank O.headHActive
  sumN ((List.range (s.natB newBank O.headCount)).map fun h => ((List.range w).filter fun c => (s.slotOfColumn newBank h c).isSome).length)

/-- N: the active subpixels of a frame that have a slot (R249). -/
def driveCount (s : State) (newBank : Bool) : Nat := 3 * s.slotColumns newBank * s.natB newBank O.headVActive

/-- What PDP applies to the frame being written. -/
def pdpIn (s : State) (newBank : Bool) : PdpIn :=
  { bits := s.natB newBank O.bitsPerSubpixel, curves := s.octB newBank O.driveCurves, bands := s.pdp.bands, ug := s.pdp.ug,
    peaks := s.pdp.peaks, g := s.pdp.g, allowance := s.pdp.l * s.pdp.n }

/-! ## Temperatures (R144, R247, R291) -/

/-- The temperature a slot's partner reports: the last valid reading, at most 1 s old, of a sideband that answers (R291). (DEDUCED, log entry 46.) -/
def slotTemp (s : State) (slot : Nat) : Option Int :=
  let x := s.link.getD slot {}
  if x.stale || 1000000000 < s.clk.now - x.tempAt then none else x.temp

/-- Whether a slot of the Cast masks holds a trained partner: TRAINED or DEGRADED (R144, R281). -/
def slotTrained (s : State) (slot : Nat) : Bool :=
  bitOf (s.slotMask false (slot / 16)) (slot % 16) && (s.nat (O.linkSlotState slot) == 4 || s.nat (O.linkSlotState slot) == 5)

/-- T_meas: the mean of the temperatures the trained partners of the Cast slot masks report (R144). (DEDUCED, log entry 46.) -/
def meanTemp (s : State) : Option Int :=
  let ts := (List.range 32).filterMap fun n => if s.slotTrained n then s.slotTemp n else none
  if ts.isEmpty then none else some (rhe (ts.foldl (· + ·) 0) ts.length)

/-- Bring T_meas up to date. (DEDUCED, log entry 46.) -/
def updateTMeas (s : State) : State := s.setTMeas s.meanTemp

/-! ## What PDP latches at a render window opening (R40, R247 to R249) -/

/-- Change panel drive. -/
def modPdp (s : State) (f : Pdp → Pdp) : State := { s with pdp := f s.pdp }

/-- The next band of one slot, its confirmation, and whether it had no temperature (R247). -/
def nextBand (s : State) (newBank : Bool) (slot : Nat) : Nat × (Nat × Nat) × Bool :=
  let ths := s.octB newBank O.driveBandThresholds
  let dflt := s.natB newBank O.driveBandDefault
  let t := match s.slotTemp slot with | some t => some t | none => s.cal.tMeas
  let band := s.pdp.bands.getD slot 2
  match t with
  | none => (dflt, (dflt, 0), true)
  | some t =>
    if !s.pdp.opened then let b := bandTarget ths dflt t; (b, (b, 0), false)
    else
      let b := bandTarget ths band t
      if b = band then (band, (b, 0), false)
      else
        let (old, n) := s.pdp.conf.getD slot (0, 0)
        let n := if old = b then n + 1 else 1
        if 3 ≤ n then (b, (b, 0), false) else (band, (b, n), false)

/-- Latch the bands (R40, R247). -/
def latchBands (s : State) (newBank : Bool) : State :=
  let xs := (List.range 32).map (s.nextBand newBank)
  let cold := (List.range 32).filter fun n => (xs.getD n (0, (0, 0), false)).2.2
  let s := if cold.isEmpty then s.modPdp fun p => { p with noTemp := false }
    else if s.pdp.noTemp then s
    else (s.modPdp fun p => { p with noTemp := true }).note O.pdpLastStatus 0x0C07 [cold.headD 0]
  let s := s.modPdp fun p => { p with bands := xs.map (·.1), conf := xs.map (·.2.1), opened := true }
  (List.range 32).foldl (fun s n => s.put (O.driveBandNow n) (s.pdp.bands.getD n 0)) s

/-- The uniformity gains of a slot; 16,384 where no partner was ever discovered (R248). (DESIGN CHOICE, log entry 49.) -/
def uniformity (s : State) (newBank : Bool) (slot : Nat) : List Nat :=
  let b := if s.natB newBank O.uniformitySource = 0 then s.oct (O.uniformityPartner slot) else s.octB newBank (O.uniformityHost slot)
  if b.isEmpty then [16384, 16384, 16384] else [fieldN b 0 2, fieldN b 2 2, fieldN b 4 2]

/-- Latch the limits and the gain, and clear the sums for the frame (R249). (DESIGN CHOICE, log entry 49.) -/
def latchDrive (s : State) (newBank : Bool) : State :=
  let l := s.nat O.plinthMeanDrive
  let g := if l ≠ s.pdp.l ∨ s.pdp.mean ≤ l then 65536 else l * 65536 / s.pdp.mean
  let s := if (g < 65536 ∧ s.pdp.g = 65536) ∨ (g = 65536 ∧ s.pdp.g < 65536) then s.note O.pdpLastStatus 0x0C04 [g] else s
  let s := s.modPdp fun p => { p with
    g := g, l := l, mean := if l ≠ p.l then 0 else p.mean, peaks := (List.range 32).map fun n => s.nat (O.plinthPeakDrive n)
    ug := (List.range 32).map (s.uniformity newBank)
    sPre := 0, sPost := 0, n := s.driveCount newBank, tripped := false }
  s.put O.driveGainNow g

/-! ## Writing lines (R227, R243, R249, R252) -/

/-- The code of one subpixel of the panel and the sums after it; a pixel without a slot has code 0 (R244). -/
def driveAt (s : State) (p : PdpIn) (newBank : Bool) (q : DriveSums) (raw : Bool) (x c out gain : Nat) (black : Int) : Nat × DriveSums :=
  let w := s.natB newBank O.headHActive
  match s.slotOfColumn newBank (x / w) (x % w) with
  | none => (0, q)
  | some slot => drive p q raw slot c out gain black

/-- Write a piece of a line: its codes from panel column `x` on, all in one head, padded with zeros where the piece ends the line (R227, R252). -/
def writePiece (s : State) (base : Nat) (newBank : Bool) (x y : Nat) (codes : List Nat) : State :=
  let w := s.natB newBank O.headHActive
  let b := s.natB newBank O.bitsPerSubpixel
  let lb := s.lineBytes newBank
  let off := (x % w) * 3 * b / 8
  let n := if x % w + codes.length / 3 = w then lb - off else codes.length * b / 8
  s.hbmWrite (base + y * s.linePitch newBank + (x / w) * lb + off) (leBytes n (packCodes b codes))

/-- Write the line CRC table entry of a head line (R251, R252). -/
def writeCrc (s : State) (base : Nat) (newBank : Bool) (y h : Nat) : State :=
  let lb := s.lineBytes newBank
  let line := s.hbmRead (base + y * s.linePitch newBank + h * lb) lb
  s.hbmWrite (base + crcTableOffset + 8 * (2 * y + h)) (crcEntry (crc32c line) y h)

/-- The backstop trips: 0x0C05 once a frame, counted, and a warning on the PRESENTED entry (R249). -/
def backstop (s : State) : State :=
  ((s.bump O.driveBackstopCount).note O.pdpLastStatus 0x0C05).warnRender 0x0C05

/-- Take the sums of written subpixels; a trip is posted at its instant (R249). -/
def takeSums (s : State) (q : DriveSums) : State :=
  let was := s.pdp.tripped
  let s := s.modPdp fun p => { p with sPre := q.pre, sPost := q.post, tripped := q.tripped }
  if q.tripped && !was then s.backstop else s

/-- The mean drive U of the frame whose window closed complete (R249). -/
def closeDrive (s : State) : State :=
  let u := if s.pdp.n = 0 then 0 else s.pdp.sPre / s.pdp.n
  (s.modPdp fun p => { p with mean := u }).put O.driveMeanLast u

end State

end Sys2Proof.Machine
end

