-- ==== Sys2Proof/Machine/Capture.lean ====
section
/-! DEFINITION. Reference capture: preconditions, steps, reports, aborts and pattern frames (R151 to R156). -/

namespace Sys2Proof.Machine

namespace State

/-- Change the capture. -/
def modCap (s : State) (f : Capture → Capture) : State := { s with cal := { s.cal with cap := f s.cal.cap } }

/-- Whether T_meas has been available for the last 60 s and has changed by less than 8 units in it (R151). (DESIGN CHOICE, log entry 45.) -/
def tempSteady (s : State) : Bool :=
  let recent := s.cal.hist.takeWhile fun e => s.clk.now < e.1 + 60000000000
  let before := ((s.cal.hist.drop recent.length).head?).map (·.2)
  match before with
  | none => false
  | some b =>
    let vs := b :: recent.map (·.2)
    if vs.any (·.isNone) then false
    else
      let ts := vs.filterMap id
      maxI (ts.headD 0) ts - minI (ts.headD 0) ts < 8

/-- Whether every partner in the Cast slot masks is trained and none is DEGRADED (R151). -/
def partnersTrained (s : State) : Bool :=
  (List.range 32).all fun n =>
    !bitOf (s.slotMask false (n / 16)) (n % 16) || s.nat (O.linkSlotState n) == 0 || s.nat (O.linkSlotState n) == 4

/-- The first failing precondition of the first `n` of R151. -/
def captureBlocked (s : State) (n : Nat) : Option Nat :=
  let checks : List (Bool × Nat) := [
    (s.nat O.captureTfDen != 0 && s.castTf.1 * s.nat O.captureTfDen == s.nat O.captureTfNum * s.castTf.2, 0x0710),
    (s.nat O.cfgSwapState != 2 && s.nat O.cfgSwapState != 3, 0x0711),
    (s.cal.tMeas.isSome && s.tempSteady, 0x0712),
    (s.partnersTrained, 0x0713),
    (!s.cal.running, 0x0714)]
  ((checks.take n).find? fun c => !c.1).map (·.2)

/-- Abort the run: the result, the cause, the run invalidated, and the function stops (R156). -/
def abortCapture (s : State) (result cause : Nat) : State :=
  let s := (s.modCap fun c => { c with valid := false }).put O.captureResult result
  let s := if cause = 0 then s else s.put O.captureCause cause
  let s := { ((s.put O.captureState 3).putB O.captureEnable false) with held := s.held.filter (fun f => f != Fn.capture) }
  (s.post result [cause]).refreshCal

/-- Arming a swap aborts a run that is STARTING or ON (R156). -/
def abortForSwap (s : State) : State :=
  if s.nat O.captureState = 1 ∨ s.nat O.captureState = 2 then s.abortCapture 0x0715 0x0711 else s

/-- A disable request of the function ends a run with result 0x0000 (R44, R156). -/
def endCapture (s : State) : State :=
  ((s.modCap fun c => { c with valid := false }).put O.captureResult 0).put O.captureState 3

/-- Whether the render windows produce pattern frames: from STARTING on, until STOPPING ends at an opening (R152, R156). -/
def capturing (s : State) : Bool := s.nat O.captureState == 1 || s.nat O.captureState == 2

/-- The tag of the step and attempt to be shown (R154). -/
def captureTag (s : State) : Nat := s.nat O.captureRunId * 2 ^ 24 + fieldN s.cal.cap.step 0 2 * 2 ^ 8 + s.cal.cap.attempt

/-- A write of capture_step: its status and effect (R153). (DESIGN CHOICE, log entry 45.) -/
def captureStepWrite (s : State) (v : Bytes) : Nat × State :=
  let c := s.cal.cap
  if s.nat O.captureState ≠ 2 ∨ !c.valid ∨ !c.confirmed ∨ fieldN v 0 2 ≠ s.nat O.captureConfirmed + 1 then (0x0719, s)
  else (0, s.modCap fun c => { c with step := v, attempt := 0, confirmed := false, shownAt := none })

/-- A write of capture_report: its status and effect, judged against the tag of the frame presented (R155). Where a later step is already accepted, a report on the one still presented changes nothing. (DESIGN CHOICE, log entry 45.) -/
def captureReportWrite (s : State) (v : Bytes) : Nat × State :=
  let c := s.cal.cap
  let tag := c.presented.getD 0
  if s.nat O.captureState ≠ 2 ∨ !c.valid ∨ c.presented.isNone ∨ fieldN v 0 1 ≠ tag / 2 ^ 24 ∨ fieldN v 2 2 ≠ tag / 2 ^ 8 % 65536 then (0x0718, s)
  else if fieldN v 2 2 ≠ fieldN c.step 0 2 then (0, s)
  else if fieldN v 4 4 = tag then (0, (s.modCap fun c => { c with confirmed := true }).put O.captureConfirmed (fieldN c.step 0 2))
  else if 2 ≤ c.attempt then (0, s.abortCapture 0x0716 0)
  else (0, s.modCap fun c => { c with attempt := c.attempt + 1, shownAt := none })

/-! ## Pattern frames (R152 to R154) -/

/-- Whether a pixel is a spot of the step's node grid along one axis (R153). -/
def spotAxis (x size nodes stride off : Nat) : Bool :=
  (List.range (nodes + 1)).any fun i => min (i * size / nodes) (size - 1) == x && i % stride == off

/-- Whether the step lights a subpixel (R153); `anyBit` is the free value of a stride of 0. (DESIGN CHOICE, log entry 122.) -/
def stepLit (step : Bytes) (w h : Nat) (r : Ray) (x y : Nat) (anyBit : Bool) : Bool :=
  bitOf (fieldN step 3 1) r.chan &&
  (let a := fieldN step 8 4
   let b := fieldN step 12 4
   match fieldN step 2 1 with
   | 1 => true
   | 2 => (r.phx + 2 ^ 32 - a) % 2 ^ 32 < b
   | 3 => (r.phy + 2 ^ 32 - a) % 2 ^ 32 < b
   | 4 => if a % 65536 = 0 ∨ a / 65536 = 0 then anyBit
          else spotAxis x w 511 (a % 65536) (b % 65536) && spotAxis y h 255 (a / 65536) (b / 65536)
   | _ => false)

/-- The value and rawness the tag strip forces on a pixel, if it lies in the strip (R154). -/
def stripValue (s : State) (x y : Nat) : Option Nat :=
  let c := s.nat O.captureTagCell
  let tx := s.nat O.captureTagX
  let ty := s.nat O.captureTagY
  if x < tx ∨ y < ty ∨ ty + c ≤ y ∨ tx + 34 * c ≤ x then none
  else
    let k := (x - tx) / c
    if k = 0 then some 65535 else if k = 33 then some 0 else if bitOf s.captureTag (32 - k) then some 65535 else some 0

/-- The 16-bit linear value of a pattern's subpixel, and whether gain and black are left out (R153, R154). (DESIGN CHOICE, log entry 45.) -/
def patternValue (s : State) (w h : Nat) (r : Ray) (x y : Nat) (anyBit : Bool) : Nat × Bool :=
  match s.stripValue x y with
  | some v => (v, true)
  | none =>
    let step := s.cal.cap.step
    let (w, h) := match s.cal.bronze with
      | some b => ((bronzeGlobal b).panelW, (bronzeGlobal b).panelH)
      | none => (w, h)
    (if stepLit step w h r x y anyBit then fieldN step 4 2 else 0, bitOf (fieldN step 6 2) 0)

/-- One line of a head of a pattern frame through PDP: its codes and the sums after it. -/
def patternLine (s : State) (ci : CalIn) (p : PdpIn) (nb : Bool) (x0 x1 y : Nat) (anyBit : Bool) (q : DriveSums) : List Nat × DriveSums :=
  let (w, h) := s.panelSize nb
  ((List.range (x1 - x0)).flatMap fun i => (List.range 3).map fun c => (x0 + i, c)).foldl (fun (acc : List Nat × DriveSums) xc =>
    let r := rayOf ci xc.1 y xc.2
    let (v, raw) := s.patternValue w h r xc.1 y anyBit
    let (code, q) := s.driveAt p nb acc.2 raw xc.1 r.chan v r.gain r.black
    (acc.1 ++ [code], q)) ([], q)

/-- Write a whole pattern frame and its line CRCs into a buffer (R152). -/
def writePattern (s : State) (ci : CalIn) (nb : Bool) (base : Nat) : State :=
  let (_, h) := s.panelSize nb
  let w := s.natB nb O.headHActive
  let p := s.pdpIn nb
  let anyBit := Config.freeBool s.free
  let s := s.drawFree
  let lines := (List.range h).flatMap fun y => (List.range (s.natB nb O.headCount)).map fun hd => (y, hd)
  lines.foldl (fun s yh =>
    let q : DriveSums := { pre := s.pdp.sPre, post := s.pdp.sPost, tripped := s.pdp.tripped }
    let (codes, q) := s.patternLine ci p nb (yh.2 * w) (yh.2 * w + w) yh.1 anyBit q
    ((s.writePiece base nb (yh.2 * w) yh.1 codes).takeSums q).writeCrc base nb yh.1 yh.2) s

end State

/-- CAPTURE_START_CHECK: the preconditions of STARTING; then a new run and step 0, or OFF with the code (R151). capture_confirmed starts at 0. (DESIGN CHOICE, log entry 122.) -/
def cmdCaptureStartCheck (s : State) : State :=
  if s.nat O.captureState ≠ 1 then s
  else match s.captureBlocked 5 with
    | some code =>
      (((s.put O.captureState 0).putB O.captureEnable false).put O.captureResult code).post code |>.refreshCal
    | none =>
      let s := s.put O.captureRunId ((s.nat O.captureRunId + 1) % 256)
      let s := (s.put O.captureConfirmed 0).put O.captureState 2
      (s.modCap fun _ => { valid := true, step := zeros 16, attempt := 0, confirmed := true }).refreshCal

/-- CAPTURE_TIMEOUT: the step is unconfirmed for capture_timeout after its attempt was first shown (R155). -/
def cmdCaptureTimeout (s : State) : State :=
  match s.cal.cap.shownAt with
  | none => s
  | some t =>
    if s.nat O.captureState ≠ 2 ∨ s.cal.cap.confirmed then s
    else (s.reach (t + s.nat O.captureTimeout * 1000000)).abortCapture 0x0717 0

/-- CAPTURE_START_CHECK (R151). -/
def execCaptureStartCheck (s : State) : Host.Outcome State Fault Refusal := .next (s.ifLive cmdCaptureStartCheck)

/-- CAPTURE_TIMEOUT (R155). -/
def execCaptureTimeout (s : State) : Host.Outcome State Fault Refusal := .next (s.ifLive cmdCaptureTimeout)

end Sys2Proof.Machine
end

