-- ==== Sys2Proof/Machine/Trace.lean ====
section
/-! DEFINITION. Tracing one ray: layer constants, segment, sampling, refinement, shading, merging and compositing (R171 to R182). -/

namespace Sys2Proof.Machine

/-- ATAN[0] to ATAN[79], round_half_even(atan(e / 128) x 2^28) (R178). -/
def atan0 : List Int :=
  [0, 2097109, 4193963, 6290304, 8385879, 10480432, 12573708, 14665456, 16755422, 18843356,
   20929009, 23012133, 25092482, 27169813, 29243884, 31314455, 33381290, 35444154, 37502815, 39557046,
   41606621, 43651317, 45690916, 47725201, 49753961, 51776988, 53794077, 55805027, 57809642, 59807729,
   61799100, 63783570, 65760959, 67731092, 69693798, 71648910, 73596265, 75535706, 77467080, 79390239,
   81305038, 83211338, 85109006, 86997910, 88877926, 90748934, 92610817, 94463464, 96306768, 98140629,
   99964947, 101779630, 103584590, 105379743, 107165009, 108940314, 110705585, 112460757, 114205767, 115940558,
   117665074, 119379267, 121083089, 122776498, 124459457, 126131931, 127793888, 129445301, 131086147, 132716405,
   134336058, 135945093, 137543498, 139131268, 140708398, 142274886, 143830734, 145375947, 146910532, 148434500]

/-- ATAN[80] to ATAN[159], round_half_even(atan(e / 128) x 2^28) (R178). -/
def atan1 : List Int :=
  [149947862, 151450634, 152942833, 154424480, 155895597, 157356207, 158806338, 160246018, 161675278, 163094151,
   164502670, 165900873, 167288796, 168666480, 170033966, 171391295, 172738514, 174075665, 175402798, 176719959,
   178027198, 179324565, 180612112, 181889891, 183157956, 184416360, 185665161, 186904412, 188134173, 189354499,
   190565449, 191767083, 192959459, 194142638, 195316680, 196481646, 197637599, 198784599, 199922708, 201051990,
   202172508, 203284323, 204387500, 205482101, 206568192, 207645834, 208715093, 209776031, 210828714, 211873205,
   212909567, 213937866, 214958165, 215970527, 216975017, 217971698, 218960633, 219941887, 220915522, 221881602,
   222840189, 223791346, 224735136, 225671620, 226600860, 227522919, 228437858, 229345737, 230246618, 231140562,
   232027628, 232907876, 233781367, 234648158, 235508310, 236361880, 237208928, 238049509, 238883684, 239711507]

/-- ATAN[160] to ATAN[239], round_half_even(atan(e / 128) x 2^28) (R178). -/
def atan2 : List Int :=
  [240533036, 241348327, 242157436, 242960419, 243757331, 244548226, 245333158, 246112182, 246885352, 247652719,
   248414337, 249170259, 249920535, 250665217, 251404357, 252138005, 252866210, 253589024, 254306494, 255018670,
   255725601, 256427334, 257123917, 257815398, 258501822, 259183237, 259859688, 260531222, 261197882, 261859714,
   262516762, 263169070, 263816681, 264459639, 265097986, 265731765, 266361017, 266985784, 267606107, 268222026,
   268833582, 269440815, 270043765, 270642470, 271236969, 271827301, 272413504, 272995615, 273573671, 274147711,
   274717769, 275283882, 275846087, 276404418, 276958910, 277509599, 278056519, 278599704, 279139187, 279675002,
   280207183, 280735761, 281260769, 281782240, 282300204, 282814694, 283325741, 283833374, 284337626, 284838525,
   285336103, 285830387, 286321408, 286809195, 287293776, 287775180, 288253434, 288728567, 289200606, 289669578]

/-- ATAN[240] to ATAN[319], round_half_even(atan(e / 128) x 2^28) (R178). -/
def atan3 : List Int :=
  [290135510, 290598429, 291058361, 291515333, 291969370, 292420498, 292868742, 293314128, 293756679, 294196422,
   294633379, 295067576, 295499035, 295927781, 296353837, 296777226, 297197971, 297616094, 298031619, 298444566,
   298854959, 299262818, 299668166, 300071024, 300471412, 300869352, 301264864, 301657968, 302048686, 302437037,
   302823040, 303206716, 303588084, 303967163, 304343972, 304718530, 305090856, 305460968, 305828884, 306194623,
   306558203, 306919641, 307278954, 307636161, 307991278, 308344323, 308695312, 309044262, 309391190, 309736111,
   310079043, 310420001, 310759002, 311096060, 311431192, 311764413, 312095737, 312425182, 312752760, 313078488,
   313402380, 313724450, 314044713, 314363183, 314679874, 314994800, 315307976, 315619414, 315929128, 316237132,
   316543440, 316848063, 317151017, 317452312, 317751962, 318049981, 318346379, 318641171, 318934368, 319225982]

/-- ATAN[320] to ATAN[399], round_half_even(atan(e / 128) x 2^28) (R178). -/
def atan4 : List Int :=
  [319516025, 319804510, 320091449, 320376852, 320660733, 320943101, 321223969, 321503348, 321781250, 322057684,
   322332663, 322606198, 322878298, 323148975, 323418239, 323686101, 323952571, 324217660, 324481377, 324743733,
   325004738, 325264402, 325522734, 325779744, 326035443, 326289839, 326542941, 326794761, 327045306, 327294585,
   327542609, 327789386, 328034925, 328279235, 328522324, 328764202, 329004877, 329244358, 329482653, 329719770,
   329955718, 330190506, 330424140, 330656631, 330887984, 331118210, 331347314, 331575306, 331802193, 332027982,
   332252682, 332476299, 332698842, 332920318, 333140734, 333360097, 333578415, 333795694, 334011943, 334227167,
   334441375, 334654572, 334866766, 335077964, 335288171, 335497396, 335705645, 335912923, 336119238, 336324597,
   336529005, 336732468, 336934994, 337136588, 337337257, 337537007, 337735843, 337933773, 338130801, 338326934]

/-- ATAN[400] to ATAN[479], round_half_even(atan(e / 128) x 2^28) (R178). -/
def atan5 : List Int :=
  [338522177, 338716537, 338910019, 339102629, 339294373, 339485257, 339675285, 339864463, 340052797, 340240293,
   340426956, 340612791, 340797803, 340981998, 341165381, 341347957, 341529731, 341710709, 341890896, 342070295,
   342248914, 342426756, 342603826, 342780129, 342955670, 343130454, 343304485, 343477769, 343650310, 343822112,
   343993180, 344163519, 344333133, 344502027, 344670204, 344837671, 345004430, 345170486, 345335844, 345500508,
   345664482, 345827770, 345990377, 346152306, 346313562, 346474148, 346634069, 346793329, 346951932, 347109882,
   347267182, 347423837, 347579850, 347735226, 347889967, 348044079, 348197564, 348350426, 348502669, 348654296,
   348805312, 348955720, 349105523, 349254725, 349403330, 349551340, 349698760, 349845593, 349991842, 350137510,
   350282602, 350427120, 350571068, 350714448, 350857265, 350999521, 351141220, 351282365, 351422959, 351563005]

/-- ATAN[480] to ATAN[559], round_half_even(atan(e / 128) x 2^28) (R178). -/
def atan6 : List Int :=
  [351702506, 351841466, 351979887, 352117773, 352255126, 352391950, 352528247, 352664021, 352799274, 352934010,
   353068231, 353201940, 353335140, 353467834, 353600024, 353731714, 353862906, 353993603, 354123808, 354253523,
   354382751, 354511495, 354639758, 354767542, 354894849, 355021683, 355148045, 355273939, 355399367, 355524331,
   355648835, 355772880, 355896469, 356019605, 356142289, 356264525, 356386314, 356507660, 356628564, 356749029,
   356869057, 356988651, 357107812, 357226544, 357344848, 357462726, 357580182, 357697217, 357813833, 357930032,
   358045817, 358161191, 358276154, 358390709, 358504859, 358618605, 358731949, 358844895, 358957443, 359069595,
   359181354, 359292723, 359403701, 359514293, 359624500, 359734323, 359843765, 359952827, 360061513, 360169822,
   360277758, 360385323, 360492517, 360599344, 360705805, 360811901, 360917635, 361023009, 361128023, 361232681]

/-- ATAN[560] to ATAN[639], round_half_even(atan(e / 128) x 2^28) (R178). -/
def atan7 : List Int :=
  [361336983, 361440932, 361544530, 361647777, 361750677, 361853230, 361955438, 362057303, 362158827, 362260011,
   362360857, 362461367, 362561543, 362661385, 362760896, 362860077, 362958930, 363057457, 363155658, 363253536,
   363351093, 363448329, 363545246, 363641846, 363738131, 363834101, 363929759, 364025106, 364120143, 364214872,
   364309295, 364403412, 364497225, 364590736, 364683947, 364776858, 364869470, 364961787, 365053808, 365145535,
   365236970, 365328114, 365418968, 365509533, 365599812, 365689805, 365779514, 365868940, 365958084, 366046948,
   366135533, 366223840, 366311870, 366399626, 366487107, 366574316, 366661253, 366747921, 366834319, 366920449,
   367006314, 367091912, 367177247, 367262319, 367347130, 367431680, 367515970, 367600003, 367683778, 367767298,
   367850564, 367933575, 368016335, 368098843, 368181101, 368263110, 368344872, 368426387, 368507656, 368588680]

/-- ATAN[640] to ATAN[719], round_half_even(atan(e / 128) x 2^28) (R178). -/
def atan8 : List Int :=
  [368669461, 368750000, 368830297, 368910354, 368990172, 369069752, 369149095, 369228202, 369307074, 369385712,
   369464117, 369542290, 369620232, 369697944, 369775428, 369852684, 369929712, 370006515, 370083093, 370159447,
   370235578, 370311487, 370387175, 370462643, 370537891, 370612922, 370687735, 370762332, 370836713, 370910880,
   370984833, 371058574, 371132103, 371205421, 371278529, 371351428, 371424118, 371496602, 371568879, 371640950,
   371712817, 371784479, 371855939, 371927197, 371998253, 372069109, 372139766, 372210223, 372280483, 372350545,
   372420411, 372490082, 372559558, 372628840, 372697929, 372766825, 372835531, 372904045, 372972370, 373040505,
   373108452, 373176212, 373243784, 373311171, 373378372, 373445389, 373512222, 373578872, 373645339, 373711625,
   373777730, 373843655, 373909401, 373974968, 374040357, 374105569, 374170604, 374235464, 374300148, 374364658]

/-- ATAN[720] to ATAN[799], round_half_even(atan(e / 128) x 2^28) (R178). -/
def atan9 : List Int :=
  [374428995, 374493158, 374557149, 374620969, 374684617, 374748095, 374811404, 374874544, 374937515, 375000319,
   375062956, 375125426, 375187731, 375249872, 375311847, 375373659, 375435308, 375496795, 375558120, 375619284,
   375680287, 375741131, 375801815, 375862340, 375922708, 375982918, 376042971, 376102868, 376162610, 376222196,
   376281628, 376340907, 376400032, 376459004, 376517825, 376576494, 376635012, 376693380, 376751598, 376809667,
   376867587, 376925360, 376982984, 377040462, 377097794, 377154980, 377212020, 377268916, 377325668, 377382276,
   377438741, 377495063, 377551244, 377607283, 377663181, 377718938, 377774556, 377830034, 377885374, 377940575,
   377995638, 378050564, 378105354, 378160007, 378214524, 378268905, 378323152, 378377265, 378431244, 378485090,
   378538802, 378592383, 378645831, 378699149, 378752335, 378805391, 378858317, 378911113, 378963781, 379016320]

/-- ATAN[800] to ATAN[879], round_half_even(atan(e / 128) x 2^28) (R178). -/
def atan10 : List Int :=
  [379068731, 379121014, 379173170, 379225200, 379277103, 379328880, 379380532, 379432060, 379483463, 379534741,
   379585897, 379636929, 379687839, 379738626, 379789292, 379839836, 379890260, 379940563, 379990746, 380040809,
   380090753, 380140578, 380190285, 380239874, 380289346, 380338700, 380387938, 380437059, 380486065, 380534955,
   380583730, 380632390, 380680936, 380729368, 380777687, 380825893, 380873986, 380921966, 380969835, 381017593,
   381065239, 381112774, 381160199, 381207514, 381254720, 381301816, 381348803, 381395682, 381442453, 381489116,
   381535672, 381582121, 381628463, 381674699, 381720829, 381766853, 381812773, 381858587, 381904297, 381949903,
   381995405, 382040804, 382086099, 382131292, 382176383, 382221371, 382266258, 382311044, 382355728, 382400312,
   382444796, 382489179, 382533463, 382577648, 382621734, 382665721, 382709609, 382753400, 382797093, 382840689]

/-- ATAN[880] to ATAN[959], round_half_even(atan(e / 128) x 2^28) (R178). -/
def atan11 : List Int :=
  [382884187, 382927589, 382970895, 383014104, 383057218, 383100236, 383143159, 383185988, 383228722, 383271361,
   383313907, 383356359, 383398718, 383440984, 383483158, 383525239, 383567228, 383609125, 383650931, 383692645,
   383734269, 383775802, 383817245, 383858598, 383899861, 383941035, 383982120, 384023116, 384064023, 384104842,
   384145573, 384186217, 384226773, 384267242, 384307624, 384347919, 384388129, 384428252, 384468289, 384508241,
   384548108, 384587890, 384627587, 384667200, 384706729, 384746173, 384785535, 384824812, 384864007, 384903119,
   384942149, 384981096, 385019961, 385058744, 385097446, 385136067, 385174606, 385213065, 385251444, 385289742,
   385327960, 385366098, 385404157, 385442137, 385480037, 385517859, 385555602, 385593267, 385630854, 385668363,
   385705795, 385743149, 385780426, 385817627, 385854750, 385891798, 385928769, 385965664, 386002484, 386039228]

/-- ATAN[960] to ATAN[1024], round_half_even(atan(e / 128) x 2^28) (R178). -/
def atan12 : List Int :=
  [386075897, 386112491, 386149011, 386185455, 386221826, 386258122, 386294345, 386330494, 386366569, 386402571,
   386438501, 386474357, 386510141, 386545853, 386581493, 386617061, 386652557, 386687982, 386723335, 386758618,
   386793829, 386828970, 386864041, 386899042, 386933973, 386968833, 387003625, 387038347, 387073000, 387107584,
   387142099, 387176546, 387210924, 387245234, 387279477, 387313652, 387347759, 387381799, 387415771, 387449677,
   387483517, 387517289, 387550995, 387584636, 387618210, 387651718, 387685161, 387718539, 387751851, 387785099,
   387818281, 387851399, 387884453, 387917442, 387950368, 387983229, 388016027, 388048761, 388081432, 388114040,
   388146585, 388179067, 388211487, 388243844, 388276139]

/-- The arctangent table of 1,025 entries (R178). -/
def atanTable : List Int :=
  atan0 ++ atan1 ++ atan2 ++ atan3 ++ atan4 ++ atan5 ++ atan6 ++ atan7 ++ atan8 ++ atan9 ++ atan10 ++ atan11 ++ atan12

/-- The angle of a tangent in 2^-28 rad (R178). -/
def ang (t : Int) : Int :=
  let m : Nat := t.natAbs
  let e : Nat := min (m / 2 ^ 21) 1023
  let f : Int := (m - e * 2 ^ 21 : Nat)
  let a0 := atanTable.getD e 0
  let a := a0 + rhe ((atanTable.getD (e + 1) 0 - a0) * f) (2 ^ 21)
  if t < 0 then -a else a

/-! ## Layer constants (R172) and the ray in layer space (R173) -/

/-- The layer constants of R172. -/
def layerConst (f : Figure) (l : Layer) : LayerK :=
  let lm := quatMat l.q
  let colK : Nat → V3 := fun b =>
    let v := f.rotM.mul (lm.col b)
    ⟨rhe v.x (2 ^ 30), rhe v.y (2 ^ 30), rhe v.z (2 ^ 30)⟩
  let mo := f.rotM.mul l.origin
  let oA : Int → Int → Int := fun t m => 16 * t + rhe (f.ctx.scale * m) (2 ^ 50)
  { lx := colK 0, ly := colK 1, lw := colK 2, o := ⟨oA f.ctx.trans.x mo.x, oA f.ctx.trans.y mo.y, oA f.ctx.trans.z mo.z⟩,
    invS := rhe (2 ^ 48) f.ctx.scale }

/-- A ray in layer space: its point at panel z = 0 and its direction (R173). -/
structure LRay where
  q0 : V3
  dd : V3
  deriving DecidableEq, Repr

/-- Carry a ray into layer space (R173). -/
def toLayer (k : LayerK) (r : Ray) : LRay :=
  let e : V3 := ⟨r.px - k.o.x, r.py - k.o.y, -k.o.z⟩
  let t : V3 := ⟨r.tu, r.tv, 2 ^ 28⟩
  { q0 := ⟨rhe (k.invS * k.lx.dot e) (2 ^ 54), rhe (k.invS * k.ly.dot e) (2 ^ 54), rhe (k.invS * k.lw.dot e) (2 ^ 54)⟩,
    dd := ⟨rhe (k.invS * k.lx.dot t) (2 ^ 52), rhe (k.invS * k.ly.dot t) (2 ^ 52), rhe (k.invS * k.lw.dot t) (2 ^ 52)⟩ }

/-- The ray's layer-space point at panel z (R173). -/
def LRay.at (r : LRay) (z : Int) : V3 :=
  ⟨r.q0.x + rhe (r.dd.x * z) (2 ^ 30), r.q0.y + rhe (r.dd.y * z) (2 ^ 30), r.q0.z + rhe (r.dd.z * z) (2 ^ 30)⟩

/-- The panel z at which the ray meets the layer-space plane w = h (R173). -/
def LRay.zplane (r : LRay) (h : Int) : Int := rheI ((h - r.q0.z) * 2 ^ 30) r.dd.z

/-- Floor and ceiling of a / b for any nonzero b. -/
def floorI (a b : Int) : Int := if b < 0 then (-a) / (-b) else a / b

/-- Ceiling of a / b for any nonzero b. -/
def ceilI (a b : Int) : Int := -(floorI (-a) b)

/-- One axis of the segment (R174). -/
def segAxis (lh : Int × Int) (p t bmin bmax : Int) : Option (Int × Int) :=
  let a := 16 * bmin - p
  let b := 16 * bmax - p
  if t = 0 then (if 0 < a ∨ b < 0 then none else some lh)
  else if 0 < t then some (max lh.1 (ceilI (a * 2 ^ 28) t), min lh.2 (floorI (b * 2 ^ 28) t))
  else some (max lh.1 (ceilI (b * 2 ^ 28) t), min lh.2 (floorI (a * 2 ^ 28) t))

/-- The range of panel z over which the ray lies inside the Figure's panel bound, none when it is empty (R174). -/
def segmentOf (f : Figure) (r : Ray) : Option (Int × Int) :=
  match segAxis (16 * f.pmin.z, 16 * f.pmax.z) r.px r.tu f.pmin.x f.pmax.x with
  | none => none
  | some lh => match segAxis lh r.py r.tv f.pmin.y f.pmax.y with
    | none => none
    | some (lo, hi) => if hi < lo then none else some (lo, hi)

/-! ## Sampling (R175) -/

/-- A sample: the interpolated components, and the height of the relief in 2^-16 mm. -/
structure Sample where
  t : TexelParts := {}
  h : Int := 0
  deriving DecidableEq, Repr

/-- The bilinear sample at a layer-space point; `tx` reads a texel of the layer (R175). -/
def sampleAt (l : Layer) (tx : Nat → Nat → Texel) (qx qy : Int) : Sample :=
  let wt : Int := 32 * l.tilesX
  let ht : Int := 32 * l.tilesY
  let sx := qx * 65536 / (l.pitchU : Int) - 32768
  let sy := qy * 65536 / (l.pitchV : Int) - 32768
  let i := sx / 65536
  let fx := sx - i * 65536
  let j := sy / 65536
  let fy := sy - j * 65536
  let i1 := (clampI 0 (wt - 1) (i + 1)).toNat
  let i0 := (clampI 0 (wt - 1) i).toNat
  let j1 := (clampI 0 (ht - 1) (j + 1)).toNat
  let j0 := (clampI 0 (ht - 1) j).toNat
  let t00 := unpackTexel (tx i0 j0)
  let t10 := unpackTexel (tx i1 j0)
  let t01 := unpackTexel (tx i0 j1)
  let t11 := unpackTexel (tx i1 j1)
  let bl : (TexelParts → Int) → Int := fun g =>
    (g t00 * (65536 - fx) + g t10 * fx) * (65536 - fy) + (g t01 * (65536 - fx) + g t11 * fx) * fy
  let c : (TexelParts → Int) → Int := fun g => rhe (bl g) (2 ^ 32)
  { t := { y := c (·.y), co := c (·.co), cg := c (·.cg), a := c (·.a), d := 0, gyu := c (·.gyu), gyv := c (·.gyv), gcou := c (·.gcou),
           gcov := c (·.gcov), gcgu := c (·.gcgu), gcgv := c (·.gcgv) },
    h := rhe (bl (·.d) * l.depthStep * 16) (2 ^ 32) }

/-! ## Intersection and refinement (R176, R177) -/

/-- One layer of one Figure as the lane has it: the segment, the ray in layer space and the texel reader. -/
structure Cand where
  fig : Figure
  pos : Nat
  layer : Nat
  l : Layer
  k : LayerK
  broken : Bool := false

/-- A hit: its z, its place in the sorted list, its layer, and its sample. -/
structure Hit where
  z : Int
  pos : Nat
  layer : Nat
  s : Sample
  deriving DecidableEq, Repr

/-- The refinement loop from its second round on: the secant through the last two samples (R176). `left` rounds remain; the result is the point, its sample and the number of further samples. -/
def refine (l : Layer) (tx : Nat → Nat → Texel) (lr : LRay) (lo hi tol : Int) : Nat → Bool → Int → Int → Int → Int → Sample → Nat → Int × Sample × Nat
  | 0, _, z, _, _, _, s, n => (z, s, n)
  | left + 1, first, z, f, zp, fp, s, n =>
    if (f.natAbs : Int) ≤ tol then (z, s, n)
    else if !first && f == fp then (z, s, n)
    else
      let zn := if first then lr.zplane s.h else z - rheI (f * (z - zp)) (f - fp)
      let zn := clampI lo hi zn
      if zn = z then (z, s, n)
      else
        let q := lr.at zn
        let s' := sampleAt l tx q.x q.y
        refine l tx lr lo hi tol left false zn (q.z - s'.h) z f s' (n + 1)

/-- The bound test in Figure space, faces included (R56, R177). -/
def boundOk (f : Figure) (l : Layer) (q : V3) : Bool :=
  let lm := quatMat l.q
  let pf := lm.mul q
  let ax : Int → Int → Int → Int → Bool := fun o p lo hi =>
    let v := 16 * o + rhe p (2 ^ 30)
    16 * lo ≤ v && v ≤ 16 * hi
  ax l.origin.x pf.x f.ctx.bmin.x f.ctx.bmax.x && ax l.origin.y pf.y f.ctx.bmin.y f.ctx.bmax.y && ax l.origin.z pf.z f.ctx.bmin.z f.ctx.bmax.z

/-- Whether the layer-space point lies on the layer's rectangle (R176). -/
def onLayer (l : Layer) (q : V3) : Bool :=
  0 ≤ q.x && q.x < (32 * l.tilesX * l.pitchU : Nat) && 0 ≤ q.y && q.y < (32 * l.tilesY * l.pitchV : Nat)

/-- Trace one candidate layer: the steps taken and the hit, if any (R176). -/
def traceLayer (c : Cand) (tx : Nat → Nat → Texel) (r : Ray) : Nat × Option Hit :=
  let lr := toLayer c.k r
  if c.broken then (1, none)
  else if lr.dd.z = 0 then (1, none)
  else if lr.dd.z < 0 ∧ ¬ bitOf c.l.flags 0 then (1, none)
  else match segmentOf c.fig r with
    | none => (1, none)
    | some (lo, hi) =>
      let z0 := lr.zplane 0
      let keep : Int → Sample → Nat → Nat × Option Hit := fun z s n =>
        let q := lr.at z
        (1 + n, if onLayer c.l q && boundOk c.fig c.l q then some { z := z, pos := c.pos, layer := c.layer, s := s } else none)
      if c.l.depthStep = 0 ∨ c.fig.ctx.renderClass = 3 then
        if z0 < lo ∨ hi < z0 then (1, none)
        else
          let q := lr.at z0
          keep z0 (sampleAt c.l tx q.x q.y) 0
      else
        let z := clampI lo hi z0
        let q := lr.at z
        let s := sampleAt c.l tx q.x q.y
        let (z', s', n) := refine c.l tx lr lo hi (8 * c.l.depthStep) c.l.maxRefine true z (q.z - s.h) 0 0 s 0
        keep z' s' n

/-! ## Shading, merging, compositing (R179 to R182) -/

/-- A value times 2^(e - 28), rounded half-even, for e from -8 to 8 (R179). -/
def gradTerm (v : Int) (e : Int) : Int := rhe v (2 ^ (28 - e).toNat)

/-- The colour of a hit in one channel and its effective alpha (R54, R105, R179). -/
def shade (f : Figure) (l : Layer) (s : Sample) (chan : Nat) (ua va : Int) : Nat × Nat :=
  let y := s.t.y + gradTerm (s.t.gyu * ua + s.t.gyv * va) l.gradY
  let co := s.t.co + gradTerm (s.t.gcou * ua + s.t.gcov * va) l.gradC
  let cg := s.t.cg + gradTerm (s.t.gcgu * ua + s.t.gcgv * va) l.gradC
  let tt := y - cg / 2
  let g := cg + tt
  let b := tt - co / 2
  let r := b + co
  let v := if chan = 0 then r else if chan = 1 then g else b
  ((clampI 0 16383 v).toNat, (s.t.a.toNat * f.ctx.opacity + 512) / 1024)

/-- The order of hits in the buffer (R72, R180): larger z, then lower position, then lower layer. -/
def hitBefore (a b : Hit) : Bool :=
  b.z < a.z || (a.z == b.z && (a.pos < b.pos || (a.pos == b.pos && a.layer ≤ b.layer)))

/-- Insert a hit in buffer order. -/
def hitInsert (h : Hit) : List Hit → List Hit
  | [] => [h]
  | g :: gs => if hitBefore g h then g :: hitInsert h gs else h :: g :: gs

/-- Composite the hits of a group front to back; true when the ray ends (R181). -/
def composite (shadeOf : Hit → Nat × Nat) : List Hit → Nat → Nat → Nat × Nat × Bool
  | [], tr, acc => (tr, acc, false)
  | h :: hs, tr, acc =>
    let (ch, al) := shadeOf h
    let acc := acc + tr * ch * al
    let tr := tr * (1024 - al) / 1024
    if tr ≤ 1024 then (tr, acc, true) else composite shadeOf hs tr acc

/-- What tracing a ray gives: its 16-bit linear result, the steps it took and whether it dropped hits (R160, R180, R182). -/
structure RayOut where
  value : Nat
  steps : Nat
  overflow : Bool
  deriving DecidableEq, Repr

/-- The merge groups of a ray in ascending order (R72, R181). -/
def traceGroups (tx : Cand → Nat → Nat → Texel) (r : Ray) (ua va : Int) : List (List Cand) → Nat → Nat → Nat → Bool → RayOut
  | [], _, acc, steps, ov => { value := (rhe (acc * 65535 : Nat) (16383 * 2 ^ 30)).toNat, steps := steps, overflow := ov }
  | g :: gs, tr, acc, steps, ov =>
    let rs := g.map fun c => (c, traceLayer c (tx c) r)
    let steps := steps + sumN (rs.map (·.2.1))
    let hits := (rs.filterMap (·.2.2)).foldl (fun l h => hitInsert h l) []
    let sh : Hit → Nat × Nat := fun h =>
      match g.find? fun c => c.pos == h.pos && c.layer == h.layer with
      | some c => shade c.fig c.l h.s r.chan ua va
      | none => (0, 0)
    let ov := ov || 32 < hits.length
    let (tr, acc, fin) := composite sh (hits.take 32) tr acc
    if fin then { value := (rhe (acc * 65535 : Nat) (16383 * 2 ^ 30)).toNat, steps := steps, overflow := ov }
    else traceGroups tx r ua va gs tr acc steps ov

/-- Trace a ray through its candidates, given in candidate order (R171). -/
def traceRay (tx : Cand → Nat → Nat → Texel) (r : Ray) (cands : List Cand) : RayOut :=
  let groups := ((List.range 8).map fun g => cands.filter fun c => c.pos / 8 == g).filter fun g => !g.isEmpty
  traceGroups tx r (ang r.tu) (ang r.tv) groups (2 ^ 20) 0 2 false

end Sys2Proof.Machine
end

