-- ==== Sys2Proof/Machine/Render.lean ====
section
/-! DEFINITION. The render window: its opening and closing, units through the clusters, tracing and panel writes (R33 to R40, R133, R146, R159 to R183, R296). -/

namespace Sys2Proof.Machine

/-- The smaller records this file changes. -/
def Buf.isRole (r : Role) (b : Buf) : Bool := b.role == r

namespace State

/-- Change the ray engine. -/
def modRse (s : State) (f : Rse → Rse) : State := { s with rse := f s.rse }

/-- Change the scanout heads. -/
def modScan (s : State) (f : Scan → Scan) : State := { s with scan := f s.scan }

/-- The number of the first buffer in a role. -/
def bufIn (s : State) (r : Role) : Option Nat := s.scan.bufs.findIdx? fun b => b.role == r

/-- Put a buffer into a role with a frame. -/
def setBuf (s : State) (n : Nat) (b : Buf) : State := s.modScan fun x => { x with bufs := x.bufs.set n b }

/-- The ray engine gives up or has finished its frame: nothing of it is staged, and its warnings have gone to its entry or its buffer. -/
def clearRse (s : State) : State :=
  { s with
    rse := { s.rse with frame := none, pattern := false, given := [], nextUnit := 0, written := [],
                        clusters := s.rse.clusters.map fun x => { x with cur := none, next := none } }
    hif := { s.hif with warnRender := (0, 0) } }

/-! ## Reports of frames (R199, R322) -/

/-- A covered frame is not presented at its epoch (R199). -/
def promiseBroken (s : State) (f : Frame) (status : Nat) : State :=
  if f.covered then (s.post 0x0912 [f.number % 2 ^ 32, status, f.adm.cost]).bump O.admBrokenCount else s

/-- The warnings that a frame's PRESENTED entry carries: those raised while it was staged, rendered or scanned (R322). -/
def frameWarn (s : State) (f : Frame) : Nat × Nat :=
  if s.rse.frame = some f.number ∨ s.adm.rendering.any (·.number == f.number) then s.hif.warnRender else f.warn

/-- A frame's PRESENTED entry (R321, R322). -/
def presentedEntry (s : State) (f : Frame) (status at_ : Nat) : State :=
  let w := s.frameWarn f
  s.complete {
    warnStatus := w.1, warnCount := w.2,
    kind := .presented, covered := f.covered, status := status, tag := f.tag, number := f.number, epoch := f.epoch,
    throttle := f.adm.throttle, derate := f.adm.derate, cost := f.adm.cost, budget := f.adm.budget, gen := f.adm.gen, eventTime := at_ }

/-- An admitted frame leaves the pipeline without a scan: its PRESENTED entry, and 0x0912 where it was covered (R199, R322). -/
def discardFrame (s : State) (f : Frame) (status : Nat) : State :=
  if f.number = 0 then s else (s.presentedEntry f status s.ns).promiseBroken f status

/-! ## Staging (R167, R168, R296, R297) -/

/-- The frame whose units are staged: the one rendering, or the pending one before its window opens (R169). -/
def stagingFrame (s : State) : Option Frame := match s.adm.rendering with | some f => some f | none => s.adm.pending

/-- The tiles of a unit: position of the Figure, layer, tile column and row (R167). -/
def unitTiles (s : State) (f : Frame) (u : RUnit) : List (Nat × Nat × Nat × Nat) :=
  let geo := s.binGeo f.adm.newBank
  u.figs.flatMap fun i =>
    match f.figures[i]?, f.bin.screens[i]? with
    | some g, some sr =>
      if !sr.overlaps u.rect then []
      else (enabledLayers g).flatMap fun l => (footprintTiles (footprint geo g l.2 u.rect)).map fun t => (i, l.1, t.1, t.2)
    | _, _ => []

/-- An overlay pixel as a texel word (R105, R296). (DEDUCED, log entry 50.) -/
def overlayTexel (lut px : Bytes) : Texel :=
  let v : Nat → Int := fun k => (fieldN lut (2 * fieldN px k 1) 2 : Nat)
  let r := v 0
  let g := v 1
  let b := v 2
  let co := r - b
  let t := b + co / 2
  let cg := g - t
  packTexel { y := t + cg / 2, co := co, cg := cg, a := rhe (fieldN px 3 1 * 1024 : Nat) 255, d := 0, gyu := 0, gyv := 0, gcou := 0, gcov := 0, gcgu := 0, gcgv := 0 }

/-- The base of an overlay plane buffer (R294). -/
def planeBase (n : Nat) : Nat := 0x80000000 + 0x8000000 * n

/-- The 1,024 texels of an overlay tile (R296, R297). (DEDUCED, log entry 50.) -/
def overlayTile (s : State) (f : Frame) (tx ty : Nat) : List Texel :=
  match f.overlayBuf with
  | none => List.replicate 1024 0#128
  | some b =>
    let lut := s.octB f.adm.newBank O.overlayLut
    (List.range 1024).map fun i =>
      let x := 32 * tx + i % 32
      let y := 32 * ty + i / 32
      if s.nat O.overlayWidth ≤ x ∨ s.nat O.overlayHeight ≤ y then 0#128
      else overlayTexel lut (s.hbmRead (planeBase b + 30720 * y + 4 * x) 4)

/-- The 1,024 texels of a relief tile as the frame reads them (R118, R120). -/
def reliefTile (s : State) (f : Frame) (g : Figure) (layer tx ty : Nat) : List Texel :=
  match ((g.dirs[layer]?).getD none).bind s.dir? with
  | none => List.replicate 1024 0#128
  | some d => s.versionTexels ((d.entry tx ty).seen f.ordinal)

/-- A staging read of a relief tile meets an uncorrectable error: in the tile's directory entry, in the version record of the version read, or in a sector of its slot (R129, R216). (DESIGN CHOICE, log entry 121.) -/
def poisonTile (s : State) (f : Frame) (g : Figure) (layer tx ty : Nat) (e : TileUe) : State :=
  match ((g.dirs[layer]?).getD none).bind s.dir? with
  | none => s
  | some d =>
    let t := d.entry tx ty
    let v := t.seen f.ordinal
    let poison : Nat → State := fun a =>
      ((s.eccUncorrectable a .staging).modDir d.id fun d => d.setEntry (poisonSeen t f.ordinal)).notePoison d tx ty
    match e with
    | .entry => s.entryLost d tx ty .staging
    | .record => match t.older.find? fun r => r.ver == v with
      | some r => if t.cur = v then s else poison (0x270000000 + 64 * r.index)
      | none => s
    | .slot sector => match v.slot with
      | some n => if v.poisoned then s else poison (s.poolBase + 16384 * n + 32 * (sector % 512))
      | none => s

/-- The HBM address of a sector of an overlay tile: four sectors a row of 32 pixels (R294, R296). -/
def overlaySector (f : Frame) (tx ty sector : Nat) : Nat :=
  planeBase (f.overlayBuf.getD 0) + 30720 * (32 * ty + sector / 4 % 32) + 128 * tx + 32 * (sector % 4)

/-- A staged tile's read error: the relief tile is poisoned; an overlay tile reads as zero and is logged (R129, R216, R297). -/
def tileError (s : State) (f : Frame) (key : Nat × Nat × Nat × Nat) (e : TileUe) : State :=
  match f.figures[key.1]? with
  | none => s
  | some g =>
    if g.ctx.renderClass = 3 then
      match e with
      | .slot sector => (s.eccUncorrectable (overlaySector f key.2.2.1 key.2.2.2 sector) .staging).note O.raspLastStatus 0x0E06 [key.2.2.1, key.2.2.2]
      | _ => s
    else s.poisonTile f g key.2.1 key.2.2.1 key.2.2.2 e

/-- The texels staging copies for a tile. -/
def stagedTile (s : State) (f : Frame) (key : Nat × Nat × Nat × Nat) : List Texel :=
  match f.figures[key.1]? with
  | none => List.replicate 1024 0#128
  | some g => if g.ctx.renderClass = 3 then s.overlayTile f key.2.2.1 key.2.2.2 else s.reliefTile f g key.2.1 key.2.2.1 key.2.2.2

/-- A cluster store error is logged, counted and carried by the frame's own PRESENTED entry (R183, R322, R493). -/
def storeError (s : State) (cluster unit : Nat) : State :=
  (((s.bump O.rseStoreEccCount).put O.rseLastStatus 0x0803).raise 5 0 0 0x0803 [cluster, unit]).warnRender 0x0803

end State

/-- The staged unit with the errors of cluster storage applied: zeroed words and layers without hits (R183). -/
def Staged.spoil (st : Staged) (hits : List EccHit) : Staged :=
  hits.foldl (fun st h => match h with
    | .tileWord t w => { st with tiles := st.tiles.modify t fun x => (x.1, x.2.set w 0#128) }
    | .layerConst p l => { st with broken := st.broken ++ [(p, l)] }
    | .result _ => st) st

/-- UNIT_DISPATCH: the next unit goes to the lowest-numbered cluster of a running island whose next slot is empty (R168). -/
def cmdUnitDispatch (s : State) : State :=
  match s.stagingFrame with
  | none => s
  | some f =>
    if f.captureRun.isSome ∨ s.capturing then s
    else
      let s := if s.rse.frame = some f.number then s
        else s.clearRse.modRse fun r => { r with frame := some f.number, steps := 0 }
      let free := (s.rseIslands f.adm.newBank).flatMap fun i =>
        if s.islandUp (9 + i) then (List.range 8).filterMap fun k => if (s.rse.clusters.getD (8 * i + k) {}).next.isNone then some (8 * i + k) else none else []
      match free.head? with
      | none => s
      | some c =>
        if f.bin.units.length ≤ s.rse.nextUnit then s
        else s.modRse fun r => { r with nextUnit := r.nextUnit + 1, given := if r.given.contains (c / 8) then r.given else r.given ++ [c / 8], clusters := r.clusters.modify c fun x => { x with next := some { unit := r.nextUnit } } }

/-- The layer constants of a unit (R172). -/
def unitConsts (f : Frame) (u : RUnit) : List ((Nat × Nat) × LayerK) :=
  u.figs.flatMap fun i => match f.figures[i]? with
    | some g => (enabledLayers g).map fun l => ((i, l.1), layerConst g l.2)
    | none => []

/-- A cluster whose unit has been staged or written: the staged unit becomes the current one where there is none, which empties the next slot (R168, R169). -/
def Cluster.advance (x : Cluster) : Cluster :=
  match x.cur, x.next with
  | none, some st => if st.ready then { x with cur := some st, next := none } else x
  | _, _ => x

/-- UNIT_STAGING_DONE: contexts, layer constants and tile versions are in the cluster's stores (R167, R168, R172). `tileUe` names the tiles, by their place in the unit, whose reads met an uncorrectable error and where; `figUe` the Figures, with the address in the staging partition; `ce` the sectors corrected; `store` errors of the cluster's own stores (R183, R216). (DESIGN CHOICE, log entry 18.) -/
def cmdUnitStagingDone (s : State) (c : Nat) (tileUe : List (Nat × TileUe)) (figUe : List (Nat × Nat)) (ce : List Nat) (store : List EccHit) : State :=
  match s.stagingFrame, (s.rse.clusters.getD c {}).next with
  | some f, some st =>
    if st.ready ∨ s.rse.frame ≠ some f.number then s
    else match f.bin.units[st.unit]? with
      | none => s
      | some u =>
        let keys := s.unitTiles f u
        let s := s.memRequest.eccCorrected ce
        let omitted := figUe.filterMap fun i => u.figs[i.1]?
        let s := tileUe.foldl (fun s i => match keys[i.1]? with | some k => s.tileError f k i.2 | none => s) s
        let s := s.eccAll .staging (figUe.map fun i => 0x20000000 + i.2 % 0x10000000)
        let s := store.foldl (fun s _ => s.storeError c st.unit) s
        let lost := (tileUe.filterMap fun i => keys[i.1]?).filter fun k => ((f.figures[k.1]?).map (·.ctx.renderClass)) == some 3
        let st : Staged := { st with ready := true, omitted := omitted, consts := unitConsts f u,
                                     tiles := keys.map fun k => (k, if lost.contains k then List.replicate 1024 0#128 else s.stagedTile f k) }
        s.modRse fun r => { r with clusters := r.clusters.modify c fun x => ({ x with next := some (st.spoil store) } : Cluster).advance }
  | _, _ => s

/-- UNIT_RENDER_START: rendering of the current unit begins once the window is open (R169). -/
def cmdUnitRenderStart (s : State) (c : Nat) : State :=
  match s.adm.rendering, (s.rse.clusters.getD c {}).cur with
  | some f, some st =>
    if st.started ∨ s.rse.frame ≠ some f.number ∨ !s.islandUp (9 + c / 8) then s
    else s.modRse fun r => { r with clusters := r.clusters.modify c fun x => { x with cur := some { st with started := true } } }
  | _, _ => s

/-! ## Tracing a unit (R166, R171) -/

/-- The candidates of a ray in a pixel (R171). -/
def candidates (f : Frame) (u : RUnit) (st : Staged) (x y : Nat) : List Cand :=
  ((List.range u.figs.length).zip u.figs).flatMap fun pi =>
    match f.figures[pi.2]?, f.bin.screens[pi.2]? with
    | some g, some sr =>
      if !sr.has x y ∨ st.omitted.contains pi.2 then []
      else (enabledLayers g).map fun l =>
        { fig := g, pos := pi.1, layer := l.1, l := l.2,
          k := ((st.consts.find? fun c => c.1 == (pi.2, l.1)).map (·.2)).getD (layerConst g l.2)
          broken := st.broken.contains (pi.2, l.1) }
    | _, _ => []

/-- The texel reader of a staged unit; texels outside the staged tiles read as zero. -/
def stagedTexel (u : RUnit) (st : Staged) (c : Cand) (i j : Nat) : Texel :=
  match u.figs[c.pos]? with
  | none => 0#128
  | some p => match st.tiles.find? fun t => t.1 == (p, c.layer, i / 32, j / 32) with
    | some t => (t.2)[32 * (j % 32) + i % 32]?.getD 0#128
    | none => 0#128

/-- The rays of one row of a unit: the ray record and what tracing gave (R166). -/
def traceRow (ci : CalIn) (f : Frame) (u : RUnit) (st : Staged) (y : Nat) : List (Nat × Ray × RayOut) :=
  (List.range (u.rect.x1 - u.rect.x0)).flatMap fun i =>
    let x := u.rect.x0 + i
    let cs := candidates f u st x y
    (List.range 3).map fun c =>
      let r := rayOf ci x y c
      (x, r, traceRay (stagedTexel u st) r cs)

namespace State

/-- The steps and overflows of traced rays are counted (R160, R180). -/
def countRays (s : State) (rays : List (Nat × Ray × RayOut)) : State :=
  let missed := (rays.filter fun r => r.2.2.overflow).length
  let s := s.modRse fun r => { r with steps := r.steps + sumN (rays.map fun x => x.2.2.steps) }
  if missed = 0 then s
  else ((s.bumpBy O.rseHitOverflowCount missed).put O.rseLastStatus 0x0802).warnRender 0x0802

/-- One row of a unit through PDP: its results from the result buffer, codes written head by head, sums taken (R243, R249, R252). -/
def writeRow (s : State) (base : Nat) (nb : Bool) (y : Nat) (values : List Nat) (rays : List (Nat × Ray × RayOut)) : State :=
  let p := s.pdpIn nb
  let w := s.natB nb O.headHActive
  let q0 : DriveSums := { pre := s.pdp.sPre, post := s.pdp.sPost, tripped := s.pdp.tripped }
  let (codes, q) := (values.zip rays).foldl (fun (acc : List (Nat × Nat) × DriveSums) vr =>
    let (x, r, _) := vr.2
    let (code, q) := s.driveAt p nb acc.2 false x r.chan vr.1 r.gain r.black
    (acc.1 ++ [(x, code)], q)) ([], q0)
  let s := s.takeSums q
  (List.range (s.natB nb O.headCount)).foldl (fun s h =>
    let mine := codes.filter fun c => c.1 / w == h
    match mine.head? with
    | none => s
    | some c => s.writePiece base nb c.1 y (mine.map (·.2))) s

/-- The line CRC entries of the lines a unit completes: those whose every piece is written (R252). -/
def writeDoneLines (s : State) (f : Frame) (u : RUnit) (base : Nat) : State :=
  let nb := f.adm.newBank
  let w := s.natB nb O.headHActive
  let open_ := ((List.range f.bin.units.length).zip f.bin.units).filter fun x => !s.rse.written.contains x.1
  ((List.range (u.rect.y1 - u.rect.y0)).flatMap fun i => (List.range (s.natB nb O.headCount)).map fun h => (u.rect.y0 + i, h)).foldl (fun s yh =>
    let lo := yh.2 * w
    let touches : RUnit → Bool := fun v => v.rect.y0 ≤ yh.1 && yh.1 < v.rect.y1 && v.rect.x0 < lo + w && lo < v.rect.x1
    if touches u && !(open_.any fun x => touches x.2) then s.writeCrc base nb yh.1 yh.2 else s) s

end State

/-- UNIT_RENDER_DONE: the unit's results stand in the result buffer and pass through PDP into the frame buffer (R159, R170 to R182, R243, R252). `calUe` lists the addresses in the calibration partition at which CAL's reads met an uncorrectable error: it reads the second copy and rewrites the first, and no ray changes (R216). -/
def cmdUnitRenderDone (s : State) (c : Nat) (store : List EccHit) (calUe : List Nat) : State :=
  match s.adm.rendering, (s.rse.clusters.getD c {}).cur, s.bufIn .render with
  | some f, some st, some b =>
    if !st.started then s
    else match f.bin.units[st.unit]? with
    | none => s
    | some u =>
      let s := s.eccAll .renderWrite (calUe.map fun a => 0x10000000 + a % 0x10000000)
      let s := store.foldl (fun s _ => s.storeError c st.unit) s
      let st := st.spoil store
      let zeroed := store.filterMap fun h => match h with | .result i => some i | _ => none
      let n := 3 * (u.rect.x1 - u.rect.x0)
      let rows := (List.range (u.rect.y1 - u.rect.y0)).map fun i => traceRow s.rse.calIn f u st (u.rect.y0 + i)
      let values := rows.flatten.map fun r => r.2.2.value
      let values := zeroed.foldl (fun vs i => vs.set i 0) values
      let s := ((List.range rows.length).zip rows).foldl (fun s ir =>
        (s.countRays ir.2).writeRow (bufBase b) f.adm.newBank (u.rect.y0 + ir.1) ((values.drop (n * ir.1)).take n) ir.2) s
      let s := s.modRse fun r => { r with
        written := r.written ++ [st.unit], lastDoneAt := s.ns
        clusters := r.clusters.modify c fun x => ({ x with cur := none, results := (st.unit, values) :: x.results.take 1 } : Cluster).advance }
      s.writeDoneLines f u (bufBase b)
  | _, _, _ => s

/-! ## The window (R34, R36, R40, R133, R146, R247 to R249) -/

namespace State

/-- The Patina ramp of the frame whose window opens: a new one at the bound frame of a changed Patina, else the next step of the running one (R146, R147). -/
def stepRamp (s : State) (f : Frame) : State :=
  let nb := f.adm.newBank
  let n := max 1 (s.natB nb O.patinaRampFrames)
  if s.cfg.rampDue && s.nat O.cfgBoundFrame ≤ f.number then
    let start := if nb then s.rampedNow else s.cal.rampS
    { s with cal := { s.cal with rampS := start, rampN := n, rampK := 1, running := 1 < n }, cfg := { s.cfg with rampDue := false } }
  else if s.cal.running then
    { s with cal := { s.cal with rampK := s.cal.rampK + 1, running := s.cal.rampK + 1 < s.cal.rampN } }
  else s

/-- The calibration inputs of a frame under a bank at the ramp step in force: while no ramp runs the step equals its length, which gives the target (R133, R146). -/
def calNow (s : State) (nb : Bool) : CalIn :=
  if s.cal.running then s.calInputs nb s.cal.rampS s.cal.rampK s.cal.rampN else s.calInputs nb (s.patinaOf nb) 1 1

/-- The calibration inputs of the frame are fixed (R133). -/
def fixCal (s : State) (f : Frame) : State := (s.modRse fun r => { r with calIn := s.calNow f.adm.newBank }).refreshCal

/-- The throttle RSE applies to the frame: the record's, or the current one at the emergency level (R37, R38, R162). -/
def applyThrottle (s : State) (f : Frame) : State :=
  s.put O.rseThrottleLevel (if s.nat O.thmRiseLevel = 2 then s.nat O.thmThrottleLevel else f.adm.throttle)

/-- What every opening latches: the bands, T_cal, limits and gain (R40, R144, R247, R249). -/
def latchOpening (s : State) (nb : Bool) : State := ((s.updateTMeas.latchBands nb).stepTCal).latchDrive nb

/-- A capture that stops ends at the opening, and starts again where an enable is held (R45, R156). -/
def captureStopDone (s : State) : State :=
  if s.nat O.captureState ≠ 3 then s
  else
    let again := s.held.contains Fn.capture
    let s := { s with held := s.held.filter fun f => f != Fn.capture }
    ((s.put O.captureState (if again then 1 else 0)).modScan fun x => { x with blankUntilNew := true }).refreshCal

/-- The re-check of the preconditions at an opening (R156). -/
def captureRecheck (s : State) : State :=
  match s.captureBlocked 4 with
  | some code => s.abortCapture 0x0715 code
  | none => s

/-- The opening of a window during reference capture: the pattern frame is written whole; an admitted frame whose window opens counts as rendered by it (R152). The frame's tag, which R85 says is shown to reference capture, goes nowhere but into its entries. (DESIGN CHOICE, log entries 44, 123.) -/
def openPattern (s : State) (b : Nat) (f : Option Frame) (nb : Bool) : State :=
  let s := s.latchOpening nb
  let s := (match f with | some g => s.stepRamp g | none => s)
  let ci := s.calNow nb
  let fr : Frame := { (f.getD { number := 0, epoch := s.curEpoch + 1, tf := s.tfOf nb, ordinal := 0 }) with captureRun := some s.captureTag }
  let s := (s.setBuf b { role := .render, frame := some fr }).clearRse.modRse fun r => { r with pattern := true, openAt := s.ns, calIn := ci, steps := 0 }
  let s := match f with
    | some _ => s.modAdm fun a => { a with pending := none, rendering := some fr }
    | none => s
  (s.writePattern ci nb (bufBase b)).captureRecheck

/-- The opening of an admitted frame's window (R40, R133, R169). -/
def openFrame (s : State) (b : Nat) (f : Frame) : State :=
  let nb := f.adm.newBank
  let s := ((s.latchOpening nb).stepRamp f).fixCal f
  let s := (s.setBuf b { role := .render, frame := some f }).modAdm fun a => { a with pending := none, rendering := some f }
  let s := if s.rse.frame = some f.number then s
    else s.clearRse.modRse fun r => { r with frame := some f.number }
  (s.modRse fun r => { r with openAt := s.ns, lastDoneAt := s.ns, steps := 0, pattern := false, stepBound := sumN (f.bin.units.map (·.s)) }).applyThrottle f

end State

/-- RENDER_WINDOW_OPEN: at T - Tf the FREE buffer becomes RENDER and the frame's inputs are latched (R33, R40, R133). (DESIGN CHOICE, log entry 44.) -/
def cmdRenderWindowOpen (s : State) : State :=
  if s.adm.rendering.isSome ∨ (s.bufIn .render).isSome ∨ s.hif.direct then s
  else match s.bufIn .free with
    | none => s
    | some b =>
      let s := s.captureStopDone
      match s.adm.pending with
      | some f =>
        let s := s.reach (windowOpenAt f.tf f.epoch).toNat
        if s.capturing then s.openPattern b (some f) f.adm.newBank else s.openFrame b f
      | none => if s.capturing then s.openPattern b none false else s

namespace State

/-- SCAN commits a complete buffer's address as the pending pair (R34, R227). (DESIGN CHOICE, log entry 52.) -/
def commitBuffer (s : State) (b : Nat) (nb : Bool) : State :=
  s.modScan fun x => { x with pend := some { a := bufBase b, b := bufBase b + s.lineBytes nb, crcSkip := false },
                              addrA := bufBase b, addrB := bufBase b + s.lineBytes nb, commitResult := 0 }

/-- The objects of the frame whose window closed (R184). -/
def noteFrame (s : State) (f : Frame) : State :=
  (((s.put O.rseStepsLast s.rse.steps).put O.rseStepBoundLast s.rse.stepBound).put O.rseRenderTimeLast
    (s.rse.lastDoneAt - s.rse.openAt : Nat)).put O.rseSplitBinsLast f.bin.splitBins

/-- A frame of the new bank of a bound swap is discarded: its epoch is still T_F (R43). -/
def noteDiscard (s : State) (f : Frame) : State :=
  if s.nat O.cfgSwapState = 3 ∧ s.nat O.cfgBoundFrame ≤ f.number ∧ s.cfg.dueEpoch.isNone then { s with cfg := { s.cfg with dueEpoch := some f.epoch } } else s

/-- A frame incomplete at T - 0.5 ms is discarded (R36, R199). -/
def overrun (s : State) (b : Nat) (f : Frame) : State :=
  let s := ((s.setBuf b {}).bump O.rseOverrunCount).noteDiscard f
  let s := ((s.put O.rseLastStatus 0x0801).raise 5 0 0 0x0801 [f.number % 2 ^ 32])
  (s.presentedEntry f 0x0801 s.ns).promiseBroken f 0x0801

end State

/-- RENDER_WINDOW_CLOSE: at T - 0.5 ms a complete buffer becomes COMMITTED and its address pending; an incomplete one is discarded (R34, R36). (DESIGN CHOICE, log entry 52.) -/
def cmdRenderWindowClose (s : State) : State :=
  match s.bufIn .render with
  | none => s
  | some b =>
    match (s.scan.bufs.getD b {}).frame with
    | none => s
    | some f =>
      let s := s.reach (State.epochAt f.tf f.epoch - 500000)
      let nb := f.adm.newBank
      let done := s.rse.pattern || f.bin.units.length ≤ s.rse.written.length
      let s := if done then ((s.setBuf b { role := .committed, frame := some { f with warn := s.hif.warnRender } }).commitBuffer b nb).closeDrive
        else s.overrun b f
      let s := (if s.rse.pattern then s else s.noteFrame f).clearRse
      if f.number = 0 then s
      else (s.modAdm fun a => { a with rendering := none }).releaseFrame f.number

/-- UNIT_DISPATCH (R168). -/
def execUnitDispatch (s : State) : Host.Outcome State Fault Refusal := .next (s.ifLive cmdUnitDispatch)

/-- UNIT_STAGING_DONE (R168). -/
def execUnitStagingDone (c : Fin 64) (tileUe : List (Nat × TileUe)) (figUe : List (Nat × Nat)) (store : List EccHit) (s : State) (ce : List Nat := []) :
    Host.Outcome State Fault Refusal :=
  .next (s.ifLive fun s => cmdUnitStagingDone s c tileUe figUe ce store)

/-- UNIT_RENDER_START (R169). -/
def execUnitRenderStart (c : Fin 64) (s : State) : Host.Outcome State Fault Refusal := .next (s.ifLive fun s => cmdUnitRenderStart s c)

/-- UNIT_RENDER_DONE (R170). -/
def execUnitRenderDone (c : Fin 64) (store : List EccHit) (s : State) (calUe : List Nat := []) : Host.Outcome State Fault Refusal :=
  .next (s.ifLive fun s => cmdUnitRenderDone s c store calUe)

/-- RENDER_WINDOW_OPEN (R40). -/
def execRenderWindowOpen (s : State) : Host.Outcome State Fault Refusal := .next (s.ifLive cmdRenderWindowOpen)

/-- RENDER_WINDOW_CLOSE (R34). -/
def execRenderWindowClose (s : State) : Host.Outcome State Fault Refusal := .next (s.ifLive cmdRenderWindowClose)

end Sys2Proof.Machine
end

