-- ==== Sys2Proof/Machine/Lanes.lean ====
section
/-! DEFINITION. Block coding of the lanes: control blocks, the scrambler, stripes of a segment, and what a slot's lanes carry for a line (R264 to R273). -/

namespace Sys2Proof.Machine

/-- A block: its 4-bit header and its 16 payload bytes (R268). -/
abbrev Block := Nat × Bytes

/-- Header of a data block (R268). -/
def dataHeader : Nat := 0x3

/-- Header of a control block (R268). -/
def controlHeader : Nat := 0xC

/-- A control block from its type and its 11 field bytes, with ctl_crc (R271). -/
def controlBlock (ty : Nat) (fields : Bytes) : Block :=
  let b := leBytes 1 ty ++ (fields ++ zeros 11).take 11
  (controlHeader, b ++ leBytes 4 (crc32c b))

/-- SYNC (R270, R271). -/
def syncBlock (slot lane rate slip bits : Nat) : Block :=
  controlBlock 0x01 (leBytes 1 slot ++ leBytes 1 lane ++ leBytes 1 rate ++ leBytes 1 slip ++ leBytes 1 bits)

/-- LINE_START (R271). -/
def lineStartBlock (line flags frameLo hSync hBack hTotal : Nat) : Block :=
  controlBlock 0x10 (leBytes 2 line ++ leBytes 1 flags ++ leBytes 2 frameLo ++ leBytes 2 hSync ++ leBytes 2 hBack ++ leBytes 2 hTotal)

/-- LINE_END (R271). -/
def lineEndBlock (line crc stripes : Nat) : Block :=
  controlBlock 0x11 (leBytes 2 line ++ zeros 1 ++ leBytes 4 crc ++ leBytes 2 stripes)

/-- ABORT (R271). -/
def abortBlock (line frameLo : Nat) : Block := controlBlock 0x20 (leBytes 2 line ++ zeros 1 ++ leBytes 2 frameLo)

/-- BLANK (R271). -/
def blankBlock (frameLo : Nat) : Block := controlBlock 0x21 (zeros 3 ++ leBytes 2 frameLo)

/-- TRAIN (R271, R282, R284). -/
def trainBlock (mode preset : Nat) : Block := controlBlock 0x30 (leBytes 1 mode ++ leBytes 1 preset)

/-- COMMAND USE_SPARE (R271, R287). -/
def useSpareBlock (logical line frameLo : Nat) : Block :=
  controlBlock 0x40 (leBytes 1 1 ++ leBytes 1 logical ++ leBytes 2 line ++ leBytes 2 frameLo)

/-! ## The scrambler (R269) -/

/-- The state every SYNC and LINE_START block sets (R269). -/
def scramblerSeed : Nat := 0x7FFFFF

/-- One step: the bit added to the payload bit, and the next state (R269). -/
def scramblerStep (s : Nat) : Nat × Nat :=
  let t : Nat → Nat := fun k => bitsOf s k 1
  ((t 22), (2 * s + (t 22 + t 20 + t 15 + t 7 + t 4 + t 1) % 2) % 2 ^ 23)

/-- Scramble `n` bits of a number, least significant first. -/
def scrambleBits : Nat → Nat → Nat → Nat × Nat
  | 0, s, _ => (0, s)
  | n + 1, s, v =>
    let (o, s') := scramblerStep s
    let (r, s'') := scrambleBits n s' (v / 2)
    ((v % 2 + o) % 2 + 2 * r, s'')

/-- The bytes of a payload as sent, and the next state (R269). -/
def scrambleBytes : Nat → Bytes → Bytes × Nat
  | s, [] => ([], s)
  | s, b :: bs =>
    let (v, s') := scrambleBits 8 s b.toNat
    let (r, s'') := scrambleBytes s' bs
    (BitVec.ofNat 8 v :: r, s'')

/-- Data blocks of payloads, before scrambling (R268). -/
def dataBlocks (ps : List Bytes) : List Block := ps.map fun p => (dataHeader, p)

/-- Whether a block sets the scrambler: SYNC and LINE_START (R269). -/
def setsScrambler (b : Block) : Bool := b.1 == controlHeader && (fieldN b.2 0 1 == 0x01 || fieldN b.2 0 1 == 0x10)

/-- Blocks as a lane codes them from a scrambler state, and the state after them: data payloads are scrambled, SYNC and LINE_START set the state (R269). -/
def codeBlocks : Nat → List Block → List Block × Nat
  | s, [] => ([], s)
  | s, b :: bs =>
    let (b', s') : Block × Nat :=
      if b.1 = dataHeader then let (p, t) := scrambleBytes s b.2; ((b.1, p), t) else (b, if setsScrambler b then scramblerSeed else s)
    let (r, s'') := codeBlocks s' bs
    (b' :: r, s'')

/-! ## Training patterns (R267, R282, R284) -/

/-- The seed of PRBS31: all ones (R282). -/
def prbs31Seed : Nat := 0x7FFFFFFF

/-- One step of PRBS31, generator x^31 + x^28 + 1: the bit sent, and the next state (R282). -/
def prbs31Step (s : Nat) : Nat × Nat :=
  let b := (bitsOf s 30 1 + bitsOf s 27 1) % 2
  (b, (2 * s + b) % 2 ^ 31)

/-- The steps of a sweep: setting k takes transmit preset k >> 3 and 360.9375 µs (R282). -/
def sweepSteps : List (Nat × Nat) := (List.range 128).map fun k => (k / 8, 360937500)

/-- The step of a VERIFY: 1 ms at the chosen preset (R284). -/
def verifySteps (preset : Nat) : List (Nat × Nat) := [(preset, 1000000000)]

/-- Pre-cursor and post-cursor de-emphasis of a preset in tenths of dB (R267). -/
def deEmphasis (p : Nat) : Nat × Nat := (p / 4 * 15, p % 4 * 20)

/-- A block as an inverted lane sends it (R265). -/
def invertBlock (inv : Bool) (b : Block) : Block := if inv then (15 - b.1, b.2.map (~~~ ·)) else b

/-! ## Segments and stripes (R272) -/

/-- The segment of a region in a line of b-bit codes, in bytes from bit 0 on (R272). -/
def segmentOfLine (line : Bytes) (bits x0 width : Nat) : Bytes :=
  leBytes (width * 3 * bits / 8) (leNat line / 2 ^ (3 * bits * x0) % 2 ^ (width * 3 * bits))

/-- seg_stripes (R272). -/
def segStripes (bits width : Nat) : Nat := ceilDiv (width * 3 * bits) 512

/-- The stripes of a segment with their zero padding (R272). -/
def stripeBytes (seg : Bytes) (stripes : Nat) : Bytes := (seg ++ zeros (64 * stripes)).take (64 * stripes)

/-- The payloads of logical lane L: 16 bytes of every stripe (R272). -/
def lanePayloads (data : Bytes) (stripes L : Nat) : List Bytes := (List.range stripes).map fun k => cut data (64 * k + 16 * L) 16

/-- What one lane carries for a line, before scrambling: LINE_START, its stripes or the idle pattern, LINE_END (R273). -/
def laneLine (start fin : Block) (payloads : List Bytes) : List Block := start :: dataBlocks payloads ++ [fin]

/-! ## Lane maps (R264, R265) -/

/-- The physical lane, 0 to 159, of lane j of a slot's group. -/
def physLane (slot group j : Nat) : Nat := 80 * (slot / 16) + 5 * group + j

/-- The physical lane, 0 to 4, that carries a logical lane under a map entry; 4 asks for the spare (R265). -/
def mapOrder (entry : Bytes) (L : Nat) : Nat := bitsOf (fieldN entry 2 2) (3 * L) 3

namespace State

/-- What LINK keeps for a slot. -/
def slot (s : State) (n : Nat) : Slot := s.link.getD n {}

/-- Change what LINK keeps for a slot. -/
def modSlot (s : State) (n : Nat) (f : Slot → Slot) : State := { s with link := s.link.modify n f }

/-- A slot's entry in the Cast lane map. -/
def laneMap (s : State) (slot : Nat) : Bytes := s.oct (O.linkLaneMap slot)

/-- The group of a slot (R265). -/
def groupOf (s : State) (slot : Nat) : Nat := fieldN (s.laneMap slot) 0 1

/-- The number, 0 to 159, of lane j of a slot. -/
def laneNo (s : State) (slot j : Nat) : Nat := physLane slot (s.groupOf slot) j

/-- The state of lane j of a slot: 0 OFF, 1 TRAINING, 2 ACTIVE, 3 STANDBY, 4 FAILED (R281). -/
def laneState (s : State) (slot j : Nat) : Nat := s.nat (O.linkLaneState (s.laneNo slot j))

/-- Set the state of lane j of a slot. -/
def setLaneState (s : State) (slot j v : Nat) : State := s.put (O.linkLaneState (s.laneNo slot j)) v

/-- Whether lane j of a slot is inverted (R265). -/
def laneInverted (s : State) (slot j : Nat) : Bool := bitOf (fieldN (s.laneMap slot) 1 1) j

/-- The swing of every transmitter in mV: link_tx_amplitude, clamped in hardware to the Plinth ceiling (R267). -/
def laneSwing (s : State) : Nat := min (s.nat O.linkTxAmplitude) (s.nat O.plinthLaneAmplitude)

/-- Send blocks on lane j of a slot, scrambled from the lane's state, and inverted where its polarity bit is set (R265, R269). -/
def sendLane (s : State) (slot j : Nat) (bs : List Block) : State :=
  let r := codeBlocks ((s.slot slot).scram.getD j scramblerSeed) bs
  (s.modSlot slot fun x => { x with scram := setAt x.scram j r.2 }).emit (.lane (s.laneNo slot j) (r.1.map (invertBlock (s.laneInverted slot j))))

/-- Lane j of a slot carries the idle pattern from its scrambler state until its next block (R269, R273). -/
def sendIdle (s : State) (slot j : Nat) : State :=
  s.emit (.laneIdle (s.laneNo slot j) (s.laneInverted slot j) ((s.slot slot).scram.getD j scramblerSeed) none)

/-- SYNC for lane j of a slot at the Cast rate (R270, R271). -/
def syncFor (s : State) (slot slip j : Nat) : Block := syncBlock slot j (s.nat O.linkLaneRate) slip (s.nat O.bitsPerSubpixel)

/-- Lane j of a slot takes a transmit preset at the clamped swing and carries PRBS31 (R267, R282, R284). -/
def sendPrbs (s : State) (slot j : Nat) (steps : List (Nat × Nat)) : State :=
  (s.emit (.laneTx (s.laneNo slot j) (steps.headD (0, 0)).1 s.laneSwing)).emit
    (.lanePrbs (s.laneNo slot j) (s.laneInverted slot j) prbs31Seed steps)

/-- A sweep of lane j of a slot begins: TRAIN with mode SWEEP, then the 128 settings (R282). -/
def sendSweep (s : State) (slot j : Nat) : State := (s.sendLane slot j [trainBlock 0 0]).sendPrbs slot j sweepSteps

/-- VERIFY of lane j of a slot with a preset: TRAIN with mode VERIFY, then 1 ms of PRBS31 (R284). -/
def sendVerify (s : State) (slot j preset : Nat) : State :=
  (s.sendLane slot j [trainBlock 1 preset]).sendPrbs slot j (verifySteps preset)

/-- A control block on every ACTIVE and STANDBY lane of a slot (R271). -/
def sendControl (s : State) (slot : Nat) (b : Block) : State :=
  (s.emit (.panel slot (.control b.2))) |> fun s =>
    (List.range 5).foldl (fun s j => if s.laneState slot j = 2 ∨ s.laneState slot j = 3 then s.sendLane slot j [b] else s) s

/-- SYNC on all five lanes of a slot, each naming its lane, then the idle pattern with a SYNC every 64 blocks (R270, R285). -/
def sendSync (s : State) (slot : Nat) : State :=
  (List.range 5).foldl (fun s j =>
    let b := s.syncFor slot 0 j
    let t := s.sendLane slot j [b]
    t.emit (.laneIdle (s.laneNo slot j) (s.laneInverted slot j) scramblerSeed (some b))) s

/-- Before line 0: SYNC with slip n on every lane of a slot that is not in training, then n filler bits (R270). -/
def sendSlip (s : State) (slot n : Nat) : State :=
  (List.range 5).foldl (fun s j =>
    if s.laneState slot j = 1 then s
    else (s.sendLane slot j [s.syncFor slot n j]).emit (.laneFiller (s.laneNo slot j) (s.laneInverted slot j) n)) s

/-- The idle pattern on every ACTIVE and STANDBY lane of a slot until its next block (R269, R273). -/
def idleLanes (s : State) (slot : Nat) : State :=
  (List.range 5).foldl (fun s j => if s.laneState slot j = 2 ∨ s.laneState slot j = 3 then s.sendIdle slot j else s) s

/-- The low 16 bits of the number of the frame in the SCAN role (R271). -/
def frameLo (s : State) : Nat := s.nat O.scanFrameNumber % 65536

/-- The LINE_START block of a line of the raster (R271). -/
def lineStart (s : State) (y : Nat) : Block :=
  let va := s.nat O.headVActive
  let vs := va + s.nat O.headVFront
  let hs := s.nat O.headHActive + s.nat O.headHFront
  let flags := maskOf [y == 0, va ≤ y, vs ≤ y && y < vs + s.nat O.headVSync, y + 1 == s.nat O.headVTotal]
  lineStartBlock y flags s.frameLo hs (hs + s.nat O.headHSync) (s.nat O.headHTotal)

/-- Send an active line to a slot: stripes on the lanes that carry logical lanes, the idle pattern on the STANDBY lane and until the next line (R272, R273). -/
def sendActive (s : State) (slot y : Nat) (line : Bytes) : State :=
  let r := s.regionOf false slot
  let bits := s.nat O.bitsPerSubpixel
  let width := fieldN r 2 2
  let n := segStripes bits width
  let data := stripeBytes (segmentOfLine line bits (fieldN r 0 2) width) n
  let start := s.lineStart y
  let fin := lineEndBlock y (crc32c data) n
  let lanes := (s.link.getD slot {}).logical
  (List.range 5).foldl (fun s j =>
    match (List.range 4).find? fun L => lanes.getD L none == some j with
    | some L => (s.sendLane slot j (laneLine start fin (lanePayloads data n L))).sendIdle slot j
    | none => if s.laneState slot j = 3 then (s.sendLane slot j (laneLine start fin (List.replicate n (zeros 16)))).sendIdle slot j else s) s

/-- Send a line of the vertical blanking to a slot (R273). -/
def sendBlankingLine (s : State) (slot y : Nat) : State := (s.sendControl slot (s.lineStart y)).idleLanes slot

end State

end Sys2Proof.Machine
end

