-- ==== Sys2Proof/Machine/Link.lean ====
section
/-! DEFINITION. The panel link: presence, discovery, training, spare lanes, removal and telemetry (R276 to R291). -/

namespace Sys2Proof.Machine

/-! ## Choosing a setting (R284) -/

/-- Whether setting k qualified in a pass map (R278). -/
def qualified (map k : Nat) : Bool := k < 128 && bitOf map k

/-- The score of a setting: its neighbours that qualify (R284). -/
def settingScore (map k : Nat) : Nat :=
  let p := k / 8
  let r := k % 8
  b2n (r < 7 && qualified map (k + 1)) + b2n (0 < r && qualified map (k - 1)) +
  b2n (p % 4 < 3 && qualified map (k + 8)) + b2n (0 < p % 4 && qualified map (k - 8))

/-- The setting the LX9 chooses: highest score, then lowest k (R284). -/
def chooseSetting (map : Nat) : Option Nat :=
  (List.range 128).foldl (fun (best : Option Nat) k =>
    if !qualified map k then best
    else match best with
      | none => some k
      | some b => if settingScore map b < settingScore map k then some k else best) none

/-- Lane j's pass map in the 80 bytes of a sweep (R278). -/
def passMapOf (bytes : Bytes) (j : Nat) : Nat := fieldN bytes (16 * j) 16

/-- Whether a descriptor is valid (R279, R280). -/
def descriptorValid (d : Bytes) : Bool :=
  d.length == 64 && fieldN d 0 2 == 0xD17A && fieldN d 2 1 == 1 && crc32c (d.take 0x3C) == fieldN d 0x3C 4

namespace State

/-- link_slot_state of a slot (R281). -/
def slotState (s : State) (n : Nat) : Nat := s.nat (O.linkSlotState n)

/-- Set link_slot_state. -/
def setSlotState (s : State) (n v : Nat) : State := s.put (O.linkSlotState n) v

/-- A LINK code is logged. -/
def linkNote (s : State) (code : Nat) (param : List Nat) : State := s.note O.linkLastStatus code param

/-- A LINK fault is raised (R493). -/
def linkFault (s : State) (fam cls item code : Nat) (param : List Nat) : State := (s.put O.linkLastStatus code).raise fam cls item code param

/-- The 7-bit target address of a slot's partner on its pair's bus (R277). -/
def sideTarget (n : Nat) : Nat := 0x3A + n % 2

/-- A sideband write to the partner of a slot: the register offset, then the data (R277, R278). -/
def sideWrite (s : State) (n off : Nat) (data : Bytes) : State := s.emit (.panel n (.sideband (n / 2) (sideTarget n) off data))

/-- A sideband read from the partner of a slot: the register offset, then a repeated start and the bytes (R277, R278). -/
def sideRead (s : State) (n off len : Nat) : State := s.emit (.panel n (.sidebandRead (n / 2) (sideTarget n) off len))

/-- The state object of a slot's head. -/
def headState (s : State) (h : Nat) : Nat := s.nat (if h = 0 then O.headAState else O.headBState)

/-- Whether a head drives its partners: STARTING or ON with panel power ON, and used by the panel (R240, R256). -/
def headDrives (s : State) (h : Nat) : Bool :=
  (s.headState h == 1 || s.headState h == 2) && s.nat O.panelPowerState == 2 && h < s.nat O.headCount

/-- The width of a slot's Cast region. -/
def slotWidth (s : State) (n : Nat) : Nat := fieldN (s.regionOf false n) 2 2

/-- Whether a slot is discovered and trained now (R266, R281). -/
def slotTrains (s : State) (n : Nat) : Bool := s.headDrives (n / 16) && s.slotWidth n != 0

/-- Whether a stored descriptor fits the Cast timing and region (R280). -/
def descriptorFits (s : State) (n : Nat) (d : Bytes) : Bool :=
  bitOf (fieldN d 3 1) (if s.nat O.linkLaneRate = 0 then 1 else 0) && s.nat O.bitsPerSubpixel ≤ fieldN d 0x14 1 &&
  fieldN d 0x10 2 == s.slotWidth n && fieldN d 0x12 2 == s.nat O.headVActive

/-- Every lane of a slot into one state. -/
def setAllLanes (s : State) (n v : Nat) : State := (List.range 5).foldl (fun s j => s.setLaneState n j v) s

/-- A slot begins to be discovered; a partner counts as trained at no rate since (R285, R286). -/
def startDiscovery (s : State) (n : Nat) : State :=
  (s.setSlotState n 2).modSlot n fun x => { x with
    phase := .reading 0, since := s.clk.now, fed := false, jobs := [], trainedRates := [] }

/-- The TRAINING step of R285: rate and receiver enabled, SYNC on all lanes. -/
def startTraining (s : State) (n : Nat) : State :=
  let s := (s.sideWrite n 0x41 (leBytes 1 (s.nat O.linkLaneRate))).sideWrite n 0x40 (leBytes 1 1)
  let s := ((s.sendSync n).setSlotState n 3).setAllLanes n 1
  s.modSlot n fun x => { x with phase := .aligning, since := s.clk.now, fed := false, jobs := [], spare := none, logical := [none, none, none, none] }

/-- A descriptor does not fit: the slot enters MISMATCH, and receives SYNC and the idle pattern only (R280). -/
def mismatch (s : State) (n : Nat) : State :=
  (((s.setSlotState n 6).setAllLanes n 0).modSlot n fun x => { x with phase := .none, fed := false, jobs := [] }).sendSync n

/-- A good transaction ends the faults of a slot's sideband (R291, R493). -/
def sidebandOk (s : State) (n : Nat) : State := (s.modSlot n fun x => { x with sideFails := 0, stale := false }).settle 15 n

/-- A failed transaction; the third in a row is reported and makes the telemetry stale (R291). -/
def sidebandFailed (s : State) (n : Nat) : State :=
  let k := (s.slot n).sideFails + 1
  let s := s.modSlot n fun x => { x with sideFails := k }
  if k = 3 then ((s.modSlot n fun x => { x with stale := true }).linkFault 15 n 0 0x0D0C [n]).updateTMeas else s

/-- The settings of the Cast rate as link_lane_setting shows them (R284, R292). -/
def showSettings (s : State) (n : Nat) : State :=
  (List.range 5).foldl (fun s j =>
    let v := match (s.slot n).stored.find? fun x => x.1 == s.nat O.linkLaneRate && x.2.1 == j with
      | some x => 0x8000 + x.2.2 / 8 * 256 + x.2.2 % 8
      | none => 0
    s.put (O.linkLaneSetting (s.laneNo n j)) v) s

/-- Keep a chosen setting for the Cast rate. -/
def storeSetting (s : State) (n j k : Nat) : State :=
  let r := s.nat O.linkLaneRate
  (s.modSlot n fun x => { x with stored := (x.stored.filter fun y => !(y.1 == r && y.2.1 == j)) ++ [(r, j, k)] }).showSettings n

/-- A sweep of a lane is recorded for the limits of R288. -/
def noteSweep (s : State) (n j : Nat) : State :=
  let day := s.ns / 86400000000000
  s.modSlot n fun x =>
    let k := match x.sweeps.find? (·.1 == j) with
      | some y => if y.2.2.1 = day then y.2.2.2 + 1 else 1
      | none => 1
    { x with sweeps := (x.sweeps.filter (·.1 != j)) ++ [(j, s.clk.now, day, k)] }

/-- A lane is swept alone (R282, R287, R288). -/
def sweepLane (s : State) (n j : Nat) (retry : Bool) : State :=
  let s := ((s.sideWrite n 0x40 (leBytes 1 3)).setLaneState n j 1).sendSweep n j
  (s.noteSweep n j).modSlot n fun x => { x with jobs := (x.jobs.filter (·.lane != j)) ++ [{ lane := j, retry := retry, since := s.clk.now }] }

/-- The STANDBY lane of a slot. -/
def standby (s : State) (n : Nat) : Option Nat := (List.range 5).find? fun j => s.laneState n j == 3

/-- A lane fails its sweep or verify (R287, R288): masked by the spare, or the slot is DEGRADED where it carried data. (DESIGN CHOICE, log entry 88.) -/
def laneFailed (s : State) (n j : Nat) (retry : Bool) : State :=
  let s := s.setLaneState n j 4
  if retry then s
  else if (s.slot n).logical.contains (some j) then
    let s := (s.modSlot n fun x => { x with logical := x.logical.map fun l => if l = some j then none else l, fed := false }).setSlotState n 5
    s.linkFault 0 n j 0x0D0A [n]
  else s.linkFault 0 n j 0x0D09 [n, j]

/-- A lane swept alone verifies (R287, R288). -/
def laneGood (s : State) (n j : Nat) (retry : Bool) : State :=
  let x := s.slot n
  if x.logical.contains (some j) then s.setLaneState n j 2
  else
    let s := if retry then (s.linkNote 0x0D0B [n, j]).settleItem 0 n j else s
    match x.logical.findIdx? (·.isNone) with
    | some L =>
      let s := (s.setLaneState n j 2).modSlot n fun x => { x with logical := x.logical.set L (some j) }
      if (s.slot n).logical.all (·.isSome) then s.setSlotState n 4 else s
    | none => s.setLaneState n j 3

/-- The end of a slot's training: lanes are assigned and the slot is TRAINED, or DEGRADED with fewer than four good lanes (R284, R285). (DESIGN CHOICE, log entry 88.) -/
def assignLanes (s : State) (n : Nat) (good : List Nat) : State :=
  let order := ((List.range 5).map (mapOrder (s.laneMap n))).filter good.contains
  let s := (List.range 5).foldl (fun s j => s.setLaneState n j (if good.contains j then 2 else 4)) s
  let s := match order[4]? with | some j => s.setLaneState n j 3 | none => s
  let s := s.modSlot n fun x => { x with
    phase := .none, logical := (List.range 4).map fun L => order[L]?
    trainedRates := (x.trainedRates.filter (· != s.nat O.linkLaneRate)) ++ [s.nat O.linkLaneRate] }
  let bad := (List.range 5).filter fun j => !good.contains j
  let s := (List.range bad.length).foldl (fun s i =>
    let j := bad.getD i 0
    s.linkFault 0 n j (if i = 0 then 0x0D09 else 0x0D0A) [n, j]) s
  if 4 ≤ order.length then (s.setSlotState n 4).linkNote 0x0D05 (n :: [fieldN (s.oct (O.partnerDescriptor n)) 8 8]) else s.setSlotState n 5

/-- When a head starts, or panel power comes ON, every slot present is discovered (R240, R256, R285). (DESIGN CHOICE, log entry 89.) -/
def startSlots (s : State) (h : Nat) : State :=
  (List.range 16).foldl (fun s k =>
    let n := 16 * h + k
    if s.slotState n ≠ 0 ∧ s.slotTrains n then s.startDiscovery n else s) s

/-- When a head stops, its slots with a board are PRESENT and their lanes carry SYNC and the idle pattern (R270, R281). -/
def stopSlots (s : State) (h : Nat) : State :=
  (List.range 16).foldl (fun s k =>
    let n := 16 * h + k
    if s.slotState n = 0 then s
    else (((s.setSlotState n 1).setAllLanes n 0).sendSync n).modSlot n fun x => { x with phase := .none, fed := false, jobs := [], spare := none }) s

/-- Whether a slot still holds up its head's start: it is being discovered or trained (R240). -/
def slotPending (s : State) (n : Nat) : Bool :=
  match (s.slot n).phase with
  | .reading _ | .aligning | .sweeping | .verifying | .realigning => true
  | _ => false

/-- Whether the partners of a head's mask are ready, failed or absent (R240). -/
def partnersReady (s : State) (h : Nat) : Bool :=
  (List.range 16).all fun k => !bitOf (s.slotMask false h) k || !s.slotPending (16 * h + k)

end State

/-! ## Presence (R285, R289) -/

/-- PRESENCE_FALL: the 50 ms confirmation starts. -/
def cmdPresenceFall (s : State) (n : Nat) : State :=
  let s := s.modSlot n fun x => { x with present := true, highAt := none }
  if s.slotState n ≠ 0 then s
  else s.modSlot n fun x => { x with phase := .confirming, since := s.clk.now }

/-- PRESENCE_RISE: a confirmation restarts at the next fall, and the 1 ms removal count starts. -/
def cmdPresenceRise (s : State) (n : Nat) : State :=
  s.modSlot n fun x => { x with present := false, highAt := some s.clk.now, phase := if x.phase = .confirming then .none else x.phase }

/-- PRESENCE_CONFIRMED: DISCOVERING, or PRESENT while the head is not running or the region is empty. -/
def cmdPresenceConfirmed (s : State) (n : Nat) : State :=
  let x := s.slot n
  if x.phase ≠ .confirming ∨ !x.present then s
  else
    let s := s.elapseTo (x.since + 50000000)
    if s.slotTrains n then s.startDiscovery n
    else (s.setSlotState n 1).modSlot n fun x => { x with phase := .none }

/-- PARTNER_REMOVED: after 1 ms high the slot's state is discarded (R289). -/
def cmdPartnerRemoved (s : State) (n : Nat) : State :=
  match (s.slot n).highAt with
  | none => s
  | some t =>
    if (s.slot n).present ∨ s.slotState n = 0 then s
    else
      let s := s.elapseTo (t + 1000000)
      let s := (s.emit (.panel n .silent)).setAllLanes n 0
      let s := (List.range 5).foldl (fun s j => s.put (O.linkLaneSetting (s.laneNo n j)) 0) s
      let s := ((s.modSlot n fun _ => {}).setSlotState n 0).putO (O.partnerTelemetry n) []
      ((s.linkNote 0x0D06 [n]).settle 0 n).settle 15 n

/-! ## Discovery and training (R280 to R286) -/

/-- DESCRIPTOR_READ: the descriptor is checked and fitted (R279, R280). -/
def cmdDescriptorRead (s : State) (n : Nat) (answer : Option Bytes) : State :=
  match (s.slot n).phase with
  | .reading tries =>
    let s := s.sideRead n 0 64
    let s := if answer.isNone then s.sidebandFailed n else s.sidebandOk n
    let d := answer.getD []
    if !descriptorValid d then
      if tries < 2 then (s.elapseTo (s.clk.now + 10000000)).modSlot n fun x => { x with phase := .reading (tries + 1) }
      else (s.mismatch n).linkFault 15 n 0 0x0D07 [n]
    else
      let s := ((s.putO (O.partnerDescriptor n) d).putO (O.uniformityPartner n) (cut d 0x1A 6)).modSlot n fun x => { x with desc := d }
      if s.descriptorFits n d then s.startTraining n else (s.mismatch n).linkNote 0x0D08 [n]
  | _ => s

/-- RX_READY_ALIGNED: the sweep of all five lanes is armed and started (R282, R285). -/
def cmdRxReadyAligned (s : State) (n : Nat) : State :=
  if (s.slot n).phase ≠ .aligning then s
  else
    let s := s.sideWrite n 0x40 (leBytes 1 3)
    let s := (List.range 5).foldl (fun s j => (s.sendSweep n j).noteSweep n j) s
    s.modSlot n fun x => { x with phase := .sweeping, since := s.clk.now }

/-- TRAIN_TIMEOUT: not ready and aligned within 50 ms (R285). -/
def cmdTrainTimeout (s : State) (n : Nat) : State :=
  if (s.slot n).phase ≠ .aligning then s
  else
    let s := (s.elapseTo ((s.slot n).since + 50000000)).linkNote 0x0D0D [n]
    (s.setAllLanes n 0).modSlot n fun x => { x with phase := .waitRetry, since := s.clk.now }

/-- DISCOVERY_RETRY: 1 s after a timeout the slot is DISCOVERING again (R285). -/
def cmdDiscoveryRetry (s : State) (n : Nat) : State :=
  if (s.slot n).phase ≠ .waitRetry then s
  else (s.elapseTo ((s.slot n).since + 1000000000)).startDiscovery n

/-- SWEEP_DONE: after 46.2 ms settings are chosen, written and verified; a lane without one fails (R282, R284). (DESIGN CHOICE, log entry 88.) -/
def cmdSweepDone (s : State) (n : Nat) (bytes : Bytes) : State :=
  let x := s.slot n
  if x.phase = .sweeping then
    let s := (s.elapseTo (x.since + 46200000)).sideRead n 0x80 80
    let ch := (List.range 5).filterMap fun j => (chooseSetting (passMapOf bytes j)).map fun k => (j, k)
    let rx := (List.range 5).flatMap fun j => leBytes 1 (((ch.find? (·.1 == j)).map (·.2 % 8)).getD 0)
    let s := s.sideWrite n 0x42 rx
    let s := ch.foldl (fun s c => s.sendVerify n c.1 (c.2 / 8)) s
    s.modSlot n fun x => { x with phase := .verifying, choice := ch, since := s.clk.now }
  else
    let due := x.jobs.filter fun w => !w.verifying
    let first := minN x.since (due.map (·.since))
    let s := if due.isEmpty then s else (s.elapseTo (first + 46200000)).sideRead n 0x80 80
    (due.filter fun w => w.since + 46200000 ≤ s.clk.now).foldl (fun s w =>
      match chooseSetting (passMapOf bytes w.lane) with
      | none => (s.modSlot n fun x => { x with jobs := x.jobs.filter (·.lane != w.lane) }).laneFailed n w.lane w.retry
      | some k =>
        let s := (s.sideWrite n (0x42 + w.lane) (leBytes 1 (k % 8))).sendVerify n w.lane (k / 8)
        s.modSlot n fun x => { x with
          jobs := x.jobs.map fun y => if y.lane = w.lane then { y with verifying := true, since := s.clk.now } else y
          choice := (x.choice.filter (·.1 != w.lane)) ++ [(w.lane, k)] }) s

/-- VERIFY_DONE: after 1 ms of PRBS31 verify_err decides each lane; every chosen setting is stored (R284, R285, R287, R288). (DESIGN CHOICE, log entry 88.) -/
def cmdVerifyDone (s : State) (n : Nat) (errors : Bytes) : State :=
  let x := s.slot n
  let ok : Nat → Bool := fun j => fieldN errors j 1 == 0
  if x.phase = .verifying then
    let s := (s.elapseTo (x.since + 1000000)).sideRead n 0x49 5
    let s := x.choice.foldl (fun s c => s.storeSetting n c.1 c.2) s
    (s.assignLanes n ((x.choice.filter fun c => ok c.1).map (·.1))).sendSync n
  else
    let due := x.jobs.filter (·.verifying)
    let first := minN x.since (due.map (·.since))
    let s := if due.isEmpty then s else (s.elapseTo (first + 1000000)).sideRead n 0x49 5
    (due.filter fun w => w.since + 1000000 ≤ s.clk.now).foldl (fun s w =>
      let s := s.modSlot n fun x => { x with jobs := x.jobs.filter (·.lane != w.lane) }
      let s := s.storeSetting n w.lane (((x.choice.find? (·.1 == w.lane)).map (·.2)).getD 0)
      (if ok w.lane then s.laneGood n w.lane w.retry else s.laneFailed n w.lane w.retry).sendIdle n w.lane) s

/-- The lanes of a slot that carry data or stand by, with the stored settings of the Cast rate (R284, R286). -/
def State.storedChoice (s : State) (n : Nat) : List (Nat × Nat) :=
  ((s.slot n).stored.filter fun x => x.1 == s.nat O.linkLaneRate && (s.laneState n x.2.1 == 2 || s.laneState n x.2.1 == 3)).map (·.2)

/-- RETRAIN_REALIGN_DONE: aligned, the slot runs VERIFY with the stored presets, and verify_err is read; without ALIGNED, or with an error on a lane, it is trained again (R286). -/
def cmdRetrainRealignDone (s : State) (n : Nat) (errors : Option Bytes) : State :=
  if (s.slot n).phase ≠ .realigning then s
  else match errors with
    | none => s.startTraining n
    | some v =>
      let s := ((s.storedChoice n).foldl (fun s c => s.sendVerify n c.1 (c.2 / 8)) s).sideRead n 0x49 5
      if (s.storedChoice n).all fun c => fieldN v c.1 1 == 0 then ((s.modSlot n fun x => { x with phase := .none }).showSettings n).sendSync n
      else s.startTraining n

/-! ## Spares, retries, telemetry (R287, R288, R290, R291) -/

namespace State

/-- The lines two lines ahead of the one in progress (R287). -/
def spareLine (s : State) : Nat := if s.nat O.headVTotal ≤ s.lineNow + 2 then 0 else s.lineNow + 2

/-- One failing lane of a slot: the spare takes its logical lane, or the slot goes black; the lane is swept alone (R287). (DEDUCED, log entry 87.) -/
def laneFails (s : State) (n j : Nat) : State :=
  match (s.slot n).logical.findIdx? (· == some j), s.standby n with
  | some L, some k =>
    let y := s.spareLine
    let s := (s.sendControl n (useSpareBlock L y s.frameLo)).bump O.linkSpareSwitchCount
    let s := (s.setLaneState n k 2).modSlot n fun x => { x with spare := some (L, k, y) }
    s.sweepLane n j false
  | some _, none => (s.modSlot n fun x => { x with fed := false, blankNext := x.blankNext || x.fed }).sweepLane n j false
  | none, _ => s.sweepLane n j false

/-- The lanes of a slot that fail under a partner's status: a failing STANDBY lane first, so that no other takes it, then the lower logical lane. (DEDUCED, log entry 87.) -/
def failingLanes (s : State) (n : Nat) (p : PartnerStat) : List Nat :=
  let bad : Nat → Bool := fun j => (!bitOf p.laneLock j || bitOf p.overLanes j) && (s.laneState n j == 2 || s.laneState n j == 3)
  let inOrder := (s.slot n).logical.filterMap id
  ((List.range 5).filter fun j => bad j && !inOrder.contains j) ++ inOrder.filter bad

/-- The LX9 acts on one partner's status (R287). (DEDUCED, log entry 87.) -/
def attention (s : State) (n : Nat) (p : PartnerStat) : State :=
  if s.slotState n ≠ 4 ∧ s.slotState n ≠ 5 then s
  else if !p.answered then (s.sideRead n 0x47 2).sidebandFailed n
  else
    let s := (s.sideRead n 0x47 2).sidebandOk n
    let s := if bitOf p.pstat 3 then (s.failingLanes n p).foldl (fun s j => s.laneFails n j) s else s
    s.sideWrite n 0x40 (leBytes 1 (if (s.slot n).jobs.isEmpty then 5 else 7))

/-- A telemetry reading whose CRC is right (R144, R254, R290, R291). -/
def takeTelemetry (s : State) (n : Nat) (b : Bytes) : State :=
  let old := fieldN (s.oct (O.partnerTelemetry n)) 2 2
  let flags := fieldN b 2 2
  let cnt := fieldN b 4 4
  let x := s.slot n
  let s := (s.sidebandOk n).putO (O.partnerTelemetry n) b
  let inc := cnt - x.crcSeen
  let s := (s.modSlot n fun x => { x with temp := if bitOf flags 0 then some (fieldI b 0 2) else none, tempAt := s.clk.now, crcSeen := cnt }).bumpBy O.partnerCrcCount inc
  let rises := (bitOf flags 1 && !bitOf old 1) || (bitOf flags 2 && !bitOf old 2)
  let s := if rises then s.linkFault 15 n 0 0x0D0E [n, flags] else s
  let due : Bool := match x.crcLoggedAt with | none => true | some t => decide (t + 1000000000 ≤ s.clk.now)
  let s := if x.crcBase < cnt && due then
      ((s.put O.pdpLastStatus 0x0C06).raise 15 n 0 0x0C06 [n, cnt - x.crcBase]).modSlot n fun x => { x with crcBase := cnt, crcLoggedAt := some s.clk.now }
    else s
  s.updateTMeas

end State

/-- PARTNER_ATTENTION: the LX9 reads both partners of a pair and acts on each (R287). -/
def cmdPartnerAttention (s : State) (pair : Nat) (even odd : PartnerStat) : State :=
  (s.attention (2 * pair) even).attention (2 * pair + 1) odd

/-- LANE_RETRY: a FAILED lane is swept again, at least 60 s after its last sweep and at most 1,440 times a TAI day (R288). -/
def cmdLaneRetry (s : State) (n j : Nat) : State :=
  if s.laneState n j ≠ 4 ∨ (s.slotState n ≠ 4 ∧ s.slotState n ≠ 5) then s
  else
    let last := (s.slot n).sweeps.find? (·.1 == j)
    let s := match last with | some y => s.elapseTo (y.2.1 + 60000000000) | none => s
    if last.any fun y => y.2.2.1 == s.ns / 86400000000000 && 1440 ≤ y.2.2.2 then s
    else (s.bump O.linkRetryCount).sweepLane n j true

/-- TELEMETRY_READ: the reading is used, or the failed transaction counted; a read whose tele_crc is bad is repeated once, and the next TELEMETRY_READ is that repeat (R290, R291). -/
def cmdTelemetryRead (s : State) (n : Nat) (answer : Option Bytes) : State :=
  if s.slotState n < 3 ∨ 5 < s.slotState n then s
  else
    let again := (s.slot n).teleAgain
    let s := (if again then s else s.sideRead n 0x60 32).modSlot n fun x => { x with teleAgain := false }
    match answer with
    | none => s.sidebandFailed n
    | some b =>
      if b.length = 32 ∧ crc32c (b.take 28) = fieldN b 28 4 then s.takeTelemetry n b
      else if again then s
      else (s.sideRead n 0x60 32).modSlot n fun x => { x with teleAgain := true }

/-- PRESENCE_FALL (R285). -/
def execPresenceFall (n : Fin 32) (s : State) : Host.Outcome State Fault Refusal := .next (s.ifLive fun s => cmdPresenceFall s n)

/-- PRESENCE_RISE (R285). -/
def execPresenceRise (n : Fin 32) (s : State) : Host.Outcome State Fault Refusal := .next (s.ifLive fun s => cmdPresenceRise s n)

/-- PRESENCE_CONFIRMED (R285). -/
def execPresenceConfirmed (n : Fin 32) (s : State) : Host.Outcome State Fault Refusal := .next (s.ifLive fun s => cmdPresenceConfirmed s n)

/-- PARTNER_REMOVED (R289). -/
def execPartnerRemoved (n : Fin 32) (s : State) : Host.Outcome State Fault Refusal := .next (s.ifLive fun s => cmdPartnerRemoved s n)

/-- DESCRIPTOR_READ (R280). -/
def execDescriptorRead (n : Fin 32) (answer : Option Bytes) (s : State) : Host.Outcome State Fault Refusal :=
  .next (s.ifLive fun s => cmdDescriptorRead s n answer)

/-- RX_READY_ALIGNED (R285). -/
def execRxReadyAligned (n : Fin 32) (s : State) : Host.Outcome State Fault Refusal := .next (s.ifLive fun s => cmdRxReadyAligned s n)

/-- TRAIN_TIMEOUT (R285). -/
def execTrainTimeout (n : Fin 32) (s : State) : Host.Outcome State Fault Refusal := .next (s.ifLive fun s => cmdTrainTimeout s n)

/-- DISCOVERY_RETRY (R285). -/
def execDiscoveryRetry (n : Fin 32) (s : State) : Host.Outcome State Fault Refusal := .next (s.ifLive fun s => cmdDiscoveryRetry s n)

/-- SWEEP_DONE (R284). -/
def execSweepDone (n : Fin 32) (bytes : Bytes) (s : State) : Host.Outcome State Fault Refusal := .next (s.ifLive fun s => cmdSweepDone s n bytes)

/-- VERIFY_DONE (R284). -/
def execVerifyDone (n : Fin 32) (errors : Bytes) (s : State) : Host.Outcome State Fault Refusal := .next (s.ifLive fun s => cmdVerifyDone s n errors)

/-- RETRAIN_REALIGN_DONE (R286). -/
def execRetrainRealignDone (n : Fin 32) (errors : Option Bytes) (s : State) : Host.Outcome State Fault Refusal :=
  .next (s.ifLive fun s => cmdRetrainRealignDone s n errors)

/-- PARTNER_ATTENTION (R287). -/
def execPartnerAttention (pair : Fin 16) (even odd : PartnerStat) (s : State) : Host.Outcome State Fault Refusal :=
  .next (s.ifLive fun s => cmdPartnerAttention s pair even odd)

/-- LANE_RETRY (R288). -/
def execLaneRetry (n : Fin 32) (j : Fin 5) (s : State) : Host.Outcome State Fault Refusal := .next (s.ifLive fun s => cmdLaneRetry s n j)

/-- TELEMETRY_READ (R291). -/
def execTelemetryRead (n : Fin 32) (answer : Option Bytes) (s : State) : Host.Outcome State Fault Refusal :=
  .next (s.ifLive fun s => cmdTelemetryRead s n answer)

end Sys2Proof.Machine
end

