-- ==== Sys2Proof/Machine/Rasp.lean ====
section
/-! DEFINITION. The Rasp: its ring, its commands, PUBLISH and catch-up, and the overlay function (R294 to R310). -/

namespace Sys2Proof.Machine

/-! ## Commands (R299) -/

/-- The base of the command ring (R294). -/
def ringBase : Nat := 0x98000000

/-- The base of the bounce area (R294). -/
def bounceBase : Nat := 0x90000000

/-- The pitch of a plane buffer (R294). -/
def planePitch : Nat := 30720

/-- A rectangle of pixels on a surface. -/
structure SurfRect where
  base : Nat
  pitch : Nat
  x : Nat
  y : Nat
  w : Nat
  h : Nat
  draft : Bool
  deriving DecidableEq, Repr

/-- The address of a pixel of the surface, in the rectangle's own coordinates. -/
def SurfRect.addr (r : SurfRect) (i j : Nat) : Nat := r.base + r.pitch * (r.y + j) + 4 * (r.x + i)

/-- The reserved areas of the Rasp partition: plane buffers, bounce area and ring (R294, R299). -/
def raspReserved : List (Nat × Nat) :=
  [(0x80000000, 0x87E90000), (0x88000000, 0x8FE90000), (0x90000000, 0x98000000), (0x98000000, 0x98100000)]

/-- Whether a byte range lies in the Rasp partition outside the reserved areas, or in host scratch (R299, R204). -/
def surfaceRange (scratch top lo hi : Nat) : Option Nat :=
  if 0x80000000 ≤ lo ∧ hi ≤ 0xC0000000 then
    if raspReserved.any fun a => lo < a.2 && a.1 < hi then none else some 0
  else if scratch ≤ lo ∧ hi ≤ top then some 1 else none

/-- Destination offset of a source pixel under an orientation (R302). -/
def orientAt (orient w h x y : Nat) : Nat × Nat :=
  let x := if bitOf orient 0 then w - 1 - x else x
  match orient / 2 % 4 with
  | 0 => (x, y)
  | 1 => (h - 1 - y, x)
  | 2 => (w - 1 - x, h - 1 - y)
  | _ => (y, w - 1 - x)

/-- Destination size under an orientation (R302). -/
def orientSize (orient w h : Nat) : Nat × Nat := if bitOf orient 1 then (h, w) else (w, h)

/-- One result bit of a ROP3 code (R301). -/
def ropBit (rop p s d : Nat) : Nat := bitsOf rop (4 * p + 2 * s + d) 1

/-- The result of a ROP3 on 32-bit values (R301). -/
def ropWord (rop p s d : Nat) : Nat := (List.range 32).foldl (fun acc n => acc + 2 ^ n * ropBit rop (bitsOf p n 1) (bitsOf s n 1) (bitsOf d n 1)) 0

/-- The bytes a chan_mask enables taken from the result, the others from D (R301). -/
def maskBytes (mask r d : Nat) : Bytes :=
  (List.range 4).map fun k => BitVec.ofNat 8 (bitsOf (if bitOf mask k then r else d) (8 * k) 8)

/-- Whether a ROP3 depends on S (R301). -/
def ropUsesS (rop : Nat) : Bool := [0, 1, 4, 5].any fun k => bitOf rop k != bitOf rop (k + 2)

/-- Whether a ROP3 depends on D (R301). -/
def ropUsesD (rop : Nat) : Bool := [0, 2, 4, 6].any fun k => bitOf rop k != bitOf rop (k + 1)

namespace State

/-- Change the Rasp. -/
def modRasp (s : State) (f : Rasp → Rasp) : State := { s with rasp := f s.rasp }

/-- The number of ring entries (R298). -/
def ringEntries (s : State) : Nat := s.nat O.raspRingSize / 64

/-- The 64 bytes of the entry at HEAD (R298). -/
def ringEntry (s : State) : Bytes := s.hbmRead (ringBase + 64 * s.rasp.head) 64

/-- The base of host scratch (R204). -/
def scratchBase (s : State) : Nat := if s.part = .h4 then 0x1574000000 else 0xA74000000

/-- Whether a surface rectangle is valid (R299). -/
def surfaceOk (s : State) (r : SurfRect) : Bool :=
  if r.draft then r.x + r.w ≤ s.nat O.overlayWidth && r.y + r.h ≤ s.nat O.overlayHeight
  else
    r.base % 4 == 0 && r.pitch % 4 == 0 && 4 * r.w ≤ r.pitch &&
    (let rows := (List.range r.h).map fun j => surfaceRange s.scratchBase s.memTop (r.addr 0 j) (r.addr 0 j + 4 * r.w)
     rows.all (· == some 0) || rows.all (· == some 1))

/-- Whether two rectangles share a byte. -/
def surfacesOverlap (a b : SurfRect) : Bool :=
  (List.range a.h).any fun i => (List.range b.h).any fun j =>
    let p := a.addr 0 i
    let q := b.addr 0 j
    p < q + 4 * b.w && q < p + 4 * a.w

/-- The destination rectangle of a command: FILL as given, COPY with the size its orientation gives (R299, R302). -/
def dstRect (s : State) (c : Bytes) : SurfRect :=
  let (w, h) := if fieldN c 0 1 = 2 then orientSize (fieldN c 3 1) (fieldN c 0x18 2) (fieldN c 0x1A 2) else (fieldN c 0x18 2, fieldN c 0x1A 2)
  if bitOf (fieldN c 1 1) 0 then ⟨planeBase s.rasp.draft, planePitch, fieldN c 0x14 2, fieldN c 0x16 2, w, h, true⟩
  else ⟨fieldN c 8 8, fieldN c 0x10 4, fieldN c 0x14 2, fieldN c 0x16 2, w, h, false⟩

/-- The source rectangle of a COPY (R299). -/
def srcRect (s : State) (c : Bytes) : SurfRect :=
  if bitOf (fieldN c 1 1) 1 then ⟨planeBase s.rasp.draft, planePitch, fieldN c 0x2C 2, fieldN c 0x2E 2, fieldN c 0x18 2, fieldN c 0x1A 2, true⟩
  else ⟨fieldN c 0x20 8, fieldN c 0x28 4, fieldN c 0x2C 2, fieldN c 0x2E 2, fieldN c 0x18 2, fieldN c 0x1A 2, false⟩

/-- Why a command's fields refuse it, if they do (R299). (DESIGN CHOICE, log entry 93.) -/
def commandError (s : State) (c : Bytes) : Option Nat :=
  let op := fieldN c 0 1
  let flags := fieldN c 1 1
  let orient := fieldN c 3 1
  let draws := op == 1 || op == 2
  if 4 < op ∨ 16 ≤ flags ∨ (bitOf flags 3 ∧ op ≠ 4) ∨ 8 ≤ orient ∨ (orient ≠ 0 ∧ op ≠ 2) ∨ fieldN c 5 3 ≠ 0 ∨ fieldN c 0x1C 4 ≠ 0 then some 0x0E01
  else if !draws then none
  else if fieldN c 4 1 = 0 ∨ 16 ≤ fieldN c 4 1 ∨ (bitOf flags 2 ∧ fieldN c 0x30 8 % 256 ≠ 0) then some 0x0E01
  else
    let w := fieldN c 0x18 2
    let h := fieldN c 0x1A 2
    if w = 0 ∨ 8192 < w ∨ h = 0 ∨ 8192 < h ∨ !s.surfaceOk (s.dstRect c) ∨ (op = 2 ∧ !s.surfaceOk (s.srcRect c)) then some 0x0E02
    else if op = 2 ∧ ((s.dstRect c).base ≠ (s.srcRect c).base ∨ (s.dstRect c).pitch ≠ (s.srcRect c).pitch) ∧ surfacesOverlap (s.dstRect c) (s.srcRect c) then some 0x0E03
    else none

/-- Whether the Rasp can take the entry at HEAD: it is ON, the ring is not empty and no PUBLISH before it is incomplete (R298, R300, R308). -/
def raspReady (s : State) : Bool :=
  s.nat O.overlayState == 2 && s.islandUp 27 && s.rasp.head != s.rasp.tail && s.rasp.incomplete.isEmpty

/-- HEAD advances as the entry is copied (R298). -/
def takeEntry (s : State) : State := s.modRasp fun r => { r with head := (r.head + 1) % max 1 s.ringEntries }

/-- A command is refused or fails: its code goes to RASP_STATUS (R299, R310). -/
def raspError (s : State) (code : Nat) : State := (s.modRasp fun r => { r with status := code * 65536 + 1 }).put O.raspLastStatus code

/-- A command completes. -/
def raspDone (s : State) : State := s.bump O.raspCmdCount

/-- The Rasp's share of class 6 in bytes per ns (R306). -/
def raspRate (s : State) : Nat := if s.part = .h4 then 32 else 16

/-- Whether a command is in progress: a PUBLISH that is incomplete, or drawing within its bound (R306, R310). (DESIGN CHOICE, log entry 95.) -/
def raspBusy (s : State) : Bool := !s.rasp.incomplete.isEmpty || s.rasp.draws.any fun d => s.clk.now < d.1

/-- RASP_STATUS: LAST_ERROR, IDLE and ERROR (R310). -/
def raspStatus (s : State) : Nat := s.rasp.status + 2 * b2n (s.rasp.head == s.rasp.tail && !s.raspBusy)

/-- Take the next command of an opcode, if it stands at HEAD, is valid and can run; drawing commands also wait for the catch-up (R298, R299, R307). -/
def withCommand (s : State) (op : Nat) (body : State → Bytes → State) : State :=
  let c := s.ringEntry
  if !s.raspReady || fieldN c 0 1 != op || (s.commandError c).isSome then s
  else if (op == 1 || op == 2) && s.rasp.catchup then s
  else body s.takeEntry.memRequest c

/-- The tiles of the draft a rectangle touches are marked as written (R307). -/
def markTiles (s : State) (r : SurfRect) : State :=
  if !r.draft then s
  else
    let ts := (List.range (r.h + 31)).flatMap fun j => (List.range (r.w + 31)).filterMap fun i =>
      if i % 32 = 0 ∧ j % 32 = 0 then some ((r.y + min j (r.h - 1)) / 32 * 240 + (r.x + min i (r.w - 1)) / 32) else none
    s.modRasp fun p => { p with dirty := p.dirty ++ (ts.filter fun t => !p.dirty.contains t).eraseDups }

/-- A 32-bit pixel from memory. -/
def pixelAt (s : State) (a : Nat) : Nat := leNat (s.hbmRead a 4)

/-- The pattern value of a destination pixel (R301). -/
def patternAt (s : State) (c : Bytes) (x y : Nat) : Nat :=
  if bitOf (fieldN c 1 1) 2 then s.pixelAt (fieldN c 0x30 8 + 4 * (y % 8 * 8 + x % 8)) else fieldN c 0x38 4

/-- The addresses that drawing one destination pixel reads: D at `a`, its source, and its pattern pixel (R301). -/
def readsOf (c : Bytes) (a x y : Nat) (src : Option Nat) : List Nat :=
  let rop := fieldN c 2 1
  (if ropUsesD rop || fieldN c 4 1 != 0xF then [a] else []) ++ (if ropUsesS rop then src.toList else []) ++
    (if bitOf (fieldN c 1 1) 2 then [fieldN c 0x30 8 + 4 * (y % 8 * 8 + x % 8)] else [])

/-- The bound of one pass over `h` rows of `w` destination pixels whose source, where it is read, has `sh` rows of `sw` pixels (R306). -/
def passBound (s : State) (readS readD : Bool) (sw sh w h : Nat) : Nat :=
  let row : Nat → Nat := fun k => ceilDiv (4 * k) 32 + 1
  let sec := (if readS then sh * row sw else 0) + (if readD then h * row w else 0) + h * row w
  500 + max (ceilDiv (w * h * 5) 48) (ceilDiv (32 * sec) s.raspRate) + h * 20

/-- t_cmd of a drawing command in ns; one through the bounce area counts as two copies (R306). -/
def drawBound (s : State) (c : Bytes) (bounce : Bool) : Nat :=
  let d := s.dstRect c
  let r := s.srcRect c
  let rop := fieldN c 2 1
  (if bounce then s.passBound true false r.w r.h r.w r.h else 0) +
    s.passBound (fieldN c 0 1 == 2 && ropUsesS rop) (ropUsesD rop || fieldN c 4 1 != 0xF) r.w r.h d.w d.h

/-- A drawing command starts: it completes by its bound after the commands ahead of it (R300, R306, R308). (DESIGN CHOICE, log entry 95.) -/
def startDraw (s : State) (bound : Nat) : State :=
  s.modRasp fun r =>
    let open_ := r.draws.filter fun d => s.clk.now < d.1
    { r with draws := open_ ++ [(maxN (s.clk.now :: open_.map (·.1)) + bound, bound)] }

/-- Draw: every destination pixel gets the ROP of pattern, source and destination as they stood before the command, each pixel written once; pixels that need a sector of `ue` are written as 0 (R300, R301, R303, R305). `src` gives the address of the source pixel of a destination offset; FILL has none and takes its colour. -/
def draw (s : State) (c : Bytes) (ue ce : List Nat) (src : Nat → Nat → Option Nat) : State :=
  let d := s.dstRect c
  let rop := fieldN c 2 1
  let mask := fieldN c 4 1
  let px := (List.range d.h).flatMap fun j => (List.range d.w).map fun i =>
    let a := d.addr i j
    let old := s.pixelAt a
    let bad := ue.filter fun u => (readsOf c a (d.x + i) (d.y + j) (src i j)).any fun q => q / 32 == u / 32
    let from_ := match src i j with
      | some q => s.pixelAt q
      | none => fieldN c 0x38 4
    (a, (if bad.isEmpty then maskBytes mask (ropWord rop (s.patternAt c (d.x + i) (d.y + j)) from_ old) old else zeros 4), bad)
  let t := px.foldl (fun t p => t.hbmWrite p.1 p.2.1) s
  let bad := ue.filter fun u => px.any fun p => p.2.2.contains u
  let t := (t.eccAll .rasp bad).eccCorrected ce
  let t := if bad.isEmpty then t else ((t.raspError 0x0E06).post 0x0E06)
  (t.markTiles d).raspDone

/-- The source offset that lands on a destination offset (R302). -/
def sourceOf (orient w h i j : Nat) : Nat × Nat :=
  let (x, y) := match orient / 2 % 4 with
    | 0 => (i, j)
    | 1 => (j, h - 1 - i)
    | 2 => (w - 1 - i, h - 1 - j)
    | _ => (w - 1 - j, i)
  (if bitOf orient 0 then w - 1 - x else x, y)

/-- Whether a COPY goes through the bounce area (R303). (DESIGN CHOICE, log entry 94.) -/
def needsBounce (s : State) (c : Bytes) : Bool :=
  let d := s.dstRect c
  let r := s.srcRect c
  fieldN c 3 1 != 0 && d.base == r.base && d.pitch == r.pitch && surfacesOverlap d r

/-- The source rectangle copied into the bounce area, from memory as it stood before the command (R303). (DESIGN CHOICE, log entry 94.) -/
def fillBounce (s : State) (before : List Host.Cell) (r : SurfRect) : State :=
  let rows := (List.range r.h).map fun j => (j, (List.range (4 * r.w)).map fun k => memGet before (r.addr 0 j + k))
  rows.foldl (fun t x => t.hbmWrite (bounceBase + 4 * r.w * x.1) x.2) s

/-! ## PUBLISH (R295, R307, R308) -/

/-- The frames in the render pipeline that are or will be bound to the draft (R307, R308). (DESIGN CHOICE, log entry 95.) -/
def draftFrames (s : State) : List Frame := s.pipeline.filter fun f => f.overlayBuf.getD (s.shownFor f.epoch) == s.rasp.draft

/-- The first term of W: the bounds of R306 for the commands ahead that have not completed (R308). -/
def drawDelay (s : State) : Nat := sumN ((s.rasp.draws.filter fun d => s.clk.now < d.1).map (·.2))

/-- The second term of W: the catch-up of the PUBLISH before, while it has not completed (R308). -/
def catchupDelay (s : State) : Nat :=
  if !s.rasp.catchup then 0
  else
    let free := maxN (s.draftFrames.map fun f => epochAt f.tf f.epoch - 500000)
    (free - s.ns) + 500 + ceilDiv (s.rasp.copying.length * 8192) s.raspRate

/-- W of R308. -/
def publishDelay (s : State) : Nat := s.drawDelay + s.catchupDelay

/-- The least epoch the first condition of R308 allows. -/
def publishFloor (s : State) : Nat :=
  max ((s.rasp.lastPublish.map (· + 1)).getD 0) ((s.rasp.startedFrame.map (· + 1)).getD 0)

/-- A PUBLISH completes: the draft is shown from the epoch on, and its catch-up is due (R295, R307). -/
def completePublish (s : State) (k : Nat) : State :=
  s.modRasp fun r => { r with
    published := (k, r.draft) :: r.published, draft := 1 - r.draft, copying := r.dirty, dirty := [], catchup := true }

/-- The waiting frames from an epoch on are not resident until their PUBLISH completes (R123, R295). -/
def withdrawResident (s : State) (k : Nat) : State :=
  let m : Frame → Frame := fun f => if k ≤ f.epoch then { f with residentAt := none } else f
  s.modAdm fun a => { a with waiting := a.waiting.map m }

/-- A PUBLISH is accepted for an epoch; it completes, and counts as a command completed, once the catch-up before it has (R295, R307, R308, R311). (DESIGN CHOICE, log entry 95.) -/
def acceptPublish (s : State) (k : Nat) : State :=
  let s := (s.modRasp fun r => { r with lastPublish := some k }).put O.raspPublishedEpoch k
  if s.rasp.catchup then (s.modRasp fun r => { r with incomplete := [k] }).withdrawResident k else (s.completePublish k).raspDone

end State

/-- NOP: taken and complete (R299). -/
def cmdNop (s : State) : State := s.withCommand 0 fun s _ => s.raspDone

/-- FILL (R301). -/
def cmdFill (s : State) (ue ce : List Nat) : State :=
  s.withCommand 1 fun s c => (s.startDraw (s.drawBound c false)).draw c ue ce fun _ _ => none

/-- COPY, by way of the bounce area where a rotated or mirrored source overlaps its destination (R302, R303). -/
def cmdCopy (s : State) (ue ce : List Nat) : State :=
  s.withCommand 2 fun s c =>
    let r := s.srcRect c
    let bounce := s.needsBounce c
    let t := ((s.startDraw (s.drawBound c bounce)).draw c ue ce fun i j =>
      let (x, y) := State.sourceOf (fieldN c 3 1) r.w r.h i j
      some (r.addr x y))
    if bounce then t.fillBounce s.hbm r else t

/-- PUBLISH: accepted for its epoch, or refused as out of order or late (R308). (DESIGN CHOICE, log entry 95.) -/
def cmdPublish (s : State) : State :=
  s.withCommand 3 fun s c =>
    let k := fieldN c 0x20 8
    let w := s.publishDelay
    if k = 0 then
      let k := max s.publishFloor (firstMeeting s.tf (s.ns + w) 3 (State.epochOf s.tf (s.ns + w + 2000000) + 1))
      (s.acceptPublish k).markResident
    else if k < s.publishFloor then (s.raspError 0x0E05).bump O.raspRefusedCount
    else if deadlineAt s.tf k < ((s.ns + w : Nat) : Int) then (s.raspError 0x0E04).bump O.raspRefusedCount
    else (s.acceptPublish k).markResident

/-- FENCE: every earlier command is complete, and its value is written (R304). -/
def cmdFence (s : State) : State :=
  s.withCommand 4 fun s c =>
    let s := (s.modRasp fun r => { r with fence := fieldN c 0x3C 4, draws := [] }).raspDone
    if bitOf (fieldN c 1 1) 3 then s.irq 3 else s

/-- RASP_COMMAND_REFUSED: an invalid entry, or one whose read met an uncorrectable error (R299, R305). (DESIGN CHOICE, log entry 93.) -/
def cmdRaspCommandRefused (s : State) (ecc : Bool) : State :=
  if !s.raspReady then s
  else if ecc then (((((s.takeEntry.memRequest).eccUncorrectable (ringBase + 64 * s.rasp.head) .rasp).raspError 0x0E06).post 0x0E06).bump O.raspRefusedCount).raspDone
  else match s.commandError s.ringEntry with
    | none => s
    | some code => ((s.takeEntry.memRequest).raspError code).bump O.raspRefusedCount

/-- PUBLISH_CATCHUP: once no frame in the pipeline is bound to the new draft, it takes the tiles written since the PUBLISH before (R307). -/
def cmdPublishCatchup (s : State) : State :=
  if s.nat O.overlayState ≠ 2 || !s.rasp.catchup || !s.draftFrames.isEmpty || !s.islandUp 27 then s
  else
    let d := s.rasp.draft
    let rows := s.rasp.copying.flatMap fun t => (List.range 32).map fun j => planePitch * (t / 240 * 32 + j) + 4 * (t % 240 * 32)
    let bits := rows.map fun o => (o, s.hbmRead (State.planeBase (1 - d) + o) 128)
    let s := bits.foldl (fun s b => s.hbmWrite (State.planeBase d + b.1) b.2) s
    let s := s.modRasp fun r => { r with catchup := false, dirty := r.dirty ++ r.copying, copying := [] }
    match s.rasp.incomplete with
    | [] => s
    | k :: _ => (((s.modRasp fun r => { r with incomplete := [] }).completePublish k).raspDone).markResident

/-- RASP_RING_TAIL: entries are handed to the Rasp; a TAIL out of range is ignored and logged (R298). -/
def cmdRaspRingTail (s : State) (v : Nat) : State :=
  let t := v % 16384
  if s.ringEntries ≤ t then s.note O.raspLastStatus 0x0E01 [t] else s.modRasp fun r => { r with tail := t }

/-- Memory with every byte of a range zeroed. (DEDUCED, log entry 15.) -/
def memClear (m : List Host.Cell) (lo hi : Nat) : List Host.Cell := m.filter fun c => c.1 < lo || hi ≤ c.1

/-- OVERLAY_START_DONE: both plane buffers zero, the ring emptied, ON (R309). -/
def cmdOverlayStartDone (s : State) : State :=
  if s.nat O.overlayState ≠ 1 ∨ !s.islandUp 27 then s
  else
    let s : State := { s with hbm := memClear (memClear s.hbm 0x80000000 0x87E90000) 0x88000000 0x8FE90000 }
    (s.modRasp fun r => { r with head := r.tail, draft := 0, published := [], dirty := [], copying := [], catchup := false, incomplete := [], draws := [] }).put O.overlayState 2

/-- Entering STARTING, every frame bound before stages no overlay, and buffer 1 is shown until the first PUBLISH (R295, R297). -/
def State.overlayStarting (s : State) : State :=
  let u : Frame → Frame := fun f => { f with overlayBuf := none }
  let s := s.modRasp fun r => { r with published := [] }
  s.modAdm fun a => { a with waiting := a.waiting.map u, pending := a.pending.map u, rendering := a.rendering.map u }

/-- Entering STOPPING, the Rasp stops reading the ring; an incomplete PUBLISH is abandoned, and the frames that wait for it are resident at once (R309). -/
def State.overlayStopping (s : State) : State :=
  ((s.modRasp fun r => { r with incomplete := [] }).markResident).put O.overlayState 3

/-- OVERLAY_STOP_DONE: the ring is emptied, an incomplete PUBLISH abandoned, and OFF, or STARTING where an enable is held (R45, R309). -/
def cmdOverlayStopDone (s : State) : State :=
  if s.nat O.overlayState ≠ 3 then s
  else
    let s := (s.modRasp fun r => { r with head := r.tail, incomplete := [], catchup := false, copying := [], draws := [] }).markResident
    let again := s.held.contains Fn.overlay
    let s := { s.put O.overlayState (fnStopEnd again) with held := s.held.filter fun f => f != Fn.overlay }
    if again then (s.overlayStarting) else s.gateIsl 27

/-- NOP (R299). -/
def execNop (s : State) : Host.Outcome State Fault Refusal := .next (s.ifLive cmdNop)

/-- FILL (R301). -/
def execFill (ue : List Nat) (s : State) (ce : List Nat := []) : Host.Outcome State Fault Refusal := .next (s.ifLive fun s => cmdFill s ue ce)

/-- COPY (R303). -/
def execCopy (ue : List Nat) (s : State) (ce : List Nat := []) : Host.Outcome State Fault Refusal := .next (s.ifLive fun s => cmdCopy s ue ce)

/-- PUBLISH (R308). -/
def execPublish (s : State) : Host.Outcome State Fault Refusal := .next (s.ifLive cmdPublish)

/-- FENCE (R304). -/
def execFence (s : State) : Host.Outcome State Fault Refusal := .next (s.ifLive cmdFence)

/-- RASP_COMMAND_REFUSED (R299). -/
def execRaspCommandRefused (ecc : Bool) (s : State) : Host.Outcome State Fault Refusal := .next (s.ifLive fun s => cmdRaspCommandRefused s ecc)

/-- PUBLISH_CATCHUP (R307). -/
def execPublishCatchup (s : State) : Host.Outcome State Fault Refusal := .next (s.ifLive cmdPublishCatchup)

/-- RASP_RING_TAIL (R298). -/
def execRaspRingTail (v : W32) (s : State) : Host.Outcome State Fault Refusal := .next (s.ifLive fun s => cmdRaspRingTail s v.toNat)

/-- OVERLAY_START_DONE (R309). -/
def execOverlayStartDone (s : State) : Host.Outcome State Fault Refusal := .next (s.ifLive cmdOverlayStartDone)

/-- OVERLAY_STOP_DONE (R309). -/
def execOverlayStopDone (s : State) : Host.Outcome State Fault Refusal := .next (s.ifLive cmdOverlayStopDone)

end Sys2Proof.Machine
end

