-- ==== Sys2Proof/Machine/Heads.lean ====
section
/-! DEFINITION. The heads as other subsystems act on them: aborting, blanking, stopping, and what happens to frames a stop cuts off (R199, R236, R240, R259, R322). -/

namespace Sys2Proof.Machine

namespace State

/-- The committed frame whose epoch has come, and its buffer. (DESIGN CHOICE, log entry 54.) -/
def dueFrame (s : State) : Option (Nat × Frame) :=
  match s.bufIn .committed with
  | none => none
  | some b => match (s.scan.bufs.getD b {}).frame with
    | none => none
    | some f => if f.epoch ≤ s.clk.epoch then some (b, f) else none

/-- frame_lo of the frame that this epoch presents, which a BLANK in place of line 0 replaces: the due one where its pair is active, else the one in the SCAN role again (R271). -/
def frameLoNext (s : State) : Nat :=
  match s.dueFrame with
  | some (b, f) => if s.scan.active.a = bufBase b then f.number % 65536 else s.frameLo
  | none => s.frameLo

/-- Set a head's state. -/
def setHead (s : State) (h v : Nat) : State := s.put (if h = 0 then O.headAState else O.headBState) (v : Nat)

/-- A head's enable. -/
def headEnabled (s : State) (h : Nat) : Bool := s.flag (if h = 0 then O.headAEnable else O.headBEnable)

/-- The slots of a head's Cast mask (R235). (DESIGN CHOICE, log entry 57.) -/
def maskedSlots (s : State) (h : Nat) : List Nat := ((List.range 16).filter fun k => bitOf (s.slotMask false h) k).map fun k => 16 * h + k

/-- The slots of a mask whose lanes are trained: TRAINED or DEGRADED (R281). -/
def readySlots (s : State) (h : Nat) : List Nat := (s.maskedSlots h).filter fun n => s.slotState n == 4 || s.slotState n == 5

/-- Whether a head sends on its lanes: ON or STOPPING, and used by the panel (R240). -/
def headSends (s : State) (h : Nat) : Bool := (s.headState h == 2 || s.headState h == 3) && h < s.nat O.headCount

/-- Whether the timing generator runs (R240). -/
def genRuns (s : State) : Bool := (List.range 2).any fun h => s.headState h == 1 || s.headState h == 2 || s.headState h == 3

/-- Whether either head is ON. -/
def anyOn (s : State) : Bool := s.headState 0 == 2 || s.headState 1 == 2

/-- Power several islands up. -/
def powerAll (s : State) (l : List Nat) : State := l.foldl powerIsl s

/-- Gate several islands. -/
def gateAll (s : State) (l : List Nat) : State := l.foldl gateIsl s

/-- A head enters STARTING: its islands are powered and its partners trained (R25, R240). -/
def headStarting (s : State) (h : Nat) : State :=
  ((s.setHead h 1).powerAll ([22 + h, 25 + h, 17, 24] ++ (s.rseIslands false).map (9 + ·))).startSlots h

/-- A head's STOPPING ends: its lanes are idle, its islands gated, with both heads OFF and no frame under way those of RSE too, and it is OFF, or STARTING where its slot holds an enable (R25, R45, R240). (DEDUCED, log entry 51.) -/
def headStopped (s : State) (h : Nat) : State :=
  let f := if h = 0 then Fn.headA else Fn.headB
  let again := s.held.contains f
  let s : State := { s.stopSlots h with held := s.held.filter fun g => g != f }
  if again then s.headStarting h
  else
    let s := (s.setHead h 0).gateAll [22 + h, 25 + h]
    if s.headState (1 - h) ≠ 0 then s
    else
      let s := s.gateAll [17, 24]
      if s.pipeline.isEmpty && (s.bufIn .render).isNone then s.gateAll ((List.range 8).map (9 + ·)) else s

/-- Send a control block to every ready partner of a head's mask, whose lanes then carry the idle pattern. -/
def sendToMask (s : State) (h : Nat) (b : State → Block) : State :=
  (s.readySlots h).foldl (fun s n => (s.sendControl n (b s)).idleLanes n) s

/-- Both heads send ABORT, with the line in progress, to every partner of both slot masks (R236, R271). -/
def sendAbort (s : State) (line : Nat) : State :=
  (List.range 2).foldl (fun s h => if s.headSends h then s.sendToMask h fun s => abortBlock line s.frameLo else s) s

/-- Both heads send BLANK to every partner of both slot masks (R238, R494). -/
def sendBlank (s : State) : State :=
  (List.range 2).foldl (fun s h => if s.headSends h then s.sendToMask h fun s => blankBlock s.frameLo else s) s

/-- The frame whose first scan is under way. -/
def scannedFrame (s : State) : Option Frame :=
  match s.bufIn .scan with
  | none => none
  | some b => (s.scan.bufs.getD b {}).frame

/-- The first scan of a frame is cut off: its PRESENTED entry carries the code (R199, R322). (DEDUCED, log entry 56.) -/
def cutFirstScan (s : State) (code : Nat) (broken : Bool := true) : State :=
  if !s.scan.firstScan then s
  else
    let s' := s.modScan fun x => { x with firstScan := false, spoilt := none }
    match s.scannedFrame with
    | none => s'
    | some f =>
      if f.number = 0 then s'
      else
        let s' := s'.presentedEntry f code s.scan.lineZeroAt
        if broken then s'.promiseBroken f code else s'

/-- The DIRECT entry of a host frame whose first scan ends (R322, R333). (DEDUCED, log entry 56.) -/
def cutDirect (s : State) (code : Nat) : State :=
  match s.scan.directTag with
  | none => s
  | some d => (s.modScan fun x => { x with directTag := none }).complete
      { kind := .direct, status := code, tag := d.tag, epoch := d.epoch, eventTime := s.scan.lineZeroAt, irq := d.irq }

/-- Every frame admitted and not yet presented is discarded with a code: pending, rendering, committed, and the one in its first scan (R259, R332). `broken` counts a covered one under R199. -/
def discardAdmitted (s : State) (code : Nat) (broken : Bool) : State :=
  let fs := (s.scan.bufs.filter fun b => b.role == .committed || (b.role == .render && s.rse.pattern)).filterMap (·.frame)
  let fs := (fs ++ s.adm.rendering.toList ++ s.adm.pending.toList).filter fun f => f.number != 0
  let fs := fs.foldl (fun acc f => if acc.any fun g => g.number == f.number then acc else acc ++ [f]) []
  let s := fs.foldl (fun s f =>
    let s := (s.presentedEntry f code s.ns).noteDiscard f
    if broken then s.promiseBroken f code else s) s
  let clear : Buf → Buf := fun b => if b.role = .committed ∨ b.role = .render then {} else b
  let s := s.modScan fun x => { x with bufs := x.bufs.map clear, pend := if s.hif.direct then x.pend else none }
  let s := s.clearRse
  let ns := (s.adm.rendering.toList ++ s.adm.pending.toList).map (·.number)
  let s := s.modAdm fun a => { a with pending := none, rendering := none }
  ns.foldl (fun s n => s.releaseFrame n) s

/-- Both heads abort in the given line, discard what the FIFOs hold, and hold the lanes idle until the given epoch (R231, R236). -/
def idleHeads (s : State) (line until_ : Nat) : State := (s.sendAbort line).modScan fun x => { x with idleUntil := some until_, fifo := [] }

/-- No raster runs any more, and what it held is gone (R236, R240). -/
def haltScan (s : State) : State :=
  s.modScan fun x => { x with running := false, idleUntil := none, resync := none, startAt := [], firstScan := false, line := 0, fifo := [] }

/-- Both heads leave the lanes at once, as at the end of STOPPING: their enables stay set, and panelOn starts them again (R45, R257 to R260). (DESIGN CHOICE, log entry 53.) -/
def dropHeads (s : State) : State :=
  ((List.range 2).foldl (fun s h => if s.headState h = 0 then s else s.headStopped h) s).haltScan

/-- A SCAN fault: counted and reported (R236, R228, R493). -/
def scanFault (s : State) (code : Nat) (param : List Nat) : State := (s.put O.scanLastStatus code).raise 6 0 0 code param

/-- Log a SCAN code. -/
def scanNote (s : State) (code : Nat) (param : List Nat := []) : State := s.note O.scanLastStatus code param

end State

end Sys2Proof.Machine
end

