-- ==== Sys2Proof/Machine/Memory.lean ====
section
/-! DEFINITION. MEM: refresh, tolerance and sleep, patrol scrub, and the BAR4 aperture (R205, R212, R217, R218, R329). -/

namespace Sys2Proof.Machine

/-- The populated stacks (R3, R202). -/
def State.stackCount (s : State) : Nat := if s.part = .h4 then 4 else 2

namespace State

/-- A stack. -/
def stack (s : State) (i : Nat) : Stack := s.mem.hbmStacks.getD i {}

/-- Change a stack. -/
def modStack (s : State) (i : Nat) (f : Stack → Stack) : State := { s with mem := { s.mem with hbmStacks := modAt s.mem.hbmStacks i f } }

/-- Log a MEM code. -/
def memNote (s : State) (code : Nat) (param : List Nat := []) : State := s.note O.memLastStatus code param

/-- Whether refresh runs: from the end of training on (R219). -/
def refreshing (s : State) : Bool := s.mem.filling || s.nat O.memState == 1

end State

/-! ## Refresh, tolerance, sleep, scrub -/

/-- One stack at a refresh instant: a change of its rate takes effect, and it refreshes where it is due (R39, R212, R215). -/
def refreshStack (s : State) (i : Nat) : State :=
  let k := s.stack i
  let s := if k.hot = k.want then s
    else (s.modStack i fun x => { x with hot := x.want }).memNote 0x0A04 [i, if k.want then 1950 else 3900]
  let k := s.stack i
  if k.selfRefresh || !(k.hot || s.mem.grid % 2 == 0) then s
  else s.modStack i fun x => { x with refreshes := x.refreshes + 1, busyUntil := s.clk.now + 410 }

/-- REFRESH_INSTANT: the next instant of the 1.95 µs grid (R212). (DESIGN CHOICE, log entry 7.) -/
def cmdRefreshInstant (s : State) : State :=
  if !s.refreshing then s
  else
    let s := s.elapseTo ((s.clk.now / 1950 + 1) * 1950)
    let s : State := { s with mem := { s.mem with grid := s.mem.grid + 1 } }
    let s := (List.range s.stackCount).foldl refreshStack s
    s.put O.memHotRefreshMask (maskOf ((List.range s.stackCount).map fun i => (s.stack i).hot))

/-- One head's tolerance in ns from the bytes in its FIFO (R218). -/
def toleranceOf (s : State) (h fifo : Nat) : Nat :=
  if s.headState h ≠ 2 then 0xFFFFFFFF
  else min 0xFFFFFFFE ((fifo - 2 * s.lineBytes false) * 1000000000 / (12 * s.nat O.bitsPerSubpixel * s.groupClock false))

/-- TOLERANCE_REPORT: the smaller tolerance decides whether pseudo-channels may power down (R218). -/
def cmdToleranceReport (s : State) (fifoA fifoB : Nat) : State :=
  let t := (toleranceOf s 0 fifoA, toleranceOf s 1 fifoB)
  let m := min t.1 t.2
  let s : State := { s with mem := { s.mem with tol := t, powerDown := decide (1000 ≤ m) } }
  let s := if m = 0xFFFFFFFF then s else { s with mem := { s.mem with hbmStacks := s.mem.hbmStacks.map fun x => { x with selfRefresh := x.selfRefresh && s.pwr.shed } } }
  s.put O.memMinTolerance (min (s.nat O.memMinTolerance) m : Nat)

/-- SELF_REFRESH_ENTRY: neither head is ON and no request of classes 2 to 7 was seen for 1 ms (R218). -/
def cmdSelfRefreshEntry (s : State) (i : Nat) : State :=
  if s.nat O.memState ≠ 1 || s.stackCount ≤ i || s.headState 0 == 2 || s.headState 1 == 2 || s.mem.tol != (0xFFFFFFFF, 0xFFFFFFFF) then s
  else (s.elapseTo (s.mem.lastReq + 1000000)).modStack i fun x => { x with selfRefresh := true }

/-- Whether the patrol scrub reads a partition: management, calibration, audio, Rasp and host scratch (R217). -/
def scrubbed (p : Nat) : Bool := p == 0 || p == 1 || p == 3 || p == 5 || p == 10

/-- SCRUB_PASS: a pass ends; `ue` are the uncorrectable sectors it found, which stay as they are, and `ce` those it corrected and wrote back (R217). (DESIGN CHOICE, log entry 18.) -/
def cmdScrubPass (s : State) (ue ce : List Nat) : State :=
  if s.nat O.memState ≠ 1 then s
  else
    let reads : Nat → Bool := fun a => a < s.memTop && scrubbed (s.partitionOf a)
    let s := (s.eccAll .aperture (ue.filter reads)).eccCorrected (ce.filter reads)
    (s.bump O.memScrubPasses).memRequest

/-! ## The aperture (R205, R329) -/

/-- The 64 bytes of a directory entry or version record (R117). (DESIGN CHOICE, log entry 17.) -/
def entryBytes (v : Version) (prev : Option Nat) (release : Nat) : Bytes :=
  leBytes 4 (v.slot.getD 0xFFFFFFFF) ++ leBytes 4 v.lastSeq ++ leBytes 8 v.ordinal ++ leBytes 16 ((v.fill.getD 0#128).toNat) ++
  leBytes 4 (prev.getD 0xFFFFFFFF) ++ leBytes 1 (maskOf [v.fill.isSome, v.seqValid, v.poisoned]) ++ zeros 3 ++ leBytes 8 release ++ zeros 16

/-- The field prev of a version before the given record; an entry rewritten under R129 has all fields zero. -/
def prevOf (v : Version) (older : Option Nat) : Option Nat := if v.poisoned && v.ordinal == 0 then some 0 else older

/-- The byte of a slot: a texel's byte, 0 where the slot was never written (R116, R119, R219). (DESIGN CHOICE, log entry 17; DEDUCED, log entry 38.) -/
def slotByte (s : State) (off : Nat) : Byte :=
  match (s.rrec.slots ++ s.rrec.stale).find? fun x => x.1 == off / 16384 with
  | none => 0#8
  | some x => (leBytes 16 ((x.2.getD (off % 16384 / 16) 0#128).toNat)).getD (off % 16) 0#8

/-- The byte of the directory area, where a directory owns it (R116, R117). (DESIGN CHOICE, log entry 17.) -/
def dirByte (s : State) (off : Nat) : Option Byte :=
  match s.rrec.dirs.find? fun d => d.units.contains (off / 65536) with
  | none => none
  | some d =>
    let e := d.units.idxOf (off / 65536) * 1024 + off % 65536 / 64
    let t := d.entry (e % max 1 d.tilesX) (e / max 1 d.tilesX)
    (entryBytes t.cur (prevOf t.cur (t.older.head?.map (·.index))) 0)[off % 64]?

/-- The byte of the version records, where one is in use (R117, R121). (DESIGN CHOICE, log entry 17.) -/
def recordByte (s : State) (off : Nat) : Option Byte :=
  let olders := s.rrec.dirs.flatMap fun d => d.tiles.map fun t => t.older
  match olders.find? fun l => l.any fun r => r.index == off / 64 with
  | none => none
  | some l =>
    let k := l.findIdx fun r => r.index == off / 64
    match l[k]? with
    | none => none
    | some r => (entryBytes r.ver (prevOf r.ver ((l[k + 1]?).map (·.index))) r.release)[off % 64]?

/-- A byte as the aperture reads it: the views of the relief cache, free bytes where the spec gives a partition's layout no content, else memory. (DESIGN CHOICE, log entry 17.) -/
def apertureByte (s : State) (a : Nat) : Byte :=
  let some_ : Option Byte → Byte := fun x => x.getD (Config.freeBits 8 (s.free + a))
  match s.partitionOf a with
  | 2 => some_ none
  | 7 => some_ (recordByte s (a - 0x270000000))
  | 8 => some_ (dirByte s (a - 0x274000000))
  | 9 => slotByte s (a - s.poolBase)
  | _ => State.memGet s.hbm a

/-- Whether the aperture may access an address (R205). -/
def apertureAllows (s : State) (write : Bool) (a : Nat) : Bool :=
  decide (a < s.memTop) && match s.partitionOf a with
  | 2 => !write
  | 7 => !write
  | 8 => !write
  | 9 => !write
  | 6 => !write || s.hif.direct
  | 5 => true
  | 10 => true
  | _ => false

/-- The sectors of a range. -/
def sectorsOf (a n : Nat) : List Nat := if n = 0 then [] else (List.range ((a + n - 1) / 32 - a / 32 + 1)).map fun k => (a / 32 + k) * 32

/-- Refused sectors are counted and recorded (R205). -/
def apertureRefused (s : State) (n : Nat) : State :=
  if n = 0 then s else (s.bumpBy O.memApertureRefusedCount n).put O.memLastStatus 0x0A03

/-- APERTURE_READ: judged sector by sector; a refused one reads zeros, one beyond the top all ones, a failed one is poisoned (R205, R216, R329). -/
def cmdApertureRead (s : State) (off n : Nat) (ue ce : List Nat) : State :=
  let a := s.hif.apertureBase + off
  let secs := sectorsOf a n
  let bad := secs.filter fun x => apertureAllows s false x && ue.any fun u => u / 32 == x / 32
  let byte : Nat → Byte := fun x =>
    if s.memTop ≤ x then 0xFF#8
    else if !apertureAllows s false x then 0#8
    else if bad.contains (x / 32 * 32) then Config.freeBits 8 (s.free + x)
    else apertureByte s x
  let data := (List.range n).map fun i => byte (a + i)
  let s := (apertureRefused s (secs.filter fun x => !apertureAllows s false x).length).drawFree
  let s := ((s.eccAll .aperture bad).eccCorrected ((secs.filter (apertureAllows s false)).filter fun x => ce.any fun u => u / 32 == x / 32)).memRequest
  s.emit (.apertureData data !bad.isEmpty)

/-- APERTURE_WRITE: the allowed sectors are written, the others dropped (R205, R329). -/
def cmdApertureWrite (s : State) (off : Nat) (data : Bytes) : State :=
  let a := s.hif.apertureBase + off
  let secs := sectorsOf a data.length
  let s := secs.foldl (fun s x =>
    if apertureAllows s true x then
      let lo := max a x
      let hi := min (a + data.length) (x + 32)
      s.hbmWrite lo (cut data (lo - a) (hi - lo))
    else s) s
  apertureRefused s (secs.filter fun x => !apertureAllows s true x).length

/-- REFRESH_INSTANT (R212). -/
def execRefreshInstant (s : State) : Host.Outcome State Fault Refusal := .next (s.ifLive cmdRefreshInstant)

/-- TOLERANCE_REPORT (R218). -/
def execToleranceReport (fifoA fifoB : Nat) (s : State) : Host.Outcome State Fault Refusal := .next (s.ifLive fun s => cmdToleranceReport s fifoA fifoB)

/-- SELF_REFRESH_ENTRY (R218). -/
def execSelfRefreshEntry (stack : Fin 4) (s : State) : Host.Outcome State Fault Refusal := .next (s.ifLive fun s => cmdSelfRefreshEntry s stack)

/-- SCRUB_PASS (R217). -/
def execScrubPass (ue : List Nat) (s : State) (ce : List Nat := []) : Host.Outcome State Fault Refusal := .next (s.ifLive fun s => cmdScrubPass s ue ce)

/-- APERTURE_READ (R205). -/
def execApertureRead (offset length : Nat) (ue : List Nat) (s : State) (ce : List Nat := []) : Host.Outcome State Fault Refusal :=
  .next (s.ifLive fun s => cmdApertureRead s offset length ue ce)

/-- APERTURE_WRITE (R205). -/
def execApertureWrite (offset : Nat) (data : Bytes) (s : State) : Host.Outcome State Fault Refusal := .next (s.ifLive fun s => cmdApertureWrite s offset data)

end Sys2Proof.Machine
end

