-- ==== Sys2Proof/Machine/Power.lean ====
section
/-! DEFINITION. PWR: panel rails, power-fail hold-up, and the device rail monitors (R255 to R260, R508 to R510). -/

namespace Sys2Proof.Machine

/-- Nominal voltage in mV and tolerance in percent of the device rails, in the order of R503; VDD_RGMII is 1.8 V or 2.5 V. -/
def railTable (rgmii : Nat) : List (Nat × Nat) :=
  [(750, 3), (1100, 5), (400, 3), (1800, 5), (850, 3), (1200, 5), (850, 3), (800, 5), (1800, 5), (3300, 5), (if rgmii = 1 then 1800 else 2500, 5)]

/-- Whether a reading lies below a rail's tolerance. -/
def railLow (t : Nat × Nat) (mv : Nat) : Bool := mv * 100 < t.1 * (100 - t.2)

/-- Whether a reading lies above a rail's tolerance. -/
def railHigh (t : Nat × Nat) (mv : Nat) : Bool := t.1 * (100 + t.2) < mv * 100

namespace State

/-- Change the power sequencer. -/
def modPwr (s : State) (f : Pwr → Pwr) : State := { s with pwr := f s.pwr }

/-- The rails of rail_order in power-up order (R460). -/
def rails (s : State) : List Nat := ((s.oct O.railOrder).map (·.toNat)).filter (· < 6)

/-- RAIL_EN of a rail rises, its discharge released before (R255). -/
def railOn (s : State) (r : Nat) : State :=
  s.modPwr fun p => { p with en := Nat.lor p.en (2 ^ r), dschg := p.dschg - (if bitOf p.dschg r then 2 ^ r else 0) }

/-- RAIL_EN of a rail falls, its discharge asserted after (R255). -/
def railOff (s : State) (r : Nat) : State :=
  s.modPwr fun p => { p with en := p.en - (if bitOf p.en r then 2 ^ r else 0), dschg := Nat.lor p.dschg (2 ^ r) }

/-- The highest place in rail_order, at most `n - 1`, whose rail is on. -/
def lastOn (s : State) (n : Nat) : Option Nat := ((List.range n).reverse).find? fun i => bitOf s.pwr.en (s.rails.getD i 6)

/-- Log a PWR code. -/
def pwrNote (s : State) (code : Nat) (param : List Nat := []) : State := s.note O.pwrLastStatus code param

/-- Enter a phase of the rail sequence now. -/
def phase (s : State) (p : RailPhase) : State := s.modPwr fun x => { x with phase := p, since := s.clk.now }

/-- Hold-up ends (R260). -/
def endHoldup (s : State) : State :=
  if s.nat O.pwrHoldupState ≠ 3 then s
  else (((s.put O.pwrHoldupState 0).modPwr fun p => { p with lowCause := false }).pwrNote 0x1104).resume 2

/-- Panel power reaches ON: the heads that wait for it are trained, and enabled heads that panel power stopped start again (R240, R256, R257, R493). -/
def panelOn (s : State) : State :=
  let s := ((s.put O.panelPowerState 2).phase .rest).settle 13 0
  ((List.range 2).foldl (fun s h => if s.headState h = 0 && s.headEnabled h then s.headStarting h else s.startSlots h) s).endHoldup

/-- The first or next rail is enabled, or panel power is ON (R256). -/
def startRail (s : State) (i : Nat) : State :=
  match s.rails[i]? with
  | none => s.panelOn
  | some r =>
    let s := (s.railOn r).phase (.waitPg i)
    if bitOf (s.nat O.railPgStatus) r then s.phase (.stepDelay i) else s

/-- Panel power enters STARTING, once PFAIL_N has been high for 10 ms; until then the acknowledged enable waits for HOLDUP_RECOVERY (R44, R256, R260, R509). (DESIGN CHOICE, log entry 43.) -/
def panelStart (s : State) : State :=
  if s.pwr.pfailLow || s.nat O.pwrHoldupState == 1 || s.nat O.pwrHoldupState == 2 then s.put O.panelPowerState 0
  else ((s.elapseTo (s.pwr.pfailHighAt.getD s.clk.now + 10000000)).put O.panelPowerState 1).startRail 0

/-- Panel power reaches OFF, or runs a held enable (R45, R257). -/
def panelOff (s : State) : State :=
  let again := s.held.contains Fn.panel
  let s : State := { s with held := s.held.filter fun f => f != Fn.panel }
  let s := (s.phase .rest).put O.panelPowerState 0
  if again then s.panelStart else s

/-- The next rail at or below a place is turned off, or panel power is OFF (R257). -/
def railsOff (s : State) (n : Nat) : State :=
  match s.lastOn n with
  | none => s.panelOff
  | some i =>
    let r := s.rails.getD i 6
    let s := (s.railOff r).phase (.waitFall i)
    if bitOf (s.nat O.railPgStatus) r then s else s.phase (.offDelay i)

/-- Once no head is ON or STOPPING any more, the rails are taken in reverse order (R257). -/
def railsWhenHeadsStopped (s : State) : State :=
  if s.pwr.phase = .stopHeads && (List.range 2).all fun h => s.headState h != 2 && s.headState h != 3 then s.railsOff 6 else s

/-- Panel power enters STOPPING: both heads go through STOPPING first. A recovery ends where panel power is no longer enabled (R257, R260). -/
def panelStop (s : State) : State :=
  let s := (s.put O.panelPowerState 3).phase .stopHeads
  let s := (List.range 2).foldl (fun s h =>
    if s.headState h = 2 then s.setHead h 3 else if s.headState h = 1 then (s.stopSlots h).setHead h 3 else s) s
  let s := if s.flag O.panelPowerEnable then s else s.endHoldup
  s.railsWhenHeadsStopped

/-- The last rail of a rail-down is off: panel power is OFF, and recovery starts it again where it is enabled (R259, R260). -/
def railsDown (s : State) : State :=
  let s : State := { s with held := s.held.filter fun f => f != Fn.panel }
  (s.put O.panelPowerState 0).modPwr fun p => { p with phase := .rest }

/-- The rails go down one after the other without waiting for PG, the first 10 µs after `t0` (R259, R420, R508). (DEDUCED, log entry 101.) -/
def startDown (s : State) (t0 : Nat) : State :=
  match s.lastOn 6 with
  | none => s.railsDown
  | some i => s.modPwr fun p => { p with phase := .down i, since := t0 + 10000 }

/-- Hold-up is confirmed (R259). (DESIGN CHOICE, log entry 43.) -/
def confirmHoldup (s : State) : State :=
  let s := s.modPwr fun p => { p with holdupAt := p.pfailAt, shed := false }
  let s := (((s.put O.pwrHoldupState 1).bump O.pwrHoldupCount).bump O.holdupLifetime).pwrNote 0x1103
  let s := ((s.suspend 2).sendAbort s.lineNow).cutFirstScan 0x1103 false
  let s := s.cutDirect 0x1103
  let s := s.put O.panelPowerState (if s.nat O.panelPowerState = 0 then 0 else 3)
  let s := ((s.dropHeads).modScan fun x => { x with stopCode := some 0x1103 }).discardAdmitted 0x1103 false
  s.startDown s.pwr.holdupAt

end State

/-! ## Panel power -/

/-- RAIL_PG_RISE: the rail being started is good (R256). -/
def cmdRailPgRise (s : State) (r : Nat) : State :=
  let s := (s.put O.railPgStatus (Nat.lor (s.nat O.railPgStatus) (2 ^ r))).modPwr fun p => { p with pgLowAt := p.pgLowAt.filter (·.1 != r) }
  match s.pwr.phase with
  | .waitPg i => if s.rails[i]? = some r then s.phase (.stepDelay i) else s
  | _ => s

/-- RAIL_STEP_DELAY: the next rail follows, or panel power is ON (R256). -/
def cmdRailStepDelay (s : State) : State :=
  match s.pwr.phase with
  | .stepDelay i => (s.elapseTo (s.pwr.since + s.nat O.railStepDelay * 1000000)).startRail (i + 1)
  | _ => s

/-- RAIL_PG_TIMEOUT: the rail did not become good in time (R258). -/
def cmdRailPgTimeout (s : State) : State :=
  match s.pwr.phase with
  | .waitPg i =>
    let s := s.elapseTo (s.pwr.since + s.nat O.railPgTimeout * 1000000)
    let s := (s.put O.pwrLastStatus 0x1101).raise 13 0 0 0x1101 [s.rails.getD i 6]
    (s.putB O.panelPowerEnable false).panelStop
  | _ => s

/-- PG_PANEL_FALL: the 100 µs fault count starts, or the wait of a stop ends (R257, R258). -/
def cmdPgPanelFall (s : State) (r : Nat) : State :=
  let v := s.nat O.railPgStatus
  let s := (s.put O.railPgStatus (if bitOf v r then v - 2 ^ r else v : Nat)).modPwr fun p => { p with pgLowAt := (r, s.clk.now) :: p.pgLowAt.filter (·.1 != r) }
  match s.pwr.phase with
  | .waitFall i => if s.rails[i]? = some r then s.phase (.offDelay i) else s
  | _ => s

/-- RAIL_FAULT: an enabled rail has been low for 100 µs while ON (R258). -/
def cmdRailFault (s : State) (r : Nat) : State :=
  match s.pwr.pgLowAt.find? (·.1 == r) with
  | none => s
  | some (_, t) =>
    if s.nat O.panelPowerState ≠ 2 || !bitOf s.pwr.en r then s
    else
      let s := s.elapseTo (t + 100000)
      let s := (s.put O.pwrLastStatus 0x1102).raise 13 0 0 0x1102 [r]
      let s := ((((s.sendAbort s.lineNow).sendBlank).cutFirstScan 0x1102).cutDirect 0x1102).put O.panelPowerState 3
      let s := (s.dropHeads).modScan fun x => { x with stopCode := some 0x1102 }
      (s.putB O.panelPowerEnable false).panelStop

/-- RAIL_OFF_STEP: after PG fell or timed out and the off delay passed, the next rail goes, or panel power is OFF (R257). -/
def cmdRailOffStep (s : State) : State :=
  let d := s.nat O.railOffDelay * 1000000
  match s.pwr.phase with
  | .waitFall i => (s.elapseTo (s.pwr.since + s.nat O.railPgTimeout * 1000000 + d)).railsOff i
  | .offDelay i => (s.elapseTo (s.pwr.since + d)).railsOff i
  | _ => s

/-! ## Hold-up -/

/-- PFAIL_FALL: the 5 µs count starts (R259). -/
def cmdPfailFall (s : State) : State :=
  if s.pwr.pfailLow then s else s.modPwr fun p => { p with pfailLow := true, pfailAt := s.clk.now, pfailHighAt := none }

/-- PFAIL_RISE: a fall not yet confirmed is forgotten, and the 10 ms count of recovery starts (R259, R260). -/
def cmdPfailRise (s : State) : State :=
  if !s.pwr.pfailLow then s else s.modPwr fun p => { p with pfailLow := false, pfailHighAt := some s.clk.now }

/-- HOLDUP_CONFIRM: PFAIL_N has been low for 5 µs (R259). -/
def cmdHoldupConfirm (s : State) : State :=
  if !s.pwr.pfailLow || s.nat O.pwrHoldupState == 1 || s.nat O.pwrHoldupState == 2 then s
  else (s.elapseTo (s.pwr.pfailAt + 5000)).confirmHoldup

/-- HOLDUP_SHED: the display islands are clock-gated and the stacks refresh themselves (R218, R259). -/
def cmdHoldupShed (s : State) : State :=
  if s.nat O.pwrHoldupState ≠ 1 then s
  else
    let s := (s.elapseTo (s.pwr.holdupAt + 1000000)).modPwr fun p => { p with shed := true }
    { s with mem := { s.mem with hbmStacks := s.mem.hbmStacks.map fun x => { x with selfRefresh := true } } }

/-- HOLDUP_RECOVERY: PFAIL_N, and every device rail where one began the hold-up, has been good for 10 ms. With no hold-up, panel power whose enable waited for PFAIL_N enters STARTING (R44, R260, R509, R510). -/
def cmdHoldupRecovery (s : State) : State :=
  if s.nat O.pwrHoldupState = 0 && s.flag O.panelPowerEnable && s.nat O.panelPowerState = 0 then s.panelStart
  else if s.nat O.pwrHoldupState ≠ 2 || s.pwr.phase != .rest then s
  else
    match s.pwr.pfailHighAt, (if s.pwr.lowCause then s.pwr.okAt else some 0) with
    | some h, some k =>
      let s := s.elapseTo (max h k + 10000000)
      let s := (s.put O.pwrHoldupState 3).modPwr fun p => { p with shed := false }
      let s : State := { s with mem := { s.mem with hbmStacks := s.mem.hbmStacks.map fun x => { x with selfRefresh := false } } }
      if s.flag O.panelPowerEnable then s.panelStart else s.endHoldup
    | _, _ => s

/-- RAIL_DOWN_STEP: the next rail of the rail-down is turned off; PWR enters reset after the last one of a reset (R259, R420, R508). It runs in the always-on island, whatever the rest of the die does. (DEDUCED, log entry 101.) -/
def cmdRailDownStep (s : State) : State :=
  match s.pwr.phase with
  | .down i =>
    let s := (s.elapseTo s.pwr.since).railOff (s.rails.getD i 6)
    (match s.lastOn i with
    | some j => s.modPwr fun p => { p with phase := .down j, since := p.since + 100000 }
    | none => s.railsDown)
  | _ => s

/-! ## Device rails (R197, R510) -/

/-- Whether 0x1109 may be logged for a rail: at most once a second. -/
def highDue (s : State) (n : Nat) : Bool :=
  match s.pwr.highAt.find? fun x => x.1 == n with
  | some x => decide (x.2 + 1000000000 ≤ s.clk.now)
  | none => true

/-- One device rail's comparison. (DEDUCED, log entry 42.) -/
def compareRail (s : State) (n : Nat) (t : Nat × Nat) (mv : Nat) : State :=
  let lo := if railLow t mv then min 2 (s.pwr.lows.getD n 0 + 1) else 0
  let hi := if railHigh t mv then min 2 (s.pwr.highs.getD n 0 + 1) else 0
  let first : Bool := lo == 2 && s.pwr.lows.getD n 0 == 1
  let s := (s.put (O.deviceRailMv n) mv).modPwr fun p => { p with lows := setAt p.lows n lo, highs := setAt p.highs n hi }
  let s := if lo = 0 ∧ hi = 0 then s else s.uncover
  let s :=
    if first then
      let s := ((s.bump O.deviceRailLowCount).pwrNote 0x1108 [n]).modPwr fun p => { p with lowCause := true }
      if s.nat O.pwrHoldupState = 1 ∨ s.nat O.pwrHoldupState = 2 then s
      else (s.modPwr fun p => { p with pfailAt := s.clk.now }).confirmHoldup
    else s
  if hi = 2 ∧ highDue s n then (s.modPwr fun p => { p with highAt := (n, s.clk.now) :: p.highAt.filter (·.1 != n) }).pwrNote 0x1109 [n] else s

/-- DEVICE_RAIL_COMPARE: every 1 µs each device rail is compared with its tolerance (R510). -/
def cmdDeviceRailCompare (s : State) (mv : List Nat) : State :=
  let table := railTable (s.nat O.rgmiiIoVoltage)
  let read := fun n => mv.getD n (table.getD n (0, 0)).1
  let s := (List.range 11).foldl (fun s n => compareRail s n (table.getD n (0, 0)) (read n)) s
  let ok := (List.range 11).all fun n => !railLow (table.getD n (0, 0)) (read n) && !railHigh (table.getD n (0, 0)) (read n)
  s.modPwr fun p => { p with okAt := if !ok then none else if p.okAt.isSome then p.okAt else some s.clk.now }

/-- RAIL_PG_RISE (R256). -/
def execRailPgRise (rail : Fin 6) (s : State) : Host.Outcome State Fault Refusal := .next (s.ifLive fun s => cmdRailPgRise s rail)

/-- RAIL_STEP_DELAY (R256). -/
def execRailStepDelay (s : State) : Host.Outcome State Fault Refusal := .next (s.ifLive cmdRailStepDelay)

/-- RAIL_PG_TIMEOUT (R258). -/
def execRailPgTimeout (s : State) : Host.Outcome State Fault Refusal := .next (s.ifLive cmdRailPgTimeout)

/-- RAIL_FAULT (R258). -/
def execRailFault (rail : Fin 6) (s : State) : Host.Outcome State Fault Refusal := .next (s.ifLive fun s => cmdRailFault s rail)

/-- PG_PANEL_FALL (R257). -/
def execPgPanelFall (rail : Fin 6) (s : State) : Host.Outcome State Fault Refusal := .next (s.ifLive fun s => cmdPgPanelFall s rail)

/-- RAIL_OFF_STEP (R257). -/
def execRailOffStep (s : State) : Host.Outcome State Fault Refusal := .next (s.ifLive cmdRailOffStep)

/-- PFAIL_FALL (R259). -/
def execPfailFall (s : State) : Host.Outcome State Fault Refusal := .next (cmdPfailFall s)

/-- PFAIL_RISE (R260). -/
def execPfailRise (s : State) : Host.Outcome State Fault Refusal := .next (cmdPfailRise s)

/-- HOLDUP_CONFIRM (R259). -/
def execHoldupConfirm (s : State) : Host.Outcome State Fault Refusal := .next (s.ifLive cmdHoldupConfirm)

/-- HOLDUP_SHED (R259). -/
def execHoldupShed (s : State) : Host.Outcome State Fault Refusal := .next (s.ifLive cmdHoldupShed)

/-- HOLDUP_RECOVERY (R260). -/
def execHoldupRecovery (s : State) : Host.Outcome State Fault Refusal := .next (s.ifLive cmdHoldupRecovery)

/-- RAIL_DOWN_STEP (R259). -/
def execRailDownStep (s : State) : Host.Outcome State Fault Refusal := .next (cmdRailDownStep s)

/-- DEVICE_RAIL_COMPARE (R510). -/
def execDeviceRailCompare (mv : List Nat) (s : State) : Host.Outcome State Fault Refusal :=
  .next (s.ifLive fun s => cmdDeviceRailCompare s mv)

end Sys2Proof.Machine
end

