-- ==== Sys2Proof/Machine/Thermal.lean ====
section
/-! DEFINITION. THM: sensors, cross-check, throttle, rise rate, NOR window, trip and field trim; the stack sensors of MEM (R39, R215, R412 to R426). -/

namespace Sys2Proof.Machine

/-! ## Sensors (R412 to R415) -/

/-- The neighbours of a sensor in the grid of 6 rows and 8 columns (R412). -/
def neighbours (n : Nat) : List Nat :=
  (if 8 ≤ n then [n - 8] else []) ++ (if 0 < n % 8 then [n - 1] else []) ++ (if n % 8 < 7 then [n + 1] else []) ++ (if n + 8 < 48 then [n + 8] else [])

/-- The median; of an even number the floor of the mean of the middle two (R413). -/
def medianFloor (l : List Int) : Int :=
  let m := l.mergeSort (· ≤ ·)
  let k := m.length
  if k % 2 = 1 then m.getD (k / 2) 0 else (m.getD (k / 2 - 1) 0 + m.getD (k / 2) 0) / 2

/-- A sensor's reading: its nominal conversion with the factory trim, plus the learned trim, in multiples of 4 (R412). -/
def Sensor.reading (x : Sensor) (raw : Option Int) : Option Int := raw.map fun r => (r + x.trim) / 4 * 4

/-- Whether a sensor is suspect in a sample (R413). `rs` are the sensors' readings, the last one where a sensor gives none. -/
def suspect (old : List Sensor) (now rs : List (Option Int)) (tol : Nat) (n : Nat) : Bool :=
  match now.getD n none with
  | none => true
  | some r =>
    let jump := match (old.getD n {}).prev with
      | none => false
      | some l => decide (32 < (r - l).natAbs)
    let ns := (neighbours n).filterMap fun m => if (old.getD m {}).excl then none else rs.getD m none
    jump || (2 ≤ ns.length && decide (tol < (r - medianFloor ns).natAbs))

/-- One sensor after a sample, before values are replaced: its runs, and whether it is excluded (R413). -/
def sensorRuns (x : Sensor) (now : Option Int) (sus : Bool) : Sensor :=
  let bad := if sus then min 3 (x.susp + 1) else 0
  let good := if sus then 0 else min 1000 (x.ok + 1)
  let last := if now.isSome then now else x.last
  if x.excl then { x with susp := bad, ok := good, last := last, prev := now, excl := decide (good < 1000) }
  else { x with susp := bad, ok := 0, last := last, prev := now, excl := decide (3 ≤ bad) }

/-- One sensor's value (R414): its own reading, or its valid neighbours' median, or the value it held when it last had a valid neighbour. -/
def sensorValue (xs : List Sensor) (n : Nat) : Sensor :=
  let x := xs.getD n {}
  let valid := (neighbours n).filter fun m => !(xs.getD m {}).excl
  let own := x.last.getD 0
  if x.excl then
    match valid with
    | [] => { x with val := x.held.getD own, unsensed := true }
    | _ =>
      let v := medianFloor (valid.map fun m => ((xs.getD m {}).last).getD 0)
      { x with val := v, held := some v, unsensed := false }
  else { x with val := own, held := if valid.isEmpty then x.held else some own, unsensed := false }

/-- All sensors after a sample (R412 to R414). -/
def sampleSensors (old : List Sensor) (raw : List (Option Int)) (tol : Nat) : List Sensor :=
  let now := (List.range 48).map fun n => (old.getD n {}).reading (raw.getD n none)
  let rs := (List.range 48).map fun n => match now.getD n none with
    | some r => some r
    | none => (old.getD n {}).last
  let runs := (List.range 48).map fun n => sensorRuns (old.getD n {}) (now.getD n none) (suspect old now rs tol n)
  (List.range 48).map fun n => sensorValue runs n

/-- Tj and the sensor that supplied it (R415). -/
def junction (xs : List Sensor) : Int × Nat :=
  (List.range 47).foldl (fun b k => let v := (xs.getD (k + 1) {}).val; if b.1 < v then (v, k + 1) else b) ((xs.getD 0 {}).val, 0)

/-- The classes of the SENSOR family that a sensor belongs to, one for each neighbour (R414). -/
def pairClass (n m : Nat) : Nat := min n m * 48 + max n m

namespace State

/-- Change THM. -/
def modThm (s : State) (f : Thm → Thm) : State := { s with thm := f s.thm }

/-- Log a THM code. -/
def thmNote (s : State) (code : Nat) (param : List Nat := []) : State := s.note O.thmLastStatus code param

/-- Lifetime power-on seconds (R421, R449). (DESIGN CHOICE, log entry 99.) -/
def powerSeconds (s : State) : Nat := min (2 ^ 32 - 1) (s.thm.powerBase + s.clk.now / 1000000000)

/-- Tj as last sampled. -/
def tj (s : State) : Int := (junction s.thm.sensors).1

/-- The throttle start in use (R426). -/
def throttleStart (s : State) : Int := min (s.int O.thmThrottleStart) (s.int O.plinthTripPoint - 80)

/-- A sensor is excluded: a fault in each of its pairs, reported once (R414). -/
def excludeSensor (s : State) (n : Nat) : State :=
  match neighbours n with
  | [] => s
  | m :: ms =>
    let rest : List FaultRec := ms.map fun k => { family := 1, cls := pairClass n k, item := n, code := 0x1003 }
    let s : State := { s with flt := s.flt ++ rest }
    (s.put O.thmLastStatus 0x1003).raise 1 (pairClass n m) n 0x1003 [n]

/-- A sensor is restored: its fault ends in each of its pairs (R414, R490). -/
def restoreSensor (s : State) (n : Nat) : State := (s.thmNote 0x1004 [n]).settleIf 1 fun f => f.item == n

/-- What the sensors' changes report (R413, R414). (DEDUCED, log entry 42.) -/
def sensorEvents (s : State) (old new : List Sensor) : State :=
  (List.range 48).foldl (fun s n =>
    let a := old.getD n {}
    let b := new.getD n {}
    let s := if !a.excl && b.excl then s.excludeSensor n else if a.excl && !b.excl then s.restoreSensor n else s
    if !a.unsensed && b.unsensed then (s.put O.thmLastStatus 0x1005).postFault 0x1005 [n] else s) s

end State

/-! ## Rise rate (R419) -/

/-- The rate of a source from its samples, newest first; none before 64 of them (R419). (DEDUCED, log entry 96.) -/
def riseRate (h : List Int) : Option Int :=
  if h.length < 64 then none
  else
    let sum : List Int → Int := fun l => l.foldl (· + ·) 0
    some ((sum (h.take 32) - sum ((h.drop 32).take 32)) * 1000 / 1024)

/-- A run of samples in which a condition holds, counted to 3. (DEDUCED, log entry 97.) -/
def run3 (n : Nat) (b : Bool) : Nat := if b then min 3 (n + 1) else 0

/-- The rise level changes (R419). (DESIGN CHOICE, log entry 98.) -/
def riseLevel (s : State) : State :=
  let r := s.int O.thmRiseRate
  let em := s.int O.thmRiseEmergency
  let ea := s.int O.thmRiseEarly
  let s := s.modThm fun t => { t with
    atEm := run3 t.atEm (decide (em ≤ r)), atEarly := run3 t.atEarly (decide (ea ≤ r))
    leaveEm := run3 t.leaveEm (decide (r < em - 32)), leaveEarly := run3 t.leaveEarly (decide (r < ea - 32)) }
  let l := s.nat O.thmRiseLevel
  if l < 2 ∧ s.thm.atEm = 3 then ((s.put O.thmRiseLevel 2).thmNote 0x1007).suspend 1
  else if l = 0 ∧ s.thm.atEarly = 3 then (s.put O.thmRiseLevel 1).thmNote 0x1006
  else if l = 2 ∧ s.thm.leaveEm = 3 then ((s.put O.thmRiseLevel 1).thmNote 0x1006).resume 1
  else if l = 1 ∧ s.thm.leaveEarly = 3 then (s.put O.thmRiseLevel 0).thmNote 0x1008
  else s

/-! ## Throttle (R417, R418, R426, R37, R38) -/

/-- The target level of a temperature (R417). (DEDUCED, log entry 97.) -/
def throttleTarget (start : Int) (step : Nat) (t : Int) : Nat :=
  if t < start then 0 else min 15 ((t - start).toNat / max 1 step + 1)

/-- The throttle level after a sample (R417). (DEDUCED, log entry 97.) -/
def throttleLevel (s : State) : State :=
  let start := s.throttleStart - (if 1 ≤ s.nat O.thmRiseLevel then s.int O.thmEarlyOffset else 0)
  let step := s.nat O.thmThrottleStep
  let a := throttleTarget start step s.tj
  let b := throttleTarget start step (s.tj + s.int O.thmHysteresis)
  let s := s.modThm fun t => { t with up := ((a : Int) :: t.up).take 3, down := ((b : Int) :: t.down).take 3 }
  let l := s.nat O.thmThrottleLevel
  let ups := s.thm.up.map (·.toNat)
  let downs := s.thm.down.map (·.toNat)
  let l' :=
    if ups.length = 3 ∧ ups.all fun x => l < x then ups.foldl min 15
    else if downs.length = 3 ∧ downs.all fun x => x < l then maxN downs
    else l
  let l' := if s.nat O.thmRiseLevel = 2 ∨ s.thm.sensors.any (·.unsensed) then max 8 l' else l'
  let s := (s.put O.thmThrottleLevel (l' : Nat)).put O.admThrottleNow (l' : Nat)
  if l = 0 ∧ l' ≠ 0 then s.thmNote 0x1001 [l']
  else if l ≠ 0 ∧ l' = 0 then s.thmNote 0x1002
  else s

/-- At EMERGENCY the engine takes the level at once; when it ends, the frame rendering takes its admitted level again (R37, R38, R162). -/
def applyEmergency (s : State) (before : Nat) : State :=
  if s.nat O.thmRiseLevel = 2 then s.put O.rseThrottleLevel (s.nat O.thmThrottleLevel)
  else if before = 2 then
    match s.adm.rendering with
    | some f => s.put O.rseThrottleLevel f.adm.throttle
    | none => s
  else s

/-- The order of thresholds after a commit of the trip point is reported once (R426). -/
def limitStart (s : State) : State :=
  if s.int O.thmThrottleStart ≤ s.int O.plinthTripPoint - 80 then s.modThm fun t => { t with limited := false }
  else if s.thm.limited then s
  else (s.modThm fun t => { t with limited := true }).thmNote 0x1010

/-! ## The stack sensors (R39, R215) -/

/-- One stack's sample: the refresh rate wanted, the pre-warning, and the loss of its sensor (R39, R215). (DEDUCED, log entry 96.) -/
def sampleStack (s : State) (i : Nat) (raw : Option Int) : State :=
  let k := s.stack i
  match raw.map fun t => t / 16 * 16 with
  | none =>
    let s := s.modStack i fun x => { x with bad := min 3 (x.bad + 1), good := 0, above83 := 0, above86 := 0, below82 := 0, hist := [] }
    if k.lost || k.bad < 2 then s
    else ((s.modStack i fun x => { x with lost := true, want := true, pre := true }).put O.memLastStatus 0x0A05).raise 14 i 0 0x0A05 [i]
  | some t =>
    let k' : Stack := { k with
      bad := 0, good := min 3 (k.good + 1), hist := (t :: k.hist).take 64
      above83 := run3 k.above83 (decide (1328 ≤ t)), above86 := run3 k.above86 (decide (1376 ≤ t)), below82 := run3 k.below82 (decide (t < 1312)) }
    let s := (s.modStack i fun _ => k').put (O.memStackTemp i) t
    let s := if k.lost && k'.good == 3 then (s.modStack i fun x => { x with lost := false }).settleIf 14 fun f => f.cls == i && f.code == 0x0A05 else s
    if (s.stack i).lost then s
    else s.modStack i fun x => { x with
      pre := x.pre || x.above83 == 3
      want := if x.above86 = 3 then true else if x.below82 = 3 then false else x.want }

/-- All stacks, and the derating that admission uses (R39). -/
def sampleStacks (s : State) (raw : List (Option Int)) : State :=
  let is := List.range s.stackCount
  let s := is.foldl (fun s i => sampleStack s i (raw.getD i none)) s
  let cool := is.all fun i => match raw.getD i none with
    | some t => decide (t / 16 * 16 < 1280)
    | none => false
  let n := run3 s.mem.all80 cool
  let s : State := { s with mem := { s.mem with all80 := n, hbmStacks := s.mem.hbmStacks.map fun x => { x with pre := x.pre && n != 3 } } }
  s.put O.admDerateNow (if s.mem.hbmStacks.any (·.pre) then s.nat O.admDerateHot else s.nat O.admDerateNormal : Nat)

/-! ## NOR window (R423) and COLD (R424) -/

/-- At the first opening of the window after a trip, the trips are logged, and one without a slot is counted in NOR (R421). -/
def logTrips (s : State) : State :=
  let s := s.thm.tripLog.foldl (fun s x => s.thmNote 0x1009 [x.1, unsigned 16 x.2.1, x.2.2.getD 0xFF]) s
  let full := (s.thm.tripLog.filter fun x => x.2.2.isNone).length
  let s := (List.range full).foldl (fun s _ =>
    ({ s with nor := { s.nor with coarseCount := satAdd 32 s.nor.coarseCount 1, coarse := s.thm.coarse, old := { s.nor.old with coarse := s.nor.coarse } } } : State).thmNote 0x100A) s
  s.modThm fun t => { t with tripLog := [], coarse := none }

/-- The NOR write window opens or closes (R423). -/
def norWindow (s : State) : State :=
  let valid := (s.thm.sensors.filter fun x => !x.excl).map (·.val)
  let r := s.int O.thmRiseRate
  let calm : Bool := decide (-80 < r ∧ r < 80)
  let least : Option Int := match valid with
    | [] => none
    | v :: vs => some (vs.foldl min v)
  let openOk : Bool := (match least with | none => false | some v => decide (64 ≤ v)) && decide (s.tj ≤ 1440) && calm
  let closing : Bool := (match least with | none => true | some v => decide (v < 32)) || decide (1472 < s.tj) || !calm
  let s := s.modThm fun t => { t with openRun := run3 t.openRun openOk, closeRun := run3 t.closeRun closing }
  if !s.flag O.thmNorWindow && s.thm.openRun == 3 then logTrips ((s.putB O.thmNorWindow true).thmNote 0x100D [1])
  else if s.flag O.thmNorWindow && s.thm.closeRun == 3 then (s.putB O.thmNorWindow false).thmNote 0x100D [0]
  else s

/-- A spell below -10 °C (R424). -/
def coldSpell (s : State) : State :=
  let below := decide (s.tj < -160)
  let n := run3 s.thm.coldRun (below != s.thm.cold)
  if n < 3 then s.modThm fun t => { t with coldRun := n }
  else
    let s := s.modThm fun t => { t with coldRun := 0, cold := below }
    if below then s.thmNote 0x100F else s

/-! ## Trip (R420, R421) -/

/-- The trip record (R421). (DESIGN CHOICE, log entry 99.) -/
def tripRecord (s : State) (cause : Nat) : Bytes :=
  let body := leBytes 1 1 ++ leBytes 1 cause ++ leBytes 1 (junction s.thm.sensors).2 ++ leBytes 1 (s.nat O.thmThrottleLevel) ++
    taiBytes s.ns ++ leInt 2 s.tj ++ leInt 2 (s.int O.plinthTripPoint) ++ leInt 2 (s.int O.thmRiseRate) ++
    leBytes 4 s.powerSeconds ++ leBytes 4 s.thm.tripCount
  body ++ leBytes 4 (crc32c body)

/-- The Bronze image in an update image's body (R134, R440). -/
def imageBody (img : Bytes) : Bytes := cut img 256 (img.length - 352)

/-- A Bronze update cut off while it is written: copy B is torn, or B is new, or B is new and A is torn; which, the spec leaves open (R444). (DESIGN CHOICE, log entry 66.) -/
def tearBronze (s : State) : State :=
  let b := imageBody s.atl.image
  let old := s.nor.bronze
  let copies := match (Config.freeBits 2 s.free).toNat with
    | 0 => [old.getD 0 [], []]
    | 1 => [old.getD 0 [], b]
    | _ => [[], b]
  ({ s with nor := { s.nor with bronze := copies } } : State).drawFree

/-- A Patina store cut off: its commit record is not there, or is torn and fails its check; which, the spec leaves open (R150). (DESIGN CHOICE, log entry 27.) -/
def tearPatina (s : State) : State :=
  let cutOff : PatinaSlot → PatinaSlot := fun x => if Config.freeBool s.free then { x with record := leBytes 4 0x41544150, damaged := true } else { x with record := [] }
  ({ s with nor := { s.nor with patina := modAt s.nor.patina s.atl.patinaTarget cutOff } } : State).drawFree

/-- A NOR operation in progress is torn; the journalled areas' places in the table of R435 are kept for the next start (R420, R437). -/
def tearNor (s : State) : State :=
  let areas := (if s.nat O.patinaStoreState = 2 then [6 + s.atl.patinaTarget] else []) ++ (if s.nat O.cfgStoreState = 2 then [8] else [])
  let s : State := { s with nor := { s.nor with torn := s.nor.torn ++ areas } }
  let s := if s.nat O.patinaStoreState = 2 then tearPatina s else s
  if s.nat O.updateState == 3 && fieldN s.atl.image 6 1 == 2 then tearBronze s else s

/-- The Milnum transmitters are in electrical idle (R420). -/
def silenceLanes (s : State) : State :=
  (List.range 32).foldl (fun s n => if (s.slot n).present then s.emit (.panel n .silent) else s) s

/-- The rail-down of a stop, where none is under way (R259, R420). (DEDUCED, log entry 101.) -/
def stopRails (s : State) : State :=
  let s := match s.pwr.phase with
    | .down _ => s
    | _ => s.startDown s.clk.now
  if s.nat O.panelPowerState = 0 then s else s.put O.panelPowerState 3

/-- The clocks of every island except always-on and PLN stop: the lanes are silent, and HBM is lost (R420, R494). (DESIGN CHOICE, log entry 100.) -/
def stopDie (s : State) (why : StopCause) : State :=
  let s := stopRails (tearNor (silenceLanes s))
  { s with die := .stopped, stop := why, hbm := [], thm := { s.thm with thermtrip := true, belowSince := none } }

/-- A trip is confirmed (R420, R421). (DESIGN CHOICE, log entry 100.) -/
def trip (s : State) (cause : Nat) : State :=
  let s := s.modThm fun t => { t with tripCount := satAdd 32 t.tripCount 1 }
  let s := (s.put O.thmTripCount s.thm.tripCount).suspend 0
  let rcd := tripRecord s cause
  let free := s.thm.slots.length + b2n s.thm.record.isSome
  let s := s.modThm fun t => if free < 64 then { t with record := some rcd, tripLog := t.tripLog ++ [(cause, s.tj, some free)] }
    else { t with coarse := some rcd, tripLog := t.tripLog ++ [(cause, s.tj, none)] }
  stopDie s .trip

/-- The trip's conditions in this sample: the cause, where it is confirmed (R420). (DESIGN CHOICE, log entry 100.) -/
def tripCause (s : State) : Option Nat :=
  if s.thm.tripRun = 3 then some 0
  else if 12 < (s.thm.sensors.filter (·.excl)).length then some 1
  else none

/-! ## The sample -/

/-- The sensors' part of a sample: values, Tj, and the counts that need nothing else (R412 to R415, R422). -/
def takeSample (s : State) (raw : List (Option Int)) : State :=
  let new := sampleSensors s.thm.sensors raw (s.nat O.thmNeighbourTol)
  let j := junction new
  let spread := (new.filter fun x => !x.excl).map (·.val)
  let even : Bool := match spread with
    | [] => false
    | v :: vs => decide (vs.foldl max v - vs.foldl min v ≤ 64)
  let s := s.modThm fun t => { t with
    sensors := new
    tripRun := run3 t.tripRun (decide (s.int O.plinthTripPoint ≤ j.1))
    calmSince := if even then (if t.calmSince.isSome then t.calmSince else some s.clk.now) else none
    belowSince := if j.1 < s.throttleStart then (if t.belowSince.isSome then t.belowSince else some s.clk.now) else none }
  ((s.put O.thmTj j.1).put O.thmTjSensor j.2).put O.thmExcludedMask (maskOf (new.map (·.excl)))

/-- THM_SAMPLE: sensors, stacks, Tj, rise level, throttle, trip, NOR window and refresh (R39, R215, R412 to R426). A stopped die samples its sensors alone, for the restart of R422. -/
def cmdThmSample (s : State) (raw hbmStacks : List (Option Int)) : State :=
  if s.die = .inReset then s
  else if s.die = .stopped then takeSample s raw
  else
    let old := s.thm.sensors
    let before := s.nat O.thmRiseLevel
    let s := limitStart (takeSample s raw)
    let s := s.sensorEvents old s.thm.sensors
    let s := sampleStacks s hbmStacks
    let s := s.modThm fun t => { t with hist := (s.tj :: t.hist).take 64 }
    let s := if s.tj < -160 ∨ 1680 < s.tj then s.uncover else s
    let rates := (riseRate s.thm.hist).toList ++ (List.range s.stackCount).filterMap fun i => riseRate (s.stack i).hist
    let s := s.put O.thmRiseRate (match rates with | [] => 0 | r :: rs => rs.foldl max r)
    match tripCause s with
    | some c => trip s c
    | none => norWindow (coldSpell (applyEmergency (throttleLevel (riseLevel s)) before))

/-- TRIP_RECORD_PROGRAMMED: the record stands in the next free one-time slot (R421). (DESIGN CHOICE, log entry 99.) -/
def cmdTripRecordProgrammed (s : State) : State :=
  match s.thm.record with
  | none => s
  | some r => (s.modThm fun t => { t with record := none, slots := t.slots ++ [r] }).put O.thmTripSlotsUsed (s.thm.slots.length + 1 : Nat)

/-! ## Field trim (R416) -/

/-- Whether offsets may be learned, but for the 10 minutes (R416). -/
def mayLearn (s : State) : Bool :=
  s.headState 0 == 0 && s.headState 1 == 0 && (List.range 8).all fun k => (s.island (9 + k)).pow == .gated

/-- One sensor's learned offset moves by 1 unit towards the mean; at its limit it stays (R416). -/
def learnOne (s : State) (total : Int) (count : Nat) (n : Nat) : State :=
  let x := s.thm.sensors.getD n {}
  if x.excl ∨ 24 ≤ x.trim.natAbs then s
  else
    let d : Int := if x.val * count < total then 1 else if total < x.val * count then -1 else 0
    let t := x.trim + d
    let hit : Bool := decide (24 ≤ t.natAbs) && !x.limitLogged
    let s := s.modThm fun h => { h with sensors := modAt h.sensors n fun y => { y with trim := t, limitLogged := y.limitLogged || hit } }
    if hit then s.thmNote 0x100E [n] else s

/-- TRIM_LEARN: under the conditions of R416, every 60 s. -/
def cmdTrimLearn (s : State) : State :=
  match s.thm.calmSince with
  | none => s
  | some t =>
    if !mayLearn s then s
    else
      let s := s.elapseTo (max (t + 600000000000) (s.thm.learnAt + 60000000000))
      let s := s.modThm fun x => { x with learnAt := s.clk.now }
      let valid := (s.thm.sensors.filter fun x => !x.excl).map (·.val)
      let total := valid.foldl (· + ·) 0
      (List.range 48).foldl (fun s n => learnOne s total valid.length n) s

/-- TRIM_SAVE: the learned offsets go to NOR, at most once an hour and while the window is open (R416). -/
def cmdTrimSave (s : State) : State :=
  let due : Bool := match s.thm.trimsSavedAt with
    | none => true
    | some t => decide (t + 3600000000000 ≤ s.clk.now)
  if !due || !s.flag O.thmNorWindow || s.nat O.atlState != 1 then s
  else
    let s := s.modThm fun t => { t with trimsSavedAt := some s.clk.now }
    { s with nor := { s.nor with trims := s.thm.sensors.map (·.trim), old := { s.nor.old with trims := s.nor.trims } } }

/-- THM_SAMPLE (R412). -/
def execThmSample (sensors hbmStacks : List (Option Int)) (s : State) : Host.Outcome State Fault Refusal := .next (cmdThmSample s sensors hbmStacks)

/-- TRIP_RECORD_PROGRAMMED (R421). -/
def execTripRecordProgrammed (s : State) : Host.Outcome State Fault Refusal := .next (cmdTripRecordProgrammed s)

/-- TRIM_LEARN (R416). -/
def execTrimLearn (s : State) : Host.Outcome State Fault Refusal := .next (s.ifLive cmdTrimLearn)

/-- TRIM_SAVE (R416). -/
def execTrimSave (s : State) : Host.Outcome State Fault Refusal := .next (s.ifLive cmdTrimSave)

end Sys2Proof.Machine
end

