-- ==== Sys2Proof/Machine/Atelier.lean ====
section
/-! DEFINITION. Atelier: warm resets, boot selector, event log, state journal, updates and the CRC units (R428 to R453). -/

namespace Sys2Proof.Machine

namespace State

/-- Change Atelier. -/
def modAtl (s : State) (f : Atl → Atl) : State := { s with atl := f s.atl }

/-- Change what NOR holds. -/
def modNor (s : State) (f : Nor → Nor) : State := { s with nor := f s.nor }

/-- Log an ATL code. -/
def atlNote (s : State) (code : Nat) (param : List Nat := []) : State := s.note O.atlLastStatus code param

/-- Whether Atelier runs its firmware. -/
def atlRuns (s : State) : Bool := s.live && s.nat O.atlState == 1

/-! ## Boot selector (R441, R442) -/

/-- Whether the boot ROM accepts a firmware slot (R441). A slot holds an image only when the Plinth verified it before it was written (R436). (DESIGN CHOICE, log entry 24.) -/
def slotBoots (s : State) (k : Nat) : Bool :=
  match s.nor.fw.getD k none with
  | none => false
  | some i => bitOf i.parts (if s.part = .h4 then 0 else 1) && i.stepping ≤ s.nat O.dieStepping && s.pln.arb ≤ i.arb

/-- The active slot is booted, or else the other one where it is no trial that failed; none means recovery (R442, R443). (DESIGN CHOICE, log entry 24.) -/
def bootActive (s : State) (failed : Option Nat) : State :=
  let a := s.nor.active
  let slot := if s.slotBoots a then some a else if s.slotBoots (1 - a) && failed != some (1 - a) then some (1 - a) else none
  s.modAtl fun x => { x with trialRuns := false, bootSlot := slot }

/-- The boot ROM reads the boot selector and chooses the slot (R442). (DESIGN CHOICE, log entry 24.) -/
def bootSelect (s : State) : State :=
  match s.nor.trial with
  | none => s.bootActive none
  | some t =>
    if !s.nor.attempted && s.slotBoots t then
      (s.modNor fun n => n.setSel n.active n.trial true).modAtl fun x => { x with trialRuns := true, bootSlot := some t }
    else ((s.modNor fun n => n.setSel n.active none false).atlNote 0x120E).bootActive (some t)

/-- A watchdog token that differs from the one before (R468). The spec gives no more of its value. (DESIGN CHOICE, log entry 104.) -/
def nextToken (s : State) : BitVec 16 := s.pln.token + BitVec.ofNat 16 (1 + (Config.freeBits 16 s.free).toNat % 65535)

/-- The firmware is entered: its version is shown, and the watchdog is armed (R433, R467). -/
def enterFirmware (s : State) : State :=
  match s.atl.bootSlot with
  | none => s
  | some k =>
    let v := match s.nor.fw.getD k none with
      | none => 0
      | some i => i.version
    let s : State := { s with pln := { s.pln with
      armed := true, token := nextToken s, deadline := s.clk.now + s.nat O.plinthWdPeriod * 1000000 } }
    ((s.drawFree).put O.firmwareVersion v).modAtl fun x => { x with runningSince := s.clk.now }

/-- Uncorrectable NOR reads are counted and logged (R438, R454). -/
def noteNor (s : State) (ue : List NorUe) : State := ue.foldl (fun s u => (s.bump O.norEccCount).atlNote 0x1208 [u.addr]) s

/-- NOR is read with uncorrectable errors: what they hit is lost, and they are logged (R438). (DESIGN CHOICE, log entry 130.) -/
def readNor (s : State) (ue : List NorUe) : State := (s.modNor fun n => ue.foldl Nor.lose n).noteNor ue

/-- The torn areas that a scan of the journals found are logged (R437). -/
def reportTorn (s : State) : State :=
  (s.nor.torn.foldl (fun s a => s.atlNote 0x1207 [a]) s).modNor fun n => { n with torn := [] }

/-- The versions in the firmware slots, 0 for an invalid one (R454). -/
def showSlots (s : State) : State :=
  let v : Nat → Nat := fun k => match s.nor.fw.getD k none with
    | none => 0
    | some i => i.version
  (((s.putO O.fwSlotVersions (leBytes 4 (v 0) ++ leBytes 4 (v 1))).put O.fwActiveSlot s.nor.active).put O.arbCount s.pln.arb)

/-! ## Warm reset (R428 to R431) -/

/-- What a warm reset takes from the dictionary, the stores, PTP and the update engine (R430). (DESIGN CHOICE, log entry 102.) -/
def resetEffects (s : State) : State :=
  let s := s.cfg.waiting.foldl (fun s a => s.dropAsk a 0x1203) s
  let who := s.cfg.requester
  let s : State := { s with cfg := { s.cfg with waiting := [], requester := who.filter fun a => a.vx.isNone } }
  let s := if s.nat O.cfgSwapState = 1 then s.refuseSwap 0x1203 else s
  let s := (s.modDict fun d => { d with transfers := [], nodes := [], txAny := false, aliveTx := 0, inbox := [] }).put O.dictDomainOpen 0
  let s := tearNor s
  let s := if s.nat O.patinaStoreState = 1 ∨ s.nat O.patinaStoreState = 2 then s.put O.patinaStoreState 4 else s
  let s := if s.nat O.cfgStoreState = 1 ∨ s.nat O.cfgStoreState = 2 then s.put O.cfgStoreState 4 else s
  let s := if 1 ≤ s.nat O.updateState ∧ s.nat O.updateState ≤ 3 then (s.put O.updateState 0).modAtl fun a => { a with image := [] } else s
  let s := (List.range 2).foldl (fun s d => if s.nat (O.ptpState d) = 0 then s else s.dropMaster d 1) s
  s.modAtl fun a => { a with crc := List.replicate 4 {} }

/-- A warm reset begins (R429, R430). (DESIGN CHOICE, log entry 102.) -/
def warmReset (s : State) (cause code : Nat) : State :=
  let sec := s.powerSeconds
  let s := ((s.put O.atlLastResetCause cause).put O.atlState 2).bump O.warmResetCount
  let s := if cause = 3 then s.bump O.lockstepCount else s
  let s :=
    if 3 ≤ cause ∧ cause ≤ 5 then
      ((s.modAtl fun a => { a with faultResets := (a.faultResets.filter fun t => sec < t + 3600) ++ [sec] }).put O.atlLastStatus code).raise 8 0
        s.atl.faultResets.length code
    else if cause = 6 then s.atlNote code
    else s
  let s := (s.modAtl fun a => { a with resetAt := s.clk.now }).resetEffects
  { s with pln := { s.pln with armed := false } }

end State

/-- LOCKSTEP_MISMATCH: both cores are held, and a warm reset follows (R428, R429). -/
def cmdLockstepMismatch (s : State) : State := if s.nat O.atlState = 1 ∨ s.nat O.atlState = 2 then s.warmReset 3 0x1201 else s

/-- SRAM_UNCORRECTABLE: a warm reset follows (R428, R429). -/
def cmdSramUncorrectable (s : State) : State := if s.nat O.atlState = 1 ∨ s.nat O.atlState = 2 then s.warmReset 4 0x1202 else s

/-- A write of 1 to atl_warm_reset (R429). -/
def atlWarmResetWrite (s : State) : Nat × State := (0, s.warmReset 7 0x1206)

/-- WARM_RESET_DONE: the image is verified again and Atelier runs, or it is halted or in recovery (R429, R431, R442, R443). (DEDUCED, log entry 103.) -/
def cmdWarmResetDone (s : State) (ue : List NorUe) : State :=
  if s.nat O.atlState ≠ 2 || (s.island 30).held then s
  else
    let cause := s.nat O.atlLastResetCause
    if 3 ≤ cause ∧ cause ≤ 5 ∧ 3 ≤ s.atl.faultResets.length then ((s.put O.atlState 3).atlNote 0x1204).refreshFaults
    else
      let s := (s.readNor ue).bootSelect
      if s.atl.bootSlot.isNone then ((s.put O.atlState 4).modAtl fun a => { a with wasRecovery := true }).refreshFaults
      else
        let s := ((s.put O.atlState 1).enterFirmware).settle 8 0
        ((s.reportTorn).showSlots).atlNote 0x1206 [(s.clk.now - s.atl.resetAt) / 1000000]

/-- TRIAL_CONFIRM: a trial image that has run for 60 s becomes active, and the anti-rollback count advances (R442). -/
def cmdTrialConfirm (s : State) : State :=
  match s.nor.trial with
  | none => s
  | some t =>
    if !s.atlRuns || !s.atl.trialRuns then s
    else
      let s := (s.elapseTo (s.atl.runningSince + 60000000000)).modAtl fun a => { a with trialRuns := false }
      let s := (s.modNor fun n => n.setSel t none false).bump O.updateCount
      let v := match s.nor.fw.getD t none with
        | none => 0
        | some i => i.arb
      let s : State := { s with pln := { s.pln with arb := max s.pln.arb (min v 128) } }
      (if 128 < v then s.atlNote 0x120F else s).showSlots

/-! ## Event log (R445 to R448) -/

/-- The 32 bytes of an entry (R445). The parameters of 0x0912 are the ones R199 gives. (DESIGN CHOICE, log entry 13.) -/
def logBytes (e : LogEntry) : Bytes :=
  let p := if e.code = 0x0912 then leBytes 4 (e.param.getD 0 0) ++ leBytes 2 (e.param.getD 1 0) ++ leBytes 4 (e.param.getD 2 0)
    else (Config.logParam e.code e.param ++ zeros 10).take 10
  let b := leBytes 4 e.seq ++ taiBytes e.time ++ leBytes 2 e.code ++ leBytes 1 (maskOf [e.pinned, e.fault, e.unsynced]) ++ zeros 1 ++ p
  b ++ leBytes 4 (crc32c b)

/-- An area of NOR takes an entry: a ring of sectors of 127 entries, the oldest sector erased when the next one is needed (R447). -/
def ringPush (sectors : Nat) (l : List LogEntry) (e : LogEntry) : List LogEntry :=
  (if sectors * 127 ≤ l.length then l.drop 127 else l) ++ [e]

namespace State

/-- An entry is lost (R448). -/
def logLost (s : State) : State := ({ s with log := { s.log with lostSince := s.log.lostSince + 1 } } : State).bump O.logLostCount

/-- An entry moves into the SRAM buffer of 4,096 entries; in a full one a pinned entry takes the place of the oldest unpinned (R446, R448). -/
def toSram (s : State) (e : LogEntry) : State :=
  if s.log.sram.length < 4096 then { s with log := { s.log with sram := s.log.sram ++ [e] } }
  else if e.pinned && s.log.sram.any fun x => !x.pinned then
    ({ s with log := { s.log with sram := (s.log.sram.eraseIdx (s.log.sram.findIdx fun x => !x.pinned)) ++ [e] } } : State).logLost
  else s.logLost

/-- An entry reaches the event ring, and a pinned one the pinned log (R447). -/
def norLog (s : State) (e : LogEntry) : State :=
  s.modNor fun n => { n with ring := ringPush 528 n.ring e, pinned := if e.pinned then ringPush 16 n.pinned e else n.pinned }

/-- The losses since the last report become 0x1211, the next entry written (R448). -/
def norLost (s : State) : State :=
  if s.log.lostSince = 0 then s
  else
    let e : LogEntry := { seq := s.log.seq, time := s.ns, code := 0x1211, unsynced := s.nat O.timeState == 0, param := [s.log.lostSince] }
    ({ s with log := { s.log with seq := (s.log.seq + 1) % 2 ^ 32, lostSince := 0 } } : State).norLog e

/-- An entry is written to NOR under the hourly limit of unpinned entries (R448). -/
def writeLog (s : State) (e : LogEntry) : State :=
  let sec := s.powerSeconds
  let recent := s.log.rateTimes.filter fun t => sec < t + 3600
  if e.pinned then (s.norLost).norLog e
  else if 36000 ≤ recent.length then ({ s with log := { s.log with rateTimes := recent } } : State).logLost
  else (({ s with log := { s.log with rateTimes := recent ++ [sec] } } : State).norLost).norLog e

/-- The log's sequence objects (R454). -/
def showLog (s : State) : State :=
  (s.put O.logNewestSeq ((s.nor.ring.getLast?.map (·.seq)).getD 0 : Nat)).put O.logOldestSeq ((s.nor.ring.head?.map (·.seq)).getD 0 : Nat)

/-- Staged entries move to SRAM (R446). -/
def drainStaging (s : State) : State :=
  let es := s.log.staging
  es.foldl toSram ({ s with log := { s.log with staging := [] } })

/-- The saved record of time and counters (R349, R449). The erase count of the most used sector depends on wear the spec does not state. (DESIGN CHOICE, log entry 67.) -/
def saveState (s : State) : State :=
  let s := (s.put O.norEraseMax (max (s.nat O.norEraseMax) (Config.freeBits 32 s.free).toNat : Nat)).drawFree
  let c := [s.powerSeconds, s.nat O.coldStartCount, s.nat O.warmResetCount, s.nat O.lockstepCount, s.nat O.framesPresented,
    s.nat O.holdupLifetime, s.nat O.updateCount, s.nat O.norEraseMax]
  s.modNor fun n => { n with saved := some { time := s.ns, rate := s.tim.base, utc := s.int O.timeUtcOffset, counters := c, trips := s.thm.tripCount }, old := { n.old with saved := n.saved } }

end State

/-- LOG_NOR_FLUSH: staged entries move to SRAM, and while the window is open from there to NOR (R446 to R448). -/
def cmdLogNorFlush (s : State) : State :=
  if !s.atlRuns then s
  else
    let s := s.drainStaging
    if !s.flag O.thmNorWindow then s
    else
      let es := s.log.sram
      (es.foldl State.writeLog ({ s with log := { s.log with sram := [] } })).showLog

/-- STATE_JOURNAL_SAVE: every 60 s, while the window is open (R439, R449). -/
def cmdStateJournalSave (s : State) : State := if s.atlRuns && s.flag O.thmNorWindow then s.saveState else s

/-- HOLDUP_PARKED: NOR is idle, and what is not committed is abandoned (R150, R259, R439). -/
def cmdHoldupParked (s : State) : State :=
  if s.nat O.pwrHoldupState ≠ 1 then s
  else
    let s := (s.elapseTo (s.pwr.holdupAt + 10000000)).put O.pwrHoldupState 2
    let s := if s.nat O.patinaStoreState = 1 ∨ s.nat O.patinaStoreState = 2 then s.put O.patinaStoreState 4 else s
    let s := if s.nat O.cfgStoreState = 1 ∨ s.nat O.cfgStoreState = 2 then s.put O.cfgStoreState 4 else s
    if !s.atlRuns || !s.flag O.thmNorWindow then s
    else
      let s := s.drainStaging
      let es := s.log.sram
      let first := (es.filter fun e => e.pinned && e.code != 0x1103).take 8
      let pf := es.filter fun e => e.code == 0x1103
      let rest := (es.filter fun e => e.pinned && e.code != 0x1103).drop 8
      let lost := (es.filter fun e => !e.pinned).length
      let s : State := { s with log := { s.log with sram := rest } }
      let s := (first ++ pf).foldl State.norLog s
      let s := (List.range lost).foldl (fun s _ => s.logLost) s
      (s.showLog).saveState

/-! ## Updates (R440, R444) -/

/-- Whether an update may be opened (R444). -/
def updateOpenOk (s : State) : Bool := s.nat O.updateState == 0 || s.nat O.updateState == 4 || s.nat O.updateState == 5

/-- Whether an image's header, part and stepping are valid (R440, R444). -/
def imageOk (s : State) (img : Bytes) : Bool :=
  let kind := fieldN img 6 1
  let code := fieldN img 0x0C 4
  352 ≤ img.length && fieldN img 0 4 == 0x41474D49 && fieldN img 4 2 == 1 && (kind == 1 || kind == 2) &&
  fieldN img 0x10 4 == img.length && img.length ≤ 8388608 && code % 4 == 0 && code ≤ 917504 && code + 352 ≤ img.length &&
  (kind == 1 || (code == 0 && fieldN img 7 1 == 0)) &&
  bitOf (fieldN img 0x80 1) (if s.part = .h4 then 0 else 1) && fieldN img 0x81 2 ≤ s.nat O.dieStepping

/-- The close of update_image (R444). -/
def updateClose (s : State) (img : Bytes) : Nat × State :=
  if imageOk s img then
    (0, (s.put O.updateState 1).modAtl fun a => { a with image := img, updateTries := 0 })
  else (0x1209, s)

/-- An update fails (R444). -/
def updateFail (s : State) (code : Nat) : State :=
  let s := ((s.put O.updateState 5).put O.updateResult code).atlNote code
  if fieldN s.atl.image 6 1 = 1 then (s.modNor fun n => { n with fw := setAt n.fw (1 - n.active) none }).showSlots else s

/-- The status that the Plinth's checks of an image give, 0 where it passes (R136, R444). (DESIGN CHOICE, log entry 26.) -/
def imageCheck (s : State) (img : Bytes) : Nat :=
  let kind := fieldN img 6 1
  let key := if kind = 1 then Config.fwKey else Config.ownerKey
  let body := imageBody img
  if Config.sha384 body ≠ cut img 0x50 48 ∨ (kind = 1 ∧ Config.sha384 (cut img 256 (fieldN img 0x0C 4)) ≠ cut img 0x20 48) ∨
     !Config.ecdsaP384 key (Config.sha384 (img.take 256)) (img.drop (img.length - 96)) then 0x120A
  else if kind = 1 then (if fieldN img 7 1 < s.pln.arb then 0x120B else 0)
  else if !bronzeFormOk body then 0x1209
  else if !Config.ecdsaP384 Config.ownerKey (Config.sha384 (body.take 0x403100)) (cut body 0x403100 96) then 0x120A
  else 0

/-- UPDATE_VERIFY_DONE (R444). -/
def cmdUpdateVerifyDone (s : State) : State :=
  if s.nat O.updateState ≠ 1 then s
  else
    let c := imageCheck s s.atl.image
    if c = 0 then s.put O.updateState 2 else updateFail s c

/-- The firmware slot that an update writes (R443, R444). -/
def updateSlot (s : State) : Nat := if s.nat O.atlState = 4 then 0 else 1 - s.nor.active

/-- UPDATE_WRITE_BEGIN: the slot or copies are erased and programmed; recovery does not wait for the window (R443, R444). -/
def cmdUpdateWriteBegin (s : State) : State :=
  if s.nat O.updateState ≠ 2 || !(s.flag O.thmNorWindow || s.nat O.atlState == 4) then s
  else
    let s := s.put O.updateState 3
    if fieldN s.atl.image 6 1 = 1 then (s.modNor fun n => { n with fw := setAt n.fw (updateSlot s) none }).showSlots else s

/-- The image stands in NOR and has been read back (R444). -/
def updateWritten (s : State) : State :=
  let img := s.atl.image
  let s := (s.put O.updateState 4).put O.updateResult 0
  if fieldN img 6 1 = 1 then
    (s.modNor fun n => { n with fw := setAt n.fw (updateSlot s) (some
      { version := fieldN img 8 4, arb := fieldN img 7 1, parts := fieldN img 0x80 1, stepping := fieldN img 0x81 2 }) }).showSlots
  else ((s.modNor fun n => { n with bronze := [imageBody img, imageBody img] }).bump O.updateCount).atlNote 0x1216

/-- A write of update_apply: the staged firmware becomes the trial slot, and a warm reset follows (R444). -/
def updateApplyWrite (s : State) : Nat × State :=
  if s.nat O.updateState ≠ 4 ∨ fieldN s.atl.image 6 1 ≠ 1 then (0x1215, s)
  else
    let s := s.modNor fun n => n.setSel n.active (some (1 - n.active)) false
    (0, (s.put O.updateState 0).warmReset 6 0x120D)

/-! ## CRC units (R450 to R453) -/

/-- The polynomial of a unit (R450). -/
def crcPoly (u : Nat) : Nat := if u = 3 then polyE else polyC

/-- Change a CRC unit. -/
def State.modCrc (s : State) (u : Nat) (f : CrcUnit → CrcUnit) : State := s.modAtl fun a => { a with crc := modAt a.crc u f }

/-- CRC_RESULT of a unit as it reads (R451). -/
def crcResult (s : State) (u : Nat) : Nat := Nat.xor (s.atl.crc.getD u {}).reg 0xFFFFFFFF

/-- CRC_INIT: the register takes its initial value and the count 0 (R451). -/
def cmdCrcInit (s : State) (u : Nat) : State := if s.atlRuns then s.modCrc u fun c => { c with reg := 0xFFFFFFFF, count := 0 } else s

/-- CRC_DATA: the bytes of a store are fed in little-endian order (R452). -/
def cmdCrcData (s : State) (u : Nat) (data : Bytes) : State :=
  if s.atlRuns then s.modCrc u fun c => { c with reg := crcFeed (crcPoly u) c.reg data, count := (c.count + data.length) % 2 ^ 32 } else s

/-- CRC_SEED: the register resumes from a result, the count restarts (R451, R452). -/
def cmdCrcSeed (s : State) (u v : Nat) : State :=
  if s.atlRuns then s.modCrc u fun c => { c with reg := Nat.xor v 0xFFFFFFFF, count := 0 } else s

/-- CRC_ALIVE: at count 8 of unit 0 the next alive value is taken, fed and returned (R453). (DESIGN CHOICE, log entry 105.) -/
def cmdCrcAlive (s : State) (u : Nat) : State :=
  if !s.atlRuns || u != 0 then s
  else if (s.atl.crc.getD 0 {}).count = 8 then
    let a := s.nextAlive
    ((s.put O.vipexAliveTx a).modDict fun d => { d with txAny := true, aliveTx := a }).modCrc 0 fun c =>
      { c with reg := crcFeed polyC c.reg [BitVec.ofNat 8 a], count := 9, result := a }
  else s.modCrc 0 fun c => { c with aliveErr := true, result := 0xFFFFFFFF }

/-- LOCKSTEP_MISMATCH (R428). -/
def execLockstepMismatch (s : State) : Host.Outcome State Fault Refusal := .next (s.ifLive cmdLockstepMismatch)

/-- SRAM_UNCORRECTABLE (R428). -/
def execSramUncorrectable (s : State) : Host.Outcome State Fault Refusal := .next (s.ifLive cmdSramUncorrectable)

/-- WARM_RESET_DONE (R429). -/
def execWarmResetDone (s : State) (ue : List NorUe := []) : Host.Outcome State Fault Refusal := .next (s.ifLive fun s => cmdWarmResetDone s ue)

/-- TRIAL_CONFIRM (R442). -/
def execTrialConfirm (s : State) : Host.Outcome State Fault Refusal := .next (s.ifLive cmdTrialConfirm)

/-- STATE_JOURNAL_SAVE (R439). -/
def execStateJournalSave (s : State) : Host.Outcome State Fault Refusal := .next (s.ifLive cmdStateJournalSave)

/-- LOG_NOR_FLUSH (R446). -/
def execLogNorFlush (s : State) : Host.Outcome State Fault Refusal := .next (s.ifLive cmdLogNorFlush)

/-- HOLDUP_PARKED (R259). -/
def execHoldupParked (s : State) : Host.Outcome State Fault Refusal := .next (s.ifLive cmdHoldupParked)

/-- UPDATE_VERIFY_DONE (R444). -/
def execUpdateVerifyDone (s : State) : Host.Outcome State Fault Refusal := .next (s.ifLive cmdUpdateVerifyDone)

/-- UPDATE_WRITE_BEGIN (R444). -/
def execUpdateWriteBegin (s : State) : Host.Outcome State Fault Refusal := .next (s.ifLive cmdUpdateWriteBegin)

/-- CRC_INIT (R451). -/
def execCrcInit (u : Fin 4) (s : State) : Host.Outcome State Fault Refusal := .next (s.ifLive fun s => cmdCrcInit s u)

/-- CRC_DATA (R452). -/
def execCrcData (u : Fin 4) (data : Bytes) (s : State) : Host.Outcome State Fault Refusal := .next (s.ifLive fun s => cmdCrcData s u data)

/-- CRC_SEED (R451). -/
def execCrcSeed (u : Fin 4) (v : W32) (s : State) : Host.Outcome State Fault Refusal := .next (s.ifLive fun s => cmdCrcSeed s u v.toNat)

/-- CRC_ALIVE (R453). -/
def execCrcAlive (u : Fin 4) (s : State) : Host.Outcome State Fault Refusal := .next (s.ifLive fun s => cmdCrcAlive s u)

end Sys2Proof.Machine
end

