-- ==== Sys2Proof/Machine/Clip.lean ====
section
/-! DEFINITION. CLP: drives, volume and table, clip commands, playback and the host-loss fallback (R472 to R487). -/

namespace Sys2Proof.Machine

/-! ## Clip data (R479, R480, R482) -/

/-- The segments of clip data; none where a header fails R78 or the data does not end with a segment (R479). -/
def clipSegs : Nat → Bytes → Option (List Bytes)
  | 0, b => if b.isEmpty then some [] else none
  | n + 1, b =>
    if b.isEmpty then some []
    else if !segHeaderOk 3 b then none
    else (clipSegs n (b.drop (segLen b))).map fun r => b.take (segLen b) :: r

/-- The sections of a segment behind its header; none where a section's length is wrong (R81, R479). -/
def segSections : Nat → Bytes → Option (List Bytes)
  | 0, b => if b.isEmpty then some [] else none
  | n + 1, b =>
    if b.isEmpty then some []
    else
      let k := secLen b
      if k < 12 ∨ k % 4 ≠ 0 ∨ b.length < k then none else (segSections n (b.drop k)).map fun r => b.take k :: r

/-- The sections of one whole segment. -/
def sectionsOf (seg : Bytes) : Option (List Bytes) := segSections (seg.length / 12 + 1) (seg.drop 24)

/-- The markers of clip data: the relative epoch and the end of the segment that holds each one (R480). (DESIGN CHOICE, log entry 109.) -/
def clipMarks : Nat → List Bytes → List (Nat × Nat)
  | _, [] => []
  | off, g :: gs =>
    let e := off + g.length
    (((sectionsOf g).getD []).filter fun x => fieldN x 0 1 == 1).map (fun x => (fieldN x 8 8, e)) ++ clipMarks e gs

/-- The segments of stored clip data. -/
def segsOf (b : Bytes) : List Bytes := (clipSegs (b.length / 36 + 1) b).getD []

/-- The markers of stored clip data. -/
def marksOf (b : Bytes) : List (Nat × Nat) := clipMarks 0 (segsOf b)

/-- Whether numbers strictly increase. -/
def rising : List Nat → Bool
  | [] => true
  | [_] => true
  | a :: b :: r => a < b && rising (b :: r)

/-- The check of R479 on the clip's bytes with the new ones behind them. (DESIGN CHOICE, log entry 109.) -/
def clipDataOk (b : Bytes) : Bool :=
  match clipSegs (b.length / 36 + 1) b with
  | none => false
  | some [] => false
  | some (g :: gs) =>
    bitOf (fieldN g 5 1) 0 && gs.all (fun x => !bitOf (fieldN x 5 1) 0) &&
    (g :: gs).all (fun x => match sectionsOf x with
      | none => false
      | some secs => secs.all fun y => fieldN y 0 1 != 1 || !bitOf (fieldN y 20 4) 0) &&
    (let es := (clipMarks 0 (g :: gs)).map (·.1)
     es.headD 0 == 0 && rising es)

/-- The largest frame bytes of clip data (R480). -/
def largestFrame : Nat → List (Nat × Nat) → Nat
  | _, [] => 0
  | at_, m :: ms => max (m.2 - at_) (largestFrame m.2 ms)

/-- A section rewritten for a pass, with its CRC recomputed; one whose stored CRC fails stays as it is (R482). (DESIGN CHOICE, log entry 109.) -/
def rebaseSection (tf : Nat × Nat) (base : Nat) (sec : Bytes) : Bytes :=
  let body := sec.take (sec.length - 4)
  let sealed : Bytes → Bytes := fun b => b ++ leBytes 4 (crc32c b)
  if crc32c body ≠ fieldN sec (sec.length - 4) 4 then sec
  else if fieldN sec 0 1 = 1 then sealed (body.take 8 ++ leBytes 8 (base + fieldN sec 8 8) ++ body.drop 16)
  else if fieldN sec 0 1 = 6 then
    let t := (rhe ((base * tf.1 * 1000000000 + (fieldN sec 0x0C 8 * 1000000000 + fieldN sec 0x14 4) * tf.2 : Nat) : Int) tf.2).toNat
    sealed (body.take 0x0C ++ leBytes 8 (t / 1000000000) ++ leBytes 4 (t % 1000000000) ++ body.drop 0x18)
  else sec

/-- A segment rewritten for a pass (R482). -/
def rebaseSegment (tf : Nat × Nat) (base : Nat) (seg : Bytes) : Bytes :=
  match sectionsOf seg with
  | none => seg
  | some secs => seg.take 24 ++ secs.flatMap (rebaseSection tf base)

/-! ## Volume and table (R473 to R476) -/

/-- The data blocks of a drive: at most 1,953,125,000 blocks are used, and the first 1,024 are not data (R473, R474). -/
def driveBlocks (d : Drive) : Nat := min 1953125000 (d.capacity / 4096) - 1024

/-- The clip table entry's bytes (R475). -/
def clipEntry (id : Nat) (c : Option Clip) : Bytes :=
  match c with
  | none => leBytes 2 id ++ zeros 126
  | some c =>
    let b := leBytes 2 c.id ++ leBytes 1 c.state ++ zeros 1 ++ leBytes 4 c.frames ++ leBytes 8 c.start ++ leBytes 8 c.blocks ++ leBytes 8 c.len ++
      leBytes 4 c.bMax ++ leBytes 4 c.span ++ leBytes 4 c.tfNum ++ leBytes 4 c.tfDen ++ leBytes 8 c.created ++ zeros 68
    b ++ leBytes 4 (crc32c b)

/-- The table as clp_clip_table reads (R475, R488). -/
def clipTable (l : List Clip) : Bytes := (List.range 4096).flatMap fun i => clipEntry (i + 1) (l.find? (·.id == i + 1))

/-- The free ranges of the volume, lowest first: start and length in blocks. -/
def freeRanges (total : Nat) (l : List Clip) : List (Nat × Nat) :=
  let cs := l.mergeSort fun a b => a.start ≤ b.start
  let r := cs.foldl (fun (acc : List (Nat × Nat) × Nat) c => (acc.1 ++ [(acc.2, c.start - acc.2)], max acc.2 (c.start + c.blocks))) ([], 0)
  r.1 ++ [(r.2, total - r.2)]

namespace State

/-- Change the clip store. -/
def modClp (s : State) (f : Clp → Clp) : State := { s with clp := f s.clp }

/-- Log a CLP code. -/
def clpNote (s : State) (code : Nat) (param : List Nat := []) : State := s.note O.clpLastStatus code param

/-- A drive. -/
def drive (s : State) (d : Nat) : Drive := s.clp.drives.getD d {}

/-- Whether a drive is READY. -/
def driveReady (s : State) (d : Nat) : Bool := s.nat (O.clpDriveState d) == 1

/-- Change a drive. -/
def modDrive (s : State) (d : Nat) (f : Drive → Drive) : State := s.modClp fun c => { c with drives := modAt c.drives d f }

/-- The volume's blocks: the smaller drive's when MIRRORED, both drives' when SPANNED; the volume counts data blocks, CLP0's first. (DESIGN CHOICE, log entry 107.) -/
def volumeBlocks (s : State) : Nat :=
  match s.nat O.clpLayout with
  | 1 => if s.driveReady 0 && s.driveReady 1 then min (driveBlocks (s.drive 0)) (driveBlocks (s.drive 1))
         else if s.driveReady 0 then driveBlocks (s.drive 0) else driveBlocks (s.drive 1)
  | 2 => driveBlocks (s.drive 0) + driveBlocks (s.drive 1)
  | _ => 0

/-- A clip of the table. -/
def clip (s : State) (id : Nat) : Option Clip := s.clp.table.find? (·.id == id)

/-- A clip's bytes. -/
def clipData (s : State) (id : Nat) : Bytes := ((s.clp.data.find? (·.1 == id)).map (·.2)).getD []

/-- Replace a clip in the table. -/
def setClip (s : State) (c : Clip) : State := s.modClp fun x => { x with table := (x.table.filter fun y => y.id != c.id) ++ [c] }

/-- Whether hold-up keeps CLP from issuing commands (R487). (DESIGN CHOICE, log entry 110.) -/
def clpHeld (s : State) : Bool := s.nat O.pwrHoldupState == 1 || s.nat O.pwrHoldupState == 2

/-- The volume's objects (R488). -/
def showVolume (s : State) : State :=
  ((s.put O.clpCapacity (4096 * s.volumeBlocks : Nat)).put O.clpFreeLargest (4096 * maxN ((freeRanges s.volumeBlocks s.clp.table).map (·.2)) : Nat)).put
    O.clpClipCount s.clp.table.length

/-- The table is committed into the copy that does not hold the highest generation, on every READY drive (R476). (DESIGN CHOICE, log entry 108.) -/
def commitTable (s : State) : State :=
  let g := s.clp.gen
  let t := s.clp.table
  let put : Drive → Drive := fun d => if d.copyA.any (·.1 == g) then { d with copyB := some (g + 1, t) } else { d with copyA := some (g + 1, t) }
  let s := (List.range 2).foldl (fun s d => if s.driveReady d then s.modDrive d put else s) s
  (s.modClp fun c => { c with gen := g + 1 }).showVolume

end State

/-! ## Playback and fallback (R481 to R486) -/

/-- The earliest start epoch (R481). -/
def earliestStart (s : State) : Nat :=
  let next := match s.sdec.lastEpoch with
    | none => 0
    | some b => b + 1
  max next (s.curEpoch + s.nat O.clpReadahead + 1)

/-- The checks of R481: 0 where the play is accepted. `host` makes the check of the source. -/
def playCheck (s : State) (id arg : Nat) (host : Bool) : Nat :=
  match s.clip id with
  | none => 0x1409
  | some c =>
    let tf := s.tf
    if c.state ≠ 2 then 0x1409
    else if host && s.nat O.streamSource != 3 then 0x1405
    else if s.clp.play.isSome then 0x1404
    else if c.tfNum * tf.2 ≠ tf.1 * c.tfDen then 0x1407
    else if s.nat O.clpRatedRead * 1000000 * tf.1 < c.bMax * tf.2 ∨ 1073741824 < c.bMax * s.nat O.clpReadahead then 0x1406
    else if arg ≠ 0 ∧ arg < earliestStart s then 0x1414
    else 0

/-- A play begins (R481). -/
def beginPlay (s : State) (id passes arg : Nat) (fallback : Bool) : State :=
  let start := if arg = 0 then earliestStart s else arg
  let s := s.modClp fun c => { c with play := some { clip := id, passes := passes, start := start, fallback := fallback } }
  ((((s.put O.clpPlayState (if fallback then 2 else 1)).put O.clpPlayClip id).put O.clpPlayBase start)).regateStream

/-- Why no fallback can start, 0 where it can (R485). -/
def fallbackReason (s : State) : Nat :=
  if s.nat O.clpFallbackClip = 0 then 0x1409
  else if s.nat O.clpState ≠ 2 then 0x1413
  else playCheck s (s.nat O.clpFallbackClip) 0 false

/-- The fallback starts at the declaration of silence, after a host-commanded play, or is unavailable (R485). -/
def startFallback (s : State) : State :=
  match s.clp.play with
  | some p => if p.fallback then s else s.modClp fun c => { c with fallbackDue := true }
  | none =>
    let r := fallbackReason s
    if r ≠ 0 then (s.put O.clpLastStatus 0x140C).raise 9 0 0 0x140C [r]
    else
      let s := (s.modClp fun c => { c with savedSource := s.nat O.streamSource }).put O.streamSource 3
      let s : State := { s with hif := { s.hif with fallback := true } }
      (beginPlay s (s.nat O.clpFallbackClip) 0 0 true).clpNote 0x1410

/-- No clip plays any more; a fallback that waited for the play starts while the silence lasts (R482, R485). -/
def endPlay (s : State) : State :=
  let due := s.clp.fallbackDue && s.hif.hostSilent
  let s := (s.modClp fun c => { c with play := none, fallbackDue := false })
  let s := ((s.put O.clpPlayState 0).put O.clpPlayClip 0).regateStream
  if due then startFallback s else s

/-- The fallback ends: the source returns (R486). -/
def endFallback (s : State) : State :=
  let s := s.modClp fun c => { c with play := none, fallbackDue := false }
  let s := ((s.put O.clpPlayState 0).put O.clpPlayClip 0).put O.streamSource s.clp.savedSource
  ((({ s with hif := { s.hif with fallback := false } } : State).clpNote 0x140F)).regateStream

/-- A play that must stop for a reason other than STOP (R484, R487): with it a fallback. -/
def stopPlay (s : State) : State :=
  match s.clp.play with
  | none => s
  | some p => if p.fallback then endFallback s else endPlay s

/-- A committed swap that changes Tf stops a play at its binding (R484). -/
def clpTfChange (s : State) : State := if s.clp.play.isSome then (stopPlay s).clpNote 0x1407 else s

/-- A write of 1 to clp_fallback_release (R486). -/
def fallbackReleaseWrite (s : State) : Nat × State :=
  if s.hif.hostSilent then (0x140E, s)
  else if s.hif.fallback then (0, endFallback s)
  else (0, s.modClp fun c => { c with fallbackDue := false })

/-- A play's clip and the end of the bytes read next: of the frame's, or of the rest behind the last marker (R480, R483). -/
def nextRead (s : State) (p : Play) : Option (Clip × Nat) :=
  match s.clip p.clip with
  | none => none
  | some c =>
    let ms := marksOf (s.clipData p.clip)
    some (c, match ms[p.frame]? with
      | some m => m.2
      | none => c.len)

/-- The drive that holds a byte of the volume, and a byte's place in its data area. -/
def driveOf (s : State) (byte : Nat) : Nat × Nat :=
  let d0 := 4096 * driveBlocks (s.drive 0)
  if s.nat O.clpLayout = 2 then (if byte < d0 then (0, byte) else (1, byte - d0))
  else (if s.driveReady 0 then 0 else 1, byte)

/-- CLP_READ_ISSUE: the reads of the next frame's bytes, once the stream queue has room (R483). -/
def cmdClpReadIssue (s : State) : State :=
  match s.clp.play with
  | none => s
  | some p =>
    if p.reading.isSome || s.nat O.clpState != 2 || s.clpHeld then s
    else match nextRead s p with
      | none => s
      | some (c, e) =>
        let n := e - p.pos
        if !s.queueRoom n then s
        else
          let d := driveOf s (4096 * c.start + p.pos)
          (s.modClp fun x => { x with play := some { p with reading := some (n, d.1, s.clk.now) } }).emit
            (.drive d.1 false (4096 * 1024 + d.2) n)

/-- CLP_READ_DONE: the segments are rebased to the pass and enter the stream queue (R482). -/
def cmdClpReadDone (s : State) : State :=
  match s.clp.play with
  | none => s
  | some p => match p.reading, s.clip p.clip with
    | some (n, _, _), some c =>
      let base := p.start + p.pass * c.span
      let segs := segsOf (cut (s.clipData p.clip) p.pos n)
      let bytes := segs.flatMap (rebaseSegment s.tf base)
      let s := if bytes.isEmpty || s.source != 3 then s else s.enqueue 3 bytes
      let p' : Play := { p with pos := p.pos + n, frame := p.frame + 1, reading := none }
      if p'.pos < c.len then s.modClp fun x => { x with play := some p' }
      else if p.passes ≠ 0 ∧ p.passes ≤ p.pass + 1 then endPlay (s.modClp fun x => { x with play := some p' })
      else
        (s.modClp fun x => { x with play := some { p' with pass := p.pass + 1, pos := 0, frame := 0 } }).put O.clpPlayBase
          (p.start + (p.pass + 1) * c.span : Nat)
    | _, _ => s

/-- A drive fault: failed or warning (R473, R484, R493). -/
def driveFault (s : State) (d code : Nat) : State := (s.put O.clpLastStatus code).raise 12 0 d code [d]

/-- The clips of a SPANNED volume with blocks on a drive become LOST (R484). -/
def loseClips (s : State) (d : Nat) : State :=
  let d0 := driveBlocks (s.drive 0)
  let hit : Clip → Bool := fun c => 0 < c.blocks && (if d = 0 then c.start < d0 else d0 < c.start + c.blocks)
  if s.clp.table.any hit then
    (driveFault (s.modClp fun x => { x with table := x.table.map fun c => if hit c then { c with state := 3 } else c }) d 0x1411).commitTable
  else s

/-- CLP_READ_FAIL: the read is issued again to the mirror, or a spanned play stops; three failures in 60 s fail the drive (R484). -/
def cmdClpReadFail (s : State) : State :=
  match s.clp.play with
  | none => s
  | some p => match p.reading with
    | none => s
    | some (n, d, _) =>
      let now := s.clk.now
      let fails := ((s.drive d).fails.filter fun t => now < t + 60000000000) ++ [now]
      let s := (s.bump O.clpReadFailCount).modDrive d fun x => { x with fails := fails }
      let s := if 3 ≤ fails.length ∧ s.driveReady d then driveFault (s.put (O.clpDriveState d) 2) d 0x140D else s
      if s.nat O.clpLayout = 2 then loseClips (stopPlay (s.modClp fun x => { x with play := some { p with reading := none } })) d
      else if s.driveReady (1 - d) then
        match s.clip p.clip with
        | none => s
        | some c => (s.modClp fun x => { x with play := some { p with reading := some (n, 1 - d, now) } }).emit
            (.drive (1 - d) false (4096 * (1024 + c.start) + p.pos) n)
      else stopPlay s

/-- CLP_HEALTH_POLL: a critical warning is logged; the drive is used on (R473). -/
def cmdClpHealthPoll (s : State) (d : Nat) (warn : Bool) : State :=
  if s.nat O.clpState = 2 && s.driveReady d && warn && !s.clpHeld then driveFault s d 0x140D else s

/-! ## Commands (R477 to R479) -/

/-- FORMAT (R478). -/
def clpFormat (s : State) (v : Bytes) : Nat × State :=
  if !s.driveReady 0 || !s.driveReady 1 then (0x140D, s)
  else
    let lay : Nat := if fieldN v 1 1 = 2 then 2 else 1
    let id := s.clp.volumes + 1
    let s := s.modClp fun c => { c with volumes := id, table := [], data := [], gen := 1 }
    let s := (List.range 2).foldl (fun s d => s.modDrive d fun x => { x with header := some (lay, d, id), copyA := some (1, []), copyB := some (0, []) }) s
    (0, (s.put O.clpLayout lay).showVolume)

/-- CREATE (R478). -/
def clpCreate (s : State) (v : Bytes) : Nat × State :=
  let want := fieldN v 2 2
  let used := s.clp.table.map (·.id)
  let id := if want = 0 then (lowestFree 4096 (used.map (· - 1))).map (· + 1) else some want
  match id with
  | none => (0x1401, s)
  | some id =>
    if used.contains id ∨ 4096 < id then (0x1402, s)
    else
      let n := ceilDiv (fieldN v 8 8) 4096
      match (freeRanges s.volumeBlocks s.clp.table).find? fun r => n ≤ r.2 with
      | none => (0x1403, s)
      | some r =>
        let c : Clip := { id := id, state := 1, start := r.1, blocks := n, tfNum := fieldN v 0x10 4, tfDen := fieldN v 0x14 4, created := s.ns / 1000000000 }
        (0, (((s.setClip c).modClp fun x => { x with data := (x.data.filter (·.1 != id)) ++ [(id, [])] }).put O.clpLastId id).commitTable)

/-- Whether a range of HBM lies in host scratch or the Rasp partition (R478). -/
def clpRange (s : State) (a n : Nat) : Bool :=
  a + n ≤ s.memTop && 0 < n && s.partitionOf a == s.partitionOf (a + n - 1) && (s.partitionOf a == 5 || s.partitionOf a == 10)

/-- WRITE (R478, R479). -/
def clpWrite (s : State) (v : Bytes) : Nat × State :=
  let n := fieldN v 4 4
  let a := fieldN v 8 8
  match s.clip (fieldN v 2 2) with
  | none => (0x1409, s)
  | some c =>
    if c.state ≠ 1 then (0x1409, s)
    else if n % 4 ≠ 0 ∨ n < 36 ∨ 268435456 < n ∨ a % 4 ≠ 0 then (0x1408, s)
    else if !clpRange s a n then (0x0A03, s)
    else if 4096 * c.blocks < c.len + n then (0x1403, s)
    else
      let all := s.clipData c.id ++ s.hbmRead a n
      if !clipDataOk all then (0x1408, s)
      else
        let d := driveOf s (4096 * c.start + c.len)
        let s := s.modClp fun x => { x with data := (x.data.filter (·.1 != c.id)) ++ [(c.id, all)] }
        (0, (s.setClip { c with len := c.len + n, frames := (marksOf all).length }).emit (.drive d.1 true (4096 * 1024 + d.2) n))

/-- A clip as READY, with what its data gives (R478, R480). (DESIGN CHOICE, log entry 110.) -/
def readyClip (c : Clip) (b : Bytes) : Clip :=
  let ms := marksOf b
  { c with state := 2, frames := ms.length, bMax := largestFrame 0 ms, span := (ms.getLast?.map fun m => m.1 + 1).getD 0 }

/-- CLOSE (R478). -/
def clpClose (s : State) (v : Bytes) : Nat × State :=
  match s.clip (fieldN v 2 2) with
  | none => (0x1409, s)
  | some c =>
    if c.state ≠ 1 then (0x1409, s)
    else if (marksOf (s.clipData c.id)).isEmpty then (0x1408, s)
    else (0, (s.setClip (readyClip c (s.clipData c.id))).commitTable)

/-- DELETE (R478). -/
def clpDelete (s : State) (v : Bytes) : Nat × State :=
  let id := fieldN v 2 2
  if (s.clip id).isNone then (0x1409, s)
  else if s.nat O.clpFallbackClip = id || s.clp.play.any (·.clip == id) then (0x140B, s)
  else (0, (s.modClp fun x => { x with table := x.table.filter (·.id != id), data := x.data.filter (·.1 != id) }).commitTable)

/-- PLAY (R481). -/
def clpPlay (s : State) (v : Bytes) : Nat × State :=
  let c := playCheck s (fieldN v 2 2) (fieldN v 8 8) true
  if c ≠ 0 then (c, s) else (0, beginPlay s (fieldN v 2 2) (fieldN v 0x10 4) (fieldN v 8 8) false)

/-- STOP: a play ends at once; a fallback ends only by its release (R482, R486). (DESIGN CHOICE, log entry 110.) -/
def clpStopCmd (s : State) : Nat × State :=
  match s.clp.play with
  | none => (0, s)
  | some p => if p.fallback then (0x140A, s) else (0, endPlay s)

/-- A command's outcome is set (R477). -/
def clpOutcome (r : Nat × State) : State :=
  let s := (r.2.put O.clpCmdState (if r.1 = 0 then 2 else 3)).put O.clpCmdResult r.1
  let s := s.modClp fun c => { c with cmd := none }
  if r.1 = 0 then s else s.clpNote r.1

/-- A write of clp_command (R477): PLAY and STOP act at once, the others run until CLP_COMMAND_DONE. (DESIGN CHOICE, log entry 110.) -/
def clpCommandWrite (s : State) (v : Bytes) : Nat × State :=
  let op := fieldN v 0 1
  if s.nat O.clpState ≠ 2 then (0x1413, s)
  else if s.nat O.clpCmdState = 1 ∨ s.clpHeld then (0x140A, s)
  else if s.clp.play.isSome ∧ op ≠ 6 ∧ op ≠ 7 then (0x140A, s)
  else if op = 0 ∨ 7 < op ∨ (op = 1 ∧ fieldN v 1 1 ≠ 1 ∧ fieldN v 1 1 ≠ 2) then (0x1605, s)
  else if op = 6 then (0, clpOutcome (clpPlay s v))
  else if op = 7 then (0, clpOutcome (clpStopCmd s))
  else (0, (s.put O.clpCmdState 1).modClp fun c => { c with cmd := some v })

/-- The running command ends (R477). (DESIGN CHOICE, log entry 108.) -/
def finishCommand (s : State) : State :=
  match s.clp.cmd with
  | none => s
  | some v => clpOutcome (match fieldN v 0 1 with
    | 1 => clpFormat s v
    | 2 => clpCreate s v
    | 3 => clpWrite s v
    | 4 => clpClose s v
    | _ => clpDelete s v)

/-- CLP_COMMAND_DONE: a command that took time ends (R477). In hold-up no command goes on (R487). -/
def cmdClpCommandDone (s : State) : State := if s.nat O.clpState = 2 && !s.clpHeld then finishCommand s else s

/-! ## Starting and stopping (R474, R476, R487) -/

/-- A drive's state at STARTING (R472, R474, R487). (DESIGN CHOICE, log entry 107.) -/
def probeState (p : DriveProbe) (own other : Option (Nat × Nat × Nat)) : Nat :=
  if !p.present then 0
  else if !p.ready then 2
  else if !p.subset || !p.headerOk || (other.isSome && own.map (·.2.2) != other.map (·.2.2)) then 3
  else 1

/-- One drive at the start of the clip store: its state, its capacity, and its fault (R474, R487). -/
def probeDrive (s : State) (d : Nat) (p : DriveProbe) (st : Nat) : State :=
  let s := (s.put (O.clpDriveState d) (st : Nat)).modDrive d fun x => { x with capacity := if p.present then p.capacity else x.capacity, fails := [] }
  if st = 1 then s.settleItem 12 0 d else if st = 2 then driveFault s d 0x140D else s

/-- The table copies of a READY drive, each with whether it reads back intact (R476). -/
def tableCopies (s : State) (d : Nat) (p : DriveProbe) : List (Bool × Option (Nat × List Clip)) :=
  if s.driveReady d then [(p.copyAOk, (s.drive d).copyA), (p.copyBOk, (s.drive d).copyB)] else []

/-- The layout that the drives' headers name (R474). (DESIGN CHOICE, log entry 107.) -/
def foundLayout (s : State) : Nat :=
  ((if s.driveReady 0 then (s.drive 0).header.map (·.1) else if s.driveReady 1 then (s.drive 1).header.map (·.1) else none).getD 0)

/-- A table is in use: a clip that was being written is READY with what it held (R476, R481). -/
def useTable (s : State) (best : Nat × List Clip) : State :=
  let fix : Clip → Clip := fun c => if c.state = 1 then readyClip c ((s.clipData c.id).take c.len) else c
  s.modClp fun c => { c with
    gen := best.1, table := best.2.map fix, play := none, cmd := none, fallbackDue := false
    data := c.data.filterMap fun x => (best.2.find? (·.id == x.1)).map fun y => (x.1, x.2.take y.len) }

/-- With layout 2, the clips of a drive that is not READY are lost (R485). -/
def loseAbsent (s : State) : State :=
  if s.nat O.clpLayout = 2 then (List.range 2).foldl (fun s d => if s.driveReady d then s else loseClips s d) s else s

/-- CLP_START_DONE: drives are READY, FAILED, FOREIGN or absent, and the table of the highest generation is used (R474, R476, R487). -/
def cmdClpStartDone (s : State) (p0 p1 : DriveProbe) : State :=
  if s.nat O.clpState ≠ 1 then s
  else
    let head : Nat → DriveProbe → Option (Nat × Nat × Nat) := fun d p => if p.present && p.ready && p.headerOk then (s.drive d).header else none
    let s := probeDrive (probeDrive s 0 p0 (probeState p0 (head 0 p0) (head 1 p1))) 1 p1 (probeState p1 (head 1 p1) (head 0 p0))
    let s := s.put O.clpLayout (foundLayout s)
    let all := tableCopies s 0 p0 ++ tableCopies s 1 p1
    let good := all.filterMap fun c => if c.1 then c.2 else none
    let best := good.foldl (fun b c => if b.1 < c.1 then c else b) (0, [])
    let s := if all.any fun c => !c.1 then s.clpNote 0x1412 else s
    ((((loseAbsent (useTable s best)).put O.clpState 2).put O.clpCmdState 0).showVolume).regateStream

/-- The clip store enters STOPPING: a play, and with it a fallback, stops (R487). -/
def clpStopping (s : State) : State := stopPlay s

/-- CLP_HEALTH_POLL (R473). -/
def execClpHealthPoll (drive : Fin 2) (warn : Bool) (s : State) : Host.Outcome State Fault Refusal :=
  .next (s.ifLive fun s => cmdClpHealthPoll s drive warn)

/-- CLP_START_DONE (R487). -/
def execClpStartDone (d0 d1 : DriveProbe) (s : State) : Host.Outcome State Fault Refusal := .next (s.ifLive fun s => cmdClpStartDone s d0 d1)

/-- CLP_COMMAND_DONE (R477). -/
def execClpCommandDone (s : State) : Host.Outcome State Fault Refusal := .next (s.ifLive cmdClpCommandDone)

/-- CLP_READ_ISSUE (R483). -/
def execClpReadIssue (s : State) : Host.Outcome State Fault Refusal := .next (s.ifLive cmdClpReadIssue)

/-- CLP_READ_DONE (R482). -/
def execClpReadDone (s : State) : Host.Outcome State Fault Refusal := .next (s.ifLive cmdClpReadDone)

/-- CLP_READ_FAIL (R484). -/
def execClpReadFail (s : State) : Host.Outcome State Fault Refusal := .next (s.ifLive cmdClpReadFail)

end Sys2Proof.Machine
end

