-- ==== Sys2Proof/Machine/Plinth.lean ====
section
/-! DEFINITION. The Plinth: staging, agreement and commit of limits, stored limit records, and the watchdog (R456 to R468). -/

namespace Sys2Proof.Machine

/-! ## Limit sets (R458, R461, R462) -/

/-- The site-key slot of a limit set (R461). -/
def lsSlot (v : Bytes) : Nat := fieldN v 0x32 1

/-- The commit sequence number of a limit set. -/
def lsSeq (v : Bytes) : Nat := fieldN v 0x18 4

/-- Whether a site-key slot is empty (R458). -/
def slotEmpty (p : Pln) (k : Nat) : Bool := (p.siteKeys.getD k []).all (· == 0#8) && k < 4

/-- The active site-key slot: the one of the record in force, else the lowest one that holds a key (R462). -/
def activeSlot (p : Pln) : Option Nat :=
  match p.activeSlot with
  | some k => some k
  | none => (List.range 4).find? fun k => !slotEmpty p k

/-- Whether six rail bytes are 0 to 5 or 0xFF with no rail twice (R462). -/
def railsOk (r : Bytes) : Bool :=
  r.all (fun b => b.toNat ≤ 5 || b == 0xFF#8) && decide ((r.filter fun b => b != 0xFF#8).Nodup)

/-- Check 2: form (R462). -/
def lsForm (p : Pln) (v : Bytes) : Bool :=
  v.length == (if slotEmpty p (lsSlot v) then 320 else 224) && fieldN v 0 4 == 0x4C4E4C50 && fieldN v 4 2 == 1 &&
  fieldN v 6 2 == 0 && fieldN v 0x33 1 == 0 && (cut v 0x74 12).all (· == 0#8)

/-- Check 5: values (R462). -/
def lsValues (p : Pln) (v : Bytes) : Bool :=
  let wd := fieldN v 0x22 2
  railsOk (cut v 0x2C 6) && 100 ≤ wd && wd ≤ 10000 && decide (1600 ≤ fieldI v 0x20 2) && 400 ≤ fieldN v 0x1E 2 &&
  0 < fieldN v 0x28 4 && 24 * fieldN v 0x24 4 ≤ fieldN v 0x28 4 && (activeSlot p).getD 0 ≤ lsSlot v && lsSlot v ≤ 3

/-- Check 6: ceilings and the floor of the frame period (R458, R462). -/
def lsCeilings (p : Pln) (v : Bytes) : Bool :=
  let c := p.ceilings
  let num := fieldN v 0x24 4
  let den := fieldN v 0x28 4
  fieldN v 0x1C 2 ≤ fieldN c 0 2 && (List.range 32).all (fun k => fieldN v (0x34 + 2 * k) 2 ≤ fieldN c 2 2) &&
  fieldN v 0x1E 2 ≤ min 1000 (fieldN c 4 2) && decide (fieldI v 0x20 2 ≤ min 1840 (fieldI c 6 2)) &&
  fieldN c 8 4 * den ≤ num * fieldN c 12 4 && den ≤ 120 * num

/-- The stage digest (R462). -/
def stageDigest (g : Stage) : Bytes := Config.sha384 (g.set ++ g.key)

namespace State

/-- Change the Plinth. -/
def modPln (s : State) (f : Pln → Pln) : State := { s with pln := f s.pln }

/-- Record and log a result of the Plinth (R462, R471). -/
def plnNote (s : State) (code : Nat) (param : List Nat := []) : State := s.note O.plinthLastResult code param

/-- Nothing is staged any more (R464, R465). -/
def unstage (s : State) : State :=
  ((s.put O.plinthState 0).putO O.plinthStagedSet []).modPln fun p => { p with stage := none, confirming := none, fellAt := none, siteSig := [], byConsent := false }

/-- The limits of a set come into force (R464, R466). -/
def applyLimits (s : State) (v : Bytes) : State :=
  let s := ((s.put O.plinthMeanDrive (fieldN v 0x1C 2)).put O.plinthLaneAmplitude (fieldN v 0x1E 2)).put O.plinthTripPoint (fieldI v 0x20 2)
  let s := ((s.put O.plinthWdPeriod (fieldN v 0x22 2)).put O.plinthTfMinNum (fieldN v 0x24 4)).put O.plinthTfMinDen (fieldN v 0x28 4)
  let s := (s.putO O.railOrder (cut v 0x2C 6)).put O.plinthCommitSeq (lsSeq v)
  let s := (List.range 32).foldl (fun s k => s.put (O.plinthPeakDrive k) (fieldN v (0x34 + 2 * k) 2)) s
  s.modPln fun p => { p with activeSlot := some (lsSlot v) }

/-- A confirmed commit takes effect, or conflicts (R464). -/
def applyCommit (s : State) : State :=
  match s.nat O.plinthState == 2, s.pln.stage with
  | true, some g =>
    let v := g.set
    let tf := s.castTf
    let short : Bool := decide (tf.1 * fieldN v 0x28 4 < fieldN v 0x24 4 * tf.2)
    let rails := cut v 0x2C 6 != s.oct O.railOrder && s.nat O.panelPowerState != 0
    if short || rails then (s.unstage).plnNote 0x130A
    else
      let rcd := v ++ g.sig ++ (if s.pln.byConsent then zeros 96 else s.pln.siteSig)
      let means := b2n s.pln.byConsent
      let s := s.modPln fun p => { p with
        siteKeys := if g.key.isEmpty then p.siteKeys else setAt p.siteKeys (lsSlot v) g.key
        toWrite := some rcd }
      (s.applyLimits v).unstage.plnNote 0x1301 [lsSeq v, means]
  | _, _ => s

/-- The commit is CONFIRMED; with neither head STARTING or ON it takes effect at once (R463, R464). -/
def confirmed (s : State) (consent : Bool) (sig : Bytes) : State :=
  let s := (s.put O.plinthState 2).modPln fun p => { p with byConsent := consent, siteSig := sig }
  if (List.range 2).any fun h => s.headState h == 1 || s.headState h == 2 then s else s.applyCommit

end State

/-- A write of plinth_stage: checks 1 to 6 (R462). (DESIGN CHOICE, log entry 106.) -/
def plinthStageWrite (s : State) (v : Bytes) : Nat × State :=
  let p := s.pln
  let code :=
    if s.nat O.plinthState ≠ 0 ∨ p.verifying.isSome then 0x1309
    else if !lsForm p v then 0x1306
    else if cut v 8 16 ≠ (s.oct O.serialNumber ++ zeros 16).take 16 then 0x1307
    else if lsSeq v ≠ s.nat O.plinthCommitSeq + 1 then 0x1308
    else if !lsValues p v then 0x1305
    else if !lsCeilings p v then 0x1304
    else 0
  if code ≠ 0 then (code, s.plnNote code)
  else (0, s.modPln fun p => { p with verifying := some { set := v.take 128, key := cut v 128 (v.length - 224), sig := v.drop (v.length - 96) } })

/-- STAGE_VERIFIED: the owner signature was checked (R462). -/
def cmdStageVerified (s : State) : State :=
  match s.pln.verifying with
  | none => s
  | some g =>
    let s := s.modPln fun p => { p with verifying := none }
    if Config.ecdsaP384 Config.ownerKey (stageDigest g) g.sig then
      ((s.put O.plinthState 1).putO O.plinthStagedSet g.set).modPln (fun p => { p with stage := some g, windowEnd := s.clk.now + 30000000000, fellAt := none })
        |>.put O.plinthLastResult 0
    else s.plnNote 0x1302

/-- The key that a CONFIRM is verified with: the new key of the STAGE, else the active site key (R463). -/
def confirmKey (s : State) : Option Bytes :=
  match s.pln.stage with
  | none => none
  | some g => if !g.key.isEmpty then some g.key else (activeSlot s.pln).map fun k => s.pln.siteKeys.getD k []

/-- A write of plinth_confirm (R463). -/
def plinthConfirmWrite (s : State) (v : Bytes) : Nat × State :=
  if s.nat O.plinthState = 0 then (0x130D, s.plnNote 0x130D)
  else if (confirmKey s).isNone then (0x1311, s.plnNote 0x1311)
  else (0, s.modPln fun p => { p with confirming := some v })

/-- CONFIRM_VERIFIED: the site signature was checked (R463). -/
def cmdConfirmVerified (s : State) : State :=
  match s.pln.confirming, s.pln.stage, confirmKey s with
  | some sig, some g, some key =>
    let s := s.modPln fun p => { p with confirming := none }
    if s.nat O.plinthState ≠ 1 then s
    else if Config.ecdsaP384 key (Config.sha384 ([0x43#8, 0x4E#8, 0x46#8, 0x4D#8] ++ stageDigest g)) sig then
      (s.put O.plinthLastResult 0).confirmed false sig
    else s.plnNote 0x1303
  | _, _, _ => s

/-- CONSENT_FALL: a fall within the window starts the count of 2,000 samples (R463). -/
def cmdConsentFall (s : State) : State :=
  if s.pln.consentLow then s
  else (s.putB O.plinthConsent true).modPln fun p => { p with
    consentLow := true, lowSince := s.clk.now, fellAt := if s.nat O.plinthState = 1 then some s.clk.now else none }

/-- CONSENT_CONFIRMED: CONSENT_N was low for 2,000 samples within the window (R463). -/
def cmdConsentConfirmed (s : State) : State :=
  match s.pln.fellAt with
  | none => s
  | some t =>
    if s.nat O.plinthState ≠ 1 || !s.pln.consentLow || s.pln.windowEnd < t + 2000000000 then s
    else (s.elapseTo (t + 2000000000)).confirmed true []

/-- CONSENT_STUCK: low for more than 60 s (R463). (DESIGN CHOICE, log entry 106.) -/
def cmdConsentStuck (s : State) : State :=
  if !s.pln.consentLow || s.pln.stuck then s
  else (((s.elapseTo (s.pln.lowSince + 60000000000)).modPln fun p => { p with stuck := true, fellAt := none })).post 0x130C

/-- CONSENT_RISE: a count is broken, and a stuck keyswitch has been seen high (R463). -/
def cmdConsentRise (s : State) : State :=
  (s.putB O.plinthConsent false).modPln fun p => { p with consentLow := false, stuck := false, fellAt := none }

/-- COMMIT_EXPIRED: the window closes without agreement (R465). -/
def cmdCommitExpired (s : State) : State :=
  if s.nat O.plinthState ≠ 1 then s else ((s.elapseTo s.pln.windowEnd).unstage).plnNote 0x130B

/-- A write of 1 to plinth_cancel (R465). -/
def plinthCancelWrite (s : State) : Nat × State :=
  match s.nat O.plinthState with
  | 1 => (0, (s.unstage).plnNote 0x130F)
  | 2 => (0x1309, s.plnNote 0x1309)
  | _ => (0, s)

/-- LIMIT_RECORD_WRITE: the record goes into the state journal while the window is open (R466). -/
def cmdLimitRecordWrite (s : State) : State :=
  match s.pln.toWrite with
  | none => s
  | some r =>
    if !s.atlRuns || !s.flag O.thmNorWindow then s
    else (s.modNor fun n => { n with limits := n.limits ++ [r] }).modPln fun p => { p with toWrite := none }

/-- Whether a stored record's owner signature verifies, with the key in its slot where it installed one (R466). -/
def limitRecordOk (p : Pln) (r : Bytes) : Bool :=
  let set := r.take 128
  let sig := cut r 128 96
  Config.ecdsaP384 Config.ownerKey (Config.sha384 set) sig ||
  Config.ecdsaP384 Config.ownerKey (Config.sha384 (set ++ p.siteKeys.getD (lsSlot set) [])) sig

/-- The stored records at a cold start: the valid one with the highest commit_seq applies (R466). -/
def verifyLimits (s : State) : State :=
  let ok := s.nor.limits.filter (limitRecordOk s.pln)
  let s := (s.nor.limits.filter fun r => !limitRecordOk s.pln r).foldl (fun s _ => s.post 0x130E) s
  match ok with
  | [] => s
  | r :: rs => s.applyLimits ((rs.foldl (fun a b => if lsSeq a < lsSeq b then b else a) r).take 128)

/-! ## Watchdog (R467, R468) -/

/-- The watchdog expires: a warm reset with cause WATCHDOG (R429, R467). (DESIGN CHOICE, log entry 104.) -/
def watchdogExpires (s : State) (bad : Bool) : State :=
  (s.modPln fun p => { p with badKick := bad, armed := false }).warmReset 5 0x1205

/-- WATCHDOG_EXPIRY: no valid kick within the period (R467). -/
def cmdWatchdogExpiry (s : State) : State := if s.pln.armed then watchdogExpires (s.elapseTo s.pln.deadline) false else s

/-- PLN_WD_KICK: the complement of the token restarts the watchdog, anything else expires it (R467, R468). -/
def cmdPlnWdKick (s : State) (v : Nat) : State :=
  if !s.pln.armed then s
  else if v = 65535 - s.pln.token.toNat then
    (s.modPln fun p => { p with token := s.nextToken, deadline := s.clk.now + s.nat O.plinthWdPeriod * 1000000 }).drawFree
  else watchdogExpires s true

/-- STAGE_VERIFIED (R462). -/
def execStageVerified (s : State) : Host.Outcome State Fault Refusal := .next (s.ifLive cmdStageVerified)

/-- CONFIRM_VERIFIED (R463). -/
def execConfirmVerified (s : State) : Host.Outcome State Fault Refusal := .next (s.ifLive cmdConfirmVerified)

/-- CONSENT_FALL (R463). -/
def execConsentFall (s : State) : Host.Outcome State Fault Refusal := .next (s.ifLive cmdConsentFall)

/-- CONSENT_CONFIRMED (R463). -/
def execConsentConfirmed (s : State) : Host.Outcome State Fault Refusal := .next (s.ifLive cmdConsentConfirmed)

/-- CONSENT_STUCK (R463). -/
def execConsentStuck (s : State) : Host.Outcome State Fault Refusal := .next (s.ifLive cmdConsentStuck)

/-- CONSENT_RISE (R463). -/
def execConsentRise (s : State) : Host.Outcome State Fault Refusal := .next (s.ifLive cmdConsentRise)

/-- COMMIT_EXPIRED (R465). -/
def execCommitExpired (s : State) : Host.Outcome State Fault Refusal := .next (s.ifLive cmdCommitExpired)

/-- LIMIT_RECORD_WRITE (R466). -/
def execLimitRecordWrite (s : State) : Host.Outcome State Fault Refusal := .next (s.ifLive cmdLimitRecordWrite)

/-- WATCHDOG_EXPIRY (R467). -/
def execWatchdogExpiry (s : State) : Host.Outcome State Fault Refusal := .next (s.ifLive cmdWatchdogExpiry)

/-- PLN_WD_KICK (R468). -/
def execPlnWdKick (v : W32) (s : State) : Host.Outcome State Fault Refusal := .next (s.ifLive fun s => cmdPlnWdKick s v.toNat)

end Sys2Proof.Machine
end

