-- ==== Sys2Proof/Machine/HostIf.lean ====
section
/-! DEFINITION. HIF: rings, completion entries, interrupts, registers of BAR0, direct-frame descriptors and the host-silence watchdog (R315 to R336). -/

namespace Sys2Proof.Machine

namespace State

/-- Change the host interface. -/
def modHif (s : State) (f : Hif → Hif) : State := { s with hif := f s.hif }

/-- 0x010B: a register write that R317 ignores. -/
def ringBusy (s : State) : State := (s.put O.hifLastStatus 0x010B).lastError 0x010B

/-- Whether the link can carry the device's own requests (R335, R336). -/
def linkUp (s : State) : Bool := s.hif.linkL0 && s.hif.busMaster && s.islandUp 0

/-- Host activity: the watchdog is armed, and a silence ends (R335, R336). -/
def activity (s : State) : State :=
  let s := s.modHif fun h => { h with activity := true, armed := true, silentPeriods := 0 }
  if s.hif.hostSilent then
    if s.linkUp then
      ((((s.modHif fun h => { h with hostSilent := false }).put O.hostState 1).settle 9 0).put O.hifLastStatus 0x0104).post 0x0104
    else s
  else s.put O.hostState 1

/-- Host silence is declared; direct-frame mode in force ends at the next latch point, and a request to enter it is left as it is (R336). -/
def declareSilence (s : State) : State :=
  if s.hif.hostSilent || !s.hif.armed then s
  else
    let s := s.modHif fun h => { h with hostSilent := true, directPending := h.direct || h.directPending, directReq := h.directReq && !h.direct }
    let s := (s.put O.hostState 2).bump O.hostSilentCount
    startFallback ((s.put O.hifLastStatus 0x0103).raise 9 0 0 0x0103)

/-- The watchdog's check at an epoch (R335). -/
def watchHost (s : State) : State :=
  let n := s.nat O.hostWatchdogEpochs
  let k := if s.hif.activity then 0 else s.hif.silentPeriods + 1
  let s := s.modHif fun h => { h with activity := false, silentPeriods := k }
  if s.hif.armed && n != 0 && n ≤ k then s.declareSilence else s

end State

/-! ## The PCIe function (R313, R314) -/

/-- Capabilities of the PCIe function (R313). -/
inductive PcieCap
  | msix (vectors : Nat)
  | aer
  | functionLevelReset
  | relaxedOrdering
  | latencyToleranceReporting
  | l1Substates
  deriving DecidableEq, Repr

/-- The configuration of the PCIe function, fixed for a part (R313, R314). Rates are in tenths of GT/s. -/
structure PcieFunction where
  rates : List Nat
  widths : List Nat
  laneReversal : Bool
  vendorId : Nat
  deviceId : Nat
  classCode : Nat
  maxPayload : Nat × Nat
  maxReadRequest : Nat × Nat
  tagBits : Nat
  maxOutstanding : Nat
  caps : List PcieCap
  bars : List Nat
  deriving DecidableEq, Repr

/-- The PCIe function of a part (R313, R314). -/
def pcieFunction (p : Part) : PcieFunction :=
  { rates := [25, 50, 80, 160, 320], widths := [1, 2, 4, 8, 16], laneReversal := true, vendorId := 0x1F9E
    deviceId := if p = .h4 then 0x09A4 else 0x09A2, classCode := 0x038000, maxPayload := (128, 512), maxReadRequest := (128, 4096)
    tagBits := 10, maxOutstanding := 768
    caps := [.msix 128, .aer, .functionLevelReset, .relaxedOrdering, .latencyToleranceReporting, .l1Substates]
    bars := [65536, 1048576, 8589934592] }

/-! ## Link events (R315, R335, R336) -/

/-- PCIE_LINK_LOSS (R335). -/
def cmdPcieLinkLoss (s : State) (k : LinkLoss) : State :=
  match k with
  | .l0Lost => (((s.modHif fun h => { h with linkL0 := false }).put O.pcieLinkSpeed 0).put O.pcieLinkWidth 0).declareSilence
  | .busMasterCleared => (s.modHif fun h => { h with busMaster := false }).declareSilence

/-- The registers of the HIF block and the MSI-X table take their reset values (R315). What is not a register of theirs stays. (DEDUCED, log entry 70.) -/
def hifReset (h : Hif) : Hif :=
  { queue := h.queue, lost := h.lost, hostSilent := h.hostSilent, fallback := h.fallback, directPending := h.direct, direct := h.direct
    warnRender := h.warnRender, warnNext := h.warnNext, armed := h.armed, activity := h.activity, silentPeriods := h.silentPeriods
    linkL0 := h.linkL0, busMaster := h.busMaster, held := h.held, prevFdEpoch := h.prevFdEpoch, fdrStale := h.fdrStale }

/-- PCIE_RESET (R315, R335): the read latches of the HIF block's own registers return to 0 with it. A Function Level Reset and a hot reset clear Bus Master Enable; link-down takes the link out of L0. (DEDUCED, log entry 70.) -/
def cmdPcieReset (s : State) (k : PcieReset) : State :=
  let s := (s.modHif hifReset).modScan fun x => { x with latches := x.latches.filter fun l => 0x400 ≤ l.1 }
  let s := match k with
    | .linkDown => ((s.modHif fun h => { h with linkL0 := false, busMaster := false }).put O.pcieLinkSpeed 0).put O.pcieLinkWidth 0
    | _ => s.modHif fun h => { h with busMaster := false }
  s.declareSilence.regateStream

/-- PCIE_LINK_UP: L0 again with Bus Master Enable set. The speed and width are what training negotiates, which no rule states (R313, R336). (DESIGN CHOICE, log entry 69.) -/
def cmdPcieLinkUp (s : State) : State :=
  let v := (Config.freeBits 8 s.free).toNat
  (((s.modHif fun h => { h with linkL0 := true, busMaster := true }).put O.pcieLinkSpeed (1 + v % 5 : Nat)).put O.pcieLinkWidth (2 ^ (v / 8 % 5) : Nat)).drawFree

/-! ## Rings (R317 to R319) -/

/-- The enable of a ring: set from 0 to 1 it starts at 0 (R317). -/
def ringEnable (r : Ring) (on : Bool) : Ring := if on && !r.en then { r with en := true, head := 0, tail := 0 } else { r with en := on }

/-- HIF_SEG_EN (R317). -/
def cmdHifSegEn (s : State) (on : Bool) : State :=
  (s.modHif fun h => { h with seg := ringEnable h.seg on, segStalled := h.segStalled && on }).regateStream

/-- HIF_FDR_EN (R317). -/
def cmdHifFdrEn (s : State) (on : Bool) : State :=
  s.modHif fun h => { h with
    fdr := ringEnable h.fdr on, prevFdEpoch := if on && !h.fdr.en then none else h.prevFdEpoch, fdrStale := if on && !h.fdr.en then 0 else h.fdrStale }

/-- HIF_CPL_EN (R317). -/
def cmdHifCplEn (s : State) (on : Bool) : State :=
  s.modHif fun h => { h with phase := if on && !h.cpl.en then true else h.phase, cpl := ringEnable h.cpl on }

/-- A tail or head index written by the host: at or above the size it is ignored and logged (R317). (DESIGN CHOICE, log entry 72.) -/
def indexWrite (s : State) (size v : Nat) (set : Hif → Nat → Hif) : State :=
  let s := s.activity
  let i := v % 65536
  if size ≤ i then s.ringBusy.post 0x010B [i] else s.modHif fun h => set h i

/-- SEG_DOORBELL (R317). -/
def cmdSegDoorbell (s : State) (v : Nat) : State := indexWrite s s.hif.seg.size v fun h i => { h with seg := { h.seg with tail := i } }

/-- FDR_TAIL (R317). -/
def cmdFdrTail (s : State) (v : Nat) : State := indexWrite s s.hif.fdr.size v fun h i => { h with fdr := { h.fdr with tail := i } }

/-- CPL_HEAD (R317, R323). -/
def cmdCplHead (s : State) (v : Nat) : State := indexWrite s s.hif.cpl.size v fun h i => { h with cpl := { h.cpl with head := i } }

/-- Whether a segment descriptor is well formed (R318, R319). -/
def segDescOk (d : Bytes) : Bool :=
  let n := fieldN d 8 4
  fieldN d 0 8 % 4 == 0 && n % 4 == 0 && 36 ≤ n && n ≤ 16777216 && fieldN d 0x0C 2 < 2 && fieldN d 0x0E 2 == 0 && fieldN d 0x14 4 == 0

/-- A descriptor is completed: its write-back, the head, and the interrupt (R318, R319). wb_time is stated for a copied segment alone. (DESIGN CHOICE, log entry 73.) -/
def segComplete (s : State) (d : Bytes) (status : Nat) : State :=
  let r := s.hif.seg
  let t := if status = 0 then s.ns else (Config.freeBits 64 s.free).toNat
  let s := if status = 0 then s else ((s.put O.hifLastStatus status).lastError status).drawFree
  let s := s.emit (.hostWrite (r.base + 32 * r.head + 0x10) (leBytes 2 status ++ leBytes 2 1 ++ zeros 4 ++ leBytes 8 t))
  let s := s.modHif fun h => { h with seg := { h.seg with head := (h.seg.head + 1) % max 1 h.seg.size }, segStalled := false }
  if bitOf (fieldN d 0x0C 2) 0 then s.irq 1 else s

/-- SEGMENT_DESCRIPTOR_COPY: the descriptor at SEG_HEAD is taken (R319, R320). (DESIGN CHOICE, log entries 16, 73.) -/
def cmdSegmentDescriptorCopy (s : State) (d : Bytes) (dma : Dma) : State :=
  let r := s.hif.seg
  if !r.en || r.head == r.tail || !s.linkUp then s
  else if !segDescOk d then segComplete s d 0x0101
  else if s.source ≠ 0 then segComplete s d 0x0106
  else
    let n := fieldN d 8 4
    if !s.queueRoom n then s.modHif fun h => { h with segStalled := true }
    else match dma with
      | .error => segComplete (s.bump O.dmaErrorCount) d 0x0102
      | .ok data =>
        if data.length ≠ n then segComplete (s.bump O.dmaErrorCount) d 0x0102
        else segComplete (((s.enqueue 0 data).bump O.segCopiedCount).bumpBy O.segCopiedBytes n) d 0

/-! ## Completion ring (R321 to R324, R328) -/

/-- The kind's number (R321). -/
def CplKind.code : CplKind → Nat
  | .admission => 1
  | .presented => 2
  | .markerRefused => 3
  | .direct => 4
  | .lost => 5

/-- The 64 bytes of an entry (R321). (DESIGN CHOICE, log entry 40.) -/
def cplBytes (c : Completion) (phase : Bool) : Bytes :=
  leBytes 1 c.kind.code ++ leBytes 1 (maskOf [phase, c.covered]) ++ leBytes 2 c.status ++ leBytes 4 c.tag ++ leBytes 8 c.number ++ leBytes 8 c.epoch ++
  leBytes 2 c.badBin ++ leBytes 1 c.badSub ++ leBytes 1 c.throttle ++ leBytes 2 c.derate ++ leBytes 2 c.sdecStatus ++ leBytes 4 c.cost ++
  leBytes 4 c.budget ++ leBytes 4 c.gen ++ leBytes 2 c.sdecCount ++ leBytes 2 c.warnStatus ++ leBytes 8 c.eventTime ++ leBytes 2 c.warnCount ++ zeros 6

/-- An entry is written at CPL_TAIL, its first four bytes last (R323), and the interrupt is moderated (R328). -/
def writeEntry (s : State) (c : Completion) : State :=
  let r := s.hif.cpl
  let b := cplBytes c s.hif.phase
  let a := r.base + 64 * r.tail
  let s := (s.emit (.hostWrite (a + 4) (b.drop 4))).emit (.hostWrite a (b.take 4))
  let t := (r.tail + 1) % max 1 r.size
  let s := s.modHif fun h => { h with
    cpl := { h.cpl with tail := t }, phase := if t = 0 then !h.phase else h.phase
    cplSince := h.cplSince + 1, cplFirstAt := if h.cplFirstAt.isSome then h.cplFirstAt else some s.clk.now }
  let s := if c.irq then s.irq 2 else s
  if max 1 s.hif.coalesceCount ≤ s.hif.cplSince ∨ s.hif.coalesceDelay = 0 then s.irq 0 else s

/-- COMPLETION_ENTRY_WRITE: a LOST entry after a loss, else the oldest that waits (R322 to R324). -/
def cmdCompletionEntryWrite (s : State) : State :=
  let r := s.hif.cpl
  if !r.en || !s.linkUp || r.size == 0 || (r.tail + 1) % max 1 r.size == r.head then s
  else if s.hif.lost ≠ 0 then
    writeEntry (s.modHif fun h => { h with lost := 0 }) { kind := .lost, status := 0x010A, eventTime := s.hif.lost % 2 ^ 32 }
  else match s.hif.queue with
    | [] => s
    | c :: cs =>
      let w := s.hif.warnNext
      let c := { c with warnStatus := if c.warnStatus = 0 then w.1 else c.warnStatus, warnCount := min 65535 (c.warnCount + w.2) }
      writeEntry (s.modHif fun h => { h with queue := cs, warnNext := (0, 0) }) c

/-- CPL_COALESCE_TIMER: DELAY µs after the first entry since CPL was cleared (R328). -/
def cmdCplCoalesceTimer (s : State) : State :=
  match s.hif.cplFirstAt with
  | none => s
  | some t => (s.elapseTo (t + s.hif.coalesceDelay * 1000)).irq 0

/-! ## Interrupt registers (R326, R327) -/

/-- IRQ_STATUS_CLEAR (R326, R328). -/
def cmdIrqStatusClear (s : State) (v : Nat) : State :=
  s.modHif fun h => { h with
    irqStatus := h.irqStatus - Nat.land h.irqStatus v
    cplSince := if bitOf v 0 then 0 else h.cplSince, cplFirstAt := if bitOf v 0 then none else h.cplFirstAt }

/-- IRQ_MASK_WRITE: a cause unmasked while set sends its message (R327). -/
def cmdIrqMaskWrite (s : State) (v : Nat) : State :=
  let old := s.hif.irqMask
  let s := s.modHif fun h => { h with irqMask := v % 256 }
  (List.range 8).foldl (fun s b => if bitOf old b && !bitOf v b && bitOf s.hif.irqStatus b then s.sendVector b else s) s

/-- A write of the MSI-X table: four words a vector, the last with the vector's mask; a pending vector unmasked is sent (R327). (PRESUMED, log entry 68.) -/
def msixWrite (s : State) (off v : Nat) : State :=
  let i := (off - 0xE000) / 16
  let s := s.modHif fun h => { h with msixTable := (h.msixTable.filter (·.1 != off)) ++ [(off, v)] }
  if off % 16 ≠ 12 then s
  else
    let on := bitOf v 0
    let was := bitOf s.hif.msixMask i
    let s := s.modHif fun h => { h with msixMask := if on = was then h.msixMask else if on then h.msixMask + 2 ^ i else h.msixMask - 2 ^ i }
    if !on && bitOf s.hif.msixPend i && !s.hif.msixFunctionMask then (s.modHif fun h => { h with msixPend := h.msixPend - 2 ^ i }).emit (.msix i) else s

/-! ## Registers read with a latch (R234, R316) -/

/-- The 64-bit registers of BAR0. -/
def reg64 (s : State) (off : Nat) : Option Nat :=
  match off with
  | 0x50 => some s.curEpoch
  | 0x300 => some s.hif.apertureBase
  | 0x400 => some s.scan.addrA
  | 0x408 => some s.scan.addrB
  | 0x410 => some s.scan.active.a
  | 0x418 => some s.scan.active.b
  | _ => none

/-- REG64_LOW_READ: the low half is read, and the register's own latch takes the high half (R234). -/
def cmdReg64LowRead (s : State) (off : Nat) : State :=
  match reg64 s off with
  | none => s
  | some v =>
    (s.modScan fun x => { x with latches := (x.latches.filter (·.1 != off)) ++ [(off, v / 2 ^ 32)] }).emit (.regData off (v % 2 ^ 32))

/-- TIME_NOW_READ: the seconds registers are latched (R316). -/
def cmdTimeNowRead (s : State) : State :=
  (s.modHif fun h => { h with latchSec := s.ns / 1000000000 }).emit (.regData 0x40 (s.ns % 1000000000))

/-! ## Frame addresses and direct frames (R232 to R234, R331 to R334) -/

/-- The check of R233: lines and CRC table lie wholly within one partition that SCAN reads. -/
def pairOk (s : State) (p : Pair) : Bool :=
  let l := s.lineBytes false
  let pitch := s.nat O.headCount * l
  let v := s.nat O.headVActive
  let span : Nat → Nat × Nat := fun a => (a, a + (v - 1) * pitch + l - 1)
  let ranges := [span p.a] ++ (if s.nat O.headCount = 2 then [span p.b] else []) ++
    (if p.crcSkip then [] else [(p.a + crcTableOffset, p.a + crcTableOffset + 16 * v - 1)])
  let q := s.partitionOf p.a
  (q == 6 || q == 10) && ranges.all fun r => r.2 < s.memTop && s.partitionOf r.1 == q && s.partitionOf r.2 == q

/-- A host's commit: checked, and staged as the pending pair (R232, R233). The result is 0 where it is pending. -/
def hostCommit (s : State) (p : Pair) : Nat × State :=
  if pairOk s p then (0, s.modScan fun x => { x with pend := some p, commitResult := 0 })
  else (0x0B08, ((s.modScan fun x => { x with commitResult := 0x0B08 }).bump O.scanCommitIgnoredCount).put O.scanLastStatus 0x0B08)

/-- The DIRECT entry of a descriptor that is consumed without being scanned (R334). (DEDUCED, log entry 61.) -/
def directEntry (s : State) (d : FdHeld) (code : Nat) : State :=
  let s := if code = 0x0B08 then s else (s.put O.hifLastStatus code).lastError code
  s.complete { kind := .direct, status := code, tag := d.tag, epoch := d.epoch, eventTime := s.ns, irq := d.irq }

/-- FRAME_COMMIT (R232, R233, R334). -/
def cmdFrameCommit (s : State) (v : Nat) : State :=
  let s := s.activity
  if !bitOf v 0 then s
  else if !s.hif.direct then
    ((s.modScan fun x => { x with commitResult := 0x0B06 }).bump O.scanCommitIgnoredCount).put O.scanLastStatus 0x0B06
  else
    let r := hostCommit s { a := s.scan.addrA, b := s.scan.addrB, crcSkip := bitOf v 1 }
    match r.1, r.2.hif.held with
    | 0, some d => if d.committed then (directEntry r.2 d 0x010D).modHif fun h => { h with held := none } else r.2
    | _, _ => r.2

/-- DIRECT_REQ (R331). -/
def cmdDirectReq (s : State) (on : Bool) : State :=
  if on = s.hif.directReq then s
  else if on && s.nat O.plinthMeanDrive < 65535 then (s.put O.pdpLastStatus 0x0C08).lastError 0x0C08
  else s.modHif fun h => { h with directReq := on, directPending := true }

/-- The commit instant of an epoch: k Tf - Tl - 5 µs (R334). -/
def commitInstant (s : State) (k : Nat) : Nat := s.tEpoch k - 5000 - ceilDiv (s.linePeriod false) 1000

/-- FDR_HEAD advances. (DEDUCED, log entry 71.) -/
def fdrAdvance (s : State) : State := s.modHif fun h => { h with fdr := { h.fdr with head := (h.fdr.head + 1) % max 1 h.fdr.size } }

/-- The epoch a descriptor with epoch 0 takes: the first whose commit instant lies ahead (R334). -/
def earliestDirect (s : State) : Nat :=
  let c := s.curEpoch
  ((List.range 4).map (fun i => c + i)).find? (fun k => s.ns < commitInstant s k) |>.getD (c + 4)

/-- FRAME_DESCRIPTOR_TAKE (R333, R334). (DEDUCED, log entry 71.) -/
def cmdFrameDescriptorTake (s : State) (desc : Bytes) : State :=
  let r := s.hif.fdr
  if !r.en || r.head == r.tail || s.hif.held.isSome || !s.linkUp then s
  else
    let k := fieldN desc 0x10 8
    let flags := fieldN desc 0x1C 2
    let e := if k = 0 then earliestDirect s else k
    let d : FdHeld := {
      addrA := fieldN desc 0 8 / 128 * 128 % 2 ^ 37, addrB := fieldN desc 8 8 / 128 * 128 % 2 ^ 37, epoch := e, tag := fieldN desc 0x18 4
      crcSkip := bitOf flags 0, irq := bitOf flags 1 }
    let code :=
      if !s.hif.direct || s.hif.fdrStale != 0 then 0x0109
      else if commitInstant s e ≤ s.ns then 0x0107
      else if s.hif.prevFdEpoch.any (e ≤ ·) ∨ s.curEpoch + 16384 < e then 0x0108
      else 0
    let s := s.modHif fun h => { h with prevFdEpoch := some e, fdrStale := h.fdrStale - 1 }
    if code ≠ 0 then fdrAdvance (directEntry s (if k = 0 ∧ code = 0x0109 then { d with epoch := 0 } else d) code)
    else s.modHif fun h => { h with held := some d }

/-- DIRECT_COMMIT_INSTANT: the LX9 commits the descriptor's addresses (R334). (DEDUCED, log entry 61.) -/
def cmdDirectCommitInstant (s : State) : State :=
  match s.hif.held with
  | none => s
  | some d =>
    if d.committed then s
    else
      let s := s.reach (commitInstant s d.epoch)
      if !s.hif.direct then (fdrAdvance (directEntry s d 0x0109)).modHif fun h => { h with held := none }
      else
        let s := s.modScan fun x => { x with addrA := d.addrA, addrB := d.addrB }
        let r := hostCommit s { a := d.addrA, b := d.addrB, crcSkip := d.crcSkip }
        if r.1 = 0 then (fdrAdvance r.2).modHif fun h => { h with held := some { d with committed := true } }
        else (fdrAdvance (directEntry r.2 d r.1)).modHif fun h => { h with held := none }

/-! ## Register writes (R316, R317) -/

/-- Whether a value is a power of 2 from `lo` to `hi`. -/
def pow2In (lo hi v : Nat) : Bool := lo ≤ v && v ≤ hi && 2 ^ v.log2 == v

/-- A base or size of a ring: ignored while the ring is enabled, or where the size is out of range (R317). (DESIGN CHOICE, log entry 72.) -/
def ringWrite (s : State) (r : Ring) (k lo hi v : Nat) (set : Hif → Ring → Hif) : State :=
  if r.en then s.ringBusy
  else match k with
    | 0 => s.modHif fun h => set h { r with base := r.base / 2 ^ 32 * 2 ^ 32 + v / 4096 * 4096 }
    | 4 => s.modHif fun h => set h { r with base := r.base % 2 ^ 32 + v * 2 ^ 32 }
    | _ => if pow2In lo hi v then s.modHif fun h => set h { r with size := v } else s.ringBusy

/-- The halves of a 64-bit value. -/
def withHalf (old v : Nat) (high : Bool) : Nat := if high then old % 2 ^ 32 + v * 2 ^ 32 else old / 2 ^ 32 * 2 ^ 32 + v

/-- APERTURE_BASE_WRITE: bits 36:30 (R329, R330). -/
def cmdApertureBaseWrite (s : State) (v : Nat) : State := s.modHif fun h => { h with apertureBase := bitsOf v 30 7 * 2 ^ 30 }

/-- A frame address as the register keeps it: bits 36:7 (R234). -/
def frameAddr (v : Nat) : Nat := bitsOf v 7 30 * 128

/-- HIF_VERSION (R316). -/
def hifVersion : Nat := 0x00010000

/-- What a 32-bit read of BAR0 returns; the low halves of 64-bit registers and TIME_NOW_NS latch, and have commands of their own. Write-only and reserved offsets read as zero (R14, R234, R310, R314, R316, R326 to R329). -/
def readReg (s : State) (off : Nat) : Nat :=
  match off with
  | 0x0000 => hifVersion
  | 0x0004 => hifControl s.hif
  | 0x0008 => hifStatus s.hif
  | 0x0044 => s.hif.latchSec % 2 ^ 32
  | 0x0048 => s.hif.latchSec / 2 ^ 32 % 65536
  | 0x0100 => s.hif.seg.base % 2 ^ 32
  | 0x0104 => s.hif.seg.base / 2 ^ 32
  | 0x0108 => s.hif.seg.size
  | 0x010C => s.hif.seg.tail
  | 0x0110 => s.hif.seg.head
  | 0x0140 => s.hif.fdr.base % 2 ^ 32
  | 0x0144 => s.hif.fdr.base / 2 ^ 32
  | 0x0148 => s.hif.fdr.size
  | 0x014C => s.hif.fdr.tail
  | 0x0150 => s.hif.fdr.head
  | 0x0180 => s.hif.cpl.base % 2 ^ 32
  | 0x0184 => s.hif.cpl.base / 2 ^ 32
  | 0x0188 => s.hif.cpl.size
  | 0x018C => s.hif.cpl.head
  | 0x0190 => s.hif.cpl.tail
  | 0x0200 => s.hif.irqStatus
  | 0x0204 => s.hif.irqMask
  | 0x0208 => s.hif.coalesceCount + s.hif.coalesceDelay * 65536
  | 0x0424 => frameStatus s
  | 0x0428 => scanPosition s
  | 0x0600 => s.rasp.tail
  | 0x0604 => s.rasp.head
  | 0x0608 => s.rasp.fence
  | 0x060C => s.raspStatus
  | _ =>
    if (reg64 s off).isSome then (reg64 s off).getD 0 % 2 ^ 32
    else if 4 ≤ off ∧ (reg64 s (off - 4)).isSome then regHigh s (off - 4)
    else if 0xE000 ≤ off ∧ off < 0xE800 then ((s.hif.msixTable.find? fun x => x.1 == off).map (·.2)).getD (if off % 16 = 12 then 1 else 0)
    else if 0xF000 ≤ off ∧ off < 0xF010 ∧ off % 4 = 0 then s.hif.msixPend / 2 ^ (8 * (off - 0xF000)) % 2 ^ 32
    else 0

/-- HIF_CONTROL (R316). -/
def hifControlWrite (s : State) (v : Nat) : State :=
  let s := if bitOf v 0 = s.hif.seg.en then s else cmdHifSegEn s (bitOf v 0)
  let s := if bitOf v 1 = s.hif.fdr.en then s else cmdHifFdrEn s (bitOf v 1)
  let s := if bitOf v 2 = s.hif.cpl.en then s else cmdHifCplEn s (bitOf v 2)
  cmdDirectReq s (bitOf v 3)

/-- REGISTER_WRITE: any register of BAR0; reserved and read-only ones keep their value (R14, R310, R316, R317, R327, R328). (DESIGN CHOICE, log entry 72.) -/
def cmdRegisterWrite (s : State) (off v : Nat) : State :=
  match off with
  | 0x0004 => hifControlWrite s v
  | 0x0008 => if bitOf v 2 then s.modHif fun h => { h with cplOverflow := false } else s
  | 0x000C => s.activity
  | 0x0100 => ringWrite s s.hif.seg 0 16 65536 v fun h r => { h with seg := r }
  | 0x0104 => ringWrite s s.hif.seg 4 16 65536 v fun h r => { h with seg := r }
  | 0x0108 => ringWrite s s.hif.seg 8 16 65536 v fun h r => { h with seg := r }
  | 0x010C => cmdSegDoorbell s v
  | 0x0140 => ringWrite s s.hif.fdr 0 16 4096 v fun h r => { h with fdr := r }
  | 0x0144 => ringWrite s s.hif.fdr 4 16 4096 v fun h r => { h with fdr := r }
  | 0x0148 => ringWrite s s.hif.fdr 8 16 4096 v fun h r => { h with fdr := r }
  | 0x014C => cmdFdrTail s v
  | 0x0180 => ringWrite s s.hif.cpl 0 64 65536 v fun h r => { h with cpl := r }
  | 0x0184 => ringWrite s s.hif.cpl 4 64 65536 v fun h r => { h with cpl := r }
  | 0x0188 => ringWrite s s.hif.cpl 8 64 65536 v fun h r => { h with cpl := r }
  | 0x018C => cmdCplHead s v
  | 0x0200 => cmdIrqStatusClear s v
  | 0x0204 => cmdIrqMaskWrite s v
  | 0x0208 => s.modHif fun h => { h with coalesceCount := bitsOf v 0 8, coalesceDelay := bitsOf v 16 8 }
  | 0x0300 => cmdApertureBaseWrite s (withHalf s.hif.apertureBase v false)
  | 0x0304 => cmdApertureBaseWrite s (withHalf s.hif.apertureBase v true)
  | 0x0400 => s.modScan fun x => { x with addrA := frameAddr (withHalf x.addrA v false) }
  | 0x0404 => s.modScan fun x => { x with addrA := frameAddr (withHalf x.addrA v true) }
  | 0x0408 => s.modScan fun x => { x with addrB := frameAddr (withHalf x.addrB v false) }
  | 0x040C => s.modScan fun x => { x with addrB := frameAddr (withHalf x.addrB v true) }
  | 0x0420 => cmdFrameCommit s v
  | 0x0600 => cmdRaspRingTail s v
  | 0x060C => if bitOf v 0 then s.modRasp fun r => { r with status := r.status - r.status % 2 } else s
  | _ => if 0xE000 ≤ off ∧ off < 0xE800 ∧ off % 4 = 0 then msixWrite s off v else s

/-- HOST_HEARTBEAT (R335). -/
def cmdHostHeartbeat (s : State) : State := s.activity

/-- PCIE_LINK_LOSS (R335). -/
def execPcieLinkLoss (k : LinkLoss) (s : State) : Host.Outcome State Fault Refusal := .next (s.ifLive fun s => cmdPcieLinkLoss s k)

/-- PCIE_RESET (R315). -/
def execPcieReset (k : PcieReset) (s : State) : Host.Outcome State Fault Refusal := .next (s.ifLive fun s => cmdPcieReset s k)

/-- PCIE_LINK_UP (R336). -/
def execPcieLinkUp (s : State) : Host.Outcome State Fault Refusal := .next (s.ifLive cmdPcieLinkUp)

/-- HIF_SEG_EN (R317). -/
def execHifSegEn (on : Bool) (s : State) : Host.Outcome State Fault Refusal := .next (s.ifLive fun s => cmdHifSegEn s on)

/-- HIF_FDR_EN (R317). -/
def execHifFdrEn (on : Bool) (s : State) : Host.Outcome State Fault Refusal := .next (s.ifLive fun s => cmdHifFdrEn s on)

/-- HIF_CPL_EN (R317). -/
def execHifCplEn (on : Bool) (s : State) : Host.Outcome State Fault Refusal := .next (s.ifLive fun s => cmdHifCplEn s on)

/-- DIRECT_REQ (R331). -/
def execDirectReq (on : Bool) (s : State) : Host.Outcome State Fault Refusal := .next (s.ifLive fun s => cmdDirectReq s on)

/-- SEG_DOORBELL (R317). -/
def execSegDoorbell (v : W32) (s : State) : Host.Outcome State Fault Refusal := .next (s.ifLive fun s => cmdSegDoorbell s v.toNat)

/-- SEGMENT_DESCRIPTOR_COPY (R319). -/
def execSegmentDescriptorCopy (desc : Bytes) (dma : Dma) (s : State) : Host.Outcome State Fault Refusal :=
  .next (s.ifLive fun s => cmdSegmentDescriptorCopy s desc dma)

/-- FDR_TAIL (R317). -/
def execFdrTail (v : W32) (s : State) : Host.Outcome State Fault Refusal := .next (s.ifLive fun s => cmdFdrTail s v.toNat)

/-- FRAME_DESCRIPTOR_TAKE (R334). -/
def execFrameDescriptorTake (desc : Bytes) (s : State) : Host.Outcome State Fault Refusal := .next (s.ifLive fun s => cmdFrameDescriptorTake s desc)

/-- DIRECT_COMMIT_INSTANT (R334). -/
def execDirectCommitInstant (s : State) : Host.Outcome State Fault Refusal := .next (s.ifLive cmdDirectCommitInstant)

/-- CPL_HEAD (R323). -/
def execCplHead (v : W32) (s : State) : Host.Outcome State Fault Refusal := .next (s.ifLive fun s => cmdCplHead s v.toNat)

/-- COMPLETION_ENTRY_WRITE (R323). -/
def execCompletionEntryWrite (s : State) : Host.Outcome State Fault Refusal := .next (s.ifLive cmdCompletionEntryWrite)

/-- HOST_HEARTBEAT (R335). -/
def execHostHeartbeat (s : State) : Host.Outcome State Fault Refusal := .next (s.ifLive cmdHostHeartbeat)

/-- FRAME_COMMIT (R232). -/
def execFrameCommit (v : W32) (s : State) : Host.Outcome State Fault Refusal := .next (s.ifLive fun s => cmdFrameCommit s v.toNat)

/-- TIME_NOW_READ (R316). -/
def execTimeNowRead (s : State) : Host.Outcome State Fault Refusal := .next (s.ifLive cmdTimeNowRead)

/-- REG64_LOW_READ (R234). -/
def execReg64LowRead (offset : Nat) (s : State) : Host.Outcome State Fault Refusal := .next (s.ifLive fun s => cmdReg64LowRead s offset)

/-- IRQ_STATUS_CLEAR (R326). -/
def execIrqStatusClear (v : W32) (s : State) : Host.Outcome State Fault Refusal := .next (s.ifLive fun s => cmdIrqStatusClear s v.toNat)

/-- IRQ_MASK_WRITE (R327). -/
def execIrqMaskWrite (v : W32) (s : State) : Host.Outcome State Fault Refusal := .next (s.ifLive fun s => cmdIrqMaskWrite s v.toNat)

/-- CPL_COALESCE_TIMER (R328). -/
def execCplCoalesceTimer (s : State) : Host.Outcome State Fault Refusal := .next (s.ifLive cmdCplCoalesceTimer)

/-- APERTURE_BASE_WRITE (R330). -/
def execApertureBaseWrite (v : W64) (s : State) : Host.Outcome State Fault Refusal := .next (s.ifLive fun s => cmdApertureBaseWrite s v.toNat)

end Sys2Proof.Machine
end

