-- ==== Sys2Proof/Machine/Operands.lean ====
section
/-! DEFINITION. The operand form that is not the value it carries: the number that names a switchable function (R44). Every other operand is the value itself. -/

namespace Sys2Proof.Machine

/-- The function that a FUNCTION_ENABLE or FUNCTION_DISABLE names by its place: heads A and B, ports 0 to 2, audio ports 0 to 7, clip store, overlay, reference capture, panel power. -/
def fnOf (n : Nat) : Fn :=
  if n = 0 then .headA else if n = 1 then .headB else if n < 5 then .port (n - 2)
  else if n < 13 then .aud (n - 5) else if n = 13 then .clip else if n = 14 then .overlay
  else if n = 15 then Fn.capture else .panel

end Sys2Proof.Machine
end

