-- ==== Sys2Proof/Machine/Functions.lean ====
section
/-! DEFINITION. The switchable functions: what an enable or a disable does in each of the four states, the power of their islands, and the ends of STOPPING (R20, R25, R26, R44, R45). -/

namespace Sys2Proof.Machine

/-- The object that enables a function. -/
def Fn.enableObj : Fn → Obj
  | .headA => O.headAEnable
  | .headB => O.headBEnable
  | .port p => O.portEnable p
  | .aud p => O.audPortEnable p
  | .clip => O.clpEnable
  | .overlay => O.overlayEnable
  | Fn.capture => O.captureEnable
  | .panel => O.panelPowerEnable

/-- The object that reports a function's state (R20). (DESIGN CHOICE, log entry 3.) -/
def Fn.stateObj : Fn → Obj
  | .headA => O.headAState
  | .headB => O.headBState
  | .port p => O.portState p
  | .aud p => O.audPortState p
  | .clip => O.clpState
  | .overlay => O.overlayState
  | Fn.capture => O.captureState
  | .panel => O.panelPowerState

/-- Every switchable function. -/
def allFns : List Fn :=
  [.headA, .headB, .port 0, .port 1, .port 2] ++ (List.range 8).map Fn.aud ++ [.clip, .overlay, Fn.capture, .panel]

namespace State

/-- A function enters STARTING. -/
def fnStarting (s : State) (f : Fn) : State :=
  match f with
  | .headA => s.headStarting 0
  | .headB => s.headStarting 1
  | .port p => (((s.put (O.portState p) 1).put (O.portLink p) 0).powerAll (if p = 1 then [3] else if p = 2 then [4] else [])).regateStream
  | .aud p => (s.put (O.audPortState p) 1).powerIsl 28
  | .clip => (s.put O.clpState 1).powerIsl 1
  | .overlay => (s.put O.overlayState 1).overlayStarting.powerIsl 27
  | Fn.capture => ((s.put O.captureState 1).modCap fun _ => { step := zeros 16 }).refreshCal
  | .panel => s.panelStart

/-- A function enters STOPPING. -/
def fnStopping (s : State) (f : Fn) : State :=
  let head : State → Nat → State := fun s h => if s.headState h = 1 then (s.stopSlots h).setHead h 3 else s.setHead h 3
  match f with
  | .headA => head s 0
  | .headB => head s 1
  | .port p => s.put (O.portState p) 3
  | .aud p => (s.audLeaveOn p).put (O.audPortState p) 3
  | .clip => (clpStopping s).put O.clpState 3
  | .overlay => s.overlayStopping
  | Fn.capture => s.endCapture.refreshCal
  | .panel => s.panelStop

/-- An enable or a disable of a function (R44, R45). -/
def fnSwitch (s : State) (f : Fn) (on : Bool) : State :=
  let st := s.nat f.stateObj
  let r := fnRequest on st (s.held.contains f)
  let s : State := { s.putB f.enableObj on with held := (s.held.filter fun g => g != f) ++ (if r.2 then [f] else []) }
  if r.1 = st then s else if r.1 = 1 then s.fnStarting f else s.fnStopping f

/-- A function's STOPPING ends: OFF, with `gate` run, or STARTING at once where the slot holds an enable (R45). -/
def fnStopped (s : State) (f : Fn) (gate : State → State) : State :=
  let again := s.held.contains f
  let s : State := { s.put f.stateObj (fnStopEnd again) with held := s.held.filter fun g => g != f }
  if again then s.fnStarting f else gate s

end State

/-- PORT_STOP_DONE: the queued descriptors are completed with 0x0201 and a DATA port's island is gated (R347). -/
def cmdPortStopDone (s : State) (p : Nat) : State :=
  if s.nat (O.portState p) ≠ 3 then s
  else ((s.closePort p).fnStopped (.port p) fun s => if p = 0 then s else s.gateIsl (2 + p)).regateStream

/-- AUD_PORT_STOP_DONE: the AUD island is gated once every audio port is OFF (R25, R409). -/
def cmdAudPortStopDone (s : State) (p : Nat) : State :=
  if s.nat (O.audPortState p) ≠ 3 then s
  else (s.stopClocks p).fnStopped (.aud p) fun s => if (List.range 8).all fun q => s.nat (O.audPortState q) == 0 then s.gateIsl 28 else s

/-- CLP_STOP_DONE: outstanding commands are complete, the drives flushed and shut down (R487). -/
def cmdClpStopDone (s : State) : State :=
  if s.nat O.clpState ≠ 3 then s
  else (((if s.clpHeld then s else finishCommand s)).fnStopped .clip fun s => s.gateIsl 1).regateStream

/-- ISLAND_POWERED: a gated island that was powered up is ready, and segments that waited for SDEC and RREC enter the stream queue (R26, R27). -/
def cmdIslandPowered (s : State) (i : Nat) : State :=
  (s.modIsl i fun x => if x.pow = .powering ∧ ¬ x.held ∧ ¬ x.lost then { x with pow := .powered } else x).openGate

/-- PORT_STOP_DONE (R347). -/
def execPortStopDone (p : Fin 3) (s : State) : Host.Outcome State Fault Refusal := .next (s.ifLive fun s => cmdPortStopDone s p)

/-- AUD_PORT_STOP_DONE (R409). -/
def execAudPortStopDone (p : Fin 8) (s : State) : Host.Outcome State Fault Refusal := .next (s.ifLive fun s => cmdAudPortStopDone s p)

/-- CLP_STOP_DONE (R487). -/
def execClpStopDone (s : State) : Host.Outcome State Fault Refusal := .next (s.ifLive cmdClpStopDone)

/-- ISLAND_POWERED (R26). -/
def execIslandPowered (island : Fin 32) (s : State) : Host.Outcome State Fault Refusal := .next (s.ifLive fun s => cmdIslandPowered s island)

end Sys2Proof.Machine
end

