-- ==== Sys2Proof/Machine/Swap.lean ====
section
/-! DEFINITION. Configuration banks and stores: swap validation, arming, binding, the switch of the scan side, completion, Maquette reset, and the stores of configuration and Patina (R41 to R43, R146 to R150, R226, R237 to R239, R374 to R381, R398). -/

namespace Sys2Proof.Machine

namespace State

/-! ## Validation (R226, R246, R265 to R267, R274, R377, R398) -/

/-- Baud rate of a lane rate setting (R267). -/
def baud (rate : Nat) : Nat := if rate = 0 then 12800000000 else 6400000000

/-- Checks 1 to 6 of R226 on Maquette: 0, or the first failing code. -/
def checkTiming (s : State) : Nat :=
  let m : Obj → Nat := s.natB true
  let (num, den) := (m O.tfNum, m O.tfDen)
  let (ha, ht, va, vt) := (m O.headHActive, m O.headHTotal, m O.headVActive, m O.headVTotal)
  let (hf, hs, hb) := (m O.headHFront, m O.headHSync, m O.headHBack)
  let (vf, vs, vb) := (m O.headVFront, m O.headVSync, m O.headVBack)
  let h := ha % 32 == 0 && 1024 ≤ ha && ha ≤ 15360 && hf % 32 == 0 && 32 ≤ hf && hs % 32 == 0 && 32 ≤ hs && hb % 16 == 0 && 48 ≤ hb &&
    ha + hf + hs + hb == ht
  let v := 256 ≤ va && va ≤ 17280 && 2 ≤ vf && 1 ≤ vs && 8 ≤ vb && va + vf + vs + vb == vt && (ht % 32 != 16 || vt % 2 == 0)
  let slow := den ≤ 120 * num && 24 * num ≤ den && s.nat O.plinthTfMinNum * den ≤ num * s.nat O.plinthTfMinDen
  let clock := ht * vt * den ≤ 800000000 * 32 * num
  let fits := 96 * m O.bitsPerSubpixel * ht * vt * den * 132 ≤ 64 * baud (m O.linkLaneRate) * 128 * 32 * num
  let panel := match s.cal.bronze with
    | none => true
    | some b => let g := bronzeGlobal b; m O.headCount * ha == g.panelW && va == g.panelH
  if !h || !v then 0x0B02 else if !slow || !clock then 0x0B04 else if !fits then 0x0B03 else if !panel then 0x0703 else 0

/-- Whether an order field is a permutation of 0 to 4 (R265). -/
def orderOk (e : Bytes) : Bool := (List.range 5).all fun p => (List.range 5).any fun L => bitsOf (fieldN e 2 2) (3 * L) 3 == p

/-- The lane map of Maquette (R265). -/
def laneMapOk (s : State) : Bool :=
  let e : Nat → Bytes := fun n => s.octB true (O.linkLaneMap n)
  (List.range 32).all fun n => fieldN (e n) 0 1 ≤ 15 && orderOk (e n) &&
    (List.range 32).all fun k => k / 16 != n / 16 || k == n || fieldN (e k) 0 1 != fieldN (e n) 0 1

/-- The slot regions of Maquette (R266). -/
def regionsOk (s : State) : Bool :=
  let x0 : Nat → Nat := fun n => fieldN (s.regionOf true n) 0 2
  let w : Nat → Nat := fun n => fieldN (s.regionOf true n) 2 2
  let used : Nat → Bool := fun n => bitOf (s.slotMask true (n / 16)) (n % 16) && w n != 0
  (List.range 32).all fun n => x0 n % 32 == 0 && w n % 32 == 0 && x0 n + w n ≤ s.natB true O.headHActive &&
    (List.range 32).all fun k => k / 16 != n / 16 || k == n || !used n || !used k || x0 n + w n ≤ x0 k || x0 k + w k ≤ x0 n

/-- The line fit of every slot of the heads in use (R274). -/
def lineFits (s : State) : Bool :=
  let m : Obj → Nat := s.natB true
  (List.range (16 * m O.headCount)).all fun n => !bitOf (s.slotMask true (n / 16)) (n % 16) ||
    (segStripes (m O.bitsPerSubpixel) (fieldN (s.regionOf true n) 2 2) + 3) * 132 * m O.headHTotal * m O.headVTotal * m O.tfDen ≤
      m O.headHTotal / 32 * 32 * m O.tfNum * baud (m O.linkLaneRate)

/-- The drive curves of Maquette do not decrease (R246). -/
def curvesOk (s : State) : Bool :=
  let c := s.octB true O.driveCurves
  (List.range 24).all fun i => (List.range 1024).all fun e => curveEntry c (i / 3) (i % 3) e ≤ curveEntry c (i / 3) (i % 3) (e + 1)

/-- The groups of R377 in order: 0, or the first failing code. -/
def checkSwap (s : State) : Nat :=
  let t := s.checkTiming
  if t ≠ 0 then t
  else if !s.laneMapOk then 0x0D01
  else if !s.regionsOk then 0x0D03
  else if s.nat O.plinthLaneAmplitude < s.natB true O.linkTxAmplitude then 0x0D04
  else if !s.lineFits then 0x0D02
  else if !s.curvesOk then 0x0C01
  else if !((List.range 4).all fun q => mclkOk (s.natB true (O.audPairRate q)) (s.natB true (O.audPairMclkMult q))) then 0x0F06
  else 0

/-- Whether Maquette changes Tf, compared as rationals (R237). -/
def tfChanges (s : State) : Bool := s.natB true O.tfNum * s.nat O.tfDen != s.nat O.tfNum * s.natB true O.tfDen

/-- Whether the swap is a retraining change (R237). -/
def retrains (s : State) : Bool :=
  s.tfChanges || ([O.headHActive, O.headVActive, O.headCount, O.bitsPerSubpixel, O.linkLaneRate] ++ (List.range 32).map O.linkLaneMap).any
    fun o => s.val o != s.valM o

/-- The audio pairs whose rate, multiple or slot width changes (R396). -/
def audioChanges (s : State) : List Nat :=
  (List.range 4).filter fun q =>
    [O.audPairRate q, O.audPairMclkMult q, O.audPortSlotBits (2 * q), O.audPortSlotBits (2 * q + 1)].any fun o => s.val o != s.valM o

/-! ## Request and arming (R375, R376) -/

/-- A swap request: validation starts, with Maquette frozen, or the request is refused (R41, R376). The answer comes with its outcome. -/
def requestSwap (s : State) (a : Ask) : State :=
  if s.nat O.cfgSwapState ≠ 0 then s.answer a { status := 0x1503 }
  else { (s.put O.cfgSwapState 1) with cfg := { s.cfg with requester := some a } }

/-- The swap is armed at the instant validation succeeds (R41, R156, R374, R376). -/
def armSwap (s : State) : State :=
  let who := s.cfg.requester
  let s : State := { s with cfg := { s.cfg with
    requester := none, retrain := s.retrains, changesTf := s.tfChanges, audioPairs := s.audioChanges } }
  let s := (((s.put O.cfgSwapState 2).put O.cfgSwapResult 0).put O.cfgMaquetteDirty 0).abortForSwap
  match who with
  | none => s
  | some a => s.answer a {}

/-- A write of 1 to cfg_maquette_reset (R375). (DESIGN CHOICE, log entry 65.) -/
def maquetteReset (s : State) : Nat × State :=
  if s.nat O.cfgSwapState ≠ 0 then (0x1502, s)
  else (0, { (s.put O.cfgMaquetteDirty 0) with maq := s.cast, cfg := { s.cfg with patinaChanged := false } })

/-! ## Binding (R42, R163, R239, R378) -/

/-- The first epoch of a grid at or after an instant. -/
def firstEpoch (tf : Nat × Nat) (t : Nat) : Nat :=
  let k := epochOf tf t
  if t ≤ epochAt tf k then k else if t ≤ epochAt tf (k + 1) then k + 1 else k + 2

/-- 8 ms + 2 Tl of a bank, rounded up to 1 ns (R238). -/
def realignTime (s : State) (newBank : Bool) : Nat :=
  8000000 + ceilDiv (2000000000 * s.natB newBank O.tfNum) (s.natB newBank O.tfDen * s.natB newBank O.headVTotal)

/-- The admitted frames whose epoch is still to come (R378). -/
def inFlight (s : State) : List Frame :=
  ((s.scan.bufs.filter fun b => b.role == .committed || b.role == .render).filterMap (·.frame) ++ s.adm.rendering.toList ++ s.adm.pending.toList).filter
    fun f => f.number != 0

/-- Inside the blank interval a step of display time moves the instant of S with it, and E_r is computed on the new time scale (R238, R360). -/
def regridBlank (s : State) (d : Int) : State :=
  if !s.cfg.blank then s
  else
    let at_ := ((s.cfg.stopAt : Int) + d).toNat
    { s with cfg := { s.cfg with stopAt := at_, erEpoch := s.cfg.erEpoch.map fun _ => firstEpoch s.castTf (at_ + s.realignTime false) } }

/-- Before S a step of display time fixes S and E_r again, on the new time scale (R239, R360). -/
def regridBound (s : State) : State :=
  match s.cfg.grid with
  | none => s
  | some new =>
    if s.cfg.blank then s
    else
      let stop := max (s.clk.epoch + 1) (maxN (s.inFlight.map fun f => f.epoch + 1))
      { s with cfg := { s.cfg with stopEpoch := some stop, erEpoch := some (firstEpoch new (epochAt s.tf stop + s.realignTime true)) } }

/-- A swap that changes Tf fixes S and E_r, refuses the waiting frames, and moves the markers' grid (R238, R239). (DEDUCED, log entry 62.) -/
def bindGrid (s : State) : State :=
  let old := s.tf
  let new := s.tfOf true
  let stop := max (s.curEpoch + 1) (maxN (s.inFlight.map fun f => f.epoch + 1))
  let er := firstEpoch new (epochAt old stop + s.realignTime true)
  let s := s.adm.waiting.foldl (fun s f => s.refuseHead f 0x0B07) s
  let s := (s.modSdec fun d => { d with lastEpoch := some (er - 1) }).put O.lastBinnedEpoch (er - 1 : Nat)
  { s with cfg := { s.cfg with grid := some new, gridNow := some old, stopEpoch := some stop, erEpoch := some er } }

/-- An armed swap is bound at a latch point (R42, R378). A frame in its final costing is costed again, against the new bank (R43). (DEDUCED, log entry 62.) -/
def bindSwap (s : State) : State :=
  if s.nat O.cfgSwapState ≠ 2 then s
  else
    let f := match s.adm.waiting with
      | g :: _ => g.number
      | [] => s.sdec.frames + 1
    let s := (s.put O.cfgSwapState 3).put O.cfgBoundFrame f
    let s := s.modAdm fun a => { a with stage := match a.stage with | .finalCosting .. => .waiting | x => x }
    let s : State := { s with cfg := { s.cfg with
      noFrameAtBind := s.inFlight.isEmpty, rampDue := s.cfg.patinaChanged || s.cfg.rampDue, patinaSwap := s.cfg.patinaChanged, patinaChanged := false, dueEpoch := none, switched := false } }
    let s := (s.powerAll ((s.rseIslands true).map (9 + ·))).regateOld
    if s.cfg.changesTf then s.bindGrid else s

/-! ## The switch of the scan side and completion (R43, R235, R237, R238, R280, R286, R379, R380) -/

/-- Whether a swap from the state `o` changes an object. -/
def changedFrom (s o : State) (x : Obj) : Bool := s.val x != o.val x

/-- The timing objects (R225). -/
def timingObjs : List Obj :=
  [O.tfNum, O.tfDen, O.bitsPerSubpixel, O.headCount, O.headHActive, O.headHTotal, O.headVActive, O.headVTotal,
    O.headHFront, O.headHSync, O.headHBack, O.headVFront, O.headVSync, O.headVBack]

/-- A change of the lane rate or of the lane maps: the states and settings of the lanes a slot leaves are cleared (R281, R284, R292). -/
def leaveLanes (s o : State) : State :=
  let moved := (List.range 32).filter fun n => s.changedFrom o (O.linkLaneMap n)
  moved.foldl (fun s n => (List.range 5).foldl (fun s j => (s.put (O.linkLaneState (o.laneNo n j)) 0).put (O.linkLaneSetting (o.laneNo n j)) 0) s) s

/-- What a swap does to one slot: it is re-examined out of MISMATCH by the descriptor of the board present, realigned with its stored settings, its retry sweep abandoned, or trained again where the change retrains it, and left alone otherwise (R237, R280, R281, R286, R288). (DEDUCED, log entry 63.) -/
def swapSlot (s o : State) (retrain : Bool) (n : Nat) : State :=
  let timing := (timingObjs ++ [O.linkLaneRate, O.linkSlotRegion n]).any (s.changedFrom o)
  let s := if s.changedFrom o (O.linkLaneMap n) then s.modSlot n fun x => { x with stored := [] } else s
  let st := s.slotState n
  let d := (s.slot n).desc
  if st = 0 then s
  else if !s.slotTrains n then
    if st = 1 then s else ((s.setSlotState n 1).setAllLanes n 0).modSlot n fun x => { x with phase := .none, fed := false, jobs := [], spare := none }
  else if st = 1 then s.startDiscovery n
  else if st = 6 then
    if !timing then s else if !descriptorValid d then s.startDiscovery n else if s.descriptorFits n d then s.startTraining n else s
  else if st = 2 then s
  else if timing && !s.descriptorFits n d then (s.mismatch n).linkNote 0x0D08 [n]
  else if !retrain then s
  else if st ≠ 3 && (s.slot n).trainedRates.contains (s.nat O.linkLaneRate) && !s.changedFrom o (O.linkLaneMap n) && (s.slot n).jobs.all (·.retry) then
    let s := (s.slot n).jobs.foldl (fun s w => s.setLaneState n w.lane 4) s
    (((s.sideWrite n 0x41 (leBytes 1 (s.nat O.linkLaneRate))).sendSync n).modSlot n fun x => { x with phase := .realigning, since := s.clk.now, jobs := [] })
  else s.startTraining n

/-- The trained partners that leave a head's mask receive BLANK in place of line 0 (R235). (DEDUCED, log entry 63.) -/
def sendLeavers (s o : State) : State :=
  (List.range 32).foldl (fun s n =>
    if s.headSends (n / 16) && bitOf (o.slotMask false (n / 16)) (n % 16) && !bitOf (s.slotMask false (n / 16)) (n % 16) && (s.slotState n == 4 || s.slotState n == 5) then
      ((s.sendControl n (blankBlock s.frameLoNext)).sendSync n).modSlot n fun x => { x with fed := false }
    else s) s

/-- The frames' records name the bank by its place; the new bank is Cast from here on. (DEDUCED, log entry 63.) -/
def retarget (s : State) : State :=
  let u : Frame → Frame := fun f => { f with bin := { f.bin with newBank := false }, adm := { f.adm with newBank := false } }
  let s := s.modAdm fun a => { a with
    waiting := a.waiting.map u, pending := a.pending.map u, rendering := a.rendering.map u
    stage := match a.stage with | .finalCosting i rho gen _ => .finalCosting i rho gen false | x => x }
  s.modScan fun x => { x with bufs := x.bufs.map fun b => { b with frame := b.frame.map u } }

/-- The banks are exchanged: Maquette's values are in force (R43); a swap that changes the Patina sets PATINA_UNSTORED (R150). (DEDUCED, log entry 63.) -/
def exchangeBanks (s : State) : State :=
  let s := if s.cfg.rampDue then { s with cal := { s.cal with rampS := s.rampedNow } } else s
  let s := if s.cfg.patinaSwap then { s with cal := { s.cal with unstored := true }, cfg := { s.cfg with patinaSwap := false } } else s
  let s : State := { s with cast := s.maq, maq := s.cast, cfg := { s.cfg with switched := true } }
  s.retarget

/-- The scan-side islands but AUD switch to the new bank at T_F or S (R43, R235, R238, R240). -/
def switchBanks (s : State) : State :=
  let o := s
  let s := s.exchangeBanks
  let s := if s.castTf.1 * o.castTf.2 = o.castTf.1 * s.castTf.2 then s else clpTfChange s
  let s := s.sendLeavers o
  let s := if s.nat O.headCount = 1 ∧ s.headState 1 = 2 then (s.stopSlots 1).setHead 1 1 else s
  let s := (List.range 32).foldl (fun s n => s.swapSlot o s.cfg.retrain n) (s.leaveLanes o)
  let s := (List.range 32).foldl (fun s n => s.showSettings n) s
  let s := if s.adm.rendering.isNone then s.regateRse false else s
  (if s.cfg.retrain then s.modScan fun x => { x with blankUntilNew := true, holdValid := false } else s).refreshCal

/-- The swap completes at T_F: AUD switches, the state is IDLE, and the islands begin to copy Cast into the new Maquette (R43, R374, R379, R396). -/
def completeSwap (s : State) : State :=
  let s := if s.cfg.switched then s else s.switchBanks
  let gen : Nat := (s.nat O.cfgBankGeneration + 1) % 2 ^ 32
  let kind : Nat := b2n s.cfg.retrain
  let s : State := { s with cfg := { s.cfg with copying := true, switched := false, noFrameAtBind := false, dueEpoch := none } }
  let s := s.audSwap s.cfg.audioPairs
  let s := (((s.put O.cfgBankGeneration gen).put O.cfgSwapState 0).bump O.cfgSwapCount).put O.cfgSwapKind kind
  s.post 0x1504 [gen, kind]

end State

/-- SWAP_VALIDATION_DONE: the swap is armed, or refused with Maquette released (R376, R377). -/
def cmdSwapValidationDone (s : State) : State :=
  if s.nat O.cfgSwapState ≠ 1 ∨ s.cfg.copying then s
  else
    let c := s.checkSwap
    if c ≠ 0 then s.refuseSwap c else s.armSwap

/-! ## Stored configuration (R381) -/

/-- A write of 1 to cfg_store: the configuration as it stands, with the Cast generation (R381). (DESIGN CHOICE, log entry 64.) -/
def storeConfig (s : State) : Nat × State :=
  if s.nat O.cfgStoreState = 1 ∨ s.nat O.cfgStoreState = 2 then (0x1505, s)
  else
    let rw : List Nat := (O.all.filter fun o => o.access == .rw && o.key != O.captureEnable.key).map (·.key)
    let img := (s.cast.filter fun x => x.1 != O.patinaLattice.key) ++ s.obj.filter fun x => rw.contains x.1
    (0, (s.put O.cfgStoreState 1).modAtl fun a => { a with configImage := img, configGen := s.nat O.cfgBankGeneration, storeTries := 0 })

/-- CFG_STORE_BEGIN: the NOR window is open and writing starts (R381). (DESIGN CHOICE, log entry 64.) -/
def cmdCfgStoreBegin (s : State) : State :=
  if s.nat O.cfgStoreState = 1 && s.atlRuns && s.flag O.thmNorWindow then s.put O.cfgStoreState 2 else s

/-- CFG_STORE_DONE: the read-back ends the store; a first failure repeats it (R381). -/
def cmdCfgStoreDone (s : State) (failed : Bool) : State :=
  if s.nat O.cfgStoreState ≠ 2 ∨ !s.atlRuns then s
  else if !failed then
    ((s.modNor fun n => { n with config := some (s.atl.configGen, s.atl.configImage), old := { n.old with config := n.config } }).put O.cfgStoreState 3).put O.cfgStoredGeneration s.atl.configGen
  else if s.atl.storeTries = 0 then s.modAtl fun a => { a with storeTries := 1 }
  else (s.put O.cfgStoreState 4).post 0x1506

/-! ## Stored Patina (R148 to R150) -/

/-- A lattice as 4,194,304 bytes; the one never written is zero. (DESIGN CHOICE, log entry 48.) -/
def latticeBytes (p : Bytes) : Bytes := if p.isEmpty then zeros 4194304 else p

/-- The tag of the Bronze image in use (R148). With none in use there is no image to tag, and the field is zero. (DESIGN CHOICE, log entry 48.) -/
def bronzeTag (s : State) : Bytes :=
  match s.cal.bronze with
  | none => zeros 8
  | some b => (Config.sha384 b).take 8

/-- The commit record of a slot's data (R148). -/
def patinaRecord (gen : Nat) (data tag : Bytes) : Bytes :=
  let r := leBytes 4 0x41544150 ++ leBytes 4 gen ++ leBytes 4 (crc32c data) ++ tag ++ zeros 40
  r ++ leBytes 4 (crc32c r)

/-- Whether a slot's record and data are whole, whatever its tag (R149). -/
def patinaWhole (x : PatinaSlot) : Bool :=
  !x.damaged && fieldN x.record 0 4 == 0x41544150 && fieldN x.record 0x3C 4 == crc32c (x.record.take 60) && fieldN x.record 8 4 == crc32c x.data

/-- Whether a slot is valid with the Bronze in use (R149). -/
def patinaValid (s : State) (x : PatinaSlot) : Bool := patinaWhole x && cut x.record 12 8 == bronzeTag s

/-- Whether a slot is unused (R149). (DESIGN CHOICE, log entry 27.) -/
def patinaUnused (s : State) (x : PatinaSlot) : Bool :=
  fieldN x.record 0 4 != 0x41544150 || (patinaWhole x && cut x.record 12 8 != bronzeTag s)

/-- The valid slot with the highest generation, with that generation (R149). -/
def patinaBest (s : State) : Option (Nat × Nat) :=
  let gs := (List.range 2).filterMap fun k =>
    let x := s.nor.patina.getD k {}
    if patinaValid s x then some (k, fieldN x.record 4 4) else none
  gs.foldl (fun b x => match b with | some y => if y.2 < x.2 then some x else b | none => some x) none

/-- A write of 1 to patina_store: the Cast Patina as it stands (R150). -/
def storePatina (s : State) : Nat × State :=
  if s.nat O.patinaStoreState = 1 ∨ s.nat O.patinaStoreState = 2 then (0x0707, s)
  else (0, (s.put O.patinaStoreState 1).modAtl fun a => { a with patinaImage := s.oct O.patinaLattice, patinaTries := 0 })

/-- PATINA_STORE_BEGIN: the target slot is picked, its record and data erased, and the data programmed (R150, steps 1 to 3). -/
def cmdPatinaStoreBegin (s : State) : State :=
  if s.nat O.patinaStoreState ≠ 1 || !s.atlRuns || !s.flag O.thmNorWindow then s
  else
    let t := match patinaBest s with | some (k, _) => 1 - k | none => 0
    let s := s.modNor fun n => { n with patina := setAt n.patina t { data := latticeBytes s.atl.patinaImage, record := [] } }
    (s.put O.patinaStoreState 2).modAtl fun a => { a with patinaTarget := t }

/-- PATINA_STORE_DONE: the commit record completes the store; a first read-back failure repeats it (R150, step 4). -/
def cmdPatinaStoreDone (s : State) (failed : Bool) : State :=
  if s.nat O.patinaStoreState ≠ 2 ∨ !s.atlRuns then s
  else if failed then
    if s.atl.patinaTries = 0 then s.modAtl fun a => { a with patinaTries := 1 }
    else (s.put O.patinaStoreState 4).post 0x0708
  else
    let data := latticeBytes s.atl.patinaImage
    let gen := 1 + match patinaBest s with | some (_, g) => g | none => 0
    let s := s.modNor fun n => { n with patina := setAt n.patina s.atl.patinaTarget { data := data, record := patinaRecord gen data (bronzeTag s) } }
    let same : Bool := s.atl.patinaImage == s.oct O.patinaLattice
    let s : State := { s with cal := { s.cal with unstored := s.cal.unstored && !same } }
    (((s.put O.patinaStoreState 3).put O.patinaGeneration gen).settle 10 1).refreshCal

/-- SWAP_VALIDATION_DONE (R377). -/
def execSwapValidationDone (s : State) : Host.Outcome State Fault Refusal := .next (s.ifLive cmdSwapValidationDone)

/-- CFG_STORE_BEGIN (R381). -/
def execCfgStoreBegin (s : State) : Host.Outcome State Fault Refusal := .next (s.ifLive cmdCfgStoreBegin)

/-- CFG_STORE_DONE (R381). -/
def execCfgStoreDone (failed : Bool) (s : State) : Host.Outcome State Fault Refusal := .next (s.ifLive fun s => cmdCfgStoreDone s failed)

/-- PATINA_STORE_BEGIN (R150). -/
def execPatinaStoreBegin (s : State) : Host.Outcome State Fault Refusal := .next (s.ifLive cmdPatinaStoreBegin)

/-- PATINA_STORE_DONE (R150). -/
def execPatinaStoreDone (failed : Bool) (s : State) : Host.Outcome State Fault Refusal := .next (s.ifLive fun s => cmdPatinaStoreDone s failed)

end Sys2Proof.Machine
end

