-- ==== Sys2Proof/Machine/Dictionary.lean ====
section
/-! DEFINITION. The dictionary engine: the checks of a request, reads and writes of objects, DOMAIN transfers, simultaneous writers, and the rows that are writes of one object (R369 to R373, R381 to R384, R390, R527). -/

namespace Sys2Proof.Machine

/-! ## Checks 2 to 9 (R370, R527) -/

/-- The object of a request, or the code of the first of checks 2 to 4 that fails. -/
def findObj (index sub : Nat) : Except Nat Obj :=
  if 0xC000 ≤ index ∧ index < 0xF000 then .error 0x160C
  else if 0xF000 ≤ index then .error 0x160D
  else match objAt index sub with
    | none => .error 0x1602
    | some o => .ok o

/-- Whether a value's length is right (R527). -/
def lengthOk (o : Obj) (n : Nat) : Bool :=
  match o.ty.width with
  | some w => n == w
  | none => match o.rng with
    | .len k => n == k
    | .lens ks => ks.contains n
    | .upTo k => n ≤ k
    | .words16 c _ => n == 2 * c
    | .rising16 c => n == 2 * c
    | _ => o.ty != .str || n ≤ 255

/-- Whether a value lies in the object's Range/Unit column (R370 check 9); a threshold set that does not ascend lies outside (R247). (DEDUCED, log entry 125.) -/
def rangeOk (o : Obj) (v : Bytes) : Bool :=
  let n := (o.ty.parse v).toInt
  (o.ty != .bool || decide (n ≤ 1)) &&
  match o.rng with
  | .between lo hi => decide (lo ≤ n ∧ n ≤ hi)
  | .oneOf vs => vs.contains n
  | .zeroOr lo hi => decide (n = 0 ∨ (lo ≤ n ∧ n ≤ hi))
  | .multiple m lo hi => decide (lo ≤ n ∧ n ≤ hi ∧ n % m = 0)
  | .pow2 lo hi => pow2In lo hi n.toNat
  | .throttleStart => decide (960 ≤ n)
  | .words16 c hi => (List.range c).all fun k => fieldN v (2 * k) 2 ≤ hi
  | .rising16 c => (List.range (c - 1)).all fun k => decide (fieldI v (2 * k) 2 < fieldI v (2 * k + 2) 2)
  | _ => true

/-- The size in bytes that bounds the total of a transfer: the object's, or 64 MiB for one without a fixed size (R382). -/
def domainSize (o : Obj) : Nat :=
  match o.rng with
  | .len k => k
  | .words16 c _ => 2 * c
  | .rising16 c => 2 * c
  | _ => 67108864

/-- Whether a value is the object's whole value under R527, or the code that refuses it: 0x0704 for the Patina (R146). -/
def domainLength (o : Obj) (n : Nat) : Nat :=
  if lengthOk o n then 0 else if o.key = O.patinaLattice.key then 0x0704 else 0x1604

/-- Whether the object is one that recovery lets be read: identity, atl_state, and the update objects (R443). -/
def recoveryReads (index sub : Nat) : Bool := index ≤ 3 || (index == O.atlState.index && sub == O.atlState.sub) || index == 0xA400

/-- Whether recovery carries out a request (R443). -/
def recoveryAllows (op : DictOp) : Bool :=
  match op with
  | .read i k _ => recoveryReads i k
  | .write i k _ => i == O.updateApply.index && k == O.updateApply.sub
  | .domainOpen i k dirRead _ _ => if dirRead then recoveryReads i k else i == O.updateImage.index && k == O.updateImage.sub
  | _ => true

/-- The bytes padded with zeros to the object's stated length. (DESIGN CHOICE, log entry 79.) -/
def padTo (o : Obj) (bs : Bytes) : Bytes :=
  match o.rng with
  | .len k => (bs ++ zeros k).take (max k bs.length)
  | _ => bs

/-- What a WO object reads as: zeros of its stated length (R11). -/
def woBytes (o : Obj) : Bytes :=
  match o.ty.width with
  | some w => zeros w
  | none => match o.rng with
    | .len k => zeros k
    | .lens ks => zeros (ks.headD 0)
    | _ => []

/-- The drive curves while none were written: linear (R246). -/
def linearCurves : Bytes :=
  (List.range 24).flatMap fun _ => (List.range 1025).flatMap fun e => leBytes 2 (curveEntry [] 0 0 e)

namespace State

/-! ## Reads (R371, R373) -/

/-- Whether a read of the bank flag's bank finds it in the place of the new bank: once the scan side has switched, the banks have changed places (R43, R371). -/
def bankOf (s : State) (maq : Bool) : Bool := maq != s.cfg.switched

/-- The Figure that fig_inspect_id selects. -/
def inspected (s : State) : Option Figure := s.fig? (s.nat O.figInspectId)

/-- Restarts in the last 86,400 power-on seconds (R422, R425). -/
def recentRestarts (s : State) : Nat := (s.thm.restarts.filter fun t => s.powerSeconds < t + 86400).length

/-- plinth_key_ids: bytes 0 to 7 of the digests of fw_key, owner_key and the active site key (R459). -/
def keyIds (s : State) : Bytes :=
  let site := match activeSlot s.pln with
    | none => zeros 96
    | some k => s.pln.siteKeys.getD k []
  (Config.sha384 Config.fwKey).take 8 ++ (Config.sha384 Config.ownerKey).take 8 ++ (Config.sha384 site).take 8

/-- The 64 one-time slots in slot order, 32 bytes each (R421, R425). -/
def tripSlots (s : State) : Bytes := (List.range 64).flatMap fun k => ((s.thm.slots.getD k []) ++ zeros 32).take 32

/-- The values that are read from other state than the object's own; `nb` is the bank's place. -/
def derived (s : State) (index sub : Nat) (nb : Bool) : Option Bytes :=
  match index, sub with
  | 0x2105, 1 => some (leBytes 4 (s.groupClock nb))
  | 0x2105, 2 => some (leBytes 4 (s.linePeriod nb))
  | 0x2105, 3 => some (leBytes 4 (s.lineBytes nb))
  | 0x2105, 4 => some (leBytes 4 (s.linePitch nb))
  | 0x3101, 2 => some (match s.inspected with | some f => ctxBytes f | none => [])
  | 0x3101, 3 => some (match s.inspected with | some f => f.layers.flatMap layerBytes | none => [])
  | 0x4000, 2 => some (leBytes 1 (match s.cal.bronze with | some b => (bronzeGlobal b).lensType | none => 0))
  | 0x4000, 3 => some (leBytes 4 (s.tansOf nb).1)
  | 0x4000, 4 => some (leBytes 4 (s.tansOf nb).2)
  | 0x4100, 1 => some (padTo O.bronzeGlobal ((s.cal.bronze.getD []).take 256))
  | 0x4100, 2 => some (padTo O.bronzeLattice (bronzeLattice (s.cal.bronze.getD [])))
  | 0x4100, 3 => some (padTo O.bronzeTransfer (bronzeTransfer (s.cal.bronze.getD [])))
  | 0x1300, 0x0C => some (taiBytes s.ns)
  | 0x1300, 0x11 => some (leBytes 8 s.curEpoch)
  | 0x5404, _ => if s.pdp.opened then none else some (leBytes 1 (s.natB nb O.driveBandDefault))
  | 0x6000, 0x0A => some (leBytes 1 s.recentRestarts)
  | 0x6002, k => some (leInt 2 (s.thm.sensors.getD (k - 1) {}).val)
  | 0x6003, k => some (leInt 2 (s.thm.sensors.getD (k - 1) {}).trim)
  | 0x6004, 1 => some s.tripSlots
  | 0xA300, 1 => some (leBytes 4 s.powerSeconds)
  | 0xA200, 1 => some (s.nor.ring.flatMap logBytes)
  | 0xA200, 2 => some (s.nor.pinned.flatMap logBytes)
  | 0xB000, 6 => some (leBytes 2 (if s.nat O.plinthState = 1 then (s.pln.windowEnd - s.clk.now) / 1000000 else 0))
  | 0xB000, 8 => some s.keyIds
  | 0xB000, 9 => some s.pln.ceilings
  | 0x9002, 1 => some (clipTable s.clp.table)
  | _, _ => none

/-- The stored value of an object as bytes. -/
def storedBytes (s : State) (o : Obj) (nb : Bool) : Bytes :=
  let v := if o.access = .rws then s.valB nb o else s.val o
  let bs := o.ty.render v
  if o.key = O.driveCurves.key ∧ bs.isEmpty then linearCurves else padTo o bs

/-- The bytes that a read of an object returns (R11, R371). -/
def valueBytes (s : State) (o : Obj) (maq : Bool) : Bytes :=
  if o.access = .wo then woBytes o
  else match s.derived o.index o.sub (s.bankOf maq) with
    | some bs => bs
    | none => s.storedBytes o (s.bankOf maq)

/-- A plain read: its object and value, or the code of the check that fails (R73, R370). (DESIGN CHOICE, log entry 79.) -/
def readObj (s : State) (index sub : Nat) (maq : Bool) : Except Nat (Obj × Bytes) :=
  match findObj index sub with
  | .error c => .error c
  | .ok o =>
    if o.ty = .domain then .error 0x1607
    else if o.index = 0x3101 ∧ o.sub ≠ 1 ∧ s.inspected.isNone then .error 0x0604
    else .ok (o, s.valueBytes o maq)

/-- What a read changes: it clears mem_min_tolerance, and UNDERRUN of aud_port_flags (R221, R410). -/
def afterRead (s : State) (o : Obj) : State :=
  if o.key = O.memMinTolerance.key then s.put O.memMinTolerance 0xFFFFFFFF
  else if 0x7200 ≤ o.index ∧ o.index < 0x7208 ∧ o.sub = 6 then s.audFlag (o.index - 0x7200) 0 false
  else s

/-! ## Writes (R370, R371) -/

/-- Checks 2 to 10 of a plain write; `thawed` passes check 10 for a write that waited for the copy of R379. -/
def writeObj (s : State) (thawed : Bool) (index sub : Nat) (v : Bytes) : Except Nat Obj :=
  match findObj index sub with
  | .error c => .error c
  | .ok o =>
    if o.access = .ro ∨ o.access = .cnst then .error 0x1603
    else if o.access = .two then .error 0x1606
    else if o.ty = .domain then .error 0x1607
    else if !lengthOk o v.length then .error 0x1604
    else if !rangeOk o v then .error 0x1605
    else if o.access = .rws && s.nat O.cfgSwapState != 0 && !thawed then .error 0x1502
    else .ok o

/-- Maquette takes a value (R371, R375); a Patina is marked as changed (R146). -/
def putShadow (s : State) (o : Obj) (v : Bytes) : State :=
  let s := (s.putM o (o.ty.parse v)).putB O.cfgMaquetteDirty true
  if o.key = O.patinaLattice.key then { s with cfg := { s.cfg with patinaChanged := true } } else s

/-- Whether a party may write vipex_key and vipex_secured (R390). (DEDUCED, log entry 80.) -/
def mayKey (a : Ask) : Bool := a.party.route = .bar2 || a.party.secured

/-- The port that owns an MTU, a VLAN or an RGMII delay, which must be OFF for the write (R347, R524). -/
def portOfObj (o : Obj) : Option Nat :=
  if 0x1100 ≤ o.index ∧ o.index < 0x1103 ∧ (o.sub = 4 ∨ o.sub = 5) then some (o.index - 0x1100)
  else if o.index = 0x1180 then some 0 else none

/-- Check 12 of an RW object and its effect, where the object has no more than a value and perhaps a condition. -/
def writePlain (s : State) (o : Obj) (v : Bytes) : Nat × State :=
  let val := o.ty.parse v
  let put := s.putV o val
  match portOfObj o with
  | some p => if s.nat (O.portState p) ≠ 0 then (0x0207, s.put (O.portLastStatus p) 0x0207) else (0, put)
  | none => match o.key with
    | 0x300101 => if s.hif.fallback then (0x0106, s) else (0, put.regateStream)
    | 0x800003 => if s.nat O.overlayState ≠ 0 then (0x0E07, s) else (0, put)
    | 0x800004 => if s.nat O.overlayState ≠ 0 then (0x0E07, s) else (0, put)
    | 0x800005 => if s.nat O.overlayState ≠ 0 then (0x0E07, s) else (0, put)
    | 0x600101 => if s.int O.plinthTripPoint - 80 < val.toInt then (0x1010, s) else (0, put)
    | 0x600104 => if s.int O.thmRiseEmergency ≤ val.toInt then (0x1010, s) else (0, put)
    | 0x600105 => if val.toInt ≤ s.int O.thmRiseEarly then (0x1010, s) else (0, put)
    | _ => (0, put.portWritten o)

/-- The effect of a write of an object that acts as a command, with its status; `n` is the value as a number (R370). -/
def writeCommand (s : State) (a : Ask) (o : Obj) (v : Bytes) (n : Nat) : Nat × State :=
  match o.key with
  | 0x100002 => if mayKey a then (0, s.putB O.vipexSecured (n != 0)) else (0x160F, s)
  | 0x100003 => if mayKey a then (0, s.modDict fun d => { d with key := v, keyWritten := true, lastSeq := [], sessionTx := 0 }) else (0x160F, s)
  | 0x13000A => timeSetWrite s v
  | 0x13000B => timeAdjustWrite s (signed 64 n)
  | 0x140001 => actionAddWrite s a.party v
  | 0x140002 => actionCancelWrite s n
  | 0x420101 => storePatina s
  | 0x430005 => s.captureStepWrite v
  | 0x430006 => s.captureReportWrite v
  | 0x900007 => clpCommandWrite s v
  | 0x90000F => fallbackReleaseWrite s
  | 0xA00002 => atlWarmResetWrite s
  | 0xA10006 => s.maquetteReset
  | 0xA1000A => storeConfig s
  | 0xA40003 => updateApplyWrite s
  | 0xB00002 => plinthStageWrite s v
  | 0xB00003 => plinthConfirmWrite s v
  | 0xB00004 => plinthCancelWrite s
  | _ => s.writePlain o v

/-- Check 12 of a write and its effect, for every object but cfg_swap_request: the status, and the state after it. -/
def writeEffect (s : State) (a : Ask) (o : Obj) (v : Bytes) : Nat × State :=
  match allFns.find? fun f => f.enableObj.key == o.key with
  | some f => (0, s.fnSwitch f (leNat v != 0))
  | none =>
    if o.access = .rws then (0, s.putShadow o v)
    else if o.index = 0x1200 ∨ o.index = 0x1201 then ptpObjectWrite s (o.index - 0x1200) o.sub (leNat v) (s.putV o (o.ty.parse v))
    else s.writeCommand a o v (leNat v)

/-- A request whose answer comes later; over BAR2 the window stays BUSY until then (R376, R379, R383). -/
def holdWindow (s : State) (a : Ask) : State :=
  if a.vx.isNone && a.party.route == .bar2 && a.party.action.isNone then s.modDict fun d => { d with busy := true } else s

/-- A request waits for the copy of R379. (DESIGN CHOICE, log entry 76.) -/
def waitCopy (s : State) (a : Ask) : State := ({ s with cfg := { s.cfg with waiting := s.cfg.waiting ++ [a] } } : State).holdWindow a

/-- A plain write is checked, carried out and answered. (DESIGN CHOICE, log entry 76.) -/
def serveWrite (s : State) (a : Ask) (thawed : Bool) (index sub : Nat) (v : Bytes) : State :=
  match s.writeObj thawed index sub v with
  | .error c => s.answer a { status := c }
  | .ok o =>
    if o.key = O.cfgSwapRequest.key then (s.holdWindow a).requestSwap a
    else if o.access = .rws && s.cfg.copying then s.waitCopy a
    else let r := s.writeEffect a o v; r.2.answer a { status := r.1 }

/-! ## DOMAIN transfers (R382) -/

/-- An open transfer. -/
def transfer (s : State) (h : Nat) : Option Transfer := s.dict.transfers.find? (·.handle == h)

/-- Change the open transfers, and dict_domain_open with them. -/
def setTransfers (s : State) (l : List Transfer) : State :=
  (s.modDict fun d => { d with transfers := l }).put O.dictDomainOpen l.length

/-- A transfer ends. -/
def endTransfer (s : State) (h : Nat) : State := s.setTransfers (s.dict.transfers.filter fun t => t.handle != h)

/-- A transfer changes. (DESIGN CHOICE, log entry 78.) -/
def setTransfer (s : State) (t : Transfer) : State := s.setTransfers (s.dict.transfers.map fun u => if u.handle = t.handle then t else u)

/-- Whether a write transfer is open on an object. -/
def writing (s : State) (o : Obj) : Bool := s.dict.transfers.any fun t => !t.isRead && t.obj.key == o.key

/-- Checks 2 to 10 of a DOMAIN_OPEN. -/
def openObj (s : State) (index sub : Nat) (dirRead : Bool) (total : Nat) : Except Nat Obj :=
  match findObj index sub with
  | .error c => .error c
  | .ok o =>
    if !dirRead ∧ (o.access = .ro ∨ o.access = .cnst) then .error 0x1603
    else if !dirRead ∧ o.access = .two then .error 0x1606
    else if o.ty ≠ .domain then .error 0x1607
    else if !dirRead ∧ domainSize o < total then .error 0x1604
    else if !dirRead && o.access = .rws && s.nat O.cfgSwapState != 0 then .error 0x1502
    else .ok o

/-- The next handle: counted up, the open ones left out. (DESIGN CHOICE, log entry 78.) -/
def freshHandle (s : State) : Nat :=
  let hs := (List.range 256).map fun i => (s.dict.nextHandle + i) % 256
  (hs.find? fun h => (s.transfer h).isNone).getD 0

/-- DOMAIN_OPEN. A read transfer holds the value as it stands at the open. (DESIGN CHOICE, log entry 78.) -/
def serveOpen (old s : State) (a : Ask) (index sub : Nat) (dirRead maq : Bool) (total : Nat) : State :=
  match s.openObj index sub dirRead total with
  | .error c => s.answer a { status := c }
  | .ok o =>
    if !dirRead && s.writing o then s.answer a { status := 0x1601 }
    else if 4 ≤ s.dict.transfers.length then s.answer a { status := 0x1608 }
    else if !dirRead && o.key == O.updateImage.key && !updateOpenOk s then s.answer a { status := 0x120C }
    else
      let h := s.freshHandle
      let v := if dirRead then old.valueBytes o maq else []
      let t : Transfer := {
        handle := h, party := a.party, obj := o, isRead := dirRead, total := if dirRead then v.length else total, maquette := maq
        data := v, lastAt := s.clk.now }
      ((s.setTransfers (s.dict.transfers ++ [t])).modDict fun d => { d with nextHandle := (h + 1) % 256 }).answer a { handle := some h }

/-- The largest segment of a request's carrier (R383, R386). -/
def segmentMax (a : Ask) : Nat := if a.party.route = .bar2 then 524288 else 8192

/-- Whether a write segment's length is one its carrier takes (R383, R386). -/
def segmentOk (a : Ask) (n : Nat) (last : Bool) : Bool :=
  if a.party.route = .bar2 then 1 ≤ n && n ≤ 524288 else n ≤ 8192 && (512 ≤ n || last)

/-- The bytes a transfer has moved so far. -/
def moved (t : Transfer) : Nat := if t.isRead then t.prevOff.getD 0 + t.prevLen else t.data.length

/-- An access of Atelier to the management partition meets an uncorrectable sector: the operation that made it fails (R216). (DESIGN CHOICE, log entry 129.) -/
def failAccess (s : State) (a : Ask) (ue : Option Nat) : State := (s.eccAll .aperture ue.toList).answer a { status := 0x0A02 }

/-- DOMAIN_DATA: a read segment of a Vipex message names its largest length in 4 bytes (R370, R386). -/
def serveData (s : State) (a : Ask) (h offset maxLen : Nat) (data : Bytes) (ue : Option Nat) : State :=
  match s.transfer h with
  | none => s.answer a { status := 0x1609 }
  | some t =>
    if a.vx.isSome && t.isRead && data.length < 4 then s.answer a { status := 0x1610 }
    else if ue.isSome then s.failAccess a ue
    else
    let t := { t with lastAt := s.clk.now }
    let s := s.setTransfer t
    if t.prevOff = some offset then
      s.answer a { seg := some (offset, if t.isRead then some (cut t.data offset t.prevLen) else none) }
    else if offset ≠ moved t then s.answer a { status := 0x160B }
    else if t.isRead then
      let n := min (min maxLen (segmentMax a)) (t.total - offset)
      (s.setTransfer { t with prevOff := some offset, prevLen := n }).answer a { seg := some (offset, some (cut t.data offset n)) }
    else if !segmentOk a data.length (offset + data.length == t.total) || t.total < offset + data.length then s.answer a { status := 0x1604 }
    else (s.setTransfer { t with data := t.data ++ data, prevOff := some offset, prevLen := data.length }).answer a { seg := some (offset, none) }

/-- The value of a write transfer is applied (R371, R444); every read transfer on the object ends. -/
def applyDomain (s : State) (a : Ask) (t : Transfer) : State :=
  let r : Nat × State := if t.obj.key = O.updateImage.key then updateClose s t.data else (0, s.putShadow t.obj t.data)
  let s := if r.1 = 0 then r.2.setTransfers (r.2.dict.transfers.filter fun u => !(u.isRead && u.obj.key == t.obj.key)) else r.2
  s.answer a { status := r.1 }

/-- DOMAIN_CLOSE. -/
def serveClose (s : State) (a : Ask) (thawed : Bool) (h crc : Nat) (ue : Option Nat) : State :=
  match s.transfer h with
  | none => s.answer a { status := 0x1609 }
  | some t =>
    if !t.isRead && t.obj.access == .rws && s.cfg.copying then s.waitCopy a
    else
      let s := s.endTransfer h
      if t.isRead then s.answer a {}
      else if t.data.length < t.total then s.answer a { status := 0x1604 }
      else if ue.isSome then s.failAccess a ue
      else if crc32c t.data ≠ crc then s.answer a { status := 0x160A }
      else if domainLength t.obj t.data.length ≠ 0 then s.answer a { status := domainLength t.obj t.data.length }
      else if t.obj.access = .rws && s.nat O.cfgSwapState != 0 && !thawed then s.answer a { status := 0x1502 }
      else s.applyDomain a t

/-- DOMAIN_ABORT: the transfer ends with 0x1609, as one that times out (R382). -/
def serveAbort (s : State) (a : Ask) (h : Nat) : State :=
  if (s.transfer h).isNone then s.answer a { status := 0x1609 } else ((s.endTransfer h).put O.dictLastStatus 0x1609).answer a {}

/-! ## One request -/

/-- Why the engine serves no request now, 0 where it does: not ready, resetting, halted, or beyond what recovery allows (R430, R431, R433, R443). -/
def dictGate (s : State) (op : DictOp) : Nat :=
  match s.nat O.atlState with
  | 0 => 0x1212
  | 2 => 0x1203
  | 3 => 0x1204
  | 4 => if recoveryAllows op then 0 else 0x1212
  | _ => if s.dict.ready then 0 else 0x1212

/-- A request is served: reads see the state `old` at the end of the tick before (R373). -/
def serve (old s : State) (a : Ask) (thawed : Bool := false) : State :=
  let g := s.dictGate a.op
  if g ≠ 0 then (if a.party.action.isSome then s.answer a { status := g } else s.dropAsk a g)
  else match a.op with
    | .unknown => s.answer a { status := 0x1610 }
    | .read i k m => match old.readObj i k m with
      | .error c => s.answer a { status := c }
      | .ok x => (s.answer a { value := some x.2 }).afterRead x.1
    | .write i k v => s.serveWrite a thawed i k v
    | .domainOpen i k r m n => old.serveOpen s a i k r m n
    | .domainData h o n d u => s.serveData a h o n d u
    | .domainClose h c u => s.serveClose a thawed h c u
    | .domainAbort h => s.serveAbort a h

/-- Whether a request handed to the engine whole reaches it: the window runs one request at a time (R384), and a Vipex request must be secured in secured mode (R390). -/
def admits (s : State) (a : Ask) : Bool :=
  if a.vx.isSome || a.party.action.isSome then true
  else if a.party.route = .bar2 then !s.dict.busy
  else !s.flag O.vipexSecured || (a.party.secured && s.dict.keyWritten)

/-- A request that does not reach the engine is counted (R384, R390). -/
def turnAway (s : State) (a : Ask) : State := if a.party.route = .bar2 then s.bump O.dictIgnoredCount else s.authFail

/-- The registers of the BAR2 window hold what the request of the host gives (R383). -/
def loadWindow (s : State) (op : DictOp) : State :=
  s.modDict fun d => match op with
    | .unknown => d
    | .read i k _ => { d with index := i + 65536 * k }
    | .write i k v => { d with index := i + 65536 * k, length := v.length, data := overlayBytes d.data 0 v }
    | .domainOpen i k _ _ n => { d with index := i + 65536 * k, length := n }
    | .domainData h o n v _ => { d with handle := h, offset := o, length := if v.isEmpty then n else v.length, data := overlayBytes d.data 0 v }
    | .domainClose h c _ => { d with handle := h, crc := c }
    | .domainAbort h => { d with handle := h }

/-- The state in which the engine meets a request that reaches it. -/
def asked (s : State) (p : Party) (op : DictOp) : State := if p.route = .bar2 then s.loadWindow op else s

/-- A request alone in its tick. -/
def request (s : State) (p : Party) (op : DictOp) : State :=
  let a : Ask := { party := p, op := op }
  if !s.admits a then s.turnAway a else (s.asked p op).serve (s.asked p op) a

end State

/-! ## Simultaneous writers (R372, R373) -/

/-- The rank of a route (R372). -/
def routeRank : Route → Nat
  | .bar2 => 0
  | .mgmt => 1
  | .data0 => 2
  | .data1 => 3

/-- A party's place: its rank, then its node ID. -/
def partyPlace (p : Party) : Nat := routeRank p.route * 4096 + p.node

/-- Whether one of two colliding writes wins over the other (R372). Two direct writes of one party and node do not collide. -/
def winsOver (a b : Ask) : Bool :=
  if partyPlace a.party ≠ partyPlace b.party then partyPlace a.party < partyPlace b.party
  else match a.party.action, b.party.action with
    | some x, some y => y < x
    | some _, none => true
    | none, _ => false

namespace State

/-- The object that a request writes, where it takes part in collisions: it passes checks 1 to 10 (R372). -/
def target (s : State) (a : Ask) : Option Nat :=
  if s.dictGate a.op ≠ 0 then none
  else match a.op with
    | .write i k v => match s.writeObj false i k v with
      | .ok o => some o.key
      | .error _ => none
    | .domainOpen i k false _ n => match s.openObj i k false n with
      | .ok o => some o.key
      | .error _ => none
    | .domainClose h _ _ => match s.transfer h with
      | some t =>
        if t.isRead || t.data.length < t.total || domainLength t.obj t.data.length != 0 || (t.obj.access == .rws && s.nat O.cfgSwapState != 0) then none
        else some t.obj.key
      | none => none
    | _ => none

/-- Whether a write loses its object to another of the same tick. -/
def loses (s : State) (all : List Ask) (a : Ask) : Bool :=
  match s.target a with
  | none => false
  | some k => all.any fun b => s.target b == some k && winsOver b a

/-- Whether a request only reads. -/
def isRead (a : Ask) : Bool := match a.op with | .read .. => true | _ => false

/-- Whether a request is a swap request. -/
def isSwap (a : Ask) : Bool := match a.op with | .write i k _ => i == O.cfgSwapRequest.index && k == O.cfgSwapRequest.sub | _ => false

/-- Whether a request restarts Atelier: it takes effect once the swap request of its tick has been validated (R373, R444). -/
def isRestart (a : Ask) : Bool := match a.op with
  | .write i k _ => (i == O.updateApply.index && k == O.updateApply.sub) || (i == O.atlWarmReset.index && k == O.atlWarmReset.sub)
  | _ => false

/-- The requests of a tick: reads of the state before it, the losers' answers, winning writes, actions, swap requests, and the restart of Atelier that is one of them (R373). (DESIGN CHOICE, log entry 75.) -/
def tick (s : State) (asks : List Ask) : State :=
  let old := s
  let lost := asks.filter (old.loses asks)
  let rest := asks.filter fun a => !old.loses asks a
  let s := (rest.filter isRead).foldl (fun s a => old.serve s a) s
  let s := lost.foldl (fun s a => s.answer a { status := 0x1601 }) s
  let s := (rest.filter fun a => !isRead a && !isSwap a && !isRestart a && a.party.action.isNone).foldl (fun s a => old.serve s a) s
  let s := (rest.filter fun a => !isSwap a && a.party.action.isSome).foldl (fun s a => old.serve s a) s
  let s := (rest.filter isSwap).foldl (fun s a => old.serve s a) s
  let last := rest.filter fun a => isRestart a && a.party.action.isNone
  let s := if last.isEmpty || !rest.any isSwap then s else cmdSwapValidationDone s
  last.foldl (fun s a => old.serve s a) s

/-- The request that a write of DICT_OP starts, from the registers and the data of the window; a value longer than the data area is malformed (R370, R383). -/
def windowOp (d : Dict) (v : Nat) : DictOp :=
  let i := bitsOf d.index 0 16
  let k := bitsOf d.index 16 8
  let h := bitsOf d.handle 0 8
  let n := min d.length 524288
  let bs := (d.data ++ zeros (n - d.data.length)).take n
  match (if 524288 < d.length ∧ (bitsOf v 0 4 = 2 ∨ bitsOf v 0 4 = 4) then 0 else bitsOf v 0 4) with
  | 1 => .read i k (bitOf v 8)
  | 2 => .write i k bs
  | 3 => .domainOpen i k (bitOf v 9) (bitOf v 8) d.length
  | 4 => if d.transfers.any fun t => t.handle == h && t.isRead then .domainData h d.offset d.length [] none else .domainData h d.offset 0 bs none
  | 5 => .domainClose h d.crc none
  | 6 => .domainAbort h
  | _ => .unknown

/-- A write of a register or of a word of the data area of the BAR2 window; DICT_STATUS keeps all but DONE, which a 1 clears (R383). -/
def windowWrite (s : State) (off v : Nat) : State :=
  match off with
  | 0x00 => s.request { route := .bar2 } (windowOp s.dict v)
  | 0x04 => s.modDict fun d => { d with index := v % 2 ^ 24 }
  | 0x08 => s.modDict fun d => { d with length := v }
  | 0x0C => s.modDict fun d => { d with offset := v }
  | 0x10 => s.modDict fun d => { d with handle := v % 256 }
  | 0x14 => if bitOf v 1 then s.modDict fun d => { d with done := false } else s
  | 0x18 => s.modDict fun d => { d with crc := v }
  | _ => if 0x80000 ≤ off ∧ off < 0x100000 then s.modDict fun d => { d with data := overlayBytes d.data (off - 0x80000) (leBytes 4 v) } else s

/-- What a read of a register or of a word of the data area of the BAR2 window returns (R14, R383). -/
def windowRead (s : State) (off : Nat) : Nat :=
  match off with
  | 0x04 => s.dict.index
  | 0x08 => s.dict.length
  | 0x0C => s.dict.offset
  | 0x10 => s.dict.handle
  | 0x14 => dictStatus s.dict
  | 0x18 => s.dict.crc
  | _ => if 0x80000 ≤ off ∧ off < 0x100000 then fieldN s.dict.data (off - 0x80000) 4 else 0

end State

/-- REGISTER_WRITE (R317): a register of BAR0, or from 0x100000 on of the BAR2 window (R314, R383). (DESIGN CHOICE, log entry 72.) -/
def execRegisterWrite (offset : Nat) (v : W32) (s : State) : Host.Outcome State Fault Refusal :=
  .next (s.ifLive fun s => if offset < 0x100000 then cmdRegisterWrite s offset v.toNat else s.windowWrite (offset - 0x100000) v.toNat)

/-- DICTIONARY_TICK: what reached the engine in the microsecond, the Vipex messages and the timed actions that wait among it (R372, R373). (DESIGN CHOICE, log entry 75.) -/
def cmdDictionaryTick (s : State) (reqs : List Req) : State :=
  let vx := s.dict.inbox.map fun v => ({ party := v.party, op := v.op, vx := some v } : Ask)
  let direct := reqs.map fun r => ({ party := r.party, op := r.op } : Ask)
  let away := direct.filter fun a => !s.admits a
  let asks := vx ++ direct.filter s.admits ++ s.dict.due
  let s := away.foldl State.turnAway (s.modDict fun d => { d with inbox := [], due := [] })
  let s := (direct.filter fun a => s.admits a && a.party.route == .bar2).foldl (fun s a => s.loadWindow a.op) s
  s.tick asks

/-- DOMAIN_TIMEOUT: 5 s without a request end a transfer; its next request is answered with 0x1609 (R382). -/
def cmdDomainTimeout (s : State) (h : Nat) : State :=
  match s.transfer h with
  | none => s
  | some t => (s.elapseTo (t.lastAt + 5000000000)).endTransfer h |>.put O.dictLastStatus 0x1609

/-- SWAP_COPY_DONE: Maquette equals Cast and is released; the writes that waited are applied (R379). -/
def cmdSwapCopyDone (s : State) : State :=
  if !s.cfg.copying then s
  else
    let asks := s.cfg.waiting
    let s : State := { s with maq := s.cast, cfg := { s.cfg with copying := false, waiting := [], patinaChanged := false } }
    asks.foldl (fun s a => State.serve s s a true) s

/-- A write of one object as its own row names it. (DESIGN CHOICE, log entries 8, 115.) -/
def rowWrite (s : State) (p : Party) (o : Obj) (v : Bytes) : State := s.request p (.write o.index o.sub v)

/-- FUNCTION_ENABLE and FUNCTION_DISABLE: a write of the function's enable object (R44). (DESIGN CHOICE, log entry 8.) -/
def cmdFunction (s : State) (p : Party) (n : Nat) (on : Bool) : State := rowWrite s p (fnOf n).enableObj (leBytes 1 (b2n on))

/-- A clip command of one opcode (R477); another opcode's value is not this row's. -/
def cmdClp (s : State) (p : Party) (op : Nat) (v : Bytes) : State :=
  if fieldN v 0 1 = op then rowWrite s p O.clpCommand v else s

/-- DICTIONARY_TICK (R373). -/
def execDictionaryTick (reqs : List Req) (s : State) : Host.Outcome State Fault Refusal := .next (s.ifLive fun s => cmdDictionaryTick s reqs)

/-- DICT_READ (R371). -/
def execDictRead (src : Party) (index sub : Nat) (maq : Bool) (s : State) : Host.Outcome State Fault Refusal := .next (s.ifLive fun s => s.request src (.read index sub maq))

/-- DICT_WRITE (R371). -/
def execDictWrite (src : Party) (index sub : Nat) (value : Bytes) (s : State) : Host.Outcome State Fault Refusal := .next (s.ifLive fun s => s.request src (.write index sub value))

/-- DOMAIN_OPEN (R382). -/
def execDomainOpen (src : Party) (index sub : Nat) (dirRead maq : Bool) (total : Nat) (s : State) : Host.Outcome State Fault Refusal := .next (s.ifLive fun s => s.request src (.domainOpen index sub dirRead maq total))

/-- DOMAIN_DATA (R382). -/
def execDomainData (src : Party) (handle offset maxLen : Nat) (data : Bytes) (s : State) (ue : Option Nat := none) : Host.Outcome State Fault Refusal := .next (s.ifLive fun s => s.request src (.domainData handle offset maxLen data ue))

/-- DOMAIN_CLOSE (R382). -/
def execDomainClose (src : Party) (handle crc : Nat) (s : State) (ue : Option Nat := none) : Host.Outcome State Fault Refusal := .next (s.ifLive fun s => s.request src (.domainClose handle crc ue))

/-- DOMAIN_ABORT (R382). -/
def execDomainAbort (src : Party) (handle : Nat) (s : State) : Host.Outcome State Fault Refusal := .next (s.ifLive fun s => s.request src (.domainAbort handle))

/-- DOMAIN_TIMEOUT (R382). -/
def execDomainTimeout (handle : Nat) (s : State) : Host.Outcome State Fault Refusal := .next (s.ifLive fun s => cmdDomainTimeout s handle)

/-- SWAP_COPY_DONE (R379). -/
def execSwapCopyDone (s : State) : Host.Outcome State Fault Refusal := .next (s.ifLive fun s => cmdSwapCopyDone s)

/-- FUNCTION_ENABLE (R44). -/
def execFunctionEnable (src : Party) (f : Fin 17) (s : State) : Host.Outcome State Fault Refusal := .next (s.ifLive fun s => cmdFunction s src f true)

/-- FUNCTION_DISABLE (R44). -/
def execFunctionDisable (src : Party) (f : Fin 17) (s : State) : Host.Outcome State Fault Refusal := .next (s.ifLive fun s => cmdFunction s src f false)

/-- CAPTURE_STEP (R153). -/
def execCaptureStep (src : Party) (value : Bytes) (s : State) : Host.Outcome State Fault Refusal := .next (s.ifLive fun s => rowWrite s src O.captureStep value)

/-- CAPTURE_REPORT (R155). -/
def execCaptureReport (src : Party) (value : Bytes) (s : State) : Host.Outcome State Fault Refusal := .next (s.ifLive fun s => rowWrite s src O.captureReport value)

/-- ATL_WARM_RESET (R429). -/
def execAtlWarmReset (src : Party) (s : State) : Host.Outcome State Fault Refusal := .next (s.ifLive fun s => rowWrite s src O.atlWarmReset (leBytes 1 1))

/-- SWAP_REQUEST (R376). -/
def execSwapRequest (src : Party) (s : State) : Host.Outcome State Fault Refusal := .next (s.ifLive fun s => rowWrite s src O.cfgSwapRequest (leBytes 1 1))

/-- CFG_MAQUETTE_RESET (R375). -/
def execCfgMaquetteReset (src : Party) (s : State) : Host.Outcome State Fault Refusal := .next (s.ifLive fun s => rowWrite s src O.cfgMaquetteReset (leBytes 1 1))

/-- CFG_STORE (R381). -/
def execCfgStore (src : Party) (s : State) : Host.Outcome State Fault Refusal := .next (s.ifLive fun s => rowWrite s src O.cfgStore (leBytes 1 1))

/-- PATINA_STORE (R150). -/
def execPatinaStore (src : Party) (s : State) : Host.Outcome State Fault Refusal := .next (s.ifLive fun s => rowWrite s src O.patinaStore (leBytes 1 1))

/-- TIME_SET (R359). -/
def execTimeSet (src : Party) (value : Bytes) (s : State) : Host.Outcome State Fault Refusal := .next (s.ifLive fun s => rowWrite s src O.timeSet value)

/-- TIME_ADJUST (R359). -/
def execTimeAdjust (src : Party) (value : Bytes) (s : State) : Host.Outcome State Fault Refusal := .next (s.ifLive fun s => rowWrite s src O.timeAdjust value)

/-- TIME_ACTION_ADD (R362). -/
def execTimeActionAdd (src : Party) (value : Bytes) (s : State) : Host.Outcome State Fault Refusal := .next (s.ifLive fun s => rowWrite s src O.timeActionAdd value)

/-- PLINTH_STAGE (R462). -/
def execPlinthStage (src : Party) (value : Bytes) (s : State) : Host.Outcome State Fault Refusal := .next (s.ifLive fun s => rowWrite s src O.plinthStage value)

/-- PLINTH_CONFIRM (R463). -/
def execPlinthConfirm (src : Party) (value : Bytes) (s : State) : Host.Outcome State Fault Refusal := .next (s.ifLive fun s => rowWrite s src O.plinthConfirm value)

/-- PLINTH_CANCEL (R465). -/
def execPlinthCancel (src : Party) (s : State) : Host.Outcome State Fault Refusal := .next (s.ifLive fun s => rowWrite s src O.plinthCancel (leBytes 1 1))

/-- UPDATE_APPLY (R444). -/
def execUpdateApply (src : Party) (s : State) : Host.Outcome State Fault Refusal := .next (s.ifLive fun s => rowWrite s src O.updateApply (leBytes 1 1))

/-- FALLBACK_RELEASE (R486). -/
def execFallbackRelease (src : Party) (s : State) : Host.Outcome State Fault Refusal := .next (s.ifLive fun s => rowWrite s src O.clpFallbackRelease (leBytes 1 1))

/-- VIPEX_KEY_WRITE (R390). -/
def execVipexKeyWrite (src : Party) (key : Bytes) (s : State) : Host.Outcome State Fault Refusal := .next (s.ifLive fun s => rowWrite s src O.vipexKey key)

/-- STREAM_SOURCE_WRITE (R320). -/
def execStreamSourceWrite (src : Party) (value : Nat) (s : State) : Host.Outcome State Fault Refusal := .next (s.ifLive fun s => rowWrite s src O.streamSource (leBytes 1 value))

/-- TIME_ACTION_CANCEL (R362). -/
def execTimeActionCancel (src : Party) (seq : Nat) (s : State) : Host.Outcome State Fault Refusal := .next (s.ifLive fun s => rowWrite s src O.timeActionCancel (leBytes 4 seq))

/-- CLP_FORMAT (R478). -/
def execClpFormat (src : Party) (value : Bytes) (s : State) : Host.Outcome State Fault Refusal := .next (s.ifLive fun s => cmdClp s src 1 value)

/-- CLP_CREATE (R478). -/
def execClpCreate (src : Party) (value : Bytes) (s : State) : Host.Outcome State Fault Refusal := .next (s.ifLive fun s => cmdClp s src 2 value)

/-- CLP_WRITE (R479). -/
def execClpWrite (src : Party) (value : Bytes) (s : State) : Host.Outcome State Fault Refusal := .next (s.ifLive fun s => cmdClp s src 3 value)

/-- CLP_CLOSE (R478). -/
def execClpClose (src : Party) (value : Bytes) (s : State) : Host.Outcome State Fault Refusal := .next (s.ifLive fun s => cmdClp s src 4 value)

/-- CLP_DELETE (R478). -/
def execClpDelete (src : Party) (value : Bytes) (s : State) : Host.Outcome State Fault Refusal := .next (s.ifLive fun s => cmdClp s src 5 value)

/-- CLP_PLAY (R481). -/
def execClpPlay (src : Party) (value : Bytes) (s : State) : Host.Outcome State Fault Refusal := .next (s.ifLive fun s => cmdClp s src 6 value)

/-- CLP_STOP (R482). -/
def execClpStop (src : Party) (value : Bytes) (s : State) : Host.Outcome State Fault Refusal := .next (s.ifLive fun s => cmdClp s src 7 value)

end Sys2Proof.Machine
end

