-- ==== Sys2Proof/Machine/Scan.lean ====
section
/-! DEFINITION. Scanout: latch points, epochs, buffer roles, head starts and stops, lines with their CRC check, resyncs and underruns, timed actions, and what changes the raster's grid (R33 to R36, R223 to R240, R250, R253, R330 to R334, R360, R363, R364, R378, R380). -/

namespace Sys2Proof.Machine

namespace State

/-! ## Instants -/

/-- Tl of Cast in ns, rounded up (R224). -/
def lineNs (s : State) : Nat := ceilDiv (s.linePeriod false) 1000

/-- 2 Tl of Cast in ns, rounded up (R231, R240). -/
def twoLines (s : State) : Nat := ceilDiv (2 * s.linePeriod false) 1000

/-- The epoch that comes next: the current one where it has not been taken yet. -/
def upcoming (s : State) : Nat := if s.clk.epoch < s.curEpoch then s.curEpoch else s.clk.epoch + 1

/-- Take an epoch on the grid in force. -/
def takeEpoch (s : State) (k : Nat) : State :=
  let s := s.reach (s.tEpoch k)
  { s with clk := { s.clk with epoch := k } }

/-- The next epoch comes: in the blank interval one of the grid in force, or E_r, from which the new grid holds (R238, R239, R350). -/
def advanceEpoch (s : State) : State :=
  match s.cfg.blank, s.cfg.erEpoch with
  | true, some er =>
    let k := s.upcoming
    let at_ := epochAt s.castTf er
    if (if s.cfg.gridNow.isSome then s.tEpoch k < at_ else k < er) then s.takeEpoch k
    else
      let s : State := { s with cfg := { s.cfg with blank := false, erEpoch := none, stopEpoch := none, grid := none, gridNow := none } }
      s.takeEpoch er
  | _, _ => s.takeEpoch s.upcoming

/-! ## Heads (R235, R240) -/

/-- Whether a STARTING head has all it waits for: its panel's power, memory, its islands, and partners that are ready, failed or absent (R219, R240, R256). (DESIGN CHOICE, log entry 58.) -/
def startOk (s : State) (h : Nat) : Bool :=
  s.headState h == 1 && h < s.nat O.headCount && s.nat O.panelPowerState == 2 && s.nat O.memState == 1 &&
  [22 + h, 25 + h, 17, 24].all s.islandUp && s.partnersReady h

/-- Keep since when each head has had all it waits for. (DESIGN CHOICE, log entries 29, 58.) -/
def noteReady (s : State) : State :=
  let since : Nat → Nat := fun h => ((s.scan.startAt.find? fun x => x.1 == h).map (·.2)).getD s.clk.now
  s.modScan fun x => { x with startAt := ([0, 1].filter s.startOk).map fun h => (h, since h) }

/-- Whether a head starts line 0 now: 2 Tl have passed (R240). (DESIGN CHOICE, log entry 58.) -/
def starts (s : State) (h : Nat) : Bool := s.startOk h && s.scan.startAt.any fun x => x.1 == h && x.2 + s.twoLines ≤ s.clk.now

/-- The heads that are ready enter ON (R240). -/
def startHeads (s : State) : State := [0, 1].foldl (fun s h => if s.starts h then s.setHead h 2 else s) s

/-- The heads in STOPPING send BLANK in place of line 0, naming the frame it replaces, and stop (R240, R271). (DESIGN CHOICE, log entry 57.) -/
def stopHeads (s : State) (lo : Nat) : State :=
  [0, 1].foldl (fun s h =>
    if s.headState h = 3 then ((if h < s.nat O.headCount then s.sendToMask h fun _ => blankBlock lo else s).headStopped h) else s) s

/-- Whether any head sends. -/
def anySends (s : State) : Bool := s.headSends 0 || s.headSends 1

/-- Whether every head the panel uses sends (R197). -/
def allSend (s : State) : Bool := [0, 1].all fun h => s.headSends h || s.nat O.headCount ≤ h

/-- The slots that receive line data from this frame on: the masked ones that are trained, but not one whose lane that carries data is being swept (R235, R281, R287). (DESIGN CHOICE, log entry 57.) -/
def feedSlots (s : State) (on : Bool) : State :=
  (List.range 32).foldl (fun s n =>
    let f := on && s.headSends (n / 16) && bitOf (s.slotMask false (n / 16)) (n % 16) && s.slotState n == 4 && (s.slot n).phase == .none &&
      (s.slot n).jobs.all fun w => !(s.slot n).logical.contains (some w.lane)
    s.modSlot n fun x => { x with fed := f, blankNext := false }) s

/-! ## The frame being scanned (R33, R199, R322) -/

/-- The first scan of a frame ends: its PRESENTED or DIRECT entry (R322). A covered frame that was not presented at its epoch carries the code of the fault that prevented it, and 0x0912 is logged (R197, R199). (DESIGN CHOICE, log entry 55.) -/
def finishFirst (s : State) : State :=
  let s :=
    if !s.scan.firstScan then s
    else
      let z := s.scan.spoilt
      let s := s.modScan fun x => { x with firstScan := false, spoilt := none }
      match s.scannedFrame with
      | none => s
      | some f =>
        if f.number = 0 then s
        else
          let code := if f.covered then z.getD 0 else 0
          let s := (s.presentedEntry f code s.scan.lineZeroAt).bump O.framesPresented
          if z.isSome then s.promiseBroken f code else s
  if s.scan.directTag.any (·.active) then s.cutDirect 0 else s

/-- The pending pair becomes active (R232). In direct-frame mode a new pair ends the blanking of R380. -/
def activate (s : State) : State :=
  match s.scan.pend with
  | none => s
  | some p => s.modScan fun x => { x with pend := none, active := p, newPair := true, blankUntilNew := x.blankUntilNew && !s.hif.direct }

/-- Whether the buffer in the SCAN role holds a frame that may be kept for HOLD (R33, R332, R380). (DESIGN CHOICE, log entry 54.) -/
def scanKept (s : State) : Bool := !s.scan.blankUntilNew && s.scannedFrame.isSome

/-- A role after a rotation: HOLD to FREE, SCAN to HOLD where its frame is kept, else to FREE (R33). -/
def rolled (keep : Bool) (b : Buf) : Buf :=
  match b.role with
  | .hold => {}
  | .scan => if keep then { b with role := .hold } else {}
  | _ => b

/-- The roles rotate: the committed buffer takes the SCAN role (R33). -/
def rotate (s : State) (b : Nat) (f : Frame) : State :=
  let keep := s.scanKept
  let s := s.modScan fun x => { x with bufs := (x.bufs.map (rolled keep)).set b { role := .scan, frame := some f }, holdValid := keep }
  if f.number = 0 then s else s.put O.scanFrameNumber f.number

/-- A frame at its epoch with line 0 leaving: its first scan begins (R33), and a pattern frame's tag is presented (R155). A frame that a head in use does not send is not presented at its epoch (R197). -/
def beginScan (s : State) (b : Nat) (f : Frame) : State :=
  let all : Bool := s.allSend
  let s := (s.rotate b f).modScan fun x => { x with firstScan := true, spoilt := if all then none else some 0, blankUntilNew := false }
  if f.captureRun.isNone ∨ !s.cal.cap.valid then s
  else s.modCap fun c => { c with
    presented := f.captureRun, shownAt := if f.captureRun = some s.captureTag ∧ !c.confirmed then some (c.shownAt.getD s.ns) else c.shownAt }

/-- A frame at its epoch while no head sends leaves the pipeline without a scan and, where it was covered, with its promise broken: with the code of the fault that stopped the heads, or else with a status that the spec does not give (R197, R199, R322, R495). (DESIGN CHOICE, log entry 53.) -/
def unscanned (s : State) (b : Nat) (f : Frame) : State :=
  let s := s.rotate b f
  if f.number = 0 then s
  else match s.scan.stopCode with
    | some c => (s.presentedEntry f c s.ns).promiseBroken f c
    | none =>
      let c := (Config.freeBits 16 s.free).toNat
      ((s.presentedEntry f c s.ns).promiseBroken f c).drawFree

/-- The buffer that holds an address of the frame-buffer partition (R204). -/
def bufferOf (s : State) (a : Nat) : Option Nat := if s.partitionOf a = 6 then some ((a - 0xC0000000) / 0x90000000) else none

/-- A direct pair's first frame start: the buffer it lies in takes the SCAN role, which stays empty for a pair in host scratch; the other roles move on as for any new frame (R33, R332). -/
def directRoles (s : State) : State :=
  let keep := s.scanKept
  let here := s.bufferOf s.scan.active.a
  s.modScan fun x => { x with
    holdValid := keep
    bufs := (List.range 3).map fun i => if here = some i then { role := .scan } else rolled keep (x.bufs.getD i {}) }

/-! ## Phase, lock and resync (R229 to R231) -/

/-- The PLL_SCAN correction after a measured error, in parts in 10^9: e is removed over 64 epochs, by at most 2 ppm an epoch and within 1,000 ppm (R229). (DEDUCED, log entry 59.) -/
def servoStep (s : State) (e : Int) : Int :=
  let want := rhe (e * 1000000000 * s.tf.2) (64 * max 1 s.tf.1 * 1000000000)
  clampI (-1000000) 1000000 (s.scan.phaseAdjust + clampI (-2000) 2000 want)

/-- A measurement of the phase error: servo and lock state (R229, R230). -/
def measure (s : State) (e : Int) : State :=
  let g := if e.natAbs ≤ 10 then min 3 (s.scan.goodCount + 1) else 0
  let b := if 20 < e.natAbs then min 3 (s.scan.badCount + 1) else 0
  let st := s.nat O.scanLockState
  let st' : Nat := if g = 3 then 2 else if st = 2 ∧ b < 3 then 2 else 1
  ((s.put O.scanPhaseError e).put O.scanLockState st').modScan fun x => { x with goodCount := g, badCount := b, phaseAdjust := s.servoStep e }

/-- A resync is due: line 0 starts again at the first epoch at least 2 Tl ahead, and the heads stop at the end of the line in progress (R231). -/
def resync_ (s : State) (e : Int) (code : Nat) : State :=
  let k := firstEpoch s.tf (s.ns + s.twoLines)
  ((s.modScan fun x => { x with idleUntil := some k, resync := some code }).bump O.scanResyncCount).scanNote 0x0B05 [unsigned 32 e]

/-- The line in progress has ended: the heads abort in it, and a first scan cut short carries the code of the resync (R231). (DEDUCED, log entry 56.) -/
def endResync (s : State) (line : Nat) : State :=
  match s.scan.resync, s.scan.idleUntil with
  | some code, some k =>
    let s := (s.cutFirstScan code).cutDirect code
    ((s.idleHeads line k).modScan fun x => { x with resync := none }).feedSlots false
  | _, _ => s

/-! ## Direct-frame mode (R331, R332) -/

/-- The frames pending and rendering are discarded at the mode latch that enters direct-frame mode (R332). -/
def discardForDirect (s : State) : State :=
  let fs := s.adm.rendering.toList ++ s.adm.pending.toList
  let s := if fs.isEmpty then s else s.put O.hifLastStatus 0x0105
  let s := fs.foldl (fun s f => (s.presentedEntry { f with covered := false } 0x0105 s.ns).noteDiscard f) s
  let s := s.modScan fun x => { x with bufs := x.bufs.map fun b => if b.role = .render then {} else b }
  let s := s.clearRse
  let s := s.modAdm fun a => { a with pending := none, rendering := none }
  fs.foldl (fun s f => s.releaseFrame f.number) s

/-- The descriptors still in the ring at the mode latch: the one taken and not yet committed is consumed with 0x0109 here, the others when they are taken (R334). (DEDUCED, log entry 71.) -/
def dropDescriptors (s : State) : State :=
  let s := match s.hif.held with
    | some d => if d.committed then s else (fdrAdvance (directEntry s d 0x0109)).modHif fun h => { h with held := none }
    | none => s
  let r := s.hif.fdr
  s.modHif fun h => { h with fdrStale := if r.en then (r.tail + r.size - r.head) % max 1 r.size else 0 }

/-- Leaving direct-frame mode: the buffer of FRAME_ACTIVE_A is in the SCAN role, the others are FREE, and descriptors still in the ring are not committed any more (R332, R334). -/
def leaveDirect (s : State) : State :=
  let s := s.dropDescriptors
  let here := s.bufferOf s.scan.active.a
  (s.modHif fun h => { h with direct := false }).modScan fun x => { x with
    holdValid := false, bufs := (List.range 3).map fun i => if here = some i then { role := .scan } else {} }

/-- The mode latch: a mean-drive limit in force ends the mode with 0x0C08 and clears DIRECT_REQ (R250, R263, R331). -/
def modeLatch (s : State) : State :=
  let limited : Bool := decide (s.nat O.plinthMeanDrive < 65535)
  let s := if limited && s.hif.direct then s.note O.pdpLastStatus 0x0C08 else s
  let s := if limited then s.modHif fun h => { h with directReq := false, directPending := h.directPending || h.direct } else s
  if !s.hif.directPending then s
  else
    let s := s.modHif fun h => { h with directPending := false }
    if s.hif.directReq = s.hif.direct then s
    else if s.hif.directReq then (s.modHif fun h => { h with direct := true }).discardForDirect
    else s.leaveDirect

/-- The descriptor whose pair became active: its first scan follows, and the next one may be taken (R334). -/
def tagDirect (s : State) : State :=
  match s.hif.held with
  | none => s
  | some d => if d.committed then (s.modHif fun h => { h with held := none }).modScan fun x => { x with directTag := some { d with active := false } } else s

end State

/-- LATCH_POINT: at line V_TOTAL - 1 the pending pair becomes active, a Plinth commit takes effect, a mode change applies, and an armed swap is bound (R42, R232, R331, R378, R464). (DESIGN CHOICE, log entry 53.) -/
def cmdLatchPoint (s : State) : State :=
  if !s.genRuns || s.cfg.blank then s
  else
    let s := (s.noteReady).endResync 0
    let s := s.reach (s.tEpoch s.upcoming - s.lineNs)
    let s := (s.modScan fun x => { x with line := s.nat O.headVTotal - 1 }).finishFirst
    let s := s.activate.tagDirect.applyCommit.modeLatch
    s.bindSwap

/-! ## Swaps at an epoch (R43, R235, R237, R238, R378) -/

namespace State

/-- Whether T_F has come: the epoch of the bound frame, also where it was discarded, or the next epoch where no frame was in flight at the binding (R43, R378). (DEDUCED, log entry 62.) -/
def boundDue (s : State) : Bool :=
  s.cfg.noFrameAtBind || s.cfg.dueEpoch.any (· ≤ s.clk.epoch) ||
  s.dueFrame.any fun x => x.2.number != 0 && s.nat O.cfgBoundFrame ≤ x.2.number

/-- The blank interval begins at S: BLANK in place of line 0, and the lanes idle (R238). -/
def beginBlank (s : State) : State :=
  let lo := s.frameLoNext
  let s := (List.range 2).foldl (fun s h => if s.headSends h then s.sendToMask h fun _ => blankBlock lo else s) s
  let s := s.feedSlots false
  { s with cfg := { s.cfg with blank := true, stopAt := s.tEpoch s.clk.epoch } }

/-- What a bound swap does at this epoch. (DEDUCED, log entry 62.) -/
def epochSwap (s : State) : State :=
  if s.nat O.cfgSwapState ≠ 3 ∨ s.cfg.blank then s
  else if s.cfg.changesTf && !s.cfg.switched then
    if s.cfg.stopEpoch.any (· ≤ s.clk.epoch) then
      let s := s.beginBlank.switchBanks
      if s.cfg.noFrameAtBind then s.completeSwap else s
    else s
  else if !s.boundDue then s
  else if s.cfg.retrain && !s.cfg.switched then
    let s := s.beginBlank.completeSwap
    { s with cfg := { s.cfg with erEpoch := some (firstEpoch s.tf (s.cfg.stopAt + s.realignTime false)) } }
  else s.completeSwap

/-- An epoch inside the blank interval is counted; an admitted frame for it gets 0x0B0A. Where Tf changes no admitted frame has an old epoch here, and no roles rotate (R238, R322). -/
def blankEpoch (s : State) : State :=
  let s := (s.bump O.scanRetrainSkippedCount).stopHeads s.frameLoNext
  match (if s.cfg.gridNow.isSome then none else s.dueFrame) with
  | none => s
  | some (b, f) =>
    let f := { f with covered := false }
    let s := s.rotate b f
    if f.number = 0 then s else (s.put O.scanLastStatus 0x0B0A).presentedEntry f 0x0B0A (s.tEpoch s.clk.epoch)

/-! ## Reading ahead (R214, R227, R251) -/

/-- The address of a head line of a pair, and of its entry (R227, R251). -/
def lineAt (s : State) (p : Pair) (y h : Nat) : Nat × Nat :=
  ((if h = 0 then p.a else p.b) + y * s.linePitch false, p.a + crcTableOffset + 8 * (2 * y + h))

/-- SCAN reads lines of the active pair into the FIFO of each head that sends, which keeps two complete lines ahead of the line being sent (R214). -/
def readAhead (s : State) (ys : List Nat) : State :=
  let hs := [0, 1].filter s.headSends
  let new : List FifoLine := (ys.filter (· < s.nat O.headVActive)).flatMap fun y => hs.map fun h =>
    let at_ := s.lineAt s.scan.active y h
    { head := h, line := y, addr := at_.1, entryAddr := at_.2, data := s.hbmRead at_.1 (s.lineBytes false), entry := s.hbmRead at_.2 8 }
  s.modScan fun x => { x with fifo := x.fifo.filter (fun l => x.line ≤ l.line && !(ys.contains l.line)) ++ new }

/-- The bytes of a head line: those read ahead, or memory's where the line is not in the FIFO, as a line of HOLD (R214). -/
def lineData (s : State) (a n : Nat) : Bytes :=
  match s.scan.fifo.find? fun l => l.addr == a && l.line == s.scan.line with
  | some l => l.data
  | none => s.hbmRead a n

/-- The CRC entry of a head line, read ahead with it (R214, R251). -/
def entryData (s : State) (a entry : Nat) : Bytes :=
  match s.scan.fifo.find? fun l => l.addr == a && l.line == s.scan.line with
  | some l => l.entry
  | none => s.hbmRead entry 8

/-! ## Line 0 (R33, R35, R231, R240, R380, R434) -/

/-- The instant of the first frame is recorded (R434). -/
def noteStart (s : State) : State :=
  if s.atl.startTimed then s
  else
    let ms : Nat := (s.clk.now - s.atl.startAt) / 1000000
    ((s.modAtl fun a => { a with startTimed := true }).put O.atlStartTimeMs ms).post 0x1214 [ms]

/-- Line 0 of a frame leaves: `e` is the measured error, and EPOCH is raised (R229, R236, R326, R380). -/
def lineZero (s : State) (e : Int) : State :=
  let s := (s.modScan fun x => { x with
    running := true, line := 0, stopCode := none, lineZeroAt := ((s.tEpoch s.clk.epoch : Int) + e).toNat, directTag := x.directTag.map fun d => { d with active := true } }).settle 6 0
  let s := if s.hif.direct then s.latchBands false else s
  let s := ((s.measure e).noteStart).irq 4
  let s := s.modScan fun x => { x with fifo := [] }
  if s.scan.blankUntilNew then (s.sendBlank).feedSlots false else (s.readAhead [0, 1]).feedSlots true

/-- The raster at an epoch outside the blank interval; `fresh` at E_r (R33, R231, R236, R240). (DESIGN CHOICE, log entry 54.) -/
def frameEpoch (s : State) (fresh : Bool) (e : Int) : State :=
  if s.scan.idleUntil.any (s.clk.epoch < ·) then s
  else
    let s := s.modScan fun x => { x with idleUntil := none }
    let s := if fresh then s.activate.tagDirect else s
    let s := (s.stopHeads s.frameLoNext).startHeads
    let s := match s.dueFrame with
      | none => if s.hif.direct && s.scan.newPair then s.directRoles else s
      | some (b, f) =>
        if !s.anySends then s.unscanned b f
        else if s.scan.active.a = bufBase b then s.beginScan b f
        else s
    let s := s.modScan fun x => { x with newPair := false }
    if !s.anySends then
      (s.modScan fun x => { x with running := false, goodCount := 0, badCount := 0 }).put O.scanLockState (if s.genRuns then s.nat O.scanLockState else 0 : Nat)
    else
      let s := s.lineZero e
      if 1000 < e.natAbs then s.resync_ e 0x0B05 else s

/-! ## Timed actions (R363, R364) -/

/-- What an action does (R364). A write or a swap request goes to the dictionary engine, for its next tick (R373). The spec gives the entry of LOG_MARK no code. (DESIGN CHOICE, log entries 14, 75.) -/
def runAction (s : State) (a : Action) : State :=
  let who := { a.party with action := some a.seq }
  let send : DictOp → State := fun op => s.modDict fun d => { d with due := d.due ++ [{ party := who, op := op }] }
  match a.kind with
  | 1 => s.sendVector a.vector
  | 2 => send (.write O.cfgSwapRequest.index O.cfgSwapRequest.sub [1#8])
  | 3 => send (.write a.index a.sub (a.value.take a.len))
  | _ => (s.post (Config.freeBits 16 s.free).toNat [leNat (a.value.take 4)]).drawFree

/-- One action that is due at E_k: it runs, runs late, that is with a due time at or before E_k - Tf taken exactly, or is dropped late (R363). -/
def dueAction (s : State) (t : Nat) (a : Action) : State :=
  let late : Bool := decide (a.due * s.tf.2 ≤ (s.clk.epoch - 1) * s.tf.1 * 1000000000)
  if !late then (s.runAction a).put O.timeActionDoneSeq a.seq
  else
    let s := s.put O.timeActionLastLateness (t - a.due : Nat)
    if bitOf a.flags 0 then (s.bump O.timeActionDroppedCount).post 0x0310 [a.seq]
    else (((s.bump O.timeActionLateCount).post 0x0316 [a.seq, t - a.due]).runAction a).put O.timeActionDoneSeq a.seq

/-- The actions due at an epoch run in ascending seq (R363). -/
def runActions (s : State) : State :=
  let t := s.tEpoch s.clk.epoch
  let due := (s.tim.actions.filter fun a => a.due ≤ t).mergeSort fun a b => a.seq ≤ b.seq
  if due.isEmpty then s
  else
    let s := s.modTim fun x => { x with actions := x.actions.filter fun a => t < a.due }
    (due.foldl (fun s a => s.dueAction t a) s).put O.timeActionPending s.tim.actions.length

/-! ## Steps of display time (R198, R359, R360) -/

/-- A frame in flight takes another epoch, uncovered. -/
def moveFrame (number epoch : Nat) (f : Frame) : Frame := if f.number = number then { f with epoch := epoch, covered := false } else f

/-- The frame whose window opens at the step instant or has opened, and the pending one behind it (R360). (DEDUCED, log entry 60.) -/
def stepFrames (s : State) (k : Nat) : Option Nat × Option Nat :=
  match s.adm.rendering, s.adm.pending with
  | some f, p => (some f.number, p.map (·.number))
  | none, some p => if p.epoch ≤ k + 1 then (some p.number, none) else (none, some p.number)
  | none, none => (none, none)

/-- The frame whose first scan begins at the step is uncovered with the others: the suspension is in force at its T (R197, R198). -/
def uncoverScan (s : State) : State :=
  if !s.scan.firstScan then s
  else s.modScan fun x => { x with bufs := x.bufs.map fun b => if b.role = .scan then { b with frame := b.frame.map fun f => { f with covered := false } } else b }

/-- A requested step is applied at the epoch; the grid change of a bound swap is then computed on the new time scale (R239, R359, R360). (DEDUCED, log entry 60.) -/
def applyStep (s : State) (e : Int) : State :=
  match s.tim.step with
  | none => s
  | some d =>
    let (r, p) := s.stepFrames s.clk.epoch
    let at_ := ((s.tEpoch s.clk.epoch : Int) + d).toNat
    let s := (((s.suspend 4).uncoverScan).shiftTime d).resume 4
    let s : State := ({ s with clk := { s.clk with epoch := s.curEpoch } } : State).regridBlank d
    let e1 := if s.cfg.blank && s.cfg.gridNow.isSome then max (s.cfg.erEpoch.getD 0) (firstEpoch s.castTf at_ + 1) else firstEpoch s.tf at_ + 1
    let move : Frame → Frame := fun f => match r, p with
      | some x, some y => moveFrame y (e1 + 1) (moveFrame x e1 f)
      | some x, none => moveFrame x e1 f
      | none, some y => moveFrame y (e1 + 1) f
      | none, none => f
    let s := s.modAdm fun a => { a with rendering := a.rendering.map move, pending := a.pending.map move }
    let s := s.modScan fun x => { x with bufs := x.bufs.map fun b => if b.role = .render then { b with frame := b.frame.map move } else b }
    let s := (s.adm.waiting.foldl (fun s f => s.refuseHead f 0x0302) s).regridBound
    let last : Nat := if s.cfg.grid.isSome && !s.cfg.blank then s.cfg.erEpoch.getD 0 - 1 else if p.isSome then e1 + 1 else if r.isSome then e1 else e1 - 1
    let s := (s.modSdec fun x => { x with lastEpoch := some last }).put O.lastBinnedEpoch last
    if s.anySends then s.resync_ e 0x0B05 else s

end State

/-- EPOCH: line 0 leaves, the roles rotate, the phase error is measured, and swaps, actions, watchdog and steps are handled (R33, R229, R238, R240, R335, R360, R363). -/
def cmdEpoch (s : State) (e : Int) : State :=
  let blank := s.cfg.blank
  let s := ((s.noteReady).endResync 0).advanceEpoch
  let fresh := blank && !s.cfg.blank
  let s := ((s.finishFirst).settleIf 3 fun _ => true).settleIf 5 fun _ => true
  let s := s.epochSwap
  let s := if s.cfg.blank then s.blankEpoch else (s.frameEpoch fresh e).runActions
  ((s.watchHost).railsWhenHeadsStopped).applyStep e

/-! ## Lines (R250, R251, R253, R287) -/

namespace State

/-- The uncorrectable sectors that a read meets. -/
def badSectors (ue : List Nat) (a n : Nat) : List Nat := (sectorsOf a n).filter fun x => ue.any fun u => u / 32 == x / 32

/-- The bytes of a head line as read; those of an uncorrectable sector are free. -/
def readLine (s : State) (ue : List Nat) (a n : Nat) : Bytes :=
  if (badSectors ue a n).isEmpty then s.lineData a n
  else (List.range n).map fun i => if ue.any fun u => u / 32 == (a + i) / 32 then Config.freeBits 8 (s.free + i) else (s.lineData a n).getD i 0

/-- Whether a line passes the check against its entry (R253). -/
def lineOk (s : State) (ue : List Nat) (a n entry y h : Nat) : Bool :=
  let e := s.entryData a entry
  bitOf (fieldN e 7 1) 0 && fieldN e 4 2 == y && fieldN e 6 1 == h && fieldN e 0 4 == crc32c (s.lineData a n) &&
  (badSectors ue a n).isEmpty && (badSectors ue entry 8).isEmpty

/-- Uncorrectable sectors met by SCAN are logged, as faults in the frame buffers (R216). -/
def lineErrors (s : State) (ue : List Nat) (a n : Nat) : State :=
  (badSectors ue a n).foldl (fun s x => s.eccUncorrectable x .scanout (s.partitionOf x == 6)) s

/-- The pair of the HOLD buffer, where it holds a valid frame and the mode is rendered (R253). -/
def holdPair (s : State) : Option Pair :=
  if s.hif.direct || !s.scan.holdValid then none
  else (s.bufIn .hold).map fun b => { a := bufBase b, b := bufBase b + s.lineBytes false }

/-- A warning for the frame in its first scan (R322). -/
def scanWarn (s : State) (code : Nat) : State :=
  if !s.scan.firstScan then s
  else s.modScan fun x => { x with bufs := x.bufs.map fun b => if b.role = .scan then { b with frame := b.frame.map fun f => { f with warn := addWarn f.warn code } } else b }

/-- PDP logs a failed line as a fault of the MEM_LINE class (R253, R493). (DESIGN CHOICE, log entry 55.) -/
def lineFault (s : State) (item code y h : Nat) : State :=
  ((s.put O.pdpLastStatus code).raise 3 (2 * y + h) item code [s.nat O.scanFrameNumber % 2 ^ 32, h, y]).scanWarn code

/-- A failed line is taken from HOLD, or sent as zeros (R253). (DESIGN CHOICE, log entry 55.) -/
def replaceLine (s : State) (ue : List Nat) (y h n : Nat) : State × Bytes :=
  let s := s.bump O.lineCrcFailCount
  let zero : State → State × Bytes := fun s => ((s.bump O.lineZeroedCount).modScan fun x => { x with spoilt := some 0x0C03 }, zeros n)
  match s.holdPair with
  | none => zero (s.lineFault 0 0x0C03 y h)
  | some p =>
    let at_ := s.lineAt p y h
    if s.lineOk ue at_.1 n at_.2 y h then (s.lineFault 0 0x0C02 y h, s.lineData at_.1 n)
    else
      let s := (s.lineErrors ue at_.1 n).lineErrors ue at_.2 8
      let first : FaultRec := { family := 3, cls := 2 * y + h, item := 1, code := 0x0C02 }
      let s : State := { s with flt := s.flt ++ [first] }
      zero (s.lineFault 0 0x0C03 y h)

/-- The peak ceiling of direct-frame mode on a line's codes, by the channel of each stripe (R142, R250). -/
def ceilLine (s : State) (h : Nat) (line : Bytes) : Bytes :=
  let b := s.nat O.bitsPerSubpixel
  let curves := s.oct O.driveCurves
  let v := leNat line
  let bgr := match s.cal.bronze with
    | some img => (bronzeGlobal img).bgr
    | none => false
  let codes := (List.range (3 * s.nat O.headHActive)).map fun i =>
    let code := v / 2 ^ (b * i) % 2 ^ b
    let c := if bgr then 2 - i % 3 else i % 3
    match s.slotOfColumn false h (i / 3) with
    | none => code
    | some n => min code (curveCode curves (s.pdp.bands.getD n 0) c (s.nat (O.plinthPeakDrive n)) b)
  leBytes line.length (packCodes b codes)

/-- The bytes sent for a head line: checked, replaced, and limited in direct-frame mode (R250, R253, R254). -/
def fetchLine (s : State) (ue : List Nat) (y h : Nat) : State × Bytes :=
  let n := s.lineBytes false
  let p := s.scan.active
  let at_ := s.lineAt p y h
  let s := s.lineErrors ue at_.1 n
  let r :=
    if p.crcSkip then (s.drawFree, s.readLine ue at_.1 n)
    else
      let s := s.lineErrors ue at_.2 8
      if s.lineOk ue at_.1 n at_.2 y h then (s, s.lineData at_.1 n) else s.replaceLine ue y h n
  if s.hif.direct then (r.1, r.1.ceilLine h r.2) else r

/-- A spare takes over its logical lane at the line named (R287). -/
def takeSpare (s : State) (n y : Nat) : State :=
  match (s.slot n).spare with
  | some (L, k, at_) => if at_ = y then s.modSlot n fun x => { x with logical := x.logical.set L (some k), spare := none } else s
  | none => s

/-- Before line 0: the SYNC of the latch line on every lane of a head's boards, with the slip that LINK chooses by the phase of the block grid, which no rule states (R270). (DESIGN CHOICE, log entry 126.) -/
def sendSlips (s : State) (h : Nat) : State :=
  let n := (Config.freeBits 8 s.free).toNat % 132
  (List.range 16).foldl (fun s k => if s.slotState (16 * h + k) = 0 then s else s.sendSlip (16 * h + k) n) s

/-- One slot's part of a line: its stripes, the blanking line, or the BLANK of a slot that has gone black (R235, R273, R287). -/
def sendSlotLine (s : State) (n y : Nat) (line : Option Bytes) : State :=
  let s := s.takeSpare n y
  let x := s.slot n
  if x.blankNext then ((s.sendControl n (blankBlock s.frameLo)).idleLanes n).modSlot n fun x => { x with blankNext := false }
  else if !x.fed then s
  else match line with
    | some b => s.sendActive n y b
    | none => s.sendBlankingLine n y

/-- One head's line. -/
def sendHeadLine (s : State) (ue : List Nat) (y h : Nat) : State :=
  if !s.headSends h then s
  else
    let s := if y = 0 then s.sendSlips h else s
    let r : State × Option Bytes :=
      if y < s.nat O.headVActive ∧ !s.scan.blankUntilNew then (let q := s.fetchLine ue y h; (q.1, some q.2)) else (s, none)
    (r.1.maskedSlots h).foldl (fun s n => s.sendSlotLine n y r.2) r.1

/-- The head counters differ at the end of a line: both heads abort and restart together (R228, R231). (DEDUCED, log entry 56.) -/
def desync (s : State) (y : Nat) : State := ((s.scanFault 0x0B09 [y]).resync_ (s.int O.scanPhaseError) 0x0B09).endResync y

end State

/-- SCAN_LINE: the next line of both heads, and the read of the line two ahead; `ueA` and `ueB` are the uncorrectable addresses that each head's reads meet, `ce` the corrected ones, `desync` a difference of the counters exchanged at its end (R214, R216, R228, R253). A resync that waits takes effect behind the line (R231). -/
def cmdScanLine (s : State) (ueA ueB ce : List Nat) (desync : Bool) : State :=
  let y := s.scan.line
  if !s.scan.running || !s.anySends || s.cfg.blank || (s.scan.idleUntil.isSome && s.scan.resync.isNone) || s.nat O.headVTotal ≤ y then s
  else
    let s := (s.reach (s.scan.lineZeroAt + y * s.linePeriod false / 1000)).eccCorrected ce
    let s := (s.sendHeadLine ueA y 0).sendHeadLine ueB y 1
    let s := if y = 0 then s.drawFree else s
    let s := (s.modScan fun x => { x with line := y + 1 }).readAhead [y + 2]
    let s := s.endResync y
    let s := if y + 1 = s.nat O.headVActive then s.finishFirst else s
    if desync && s.scan.idleUntil.isNone then s.desync y else s

/-- UNDERRUN: both heads abort and idle until the next epoch (R236). -/
def cmdUnderrun (s : State) (h level : Nat) : State :=
  let y := s.scan.line
  if !s.scan.running || !s.headSends h || s.cfg.blank || (s.scan.idleUntil.isSome && s.scan.resync.isNone) || s.nat O.headVActive ≤ y then s
  else
    let s := (s.bump O.scanUnderrunCount).scanFault 0x0B01 [h, y, level]
    ((((s.cutFirstScan 0x0B01).cutDirect 0x0B01).modScan fun x => { x with resync := none }).idleHeads y (max (s.clk.epoch + 1) (s.scan.idleUntil.getD 0))).feedSlots false

/-- LATCH_POINT (R232). -/
def execLatchPoint (s : State) : Host.Outcome State Fault Refusal := .next (s.ifLive cmdLatchPoint)

/-- EPOCH (R33). -/
def execEpoch (phaseError : Int) (s : State) : Host.Outcome State Fault Refusal := .next (s.ifLive fun s => cmdEpoch s phaseError)

/-- SCAN_LINE (R253). -/
def execScanLine (ueA ueB : List Nat) (desync : Bool) (s : State) (ce : List Nat := []) : Host.Outcome State Fault Refusal :=
  .next (s.ifLive fun s => cmdScanLine s ueA ueB ce desync)

/-- UNDERRUN (R236). -/
def execUnderrun (head : Fin 2) (level : Nat) (s : State) : Host.Outcome State Fault Refusal := .next (s.ifLive fun s => cmdUnderrun s head level)

end Sys2Proof.Machine
end

