-- ==== Sys2Proof/Machine/ClockLoss.lean ====
section
/-! DEFINITION. Island clock loss: the hold of the island, the response of each group, and the restart (R28, R494, R495). -/

namespace Sys2Proof.Machine

namespace State

/-- Both heads stop as in an underrun and send BLANK; they are OFF until the island restarts, and what they would have shown is lost (R494, R495). -/
def clockStopsHeads (s : State) : State :=
  if [0, 1].all fun h => s.headState h == 0 then s
  else
    let s := (((s.sendAbort s.lineNow).sendBlank).cutFirstScan 0x1106).cutDirect 0x1106
    let s := (s.haltScan).modScan fun x => { x with stopCode := some 0x1106, goodCount := 0, badCount := 0 }
    let s := ([0, 1].foldl (fun s h => (s.stopSlots h).setHead h 0) s).put O.scanLockState 0
    { s with held := s.held.filter fun f => f != .headA && f != .headB }

/-- An RSE island leaves the count; the frame rendering is discarded where units had been given to it, and the units of a frame that only stages are given out again (R36, R494). -/
def loseRse (s : State) (n : Nat) : State :=
  let given := s.rse.given.contains n
  let s := s.modRse fun r => { r with removed := if r.removed.contains n then r.removed else r.removed ++ [n] }
  if !given then s
  else
    match s.adm.rendering, s.bufIn .render with
    | some f, some b =>
      let s := ((s.setBuf b {}).bump O.rseOverrunCount).noteDiscard f
      let s := ((s.presentedEntry f 0x1106 s.ns).promiseBroken f 0x1106).clearRse
      (s.modAdm fun a => { a with rendering := none }).releaseFrame f.number
    | _, _ => { s.clearRse with hif := s.hif }

/-- The tile updates in flight in SDEC and RREC are discarded with 0x0405 (R104, R494). -/
def loseUpdates (s : State) : State :=
  let all := s.rrec.upds ++ s.sdec.stalled.toList
  let s := s.modSdec fun d => { d with stalled := none }
  ((all.foldl (fun s u => s.discardUpd u 0x0405) s).settleRelief).regateStream

/-- A port enters OFF at once (R347, R494). -/
def losePort (s : State) (p : Nat) : State := if s.nat (O.portState p) = 0 then s else ((s.closePort p).put (O.portState p) 0).regateStream

/-- The clip store enters OFF at once (R487, R494). -/
def loseClip (s : State) : State :=
  if s.nat O.clpState = 0 then s
  else ((((stopPlay s).modClp fun c => { c with cmd := none }).put O.clpCmdState 0).put O.clpState 0).regateStream

/-- The overlay plane enters OFF at once (R309, R494). -/
def loseOverlay (s : State) : State :=
  if s.nat O.overlayState = 0 then s
  else ((s.modRasp fun r => { r with head := r.tail, incomplete := [], catchup := false, copying := [], draws := [] }).markResident).put O.overlayState 0

/-- The audio ports enter OFF at once (R409, R494). -/
def loseAudio (s : State) : State :=
  ((List.range 8).foldl (fun s p => if s.nat (O.audPortState p) = 0 then s else (s.audLeaveOn p).put (O.audPortState p) 0) s).audClocksOff

/-- The functions that an island serves (R25, R494). -/
def islandFns (i : Nat) : List Fn :=
  if i = 1 then [.clip] else if i = 2 then [.port 0] else if i = 3 then [.port 1] else if i = 4 then [.port 2]
  else if i = 27 then [.overlay] else if i = 28 then (List.range 8).map Fn.aud else []

/-- The islands without which the heads stop: CAL, SCAN, PDP and LINK (R494). -/
def headIslands : List Nat := [17, 22, 23, 24, 25, 26]

/-- The islands whose restart R495 attempts: those of the second and third rows of R494, and ATL. -/
def restartable (i : Nat) : Bool := [0, 1, 2, 3, 4, 6, 7, 27, 28, 30].contains i || headIslands.contains i

/-- The response to a lost clock (R494). (DEDUCED, log entry 111.) -/
def clockResponse (s : State) (i : Nat) : State :=
  let s : State := { s with held := s.held.filter fun f => !(islandFns i).contains f }
  if 9 ≤ i ∧ i ≤ 16 then s.loseRse (i - 9)
  else if i = 0 then cmdPcieReset s .linkDown
  else if i = 1 then s.loseClip
  else if i = 2 ∨ i = 3 ∨ i = 4 then s.losePort (i - 2)
  else if i = 6 ∨ i = 7 then s.loseUpdates
  else if i = 27 then s.loseOverlay
  else if i = 28 then s.loseAudio
  else if i = 30 then watchdogExpires s s.pln.badKick
  else if i = 31 then (if s.nat O.panelPowerState = 0 then s.clockStopsHeads else s.clockStopsHeads.panelStop)
  else s.clockStopsHeads

/-- The functions that an island serves start again as their enables ask (R495). -/
def clockBack (s : State) (i : Nat) : State :=
  if headIslands.contains i then [0, 1].foldl (fun s h => if s.headEnabled h && s.headState h < 2 then s.headStarting h else s) s
  else
    let s := (islandFns i).foldl (fun s f => if s.flag f.enableObj && s.nat f.stateObj < 2 then s.fnStarting f else s) s
    if i = 6 ∨ i = 7 then s.regateStream else s

end State

/-- CLOCK_LOST: the island is held in reset, the loss reported, and its group responds (R494). The loss of the always-on clock stops the die, and leaves no island to log it. (DEDUCED, log entries 111, 112.) -/
def cmdClockLost (s : State) (i : Nat) : State :=
  if (s.island i).lost then s
  else
    let s := s.modIsl i fun x => { x with lost := true, held := true, restarting := false, lostAt := s.clk.now }
    if i = 29 then (stopDie s .aonLost).refreshFaults
    else (s.clockResponse i).raise 7 i 0 0x1106 [i]

/-- CLOCK_RESTART_ATTEMPT: 1 ms after detection, once in 3,600 power-on seconds; an island without an attempt is gated (R495). -/
def cmdClockRestartAttempt (s : State) (i : Nat) : State :=
  let x := s.island i
  if !x.held || !x.lost || x.restarting || !State.restartable i then s
  else
    let s := s.elapseTo (x.lostAt + 1000000)
    let sec := s.powerSeconds
    if x.lastRestart.any (sec < · + 3600) then s.gateIsl i
    else s.modIsl i fun x => { x with restarting := true, lastRestart := some sec, lostAt := s.clk.now }

/-- CLOCK_RESTART_CHECK: after 10 ms within the limits the island is released and its functions start; otherwise it is gated and held until RESET_N (R495). -/
def cmdClockRestartCheck (s : State) (i : Nat) (ok : Bool) : State :=
  let x := s.island i
  if !x.restarting then s
  else
    let s := s.elapseTo (x.lostAt + 10000000)
    if ok then
      let s := s.modIsl i fun x => { x with lost := false, held := false, restarting := false }
      ((s.pwrNote 0x1107 [i]).settle 7 i).refreshFaults.clockBack i
    else (s.modIsl i fun x => { x with restarting := false, pow := .gated }).refreshFaults

/-- CLOCK_LOST (R494). -/
def execClockLost (island : Fin 32) (s : State) : Host.Outcome State Fault Refusal := .next (s.ifLive fun s => cmdClockLost s island)

/-- CLOCK_RESTART_ATTEMPT (R495). -/
def execClockRestartAttempt (island : Fin 32) (s : State) : Host.Outcome State Fault Refusal := .next (s.ifLive fun s => cmdClockRestartAttempt s island)

/-- CLOCK_RESTART_CHECK (R495). -/
def execClockRestartCheck (island : Fin 32) (ok : Bool) (s : State) : Host.Outcome State Fault Refusal :=
  .next (s.ifLive fun s => cmdClockRestartCheck s island ok)

end Sys2Proof.Machine
end

