-- ==== Sys2Proof/Machine/Boot.lean ====
section
/-! DEFINITION. Reset and start-up: RESET_N, the cold start, memory training, the thermal restart, loss of power, and the end of an update's writing (R136, R149, R219, R220, R349, R374, R422, R433, R434, R442 to R444, R465, R507, R508). -/

namespace Sys2Proof.Machine

/-! ## What stays over a reset -/

/-- A slot after a reset: the board's presence at its pin, to be confirmed anew (R285). (DESIGN CHOICE, log entries 21, 89.) -/
def slotReset (now : Nat) (x : Slot) : Slot :=
  if x.present then { present := true, presentAt := now, phase := .confirming, since := now } else { highAt := some now }

/-- The islands with power from the start: those that R25 never gates, the populated stacks' and the RSE islands in use (R25, R163). (DEDUCED, log entry 51.) -/
def bootIslands (hbmStacks rse : Nat) : List Island :=
  (List.range 32).map fun i =>
    let on : Bool := [0, 2, 5, 8, 29, 30, 31].contains i || (18 ≤ i && i < 18 + hbmStacks) || (9 ≤ i && i < 9 + rse)
    { pow := if on then .powered else .gated }

namespace State

/-- The state in which a start begins: what NOR, OTP, the drives, the pins and the always-on island hold stays, everything else takes its reset value (R421, R433, R446, R449, R458, R474). (DESIGN CHOICE, log entries 20, 21; DEDUCED, log entry 80.) -/
def coldBase (s : State) : State :=
  { part := s.part, die := .running, pending := s.pending, out := s.out, free := s.free
    clk := { now := s.clk.now, disp := ((s.nor.saved.map (·.time)).getD 0) * 2 ^ 32 }
    nor := s.nor
    atl := { wasRecovery := s.atl.wasRecovery, startAt := s.clk.now }
    pln := { siteKeys := s.pln.siteKeys, ceilings := s.pln.ceilings, arb := s.pln.arb, consentLow := s.pln.consentLow, token := s.pln.token }
    pwr := { pfailLow := s.pwr.pfailLow, pfailAt := s.pwr.pfailAt, pfailHighAt := s.pwr.pfailHighAt, okAt := some s.clk.now }
    link := s.link.map (slotReset s.clk.now)
    thm :=
      { sensors := (List.range 48).map fun n => { trim := s.nor.trims.getD n 0 }
        slots := s.thm.slots, record := s.thm.record, coarse := s.thm.coarse, tripLog := s.thm.tripLog, tripCount := s.thm.tripCount
        restarts := s.thm.restarts, powerBase := s.thm.powerBase, restarted := s.thm.restarted, lockout := s.thm.lockout }
    clp := { drives := s.clp.drives.map fun d => { d with fails := [] }, data := s.clp.data, volumes := s.clp.volumes }
    mem := { releasedAt := s.clk.now }
    log := { seq := s.log.seq, staging := s.log.staging, lostSince := s.log.lostSince, rateTimes := s.log.rateTimes } }

/-! ## Loading at a start -/

/-- The pins and the saved counters as the objects show them (R349, R421, R449, R454). (DESIGN CHOICE, log entry 20.) -/
def loadSaved (s : State) (pg : Nat) : State :=
  let r := s.nor.saved.getD {}
  let c : Nat → Nat := fun k => r.counters.getD k 0
  let s := (((s.put O.coldStartCount (satAdd 32 (c 1) 1 : Nat)).put O.warmResetCount (c 2)).put O.lockstepCount (c 3)).put O.framesPresented (c 4)
  let s := ((s.put O.holdupLifetime (c 5)).put O.updateCount (c 6)).put O.norEraseMax (c 7)
  let s := ((s.setRate r.rate).put O.timeUtcOffset r.utc).put O.railPgStatus pg
  let s := s.modTim fun t => { t with target := r.rate, base := r.rate }
  ((s.put O.thmTripCount s.thm.tripCount).put O.thmTripSlotsUsed s.thm.slots.length).showLog

/-- VDD_RGMII as sensed at its pin: 1.8 V or 2.5 V (R503, R524). (DESIGN CHOICE, log entry 28.) -/
def senseRgmii (s : State) : State := (s.put O.rgmiiIoVoltage (1 + (Config.freeBits 1 s.free).toNat : Nat)).drawFree

/-- Both banks and the RW objects take the stored configuration, with its generation; without one the defaults stand with generation 1 (R374). (DESIGN CHOICE, log entry 30.) -/
def loadConfig (s : State) : State :=
  match s.nor.config with
  | none => s.put O.cfgBankGeneration 1
  | some (gen, img) =>
    let rws : List Nat := (O.all.filter fun o => o.access == .rws).map (·.key)
    let shadow := img.filter fun x => rws.contains x.1
    let plain := img.filter fun x => !rws.contains x.1
    let s := plain.foldl (fun s x => { s with obj := storeSet s.obj x.1 x.2 }) s
    (({ s with cast := shadow, maq := shadow } : State).put O.cfgBankGeneration gen).put O.cfgStoredGeneration gen

/-- Whether a Bronze copy is valid (R136). -/
def bronzeValid (b : Bytes) : Bool :=
  fieldN b 0 4 == 0x4E5A5242 && fieldN b 4 2 == 1 && Config.ecdsaP384 Config.ownerKey (Config.sha384 (b.take 0x403100)) (cut b 0x403100 96)

/-- Take a Bronze, or none; the calibration starts at its reference temperature (R136, R144). (DESIGN CHOICE, log entry 26.) -/
def useBronze (s : State) (img : Option Bytes) (one : Bool) : State :=
  { s with cal := { s.cal with bronze := img, single := one, tCal := (img.map fun b => (bronzeGlobal b).tRef).getD 0 } }

/-- Both Bronze copies are checked and the first valid one is used; T_cal starts at its t_ref (R136, R137, R145). (DESIGN CHOICE, log entry 26.) -/
def checkBronze (s : State) (single : Bool) : State :=
  let a := s.nor.bronze.getD 0 []
  let b := s.nor.bronze.getD 1 []
  let s :=
    if bronzeValid a then (if bronzeValid b then s.useBronze (some a) false else (s.useBronze (some a) true).raise 10 0 0 0x0702 [1])
    else if bronzeValid b then (s.useBronze (some b) true).raise 10 0 0 0x0702 [0]
    else (s.useBronze none single).raise 10 0 0 0x0701
  match s.cal.bronze, s.nor.config with
  | some img, some _ =>
    if s.panelSize false = ((bronzeGlobal img).panelW, (bronzeGlobal img).panelH) then s else s.post 0x0703
  | _, _ => s

/-- Where the configuration names no view_height, both banks take the panel centre: half of the panel height, from Bronze, or of the nominal lens model without one (R136, R157). (DESIGN CHOICE, log entry 47.) -/
def centreView (s : State) : State :=
  if (storeGet s.cast O.viewHeight.key).isSome then s
  else
    let (h, p) := match s.cal.bronze with
      | some img => ((bronzeGlobal img).panelH, (bronzeGlobal img).pitchY)
      | none => (s.nat O.headVActive, s.nat O.nominalPitch)
    let v : Val := .num (rhe (h * p : Nat) 8192)
    (s.putV O.viewHeight v).putM O.viewHeight v

/-- The valid Patina slot with the highest generation is loaded into both banks (R149). (DESIGN CHOICE, log entry 27.) -/
def loadPatina (s : State) : State :=
  let broken := ((List.range 2).filter fun k => let x := s.nor.patina.getD k {}; !patinaUnused s x && !patinaValid s x).length
  let s := if broken = 1 then s.raise 10 1 0 0x0705 else s
  match patinaBest s with
  | some (k, gen) =>
    let v : Val := .oct (s.nor.patina.getD k {}).data
    ((s.putV O.patinaLattice v).putM O.patinaLattice v).put O.patinaGeneration gen
  | none =>
    let s : State := { s with cal := { s.cal with noPatina := true } }
    if broken = 0 then s.post 0x0706 else s.raise 10 1 0 0x0706

/-- The functions that the loaded enables ask for, but for the heads, which wait for memory, and reference capture, whose enable is never stored (R219, R347, R381, R433). (DESIGN CHOICE, log entry 29.) -/
def startFunctions (s : State) : State :=
  (allFns.filter fun f => f != .headA && f != .headB && f != Fn.capture).foldl (fun s f => if s.flag f.enableObj then s.fnStarting f else s) s

/-- The whole buffers are zero: buffer 0 is scanned until a frame reaches its epoch, with no table to check it against (R33, R434). -/
def blackBuffer (s : State) : State :=
  s.modScan fun x => { x with bufs := [{ role := .scan }, {}, {}], active := { a := bufBase 0, b := bufBase 0 + s.lineBytes false, crcSkip := true } }

/-- The PTP slots that the loaded configuration enables; one whose profile forbids its transport or delay mechanism is not (R352, R355, R433). (DESIGN CHOICE, log entry 29.) -/
def startPtp (s : State) : State :=
  (List.range 2).foldl (fun s d => if s.flag (O.ptpEnable d) then s.ptpSwitch d (s.profileOk d) else s) s

/-- The firmware has been entered: NOR is scanned, the configuration and the calibration are loaded, and the dictionary is ready (R433, R434, R437). (DESIGN CHOICE, log entry 19.) -/
def bootLoad (s : State) (single : Bool) : State :=
  let s := ((s.enterFirmware).reportTorn).showSlots
  let s := s.loadConfig
  let s : State := { s with isl := bootIslands s.stackCount (s.nat O.rseIslandsEnabled) }
  let s := (((s.checkBronze single).centreView).loadPatina).refreshCal
  let s := s.blackBuffer
  ({ s with dict := { s.dict with ready := true }, clk := { s.clk with epoch := s.curEpoch } } : State).put O.atlState 1

/-- The functions start, and what the boot has to report is logged (R433, R434, R443). -/
def bootEnd (s : State) : State :=
  let s := if s.atl.wasRecovery then (s.modAtl fun a => { a with wasRecovery := false }).atlNote 0x1210 else s
  let s := s.startFunctions.startPtp.regateStream
  if s.nor.config.isSome then s.modAtl fun a => { a with startTimed := false }
  else
    let ms : Nat := (s.clk.now - s.atl.startAt) / 1000000
    (s.put O.atlStartTimeMs ms).post 0x1214 [ms]

/-- The boot of a slot's firmware. (DESIGN CHOICE, log entry 19.) -/
def bootUp (s : State) (single : Bool) : State := (s.bootLoad single).bootEnd

/-- No slot boots: recovery, with PCIe alone; BRONZE_SINGLE stays until a start that checks both copies (R136, R443). (DESIGN CHOICE, log entry 25.) -/
def bootRecovery (s : State) (single : Bool) : State :=
  let s : State := { s with isl := (List.range 32).map fun i => { pow := if [0, 29, 30, 31].contains i then .powered else .gated } }
  let s : State := ({ s with dict := { s.dict with ready := true }, cal := { s.cal with single := single } } : State).put O.atlState 4
  ((s.showSlots).modAtl fun a => { a with wasRecovery := true }).refreshFaults

/-- A cold start up to the choice of a slot, with the uncorrectable reads of NOR (R433, R438). MEM is released within 40 ms (R433). How long it takes within its 160 ms, the spec leaves open. A suspension by a trip stays to the first frame admitted (R198). (DESIGN CHOICE, log entry 19.) -/
def coldLoad (s : State) (ue : List NorUe) : State :=
  let s := s.modNor fun n => ue.foldl Nor.lose n
  let tripped : Bool := bitOf (s.nat O.admSuspendCauses) 0
  let pg := s.nat O.railPgStatus
  let s := (((s.coldBase.loadSaved pg).noteNor ue)).senseRgmii
  let s := if tripped then (s.put O.admSuspendCauses 1).put O.admPromiseState 1 else s
  let ms := (Config.freeBits 8 s.free).toNat % 161
  let s := { (s.drawFree) with mem := { s.mem with releasedAt := s.clk.now + (Config.freeBits 6 (s.free + 1)).toNat % (min ms 40 + 1) * 1000000 } }
  let s := (s.elapseTo (s.clk.now + ms * 1000000)).drawFree
  let s : State := { s with clk := { s.clk with disp := ((s.nor.saved.map (·.time)).getD 0) * 2 ^ 32 } }
  let s := verifyLimits s
  let s := if s.thm.restarted then s.thmNote 0x100B else s
  let s := if s.thm.lockout then s.thmNote 0x100C else s
  (s.modThm fun t => { t with restarted := false, lockout := false }).bootSelect

/-- The firmware of the chosen slot boots, or the block is in recovery (R433, R443). -/
def coldBoot (s : State) (single : Bool) : State := if s.atl.bootSlot.isNone then s.bootRecovery single else s.bootUp single

/-- The rails of the panel, all off (R259, R508). -/
def allRailsDown (s : State) : State := (List.range 6).foldl (fun s _ => cmdRailDownStep s) s

/-- A cold start, to the dictionary being ready (R433). (DESIGN CHOICE, log entry 19.) -/
def coldStart (s : State) (ue : List NorUe) : State := (s.allRailsDown.coldLoad ue).coldBoot s.allRailsDown.cal.single

/-- The restarts of the last 86,400 power-on seconds have used the budget up (R422). (DESIGN CHOICE, log entry 23.) -/
def noRestartLeft (s : State) : Bool := s.nat O.thmAutoRestart ≤ s.recentRestarts

end State

/-! ## RESET_N, power, restart -/

/-- COLD_START: RESET_N is released (R433). -/
def cmdColdStart (s : State) (ue : List NorUe) : State := if s.die = .inReset then s.coldStart ue else s

/-- RESET_N_ASSERT: the rails go down in order, the die is reset, a NOR operation is torn, and entries being staged are lost (R421, R422, R437, R446, R507, R508). (DESIGN CHOICE, log entry 22.) -/
def cmdResetNAssert (s : State) : State :=
  if s.die = .inReset then s
  else
    let lock : Bool := s.stop == .trip && s.noRestartLeft
    let s := if s.die = .running then stopRails (tearNor (silenceLanes s)) else s
    { s with
      die := .inReset, stop := .none, hbm := [], dict := {}
      log := { s.log with staging := [], sram := [] }
      thm := { s.thm with thermtrip := false, lockout := s.thm.lockout || lock, belowSince := none } }

/-- The restart itself: a cold start, or the lockout when none is left in 24 h (R422). (DESIGN CHOICE, log entry 23.) -/
def restartNow (s : State) (ue : List NorUe) : State :=
  if s.noRestartLeft then s.modThm fun x => { x with lockout := true }
  else (s.modThm fun x => { x with restarts := x.restarts ++ [s.powerSeconds], restarted := true, thermtrip := false }).coldStart ue

/-- THERMAL_RESTART: Tj has been below the throttle start for 60 s and a restart is left (R422). (DESIGN CHOICE, log entry 23.) -/
def cmdThermalRestart (s : State) (ue : List NorUe) : State :=
  match s.thm.belowSince with
  | none => s
  | some t =>
    if s.die ≠ .stopped ∨ s.stop ≠ .trip then s
    else
      restartNow (s.elapseTo (t + 60000000000)) ue

/-- POWER_LOSS: the supply collapses. NOR, OTP, the drives, BRONZE_SINGLE and the levels at the pins stay; a trip record is still programmed (R421, R465). -/
def cmdPowerLoss (s : State) : State :=
  let s := if s.die = .running then tearNor s else s
  let pg : State → State := fun t => t.putV O.railPgStatus (s.val O.railPgStatus)
  let r := s.nor.saved.getD {}
  pg { part := s.part, pending := s.pending, out := s.out, free := s.free, nor := s.nor
       pln := { siteKeys := s.pln.siteKeys, ceilings := s.pln.ceilings, arb := s.pln.arb, consentLow := s.pln.consentLow, token := s.pln.token }
       pwr := { pfailLow := s.pwr.pfailLow, pfailHighAt := if s.pwr.pfailLow then none else some 0 }
       cal := { single := s.cal.single }
       link := s.link.map fun x => { present := x.present }
       thm := { slots := s.thm.slots ++ s.thm.record.toList, tripCount := r.trips, powerBase := r.counters.getD 0 0 }
       clp := { drives := s.clp.drives.map fun d => { d with fails := [] }, data := s.clp.data, volumes := s.clp.volumes }
       log := { seq := (s.nor.ring.getLast?.map fun e => (e.seq + 1) % 2 ^ 32).getD 0 } }

/-! ## Memory start-up (R219, R220) -/

/-- Memory training fails: mem_state reads FAILED (R220). (DESIGN CHOICE, log entry 31.) -/
def memFailed (s : State) (stack : Nat) : State := ((s.put O.memState 2).put O.memLastStatus 0x0A01).raise 14 stack 0 0x0A01 [stack]

/-- MEM_TRAINING_DONE: a stack that failed is trained once more; a second failure, or a wrong number of stacks, is final; else the fill begins (R219, R220). (DESIGN CHOICE, log entry 31.) -/
def cmdMemTrainingDone (s : State) (failed : List Nat) (answered : Nat) : State :=
  if s.nat O.memState ≠ 0 ∨ s.mem.filling ∨ s.nat O.atlState = 4 then s
  else if answered ≠ s.nat O.hbmStackCount then memFailed s (min answered (s.stackCount - 1))
  else
    let bad := (List.range s.stackCount).filter failed.contains
    match bad.find? fun i => (s.stack i).retrained with
    | some i => memFailed s i
    | none =>
      if bad.isEmpty then
        { s with mem := { s.mem with filling := true, hbmStacks := s.mem.hbmStacks.map fun x => { x with trained := true } } }
      else bad.foldl (fun s i => s.modStack i fun x => { x with retrained := true }) s

/-- MEM_READY: the whole capacity is zero, and the enabled heads start (R219, R240). (DEDUCED, log entry 15.) -/
def cmdMemReady (s : State) : State :=
  if !s.mem.filling then s
  else
    let s : State := { s with hbm := [], mem := { s.mem with filling := false } }
    let s := (s.put O.memState 1).put O.memTrainingTime ((s.clk.now - s.mem.releasedAt) / 1000 : Nat)
    [0, 1].foldl (fun s h => if s.headEnabled h && s.headState h == 0 then s.headStarting h else s) s

/-! ## The end of an update's writing (R443, R444) -/

/-- UPDATE_WRITE_DONE: read back good, repeated once, or failed. In recovery the image is installed as slot A and the device cold-starts. -/
def cmdUpdateWriteDone (s : State) (failed : Bool) (ue : List NorUe) : State :=
  if s.nat O.updateState ≠ 3 then s
  else if failed then
    if s.atl.updateTries = 0 then s.modAtl fun a => { a with updateTries := 1 } else updateFail s 0x1213
  else if s.nat O.atlState = 4 && fieldN s.atl.image 6 1 == 1 then
    ((updateWritten s).modNor fun n => n.setSel 0 none false).coldStart ue
  else updateWritten s

/-- COLD_START (R433). -/
def execColdStart (s : State) (ue : List NorUe := []) : Host.Outcome State Fault Refusal := .next (cmdColdStart s ue)

/-- RESET_N_ASSERT (R508). -/
def execResetNAssert (s : State) : Host.Outcome State Fault Refusal := .next (cmdResetNAssert s)

/-- THERMAL_RESTART (R422). -/
def execThermalRestart (s : State) (ue : List NorUe := []) : Host.Outcome State Fault Refusal := .next (cmdThermalRestart s ue)

/-- POWER_LOSS (R465). -/
def execPowerLoss (s : State) : Host.Outcome State Fault Refusal := .next (cmdPowerLoss s)

/-- MEM_TRAINING_DONE (R219, R220). -/
def execMemTrainingDone (failed : List (Fin 4)) (answered : Nat) (s : State) : Host.Outcome State Fault Refusal :=
  .next (s.ifLive fun s => cmdMemTrainingDone s (failed.map (·.val)) answered)

/-- MEM_READY (R219). -/
def execMemReady (s : State) : Host.Outcome State Fault Refusal := .next (s.ifLive cmdMemReady)

/-- UPDATE_WRITE_DONE (R444). -/
def execUpdateWriteDone (failed : Bool) (s : State) (ue : List NorUe := []) : Host.Outcome State Fault Refusal := .next (s.ifLive fun s => cmdUpdateWriteDone s failed ue)

end Sys2Proof.Machine
end

