-- ==== Sys2Proof/Machine/Idle.lean ====
section
/-! DEFINITION. What the block does while no command waits: one nanosecond passes (R348). -/

namespace Sys2Proof.Machine

/-- One nanosecond without a command: TIME counts it at its rate while its clock runs, and the heads that are ready note since when (R240, R348). (DESIGN CHOICE, log entry 1; DEDUCED, log entry 112.) -/
def State.idle (s : State) : State :=
  if s.live && !(s.island 5).lost then ({ s with clk := tickClock s.clk (s.int O.timeRate) } : State).noteReady
  else { s with clk := { s.clk with now := s.clk.now + 1 } }

end Sys2Proof.Machine
end

