-- ==== Sys2Proof/Machine/Dispatch.lean ====
section
/-! DEFINITION. One arm for each command: a direct call of its meaning. -/

namespace Sys2Proof.Machine

/-- The effect of a command on everything but the queue. -/
def exec (i : Instr) (s : State) : Host.Outcome State Fault Refusal :=
  match i with
  | .coldStart ue => Sys2Proof.Machine.execColdStart s ue
  | .resetNAssert => Sys2Proof.Machine.execResetNAssert s
  | .memTrainingDone failed answered => Sys2Proof.Machine.execMemTrainingDone failed answered s
  | .memReady => Sys2Proof.Machine.execMemReady s
  | .islandPowered island => Sys2Proof.Machine.execIslandPowered island s
  | .functionEnable src f => Sys2Proof.Machine.execFunctionEnable src f s
  | .functionDisable src f => Sys2Proof.Machine.execFunctionDisable src f s
  | .portStartDone p => Sys2Proof.Machine.execPortStartDone p s
  | .portStopDone p => Sys2Proof.Machine.execPortStopDone p s
  | .audPortStartDone p => Sys2Proof.Machine.execAudPortStartDone p s
  | .audPortStopDone p => Sys2Proof.Machine.execAudPortStopDone p s
  | .clpStartDone d0 d1 => Sys2Proof.Machine.execClpStartDone d0 d1 s
  | .clpStopDone => Sys2Proof.Machine.execClpStopDone s
  | .overlayStartDone => Sys2Proof.Machine.execOverlayStartDone s
  | .overlayStopDone => Sys2Proof.Machine.execOverlayStopDone s
  | .captureStartCheck => Sys2Proof.Machine.execCaptureStartCheck s
  | .captureStep src value => Sys2Proof.Machine.execCaptureStep src value s
  | .captureReport src value => Sys2Proof.Machine.execCaptureReport src value s
  | .captureTimeout => Sys2Proof.Machine.execCaptureTimeout s
  | .segment ue ce => Sys2Proof.Machine.execSegment ue s ce
  | .frameMarker => Sys2Proof.Machine.execFrameMarker s
  | .figureDefine => Sys2Proof.Machine.execFigureDefine s
  | .figureModify => Sys2Proof.Machine.execFigureModify s
  | .figureRetire => Sys2Proof.Machine.execFigureRetire s
  | .tileUpdate => Sys2Proof.Machine.execTileUpdate s
  | .decoderFree => Sys2Proof.Machine.execDecoderFree s
  | .tileDecodeDone decoder => Sys2Proof.Machine.execTileDecodeDone decoder s
  | .tileCommit ordinal entryUe => Sys2Proof.Machine.execTileCommit ordinal s entryUe
  | .audioBlock => Sys2Proof.Machine.execAudioBlock s
  | .paddingSection => Sys2Proof.Machine.execPaddingSection s
  | .unknownSection => Sys2Proof.Machine.execUnknownSection s
  | .privateSection => Sys2Proof.Machine.execPrivateSection s
  | .admTakeFrame => Sys2Proof.Machine.execAdmTakeFrame s
  | .preCostingDone => Sys2Proof.Machine.execPreCostingDone s
  | .finalCostingStart => Sys2Proof.Machine.execFinalCostingStart s
  | .finalCostingDone => Sys2Proof.Machine.execFinalCostingDone s
  | .lateData => Sys2Proof.Machine.execLateData s
  | .renderWindowOpen => Sys2Proof.Machine.execRenderWindowOpen s
  | .renderWindowClose => Sys2Proof.Machine.execRenderWindowClose s
  | .unitDispatch => Sys2Proof.Machine.execUnitDispatch s
  | .unitStagingDone cluster tileUe figUe store ce => Sys2Proof.Machine.execUnitStagingDone cluster tileUe figUe store s ce
  | .unitRenderStart cluster => Sys2Proof.Machine.execUnitRenderStart cluster s
  | .unitRenderDone cluster store calUe => Sys2Proof.Machine.execUnitRenderDone cluster store s calUe
  | .latchPoint => Sys2Proof.Machine.execLatchPoint s
  | .epoch phaseError => Sys2Proof.Machine.execEpoch phaseError s
  | .swapCopyDone => Sys2Proof.Machine.execSwapCopyDone s
  | .pcieLinkLoss kind => Sys2Proof.Machine.execPcieLinkLoss kind s
  | .pcieReset kind => Sys2Proof.Machine.execPcieReset kind s
  | .scanLine ueA ueB desync ce => Sys2Proof.Machine.execScanLine ueA ueB desync s ce
  | .underrun head level => Sys2Proof.Machine.execUnderrun head level s
  | .refreshInstant => Sys2Proof.Machine.execRefreshInstant s
  | .toleranceReport fifoA fifoB => Sys2Proof.Machine.execToleranceReport fifoA fifoB s
  | .selfRefreshEntry stack => Sys2Proof.Machine.execSelfRefreshEntry stack s
  | .scrubPass ue ce => Sys2Proof.Machine.execScrubPass ue s ce
  | .thmSample sensors hbmStacks => Sys2Proof.Machine.execThmSample sensors hbmStacks s
  | .tripRecordProgrammed => Sys2Proof.Machine.execTripRecordProgrammed s
  | .thermalRestart ue => Sys2Proof.Machine.execThermalRestart s ue
  | .trimLearn => Sys2Proof.Machine.execTrimLearn s
  | .pfailFall => Sys2Proof.Machine.execPfailFall s
  | .holdupConfirm => Sys2Proof.Machine.execHoldupConfirm s
  | .holdupShed => Sys2Proof.Machine.execHoldupShed s
  | .holdupParked => Sys2Proof.Machine.execHoldupParked s
  | .holdupRecovery => Sys2Proof.Machine.execHoldupRecovery s
  | .railDownStep => Sys2Proof.Machine.execRailDownStep s
  | .deviceRailCompare mv => Sys2Proof.Machine.execDeviceRailCompare mv s
  | .railPgRise rail => Sys2Proof.Machine.execRailPgRise rail s
  | .railStepDelay => Sys2Proof.Machine.execRailStepDelay s
  | .railPgTimeout => Sys2Proof.Machine.execRailPgTimeout s
  | .railFault rail => Sys2Proof.Machine.execRailFault rail s
  | .railOffStep => Sys2Proof.Machine.execRailOffStep s
  | .clockLost island => Sys2Proof.Machine.execClockLost island s
  | .clockRestartAttempt island => Sys2Proof.Machine.execClockRestartAttempt island s
  | .clockRestartCheck island ok => Sys2Proof.Machine.execClockRestartCheck island ok s
  | .lockstepMismatch => Sys2Proof.Machine.execLockstepMismatch s
  | .sramUncorrectable => Sys2Proof.Machine.execSramUncorrectable s
  | .watchdogExpiry => Sys2Proof.Machine.execWatchdogExpiry s
  | .warmResetDone ue => Sys2Proof.Machine.execWarmResetDone s ue
  | .atlWarmReset src => Sys2Proof.Machine.execAtlWarmReset src s
  | .plnWdKick value => Sys2Proof.Machine.execPlnWdKick value s
  | .trialConfirm => Sys2Proof.Machine.execTrialConfirm s
  | .stateJournalSave => Sys2Proof.Machine.execStateJournalSave s
  | .logNorFlush => Sys2Proof.Machine.execLogNorFlush s
  | .trimSave => Sys2Proof.Machine.execTrimSave s
  | .limitRecordWrite => Sys2Proof.Machine.execLimitRecordWrite s
  | .dictionaryTick reqs => Sys2Proof.Machine.execDictionaryTick reqs s
  | .dictRead src index sub maq => Sys2Proof.Machine.execDictRead src index sub maq s
  | .dictWrite src index sub value => Sys2Proof.Machine.execDictWrite src index sub value s
  | .domainOpen src index sub dirRead maq total => Sys2Proof.Machine.execDomainOpen src index sub dirRead maq total s
  | .domainData src handle offset maxLen data ue => Sys2Proof.Machine.execDomainData src handle offset maxLen data s ue
  | .domainClose src handle crc ue => Sys2Proof.Machine.execDomainClose src handle crc s ue
  | .domainAbort src handle => Sys2Proof.Machine.execDomainAbort src handle s
  | .domainTimeout handle => Sys2Proof.Machine.execDomainTimeout handle s
  | .vipexHeartbeat => Sys2Proof.Machine.execVipexHeartbeat s
  | .heartbeatReceived port node otherMac => Sys2Proof.Machine.execHeartbeatReceived port node otherMac s
  | .vipexKeyWrite src key => Sys2Proof.Machine.execVipexKeyWrite src key s
  | .swapRequest src => Sys2Proof.Machine.execSwapRequest src s
  | .swapValidationDone => Sys2Proof.Machine.execSwapValidationDone s
  | .cfgMaquetteReset src => Sys2Proof.Machine.execCfgMaquetteReset src s
  | .cfgStore src => Sys2Proof.Machine.execCfgStore src s
  | .cfgStoreBegin => Sys2Proof.Machine.execCfgStoreBegin s
  | .cfgStoreDone failed => Sys2Proof.Machine.execCfgStoreDone failed s
  | .patinaStore src => Sys2Proof.Machine.execPatinaStore src s
  | .patinaStoreBegin => Sys2Proof.Machine.execPatinaStoreBegin s
  | .patinaStoreDone failed => Sys2Proof.Machine.execPatinaStoreDone failed s
  | .streamSourceWrite src value => Sys2Proof.Machine.execStreamSourceWrite src value s
  | .timeSet src value => Sys2Proof.Machine.execTimeSet src value s
  | .timeAdjust src value => Sys2Proof.Machine.execTimeAdjust src value s
  | .timeActionAdd src value => Sys2Proof.Machine.execTimeActionAdd src value s
  | .timeActionCancel src seq => Sys2Proof.Machine.execTimeActionCancel src seq s
  | .ethFrameRx f => Sys2Proof.Machine.execEthFrameRx f s
  | .ethFrameTx port => Sys2Proof.Machine.execEthFrameTx port s
  | .portLinkChange port link => Sys2Proof.Machine.execPortLinkChange port link s
  | .syncRx slot m => Sys2Proof.Machine.execSyncRx slot m s
  | .followUpRx slot m => Sys2Proof.Machine.execFollowUpRx slot m s
  | .announceRx slot a => Sys2Proof.Machine.execAnnounceRx slot a s
  | .delayReqSend slot stamp => Sys2Proof.Machine.execDelayReqSend slot stamp s
  | .delayRespRx slot m => Sys2Proof.Machine.execDelayRespRx slot m s
  | .pdelayReqRx slot m => Sys2Proof.Machine.execPdelayReqRx slot m s
  | .domainLost slot => Sys2Proof.Machine.execDomainLost slot s
  | .domainRevert => Sys2Proof.Machine.execDomainRevert s
  | .timeRateStep => Sys2Proof.Machine.execTimeRateStep s
  | .hifSegEn on => Sys2Proof.Machine.execHifSegEn on s
  | .hifFdrEn on => Sys2Proof.Machine.execHifFdrEn on s
  | .hifCplEn on => Sys2Proof.Machine.execHifCplEn on s
  | .directReq on => Sys2Proof.Machine.execDirectReq on s
  | .segDoorbell value => Sys2Proof.Machine.execSegDoorbell value s
  | .segmentDescriptorCopy desc dma => Sys2Proof.Machine.execSegmentDescriptorCopy desc dma s
  | .fdrTail value => Sys2Proof.Machine.execFdrTail value s
  | .frameDescriptorTake desc => Sys2Proof.Machine.execFrameDescriptorTake desc s
  | .directCommitInstant => Sys2Proof.Machine.execDirectCommitInstant s
  | .cplHead value => Sys2Proof.Machine.execCplHead value s
  | .completionEntryWrite => Sys2Proof.Machine.execCompletionEntryWrite s
  | .hostHeartbeat => Sys2Proof.Machine.execHostHeartbeat s
  | .frameCommit value => Sys2Proof.Machine.execFrameCommit value s
  | .timeNowRead => Sys2Proof.Machine.execTimeNowRead s
  | .reg64LowRead offset => Sys2Proof.Machine.execReg64LowRead offset s
  | .irqStatusClear value => Sys2Proof.Machine.execIrqStatusClear value s
  | .irqMaskWrite value => Sys2Proof.Machine.execIrqMaskWrite value s
  | .cplCoalesceTimer => Sys2Proof.Machine.execCplCoalesceTimer s
  | .apertureBaseWrite value => Sys2Proof.Machine.execApertureBaseWrite value s
  | .apertureRead offset length ue ce => Sys2Proof.Machine.execApertureRead offset length ue s ce
  | .apertureWrite offset data => Sys2Proof.Machine.execApertureWrite offset data s
  | .registerWrite offset value => Sys2Proof.Machine.execRegisterWrite offset value s
  | .raspRingTail value => Sys2Proof.Machine.execRaspRingTail value s
  | .nop => Sys2Proof.Machine.execNop s
  | .fill ue ce => Sys2Proof.Machine.execFill ue s ce
  | .copy ue ce => Sys2Proof.Machine.execCopy ue s ce
  | .publish => Sys2Proof.Machine.execPublish s
  | .fence => Sys2Proof.Machine.execFence s
  | .publishCatchup => Sys2Proof.Machine.execPublishCatchup s
  | .audSlotPresent p ue ce => Sys2Proof.Machine.execAudSlotPresent p ue s ce
  | .audPhaseMeasure p error => Sys2Proof.Machine.execAudPhaseMeasure p error s
  | .presenceFall slot => Sys2Proof.Machine.execPresenceFall slot s
  | .presenceConfirmed slot => Sys2Proof.Machine.execPresenceConfirmed slot s
  | .descriptorRead slot answer => Sys2Proof.Machine.execDescriptorRead slot answer s
  | .trainTimeout slot => Sys2Proof.Machine.execTrainTimeout slot s
  | .discoveryRetry slot => Sys2Proof.Machine.execDiscoveryRetry slot s
  | .sweepDone slot passMap => Sys2Proof.Machine.execSweepDone slot passMap s
  | .verifyDone slot errors => Sys2Proof.Machine.execVerifyDone slot errors s
  | .retrainRealignDone slot errors => Sys2Proof.Machine.execRetrainRealignDone slot errors s
  | .partnerAttention pair even odd => Sys2Proof.Machine.execPartnerAttention pair even odd s
  | .laneRetry slot lane => Sys2Proof.Machine.execLaneRetry slot lane s
  | .partnerRemoved slot => Sys2Proof.Machine.execPartnerRemoved slot s
  | .telemetryRead slot answer => Sys2Proof.Machine.execTelemetryRead slot answer s
  | .plinthStage src value => Sys2Proof.Machine.execPlinthStage src value s
  | .stageVerified => Sys2Proof.Machine.execStageVerified s
  | .plinthConfirm src value => Sys2Proof.Machine.execPlinthConfirm src value s
  | .consentFall => Sys2Proof.Machine.execConsentFall s
  | .consentConfirmed => Sys2Proof.Machine.execConsentConfirmed s
  | .consentStuck => Sys2Proof.Machine.execConsentStuck s
  | .commitExpired => Sys2Proof.Machine.execCommitExpired s
  | .plinthCancel src => Sys2Proof.Machine.execPlinthCancel src s
  | .updateVerifyDone => Sys2Proof.Machine.execUpdateVerifyDone s
  | .updateWriteBegin => Sys2Proof.Machine.execUpdateWriteBegin s
  | .updateWriteDone failed ue => Sys2Proof.Machine.execUpdateWriteDone failed s ue
  | .updateApply src => Sys2Proof.Machine.execUpdateApply src s
  | .crcInit unit => Sys2Proof.Machine.execCrcInit unit s
  | .crcData unit data => Sys2Proof.Machine.execCrcData unit data s
  | .crcSeed unit value => Sys2Proof.Machine.execCrcSeed unit value s
  | .crcAlive unit => Sys2Proof.Machine.execCrcAlive unit s
  | .clpFormat src value => Sys2Proof.Machine.execClpFormat src value s
  | .clpCreate src value => Sys2Proof.Machine.execClpCreate src value s
  | .clpWrite src value => Sys2Proof.Machine.execClpWrite src value s
  | .clpClose src value => Sys2Proof.Machine.execClpClose src value s
  | .clpDelete src value => Sys2Proof.Machine.execClpDelete src value s
  | .clpPlay src value => Sys2Proof.Machine.execClpPlay src value s
  | .clpStop src value => Sys2Proof.Machine.execClpStop src value s
  | .clpCommandDone => Sys2Proof.Machine.execClpCommandDone s
  | .clpReadIssue => Sys2Proof.Machine.execClpReadIssue s
  | .clpReadDone => Sys2Proof.Machine.execClpReadDone s
  | .clpReadFail => Sys2Proof.Machine.execClpReadFail s
  | .clpHealthPoll drive warn => Sys2Proof.Machine.execClpHealthPoll drive warn s
  | .fallbackRelease src => Sys2Proof.Machine.execFallbackRelease src s
  | .pfailRise => Sys2Proof.Machine.execPfailRise s
  | .consentRise => Sys2Proof.Machine.execConsentRise s
  | .presenceRise slot => Sys2Proof.Machine.execPresenceRise slot s
  | .pgPanelFall rail => Sys2Proof.Machine.execPgPanelFall rail s
  | .rxReadyAligned slot => Sys2Proof.Machine.execRxReadyAligned slot s
  | .confirmVerified => Sys2Proof.Machine.execConfirmVerified s
  | .pcieLinkUp => Sys2Proof.Machine.execPcieLinkUp s
  | .powerLoss => Sys2Proof.Machine.execPowerLoss s
  | .raspCommandRefused ecc => Sys2Proof.Machine.execRaspCommandRefused ecc s
  | .dhcpRetry port => Sys2Proof.Machine.execDhcpRetry port s
  | .audClockRestart pair => Sys2Proof.Machine.execAudClockRestart pair s

end Sys2Proof.Machine
end

