-- ==== Sys2Proof/Safety.lean ====
section
/-! DEFINITION. What counts as a safe run, a memory in its canonical form, and the terms the statements use: what a command gives, logs, answers and may touch. -/

namespace Sys2Proof.Machine

/-- The canonical form of memory: addresses strictly rising, and no listed byte equal to the 0 that an unlisted one reads as. -/
def memOk : List Host.Cell → Bool
  | [] => true
  | [c] => c.2 != 0
  | c :: d :: m => c.2 != 0 && c.1 < d.1 && memOk (d :: m)

/-- Memory.wf of a state: HBM has the canonical form. -/
def Memory.wf (s : State) : Bool := memOk s.hbm

/-- A step that goes on. -/
def goesOn (o : Host.Outcome State Fault Refusal) : Bool :=
  match o with
  | .next _ => true
  | _ => false

/-- The command answers a next state, and `P` holds of it. -/
def gives (c : Instr) (s : State) (P : State → Prop) : Prop := ∃ t, exec c s = .next t ∧ P t

/-- From `s` to `t` exactly these entries were posted to the event log, each a code and its parameters, unless the staging buffer filled up (R446, R448). -/
def logs (s t : State) (l : List (Nat × List Nat)) : Prop :=
  s.log.staging.length + l.length ≤ 256 → ∃ es, t.log.staging = s.log.staging ++ es ∧ es.map (fun e => (e.code, e.param)) = l

/-- This entry, a code and its parameters, was among those posted to the event log from `s` to `t`, unless the staging buffer filled up (R446, R448). -/
def logged (s t : State) (x : Nat × List Nat) : Prop :=
  t.log.staging.length < 256 → ∃ es, t.log.staging = s.log.staging ++ es ∧ x ∈ es.map fun e => (e.code, e.param)

/-- From `s` to `t` exactly these completion entries joined the internal queue, unless it filled up (R324). -/
def completes (s t : State) (l : List (CplKind × Nat)) : Prop :=
  s.hif.queue.length + l.length ≤ 256 → ∃ es, t.hif.queue = s.hif.queue ++ es ∧ es.map (fun e => (e.kind, e.status)) = l

/-- The object holds `v`, reduced to its width. -/
def shows (t : State) (o : Obj) (v : Nat) : Prop := t.nat o = v % 2 ^ (8 * o.ty.width.getD 4)

/-- The counter has advanced by `n` and stops at its type's largest value. -/
def counts (s t : State) (o : Obj) (n : Nat) : Prop := t.nat o = min (s.nat o + n) (2 ^ (8 * o.ty.width.getD 4) - 1)

/-- The parser of the running die stands before the whole section `sec`, whose type byte is `ty` and whose CRC holds (R81). -/
def atSection (s : State) (ty : Nat) (sec : Bytes) : Prop :=
  s.die = .running ∧ s.canParse = true ∧ sec.length = secLen s.sdec.rest ∧ sec = s.sdec.rest.take sec.length ∧ 12 ≤ sec.length ∧
  sec.length % 4 = 0 ∧ fieldN sec 0 1 = ty ∧ s.secCrcOk sec = true

/-- Parsing went on behind the section; the segment ends with its last one (R80, R83). -/
def passed (s t : State) (sec : Bytes) : Prop :=
  t.sdec.rest = s.sdec.rest.drop sec.length ∧ (t.sdec.inSeg = true ↔ s.sdec.rest.drop sec.length ≠ [])

/-- Exactly this stream code was recorded, at the place in the stream where the parser stood (R108). -/
def coded (s t : State) (code : Nat) : Prop := t.sdec.codes = s.sdec.codes ++ [⟨s.sdec.pos, code⟩]

/-- The frame at the head of the admission queue was refused with this code: it left the queue, its ADMISSION entry was made and it was counted (R30, R192, R195). -/
def refusedHead (s t : State) (code : Nat) : Prop :=
  t.adm.waiting.map (·.number) = (s.adm.waiting.drop 1).map (·.number) ∧ t.adm.stage = .idle ∧ t.adm.pending = s.adm.pending ∧
  completes s t [(.admission, code)] ∧ counts s t O.admRefusedCount 1 ∧ shows t O.admLastStatus code

/-- The dictionary engine takes a request from this party now: it runs, and the window is free, or a network request is secured where it must be (R384, R390, R433). -/
def servable (s : State) (p : Party) : Prop :=
  s.die = .running ∧ s.nat O.atlState = 1 ∧ s.dict.ready = true ∧ p.action = none ∧ (p.route = .bar2 → s.dict.busy = false) ∧
  (p.route ≠ .bar2 → s.flag O.vipexSecured = true → p.secured = true ∧ s.dict.keyWritten = true)

/-- The request was answered with this status: in the BAR2 window, with DICT risen, or by a response to the party (R383, R384, R386). -/
def answered (t : State) (p : Party) (status : Nat) : Prop :=
  (p.route = .bar2 → t.dict.status = status ∧ t.dict.done = true ∧ t.dict.busy = false ∧ bitOf t.hif.irqStatus 6 = true) ∧
  (p.route ≠ .bar2 → ∃ d, t.out.head? = some (.vipex p status d))

/-- A request that the engine takes is answered with this status, and `P` holds after it. -/
def serves (c : Instr) (s : State) (p : Party) (status : Nat) (P : State → Prop) : Prop :=
  servable s p → gives c s fun t => answered t p status ∧ P t

/-- A port that is ON with a link, with room for a PTP frame, and nothing before it in queue 0. -/
def portClear (s : State) (p : Nat) : Prop :=
  s.nat (O.portState p) = 2 ∧ s.nat (O.portLink p) ≠ 0 ∧ 102 ≤ s.nat (O.portMtu p) ∧ p < s.tim.ports.length ∧
  (s.tim.ports.getD p {}).tx.head? = some []

/-- A PTP message of a slot left its port through queue 0. -/
def sendsPtp (s t : State) (d kind seq : Nat) : Prop :=
  let p := s.nat (O.ptpPort d)
  let body : TxBody := .ptp d kind seq (if kind = 1 ∧ s.flag (O.ptpDelayReqUnicast d) = true then (s.ptp d).master else none)
  .eth p 0 (s.macOf p) (s.vlanTag p body) none body ∈ t.out

/-- Address `a` lies outside panel line `y` of head `h` in frame buffer `b`, and outside that line's CRC entry (R204, R227, R251, R252). -/
def outsideLine (s : State) (newBank : Bool) (b y h a : Nat) : Prop :=
  let line := bufBase b + y * s.linePitch newBank + h * s.lineBytes newBank
  let entry := bufBase b + crcTableOffset + 8 * (2 * y + h)
  (a < line ∨ line + s.lineBytes newBank ≤ a) ∧ (a < entry ∨ entry + 8 ≤ a)

/-! ## What a command may change -/

/-- Objects: one of them, or `count` of them whose keys lie `stride` apart; with `count` 0, every object. -/
structure Reg where
  base : Nat
  stride : Nat
  count : Nat
  deriving DecidableEq, Repr

/-- One object. -/
def Reg.one (o : Obj) : Reg := ⟨o.key, 0, 1⟩

/-- The objects of one index, one for each sub-index. -/
def Reg.subs (f : Nat → Obj) (n : Nat) : Reg := ⟨(f 0).key, 1, n⟩

/-- The objects of one sub-index, one for each index (a port, a slot of PTP). -/
def Reg.each (f : Nat → Obj) (n : Nat) : Reg := ⟨(f 0).key, 256, n⟩

/-- Every object. -/
def Reg.every : Reg := ⟨0, 0, 0⟩

/-- The entry speaks of the object with this key. -/
def Reg.covers (r : Reg) (k : Nat) : Prop := r.count = 0 ∨ ∃ n, n < r.count ∧ k = r.base + n * r.stride

/-- The components of the state, but the objects that exist once (`obj`), which go by `Reg`. -/
inductive Piece
  | part | die | stop | clk | cast | maq | cfg | held | isl | hbm | figs | sdec | rrec | adm | cal | rse | pdp | pwr | link | scan | rasp | aud | tim | mem | thm | nor | atl
  | pln | clp | hif | dict | log | flt | out | pending | free
  deriving DecidableEq, Repr

/-- A component is the same in two states. -/
def Piece.same : Piece → State → State → Prop
  | .part, s, t => s.part = t.part
  | .die, s, t => s.die = t.die
  | .stop, s, t => s.stop = t.stop
  | .clk, s, t => s.clk = t.clk
  | .cast, s, t => s.cast = t.cast
  | .maq, s, t => s.maq = t.maq
  | .cfg, s, t => s.cfg = t.cfg
  | .held, s, t => s.held = t.held
  | .isl, s, t => s.isl = t.isl
  | .hbm, s, t => s.hbm = t.hbm
  | .figs, s, t => s.figs = t.figs
  | .sdec, s, t => s.sdec = t.sdec
  | .rrec, s, t => s.rrec = t.rrec
  | .adm, s, t => s.adm = t.adm
  | .cal, s, t => s.cal = t.cal
  | .rse, s, t => s.rse = t.rse
  | .pdp, s, t => s.pdp = t.pdp
  | .pwr, s, t => s.pwr = t.pwr
  | .link, s, t => s.link = t.link
  | .scan, s, t => s.scan = t.scan
  | .rasp, s, t => s.rasp = t.rasp
  | .aud, s, t => s.aud = t.aud
  | .tim, s, t => s.tim = t.tim
  | .mem, s, t => s.mem = t.mem
  | .thm, s, t => s.thm = t.thm
  | .nor, s, t => s.nor = t.nor
  | .atl, s, t => s.atl = t.atl
  | .pln, s, t => s.pln = t.pln
  | .clp, s, t => s.clp = t.clp
  | .hif, s, t => s.hif = t.hif
  | .dict, s, t => s.dict = t.dict
  | .log, s, t => s.log = t.log
  | .flt, s, t => s.flt = t.flt
  | .out, s, t => s.out = t.out
  | .pending, s, t => s.pending = t.pending
  | .free, s, t => s.free = t.free

/-- Components and objects. -/
structure Touch where
  pieces : List Piece
  regs : List Reg

/-- Outside `T`, `t` holds what `s` held: every component, and every object that exists once. -/
def framed (T : Touch) (s t : State) : Prop :=
  (∀ k, k ∉ T.pieces → Piece.same k s t) ∧
  ∀ o : Obj, o.access ≠ .rws → (∀ r ∈ T.regs, ¬ r.covers o.key) → t.val o = s.val o

/-- What the groups name, and these components and objects. -/
def within (gs : List Touch) (ps : List Piece) (rs : List Reg) : Touch :=
  ⟨gs.flatMap Touch.pieces ++ ps, gs.flatMap Touch.regs ++ rs⟩

/-- What an entry of the event log changes (R446, R448). -/
def tLog : Touch :=
  within [] [.hif, .log, .out]
    [.one O.logLostCount, .one O.faultTotalCount, .one O.faultLastCode]

/-- What a completion entry changes (R324). -/
def tComplete : Touch :=
  within [] [.hif, .out]
    [.one O.cplLostCount, .one O.hifLastStatus]

/-- What an answer to a request changes (R371). -/
def tAnswer : Touch :=
  within [tLog] [.cast, .tim, .dict]
    [.every]

/-- What a suspension of the promise changes (R198). -/
def tSuspend : Touch :=
  within [tLog] [.adm, .scan]
    [.one O.admSuspendCauses, .one O.admPromiseState, .one O.admSuspendCount]

/-- What the fault objects and FAULT_N change with (R496, R498). -/
def tFaults : Touch :=
  within [tSuspend] []
    [.one O.faultActive, .one O.faultDefeated, .one O.clockHeldMask, .one O.faultNAsserted]

/-- What a detected fault changes (R490, R491). -/
def tRaise : Touch :=
  within [tFaults] [.flt]
    [.subs O.faultFamilyCount 16]

/-- What the start of a fallback changes (R485). -/
def tFallback : Touch :=
  within [tRaise] [.isl, .clp]
    [.one O.clpPlayState, .one O.clpPlayClip, .one O.streamSource, .one O.clpLastStatus, .one O.clpPlayBase]

/-- What the stopping of panel power changes (R257). -/
def tPanel : Touch :=
  within [tFaults] [.clk, .held, .isl, .pwr, .link, .flt]
    [.one O.pwrLastStatus, .subs O.linkSlotState 32, .one O.headAState, .one O.headBState, .one O.panelPowerState, .one O.pwrHoldupState,
     .subs O.linkLaneState 160]

/-- What a STARTING changes (R44). -/
def tStarts : Touch :=
  within [tFaults] [.clk, .isl, .cal, .pwr, .link, .rasp, .flt]
    [.one O.pwrLastStatus, .subs O.linkSlotState 32, .one O.headAState, .one O.headBState, .each O.portState 3, .each O.portLink 3,
     .each O.audPortState 8, .one O.clpState, .one O.overlayState, .one O.calStatusFlags, .one O.calTempLatched, .one O.calRampStep,
     .one O.calTempMeasured, .one O.captureState, .one O.panelPowerState, .one O.pwrHoldupState]

/-- What the end of a STOPPING changes (R45). -/
def tStops : Touch :=
  within [tStarts] [.held]
    []

/-- What a warm reset of Atelier changes (R429). -/
def tWarmReset : Touch :=
  within [tRaise, tAnswer] [.cfg, .nor, .atl, .pln, .free]
    [.one O.timeLeapFlags, .one O.timeUtcOffset, .one O.timeSelectedDomain, .one O.timeState, .each O.ptpState 2, .each O.ptpMasterPort 2,
     .each O.ptpGmIdentity 2, .one O.cfgSwapState, .one O.patinaStoreState, .one O.atlLastResetCause, .one O.atlState, .one O.warmResetCount,
     .one O.lockstepCount, .one O.atlLastStatus, .one O.cfgSwapResult, .one O.dictDomainOpen, .one O.cfgStoreState, .one O.updateState]

/-- What any request for the dictionary may change (R370 to R388): every object a write may reach, and what that write starts or stops. -/
def tDictionary : Touch :=
  within [tWarmReset, tStops, tPanel, tFallback] [.maq, .aud]
    [.one O.memLastStatus, .one O.memLastUeAddr, .one O.memLastUeClass, .subs O.memEccUncorrectable 4, .one O.dictIgnoredCount,
     .one O.vipexAuthFailCount, .one O.dictLastStatus, .one O.memMinTolerance, .each O.audPortFlags 8, .one O.headAEnable, .one O.headBEnable,
     .each O.portEnable 3, .each O.audPortEnable 8, .one O.clpEnable, .one O.overlayEnable, .one O.captureEnable, .one O.panelPowerEnable,
     .one O.captureResult, .one O.cfgMaquetteDirty, .each O.ptpEnable 2, .one O.vipexSecured, .one O.timeActionPending, .one O.captureConfirmed,
     .one O.captureCause, .one O.clpCmdState, .one O.clpCmdResult, .one O.plinthLastResult, .one O.plinthState, .one O.plinthStagedSet,
     .each O.portLastStatus 3]

/-- What each command may change, at the most: the components and the objects that the rules of its row, and those they call on, write. A shadowed object (R371) changes with `cast` or `maq`. -/
def touches : Instr → Touch
  | .coldStart .. => within [tStops, tRaise] [.die, .stop, .cast, .maq, .cfg, .hbm, .figs, .sdec, .rrec, .rse, .pdp, .aud, .tim, .mem, .thm, .nor, .atl, .pln, .clp, .dict, .free] [
      .every]
  | .resetNAssert => within [] [.die, .stop, .held, .hbm, .pwr, .thm, .nor, .dict, .log, .out, .free] [.one O.panelPowerState]
  | .memTrainingDone .. => within [tRaise] [.mem] [.one O.memLastStatus, .one O.memState]
  | .memReady => within [] [.isl, .hbm, .link, .mem] [.subs O.linkSlotState 32, .one O.headAState, .one O.headBState, .one O.memState,
      .one O.memTrainingTime]
  | .islandPowered .. => within [] [.isl, .sdec, .mem] []
  | .functionEnable .. => within [tDictionary] [] []
  | .functionDisable .. => within [tDictionary] [] []
  | .portStartDone .. => within [] [.isl] [.each O.portState 3]
  | .portStopDone .. => within [tStops] [.tim] []
  | .audPortStartDone .. => within [] [.aud] [.each O.audPortState 8]
  | .audPortStopDone .. => within [tStops] [.aud] []
  | .clpStartDone .. => within [tRaise] [.isl, .clp] [.one O.clpState, .one O.clpLastStatus, .one O.clpCmdState, .one O.clpCapacity,
      .one O.clpFreeLargest, .one O.clpClipCount, .one O.clpLayout, .subs O.clpDriveState 2]
  | .clpStopDone => within [tStops] [.clp] [.one O.clpLastStatus, .one O.clpCmdState, .one O.clpCmdResult, .one O.clpCapacity, .one O.clpFreeLargest,
      .one O.clpClipCount, .one O.clpLayout, .one O.clpLastId]
  | .overlayStartDone => within [] [.hbm, .rasp] [.one O.overlayState]
  | .overlayStopDone => within [] [.held, .isl, .adm, .rasp] [.one O.overlayState]
  | .captureStartCheck => within [tLog] [.cal] [.one O.captureEnable, .one O.calStatusFlags, .one O.calTempLatched, .one O.calRampStep,
      .one O.calTempMeasured, .one O.captureState, .one O.captureResult, .one O.captureConfirmed, .one O.captureRunId]
  | .captureStep .. => within [tDictionary] [] []
  | .captureReport .. => within [tDictionary] [] []
  | .captureTimeout => within [tLog] [.clk, .held, .cal] [.one O.captureEnable, .one O.calStatusFlags, .one O.calTempLatched, .one O.calRampStep,
      .one O.calTempMeasured, .one O.captureState, .one O.captureResult, .one O.captureCause]
  | .segment .. => within [tLog] [.isl, .figs, .sdec, .rrec, .adm, .mem] [.one O.reliefSlotFree, .one O.reliefSlotRetained, .one O.reliefDirFree,
      .one O.reliefRecordFree, .one O.tilesInFlight, .one O.residentOrdinal, .one O.figLiveCount, .one O.memLastStatus, .subs O.memEccCorrected 4,
      .one O.memLastUeAddr, .one O.memLastUeClass, .subs O.memEccUncorrectable 4, .one O.sdecLastStatus, .one O.rrecLastStatus, .one O.segBadCount,
      .one O.segOkCount, .one O.streamCurrentId, .one O.segLossCount]
  | .frameMarker => within [tComplete] [.isl, .sdec, .adm] [.one O.reliefSlotFree, .one O.reliefSlotRetained, .one O.reliefDirFree,
      .one O.reliefRecordFree, .one O.tilesInFlight, .one O.residentOrdinal, .one O.figLiveCount, .one O.sdecLastStatus, .one O.rrecLastStatus,
      .one O.secCrcFailCount, .one O.lastBinnedEpoch]
  | .figureDefine => within [] [.isl, .figs, .sdec, .rrec, .adm] [.one O.reliefSlotFree, .one O.reliefSlotRetained, .one O.reliefDirFree,
      .one O.reliefRecordFree, .one O.tilesInFlight, .one O.residentOrdinal, .one O.figLiveCount, .one O.sdecLastStatus, .one O.rrecLastStatus,
      .one O.secCrcFailCount, .one O.figNoContextCount]
  | .figureModify => within [] [.isl, .figs, .sdec, .rrec, .adm] [.one O.reliefSlotFree, .one O.reliefSlotRetained, .one O.reliefDirFree,
      .one O.reliefRecordFree, .one O.tilesInFlight, .one O.residentOrdinal, .one O.figLiveCount, .one O.sdecLastStatus, .one O.rrecLastStatus,
      .one O.secCrcFailCount]
  | .figureRetire => within [] [.isl, .figs, .sdec, .rrec, .adm] [.one O.reliefSlotFree, .one O.reliefSlotRetained, .one O.reliefDirFree,
      .one O.reliefRecordFree, .one O.tilesInFlight, .one O.residentOrdinal, .one O.figLiveCount, .one O.sdecLastStatus, .one O.rrecLastStatus,
      .one O.secCrcFailCount]
  | .tileUpdate => within [] [.isl, .sdec, .rrec, .adm] [.one O.reliefSlotFree, .one O.reliefSlotRetained, .one O.reliefDirFree,
      .one O.reliefRecordFree, .one O.tilesInFlight, .one O.residentOrdinal, .one O.figLiveCount, .one O.sdecLastStatus, .one O.rrecLastStatus,
      .one O.secCrcFailCount]
  | .decoderFree => within [] [.sdec, .rrec, .adm] [.one O.reliefSlotFree, .one O.reliefSlotRetained, .one O.reliefDirFree, .one O.reliefRecordFree,
      .one O.tilesInFlight, .one O.residentOrdinal, .one O.figLiveCount]
  | .tileDecodeDone .. => within [] [.rrec] []
  | .tileCommit .. => within [tRaise] [.isl, .sdec, .rrec, .mem] [.one O.reliefSlotFree, .one O.reliefSlotRetained, .one O.reliefDirFree,
      .one O.reliefRecordFree, .one O.tilesInFlight, .one O.residentOrdinal, .one O.figLiveCount, .one O.memLastStatus, .one O.memLastUeAddr,
      .one O.memLastUeClass, .subs O.memEccUncorrectable 4, .one O.sdecLastStatus, .one O.rrecLastStatus, .one O.entropyErrorCount,
      .one O.staleTileCount, .one O.cacheFullCount, .one O.poisonedTileCount, .one O.lateCommitDroppedCount, .one O.tilesCommittedCount]
  | .audioBlock => within [tLog] [.isl, .sdec, .adm, .aud] [.one O.reliefSlotFree, .one O.reliefSlotRetained, .one O.reliefDirFree,
      .one O.reliefRecordFree, .one O.tilesInFlight, .one O.residentOrdinal, .one O.figLiveCount, .one O.audLastStatus, .one O.sdecLastStatus,
      .one O.rrecLastStatus, .one O.secCrcFailCount, .each O.audLateDiscardCount 8]
  | .paddingSection => within [] [.isl, .sdec, .adm] [.one O.reliefSlotFree, .one O.reliefSlotRetained, .one O.reliefDirFree,
      .one O.reliefRecordFree, .one O.tilesInFlight, .one O.residentOrdinal, .one O.figLiveCount, .one O.sdecLastStatus, .one O.rrecLastStatus,
      .one O.secCrcFailCount]
  | .unknownSection => within [] [.isl, .sdec] [.one O.sdecLastStatus, .one O.rrecLastStatus, .one O.secCrcFailCount]
  | .privateSection => within [] [.isl, .sdec] [.one O.sdecLastStatus, .one O.rrecLastStatus, .one O.secCrcFailCount]
  | .admTakeFrame => within [tComplete] [.isl, .sdec, .rrec, .adm] [.one O.figBinDropCount, .one O.cfgBoundFrame, .one O.admRefusedCount,
      .one O.admLastStatus, .one O.admLastBadBin, .one O.admLastCost, .one O.admLastBudget, .one O.reliefSlotFree, .one O.reliefSlotRetained,
      .one O.reliefDirFree, .one O.reliefRecordFree, .one O.tilesInFlight, .one O.residentOrdinal, .one O.figLiveCount, .one O.scanLastStatus,
      .one O.pwrLastStatus]
  | .preCostingDone => within [tComplete] [.isl, .sdec, .rrec, .adm] [.one O.figBinDropCount, .one O.cfgBoundFrame, .one O.admRefusedCount,
      .one O.admLastStatus, .one O.admLastBadBin, .one O.admLastCost, .one O.admLastBudget, .one O.reliefSlotFree, .one O.reliefSlotRetained,
      .one O.reliefDirFree, .one O.reliefRecordFree, .one O.tilesInFlight, .one O.residentOrdinal, .one O.figLiveCount]
  | .finalCostingStart => within [tComplete] [.isl, .sdec, .rrec, .adm, .rasp] [.one O.figBinDropCount, .one O.cfgBoundFrame, .one O.admRefusedCount,
      .one O.admLastStatus, .one O.admLastBadBin, .one O.admLastCost, .one O.admLastBudget, .one O.reliefSlotFree, .one O.reliefSlotRetained,
      .one O.reliefDirFree, .one O.reliefRecordFree, .one O.tilesInFlight, .one O.residentOrdinal, .one O.figLiveCount, .one O.scanLastStatus,
      .one O.pwrLastStatus]
  | .finalCostingDone => within [tComplete, tLog] [.isl, .sdec, .rrec, .adm] [.one O.figBinDropCount, .one O.cfgBoundFrame, .one O.admRefusedCount,
      .one O.admLastStatus, .one O.admLastBadBin, .one O.admLastCost, .one O.admLastBudget, .one O.reliefSlotFree, .one O.reliefSlotRetained,
      .one O.reliefDirFree, .one O.reliefRecordFree, .one O.tilesInFlight, .one O.residentOrdinal, .one O.figLiveCount, .one O.scanLastStatus,
      .one O.pwrLastStatus, .one O.admSuspendCauses, .one O.admPromiseState, .one O.overlayShown, .one O.admAdmittedCount, .one O.figBinPeak]
  | .lateData => within [tComplete] [.clk, .isl, .sdec, .rrec, .adm] [.one O.figBinDropCount, .one O.cfgBoundFrame, .one O.admRefusedCount,
      .one O.admLastStatus, .one O.admLastBadBin, .one O.admLastCost, .one O.admLastBudget, .one O.reliefSlotFree, .one O.reliefSlotRetained,
      .one O.reliefDirFree, .one O.reliefRecordFree, .one O.tilesInFlight, .one O.residentOrdinal, .one O.figLiveCount, .one O.scanLastStatus,
      .one O.pwrLastStatus]
  | .renderWindowOpen => within [tLog] [.clk, .cfg, .held, .hbm, .adm, .cal, .rse, .pdp, .scan, .mem, .free] [.one O.captureEnable,
      .one O.calStatusFlags, .one O.calTempLatched, .one O.calRampStep, .one O.calTempMeasured, .one O.captureState, .one O.captureResult,
      .one O.captureCause, .one O.pdpLastStatus, .subs O.driveBandNow 32, .one O.driveGainNow, .one O.driveBackstopCount, .one O.rseThrottleLevel]
  | .renderWindowClose => within [tRaise, tComplete] [.clk, .cfg, .isl, .rrec, .rse, .pdp] [.one O.reliefSlotFree, .one O.reliefSlotRetained,
      .one O.reliefDirFree, .one O.reliefRecordFree, .one O.tilesInFlight, .one O.residentOrdinal, .one O.figLiveCount, .one O.rseOverrunCount,
      .one O.admBrokenCount, .one O.driveMeanLast, .one O.rseLastStatus, .one O.rseStepsLast, .one O.rseStepBoundLast, .one O.rseRenderTimeLast,
      .one O.rseSplitBinsLast]
  | .unitDispatch => within [] [.rse, .hif] []
  | .unitStagingDone .. => within [tRaise] [.rrec, .rse, .mem] [.one O.memLastStatus, .subs O.memEccCorrected 4, .one O.memLastUeAddr,
      .one O.memLastUeClass, .subs O.memEccUncorrectable 4, .one O.rrecLastStatus, .one O.raspLastStatus, .one O.rseLastStatus,
      .one O.poisonedTileCount, .one O.rseStoreEccCount]
  | .unitRenderStart .. => within [] [.rse] []
  | .unitRenderDone .. => within [tRaise] [.hbm, .rse, .pdp, .mem] [.one O.memLastStatus, .one O.memLastUeAddr, .one O.memLastUeClass,
      .subs O.memEccUncorrectable 4, .one O.pdpLastStatus, .one O.rseLastStatus, .one O.driveBackstopCount, .one O.rseStoreEccCount,
      .one O.rseHitOverflowCount]
  | .latchPoint => within [tComplete, tLog] [.clk, .cfg, .isl, .sdec, .rrec, .adm, .rse, .link, .scan, .pln] [.one O.figBinDropCount,
      .one O.cfgBoundFrame, .one O.admRefusedCount, .one O.admLastStatus, .one O.admLastBadBin, .one O.admLastCost, .one O.admLastBudget,
      .one O.reliefSlotFree, .one O.reliefSlotRetained, .one O.reliefDirFree, .one O.reliefRecordFree, .one O.tilesInFlight, .one O.residentOrdinal,
      .one O.figLiveCount, .one O.scanLastStatus, .one O.pwrLastStatus, .one O.cfgSwapState, .one O.plinthLastResult, .one O.plinthState,
      .one O.plinthStagedSet, .one O.admBrokenCount, .one O.framesPresented, .one O.plinthMeanDrive, .one O.plinthLaneAmplitude,
      .one O.plinthTripPoint, .one O.plinthWdPeriod, .one O.plinthTfMinNum, .one O.plinthTfMinDen, .one O.railOrder, .one O.plinthCommitSeq,
      .subs O.plinthPeakDrive 32, .one O.pdpLastStatus, .one O.lastBinnedEpoch]
  | .epoch .. => within [tPanel, tFallback, tComplete] [.cast, .maq, .cfg, .sdec, .rrec, .cal, .pdp, .aud, .tim, .atl, .dict, .free] [
      .one O.figBinDropCount, .one O.cfgBoundFrame, .one O.admRefusedCount, .one O.admLastStatus, .one O.admLastBadBin, .one O.admLastCost,
      .one O.admLastBudget, .one O.reliefSlotFree, .one O.reliefSlotRetained, .one O.reliefDirFree, .one O.reliefRecordFree, .one O.tilesInFlight,
      .one O.residentOrdinal, .one O.figLiveCount, .one O.scanLastStatus, .one O.cfgSwapState, .one O.calStatusFlags, .one O.calTempLatched,
      .one O.calRampStep, .one O.calTempMeasured, .one O.timeActionPending, .one O.admBrokenCount, .one O.hostState, .one O.hostSilentCount,
      .one O.scanLockState, .one O.atlStartTimeMs, .one O.cfgBankGeneration, .one O.framesPresented, .one O.linkLastStatus, .one O.pdpLastStatus,
      .subs O.linkLaneSetting 160, .one O.cfgSwapCount, .one O.cfgSwapKind, .one O.scanRetrainSkippedCount, .one O.scanFrameNumber,
      .one O.timeActionDoneSeq, .one O.timeActionLastLateness, .one O.timeActionDroppedCount, .one O.timeActionLateCount, .subs O.driveBandNow 32,
      .one O.scanPhaseError, .one O.scanResyncCount, .one O.timeStepCount, .one O.timeLastStep, .one O.lastBinnedEpoch]
  | .swapCopyDone => within [tWarmReset, tStops, tPanel, tFallback] [.maq, .aud] [.one O.memLastStatus, .one O.memLastUeAddr, .one O.memLastUeClass,
      .subs O.memEccUncorrectable 4, .one O.dictLastStatus, .one O.memMinTolerance, .each O.audPortFlags 8, .one O.headAEnable, .one O.headBEnable,
      .each O.portEnable 3, .each O.audPortEnable 8, .one O.clpEnable, .one O.overlayEnable, .one O.captureEnable, .one O.panelPowerEnable,
      .one O.captureResult, .one O.cfgMaquetteDirty, .each O.ptpEnable 2, .one O.vipexSecured, .one O.timeActionPending, .one O.captureConfirmed,
      .one O.captureCause, .one O.clpCmdState, .one O.clpCmdResult, .one O.plinthLastResult, .one O.plinthState, .one O.plinthStagedSet,
      .each O.portLastStatus 3]
  | .pcieLinkLoss .. => within [tFallback] [] [.one O.hifLastStatus, .one O.pcieLinkSpeed, .one O.pcieLinkWidth, .one O.hostState,
      .one O.hostSilentCount]
  | .pcieReset .. => within [tFallback] [] [.one O.hifLastStatus, .one O.pcieLinkSpeed, .one O.pcieLinkWidth, .one O.hostState, .one O.hostSilentCount]
  | .scanLine .. => within [tRaise, tComplete] [.clk, .link, .mem, .free] [.one O.scanLastStatus, .one O.memLastStatus, .subs O.memEccCorrected 4,
      .one O.memLastUeAddr, .one O.memLastUeClass, .subs O.memEccUncorrectable 4, .one O.admBrokenCount, .one O.framesPresented,
      .one O.pdpLastStatus, .one O.scanResyncCount, .one O.lineCrcFailCount, .one O.lineZeroedCount]
  | .underrun .. => within [tRaise, tComplete] [.link] [.one O.scanLastStatus, .one O.admBrokenCount, .one O.scanUnderrunCount]
  | .refreshInstant => within [tLog] [.clk, .mem] [.one O.memLastStatus, .one O.memHotRefreshMask]
  | .toleranceReport .. => within [] [.mem] [.one O.memMinTolerance]
  | .selfRefreshEntry .. => within [] [.clk, .mem] []
  | .scrubPass .. => within [tLog] [.mem] [.one O.memLastStatus, .subs O.memEccCorrected 4, .one O.memLastUeAddr, .one O.memLastUeClass,
      .subs O.memEccUncorrectable 4, .one O.memScrubPasses]
  | .thmSample .. => within [tRaise] [.die, .stop, .held, .hbm, .pwr, .mem, .thm, .nor, .free] [.one O.memLastStatus, .one O.panelPowerState,
      .one O.thmTripCount, .one O.thmLastStatus, .one O.rseThrottleLevel, .one O.thmTj, .one O.thmTjSensor, .one O.thmExcludedMask,
      .subs O.memStackTemp 4, .one O.admDerateNow, .one O.thmRiseRate, .one O.thmNorWindow, .one O.thmThrottleLevel, .one O.admThrottleNow,
      .one O.thmRiseLevel]
  | .tripRecordProgrammed => within [] [.thm] [.one O.thmTripSlotsUsed]
  | .thermalRestart .. => within [tStops, tRaise] [.die, .stop, .cast, .maq, .cfg, .hbm, .figs, .sdec, .rrec, .rse, .pdp, .aud, .tim, .mem, .thm, .nor, .atl, .pln, .clp, .dict, .free] [
      .every]
  | .trimLearn => within [tLog] [.clk, .thm] [.one O.thmLastStatus]
  | .pfailFall => within [] [.pwr] []
  | .holdupConfirm => within [tSuspend, tComplete] [.clk, .cfg, .held, .isl, .rrec, .rse, .pwr, .link] [.one O.reliefSlotFree,
      .one O.reliefSlotRetained, .one O.reliefDirFree, .one O.reliefRecordFree, .one O.tilesInFlight, .one O.residentOrdinal, .one O.figLiveCount,
      .one O.pwrLastStatus, .subs O.linkSlotState 32, .one O.headAState, .one O.headBState, .one O.panelPowerState, .one O.pwrHoldupState,
      .subs O.linkLaneState 160, .one O.admBrokenCount, .one O.holdupLifetime, .one O.pwrHoldupCount]
  | .holdupShed => within [] [.clk, .pwr, .mem] []
  | .holdupParked => within [] [.clk, .nor, .log, .free] [.one O.logLostCount, .one O.pwrHoldupState, .one O.patinaStoreState, .one O.cfgStoreState,
      .one O.norEraseMax, .one O.logNewestSeq, .one O.logOldestSeq]
  | .holdupRecovery => within [tFaults] [.clk, .isl, .pwr, .link, .mem, .flt] [.one O.pwrLastStatus, .subs O.linkSlotState 32, .one O.headAState,
      .one O.headBState, .one O.panelPowerState, .one O.pwrHoldupState]
  | .railDownStep => within [] [.clk, .held, .pwr] [.one O.panelPowerState]
  | .deviceRailCompare .. => within [tSuspend, tComplete] [.cfg, .held, .isl, .rrec, .rse, .pwr, .link] [.one O.reliefSlotFree,
      .one O.reliefSlotRetained, .one O.reliefDirFree, .one O.reliefRecordFree, .one O.tilesInFlight, .one O.residentOrdinal, .one O.figLiveCount,
      .one O.pwrLastStatus, .subs O.linkSlotState 32, .one O.headAState, .one O.headBState, .one O.panelPowerState, .one O.pwrHoldupState,
      .subs O.linkLaneState 160, .one O.admBrokenCount, .one O.holdupLifetime, .subs O.deviceRailMv 11, .one O.deviceRailLowCount,
      .one O.pwrHoldupCount]
  | .railPgRise .. => within [] [.pwr] [.one O.railPgStatus]
  | .railStepDelay => within [tFaults] [.clk, .isl, .pwr, .link, .flt] [.one O.pwrLastStatus, .subs O.linkSlotState 32, .one O.headAState,
      .one O.headBState, .one O.panelPowerState, .one O.pwrHoldupState]
  | .railPgTimeout => within [tPanel, tRaise] [] [.one O.panelPowerEnable]
  | .railFault .. => within [tPanel, tRaise, tComplete] [] [.one O.panelPowerEnable, .one O.admBrokenCount]
  | .railOffStep => within [tFaults] [.clk, .held, .isl, .pwr, .link, .flt] [.one O.pwrLastStatus, .subs O.linkSlotState 32, .one O.headAState,
      .one O.headBState, .one O.panelPowerState, .one O.pwrHoldupState]
  | .clockLost .. => within [tWarmReset, tPanel, tFallback, tComplete] [.die, .stop, .hbm, .sdec, .rrec, .rse, .rasp, .aud, .thm] [
      .one O.reliefSlotFree, .one O.reliefSlotRetained, .one O.reliefDirFree, .one O.reliefRecordFree, .one O.tilesInFlight, .one O.residentOrdinal,
      .one O.figLiveCount, .each O.audPortFlags 8, .each O.portState 3, .each O.portLink 3, .each O.audPortState 8, .one O.clpState,
      .one O.overlayState, .one O.clpCmdState, .one O.sdecLastStatus, .one O.rrecLastStatus, .one O.rseOverrunCount, .one O.admBrokenCount,
      .one O.pcieLinkSpeed, .one O.pcieLinkWidth, .one O.hostState, .one O.hostSilentCount, .one O.entropyErrorCount, .one O.staleTileCount,
      .one O.cacheFullCount, .one O.scanLockState]
  | .clockRestartAttempt .. => within [] [.clk, .isl] []
  | .clockRestartCheck .. => within [tStarts] [] []
  | .lockstepMismatch => within [tWarmReset] [] []
  | .sramUncorrectable => within [tWarmReset] [] []
  | .watchdogExpiry => within [tWarmReset] [.clk] []
  | .warmResetDone .. => within [tFaults] [.nor, .atl, .pln, .flt, .free] [.one O.atlState, .one O.atlLastStatus, .one O.fwSlotVersions,
      .one O.fwActiveSlot, .one O.arbCount, .one O.firmwareVersion, .one O.norEccCount]
  | .atlWarmReset .. => within [tDictionary] [] []
  | .plnWdKick .. => within [tWarmReset] [] []
  | .trialConfirm => within [tLog] [.clk, .nor, .atl, .pln] [.one O.atlLastStatus, .one O.fwSlotVersions, .one O.fwActiveSlot, .one O.arbCount,
      .one O.updateCount]
  | .stateJournalSave => within [] [.nor, .free] [.one O.norEraseMax]
  | .logNorFlush => within [] [.nor, .log] [.one O.logLostCount, .one O.logNewestSeq, .one O.logOldestSeq]
  | .trimSave => within [] [.thm, .nor] []
  | .limitRecordWrite => within [] [.nor, .pln] []
  | .dictionaryTick .. => within [tDictionary] [] []
  | .dictRead .. => within [tDictionary] [] []
  | .dictWrite .. => within [tDictionary] [] []
  | .domainOpen .. => within [tDictionary] [] []
  | .domainData .. => within [tDictionary] [] []
  | .domainClose .. => within [tDictionary] [] []
  | .domainAbort .. => within [tDictionary] [] []
  | .domainTimeout .. => within [] [.clk, .dict] [.one O.dictLastStatus, .one O.dictDomainOpen]
  | .vipexHeartbeat => within [] [.tim, .dict] [.one O.vipexAliveTx]
  | .heartbeatReceived .. => within [tLog] [.dict] [.one O.dictLastStatus]
  | .vipexKeyWrite .. => within [tDictionary] [] []
  | .swapRequest .. => within [tDictionary] [] []
  | .swapValidationDone => within [tAnswer] [.cfg, .held, .cal] [.one O.cfgSwapState, .one O.captureEnable, .one O.calStatusFlags,
      .one O.calTempLatched, .one O.calRampStep, .one O.calTempMeasured, .one O.captureState, .one O.captureResult, .one O.cfgMaquetteDirty,
      .one O.captureCause, .one O.cfgSwapResult]
  | .cfgMaquetteReset .. => within [tDictionary] [] []
  | .cfgStore .. => within [tDictionary] [] []
  | .cfgStoreBegin => within [] [] [.one O.cfgStoreState]
  | .cfgStoreDone .. => within [tLog] [.nor, .atl] [.one O.cfgStoreState, .one O.cfgStoredGeneration]
  | .patinaStore .. => within [tDictionary] [] []
  | .patinaStoreBegin => within [] [.nor, .atl] [.one O.patinaStoreState]
  | .patinaStoreDone .. => within [tFaults] [.cal, .nor, .atl, .flt] [.one O.calStatusFlags, .one O.calTempLatched, .one O.calRampStep,
      .one O.calTempMeasured, .one O.patinaStoreState, .one O.patinaGeneration]
  | .streamSourceWrite .. => within [tDictionary] [] []
  | .timeSet .. => within [tDictionary] [] []
  | .timeAdjust .. => within [tDictionary] [] []
  | .timeActionAdd .. => within [tDictionary] [] []
  | .timeActionCancel .. => within [tDictionary] [] []
  | .ethFrameRx .. => within [tLog] [.clk, .isl, .hbm, .sdec, .tim, .mem, .dict] [.one O.vipexAuthFailCount, .one O.dictLastStatus,
      .one O.vipexAliveTx, .each O.portLastStatus 3, .each O.portRxFrames 3, .each O.portRxDropped 3, .one O.vipexDiscardCount,
      .one O.vipexStaleCount, .one O.vipexRxCount, .each O.portAsirekDiscardCount 3]
  | .ethFrameTx .. => within [tLog] [.tim] [.each O.portLastStatus 3, .each O.portTxFrames 3]
  | .portLinkChange .. => within [tLog] [.tim] [.each O.portLink 3, .each O.portLastStatus 3]
  | .syncRx .. => within [tFaults] [.clk, .tim, .flt] [.one O.timeLeapFlags, .one O.timeUtcOffset, .one O.timeSelectedDomain, .one O.timeState,
      .each O.ptpState 2, .each O.ptpOffset 2, .each O.ptpRate 2]
  | .followUpRx .. => within [tFaults] [.clk, .tim, .flt] [.one O.timeLeapFlags, .one O.timeUtcOffset, .one O.timeSelectedDomain, .one O.timeState,
      .each O.ptpState 2, .each O.ptpOffset 2, .each O.ptpRate 2]
  | .announceRx .. => within [tLog] [.clk, .tim] [.one O.timeLeapFlags, .one O.timeUtcOffset, .one O.timeSelectedDomain, .one O.timeState,
      .each O.ptpState 2, .each O.ptpMasterPort 2, .each O.ptpGmIdentity 2]
  | .delayReqSend .. => within [tLog] [.clk, .tim] [.each O.portLastStatus 3, .each O.portTxFrames 3]
  | .delayRespRx .. => within [tFaults] [.clk, .tim, .flt] [.one O.timeLeapFlags, .one O.timeUtcOffset, .one O.timeSelectedDomain, .one O.timeState,
      .each O.ptpState 2, .each O.ptpPathDelay 2, .each O.ptpOffset 2]
  | .pdelayReqRx .. => within [tLog] [.clk, .tim] [.each O.portLastStatus 3, .each O.portTxFrames 3]
  | .domainLost .. => within [tRaise] [.clk, .tim] [.one O.timeLeapFlags, .one O.timeUtcOffset, .one O.timeSelectedDomain, .one O.timeState,
      .each O.ptpState 2, .each O.ptpMasterPort 2, .each O.ptpGmIdentity 2, .each O.ptpLostCount 2]
  | .domainRevert => within [tLog] [.clk, .tim] [.one O.timeLeapFlags, .one O.timeUtcOffset, .one O.timeSelectedDomain, .one O.timeState]
  | .timeRateStep => within [] [.scan, .tim] [.one O.timeRate]
  | .hifSegEn .. => within [] [.isl, .hif] []
  | .hifFdrEn .. => within [] [.hif] []
  | .hifCplEn .. => within [] [.hif] []
  | .directReq .. => within [] [.hif, .out] [.one O.pdpLastStatus]
  | .segDoorbell .. => within [tFaults] [.flt] [.one O.hifLastStatus, .one O.hostState]
  | .segmentDescriptorCopy .. => within [] [.isl, .sdec, .mem, .hif, .out, .free] [.one O.hifLastStatus, .one O.dmaErrorCount, .one O.segCopiedCount,
      .one O.segCopiedBytes]
  | .fdrTail .. => within [tFaults] [.flt] [.one O.hifLastStatus, .one O.hostState]
  | .frameDescriptorTake .. => within [tComplete] [] []
  | .directCommitInstant => within [tComplete] [.clk, .scan] [.one O.scanLastStatus, .one O.scanCommitIgnoredCount]
  | .cplHead .. => within [tFaults] [.flt] [.one O.hifLastStatus, .one O.hostState]
  | .completionEntryWrite => within [] [.hif, .out] []
  | .hostHeartbeat => within [tFaults] [.flt] [.one O.hifLastStatus, .one O.hostState]
  | .frameCommit .. => within [tFaults, tComplete] [.flt] [.one O.scanLastStatus, .one O.hostState, .one O.scanCommitIgnoredCount]
  | .timeNowRead => within [] [.hif, .out] []
  | .reg64LowRead .. => within [] [.scan, .out] []
  | .irqStatusClear .. => within [] [.hif] []
  | .irqMaskWrite .. => within [] [.hif, .out] []
  | .cplCoalesceTimer => within [] [.clk, .hif, .out] []
  | .apertureBaseWrite .. => within [] [.hif] []
  | .apertureRead .. => within [tLog] [.mem, .free] [.one O.memApertureRefusedCount, .one O.memLastStatus, .subs O.memEccCorrected 4,
      .one O.memLastUeAddr, .one O.memLastUeClass, .subs O.memEccUncorrectable 4]
  | .apertureWrite .. => within [] [.hbm, .mem] [.one O.memApertureRefusedCount, .one O.memLastStatus]
  | .registerWrite .. => within [tDictionary, tComplete] [] [.one O.scanLastStatus, .one O.hostState, .one O.raspLastStatus,
      .one O.scanCommitIgnoredCount, .one O.pdpLastStatus]
  | .raspRingTail .. => within [tLog] [.rasp] [.one O.raspLastStatus]
  | .nop => within [] [.rasp, .mem] [.one O.raspCmdCount]
  | .fill .. => within [tLog] [.hbm, .rasp, .mem] [.one O.memLastStatus, .subs O.memEccCorrected 4, .one O.memLastUeAddr, .one O.memLastUeClass,
      .subs O.memEccUncorrectable 4, .one O.raspLastStatus, .one O.raspCmdCount]
  | .copy .. => within [tLog] [.hbm, .rasp, .mem] [.one O.memLastStatus, .subs O.memEccCorrected 4, .one O.memLastUeAddr, .one O.memLastUeClass,
      .subs O.memEccUncorrectable 4, .one O.raspLastStatus, .one O.raspCmdCount]
  | .publish => within [] [.adm, .rasp, .mem] [.one O.raspLastStatus, .one O.raspCmdCount, .one O.raspPublishedEpoch, .one O.raspRefusedCount]
  | .fence => within [] [.rasp, .mem, .hif, .out] [.one O.raspCmdCount]
  | .publishCatchup => within [] [.hbm, .adm, .rasp, .mem] [.one O.raspCmdCount]
  | .audSlotPresent .. => within [tLog] [.clk, .aud, .mem] [.one O.memLastStatus, .subs O.memEccCorrected 4, .one O.memLastUeAddr,
      .one O.memLastUeClass, .subs O.memEccUncorrectable 4, .each O.audPortFlags 8, .one O.audLastStatus, .each O.audUnderrunCount 8]
  | .audPhaseMeasure .. => within [] [.aud] [.each O.audPortFlags 8, .each O.audPhaseError 8]
  | .presenceFall .. => within [] [.link] []
  | .presenceConfirmed .. => within [] [.clk, .link] [.subs O.linkSlotState 32]
  | .descriptorRead .. => within [tRaise] [.clk, .cal, .link] [.subs O.linkSlotState 32, .one O.calStatusFlags, .one O.calTempLatched,
      .one O.calRampStep, .one O.calTempMeasured, .subs O.linkLaneState 160, .one O.linkLastStatus, .subs O.partnerDescriptor 32,
      .subs O.uniformityPartner 32]
  | .trainTimeout .. => within [tLog] [.clk, .link] [.subs O.linkLaneState 160, .one O.linkLastStatus]
  | .discoveryRetry .. => within [] [.clk, .link] [.subs O.linkSlotState 32]
  | .sweepDone .. => within [tRaise] [.clk, .link] [.subs O.linkSlotState 32, .subs O.linkLaneState 160, .one O.linkLastStatus]
  | .verifyDone .. => within [tRaise] [.clk, .link] [.subs O.linkSlotState 32, .subs O.linkLaneState 160, .one O.linkLastStatus,
      .subs O.linkLaneSetting 160]
  | .retrainRealignDone .. => within [] [.link, .out] [.subs O.linkSlotState 32, .subs O.linkLaneState 160, .subs O.linkLaneSetting 160]
  | .partnerAttention .. => within [tRaise] [.cal, .link] [.one O.calStatusFlags, .one O.calTempLatched, .one O.calRampStep, .one O.calTempMeasured,
      .subs O.linkLaneState 160, .one O.linkLastStatus, .one O.linkSpareSwitchCount]
  | .laneRetry .. => within [] [.clk, .link, .out] [.subs O.linkLaneState 160, .one O.linkRetryCount]
  | .partnerRemoved .. => within [tFaults] [.clk, .link, .flt] [.subs O.linkSlotState 32, .subs O.linkLaneState 160, .one O.linkLastStatus,
      .subs O.linkLaneSetting 160, .subs O.partnerTelemetry 32]
  | .telemetryRead .. => within [tRaise] [.cal, .link] [.one O.calStatusFlags, .one O.calTempLatched, .one O.calRampStep, .one O.calTempMeasured,
      .one O.linkLastStatus, .one O.pdpLastStatus, .subs O.partnerTelemetry 32, .one O.partnerCrcCount]
  | .plinthStage .. => within [tDictionary] [] []
  | .stageVerified => within [tLog] [.pln] [.one O.plinthLastResult, .one O.plinthState, .one O.plinthStagedSet]
  | .plinthConfirm .. => within [tDictionary] [] []
  | .consentFall => within [] [.pln] [.one O.plinthConsent]
  | .consentConfirmed => within [tLog] [.clk, .pln] [.one O.plinthLastResult, .one O.plinthState, .one O.plinthStagedSet, .one O.plinthMeanDrive,
      .one O.plinthLaneAmplitude, .one O.plinthTripPoint, .one O.plinthWdPeriod, .one O.plinthTfMinNum, .one O.plinthTfMinDen, .one O.railOrder,
      .one O.plinthCommitSeq, .subs O.plinthPeakDrive 32]
  | .consentStuck => within [tLog] [.clk, .pln] []
  | .commitExpired => within [tLog] [.clk, .pln] [.one O.plinthLastResult, .one O.plinthState, .one O.plinthStagedSet]
  | .plinthCancel .. => within [tDictionary] [] []
  | .updateVerifyDone => within [tLog] [.nor] [.one O.atlLastStatus, .one O.updateState, .one O.fwSlotVersions, .one O.fwActiveSlot, .one O.arbCount,
      .one O.updateResult]
  | .updateWriteBegin => within [] [.nor] [.one O.updateState, .one O.fwSlotVersions, .one O.fwActiveSlot, .one O.arbCount]
  | .updateWriteDone .. => within [tStops, tRaise] [.die, .stop, .cast, .maq, .cfg, .hbm, .figs, .sdec, .rrec, .rse, .pdp, .aud, .tim, .mem, .thm, .nor, .atl, .pln, .clp, .dict, .free] [
      .every]
  | .updateApply .. => within [tDictionary] [] []
  | .crcInit .. => within [] [.atl] []
  | .crcData .. => within [] [.atl] []
  | .crcSeed .. => within [] [.atl] []
  | .crcAlive .. => within [] [.atl, .dict] [.one O.vipexAliveTx]
  | .clpFormat .. => within [tDictionary] [] []
  | .clpCreate .. => within [tDictionary] [] []
  | .clpWrite .. => within [tDictionary] [] []
  | .clpClose .. => within [tDictionary] [] []
  | .clpDelete .. => within [tDictionary] [] []
  | .clpPlay .. => within [tDictionary] [] []
  | .clpStop .. => within [tDictionary] [] []
  | .clpCommandDone => within [tLog] [.clp] [.one O.clpLastStatus, .one O.clpCmdState, .one O.clpCmdResult, .one O.clpCapacity,
      .one O.clpFreeLargest, .one O.clpClipCount, .one O.clpLayout, .one O.clpLastId]
  | .clpReadIssue => within [] [.clp, .out] []
  | .clpReadDone => within [tFallback] [.sdec, .mem] []
  | .clpReadFail => within [tFallback] [] [.one O.clpCapacity, .one O.clpFreeLargest, .one O.clpClipCount, .one O.clpReadFailCount,
      .subs O.clpDriveState 2]
  | .clpHealthPoll .. => within [tRaise] [] [.one O.clpLastStatus]
  | .fallbackRelease .. => within [tDictionary] [] []
  | .pfailRise => within [] [.pwr] []
  | .consentRise => within [] [.pln] [.one O.plinthConsent]
  | .presenceRise .. => within [] [.link] []
  | .pgPanelFall .. => within [] [.pwr] [.one O.railPgStatus]
  | .rxReadyAligned .. => within [] [.link, .out] []
  | .confirmVerified => within [tLog] [.pln] [.one O.plinthLastResult, .one O.plinthState, .one O.plinthStagedSet, .one O.plinthMeanDrive,
      .one O.plinthLaneAmplitude, .one O.plinthTripPoint, .one O.plinthWdPeriod, .one O.plinthTfMinNum, .one O.plinthTfMinDen, .one O.railOrder,
      .one O.plinthCommitSeq, .subs O.plinthPeakDrive 32]
  | .pcieLinkUp => within [] [.hif, .free] [.one O.pcieLinkSpeed, .one O.pcieLinkWidth]
  | .powerLoss => within [] [.die, .stop, .clk, .cast, .maq, .cfg, .held, .isl, .hbm, .figs, .sdec, .rrec, .adm, .cal, .rse, .pdp, .pwr, .link, .scan, .rasp, .aud, .tim, .mem, .thm, .nor, .atl, .pln, .clp, .hif, .dict, .log, .flt, .free] [
      .every]
  | .raspCommandRefused .. => within [tLog] [.rasp, .mem] [.one O.memLastStatus, .one O.memLastUeAddr, .one O.memLastUeClass,
      .subs O.memEccUncorrectable 4, .one O.raspLastStatus, .one O.raspCmdCount, .one O.raspRefusedCount]
  | .dhcpRetry .. => within [tLog] [.tim] [.each O.portLastStatus 3]
  | .audClockRestart .. => within [] [.aud] []

end Sys2Proof.Machine
end

