-- ==== Sys2Proof/Certificates/Slice0/Obligations.lean ====
section
/-! DEFINITION. The statements about the model: what each command does, what it leaves, and what every step keeps. -/

open Sys2Proof Sys2Proof.Machine
open State (memGet memSet memWrite)

/-- R433, R438, R508, R465: the block starts, is reset and loses its supply. COLD_START answers with the die running, memory empty, the dictionary ready and Atelier RUNNING or, where no slot boots, in RECOVERY, and each uncorrectable read of NOR in it is counted and logged as 0x1208 with its address. RESET_N_ASSERT holds the die, loses memory, transfers and unwritten log entries, releases THERMTRIP_N and keeps NOR of a die that was not running; POWER_LOSS holds the die, loses memory and the staged limit set, and keeps what NOR holds of a die that was not running. R422: THERMAL_RESTART of a die that a trip stopped and that has been below the throttle start for 60 s starts it cold, once the 60 s are over, and counts the restart, while one is left of those `thm_auto_restart` allows; else the lockout is set, the die stays stopped, and no restart is counted. What the spec leaves to the model here: log entries 19, 21, 22, 23, 130. -/
def Obligations.StartsAndResets : Prop :=
  ((∀ (s : State) (ue : List NorUe), s.die = .inReset → gives (.coldStart ue) s fun t =>
      t.die = .running ∧ t.hbm = [] ∧ t.dict.ready = true ∧ (t.nat O.atlState = 1 ∨ t.nat O.atlState = 4) ∧ t.part = s.part ∧ t.clk.now ≥ s.clk.now ∧
      t.nat O.norEccCount = min ue.length (2 ^ 32 - 1) ∧ ∀ u ∈ ue, logged s t (0x1208, [u.addr])) ∧
    (∀ s : State, s.die ≠ .inReset → gives .resetNAssert s fun t =>
      t.die = .inReset ∧ t.stop = .none ∧ t.hbm = [] ∧ t.dict = {} ∧ t.log.staging = [] ∧ t.log.sram = [] ∧ t.thm.thermtrip = false ∧
      (s.die ≠ .running → t.nor = s.nor)) ∧
    (∀ s : State, s.die = .inReset → gives .resetNAssert s fun t => t = s) ∧
    ∀ s : State, gives .powerLoss s fun t =>
      t.die = .inReset ∧ t.hbm = [] ∧ t.pln.stage = none ∧ t.log.staging = [] ∧ t.pln.siteKeys = s.pln.siteKeys ∧
      t.nat O.railPgStatus = s.nat O.railPgStatus ∧ (s.die ≠ .running → t.nor = s.nor)) ∧
  (∀ (s : State) (t0 : Nat) (ue : List NorUe), s.thm.belowSince = some t0 → s.die = .stopped → s.stop = .trip →
      let u := s.elapseTo (t0 + 60000000000)
      (u.recentRestarts < u.nat O.thmAutoRestart → gives (.thermalRestart ue) s fun t =>
        t.die = .running ∧ t.hbm = [] ∧ t.dict.ready = true ∧ t.thm.thermtrip = false ∧ t.thm.restarts = s.thm.restarts ++ [u.powerSeconds] ∧ logged s t (0x100B, [])) ∧
      (u.nat O.thmAutoRestart ≤ u.recentRestarts → gives (.thermalRestart ue) s fun t =>
        t.die = .stopped ∧ t.thm.lockout = true ∧ t.thm.restarts = s.thm.restarts))

/-- R219, R220: MEM starts. Training in which a stack did not answer, or failed for the second time, sets `mem_state` to FAILED with 0x0A01; a first failure is trained once more; training with no failure ends with every stack trained. MEM_READY ends the fill: the whole capacity is zero and `mem_state` reads READY. R26: ISLAND_POWERED makes an island that was being powered up ready, and touches no other island; an island whose clock is lost or that is held is left as it is. What the spec leaves to the model here: log entries 15, 31, 111. -/
def Obligations.MemoryStarts : Prop :=
  ((∀ (s : State) (failed : List (Fin 4)) (answered : Nat), s.die = .running → s.nat O.memState = 0 → s.mem.filling = false → s.nat O.atlState ≠ 4 →
      let again := (List.range s.stackCount).filter fun i => failed.any fun f => f.val == i
      (answered ≠ s.nat O.hbmStackCount ∨ (∃ i ∈ again, (s.stack i).retrained = true) →
        gives (.memTrainingDone failed answered) s fun t => t.nat O.memState = 2 ∧ t.nat O.memLastStatus = 0x0A01 ∧ t.mem = s.mem) ∧
      (answered = s.nat O.hbmStackCount → again = [] → gives (.memTrainingDone failed answered) s fun t =>
        t.mem.filling = true ∧ t.mem.hbmStacks = s.mem.hbmStacks.map fun x => { x with trained := true }) ∧
      (answered = s.nat O.hbmStackCount → again ≠ [] → (∀ i ∈ again, (s.stack i).retrained = false) →
        gives (.memTrainingDone failed answered) s fun t =>
          t.mem.filling = false ∧ t.nat O.memState = 0 ∧ ∀ i ∈ again, i < s.mem.hbmStacks.length → (t.stack i).retrained = true)) ∧
    ∀ s : State, s.die = .running → s.mem.filling = true → gives .memReady s fun t =>
      t.hbm = [] ∧ t.mem.filling = false ∧ t.nat O.memState = 1 ∧
      t.nat O.memTrainingTime = (O.memTrainingTime.ty.fit ((s.clk.now - s.mem.releasedAt) / 1000 : Nat)).toNat) ∧
  (∀ (s : State) (i : Fin 32), s.die = .running → i.val < s.isl.length → gives (.islandPowered i) s fun t =>
      ((s.island i).pow = .powering → (s.island i).lost = false → (s.island i).held = false → (t.island i).pow = .powered) ∧
      ((s.island i).pow ≠ .powering ∨ (s.island i).lost = true ∨ (s.island i).held = true → t.island i = s.island i) ∧
      ∀ j, j ≠ i.val → t.island j = s.island j)

/-- R212, R215: at a refresh instant, the next one of the 1.95 µs grid, every stack takes the rate it wants; a hot stack refreshes, a normal one on every second instant, and is busy for 410 ns. A stack in self-refresh is left alone. R217, R218: TOLERANCE_REPORT keeps the two heads' tolerances, all ones for a head that is not ON, and lets pseudo-channels power down from 1,000 ns; SELF_REFRESH_ENTRY with both heads not ON puts the stack to sleep 1 ms after the last request of classes 2 to 7, and only it; SCRUB_PASS logs every uncorrectable sector that it read as class 7, counts every sector it corrected under its stack, and counts the pass. What the spec leaves to the model here: log entries 7, 18, 32. -/
def Obligations.MemoryIdles : Prop :=
  (∀ s : State, s.die = .running → s.nat O.memState = 1 → gives .refreshInstant s fun t =>
      t.clk.now = (s.clk.now / 1950 + 1) * 1950 ∧ t.mem.grid = s.mem.grid + 1 ∧
      ∀ i, i < s.stackCount → i < s.mem.hbmStacks.length → (t.stack i).hot = (s.stack i).want ∧
        ((s.stack i).selfRefresh = false → ((s.stack i).want = true ∨ (s.mem.grid + 1) % 2 = 0) →
          (t.stack i).refreshes = (s.stack i).refreshes + 1 ∧ (t.stack i).busyUntil = t.clk.now + 410) ∧
        ((s.stack i).selfRefresh = true ∨ ((s.stack i).want = false ∧ (s.mem.grid + 1) % 2 ≠ 0) →
          (t.stack i).refreshes = (s.stack i).refreshes ∧ (t.stack i).busyUntil = (s.stack i).busyUntil)) ∧
  ((∀ (s : State) (fa fb : Nat), s.die = .running → gives (.toleranceReport fa fb) s fun t =>
      t.mem.tol = (toleranceOf s 0 fa, toleranceOf s 1 fb) ∧ t.mem.powerDown = decide (1000 ≤ min t.mem.tol.1 t.mem.tol.2) ∧
      (s.headState 0 ≠ 2 → t.mem.tol.1 = 0xFFFFFFFF) ∧ (s.headState 1 ≠ 2 → t.mem.tol.2 = 0xFFFFFFFF)) ∧
    (∀ (s : State) (i : Fin 4), s.die = .running → s.nat O.memState = 1 → i.val < s.stackCount → i.val < s.mem.hbmStacks.length →
      s.headState 0 ≠ 2 → s.headState 1 ≠ 2 → s.mem.tol = (0xFFFFFFFF, 0xFFFFFFFF) → gives (.selfRefreshEntry i) s fun t =>
        (t.stack i).selfRefresh = true ∧ s.mem.lastReq + 1000000 ≤ t.clk.now ∧ ∀ j, j ≠ i.val → t.stack j = s.stack j) ∧
    ∀ (s : State) (ue ce : List Nat), s.die = .running → s.nat O.memState = 1 → gives (.scrubPass ue ce) s fun t =>
      counts s t O.memScrubPasses 1 ∧
      (∀ k, k < 4 → let n := (ce.filter fun a => a < s.memTop && scrubbed (s.partitionOf a) && s.stackOf a == k).length
        n ≠ 0 → counts s t (O.memEccCorrected k) n) ∧
      logs s t ((ue.filter fun a => a < s.memTop && scrubbed (s.partitionOf a)).map fun a => (0x0A02, [a / 32 * 32, s.partitionOf (a / 32 * 32), 7])))

/-- R205, R216, R329: an APERTURE_READ of n bytes answers n bytes: all ones at and beyond the top of memory, zeros in a refused sector, memory in the frame buffers, the Rasp partition and host scratch; it is poisoned exactly if an allowed sector of the range was uncorrectable, which is then recorded under class 7. Refused sectors are counted. APERTURE_BASE_WRITE moves the window. What the spec leaves to the model here: log entries 17, 18. -/
def Obligations.ApertureRead : Prop :=
  (∀ (s : State) (off n : Nat) (ue ce : List Nat), s.die = .running →
    let a := s.hif.apertureBase + off
    let bad := (sectorsOf a n).filter fun x => apertureAllows s false x && ue.any fun u => u / 32 == x / 32
    let refused := (sectorsOf a n).filter fun x => !apertureAllows s false x
    gives (.apertureRead off n ue ce) s fun t =>
      (∃ data, t.out.head? = some (.apertureData data !bad.isEmpty) ∧ data.length = n ∧ ∀ i, i < n →
        (s.memTop ≤ a + i → data[i]? = some 0xFF#8) ∧
        (a + i < s.memTop → apertureAllows s false (a + i) = false → data[i]? = some 0#8) ∧
        (apertureAllows s false (a + i) = true → (a + i) / 32 * 32 ∉ bad → (s.partitionOf (a + i) = 5 ∨ s.partitionOf (a + i) = 6 ∨ s.partitionOf (a + i) = 10) →
          data[i]? = some (State.memGet s.hbm (a + i)))) ∧
      (refused ≠ [] → counts s t O.memApertureRefusedCount refused.length) ∧ (bad ≠ [] → t.nat O.memLastUeClass = 7) ∧ t.hbm = s.hbm) ∧
  ∀ (s : State) (v : W64), s.die = .running → gives (.apertureBaseWrite v) s fun t =>
    t.hif = { s.hif with apertureBase := v.toNat / 2 ^ 30 % 2 ^ 7 * 2 ^ 30 }

/-- R205, R329: an APERTURE_WRITE stores the bytes whose sector the aperture may write, from APERTURE_BASE plus the offset on, and drops the others; every other byte of memory reads as before, and each refused sector is counted and recorded as 0x0A03. -/
def Obligations.ApertureWrite : Prop :=
  ∀ (s : State) (off : Nat) (data : Bytes), s.die = .running → memOk s.hbm = true →
    let a := s.hif.apertureBase + off
    let refused := (sectorsOf a data.length).filter fun x => !apertureAllows s true x
    gives (.apertureWrite off data) s fun t =>
      (∀ x, State.memGet t.hbm x = if a ≤ x ∧ x < a + data.length ∧ apertureAllows s true (x / 32 * 32) = true then data.getD (x - a) 0#8 else State.memGet s.hbm x) ∧
      (refused ≠ [] → counts s t O.memApertureRefusedCount refused.length ∧ t.nat O.memLastStatus = 0x0A03) ∧
      (refused = [] → t.obj = s.obj)

/-- R317: an enable bit set from 0 to 1 starts its ring's head and tail at 0, for the completion ring also the phase at 1; base and size stay, and an enable that does not rise leaves the indices as they are. R317, R335: SEG_DOORBELL, FDR_TAIL and CPL_HEAD take an index below the ring's size; one at or above it is ignored, logged as 0x010B and put into LAST_ERROR. Each of them, and HOST_HEARTBEAT, is host activity. R317: the base and the size of the segment ring written through BAR0 are taken while the ring is disabled, the base 4 KiB aligned and the size a power of 2 from 16 to 65,536; any other write of them leaves the ring and answers 0x010B in LAST_ERROR. What the spec leaves to the model here: log entry 72. -/
def Obligations.HostRings : Prop :=
  (∀ (s : State) (on : Bool), s.die = .running →
      let starts : Ring → Ring := fun r => { r with en := on, head := if on = true ∧ r.en = false then 0 else r.head, tail := if on = true ∧ r.en = false then 0 else r.tail }
      gives (.hifSegEn on) s (fun t => t.hif.seg = starts s.hif.seg ∧ t.hif.fdr = s.hif.fdr ∧ t.hif.cpl = s.hif.cpl) ∧
      gives (.hifFdrEn on) s (fun t => t.hif.fdr = starts s.hif.fdr ∧ t.hif.seg = s.hif.seg ∧ t.hif.cpl = s.hif.cpl) ∧
      gives (.hifCplEn on) s (fun t => t.hif.cpl = starts s.hif.cpl ∧ t.hif.seg = s.hif.seg ∧ t.hif.fdr = s.hif.fdr ∧
        t.hif.phase = if on = true ∧ s.hif.cpl.en = false then true else s.hif.phase)) ∧
  ((∀ (s : State) (v : W32), s.die = .running →
      let i := v.toNat % 65536
      (i < s.hif.seg.size → gives (.segDoorbell v) s fun t => t.hif.seg = { s.hif.seg with tail := i } ∧ t.hif.activity = true ∧ t.hif.armed = true) ∧
      (i < s.hif.fdr.size → gives (.fdrTail v) s fun t => t.hif.fdr = { s.hif.fdr with tail := i } ∧ t.hif.activity = true ∧ t.hif.armed = true) ∧
      (i < s.hif.cpl.size → gives (.cplHead v) s fun t => t.hif.cpl = { s.hif.cpl with head := i } ∧ t.hif.activity = true ∧ t.hif.armed = true) ∧
      (s.hif.hostSilent = false →
        (s.hif.seg.size ≤ i → gives (.segDoorbell v) s fun t =>
          t.hif.seg = s.hif.seg ∧ t.hif.lastError = 0x010B ∧ t.hif.activity = true ∧ logs s t [(0x010B, [i])]) ∧
        (s.hif.fdr.size ≤ i → gives (.fdrTail v) s fun t =>
          t.hif.fdr = s.hif.fdr ∧ t.hif.lastError = 0x010B ∧ t.hif.activity = true ∧ logs s t [(0x010B, [i])]) ∧
        (s.hif.cpl.size ≤ i → gives (.cplHead v) s fun t =>
          t.hif.cpl = s.hif.cpl ∧ t.hif.lastError = 0x010B ∧ t.hif.activity = true ∧ logs s t [(0x010B, [i])]))) ∧
    ∀ s : State, s.die = .running → gives .hostHeartbeat s fun t => t.hif.activity = true ∧ t.hif.armed = true ∧ t.hif.silentPeriods = 0) ∧
  (∀ (s : State) (v : W32), s.die = .running →
      let sizeOk := ∃ k ∈ List.range 17, 4 ≤ k ∧ v.toNat = 2 ^ k
      (s.hif.seg.en = false →
        gives (.registerWrite 0x0100 v) s (fun t => t.hif.seg = { s.hif.seg with base := s.hif.seg.base / 2 ^ 32 * 2 ^ 32 + v.toNat / 4096 * 4096 }) ∧
        gives (.registerWrite 0x0104 v) s (fun t => t.hif.seg = { s.hif.seg with base := s.hif.seg.base % 2 ^ 32 + v.toNat * 2 ^ 32 }) ∧
        (sizeOk → gives (.registerWrite 0x0108 v) s fun t => t.hif.seg = { s.hif.seg with size := v.toNat }) ∧
        (¬ sizeOk → gives (.registerWrite 0x0108 v) s fun t => t.hif.seg = s.hif.seg ∧ t.hif.lastError = 0x010B)) ∧
      (s.hif.seg.en = true → ∀ off, off = 0x0100 ∨ off = 0x0104 ∨ off = 0x0108 → gives (.registerWrite off v) s fun t =>
        t.hif.seg = s.hif.seg ∧ t.hif.lastError = 0x010B))

/-- R27, R318, R319, R320: what SEGMENT_DESCRIPTOR_COPY does with the descriptor at the head, in the order of R319's table: a bad descriptor, a source that is not PCIe, waiting for room, a failed read, and the copy into the stream queue, where the segment waits for the SDEC and RREC islands while they are not powered. All but the waiting one write bytes 0x10 to 0x1F back with DONE, advance the head and, with IRQ set, set bit 1 of IRQ_STATUS; a code other than 0 is the last error. What the spec leaves to the model here: log entries 16, 73. -/
def Obligations.SegmentCopy : Prop :=
  ∀ (s : State) (desc : Bytes) (dma : Dma), s.die = .running → s.hif.seg.en = true → s.hif.seg.head ≠ s.hif.seg.tail → s.linkUp = true → 0 < s.hif.seg.size →
    let n := fieldN desc 8 4
    let got : Option Bytes := match dma with | .ok data => if data.length = n then some data else none | _ => none
    let taken : State → Nat → Nat → Prop := fun t status time =>
      Out.hostWrite (s.hif.seg.base + 32 * s.hif.seg.head + 0x10) (leBytes 2 status ++ leBytes 2 1 ++ zeros 4 ++ leBytes 8 time) ∈ t.out ∧
      t.hif.seg = { s.hif.seg with head := (s.hif.seg.head + 1) % s.hif.seg.size } ∧ t.hif.segStalled = false ∧
      (status ≠ 0 → t.hif.lastError = status ∧ t.nat O.hifLastStatus = status) ∧ (bitOf (fieldN desc 0x0C 2) 0 = true → bitOf t.hif.irqStatus 1 = true)
    (segDescOk desc = false → gives (.segmentDescriptorCopy desc dma) s fun t => (∃ x, taken t 0x0101 x) ∧ t.sdec = s.sdec) ∧
    (segDescOk desc = true → s.source ≠ 0 → gives (.segmentDescriptorCopy desc dma) s fun t => (∃ x, taken t 0x0106 x) ∧ t.sdec = s.sdec) ∧
    (segDescOk desc = true → s.source = 0 → s.queueRoom n = false → gives (.segmentDescriptorCopy desc dma) s fun t =>
      t.hif = { s.hif with segStalled := true } ∧ t.sdec = s.sdec ∧ t.out = s.out) ∧
    (segDescOk desc = true → s.source = 0 → s.queueRoom n = true →
      (got = none → gives (.segmentDescriptorCopy desc dma) s fun t =>
        (∃ x, taken t 0x0102 x) ∧ t.sdec = s.sdec ∧ counts s t O.dmaErrorCount 1) ∧
      (∀ data, got = some data → gives (.segmentDescriptorCopy desc dma) s fun t =>
        taken t 0 s.ns ∧
        (s.streamPowered = true → s.sdec.gate = [] →
          t.sdec.queue = s.sdec.queue ++ [{ transport := 0, addr := 0x40000000 + s.sdec.wr, bytes := data }] ∧ t.sdec.gate = []) ∧
        (s.streamPowered = false ∨ s.sdec.gate ≠ [] → t.sdec = { s.sdec with gate := s.sdec.gate ++ [(0, data)] }) ∧
        counts s t O.segCopiedCount 1 ∧ counts s t O.segCopiedBytes n))

/-- R326, R327, R328: IRQ_STATUS_CLEAR clears the causes written 1 and no other; IRQ_MASK_WRITE takes the mask and sends each cause that it unmasks while set; CPL_COALESCE_TIMER sets CPL, DELAY µs after the first entry. R234, R316: TIME_NOW_READ answers the ns of display time and latches the seconds; REG64_LOW_READ answers the low half of a 64-bit register and latches its high half in that register's own latch, leaving the other latches. -/
def Obligations.InterruptAndLatchedReads : Prop :=
  ((∀ (s : State) (v : W32), s.die = .running → gives (.irqStatusClear v) s fun t =>
      (∀ b, bitOf t.hif.irqStatus b = (bitOf s.hif.irqStatus b && !bitOf v.toNat b)) ∧ t.hif.irqMask = s.hif.irqMask) ∧
    (∀ (s : State) (v : W32), s.die = .running → gives (.irqMaskWrite v) s fun t =>
      t.hif.irqMask = v.toNat % 256 ∧ t.hif.irqStatus = s.hif.irqStatus ∧
      ∀ b, b < 8 → bitOf s.hif.irqMask b = true → bitOf v.toNat b = false → bitOf s.hif.irqStatus b = true →
        (bitOf s.hif.msixMask b = false → Out.msix b ∈ t.out) ∧ (bitOf s.hif.msixMask b = true → bitOf t.hif.msixPend b = true)) ∧
    ∀ (s : State) (t0 : Nat), s.die = .running → s.hif.cplFirstAt = some t0 → gives .cplCoalesceTimer s fun t =>
      bitOf t.hif.irqStatus 0 = true ∧ t.clk.now = max s.clk.now (t0 + s.hif.coalesceDelay * 1000)) ∧
  ((∀ s : State, s.die = .running → gives .timeNowRead s fun t =>
      t.out = .regData 0x40 (s.ns % 1000000000) :: s.out ∧ t.hif.latchSec = s.ns / 1000000000) ∧
    ∀ (s : State) (off v : Nat), s.die = .running → (off, v) ∈ [(0x50, s.curEpoch), (0x300, s.hif.apertureBase), (0x400, s.scan.addrA),
        (0x408, s.scan.addrB), (0x410, s.scan.active.a), (0x418, s.scan.active.b)] → gives (.reg64LowRead off) s fun t =>
      t.out = .regData off (v % 2 ^ 32) :: s.out ∧ (off, v / 2 ^ 32) ∈ t.scan.latches ∧
      ∀ o w, o ≠ off → ((o, w) ∈ t.scan.latches ↔ (o, w) ∈ s.scan.latches))

/-- R322, R323, R324, R328: COMPLETION_ENTRY_WRITE writes the oldest waiting entry, the warnings that await an entry added to it, at CPL_TAIL in two writes, the first four bytes last, with the phase in force; the tail advances and the phase flips at the wrap. After a loss a LOST entry with the number lost goes first and nothing leaves the queue. CPL is set in IRQ_STATUS once COUNT entries were written since it was cleared, or with DELAY 0. While the ring is full the entries wait, and with nothing to write nothing changes. -/
def Obligations.CompletionEntry : Prop :=
  ∀ s : State, s.die = .running → s.hif.cpl.en = true → s.linkUp = true → 0 < s.hif.cpl.size →
    let a := s.hif.cpl.base + 64 * s.hif.cpl.tail
    let next := (s.hif.cpl.tail + 1) % s.hif.cpl.size
    let wrote : Completion → State → Prop := fun c t =>
      Out.hostWrite (a + 4) ((cplBytes c s.hif.phase).drop 4) ∈ t.out ∧ Out.hostWrite a ((cplBytes c s.hif.phase).take 4) ∈ t.out ∧
      t.hif.cpl = { s.hif.cpl with tail := next } ∧ (t.hif.phase = if next = 0 then !s.hif.phase else s.hif.phase) ∧
      t.hif.cplSince = s.hif.cplSince + 1 ∧
      (max 1 s.hif.coalesceCount ≤ s.hif.cplSince + 1 ∨ s.hif.coalesceDelay = 0 → bitOf t.hif.irqStatus 0 = true) ∧ (c.irq = true → bitOf t.hif.irqStatus 2 = true)
    (next ≠ s.hif.cpl.head → s.hif.lost ≠ 0 → gives .completionEntryWrite s fun t =>
      wrote { kind := .lost, status := 0x010A, eventTime := s.hif.lost % 2 ^ 32 } t ∧ t.hif.lost = 0 ∧ t.hif.queue = s.hif.queue) ∧
    (next ≠ s.hif.cpl.head → s.hif.lost = 0 → ∀ c cs, s.hif.queue = c :: cs →
      let w : Completion := { c with warnStatus := if c.warnStatus = 0 then s.hif.warnNext.1 else c.warnStatus, warnCount := min 65535 (c.warnCount + s.hif.warnNext.2) }
      gives .completionEntryWrite s fun t => wrote w t ∧ t.hif.queue = cs ∧ t.hif.lost = 0 ∧ t.hif.warnNext = (0, 0)) ∧
    (s.hif.lost = 0 → s.hif.queue = [] → gives .completionEntryWrite s fun t => t = s) ∧
    (next = s.hif.cpl.head → gives .completionEntryWrite s fun t => t = s)

/-- R321: a completion entry is 64 bytes, each field at its offset: kind, PHASE and COVERED, status, tag, frame number, epoch, bad bin and sub-bin, throttle, derate, sdec status, cost, budget, generation, sdec count, warning status, event time, warning count. What the spec leaves to the model here: log entry 40. -/
def Obligations.CompletionLayout : Prop :=
  ∀ (c : Completion) (phase : Bool),
    (cplBytes c phase).length = 64 ∧
    fieldN (cplBytes c phase) 0x00 1 = c.kind.code ∧ fieldN (cplBytes c phase) 0x01 1 = b2n phase + 2 * b2n c.covered ∧
    fieldN (cplBytes c phase) 0x02 2 = c.status % 2 ^ 16 ∧ fieldN (cplBytes c phase) 0x04 4 = c.tag % 2 ^ 32 ∧
    fieldN (cplBytes c phase) 0x08 8 = c.number % 2 ^ 64 ∧ fieldN (cplBytes c phase) 0x10 8 = c.epoch % 2 ^ 64 ∧
    fieldN (cplBytes c phase) 0x18 2 = c.badBin % 2 ^ 16 ∧ fieldN (cplBytes c phase) 0x1A 1 = c.badSub % 2 ^ 8 ∧
    fieldN (cplBytes c phase) 0x1B 1 = c.throttle % 2 ^ 8 ∧ fieldN (cplBytes c phase) 0x1C 2 = c.derate % 2 ^ 16 ∧
    fieldN (cplBytes c phase) 0x1E 2 = c.sdecStatus % 2 ^ 16 ∧ fieldN (cplBytes c phase) 0x20 4 = c.cost % 2 ^ 32 ∧
    fieldN (cplBytes c phase) 0x24 4 = c.budget % 2 ^ 32 ∧ fieldN (cplBytes c phase) 0x28 4 = c.gen % 2 ^ 32 ∧
    fieldN (cplBytes c phase) 0x2C 2 = c.sdecCount % 2 ^ 16 ∧ fieldN (cplBytes c phase) 0x2E 2 = c.warnStatus % 2 ^ 16 ∧
    fieldN (cplBytes c phase) 0x30 8 = c.eventTime % 2 ^ 64 ∧ fieldN (cplBytes c phase) 0x38 2 = c.warnCount % 2 ^ 16

/-- R331, R332: a change of DIRECT_REQ is set pending, but a request to enter while a Plinth mean-drive limit is in force is refused with 0x0C08 in LAST_ERROR and the request bit stays clear. R232, R233, R334: FRAME_COMMIT with bit 0 in direct-frame mode puts the address pair up for the next latch point where it passes the check of R233, replacing a descriptor's pair, which then gets 0x010D, and is refused with 0x0B08 where it fails; outside the mode it is refused with 0x0B06. A refusal is counted and leaves the pending pair. Every FRAME_COMMIT is host activity. -/
def Obligations.DirectModeRegisters : Prop :=
  (∀ (s : State) (on : Bool), s.die = .running →
      (on ≠ s.hif.directReq → (on = false ∨ 65535 ≤ s.nat O.plinthMeanDrive) → gives (.directReq on) s fun t =>
        t.hif = { s.hif with directReq := on, directPending := true }) ∧
      (on = true → s.hif.directReq = false → s.nat O.plinthMeanDrive < 65535 → gives (.directReq on) s fun t =>
        t.hif.directReq = false ∧ t.hif.directPending = s.hif.directPending ∧ t.hif.direct = s.hif.direct ∧ t.hif.lastError = 0x0C08)) ∧
  (∀ (s : State) (v : W32), s.die = .running → s.hif.hostSilent = false →
      let p : Pair := { a := s.scan.addrA, b := s.scan.addrB, crcSkip := bitOf v.toNat 1 }
      (bitOf v.toNat 0 = true → s.hif.direct = true → pairOk s.activity p = true → gives (.frameCommit v) s fun t =>
        t.scan.pend = some p ∧ t.scan.commitResult = 0 ∧ t.hif.activity = true ∧
        ∀ d, s.hif.held = some d → d.committed = true → t.hif.held = none ∧ completes s t [(.direct, 0x010D)]) ∧
      (bitOf v.toNat 0 = true → s.hif.direct = true → pairOk s.activity p = false → gives (.frameCommit v) s fun t =>
        t.scan.pend = s.scan.pend ∧ t.scan.commitResult = 0x0B08 ∧ counts s t O.scanCommitIgnoredCount 1 ∧ t.hif.activity = true) ∧
      (bitOf v.toNat 0 = true → s.hif.direct = false → gives (.frameCommit v) s fun t =>
        t.scan.pend = s.scan.pend ∧ t.scan.commitResult = 0x0B06 ∧ counts s t O.scanCommitIgnoredCount 1 ∧ t.hif.activity = true) ∧
      (bitOf v.toNat 0 = false → gives (.frameCommit v) s fun t => t.scan = s.scan ∧ t.hif.activity = true))

/-- R333, R334: FRAME_DESCRIPTOR_TAKE takes the descriptor at FDR_HEAD, an epoch of 0 as the first whose commit instant lies ahead; DIRECT_COMMIT_INSTANT commits its addresses at the commit instant and advances FDR_HEAD. A descriptor outside the mode, or still in the ring when it ended, a late one, one whose epoch does not rise or lies too far ahead, and one whose addresses fail are consumed with a DIRECT entry of their code. What the spec leaves to the model here: log entries 61, 71. -/
def Obligations.DirectFrames : Prop :=
  (∀ (s : State) (desc : Bytes), s.die = .running → s.hif.fdr.en = true → s.hif.fdr.head ≠ s.hif.fdr.tail → s.hif.held = none → s.linkUp = true → 0 < s.hif.fdr.size →
    let k := fieldN desc 0x10 8
    let e := if k = 0 then earliestDirect s else k
    let consumed : Nat → State → Prop := fun code t =>
      t.hif.held = none ∧ t.hif.fdr.head = (s.hif.fdr.head + 1) % s.hif.fdr.size ∧ completes s t [(.direct, code)]
    (s.hif.direct = false ∨ s.hif.fdrStale ≠ 0 → gives (.frameDescriptorTake desc) s fun t => consumed 0x0109 t ∧ t.hif.fdrStale = s.hif.fdrStale - 1) ∧
    (s.hif.direct = true → s.hif.fdrStale = 0 → commitInstant s e ≤ s.ns → gives (.frameDescriptorTake desc) s (consumed 0x0107)) ∧
    (s.hif.direct = true → s.hif.fdrStale = 0 → s.ns < commitInstant s e → (s.curEpoch + 16384 < e ∨ (∃ p ∈ s.hif.prevFdEpoch, e ≤ p)) →
      gives (.frameDescriptorTake desc) s (consumed 0x0108)) ∧
    (s.hif.direct = true → s.hif.fdrStale = 0 → s.ns < commitInstant s e → e ≤ s.curEpoch + 16384 → (∀ p ∈ s.hif.prevFdEpoch, p < e) →
      gives (.frameDescriptorTake desc) s fun t => t.hif.fdr = s.hif.fdr ∧ t.hif.prevFdEpoch = some e ∧ ∃ d, t.hif.held = some d ∧
        d.epoch = e ∧ d.tag = fieldN desc 0x18 4 ∧ d.crcSkip = bitOf (fieldN desc 0x1C 2) 0 ∧ d.irq = bitOf (fieldN desc 0x1C 2) 1 ∧ d.committed = false)) ∧
  ∀ (s : State) (d : FdHeld), s.die = .running → s.hif.held = some d → d.committed = false → s.hif.direct = true → 0 < s.hif.fdr.size →
    let u := s.reach (commitInstant s d.epoch)
    let p : Pair := { a := d.addrA, b := d.addrB, crcSkip := d.crcSkip }
    (pairOk u p = true → gives .directCommitInstant s fun t =>
      t.scan.pend = some p ∧ t.hif.held = some { d with committed := true } ∧ t.hif.fdr.head = (s.hif.fdr.head + 1) % s.hif.fdr.size ∧ commitInstant s d.epoch ≤ t.ns) ∧
    (pairOk u p = false → gives .directCommitInstant s fun t =>
      t.scan.pend = s.scan.pend ∧ t.hif.held = none ∧ t.hif.fdr.head = (s.hif.fdr.head + 1) % s.hif.fdr.size ∧ completes s t [(.direct, 0x0B08)])

/-- R335, R336: a link that leaves L0 or loses Bus Master Enable declares host silence at once, if the watchdog is armed and the host is not silent already: HOST_SILENT is set, counted and logged as 0x0103, and direct-frame mode, if in force, is due to end, while a pending request to enter stays. PCIE_LINK_UP brings L0 and Bus Master Enable back; it does not end the silence. R315: a Function Level Reset, a hot reset or a link-down event disables all three rings and returns the registers of the HIF block to their reset values, with direct-frame mode, if in force, due to end at the next latch point; HBM, the Figures, the relief cache and SCAN are not touched. What the spec leaves to the model here: log entries 69, 70. -/
def Obligations.PcieEvents : Prop :=
  ((∀ (s : State) (kind : LinkLoss), s.die = .running → gives (.pcieLinkLoss kind) s fun t =>
      (kind = .l0Lost → t.hif.linkL0 = false ∧ t.nat O.pcieLinkSpeed = 0 ∧ t.nat O.pcieLinkWidth = 0) ∧ (kind = .busMasterCleared → t.hif.busMaster = false) ∧
      (s.hif.armed = true → s.hif.hostSilent = false → t.hif.hostSilent = true ∧ t.nat O.hostState = 2 ∧ counts s t O.hostSilentCount 1 ∧
        t.hif.directReq = (s.hif.directReq && !s.hif.direct) ∧ t.hif.directPending = (s.hif.direct || s.hif.directPending) ∧ logged s t (0x0103, [])) ∧
      (s.hif.armed = false ∨ s.hif.hostSilent = true → t.hif.hostSilent = s.hif.hostSilent ∧ t.log = s.log)) ∧
    ∀ s : State, s.die = .running → gives .pcieLinkUp s fun t => t.hif = { s.hif with linkL0 := true, busMaster := true }) ∧
  (∀ (s : State) (kind : PcieReset), s.die = .running → gives (.pcieReset kind) s fun t =>
      t.hif.seg = {} ∧ t.hif.fdr = {} ∧ t.hif.cpl = {} ∧ t.hif.phase = true ∧ t.hif.apertureBase = 0 ∧ t.hif.irqMask = 0xFF ∧ t.hif.directReq = false ∧
      t.hif.busMaster = false ∧ t.hif.direct = s.hif.direct ∧ t.hif.directPending = s.hif.direct ∧ t.hif.queue = s.hif.queue ∧
      (s.hif.armed = true → t.hif.hostSilent = true) ∧ t.hbm = s.hbm ∧ t.figs = s.figs ∧ t.rrec = s.rrec ∧ t.scan.active = s.scan.active ∧ t.scan.pend = s.scan.pend)

/-- R309, R347, R409, R487: STARTING ends. A network port, an audio port, the clip store and the overlay enter ON once their islands are up; the overlay with both plane buffers zero, its ring emptied and every other byte of memory as before. R45, R309, R347, R409, R487: STOPPING ends. The function is OFF, or STARTING at once where an enable was held, which it then no longer is. The overlay's ring is emptied. What the spec leaves to the model here: log entry 29. -/
def Obligations.FunctionTransitionsEnd : Prop :=
  ((∀ (s : State) (p : Fin 3), s.die = .running → s.nat (O.portState p) = 1 → (p = 1 → s.islandUp 3 = true) → (p = 2 → s.islandUp 4 = true) →
      gives (.portStartDone p) s fun t => t.nat (O.portState p) = 2) ∧
    (∀ (s : State) (p : Fin 8), s.die = .running → s.nat (O.audPortState p) = 1 → s.islandUp 28 = true →
      gives (.audPortStartDone p) s fun t => t.nat (O.audPortState p) = 2) ∧
    (∀ (s : State) (d0 d1 : DriveProbe), s.die = .running → s.nat O.clpState = 1 → gives (.clpStartDone d0 d1) s fun t =>
      t.nat O.clpState = 2 ∧ t.nat O.clpCmdState = 0) ∧
    ∀ s : State, s.die = .running → s.nat O.overlayState = 1 → s.islandUp 27 = true → gives .overlayStartDone s fun t =>
      t.nat O.overlayState = 2 ∧ t.rasp.head = s.rasp.tail ∧ t.rasp.tail = s.rasp.tail ∧ t.rasp.dirty = [] ∧
      ∀ a, State.memGet t.hbm a = if 0x80000000 ≤ a ∧ a < 0x87E90000 ∨ 0x88000000 ≤ a ∧ a < 0x8FE90000 then 0#8 else State.memGet s.hbm a) ∧
  ((∀ (s : State) (p : Fin 3), s.die = .running → s.nat (O.portState p) = 3 → gives (.portStopDone p) s fun t =>
      t.nat (O.portState p) = (if s.held.contains (.port p) then 1 else 0) ∧ t.held.contains (.port p) = false) ∧
    (∀ (s : State) (p : Fin 8), s.die = .running → s.nat (O.audPortState p) = 3 → gives (.audPortStopDone p) s fun t =>
      t.nat (O.audPortState p) = (if s.held.contains (.aud p) then 1 else 0) ∧ t.held.contains (.aud p) = false) ∧
    (∀ s : State, s.die = .running → s.nat O.clpState = 3 → gives .clpStopDone s fun t =>
      t.nat O.clpState = (if s.held.contains .clip then 1 else 0) ∧ t.held.contains .clip = false) ∧
    ∀ s : State, s.die = .running → s.nat O.overlayState = 3 → gives .overlayStopDone s fun t =>
      t.nat O.overlayState = (if s.held.contains .overlay then 1 else 0) ∧ t.held.contains .overlay = false ∧ t.rasp.head = s.rasp.tail ∧ t.rasp.incomplete = [])

/-- R151, R155: CAPTURE_START_CHECK with every precondition met starts a run with the next run number at step 0; the first precondition that fails ends STARTING in OFF with its code as the result. CAPTURE_TIMEOUT aborts a run whose step stays unconfirmed for `capture_timeout` with 0x0717. What the spec leaves to the model here: log entries 45, 122. -/
def Obligations.CaptureRuns : Prop :=
  (∀ s : State, s.die = .running → s.nat O.captureState = 1 →
    (s.captureBlocked 5 = none → gives .captureStartCheck s fun t =>
      t.nat O.captureState = 2 ∧ t.nat O.captureRunId = (s.nat O.captureRunId + 1) % 256 ∧ t.cal.cap.valid = true ∧ t.cal.cap.step = zeros 16) ∧
    (∀ code, s.captureBlocked 5 = some code → gives .captureStartCheck s fun t =>
      t.nat O.captureState = 0 ∧ t.nat O.captureEnable = 0 ∧ shows t O.captureResult code ∧ logs s t [(code, [])])) ∧
  ∀ (s : State) (t0 : Nat), s.die = .running → s.nat O.captureState = 2 → s.cal.cap.confirmed = false → s.cal.cap.shownAt = some t0 →
    gives .captureTimeout s fun t => t.nat O.captureState = 3 ∧ t.nat O.captureResult = 0x0717 ∧ t.cal.cap.valid = false ∧
      t0 + s.nat O.captureTimeout * 1000000 ≤ t.ns ∧ logs s t [(0x0717, [0])]

/-- R78, R79, R80, R216: what SEGMENT does with the segment at the front of the stream queue. A header that fails, or that an uncorrectable sector took, is discarded with 0x0401. A STREAM_START is accepted, makes its stream current and retires every Figure. Another segment is discarded with 0x0409 unless its stream is current; then δ = 0 is accepted, a gap is accepted with 0x0408 and its count, and a late one is discarded with 0x0408. Every uncorrectable sector of its read is logged as 0x0A02 in class 4. What the spec leaves to the model here: log entries 33, 118. -/
def Obligations.Segments : Prop :=
  ∀ (s : State) (g : Seg) (gs : List Seg) (ue ce : List Nat), s.die = .running → s.sdec.queue = g :: gs → s.sdec.inSeg = false → s.sdec.stalled = none → s.islandUp 6 = true →
    let d := (segSeq g.bytes + 2 ^ 32 - s.sdec.expected) % 2 ^ 32
    let ok := segHeaderOk g.transport g.bytes && !ue.any (· < 24)
    let accepted : State → Prop := fun t =>
      t.sdec.inSeg = true ∧ t.sdec.bad = ue ∧ t.sdec.rest = (g.bytes.take (segLen g.bytes)).drop 24 ∧ t.sdec.curId = some (segId g.bytes) ∧
      t.sdec.expected = (segSeq g.bytes + 1) % 2 ^ 32 ∧ t.nat O.segOkCount = min (s.nat O.segOkCount + 1) (2 ^ 32 - 1) ∧ (g.transport ≠ 3 → t.sdec.queue = gs)
    let discarded : Nat → State → Prop := fun code t =>
      t.sdec.inSeg = false ∧ coded s t code ∧ t.sdec.curId = s.sdec.curId ∧ t.sdec.expected = s.sdec.expected ∧ t.figs = s.figs ∧ (g.transport ≠ 3 → t.sdec.queue = gs)
    (ok = false → gives (.segment ue ce) s fun t => discarded 0x0401 t ∧ counts s t O.segBadCount 1) ∧
    (ok = true → bitOf (fieldN g.bytes 5 1) 0 = true → gives (.segment ue ce) s fun t =>
      accepted t ∧ t.figs = [] ∧ t.sdec.codes = s.sdec.codes) ∧
    (ok = true → bitOf (fieldN g.bytes 5 1) 0 = false →
      (s.sdec.curId ≠ some (segId g.bytes) → gives (.segment ue ce) s (discarded 0x0409)) ∧
      (s.sdec.curId = some (segId g.bytes) → d = 0 → gives (.segment ue ce) s fun t => accepted t ∧ t.figs = s.figs ∧ t.sdec.codes = s.sdec.codes) ∧
      (s.sdec.curId = some (segId g.bytes) → 1 ≤ d → d < 2 ^ 31 → gives (.segment ue ce) s fun t =>
        accepted t ∧ t.figs = s.figs ∧ coded s t 0x0408 ∧ counts s t O.segLossCount d) ∧
      (s.sdec.curId = some (segId g.bytes) → 2 ^ 31 ≤ d → gives (.segment ue ce) s (discarded 0x0408))) ∧
    ∀ u ∈ ue, gives (.segment ue ce) s fun t => logged s t (0x0A02, [(g.addr + u) / 32 * 32, s.partitionOf ((g.addr + u) / 32 * 32), 4])

/-- R82, R83: a PADDING section takes a parse ordinal and nothing else; an unknown type is discarded with 0x0403; a private type is skipped without a report. R81, R83: for each command that takes a section of its type, a section whose length is below 12, not a multiple of 4 or beyond the segment discards the rest of the segment with 0x0402, and one whose CRC fails is passed over with 0x0404 and counted. -/
def Obligations.StreamSections : Prop :=
  (∀ (s : State) (ty : Nat) (sec : Bytes), atSection s ty sec →
      (ty = 7 → gives .paddingSection s fun t => passed s t sec ∧ t.sdec.codes = s.sdec.codes ∧ t.sdec.ordinal = s.sdec.ordinal + 1 ∧ t.figs = s.figs) ∧
      (ty = 0 ∨ 8 ≤ ty ∧ ty < 0x80 → gives .unknownSection s fun t => passed s t sec ∧ coded s t 0x0403 ∧ t.sdec.ordinal = s.sdec.ordinal ∧ t.figs = s.figs) ∧
      (0x80 ≤ ty → gives .privateSection s fun t => passed s t sec ∧ t.sdec.codes = s.sdec.codes ∧ t.sdec.ordinal = s.sdec.ordinal ∧ t.figs = s.figs)) ∧
  (∀ (s : State) (c : Instr) (ty : Nat), s.die = .running → s.canParse = true → s.sdec.rest ≠ [] → fieldN s.sdec.rest 0 1 = ty →
      (c, ty) ∈ [(Instr.frameMarker, 1), (.figureDefine, 2), (.figureModify, 3), (.figureRetire, 4), (.tileUpdate, 5), (.audioBlock, 6), (.paddingSection, 7)] →
      (c = .frameMarker → s.adm.waiting.length < 2 ∧ s.islandUp 8 = true) →
      let n := secLen s.sdec.rest
      (n < 12 ∨ n % 4 ≠ 0 ∨ s.sdec.rest.length < n → gives c s fun t => coded s t 0x0402 ∧ t.sdec.inSeg = false ∧ t.sdec.rest = [] ∧ t.figs = s.figs) ∧
      (12 ≤ n → n % 4 = 0 → n ≤ s.sdec.rest.length → s.secCrcOk (s.sdec.rest.take n) = false → gives c s fun t =>
        coded s t 0x0404 ∧ counts s t O.secCrcFailCount 1 ∧ t.sdec.rest = s.sdec.rest.drop n ∧ t.sdec.ordinal = s.sdec.ordinal ∧ t.figs = s.figs))

/-- R65, R89: a FIGURE_DEFINE of a well-formed length whose context and layers pass R64, with a context free and directory entries enough, makes the Figure live with the fields sent, replacing a live one of its ID; every other Figure stays. Under AUTO_KEY the depth key follows the box. One that fails R64 is discarded with the first failing check's code, one of another length with 0x0402, one with no context free with 0x0601, one with too few directory entries with 0x0502, and each leaves the Figures as they are. What the spec leaves to the model here: log entries 35, 36, 119. -/
def Obligations.FigureDefine : Prop :=
  ∀ (s : State) (sec : Bytes), atSection s 2 sec →
    let n := fieldN sec 13 1
    let id := fieldN sec 8 4
    let c := parseCtx (cut sec 12 128)
    let ls := parseLayers (cut sec 0x8C (64 * n)) n
    let check := figCheck (s.figs.filter fun g => g.id != id) c ls
    let old : Nat → Option (Nat × Nat) := fun k => match s.fig? id with | none => none | some f => dirDims f.ctx f.layers k
    (sec.length ≠ 144 + 64 * n → gives .figureDefine s fun t => passed s t sec ∧ coded s t 0x0402 ∧ t.figs = s.figs ∧ t.sdec.ordinal = s.sdec.ordinal) ∧
    (sec.length = 144 + 64 * n → ∀ code, check = some code → gives .figureDefine s fun t =>
      passed s t sec ∧ coded s t code ∧ t.figs = s.figs ∧ t.sdec.ordinal = s.sdec.ordinal + 1) ∧
    (sec.length = 144 + 64 * n → check = none → State.dirNeed old (dirDims c ls) ≤ s.dirFree →
      ((s.fig? id).isSome = true ∨ (lowestFree 16384 (s.figs.map (·.slot))).isSome = true) → gives .figureDefine s fun t =>
        passed s t sec ∧ t.sdec.codes = s.sdec.codes ∧ t.sdec.ordinal = s.sdec.ordinal + 1 ∧
        (∃ f, t.fig? id = some f ∧ f.layers = ls.take c.layerCount ∧ (∀ g, s.fig? id = some g → f.slot = g.slot) ∧
          f.ctx = (if bitOf c.flags 1 then { c with depthKey := autoKey f.pmax.z } else c)) ∧
        ∀ i, i ≠ id → t.fig? i = s.fig? i) ∧
    (sec.length = 144 + 64 * n → check = none → s.dirFree < State.dirNeed old (dirDims c ls) →
      ((s.fig? id).isSome = true ∨ (lowestFree 16384 (s.figs.map (·.slot))).isSome = true) → gives .figureDefine s fun t =>
        passed s t sec ∧ coded s t 0x0502 ∧ t.figs = s.figs) ∧
    (sec.length = 144 + 64 * n → check = none → s.fig? id = none → lowestFree 16384 (s.figs.map (·.slot)) = none → gives .figureDefine s fun t =>
        passed s t sec ∧ coded s t 0x0601 ∧ t.figs = s.figs ∧ counts s t O.figNoContextCount 1)

/-- R65, R66, R90, R91: FIGURE_RETIRE takes a live Figure away and no other, and FIGURE_MODIFY of a live Figure puts the changed context in its place, or is discarded with the code of the check that fails or of the directory entries that lack; for a Figure that is not live each is discarded with 0x0604 and changes no Figure. What the spec leaves to the model here: log entry 35. -/
def Obligations.FigureChanges : Prop :=
  (∀ (s : State) (sec : Bytes), atSection s 4 sec → sec.length = 16 →
    let id := fieldN sec 8 4
    (s.fig? id = none → gives .figureRetire s fun t => passed s t sec ∧ coded s t 0x0604 ∧ t.figs = s.figs) ∧
    ((s.fig? id).isSome = true → gives .figureRetire s fun t =>
      passed s t sec ∧ t.sdec.codes = s.sdec.codes ∧ t.figs = s.figs.filter fun g => g.id != id)) ∧
  ∀ (s : State) (sec : Bytes), atSection s 3 sec →
    let id := fieldN sec 8 4
    let mask := fieldN sec 12 4
    let body := (sec.drop 16).take (sec.length - 20)
    24 ≤ sec.length → mask ≠ 0 → mask < 512 → sec.length = 20 + modifySize mask body →
    (s.fig? id = none → gives .figureModify s fun t => passed s t sec ∧ coded s t 0x0604 ∧ t.figs = s.figs) ∧
    (∀ f c ls, s.fig? id = some f → applyModify mask body f = .ok (c, ls) →
      let check := figCheck (s.figs.filter fun g => g.id != id) c ls
      (∀ code, check = some code → gives .figureModify s fun t => passed s t sec ∧ coded s t code ∧ t.figs = s.figs) ∧
      (check = none → s.dirFree < State.dirNeed (dirDims f.ctx f.layers) (dirDims c ls) → gives .figureModify s fun t =>
        passed s t sec ∧ coded s t 0x0502 ∧ t.figs = s.figs) ∧
      (check = none → State.dirNeed (dirDims f.ctx f.layers) (dirDims c ls) ≤ s.dirFree → gives .figureModify s fun t =>
        passed s t sec ∧ t.sdec.codes = s.sdec.codes ∧
        (∃ g, t.fig? id = some g ∧ g.slot = f.slot ∧ g.layers = ls.take c.layerCount ∧
          g.ctx = (if bitOf c.flags 1 then { c with depthKey := autoKey g.pmax.z } else c)) ∧
        ∀ i, i ≠ id → t.fig? i = s.fig? i)) ∧
    (∀ f code, s.fig? id = some f → applyModify mask body f = .error code → gives .figureModify s fun t => passed s t sec ∧ coded s t code ∧ t.figs = s.figs)

/-- R65, R68, R92, R112: TILE_UPDATE of a tile that a live Figure has takes the next parse ordinal and joins the updates in flight: a FILL straight to the writer, a coded tile on the lowest free of the 16 decoders; with all of them busy the parser stalls on it. A Figure that is not live gives 0x0604, a layer or tile that the Figure does not have 0x0605, fields out of range 0x0402. R104, R112, R114: TILE_DECODE_DONE frees the decoder and gives each update it held its texels, or failure where the payload does not decode; DECODER_FREE lets a stalled parser hand its tile to the lowest free decoder. -/
def Obligations.TileUpdates : Prop :=
  (∀ (s : State) (sec : Bytes), atSection s 5 sec →
      let id := fieldN sec 8 4
      let k := fieldN sec 12 1
      let tx := fieldN sec 14 2
      let ty := fieldN sec 16 2
      let fill := bitOf (fieldN sec 13 1) 0
      (tileFieldsOk sec = false → gives .tileUpdate s fun t => passed s t sec ∧ coded s t 0x0402 ∧ t.rrec = s.rrec) ∧
      (tileFieldsOk sec = true → s.fig? id = none → gives .tileUpdate s fun t => passed s t sec ∧ coded s t 0x0604 ∧ t.rrec = s.rrec) ∧
      (tileFieldsOk sec = true → ∀ f, s.fig? id = some f →
        ((f.layers[k]? = none ∨ (f.dirs[k]?).getD none = none ∨ ∃ l, f.layers[k]? = some l ∧ (l.tilesX ≤ tx ∨ l.tilesY ≤ ty)) → gives .tileUpdate s fun t =>
          passed s t sec ∧ coded s t 0x0605 ∧ t.rrec = s.rrec) ∧
        (∀ l d, f.layers[k]? = some l → (f.dirs[k]?).getD none = some d → tx < l.tilesX → ty < l.tilesY →
          (fill = true → gives .tileUpdate s fun t => passed s t sec ∧ t.sdec.ordinal = s.sdec.ordinal + 1 ∧ t.sdec.codes = s.sdec.codes ∧
            ∃ u, t.rrec.upds = s.rrec.upds ++ [u] ∧ u.ordinal = s.sdec.ordinal ∧ u.dir = d ∧ u.tx = tx ∧ u.ty = ty ∧ u.seq = fieldN sec 0x14 4 ∧
              u.result = .fill (fillTexel (BitVec.ofNat 128 (leNat (cut sec 0x24 16))))) ∧
          (fill = false → ∀ n, lowestFree 16 s.busyDecoders = some n → gives .tileUpdate s fun t =>
            passed s t sec ∧ t.sdec.ordinal = s.sdec.ordinal + 1 ∧ t.sdec.codes = s.sdec.codes ∧ t.sdec.stalled = none ∧
            ∃ u, t.rrec.upds = s.rrec.upds ++ [u] ∧ u.ordinal = s.sdec.ordinal ∧ u.dir = d ∧ u.tx = tx ∧ u.ty = ty ∧ u.decoder = some n ∧ u.result = .pending) ∧
          (fill = false → lowestFree 16 s.busyDecoders = none → gives .tileUpdate s fun t =>
            t.sdec.ordinal = s.sdec.ordinal + 1 ∧ t.rrec.upds = s.rrec.upds ∧ ∃ u, t.sdec.stalled = some u ∧ u.ordinal = s.sdec.ordinal ∧ u.dir = d ∧ u.tx = tx ∧ u.ty = ty)))) ∧
  ((∀ (s : State) (dec : Fin 16), s.die = .running → gives (.tileDecodeDone dec) s fun t =>
      (∀ u ∈ t.rrec.upds, u.decoder ≠ some dec.val) ∧ t.rrec.dirs = s.rrec.dirs ∧ t.rrec.slots = s.rrec.slots ∧
      ∀ i : Nat, ∀ u, s.rrec.upds[i]? = some u →
        (u.decoder ≠ some dec.val → t.rrec.upds[i]? = some u) ∧
        (u.decoder = some dec.val → ∀ ws, decodeTile u.flags u.qp u.payload = some ws → t.rrec.upds[i]? = some { u with decoder := none, result := .texels ws }) ∧
        (u.decoder = some dec.val → decodeTile u.flags u.qp u.payload = none → t.rrec.upds[i]? = some { u with decoder := none, result := .failed })) ∧
    ∀ (s : State) (u : TileUpd) (n : Nat), s.die = .running → s.sdec.stalled = some u → bitOf u.flags 0 = false → lowestFree 16 s.busyDecoders = some n →
      gives .decoderFree s fun t => t.sdec.stalled = none ∧ t.rrec.upds = s.rrec.upds ++ [{ u with decoder := some n }])

/-- R113, R114, R119, R121, R125, R126, R129: TILE_COMMIT of a finished update that no earlier one of its tile blocks. A failed decode is discarded with 0x0405, one not newer than the tile's version with 0x040A, and texels for which no slot is or will become free with 0x0501; each is counted and leaves the relief. A FILL or texels become the tile's version, with the update's ordinal and sequence number, and the update leaves the pipeline; the old version moves into the lowest free record where a frame in the pipeline keeps it. An update whose directory is gone is dropped and counted. A poisoned tile accepts any sequence number, and an uncorrectable read of the directory entry poisons the tile first, counted and logged. What the spec leaves to the model here: log entries 37, 119, 120, 121. -/
def Obligations.TileCommit : Prop :=
  ∀ (s : State) (u : TileUpd), s.die = .running → (s.rrec.upds.find? fun x => x.ordinal == u.ordinal) = some u → s.blocked u = false →
    let left : State → Prop := fun t => t.rrec.upds = s.rrec.upds.filter fun x => x.ordinal != u.ordinal
    (u.result = .failed → gives (.tileCommit u.ordinal false) s fun t =>
      left t ∧ t.sdec.codes = s.sdec.codes ++ [⟨u.key, 0x0405⟩] ∧ counts s t O.entropyErrorCount 1 ∧ t.rrec.dirs = s.rrec.dirs) ∧
    (∀ ue, u.result ≠ .failed → u.result ≠ .pending → s.dir? u.dir = none → gives (.tileCommit u.ordinal ue) s fun t =>
      left t ∧ counts s t O.lateCommitDroppedCount 1 ∧ t.rrec.dirs = s.rrec.dirs) ∧
    (u.result ≠ .failed → u.result ≠ .pending → ∀ d, s.dir? u.dir = some d →
      let cur := (d.entry u.tx u.ty).cur
      (cur.seqValid = true → cur.poisoned = false → newer32 u.seq cur.lastSeq = false → gives (.tileCommit u.ordinal false) s fun t =>
        left t ∧ t.sdec.codes = s.sdec.codes ++ [⟨u.key, 0x040A⟩] ∧ counts s t O.staleTileCount 1 ∧ t.rrec.dirs = s.rrec.dirs) ∧
      ((cur.seqValid = false ∨ cur.poisoned = true ∨ newer32 u.seq cur.lastSeq = true) →
        (∀ ws, u.result = .texels ws → s.freeSlot = none → s.slotsRetained = 0 → gives (.tileCommit u.ordinal false) s fun t =>
          left t ∧ t.sdec.codes = s.sdec.codes ++ [⟨u.key, 0x0501⟩] ∧ counts s t O.cacheFullCount 1 ∧ t.rrec.dirs = s.rrec.dirs) ∧
        (s.keeper d cur.ordinal u.ordinal = none →
          (∀ w, u.result = .fill w → gives (.tileCommit u.ordinal false) s fun t => left t ∧ counts s t O.tilesCommittedCount 1 ∧
            ∃ e, t.dir? u.dir = some e ∧ (e.entry u.tx u.ty).cur = { lastSeq := u.seq, ordinal := u.ordinal, seqValid := true, fill := some w }) ∧
          (∀ ws n, u.result = .texels ws → s.freeSlot = some n → gives (.tileCommit u.ordinal false) s fun t => left t ∧ counts s t O.tilesCommittedCount 1 ∧ (n, ws) ∈ t.rrec.slots ∧
            ∃ e, t.dir? u.dir = some e ∧ (e.entry u.tx u.ty).cur = { lastSeq := u.seq, ordinal := u.ordinal, seqValid := true, slot := some n })) ∧
        (∀ f i w, s.keeper d cur.ordinal u.ordinal = some f → s.freeRecord = some i → u.result = .fill w → gives (.tileCommit u.ordinal false) s fun t =>
          left t ∧ ∃ e, t.dir? u.dir = some e ∧ (e.entry u.tx u.ty).cur = { lastSeq := u.seq, ordinal := u.ordinal, seqValid := true, fill := some w } ∧
            (e.entry u.tx u.ty).older = { index := i, ver := cur, release := f } :: (d.entry u.tx u.ty).older)) ∧
      (∀ w, u.result = .fill w → s.keeper d 0 u.ordinal = none → gives (.tileCommit u.ordinal true) s fun t =>
        left t ∧ counts s t O.poisonedTileCount 1 ∧ logged s t (0x0503, [d.figId, d.layer, u.tx, u.ty]) ∧
        ∃ e, t.dir? u.dir = some e ∧ (e.entry u.tx u.ty).cur = { lastSeq := u.seq, ordinal := u.ordinal, seqValid := true, fill := some w }))

/-- R85, R86, R87, R88: FRAME_MARKER, while fewer than 2 binned frames wait. A marker of another length, or an ASAP one that names an epoch, is a bad section. An epoch not above the last one is refused with 0x0406, one more than 16,384 ahead with 0x0407, each with a MARKER_REFUSED entry and no frame. Any other closes a frame: it takes the next number, its tag and its epoch, an ASAP one the epoch of R86, and joins the waiting frames. What the spec leaves to the model here: log entry 34. -/
def Obligations.FrameMarkers : Prop :=
  ∀ (s : State) (sec : Bytes), atSection s 1 sec → s.adm.waiting.length < 2 → s.islandUp 8 = true →
    let asap := bitOf (fieldN sec 20 4) 0
    let named := fieldN sec 8 8
    let e := if asap then s.asapEpoch else named
    let wellFormed := sec.length = 28 ∧ (asap = true → named = 0)
    (¬ wellFormed → gives .frameMarker s fun t => passed s t sec ∧ coded s t 0x0402 ∧ t.adm = s.adm) ∧
    (wellFormed → ∀ l, s.sdec.lastEpoch = some l → e ≤ l → gives .frameMarker s fun t =>
      passed s t sec ∧ completes s t [(.markerRefused, 0x0406)] ∧ t.adm.waiting.map (·.number) = s.adm.waiting.map (·.number) ∧ t.sdec.frames = s.sdec.frames) ∧
    (wellFormed → (∀ l, s.sdec.lastEpoch = some l → l < e) →
      (s.rangeBase + 16384 < e → gives .frameMarker s fun t =>
        passed s t sec ∧ completes s t [(.markerRefused, 0x0407)] ∧ t.adm.waiting.map (·.number) = s.adm.waiting.map (·.number) ∧ t.sdec.frames = s.sdec.frames) ∧
      (e ≤ s.rangeBase + 16384 → gives .frameMarker s fun t =>
        passed s t sec ∧ t.sdec.frames = s.sdec.frames + 1 ∧ t.sdec.lastEpoch = some e ∧ t.sdec.ordinal = s.sdec.ordinal + 1 ∧
        t.adm.waiting.map (fun f => (f.number, f.tag, f.epoch)) = s.adm.waiting.map (fun f => (f.number, f.tag, f.epoch)) ++ [(s.sdec.frames + 1, fieldN sec 16 4, e)]))

/-- R192, R259, R332: ADM_TAKE_FRAME with the pending slot empty refuses the frame at the head at once in direct-frame mode (0x0105), in hold-up (0x1105), for a full bin (0x0602) and for a sub-bin of more than 48 tiles (0x0903), and else starts its pre-costing with the throttle, derating, clusters and budget then in force; PRE_COSTING_DONE refuses it where K exceeds E, with the code of the limiting resource, and else waits for residency; LATE_DATA refuses a frame not resident by its deadline with 0x0904. What the spec leaves to the model here: log entries 39, 40, 41. -/
def Obligations.AdmissionFirstSteps : Prop :=
  (∀ (s : State) (f : Frame) (rest : List Frame), s.die = .running → s.adm.waiting = f :: rest → s.adm.stage = .idle → s.adm.pending = none → s.islandUp 8 = true →
    (s.hif.direct = true → gives .admTakeFrame s fun t => refusedHead s t 0x0105) ∧
    (s.hif.direct = false → s.nat O.pwrHoldupState ≠ 0 → gives .admTakeFrame s fun t => refusedHead s t 0x1105) ∧
    (s.hif.direct = false → s.nat O.pwrHoldupState = 0 →
      (∀ b, f.bin.badBin = some b → gives .admTakeFrame s fun t => refusedHead s t 0x0602 ∧ shows t O.admLastBadBin b) ∧
      (f.bin.badBin = none → (∃ u ∈ f.bin.units, u.sub ≠ 255 ∧ 48 < u.n) → gives .admTakeFrame s fun t => refusedHead s t 0x0903) ∧
      (f.bin.badBin = none → (∀ u ∈ f.bin.units, u.sub = 255 ∨ u.n ≤ 48) → gives .admTakeFrame s fun t =>
        t.adm = { s.adm with stage := .preCosting (s.costIn f.bin.newBank (s.nat O.admThrottleNow) (s.nat O.admDerateNow)) (s.nat O.admDerateNow) }))) ∧
  (∀ (s : State) (f : Frame) (rest : List Frame) (i : CostIn) (rho : Nat), s.die = .running → s.adm.waiting = f :: rest → s.adm.stage = .preCosting i rho →
    (i.e < frameCost .full i f.bin.units → gives .preCostingDone s fun t => refusedHead s t (measureCode (limiting i f.bin.units))) ∧
    (frameCost .full i f.bin.units ≤ i.e → gives .preCostingDone s fun t => t.adm = { s.adm with stage := .waiting })) ∧
  ∀ (s : State) (f : Frame) (rest : List Frame), s.die = .running → s.adm.waiting = f :: rest → s.adm.stage = .waiting →
    (∀ r, f.residentAt = some r → deadlineAt f.tf f.epoch < (r : Int)) → gives .lateData s fun t => refusedHead s t 0x0904 ∧ deadlineAt f.tf f.epoch ≤ (t.ns : Int)

/-- R192, R195, R197, R239: FINAL_COSTING_START of a frame resident by its deadline fixes its bank, throttle, derating, clusters and budget, or refuses it with 0x0904 (late) or 0x0B07 (an epoch the grid change leaves behind). FINAL_COSTING_DONE admits the frame under that record where K is within E, its frame becoming the pending one, covered unless the promise is suspended, and refuses it over the budget, in direct-frame mode (0x0105) and in hold-up (0x1105). What the spec leaves to the model here: log entries 39, 41, 42. -/
def Obligations.AdmissionDecision : Prop :=
  (∀ (s : State) (f : Frame) (rest : List Frame) (r : Nat), s.die = .running → s.adm.waiting = f :: rest → s.adm.stage = .waiting → f.residentAt = some r →
    let nb := s.onNewBank f.number
    let late := deadlineAt f.tf f.epoch < (r : Int)
    let behind := nb = true ∧ s.cfg.changesTf = true ∧ f.epoch < s.cfg.erEpoch.getD 0
    (late → gives .finalCostingStart s fun t => refusedHead s t 0x0904) ∧
    (¬ late → behind → gives .finalCostingStart s fun t => refusedHead s t 0x0B07) ∧
    (¬ late → ¬ behind → f.bin.gen = s.genOf nb → f.bin.badBin = none → (∀ u ∈ f.bin.units, u.sub = 255 ∨ u.n ≤ 48) → gives .finalCostingStart s fun t =>
      t.adm.stage = .finalCosting (s.costIn nb (s.nat O.admThrottleNow) (s.nat O.admDerateNow)) (s.nat O.admDerateNow) (s.genOf nb) nb ∧ t.adm.waiting.map (·.number) = s.adm.waiting.map (·.number))) ∧
  ∀ (s : State) (f : Frame) (rest : List Frame) (i : CostIn) (rho gen : Nat) (nb : Bool), s.die = .running → s.adm.waiting = f :: rest → s.adm.stage = .finalCosting i rho gen nb →
    let k := frameCost .full i f.bin.units
    (i.e < k → gives .finalCostingDone s fun t => refusedHead s t (measureCode (limiting i f.bin.units))) ∧
    (k ≤ i.e → s.hif.direct = true → gives .finalCostingDone s fun t => refusedHead s t 0x0105) ∧
    (k ≤ i.e → s.hif.direct = false → s.nat O.pwrHoldupState ≠ 0 → gives .finalCostingDone s fun t => refusedHead s t 0x1105) ∧
    (k ≤ i.e → s.hif.direct = false → s.nat O.pwrHoldupState = 0 → gives .finalCostingDone s fun t =>
      (∃ g, t.adm.pending = some g ∧ g.number = f.number ∧ g.tag = f.tag ∧ g.epoch = f.epoch ∧ g.bin = f.bin ∧ g.covered = (s.nat O.admSuspendCauses == 0) ∧
        g.adm = { gen := gen, newBank := nb, throttle := i.l, derate := rho, budget := i.e, cost := k }) ∧
      t.adm.stage = .idle ∧ completes s t [(.admission, 0)] ∧ counts s t O.admAdmittedCount 1 ∧ shows t O.admLastCost k ∧ shows t O.admLastBudget i.e)

/-- R187: w_U is the larger of the render time r_U = ceil(16 (ceil(S/16) + m + 64) / (16 - l)), the staging read s_mem = ceil(3 b C / (2 G)) and the decode work 304 n, every division rounded up. -/
def Obligations.UnitCosts : Prop :=
  ∀ (i : CostIn) (u : RUnit), i.l < 16 → 0 < i.g →
    (∀ x, ceilDiv u.s 16 ≤ x ↔ u.s ≤ 16 * x) ∧
    (∀ x, unitRender i u ≤ x ↔ 16 * (ceilDiv u.s 16 + u.m + 64) ≤ (16 - i.l) * x) ∧
    (∀ x, unitMem i u ≤ x ↔ 3 * (16384 * (u.n - u.nOvl) + 4096 * u.nOvl + 320 * u.n + 2304 * u.f) * i.c ≤ 2 * i.g * x) ∧
    unitCost .full i u = max (unitRender i u) (max (unitMem i u) (304 * u.n))

/-- R188, R194: K is the unit costs' sum over C, rounded up, plus twice the largest and 8,192; the offending unit is the first at which K of the units up to and with it exceeds E; a frame at the end of its pre-costing fits, and goes on, exactly if K is at most E. -/
def Obligations.FrameCosts : Prop :=
  (∀ (m : Measure) (i : CostIn) (us : List RUnit), 0 < i.c →
    (∀ x, frameCost m i us ≤ x + 2 * (us.map (unitCost m i)).foldl max 0 + 8192 ↔ (us.map (unitCost m i)).sum ≤ i.c * x) ∧
    (∀ u, offending m i us 0 0 = some u ↔
      ∃ j, us[j]? = some u ∧ i.e < frameCost m i (us.take (j + 1)) ∧ ∀ k, k < j → frameCost m i (us.take (k + 1)) ≤ i.e) ∧
    (offending m i us 0 0 = none ↔ ∀ j, j < us.length → frameCost m i (us.take (j + 1)) ≤ i.e)) ∧
  ∀ (s : State) (f : Frame) (fs : List Frame) (i : CostIn) (rho : Nat), s.die = .running → s.adm.waiting = f :: fs → s.adm.stage = .preCosting i rho →
    gives .preCostingDone s fun t => t.adm.stage = .waiting ↔ frameCost .full i f.bin.units ≤ i.e

/-- R168, R169, R170: UNIT_DISPATCH gives the next unit to the lowest-numbered cluster of an enabled, running island whose next slot is empty; UNIT_STAGING_DONE makes that unit ready with its layer constants and the tiles of its footprint, and, where the cluster has no current unit, current; UNIT_RENDER_START, in the window, starts the current unit; UNIT_RENDER_DONE marks it written, leaves its results in the result buffer and makes a staged next unit current; every byte of HBM outside the lines of the unit's rectangle and their line CRC entries, in the buffer of the RENDER role, is as before. What the spec leaves to the model here: log entry 52. -/
def Obligations.Units : Prop :=
  (∀ (s : State) (f : Frame) (c : Nat), s.die = .running → s.stagingFrame = some f → f.captureRun = none → s.capturing = false → s.rse.frame = some f.number →
    let takes : Nat → Prop := fun k => k / 8 ∈ s.rseIslands f.adm.newBank ∧ s.islandUp (9 + k / 8) = true ∧ (s.rse.clusters.getD k {}).next = none
    s.rse.nextUnit < f.bin.units.length → c < s.rse.clusters.length → takes c → (∀ k, k < c → ¬ takes k) → gives .unitDispatch s fun t =>
      t.rse.nextUnit = s.rse.nextUnit + 1 ∧ (t.rse.clusters.getD c {}).next = some { unit := s.rse.nextUnit } ∧
      (t.rse.clusters.getD c {}).cur = (s.rse.clusters.getD c {}).cur ∧ ∀ k, k ≠ c → t.rse.clusters.getD k {} = s.rse.clusters.getD k {}) ∧
  (∀ (s : State) (f : Frame) (c : Fin 64) (st : Staged) (u : RUnit) (tileUe : List (Nat × TileUe)) (figUe : List (Nat × Nat)) (ce : List Nat) (store : List EccHit), s.die = .running → s.stagingFrame = some f →
    s.rse.frame = some f.number → c.val < s.rse.clusters.length → (s.rse.clusters.getD c {}).next = some st → st.ready = false → f.bin.units[st.unit]? = some u →
    gives (.unitStagingDone c tileUe figUe store ce) s fun t => ∃ st',
      ((s.rse.clusters.getD c {}).cur = none → (t.rse.clusters.getD c {}).cur = some st' ∧ (t.rse.clusters.getD c {}).next = none) ∧
      ((s.rse.clusters.getD c {}).cur ≠ none → (t.rse.clusters.getD c {}).cur = (s.rse.clusters.getD c {}).cur ∧ (t.rse.clusters.getD c {}).next = some st') ∧
      st'.unit = st.unit ∧ st'.ready = true ∧ st'.started = st.started ∧ st'.consts = unitConsts f u ∧
      st'.omitted = figUe.filterMap (fun i => u.figs[i.1]?) ∧ st'.tiles.map (·.1) = s.unitTiles f u ∧ ∀ k, k ≠ c.val → t.rse.clusters.getD k {} = s.rse.clusters.getD k {}) ∧
  (∀ (s : State) (f : Frame) (c : Fin 64) (st : Staged), s.die = .running → s.adm.rendering = some f → s.rse.frame = some f.number → c.val < s.rse.clusters.length →
    s.islandUp (9 + c / 8) = true → (s.rse.clusters.getD c {}).cur = some st → st.started = false →
    gives (.unitRenderStart c) s fun t => t.rse.clusters.getD c {} = { s.rse.clusters.getD c {} with cur := some { st with started := true } } ∧ ∀ k, k ≠ c.val → t.rse.clusters.getD k {} = s.rse.clusters.getD k {}) ∧
  ∀ (s : State) (f : Frame) (c : Fin 64) (st : Staged) (u : RUnit) (b : Nat) (store : List EccHit) (calUe : List Nat), s.die = .running → s.adm.rendering = some f → c.val < s.rse.clusters.length →
    (s.rse.clusters.getD c {}).cur = some st → st.started = true → s.bufIn .render = some b → f.bin.units[st.unit]? = some u → gives (.unitRenderDone c store calUe) s fun t =>
      t.rse.written = s.rse.written ++ [st.unit] ∧ (∀ k, k ≠ c.val → t.rse.clusters.getD k {} = s.rse.clusters.getD k {}) ∧
      (∀ n, (s.rse.clusters.getD c {}).next = some n → n.ready = true → (t.rse.clusters.getD c {}).cur = some n ∧ (t.rse.clusters.getD c {}).next = none) ∧
      ((∀ n, (s.rse.clusters.getD c {}).next = some n → n.ready = false) → (t.rse.clusters.getD c {}).cur = none ∧ (t.rse.clusters.getD c {}).next = (s.rse.clusters.getD c {}).next) ∧
      (∃ vs, (t.rse.clusters.getD c {}).results.head? = some (st.unit, vs)) ∧
      (0 < s.natB f.adm.newBank O.headHActive → ∀ a, (∀ y h, u.rect.y0 ≤ y → y < u.rect.y1 → h < s.natB f.adm.newBank O.headCount → outsideLine s f.adm.newBank b y h a) →
        memGet t.hbm a = memGet s.hbm a)

/-- R33, R34, R36, R40: RENDER_WINDOW_OPEN, at T - Tf, lets the pending frame render into a FREE buffer, which takes the RENDER role; while reference capture is STARTING or ON with no frame pending it writes the pattern frame into it, and no byte of HBM outside the lines and line CRC entries of that buffer. RENDER_WINDOW_CLOSE, at T - 0.5 ms, commits a complete buffer and puts its address up for the next latch point; an incomplete frame is discarded with a PRESENTED entry of 0x0801, its buffer FREE. Either way the frame has left the ray engine. What the spec leaves to the model here: log entries 44, 52. -/
def Obligations.RenderWindow : Prop :=
  (∀ (s : State) (f : Frame) (b : Nat), s.die = .running → s.adm.rendering = none → s.adm.pending = some f → s.bufIn .render = none → s.hif.direct = false →
    s.bufIn .free = some b → s.capturing = false → s.nat O.captureState ≠ 3 → gives .renderWindowOpen s fun t =>
      t.scan.bufs[b]? = some { role := .render, frame := some f } ∧ t.adm.rendering = some f ∧ t.adm.pending = none ∧ t.rse.frame = some f.number ∧
      windowOpenAt f.tf f.epoch ≤ (t.ns : Int) ∧ t.hbm = s.hbm) ∧
  (∀ (s : State) (b : Nat), s.die = .running → s.adm.rendering = none → s.adm.pending = none → s.bufIn .render = none → s.hif.direct = false →
    s.bufIn .free = some b → s.capturing = true → s.nat O.captureState ≠ 3 → gives .renderWindowOpen s fun t =>
      (t.scan.bufs[b]?.map (·.role)) = some .render ∧ t.rse.pattern = true ∧ t.rse.frame = none ∧ t.adm.rendering = none ∧
      (0 < s.nat O.headHActive → ∀ a, (∀ y h, y < s.nat O.headVActive → h < s.nat O.headCount → outsideLine s false b y h a) → memGet t.hbm a = memGet s.hbm a)) ∧
  ∀ (s : State) (f : Frame) (b : Nat), s.die = .running → s.bufIn .render = some b → (s.scan.bufs.getD b {}).frame = some f → s.rse.pattern = false → f.number ≠ 0 →
    (f.bin.units.length ≤ s.rse.written.length → gives .renderWindowClose s fun t =>
      t.scan.bufs[b]? = some { role := .committed, frame := some { f with warn := s.hif.warnRender } } ∧ (∃ p, t.scan.pend = some p ∧ p.a = bufBase b) ∧ t.adm.rendering = none ∧ t.rse.frame = none ∧
      State.epochAt f.tf f.epoch - 500000 ≤ t.ns) ∧
    (s.rse.written.length < f.bin.units.length → gives .renderWindowClose s fun t =>
      t.scan.bufs[b]? = some {} ∧ t.scan.pend = s.scan.pend ∧ t.adm.rendering = none ∧ t.rse.frame = none ∧ counts s t O.rseOverrunCount 1 ∧
      completes s t [(.presented, 0x0801)])

/-- R42, R232, R240: LATCH_POINT, while the timing generator runs, makes the pending pair active at line V_TOTAL - 1 of the frame before the next epoch, and binds an armed swap to the first frame that has not left admission. R33, R229, R230, R326: EPOCH with a head ON, no swap bound and no step requested: the epoch is taken, line 0 leaves, the phase error is shown and EPOCH is set in IRQ_STATUS. A committed frame whose epoch has come and whose address is active takes the SCAN role; the SCAN buffer is then HOLD where its frame may be kept, else FREE, and the HOLD buffer FREE. What the spec leaves to the model here: log entries 53, 54, 58. -/
def Obligations.LatchAndEpoch : Prop :=
  (∀ s : State, s.die = .running → s.genRuns = true → s.cfg.blank = false → gives .latchPoint s fun t =>
      s.tEpoch s.upcoming - s.lineNs ≤ t.ns ∧ t.scan.line = s.nat O.headVTotal - 1 ∧ t.scan.pend = none ∧
      (∀ p, s.scan.pend = some p → t.scan.active = p) ∧ (s.scan.pend = none → t.scan.active = s.scan.active) ∧
      (s.nat O.cfgSwapState = 2 → t.nat O.cfgSwapState = 3)) ∧
  (∀ (s : State) (e : Int), s.die = .running → s.headState 0 = 2 → 1 ≤ s.nat O.headCount → s.cfg.blank = false → s.nat O.cfgSwapState ≠ 3 → s.tim.step = none →
      s.scan.idleUntil = none → s.scan.running = true → e.natAbs ≤ 1000 → gives (.epoch e) s fun t =>
        t.clk.epoch = s.upcoming ∧ s.tEpoch s.upcoming ≤ t.ns ∧ t.scan.running = true ∧ t.scan.line = 0 ∧ bitOf t.hif.irqStatus 4 = true ∧
        t.int O.scanPhaseError = e ∧
        (∀ b, s.bufIn .committed = some b → ∀ f, (s.scan.bufs.getD b {}).frame = some f → f.epoch ≤ s.upcoming → s.scan.active.a = bufBase b →
          t.scan.bufs.map (·.role) = ((s.scan.bufs.map (State.rolled s.scanKept)).set b { role := .scan }).map (·.role)) ∧
        (s.bufIn .committed = none → t.scan.bufs.map (·.role) = s.scan.bufs.map (·.role)))

/-- R228, R231, R235, R236, R273: SCAN_LINE sends the line that is due to every slot that both heads feed, an active line as its stripes on the lanes that carry the logical lanes, another as LINE_START, and moves to the next line, memory unchanged; the last active line ends a first scan. Counters that differ at its end, and a resync that was due, send ABORT to the partners of the masks and idle the heads until the epoch of the resync. UNDERRUN sends ABORT to them, is counted and logged as 0x0B01 with the head, the line and the level, empties the FIFO, and the heads idle until the next epoch. What the spec leaves to the model here: log entry 56. -/
def Obligations.ScanLines : Prop :=
  let scans : State → Prop := fun s => s.die = .running ∧ s.scan.running = true ∧ s.cfg.blank = false ∧ s.scan.line < s.nat O.headVTotal
  let goesOn : State → Prop := fun s => s.scan.idleUntil = none ∧ s.scan.resync = none
  let feeds : State → Nat → Nat → Prop := fun s h n => h < 2 ∧ s.headSends h = true ∧ n ∈ s.maskedSlots h ∧ (s.slot n).fed = true ∧ (s.slot n).blankNext = false ∧ (s.slot n).spare = none
  (∀ (s : State) (ueA ueB ce : List Nat), scans s → s.anySends = true → goesOn s →
    gives (.scanLine ueA ueB false ce) s (fun t =>
      t.scan.line = s.scan.line + 1 ∧ t.hbm = s.hbm ∧ s.scan.lineZeroAt + s.scan.line * s.linePeriod false / 1000 ≤ t.ns ∧ t.scan.idleUntil = none ∧
      (s.scan.line + 1 = s.nat O.headVActive → t.scan.firstScan = false)) ∧
    gives (.scanLine ueA ueB true ce) s (fun t =>
      t.scan.line = s.scan.line + 1 ∧ t.scan.idleUntil.isSome = true ∧ t.scan.resync = none ∧ t.scan.firstScan = false ∧ counts s t O.scanResyncCount 1 ∧ t.hbm = s.hbm ∧
      logged s t (0x0B09, [s.scan.line]))) ∧
  (∀ (s : State) (ueA ueB ce : List Nat) (h n L j : Nat), scans s → goesOn s → feeds s h n → s.scan.line < s.nat O.headVActive → s.scan.blankUntilNew = false →
    L < 4 → j < 5 → (s.slot n).logical.getD L none = some j → gives (.scanLine ueA ueB false ce) s fun t =>
      ∃ bs, Out.lane (s.laneNo n j) bs ∈ t.out ∧ bs.length = segStripes (s.nat O.bitsPerSubpixel) (fieldN (s.regionOf false n) 2 2) + 2) ∧
  (∀ (s : State) (ueA ueB ce : List Nat) (h n : Nat), scans s → goesOn s → feeds s h n → s.nat O.headVActive ≤ s.scan.line ∨ s.scan.blankUntilNew = true →
    gives (.scanLine ueA ueB false ce) s fun t => Out.panel n (.control (s.lineStart s.scan.line).2) ∈ t.out) ∧
  (∀ (s : State) (ueA ueB ce : List Nat) (desync : Bool) (k code : Nat), scans s → s.anySends = true → s.scan.idleUntil = some k → s.scan.resync = some code →
    gives (.scanLine ueA ueB desync ce) s fun t =>
      t.scan.line = s.scan.line + 1 ∧ t.scan.idleUntil = some k ∧ t.scan.resync = none ∧ t.scan.firstScan = false ∧ t.hbm = s.hbm) ∧
  (∀ (s : State) (ueA ueB ce : List Nat) (desync : Bool) (h n : Nat), scans s → (goesOn s ∧ desync = true ∨ s.scan.idleUntil.isSome = true ∧ s.scan.resync.isSome = true) →
    h < 2 → s.headSends h = true → n ∈ s.readySlots h → gives (.scanLine ueA ueB desync ce) s fun t => Out.panel n (.control (abortBlock s.scan.line s.frameLo).2) ∈ t.out) ∧
  ∀ (s : State) (h : Fin 2) (level : Nat), scans s → s.headSends h = true → (s.scan.idleUntil = none ∨ s.scan.resync ≠ none) → s.scan.line < s.nat O.headVActive →
    gives (.underrun h level) s (fun t =>
      t.scan.idleUntil = some (max (s.clk.epoch + 1) (s.scan.idleUntil.getD 0)) ∧ t.scan.firstScan = false ∧ t.scan.fifo = [] ∧ t.scan.running = true ∧ t.hbm = s.hbm ∧
      counts s t O.scanUnderrunCount 1 ∧ logged s t (0x0B01, [h.val, s.scan.line, level])) ∧
    ∀ g n, g < 2 → s.headSends g = true → n ∈ s.readySlots g → gives (.underrun h level) s fun t => Out.panel n (.control (abortBlock s.scan.line s.frameLo).2) ∈ t.out

/-- R376, R377, R379: SWAP_VALIDATION_DONE arms the swap with what it changes where every group of checks passes, else refuses it with the first failing code, logged as 0x1501, and releases Maquette. SWAP_COPY_DONE ends the copy: Maquette equals Cast, and Cast is as it was. What the spec leaves to the model here: log entry 62. -/
def Obligations.SwapSteps : Prop :=
  (∀ s : State, s.die = .running → s.nat O.cfgSwapState = 1 → s.cfg.copying = false →
    (s.checkSwap = 0 → gives .swapValidationDone s fun t =>
      t.nat O.cfgSwapState = 2 ∧ t.nat O.cfgSwapResult = 0 ∧ t.cfg.retrain = s.retrains ∧ t.cfg.changesTf = s.tfChanges ∧ t.cfg.requester = none ∧ t.cast = s.cast ∧ t.maq = s.maq) ∧
    (s.checkSwap ≠ 0 → gives .swapValidationDone s fun t =>
      t.nat O.cfgSwapState = 0 ∧ shows t O.cfgSwapResult s.checkSwap ∧ t.cfg.requester = none ∧ t.cast = s.cast ∧ t.maq = s.maq ∧ logged s t (0x1501, [s.checkSwap]))) ∧
  ∀ s : State, s.die = .running → s.cfg.copying = true → s.cfg.waiting = [] → gives .swapCopyDone s fun t =>
    t.maq = s.cast ∧ t.cast = s.cast ∧ t.cfg.copying = false ∧ t.obj = s.obj

/-- R148, R150, R381: the stores. CFG_STORE_BEGIN and PATINA_STORE_BEGIN start to write while the NOR window is open; CFG_STORE_DONE and PATINA_STORE_DONE of a good read-back leave the configuration with its generation, and the Patina with the next generation in the target slot; a first failure repeats the write, a second ends it as FAILED with 0x1506 or 0x0708. What the spec leaves to the model here: log entries 48, 64. -/
def Obligations.Stores : Prop :=
  (∀ s : State, s.die = .running → s.atlRuns = true → s.flag O.thmNorWindow = true →
    (s.nat O.cfgStoreState = 1 → gives .cfgStoreBegin s fun t => t.nat O.cfgStoreState = 2 ∧ t.nor = s.nor) ∧
    (s.nat O.patinaStoreState = 1 → 2 ≤ s.nor.patina.length → gives .patinaStoreBegin s fun t =>
      t.nat O.patinaStoreState = 2 ∧ t.nor.config = s.nor.config ∧
      (∀ b, patinaBest s = some b → t.atl.patinaTarget = 1 - b.1 ∧ t.nor.patina[1 - b.1]? = some { data := latticeBytes s.atl.patinaImage, record := [] }) ∧
      (patinaBest s = none → t.atl.patinaTarget = 0))) ∧
  ∀ s : State, s.die = .running → s.atlRuns = true →
    (s.nat O.cfgStoreState = 2 →
      gives (.cfgStoreDone false) s (fun t => t.nat O.cfgStoreState = 3 ∧ t.nor = { s.nor with config := some (s.atl.configGen, s.atl.configImage), old := { s.nor.old with config := s.nor.config } } ∧ shows t O.cfgStoredGeneration s.atl.configGen) ∧
      (s.atl.storeTries = 0 → gives (.cfgStoreDone true) s fun t => t.nat O.cfgStoreState = 2 ∧ t.atl.storeTries = 1 ∧ t.nor = s.nor) ∧
      (s.atl.storeTries ≠ 0 → gives (.cfgStoreDone true) s fun t => t.nat O.cfgStoreState = 4 ∧ t.nor = s.nor ∧ logs s t [(0x1506, [])])) ∧
    (s.nat O.patinaStoreState = 2 →
      gives (.patinaStoreDone false) s (fun t => t.nat O.patinaStoreState = 3 ∧ shows t O.patinaGeneration (1 + ((patinaBest s).map (·.2)).getD 0) ∧
        (s.atl.patinaTarget < s.nor.patina.length → ∃ x, t.nor.patina[s.atl.patinaTarget]? = some x ∧ patinaValid s x = true ∧ x.data = latticeBytes s.atl.patinaImage)) ∧
      (s.atl.patinaTries = 0 → gives (.patinaStoreDone true) s fun t => t.nat O.patinaStoreState = 2 ∧ t.atl.patinaTries = 1 ∧ t.nor = s.nor) ∧
      (s.atl.patinaTries ≠ 0 → gives (.patinaStoreDone true) s fun t => t.nat O.patinaStoreState = 4 ∧ t.nor = s.nor ∧ logs s t [(0x0708, [])]))

/-- R352, R353, R354, R355: the messages of a PTP slot. ANNOUNCE_RX of the only master heard makes the slot MEASURING with that master and its statistics cleared. SYNC_RX of the master waits for its Follow_Up under two-step, beside those that wait already, and is used at once under one-step; FOLLOW_UP_RX, within 1 s, uses the Sync that waits for it and drops the older ones: the sample is the corrected master time against the receive timestamp, the last 16 kept. DELAY_REQ_SEND sends with the next sequence ID, to the master alone where ptp_delay_req_unicast says so, DELAY_RESP_RX of that request adds the delay of R354, the last 8 kept, and PDELAY_REQ_RX is answered by Pdelay_Resp and its Follow_Up. R356, R357, R358: DOMAIN_LOST leaves the slot in LISTENING with no master, counted and logged as 0x0301; DOMAIN_REVERT, once the preferred slot has been TRACKING for time_revert_s, selects it, logged as 0x0303; TIME_RATE_STEP moves time_rate towards the target by at most 10 ppm/s each millisecond and passes the rate to PLL_SCAN. What the spec leaves to the model here: log entries 59, 81, 82, 83. -/
def Obligations.PtpMessagesAndDomains : Prop :=
  (∀ (s : State) (d : Fin 2), s.die = .running → s.tim.slots.length = 2 →
      (∀ a : Announce, s.ptpMatches d a.msg = true → a.steps < 255 → (s.ptp d).master = none →
        ((s.ptp d).heard = [] ∧ s.nat (O.ptpProfile d) = 1 ∨ (s.ptp d).heard.length = 1 ∧ ∀ old ∈ (s.ptp d).heard, old.ann.msg.source = a.msg.source ∧
          (s.reach a.msg.stamp).ns ≤ old.heardAt + 4 * intervalNs a.msg.interval) →
        gives (.announceRx d a) s fun t => t.nat (O.ptpState d) = 2 ∧ (t.ptp d).master = some a.msg.source ∧ (t.ptp d).gm = a.gmIdentity ∧
          (t.ptp d).used = 0 ∧ (t.ptp d).samples = [] ∧ (t.ptp d).delays = [] ∧ t.oct (O.ptpMasterPort d) = a.msg.source ∧ t.oct (O.ptpGmIdentity d) = a.gmIdentity) ∧
      (∀ m : PtpMsg, s.ptpMatches d m = true → (s.ptp d).master = some m.source →
        ((s.ptp d).lastUsed = none ∨ ∃ l, (s.ptp d).lastUsed = some l ∧ 1 ≤ (m.seq + 65536 - l) % 65536 ∧ (m.seq + 65536 - l) % 65536 ≤ 32767) →
        gives (.syncRx d m) s fun t => max s.ns m.stamp ≤ t.ns ∧
          (m.twoStep = true → (t.ptp d).waiting = ((s.ptp d).waiting.filter fun w => w.seq != m.seq && t.ns ≤ w.stamp + 1000000000) ++ [m] ∧
            (t.ptp d).samples = (s.ptp d).samples ∧ (t.ptp d).lastUsed = (s.ptp d).lastUsed) ∧
          (m.twoStep = false → (t.ptp d).lastUsed = some m.seq ∧
            (t.ptp d).samples = (((m.origin : Int) * 65536 + m.correction + s.asym d, s.rxStamp d m.stamp) :: (s.ptp d).samples).take 16)) ∧
      (∀ m w : PtpMsg, s.ptpMatches d m = true → (s.ptp d).waiting.find? (fun x => x.seq == m.seq && x.source == m.source) = some w → freshSeq (s.ptp d).lastUsed w.seq = true →
        (s.reach m.stamp).ns ≤ w.stamp + 1000000000 → gives (.followUpRx d m) s fun t => (t.ptp d).lastUsed = some m.seq ∧
          (t.ptp d).waiting = ((s.ptp d).waiting.filter fun x => x.source == m.source && freshSeq (some m.seq) x.seq) ∧
          (t.ptp d).samples = (((m.origin : Int) * 65536 + (w.correction + m.correction) + s.asym d, s.rxStamp d w.stamp) :: (s.ptp d).samples).take 16) ∧
      (∀ stamp : Nat, s.ptpUp d = true → (s.nat (O.ptpDelayMech d) = 1 ∨ (s.ptp d).master.isSome = true) →
        gives (.delayReqSend d stamp) s fun t => (t.ptp d).sent = some ((s.ptp d).reqSeq, stamp) ∧ (t.ptp d).reqSeq = ((s.ptp d).reqSeq + 1) % 65536 ∧
          (portClear s (s.nat (O.ptpPort d)) → sendsPtp s t d (if s.nat (O.ptpDelayMech d) = 1 then 2 else 1) (s.ptp d).reqSeq)) ∧
      (∀ (m : PtpMsg) (stamp : Nat), s.ptpMatches d m = true → m.mine = true → (s.ptp d).sent = some (m.seq, stamp) →
        (s.nat (O.ptpDelayMech d) = 1 → gives (.delayRespRx d m) s fun t => (t.ptp d).sent = none ∧
          (t.ptp d).delays = (rhe (s.rxStamp d m.stamp - s.txStamp d stamp - m.correction) 2 :: (s.ptp d).delays).take 8) ∧
        (∀ t1 t2 rest, s.nat (O.ptpDelayMech d) = 0 → (s.ptp d).samples = (t1, t2) :: rest → gives (.delayRespRx d m) s fun t => (t.ptp d).sent = none ∧
          (t.ptp d).delays = (rhe (t2 - (t1 - s.asym d) + ((m.origin : Int) * 65536 - s.txStamp d stamp) - m.correction) 2 :: (s.ptp d).delays).take 8)) ∧
      ∀ m : PtpMsg, s.ptpMatches d m = true → s.nat (O.ptpDelayMech d) = 1 → gives (.pdelayReqRx d m) s fun t =>
        t.tim.slots = s.tim.slots ∧ (portClear s (s.nat (O.ptpPort d)) → sendsPtp s t d 3 m.seq ∧ sendsPtp s t d 4 m.seq)) ∧
  ((∀ (s : State) (d : Fin 2) (a : Announce), s.die = .running → s.tim.slots.length = 2 → (s.ptp d).ann = some a → gives (.domainLost d) s fun t =>
      t.nat (O.ptpState d) = 1 ∧ (t.ptp d).master = none ∧ (t.ptp d).samples = [] ∧ t.oct (O.ptpMasterPort d) = zeros 10 ∧ counts s t (O.ptpLostCount d) 1 ∧
      min ((s.ptp d).syncAt + 3 * intervalNs (s.ptp d).syncInterval) ((s.ptp d).annAt + 3 * intervalNs a.msg.interval) ≤ t.ns ∧ logged s t (0x0301, [d.val])) ∧
    (∀ s : State, s.die = .running → s.nat O.timePreferredDomain ≤ 1 → s.selected = some (1 - s.nat O.timePreferredDomain) →
      s.nat (O.ptpState (s.nat O.timePreferredDomain)) = 3 → s.nat O.timeRevertS ≠ 0 → gives .domainRevert s fun t =>
        t.selected = some (s.nat O.timePreferredDomain) ∧ t.nat O.timeState = 1 ∧
        (s.ptp (s.nat O.timePreferredDomain)).trackSince + s.nat O.timeRevertS * 1000000000 ≤ t.ns ∧
        logs s t [(0x0303, [1 - s.nat O.timePreferredDomain, s.nat O.timePreferredDomain])]) ∧
    ∀ s : State, s.die = .running → s.tim.adjust = none → (s.int O.timeRate).natAbs ≤ rateMax.natAbs → s.tim.target.natAbs ≤ rateMax.natAbs → gives .timeRateStep s fun t =>
      t.int O.timeRate = s.int O.timeRate + clampI (-2814750) 2814750 (s.tim.target - s.int O.timeRate) ∧ t.tim = s.tim ∧ t.scan.pllRate = t.int O.timeRate)

/-- R340 to R347, R389, R392: the ports. ETH_FRAME_RX of a service frame puts its bytes into the buffer at the head of queue 3, cut off with 0x0208 where the buffer is shorter, writes the descriptor back, advances the head and counts the frame; a frame that is too long, or whose VLAN differs, is dropped. ETH_FRAME_TX sends the frame of the next descriptor, in the order 0, 1, 3, 2, from the port's MAC address with its VLAN tag, or gives it back with 0x0201 while no link is up. PORT_LINK_CHANGE, DHCP_RETRY and HEARTBEAT_RECEIVED log their codes; VIPEX_HEARTBEAT queues one HEARTBEAT to vipex_heartbeat_addr and UDP port 48005 on each port that is ON with an address of the family. What the spec leaves to the model here: log entries 85, 86, 127, 128. -/
def Obligations.PortFrames : Prop :=
  (∀ (s : State) (f : RxFrame), s.die = .running → memOk s.hbm = true → s.nat (O.portState f.port) = 2 → f.fcsOk = true → f.dstOk = true →
    (∀ addr len, f.length ≤ s.nat (O.portMtu f.port) → (s.nat (O.portVlan f.port) = 0 ∨ f.vlan = s.nat (O.portVlan f.port)) → f.fragment = false → f.checksumsOk = true →
      s.ptpWanted f = false → f.udpPort ≠ some 48005 → f.udpPort ≠ some 48006 → f.service = true → f.conflict = none → f.lease = none → f.buf = some (addr, len) →
      gives (.ethFrameRx f) s fun t => counts s t (O.portRxFrames f.port) 1 ∧
        (∀ a, memGet t.hbm a = if addr ≤ a ∧ a < addr + min len f.frame.length then f.frame.getD (a - addr) 0#8 else memGet s.hbm a) ∧
        (∃ wb, t.out = .ethWb f.port 3 true wb :: s.out ∧ wb.take 4 = leBytes 2 f.frame.length ++ leBytes 2 (if len < f.frame.length then 0x0208 else 0)) ∧
        logs s t (if len < f.frame.length then [(0x0208, [f.port.val])] else []) ∧
        (f.port.val < s.tim.ports.length → 3 < (s.tim.ports.getD f.port {}).rxRing.length →
          ((t.tim.ports.getD f.port {}).rxRing.getD 3 {}).head = ((s.tim.ports.getD f.port {}).rxRing.getD 3 {}).head + 1)) ∧
    (s.nat (O.portMtu f.port) < f.length ∨ s.nat (O.portVlan f.port) ≠ 0 ∧ f.vlan ≠ s.nat (O.portVlan f.port) → gives (.ethFrameRx f) s fun t =>
      counts s t (O.portRxFrames f.port) 1 ∧ counts s t (O.portRxDropped f.port) 1 ∧ t.hbm = s.hbm ∧ t.out = s.out)) ∧
  ∀ (s : State) (p : Fin 3), s.die = .running →
    (∀ (q : Nat) (x : TxDesc), s.nat (O.portState p) = 2 → nextTx (s.tim.ports.getD p {}) = some (q, x) → 60 ≤ x.len → x.len ≤ s.nat (O.portMtu p) + 18 →
      gives (.ethFrameTx p) s fun t => (t.tim.ports.getD p {}).tx.getD q [] = ((s.tim.ports.getD p {}).tx.getD q []).tail ∧
        (s.nat (O.portLink p) ≠ 0 → counts s t (O.portTxFrames p) 1 ∧ ∃ wb, t.out = .ethWb p q false wb :: .eth p q (s.macOf p) (s.vlanTag p x.body) x.dest x.body :: s.out) ∧
        (s.nat (O.portLink p) = 0 → logs s t [(0x0201, [p.val])] ∧ ∃ wb, t.out = .ethWb p q false wb :: s.out)) ∧
    (∀ link : Nat, link ≤ 3 → s.nat (O.portState p) ≠ 0 → gives (.portLinkChange p link) s fun t => t.nat (O.portLink p) = link ∧
      logs s t (if s.nat (O.portLink p) = 0 ∧ link ≠ 0 then [(0x0202, [p.val])] else if s.nat (O.portLink p) ≠ 0 ∧ link = 0 then [(0x0201, [p.val])] else [])) ∧
    (s.nat (O.portState p) = 2 → s.nat (O.ipv4Mode p) = 2 → (s.tim.ports.getD p {}).lease = none → gives (.dhcpRetry p) s fun t =>
      logs s t [(0x0205, [p.val])] ∧ shows t (O.portLastStatus p) 0x0205) ∧
    (s.nat (O.portState p) = 2 → s.dict.conflictAt = none → gives (.heartbeatReceived p (s.nat O.vipexNodeId) true) s fun t =>
      logs s t [(0x1612, [s.nat O.vipexNodeId])] ∧ shows t O.dictLastStatus 0x1612 ∧ t.dict.conflictAt = some s.clk.now) ∧
    (s.nat O.vipexHeartbeatMs ≠ 0 → (s.oct O.vipexHeartbeatAddr).all (· == 0) = false → s.tim.ports.length = 3 → (∀ n ∈ s.tim.ports, n.tx.length = 4) →
      gives .vipexHeartbeat s fun t => ∃ l : List TxDesc, (t.tim.ports.getD p {}).tx.getD 1 [] = (s.tim.ports.getD p {}).tx.getD 1 [] ++ l ∧
        l.length = (if s.nat (O.portState p) = 2 ∧ s.hasFamily p (s.oct O.vipexHeartbeatAddr) = true then 1 else 0) ∧
        ∀ x ∈ l, x.dest = some (s.oct O.vipexHeartbeatAddr, 48005) ∧ ∃ m, x.body = .vipex m ∧ fieldN m 3 1 = 0x10 ∧ fieldN m 6 2 = 0xFFF)

/-- R298, R299, R304, R305, R308, R310: the commands of the ring that draw nothing. RASP_RING_TAIL hands entries over, or is ignored and logged as 0x0E01 where TAIL lies past the ring. NOP completes; FENCE writes its value to RASP_FENCE and raises the Rasp cause where it asks; PUBLISH for an epoch is accepted, and completes at once, and is counted, where no catch-up runs, or is refused as out of order (0x0E05) or late (0x0E04). An invalid entry goes to RASP_STATUS with its code and is counted; one whose read met an uncorrectable error is refused with 0x0E06 and counts as complete. Each takes one entry. What the spec leaves to the model here: log entries 93, 95. -/
def Obligations.RaspCommands : Prop :=
  (∀ (s : State) (v : W32), s.die = .running → gives (.raspRingTail v) s fun t =>
    (v.toNat % 16384 < s.ringEntries → t.rasp = { s.rasp with tail := v.toNat % 16384 } ∧ t.obj = s.obj) ∧
    (s.ringEntries ≤ v.toNat % 16384 → t.rasp = s.rasp ∧ shows t O.raspLastStatus 0x0E01 ∧ logs s t [(0x0E01, [v.toNat % 16384])])) ∧
  ∀ (s : State) (k : Nat), s.die = .running → s.raspReady = true → k = fieldN s.ringEntry 0x20 8 →
    (fieldN s.ringEntry 0 1 = 0 → s.commandError s.ringEntry = none → gives .nop s fun t =>
      t.rasp = { s.rasp with head := (s.rasp.head + 1) % max 1 s.ringEntries } ∧ counts s t O.raspCmdCount 1 ∧ t.hbm = s.hbm) ∧
    (fieldN s.ringEntry 0 1 = 4 → s.commandError s.ringEntry = none → gives .fence s fun t =>
      t.rasp = { s.rasp with head := (s.rasp.head + 1) % max 1 s.ringEntries, fence := fieldN s.ringEntry 0x3C 4, draws := [] } ∧ counts s t O.raspCmdCount 1 ∧ t.hbm = s.hbm ∧
      (bitOf (fieldN s.ringEntry 1 1) 3 = true → bitOf t.hif.irqStatus 3 = true) ∧ (bitOf (fieldN s.ringEntry 1 1) 3 = false → t.hif = s.hif)) ∧
    (fieldN s.ringEntry 0 1 = 3 → s.commandError s.ringEntry = none → k ≠ 0 → gives .publish s fun t =>
      t.rasp.head = (s.rasp.head + 1) % max 1 s.ringEntries ∧ t.hbm = s.hbm ∧
      (k < s.publishFloor → t.rasp.status = 0x0E05 * 65536 + 1 ∧ counts s t O.raspRefusedCount 1 ∧ t.rasp.lastPublish = s.rasp.lastPublish) ∧
      (s.publishFloor ≤ k → deadlineAt s.tf k < ((s.ns + s.publishDelay : Nat) : Int) →
        t.rasp.status = 0x0E04 * 65536 + 1 ∧ counts s t O.raspRefusedCount 1 ∧ t.rasp.lastPublish = s.rasp.lastPublish) ∧
      (s.publishFloor ≤ k → ((s.ns + s.publishDelay : Nat) : Int) ≤ deadlineAt s.tf k →
        t.rasp.lastPublish = some k ∧ shows t O.raspPublishedEpoch k ∧
        (s.rasp.catchup = true → t.rasp.incomplete = [k] ∧ t.rasp.draft = s.rasp.draft ∧ t.nat O.raspCmdCount = s.nat O.raspCmdCount) ∧
        (s.rasp.catchup = false → counts s t O.raspCmdCount 1 ∧ t.rasp.published = (k, s.rasp.draft) :: s.rasp.published ∧ t.rasp.draft = 1 - s.rasp.draft ∧ t.rasp.catchup = true ∧
          t.rasp.copying = s.rasp.dirty ∧ t.rasp.dirty = []))) ∧
    (∀ code, s.commandError s.ringEntry = some code → gives (.raspCommandRefused false) s fun t =>
      t.rasp = { s.rasp with head := (s.rasp.head + 1) % max 1 s.ringEntries, status := code * 65536 + 1 } ∧ counts s t O.raspRefusedCount 1 ∧ t.hbm = s.hbm) ∧
    gives (.raspCommandRefused true) s fun t =>
      t.rasp = { s.rasp with head := (s.rasp.head + 1) % max 1 s.ringEntries, status := 0x0E06 * 65536 + 1 } ∧ counts s t O.raspRefusedCount 1 ∧ counts s t O.raspCmdCount 1 ∧
      logs s t [(0x0A02, [0x98000000 + 64 * s.rasp.head, s.partitionOf (0x98000000 + 64 * s.rasp.head), 6]), (0x0E06, [])] ∧ t.hbm = s.hbm

/-- R216, R299, R300, R301, R302, R303, R305: FILL and COPY. Each pixel of the destination rectangle gets, in the bytes chan_mask enables, the ROP of pattern, source and destination as they stood before the drawing, and zeros where a sector it reads met an uncorrectable error, which is logged with 0x0E06; the source of a FILL is its colour, that of a COPY the source pixel its orientation names. Every byte outside the destination's rows reads as before, but for the bounce area where the COPY goes through it. R307: PUBLISH_CATCHUP, once no frame in the pipeline is bound to the new draft, copies into it the tiles written since the PUBLISH before; every other byte of memory is as before, and the tiles count as written to the draft. What the spec leaves to the model here: log entries 94, 95. -/
def Obligations.RaspDrawing : Prop :=
  (∀ (s : State) (ue ce : List Nat), s.die = .running → memOk s.hbm = true → s.raspReady = true → s.rasp.catchup = false → s.commandError s.ringEntry = none →
      s.nat O.overlayWidth ≤ 7680 → s.nat O.overlayHeight ≤ 4320 →
      let c := s.ringEntry
      let d := s.dstRect c
      let r := s.srcRect c
      let paints : State → (Nat → Nat → Option Nat) → (Nat → Nat → Nat) → Prop := fun t src val =>
        let bad : Nat → Nat → Bool := fun i j => ue.any fun u => (State.readsOf c (d.addr i j) (d.x + i) (d.y + j) (src i j)).any fun q => q / 32 == u / 32
        (∀ i j k, i < d.w → j < d.h → k < 4 → memGet t.hbm (d.addr i j + k) =
          if bad i j = true then 0#8
          else (maskBytes (fieldN c 4 1) (ropWord (fieldN c 2 1) (s.patternAt c (d.x + i) (d.y + j)) (val i j) (s.pixelAt (d.addr i j))) (s.pixelAt (d.addr i j))).getD k 0#8) ∧
        (∀ a, (∀ j, j < d.h → ¬ (d.addr 0 j ≤ a ∧ a < d.addr 0 j + 4 * d.w)) → ¬ (s.needsBounce c = true ∧ 0x90000000 ≤ a ∧ a < 0x90000000 + 4 * r.w * r.h) →
          memGet t.hbm a = memGet s.hbm a) ∧
        t.rasp.head = (s.rasp.head + 1) % max 1 s.ringEntries ∧ counts s t O.raspCmdCount 1 ∧
        (∀ i j, i < d.w → j < d.h → bad i j = true → logged s t (0x0E06, []) ∧ t.rasp.status = 0x0E06 * 65536 + 1) ∧
        ((∀ i j, i < d.w → j < d.h → bad i j = false) → t.rasp.status = s.rasp.status ∧ logs s t [])
      (fieldN c 0 1 = 1 → gives (.fill ue ce) s fun t => paints t (fun _ _ => none) fun _ _ => fieldN c 0x38 4) ∧
      (fieldN c 0 1 = 2 →
        let src : Nat → Nat → Nat := fun i j => r.addr (State.sourceOf (fieldN c 3 1) r.w r.h i j).1 (State.sourceOf (fieldN c 3 1) r.w r.h i j).2
        gives (.copy ue ce) s fun t => paints t (fun i j => some (src i j)) fun i j => s.pixelAt (src i j))) ∧
  (∀ s : State, s.die = .running → memOk s.hbm = true → s.nat O.overlayState = 2 → s.rasp.catchup = true → s.draftFrames = [] → s.islandUp 27 = true → s.rasp.incomplete = [] →
      let off : Nat → Nat → Nat := fun tile j => 30720 * (tile / 240 * 32 + j) + 4 * (tile % 240 * 32)
      gives .publishCatchup s fun t =>
        t.rasp = { s.rasp with catchup := false, dirty := s.rasp.dirty ++ s.rasp.copying, copying := [] } ∧
        (∀ tile ∈ s.rasp.copying, ∀ j x, j < 32 → x < 128 →
          memGet t.hbm (State.planeBase s.rasp.draft + off tile j + x) = memGet s.hbm (State.planeBase (1 - s.rasp.draft) + off tile j + x)) ∧
        ∀ a, (∀ tile ∈ s.rasp.copying, ∀ j, j < 32 → ¬ (State.planeBase s.rasp.draft + off tile j ≤ a ∧ a < State.planeBase s.rasp.draft + off tile j + 128)) →
          memGet t.hbm a = memGet s.hbm a)

/-- R95, R401, R402: AUDIO_BLOCK. The sample frames of a block whose slots lie in the ring's window stand in the ring of its stream port afterwards, each with the stored words of its two channels; of a block that comes too late none does, and each is counted on every routed port. R396, R399, R403, R404, R409: the audio output ports. AUD_SLOT_PRESENT of a port in STARTING runs its BCLK and sends a zero frame; of a port that is ON it sends the top bits of the slot's sample frame at the slot's instant, left word first and most significant bit first, or zero for an empty slot, counted and logged as 0x0F01 where presentation had begun. AUD_PHASE_MEASURE shows the error; the sixteenth within 20 ns locks, the third beyond 50 ns unlocks. AUD_CLOCK_RESTART lets both ports of the pair present again. What the spec leaves to the model here: log entries 90, 92. -/
def Obligations.AudioBlocksAndPorts : Prop :=
  (∀ (s : State) (sec : Bytes), atSection s 6 sec → audioFieldsOk sec = true → s.aud.streams.length = 8 →
      let i := fieldN sec 8 1
      let fs := rateHz (fieldN sec 9 1)
      let p := fieldN sec 10 1
      let n := fieldN sec 0x18 2
      let slot := gridSlot (fieldN sec 0x0C 8 * 1000000000 + fieldN sec 0x14 4) fs
      (s.clk.disp * fs + 1000000 * 2 ^ 32 * fs ≤ slot * 1000000000 * 2 ^ 32 → slot + n ≤ slotNow s.clk.disp fs + 2097152 → gives .audioBlock s fun t =>
        passed s t sec ∧ (t.streamPort i).rate = some (fieldN sec 9 1) ∧
        ∀ k, k < n → ∃ f ∈ (t.streamPort i).ring, f.entry = (slot + k) % 2097152 ∧ f.width = packWidth p ∧
          f.left = sampleWord p (cut sec (0x1C + 2 * packBytes p * k) (packBytes p)) ∧
          f.right = sampleWord p (cut sec (0x1C + 2 * packBytes p * k + packBytes p) (packBytes p))) ∧
      ((slot + n - 1) * 1000000000 * 2 ^ 32 < s.clk.disp * fs + 1000000 * 2 ^ 32 * fs → gives .audioBlock s fun t =>
        passed s t sec ∧ (t.streamPort i).ring = (if (s.streamPort i).rate = some (fieldN sec 9 1) then (s.streamPort i).ring else []) ∧
        ∀ q : Fin 8, s.audNat (O.audPortRoute q) = i → counts s t (O.audLateDiscardCount q) n)) ∧
  ((∀ (s : State) (p : Fin 8), s.die = .running → s.aud.ports.length = 8 → s.nat (O.audPortState p) = 1 → s.islandUp 28 = true →
      gives (.audSlotPresent p none none) s fun t => (t.audPort p).bclk = true ∧ t.out = .i2s p (i2sFrame (s.audNat (O.audPortSlotBits p)) 0 0) :: s.out) ∧
    (∀ (s : State) (p : Fin 8), s.die = .running → s.aud.ports.length = 8 → s.nat (O.audPortState p) = 2 → s.islandUp 28 = true →
      let i := s.audNat (O.audPortRoute p)
      let rate := s.audNat (O.audPairRate (p / 2))
      let n := s.nextSlot p (rateHz rate)
      let bits := s.audNat (O.audPortSlotBits p)
      let held := (s.streamPort i).ring.find? fun f => f.entry == n % 2097152 && !f.sent.contains p.val
      (s.aud.restarting.getD (p / 2) false = false → i < 8 → (s.streamPort i).rate = some rate → (∀ f, held = some f → f.nonPcm = false → f.width ≤ bits → s.nat O.pwrHoldupState = 0 →
        gives (.audSlotPresent p none none) s fun t => slotInstant n (rateHz rate) ≤ t.ns ∧ (t.audPort p).next = some (n + 1) ∧ (t.audPort p).started = true ∧
          t.out = .i2s p (i2sFrame bits (f.left / 2 ^ (32 - bits)) (f.right / 2 ^ (32 - bits))) :: s.out)) ∧
      (s.aud.restarting.getD (p / 2) false = false → i < 8 → (s.streamPort i).rate = some rate → held = none →
        gives (.audSlotPresent p none none) s fun t => slotInstant n (rateHz rate) ≤ t.ns ∧ (t.audPort p).next = some (n + 1) ∧ t.out = .i2s p (i2sFrame bits 0 0) :: s.out ∧
          ((s.audPort p).started = true ∧ (s.audPort p).inRun = false → counts s t (O.audUnderrunCount p) 1 ∧ logs s t [(0x0F01, [p.val, n])] ∧ (t.audPort p).inRun = true) ∧
          ((s.audPort p).started = false ∨ (s.audPort p).inRun = true → t.log = s.log)) ∧
      ∀ error : Int, gives (.audPhaseMeasure p error) s fun t => t.int (O.audPhaseError p) = (O.audPhaseError p).ty.fit error ∧
        (error.natAbs ≤ 20 → 15 ≤ (s.audPort p).inside → bitOf (t.nat (O.audPortFlags p)) 3 = true) ∧
        (50 < error.natAbs → 2 ≤ (s.audPort p).outside → bitOf (t.nat (O.audPortFlags p)) 3 = false) ∧
        (20 < error.natAbs → error.natAbs ≤ 50 → t.nat (O.audPortFlags p) = s.nat (O.audPortFlags p))) ∧
    ∀ (s : State) (q : Fin 4), s.die = .running → s.aud.ports.length = 8 → s.aud.restarting.getD q false = true → s.islandUp 28 = true → gives (.audClockRestart q) s fun t =>
      t.aud.restarting.getD q false = false ∧ (t.audPort (2 * q)).next = none ∧ (t.audPort (2 * q + 1)).next = none ∧ t.aud.streams = s.aud.streams ∧ t.obj = s.obj)

/-- R280, R281, R282, R284, R285, R286: how a slot comes up. PRESENCE_FALL begins the 50 ms confirmation and PRESENCE_RISE ends it; PRESENCE_CONFIRMED makes the slot DISCOVERING where its head drives it, else PRESENT. DESCRIPTOR_READ trains a partner whose descriptor fits, calls it MISMATCH with 0x0D08 where it does not, reads an invalid one again after 10 ms and gives up with 0x0D07 at the third. RX_READY_ALIGNED sweeps; TRAIN_TIMEOUT logs 0x0D0D, and DISCOVERY_RETRY begins again 1 s later; SWEEP_DONE chooses the settings; VERIFY_DONE assigns the good lanes in map order: TRAINED with four, else DEGRADED; RETRAIN_REALIGN_DONE ends a realignment where no lane with a stored setting errs, and else, or without ALIGNED, trains again. What the spec leaves to the model here: log entries 88, 89. -/
def Obligations.LinkStarts : Prop :=
  ∀ (s : State) (n : Fin 32), s.die = .running → s.link.length = 32 →
    (gives (.presenceFall n) s fun t => (t.slot n).present = true ∧ t.slotState n = s.slotState n ∧
      (s.slotState n = 0 → (t.slot n).phase = .confirming ∧ (t.slot n).since = s.clk.now)) ∧
    (gives (.presenceRise n) s fun t => (t.slot n).present = false ∧ (t.slot n).highAt = some s.clk.now ∧ (t.slot n).phase ≠ .confirming ∧ t.obj = s.obj) ∧
    ((s.slot n).phase = .confirming → (s.slot n).present = true → gives (.presenceConfirmed n) s fun t => (s.slot n).since + 50000000 ≤ t.clk.now ∧
      (s.slotTrains n = true → t.slotState n = 2 ∧ (t.slot n).phase = .reading 0) ∧ (s.slotTrains n = false → t.slotState n = 1 ∧ (t.slot n).phase = .none)) ∧
    (∀ (tries : Nat) (answer : Option Bytes), (s.slot n).phase = .reading tries → gives (.descriptorRead n answer) s fun t =>
      (∀ d, answer = some d → descriptorValid d = true → t.oct (O.partnerDescriptor n) = d ∧
        (s.descriptorFits n d = true → t.slotState n = 3 ∧ (t.slot n).phase = .aligning ∧ ∀ j, j < 5 → t.laneState n j = 1) ∧
        (s.descriptorFits n d = false → t.slotState n = 6 ∧ (t.slot n).phase = .none ∧ logged s t (0x0D08, [n.val]))) ∧
      (descriptorValid (answer.getD []) = false → tries < 2 → (t.slot n).phase = .reading (tries + 1) ∧ s.clk.now + 10000000 ≤ t.clk.now) ∧
      (descriptorValid (answer.getD []) = false → 2 ≤ tries → t.slotState n = 6 ∧ (t.slot n).phase = .none ∧ logged s t (0x0D07, [n.val]))) ∧
    ((s.slot n).phase = .aligning → (gives (.rxReadyAligned n) s fun t => (t.slot n).phase = .sweeping ∧ t.obj = s.obj) ∧
      gives (.trainTimeout n) s fun t => (t.slot n).phase = .waitRetry ∧ (s.slot n).since + 50000000 ≤ t.clk.now ∧ logs s t [(0x0D0D, [n.val])] ∧ ∀ j, j < 5 → t.laneState n j = 0) ∧
    ((s.slot n).phase = .waitRetry → gives (.discoveryRetry n) s fun t => t.slotState n = 2 ∧ (t.slot n).phase = .reading 0 ∧ (s.slot n).since + 1000000000 ≤ t.clk.now) ∧
    (∀ bytes : Bytes, (s.slot n).phase = .sweeping → gives (.sweepDone n bytes) s fun t => (t.slot n).phase = .verifying ∧ (s.slot n).since + 46200000 ≤ t.clk.now ∧
      (t.slot n).choice = (List.range 5).filterMap fun j => (chooseSetting (passMapOf bytes j)).map fun k => (j, k)) ∧
    (∀ errors : Bytes, (s.slot n).phase = .verifying → gives (.verifyDone n errors) s fun t =>
      let good := ((s.slot n).choice.filter fun c => fieldN errors c.1 1 == 0).map (·.1)
      let order := ((List.range 5).map (mapOrder (s.laneMap n))).filter good.contains
      (t.slot n).phase = .none ∧ (t.slot n).logical = (List.range 4).map (fun L => order[L]?) ∧ t.slotState n = (if 4 ≤ order.length then 4 else 5)) ∧
    ((s.slot n).phase = .realigning → (gives (.retrainRealignDone n none) s fun t => (t.slot n).phase = .aligning ∧ t.slotState n = 3) ∧
      ∀ errors : Bytes, gives (.retrainRealignDone n (some errors)) s fun t =>
        ((∀ c ∈ s.storedChoice n, fieldN errors c.1 1 = 0) → (t.slot n).phase = .none ∧ t.slotState n = s.slotState n) ∧
        (∀ c ∈ s.storedChoice n, fieldN errors c.1 1 ≠ 0 → (t.slot n).phase = .aligning ∧ t.slotState n = 3))

/-- R287, R288, R289, R290, R291: PARTNER_REMOVED, 1 ms after the pin rose, discards the slot's state and leaves it ABSENT, logged as 0x0D06. PARTNER_ATTENTION puts the standby lane in a failing lane's place from two lines ahead on, counted; without a standby the slot goes black; either way the failing lane is swept alone. LANE_RETRY sweeps a FAILED lane again after 60 s. TELEMETRY_READ keeps a good reading, counts a failed one, and reads one whose CRC is wrong once more. What the spec leaves to the model here: log entry 87. -/
def Obligations.LinkUpkeep : Prop :=
  (∀ (s : State) (n : Fin 32) (at' : Nat), s.die = .running → s.link.length = 32 → (s.slot n).highAt = some at' → (s.slot n).present = false → s.slotState n ≠ 0 →
    gives (.partnerRemoved n) s fun t => t.slot n = {} ∧ t.slotState n = 0 ∧ t.oct (O.partnerTelemetry n) = [] ∧ at' + 1000000 ≤ t.clk.now ∧
      logged s t (0x0D06, [n.val])) ∧
  (∀ (s : State) (pair : Fin 16) (even odd : PartnerStat) (j L : Nat), s.die = .running → s.link.length = 32 → (s.slotState (2 * pair) = 4 ∨ s.slotState (2 * pair) = 5) →
    s.slotState (2 * pair + 1) < 4 → even.answered = true → bitOf even.pstat 3 = true → s.failingLanes (2 * pair) even = [j] → j < 5 →
    (s.slot (2 * pair)).logical.findIdx? (· == some j) = some L →
    (∀ k, s.standby (2 * pair) = some k → k ≠ j → gives (.partnerAttention pair even odd) s fun t =>
      t.laneState (2 * pair) k = 2 ∧ t.laneState (2 * pair) j = 1 ∧ (t.slot (2 * pair)).spare = some (L, k, s.spareLine) ∧ counts s t O.linkSpareSwitchCount 1 ∧
      (∃ w ∈ (t.slot (2 * pair)).jobs, w.lane = j ∧ w.retry = false ∧ w.verifying = false) ∧
      t.out.head? = some (.panel (2 * pair) (.sideband pair 0x3A 0x40 [7#8]))) ∧
    (s.standby (2 * pair) = none → gives (.partnerAttention pair even odd) s fun t =>
      t.laneState (2 * pair) j = 1 ∧ (t.slot (2 * pair)).fed = false ∧ ((s.slot (2 * pair)).fed = true → (t.slot (2 * pair)).blankNext = true) ∧
      t.nat O.linkSpareSwitchCount = s.nat O.linkSpareSwitchCount)) ∧
  (∀ (s : State) (n : Fin 32) (j : Fin 5), s.die = .running → s.link.length = 32 → s.laneState n j = 4 → (s.slotState n = 4 ∨ s.slotState n = 5) →
    (∀ y ∈ (s.slot n).sweeps.find? (·.1 == j.val), y.2.2.2 < 1440) → gives (.laneRetry n j) s fun t =>
      t.laneState n j = 1 ∧ counts s t O.linkRetryCount 1 ∧ (∀ y, (s.slot n).sweeps.find? (·.1 == j.val) = some y → y.2.1 + 60000000000 ≤ t.clk.now)) ∧
  ∀ (s : State) (n : Fin 32), s.die = .running → s.link.length = 32 → 3 ≤ s.slotState n → s.slotState n ≤ 5 →
    (gives (.telemetryRead n none) s fun t => (t.slot n).sideFails = (s.slot n).sideFails + 1 ∧ ((s.slot n).sideFails = 2 → (t.slot n).stale = true ∧
      logged s t (0x0D0C, [n.val]))) ∧
    (∀ b : Bytes, b.length = 32 → crc32c (b.take 28) ≠ fieldN b 28 4 → gives (.telemetryRead n (some b)) s fun t =>
      (t.slot n).teleAgain = !(s.slot n).teleAgain ∧ (t.slot n).temp = (s.slot n).temp ∧ t.obj = s.obj) ∧
    ∀ b : Bytes, b.length = 32 → crc32c (b.take 28) = fieldN b 28 4 → gives (.telemetryRead n (some b)) s fun t =>
      t.oct (O.partnerTelemetry n) = b ∧ (t.slot n).sideFails = 0 ∧ (t.slot n).stale = false ∧
      (t.slot n).temp = (if bitOf (fieldN b 2 2) 0 = true then some (fieldI b 0 2) else none) ∧ (t.slot n).crcSeen = fieldN b 4 4

/-- R255 to R258, R420: panel power. RAIL_PG_RISE and RAIL_STEP_DELAY walk up rail_order, and the last rail's delay makes panel power ON; RAIL_PG_TIMEOUT and RAIL_FAULT log 0x1101 and 0x1102, clear panel_power_enable and stop; PG_PANEL_FALL and RAIL_OFF_STEP walk down in reverse until panel power is OFF; RAIL_DOWN_STEP turns off the next rail of a rail-down, whatever the die does. What the spec leaves to the model here: log entry 101. -/
def Obligations.PanelRails : Prop :=
  (∀ (s : State) (r : Fin 6), s.die = .running →
    (gives (.railPgRise r) s fun t => bitOf (t.nat O.railPgStatus) r = true ∧ ∀ i, s.pwr.phase = .waitPg i → s.rails[i]? = some r.val → t.pwr.phase = .stepDelay i ∧ t.pwr.since = s.clk.now) ∧
    (gives (.pgPanelFall r) s fun t => bitOf (t.nat O.railPgStatus) r = false ∧ t.pwr.pgLowAt.head? = some (r.val, s.clk.now) ∧
      ∀ i, s.pwr.phase = .waitFall i → s.rails[i]? = some r.val → t.pwr.phase = .offDelay i ∧ t.pwr.since = s.clk.now) ∧
    (∀ at' i, s.pwr.pgLowAt.find? (·.1 == r.val) = some (r.val, at') → s.nat O.panelPowerState = 2 → bitOf s.pwr.en r = true → i < 6 → s.rails[i]? = some r.val →
      gives (.railFault r) s fun t => t.nat O.panelPowerState = 3 ∧ t.flag O.panelPowerEnable = false ∧ at' + 100000 ≤ t.clk.now ∧ logged s t (0x1102, [r.val]))) ∧
  (∀ (s : State) (i : Nat), s.die = .running →
    (s.pwr.phase = .stepDelay i → gives .railStepDelay s fun t => s.pwr.since + s.nat O.railStepDelay * 1000000 ≤ t.clk.now ∧
      (∀ r, s.rails[i + 1]? = some r → bitOf t.pwr.en r = true ∧ t.pwr.phase = (if bitOf (s.nat O.railPgStatus) r then .stepDelay (i + 1) else .waitPg (i + 1)) ∧
        t.nat O.panelPowerState = s.nat O.panelPowerState) ∧
      (s.rails[i + 1]? = none → t.nat O.panelPowerState = 2 ∧ t.pwr.phase = .rest)) ∧
    (∀ r, s.pwr.phase = .waitPg i → i < 6 → s.rails[i]? = some r → bitOf s.pwr.en r = true → gives .railPgTimeout s fun t =>
      t.nat O.panelPowerState = 3 ∧ t.flag O.panelPowerEnable = false ∧ s.pwr.since + s.nat O.railPgTimeout * 1000000 ≤ t.clk.now ∧ logged s t (0x1101, [r])) ∧
    (s.pwr.phase = .waitFall i ∨ s.pwr.phase = .offDelay i → gives .railOffStep s fun t => s.pwr.since + s.nat O.railOffDelay * 1000000 ≤ t.clk.now ∧
      (∀ k, s.lastOn i = some k → bitOf t.pwr.en (s.rails.getD k 6) = false ∧ (t.pwr.phase = .waitFall k ∨ t.pwr.phase = .offDelay k)) ∧
      (s.lastOn i = none → s.held.contains Fn.panel = false → t.nat O.panelPowerState = 0 ∧ t.pwr.phase = .rest))) ∧
  ∀ (s : State) (i : Nat), s.pwr.phase = .down i → gives .railDownStep s fun t => s.pwr.since ≤ t.clk.now ∧ bitOf t.pwr.en (s.rails.getD i 6) = false ∧ t.die = s.die ∧
    (t.pwr.phase = .rest ∧ t.nat O.panelPowerState = 0 ∨ ∃ k, k < i ∧ t.pwr.phase = .down k ∧ t.nat O.panelPowerState = s.nat O.panelPowerState)

/-- R218, R259, R260, R510: hold-up. PFAIL_FALL and PFAIL_RISE record the pin; HOLDUP_CONFIRM, after 5 µs, begins it: counted, logged as 0x1103, the promise suspended with cause bit 2. HOLDUP_SHED at 1 ms lets the stacks refresh themselves; HOLDUP_PARKED at 10 ms abandons the stores; HOLDUP_RECOVERY, after 10 ms of good supply, ends it or starts panel power. DEVICE_RAIL_COMPARE shows the readings, and the second low one in a row of a rail begins hold-up, logged as 0x1108. What the spec leaves to the model here: log entry 43. -/
def Obligations.HoldUp : Prop :=
  (∀ s : State,
    (s.pwr.pfailLow = false → gives .pfailFall s fun t => t = { s with pwr := { s.pwr with pfailLow := true, pfailAt := s.clk.now, pfailHighAt := none } }) ∧
    (s.pwr.pfailLow = true → gives .pfailRise s fun t => t = { s with pwr := { s.pwr with pfailLow := false, pfailHighAt := some s.clk.now } })) ∧
  ∀ s : State, s.die = .running →
    (s.pwr.pfailLow = true → s.nat O.pwrHoldupState ≠ 1 → s.nat O.pwrHoldupState ≠ 2 → gives .holdupConfirm s fun t =>
      t.nat O.pwrHoldupState = 1 ∧ s.pwr.pfailAt + 5000 ≤ t.clk.now ∧ t.pwr.holdupAt = s.pwr.pfailAt ∧ counts s t O.pwrHoldupCount 1 ∧
      bitOf (t.nat O.admSuspendCauses) 2 = true ∧ t.adm.pending = none ∧ t.adm.rendering = none ∧ logged s t (0x1103, [])) ∧
    (s.nat O.pwrHoldupState = 1 → (gives .holdupShed s fun t => t.pwr.shed = true ∧ s.pwr.holdupAt + 1000000 ≤ t.clk.now ∧ ∀ x ∈ t.mem.hbmStacks, x.selfRefresh = true) ∧
      gives .holdupParked s fun t => t.nat O.pwrHoldupState = 2 ∧ s.pwr.holdupAt + 10000000 ≤ t.clk.now ∧
        (s.nat O.patinaStoreState = 1 ∨ s.nat O.patinaStoreState = 2 → t.nat O.patinaStoreState = 4) ∧
        (s.nat O.cfgStoreState = 1 ∨ s.nat O.cfgStoreState = 2 → t.nat O.cfgStoreState = 4) ∧ (s.flag O.thmNorWindow = false → t.nor = s.nor)) ∧
    (∀ h, s.nat O.pwrHoldupState = 2 → s.pwr.phase = .rest → s.pwr.pfailHighAt = some h → s.pwr.lowCause = false → s.pwr.pfailLow = false → gives .holdupRecovery s fun t =>
      h + 10000000 ≤ t.clk.now ∧ t.pwr.shed = false ∧
      (s.flag O.panelPowerEnable = false → t.nat O.pwrHoldupState = 0 ∧ logged s t (0x1104, [])) ∧
      (∀ r, s.flag O.panelPowerEnable = true → s.rails[0]? = some r → t.nat O.pwrHoldupState = 3 ∧ t.nat O.panelPowerState = 1 ∧ bitOf t.pwr.en r = true)) ∧
    ∀ mv : List Nat, mv.length = 11 →
      let bad : Nat → Bool := fun n => railLow ((railTable (s.nat O.rgmiiIoVoltage)).getD n (0, 0)) (mv.getD n 0) || railHigh ((railTable (s.nat O.rgmiiIoVoltage)).getD n (0, 0)) (mv.getD n 0)
      ((∀ n, n < 11 → bad n = false) → gives (.deviceRailCompare mv) s fun t => (∀ n, n < 11 → shows t (O.deviceRailMv n) (mv.getD n 0)) ∧
        t.pwr.okAt = some (s.pwr.okAt.getD s.clk.now) ∧ t.log = s.log ∧ t.nat O.pwrHoldupState = s.nat O.pwrHoldupState) ∧
      ∀ n, n < 11 → railLow ((railTable (s.nat O.rgmiiIoVoltage)).getD n (0, 0)) (mv.getD n 0) = true → (∀ m, m < 11 → m ≠ n → bad m = false) →
        s.pwr.lows.length = 11 → s.pwr.lows.getD n 0 = 1 → s.nat O.pwrHoldupState = 0 → gives (.deviceRailCompare mv) s fun t =>
          t.nat O.pwrHoldupState = 1 ∧ t.pwr.lowCause = true ∧ counts s t O.deviceRailLowCount 1 ∧ logged s t (0x1108, [n]) ∧ logged s t (0x1103, []) ∧ t.pwr.okAt = none

/-- R412 to R416, R420, R421: THM_SAMPLE takes the sensors' values as R412 to R414 say and shows Tj; the third sample in a row at the trip point, or more than 12 excluded sensors, stops the die with THERMTRIP_N and loses HBM, and nothing else does. TRIP_RECORD_PROGRAMMED fills the next one-time slot. TRIM_LEARN moves each learned offset by at most one unit towards the mean, up to the limit; TRIM_SAVE puts the offsets into NOR. What the spec leaves to the model here: log entries 96, 99, 100. -/
def Obligations.Thermal : Prop :=
  (∀ (s : State) (raw mems : List (Option Int)), s.die = .running →
    let new := sampleSensors s.thm.sensors raw (s.nat O.thmNeighbourTol)
    let trips : Prop := 2 ≤ s.thm.tripRun ∧ s.int O.plinthTripPoint ≤ (junction new).1 ∨ 12 < (new.filter (·.excl)).length
    gives (.thmSample raw mems) s fun t => t.thm.sensors = new ∧ t.int O.thmTj = O.thmTj.ty.fit (junction new).1 ∧ t.nat O.thmTjSensor = (junction new).2 ∧
      (trips → t.die = .stopped ∧ t.stop = .trip ∧ t.hbm = [] ∧ t.thm.thermtrip = true ∧ t.thm.tripCount = satAdd 32 s.thm.tripCount 1 ∧ bitOf (t.nat O.admSuspendCauses) 0 = true) ∧
      (¬ trips → t.die = .running ∧ t.hbm = s.hbm ∧ t.thm.tripCount = s.thm.tripCount)) ∧
  (∀ (s : State) (r : Bytes), s.thm.record = some r → gives .tripRecordProgrammed s fun t =>
    t.thm = { s.thm with record := none, slots := s.thm.slots ++ [r] } ∧ shows t O.thmTripSlotsUsed (s.thm.slots.length + 1)) ∧
  ∀ s : State, s.die = .running →
    (∀ since, s.thm.calmSince = some since → mayLearn s = true → s.thm.sensors.length = 48 → gives .trimLearn s fun t =>
      let valid := (s.thm.sensors.filter fun x => !x.excl).map (·.val)
      let total : Int := valid.foldl (· + ·) 0
      let count : Int := valid.length
      since + 600000000000 ≤ t.clk.now ∧ s.thm.learnAt + 60000000000 ≤ t.clk.now ∧ t.thm.learnAt = t.clk.now ∧
      ∀ n x, s.thm.sensors[n]? = some x → (t.thm.sensors.getD n {}).trim =
        if x.excl = true ∨ 24 ≤ x.trim.natAbs then x.trim else if x.val * count < total then x.trim + 1 else if total < x.val * count then x.trim - 1 else x.trim) ∧
    ((∀ at' ∈ s.thm.trimsSavedAt, at' + 3600000000000 ≤ s.clk.now) → s.flag O.thmNorWindow = true → s.nat O.atlState = 1 →
      gives .trimSave s fun t => t.nor = { s.nor with trims := s.thm.sensors.map (·.trim), old := { s.nor.old with trims := s.nor.trims } } ∧ t.thm.trimsSavedAt = some s.clk.now)

/-- R494, R495, R498: CLOCK_LOST holds the island in reset and asserts FAULT_N; the loss of the always-on clock stops the die. CLOCK_RESTART_ATTEMPT, after 1 ms, releases an island that may restart into its trial, or gates it where one was made within 3,600 power-on seconds. CLOCK_RESTART_CHECK, after 10 ms within the limits, releases the island and logs 0x1107, and otherwise gates it for good. What the spec leaves to the model here: log entries 111, 112. -/
def Obligations.ClockLoss : Prop :=
  ∀ (s : State) (i : Fin 32), s.die = .running → s.isl.length = 32 →
    ((s.island i).lost = false → gives (.clockLost i) s fun t => (t.island i).lost = true ∧ (t.island i).held = true ∧ (t.island i).lostAt = s.clk.now ∧
      t.flag O.faultNAsserted = true ∧ (i.val = 29 → t.die = .stopped ∧ t.stop = .aonLost ∧ t.hbm = []) ∧ (i.val ≠ 29 → t.die = .running ∧ t.nat O.faultLastCode = 0x1106)) ∧
    ((s.island i).held = true → (s.island i).lost = true → (s.island i).restarting = false → State.restartable i = true →
      ((s.island i).lastRestart = none → gives (.clockRestartAttempt i) s fun t => (t.island i).restarting = true ∧ (t.island i).lastRestart = some t.powerSeconds ∧
        (s.island i).lostAt + 1000000 ≤ t.clk.now ∧ (t.island i).lostAt = t.clk.now) ∧
      (∀ sec, (s.island i).lastRestart = some sec → s.powerSeconds + 1 < sec + 3600 → (s.island i).lostAt ≤ s.clk.now →
        gives (.clockRestartAttempt i) s fun t => (t.island i).restarting = false ∧ (t.island i).pow = .gated)) ∧
    ((s.island i).restarting = true →
      (gives (.clockRestartCheck i true) s fun t => (t.island i).lost = false ∧ (t.island i).held = false ∧ (s.island i).lostAt + 10000000 ≤ t.clk.now ∧ logged s t (0x1107, [i.val])) ∧
      gives (.clockRestartCheck i false) s fun t => (t.island i).restarting = false ∧ (t.island i).held = (s.island i).held ∧ (t.island i).pow = .gated ∧
        (s.island i).lostAt + 10000000 ≤ t.clk.now)

/-- R428, R429, R431, R438, R442, R467, R468: warm resets of Atelier. LOCKSTEP_MISMATCH, SRAM_UNCORRECTABLE, WATCHDOG_EXPIRY and a wrong PLN_WD_KICK begin one with its cause, counted and logged, and the watchdog is off; a right kick restarts the watchdog. WARM_RESET_DONE boots the active slot and logs 0x1206, or halts after the third fault reset within 3,600 s, or enters recovery where no slot boots, and logs 0x1208 for each uncorrectable read of NOR. TRIAL_CONFIRM, after 60 s, makes the trial slot active and raises the anti-rollback count. What the spec leaves to the model here: log entries 102, 103, 104, 130. -/
def Obligations.WarmResets : Prop :=
  (∀ s : State, s.die = .running →
    let begins : Nat → Nat → State → Prop := fun cause code t =>
      t.nat O.atlState = 2 ∧ t.nat O.atlLastResetCause = cause ∧ counts s t O.warmResetCount 1 ∧ t.pln.armed = false ∧ t.dict.transfers = [] ∧ logged s t (code, [])
    (s.nat O.atlState = 1 ∨ s.nat O.atlState = 2 → gives .lockstepMismatch s (fun t => begins 3 0x1201 t ∧ counts s t O.lockstepCount 1) ∧ gives .sramUncorrectable s (begins 4 0x1202)) ∧
    (s.pln.armed = true → gives .watchdogExpiry s (fun t => begins 5 0x1205 t ∧ s.pln.deadline ≤ t.clk.now) ∧
      ∀ v : W32, (v.toNat ≠ 65535 - s.pln.token.toNat → gives (.plnWdKick v) s fun t => begins 5 0x1205 t ∧ t.pln.badKick = true) ∧
        (v.toNat = 65535 - s.pln.token.toNat → gives (.plnWdKick v) s fun t =>
          t.pln.armed = true ∧ t.pln.deadline = s.clk.now + s.nat O.plinthWdPeriod * 1000000 ∧ t.obj = s.obj))) ∧
  ∀ s : State, s.die = .running →
    (∀ ue : List NorUe, s.nat O.atlState = 2 → (s.island 30).held = false →
      let v := s.readNor ue
      let faulty := 3 ≤ s.nat O.atlLastResetCause ∧ s.nat O.atlLastResetCause ≤ 5 ∧ 3 ≤ s.atl.faultResets.length
      (faulty → gives (.warmResetDone ue) s fun t => t.nat O.atlState = 3 ∧ t.flag O.faultNAsserted = true ∧ logged s t (0x1204, [])) ∧
      (∀ i, ¬ faulty → v.nor.trial = none → v.slotBoots v.nor.active = true → v.nor.fw.getD v.nor.active none = some i → gives (.warmResetDone ue) s fun t =>
        t.nat O.atlState = 1 ∧ t.atl.bootSlot = some v.nor.active ∧ shows t O.firmwareVersion i.version ∧ t.pln.armed = true ∧
        t.pln.deadline = s.clk.now + s.nat O.plinthWdPeriod * 1000000 ∧ logged s t (0x1206, [(s.clk.now - s.atl.resetAt) / 1000000]) ∧
        ∀ u ∈ ue, logged s t (0x1208, [u.addr])) ∧
      (¬ faulty → v.nor.trial = none → v.slotBoots v.nor.active = false → v.slotBoots (1 - v.nor.active) = false → gives (.warmResetDone ue) s fun t =>
        t.nat O.atlState = 4 ∧ t.flag O.faultNAsserted = true ∧ ∀ u ∈ ue, logged s t (0x1208, [u.addr]))) ∧
    ∀ k i, s.nor.trial = some k → s.nat O.atlState = 1 → s.atl.trialRuns = true → s.nor.fw.getD k none = some i → gives .trialConfirm s fun t =>
      t.nor = s.nor.setSel k none false ∧ counts s t O.updateCount 1 ∧ t.pln.arb = max s.pln.arb (min i.arb 128) ∧
      s.atl.runningSince + 60000000000 ≤ t.clk.now ∧ shows t O.fwActiveSlot k

/-- R439, R440, R444, R446, R447, R449, R466: what is written to NOR. STATE_JOURNAL_SAVE and LIMIT_RECORD_WRITE, while the window is open, write the state and limit records. LOG_NOR_FLUSH moves staged entries to SRAM, and with an open window from there to the event ring, the pinned ones to the pinned log as well. UPDATE_VERIFY_DONE, UPDATE_WRITE_BEGIN and UPDATE_WRITE_DONE take an update from VERIFYING to WAITING, WRITING and STAGED, or FAILED with its code; a failed write is repeated once. What the spec leaves to the model here: log entries 67, 102, 130. -/
def Obligations.NorWrites : Prop :=
  ∀ s : State, s.die = .running →
    (s.nat O.atlState = 1 → s.flag O.thmNorWindow = true →
      (gives .stateJournalSave s fun t => t.nor = { s.nor with saved := t.nor.saved, old := { s.nor.old with saved := s.nor.saved } } ∧
        t.nor.saved.map (fun r => (r.time, r.rate, r.utc, r.trips)) = some (s.ns, s.tim.base, s.int O.timeUtcOffset, s.thm.tripCount)) ∧
      (∀ r, s.pln.toWrite = some r → gives .limitRecordWrite s fun t => t.nor = { s.nor with limits := s.nor.limits ++ [r] } ∧ t.pln = { s.pln with toWrite := none }) ∧
      (let all := s.log.sram ++ s.log.staging
       all.length ≤ 4096 → s.log.lostSince = 0 → s.log.rateTimes.length + all.length ≤ 36000 → s.nor.ring.length + all.length ≤ 528 * 127 → s.nor.pinned.length + all.length ≤ 16 * 127 →
        gives .logNorFlush s fun t => t.log.staging = [] ∧ t.log.sram = [] ∧ t.nor = { s.nor with ring := s.nor.ring ++ all, pinned := s.nor.pinned ++ all.filter (·.pinned) })) ∧
    (s.nat O.atlState = 1 → s.flag O.thmNorWindow = false → s.log.sram.length + s.log.staging.length ≤ 4096 → gives .logNorFlush s fun t =>
      t.log.staging = [] ∧ t.log.sram = s.log.sram ++ s.log.staging ∧ t.nor = s.nor) ∧
    (s.nat O.updateState = 1 → gives .updateVerifyDone s fun t =>
      (imageCheck s s.atl.image = 0 → t.nat O.updateState = 2 ∧ t.nor = s.nor ∧ t.log = s.log) ∧
      (imageCheck s s.atl.image ≠ 0 → t.nat O.updateState = 5 ∧ shows t O.updateResult (imageCheck s s.atl.image) ∧ logs s t [(imageCheck s s.atl.image, [])])) ∧
    (s.nat O.updateState = 2 → s.flag O.thmNorWindow = true → gives .updateWriteBegin s fun t => t.nat O.updateState = 3 ∧
      (fieldN s.atl.image 6 1 = 1 → t.nor = { s.nor with fw := setAt s.nor.fw (updateSlot s) none }) ∧ (fieldN s.atl.image 6 1 ≠ 1 → t.nor = s.nor)) ∧
    (∀ ue : List NorUe, s.nat O.updateState = 3 →
      (s.atl.updateTries = 0 → gives (.updateWriteDone true ue) s fun t => t.nat O.updateState = 3 ∧ t.atl.updateTries = 1 ∧ t.nor = s.nor) ∧
      (s.atl.updateTries ≠ 0 → gives (.updateWriteDone true ue) s fun t => t.nat O.updateState = 5 ∧ t.nat O.updateResult = 0x1213 ∧ logs s t [(0x1213, [])]) ∧
      (s.nat O.atlState ≠ 4 → gives (.updateWriteDone false ue) s fun t => t.nat O.updateState = 4 ∧ t.nat O.updateResult = 0 ∧
        (fieldN s.atl.image 6 1 = 1 → t.nor = { s.nor with fw := setAt s.nor.fw (updateSlot s) (some
          { version := fieldN s.atl.image 8 4, arb := fieldN s.atl.image 7 1, parts := fieldN s.atl.image 0x80 1, stepping := fieldN s.atl.image 0x81 2 }) }) ∧
        (fieldN s.atl.image 6 1 ≠ 1 → t.nor = { s.nor with bronze := [imageBody s.atl.image, imageBody s.atl.image] } ∧ logs s t [(0x1216, [])])))

/-- R450 to R453: the CRC units. CRC_INIT and CRC_SEED load the register and clear the count, CRC_DATA feeds the bytes of a store in order, and CRC_ALIVE of unit 0 at count 8 feeds and returns the next alive value, 0 for the first message after a cold start or a warm reset, after 255 again 1, and advances the counter once; at another count it returns all ones, feeds nothing, leaves the counter and sets ALIVE_ERR. The other units are as before. What the spec leaves to the model here: log entry 105. -/
def Obligations.CrcUnits : Prop :=
  (∀ s : State, s.die = .inReset → ∀ ue, gives (.coldStart ue) s fun t => t.nextAlive = 0) ∧
  (∀ (s : State) (t0 : Nat) (ue : List NorUe), s.die = .stopped → s.stop = .trip → s.thm.belowSince = some t0 →
    (s.elapseTo (t0 + 60000000000)).recentRestarts < s.nat O.thmAutoRestart → gives (.thermalRestart ue) s fun t => t.nextAlive = 0) ∧
  (∀ (s : State) (p : Party), s.die = .running → s.nat O.atlState = 1 → p.route = .bar2 →
    gives .lockstepMismatch s (fun t => t.nextAlive = 0) ∧ gives .sramUncorrectable s (fun t => t.nextAlive = 0) ∧
    (s.pln.armed = true → gives .watchdogExpiry s fun t => t.nextAlive = 0) ∧ serves (.atlWarmReset p) s p 0 (fun t => t.nextAlive = 0) ∧
    (s.nat O.updateState = 4 → fieldN s.atl.image 6 1 = 1 → serves (.updateApply p) s p 0 fun t => t.nextAlive = 0)) ∧
  ∀ (s : State) (u : Fin 4), s.die = .running → s.nat O.atlState = 1 → s.atl.crc.length = 4 →
    let unit : State → Nat → CrcUnit := fun t k => t.atl.crc.getD k {}
    let others : State → Prop := fun t => ∀ k, k ≠ u.val → unit t k = unit s k
    (gives (.crcInit u) s fun t => unit t u = { unit s u with reg := 0xFFFFFFFF, count := 0 } ∧ others t) ∧
    (∀ v : W32, gives (.crcSeed u v) s fun t => crcResult t u = v.toNat ∧ (unit t u).count = 0 ∧ others t) ∧
    (∀ data : Bytes, gives (.crcData u data) s fun t => unit t u =
      { unit s u with reg := crcFeed (crcPoly u) (unit s u).reg data, count := ((unit s u).count + data.length) % 2 ^ 32 } ∧ others t) ∧
    (u.val = 0 → (unit s 0).count = 8 → gives (.crcAlive u) s fun t => (unit t 0).result = s.nextAlive ∧ (unit t 0).count = 9 ∧
      (unit t 0).reg = crcFeed polyC (unit s 0).reg [BitVec.ofNat 8 s.nextAlive] ∧ shows t O.vipexAliveTx s.nextAlive ∧
      t.nextAlive = (if s.nextAlive = 255 then 1 else s.nextAlive + 1) ∧ others t) ∧
    (u.val = 0 → (unit s 0).count ≠ 8 → gives (.crcAlive u) s fun t =>
      unit t 0 = { unit s 0 with aliveErr := true, result := 0xFFFFFFFF } ∧ t.dict = s.dict ∧ t.obj = s.obj ∧ others t) ∧
    (u.val ≠ 0 → gives (.crcAlive u) s fun t => t = s)

/-- R462 to R466: the commit of Plinth limits. STAGE_VERIFIED of a good owner signature makes the set STAGED for 30 s, of a bad one reports 0x1302. CONFIRM_VERIFIED of a good site signature, or CONSENT_N low for 2,000 samples within the window (CONSENT_FALL, CONSENT_CONFIRMED), confirms it: with no head STARTING or ON it takes effect at once, else it waits; a bad one reports 0x1303. CONSENT_RISE breaks the count, CONSENT_STUCK logs 0x130C after 60 s, and COMMIT_EXPIRED drops the set with 0x130B when the window closes. What the spec leaves to the model here: log entry 106. -/
def Obligations.LimitCommits : Prop :=
  ∀ s : State, s.die = .running →
    (∀ g, s.pln.verifying = some g → gives .stageVerified s fun t => t.pln.verifying = none ∧
      (Config.ecdsaP384 Config.ownerKey (stageDigest g) g.sig = true → t.nat O.plinthState = 1 ∧ t.oct O.plinthStagedSet = g.set ∧
        t.pln.stage = some g ∧ t.pln.windowEnd = s.clk.now + 30000000000 ∧ t.nat O.plinthLastResult = 0 ∧ t.log = s.log) ∧
      (Config.ecdsaP384 Config.ownerKey (stageDigest g) g.sig = false → t.nat O.plinthState = s.nat O.plinthState ∧
        t.nat O.plinthLastResult = 0x1302 ∧ logs s t [(0x1302, [])])) ∧
    (let heads : Prop := s.headState 0 = 1 ∨ s.headState 0 = 2 ∨ s.headState 1 = 1 ∨ s.headState 1 = 2
     let agrees : Stage → Nat → State → Prop := fun g means t =>
      (heads → t.nat O.plinthState = 2 ∧ t.nat O.plinthCommitSeq = s.nat O.plinthCommitSeq) ∧
      (¬ heads → ¬ (s.nat O.tfNum * fieldN g.set 0x28 4 < fieldN g.set 0x24 4 * s.nat O.tfDen) → s.nat O.panelPowerState = 0 →
        t.nat O.plinthState = 0 ∧ shows t O.plinthMeanDrive (fieldN g.set 0x1C 2) ∧ t.int O.plinthTripPoint = O.plinthTripPoint.ty.fit (fieldI g.set 0x20 2) ∧
        shows t O.plinthCommitSeq (lsSeq g.set) ∧ (∀ k, k < 32 → shows t (O.plinthPeakDrive k) (fieldN g.set (0x34 + 2 * k) 2)) ∧ t.oct O.railOrder = cut g.set 0x2C 6 ∧
        t.pln.activeSlot = some (lsSlot g.set) ∧ t.pln.toWrite.isSome = true ∧ logs s t [(0x1301, [lsSeq g.set, means])]) ∧
      (¬ heads → s.nat O.tfNum * fieldN g.set 0x28 4 < fieldN g.set 0x24 4 * s.nat O.tfDen →
        t.nat O.plinthState = 0 ∧ t.nat O.plinthLastResult = 0x130A ∧ t.nat O.plinthCommitSeq = s.nat O.plinthCommitSeq ∧ logs s t [(0x130A, [])])
     (∀ g sig key, s.pln.confirming = some sig → s.pln.stage = some g → confirmKey s = some key → s.nat O.plinthState = 1 → gives .confirmVerified s fun t =>
       let good := Config.ecdsaP384 key (Config.sha384 ([0x43#8, 0x4E#8, 0x46#8, 0x4D#8] ++ stageDigest g)) sig
       (good = true → agrees g 0 t) ∧
       (good = false → t.nat O.plinthState = 1 ∧ t.nat O.plinthLastResult = 0x1303 ∧ logs s t [(0x1303, [])])) ∧
     ∀ g fell, s.pln.stage = some g → s.pln.fellAt = some fell → s.nat O.plinthState = 1 → s.pln.consentLow = true → fell + 2000000000 ≤ s.pln.windowEnd →
       gives .consentConfirmed s fun t => agrees g 1 t ∧ fell + 2000000000 ≤ t.clk.now) ∧
    (s.pln.consentLow = false → gives .consentFall s fun t => t.flag O.plinthConsent = true ∧ t.pln = { s.pln with
      consentLow := true, lowSince := s.clk.now, fellAt := if s.nat O.plinthState = 1 then some s.clk.now else none }) ∧
    (gives .consentRise s fun t => t.flag O.plinthConsent = false ∧ t.pln = { s.pln with consentLow := false, stuck := false, fellAt := none }) ∧
    (s.pln.consentLow = true → s.pln.stuck = false → gives .consentStuck s fun t =>
      t.pln = { s.pln with stuck := true, fellAt := none } ∧ s.pln.lowSince + 60000000000 ≤ t.clk.now ∧ logs s t [(0x130C, [])]) ∧
    (s.nat O.plinthState = 1 → gives .commitExpired s fun t => t.nat O.plinthState = 0 ∧ t.pln.stage = none ∧ t.oct O.plinthStagedSet = [] ∧
      s.pln.windowEnd ≤ t.clk.now ∧ t.nat O.plinthLastResult = 0x130B ∧ logs s t [(0x130B, [])])

/-- R27, R320, R473, R477 to R480, R482 to R484: the clip store at work. CLP_READ_ISSUE reads the next frame's bytes from the drive that holds them; CLP_READ_DONE puts the rebased segments into the stream queue, once its islands are powered and where stream_source is the clip store, and goes on to the next frame, the next pass, or the end of the play; CLP_READ_FAIL is counted and read again from the mirror. CLP_HEALTH_POLL reports a warning as 0x140D. CLP_COMMAND_DONE ends the running FORMAT, CREATE, WRITE, CLOSE or DELETE with its effect on the table, and every other clip as before. What the spec leaves to the model here: log entries 108, 109, 110. -/
def Obligations.ClipStore : Prop :=
  (∀ (s : State) (p : Play) (c : Clip) (e : Nat), s.die = .running → s.clp.play = some p → p.reading = none → s.nat O.clpState = 2 → s.clpHeld = false → nextRead s p = some (c, e) →
    s.queueRoom (e - p.pos) = true → gives .clpReadIssue s fun t =>
      let d := driveOf s (4096 * c.start + p.pos)
      t.clp.play = some { p with reading := some (e - p.pos, d.1, s.clk.now) } ∧ t.out = .drive d.1 false (4096 * 1024 + d.2) (e - p.pos) :: s.out) ∧
  (∀ (s : State) (p : Play) (c : Clip) (n d since : Nat), s.die = .running → s.clp.play = some p → p.reading = some (n, d, since) → s.clip p.clip = some c →
    (let bytes := (segsOf (cut (s.clipData p.clip) p.pos n)).flatMap (rebaseSegment s.tf (p.start + p.pass * c.span))
     gives .clpReadDone s fun t =>
      (bytes ≠ [] → s.source = 3 → s.streamPowered = true → s.sdec.gate = [] →
        t.sdec.queue = s.sdec.queue ++ [{ transport := 3, addr := 0x40000000 + s.sdec.wr, bytes := bytes }]) ∧
      (bytes ≠ [] → s.source = 3 → s.streamPowered = false → t.sdec.queue = s.sdec.queue ∧ t.sdec.gate = s.sdec.gate ++ [(3, bytes)]) ∧
      (s.source ≠ 3 → t.sdec = s.sdec) ∧
      (p.pos + n < c.len → t.clp.play = some { p with pos := p.pos + n, frame := p.frame + 1, reading := none }) ∧
      (c.len ≤ p.pos + n → p.passes = 0 ∨ p.pass + 1 < p.passes → shows t O.clpPlayBase (p.start + (p.pass + 1) * c.span) ∧
        t.clp.play = some { p with pass := p.pass + 1, pos := 0, frame := 0, reading := none }) ∧
      (c.len ≤ p.pos + n → p.passes ≠ 0 → p.passes ≤ p.pass + 1 → s.clp.fallbackDue = false → t.clp.play = none ∧ t.nat O.clpPlayState = 0 ∧ t.nat O.clpPlayClip = 0)) ∧
    (d < 2 → s.clp.drives.length = 2 → s.nat O.clpLayout ≠ 2 → s.driveReady (1 - d) = true → ((s.drive d).fails.filter fun x => s.clk.now < x + 60000000000).length < 2 →
      gives .clpReadFail s fun t => counts s t O.clpReadFailCount 1 ∧ t.clp.play = some { p with reading := some (n, 1 - d, s.clk.now) } ∧
        t.out = .drive (1 - d) false (4096 * (1024 + c.start) + p.pos) n :: s.out ∧ t.log = s.log)) ∧
  (∀ (s : State) (d : Fin 2), s.die = .running → (gives (.clpHealthPoll d false) s fun t => t = s) ∧
    (s.nat O.clpState = 2 → s.driveReady d = true → s.clpHeld = false → gives (.clpHealthPoll d true) s fun t =>
      t.nat O.clpLastStatus = 0x140D ∧ counts s t (O.faultFamilyCount 12) 1 ∧ logged s t (0x140D, [d.val]) ∧ s.nat (O.clpDriveState d) = t.nat (O.clpDriveState d))) ∧
  ∀ (s : State) (v : Bytes), s.die = .running → s.nat O.clpState = 2 → s.clpHeld = false → s.clp.cmd = some v →
    let id := fieldN v 2 2
    let ends : State → (State → Prop) → Prop := fun t P => t.nat O.clpCmdState = 2 ∧ t.nat O.clpCmdResult = 0 ∧ t.clp.cmd = none ∧ P t
    let rest : State → Prop := fun t => ∀ k, k ≠ id → t.clip k = s.clip k
    (fieldN v 0 1 = 1 → s.driveReady 0 = true → s.driveReady 1 = true → fieldN v 1 1 = 1 ∨ fieldN v 1 1 = 2 → gives .clpCommandDone s fun t =>
      ends t fun t => t.clp.table = [] ∧ t.nat O.clpLayout = fieldN v 1 1 ∧ t.nat O.clpClipCount = 0 ∧ t.clp.volumes = s.clp.volumes + 1) ∧
    (∀ r, fieldN v 0 1 = 2 → id ≠ 0 → id ≤ 4096 → s.clip id = none → (freeRanges s.volumeBlocks s.clp.table).find? (fun r => ceilDiv (fieldN v 8 8) 4096 ≤ r.2) = some r →
      gives .clpCommandDone s fun t => ends t fun t => t.nat O.clpLastId = id ∧ rest t ∧ t.clip id = some
        { id := id, state := 1, start := r.1, blocks := ceilDiv (fieldN v 8 8) 4096, tfNum := fieldN v 0x10 4, tfDen := fieldN v 0x14 4, created := s.ns / 1000000000 }) ∧
    (∀ c, fieldN v 0 1 = 3 → s.clip id = some c → c.state = 1 → fieldN v 4 4 % 4 = 0 → 36 ≤ fieldN v 4 4 → fieldN v 4 4 ≤ 268435456 → fieldN v 8 8 % 4 = 0 →
      clpRange s (fieldN v 8 8) (fieldN v 4 4) = true → c.len + fieldN v 4 4 ≤ 4096 * c.blocks → clipDataOk (s.clipData id ++ s.hbmRead (fieldN v 8 8) (fieldN v 4 4)) = true →
      gives .clpCommandDone s fun t => ends t fun t => t.clipData id = s.clipData id ++ s.hbmRead (fieldN v 8 8) (fieldN v 4 4) ∧ t.hbm = s.hbm ∧ rest t) ∧
    (∀ c, fieldN v 0 1 = 4 → s.clip id = some c → c.state = 1 → marksOf (s.clipData id) ≠ [] →
      gives .clpCommandDone s fun t => ends t fun t => t.clip id = some (readyClip c (s.clipData id)) ∧ rest t) ∧
    (∀ c, fieldN v 0 1 = 5 → s.clip id = some c → s.nat O.clpFallbackClip ≠ id → s.clp.play = none →
      gives .clpCommandDone s fun t => ends t fun t => t.clip id = none ∧ rest t) ∧
    (3 ≤ fieldN v 0 1 → s.clip id = none → gives .clpCommandDone s fun t =>
      t.nat O.clpCmdState = 3 ∧ t.nat O.clpCmdResult = 0x1409 ∧ t.clp.table = s.clp.table ∧ logs s t [(0x1409, [])])

/-- R370, R371, R372, R373: DICT_READ answers the object's value, 0x1602 where no object stands there, and changes neither bank; DICT_WRITE of a shadowed object puts the value into Maquette, Cast as it was, and is refused as read-only with 0x1603, or with 0x1502 while a swap is under way; of two writers of one object in one DICTIONARY_TICK the BAR2 one wins and the other is answered 0x1601. What the spec leaves to the model here: log entries 75, 77. -/
def Obligations.Requests : Prop :=
  ∀ (s : State) (index sub : Nat) (o : Obj), index < 0xC000 →
    (∀ (p : Party) (maq : Bool), objAt index sub = none → serves (.dictRead p index sub maq) s p 0x1602 fun t => t.cast = s.cast ∧ t.maq = s.maq) ∧
    (∀ (p : Party) (maq : Bool), objAt index sub = some o → o.ty ≠ .domain → o.index ≠ 0x3101 → serves (.dictRead p index sub maq) s p 0 fun t =>
      t.cast = s.cast ∧ t.maq = s.maq ∧ (p.route = .bar2 → t.dict.length = (s.valueBytes o maq).length ∧ t.dict.data.take (s.valueBytes o maq).length = s.valueBytes o maq) ∧
      (p.route ≠ .bar2 → t.out.head? = some (.vipex p 0 (leBytes 2 (s.valueBytes o maq).length ++ zeros 2 ++ s.valueBytes o maq))) ∧
      (o.key ≠ O.memMinTolerance.key → t.obj = s.obj)) ∧
    (∀ (p : Party) (v : Bytes), objAt index sub = some o → o.access = .ro ∨ o.access = .cnst → o.key ≠ O.dictLastStatus.key → serves (.dictWrite p index sub v) s p 0x1603 fun t =>
      t.cast = s.cast ∧ t.maq = s.maq ∧ t.val o = s.val o) ∧
    (objAt index sub = some o → o.access = .rws → o.ty ≠ .domain → (∀ f ∈ allFns, f.enableObj.key ≠ o.key) → o.key ≠ O.cfgSwapRequest.key →
      (∀ (p : Party) (v : Bytes), lengthOk o v.length = true → rangeOk o v = true →
        (s.nat O.cfgSwapState = 0 → s.cfg.copying = false → serves (.dictWrite p index sub v) s p 0 fun t =>
          t.valM o = o.ty.parse v ∧ t.cast = s.cast ∧ t.flag O.cfgMaquetteDirty = true) ∧
        (s.nat O.cfgSwapState ≠ 0 → serves (.dictWrite p index sub v) s p 0x1502 fun t => t.maq = s.maq ∧ t.cast = s.cast)) ∧
      ∀ (p q : Party) (v w : Bytes), lengthOk o v.length = true → rangeOk o v = true → lengthOk o w.length = true → rangeOk o w = true →
        s.nat O.cfgSwapState = 0 → s.cfg.copying = false → s.dict.inbox = [] → s.dict.due = [] → (index ≠ O.cfgSwapRequest.index ∨ sub ≠ O.cfgSwapRequest.sub) →
        servable s p → servable s q → p.route = .bar2 → p.node ≤ q.node → q.route ≠ .bar2 →
        gives (.dictionaryTick [⟨q, .write index sub w⟩, ⟨p, .write index sub v⟩]) s fun t =>
          t.valM o = o.ty.parse v ∧ t.dict.status = 0 ∧ t.dict.done = true ∧ .vipex q 0x1601 [] ∈ t.out ∧ counts s t O.dictBusyCount 1)

/-- R216, R382, R383: DOMAIN transfers. DOMAIN_OPEN answers a handle and opens a transfer, that of a read holding the value as it stands; DOMAIN_DATA moves the next segment, or fails with 0x0A02 where its access to memory met an uncorrectable sector; DOMAIN_CLOSE of a read ends it, and of a complete write whose CRC holds applies the value to Maquette; DOMAIN_ABORT, and DOMAIN_TIMEOUT after 5 s, drop it. What the spec leaves to the model here: log entries 78, 129. -/
def Obligations.DomainTransfers : Prop :=
  (∀ (s : State) (p : Party) (index sub total : Nat) (maq : Bool) (o : Obj), index < 0xC000 → objAt index sub = some o → o.ty = .domain → s.dict.transfers.length < 4 →
    (serves (.domainOpen p index sub true maq total) s p 0 fun t => (p.route = .bar2 → t.dict.handle = s.freshHandle) ∧
      t.dict.transfers = s.dict.transfers ++ [{ handle := s.freshHandle, party := p, obj := o, isRead := true, total := (s.valueBytes o maq).length,
                                                maquette := maq, data := s.valueBytes o maq, lastAt := s.clk.now }]) ∧
    (o.access = .rws → total ≤ domainSize o → s.nat O.cfgSwapState = 0 → s.writing o = false → o.key ≠ O.updateImage.key →
      serves (.domainOpen p index sub false maq total) s p 0 fun t => (p.route = .bar2 → t.dict.handle = s.freshHandle) ∧
        t.dict.transfers = s.dict.transfers ++ [{ handle := s.freshHandle, party := p, obj := o, isRead := false, total := total, maquette := maq, lastAt := s.clk.now }])) ∧
  (∀ (s : State) (p : Party) (h : Nat), s.transfer h = none → serves (.domainAbort p h) s p 0x1609 fun t => t.dict.transfers = s.dict.transfers) ∧
  ∀ (s : State) (p : Party) (h : Nat) (x : Transfer), s.transfer h = some x →
    (∀ offset maxLen data, x.isRead = true → x.prevOff ≠ some offset → offset = State.moved x →
      let n := min (min maxLen (if p.route = .bar2 then 524288 else 8192)) (x.total - offset)
      serves (.domainData p h offset maxLen data none) s p 0 fun t => (p.route = .bar2 → t.dict.length = (cut x.data offset n).length ∧ t.dict.data.take (cut x.data offset n).length = cut x.data offset n) ∧
        t.transfer h = some { x with prevOff := some offset, prevLen := n, lastAt := s.clk.now }) ∧
    (∀ data maxLen, x.isRead = false → x.prevOff ≠ some x.data.length → 512 ≤ data.length → data.length ≤ 8192 → x.data.length + data.length ≤ x.total →
      serves (.domainData p h x.data.length maxLen data none) s p 0 fun t =>
        t.transfer h = some { x with data := x.data ++ data, prevOff := some x.data.length, prevLen := data.length, lastAt := s.clk.now }) ∧
    (∀ (a offset maxLen : Nat) (data : Bytes), serves (.domainData p h offset maxLen data (some a)) s p 0x0A02 fun t =>
      t.transfer h = some x ∧ shows t O.memLastUeAddr (a / 32 * 32) ∧ logged s t (0x0A02, [a / 32 * 32, s.partitionOf (a / 32 * 32), 7])) ∧
    (∀ crc, x.isRead = true → serves (.domainClose p h crc none) s p 0 fun t => t.transfer h = none ∧ t.maq = s.maq ∧ t.cast = s.cast) ∧
    (x.isRead = false → x.obj.access = .rws → x.data.length = x.total → domainLength x.obj x.data.length = 0 → s.nat O.cfgSwapState = 0 → s.cfg.copying = false →
      x.obj.key ≠ O.updateImage.key → serves (.domainClose p h (crc32c x.data) none) s p 0 fun t =>
        t.transfer h = none ∧ t.valM x.obj = x.obj.ty.parse x.data ∧ t.cast = s.cast) ∧
    (∀ crc, x.isRead = false → x.obj.access = .rws → x.data.length = x.total → crc ≠ crc32c x.data → s.cfg.copying = false →
      serves (.domainClose p h crc none) s p 0x160A fun t => t.transfer h = none ∧ t.maq = s.maq) ∧
    (serves (.domainAbort p h) s p 0 fun t => t.transfer h = none ∧ t.maq = s.maq ∧ t.cast = s.cast) ∧
    (s.die = .running → gives (.domainTimeout h) s fun t => t.transfer h = none ∧ x.lastAt + 5000000000 ≤ t.clk.now ∧ t.nat O.dictLastStatus = 0x1609)

/-- R44, R45, R256, R257: FUNCTION_ENABLE writes the enable, and a function that is OFF enters STARTING while one that is STOPPING holds the enable; FUNCTION_DISABLE clears it, and a function that is STARTING or ON enters STOPPING. Panel power starts where the supply is good, and stops while a rail is on. What the spec leaves to the model here: log entry 57. -/
def Obligations.FunctionSwitches : Prop :=
  ∀ (s : State) (p : Party) (n : Fin 17),
    let f := fnOf n
    (serves (.functionEnable p n) s p 0 fun t => t.flag f.enableObj = true ∧
      (n.val < 16 → s.nat f.stateObj = 0 → t.nat f.stateObj = 1) ∧
      (s.nat f.stateObj = 1 ∨ s.nat f.stateObj = 2 → t.nat f.stateObj = s.nat f.stateObj) ∧
      (s.nat f.stateObj = 3 → t.nat f.stateObj = 3 ∧ t.held.contains f = true) ∧
      (∀ r, n.val = 16 → s.nat f.stateObj = 0 → s.pwr.pfailLow = false → s.nat O.pwrHoldupState = 0 → s.rails[0]? = some r → t.nat f.stateObj = 1 ∧ bitOf t.pwr.en r = true)) ∧
    serves (.functionDisable p n) s p 0 fun t => t.flag f.enableObj = false ∧
      (s.nat f.stateObj = 3 → t.nat f.stateObj = 3 ∧ t.held.contains f = false) ∧
      (s.nat f.stateObj = 0 → t.nat f.stateObj = 0) ∧
      (n.val < 16 → s.nat f.stateObj = 1 ∨ s.nat f.stateObj = 2 → t.nat f.stateObj = 3) ∧
      (n.val = 16 → s.nat f.stateObj = 1 ∨ s.nat f.stateObj = 2 → (s.lastOn 6).isSome = true → t.nat f.stateObj = 3)

/-- R150, R153, R155, R320, R359 to R362, R375, R376, R381, R390, R429, R444, R486: the writes that act as commands on the engine, TIME, the stores and the sources, each with its effect and its status where it is taken, and the code that refuses it where it is not. What the spec leaves to the model here: log entries 45, 64, 65, 76, 80. -/
def Obligations.CommandWrites : Prop :=
  ∀ (s : State) (p : Party),
    (∀ v : Bytes, v.length = 10 →
      (s.selected = none → fieldN v 6 4 ≤ 999999999 → serves (.timeSet p v) s p 0 fun t =>
        t.tim = { s.tim with step := some ((fieldN v 0 6 * 1000000000 + fieldN v 6 4 : Nat) - (s.ns : Int)) }) ∧
      (s.selected.isSome = true → serves (.timeSet p v) s p 0x0307 fun t => t.tim = s.tim)) ∧
    (∀ v : Bytes, v.length = 8 →
      (s.selected = none → serves (.timeAdjust p v) s p 0 fun t => t.tim.adjust = some (signed 64 (leNat v) * 2 ^ 48, s.int O.timeRate)) ∧
      (s.selected.isSome = true → serves (.timeAdjust p v) s p 0x0307 fun t => t.tim = s.tim)) ∧
    (∀ v : Bytes, v.length = 32 →
      let a := parseAction p v
      (actionOk a v = true → s.ns ≤ a.due + 10000000000 → (bitOf a.flags 0 = false ∨ s.tEpoch s.curEpoch ≤ a.due) → (∀ x ∈ s.tim.actions, x.seq ≠ a.seq) →
        s.tim.actions.length < 256 → serves (.timeActionAdd p v) s p 0 fun t =>
          t.tim.actions = s.tim.actions ++ [a] ∧ t.nat O.timeActionPending = s.tim.actions.length + 1) ∧
      (actionOk a v = false → serves (.timeActionAdd p v) s p 0x0315 fun t => t.tim = s.tim) ∧
      (actionOk a v = true → a.due + 10000000000 < s.ns → serves (.timeActionAdd p v) s p 0x0311 fun t => t.tim = s.tim)) ∧
    (∀ seq, seq < 2 ^ 32 → serves (.timeActionCancel p seq) s p 0 fun t => t.tim.actions = s.tim.actions.filter (·.seq != seq)) ∧
    (s.nat O.cfgSwapState = 0 → servable s p → gives (.swapRequest p) s fun t =>
      t.nat O.cfgSwapState = 1 ∧ t.cfg.requester = some ⟨p, .write 0xA100 1 [1#8], none⟩ ∧ t.cast = s.cast ∧ t.maq = s.maq ∧ (p.route = .bar2 → t.dict.busy = true)) ∧
    (s.nat O.cfgSwapState ≠ 0 → serves (.swapRequest p) s p 0x1503 fun t => t.nat O.cfgSwapState = s.nat O.cfgSwapState ∧ t.maq = s.maq) ∧
    (s.nat O.cfgSwapState = 0 → serves (.cfgMaquetteReset p) s p 0 fun t => t.maq = s.cast ∧ t.cast = s.cast ∧ t.flag O.cfgMaquetteDirty = false) ∧
    (s.nat O.cfgSwapState ≠ 0 → serves (.cfgMaquetteReset p) s p 0x1502 fun t => t.maq = s.maq ∧ t.cast = s.cast) ∧
    (s.nat O.cfgStoreState ≠ 1 → s.nat O.cfgStoreState ≠ 2 → serves (.cfgStore p) s p 0 fun t =>
      t.nat O.cfgStoreState = 1 ∧ t.atl.configGen = s.nat O.cfgBankGeneration ∧ t.nor = s.nor) ∧
    (s.nat O.cfgStoreState = 1 ∨ s.nat O.cfgStoreState = 2 → serves (.cfgStore p) s p 0x1505 fun t => t.atl = s.atl) ∧
    (s.nat O.patinaStoreState ≠ 1 → s.nat O.patinaStoreState ≠ 2 → serves (.patinaStore p) s p 0 fun t =>
      t.nat O.patinaStoreState = 1 ∧ t.atl.patinaImage = s.oct O.patinaLattice ∧ t.nor = s.nor) ∧
    (s.nat O.patinaStoreState = 1 ∨ s.nat O.patinaStoreState = 2 → serves (.patinaStore p) s p 0x0707 fun t => t.atl = s.atl) ∧
    (serves (.atlWarmReset p) s p 0 fun t => t.nat O.atlState = 2 ∧ t.nat O.atlLastResetCause = 7 ∧ counts s t O.warmResetCount 1) ∧
    (s.nat O.updateState = 4 → fieldN s.atl.image 6 1 = 1 → serves (.updateApply p) s p 0 fun t =>
      t.nor.trial = some (1 - s.nor.active) ∧ t.nor.attempted = false ∧ t.nat O.updateState = 0 ∧ t.nat O.atlState = 2 ∧ t.nat O.atlLastResetCause = 6) ∧
    (s.nat O.updateState ≠ 4 → serves (.updateApply p) s p 0x1215 fun t => t.nor = s.nor ∧ t.nat O.atlState = 1) ∧
    (s.hif.hostSilent = true → serves (.fallbackRelease p) s p 0x140E fun t => t.clp = s.clp) ∧
    (s.hif.hostSilent = false → s.hif.fallback = true → serves (.fallbackRelease p) s p 0 fun t =>
      t.hif.fallback = false ∧ t.clp.play = none ∧ shows t O.streamSource s.clp.savedSource ∧ t.nat O.clpPlayState = 0) ∧
    (∀ key : Bytes, key.length = 32 →
      (p.route = .bar2 ∨ p.secured = true → serves (.vipexKeyWrite p key) s p 0 fun t => t.dict.key = key ∧ t.dict.keyWritten = true ∧ t.dict.lastSeq = []) ∧
      (p.route ≠ .bar2 → p.secured = false → serves (.vipexKeyWrite p key) s p 0x160F fun t => t.dict.key = s.dict.key)) ∧
    (∀ v, v ≤ 3 → (s.hif.fallback = false → serves (.streamSourceWrite p v) s p 0 fun t => t.nat O.streamSource = v) ∧
      (s.hif.fallback = true → serves (.streamSourceWrite p v) s p 0x0106 fun t => t.nat O.streamSource = s.nat O.streamSource)) ∧
    (∀ v : Bytes, v.length = 16 →
      (s.nat O.captureState = 2 → s.cal.cap.valid = true → s.cal.cap.confirmed = true → fieldN v 0 2 = s.nat O.captureConfirmed + 1 → serves (.captureStep p v) s p 0 fun t =>
        t.cal = { s.cal with cap := { s.cal.cap with step := v, attempt := 0, confirmed := false, shownAt := none } }) ∧
      (s.nat O.captureState ≠ 2 → serves (.captureStep p v) s p 0x0719 fun t => t.cal = s.cal)) ∧
    ∀ v : Bytes, v.length = 8 →
      (∀ tag, s.nat O.captureState = 2 → s.cal.cap.valid = true → s.cal.cap.presented = some tag → fieldN v 0 1 = tag / 2 ^ 24 →
        fieldN v 2 2 = tag / 2 ^ 8 % 65536 → fieldN v 2 2 = fieldN s.cal.cap.step 0 2 →
        (fieldN v 4 4 = tag → serves (.captureReport p v) s p 0 fun t => t.cal.cap.confirmed = true ∧ t.nat O.captureConfirmed = fieldN s.cal.cap.step 0 2) ∧
        (fieldN v 4 4 ≠ tag → s.cal.cap.attempt < 2 → serves (.captureReport p v) s p 0 fun t =>
          t.cal.cap.attempt = s.cal.cap.attempt + 1 ∧ t.cal.cap.confirmed = s.cal.cap.confirmed) ∧
        (fieldN v 4 4 ≠ tag → 2 ≤ s.cal.cap.attempt → serves (.captureReport p v) s p 0 fun t =>
          t.nat O.captureState = 3 ∧ t.nat O.captureResult = 0x0716 ∧ t.cal.cap.valid = false)) ∧
      (s.nat O.captureState ≠ 2 ∨ s.cal.cap.presented = none → serves (.captureReport p v) s p 0x0718 fun t => t.cal = s.cal)

/-- R462, R463, R465, R477, R481, R482: the writes that act as commands on the Plinth and the clip store. PLINTH_STAGE of a set that passes checks 1 to 6 goes to verification; PLINTH_CONFIRM hands over the site signature; PLINTH_CANCEL drops a STAGED set. CLP_FORMAT, CLP_CREATE, CLP_WRITE, CLP_CLOSE and CLP_DELETE run until they end; CLP_PLAY and CLP_STOP act at once. What the spec leaves to the model here: log entries 106, 110. -/
def Obligations.CommissionWrites : Prop :=
  ∀ (s : State) (p : Party),
    (∀ v : Bytes, v.length = 224 ∨ v.length = 320 →
      (s.nat O.plinthState ≠ 0 → serves (.plinthStage p v) s p 0x1309 fun t => t.pln = s.pln ∧ t.nat O.plinthLastResult = 0x1309) ∧
      (s.nat O.plinthState = 0 → s.pln.verifying = none → lsForm s.pln v = true → cut v 8 16 = (s.oct O.serialNumber ++ zeros 16).take 16 →
        lsSeq v = s.nat O.plinthCommitSeq + 1 → lsValues s.pln v = true → lsCeilings s.pln v = true → serves (.plinthStage p v) s p 0 fun t =>
          t.pln = { s.pln with verifying := some { set := v.take 128, key := cut v 128 (v.length - 224), sig := v.drop (v.length - 96) } } ∧ t.nat O.plinthState = 0)) ∧
    (∀ v : Bytes, v.length = 96 →
      (s.nat O.plinthState = 0 → serves (.plinthConfirm p v) s p 0x130D fun t => t.pln = s.pln) ∧
      (s.nat O.plinthState ≠ 0 → (confirmKey s).isSome = true → serves (.plinthConfirm p v) s p 0 fun t => t.pln = { s.pln with confirming := some v })) ∧
    (s.nat O.plinthState = 1 → serves (.plinthCancel p) s p 0 fun t => t.nat O.plinthState = 0 ∧ t.pln.stage = none ∧ t.nat O.plinthLastResult = 0x130F) ∧
    (s.nat O.plinthState = 2 → serves (.plinthCancel p) s p 0x1309 fun t => t.nat O.plinthState = 2 ∧ t.pln = s.pln) ∧
    ∀ v : Bytes, v.length = 32 →
      let cmd : Nat → Instr := fun op => if op = 1 then .clpFormat p v else if op = 2 then .clpCreate p v else if op = 3 then .clpWrite p v
        else if op = 4 then .clpClose p v else if op = 5 then .clpDelete p v else if op = 6 then .clpPlay p v else .clpStop p v
      (∀ op, 1 ≤ op → op ≤ 7 → fieldN v 0 1 = op → s.nat O.clpState ≠ 2 → serves (cmd op) s p 0x1413 fun t => t.clp = s.clp) ∧
      (s.nat O.clpState = 2 → s.nat O.clpCmdState ≠ 1 → s.clpHeld = false →
        (∀ op, 1 ≤ op → op ≤ 5 → fieldN v 0 1 = op → s.clp.play = none → (op = 1 → fieldN v 1 1 = 1 ∨ fieldN v 1 1 = 2) → serves (cmd op) s p 0 fun t =>
          t.nat O.clpCmdState = 1 ∧ t.clp = { s.clp with cmd := some v }) ∧
        (fieldN v 0 1 = 6 → playCheck s (fieldN v 2 2) (fieldN v 8 8) true = 0 → serves (.clpPlay p v) s p 0 fun t =>
          t.nat O.clpCmdState = 2 ∧ t.nat O.clpPlayState = 1 ∧ shows t O.clpPlayClip (fieldN v 2 2) ∧ t.clp.play = some
            { clip := fieldN v 2 2, passes := fieldN v 0x10 4, start := if fieldN v 8 8 = 0 then earliestStart s else fieldN v 8 8, fallback := false }) ∧
        (fieldN v 0 1 = 6 → playCheck s (fieldN v 2 2) (fieldN v 8 8) true ≠ 0 → serves (.clpPlay p v) s p 0 fun t =>
          t.nat O.clpCmdState = 3 ∧ shows t O.clpCmdResult (playCheck s (fieldN v 2 2) (fieldN v 8 8) true) ∧ t.clp.play = s.clp.play) ∧
        (∀ x, fieldN v 0 1 = 7 → s.clp.play = some x → x.fallback = false → s.clp.fallbackDue = false → serves (.clpStop p v) s p 0 fun t =>
          t.nat O.clpCmdState = 2 ∧ t.nat O.clpPlayState = 0 ∧ t.clp.play = none))

/-- The queue is first in, first out: a step with a command at the front is that command's effect on the state with the rest of the queue. -/
def Obligations.StepTakesFront : Prop :=
  ∀ (c : Instr) (rest : List Instr) (s : State), step { s with pending := c :: rest } = exec c { s with pending := rest }

/-- Every command of the table answers a next state, whatever its operands and whatever the state: no rule of the spec stops the block. What the spec leaves to the model here: log entry 5. -/
def Obligations.CommandsAnswer : Prop := ∀ (c : Instr) (s : State), goesOn (exec c s) = true

/-- R348, with the choice of log entry 1 that a step on an empty queue is one nanosecond: display time, with its remainder, advances by exactly one nanosecond times 1 + rate while TIME has its clock, and stands still without it. What the spec leaves to the model here: log entries 1, 112. -/
def Obligations.IdleTick : Prop :=
  ∀ s : State, s.pending = [] → ∃ t, step s = .next t ∧ t.pending = [] ∧ t.clk.now = s.clk.now + 1 ∧ t.obj = s.obj ∧
    (s.die = .running → (s.island 5).lost = false → -2 ^ 48 ≤ s.int O.timeRate →
      (t.clk.disp : Int) * 65536 + t.clk.rem = (s.clk.disp : Int) * 65536 + s.clk.rem + 2 ^ 48 + s.int O.timeRate) ∧
    (s.die ≠ .running ∨ (s.island 5).lost = true → t.clk.disp = s.clk.disp)

/-- The frame of every command: outside the components and objects that `touches` names for it, a next state holds what the state before held. -/
def Obligations.CommandFrames : Prop := ∀ (c : Instr) (s t : State), exec c s = .next t → framed (touches c) s t

/-- Every step keeps HBM in its canonical form and loses no waiting command but the one it takes. What the spec leaves to the model here: log entry 15. -/
def Obligations.MemoryStaysCanonical : Prop :=
  ∀ s t : State, Memory.wf s = true → step s = .next t → Memory.wf t = true ∧ t.pending = s.pending.drop 1

/-- R507: after reset the die is held in reset with nothing in HBM, no command waiting, nothing in the event log, and every object at its card's default, in both banks. What the spec leaves to the model here: log entries 2, 3. -/
def Obligations.ResetState : Prop :=
  State.reset.die = .inReset ∧ State.reset.hbm = [] ∧ Memory.wf State.reset = true ∧ State.reset.pending = [] ∧ State.reset.log.staging = [] ∧ State.reset.flt = [] ∧
  ∀ o : Obj, State.reset.val o = dfltOn .h4 o ∧ State.reset.valM o = dfltOn .h4 o

/-- R420, R508: while the die is in reset or stopped, a command changes nothing, but those of the supply, the reset pin, the hold-up pin, the rail-down and the sensors. What the spec leaves to the model here: log entry 5. -/
def Obligations.StoppedDie : Prop :=
  ∀ (c : Instr) (s : State), s.die ≠ .running →
    (match c with
      | .coldStart .. | .resetNAssert | .thermalRestart .. | .powerLoss | .pfailFall | .pfailRise | .railDownStep | .thmSample .. | .tripRecordProgrammed => True
      | _ => exec c s = .next s)
end

