-- ==== Sys2Proof/Laws/State.lean ====
section
/-! SUPPORT. The fields of the state after each shared update: one rewriting rule for each field, for the named updates of Machine/Ops.lean and of the subsystems. -/

namespace Sys2Proof.Machine

@[simp] theorem State.modAdm_fields (s : State) (f : Adm → Adm) :
    (s.modAdm f).part = s.part ∧ (s.modAdm f).die = s.die ∧ (s.modAdm f).stop = s.stop ∧ (s.modAdm f).clk = s.clk ∧ (s.modAdm f).obj = s.obj ∧
    (s.modAdm f).cast = s.cast ∧ (s.modAdm f).maq = s.maq ∧ (s.modAdm f).cfg = s.cfg ∧ (s.modAdm f).held = s.held ∧ (s.modAdm f).isl = s.isl ∧
    (s.modAdm f).hbm = s.hbm ∧ (s.modAdm f).figs = s.figs ∧ (s.modAdm f).sdec = s.sdec ∧ (s.modAdm f).rrec = s.rrec ∧ (s.modAdm f).adm = f s.adm ∧
    (s.modAdm f).cal = s.cal ∧ (s.modAdm f).rse = s.rse ∧ (s.modAdm f).pdp = s.pdp ∧ (s.modAdm f).pwr = s.pwr ∧ (s.modAdm f).link = s.link ∧
    (s.modAdm f).scan = s.scan ∧ (s.modAdm f).rasp = s.rasp ∧ (s.modAdm f).aud = s.aud ∧ (s.modAdm f).tim = s.tim ∧ (s.modAdm f).mem = s.mem ∧
    (s.modAdm f).thm = s.thm ∧ (s.modAdm f).nor = s.nor ∧ (s.modAdm f).atl = s.atl ∧ (s.modAdm f).pln = s.pln ∧ (s.modAdm f).clp = s.clp ∧
    (s.modAdm f).hif = s.hif ∧ (s.modAdm f).dict = s.dict ∧ (s.modAdm f).log = s.log ∧ (s.modAdm f).flt = s.flt ∧ (s.modAdm f).out = s.out ∧
    (s.modAdm f).pending = s.pending ∧ (s.modAdm f).free = s.free := by
  simp [State.modAdm]

@[simp] theorem State.modSdec_fields (s : State) (f : Sdec → Sdec) :
    (s.modSdec f).part = s.part ∧ (s.modSdec f).die = s.die ∧ (s.modSdec f).stop = s.stop ∧ (s.modSdec f).clk = s.clk ∧ (s.modSdec f).obj = s.obj ∧
    (s.modSdec f).cast = s.cast ∧ (s.modSdec f).maq = s.maq ∧ (s.modSdec f).cfg = s.cfg ∧ (s.modSdec f).held = s.held ∧ (s.modSdec f).isl = s.isl ∧
    (s.modSdec f).hbm = s.hbm ∧ (s.modSdec f).figs = s.figs ∧ (s.modSdec f).sdec = f s.sdec ∧ (s.modSdec f).rrec = s.rrec ∧ (s.modSdec f).adm = s.adm ∧
    (s.modSdec f).cal = s.cal ∧ (s.modSdec f).rse = s.rse ∧ (s.modSdec f).pdp = s.pdp ∧ (s.modSdec f).pwr = s.pwr ∧ (s.modSdec f).link = s.link ∧
    (s.modSdec f).scan = s.scan ∧ (s.modSdec f).rasp = s.rasp ∧ (s.modSdec f).aud = s.aud ∧ (s.modSdec f).tim = s.tim ∧ (s.modSdec f).mem = s.mem ∧
    (s.modSdec f).thm = s.thm ∧ (s.modSdec f).nor = s.nor ∧ (s.modSdec f).atl = s.atl ∧ (s.modSdec f).pln = s.pln ∧ (s.modSdec f).clp = s.clp ∧
    (s.modSdec f).hif = s.hif ∧ (s.modSdec f).dict = s.dict ∧ (s.modSdec f).log = s.log ∧ (s.modSdec f).flt = s.flt ∧ (s.modSdec f).out = s.out ∧
    (s.modSdec f).pending = s.pending ∧ (s.modSdec f).free = s.free := by
  simp [State.modSdec]

@[simp] theorem State.modPdp_fields (s : State) (f : Pdp → Pdp) :
    (s.modPdp f).part = s.part ∧ (s.modPdp f).die = s.die ∧ (s.modPdp f).stop = s.stop ∧ (s.modPdp f).clk = s.clk ∧ (s.modPdp f).obj = s.obj ∧
    (s.modPdp f).cast = s.cast ∧ (s.modPdp f).maq = s.maq ∧ (s.modPdp f).cfg = s.cfg ∧ (s.modPdp f).held = s.held ∧ (s.modPdp f).isl = s.isl ∧
    (s.modPdp f).hbm = s.hbm ∧ (s.modPdp f).figs = s.figs ∧ (s.modPdp f).sdec = s.sdec ∧ (s.modPdp f).rrec = s.rrec ∧ (s.modPdp f).adm = s.adm ∧
    (s.modPdp f).cal = s.cal ∧ (s.modPdp f).rse = s.rse ∧ (s.modPdp f).pdp = f s.pdp ∧ (s.modPdp f).pwr = s.pwr ∧ (s.modPdp f).link = s.link ∧
    (s.modPdp f).scan = s.scan ∧ (s.modPdp f).rasp = s.rasp ∧ (s.modPdp f).aud = s.aud ∧ (s.modPdp f).tim = s.tim ∧ (s.modPdp f).mem = s.mem ∧
    (s.modPdp f).thm = s.thm ∧ (s.modPdp f).nor = s.nor ∧ (s.modPdp f).atl = s.atl ∧ (s.modPdp f).pln = s.pln ∧ (s.modPdp f).clp = s.clp ∧
    (s.modPdp f).hif = s.hif ∧ (s.modPdp f).dict = s.dict ∧ (s.modPdp f).log = s.log ∧ (s.modPdp f).flt = s.flt ∧ (s.modPdp f).out = s.out ∧
    (s.modPdp f).pending = s.pending ∧ (s.modPdp f).free = s.free := by
  simp [State.modPdp]

@[simp] theorem State.modRse_fields (s : State) (f : Rse → Rse) :
    (s.modRse f).part = s.part ∧ (s.modRse f).die = s.die ∧ (s.modRse f).stop = s.stop ∧ (s.modRse f).clk = s.clk ∧ (s.modRse f).obj = s.obj ∧
    (s.modRse f).cast = s.cast ∧ (s.modRse f).maq = s.maq ∧ (s.modRse f).cfg = s.cfg ∧ (s.modRse f).held = s.held ∧ (s.modRse f).isl = s.isl ∧
    (s.modRse f).hbm = s.hbm ∧ (s.modRse f).figs = s.figs ∧ (s.modRse f).sdec = s.sdec ∧ (s.modRse f).rrec = s.rrec ∧ (s.modRse f).adm = s.adm ∧
    (s.modRse f).cal = s.cal ∧ (s.modRse f).rse = f s.rse ∧ (s.modRse f).pdp = s.pdp ∧ (s.modRse f).pwr = s.pwr ∧ (s.modRse f).link = s.link ∧
    (s.modRse f).scan = s.scan ∧ (s.modRse f).rasp = s.rasp ∧ (s.modRse f).aud = s.aud ∧ (s.modRse f).tim = s.tim ∧ (s.modRse f).mem = s.mem ∧
    (s.modRse f).thm = s.thm ∧ (s.modRse f).nor = s.nor ∧ (s.modRse f).atl = s.atl ∧ (s.modRse f).pln = s.pln ∧ (s.modRse f).clp = s.clp ∧
    (s.modRse f).hif = s.hif ∧ (s.modRse f).dict = s.dict ∧ (s.modRse f).log = s.log ∧ (s.modRse f).flt = s.flt ∧ (s.modRse f).out = s.out ∧
    (s.modRse f).pending = s.pending ∧ (s.modRse f).free = s.free := by
  simp [State.modRse]

@[simp] theorem State.modScan_fields (s : State) (f : Scan → Scan) :
    (s.modScan f).part = s.part ∧ (s.modScan f).die = s.die ∧ (s.modScan f).stop = s.stop ∧ (s.modScan f).clk = s.clk ∧ (s.modScan f).obj = s.obj ∧
    (s.modScan f).cast = s.cast ∧ (s.modScan f).maq = s.maq ∧ (s.modScan f).cfg = s.cfg ∧ (s.modScan f).held = s.held ∧ (s.modScan f).isl = s.isl ∧
    (s.modScan f).hbm = s.hbm ∧ (s.modScan f).figs = s.figs ∧ (s.modScan f).sdec = s.sdec ∧ (s.modScan f).rrec = s.rrec ∧ (s.modScan f).adm = s.adm ∧
    (s.modScan f).cal = s.cal ∧ (s.modScan f).rse = s.rse ∧ (s.modScan f).pdp = s.pdp ∧ (s.modScan f).pwr = s.pwr ∧ (s.modScan f).link = s.link ∧
    (s.modScan f).scan = f s.scan ∧ (s.modScan f).rasp = s.rasp ∧ (s.modScan f).aud = s.aud ∧ (s.modScan f).tim = s.tim ∧ (s.modScan f).mem = s.mem ∧
    (s.modScan f).thm = s.thm ∧ (s.modScan f).nor = s.nor ∧ (s.modScan f).atl = s.atl ∧ (s.modScan f).pln = s.pln ∧ (s.modScan f).clp = s.clp ∧
    (s.modScan f).hif = s.hif ∧ (s.modScan f).dict = s.dict ∧ (s.modScan f).log = s.log ∧ (s.modScan f).flt = s.flt ∧ (s.modScan f).out = s.out ∧
    (s.modScan f).pending = s.pending ∧ (s.modScan f).free = s.free := by
  simp [State.modScan]

@[simp] theorem State.modThm_fields (s : State) (f : Thm → Thm) :
    (s.modThm f).part = s.part ∧ (s.modThm f).die = s.die ∧ (s.modThm f).stop = s.stop ∧ (s.modThm f).clk = s.clk ∧ (s.modThm f).obj = s.obj ∧
    (s.modThm f).cast = s.cast ∧ (s.modThm f).maq = s.maq ∧ (s.modThm f).cfg = s.cfg ∧ (s.modThm f).held = s.held ∧ (s.modThm f).isl = s.isl ∧
    (s.modThm f).hbm = s.hbm ∧ (s.modThm f).figs = s.figs ∧ (s.modThm f).sdec = s.sdec ∧ (s.modThm f).rrec = s.rrec ∧ (s.modThm f).adm = s.adm ∧
    (s.modThm f).cal = s.cal ∧ (s.modThm f).rse = s.rse ∧ (s.modThm f).pdp = s.pdp ∧ (s.modThm f).pwr = s.pwr ∧ (s.modThm f).link = s.link ∧
    (s.modThm f).scan = s.scan ∧ (s.modThm f).rasp = s.rasp ∧ (s.modThm f).aud = s.aud ∧ (s.modThm f).tim = s.tim ∧ (s.modThm f).mem = s.mem ∧
    (s.modThm f).thm = f s.thm ∧ (s.modThm f).nor = s.nor ∧ (s.modThm f).atl = s.atl ∧ (s.modThm f).pln = s.pln ∧ (s.modThm f).clp = s.clp ∧
    (s.modThm f).hif = s.hif ∧ (s.modThm f).dict = s.dict ∧ (s.modThm f).log = s.log ∧ (s.modThm f).flt = s.flt ∧ (s.modThm f).out = s.out ∧
    (s.modThm f).pending = s.pending ∧ (s.modThm f).free = s.free := by
  simp [State.modThm]

@[simp] theorem State.modAtl_fields (s : State) (f : Atl → Atl) :
    (s.modAtl f).part = s.part ∧ (s.modAtl f).die = s.die ∧ (s.modAtl f).stop = s.stop ∧ (s.modAtl f).clk = s.clk ∧ (s.modAtl f).obj = s.obj ∧
    (s.modAtl f).cast = s.cast ∧ (s.modAtl f).maq = s.maq ∧ (s.modAtl f).cfg = s.cfg ∧ (s.modAtl f).held = s.held ∧ (s.modAtl f).isl = s.isl ∧
    (s.modAtl f).hbm = s.hbm ∧ (s.modAtl f).figs = s.figs ∧ (s.modAtl f).sdec = s.sdec ∧ (s.modAtl f).rrec = s.rrec ∧ (s.modAtl f).adm = s.adm ∧
    (s.modAtl f).cal = s.cal ∧ (s.modAtl f).rse = s.rse ∧ (s.modAtl f).pdp = s.pdp ∧ (s.modAtl f).pwr = s.pwr ∧ (s.modAtl f).link = s.link ∧
    (s.modAtl f).scan = s.scan ∧ (s.modAtl f).rasp = s.rasp ∧ (s.modAtl f).aud = s.aud ∧ (s.modAtl f).tim = s.tim ∧ (s.modAtl f).mem = s.mem ∧
    (s.modAtl f).thm = s.thm ∧ (s.modAtl f).nor = s.nor ∧ (s.modAtl f).atl = f s.atl ∧ (s.modAtl f).pln = s.pln ∧ (s.modAtl f).clp = s.clp ∧
    (s.modAtl f).hif = s.hif ∧ (s.modAtl f).dict = s.dict ∧ (s.modAtl f).log = s.log ∧ (s.modAtl f).flt = s.flt ∧ (s.modAtl f).out = s.out ∧
    (s.modAtl f).pending = s.pending ∧ (s.modAtl f).free = s.free := by
  simp [State.modAtl]

@[simp] theorem State.modNor_fields (s : State) (f : Nor → Nor) :
    (s.modNor f).part = s.part ∧ (s.modNor f).die = s.die ∧ (s.modNor f).stop = s.stop ∧ (s.modNor f).clk = s.clk ∧ (s.modNor f).obj = s.obj ∧
    (s.modNor f).cast = s.cast ∧ (s.modNor f).maq = s.maq ∧ (s.modNor f).cfg = s.cfg ∧ (s.modNor f).held = s.held ∧ (s.modNor f).isl = s.isl ∧
    (s.modNor f).hbm = s.hbm ∧ (s.modNor f).figs = s.figs ∧ (s.modNor f).sdec = s.sdec ∧ (s.modNor f).rrec = s.rrec ∧ (s.modNor f).adm = s.adm ∧
    (s.modNor f).cal = s.cal ∧ (s.modNor f).rse = s.rse ∧ (s.modNor f).pdp = s.pdp ∧ (s.modNor f).pwr = s.pwr ∧ (s.modNor f).link = s.link ∧
    (s.modNor f).scan = s.scan ∧ (s.modNor f).rasp = s.rasp ∧ (s.modNor f).aud = s.aud ∧ (s.modNor f).tim = s.tim ∧ (s.modNor f).mem = s.mem ∧
    (s.modNor f).thm = s.thm ∧ (s.modNor f).nor = f s.nor ∧ (s.modNor f).atl = s.atl ∧ (s.modNor f).pln = s.pln ∧ (s.modNor f).clp = s.clp ∧
    (s.modNor f).hif = s.hif ∧ (s.modNor f).dict = s.dict ∧ (s.modNor f).log = s.log ∧ (s.modNor f).flt = s.flt ∧ (s.modNor f).out = s.out ∧
    (s.modNor f).pending = s.pending ∧ (s.modNor f).free = s.free := by
  simp [State.modNor]

@[simp] theorem State.modPwr_fields (s : State) (f : Pwr → Pwr) :
    (s.modPwr f).part = s.part ∧ (s.modPwr f).die = s.die ∧ (s.modPwr f).stop = s.stop ∧ (s.modPwr f).clk = s.clk ∧ (s.modPwr f).obj = s.obj ∧
    (s.modPwr f).cast = s.cast ∧ (s.modPwr f).maq = s.maq ∧ (s.modPwr f).cfg = s.cfg ∧ (s.modPwr f).held = s.held ∧ (s.modPwr f).isl = s.isl ∧
    (s.modPwr f).hbm = s.hbm ∧ (s.modPwr f).figs = s.figs ∧ (s.modPwr f).sdec = s.sdec ∧ (s.modPwr f).rrec = s.rrec ∧ (s.modPwr f).adm = s.adm ∧
    (s.modPwr f).cal = s.cal ∧ (s.modPwr f).rse = s.rse ∧ (s.modPwr f).pdp = s.pdp ∧ (s.modPwr f).pwr = f s.pwr ∧ (s.modPwr f).link = s.link ∧
    (s.modPwr f).scan = s.scan ∧ (s.modPwr f).rasp = s.rasp ∧ (s.modPwr f).aud = s.aud ∧ (s.modPwr f).tim = s.tim ∧ (s.modPwr f).mem = s.mem ∧
    (s.modPwr f).thm = s.thm ∧ (s.modPwr f).nor = s.nor ∧ (s.modPwr f).atl = s.atl ∧ (s.modPwr f).pln = s.pln ∧ (s.modPwr f).clp = s.clp ∧
    (s.modPwr f).hif = s.hif ∧ (s.modPwr f).dict = s.dict ∧ (s.modPwr f).log = s.log ∧ (s.modPwr f).flt = s.flt ∧ (s.modPwr f).out = s.out ∧
    (s.modPwr f).pending = s.pending ∧ (s.modPwr f).free = s.free := by
  simp [State.modPwr]

@[simp] theorem State.modRasp_fields (s : State) (f : Rasp → Rasp) :
    (s.modRasp f).part = s.part ∧ (s.modRasp f).die = s.die ∧ (s.modRasp f).stop = s.stop ∧ (s.modRasp f).clk = s.clk ∧ (s.modRasp f).obj = s.obj ∧
    (s.modRasp f).cast = s.cast ∧ (s.modRasp f).maq = s.maq ∧ (s.modRasp f).cfg = s.cfg ∧ (s.modRasp f).held = s.held ∧ (s.modRasp f).isl = s.isl ∧
    (s.modRasp f).hbm = s.hbm ∧ (s.modRasp f).figs = s.figs ∧ (s.modRasp f).sdec = s.sdec ∧ (s.modRasp f).rrec = s.rrec ∧ (s.modRasp f).adm = s.adm ∧
    (s.modRasp f).cal = s.cal ∧ (s.modRasp f).rse = s.rse ∧ (s.modRasp f).pdp = s.pdp ∧ (s.modRasp f).pwr = s.pwr ∧ (s.modRasp f).link = s.link ∧
    (s.modRasp f).scan = s.scan ∧ (s.modRasp f).rasp = f s.rasp ∧ (s.modRasp f).aud = s.aud ∧ (s.modRasp f).tim = s.tim ∧ (s.modRasp f).mem = s.mem ∧
    (s.modRasp f).thm = s.thm ∧ (s.modRasp f).nor = s.nor ∧ (s.modRasp f).atl = s.atl ∧ (s.modRasp f).pln = s.pln ∧ (s.modRasp f).clp = s.clp ∧
    (s.modRasp f).hif = s.hif ∧ (s.modRasp f).dict = s.dict ∧ (s.modRasp f).log = s.log ∧ (s.modRasp f).flt = s.flt ∧ (s.modRasp f).out = s.out ∧
    (s.modRasp f).pending = s.pending ∧ (s.modRasp f).free = s.free := by
  simp [State.modRasp]

@[simp] theorem State.modTim_fields (s : State) (f : Tim → Tim) :
    (s.modTim f).part = s.part ∧ (s.modTim f).die = s.die ∧ (s.modTim f).stop = s.stop ∧ (s.modTim f).clk = s.clk ∧ (s.modTim f).obj = s.obj ∧
    (s.modTim f).cast = s.cast ∧ (s.modTim f).maq = s.maq ∧ (s.modTim f).cfg = s.cfg ∧ (s.modTim f).held = s.held ∧ (s.modTim f).isl = s.isl ∧
    (s.modTim f).hbm = s.hbm ∧ (s.modTim f).figs = s.figs ∧ (s.modTim f).sdec = s.sdec ∧ (s.modTim f).rrec = s.rrec ∧ (s.modTim f).adm = s.adm ∧
    (s.modTim f).cal = s.cal ∧ (s.modTim f).rse = s.rse ∧ (s.modTim f).pdp = s.pdp ∧ (s.modTim f).pwr = s.pwr ∧ (s.modTim f).link = s.link ∧
    (s.modTim f).scan = s.scan ∧ (s.modTim f).rasp = s.rasp ∧ (s.modTim f).aud = s.aud ∧ (s.modTim f).tim = f s.tim ∧ (s.modTim f).mem = s.mem ∧
    (s.modTim f).thm = s.thm ∧ (s.modTim f).nor = s.nor ∧ (s.modTim f).atl = s.atl ∧ (s.modTim f).pln = s.pln ∧ (s.modTim f).clp = s.clp ∧
    (s.modTim f).hif = s.hif ∧ (s.modTim f).dict = s.dict ∧ (s.modTim f).log = s.log ∧ (s.modTim f).flt = s.flt ∧ (s.modTim f).out = s.out ∧
    (s.modTim f).pending = s.pending ∧ (s.modTim f).free = s.free := by
  simp [State.modTim]

@[simp] theorem State.modClp_fields (s : State) (f : Clp → Clp) :
    (s.modClp f).part = s.part ∧ (s.modClp f).die = s.die ∧ (s.modClp f).stop = s.stop ∧ (s.modClp f).clk = s.clk ∧ (s.modClp f).obj = s.obj ∧
    (s.modClp f).cast = s.cast ∧ (s.modClp f).maq = s.maq ∧ (s.modClp f).cfg = s.cfg ∧ (s.modClp f).held = s.held ∧ (s.modClp f).isl = s.isl ∧
    (s.modClp f).hbm = s.hbm ∧ (s.modClp f).figs = s.figs ∧ (s.modClp f).sdec = s.sdec ∧ (s.modClp f).rrec = s.rrec ∧ (s.modClp f).adm = s.adm ∧
    (s.modClp f).cal = s.cal ∧ (s.modClp f).rse = s.rse ∧ (s.modClp f).pdp = s.pdp ∧ (s.modClp f).pwr = s.pwr ∧ (s.modClp f).link = s.link ∧
    (s.modClp f).scan = s.scan ∧ (s.modClp f).rasp = s.rasp ∧ (s.modClp f).aud = s.aud ∧ (s.modClp f).tim = s.tim ∧ (s.modClp f).mem = s.mem ∧
    (s.modClp f).thm = s.thm ∧ (s.modClp f).nor = s.nor ∧ (s.modClp f).atl = s.atl ∧ (s.modClp f).pln = s.pln ∧ (s.modClp f).clp = f s.clp ∧
    (s.modClp f).hif = s.hif ∧ (s.modClp f).dict = s.dict ∧ (s.modClp f).log = s.log ∧ (s.modClp f).flt = s.flt ∧ (s.modClp f).out = s.out ∧
    (s.modClp f).pending = s.pending ∧ (s.modClp f).free = s.free := by
  simp [State.modClp]

@[simp] theorem State.modPln_fields (s : State) (f : Pln → Pln) :
    (s.modPln f).part = s.part ∧ (s.modPln f).die = s.die ∧ (s.modPln f).stop = s.stop ∧ (s.modPln f).clk = s.clk ∧ (s.modPln f).obj = s.obj ∧
    (s.modPln f).cast = s.cast ∧ (s.modPln f).maq = s.maq ∧ (s.modPln f).cfg = s.cfg ∧ (s.modPln f).held = s.held ∧ (s.modPln f).isl = s.isl ∧
    (s.modPln f).hbm = s.hbm ∧ (s.modPln f).figs = s.figs ∧ (s.modPln f).sdec = s.sdec ∧ (s.modPln f).rrec = s.rrec ∧ (s.modPln f).adm = s.adm ∧
    (s.modPln f).cal = s.cal ∧ (s.modPln f).rse = s.rse ∧ (s.modPln f).pdp = s.pdp ∧ (s.modPln f).pwr = s.pwr ∧ (s.modPln f).link = s.link ∧
    (s.modPln f).scan = s.scan ∧ (s.modPln f).rasp = s.rasp ∧ (s.modPln f).aud = s.aud ∧ (s.modPln f).tim = s.tim ∧ (s.modPln f).mem = s.mem ∧
    (s.modPln f).thm = s.thm ∧ (s.modPln f).nor = s.nor ∧ (s.modPln f).atl = s.atl ∧ (s.modPln f).pln = f s.pln ∧ (s.modPln f).clp = s.clp ∧
    (s.modPln f).hif = s.hif ∧ (s.modPln f).dict = s.dict ∧ (s.modPln f).log = s.log ∧ (s.modPln f).flt = s.flt ∧ (s.modPln f).out = s.out ∧
    (s.modPln f).pending = s.pending ∧ (s.modPln f).free = s.free := by
  simp [State.modPln]

@[simp] theorem State.modHif_fields (s : State) (f : Hif → Hif) :
    (s.modHif f).part = s.part ∧ (s.modHif f).die = s.die ∧ (s.modHif f).stop = s.stop ∧ (s.modHif f).clk = s.clk ∧ (s.modHif f).obj = s.obj ∧
    (s.modHif f).cast = s.cast ∧ (s.modHif f).maq = s.maq ∧ (s.modHif f).cfg = s.cfg ∧ (s.modHif f).held = s.held ∧ (s.modHif f).isl = s.isl ∧
    (s.modHif f).hbm = s.hbm ∧ (s.modHif f).figs = s.figs ∧ (s.modHif f).sdec = s.sdec ∧ (s.modHif f).rrec = s.rrec ∧ (s.modHif f).adm = s.adm ∧
    (s.modHif f).cal = s.cal ∧ (s.modHif f).rse = s.rse ∧ (s.modHif f).pdp = s.pdp ∧ (s.modHif f).pwr = s.pwr ∧ (s.modHif f).link = s.link ∧
    (s.modHif f).scan = s.scan ∧ (s.modHif f).rasp = s.rasp ∧ (s.modHif f).aud = s.aud ∧ (s.modHif f).tim = s.tim ∧ (s.modHif f).mem = s.mem ∧
    (s.modHif f).thm = s.thm ∧ (s.modHif f).nor = s.nor ∧ (s.modHif f).atl = s.atl ∧ (s.modHif f).pln = s.pln ∧ (s.modHif f).clp = s.clp ∧
    (s.modHif f).hif = f s.hif ∧ (s.modHif f).dict = s.dict ∧ (s.modHif f).log = s.log ∧ (s.modHif f).flt = s.flt ∧ (s.modHif f).out = s.out ∧
    (s.modHif f).pending = s.pending ∧ (s.modHif f).free = s.free := by
  simp [State.modHif]

@[simp] theorem State.modDict_fields (s : State) (f : Dict → Dict) :
    (s.modDict f).part = s.part ∧ (s.modDict f).die = s.die ∧ (s.modDict f).stop = s.stop ∧ (s.modDict f).clk = s.clk ∧ (s.modDict f).obj = s.obj ∧
    (s.modDict f).cast = s.cast ∧ (s.modDict f).maq = s.maq ∧ (s.modDict f).cfg = s.cfg ∧ (s.modDict f).held = s.held ∧ (s.modDict f).isl = s.isl ∧
    (s.modDict f).hbm = s.hbm ∧ (s.modDict f).figs = s.figs ∧ (s.modDict f).sdec = s.sdec ∧ (s.modDict f).rrec = s.rrec ∧ (s.modDict f).adm = s.adm ∧
    (s.modDict f).cal = s.cal ∧ (s.modDict f).rse = s.rse ∧ (s.modDict f).pdp = s.pdp ∧ (s.modDict f).pwr = s.pwr ∧ (s.modDict f).link = s.link ∧
    (s.modDict f).scan = s.scan ∧ (s.modDict f).rasp = s.rasp ∧ (s.modDict f).aud = s.aud ∧ (s.modDict f).tim = s.tim ∧ (s.modDict f).mem = s.mem ∧
    (s.modDict f).thm = s.thm ∧ (s.modDict f).nor = s.nor ∧ (s.modDict f).atl = s.atl ∧ (s.modDict f).pln = s.pln ∧ (s.modDict f).clp = s.clp ∧
    (s.modDict f).hif = s.hif ∧ (s.modDict f).dict = f s.dict ∧ (s.modDict f).log = s.log ∧ (s.modDict f).flt = s.flt ∧ (s.modDict f).out = s.out ∧
    (s.modDict f).pending = s.pending ∧ (s.modDict f).free = s.free := by
  simp [State.modDict]

@[simp] theorem State.modCap_fields (s : State) (f : Capture → Capture) :
    (s.modCap f).part = s.part ∧ (s.modCap f).die = s.die ∧ (s.modCap f).stop = s.stop ∧ (s.modCap f).clk = s.clk ∧ (s.modCap f).obj = s.obj ∧
    (s.modCap f).cast = s.cast ∧ (s.modCap f).maq = s.maq ∧ (s.modCap f).cfg = s.cfg ∧ (s.modCap f).held = s.held ∧ (s.modCap f).isl = s.isl ∧
    (s.modCap f).hbm = s.hbm ∧ (s.modCap f).figs = s.figs ∧ (s.modCap f).sdec = s.sdec ∧ (s.modCap f).rrec = s.rrec ∧ (s.modCap f).adm = s.adm ∧
    (s.modCap f).rse = s.rse ∧ (s.modCap f).pdp = s.pdp ∧ (s.modCap f).pwr = s.pwr ∧ (s.modCap f).link = s.link ∧ (s.modCap f).scan = s.scan ∧
    (s.modCap f).rasp = s.rasp ∧ (s.modCap f).aud = s.aud ∧ (s.modCap f).tim = s.tim ∧ (s.modCap f).mem = s.mem ∧ (s.modCap f).thm = s.thm ∧
    (s.modCap f).nor = s.nor ∧ (s.modCap f).atl = s.atl ∧ (s.modCap f).pln = s.pln ∧ (s.modCap f).clp = s.clp ∧ (s.modCap f).hif = s.hif ∧
    (s.modCap f).dict = s.dict ∧ (s.modCap f).log = s.log ∧ (s.modCap f).flt = s.flt ∧ (s.modCap f).out = s.out ∧ (s.modCap f).pending = s.pending ∧
    (s.modCap f).free = s.free := by
  simp [State.modCap]

@[simp] theorem State.modSlot_fields (s : State) (n : Nat) (f : Slot → Slot) :
    (s.modSlot n f).part = s.part ∧ (s.modSlot n f).die = s.die ∧ (s.modSlot n f).stop = s.stop ∧ (s.modSlot n f).clk = s.clk ∧
    (s.modSlot n f).obj = s.obj ∧ (s.modSlot n f).cast = s.cast ∧ (s.modSlot n f).maq = s.maq ∧ (s.modSlot n f).cfg = s.cfg ∧
    (s.modSlot n f).held = s.held ∧ (s.modSlot n f).isl = s.isl ∧ (s.modSlot n f).hbm = s.hbm ∧ (s.modSlot n f).figs = s.figs ∧
    (s.modSlot n f).sdec = s.sdec ∧ (s.modSlot n f).rrec = s.rrec ∧ (s.modSlot n f).adm = s.adm ∧ (s.modSlot n f).cal = s.cal ∧
    (s.modSlot n f).rse = s.rse ∧ (s.modSlot n f).pdp = s.pdp ∧ (s.modSlot n f).pwr = s.pwr ∧ (s.modSlot n f).link = s.link.modify n f ∧
    (s.modSlot n f).scan = s.scan ∧ (s.modSlot n f).rasp = s.rasp ∧ (s.modSlot n f).aud = s.aud ∧ (s.modSlot n f).tim = s.tim ∧
    (s.modSlot n f).mem = s.mem ∧ (s.modSlot n f).thm = s.thm ∧ (s.modSlot n f).nor = s.nor ∧ (s.modSlot n f).atl = s.atl ∧
    (s.modSlot n f).pln = s.pln ∧ (s.modSlot n f).clp = s.clp ∧ (s.modSlot n f).hif = s.hif ∧ (s.modSlot n f).dict = s.dict ∧
    (s.modSlot n f).log = s.log ∧ (s.modSlot n f).flt = s.flt ∧ (s.modSlot n f).out = s.out ∧ (s.modSlot n f).pending = s.pending ∧
    (s.modSlot n f).free = s.free := by
  simp [State.modSlot]

@[simp] theorem State.modStack_fields (s : State) (n : Nat) (f : Stack → Stack) :
    (s.modStack n f).part = s.part ∧ (s.modStack n f).die = s.die ∧ (s.modStack n f).stop = s.stop ∧ (s.modStack n f).clk = s.clk ∧
    (s.modStack n f).obj = s.obj ∧ (s.modStack n f).cast = s.cast ∧ (s.modStack n f).maq = s.maq ∧ (s.modStack n f).cfg = s.cfg ∧
    (s.modStack n f).held = s.held ∧ (s.modStack n f).isl = s.isl ∧ (s.modStack n f).hbm = s.hbm ∧ (s.modStack n f).figs = s.figs ∧
    (s.modStack n f).sdec = s.sdec ∧ (s.modStack n f).rrec = s.rrec ∧ (s.modStack n f).adm = s.adm ∧ (s.modStack n f).cal = s.cal ∧
    (s.modStack n f).rse = s.rse ∧ (s.modStack n f).pdp = s.pdp ∧ (s.modStack n f).pwr = s.pwr ∧ (s.modStack n f).link = s.link ∧
    (s.modStack n f).scan = s.scan ∧ (s.modStack n f).rasp = s.rasp ∧ (s.modStack n f).aud = s.aud ∧ (s.modStack n f).tim = s.tim ∧
    (s.modStack n f).thm = s.thm ∧ (s.modStack n f).nor = s.nor ∧ (s.modStack n f).atl = s.atl ∧ (s.modStack n f).pln = s.pln ∧
    (s.modStack n f).clp = s.clp ∧ (s.modStack n f).hif = s.hif ∧ (s.modStack n f).dict = s.dict ∧ (s.modStack n f).log = s.log ∧
    (s.modStack n f).flt = s.flt ∧ (s.modStack n f).out = s.out ∧ (s.modStack n f).pending = s.pending ∧ (s.modStack n f).free = s.free := by
  simp [State.modStack]

@[simp] theorem State.modIsl_fields (s : State) (n : Nat) (f : Island → Island) :
    (s.modIsl n f).part = s.part ∧ (s.modIsl n f).die = s.die ∧ (s.modIsl n f).stop = s.stop ∧ (s.modIsl n f).clk = s.clk ∧
    (s.modIsl n f).obj = s.obj ∧ (s.modIsl n f).cast = s.cast ∧ (s.modIsl n f).maq = s.maq ∧ (s.modIsl n f).cfg = s.cfg ∧
    (s.modIsl n f).held = s.held ∧ (s.modIsl n f).isl = s.isl.modify n f ∧ (s.modIsl n f).hbm = s.hbm ∧ (s.modIsl n f).figs = s.figs ∧
    (s.modIsl n f).sdec = s.sdec ∧ (s.modIsl n f).rrec = s.rrec ∧ (s.modIsl n f).adm = s.adm ∧ (s.modIsl n f).cal = s.cal ∧
    (s.modIsl n f).rse = s.rse ∧ (s.modIsl n f).pdp = s.pdp ∧ (s.modIsl n f).pwr = s.pwr ∧ (s.modIsl n f).link = s.link ∧
    (s.modIsl n f).scan = s.scan ∧ (s.modIsl n f).rasp = s.rasp ∧ (s.modIsl n f).aud = s.aud ∧ (s.modIsl n f).tim = s.tim ∧
    (s.modIsl n f).mem = s.mem ∧ (s.modIsl n f).thm = s.thm ∧ (s.modIsl n f).nor = s.nor ∧ (s.modIsl n f).atl = s.atl ∧ (s.modIsl n f).pln = s.pln ∧
    (s.modIsl n f).clp = s.clp ∧ (s.modIsl n f).hif = s.hif ∧ (s.modIsl n f).dict = s.dict ∧ (s.modIsl n f).log = s.log ∧ (s.modIsl n f).flt = s.flt ∧
    (s.modIsl n f).out = s.out ∧ (s.modIsl n f).pending = s.pending ∧ (s.modIsl n f).free = s.free := by
  simp [State.modIsl]

@[simp] theorem State.powerIsl_fields (s : State) (n : Nat) :
    (s.powerIsl n).part = s.part ∧ (s.powerIsl n).die = s.die ∧ (s.powerIsl n).stop = s.stop ∧ (s.powerIsl n).clk = s.clk ∧
    (s.powerIsl n).obj = s.obj ∧ (s.powerIsl n).cast = s.cast ∧ (s.powerIsl n).maq = s.maq ∧ (s.powerIsl n).cfg = s.cfg ∧
    (s.powerIsl n).held = s.held ∧ (s.powerIsl n).hbm = s.hbm ∧ (s.powerIsl n).figs = s.figs ∧ (s.powerIsl n).sdec = s.sdec ∧
    (s.powerIsl n).rrec = s.rrec ∧ (s.powerIsl n).adm = s.adm ∧ (s.powerIsl n).cal = s.cal ∧ (s.powerIsl n).rse = s.rse ∧ (s.powerIsl n).pdp = s.pdp ∧
    (s.powerIsl n).pwr = s.pwr ∧ (s.powerIsl n).link = s.link ∧ (s.powerIsl n).scan = s.scan ∧ (s.powerIsl n).rasp = s.rasp ∧
    (s.powerIsl n).aud = s.aud ∧ (s.powerIsl n).tim = s.tim ∧ (s.powerIsl n).mem = s.mem ∧ (s.powerIsl n).thm = s.thm ∧ (s.powerIsl n).nor = s.nor ∧
    (s.powerIsl n).atl = s.atl ∧ (s.powerIsl n).pln = s.pln ∧ (s.powerIsl n).clp = s.clp ∧ (s.powerIsl n).hif = s.hif ∧ (s.powerIsl n).dict = s.dict ∧
    (s.powerIsl n).log = s.log ∧ (s.powerIsl n).flt = s.flt ∧ (s.powerIsl n).out = s.out ∧ (s.powerIsl n).pending = s.pending ∧
    (s.powerIsl n).free = s.free := by
  simp [State.powerIsl]

@[simp] theorem State.gateIsl_fields (s : State) (n : Nat) :
    (s.gateIsl n).part = s.part ∧ (s.gateIsl n).die = s.die ∧ (s.gateIsl n).stop = s.stop ∧ (s.gateIsl n).clk = s.clk ∧ (s.gateIsl n).obj = s.obj ∧
    (s.gateIsl n).cast = s.cast ∧ (s.gateIsl n).maq = s.maq ∧ (s.gateIsl n).cfg = s.cfg ∧ (s.gateIsl n).held = s.held ∧ (s.gateIsl n).hbm = s.hbm ∧
    (s.gateIsl n).figs = s.figs ∧ (s.gateIsl n).sdec = s.sdec ∧ (s.gateIsl n).rrec = s.rrec ∧ (s.gateIsl n).adm = s.adm ∧ (s.gateIsl n).cal = s.cal ∧
    (s.gateIsl n).rse = s.rse ∧ (s.gateIsl n).pdp = s.pdp ∧ (s.gateIsl n).pwr = s.pwr ∧ (s.gateIsl n).link = s.link ∧ (s.gateIsl n).scan = s.scan ∧
    (s.gateIsl n).rasp = s.rasp ∧ (s.gateIsl n).aud = s.aud ∧ (s.gateIsl n).tim = s.tim ∧ (s.gateIsl n).mem = s.mem ∧ (s.gateIsl n).thm = s.thm ∧
    (s.gateIsl n).nor = s.nor ∧ (s.gateIsl n).atl = s.atl ∧ (s.gateIsl n).pln = s.pln ∧ (s.gateIsl n).clp = s.clp ∧ (s.gateIsl n).hif = s.hif ∧
    (s.gateIsl n).dict = s.dict ∧ (s.gateIsl n).log = s.log ∧ (s.gateIsl n).flt = s.flt ∧ (s.gateIsl n).out = s.out ∧
    (s.gateIsl n).pending = s.pending ∧ (s.gateIsl n).free = s.free := by
  simp [State.gateIsl]

@[simp] theorem State.modStream_fields (s : State) (i : Nat) (f : StreamPort → StreamPort) :
    (s.modStream i f).part = s.part ∧ (s.modStream i f).die = s.die ∧ (s.modStream i f).stop = s.stop ∧ (s.modStream i f).clk = s.clk ∧
    (s.modStream i f).obj = s.obj ∧ (s.modStream i f).cast = s.cast ∧ (s.modStream i f).maq = s.maq ∧ (s.modStream i f).cfg = s.cfg ∧
    (s.modStream i f).held = s.held ∧ (s.modStream i f).isl = s.isl ∧ (s.modStream i f).hbm = s.hbm ∧ (s.modStream i f).figs = s.figs ∧
    (s.modStream i f).sdec = s.sdec ∧ (s.modStream i f).rrec = s.rrec ∧ (s.modStream i f).adm = s.adm ∧ (s.modStream i f).cal = s.cal ∧
    (s.modStream i f).rse = s.rse ∧ (s.modStream i f).pdp = s.pdp ∧ (s.modStream i f).pwr = s.pwr ∧ (s.modStream i f).link = s.link ∧
    (s.modStream i f).scan = s.scan ∧ (s.modStream i f).rasp = s.rasp ∧ (s.modStream i f).tim = s.tim ∧ (s.modStream i f).mem = s.mem ∧
    (s.modStream i f).thm = s.thm ∧ (s.modStream i f).nor = s.nor ∧ (s.modStream i f).atl = s.atl ∧ (s.modStream i f).pln = s.pln ∧
    (s.modStream i f).clp = s.clp ∧ (s.modStream i f).hif = s.hif ∧ (s.modStream i f).dict = s.dict ∧ (s.modStream i f).log = s.log ∧
    (s.modStream i f).flt = s.flt ∧ (s.modStream i f).out = s.out ∧ (s.modStream i f).pending = s.pending ∧ (s.modStream i f).free = s.free := by
  simp [State.modStream]

@[simp] theorem State.modPort_fields (s : State) (p : Nat) (f : AudPort → AudPort) :
    (s.modPort p f).part = s.part ∧ (s.modPort p f).die = s.die ∧ (s.modPort p f).stop = s.stop ∧ (s.modPort p f).clk = s.clk ∧
    (s.modPort p f).obj = s.obj ∧ (s.modPort p f).cast = s.cast ∧ (s.modPort p f).maq = s.maq ∧ (s.modPort p f).cfg = s.cfg ∧
    (s.modPort p f).held = s.held ∧ (s.modPort p f).isl = s.isl ∧ (s.modPort p f).hbm = s.hbm ∧ (s.modPort p f).figs = s.figs ∧
    (s.modPort p f).sdec = s.sdec ∧ (s.modPort p f).rrec = s.rrec ∧ (s.modPort p f).adm = s.adm ∧ (s.modPort p f).cal = s.cal ∧
    (s.modPort p f).rse = s.rse ∧ (s.modPort p f).pdp = s.pdp ∧ (s.modPort p f).pwr = s.pwr ∧ (s.modPort p f).link = s.link ∧
    (s.modPort p f).scan = s.scan ∧ (s.modPort p f).rasp = s.rasp ∧ (s.modPort p f).tim = s.tim ∧ (s.modPort p f).mem = s.mem ∧
    (s.modPort p f).thm = s.thm ∧ (s.modPort p f).nor = s.nor ∧ (s.modPort p f).atl = s.atl ∧ (s.modPort p f).pln = s.pln ∧
    (s.modPort p f).clp = s.clp ∧ (s.modPort p f).hif = s.hif ∧ (s.modPort p f).dict = s.dict ∧ (s.modPort p f).log = s.log ∧
    (s.modPort p f).flt = s.flt ∧ (s.modPort p f).out = s.out ∧ (s.modPort p f).pending = s.pending ∧ (s.modPort p f).free = s.free := by
  simp [State.modPort]

@[simp] theorem State.modPtp_fields (s : State) (d : Nat) (f : PtpSlot → PtpSlot) :
    (s.modPtp d f).part = s.part ∧ (s.modPtp d f).die = s.die ∧ (s.modPtp d f).stop = s.stop ∧ (s.modPtp d f).clk = s.clk ∧
    (s.modPtp d f).obj = s.obj ∧ (s.modPtp d f).cast = s.cast ∧ (s.modPtp d f).maq = s.maq ∧ (s.modPtp d f).cfg = s.cfg ∧
    (s.modPtp d f).held = s.held ∧ (s.modPtp d f).isl = s.isl ∧ (s.modPtp d f).hbm = s.hbm ∧ (s.modPtp d f).figs = s.figs ∧
    (s.modPtp d f).sdec = s.sdec ∧ (s.modPtp d f).rrec = s.rrec ∧ (s.modPtp d f).adm = s.adm ∧ (s.modPtp d f).cal = s.cal ∧
    (s.modPtp d f).rse = s.rse ∧ (s.modPtp d f).pdp = s.pdp ∧ (s.modPtp d f).pwr = s.pwr ∧ (s.modPtp d f).link = s.link ∧
    (s.modPtp d f).scan = s.scan ∧ (s.modPtp d f).rasp = s.rasp ∧ (s.modPtp d f).aud = s.aud ∧ (s.modPtp d f).mem = s.mem ∧
    (s.modPtp d f).thm = s.thm ∧ (s.modPtp d f).nor = s.nor ∧ (s.modPtp d f).atl = s.atl ∧ (s.modPtp d f).pln = s.pln ∧ (s.modPtp d f).clp = s.clp ∧
    (s.modPtp d f).hif = s.hif ∧ (s.modPtp d f).dict = s.dict ∧ (s.modPtp d f).log = s.log ∧ (s.modPtp d f).flt = s.flt ∧ (s.modPtp d f).out = s.out ∧
    (s.modPtp d f).pending = s.pending ∧ (s.modPtp d f).free = s.free := by
  simp [State.modPtp]

@[simp] theorem State.modNet_fields (s : State) (p : Nat) (f : NetPort → NetPort) :
    (s.modNet p f).part = s.part ∧ (s.modNet p f).die = s.die ∧ (s.modNet p f).stop = s.stop ∧ (s.modNet p f).clk = s.clk ∧
    (s.modNet p f).obj = s.obj ∧ (s.modNet p f).cast = s.cast ∧ (s.modNet p f).maq = s.maq ∧ (s.modNet p f).cfg = s.cfg ∧
    (s.modNet p f).held = s.held ∧ (s.modNet p f).isl = s.isl ∧ (s.modNet p f).hbm = s.hbm ∧ (s.modNet p f).figs = s.figs ∧
    (s.modNet p f).sdec = s.sdec ∧ (s.modNet p f).rrec = s.rrec ∧ (s.modNet p f).adm = s.adm ∧ (s.modNet p f).cal = s.cal ∧
    (s.modNet p f).rse = s.rse ∧ (s.modNet p f).pdp = s.pdp ∧ (s.modNet p f).pwr = s.pwr ∧ (s.modNet p f).link = s.link ∧
    (s.modNet p f).scan = s.scan ∧ (s.modNet p f).rasp = s.rasp ∧ (s.modNet p f).aud = s.aud ∧ (s.modNet p f).mem = s.mem ∧
    (s.modNet p f).thm = s.thm ∧ (s.modNet p f).nor = s.nor ∧ (s.modNet p f).atl = s.atl ∧ (s.modNet p f).pln = s.pln ∧ (s.modNet p f).clp = s.clp ∧
    (s.modNet p f).hif = s.hif ∧ (s.modNet p f).dict = s.dict ∧ (s.modNet p f).log = s.log ∧ (s.modNet p f).flt = s.flt ∧ (s.modNet p f).out = s.out ∧
    (s.modNet p f).pending = s.pending ∧ (s.modNet p f).free = s.free := by
  simp [State.modNet]

@[simp] theorem State.modDrive_fields (s : State) (d : Nat) (f : Drive → Drive) :
    (s.modDrive d f).part = s.part ∧ (s.modDrive d f).die = s.die ∧ (s.modDrive d f).stop = s.stop ∧ (s.modDrive d f).clk = s.clk ∧
    (s.modDrive d f).obj = s.obj ∧ (s.modDrive d f).cast = s.cast ∧ (s.modDrive d f).maq = s.maq ∧ (s.modDrive d f).cfg = s.cfg ∧
    (s.modDrive d f).held = s.held ∧ (s.modDrive d f).isl = s.isl ∧ (s.modDrive d f).hbm = s.hbm ∧ (s.modDrive d f).figs = s.figs ∧
    (s.modDrive d f).sdec = s.sdec ∧ (s.modDrive d f).rrec = s.rrec ∧ (s.modDrive d f).adm = s.adm ∧ (s.modDrive d f).cal = s.cal ∧
    (s.modDrive d f).rse = s.rse ∧ (s.modDrive d f).pdp = s.pdp ∧ (s.modDrive d f).pwr = s.pwr ∧ (s.modDrive d f).link = s.link ∧
    (s.modDrive d f).scan = s.scan ∧ (s.modDrive d f).rasp = s.rasp ∧ (s.modDrive d f).aud = s.aud ∧ (s.modDrive d f).tim = s.tim ∧
    (s.modDrive d f).mem = s.mem ∧ (s.modDrive d f).thm = s.thm ∧ (s.modDrive d f).nor = s.nor ∧ (s.modDrive d f).atl = s.atl ∧
    (s.modDrive d f).pln = s.pln ∧ (s.modDrive d f).hif = s.hif ∧ (s.modDrive d f).dict = s.dict ∧ (s.modDrive d f).log = s.log ∧
    (s.modDrive d f).flt = s.flt ∧ (s.modDrive d f).out = s.out ∧ (s.modDrive d f).pending = s.pending ∧ (s.modDrive d f).free = s.free := by
  simp [State.modDrive]

@[simp] theorem State.modDir_fields (s : State) (d : Nat) (f : Dir → Dir) :
    (s.modDir d f).part = s.part ∧ (s.modDir d f).die = s.die ∧ (s.modDir d f).stop = s.stop ∧ (s.modDir d f).clk = s.clk ∧
    (s.modDir d f).obj = s.obj ∧ (s.modDir d f).cast = s.cast ∧ (s.modDir d f).maq = s.maq ∧ (s.modDir d f).cfg = s.cfg ∧
    (s.modDir d f).held = s.held ∧ (s.modDir d f).isl = s.isl ∧ (s.modDir d f).hbm = s.hbm ∧ (s.modDir d f).figs = s.figs ∧
    (s.modDir d f).sdec = s.sdec ∧ (s.modDir d f).adm = s.adm ∧ (s.modDir d f).cal = s.cal ∧ (s.modDir d f).rse = s.rse ∧ (s.modDir d f).pdp = s.pdp ∧
    (s.modDir d f).pwr = s.pwr ∧ (s.modDir d f).link = s.link ∧ (s.modDir d f).scan = s.scan ∧ (s.modDir d f).rasp = s.rasp ∧
    (s.modDir d f).aud = s.aud ∧ (s.modDir d f).tim = s.tim ∧ (s.modDir d f).mem = s.mem ∧ (s.modDir d f).thm = s.thm ∧ (s.modDir d f).nor = s.nor ∧
    (s.modDir d f).atl = s.atl ∧ (s.modDir d f).pln = s.pln ∧ (s.modDir d f).clp = s.clp ∧ (s.modDir d f).hif = s.hif ∧ (s.modDir d f).dict = s.dict ∧
    (s.modDir d f).log = s.log ∧ (s.modDir d f).flt = s.flt ∧ (s.modDir d f).out = s.out ∧ (s.modDir d f).pending = s.pending ∧
    (s.modDir d f).free = s.free := by
  simp [State.modDir]

@[simp] theorem State.putV_fields (s : State) (o : Obj) (v : Val) :
    (s.putV o v).part = s.part ∧ (s.putV o v).die = s.die ∧ (s.putV o v).stop = s.stop ∧ (s.putV o v).clk = s.clk ∧ (s.putV o v).maq = s.maq ∧
    (s.putV o v).cfg = s.cfg ∧ (s.putV o v).held = s.held ∧ (s.putV o v).isl = s.isl ∧ (s.putV o v).hbm = s.hbm ∧ (s.putV o v).figs = s.figs ∧
    (s.putV o v).sdec = s.sdec ∧ (s.putV o v).rrec = s.rrec ∧ (s.putV o v).adm = s.adm ∧ (s.putV o v).cal = s.cal ∧ (s.putV o v).rse = s.rse ∧
    (s.putV o v).pdp = s.pdp ∧ (s.putV o v).pwr = s.pwr ∧ (s.putV o v).link = s.link ∧ (s.putV o v).scan = s.scan ∧ (s.putV o v).rasp = s.rasp ∧
    (s.putV o v).aud = s.aud ∧ (s.putV o v).tim = s.tim ∧ (s.putV o v).mem = s.mem ∧ (s.putV o v).thm = s.thm ∧ (s.putV o v).nor = s.nor ∧
    (s.putV o v).atl = s.atl ∧ (s.putV o v).pln = s.pln ∧ (s.putV o v).clp = s.clp ∧ (s.putV o v).hif = s.hif ∧ (s.putV o v).dict = s.dict ∧
    (s.putV o v).log = s.log ∧ (s.putV o v).flt = s.flt ∧ (s.putV o v).out = s.out ∧ (s.putV o v).pending = s.pending ∧
    (s.putV o v).free = s.free := by
  unfold State.putV; (repeat' split) <;> simp

@[simp] theorem State.put_fields (s : State) (o : Obj) (v : Int) :
    (s.put o v).part = s.part ∧ (s.put o v).die = s.die ∧ (s.put o v).stop = s.stop ∧ (s.put o v).clk = s.clk ∧ (s.put o v).maq = s.maq ∧
    (s.put o v).cfg = s.cfg ∧ (s.put o v).held = s.held ∧ (s.put o v).isl = s.isl ∧ (s.put o v).hbm = s.hbm ∧ (s.put o v).figs = s.figs ∧
    (s.put o v).sdec = s.sdec ∧ (s.put o v).rrec = s.rrec ∧ (s.put o v).adm = s.adm ∧ (s.put o v).cal = s.cal ∧ (s.put o v).rse = s.rse ∧
    (s.put o v).pdp = s.pdp ∧ (s.put o v).pwr = s.pwr ∧ (s.put o v).link = s.link ∧ (s.put o v).scan = s.scan ∧ (s.put o v).rasp = s.rasp ∧
    (s.put o v).aud = s.aud ∧ (s.put o v).tim = s.tim ∧ (s.put o v).mem = s.mem ∧ (s.put o v).thm = s.thm ∧ (s.put o v).nor = s.nor ∧
    (s.put o v).atl = s.atl ∧ (s.put o v).pln = s.pln ∧ (s.put o v).clp = s.clp ∧ (s.put o v).hif = s.hif ∧ (s.put o v).dict = s.dict ∧
    (s.put o v).log = s.log ∧ (s.put o v).flt = s.flt ∧ (s.put o v).out = s.out ∧ (s.put o v).pending = s.pending ∧ (s.put o v).free = s.free := by
  simp [State.put]

@[simp] theorem State.putO_fields (s : State) (o : Obj) (v : Bytes) :
    (s.putO o v).part = s.part ∧ (s.putO o v).die = s.die ∧ (s.putO o v).stop = s.stop ∧ (s.putO o v).clk = s.clk ∧ (s.putO o v).maq = s.maq ∧
    (s.putO o v).cfg = s.cfg ∧ (s.putO o v).held = s.held ∧ (s.putO o v).isl = s.isl ∧ (s.putO o v).hbm = s.hbm ∧ (s.putO o v).figs = s.figs ∧
    (s.putO o v).sdec = s.sdec ∧ (s.putO o v).rrec = s.rrec ∧ (s.putO o v).adm = s.adm ∧ (s.putO o v).cal = s.cal ∧ (s.putO o v).rse = s.rse ∧
    (s.putO o v).pdp = s.pdp ∧ (s.putO o v).pwr = s.pwr ∧ (s.putO o v).link = s.link ∧ (s.putO o v).scan = s.scan ∧ (s.putO o v).rasp = s.rasp ∧
    (s.putO o v).aud = s.aud ∧ (s.putO o v).tim = s.tim ∧ (s.putO o v).mem = s.mem ∧ (s.putO o v).thm = s.thm ∧ (s.putO o v).nor = s.nor ∧
    (s.putO o v).atl = s.atl ∧ (s.putO o v).pln = s.pln ∧ (s.putO o v).clp = s.clp ∧ (s.putO o v).hif = s.hif ∧ (s.putO o v).dict = s.dict ∧
    (s.putO o v).log = s.log ∧ (s.putO o v).flt = s.flt ∧ (s.putO o v).out = s.out ∧ (s.putO o v).pending = s.pending ∧
    (s.putO o v).free = s.free := by
  simp [State.putO]

@[simp] theorem State.putB_fields (s : State) (o : Obj) (v : Bool) :
    (s.putB o v).part = s.part ∧ (s.putB o v).die = s.die ∧ (s.putB o v).stop = s.stop ∧ (s.putB o v).clk = s.clk ∧ (s.putB o v).maq = s.maq ∧
    (s.putB o v).cfg = s.cfg ∧ (s.putB o v).held = s.held ∧ (s.putB o v).isl = s.isl ∧ (s.putB o v).hbm = s.hbm ∧ (s.putB o v).figs = s.figs ∧
    (s.putB o v).sdec = s.sdec ∧ (s.putB o v).rrec = s.rrec ∧ (s.putB o v).adm = s.adm ∧ (s.putB o v).cal = s.cal ∧ (s.putB o v).rse = s.rse ∧
    (s.putB o v).pdp = s.pdp ∧ (s.putB o v).pwr = s.pwr ∧ (s.putB o v).link = s.link ∧ (s.putB o v).scan = s.scan ∧ (s.putB o v).rasp = s.rasp ∧
    (s.putB o v).aud = s.aud ∧ (s.putB o v).tim = s.tim ∧ (s.putB o v).mem = s.mem ∧ (s.putB o v).thm = s.thm ∧ (s.putB o v).nor = s.nor ∧
    (s.putB o v).atl = s.atl ∧ (s.putB o v).pln = s.pln ∧ (s.putB o v).clp = s.clp ∧ (s.putB o v).hif = s.hif ∧ (s.putB o v).dict = s.dict ∧
    (s.putB o v).log = s.log ∧ (s.putB o v).flt = s.flt ∧ (s.putB o v).out = s.out ∧ (s.putB o v).pending = s.pending ∧
    (s.putB o v).free = s.free := by
  simp [State.putB]

@[simp] theorem State.putM_fields (s : State) (o : Obj) (v : Val) :
    (s.putM o v).part = s.part ∧ (s.putM o v).die = s.die ∧ (s.putM o v).stop = s.stop ∧ (s.putM o v).clk = s.clk ∧ (s.putM o v).obj = s.obj ∧
    (s.putM o v).cast = s.cast ∧ (s.putM o v).maq = storeSet s.maq o.key v ∧ (s.putM o v).cfg = s.cfg ∧ (s.putM o v).held = s.held ∧
    (s.putM o v).isl = s.isl ∧ (s.putM o v).hbm = s.hbm ∧ (s.putM o v).figs = s.figs ∧ (s.putM o v).sdec = s.sdec ∧ (s.putM o v).rrec = s.rrec ∧
    (s.putM o v).adm = s.adm ∧ (s.putM o v).cal = s.cal ∧ (s.putM o v).rse = s.rse ∧ (s.putM o v).pdp = s.pdp ∧ (s.putM o v).pwr = s.pwr ∧
    (s.putM o v).link = s.link ∧ (s.putM o v).scan = s.scan ∧ (s.putM o v).rasp = s.rasp ∧ (s.putM o v).aud = s.aud ∧ (s.putM o v).tim = s.tim ∧
    (s.putM o v).mem = s.mem ∧ (s.putM o v).thm = s.thm ∧ (s.putM o v).nor = s.nor ∧ (s.putM o v).atl = s.atl ∧ (s.putM o v).pln = s.pln ∧
    (s.putM o v).clp = s.clp ∧ (s.putM o v).hif = s.hif ∧ (s.putM o v).dict = s.dict ∧ (s.putM o v).log = s.log ∧ (s.putM o v).flt = s.flt ∧
    (s.putM o v).out = s.out ∧ (s.putM o v).pending = s.pending ∧ (s.putM o v).free = s.free := by
  simp [State.putM]

@[simp] theorem State.bumpBy_fields (s : State) (o : Obj) (n : Nat) :
    (s.bumpBy o n).part = s.part ∧ (s.bumpBy o n).die = s.die ∧ (s.bumpBy o n).stop = s.stop ∧ (s.bumpBy o n).clk = s.clk ∧
    (s.bumpBy o n).maq = s.maq ∧ (s.bumpBy o n).cfg = s.cfg ∧ (s.bumpBy o n).held = s.held ∧ (s.bumpBy o n).isl = s.isl ∧ (s.bumpBy o n).hbm = s.hbm ∧
    (s.bumpBy o n).figs = s.figs ∧ (s.bumpBy o n).sdec = s.sdec ∧ (s.bumpBy o n).rrec = s.rrec ∧ (s.bumpBy o n).adm = s.adm ∧
    (s.bumpBy o n).cal = s.cal ∧ (s.bumpBy o n).rse = s.rse ∧ (s.bumpBy o n).pdp = s.pdp ∧ (s.bumpBy o n).pwr = s.pwr ∧ (s.bumpBy o n).link = s.link ∧
    (s.bumpBy o n).scan = s.scan ∧ (s.bumpBy o n).rasp = s.rasp ∧ (s.bumpBy o n).aud = s.aud ∧ (s.bumpBy o n).tim = s.tim ∧
    (s.bumpBy o n).mem = s.mem ∧ (s.bumpBy o n).thm = s.thm ∧ (s.bumpBy o n).nor = s.nor ∧ (s.bumpBy o n).atl = s.atl ∧ (s.bumpBy o n).pln = s.pln ∧
    (s.bumpBy o n).clp = s.clp ∧ (s.bumpBy o n).hif = s.hif ∧ (s.bumpBy o n).dict = s.dict ∧ (s.bumpBy o n).log = s.log ∧ (s.bumpBy o n).flt = s.flt ∧
    (s.bumpBy o n).out = s.out ∧ (s.bumpBy o n).pending = s.pending ∧ (s.bumpBy o n).free = s.free := by
  simp [State.bumpBy]

@[simp] theorem State.bump_fields (s : State) (o : Obj) :
    (s.bump o).part = s.part ∧ (s.bump o).die = s.die ∧ (s.bump o).stop = s.stop ∧ (s.bump o).clk = s.clk ∧ (s.bump o).maq = s.maq ∧
    (s.bump o).cfg = s.cfg ∧ (s.bump o).held = s.held ∧ (s.bump o).isl = s.isl ∧ (s.bump o).hbm = s.hbm ∧ (s.bump o).figs = s.figs ∧
    (s.bump o).sdec = s.sdec ∧ (s.bump o).rrec = s.rrec ∧ (s.bump o).adm = s.adm ∧ (s.bump o).cal = s.cal ∧ (s.bump o).rse = s.rse ∧
    (s.bump o).pdp = s.pdp ∧ (s.bump o).pwr = s.pwr ∧ (s.bump o).link = s.link ∧ (s.bump o).scan = s.scan ∧ (s.bump o).rasp = s.rasp ∧
    (s.bump o).aud = s.aud ∧ (s.bump o).tim = s.tim ∧ (s.bump o).mem = s.mem ∧ (s.bump o).thm = s.thm ∧ (s.bump o).nor = s.nor ∧
    (s.bump o).atl = s.atl ∧ (s.bump o).pln = s.pln ∧ (s.bump o).clp = s.clp ∧ (s.bump o).hif = s.hif ∧ (s.bump o).dict = s.dict ∧
    (s.bump o).log = s.log ∧ (s.bump o).flt = s.flt ∧ (s.bump o).out = s.out ∧ (s.bump o).pending = s.pending ∧ (s.bump o).free = s.free := by
  simp [State.bump]

@[simp] theorem State.reach_fields (s : State) (t : Nat) :
    (s.reach t).part = s.part ∧ (s.reach t).die = s.die ∧ (s.reach t).stop = s.stop ∧ (s.reach t).obj = s.obj ∧ (s.reach t).cast = s.cast ∧
    (s.reach t).maq = s.maq ∧ (s.reach t).cfg = s.cfg ∧ (s.reach t).held = s.held ∧ (s.reach t).isl = s.isl ∧ (s.reach t).hbm = s.hbm ∧
    (s.reach t).figs = s.figs ∧ (s.reach t).sdec = s.sdec ∧ (s.reach t).rrec = s.rrec ∧ (s.reach t).adm = s.adm ∧ (s.reach t).cal = s.cal ∧
    (s.reach t).rse = s.rse ∧ (s.reach t).pdp = s.pdp ∧ (s.reach t).pwr = s.pwr ∧ (s.reach t).link = s.link ∧ (s.reach t).scan = s.scan ∧
    (s.reach t).rasp = s.rasp ∧ (s.reach t).aud = s.aud ∧ (s.reach t).tim = s.tim ∧ (s.reach t).mem = s.mem ∧ (s.reach t).thm = s.thm ∧
    (s.reach t).nor = s.nor ∧ (s.reach t).atl = s.atl ∧ (s.reach t).pln = s.pln ∧ (s.reach t).clp = s.clp ∧ (s.reach t).hif = s.hif ∧
    (s.reach t).dict = s.dict ∧ (s.reach t).log = s.log ∧ (s.reach t).flt = s.flt ∧ (s.reach t).out = s.out ∧ (s.reach t).pending = s.pending ∧
    (s.reach t).free = s.free := by
  unfold State.reach; (repeat' split) <;> simp

@[simp] theorem State.elapseTo_fields (s : State) (t : Nat) :
    (s.elapseTo t).part = s.part ∧ (s.elapseTo t).die = s.die ∧ (s.elapseTo t).stop = s.stop ∧ (s.elapseTo t).obj = s.obj ∧
    (s.elapseTo t).cast = s.cast ∧ (s.elapseTo t).maq = s.maq ∧ (s.elapseTo t).cfg = s.cfg ∧ (s.elapseTo t).held = s.held ∧
    (s.elapseTo t).isl = s.isl ∧ (s.elapseTo t).hbm = s.hbm ∧ (s.elapseTo t).figs = s.figs ∧ (s.elapseTo t).sdec = s.sdec ∧
    (s.elapseTo t).rrec = s.rrec ∧ (s.elapseTo t).adm = s.adm ∧ (s.elapseTo t).cal = s.cal ∧ (s.elapseTo t).rse = s.rse ∧ (s.elapseTo t).pdp = s.pdp ∧
    (s.elapseTo t).pwr = s.pwr ∧ (s.elapseTo t).link = s.link ∧ (s.elapseTo t).scan = s.scan ∧ (s.elapseTo t).rasp = s.rasp ∧
    (s.elapseTo t).aud = s.aud ∧ (s.elapseTo t).tim = s.tim ∧ (s.elapseTo t).mem = s.mem ∧ (s.elapseTo t).thm = s.thm ∧ (s.elapseTo t).nor = s.nor ∧
    (s.elapseTo t).atl = s.atl ∧ (s.elapseTo t).pln = s.pln ∧ (s.elapseTo t).clp = s.clp ∧ (s.elapseTo t).hif = s.hif ∧ (s.elapseTo t).dict = s.dict ∧
    (s.elapseTo t).log = s.log ∧ (s.elapseTo t).flt = s.flt ∧ (s.elapseTo t).out = s.out ∧ (s.elapseTo t).pending = s.pending ∧
    (s.elapseTo t).free = s.free := by
  unfold State.elapseTo; (repeat' split) <;> simp

@[simp] theorem State.drawFree_fields (s : State) :
    (s.drawFree).part = s.part ∧ (s.drawFree).die = s.die ∧ (s.drawFree).stop = s.stop ∧ (s.drawFree).clk = s.clk ∧ (s.drawFree).obj = s.obj ∧
    (s.drawFree).cast = s.cast ∧ (s.drawFree).maq = s.maq ∧ (s.drawFree).cfg = s.cfg ∧ (s.drawFree).held = s.held ∧ (s.drawFree).isl = s.isl ∧
    (s.drawFree).hbm = s.hbm ∧ (s.drawFree).figs = s.figs ∧ (s.drawFree).sdec = s.sdec ∧ (s.drawFree).rrec = s.rrec ∧ (s.drawFree).adm = s.adm ∧
    (s.drawFree).cal = s.cal ∧ (s.drawFree).rse = s.rse ∧ (s.drawFree).pdp = s.pdp ∧ (s.drawFree).pwr = s.pwr ∧ (s.drawFree).link = s.link ∧
    (s.drawFree).scan = s.scan ∧ (s.drawFree).rasp = s.rasp ∧ (s.drawFree).aud = s.aud ∧ (s.drawFree).tim = s.tim ∧ (s.drawFree).mem = s.mem ∧
    (s.drawFree).thm = s.thm ∧ (s.drawFree).nor = s.nor ∧ (s.drawFree).atl = s.atl ∧ (s.drawFree).pln = s.pln ∧ (s.drawFree).clp = s.clp ∧
    (s.drawFree).hif = s.hif ∧ (s.drawFree).dict = s.dict ∧ (s.drawFree).log = s.log ∧ (s.drawFree).flt = s.flt ∧ (s.drawFree).out = s.out ∧
    (s.drawFree).pending = s.pending ∧ (s.drawFree).free = s.free + 1 := by
  simp [State.drawFree]

@[simp] theorem State.emit_fields (s : State) (o : Out) :
    (s.emit o).part = s.part ∧ (s.emit o).die = s.die ∧ (s.emit o).stop = s.stop ∧ (s.emit o).clk = s.clk ∧ (s.emit o).obj = s.obj ∧
    (s.emit o).cast = s.cast ∧ (s.emit o).maq = s.maq ∧ (s.emit o).cfg = s.cfg ∧ (s.emit o).held = s.held ∧ (s.emit o).isl = s.isl ∧
    (s.emit o).hbm = s.hbm ∧ (s.emit o).figs = s.figs ∧ (s.emit o).sdec = s.sdec ∧ (s.emit o).rrec = s.rrec ∧ (s.emit o).adm = s.adm ∧
    (s.emit o).cal = s.cal ∧ (s.emit o).rse = s.rse ∧ (s.emit o).pdp = s.pdp ∧ (s.emit o).pwr = s.pwr ∧ (s.emit o).link = s.link ∧
    (s.emit o).scan = s.scan ∧ (s.emit o).rasp = s.rasp ∧ (s.emit o).aud = s.aud ∧ (s.emit o).tim = s.tim ∧ (s.emit o).mem = s.mem ∧
    (s.emit o).thm = s.thm ∧ (s.emit o).nor = s.nor ∧ (s.emit o).atl = s.atl ∧ (s.emit o).pln = s.pln ∧ (s.emit o).clp = s.clp ∧
    (s.emit o).hif = s.hif ∧ (s.emit o).dict = s.dict ∧ (s.emit o).log = s.log ∧ (s.emit o).flt = s.flt ∧ (s.emit o).out = o :: s.out ∧
    (s.emit o).pending = s.pending ∧ (s.emit o).free = s.free := by
  simp [State.emit]

@[simp] theorem State.sendVector_fields (s : State) (v : Nat) :
    (s.sendVector v).part = s.part ∧ (s.sendVector v).die = s.die ∧ (s.sendVector v).stop = s.stop ∧ (s.sendVector v).clk = s.clk ∧
    (s.sendVector v).obj = s.obj ∧ (s.sendVector v).cast = s.cast ∧ (s.sendVector v).maq = s.maq ∧ (s.sendVector v).cfg = s.cfg ∧
    (s.sendVector v).held = s.held ∧ (s.sendVector v).isl = s.isl ∧ (s.sendVector v).hbm = s.hbm ∧ (s.sendVector v).figs = s.figs ∧
    (s.sendVector v).sdec = s.sdec ∧ (s.sendVector v).rrec = s.rrec ∧ (s.sendVector v).adm = s.adm ∧ (s.sendVector v).cal = s.cal ∧
    (s.sendVector v).rse = s.rse ∧ (s.sendVector v).pdp = s.pdp ∧ (s.sendVector v).pwr = s.pwr ∧ (s.sendVector v).link = s.link ∧
    (s.sendVector v).scan = s.scan ∧ (s.sendVector v).rasp = s.rasp ∧ (s.sendVector v).aud = s.aud ∧ (s.sendVector v).tim = s.tim ∧
    (s.sendVector v).mem = s.mem ∧ (s.sendVector v).thm = s.thm ∧ (s.sendVector v).nor = s.nor ∧ (s.sendVector v).atl = s.atl ∧
    (s.sendVector v).pln = s.pln ∧ (s.sendVector v).clp = s.clp ∧ (s.sendVector v).dict = s.dict ∧ (s.sendVector v).log = s.log ∧
    (s.sendVector v).flt = s.flt ∧ (s.sendVector v).pending = s.pending ∧ (s.sendVector v).free = s.free := by
  unfold State.sendVector; dsimp only; (repeat' split) <;> simp

@[simp] theorem State.irq_fields (s : State) (b : Nat) :
    (s.irq b).part = s.part ∧ (s.irq b).die = s.die ∧ (s.irq b).stop = s.stop ∧ (s.irq b).clk = s.clk ∧ (s.irq b).obj = s.obj ∧
    (s.irq b).cast = s.cast ∧ (s.irq b).maq = s.maq ∧ (s.irq b).cfg = s.cfg ∧ (s.irq b).held = s.held ∧ (s.irq b).isl = s.isl ∧ (s.irq b).hbm = s.hbm ∧
    (s.irq b).figs = s.figs ∧ (s.irq b).sdec = s.sdec ∧ (s.irq b).rrec = s.rrec ∧ (s.irq b).adm = s.adm ∧ (s.irq b).cal = s.cal ∧
    (s.irq b).rse = s.rse ∧ (s.irq b).pdp = s.pdp ∧ (s.irq b).pwr = s.pwr ∧ (s.irq b).link = s.link ∧ (s.irq b).scan = s.scan ∧
    (s.irq b).rasp = s.rasp ∧ (s.irq b).aud = s.aud ∧ (s.irq b).tim = s.tim ∧ (s.irq b).mem = s.mem ∧ (s.irq b).thm = s.thm ∧ (s.irq b).nor = s.nor ∧
    (s.irq b).atl = s.atl ∧ (s.irq b).pln = s.pln ∧ (s.irq b).clp = s.clp ∧ (s.irq b).dict = s.dict ∧ (s.irq b).log = s.log ∧ (s.irq b).flt = s.flt ∧
    (s.irq b).pending = s.pending ∧ (s.irq b).free = s.free := by
  unfold State.irq; dsimp only; (repeat' split) <;> simp

@[simp] theorem State.lastError_fields (s : State) (c : Nat) :
    (s.lastError c).part = s.part ∧ (s.lastError c).die = s.die ∧ (s.lastError c).stop = s.stop ∧ (s.lastError c).clk = s.clk ∧
    (s.lastError c).obj = s.obj ∧ (s.lastError c).cast = s.cast ∧ (s.lastError c).maq = s.maq ∧ (s.lastError c).cfg = s.cfg ∧
    (s.lastError c).held = s.held ∧ (s.lastError c).isl = s.isl ∧ (s.lastError c).hbm = s.hbm ∧ (s.lastError c).figs = s.figs ∧
    (s.lastError c).sdec = s.sdec ∧ (s.lastError c).rrec = s.rrec ∧ (s.lastError c).adm = s.adm ∧ (s.lastError c).cal = s.cal ∧
    (s.lastError c).rse = s.rse ∧ (s.lastError c).pdp = s.pdp ∧ (s.lastError c).pwr = s.pwr ∧ (s.lastError c).link = s.link ∧
    (s.lastError c).scan = s.scan ∧ (s.lastError c).rasp = s.rasp ∧ (s.lastError c).aud = s.aud ∧ (s.lastError c).tim = s.tim ∧
    (s.lastError c).mem = s.mem ∧ (s.lastError c).thm = s.thm ∧ (s.lastError c).nor = s.nor ∧ (s.lastError c).atl = s.atl ∧
    (s.lastError c).pln = s.pln ∧ (s.lastError c).clp = s.clp ∧ (s.lastError c).dict = s.dict ∧ (s.lastError c).log = s.log ∧
    (s.lastError c).flt = s.flt ∧ (s.lastError c).pending = s.pending ∧ (s.lastError c).free = s.free := by
  unfold State.lastError; dsimp only; (repeat' split) <;> simp

@[simp] theorem State.postWith_fields (s : State) (b : Bool) (c : Nat) (p : List Nat) :
    (s.postWith b c p).part = s.part ∧ (s.postWith b c p).die = s.die ∧ (s.postWith b c p).stop = s.stop ∧ (s.postWith b c p).clk = s.clk ∧
    (s.postWith b c p).maq = s.maq ∧ (s.postWith b c p).cfg = s.cfg ∧ (s.postWith b c p).held = s.held ∧ (s.postWith b c p).isl = s.isl ∧
    (s.postWith b c p).hbm = s.hbm ∧ (s.postWith b c p).figs = s.figs ∧ (s.postWith b c p).sdec = s.sdec ∧ (s.postWith b c p).rrec = s.rrec ∧
    (s.postWith b c p).adm = s.adm ∧ (s.postWith b c p).cal = s.cal ∧ (s.postWith b c p).rse = s.rse ∧ (s.postWith b c p).pdp = s.pdp ∧
    (s.postWith b c p).pwr = s.pwr ∧ (s.postWith b c p).link = s.link ∧ (s.postWith b c p).scan = s.scan ∧ (s.postWith b c p).rasp = s.rasp ∧
    (s.postWith b c p).aud = s.aud ∧ (s.postWith b c p).tim = s.tim ∧ (s.postWith b c p).mem = s.mem ∧ (s.postWith b c p).thm = s.thm ∧
    (s.postWith b c p).nor = s.nor ∧ (s.postWith b c p).atl = s.atl ∧ (s.postWith b c p).pln = s.pln ∧ (s.postWith b c p).clp = s.clp ∧
    (s.postWith b c p).dict = s.dict ∧ (s.postWith b c p).flt = s.flt ∧ (s.postWith b c p).pending = s.pending ∧ (s.postWith b c p).free = s.free := by
  unfold State.postWith; dsimp only; (repeat' split) <;> simp

@[simp] theorem State.post_fields (s : State) (c : Nat) (p : List Nat) :
    (s.post c p).part = s.part ∧ (s.post c p).die = s.die ∧ (s.post c p).stop = s.stop ∧ (s.post c p).clk = s.clk ∧ (s.post c p).maq = s.maq ∧
    (s.post c p).cfg = s.cfg ∧ (s.post c p).held = s.held ∧ (s.post c p).isl = s.isl ∧ (s.post c p).hbm = s.hbm ∧ (s.post c p).figs = s.figs ∧
    (s.post c p).sdec = s.sdec ∧ (s.post c p).rrec = s.rrec ∧ (s.post c p).adm = s.adm ∧ (s.post c p).cal = s.cal ∧ (s.post c p).rse = s.rse ∧
    (s.post c p).pdp = s.pdp ∧ (s.post c p).pwr = s.pwr ∧ (s.post c p).link = s.link ∧ (s.post c p).scan = s.scan ∧ (s.post c p).rasp = s.rasp ∧
    (s.post c p).aud = s.aud ∧ (s.post c p).tim = s.tim ∧ (s.post c p).mem = s.mem ∧ (s.post c p).thm = s.thm ∧ (s.post c p).nor = s.nor ∧
    (s.post c p).atl = s.atl ∧ (s.post c p).pln = s.pln ∧ (s.post c p).clp = s.clp ∧ (s.post c p).dict = s.dict ∧ (s.post c p).flt = s.flt ∧
    (s.post c p).pending = s.pending ∧ (s.post c p).free = s.free := by
  simp [State.post]

@[simp] theorem State.postFault_fields (s : State) (c : Nat) (p : List Nat) :
    (s.postFault c p).part = s.part ∧ (s.postFault c p).die = s.die ∧ (s.postFault c p).stop = s.stop ∧ (s.postFault c p).clk = s.clk ∧
    (s.postFault c p).maq = s.maq ∧ (s.postFault c p).cfg = s.cfg ∧ (s.postFault c p).held = s.held ∧ (s.postFault c p).isl = s.isl ∧
    (s.postFault c p).hbm = s.hbm ∧ (s.postFault c p).figs = s.figs ∧ (s.postFault c p).sdec = s.sdec ∧ (s.postFault c p).rrec = s.rrec ∧
    (s.postFault c p).adm = s.adm ∧ (s.postFault c p).cal = s.cal ∧ (s.postFault c p).rse = s.rse ∧ (s.postFault c p).pdp = s.pdp ∧
    (s.postFault c p).pwr = s.pwr ∧ (s.postFault c p).link = s.link ∧ (s.postFault c p).scan = s.scan ∧ (s.postFault c p).rasp = s.rasp ∧
    (s.postFault c p).aud = s.aud ∧ (s.postFault c p).tim = s.tim ∧ (s.postFault c p).mem = s.mem ∧ (s.postFault c p).thm = s.thm ∧
    (s.postFault c p).nor = s.nor ∧ (s.postFault c p).atl = s.atl ∧ (s.postFault c p).pln = s.pln ∧ (s.postFault c p).clp = s.clp ∧
    (s.postFault c p).dict = s.dict ∧ (s.postFault c p).flt = s.flt ∧ (s.postFault c p).pending = s.pending ∧ (s.postFault c p).free = s.free := by
  simp [State.postFault]

@[simp] theorem State.note_fields (s : State) (o : Obj) (c : Nat) (p : List Nat) :
    (s.note o c p).part = s.part ∧ (s.note o c p).die = s.die ∧ (s.note o c p).stop = s.stop ∧ (s.note o c p).clk = s.clk ∧
    (s.note o c p).maq = s.maq ∧ (s.note o c p).cfg = s.cfg ∧ (s.note o c p).held = s.held ∧ (s.note o c p).isl = s.isl ∧ (s.note o c p).hbm = s.hbm ∧
    (s.note o c p).figs = s.figs ∧ (s.note o c p).sdec = s.sdec ∧ (s.note o c p).rrec = s.rrec ∧ (s.note o c p).adm = s.adm ∧
    (s.note o c p).cal = s.cal ∧ (s.note o c p).rse = s.rse ∧ (s.note o c p).pdp = s.pdp ∧ (s.note o c p).pwr = s.pwr ∧ (s.note o c p).link = s.link ∧
    (s.note o c p).scan = s.scan ∧ (s.note o c p).rasp = s.rasp ∧ (s.note o c p).aud = s.aud ∧ (s.note o c p).tim = s.tim ∧
    (s.note o c p).mem = s.mem ∧ (s.note o c p).thm = s.thm ∧ (s.note o c p).nor = s.nor ∧ (s.note o c p).atl = s.atl ∧ (s.note o c p).pln = s.pln ∧
    (s.note o c p).clp = s.clp ∧ (s.note o c p).dict = s.dict ∧ (s.note o c p).flt = s.flt ∧ (s.note o c p).pending = s.pending ∧
    (s.note o c p).free = s.free := by
  simp [State.note]

@[simp] theorem State.uncover_fields (s : State) :
    (s.uncover).part = s.part ∧ (s.uncover).die = s.die ∧ (s.uncover).stop = s.stop ∧ (s.uncover).clk = s.clk ∧ (s.uncover).obj = s.obj ∧
    (s.uncover).cast = s.cast ∧ (s.uncover).maq = s.maq ∧ (s.uncover).cfg = s.cfg ∧ (s.uncover).held = s.held ∧ (s.uncover).isl = s.isl ∧
    (s.uncover).hbm = s.hbm ∧ (s.uncover).figs = s.figs ∧ (s.uncover).sdec = s.sdec ∧ (s.uncover).rrec = s.rrec ∧ (s.uncover).cal = s.cal ∧
    (s.uncover).rse = s.rse ∧ (s.uncover).pdp = s.pdp ∧ (s.uncover).pwr = s.pwr ∧ (s.uncover).link = s.link ∧ (s.uncover).rasp = s.rasp ∧
    (s.uncover).aud = s.aud ∧ (s.uncover).tim = s.tim ∧ (s.uncover).mem = s.mem ∧ (s.uncover).thm = s.thm ∧ (s.uncover).nor = s.nor ∧
    (s.uncover).atl = s.atl ∧ (s.uncover).pln = s.pln ∧ (s.uncover).clp = s.clp ∧ (s.uncover).hif = s.hif ∧ (s.uncover).dict = s.dict ∧
    (s.uncover).log = s.log ∧ (s.uncover).flt = s.flt ∧ (s.uncover).out = s.out ∧ (s.uncover).pending = s.pending ∧ (s.uncover).free = s.free := by
  simp [State.uncover]

@[simp] theorem State.suspend_fields (s : State) (b : Nat) :
    (s.suspend b).part = s.part ∧ (s.suspend b).die = s.die ∧ (s.suspend b).stop = s.stop ∧ (s.suspend b).clk = s.clk ∧ (s.suspend b).maq = s.maq ∧
    (s.suspend b).cfg = s.cfg ∧ (s.suspend b).held = s.held ∧ (s.suspend b).isl = s.isl ∧ (s.suspend b).hbm = s.hbm ∧ (s.suspend b).figs = s.figs ∧
    (s.suspend b).sdec = s.sdec ∧ (s.suspend b).rrec = s.rrec ∧ (s.suspend b).cal = s.cal ∧ (s.suspend b).rse = s.rse ∧ (s.suspend b).pdp = s.pdp ∧
    (s.suspend b).pwr = s.pwr ∧ (s.suspend b).link = s.link ∧ (s.suspend b).rasp = s.rasp ∧ (s.suspend b).aud = s.aud ∧ (s.suspend b).tim = s.tim ∧
    (s.suspend b).mem = s.mem ∧ (s.suspend b).thm = s.thm ∧ (s.suspend b).nor = s.nor ∧ (s.suspend b).atl = s.atl ∧ (s.suspend b).pln = s.pln ∧
    (s.suspend b).clp = s.clp ∧ (s.suspend b).dict = s.dict ∧ (s.suspend b).flt = s.flt ∧ (s.suspend b).pending = s.pending ∧
    (s.suspend b).free = s.free := by
  unfold State.suspend; (repeat' split) <;> simp

@[simp] theorem State.resume_fields (s : State) (b : Nat) :
    (s.resume b).part = s.part ∧ (s.resume b).die = s.die ∧ (s.resume b).stop = s.stop ∧ (s.resume b).clk = s.clk ∧ (s.resume b).maq = s.maq ∧
    (s.resume b).cfg = s.cfg ∧ (s.resume b).held = s.held ∧ (s.resume b).isl = s.isl ∧ (s.resume b).hbm = s.hbm ∧ (s.resume b).figs = s.figs ∧
    (s.resume b).sdec = s.sdec ∧ (s.resume b).rrec = s.rrec ∧ (s.resume b).adm = s.adm ∧ (s.resume b).cal = s.cal ∧ (s.resume b).rse = s.rse ∧
    (s.resume b).pdp = s.pdp ∧ (s.resume b).pwr = s.pwr ∧ (s.resume b).link = s.link ∧ (s.resume b).scan = s.scan ∧ (s.resume b).rasp = s.rasp ∧
    (s.resume b).aud = s.aud ∧ (s.resume b).tim = s.tim ∧ (s.resume b).mem = s.mem ∧ (s.resume b).thm = s.thm ∧ (s.resume b).nor = s.nor ∧
    (s.resume b).atl = s.atl ∧ (s.resume b).pln = s.pln ∧ (s.resume b).clp = s.clp ∧ (s.resume b).dict = s.dict ∧ (s.resume b).flt = s.flt ∧
    (s.resume b).pending = s.pending ∧ (s.resume b).free = s.free := by
  unfold State.resume; dsimp only; (repeat' split) <;> simp

@[simp] theorem State.refreshFaults_fields (s : State) :
    (s.refreshFaults).part = s.part ∧ (s.refreshFaults).die = s.die ∧ (s.refreshFaults).stop = s.stop ∧ (s.refreshFaults).clk = s.clk ∧
    (s.refreshFaults).maq = s.maq ∧ (s.refreshFaults).cfg = s.cfg ∧ (s.refreshFaults).held = s.held ∧ (s.refreshFaults).isl = s.isl ∧
    (s.refreshFaults).hbm = s.hbm ∧ (s.refreshFaults).figs = s.figs ∧ (s.refreshFaults).sdec = s.sdec ∧ (s.refreshFaults).rrec = s.rrec ∧
    (s.refreshFaults).cal = s.cal ∧ (s.refreshFaults).rse = s.rse ∧ (s.refreshFaults).pdp = s.pdp ∧ (s.refreshFaults).pwr = s.pwr ∧
    (s.refreshFaults).link = s.link ∧ (s.refreshFaults).rasp = s.rasp ∧ (s.refreshFaults).aud = s.aud ∧ (s.refreshFaults).tim = s.tim ∧
    (s.refreshFaults).mem = s.mem ∧ (s.refreshFaults).thm = s.thm ∧ (s.refreshFaults).nor = s.nor ∧ (s.refreshFaults).atl = s.atl ∧
    (s.refreshFaults).pln = s.pln ∧ (s.refreshFaults).clp = s.clp ∧ (s.refreshFaults).dict = s.dict ∧ (s.refreshFaults).flt = s.flt ∧
    (s.refreshFaults).pending = s.pending ∧ (s.refreshFaults).free = s.free := by
  unfold State.refreshFaults; dsimp only; split <;> simp only [State.putB_fields, State.put_fields, State.suspend_fields, State.resume_fields, and_self]

@[simp] theorem State.raise_fields (s : State) (fam cls item code : Nat) (p : List Nat) :
    (s.raise fam cls item code p).part = s.part ∧ (s.raise fam cls item code p).die = s.die ∧ (s.raise fam cls item code p).stop = s.stop ∧
    (s.raise fam cls item code p).clk = s.clk ∧ (s.raise fam cls item code p).maq = s.maq ∧ (s.raise fam cls item code p).cfg = s.cfg ∧
    (s.raise fam cls item code p).held = s.held ∧ (s.raise fam cls item code p).isl = s.isl ∧ (s.raise fam cls item code p).hbm = s.hbm ∧
    (s.raise fam cls item code p).figs = s.figs ∧ (s.raise fam cls item code p).sdec = s.sdec ∧ (s.raise fam cls item code p).rrec = s.rrec ∧
    (s.raise fam cls item code p).cal = s.cal ∧ (s.raise fam cls item code p).rse = s.rse ∧ (s.raise fam cls item code p).pdp = s.pdp ∧
    (s.raise fam cls item code p).pwr = s.pwr ∧ (s.raise fam cls item code p).link = s.link ∧ (s.raise fam cls item code p).rasp = s.rasp ∧
    (s.raise fam cls item code p).aud = s.aud ∧ (s.raise fam cls item code p).tim = s.tim ∧ (s.raise fam cls item code p).mem = s.mem ∧
    (s.raise fam cls item code p).thm = s.thm ∧ (s.raise fam cls item code p).nor = s.nor ∧ (s.raise fam cls item code p).atl = s.atl ∧
    (s.raise fam cls item code p).pln = s.pln ∧ (s.raise fam cls item code p).clp = s.clp ∧ (s.raise fam cls item code p).dict = s.dict ∧
    (s.raise fam cls item code p).pending = s.pending ∧ (s.raise fam cls item code p).free = s.free := by
  simp [State.raise]

@[simp] theorem State.settleIf_fields (s : State) (fam : Nat) (p : FaultRec → Bool) :
    (s.settleIf fam p).part = s.part ∧ (s.settleIf fam p).die = s.die ∧ (s.settleIf fam p).stop = s.stop ∧ (s.settleIf fam p).clk = s.clk ∧
    (s.settleIf fam p).maq = s.maq ∧ (s.settleIf fam p).cfg = s.cfg ∧ (s.settleIf fam p).held = s.held ∧ (s.settleIf fam p).isl = s.isl ∧
    (s.settleIf fam p).hbm = s.hbm ∧ (s.settleIf fam p).figs = s.figs ∧ (s.settleIf fam p).sdec = s.sdec ∧ (s.settleIf fam p).rrec = s.rrec ∧
    (s.settleIf fam p).cal = s.cal ∧ (s.settleIf fam p).rse = s.rse ∧ (s.settleIf fam p).pdp = s.pdp ∧ (s.settleIf fam p).pwr = s.pwr ∧
    (s.settleIf fam p).link = s.link ∧ (s.settleIf fam p).rasp = s.rasp ∧ (s.settleIf fam p).aud = s.aud ∧ (s.settleIf fam p).tim = s.tim ∧
    (s.settleIf fam p).mem = s.mem ∧ (s.settleIf fam p).thm = s.thm ∧ (s.settleIf fam p).nor = s.nor ∧ (s.settleIf fam p).atl = s.atl ∧
    (s.settleIf fam p).pln = s.pln ∧ (s.settleIf fam p).clp = s.clp ∧ (s.settleIf fam p).dict = s.dict ∧ (s.settleIf fam p).pending = s.pending ∧
    (s.settleIf fam p).free = s.free := by
  unfold State.settleIf; (repeat' split) <;> simp

@[simp] theorem State.settle_fields (s : State) (fam cls : Nat) :
    (s.settle fam cls).part = s.part ∧ (s.settle fam cls).die = s.die ∧ (s.settle fam cls).stop = s.stop ∧ (s.settle fam cls).clk = s.clk ∧
    (s.settle fam cls).maq = s.maq ∧ (s.settle fam cls).cfg = s.cfg ∧ (s.settle fam cls).held = s.held ∧ (s.settle fam cls).isl = s.isl ∧
    (s.settle fam cls).hbm = s.hbm ∧ (s.settle fam cls).figs = s.figs ∧ (s.settle fam cls).sdec = s.sdec ∧ (s.settle fam cls).rrec = s.rrec ∧
    (s.settle fam cls).cal = s.cal ∧ (s.settle fam cls).rse = s.rse ∧ (s.settle fam cls).pdp = s.pdp ∧ (s.settle fam cls).pwr = s.pwr ∧
    (s.settle fam cls).link = s.link ∧ (s.settle fam cls).rasp = s.rasp ∧ (s.settle fam cls).aud = s.aud ∧ (s.settle fam cls).tim = s.tim ∧
    (s.settle fam cls).mem = s.mem ∧ (s.settle fam cls).thm = s.thm ∧ (s.settle fam cls).nor = s.nor ∧ (s.settle fam cls).atl = s.atl ∧
    (s.settle fam cls).pln = s.pln ∧ (s.settle fam cls).clp = s.clp ∧ (s.settle fam cls).dict = s.dict ∧ (s.settle fam cls).pending = s.pending ∧
    (s.settle fam cls).free = s.free := by
  simp [State.settle]

@[simp] theorem State.settleItem_fields (s : State) (fam cls item : Nat) :
    (s.settleItem fam cls item).part = s.part ∧ (s.settleItem fam cls item).die = s.die ∧ (s.settleItem fam cls item).stop = s.stop ∧
    (s.settleItem fam cls item).clk = s.clk ∧ (s.settleItem fam cls item).maq = s.maq ∧ (s.settleItem fam cls item).cfg = s.cfg ∧
    (s.settleItem fam cls item).held = s.held ∧ (s.settleItem fam cls item).isl = s.isl ∧ (s.settleItem fam cls item).hbm = s.hbm ∧
    (s.settleItem fam cls item).figs = s.figs ∧ (s.settleItem fam cls item).sdec = s.sdec ∧ (s.settleItem fam cls item).rrec = s.rrec ∧
    (s.settleItem fam cls item).cal = s.cal ∧ (s.settleItem fam cls item).rse = s.rse ∧ (s.settleItem fam cls item).pdp = s.pdp ∧
    (s.settleItem fam cls item).pwr = s.pwr ∧ (s.settleItem fam cls item).link = s.link ∧ (s.settleItem fam cls item).rasp = s.rasp ∧
    (s.settleItem fam cls item).aud = s.aud ∧ (s.settleItem fam cls item).tim = s.tim ∧ (s.settleItem fam cls item).mem = s.mem ∧
    (s.settleItem fam cls item).thm = s.thm ∧ (s.settleItem fam cls item).nor = s.nor ∧ (s.settleItem fam cls item).atl = s.atl ∧
    (s.settleItem fam cls item).pln = s.pln ∧ (s.settleItem fam cls item).clp = s.clp ∧ (s.settleItem fam cls item).dict = s.dict ∧
    (s.settleItem fam cls item).pending = s.pending ∧ (s.settleItem fam cls item).free = s.free := by
  simp [State.settleItem]

@[simp] theorem State.warnRender_fields (s : State) (c : Nat) :
    (s.warnRender c).part = s.part ∧ (s.warnRender c).die = s.die ∧ (s.warnRender c).stop = s.stop ∧ (s.warnRender c).clk = s.clk ∧
    (s.warnRender c).obj = s.obj ∧ (s.warnRender c).cast = s.cast ∧ (s.warnRender c).maq = s.maq ∧ (s.warnRender c).cfg = s.cfg ∧
    (s.warnRender c).held = s.held ∧ (s.warnRender c).isl = s.isl ∧ (s.warnRender c).hbm = s.hbm ∧ (s.warnRender c).figs = s.figs ∧
    (s.warnRender c).sdec = s.sdec ∧ (s.warnRender c).rrec = s.rrec ∧ (s.warnRender c).adm = s.adm ∧ (s.warnRender c).cal = s.cal ∧
    (s.warnRender c).rse = s.rse ∧ (s.warnRender c).pdp = s.pdp ∧ (s.warnRender c).pwr = s.pwr ∧ (s.warnRender c).link = s.link ∧
    (s.warnRender c).scan = s.scan ∧ (s.warnRender c).rasp = s.rasp ∧ (s.warnRender c).aud = s.aud ∧ (s.warnRender c).tim = s.tim ∧
    (s.warnRender c).mem = s.mem ∧ (s.warnRender c).thm = s.thm ∧ (s.warnRender c).nor = s.nor ∧ (s.warnRender c).atl = s.atl ∧
    (s.warnRender c).pln = s.pln ∧ (s.warnRender c).clp = s.clp ∧ (s.warnRender c).hif = { s.hif with warnRender := addWarn s.hif.warnRender c } ∧
    (s.warnRender c).dict = s.dict ∧ (s.warnRender c).log = s.log ∧ (s.warnRender c).flt = s.flt ∧ (s.warnRender c).out = s.out ∧
    (s.warnRender c).pending = s.pending ∧ (s.warnRender c).free = s.free := by
  simp [State.warnRender]

@[simp] theorem State.complete_fields (s : State) (c : Completion) :
    (s.complete c).part = s.part ∧ (s.complete c).die = s.die ∧ (s.complete c).stop = s.stop ∧ (s.complete c).clk = s.clk ∧
    (s.complete c).maq = s.maq ∧ (s.complete c).cfg = s.cfg ∧ (s.complete c).held = s.held ∧ (s.complete c).isl = s.isl ∧ (s.complete c).hbm = s.hbm ∧
    (s.complete c).figs = s.figs ∧ (s.complete c).sdec = s.sdec ∧ (s.complete c).rrec = s.rrec ∧ (s.complete c).adm = s.adm ∧
    (s.complete c).cal = s.cal ∧ (s.complete c).rse = s.rse ∧ (s.complete c).pdp = s.pdp ∧ (s.complete c).pwr = s.pwr ∧ (s.complete c).link = s.link ∧
    (s.complete c).scan = s.scan ∧ (s.complete c).rasp = s.rasp ∧ (s.complete c).aud = s.aud ∧ (s.complete c).tim = s.tim ∧
    (s.complete c).mem = s.mem ∧ (s.complete c).thm = s.thm ∧ (s.complete c).nor = s.nor ∧ (s.complete c).atl = s.atl ∧ (s.complete c).pln = s.pln ∧
    (s.complete c).clp = s.clp ∧ (s.complete c).dict = s.dict ∧ (s.complete c).log = s.log ∧ (s.complete c).flt = s.flt ∧
    (s.complete c).pending = s.pending ∧ (s.complete c).free = s.free := by
  unfold State.complete; split <;> simp

@[simp] theorem State.memRequest_fields (s : State) :
    (s.memRequest).part = s.part ∧ (s.memRequest).die = s.die ∧ (s.memRequest).stop = s.stop ∧ (s.memRequest).clk = s.clk ∧
    (s.memRequest).obj = s.obj ∧ (s.memRequest).cast = s.cast ∧ (s.memRequest).maq = s.maq ∧ (s.memRequest).cfg = s.cfg ∧
    (s.memRequest).held = s.held ∧ (s.memRequest).isl = s.isl ∧ (s.memRequest).hbm = s.hbm ∧ (s.memRequest).figs = s.figs ∧
    (s.memRequest).sdec = s.sdec ∧ (s.memRequest).rrec = s.rrec ∧ (s.memRequest).adm = s.adm ∧ (s.memRequest).cal = s.cal ∧
    (s.memRequest).rse = s.rse ∧ (s.memRequest).pdp = s.pdp ∧ (s.memRequest).pwr = s.pwr ∧ (s.memRequest).link = s.link ∧
    (s.memRequest).scan = s.scan ∧ (s.memRequest).rasp = s.rasp ∧ (s.memRequest).aud = s.aud ∧ (s.memRequest).tim = s.tim ∧
    (s.memRequest).thm = s.thm ∧ (s.memRequest).nor = s.nor ∧ (s.memRequest).atl = s.atl ∧ (s.memRequest).pln = s.pln ∧ (s.memRequest).clp = s.clp ∧
    (s.memRequest).hif = s.hif ∧ (s.memRequest).dict = s.dict ∧ (s.memRequest).log = s.log ∧ (s.memRequest).flt = s.flt ∧ (s.memRequest).out = s.out ∧
    (s.memRequest).pending = s.pending ∧ (s.memRequest).free = s.free := by
  simp [State.memRequest]

@[simp] theorem State.hbmWrite_fields (s : State) (a : Nat) (b : Bytes) :
    (s.hbmWrite a b).part = s.part ∧ (s.hbmWrite a b).die = s.die ∧ (s.hbmWrite a b).stop = s.stop ∧ (s.hbmWrite a b).clk = s.clk ∧
    (s.hbmWrite a b).obj = s.obj ∧ (s.hbmWrite a b).cast = s.cast ∧ (s.hbmWrite a b).maq = s.maq ∧ (s.hbmWrite a b).cfg = s.cfg ∧
    (s.hbmWrite a b).held = s.held ∧ (s.hbmWrite a b).isl = s.isl ∧ (s.hbmWrite a b).hbm = memWrite s.hbm a b ∧ (s.hbmWrite a b).figs = s.figs ∧
    (s.hbmWrite a b).sdec = s.sdec ∧ (s.hbmWrite a b).rrec = s.rrec ∧ (s.hbmWrite a b).adm = s.adm ∧ (s.hbmWrite a b).cal = s.cal ∧
    (s.hbmWrite a b).rse = s.rse ∧ (s.hbmWrite a b).pdp = s.pdp ∧ (s.hbmWrite a b).pwr = s.pwr ∧ (s.hbmWrite a b).link = s.link ∧
    (s.hbmWrite a b).scan = s.scan ∧ (s.hbmWrite a b).rasp = s.rasp ∧ (s.hbmWrite a b).aud = s.aud ∧ (s.hbmWrite a b).tim = s.tim ∧
    (s.hbmWrite a b).thm = s.thm ∧ (s.hbmWrite a b).nor = s.nor ∧ (s.hbmWrite a b).atl = s.atl ∧ (s.hbmWrite a b).pln = s.pln ∧
    (s.hbmWrite a b).clp = s.clp ∧ (s.hbmWrite a b).hif = s.hif ∧ (s.hbmWrite a b).dict = s.dict ∧ (s.hbmWrite a b).log = s.log ∧
    (s.hbmWrite a b).flt = s.flt ∧ (s.hbmWrite a b).out = s.out ∧ (s.hbmWrite a b).pending = s.pending ∧ (s.hbmWrite a b).free = s.free := by
  simp [State.hbmWrite]

@[simp] theorem State.eccUncorrectable_fields (s : State) (a : Nat) (c : MemClass) (f : Bool) :
    (s.eccUncorrectable a c f).part = s.part ∧ (s.eccUncorrectable a c f).die = s.die ∧ (s.eccUncorrectable a c f).stop = s.stop ∧
    (s.eccUncorrectable a c f).clk = s.clk ∧ (s.eccUncorrectable a c f).maq = s.maq ∧ (s.eccUncorrectable a c f).cfg = s.cfg ∧
    (s.eccUncorrectable a c f).held = s.held ∧ (s.eccUncorrectable a c f).isl = s.isl ∧ (s.eccUncorrectable a c f).hbm = s.hbm ∧
    (s.eccUncorrectable a c f).figs = s.figs ∧ (s.eccUncorrectable a c f).sdec = s.sdec ∧ (s.eccUncorrectable a c f).rrec = s.rrec ∧
    (s.eccUncorrectable a c f).adm = s.adm ∧ (s.eccUncorrectable a c f).cal = s.cal ∧ (s.eccUncorrectable a c f).rse = s.rse ∧
    (s.eccUncorrectable a c f).pdp = s.pdp ∧ (s.eccUncorrectable a c f).pwr = s.pwr ∧ (s.eccUncorrectable a c f).link = s.link ∧
    (s.eccUncorrectable a c f).scan = s.scan ∧ (s.eccUncorrectable a c f).rasp = s.rasp ∧ (s.eccUncorrectable a c f).aud = s.aud ∧
    (s.eccUncorrectable a c f).tim = s.tim ∧ (s.eccUncorrectable a c f).mem = s.mem ∧ (s.eccUncorrectable a c f).thm = s.thm ∧
    (s.eccUncorrectable a c f).nor = s.nor ∧ (s.eccUncorrectable a c f).atl = s.atl ∧ (s.eccUncorrectable a c f).pln = s.pln ∧
    (s.eccUncorrectable a c f).clp = s.clp ∧ (s.eccUncorrectable a c f).dict = s.dict ∧ (s.eccUncorrectable a c f).flt = s.flt ∧
    (s.eccUncorrectable a c f).pending = s.pending ∧ (s.eccUncorrectable a c f).free = s.free := by
  simp [State.eccUncorrectable]
end Sys2Proof.Machine
end

