-- ==== Sys2Proof/Laws/Posts.lean ====
section
/-! SUPPORT. What is posted to the event log and what joins the completion queue, step after step, and which interrupt causes stand. -/

namespace Sys2Proof.Machine

theorem logs_of_eq {s t : State} (h : t.log = s.log) : logs s t [] := fun _ => ⟨[], by simp [h], rfl⟩

theorem logs_trans {s t u : State} {a b : List (Nat × List Nat)} (h1 : logs s t a) (h2 : logs t u b) : logs s u (a ++ b) := by
  intro hl
  rw [List.length_append] at hl
  obtain ⟨es, h3, h4⟩ := h1 (by omega)
  have he : es.length = a.length := by rw [← h4, List.length_map]
  obtain ⟨fs, h5, h6⟩ := h2 (by rw [h3, List.length_append]; omega)
  exact ⟨es ++ fs, by rw [h5, h3, List.append_assoc], by rw [List.map_append, h4, h6]⟩

theorem logs_congr {s t s' t' : State} {a : List (Nat × List Nat)} (hs : s'.log = s.log) (ht : t'.log = t.log) (h : logs s t a) : logs s' t' a := by
  unfold logs; rw [hs, ht]; exact h

theorem logs_postWith (s : State) (f : Bool) (code : Nat) (param : List Nat) : logs s (s.postWith f code param) [(code, param)] := by
  intro hl
  have h : ¬ 256 ≤ s.log.staging.length := by
    have := hl; simp only [List.length_cons, List.length_nil] at this; omega
  unfold State.postWith
  rw [if_neg h]
  refine ⟨[{ seq := s.log.seq, time := s.ns, code := code, pinned := State.isPinned code, fault := f, unsynced := s.nat O.timeState == 0, param := param }], ?_, rfl⟩
  cases f <;> simp

theorem logs_post (s : State) (code : Nat) (param : List Nat) : logs s (s.post code param) [(code, param)] := logs_postWith s false code param

theorem logs_postFault (s : State) (code : Nat) (param : List Nat) : logs s (s.postFault code param) [(code, param)] := logs_postWith s true code param

theorem logs_note (s : State) (o : Obj) (code : Nat) (param : List Nat) : logs s (s.note o code param) [(code, param)] :=
  logs_congr (by simp) rfl (logs_post (s.put o code) code param)

theorem completes_of_eq {s t : State} (h : t.hif.queue = s.hif.queue) : completes s t [] := fun _ => ⟨[], by simp [h], rfl⟩

theorem completes_trans {s t u : State} {a b : List (CplKind × Nat)} (h1 : completes s t a) (h2 : completes t u b) : completes s u (a ++ b) := by
  intro hl
  rw [List.length_append] at hl
  obtain ⟨es, h3, h4⟩ := h1 (by omega)
  have he : es.length = a.length := by rw [← h4, List.length_map]
  obtain ⟨fs, h5, h6⟩ := h2 (by rw [h3, List.length_append]; omega)
  exact ⟨es ++ fs, by rw [h5, h3, List.append_assoc], by rw [List.map_append, h4, h6]⟩

theorem completes_complete (s : State) (c : Completion) : completes s (s.complete c) [(c.kind, c.status)] := by
  intro hl
  have h : ¬ 256 ≤ s.hif.queue.length := by
    have := hl; simp only [List.length_cons, List.length_nil] at this; omega
  unfold State.complete
  rw [if_neg h]
  exact ⟨[c], rfl, rfl⟩

theorem State.sendVector_irqStatus (u : State) (v : Nat) : (u.sendVector v).hif.irqStatus = u.hif.irqStatus := by
  unfold State.sendVector; split <;> simp

theorem bitOf_testBit (n b : Nat) : bitOf n b = n.testBit b := by
  unfold bitOf bitsOf; rw [Nat.testBit_eq_decide_div_mod_eq]; rfl

theorem bitOf_lor (n b : Nat) : bitOf (Nat.lor n (2 ^ b)) b = true := by
  rw [bitOf_testBit]; show (n ||| 2 ^ b).testBit b = true; simp [Nat.testBit_or, Nat.testBit_two_pow_self]

theorem irq_bit (u : State) (b : Nat) : bitOf (u.irq b).hif.irqStatus b = true := by
  unfold State.irq; simp only; split
  · assumption
  · split
    · exact bitOf_lor _ _
    · rw [State.sendVector_irqStatus]; exact bitOf_lor _ _

end Sys2Proof.Machine
end

