-- ==== Sys2Proof/Laws/Dictionary.lean ====
section
/-! SUPPORT. How the dictionary engine serves one request alone in its tick: which requests reach it, and what its answer shows. -/

namespace Sys2Proof.Machine

theorem servable_ifLive {s : State} {p : Party} (h : servable s p) (f : State → State) : s.ifLive f = f s := by
  have hd : s.die = .running := h.1
  simp [State.ifLive, State.live, hd]

theorem servable_admits {s : State} {p : Party} (h : servable s p) (op : DictOp) : s.admits { party := p, op := op } = true := by
  obtain ⟨-, -, -, ha, hb, hn⟩ := h
  unfold State.admits
  simp only [ha, Option.isSome_none, Bool.or_self, Bool.false_eq_true, if_false]
  by_cases hr : p.route = .bar2
  · simp [hr, hb hr]
  · rw [if_neg hr]
    cases hf : s.flag O.vipexSecured
    · rfl
    · simp [(hn hr hf).1, (hn hr hf).2]

/-- Loading the window's registers changes nothing but those registers. -/
theorem asked_eq (s : State) (p : Party) (op : DictOp) : ∃ d, d.ready = s.dict.ready ∧ s.asked p op = { s with dict := d } := by
  unfold State.asked
  split
  · exact ⟨(s.loadWindow op).dict, by unfold State.loadWindow; cases op <;> rfl, rfl⟩
  · exact ⟨s.dict, rfl, rfl⟩

theorem servable_gate {s : State} {p : Party} (h : servable s p) (op : DictOp) : (s.asked p op).dictGate op = 0 := by
  obtain ⟨d, hd, he⟩ := asked_eq s p op
  have hn : (s.asked p op).nat O.atlState = 1 := by rw [he]; exact h.2.1
  have hr : (s.asked p op).dict.ready = true := by rw [he]; exact hd.trans h.2.2.1
  unfold State.dictGate
  simp [hn, hr]

/-- A write that passes the checks is carried out and answered with its status. -/
theorem request_write {s : State} {p : Party} {i k : Nat} {v : Bytes} {o : Obj} (h : servable s p) (hw : (s.asked p (.write i k v)).writeObj false i k v = .ok o)
    (hk : o.key ≠ O.cfgSwapRequest.key) (hc : o.access ≠ .rws ∨ s.cfg.copying = false) :
    s.request p (.write i k v) =
      ((s.asked p (.write i k v)).writeEffect { party := p, op := .write i k v } o v).2.answer { party := p, op := .write i k v }
        { status := ((s.asked p (.write i k v)).writeEffect { party := p, op := .write i k v } o v).1 } := by
  have hc' : o.access ≠ .rws ∨ (s.asked p (.write i k v)).cfg.copying = false := by
    obtain ⟨d, -, he⟩ := asked_eq s p (.write i k v)
    rw [he]; exact hc
  unfold State.request
  dsimp only
  rw [servable_admits h]
  simp only [Bool.not_true, Bool.false_eq_true, if_false]
  unfold State.serve
  simp only [servable_gate h, ne_eq, not_true_eq_false, if_false]
  unfold State.serveWrite
  rw [hw]
  simp only [hk, if_false]
  rw [if_neg (by rcases hc' with hc | hc <;> simp [hc])]

/-- A write that fails a check is answered with that check's code. -/
theorem request_write_error {s : State} {p : Party} {i k c : Nat} {v : Bytes} (h : servable s p) (hw : (s.asked p (.write i k v)).writeObj false i k v = .error c) :
    s.request p (.write i k v) = (s.asked p (.write i k v)).answer { party := p, op := .write i k v } { status := c } := by
  unfold State.request
  dsimp only
  rw [servable_admits h]
  simp only [Bool.not_true, Bool.false_eq_true, if_false]
  unfold State.serve
  simp only [servable_gate h, ne_eq, not_true_eq_false, if_false]
  unfold State.serveWrite
  rw [hw]

/-- What an answer shows to the party that asked. -/
theorem answered_answer (s : State) (a : Ask) (r : Reply) (ha : a.party.action = none) (hv : a.vx = none) :
    answered (s.answer a r) a.party r.status := by
  unfold State.answer
  simp only [ha, hv]
  constructor
  · intro hr
    rw [if_pos hr]
    unfold State.answerWindow
    exact ⟨by simp [State.modDict], by simp [State.modDict], by simp [State.modDict], irq_bit _ _⟩
  · intro hr
    rw [if_neg hr]
    exact ⟨_, rfl⟩

end Sys2Proof.Machine
end

