-- ==== Sys2Proof/Laws/Objects.lean ====
section
/-! SUPPORT. The object store: what is put is read back, and no other object changes. -/

namespace Sys2Proof.Machine

theorem storeGet_storeSet_same (st : Store) (k : Nat) (v : Val) : storeGet (storeSet st k v) k = some v := by
  induction st with
  | nil => simp [storeSet, storeGet]
  | cons e st ih =>
    obtain ⟨k', w⟩ := e
    unfold storeSet
    split
    · simp [storeGet]
    · next hk =>
      split
      · simp [storeGet]
      · rw [storeGet, if_neg hk]; exact ih

theorem storeGet_storeSet_ne {st : Store} {k q : Nat} {v : Val} (h : q ≠ k) : storeGet (storeSet st k v) q = storeGet st q := by
  have h' : k ≠ q := fun e => h e.symm
  induction st with
  | nil => simp [storeSet, storeGet, h']
  | cons e st ih =>
    obtain ⟨k', w⟩ := e
    unfold storeSet
    split
    · next hk => subst hk; simp [storeGet, h']
    · split
      · rw [storeGet, if_neg h']
      · rw [storeGet, storeGet, ih]

/-- An object's value rests on its store and the part alone. -/
theorem State.val_congr {s t : State} {q : Obj} (hp : t.part = s.part) (hs : t.storeOf q = s.storeOf q) : t.val q = s.val q := by
  unfold State.val; rw [hp, hs]

theorem State.val_putV_same (s : State) (o : Obj) (v : Val) : (s.putV o v).val o = v := by
  unfold State.putV State.val State.storeOf
  split
  · simp [storeGet_storeSet_same, *]
  · simp [storeGet_storeSet_same, *]

theorem State.val_putV_ne {s : State} {o q : Obj} {v : Val} (h : q.key ≠ o.key) : (s.putV o v).val q = s.val q := by
  unfold State.putV State.val State.storeOf
  split <;> split <;> simp [storeGet_storeSet_ne h, *]

@[simp] theorem State.val_putM (s : State) (o q : Obj) (v : Val) : (s.putM o v).val q = s.val q := rfl

@[simp] theorem State.int_put_same (s : State) (o : Obj) (v : Int) : (s.put o v).int o = o.ty.fit v := by
  unfold State.int State.put; rw [State.val_putV_same]; rfl

@[simp] theorem State.nat_put_same (s : State) (o : Obj) (v : Int) : (s.put o v).nat o = (o.ty.fit v).toNat := by
  unfold State.nat State.put; rw [State.val_putV_same]; rfl

theorem Ty.fit_unsigned {t : Ty} {w : Nat} (hw : t.width = some w) (hs : t.isSigned = false) (v : Nat) : (t.fit (v : Int)).toNat = v % 2 ^ (8 * w) := by
  simp only [Ty.fit, hw, hs, unsigned]
  rw [← Int.natCast_emod]; rfl

theorem shows_put (s : State) (o : Obj) (v : Nat) {w : Nat} (hw : o.ty.width = some w) (hs : o.ty.isSigned = false) : shows (s.put o v) o v := by
  unfold shows; rw [State.nat_put_same, Ty.fit_unsigned hw hs, hw]; rfl

theorem counts_bumpBy (s : State) (o : Obj) (n : Nat) {w : Nat} (hw : o.ty.width = some w) (hs : o.ty.isSigned = false) : counts s (s.bumpBy o n) o n := by
  unfold counts State.bumpBy; rw [State.nat_put_same, Ty.fit_unsigned hw hs, hw]
  refine Nat.mod_eq_of_lt ?_
  have h : 0 < 2 ^ (8 * w) := Nat.pow_pos (by decide)
  exact Nat.lt_of_le_of_lt (Nat.min_le_right _ _) (Nat.sub_lt h Nat.one_pos)

theorem counts_bump (s : State) (o : Obj) {w : Nat} (hw : o.ty.width = some w) (hs : o.ty.isSigned = false) : counts s (s.bump o) o 1 := counts_bumpBy s o 1 hw hs

@[simp] theorem State.flag_put_same (s : State) (o : Obj) (v : Int) : (s.put o v).flag o = (o.ty.fit v != 0) := by
  unfold State.flag State.put; rw [State.val_putV_same]; rfl

@[simp] theorem State.oct_putO_same (s : State) (o : Obj) (bs : Bytes) : (s.putO o bs).oct o = bs := by
  unfold State.oct State.putO; rw [State.val_putV_same]; rfl

theorem State.val_put_ne {s : State} {o q : Obj} {v : Int} (h : q.key ≠ o.key) : (s.put o v).val q = s.val q := State.val_putV_ne h
theorem State.int_put_ne {s : State} {o q : Obj} {v : Int} (h : q.key ≠ o.key) : (s.put o v).int q = s.int q := by
  unfold State.int; rw [State.val_put_ne h]
theorem State.nat_put_ne {s : State} {o q : Obj} {v : Int} (h : q.key ≠ o.key) : (s.put o v).nat q = s.nat q := by
  unfold State.nat; rw [State.val_put_ne h]
theorem State.flag_put_ne {s : State} {o q : Obj} {v : Int} (h : q.key ≠ o.key) : (s.put o v).flag q = s.flag q := by
  unfold State.flag; rw [State.val_put_ne h]
theorem State.oct_put_ne {s : State} {o q : Obj} {v : Int} (h : q.key ≠ o.key) : (s.put o v).oct q = s.oct q := by
  unfold State.oct; rw [State.val_put_ne h]
theorem State.nat_putO_ne {s : State} {o q : Obj} {bs : Bytes} (h : q.key ≠ o.key) : (s.putO o bs).nat q = s.nat q := by
  unfold State.nat State.putO; rw [State.val_putV_ne h]
theorem State.oct_putO_ne {s : State} {o q : Obj} {bs : Bytes} (h : q.key ≠ o.key) : (s.putO o bs).oct q = s.oct q := by
  unfold State.oct State.putO; rw [State.val_putV_ne h]

/-! ## Updates that store no object -/

@[simp] theorem State.modAdm_vals (s : State) (f : Adm → Adm) (q : Obj) :
    (s.modAdm f).val q = s.val q ∧ (s.modAdm f).int q = s.int q ∧ (s.modAdm f).nat q = s.nat q ∧ (s.modAdm f).flag q = s.flag q ∧ (s.modAdm f).oct q = s.oct q := by
  have h : (s.modAdm f).val q = s.val q := by unfold State.val State.storeOf; simp
  simp [State.int, State.nat, State.flag, State.oct, h]

@[simp] theorem State.modSdec_vals (s : State) (f : Sdec → Sdec) (q : Obj) :
    (s.modSdec f).val q = s.val q ∧ (s.modSdec f).int q = s.int q ∧ (s.modSdec f).nat q = s.nat q ∧ (s.modSdec f).flag q = s.flag q ∧ (s.modSdec f).oct q = s.oct q := by
  have h : (s.modSdec f).val q = s.val q := by unfold State.val State.storeOf; simp
  simp [State.int, State.nat, State.flag, State.oct, h]

@[simp] theorem State.modPdp_vals (s : State) (f : Pdp → Pdp) (q : Obj) :
    (s.modPdp f).val q = s.val q ∧ (s.modPdp f).int q = s.int q ∧ (s.modPdp f).nat q = s.nat q ∧ (s.modPdp f).flag q = s.flag q ∧ (s.modPdp f).oct q = s.oct q := by
  have h : (s.modPdp f).val q = s.val q := by unfold State.val State.storeOf; simp
  simp [State.int, State.nat, State.flag, State.oct, h]

@[simp] theorem State.modRse_vals (s : State) (f : Rse → Rse) (q : Obj) :
    (s.modRse f).val q = s.val q ∧ (s.modRse f).int q = s.int q ∧ (s.modRse f).nat q = s.nat q ∧ (s.modRse f).flag q = s.flag q ∧ (s.modRse f).oct q = s.oct q := by
  have h : (s.modRse f).val q = s.val q := by unfold State.val State.storeOf; simp
  simp [State.int, State.nat, State.flag, State.oct, h]

@[simp] theorem State.modScan_vals (s : State) (f : Scan → Scan) (q : Obj) :
    (s.modScan f).val q = s.val q ∧ (s.modScan f).int q = s.int q ∧ (s.modScan f).nat q = s.nat q ∧ (s.modScan f).flag q = s.flag q ∧ (s.modScan f).oct q = s.oct q := by
  have h : (s.modScan f).val q = s.val q := by unfold State.val State.storeOf; simp
  simp [State.int, State.nat, State.flag, State.oct, h]

@[simp] theorem State.modThm_vals (s : State) (f : Thm → Thm) (q : Obj) :
    (s.modThm f).val q = s.val q ∧ (s.modThm f).int q = s.int q ∧ (s.modThm f).nat q = s.nat q ∧ (s.modThm f).flag q = s.flag q ∧ (s.modThm f).oct q = s.oct q := by
  have h : (s.modThm f).val q = s.val q := by unfold State.val State.storeOf; simp
  simp [State.int, State.nat, State.flag, State.oct, h]

@[simp] theorem State.modAtl_vals (s : State) (f : Atl → Atl) (q : Obj) :
    (s.modAtl f).val q = s.val q ∧ (s.modAtl f).int q = s.int q ∧ (s.modAtl f).nat q = s.nat q ∧ (s.modAtl f).flag q = s.flag q ∧ (s.modAtl f).oct q = s.oct q := by
  have h : (s.modAtl f).val q = s.val q := by unfold State.val State.storeOf; simp
  simp [State.int, State.nat, State.flag, State.oct, h]

@[simp] theorem State.modNor_vals (s : State) (f : Nor → Nor) (q : Obj) :
    (s.modNor f).val q = s.val q ∧ (s.modNor f).int q = s.int q ∧ (s.modNor f).nat q = s.nat q ∧ (s.modNor f).flag q = s.flag q ∧ (s.modNor f).oct q = s.oct q := by
  have h : (s.modNor f).val q = s.val q := by unfold State.val State.storeOf; simp
  simp [State.int, State.nat, State.flag, State.oct, h]

@[simp] theorem State.modPwr_vals (s : State) (f : Pwr → Pwr) (q : Obj) :
    (s.modPwr f).val q = s.val q ∧ (s.modPwr f).int q = s.int q ∧ (s.modPwr f).nat q = s.nat q ∧ (s.modPwr f).flag q = s.flag q ∧ (s.modPwr f).oct q = s.oct q := by
  have h : (s.modPwr f).val q = s.val q := by unfold State.val State.storeOf; simp
  simp [State.int, State.nat, State.flag, State.oct, h]

@[simp] theorem State.modRasp_vals (s : State) (f : Rasp → Rasp) (q : Obj) :
    (s.modRasp f).val q = s.val q ∧ (s.modRasp f).int q = s.int q ∧ (s.modRasp f).nat q = s.nat q ∧ (s.modRasp f).flag q = s.flag q ∧ (s.modRasp f).oct q = s.oct q := by
  have h : (s.modRasp f).val q = s.val q := by unfold State.val State.storeOf; simp
  simp [State.int, State.nat, State.flag, State.oct, h]

@[simp] theorem State.modTim_vals (s : State) (f : Tim → Tim) (q : Obj) :
    (s.modTim f).val q = s.val q ∧ (s.modTim f).int q = s.int q ∧ (s.modTim f).nat q = s.nat q ∧ (s.modTim f).flag q = s.flag q ∧ (s.modTim f).oct q = s.oct q := by
  have h : (s.modTim f).val q = s.val q := by unfold State.val State.storeOf; simp
  simp [State.int, State.nat, State.flag, State.oct, h]

@[simp] theorem State.modClp_vals (s : State) (f : Clp → Clp) (q : Obj) :
    (s.modClp f).val q = s.val q ∧ (s.modClp f).int q = s.int q ∧ (s.modClp f).nat q = s.nat q ∧ (s.modClp f).flag q = s.flag q ∧ (s.modClp f).oct q = s.oct q := by
  have h : (s.modClp f).val q = s.val q := by unfold State.val State.storeOf; simp
  simp [State.int, State.nat, State.flag, State.oct, h]

@[simp] theorem State.modPln_vals (s : State) (f : Pln → Pln) (q : Obj) :
    (s.modPln f).val q = s.val q ∧ (s.modPln f).int q = s.int q ∧ (s.modPln f).nat q = s.nat q ∧ (s.modPln f).flag q = s.flag q ∧ (s.modPln f).oct q = s.oct q := by
  have h : (s.modPln f).val q = s.val q := by unfold State.val State.storeOf; simp
  simp [State.int, State.nat, State.flag, State.oct, h]

@[simp] theorem State.modHif_vals (s : State) (f : Hif → Hif) (q : Obj) :
    (s.modHif f).val q = s.val q ∧ (s.modHif f).int q = s.int q ∧ (s.modHif f).nat q = s.nat q ∧ (s.modHif f).flag q = s.flag q ∧ (s.modHif f).oct q = s.oct q := by
  have h : (s.modHif f).val q = s.val q := by unfold State.val State.storeOf; simp
  simp [State.int, State.nat, State.flag, State.oct, h]

@[simp] theorem State.modDict_vals (s : State) (f : Dict → Dict) (q : Obj) :
    (s.modDict f).val q = s.val q ∧ (s.modDict f).int q = s.int q ∧ (s.modDict f).nat q = s.nat q ∧ (s.modDict f).flag q = s.flag q ∧ (s.modDict f).oct q = s.oct q := by
  have h : (s.modDict f).val q = s.val q := by unfold State.val State.storeOf; simp
  simp [State.int, State.nat, State.flag, State.oct, h]

@[simp] theorem State.modCap_vals (s : State) (f : Capture → Capture) (q : Obj) :
    (s.modCap f).val q = s.val q ∧ (s.modCap f).int q = s.int q ∧ (s.modCap f).nat q = s.nat q ∧ (s.modCap f).flag q = s.flag q ∧ (s.modCap f).oct q = s.oct q := by
  have h : (s.modCap f).val q = s.val q := by unfold State.val State.storeOf; simp
  simp [State.int, State.nat, State.flag, State.oct, h]

@[simp] theorem State.modSlot_vals (s : State) (n : Nat) (f : Slot → Slot) (q : Obj) :
    (s.modSlot n f).val q = s.val q ∧ (s.modSlot n f).int q = s.int q ∧ (s.modSlot n f).nat q = s.nat q ∧ (s.modSlot n f).flag q = s.flag q ∧ (s.modSlot n f).oct q = s.oct q := by
  have h : (s.modSlot n f).val q = s.val q := by unfold State.val State.storeOf; simp
  simp [State.int, State.nat, State.flag, State.oct, h]

@[simp] theorem State.modStack_vals (s : State) (n : Nat) (f : Stack → Stack) (q : Obj) :
    (s.modStack n f).val q = s.val q ∧ (s.modStack n f).int q = s.int q ∧ (s.modStack n f).nat q = s.nat q ∧ (s.modStack n f).flag q = s.flag q ∧ (s.modStack n f).oct q = s.oct q := by
  have h : (s.modStack n f).val q = s.val q := by unfold State.val State.storeOf; simp
  simp [State.int, State.nat, State.flag, State.oct, h]

@[simp] theorem State.modIsl_vals (s : State) (n : Nat) (f : Island → Island) (q : Obj) :
    (s.modIsl n f).val q = s.val q ∧ (s.modIsl n f).int q = s.int q ∧ (s.modIsl n f).nat q = s.nat q ∧ (s.modIsl n f).flag q = s.flag q ∧ (s.modIsl n f).oct q = s.oct q := by
  have h : (s.modIsl n f).val q = s.val q := by unfold State.val State.storeOf; simp
  simp [State.int, State.nat, State.flag, State.oct, h]

@[simp] theorem State.powerIsl_vals (s : State) (n : Nat) (q : Obj) :
    (s.powerIsl n).val q = s.val q ∧ (s.powerIsl n).int q = s.int q ∧ (s.powerIsl n).nat q = s.nat q ∧ (s.powerIsl n).flag q = s.flag q ∧ (s.powerIsl n).oct q = s.oct q := by
  have h : (s.powerIsl n).val q = s.val q := by unfold State.val State.storeOf; simp
  simp [State.int, State.nat, State.flag, State.oct, h]

@[simp] theorem State.gateIsl_vals (s : State) (n : Nat) (q : Obj) :
    (s.gateIsl n).val q = s.val q ∧ (s.gateIsl n).int q = s.int q ∧ (s.gateIsl n).nat q = s.nat q ∧ (s.gateIsl n).flag q = s.flag q ∧ (s.gateIsl n).oct q = s.oct q := by
  have h : (s.gateIsl n).val q = s.val q := by unfold State.val State.storeOf; simp
  simp [State.int, State.nat, State.flag, State.oct, h]

@[simp] theorem State.modStream_vals (s : State) (i : Nat) (f : StreamPort → StreamPort) (q : Obj) :
    (s.modStream i f).val q = s.val q ∧ (s.modStream i f).int q = s.int q ∧ (s.modStream i f).nat q = s.nat q ∧ (s.modStream i f).flag q = s.flag q ∧ (s.modStream i f).oct q = s.oct q := by
  have h : (s.modStream i f).val q = s.val q := by unfold State.val State.storeOf; simp
  simp [State.int, State.nat, State.flag, State.oct, h]

@[simp] theorem State.modPort_vals (s : State) (p : Nat) (f : AudPort → AudPort) (q : Obj) :
    (s.modPort p f).val q = s.val q ∧ (s.modPort p f).int q = s.int q ∧ (s.modPort p f).nat q = s.nat q ∧ (s.modPort p f).flag q = s.flag q ∧ (s.modPort p f).oct q = s.oct q := by
  have h : (s.modPort p f).val q = s.val q := by unfold State.val State.storeOf; simp
  simp [State.int, State.nat, State.flag, State.oct, h]

@[simp] theorem State.modPtp_vals (s : State) (d : Nat) (f : PtpSlot → PtpSlot) (q : Obj) :
    (s.modPtp d f).val q = s.val q ∧ (s.modPtp d f).int q = s.int q ∧ (s.modPtp d f).nat q = s.nat q ∧ (s.modPtp d f).flag q = s.flag q ∧ (s.modPtp d f).oct q = s.oct q := by
  have h : (s.modPtp d f).val q = s.val q := by unfold State.val State.storeOf; simp
  simp [State.int, State.nat, State.flag, State.oct, h]

@[simp] theorem State.modNet_vals (s : State) (p : Nat) (f : NetPort → NetPort) (q : Obj) :
    (s.modNet p f).val q = s.val q ∧ (s.modNet p f).int q = s.int q ∧ (s.modNet p f).nat q = s.nat q ∧ (s.modNet p f).flag q = s.flag q ∧ (s.modNet p f).oct q = s.oct q := by
  have h : (s.modNet p f).val q = s.val q := by unfold State.val State.storeOf; simp
  simp [State.int, State.nat, State.flag, State.oct, h]

@[simp] theorem State.modDrive_vals (s : State) (d : Nat) (f : Drive → Drive) (q : Obj) :
    (s.modDrive d f).val q = s.val q ∧ (s.modDrive d f).int q = s.int q ∧ (s.modDrive d f).nat q = s.nat q ∧ (s.modDrive d f).flag q = s.flag q ∧ (s.modDrive d f).oct q = s.oct q := by
  have h : (s.modDrive d f).val q = s.val q := by unfold State.val State.storeOf; simp
  simp [State.int, State.nat, State.flag, State.oct, h]

@[simp] theorem State.modDir_vals (s : State) (d : Nat) (f : Dir → Dir) (q : Obj) :
    (s.modDir d f).val q = s.val q ∧ (s.modDir d f).int q = s.int q ∧ (s.modDir d f).nat q = s.nat q ∧ (s.modDir d f).flag q = s.flag q ∧ (s.modDir d f).oct q = s.oct q := by
  have h : (s.modDir d f).val q = s.val q := by unfold State.val State.storeOf; simp
  simp [State.int, State.nat, State.flag, State.oct, h]

@[simp] theorem State.putM_vals (s : State) (o : Obj) (v : Val) (q : Obj) :
    (s.putM o v).val q = s.val q ∧ (s.putM o v).int q = s.int q ∧ (s.putM o v).nat q = s.nat q ∧ (s.putM o v).flag q = s.flag q ∧ (s.putM o v).oct q = s.oct q := by
  have h : (s.putM o v).val q = s.val q := by unfold State.val State.storeOf; simp
  simp [State.int, State.nat, State.flag, State.oct, h]

@[simp] theorem State.reach_vals (s : State) (t : Nat) (q : Obj) :
    (s.reach t).val q = s.val q ∧ (s.reach t).int q = s.int q ∧ (s.reach t).nat q = s.nat q ∧ (s.reach t).flag q = s.flag q ∧ (s.reach t).oct q = s.oct q := by
  have h : (s.reach t).val q = s.val q := by unfold State.val State.storeOf; simp
  simp [State.int, State.nat, State.flag, State.oct, h]

@[simp] theorem State.elapseTo_vals (s : State) (t : Nat) (q : Obj) :
    (s.elapseTo t).val q = s.val q ∧ (s.elapseTo t).int q = s.int q ∧ (s.elapseTo t).nat q = s.nat q ∧ (s.elapseTo t).flag q = s.flag q ∧ (s.elapseTo t).oct q = s.oct q := by
  have h : (s.elapseTo t).val q = s.val q := by unfold State.val State.storeOf; simp
  simp [State.int, State.nat, State.flag, State.oct, h]

@[simp] theorem State.drawFree_vals (s : State) (q : Obj) :
    (s.drawFree).val q = s.val q ∧ (s.drawFree).int q = s.int q ∧ (s.drawFree).nat q = s.nat q ∧ (s.drawFree).flag q = s.flag q ∧ (s.drawFree).oct q = s.oct q := by
  have h : (s.drawFree).val q = s.val q := by unfold State.val State.storeOf; simp
  simp [State.int, State.nat, State.flag, State.oct, h]

@[simp] theorem State.emit_vals (s : State) (o : Out) (q : Obj) :
    (s.emit o).val q = s.val q ∧ (s.emit o).int q = s.int q ∧ (s.emit o).nat q = s.nat q ∧ (s.emit o).flag q = s.flag q ∧ (s.emit o).oct q = s.oct q := by
  have h : (s.emit o).val q = s.val q := by unfold State.val State.storeOf; simp
  simp [State.int, State.nat, State.flag, State.oct, h]

@[simp] theorem State.sendVector_vals (s : State) (v : Nat) (q : Obj) :
    (s.sendVector v).val q = s.val q ∧ (s.sendVector v).int q = s.int q ∧ (s.sendVector v).nat q = s.nat q ∧ (s.sendVector v).flag q = s.flag q ∧ (s.sendVector v).oct q = s.oct q := by
  have h : (s.sendVector v).val q = s.val q := by unfold State.val State.storeOf; simp
  simp [State.int, State.nat, State.flag, State.oct, h]

@[simp] theorem State.irq_vals (s : State) (b : Nat) (q : Obj) :
    (s.irq b).val q = s.val q ∧ (s.irq b).int q = s.int q ∧ (s.irq b).nat q = s.nat q ∧ (s.irq b).flag q = s.flag q ∧ (s.irq b).oct q = s.oct q := by
  have h : (s.irq b).val q = s.val q := by unfold State.val State.storeOf; simp
  simp [State.int, State.nat, State.flag, State.oct, h]

@[simp] theorem State.lastError_vals (s : State) (c : Nat) (q : Obj) :
    (s.lastError c).val q = s.val q ∧ (s.lastError c).int q = s.int q ∧ (s.lastError c).nat q = s.nat q ∧ (s.lastError c).flag q = s.flag q ∧ (s.lastError c).oct q = s.oct q := by
  have h : (s.lastError c).val q = s.val q := by unfold State.val State.storeOf; simp
  simp [State.int, State.nat, State.flag, State.oct, h]

@[simp] theorem State.uncover_vals (s : State) (q : Obj) :
    (s.uncover).val q = s.val q ∧ (s.uncover).int q = s.int q ∧ (s.uncover).nat q = s.nat q ∧ (s.uncover).flag q = s.flag q ∧ (s.uncover).oct q = s.oct q := by
  have h : (s.uncover).val q = s.val q := by unfold State.val State.storeOf; simp
  simp [State.int, State.nat, State.flag, State.oct, h]

@[simp] theorem State.warnRender_vals (s : State) (c : Nat) (q : Obj) :
    (s.warnRender c).val q = s.val q ∧ (s.warnRender c).int q = s.int q ∧ (s.warnRender c).nat q = s.nat q ∧ (s.warnRender c).flag q = s.flag q ∧ (s.warnRender c).oct q = s.oct q := by
  have h : (s.warnRender c).val q = s.val q := by unfold State.val State.storeOf; simp
  simp [State.int, State.nat, State.flag, State.oct, h]

@[simp] theorem State.memRequest_vals (s : State) (q : Obj) :
    (s.memRequest).val q = s.val q ∧ (s.memRequest).int q = s.int q ∧ (s.memRequest).nat q = s.nat q ∧ (s.memRequest).flag q = s.flag q ∧ (s.memRequest).oct q = s.oct q := by
  have h : (s.memRequest).val q = s.val q := by unfold State.val State.storeOf; simp
  simp [State.int, State.nat, State.flag, State.oct, h]

@[simp] theorem State.hbmWrite_vals (s : State) (a : Nat) (b : Bytes) (q : Obj) :
    (s.hbmWrite a b).val q = s.val q ∧ (s.hbmWrite a b).int q = s.int q ∧ (s.hbmWrite a b).nat q = s.nat q ∧ (s.hbmWrite a b).flag q = s.flag q ∧ (s.hbmWrite a b).oct q = s.oct q := by
  have h : (s.hbmWrite a b).val q = s.val q := by unfold State.val State.storeOf; simp
  simp [State.int, State.nat, State.flag, State.oct, h]

end Sys2Proof.Machine
end

