-- ==== Sys2Proof/Laws/Frame.lean ====
section
/-! SUPPORT. What each operation leaves alone: a mask of the components and one of the objects it may change, for every function of the model, and for every command the frame those masks give. -/

set_option Elab.async false
set_option linter.unusedVariables false

namespace Sys2Proof.Machine

/-- Objects that some command changes, part 0. -/
def regTable0 : List Reg :=
  [.one O.figBinDropCount, .one O.cplLostCount, .one O.hifLastStatus, .one O.cfgBoundFrame, .one O.admRefusedCount, .one O.admLastStatus, 
   .one O.admLastBadBin, .one O.admLastCost, .one O.admLastBudget, .one O.reliefSlotFree, .one O.reliefSlotRetained, .one O.reliefDirFree, 
   .one O.reliefRecordFree, .one O.tilesInFlight, .one O.residentOrdinal, .one O.figLiveCount, .one O.scanLastStatus, .one O.pwrLastStatus, 
   .one O.timeLeapFlags, .one O.timeUtcOffset, .one O.logLostCount, .one O.faultTotalCount, .one O.faultLastCode, .one O.timeSelectedDomain, 
   .one O.timeState, .each O.ptpState 2, .each O.ptpMasterPort 2, .each O.ptpGmIdentity 2, .one O.memApertureRefusedCount, 
   .one O.memLastStatus, .subs O.memEccCorrected 4, .one O.memLastUeAddr, .one O.memLastUeClass, .subs O.memEccUncorrectable 4, 
   .one O.dictIgnoredCount, .one O.vipexAuthFailCount, .one O.dictLastStatus, .every, .one O.dictBusyCount, .one O.vipexAliveTx, 
   .one O.memMinTolerance, .each O.audPortFlags 8, .one O.cfgSwapState, .one O.headAEnable, .one O.headBEnable, .each O.portEnable 3, 
   .each O.audPortEnable 8, .one O.clpEnable, .one O.overlayEnable, .one O.captureEnable, .one O.panelPowerEnable, .subs O.linkSlotState 32, 
   .one O.headAState, .one O.headBState, .each O.portState 3, .each O.portLink 3, .each O.audPortState 8, .one O.clpState, 
   .one O.overlayState, .one O.calStatusFlags]

/-- Objects that some command changes, part 1. -/
def regTable1 : List Reg :=
  [.one O.calTempLatched, .one O.calRampStep, .one O.calTempMeasured, .one O.captureState, .one O.panelPowerState, .one O.faultActive, 
   .one O.faultDefeated, .one O.clockHeldMask, .one O.admSuspendCauses, .one O.admPromiseState, .one O.admSuspendCount, 
   .one O.faultNAsserted, .one O.pwrHoldupState, .subs O.linkLaneState 160, .one O.clpPlayState, .one O.clpPlayClip, .one O.streamSource, 
   .one O.clpLastStatus, .subs O.faultFamilyCount 16, .one O.clpPlayBase, .one O.captureResult, .one O.cfgMaquetteDirty, .each O.ptpEnable 2, 
   .one O.vipexSecured, .one O.timeActionPending, .one O.patinaStoreState, .one O.captureConfirmed, .one O.captureCause, .one O.clpCmdState, 
   .one O.clpCmdResult, .one O.atlLastResetCause, .one O.atlState, .one O.warmResetCount, .one O.lockstepCount, .one O.atlLastStatus, 
   .one O.cfgSwapResult, .one O.dictDomainOpen, .one O.cfgStoreState, .one O.updateState, .one O.plinthLastResult, .one O.plinthState, 
   .one O.plinthStagedSet, .each O.portLastStatus 3, .each O.audPhaseError 8, .one O.audLastStatus, .each O.audUnderrunCount 8, 
   .one O.sdecLastStatus, .one O.rrecLastStatus, .one O.secCrcFailCount, .each O.audLateDiscardCount 8, .one O.captureRunId, 
   .one O.cfgStoredGeneration, .one O.rseOverrunCount, .one O.admBrokenCount, .one O.pcieLinkSpeed, .one O.pcieLinkWidth, .one O.hostState, 
   .one O.hostSilentCount, .one O.entropyErrorCount, .one O.staleTileCount]

/-- Objects that some command changes, part 2. -/
def regTable2 : List Reg :=
  [.one O.cacheFullCount, .one O.scanLockState, .one O.clpCapacity, .one O.clpFreeLargest, .one O.clpClipCount, .one O.clpLayout, 
   .one O.clpLastId, .one O.clpReadFailCount, .subs O.clpDriveState 2, .one O.fwSlotVersions, .one O.fwActiveSlot, .one O.arbCount, 
   .one O.atlStartTimeMs, .one O.firmwareVersion, .one O.cfgBankGeneration, .one O.patinaLattice, .one O.patinaGeneration, .one O.viewHeight, 
   .one O.rgmiiIoVoltage, .one O.norEccCount, .one O.coldStartCount, .one O.framesPresented, .one O.holdupLifetime, .one O.updateCount, 
   .one O.norEraseMax, .one O.timeRate, .one O.railPgStatus, .one O.logNewestSeq, .one O.logOldestSeq, .one O.thmTripCount, 
   .one O.thmTripSlotsUsed, .one O.plinthMeanDrive, .one O.plinthLaneAmplitude, .one O.plinthTripPoint, .one O.plinthWdPeriod, 
   .one O.plinthTfMinNum, .one O.plinthTfMinDen, .one O.railOrder, .one O.plinthCommitSeq, .subs O.plinthPeakDrive 32, .one O.thmLastStatus, 
   .one O.plinthConsent, .one O.raspLastStatus, .one O.raspCmdCount, .each O.portTxFrames 3, .each O.ptpPathDelay 2, .each O.ptpOffset 2, 
   .one O.linkLastStatus, .subs O.partnerDescriptor 32, .subs O.uniformityPartner 32, .subs O.deviceRailMv 11, .one O.deviceRailLowCount, 
   .one O.pwrHoldupCount, .one O.scanCommitIgnoredCount, .one O.pdpLastStatus, .each O.ptpLostCount 2, .subs O.linkLaneSetting 160, 
   .one O.cfgSwapCount, .one O.cfgSwapKind, .one O.scanRetrainSkippedCount]

/-- Objects that some command changes, part 3. -/
def regTable3 : List Reg :=
  [.one O.scanFrameNumber, .one O.timeActionDoneSeq, .one O.timeActionLastLateness, .one O.timeActionDroppedCount, 
   .one O.timeActionLateCount, .subs O.driveBandNow 32, .one O.scanPhaseError, .one O.scanResyncCount, .one O.timeStepCount, 
   .one O.timeLastStep, .one O.lastBinnedEpoch, .each O.portRxFrames 3, .each O.portRxDropped 3, .one O.vipexDiscardCount, 
   .one O.vipexStaleCount, .one O.vipexRxCount, .each O.portAsirekDiscardCount 3, .one O.figNoContextCount, .one O.overlayShown, 
   .one O.admAdmittedCount, .one O.figBinPeak, .each O.ptpRate 2, .one O.linkRetryCount, .one O.memState, .one O.memTrainingTime, 
   .one O.linkSpareSwitchCount, .subs O.partnerTelemetry 32, .one O.raspPublishedEpoch, .one O.raspRefusedCount, .one O.memHotRefreshMask, 
   .one O.driveMeanLast, .one O.rseLastStatus, .one O.rseStepsLast, .one O.rseStepBoundLast, .one O.rseRenderTimeLast, 
   .one O.rseSplitBinsLast, .one O.driveGainNow, .one O.driveBackstopCount, .one O.rseThrottleLevel, .one O.lineCrcFailCount, 
   .one O.lineZeroedCount, .one O.memScrubPasses, .one O.segBadCount, .one O.segOkCount, .one O.streamCurrentId, .one O.segLossCount, 
   .one O.dmaErrorCount, .one O.segCopiedCount, .one O.segCopiedBytes, .one O.partnerCrcCount, .one O.thmTj, .one O.thmTjSensor, 
   .one O.thmExcludedMask, .subs O.memStackTemp 4, .one O.admDerateNow, .one O.thmRiseRate, .one O.thmNorWindow, .one O.thmThrottleLevel, 
   .one O.admThrottleNow, .one O.thmRiseLevel]

/-- Objects that some command changes, part 4. -/
def regTable4 : List Reg :=
  [.one O.poisonedTileCount, .one O.lateCommitDroppedCount, .one O.tilesCommittedCount, .one O.scanUnderrunCount, .one O.rseStoreEccCount, 
   .one O.rseHitOverflowCount, .one O.updateResult]

/-- Every object, or family of objects, that some command changes. -/
def regTable : List Reg := regTable0 ++ regTable1 ++ regTable2 ++ regTable3 ++ regTable4

/-- An entry of the table. -/
def regAt (i : Nat) : Reg := regTable.getD i ⟨0, 0, 1⟩

/-- A component's bit in a mask. -/
def Piece.bit : Piece → Nat
  | .part => 0
  | .die => 1
  | .stop => 2
  | .clk => 3
  | .cast => 5
  | .maq => 6
  | .cfg => 7
  | .held => 8
  | .isl => 9
  | .hbm => 10
  | .figs => 11
  | .sdec => 12
  | .rrec => 13
  | .adm => 14
  | .cal => 15
  | .rse => 16
  | .pdp => 17
  | .pwr => 18
  | .link => 19
  | .scan => 20
  | .rasp => 21
  | .aud => 22
  | .tim => 23
  | .mem => 24
  | .thm => 25
  | .nor => 26
  | .atl => 27
  | .pln => 28
  | .clp => 29
  | .hif => 30
  | .dict => 31
  | .log => 32
  | .flt => 33
  | .out => 34
  | .pending => 35
  | .free => 36

/-- `t` agrees with `s` on every component outside the mask `c` and every object outside the mask `r`. -/
def Fr0 (c r : Nat) (s t : State) : Prop :=
  (∀ k : Piece, c.testBit k.bit = false → k.same s t) ∧
  ∀ q, (∀ i, r.testBit i = true → ¬ (regAt i).covers q) → storeGet t.obj q = storeGet s.obj q

/-- The same of the first part of a pair. -/
def Fr1 {β : Type} (c r : Nat) (s : State) (p : State × β) : Prop := Fr0 c r s p.1

/-- The same of the second part of a pair. -/
def Fr2 {β : Type} (c r : Nat) (s : State) (p : β × State) : Prop := Fr0 c r s p.2

/-- Storing an object is within the masks. -/
def Ok (c r : Nat) (o : Obj) : Prop :=
  (o.access = .rws → c.testBit 5 = true) ∧ (o.access ≠ .rws → ∃ i, r.testBit i = true ∧ (regAt i).covers o.key)

theorem su {a b m : Nat} (h : m ||| a = m) (g : b ||| m = b) : b ||| a = b := by
  rw [← g, Nat.or_assoc, h]

theorem bit_of {c m i : Nat} (h : c ||| m = c) (hm : m.testBit i = true) : c.testBit i = true := by
  rw [← h, Nat.testBit_or, hm, Bool.or_true]

theorem bitx {c m i : Nat} {P : Prop} (h : c ||| m = c) (hm : m.testBit i = true) (hk : c.testBit i = false) : P := by
  rw [bit_of h hm] at hk; exact absurd hk (by decide)

theorem same_refl (k : Piece) (s : State) : k.same s s := by cases k <;> rfl

theorem same_trans {k : Piece} {s t u : State} (h : k.same s t) (g : k.same t u) : k.same s u := by
  cases k <;> exact Eq.trans h g

theorem fr_refl {c r : Nat} (s : State) : Fr0 c r s s := ⟨fun k _ => same_refl k s, fun _ _ => rfl⟩

theorem fr_raw {c r : Nat} {s0 u v : State} (ho : v.obj = u.obj) (hk : ∀ k : Piece, c.testBit k.bit = false → k.same u v) (h : Fr0 c r s0 u) :
    Fr0 c r s0 v :=
  ⟨fun k hb => same_trans (h.1 k hb) (hk k hb), fun q hq => by rw [ho]; exact h.2 q hq⟩

theorem fr0_ite {c r : Nat} {s0 a b : State} {p : Prop} [Decidable p] (ha : p → Fr0 c r s0 a) (hb : ¬p → Fr0 c r s0 b) : Fr0 c r s0 (if p then a else b) := by
  split
  · exact ha ‹_›
  · exact hb ‹_›

theorem fr1_ite {c r : Nat} {β : Type} {s0 : State} {a b : State × β} {p : Prop} [Decidable p] (ha : p → Fr1 c r s0 a) (hb : ¬p → Fr1 c r s0 b) :
    Fr1 c r s0 (if p then a else b) := by
  split
  · exact ha ‹_›
  · exact hb ‹_›

theorem fr2_ite {c r : Nat} {β : Type} {s0 : State} {a b : β × State} {p : Prop} [Decidable p] (ha : p → Fr2 c r s0 a) (hb : ¬p → Fr2 c r s0 b) :
    Fr2 c r s0 (if p then a else b) := by
  split
  · exact ha ‹_›
  · exact hb ‹_›

theorem fr0_foldl {c r : Nat} {α : Type} {s0 s : State} {g : State → α → State} {l : List α}
    (hg : ∀ s a, Fr0 c r s0 s → Fr0 c r s0 (g s a)) (h : Fr0 c r s0 s) : Fr0 c r s0 (l.foldl g s) := by
  induction l generalizing s with
  | nil => exact h
  | cons a l ih => exact ih (hg s a h)

theorem fr1_foldl {c r : Nat} {α β : Type} {s0 : State} {s : State × β} {g : State × β → α → State × β} {l : List α}
    (hg : ∀ s a, Fr1 c r s0 s → Fr1 c r s0 (g s a)) (h : Fr1 c r s0 s) : Fr1 c r s0 (l.foldl g s) := by
  induction l generalizing s with
  | nil => exact h
  | cons a l ih => exact ih (hg s a h)

theorem fr2_foldl {c r : Nat} {α β : Type} {s0 : State} {s : β × State} {g : β × State → α → β × State} {l : List α}
    (hg : ∀ s a, Fr2 c r s0 s → Fr2 c r s0 (g s a)) (h : Fr2 c r s0 s) : Fr2 c r s0 (l.foldl g s) := by
  induction l generalizing s with
  | nil => exact h
  | cons a l ih => exact ih (hg s a h)

theorem to1 {c r : Nat} {β : Type} {s0 : State} {p : State × β} (h : Fr1 c r s0 p) : Fr0 c r s0 p.1 := h
theorem to2 {c r : Nat} {β : Type} {s0 : State} {p : β × State} (h : Fr2 c r s0 p) : Fr0 c r s0 p.2 := h
theorem fr1_mk {c r : Nat} {β : Type} {s0 s : State} {b : β} (h : Fr0 c r s0 s) : Fr1 c r s0 (s, b) := h
theorem fr2_mk {c r : Nat} {β : Type} {s0 s : State} {b : β} (h : Fr0 c r s0 s) : Fr2 c r s0 (b, s) := h
theorem from1 {c r : Nat} {β : Type} {s0 s : State} {p : State × β} {b : β} (hp : p = (s, b)) (h : Fr1 c r s0 p) : Fr0 c r s0 s := by
  rw [hp] at h; exact h
theorem from2 {c r : Nat} {β : Type} {s0 s : State} {p : β × State} {b : β} (hp : p = (b, s)) (h : Fr2 c r s0 p) : Fr0 c r s0 s := by
  rw [hp] at h; exact h

theorem ok_ite {c r : Nat} {a b : Obj} {p : Prop} [Decidable p] (ha : Ok c r a) (hb : Ok c r b) : Ok c r (if p then a else b) := by
  split <;> assumption

theorem cov_all {g : Reg} (hg : g = .every) (q : Nat) : g.covers q := Or.inl (by subst hg; rfl)

theorem ok_fam {c r m : Nat} {f : Nat → Obj} (i p n : Nat) (hi : regAt i = .each f n) (hn : 0 < n) (hx : (f p).index = (f 0).index + p % n)
    (hs : (f p).sub = (f 0).sub) (hr : r ||| m = r) (hm : m.testBit i = true) (ho : (f p).access ≠ .rws) : Ok c r (f p) :=
  ⟨fun h => absurd h ho, fun _ => ⟨i, bit_of hr hm, Or.inr ⟨p % n, by rw [hi]; exact Nat.mod_lt _ hn, by
    rw [hi]; unfold Reg.each Obj.key; rw [hx, hs]; generalize (f 0).index = a; generalize (f 0).sub = b; simp only; omega⟩⟩⟩

theorem ok_sub {c r m : Nat} {f : Nat → Obj} (i p n : Nat) (hi : regAt i = .subs f n) (hn : 0 < n) (hs : (f p).sub = (f 0).sub + p % n)
    (hx : (f p).index = (f 0).index) (hr : r ||| m = r) (hm : m.testBit i = true) (ho : (f p).access ≠ .rws) : Ok c r (f p) :=
  ⟨fun h => absurd h ho, fun _ => ⟨i, bit_of hr hm, Or.inr ⟨p % n, by rw [hi]; exact Nat.mod_lt _ hn, by
    rw [hi]; unfold Reg.subs Obj.key; rw [hx, hs]; generalize (f 0).index = a; generalize (f 0).sub = b; simp only; omega⟩⟩⟩

theorem ok_rws {c r : Nat} {o : Obj} (hc : c ||| 32 = c) (ho : o.access = .rws) : Ok c r o :=
  ⟨fun _ => bit_of hc (by decide), fun h => absurd ho h⟩

theorem ok_one {c r m : Nat} {o : Obj} (i : Nat) (hi : regAt i = .one o) (hr : r ||| m = r) (hm : m.testBit i = true) (ho : o.access ≠ .rws := by decide) : Ok c r o :=
  ⟨fun h => absurd h ho, fun _ => ⟨i, bit_of hr hm, Or.inr ⟨0, by rw [hi]; exact Nat.one_pos, by rw [hi]; simp [Reg.one]⟩⟩⟩

theorem fr_part {c r : Nat} {s0 s : State} {v} (hc : c ||| 1 = c) (h : Fr0 c r s0 s) : Fr0 c r s0 { s with part := v } :=
  fr_raw (u := s) rfl (fun k hk => by cases k <;> first | rfl | exact bitx hc (by decide) hk) h

theorem fr_die {c r : Nat} {s0 s : State} {v} (hc : c ||| 2 = c) (h : Fr0 c r s0 s) : Fr0 c r s0 { s with die := v } :=
  fr_raw (u := s) rfl (fun k hk => by cases k <;> first | rfl | exact bitx hc (by decide) hk) h

theorem fr_stop {c r : Nat} {s0 s : State} {v} (hc : c ||| 4 = c) (h : Fr0 c r s0 s) : Fr0 c r s0 { s with stop := v } :=
  fr_raw (u := s) rfl (fun k hk => by cases k <;> first | rfl | exact bitx hc (by decide) hk) h

theorem fr_clk {c r : Nat} {s0 s : State} {v} (hc : c ||| 8 = c) (h : Fr0 c r s0 s) : Fr0 c r s0 { s with clk := v } :=
  fr_raw (u := s) rfl (fun k hk => by cases k <;> first | rfl | exact bitx hc (by decide) hk) h

theorem fr_cast {c r : Nat} {s0 s : State} {v} (hc : c ||| 32 = c) (h : Fr0 c r s0 s) : Fr0 c r s0 { s with cast := v } :=
  fr_raw (u := s) rfl (fun k hk => by cases k <;> first | rfl | exact bitx hc (by decide) hk) h

theorem fr_maq {c r : Nat} {s0 s : State} {v} (hc : c ||| 64 = c) (h : Fr0 c r s0 s) : Fr0 c r s0 { s with maq := v } :=
  fr_raw (u := s) rfl (fun k hk => by cases k <;> first | rfl | exact bitx hc (by decide) hk) h

theorem fr_cfg {c r : Nat} {s0 s : State} {v} (hc : c ||| 128 = c) (h : Fr0 c r s0 s) : Fr0 c r s0 { s with cfg := v } :=
  fr_raw (u := s) rfl (fun k hk => by cases k <;> first | rfl | exact bitx hc (by decide) hk) h

theorem fr_held {c r : Nat} {s0 s : State} {v} (hc : c ||| 256 = c) (h : Fr0 c r s0 s) : Fr0 c r s0 { s with held := v } :=
  fr_raw (u := s) rfl (fun k hk => by cases k <;> first | rfl | exact bitx hc (by decide) hk) h

theorem fr_isl {c r : Nat} {s0 s : State} {v} (hc : c ||| 512 = c) (h : Fr0 c r s0 s) : Fr0 c r s0 { s with isl := v } :=
  fr_raw (u := s) rfl (fun k hk => by cases k <;> first | rfl | exact bitx hc (by decide) hk) h

theorem fr_hbm {c r : Nat} {s0 s : State} {v} (hc : c ||| 1024 = c) (h : Fr0 c r s0 s) : Fr0 c r s0 { s with hbm := v } :=
  fr_raw (u := s) rfl (fun k hk => by cases k <;> first | rfl | exact bitx hc (by decide) hk) h

theorem fr_figs {c r : Nat} {s0 s : State} {v} (hc : c ||| 2048 = c) (h : Fr0 c r s0 s) : Fr0 c r s0 { s with figs := v } :=
  fr_raw (u := s) rfl (fun k hk => by cases k <;> first | rfl | exact bitx hc (by decide) hk) h

theorem fr_sdec {c r : Nat} {s0 s : State} {v} (hc : c ||| 4096 = c) (h : Fr0 c r s0 s) : Fr0 c r s0 { s with sdec := v } :=
  fr_raw (u := s) rfl (fun k hk => by cases k <;> first | rfl | exact bitx hc (by decide) hk) h

theorem fr_rrec {c r : Nat} {s0 s : State} {v} (hc : c ||| 8192 = c) (h : Fr0 c r s0 s) : Fr0 c r s0 { s with rrec := v } :=
  fr_raw (u := s) rfl (fun k hk => by cases k <;> first | rfl | exact bitx hc (by decide) hk) h

theorem fr_adm {c r : Nat} {s0 s : State} {v} (hc : c ||| 16384 = c) (h : Fr0 c r s0 s) : Fr0 c r s0 { s with adm := v } :=
  fr_raw (u := s) rfl (fun k hk => by cases k <;> first | rfl | exact bitx hc (by decide) hk) h

theorem fr_cal {c r : Nat} {s0 s : State} {v} (hc : c ||| 32768 = c) (h : Fr0 c r s0 s) : Fr0 c r s0 { s with cal := v } :=
  fr_raw (u := s) rfl (fun k hk => by cases k <;> first | rfl | exact bitx hc (by decide) hk) h

theorem fr_rse {c r : Nat} {s0 s : State} {v} (hc : c ||| 65536 = c) (h : Fr0 c r s0 s) : Fr0 c r s0 { s with rse := v } :=
  fr_raw (u := s) rfl (fun k hk => by cases k <;> first | rfl | exact bitx hc (by decide) hk) h

theorem fr_pdp {c r : Nat} {s0 s : State} {v} (hc : c ||| 131072 = c) (h : Fr0 c r s0 s) : Fr0 c r s0 { s with pdp := v } :=
  fr_raw (u := s) rfl (fun k hk => by cases k <;> first | rfl | exact bitx hc (by decide) hk) h

theorem fr_pwr {c r : Nat} {s0 s : State} {v} (hc : c ||| 262144 = c) (h : Fr0 c r s0 s) : Fr0 c r s0 { s with pwr := v } :=
  fr_raw (u := s) rfl (fun k hk => by cases k <;> first | rfl | exact bitx hc (by decide) hk) h

theorem fr_link {c r : Nat} {s0 s : State} {v} (hc : c ||| 524288 = c) (h : Fr0 c r s0 s) : Fr0 c r s0 { s with link := v } :=
  fr_raw (u := s) rfl (fun k hk => by cases k <;> first | rfl | exact bitx hc (by decide) hk) h

theorem fr_scan {c r : Nat} {s0 s : State} {v} (hc : c ||| 1048576 = c) (h : Fr0 c r s0 s) : Fr0 c r s0 { s with scan := v } :=
  fr_raw (u := s) rfl (fun k hk => by cases k <;> first | rfl | exact bitx hc (by decide) hk) h

theorem fr_rasp {c r : Nat} {s0 s : State} {v} (hc : c ||| 2097152 = c) (h : Fr0 c r s0 s) : Fr0 c r s0 { s with rasp := v } :=
  fr_raw (u := s) rfl (fun k hk => by cases k <;> first | rfl | exact bitx hc (by decide) hk) h

theorem fr_aud {c r : Nat} {s0 s : State} {v} (hc : c ||| 4194304 = c) (h : Fr0 c r s0 s) : Fr0 c r s0 { s with aud := v } :=
  fr_raw (u := s) rfl (fun k hk => by cases k <;> first | rfl | exact bitx hc (by decide) hk) h

theorem fr_tim {c r : Nat} {s0 s : State} {v} (hc : c ||| 8388608 = c) (h : Fr0 c r s0 s) : Fr0 c r s0 { s with tim := v } :=
  fr_raw (u := s) rfl (fun k hk => by cases k <;> first | rfl | exact bitx hc (by decide) hk) h

theorem fr_mem {c r : Nat} {s0 s : State} {v} (hc : c ||| 16777216 = c) (h : Fr0 c r s0 s) : Fr0 c r s0 { s with mem := v } :=
  fr_raw (u := s) rfl (fun k hk => by cases k <;> first | rfl | exact bitx hc (by decide) hk) h

theorem fr_thm {c r : Nat} {s0 s : State} {v} (hc : c ||| 33554432 = c) (h : Fr0 c r s0 s) : Fr0 c r s0 { s with thm := v } :=
  fr_raw (u := s) rfl (fun k hk => by cases k <;> first | rfl | exact bitx hc (by decide) hk) h

theorem fr_nor {c r : Nat} {s0 s : State} {v} (hc : c ||| 67108864 = c) (h : Fr0 c r s0 s) : Fr0 c r s0 { s with nor := v } :=
  fr_raw (u := s) rfl (fun k hk => by cases k <;> first | rfl | exact bitx hc (by decide) hk) h

theorem fr_atl {c r : Nat} {s0 s : State} {v} (hc : c ||| 134217728 = c) (h : Fr0 c r s0 s) : Fr0 c r s0 { s with atl := v } :=
  fr_raw (u := s) rfl (fun k hk => by cases k <;> first | rfl | exact bitx hc (by decide) hk) h

theorem fr_pln {c r : Nat} {s0 s : State} {v} (hc : c ||| 268435456 = c) (h : Fr0 c r s0 s) : Fr0 c r s0 { s with pln := v } :=
  fr_raw (u := s) rfl (fun k hk => by cases k <;> first | rfl | exact bitx hc (by decide) hk) h

theorem fr_clp {c r : Nat} {s0 s : State} {v} (hc : c ||| 536870912 = c) (h : Fr0 c r s0 s) : Fr0 c r s0 { s with clp := v } :=
  fr_raw (u := s) rfl (fun k hk => by cases k <;> first | rfl | exact bitx hc (by decide) hk) h

theorem fr_hif {c r : Nat} {s0 s : State} {v} (hc : c ||| 1073741824 = c) (h : Fr0 c r s0 s) : Fr0 c r s0 { s with hif := v } :=
  fr_raw (u := s) rfl (fun k hk => by cases k <;> first | rfl | exact bitx hc (by decide) hk) h

theorem fr_dict {c r : Nat} {s0 s : State} {v} (hc : c ||| 2147483648 = c) (h : Fr0 c r s0 s) : Fr0 c r s0 { s with dict := v } :=
  fr_raw (u := s) rfl (fun k hk => by cases k <;> first | rfl | exact bitx hc (by decide) hk) h

theorem fr_log {c r : Nat} {s0 s : State} {v} (hc : c ||| 4294967296 = c) (h : Fr0 c r s0 s) : Fr0 c r s0 { s with log := v } :=
  fr_raw (u := s) rfl (fun k hk => by cases k <;> first | rfl | exact bitx hc (by decide) hk) h

theorem fr_flt {c r : Nat} {s0 s : State} {v} (hc : c ||| 8589934592 = c) (h : Fr0 c r s0 s) : Fr0 c r s0 { s with flt := v } :=
  fr_raw (u := s) rfl (fun k hk => by cases k <;> first | rfl | exact bitx hc (by decide) hk) h

theorem fr_out {c r : Nat} {s0 s : State} {v} (hc : c ||| 17179869184 = c) (h : Fr0 c r s0 s) : Fr0 c r s0 { s with out := v } :=
  fr_raw (u := s) rfl (fun k hk => by cases k <;> first | rfl | exact bitx hc (by decide) hk) h

theorem fr_pending {c r : Nat} {s0 s : State} {v} (hc : c ||| 34359738368 = c) (h : Fr0 c r s0 s) : Fr0 c r s0 { s with pending := v } :=
  fr_raw (u := s) rfl (fun k hk => by cases k <;> first | rfl | exact bitx hc (by decide) hk) h

theorem fr_free {c r : Nat} {s0 s : State} {v} (hc : c ||| 68719476736 = c) (h : Fr0 c r s0 s) : Fr0 c r s0 { s with free := v } :=
  fr_raw (u := s) rfl (fun k hk => by cases k <;> first | rfl | exact bitx hc (by decide) hk) h

theorem fr_wipe {c r : Nat} {s0 u v : State} (hk : ∀ k : Piece, c.testBit k.bit = false → k.same u v) (hr : r ||| 137438953472 = r) (h : Fr0 c r s0 u) :
    Fr0 c r s0 v :=
  ⟨fun k hb => same_trans (h.1 k hb) (hk k hb), fun q hq => absurd (cov_all rfl q) (hq 37 (bit_of hr (by decide)))⟩

theorem State.putV_fr {c r : Nat} {s0 p0 : State} {p1 p2} (hc : c ||| 0 = c) (hr : r ||| 0 = r) (h0 : Fr0 c r s0 p0) (ho1 : Ok c r p1) : Fr0 c r s0 (State.putV p0 p1 p2) := by
  unfold State.putV
  split
  · next hw => exact fr_raw (u := p0) rfl (fun k hk => by cases k <;> first | rfl | (rw [show Piece.bit .cast = 5 from rfl, ho1.1 hw] at hk; exact absurd hk (by decide))) h0
  · next hw =>
    obtain ⟨i, hi, hcov⟩ := ho1.2 hw
    refine ⟨fun k hk => same_trans (h0.1 k hk) (by cases k <;> rfl), fun q hq => ?_⟩
    rw [← h0.2 q hq]
    exact storeGet_storeSet_ne (fun he => hq i hi (he ▸ hcov))

theorem O.figBinDropCount_ok {c r : Nat} (hr : r ||| 1 = r) : Ok c r O.figBinDropCount := ok_one 0 rfl hr (by decide)

theorem O.cplLostCount_ok {c r : Nat} (hr : r ||| 2 = r) : Ok c r O.cplLostCount := ok_one 1 rfl hr (by decide)

theorem O.hifLastStatus_ok {c r : Nat} (hr : r ||| 4 = r) : Ok c r O.hifLastStatus := ok_one 2 rfl hr (by decide)

theorem O.cfgBoundFrame_ok {c r : Nat} (hr : r ||| 8 = r) : Ok c r O.cfgBoundFrame := ok_one 3 rfl hr (by decide)

theorem O.admRefusedCount_ok {c r : Nat} (hr : r ||| 16 = r) : Ok c r O.admRefusedCount := ok_one 4 rfl hr (by decide)

theorem O.admLastStatus_ok {c r : Nat} (hr : r ||| 32 = r) : Ok c r O.admLastStatus := ok_one 5 rfl hr (by decide)

theorem O.admLastBadBin_ok {c r : Nat} (hr : r ||| 64 = r) : Ok c r O.admLastBadBin := ok_one 6 rfl hr (by decide)

theorem O.admLastCost_ok {c r : Nat} (hr : r ||| 128 = r) : Ok c r O.admLastCost := ok_one 7 rfl hr (by decide)

theorem O.admLastBudget_ok {c r : Nat} (hr : r ||| 256 = r) : Ok c r O.admLastBudget := ok_one 8 rfl hr (by decide)

theorem O.reliefSlotFree_ok {c r : Nat} (hr : r ||| 512 = r) : Ok c r O.reliefSlotFree := ok_one 9 rfl hr (by decide)

theorem O.reliefSlotRetained_ok {c r : Nat} (hr : r ||| 1024 = r) : Ok c r O.reliefSlotRetained := ok_one 10 rfl hr (by decide)

theorem O.reliefDirFree_ok {c r : Nat} (hr : r ||| 2048 = r) : Ok c r O.reliefDirFree := ok_one 11 rfl hr (by decide)

theorem O.reliefRecordFree_ok {c r : Nat} (hr : r ||| 4096 = r) : Ok c r O.reliefRecordFree := ok_one 12 rfl hr (by decide)

theorem O.tilesInFlight_ok {c r : Nat} (hr : r ||| 8192 = r) : Ok c r O.tilesInFlight := ok_one 13 rfl hr (by decide)

theorem O.residentOrdinal_ok {c r : Nat} (hr : r ||| 16384 = r) : Ok c r O.residentOrdinal := ok_one 14 rfl hr (by decide)

theorem O.figLiveCount_ok {c r : Nat} (hr : r ||| 32768 = r) : Ok c r O.figLiveCount := ok_one 15 rfl hr (by decide)

theorem O.scanLastStatus_ok {c r : Nat} (hr : r ||| 65536 = r) : Ok c r O.scanLastStatus := ok_one 16 rfl hr (by decide)

theorem O.pwrLastStatus_ok {c r : Nat} (hr : r ||| 131072 = r) : Ok c r O.pwrLastStatus := ok_one 17 rfl hr (by decide)

theorem O.timeLeapFlags_ok {c r : Nat} (hr : r ||| 262144 = r) : Ok c r O.timeLeapFlags := ok_one 18 rfl hr (by decide)

theorem O.timeUtcOffset_ok {c r : Nat} (hr : r ||| 524288 = r) : Ok c r O.timeUtcOffset := ok_one 19 rfl hr (by decide)

theorem O.logLostCount_ok {c r : Nat} (hr : r ||| 1048576 = r) : Ok c r O.logLostCount := ok_one 20 rfl hr (by decide)

theorem O.faultTotalCount_ok {c r : Nat} (hr : r ||| 2097152 = r) : Ok c r O.faultTotalCount := ok_one 21 rfl hr (by decide)

theorem O.faultLastCode_ok {c r : Nat} (hr : r ||| 4194304 = r) : Ok c r O.faultLastCode := ok_one 22 rfl hr (by decide)

theorem O.timeSelectedDomain_ok {c r : Nat} (hr : r ||| 8388608 = r) : Ok c r O.timeSelectedDomain := ok_one 23 rfl hr (by decide)

theorem O.timeState_ok {c r : Nat} (hr : r ||| 16777216 = r) : Ok c r O.timeState := ok_one 24 rfl hr (by decide)

theorem O.ptpState_ok {c r : Nat} {p : Nat} (hr : r ||| 33554432 = r) : Ok c r (O.ptpState p) :=
  ok_fam 25 p 2 (f := fun p => O.ptpState p) rfl (by decide) (by simp [O.ptpState]) (by simp [O.ptpState]) hr (by decide) (by simp [O.ptpState])

theorem O.ptpMasterPort_ok {c r : Nat} {p : Nat} (hr : r ||| 67108864 = r) : Ok c r (O.ptpMasterPort p) :=
  ok_fam 26 p 2 (f := fun p => O.ptpMasterPort p) rfl (by decide) (by simp [O.ptpMasterPort]) (by simp [O.ptpMasterPort]) hr (by decide) (by simp [O.ptpMasterPort])

theorem O.ptpGmIdentity_ok {c r : Nat} {p : Nat} (hr : r ||| 134217728 = r) : Ok c r (O.ptpGmIdentity p) :=
  ok_fam 27 p 2 (f := fun p => O.ptpGmIdentity p) rfl (by decide) (by simp [O.ptpGmIdentity]) (by simp [O.ptpGmIdentity]) hr (by decide) (by simp [O.ptpGmIdentity])

theorem O.memApertureRefusedCount_ok {c r : Nat} (hr : r ||| 268435456 = r) : Ok c r O.memApertureRefusedCount := ok_one 28 rfl hr (by decide)

theorem O.memLastStatus_ok {c r : Nat} (hr : r ||| 536870912 = r) : Ok c r O.memLastStatus := ok_one 29 rfl hr (by decide)

theorem O.memEccCorrected_ok {c r : Nat} {n : Nat} (hr : r ||| 1073741824 = r) : Ok c r (O.memEccCorrected n) :=
  ok_sub 30 n 4 (f := fun n => O.memEccCorrected n) rfl (by decide) (by simp [O.memEccCorrected]; try omega) (by simp [O.memEccCorrected]) hr (by decide) (by simp [O.memEccCorrected])

theorem O.memLastUeAddr_ok {c r : Nat} (hr : r ||| 2147483648 = r) : Ok c r O.memLastUeAddr := ok_one 31 rfl hr (by decide)

theorem O.memLastUeClass_ok {c r : Nat} (hr : r ||| 4294967296 = r) : Ok c r O.memLastUeClass := ok_one 32 rfl hr (by decide)

theorem O.memEccUncorrectable_ok {c r : Nat} {n : Nat} (hr : r ||| 8589934592 = r) : Ok c r (O.memEccUncorrectable n) :=
  ok_sub 33 n 4 (f := fun n => O.memEccUncorrectable n) rfl (by decide) (by simp [O.memEccUncorrectable]; try omega) (by simp [O.memEccUncorrectable]) hr (by decide) (by simp [O.memEccUncorrectable])

theorem O.dictIgnoredCount_ok {c r : Nat} (hr : r ||| 17179869184 = r) : Ok c r O.dictIgnoredCount := ok_one 34 rfl hr (by decide)

theorem O.vipexAuthFailCount_ok {c r : Nat} (hr : r ||| 34359738368 = r) : Ok c r O.vipexAuthFailCount := ok_one 35 rfl hr (by decide)

theorem O.dictLastStatus_ok {c r : Nat} (hr : r ||| 68719476736 = r) : Ok c r O.dictLastStatus := ok_one 36 rfl hr (by decide)

theorem ok_all {c r : Nat} {o : Obj} (hc : c ||| 48 = c) (hr : r ||| 137438953472 = r) : Ok c r o :=
  ⟨fun _ => bit_of hc (by decide), fun _ => ⟨37, bit_of hr (by decide), cov_all rfl o.key⟩⟩

theorem O.dictBusyCount_ok {c r : Nat} (hr : r ||| 274877906944 = r) : Ok c r O.dictBusyCount := ok_one 38 rfl hr (by decide)

theorem O.vipexAliveTx_ok {c r : Nat} (hr : r ||| 549755813888 = r) : Ok c r O.vipexAliveTx := ok_one 39 rfl hr (by decide)

theorem O.memMinTolerance_ok {c r : Nat} (hr : r ||| 1099511627776 = r) : Ok c r O.memMinTolerance := ok_one 40 rfl hr (by decide)

theorem O.audPortFlags_ok {c r : Nat} {p : Nat} (hr : r ||| 2199023255552 = r) : Ok c r (O.audPortFlags p) :=
  ok_fam 41 p 8 (f := fun p => O.audPortFlags p) rfl (by decide) (by simp [O.audPortFlags]) (by simp [O.audPortFlags]) hr (by decide) (by simp [O.audPortFlags])

theorem O.cfgSwapState_ok {c r : Nat} (hr : r ||| 4398046511104 = r) : Ok c r O.cfgSwapState := ok_one 42 rfl hr (by decide)

theorem O.headAEnable_ok {c r : Nat} (hr : r ||| 8796093022208 = r) : Ok c r O.headAEnable := ok_one 43 rfl hr (by decide)

theorem O.headBEnable_ok {c r : Nat} (hr : r ||| 17592186044416 = r) : Ok c r O.headBEnable := ok_one 44 rfl hr (by decide)

theorem O.portEnable_ok {c r : Nat} {p : Nat} (hr : r ||| 35184372088832 = r) : Ok c r (O.portEnable p) :=
  ok_fam 45 p 3 (f := fun p => O.portEnable p) rfl (by decide) (by simp [O.portEnable]) (by simp [O.portEnable]) hr (by decide) (by simp [O.portEnable])

theorem O.audPortEnable_ok {c r : Nat} {p : Nat} (hr : r ||| 70368744177664 = r) : Ok c r (O.audPortEnable p) :=
  ok_fam 46 p 8 (f := fun p => O.audPortEnable p) rfl (by decide) (by simp [O.audPortEnable]) (by simp [O.audPortEnable]) hr (by decide) (by simp [O.audPortEnable])

theorem O.clpEnable_ok {c r : Nat} (hr : r ||| 140737488355328 = r) : Ok c r O.clpEnable := ok_one 47 rfl hr (by decide)

theorem O.overlayEnable_ok {c r : Nat} (hr : r ||| 281474976710656 = r) : Ok c r O.overlayEnable := ok_one 48 rfl hr (by decide)

theorem O.captureEnable_ok {c r : Nat} (hr : r ||| 562949953421312 = r) : Ok c r O.captureEnable := ok_one 49 rfl hr (by decide)

theorem O.panelPowerEnable_ok {c r : Nat} (hr : r ||| 1125899906842624 = r) : Ok c r O.panelPowerEnable := ok_one 50 rfl hr (by decide)

theorem O.linkSlotState_ok {c r : Nat} {n : Nat} (hr : r ||| 2251799813685248 = r) : Ok c r (O.linkSlotState n) :=
  ok_sub 51 n 32 (f := fun n => O.linkSlotState n) rfl (by decide) (by simp [O.linkSlotState]; try omega) (by simp [O.linkSlotState]) hr (by decide) (by simp [O.linkSlotState])

theorem O.headAState_ok {c r : Nat} (hr : r ||| 4503599627370496 = r) : Ok c r O.headAState := ok_one 52 rfl hr (by decide)

theorem O.headBState_ok {c r : Nat} (hr : r ||| 9007199254740992 = r) : Ok c r O.headBState := ok_one 53 rfl hr (by decide)

theorem O.portState_ok {c r : Nat} {p : Nat} (hr : r ||| 18014398509481984 = r) : Ok c r (O.portState p) :=
  ok_fam 54 p 3 (f := fun p => O.portState p) rfl (by decide) (by simp [O.portState]) (by simp [O.portState]) hr (by decide) (by simp [O.portState])

theorem O.portLink_ok {c r : Nat} {p : Nat} (hr : r ||| 36028797018963968 = r) : Ok c r (O.portLink p) :=
  ok_fam 55 p 3 (f := fun p => O.portLink p) rfl (by decide) (by simp [O.portLink]) (by simp [O.portLink]) hr (by decide) (by simp [O.portLink])

theorem O.audPortState_ok {c r : Nat} {p : Nat} (hr : r ||| 72057594037927936 = r) : Ok c r (O.audPortState p) :=
  ok_fam 56 p 8 (f := fun p => O.audPortState p) rfl (by decide) (by simp [O.audPortState]) (by simp [O.audPortState]) hr (by decide) (by simp [O.audPortState])

theorem O.clpState_ok {c r : Nat} (hr : r ||| 144115188075855872 = r) : Ok c r O.clpState := ok_one 57 rfl hr (by decide)

theorem O.overlayState_ok {c r : Nat} (hr : r ||| 288230376151711744 = r) : Ok c r O.overlayState := ok_one 58 rfl hr (by decide)

theorem O.calStatusFlags_ok {c r : Nat} (hr : r ||| 576460752303423488 = r) : Ok c r O.calStatusFlags := ok_one 59 rfl hr (by decide)

theorem O.calTempLatched_ok {c r : Nat} (hr : r ||| 1152921504606846976 = r) : Ok c r O.calTempLatched := ok_one 60 rfl hr (by decide)

theorem O.calRampStep_ok {c r : Nat} (hr : r ||| 2305843009213693952 = r) : Ok c r O.calRampStep := ok_one 61 rfl hr (by decide)

theorem O.calTempMeasured_ok {c r : Nat} (hr : r ||| 4611686018427387904 = r) : Ok c r O.calTempMeasured := ok_one 62 rfl hr (by decide)

theorem O.captureState_ok {c r : Nat} (hr : r ||| 9223372036854775808 = r) : Ok c r O.captureState := ok_one 63 rfl hr (by decide)

theorem O.panelPowerState_ok {c r : Nat} (hr : r ||| 18446744073709551616 = r) : Ok c r O.panelPowerState := ok_one 64 rfl hr (by decide)

theorem O.faultActive_ok {c r : Nat} (hr : r ||| 36893488147419103232 = r) : Ok c r O.faultActive := ok_one 65 rfl hr (by decide)

theorem O.faultDefeated_ok {c r : Nat} (hr : r ||| 73786976294838206464 = r) : Ok c r O.faultDefeated := ok_one 66 rfl hr (by decide)

theorem O.clockHeldMask_ok {c r : Nat} (hr : r ||| 147573952589676412928 = r) : Ok c r O.clockHeldMask := ok_one 67 rfl hr (by decide)

theorem O.admSuspendCauses_ok {c r : Nat} (hr : r ||| 295147905179352825856 = r) : Ok c r O.admSuspendCauses := ok_one 68 rfl hr (by decide)

theorem O.admPromiseState_ok {c r : Nat} (hr : r ||| 590295810358705651712 = r) : Ok c r O.admPromiseState := ok_one 69 rfl hr (by decide)

theorem O.admSuspendCount_ok {c r : Nat} (hr : r ||| 1180591620717411303424 = r) : Ok c r O.admSuspendCount := ok_one 70 rfl hr (by decide)

theorem O.faultNAsserted_ok {c r : Nat} (hr : r ||| 2361183241434822606848 = r) : Ok c r O.faultNAsserted := ok_one 71 rfl hr (by decide)

theorem O.pwrHoldupState_ok {c r : Nat} (hr : r ||| 4722366482869645213696 = r) : Ok c r O.pwrHoldupState := ok_one 72 rfl hr (by decide)

theorem O.linkLaneState_ok {c r : Nat} {n : Nat} (hr : r ||| 9444732965739290427392 = r) : Ok c r (O.linkLaneState n) :=
  ok_sub 73 n 160 (f := fun n => O.linkLaneState n) rfl (by decide) (by simp [O.linkLaneState]; try omega) (by simp [O.linkLaneState]) hr (by decide) (by simp [O.linkLaneState])

theorem O.clpPlayState_ok {c r : Nat} (hr : r ||| 18889465931478580854784 = r) : Ok c r O.clpPlayState := ok_one 74 rfl hr (by decide)

theorem O.clpPlayClip_ok {c r : Nat} (hr : r ||| 37778931862957161709568 = r) : Ok c r O.clpPlayClip := ok_one 75 rfl hr (by decide)

theorem O.streamSource_ok {c r : Nat} (hr : r ||| 75557863725914323419136 = r) : Ok c r O.streamSource := ok_one 76 rfl hr (by decide)

theorem O.clpLastStatus_ok {c r : Nat} (hr : r ||| 151115727451828646838272 = r) : Ok c r O.clpLastStatus := ok_one 77 rfl hr (by decide)

theorem O.faultFamilyCount_ok {c r : Nat} {n : Nat} (hr : r ||| 302231454903657293676544 = r) : Ok c r (O.faultFamilyCount n) :=
  ok_sub 78 n 16 (f := fun n => O.faultFamilyCount n) rfl (by decide) (by simp [O.faultFamilyCount]; try omega) (by simp [O.faultFamilyCount]) hr (by decide) (by simp [O.faultFamilyCount])

theorem O.clpPlayBase_ok {c r : Nat} (hr : r ||| 604462909807314587353088 = r) : Ok c r O.clpPlayBase := ok_one 79 rfl hr (by decide)

theorem O.captureResult_ok {c r : Nat} (hr : r ||| 1208925819614629174706176 = r) : Ok c r O.captureResult := ok_one 80 rfl hr (by decide)

theorem O.cfgMaquetteDirty_ok {c r : Nat} (hr : r ||| 2417851639229258349412352 = r) : Ok c r O.cfgMaquetteDirty := ok_one 81 rfl hr (by decide)

theorem O.ptpEnable_ok {c r : Nat} {p : Nat} (hr : r ||| 4835703278458516698824704 = r) : Ok c r (O.ptpEnable p) :=
  ok_fam 82 p 2 (f := fun p => O.ptpEnable p) rfl (by decide) (by simp [O.ptpEnable]) (by simp [O.ptpEnable]) hr (by decide) (by simp [O.ptpEnable])

theorem O.vipexSecured_ok {c r : Nat} (hr : r ||| 9671406556917033397649408 = r) : Ok c r O.vipexSecured := ok_one 83 rfl hr (by decide)

theorem O.timeActionPending_ok {c r : Nat} (hr : r ||| 19342813113834066795298816 = r) : Ok c r O.timeActionPending := ok_one 84 rfl hr (by decide)

theorem O.patinaStoreState_ok {c r : Nat} (hr : r ||| 38685626227668133590597632 = r) : Ok c r O.patinaStoreState := ok_one 85 rfl hr (by decide)

theorem O.captureConfirmed_ok {c r : Nat} (hr : r ||| 77371252455336267181195264 = r) : Ok c r O.captureConfirmed := ok_one 86 rfl hr (by decide)

theorem O.captureCause_ok {c r : Nat} (hr : r ||| 154742504910672534362390528 = r) : Ok c r O.captureCause := ok_one 87 rfl hr (by decide)

theorem O.clpCmdState_ok {c r : Nat} (hr : r ||| 309485009821345068724781056 = r) : Ok c r O.clpCmdState := ok_one 88 rfl hr (by decide)

theorem O.clpCmdResult_ok {c r : Nat} (hr : r ||| 618970019642690137449562112 = r) : Ok c r O.clpCmdResult := ok_one 89 rfl hr (by decide)

theorem O.atlLastResetCause_ok {c r : Nat} (hr : r ||| 1237940039285380274899124224 = r) : Ok c r O.atlLastResetCause := ok_one 90 rfl hr (by decide)

theorem O.atlState_ok {c r : Nat} (hr : r ||| 2475880078570760549798248448 = r) : Ok c r O.atlState := ok_one 91 rfl hr (by decide)

theorem O.warmResetCount_ok {c r : Nat} (hr : r ||| 4951760157141521099596496896 = r) : Ok c r O.warmResetCount := ok_one 92 rfl hr (by decide)

theorem O.lockstepCount_ok {c r : Nat} (hr : r ||| 9903520314283042199192993792 = r) : Ok c r O.lockstepCount := ok_one 93 rfl hr (by decide)

theorem O.atlLastStatus_ok {c r : Nat} (hr : r ||| 19807040628566084398385987584 = r) : Ok c r O.atlLastStatus := ok_one 94 rfl hr (by decide)

theorem O.cfgSwapResult_ok {c r : Nat} (hr : r ||| 39614081257132168796771975168 = r) : Ok c r O.cfgSwapResult := ok_one 95 rfl hr (by decide)

theorem O.dictDomainOpen_ok {c r : Nat} (hr : r ||| 79228162514264337593543950336 = r) : Ok c r O.dictDomainOpen := ok_one 96 rfl hr (by decide)

theorem O.cfgStoreState_ok {c r : Nat} (hr : r ||| 158456325028528675187087900672 = r) : Ok c r O.cfgStoreState := ok_one 97 rfl hr (by decide)

theorem O.updateState_ok {c r : Nat} (hr : r ||| 316912650057057350374175801344 = r) : Ok c r O.updateState := ok_one 98 rfl hr (by decide)

theorem O.plinthLastResult_ok {c r : Nat} (hr : r ||| 633825300114114700748351602688 = r) : Ok c r O.plinthLastResult := ok_one 99 rfl hr (by decide)

theorem O.plinthState_ok {c r : Nat} (hr : r ||| 1267650600228229401496703205376 = r) : Ok c r O.plinthState := ok_one 100 rfl hr (by decide)

theorem O.plinthStagedSet_ok {c r : Nat} (hr : r ||| 2535301200456458802993406410752 = r) : Ok c r O.plinthStagedSet := ok_one 101 rfl hr (by decide)

theorem O.portLastStatus_ok {c r : Nat} {p : Nat} (hr : r ||| 5070602400912917605986812821504 = r) : Ok c r (O.portLastStatus p) :=
  ok_fam 102 p 3 (f := fun p => O.portLastStatus p) rfl (by decide) (by simp [O.portLastStatus]) (by simp [O.portLastStatus]) hr (by decide) (by simp [O.portLastStatus])

theorem O.audPhaseError_ok {c r : Nat} {p : Nat} (hr : r ||| 10141204801825835211973625643008 = r) : Ok c r (O.audPhaseError p) :=
  ok_fam 103 p 8 (f := fun p => O.audPhaseError p) rfl (by decide) (by simp [O.audPhaseError]) (by simp [O.audPhaseError]) hr (by decide) (by simp [O.audPhaseError])

theorem O.audLastStatus_ok {c r : Nat} (hr : r ||| 20282409603651670423947251286016 = r) : Ok c r O.audLastStatus := ok_one 104 rfl hr (by decide)

theorem O.audUnderrunCount_ok {c r : Nat} {p : Nat} (hr : r ||| 40564819207303340847894502572032 = r) : Ok c r (O.audUnderrunCount p) :=
  ok_fam 105 p 8 (f := fun p => O.audUnderrunCount p) rfl (by decide) (by simp [O.audUnderrunCount]) (by simp [O.audUnderrunCount]) hr (by decide) (by simp [O.audUnderrunCount])

theorem O.sdecLastStatus_ok {c r : Nat} (hr : r ||| 81129638414606681695789005144064 = r) : Ok c r O.sdecLastStatus := ok_one 106 rfl hr (by decide)

theorem O.rrecLastStatus_ok {c r : Nat} (hr : r ||| 162259276829213363391578010288128 = r) : Ok c r O.rrecLastStatus := ok_one 107 rfl hr (by decide)

theorem O.secCrcFailCount_ok {c r : Nat} (hr : r ||| 324518553658426726783156020576256 = r) : Ok c r O.secCrcFailCount := ok_one 108 rfl hr (by decide)

theorem O.audLateDiscardCount_ok {c r : Nat} {p : Nat} (hr : r ||| 649037107316853453566312041152512 = r) : Ok c r (O.audLateDiscardCount p) :=
  ok_fam 109 p 8 (f := fun p => O.audLateDiscardCount p) rfl (by decide) (by simp [O.audLateDiscardCount]) (by simp [O.audLateDiscardCount]) hr (by decide) (by simp [O.audLateDiscardCount])

theorem O.captureRunId_ok {c r : Nat} (hr : r ||| 1298074214633706907132624082305024 = r) : Ok c r O.captureRunId := ok_one 110 rfl hr (by decide)

theorem O.cfgStoredGeneration_ok {c r : Nat} (hr : r ||| 2596148429267413814265248164610048 = r) : Ok c r O.cfgStoredGeneration := ok_one 111 rfl hr (by decide)

theorem O.rseOverrunCount_ok {c r : Nat} (hr : r ||| 5192296858534827628530496329220096 = r) : Ok c r O.rseOverrunCount := ok_one 112 rfl hr (by decide)

theorem O.admBrokenCount_ok {c r : Nat} (hr : r ||| 10384593717069655257060992658440192 = r) : Ok c r O.admBrokenCount := ok_one 113 rfl hr (by decide)

theorem O.pcieLinkSpeed_ok {c r : Nat} (hr : r ||| 20769187434139310514121985316880384 = r) : Ok c r O.pcieLinkSpeed := ok_one 114 rfl hr (by decide)

theorem O.pcieLinkWidth_ok {c r : Nat} (hr : r ||| 41538374868278621028243970633760768 = r) : Ok c r O.pcieLinkWidth := ok_one 115 rfl hr (by decide)

theorem O.hostState_ok {c r : Nat} (hr : r ||| 83076749736557242056487941267521536 = r) : Ok c r O.hostState := ok_one 116 rfl hr (by decide)

theorem O.hostSilentCount_ok {c r : Nat} (hr : r ||| 166153499473114484112975882535043072 = r) : Ok c r O.hostSilentCount := ok_one 117 rfl hr (by decide)

theorem O.entropyErrorCount_ok {c r : Nat} (hr : r ||| 332306998946228968225951765070086144 = r) : Ok c r O.entropyErrorCount := ok_one 118 rfl hr (by decide)

theorem O.staleTileCount_ok {c r : Nat} (hr : r ||| 664613997892457936451903530140172288 = r) : Ok c r O.staleTileCount := ok_one 119 rfl hr (by decide)

theorem O.cacheFullCount_ok {c r : Nat} (hr : r ||| 1329227995784915872903807060280344576 = r) : Ok c r O.cacheFullCount := ok_one 120 rfl hr (by decide)

theorem O.scanLockState_ok {c r : Nat} (hr : r ||| 2658455991569831745807614120560689152 = r) : Ok c r O.scanLockState := ok_one 121 rfl hr (by decide)

theorem O.clpCapacity_ok {c r : Nat} (hr : r ||| 5316911983139663491615228241121378304 = r) : Ok c r O.clpCapacity := ok_one 122 rfl hr (by decide)

theorem O.clpFreeLargest_ok {c r : Nat} (hr : r ||| 10633823966279326983230456482242756608 = r) : Ok c r O.clpFreeLargest := ok_one 123 rfl hr (by decide)

theorem O.clpClipCount_ok {c r : Nat} (hr : r ||| 21267647932558653966460912964485513216 = r) : Ok c r O.clpClipCount := ok_one 124 rfl hr (by decide)

theorem O.clpLayout_ok {c r : Nat} (hr : r ||| 42535295865117307932921825928971026432 = r) : Ok c r O.clpLayout := ok_one 125 rfl hr (by decide)

theorem O.clpLastId_ok {c r : Nat} (hr : r ||| 85070591730234615865843651857942052864 = r) : Ok c r O.clpLastId := ok_one 126 rfl hr (by decide)

theorem O.clpReadFailCount_ok {c r : Nat} (hr : r ||| 170141183460469231731687303715884105728 = r) : Ok c r O.clpReadFailCount := ok_one 127 rfl hr (by decide)

theorem O.clpDriveState_ok {c r : Nat} {n : Nat} (hr : r ||| 340282366920938463463374607431768211456 = r) : Ok c r (O.clpDriveState n) :=
  ok_sub 128 n 2 (f := fun n => O.clpDriveState n) rfl (by decide) (by simp [O.clpDriveState]; try omega) (by simp [O.clpDriveState]) hr (by decide) (by simp [O.clpDriveState])

theorem O.fwSlotVersions_ok {c r : Nat} (hr : r ||| 680564733841876926926749214863536422912 = r) : Ok c r O.fwSlotVersions := ok_one 129 rfl hr (by decide)

theorem O.fwActiveSlot_ok {c r : Nat} (hr : r ||| 1361129467683753853853498429727072845824 = r) : Ok c r O.fwActiveSlot := ok_one 130 rfl hr (by decide)

theorem O.arbCount_ok {c r : Nat} (hr : r ||| 2722258935367507707706996859454145691648 = r) : Ok c r O.arbCount := ok_one 131 rfl hr (by decide)

theorem O.atlStartTimeMs_ok {c r : Nat} (hr : r ||| 5444517870735015415413993718908291383296 = r) : Ok c r O.atlStartTimeMs := ok_one 132 rfl hr (by decide)

theorem O.firmwareVersion_ok {c r : Nat} (hr : r ||| 10889035741470030830827987437816582766592 = r) : Ok c r O.firmwareVersion := ok_one 133 rfl hr (by decide)

theorem O.cfgBankGeneration_ok {c r : Nat} (hr : r ||| 21778071482940061661655974875633165533184 = r) : Ok c r O.cfgBankGeneration := ok_one 134 rfl hr (by decide)

theorem O.patinaLattice_ok {c r : Nat} (hc : c ||| 32 = c) (hr : r ||| 43556142965880123323311949751266331066368 = r) : Ok c r O.patinaLattice := ok_rws hc rfl

theorem O.patinaGeneration_ok {c r : Nat} (hr : r ||| 87112285931760246646623899502532662132736 = r) : Ok c r O.patinaGeneration := ok_one 136 rfl hr (by decide)

theorem O.viewHeight_ok {c r : Nat} (hc : c ||| 32 = c) (hr : r ||| 174224571863520493293247799005065324265472 = r) : Ok c r O.viewHeight := ok_rws hc rfl

theorem O.rgmiiIoVoltage_ok {c r : Nat} (hr : r ||| 348449143727040986586495598010130648530944 = r) : Ok c r O.rgmiiIoVoltage := ok_one 138 rfl hr (by decide)

theorem O.norEccCount_ok {c r : Nat} (hr : r ||| 696898287454081973172991196020261297061888 = r) : Ok c r O.norEccCount := ok_one 139 rfl hr (by decide)

theorem O.coldStartCount_ok {c r : Nat} (hr : r ||| 1393796574908163946345982392040522594123776 = r) : Ok c r O.coldStartCount := ok_one 140 rfl hr (by decide)

theorem O.framesPresented_ok {c r : Nat} (hr : r ||| 2787593149816327892691964784081045188247552 = r) : Ok c r O.framesPresented := ok_one 141 rfl hr (by decide)

theorem O.holdupLifetime_ok {c r : Nat} (hr : r ||| 5575186299632655785383929568162090376495104 = r) : Ok c r O.holdupLifetime := ok_one 142 rfl hr (by decide)

theorem O.updateCount_ok {c r : Nat} (hr : r ||| 11150372599265311570767859136324180752990208 = r) : Ok c r O.updateCount := ok_one 143 rfl hr (by decide)

theorem O.norEraseMax_ok {c r : Nat} (hr : r ||| 22300745198530623141535718272648361505980416 = r) : Ok c r O.norEraseMax := ok_one 144 rfl hr (by decide)

theorem O.timeRate_ok {c r : Nat} (hr : r ||| 44601490397061246283071436545296723011960832 = r) : Ok c r O.timeRate := ok_one 145 rfl hr (by decide)

theorem O.railPgStatus_ok {c r : Nat} (hr : r ||| 89202980794122492566142873090593446023921664 = r) : Ok c r O.railPgStatus := ok_one 146 rfl hr (by decide)

theorem O.logNewestSeq_ok {c r : Nat} (hr : r ||| 178405961588244985132285746181186892047843328 = r) : Ok c r O.logNewestSeq := ok_one 147 rfl hr (by decide)

theorem O.logOldestSeq_ok {c r : Nat} (hr : r ||| 356811923176489970264571492362373784095686656 = r) : Ok c r O.logOldestSeq := ok_one 148 rfl hr (by decide)

theorem O.thmTripCount_ok {c r : Nat} (hr : r ||| 713623846352979940529142984724747568191373312 = r) : Ok c r O.thmTripCount := ok_one 149 rfl hr (by decide)

theorem O.thmTripSlotsUsed_ok {c r : Nat} (hr : r ||| 1427247692705959881058285969449495136382746624 = r) : Ok c r O.thmTripSlotsUsed := ok_one 150 rfl hr (by decide)

theorem O.plinthMeanDrive_ok {c r : Nat} (hr : r ||| 2854495385411919762116571938898990272765493248 = r) : Ok c r O.plinthMeanDrive := ok_one 151 rfl hr (by decide)

theorem O.plinthLaneAmplitude_ok {c r : Nat} (hr : r ||| 5708990770823839524233143877797980545530986496 = r) : Ok c r O.plinthLaneAmplitude := ok_one 152 rfl hr (by decide)

theorem O.plinthTripPoint_ok {c r : Nat} (hr : r ||| 11417981541647679048466287755595961091061972992 = r) : Ok c r O.plinthTripPoint := ok_one 153 rfl hr (by decide)

theorem O.plinthWdPeriod_ok {c r : Nat} (hr : r ||| 22835963083295358096932575511191922182123945984 = r) : Ok c r O.plinthWdPeriod := ok_one 154 rfl hr (by decide)

theorem O.plinthTfMinNum_ok {c r : Nat} (hr : r ||| 45671926166590716193865151022383844364247891968 = r) : Ok c r O.plinthTfMinNum := ok_one 155 rfl hr (by decide)

theorem O.plinthTfMinDen_ok {c r : Nat} (hr : r ||| 91343852333181432387730302044767688728495783936 = r) : Ok c r O.plinthTfMinDen := ok_one 156 rfl hr (by decide)

theorem O.railOrder_ok {c r : Nat} (hr : r ||| 182687704666362864775460604089535377456991567872 = r) : Ok c r O.railOrder := ok_one 157 rfl hr (by decide)

theorem O.plinthCommitSeq_ok {c r : Nat} (hr : r ||| 365375409332725729550921208179070754913983135744 = r) : Ok c r O.plinthCommitSeq := ok_one 158 rfl hr (by decide)

theorem O.plinthPeakDrive_ok {c r : Nat} {n : Nat} (hr : r ||| 730750818665451459101842416358141509827966271488 = r) : Ok c r (O.plinthPeakDrive n) :=
  ok_sub 159 n 32 (f := fun n => O.plinthPeakDrive n) rfl (by decide) (by simp [O.plinthPeakDrive]; try omega) (by simp [O.plinthPeakDrive]) hr (by decide) (by simp [O.plinthPeakDrive])

theorem O.thmLastStatus_ok {c r : Nat} (hr : r ||| 1461501637330902918203684832716283019655932542976 = r) : Ok c r O.thmLastStatus := ok_one 160 rfl hr (by decide)

theorem O.plinthConsent_ok {c r : Nat} (hr : r ||| 2923003274661805836407369665432566039311865085952 = r) : Ok c r O.plinthConsent := ok_one 161 rfl hr (by decide)

theorem O.raspLastStatus_ok {c r : Nat} (hr : r ||| 5846006549323611672814739330865132078623730171904 = r) : Ok c r O.raspLastStatus := ok_one 162 rfl hr (by decide)

theorem O.raspCmdCount_ok {c r : Nat} (hr : r ||| 11692013098647223345629478661730264157247460343808 = r) : Ok c r O.raspCmdCount := ok_one 163 rfl hr (by decide)

theorem O.portTxFrames_ok {c r : Nat} {p : Nat} (hr : r ||| 23384026197294446691258957323460528314494920687616 = r) : Ok c r (O.portTxFrames p) :=
  ok_fam 164 p 3 (f := fun p => O.portTxFrames p) rfl (by decide) (by simp [O.portTxFrames]) (by simp [O.portTxFrames]) hr (by decide) (by simp [O.portTxFrames])

theorem O.ptpPathDelay_ok {c r : Nat} {p : Nat} (hr : r ||| 46768052394588893382517914646921056628989841375232 = r) : Ok c r (O.ptpPathDelay p) :=
  ok_fam 165 p 2 (f := fun p => O.ptpPathDelay p) rfl (by decide) (by simp [O.ptpPathDelay]) (by simp [O.ptpPathDelay]) hr (by decide) (by simp [O.ptpPathDelay])

theorem O.ptpOffset_ok {c r : Nat} {p : Nat} (hr : r ||| 93536104789177786765035829293842113257979682750464 = r) : Ok c r (O.ptpOffset p) :=
  ok_fam 166 p 2 (f := fun p => O.ptpOffset p) rfl (by decide) (by simp [O.ptpOffset]) (by simp [O.ptpOffset]) hr (by decide) (by simp [O.ptpOffset])

theorem O.linkLastStatus_ok {c r : Nat} (hr : r ||| 187072209578355573530071658587684226515959365500928 = r) : Ok c r O.linkLastStatus := ok_one 167 rfl hr (by decide)

theorem O.partnerDescriptor_ok {c r : Nat} {n : Nat} (hr : r ||| 374144419156711147060143317175368453031918731001856 = r) : Ok c r (O.partnerDescriptor n) :=
  ok_sub 168 n 32 (f := fun n => O.partnerDescriptor n) rfl (by decide) (by simp [O.partnerDescriptor]; try omega) (by simp [O.partnerDescriptor]) hr (by decide) (by simp [O.partnerDescriptor])

theorem O.uniformityPartner_ok {c r : Nat} {n : Nat} (hr : r ||| 748288838313422294120286634350736906063837462003712 = r) : Ok c r (O.uniformityPartner n) :=
  ok_sub 169 n 32 (f := fun n => O.uniformityPartner n) rfl (by decide) (by simp [O.uniformityPartner]; try omega) (by simp [O.uniformityPartner]) hr (by decide) (by simp [O.uniformityPartner])

theorem O.deviceRailMv_ok {c r : Nat} {n : Nat} (hr : r ||| 1496577676626844588240573268701473812127674924007424 = r) : Ok c r (O.deviceRailMv n) :=
  ok_sub 170 n 11 (f := fun n => O.deviceRailMv n) rfl (by decide) (by simp [O.deviceRailMv]; try omega) (by simp [O.deviceRailMv]) hr (by decide) (by simp [O.deviceRailMv])

theorem O.deviceRailLowCount_ok {c r : Nat} (hr : r ||| 2993155353253689176481146537402947624255349848014848 = r) : Ok c r O.deviceRailLowCount := ok_one 171 rfl hr (by decide)

theorem O.pwrHoldupCount_ok {c r : Nat} (hr : r ||| 5986310706507378352962293074805895248510699696029696 = r) : Ok c r O.pwrHoldupCount := ok_one 172 rfl hr (by decide)

theorem O.scanCommitIgnoredCount_ok {c r : Nat} (hr : r ||| 11972621413014756705924586149611790497021399392059392 = r) : Ok c r O.scanCommitIgnoredCount := ok_one 173 rfl hr (by decide)

theorem O.pdpLastStatus_ok {c r : Nat} (hr : r ||| 23945242826029513411849172299223580994042798784118784 = r) : Ok c r O.pdpLastStatus := ok_one 174 rfl hr (by decide)

theorem O.ptpLostCount_ok {c r : Nat} {p : Nat} (hr : r ||| 47890485652059026823698344598447161988085597568237568 = r) : Ok c r (O.ptpLostCount p) :=
  ok_fam 175 p 2 (f := fun p => O.ptpLostCount p) rfl (by decide) (by simp [O.ptpLostCount]) (by simp [O.ptpLostCount]) hr (by decide) (by simp [O.ptpLostCount])

theorem O.linkLaneSetting_ok {c r : Nat} {n : Nat} (hr : r ||| 95780971304118053647396689196894323976171195136475136 = r) : Ok c r (O.linkLaneSetting n) :=
  ok_sub 176 n 160 (f := fun n => O.linkLaneSetting n) rfl (by decide) (by simp [O.linkLaneSetting]; try omega) (by simp [O.linkLaneSetting]) hr (by decide) (by simp [O.linkLaneSetting])

theorem O.cfgSwapCount_ok {c r : Nat} (hr : r ||| 191561942608236107294793378393788647952342390272950272 = r) : Ok c r O.cfgSwapCount := ok_one 177 rfl hr (by decide)

theorem O.cfgSwapKind_ok {c r : Nat} (hr : r ||| 383123885216472214589586756787577295904684780545900544 = r) : Ok c r O.cfgSwapKind := ok_one 178 rfl hr (by decide)

theorem O.scanRetrainSkippedCount_ok {c r : Nat} (hr : r ||| 766247770432944429179173513575154591809369561091801088 = r) : Ok c r O.scanRetrainSkippedCount := ok_one 179 rfl hr (by decide)

theorem O.scanFrameNumber_ok {c r : Nat} (hr : r ||| 1532495540865888858358347027150309183618739122183602176 = r) : Ok c r O.scanFrameNumber := ok_one 180 rfl hr (by decide)

theorem O.timeActionDoneSeq_ok {c r : Nat} (hr : r ||| 3064991081731777716716694054300618367237478244367204352 = r) : Ok c r O.timeActionDoneSeq := ok_one 181 rfl hr (by decide)

theorem O.timeActionLastLateness_ok {c r : Nat} (hr : r ||| 6129982163463555433433388108601236734474956488734408704 = r) : Ok c r O.timeActionLastLateness := ok_one 182 rfl hr (by decide)

theorem O.timeActionDroppedCount_ok {c r : Nat} (hr : r ||| 12259964326927110866866776217202473468949912977468817408 = r) : Ok c r O.timeActionDroppedCount := ok_one 183 rfl hr (by decide)

theorem O.timeActionLateCount_ok {c r : Nat} (hr : r ||| 24519928653854221733733552434404946937899825954937634816 = r) : Ok c r O.timeActionLateCount := ok_one 184 rfl hr (by decide)

theorem O.driveBandNow_ok {c r : Nat} {n : Nat} (hr : r ||| 49039857307708443467467104868809893875799651909875269632 = r) : Ok c r (O.driveBandNow n) :=
  ok_sub 185 n 32 (f := fun n => O.driveBandNow n) rfl (by decide) (by simp [O.driveBandNow]; try omega) (by simp [O.driveBandNow]) hr (by decide) (by simp [O.driveBandNow])

theorem O.scanPhaseError_ok {c r : Nat} (hr : r ||| 98079714615416886934934209737619787751599303819750539264 = r) : Ok c r O.scanPhaseError := ok_one 186 rfl hr (by decide)

theorem O.scanResyncCount_ok {c r : Nat} (hr : r ||| 196159429230833773869868419475239575503198607639501078528 = r) : Ok c r O.scanResyncCount := ok_one 187 rfl hr (by decide)

theorem O.timeStepCount_ok {c r : Nat} (hr : r ||| 392318858461667547739736838950479151006397215279002157056 = r) : Ok c r O.timeStepCount := ok_one 188 rfl hr (by decide)

theorem O.timeLastStep_ok {c r : Nat} (hr : r ||| 784637716923335095479473677900958302012794430558004314112 = r) : Ok c r O.timeLastStep := ok_one 189 rfl hr (by decide)

theorem O.lastBinnedEpoch_ok {c r : Nat} (hr : r ||| 1569275433846670190958947355801916604025588861116008628224 = r) : Ok c r O.lastBinnedEpoch := ok_one 190 rfl hr (by decide)

theorem O.portRxFrames_ok {c r : Nat} {p : Nat} (hr : r ||| 3138550867693340381917894711603833208051177722232017256448 = r) : Ok c r (O.portRxFrames p) :=
  ok_fam 191 p 3 (f := fun p => O.portRxFrames p) rfl (by decide) (by simp [O.portRxFrames]) (by simp [O.portRxFrames]) hr (by decide) (by simp [O.portRxFrames])

theorem O.portRxDropped_ok {c r : Nat} {p : Nat} (hr : r ||| 6277101735386680763835789423207666416102355444464034512896 = r) : Ok c r (O.portRxDropped p) :=
  ok_fam 192 p 3 (f := fun p => O.portRxDropped p) rfl (by decide) (by simp [O.portRxDropped]) (by simp [O.portRxDropped]) hr (by decide) (by simp [O.portRxDropped])

theorem O.vipexDiscardCount_ok {c r : Nat} (hr : r ||| 12554203470773361527671578846415332832204710888928069025792 = r) : Ok c r O.vipexDiscardCount := ok_one 193 rfl hr (by decide)

theorem O.vipexStaleCount_ok {c r : Nat} (hr : r ||| 25108406941546723055343157692830665664409421777856138051584 = r) : Ok c r O.vipexStaleCount := ok_one 194 rfl hr (by decide)

theorem O.vipexRxCount_ok {c r : Nat} (hr : r ||| 50216813883093446110686315385661331328818843555712276103168 = r) : Ok c r O.vipexRxCount := ok_one 195 rfl hr (by decide)

theorem O.portAsirekDiscardCount_ok {c r : Nat} {p : Nat} (hr : r ||| 100433627766186892221372630771322662657637687111424552206336 = r) : Ok c r (O.portAsirekDiscardCount p) :=
  ok_fam 196 p 3 (f := fun p => O.portAsirekDiscardCount p) rfl (by decide) (by simp [O.portAsirekDiscardCount]) (by simp [O.portAsirekDiscardCount]) hr (by decide) (by simp [O.portAsirekDiscardCount])

theorem O.figNoContextCount_ok {c r : Nat} (hr : r ||| 200867255532373784442745261542645325315275374222849104412672 = r) : Ok c r O.figNoContextCount := ok_one 197 rfl hr (by decide)

theorem O.overlayShown_ok {c r : Nat} (hr : r ||| 401734511064747568885490523085290650630550748445698208825344 = r) : Ok c r O.overlayShown := ok_one 198 rfl hr (by decide)

theorem O.admAdmittedCount_ok {c r : Nat} (hr : r ||| 803469022129495137770981046170581301261101496891396417650688 = r) : Ok c r O.admAdmittedCount := ok_one 199 rfl hr (by decide)

theorem O.figBinPeak_ok {c r : Nat} (hr : r ||| 1606938044258990275541962092341162602522202993782792835301376 = r) : Ok c r O.figBinPeak := ok_one 200 rfl hr (by decide)

theorem O.ptpRate_ok {c r : Nat} {p : Nat} (hr : r ||| 3213876088517980551083924184682325205044405987565585670602752 = r) : Ok c r (O.ptpRate p) :=
  ok_fam 201 p 2 (f := fun p => O.ptpRate p) rfl (by decide) (by simp [O.ptpRate]) (by simp [O.ptpRate]) hr (by decide) (by simp [O.ptpRate])

theorem O.linkRetryCount_ok {c r : Nat} (hr : r ||| 6427752177035961102167848369364650410088811975131171341205504 = r) : Ok c r O.linkRetryCount := ok_one 202 rfl hr (by decide)

theorem O.memState_ok {c r : Nat} (hr : r ||| 12855504354071922204335696738729300820177623950262342682411008 = r) : Ok c r O.memState := ok_one 203 rfl hr (by decide)

theorem O.memTrainingTime_ok {c r : Nat} (hr : r ||| 25711008708143844408671393477458601640355247900524685364822016 = r) : Ok c r O.memTrainingTime := ok_one 204 rfl hr (by decide)

theorem O.linkSpareSwitchCount_ok {c r : Nat} (hr : r ||| 51422017416287688817342786954917203280710495801049370729644032 = r) : Ok c r O.linkSpareSwitchCount := ok_one 205 rfl hr (by decide)

theorem O.partnerTelemetry_ok {c r : Nat} {n : Nat} (hr : r ||| 102844034832575377634685573909834406561420991602098741459288064 = r) : Ok c r (O.partnerTelemetry n) :=
  ok_sub 206 n 32 (f := fun n => O.partnerTelemetry n) rfl (by decide) (by simp [O.partnerTelemetry]; try omega) (by simp [O.partnerTelemetry]) hr (by decide) (by simp [O.partnerTelemetry])

theorem O.raspPublishedEpoch_ok {c r : Nat} (hr : r ||| 205688069665150755269371147819668813122841983204197482918576128 = r) : Ok c r O.raspPublishedEpoch := ok_one 207 rfl hr (by decide)

theorem O.raspRefusedCount_ok {c r : Nat} (hr : r ||| 411376139330301510538742295639337626245683966408394965837152256 = r) : Ok c r O.raspRefusedCount := ok_one 208 rfl hr (by decide)

theorem O.memHotRefreshMask_ok {c r : Nat} (hr : r ||| 822752278660603021077484591278675252491367932816789931674304512 = r) : Ok c r O.memHotRefreshMask := ok_one 209 rfl hr (by decide)

theorem O.driveMeanLast_ok {c r : Nat} (hr : r ||| 1645504557321206042154969182557350504982735865633579863348609024 = r) : Ok c r O.driveMeanLast := ok_one 210 rfl hr (by decide)

theorem O.rseLastStatus_ok {c r : Nat} (hr : r ||| 3291009114642412084309938365114701009965471731267159726697218048 = r) : Ok c r O.rseLastStatus := ok_one 211 rfl hr (by decide)

theorem O.rseStepsLast_ok {c r : Nat} (hr : r ||| 6582018229284824168619876730229402019930943462534319453394436096 = r) : Ok c r O.rseStepsLast := ok_one 212 rfl hr (by decide)

theorem O.rseStepBoundLast_ok {c r : Nat} (hr : r ||| 13164036458569648337239753460458804039861886925068638906788872192 = r) : Ok c r O.rseStepBoundLast := ok_one 213 rfl hr (by decide)

theorem O.rseRenderTimeLast_ok {c r : Nat} (hr : r ||| 26328072917139296674479506920917608079723773850137277813577744384 = r) : Ok c r O.rseRenderTimeLast := ok_one 214 rfl hr (by decide)

theorem O.rseSplitBinsLast_ok {c r : Nat} (hr : r ||| 52656145834278593348959013841835216159447547700274555627155488768 = r) : Ok c r O.rseSplitBinsLast := ok_one 215 rfl hr (by decide)

theorem O.driveGainNow_ok {c r : Nat} (hr : r ||| 105312291668557186697918027683670432318895095400549111254310977536 = r) : Ok c r O.driveGainNow := ok_one 216 rfl hr (by decide)

theorem O.driveBackstopCount_ok {c r : Nat} (hr : r ||| 210624583337114373395836055367340864637790190801098222508621955072 = r) : Ok c r O.driveBackstopCount := ok_one 217 rfl hr (by decide)

theorem O.rseThrottleLevel_ok {c r : Nat} (hr : r ||| 421249166674228746791672110734681729275580381602196445017243910144 = r) : Ok c r O.rseThrottleLevel := ok_one 218 rfl hr (by decide)

theorem O.lineCrcFailCount_ok {c r : Nat} (hr : r ||| 842498333348457493583344221469363458551160763204392890034487820288 = r) : Ok c r O.lineCrcFailCount := ok_one 219 rfl hr (by decide)

theorem O.lineZeroedCount_ok {c r : Nat} (hr : r ||| 1684996666696914987166688442938726917102321526408785780068975640576 = r) : Ok c r O.lineZeroedCount := ok_one 220 rfl hr (by decide)

theorem O.memScrubPasses_ok {c r : Nat} (hr : r ||| 3369993333393829974333376885877453834204643052817571560137951281152 = r) : Ok c r O.memScrubPasses := ok_one 221 rfl hr (by decide)

theorem O.segBadCount_ok {c r : Nat} (hr : r ||| 6739986666787659948666753771754907668409286105635143120275902562304 = r) : Ok c r O.segBadCount := ok_one 222 rfl hr (by decide)

theorem O.segOkCount_ok {c r : Nat} (hr : r ||| 13479973333575319897333507543509815336818572211270286240551805124608 = r) : Ok c r O.segOkCount := ok_one 223 rfl hr (by decide)

theorem O.streamCurrentId_ok {c r : Nat} (hr : r ||| 26959946667150639794667015087019630673637144422540572481103610249216 = r) : Ok c r O.streamCurrentId := ok_one 224 rfl hr (by decide)

theorem O.segLossCount_ok {c r : Nat} (hr : r ||| 53919893334301279589334030174039261347274288845081144962207220498432 = r) : Ok c r O.segLossCount := ok_one 225 rfl hr (by decide)

theorem O.dmaErrorCount_ok {c r : Nat} (hr : r ||| 107839786668602559178668060348078522694548577690162289924414440996864 = r) : Ok c r O.dmaErrorCount := ok_one 226 rfl hr (by decide)

theorem O.segCopiedCount_ok {c r : Nat} (hr : r ||| 215679573337205118357336120696157045389097155380324579848828881993728 = r) : Ok c r O.segCopiedCount := ok_one 227 rfl hr (by decide)

theorem O.segCopiedBytes_ok {c r : Nat} (hr : r ||| 431359146674410236714672241392314090778194310760649159697657763987456 = r) : Ok c r O.segCopiedBytes := ok_one 228 rfl hr (by decide)

theorem O.partnerCrcCount_ok {c r : Nat} (hr : r ||| 862718293348820473429344482784628181556388621521298319395315527974912 = r) : Ok c r O.partnerCrcCount := ok_one 229 rfl hr (by decide)

theorem O.thmTj_ok {c r : Nat} (hr : r ||| 1725436586697640946858688965569256363112777243042596638790631055949824 = r) : Ok c r O.thmTj := ok_one 230 rfl hr (by decide)

theorem O.thmTjSensor_ok {c r : Nat} (hr : r ||| 3450873173395281893717377931138512726225554486085193277581262111899648 = r) : Ok c r O.thmTjSensor := ok_one 231 rfl hr (by decide)

theorem O.thmExcludedMask_ok {c r : Nat} (hr : r ||| 6901746346790563787434755862277025452451108972170386555162524223799296 = r) : Ok c r O.thmExcludedMask := ok_one 232 rfl hr (by decide)

theorem O.memStackTemp_ok {c r : Nat} {n : Nat} (hr : r ||| 13803492693581127574869511724554050904902217944340773110325048447598592 = r) : Ok c r (O.memStackTemp n) :=
  ok_sub 233 n 4 (f := fun n => O.memStackTemp n) rfl (by decide) (by simp [O.memStackTemp]; try omega) (by simp [O.memStackTemp]) hr (by decide) (by simp [O.memStackTemp])

theorem O.admDerateNow_ok {c r : Nat} (hr : r ||| 27606985387162255149739023449108101809804435888681546220650096895197184 = r) : Ok c r O.admDerateNow := ok_one 234 rfl hr (by decide)

theorem O.thmRiseRate_ok {c r : Nat} (hr : r ||| 55213970774324510299478046898216203619608871777363092441300193790394368 = r) : Ok c r O.thmRiseRate := ok_one 235 rfl hr (by decide)

theorem O.thmNorWindow_ok {c r : Nat} (hr : r ||| 110427941548649020598956093796432407239217743554726184882600387580788736 = r) : Ok c r O.thmNorWindow := ok_one 236 rfl hr (by decide)

theorem O.thmThrottleLevel_ok {c r : Nat} (hr : r ||| 220855883097298041197912187592864814478435487109452369765200775161577472 = r) : Ok c r O.thmThrottleLevel := ok_one 237 rfl hr (by decide)

theorem O.admThrottleNow_ok {c r : Nat} (hr : r ||| 441711766194596082395824375185729628956870974218904739530401550323154944 = r) : Ok c r O.admThrottleNow := ok_one 238 rfl hr (by decide)

theorem O.thmRiseLevel_ok {c r : Nat} (hr : r ||| 883423532389192164791648750371459257913741948437809479060803100646309888 = r) : Ok c r O.thmRiseLevel := ok_one 239 rfl hr (by decide)

theorem O.poisonedTileCount_ok {c r : Nat} (hr : r ||| 1766847064778384329583297500742918515827483896875618958121606201292619776 = r) : Ok c r O.poisonedTileCount := ok_one 240 rfl hr (by decide)

theorem O.lateCommitDroppedCount_ok {c r : Nat} (hr : r ||| 3533694129556768659166595001485837031654967793751237916243212402585239552 = r) : Ok c r O.lateCommitDroppedCount := ok_one 241 rfl hr (by decide)

theorem O.tilesCommittedCount_ok {c r : Nat} (hr : r ||| 7067388259113537318333190002971674063309935587502475832486424805170479104 = r) : Ok c r O.tilesCommittedCount := ok_one 242 rfl hr (by decide)

theorem O.scanUnderrunCount_ok {c r : Nat} (hr : r ||| 14134776518227074636666380005943348126619871175004951664972849610340958208 = r) : Ok c r O.scanUnderrunCount := ok_one 243 rfl hr (by decide)

theorem O.rseStoreEccCount_ok {c r : Nat} (hr : r ||| 28269553036454149273332760011886696253239742350009903329945699220681916416 = r) : Ok c r O.rseStoreEccCount := ok_one 244 rfl hr (by decide)

theorem O.rseHitOverflowCount_ok {c r : Nat} (hr : r ||| 56539106072908298546665520023773392506479484700019806659891398441363832832 = r) : Ok c r O.rseHitOverflowCount := ok_one 245 rfl hr (by decide)

theorem O.updateResult_ok {c r : Nat} (hr : r ||| 113078212145816597093331040047546785012958969400039613319782796882727665664 = r) : Ok c r O.updateResult := ok_one 246 rfl hr (by decide)

theorem Fn.stateObj_ok {c r : Nat} {f : Fn} (hr : r ||| 28206044466221416448 = r) : Ok c r (f.stateObj) := by
  cases f
  · exact O.headAState_ok (su rfl hr)
  · exact O.headBState_ok (su rfl hr)
  · exact O.portState_ok (su rfl hr)
  · exact O.audPortState_ok (su rfl hr)
  · exact O.clpState_ok (su rfl hr)
  · exact O.overlayState_ok (su rfl hr)
  · exact O.captureState_ok (su rfl hr)
  · exact O.panelPowerState_ok (su rfl hr)

theorem Fn.enableObj_ok {c r : Nat} {f : Fn} (hr : r ||| 2243003720663040 = r) : Ok c r (f.enableObj) := by
  cases f
  · exact O.headAEnable_ok (su rfl hr)
  · exact O.headBEnable_ok (su rfl hr)
  · exact O.portEnable_ok (su rfl hr)
  · exact O.audPortEnable_ok (su rfl hr)
  · exact O.clpEnable_ok (su rfl hr)
  · exact O.overlayEnable_ok (su rfl hr)
  · exact O.captureEnable_ok (su rfl hr)
  · exact O.panelPowerEnable_ok (su rfl hr)

theorem State.modScan_fr {c r : Nat} {s0 : State} {p0} {p1} (hc : c ||| 1048576 = c) (hr : r ||| 0 = r) (h0 : Fr0 c r s0 p0) :
    Fr0 c r s0 (State.modScan p0 p1) := by
  unfold State.modScan
  refine fr_scan (su rfl hc) ?_
  exact h0

theorem State.noteReady_fr {c r : Nat} {s0 : State} {p0} (hc : c ||| 1048576 = c) (hr : r ||| 0 = r) (h0 : Fr0 c r s0 p0) :
    Fr0 c r s0 (State.noteReady p0) := by
  unfold State.noteReady
  extract_lets +onlyGivenNames -merge -useContext -underBinder x0
  try clear_value x0
  refine State.modScan_fr (su rfl hc) (su rfl hr) ?_
  exact h0

theorem State.idle_fr {c r : Nat} {s0 : State} {p0} (hc : c ||| 1048584 = c) (hr : r ||| 0 = r) (h0 : Fr0 c r s0 p0) :
    Fr0 c r s0 (State.idle p0) := by
  unfold State.idle
  refine fr0_ite (fun _ => ?_) (fun _ => ?_)
  ·
    refine State.noteReady_fr (su rfl hc) (su rfl hr) ?_
    refine fr_clk (su rfl hc) ?_
    exact h0
  ·
    refine fr_clk (su rfl hc) ?_
    exact h0

theorem State.ifLive_fr {c r : Nat} {s0 : State} {p0} {p1} (hc : c ||| 0 = c) (hr : r ||| 0 = r) (h0 : Fr0 c r s0 p0) (hf1 : ∀ (y0 : State), Fr0 c r s0 y0 → Fr0 c r s0 (p1 y0)) :
    Fr0 c r s0 (State.ifLive p0 p1) := by
  unfold State.ifLive
  refine fr0_ite (fun _ => ?_) (fun _ => ?_)
  ·
    refine hf1 _ ?_
    ·
      exact h0
  ·
    exact h0

theorem State.put_fr {c r : Nat} {s0 : State} {p0} {p1} {p2} (hc : c ||| 0 = c) (hr : r ||| 0 = r) (h0 : Fr0 c r s0 p0) (ho1 : Ok c r p1) :
    Fr0 c r s0 (State.put p0 p1 p2) := by
  unfold State.put
  refine State.putV_fr (su rfl hc) (su rfl hr) ?_ ?_
  ·
    exact h0
  ·
    exact ho1

theorem State.bumpBy_fr {c r : Nat} {s0 : State} {p0} {p1} {p2} (hc : c ||| 0 = c) (hr : r ||| 0 = r) (h0 : Fr0 c r s0 p0) (ho1 : Ok c r p1) :
    Fr0 c r s0 (State.bumpBy p0 p1 p2) := by
  unfold State.bumpBy
  refine State.put_fr (su rfl hc) (su rfl hr) ?_ ?_
  ·
    exact h0
  ·
    exact ho1

theorem State.modSdec_fr {c r : Nat} {s0 : State} {p0} {p1} (hc : c ||| 4096 = c) (hr : r ||| 0 = r) (h0 : Fr0 c r s0 p0) :
    Fr0 c r s0 (State.modSdec p0 p1) := by
  unfold State.modSdec
  refine fr_sdec (su rfl hc) ?_
  exact h0

theorem State.dropCodes_fr {c r : Nat} {s0 : State} {p0} {p1} (hc : c ||| 4096 = c) (hr : r ||| 0 = r) (h0 : Fr0 c r s0 p0) :
    Fr0 c r s0 (State.dropCodes p0 p1) := by
  unfold State.dropCodes
  refine State.modSdec_fr (su rfl hc) (su rfl hr) ?_
  exact h0

theorem State.emit_fr {c r : Nat} {s0 : State} {p0} {p1} (hc : c ||| 17179869184 = c) (hr : r ||| 0 = r) (h0 : Fr0 c r s0 p0) :
    Fr0 c r s0 (State.emit p0 p1) := by
  unfold State.emit
  refine fr_out (su rfl hc) ?_
  exact h0

theorem State.sendVector_fr {c r : Nat} {s0 : State} {p0} {p1} (hc : c ||| 18253611008 = c) (hr : r ||| 0 = r) (h0 : Fr0 c r s0 p0) :
    Fr0 c r s0 (State.sendVector p0 p1) := by
  unfold State.sendVector
  refine fr0_ite (fun _ => ?_) (fun _ => ?_)
  ·
    refine fr_hif (su rfl hc) ?_
    exact h0
  ·
    refine State.emit_fr (su rfl hc) (su rfl hr) ?_
    exact h0

theorem State.irq_fr {c r : Nat} {s0 : State} {p0} {p1} (hc : c ||| 18253611008 = c) (hr : r ||| 0 = r) (h0 : Fr0 c r s0 p0) :
    Fr0 c r s0 (State.irq p0 p1) := by
  unfold State.irq
  refine fr0_ite (fun _ => ?_) (fun _ => ?_)
  ·
    exact h0
  ·
    extract_lets +onlyGivenNames -merge -useContext -underBinder x0
    try clear_value x0
    extract_lets +onlyGivenNames -merge -useContext -underBinder x1
    have hx2 : Fr0 c r s0 x1 := by
      refine fr_hif (su rfl hc) ?_
      exact h0
    try clear_value x1
    refine fr0_ite (fun _ => ?_) (fun _ => ?_)
    ·
      exact hx2
    ·
      refine State.sendVector_fr (su rfl hc) (su rfl hr) ?_
      exact hx2

theorem State.lastError_fr {c r : Nat} {s0 : State} {p0} {p1} (hc : c ||| 18253611008 = c) (hr : r ||| 0 = r) (h0 : Fr0 c r s0 p0) :
    Fr0 c r s0 (State.lastError p0 p1) := by
  unfold State.lastError
  refine fr0_ite (fun _ => ?_) (fun _ => ?_)
  ·
    exact h0
  ·
    refine State.irq_fr (su rfl hc) (su rfl hr) ?_
    refine fr_hif (su rfl hc) ?_
    exact h0

theorem State.bump_fr {c r : Nat} {s0 : State} {p0} {p1} (hc : c ||| 0 = c) (hr : r ||| 0 = r) (h0 : Fr0 c r s0 p0) (ho1 : Ok c r p1) :
    Fr0 c r s0 (State.bump p0 p1) := by
  unfold State.bump
  refine State.bumpBy_fr (su rfl hc) (su rfl hr) ?_ ?_
  ·
    exact h0
  ·
    exact ho1

theorem State.complete_fr {c r : Nat} {s0 : State} {p0} {p1} (hc : c ||| 18253611008 = c) (hr : r ||| 6 = r) (h0 : Fr0 c r s0 p0) :
    Fr0 c r s0 (State.complete p0 p1) := by
  unfold State.complete
  refine fr0_ite (fun _ => ?_) (fun _ => ?_)
  ·
    refine State.lastError_fr (su rfl hc) (su rfl hr) ?_
    refine State.put_fr (su rfl hc) (su rfl hr) ?_ ?_
    ·
      refine State.bump_fr (su rfl hc) (su rfl hr) ?_ ?_
      ·
        refine fr_hif (su rfl hc) ?_
        exact h0
      ·
        exact O.cplLostCount_ok (su rfl hr)
    ·
      exact O.hifLastStatus_ok (su rfl hr)
  ·
    refine fr_hif (su rfl hc) ?_
    exact h0

theorem State.admissionEntry_fr {c r : Nat} {s0 : State} {p0} {p1} {p2} (hc : c ||| 18253615104 = c) (hr : r ||| 7 = r) (h0 : Fr0 c r s0 p0) :
    Fr0 c r s0 (State.admissionEntry p0 p1 p2) := by
  unfold State.admissionEntry
  split
  ·
    extract_lets +onlyGivenNames -merge -useContext -underBinder x0
    have hx1 : Fr0 c r s0 x0 := by
      refine State.bumpBy_fr (su rfl hc) (su rfl hr) ?_ ?_
      ·
        refine State.dropCodes_fr (su rfl hc) (su rfl hr) ?_
        exact h0
      ·
        exact O.figBinDropCount_ok (su rfl hr)
    try clear_value x0
    refine State.complete_fr (su rfl hc) (su rfl hr) ?_
    exact hx1

theorem State.rebind_fr {c r : Nat} {s0 : State} {p0} {p1} (hc : c ||| 0 = c) (hr : r ||| 8 = r) (h0 : Fr0 c r s0 p0) :
    Fr0 c r s0 (State.rebind p0 p1) := by
  unfold State.rebind
  refine fr0_ite (fun _ => ?_) (fun _ => ?_)
  ·
    refine State.put_fr (su rfl hc) (su rfl hr) ?_ ?_
    ·
      exact h0
    ·
      exact O.cfgBoundFrame_ok (su rfl hr)
  ·
    exact h0

theorem State.modIsl_fr {c r : Nat} {s0 : State} {p0} {p1} {p2} (hc : c ||| 512 = c) (hr : r ||| 0 = r) (h0 : Fr0 c r s0 p0) :
    Fr0 c r s0 (State.modIsl p0 p1 p2) := by
  unfold State.modIsl
  refine fr_isl (su rfl hc) ?_
  exact h0

theorem State.gateIsl_fr {c r : Nat} {s0 : State} {p0} {p1} (hc : c ||| 512 = c) (hr : r ||| 0 = r) (h0 : Fr0 c r s0 p0) :
    Fr0 c r s0 (State.gateIsl p0 p1) := by
  unfold State.gateIsl
  refine State.modIsl_fr (su rfl hc) (su rfl hr) ?_
  exact h0

theorem State.regateRse_fr {c r : Nat} {s0 : State} {p0} {p1} (hc : c ||| 512 = c) (hr : r ||| 0 = r) (h0 : Fr0 c r s0 p0) :
    Fr0 c r s0 (State.regateRse p0 p1) := by
  unfold State.regateRse
  refine fr0_foldl (fun ha0s _ ha0 => ?_) ?_
  ·
    refine fr0_ite (fun _ => ?_) (fun _ => ?_)
    ·
      refine State.gateIsl_fr (su rfl hc) (su rfl hr) ?_
      exact ha0
    ·
      exact ha0
  ·
    exact h0

theorem State.regateOld_fr {c r : Nat} {s0 : State} {p0} (hc : c ||| 512 = c) (hr : r ||| 0 = r) (h0 : Fr0 c r s0 p0) :
    Fr0 c r s0 (State.regateOld p0) := by
  unfold State.regateOld
  refine fr0_ite (fun _ => ?_) (fun _ => ?_)
  ·
    refine State.regateRse_fr (su rfl hc) (su rfl hr) ?_
    exact h0
  ·
    exact h0

theorem State.markResident_fr {c r : Nat} {s0 : State} {p0} (hc : c ||| 16384 = c) (hr : r ||| 0 = r) (h0 : Fr0 c r s0 p0) :
    Fr0 c r s0 (State.markResident p0) := by
  unfold State.markResident
  extract_lets +onlyGivenNames -merge -useContext -underBinder x0
  try clear_value x0
  refine fr_adm (su rfl hc) ?_
  exact h0

theorem State.refreshRelief_fr {c r : Nat} {s0 : State} {p0} (hc : c ||| 0 = c) (hr : r ||| 65024 = r) (h0 : Fr0 c r s0 p0) :
    Fr0 c r s0 (State.refreshRelief p0) := by
  unfold State.refreshRelief
  refine State.put_fr (su rfl hc) (su rfl hr) ?_ ?_
  ·
    refine State.put_fr (su rfl hc) (su rfl hr) ?_ ?_
    ·
      refine State.put_fr (su rfl hc) (su rfl hr) ?_ ?_
      ·
        refine State.put_fr (su rfl hc) (su rfl hr) ?_ ?_
        ·
          refine State.put_fr (su rfl hc) (su rfl hr) ?_ ?_
          ·
            refine State.put_fr (su rfl hc) (su rfl hr) ?_ ?_
            ·
              refine State.put_fr (su rfl hc) (su rfl hr) ?_ ?_
              ·
                exact h0
              ·
                exact O.reliefSlotFree_ok (su rfl hr)
            ·
              exact O.reliefSlotRetained_ok (su rfl hr)
          ·
            exact O.reliefDirFree_ok (su rfl hr)
        ·
          exact O.reliefRecordFree_ok (su rfl hr)
      ·
        exact O.tilesInFlight_ok (su rfl hr)
    ·
      exact O.residentOrdinal_ok (su rfl hr)
  ·
    exact O.figLiveCount_ok (su rfl hr)

theorem State.settleRelief_fr {c r : Nat} {s0 : State} {p0} (hc : c ||| 16384 = c) (hr : r ||| 65024 = r) (h0 : Fr0 c r s0 p0) :
    Fr0 c r s0 (State.settleRelief p0) := by
  unfold State.settleRelief
  refine State.markResident_fr (su rfl hc) (su rfl hr) ?_
  refine State.refreshRelief_fr (su rfl hc) (su rfl hr) ?_
  exact h0

theorem State.dropSlots_fr {c r : Nat} {s0 : State} {p0} {p1} (hc : c ||| 8192 = c) (hr : r ||| 0 = r) (h0 : Fr0 c r s0 p0) :
    Fr0 c r s0 (State.dropSlots p0 p1) := by
  unfold State.dropSlots
  refine fr_rrec (su rfl hc) ?_
  exact h0

theorem State.dropDirs_fr {c r : Nat} {s0 : State} {p0} (hc : c ||| 8192 = c) (hr : r ||| 0 = r) (h0 : Fr0 c r s0 p0) :
    Fr0 c r s0 (State.dropDirs p0) := by
  unfold State.dropDirs
  extract_lets +onlyGivenNames -merge -useContext -underBinder x0
  try clear_value x0
  extract_lets +onlyGivenNames -merge -useContext -underBinder x1
  try clear_value x1
  extract_lets +onlyGivenNames -merge -useContext -underBinder x2
  try clear_value x2
  extract_lets +onlyGivenNames -merge -useContext -underBinder x3
  have hx4 : Fr0 c r s0 x3 := by
    refine fr_rrec (su rfl hc) ?_
    exact h0
  try clear_value x3
  refine State.dropSlots_fr (su rfl hc) (su rfl hr) ?_
  exact hx4

theorem State.releaseFrame_fr {c r : Nat} {s0 : State} {p0} {p1} (hc : c ||| 25088 = c) (hr : r ||| 65024 = r) (h0 : Fr0 c r s0 p0) :
    Fr0 c r s0 (State.releaseFrame p0 p1) := by
  unfold State.releaseFrame
  extract_lets +onlyGivenNames -merge -useContext -underBinder x0
  try clear_value x0
  extract_lets +onlyGivenNames -merge -useContext -underBinder x1
  try clear_value x1
  extract_lets +onlyGivenNames -merge -useContext -underBinder x2
  have hx3 : Fr0 c r s0 x2 := by
    refine fr_rrec (su rfl hc) ?_
    exact h0
  try clear_value x2
  refine State.regateOld_fr (su rfl hc) (su rfl hr) ?_
  refine State.settleRelief_fr (su rfl hc) (su rfl hr) ?_
  refine State.dropDirs_fr (su rfl hc) (su rfl hr) ?_
  refine State.dropSlots_fr (su rfl hc) (su rfl hr) ?_
  exact hx3

theorem State.refuseFrame_fr {c r : Nat} {s0 : State} {p0} {p1} {p2} (hc : c ||| 18253640192 = c) (hr : r ||| 65535 = r) (h0 : Fr0 c r s0 p0) :
    Fr0 c r s0 (State.refuseFrame p0 p1 p2) := by
  unfold State.refuseFrame
  extract_lets +onlyGivenNames -merge -useContext -underBinder x0
  have hx1 : Fr0 c r s0 x0 := by
    refine State.admissionEntry_fr (su rfl hc) (su rfl hr) ?_
    exact h0
  try clear_value x0
  extract_lets +onlyGivenNames -merge -useContext -underBinder x2
  have hx3 : Fr0 c r s0 x2 := by
    refine State.rebind_fr (su rfl hc) (su rfl hr) ?_
    refine State.put_fr (su rfl hc) (su rfl hr) ?_ ?_
    ·
      refine State.put_fr (su rfl hc) (su rfl hr) ?_ ?_
      ·
        refine State.bump_fr (su rfl hc) (su rfl hr) ?_ ?_
        ·
          exact hx1
        ·
          exact O.admRefusedCount_ok (su rfl hr)
      ·
        exact O.admLastStatus_ok (su rfl hr)
    ·
      exact O.admLastBadBin_ok (su rfl hr)
  try clear_value x2
  extract_lets +onlyGivenNames -merge -useContext -underBinder x4
  have hx5 : Fr0 c r s0 x4 := by
    refine fr0_ite (fun _ => ?_) (fun _ => ?_)
    ·
      exact hx3
    ·
      refine State.put_fr (su rfl hc) (su rfl hr) ?_ ?_
      ·
        refine State.put_fr (su rfl hc) (su rfl hr) ?_ ?_
        ·
          exact hx3
        ·
          exact O.admLastCost_ok (su rfl hr)
      ·
        exact O.admLastBudget_ok (su rfl hr)
  try clear_value x4
  refine State.releaseFrame_fr (su rfl hc) (su rfl hr) ?_
  exact hx5

theorem State.modAdm_fr {c r : Nat} {s0 : State} {p0} {p1} (hc : c ||| 16384 = c) (hr : r ||| 0 = r) (h0 : Fr0 c r s0 p0) :
    Fr0 c r s0 (State.modAdm p0 p1) := by
  unfold State.modAdm
  refine fr_adm (su rfl hc) ?_
  exact h0

theorem State.dropHead_fr {c r : Nat} {s0 : State} {p0} (hc : c ||| 16384 = c) (hr : r ||| 0 = r) (h0 : Fr0 c r s0 p0) :
    Fr0 c r s0 (State.dropHead p0) := by
  unfold State.dropHead
  refine State.modAdm_fr (su rfl hc) (su rfl hr) ?_
  exact h0

theorem State.refusalStatus_fr {c r : Nat} {s0 : State} {p0} {p1} (hc : c ||| 0 = c) (hr : r ||| 196612 = r) (h0 : Fr0 c r s0 p0) :
    Fr0 c r s0 (State.refusalStatus p0 p1) := by
  unfold State.refusalStatus
  refine fr0_ite (fun _ => ?_) (fun _ => ?_)
  ·
    refine State.put_fr (su rfl hc) (su rfl hr) ?_ ?_
    ·
      exact h0
    ·
      exact O.hifLastStatus_ok (su rfl hr)
  ·
    refine fr0_ite (fun _ => ?_) (fun _ => ?_)
    ·
      refine State.put_fr (su rfl hc) (su rfl hr) ?_ ?_
      ·
        exact h0
      ·
        exact O.scanLastStatus_ok (su rfl hr)
    ·
      refine fr0_ite (fun _ => ?_) (fun _ => ?_)
      ·
        refine State.put_fr (su rfl hc) (su rfl hr) ?_ ?_
        ·
          exact h0
        ·
          exact O.pwrLastStatus_ok (su rfl hr)
      ·
        exact h0

theorem State.refuseHead_fr {c r : Nat} {s0 : State} {p0} {p1} {p2} (hc : c ||| 18253640192 = c) (hr : r ||| 262143 = r) (h0 : Fr0 c r s0 p0) :
    Fr0 c r s0 (State.refuseHead p0 p1 p2) := by
  unfold State.refuseHead
  refine State.refuseFrame_fr (su rfl hc) (su rfl hr) ?_
  refine State.dropHead_fr (su rfl hc) (su rfl hr) ?_
  refine State.refusalStatus_fr (su rfl hc) (su rfl hr) ?_
  exact h0

theorem cmdAdmTakeFrame_fr {c r : Nat} {s0 : State} {p0} (hc : c ||| 18253640192 = c) (hr : r ||| 262143 = r) (h0 : Fr0 c r s0 p0) :
    Fr0 c r s0 (cmdAdmTakeFrame p0) := by
  unfold cmdAdmTakeFrame
  split
  ·
    refine fr0_ite (fun _ => ?_) (fun _ => ?_)
    ·
      exact h0
    ·
      refine fr0_ite (fun _ => ?_) (fun _ => ?_)
      ·
        refine State.refuseHead_fr (su rfl hc) (su rfl hr) ?_
        exact h0
      ·
        refine fr0_ite (fun _ => ?_) (fun _ => ?_)
        ·
          refine State.refuseHead_fr (su rfl hc) (su rfl hr) ?_
          exact h0
        ·
          split
          ·
            refine State.refuseFrame_fr (su rfl hc) (su rfl hr) ?_
            refine State.dropHead_fr (su rfl hc) (su rfl hr) ?_
            exact h0
          ·
            refine State.modAdm_fr (su rfl hc) (su rfl hr) ?_
            exact h0
  ·
    exact h0

theorem execAdmTakeFrame_fr {c r : Nat} {s0 t : State} {p0} (hc : c ||| 18253640192 = c) (hr : r ||| 262143 = r) (h0 : Fr0 c r s0 p0) (ht : execAdmTakeFrame p0 = .next t) :
    Fr0 c r s0 t := by
  unfold execAdmTakeFrame at ht
  injection ht with ht
  subst ht
  refine State.ifLive_fr (su rfl hc) (su rfl hr) ?_ ?_
  ·
    exact h0
  ·
    intro u0 hu1
    refine cmdAdmTakeFrame_fr (su rfl hc) (su rfl hr) ?_
    exact hu1

theorem State.reach_fr {c r : Nat} {s0 : State} {p0} {p1} (hc : c ||| 8 = c) (hr : r ||| 0 = r) (h0 : Fr0 c r s0 p0) :
    Fr0 c r s0 (State.reach p0 p1) := by
  unfold State.reach
  refine fr0_ite (fun _ => ?_) (fun _ => ?_)
  ·
    refine fr_clk (su rfl hc) ?_
    exact h0
  ·
    exact h0

theorem State.modTim_fr {c r : Nat} {s0 : State} {p0} {p1} (hc : c ||| 8388608 = c) (hr : r ||| 0 = r) (h0 : Fr0 c r s0 p0) :
    Fr0 c r s0 (State.modTim p0 p1) := by
  unfold State.modTim
  refine fr_tim (su rfl hc) ?_
  exact h0

theorem State.modPtp_fr {c r : Nat} {s0 : State} {p0} {p1} {p2} (hc : c ||| 8388608 = c) (hr : r ||| 0 = r) (h0 : Fr0 c r s0 p0) :
    Fr0 c r s0 (State.modPtp p0 p1 p2) := by
  unfold State.modPtp
  refine State.modTim_fr (su rfl hc) (su rfl hr) ?_
  exact h0

theorem State.takeUtc_fr {c r : Nat} {s0 : State} {p0} {p1} (hc : c ||| 0 = c) (hr : r ||| 786432 = r) (h0 : Fr0 c r s0 p0) :
    Fr0 c r s0 (State.takeUtc p0 p1) := by
  unfold State.takeUtc
  split
  ·
    exact h0
  ·
    extract_lets +onlyGivenNames -merge -useContext -underBinder x0
    have hx1 : Fr0 c r s0 x0 := by
      refine State.put_fr (su rfl hc) (su rfl hr) ?_ ?_
      ·
        exact h0
      ·
        exact O.timeLeapFlags_ok (su rfl hr)
    try clear_value x0
    refine fr0_ite (fun _ => ?_) (fun _ => ?_)
    ·
      refine State.put_fr (su rfl hc) (su rfl hr) ?_ ?_
      ·
        exact hx1
      ·
        exact O.timeUtcOffset_ok (su rfl hr)
    ·
      exact hx1

theorem State.postWith_fr {c r : Nat} {s0 : State} {p0} {p1} {p2} {p3} (hc : c ||| 22548578304 = c) (hr : r ||| 7340032 = r) (h0 : Fr0 c r s0 p0) :
    Fr0 c r s0 (State.postWith p0 p1 p2 p3) := by
  unfold State.postWith
  extract_lets +onlyGivenNames -merge -useContext -underBinder x0
  try clear_value x0
  extract_lets +onlyGivenNames -merge -useContext -underBinder x1
  try clear_value x1
  extract_lets +onlyGivenNames -merge -useContext -underBinder x2
  try clear_value x2
  extract_lets +onlyGivenNames -merge -useContext -underBinder x3
  have hx4 : Fr0 c r s0 x3 := by
    refine fr0_ite (fun _ => ?_) (fun _ => ?_)
    ·
      refine State.bump_fr (su rfl hc) (su rfl hr) ?_ ?_
      ·
        refine fr_log (su rfl hc) ?_
        exact h0
      ·
        exact O.logLostCount_ok (su rfl hr)
    ·
      refine fr_log (su rfl hc) ?_
      exact h0
  try clear_value x3
  refine fr0_ite (fun _ => ?_) (fun _ => ?_)
  ·
    refine State.irq_fr (su rfl hc) (su rfl hr) ?_
    refine State.put_fr (su rfl hc) (su rfl hr) ?_ ?_
    ·
      refine State.bump_fr (su rfl hc) (su rfl hr) ?_ ?_
      ·
        exact hx4
      ·
        exact O.faultTotalCount_ok (su rfl hr)
    ·
      exact O.faultLastCode_ok (su rfl hr)
  ·
    exact hx4

theorem State.post_fr {c r : Nat} {s0 : State} {p0} {p1} {p2} (hc : c ||| 22548578304 = c) (hr : r ||| 7340032 = r) (h0 : Fr0 c r s0 p0) :
    Fr0 c r s0 (State.post p0 p1 p2) := by
  unfold State.post
  refine State.postWith_fr (su rfl hc) (su rfl hr) ?_
  exact h0

theorem State.aim_fr {c r : Nat} {s0 : State} {p0} {p1} {p2} (hc : c ||| 8388608 = c) (hr : r ||| 0 = r) (h0 : Fr0 c r s0 p0) :
    Fr0 c r s0 (State.aim p0 p1 p2) := by
  unfold State.aim
  refine State.modTim_fr (su rfl hc) (su rfl hr) ?_
  exact h0

theorem State.firstStep_fr {c r : Nat} {s0 : State} {p0} {p1} (hc : c ||| 8388608 = c) (hr : r ||| 0 = r) (h0 : Fr0 c r s0 p0) :
    Fr0 c r s0 (State.firstStep p0 p1) := by
  unfold State.firstStep
  refine fr0_ite (fun _ => ?_) (fun _ => ?_)
  ·
    exact h0
  ·
    extract_lets +onlyGivenNames -merge -useContext -underBinder x0
    try clear_value x0
    extract_lets +onlyGivenNames -merge -useContext -underBinder x1
    have hx2 : Fr0 c r s0 x1 := by
      refine State.modTim_fr (su rfl hc) (su rfl hr) ?_
      exact h0
    try clear_value x1
    refine fr0_ite (fun _ => ?_) (fun _ => ?_)
    ·
      refine State.modTim_fr (su rfl hc) (su rfl hr) ?_
      exact hx2
    ·
      exact hx2

theorem State.reselect_fr {c r : Nat} {s0 : State} {p0} {p1} (hc : c ||| 22556966912 = c) (hr : r ||| 33292288 = r) (h0 : Fr0 c r s0 p0) :
    Fr0 c r s0 (State.reselect p0 p1) := by
  unfold State.reselect
  extract_lets +onlyGivenNames -merge -useContext -underBinder x0
  try clear_value x0
  refine fr0_ite (fun _ => ?_) (fun _ => ?_)
  ·
    exact h0
  ·
    extract_lets +onlyGivenNames -merge -useContext -underBinder x1
    have hx2 : Fr0 c r s0 x1 := by
      refine State.modTim_fr (su rfl hc) (su rfl hr) ?_
      refine State.post_fr (su rfl hc) (su rfl hr) ?_
      refine State.put_fr (su rfl hc) (su rfl hr) ?_ ?_
      ·
        exact h0
      ·
        exact O.timeSelectedDomain_ok (su rfl hr)
    try clear_value x1
    split
    ·
      refine State.post_fr (su rfl hc) (su rfl hr) ?_
      refine State.modTim_fr (su rfl hc) (su rfl hr) ?_
      refine State.put_fr (su rfl hc) (su rfl hr) ?_ ?_
      ·
        exact hx2
      ·
        exact O.timeState_ok (su rfl hr)
    ·
      refine State.aim_fr (su rfl hc) (su rfl hr) ?_
      refine State.takeUtc_fr (su rfl hc) (su rfl hr) ?_
      refine State.firstStep_fr (su rfl hc) (su rfl hr) ?_
      refine State.put_fr (su rfl hc) (su rfl hr) ?_ ?_
      ·
        exact hx2
      ·
        exact O.timeState_ok (su rfl hr)

theorem State.putO_fr {c r : Nat} {s0 : State} {p0} {p1} {p2} (hc : c ||| 0 = c) (hr : r ||| 0 = r) (h0 : Fr0 c r s0 p0) (ho1 : Ok c r p1) :
    Fr0 c r s0 (State.putO p0 p1 p2) := by
  unfold State.putO
  refine State.putV_fr (su rfl hc) (su rfl hr) ?_ ?_
  ·
    exact h0
  ·
    exact ho1

theorem State.takeMaster_fr {c r : Nat} {s0 : State} {p0} {p1} {p2} (hc : c ||| 22556966912 = c) (hr : r ||| 268173312 = r) (h0 : Fr0 c r s0 p0) :
    Fr0 c r s0 (State.takeMaster p0 p1 p2) := by
  unfold State.takeMaster
  extract_lets +onlyGivenNames -merge -useContext -underBinder x0
  have hx1 : Fr0 c r s0 x0 := by
    refine State.modPtp_fr (su rfl hc) (su rfl hr) ?_
    exact h0
  try clear_value x0
  refine State.reselect_fr (su rfl hc) (su rfl hr) ?_
  refine State.putO_fr (su rfl hc) (su rfl hr) ?_ ?_
  ·
    refine State.putO_fr (su rfl hc) (su rfl hr) ?_ ?_
    ·
      refine State.put_fr (su rfl hc) (su rfl hr) ?_ ?_
      ·
        exact hx1
      ·
        exact O.ptpState_ok (su rfl hr)
    ·
      exact O.ptpMasterPort_ok (su rfl hr)
  ·
    exact O.ptpGmIdentity_ok (su rfl hr)

theorem cmdAnnounceRx_fr {c r : Nat} {s0 : State} {p0} {p1} {p2} (hc : c ||| 22556966920 = c) (hr : r ||| 268173312 = r) (h0 : Fr0 c r s0 p0) :
    Fr0 c r s0 (cmdAnnounceRx p0 p1 p2) := by
  unfold cmdAnnounceRx
  refine fr0_ite (fun _ => ?_) (fun _ => ?_)
  ·
    exact h0
  ·
    extract_lets +onlyGivenNames -merge -useContext -underBinder x0
    have hx1 : Fr0 c r s0 x0 := by
      refine State.reach_fr (su rfl hc) (su rfl hr) ?_
      exact h0
    try clear_value x0
    extract_lets +onlyGivenNames -merge -useContext -underBinder x2
    try clear_value x2
    extract_lets +onlyGivenNames -merge -useContext -underBinder x3
    try clear_value x3
    extract_lets +onlyGivenNames -merge -useContext -underBinder x4
    try clear_value x4
    extract_lets +onlyGivenNames -merge -useContext -underBinder x5
    have hx6 : Fr0 c r s0 x5 := by
      refine State.modPtp_fr (su rfl hc) (su rfl hr) ?_
      exact hx1
    try clear_value x5
    extract_lets +onlyGivenNames -merge -useContext -underBinder x7
    try clear_value x7
    split
    ·
      exact hx6
    ·
      extract_lets +onlyGivenNames -merge -useContext -underBinder x8
      try clear_value x8
      refine fr0_ite (fun _ => ?_) (fun _ => ?_)
      ·
        refine fr0_ite (fun _ => ?_) (fun _ => ?_)
        ·
          extract_lets +onlyGivenNames -merge -useContext -underBinder x9
          have hx10 : Fr0 c r s0 x9 := by
            refine State.modPtp_fr (su rfl hc) (su rfl hr) ?_
            exact hx6
          try clear_value x9
          refine fr0_ite (fun _ => ?_) (fun _ => ?_)
          ·
            refine State.takeUtc_fr (su rfl hc) (su rfl hr) ?_
            exact hx10
          ·
            exact hx10
        ·
          exact hx6
      ·
        refine State.takeMaster_fr (su rfl hc) (su rfl hr) ?_
        exact hx6

theorem execAnnounceRx_fr {c r : Nat} {s0 t : State} {p0} {p1} {p2} (hc : c ||| 22556966920 = c) (hr : r ||| 268173312 = r) (h2 : Fr0 c r s0 p2) (ht : execAnnounceRx p0 p1 p2 = .next t) :
    Fr0 c r s0 t := by
  unfold execAnnounceRx at ht
  injection ht with ht
  subst ht
  refine State.ifLive_fr (su rfl hc) (su rfl hr) ?_ ?_
  ·
    exact h2
  ·
    intro u0 hu1
    refine cmdAnnounceRx_fr (su rfl hc) (su rfl hr) ?_
    exact hu1

theorem State.modHif_fr {c r : Nat} {s0 : State} {p0} {p1} (hc : c ||| 1073741824 = c) (hr : r ||| 0 = r) (h0 : Fr0 c r s0 p0) :
    Fr0 c r s0 (State.modHif p0 p1) := by
  unfold State.modHif
  refine fr_hif (su rfl hc) ?_
  exact h0

theorem cmdApertureBaseWrite_fr {c r : Nat} {s0 : State} {p0} {p1} (hc : c ||| 1073741824 = c) (hr : r ||| 0 = r) (h0 : Fr0 c r s0 p0) :
    Fr0 c r s0 (cmdApertureBaseWrite p0 p1) := by
  unfold cmdApertureBaseWrite
  refine State.modHif_fr (su rfl hc) (su rfl hr) ?_
  exact h0

theorem execApertureBaseWrite_fr {c r : Nat} {s0 t : State} {p0} {p1} (hc : c ||| 1073741824 = c) (hr : r ||| 0 = r) (h1 : Fr0 c r s0 p1) (ht : execApertureBaseWrite p0 p1 = .next t) :
    Fr0 c r s0 t := by
  unfold execApertureBaseWrite at ht
  injection ht with ht
  subst ht
  refine State.ifLive_fr (su rfl hc) (su rfl hr) ?_ ?_
  ·
    exact h1
  ·
    intro u0 hu1
    refine cmdApertureBaseWrite_fr (su rfl hc) (su rfl hr) ?_
    exact hu1

theorem State.drawFree_fr {c r : Nat} {s0 : State} {p0} (hc : c ||| 68719476736 = c) (hr : r ||| 0 = r) (h0 : Fr0 c r s0 p0) :
    Fr0 c r s0 (State.drawFree p0) := by
  unfold State.drawFree
  refine fr_free (su rfl hc) ?_
  exact h0

theorem apertureRefused_fr {c r : Nat} {s0 : State} {p0} {p1} (hc : c ||| 0 = c) (hr : r ||| 805306368 = r) (h0 : Fr0 c r s0 p0) :
    Fr0 c r s0 (apertureRefused p0 p1) := by
  unfold apertureRefused
  refine fr0_ite (fun _ => ?_) (fun _ => ?_)
  ·
    exact h0
  ·
    refine State.put_fr (su rfl hc) (su rfl hr) ?_ ?_
    ·
      refine State.bumpBy_fr (su rfl hc) (su rfl hr) ?_ ?_
      ·
        exact h0
      ·
        exact O.memApertureRefusedCount_ok (su rfl hr)
    ·
      exact O.memLastStatus_ok (su rfl hr)

theorem State.memRequest_fr {c r : Nat} {s0 : State} {p0} (hc : c ||| 16777216 = c) (hr : r ||| 0 = r) (h0 : Fr0 c r s0 p0) :
    Fr0 c r s0 (State.memRequest p0) := by
  unfold State.memRequest
  extract_lets +onlyGivenNames -merge -useContext -underBinder x0
  try clear_value x0
  refine fr_mem (su rfl hc) ?_
  exact h0

theorem State.eccCorrected_fr {c r : Nat} {s0 : State} {p0} {p1} (hc : c ||| 16777216 = c) (hr : r ||| 1073741824 = r) (h0 : Fr0 c r s0 p0) :
    Fr0 c r s0 (State.eccCorrected p0 p1) := by
  unfold State.eccCorrected
  refine fr0_foldl (fun ha0s _ ha0 => ?_) ?_
  ·
    refine fr0_ite (fun _ => ?_) (fun _ => ?_)
    ·
      refine State.memRequest_fr (su rfl hc) (su rfl hr) ?_
      refine State.bump_fr (su rfl hc) (su rfl hr) ?_ ?_
      ·
        exact ha0
      ·
        exact O.memEccCorrected_ok (su rfl hr)
    ·
      exact ha0
  ·
    exact h0

theorem State.eccUncorrectable_fr {c r : Nat} {s0 : State} {p0} {p1} {p2} {p3} (hc : c ||| 22548578304 = c) (hr : r ||| 15576596480 = r) (h0 : Fr0 c r s0 p0) :
    Fr0 c r s0 (State.eccUncorrectable p0 p1 p2 p3) := by
  unfold State.eccUncorrectable
  extract_lets +onlyGivenNames -merge -useContext -underBinder x0
  have hx1 : Fr0 c r s0 x0 := by
    refine State.bump_fr (su rfl hc) (su rfl hr) ?_ ?_
    ·
      refine State.put_fr (su rfl hc) (su rfl hr) ?_ ?_
      ·
        refine State.put_fr (su rfl hc) (su rfl hr) ?_ ?_
        ·
          refine State.put_fr (su rfl hc) (su rfl hr) ?_ ?_
          ·
            exact h0
          ·
            exact O.memLastUeAddr_ok (su rfl hr)
        ·
          exact O.memLastUeClass_ok (su rfl hr)
      ·
        exact O.memLastStatus_ok (su rfl hr)
    ·
      exact O.memEccUncorrectable_ok (su rfl hr)
  try clear_value x0
  refine State.postWith_fr (su rfl hc) (su rfl hr) ?_
  exact hx1

theorem State.eccAll_fr {c r : Nat} {s0 : State} {p0} {p1} {p2} (hc : c ||| 22548578304 = c) (hr : r ||| 15576596480 = r) (h0 : Fr0 c r s0 p0) :
    Fr0 c r s0 (State.eccAll p0 p1 p2) := by
  unfold State.eccAll
  refine fr0_foldl (fun ha0s _ ha0 => ?_) ?_
  ·
    refine State.eccUncorrectable_fr (su rfl hc) (su rfl hr) ?_
    exact ha0
  ·
    exact h0

theorem cmdApertureRead_fr {c r : Nat} {s0 : State} {p0} {p1} {p2} {p3} {p4} (hc : c ||| 91284832256 = c) (hr : r ||| 16918773760 = r) (h0 : Fr0 c r s0 p0) :
    Fr0 c r s0 (cmdApertureRead p0 p1 p2 p3 p4) := by
  unfold cmdApertureRead
  extract_lets +onlyGivenNames -merge -useContext -underBinder x0
  extract_lets +onlyGivenNames -merge -useContext -underBinder x1
  try clear_value x1
  extract_lets +onlyGivenNames -merge -useContext -underBinder x2
  try clear_value x2
  extract_lets +onlyGivenNames -merge -useContext -underBinder x3
  try clear_value x3
  extract_lets +onlyGivenNames -merge -useContext -underBinder x4
  try clear_value x4
  extract_lets +onlyGivenNames -merge -useContext -underBinder x5
  have hx6 : Fr0 c r s0 x5 := by
    refine State.drawFree_fr (su rfl hc) (su rfl hr) ?_
    refine apertureRefused_fr (su rfl hc) (su rfl hr) ?_
    exact h0
  try clear_value x5
  extract_lets +onlyGivenNames -merge -useContext -underBinder x7
  have hx8 : Fr0 c r s0 x7 := by
    refine State.memRequest_fr (su rfl hc) (su rfl hr) ?_
    refine State.eccCorrected_fr (su rfl hc) (su rfl hr) ?_
    refine State.eccAll_fr (su rfl hc) (su rfl hr) ?_
    exact hx6
  try clear_value x7
  refine State.emit_fr (su rfl hc) (su rfl hr) ?_
  exact hx8

theorem execApertureRead_fr {c r : Nat} {s0 t : State} {p0} {p1} {p2} {p3} {p4} (hc : c ||| 91284832256 = c) (hr : r ||| 16918773760 = r) (h3 : Fr0 c r s0 p3) (ht : execApertureRead p0 p1 p2 p3 p4 = .next t) :
    Fr0 c r s0 t := by
  unfold execApertureRead at ht
  injection ht with ht
  subst ht
  refine State.ifLive_fr (su rfl hc) (su rfl hr) ?_ ?_
  ·
    exact h3
  ·
    intro u0 hu1
    refine cmdApertureRead_fr (su rfl hc) (su rfl hr) ?_
    exact hu1

theorem State.hbmWrite_fr {c r : Nat} {s0 : State} {p0} {p1} {p2} (hc : c ||| 16778240 = c) (hr : r ||| 0 = r) (h0 : Fr0 c r s0 p0) :
    Fr0 c r s0 (State.hbmWrite p0 p1 p2) := by
  unfold State.hbmWrite
  refine State.memRequest_fr (su rfl hc) (su rfl hr) ?_
  refine fr_hbm (su rfl hc) ?_
  exact h0

theorem cmdApertureWrite_fr {c r : Nat} {s0 : State} {p0} {p1} {p2} (hc : c ||| 16778240 = c) (hr : r ||| 805306368 = r) (h0 : Fr0 c r s0 p0) :
    Fr0 c r s0 (cmdApertureWrite p0 p1 p2) := by
  unfold cmdApertureWrite
  extract_lets +onlyGivenNames -merge -useContext -underBinder x0
  extract_lets +onlyGivenNames -merge -useContext -underBinder x1
  try clear_value x1
  extract_lets +onlyGivenNames -merge -useContext -underBinder x2
  have hx3 : Fr0 c r s0 x2 := by
    refine fr0_foldl (fun ha4s _ ha4 => ?_) ?_
    ·
      refine fr0_ite (fun _ => ?_) (fun _ => ?_)
      ·
        extract_lets +onlyGivenNames -merge -useContext -underBinder x5
        extract_lets +onlyGivenNames -merge -useContext -underBinder x6
        refine State.hbmWrite_fr (su rfl hc) (su rfl hr) ?_
        exact ha4
      ·
        exact ha4
    ·
      exact h0
  try clear_value x2
  refine apertureRefused_fr (su rfl hc) (su rfl hr) ?_
  exact hx3

theorem execApertureWrite_fr {c r : Nat} {s0 t : State} {p0} {p1} {p2} (hc : c ||| 16778240 = c) (hr : r ||| 805306368 = r) (h2 : Fr0 c r s0 p2) (ht : execApertureWrite p0 p1 p2 = .next t) :
    Fr0 c r s0 t := by
  unfold execApertureWrite at ht
  injection ht with ht
  subst ht
  refine State.ifLive_fr (su rfl hc) (su rfl hr) ?_ ?_
  ·
    exact h2
  ·
    intro u0 hu1
    refine cmdApertureWrite_fr (su rfl hc) (su rfl hr) ?_
    exact hu1

theorem State.note_fr {c r : Nat} {s0 : State} {p0} {p1} {p2} {p3} (hc : c ||| 22548578304 = c) (hr : r ||| 7340032 = r) (h0 : Fr0 c r s0 p0) (ho1 : Ok c r p1) :
    Fr0 c r s0 (State.note p0 p1 p2 p3) := by
  unfold State.note
  refine State.post_fr (su rfl hc) (su rfl hr) ?_
  refine State.put_fr (su rfl hc) (su rfl hr) ?_ ?_
  ·
    exact h0
  ·
    exact ho1

theorem State.modDict_fr {c r : Nat} {s0 : State} {p0} {p1} (hc : c ||| 2147483648 = c) (hr : r ||| 0 = r) (h0 : Fr0 c r s0 p0) :
    Fr0 c r s0 (State.modDict p0 p1) := by
  unfold State.modDict
  refine fr_dict (su rfl hc) ?_
  exact h0

theorem State.authFail_fr {c r : Nat} {s0 : State} {p0} (hc : c ||| 24696061952 = c) (hr : r ||| 103086555136 = r) (h0 : Fr0 c r s0 p0) :
    Fr0 c r s0 (State.authFail p0) := by
  unfold State.authFail
  extract_lets +onlyGivenNames -merge -useContext -underBinder x0
  have hx1 : Fr0 c r s0 x0 := by
    refine State.bump_fr (su rfl hc) (su rfl hr) ?_ ?_
    ·
      exact h0
    ·
      exact O.vipexAuthFailCount_ok (su rfl hr)
  try clear_value x0
  extract_lets +onlyGivenNames -merge -useContext -underBinder x2
  try clear_value x2
  refine fr0_ite (fun _ => ?_) (fun _ => ?_)
  ·
    refine State.note_fr (su rfl hc) (su rfl hr) ?_ ?_
    ·
      refine State.modDict_fr (su rfl hc) (su rfl hr) ?_
      exact hx1
    ·
      exact O.dictLastStatus_ok (su rfl hr)
  ·
    exact hx1

theorem State.turnAway_fr {c r : Nat} {s0 : State} {p0} {p1} (hc : c ||| 24696061952 = c) (hr : r ||| 120266424320 = r) (h0 : Fr0 c r s0 p0) :
    Fr0 c r s0 (State.turnAway p0 p1) := by
  unfold State.turnAway
  refine fr0_ite (fun _ => ?_) (fun _ => ?_)
  ·
    refine State.bump_fr (su rfl hc) (su rfl hr) ?_ ?_
    ·
      exact h0
    ·
      exact O.dictIgnoredCount_ok (su rfl hr)
  ·
    refine State.authFail_fr (su rfl hc) (su rfl hr) ?_
    exact h0

theorem State.recent_fr {c r : Nat} {s0 : State} {p0} {p1} (hc : c ||| 48 = c) (hr : r ||| 137438953472 = r) (h0 : Fr0 c r s0 p0) :
    Fr0 c r s0 (State.recent p0 p1) := by
  unfold State.recent
  split
  ·
    refine State.put_fr (su rfl hc) (su rfl hr) ?_ ?_
    ·
      exact h0
    ·
      exact ok_all (su rfl hc) (su rfl hr)
  ·
    exact h0

theorem State.setNode_fr {c r : Nat} {s0 : State} {p0} {p1} (hc : c ||| 2147483648 = c) (hr : r ||| 0 = r) (h0 : Fr0 c r s0 p0) :
    Fr0 c r s0 (State.setNode p0 p1) := by
  unfold State.setNode
  refine State.modDict_fr (su rfl hc) (su rfl hr) ?_
  exact h0

theorem State.modNet_fr {c r : Nat} {s0 : State} {p0} {p1} {p2} (hc : c ||| 8388608 = c) (hr : r ||| 0 = r) (h0 : Fr0 c r s0 p0) :
    Fr0 c r s0 (State.modNet p0 p1 p2) := by
  unfold State.modNet
  refine State.modTim_fr (su rfl hc) (su rfl hr) ?_
  exact h0

theorem State.queueTx_fr {c r : Nat} {s0 : State} {p0} {p1} {p2} {p3} {p4} {p5} {p6} (hc : c ||| 8388608 = c) (hr : r ||| 0 = r) (h0 : Fr0 c r s0 p0) :
    Fr0 c r s0 (State.queueTx p0 p1 p2 p3 p4 p5 p6) := by
  unfold State.queueTx
  extract_lets +onlyGivenNames -merge -useContext -underBinder x0
  try clear_value x0
  extract_lets +onlyGivenNames -merge -useContext -underBinder x1
  try clear_value x1
  extract_lets +onlyGivenNames -merge -useContext -underBinder x2
  try clear_value x2
  refine State.modNet_fr (su rfl hc) (su rfl hr) ?_
  exact h0

theorem State.sendVipex_fr {c r : Nat} {s0 : State} {p0} {p1} {p2} {p3} {p4} {p5} {p6} {p7} (hc : c ||| 2155872256 = c) (hr : r ||| 549755813888 = r) (h0 : Fr0 c r s0 p0) :
    Fr0 c r s0 (State.sendVipex p0 p1 p2 p3 p4 p5 p6 p7) := by
  unfold State.sendVipex
  extract_lets +onlyGivenNames -merge -useContext -underBinder x0
  extract_lets +onlyGivenNames -merge -useContext -underBinder x1
  try clear_value x1
  extract_lets +onlyGivenNames -merge -useContext -underBinder x2
  extract_lets +onlyGivenNames -merge -useContext -underBinder x3
  try clear_value x3
  extract_lets +onlyGivenNames -merge -useContext -underBinder x4
  try clear_value x4
  refine State.queueTx_fr (su rfl hc) (su rfl hr) ?_
  refine State.modDict_fr (su rfl hc) (su rfl hr) ?_
  refine State.put_fr (su rfl hc) (su rfl hr) ?_ ?_
  ·
    exact h0
  ·
    exact O.vipexAliveTx_ok (su rfl hr)

theorem State.replyVipex_fr {c r : Nat} {s0 : State} {p0} {p1} {p2} {p3} (hc : c ||| 2155872256 = c) (hr : r ||| 549755813888 = r) (h0 : Fr0 c r s0 p0) :
    Fr0 c r s0 (State.replyVipex p0 p1 p2 p3) := by
  unfold State.replyVipex
  refine State.sendVipex_fr (su rfl hc) (su rfl hr) ?_
  exact h0

theorem State.answerVipex_fr {c r : Nat} {s0 : State} {p0} {p1} {p2} (hc : c ||| 2155872256 = c) (hr : r ||| 549755813888 = r) (h0 : Fr0 c r s0 p0) :
    Fr0 c r s0 (State.answerVipex p0 p1 p2) := by
  unfold State.answerVipex
  extract_lets +onlyGivenNames -merge -useContext -underBinder x0
  have hx1 : Fr0 c r s0 x0 := by
    unfold x0
    split
    ·
      refine fr0_ite (fun _ => ?_) (fun _ => ?_)
      ·
        refine State.setNode_fr (su rfl hc) (su rfl hr) ?_
        exact h0
      ·
        exact h0
    ·
      exact h0
  try clear_value x0
  refine fr0_ite (fun _ => ?_) (fun _ => ?_)
  ·
    exact hx1
  ·
    refine State.replyVipex_fr (su rfl hc) (su rfl hr) ?_
    exact hx1

theorem State.answerWindow_fr {c r : Nat} {s0 : State} {p0} {p1} (hc : c ||| 20401094656 = c) (hr : r ||| 0 = r) (h0 : Fr0 c r s0 p0) :
    Fr0 c r s0 (State.answerWindow p0 p1) := by
  unfold State.answerWindow
  extract_lets +onlyGivenNames -merge -useContext -underBinder x0
  try clear_value x0
  refine State.irq_fr (su rfl hc) (su rfl hr) ?_
  refine State.modDict_fr (su rfl hc) (su rfl hr) ?_
  exact h0

theorem State.answer_fr {c r : Nat} {s0 : State} {p0} {p1} {p2} (hc : c ||| 24704450608 = c) (hr : r ||| 962080014336 = r) (h0 : Fr0 c r s0 p0) :
    Fr0 c r s0 (State.answer p0 p1 p2) := by
  unfold State.answer
  extract_lets +onlyGivenNames -merge -useContext -underBinder x0
  have hx1 : Fr0 c r s0 x0 := by
    refine State.recent_fr (su rfl hc) (su rfl hr) ?_
    exact h0
  try clear_value x0
  extract_lets +onlyGivenNames -merge -useContext -underBinder x2
  have hx3 : Fr0 c r s0 x2 := by
    refine fr0_ite (fun _ => ?_) (fun _ => ?_)
    ·
      refine State.bump_fr (su rfl hc) (su rfl hr) ?_ ?_
      ·
        exact hx1
      ·
        exact O.dictBusyCount_ok (su rfl hr)
    ·
      exact hx1
  try clear_value x2
  split
  ·
    refine fr0_ite (fun _ => ?_) (fun _ => ?_)
    ·
      exact hx3
    ·
      refine State.post_fr (su rfl hc) (su rfl hr) ?_
      exact hx3
  ·
    split
    ·
      refine State.answerVipex_fr (su rfl hc) (su rfl hr) ?_
      exact hx3
    ·
      refine fr0_ite (fun _ => ?_) (fun _ => ?_)
      ·
        refine State.answerWindow_fr (su rfl hc) (su rfl hr) ?_
        exact hx3
      ·
        refine State.emit_fr (su rfl hc) (su rfl hr) ?_
        exact hx3

theorem State.dropAsk_fr {c r : Nat} {s0 : State} {p0} {p1} {p2} (hc : c ||| 24704450608 = c) (hr : r ||| 962080014336 = r) (h0 : Fr0 c r s0 p0) :
    Fr0 c r s0 (State.dropAsk p0 p1 p2) := by
  unfold State.dropAsk
  refine fr0_ite (fun _ => ?_) (fun _ => ?_)
  ·
    exact h0
  ·
    refine State.answer_fr (su rfl hc) (su rfl hr) ?_
    exact h0

theorem State.audFlag_fr {c r : Nat} {s0 : State} {p0} {p1} {p2} {p3} (hc : c ||| 0 = c) (hr : r ||| 2199023255552 = r) (h0 : Fr0 c r s0 p0) :
    Fr0 c r s0 (State.audFlag p0 p1 p2 p3) := by
  unfold State.audFlag
  extract_lets +onlyGivenNames -merge -useContext -underBinder x0
  refine fr0_ite (fun _ => ?_) (fun _ => ?_)
  ·
    exact h0
  ·
    refine State.put_fr (su rfl hc) (su rfl hr) ?_ ?_
    ·
      exact h0
    ·
      exact O.audPortFlags_ok (su rfl hr)

theorem State.afterRead_fr {c r : Nat} {s0 : State} {p0} {p1} (hc : c ||| 0 = c) (hr : r ||| 3298534883328 = r) (h0 : Fr0 c r s0 p0) :
    Fr0 c r s0 (State.afterRead p0 p1) := by
  unfold State.afterRead
  refine fr0_ite (fun _ => ?_) (fun _ => ?_)
  ·
    refine State.put_fr (su rfl hc) (su rfl hr) ?_ ?_
    ·
      exact h0
    ·
      exact O.memMinTolerance_ok (su rfl hr)
  ·
    refine fr0_ite (fun _ => ?_) (fun _ => ?_)
    ·
      refine State.audFlag_fr (su rfl hc) (su rfl hr) ?_
      exact h0
    ·
      exact h0

theorem State.requestSwap_fr {c r : Nat} {s0 : State} {p0} {p1} (hc : c ||| 24704450736 = c) (hr : r ||| 5360126525440 = r) (h0 : Fr0 c r s0 p0) :
    Fr0 c r s0 (State.requestSwap p0 p1) := by
  unfold State.requestSwap
  refine fr0_ite (fun _ => ?_) (fun _ => ?_)
  ·
    refine State.answer_fr (su rfl hc) (su rfl hr) ?_
    exact h0
  ·
    extract_lets +onlyGivenNames -merge -useContext -underBinder x0
    have hx1 : Fr0 c r s0 x0 := by
      refine State.put_fr (su rfl hc) (su rfl hr) ?_ ?_
      ·
        exact h0
      ·
        exact O.cfgSwapState_ok (su rfl hr)
    try clear_value x0
    refine fr_cfg (su rfl hc) ?_
    exact hx1

theorem State.holdWindow_fr {c r : Nat} {s0 : State} {p0} {p1} (hc : c ||| 2147483648 = c) (hr : r ||| 0 = r) (h0 : Fr0 c r s0 p0) :
    Fr0 c r s0 (State.holdWindow p0 p1) := by
  unfold State.holdWindow
  refine fr0_ite (fun _ => ?_) (fun _ => ?_)
  ·
    refine State.modDict_fr (su rfl hc) (su rfl hr) ?_
    exact h0
  ·
    exact h0

theorem State.waitCopy_fr {c r : Nat} {s0 : State} {p0} {p1} (hc : c ||| 2147483776 = c) (hr : r ||| 0 = r) (h0 : Fr0 c r s0 p0) :
    Fr0 c r s0 (State.waitCopy p0 p1) := by
  unfold State.waitCopy
  refine State.holdWindow_fr (su rfl hc) (su rfl hr) ?_
  refine fr_cfg (su rfl hc) ?_
  exact h0

theorem State.putB_fr {c r : Nat} {s0 : State} {p0} {p1} {p2} (hc : c ||| 0 = c) (hr : r ||| 0 = r) (h0 : Fr0 c r s0 p0) (ho1 : Ok c r p1) :
    Fr0 c r s0 (State.putB p0 p1 p2) := by
  unfold State.putB
  refine State.put_fr (su rfl hc) (su rfl hr) ?_ ?_
  ·
    exact h0
  ·
    exact ho1

theorem State.modSlot_fr {c r : Nat} {s0 : State} {p0} {p1} {p2} (hc : c ||| 524288 = c) (hr : r ||| 0 = r) (h0 : Fr0 c r s0 p0) :
    Fr0 c r s0 (State.modSlot p0 p1 p2) := by
  unfold State.modSlot
  refine fr_link (su rfl hc) ?_
  exact h0

theorem State.setSlotState_fr {c r : Nat} {s0 : State} {p0} {p1} {p2} (hc : c ||| 0 = c) (hr : r ||| 2251799813685248 = r) (h0 : Fr0 c r s0 p0) :
    Fr0 c r s0 (State.setSlotState p0 p1 p2) := by
  unfold State.setSlotState
  refine State.put_fr (su rfl hc) (su rfl hr) ?_ ?_
  ·
    exact h0
  ·
    exact O.linkSlotState_ok (su rfl hr)

theorem State.startDiscovery_fr {c r : Nat} {s0 : State} {p0} {p1} (hc : c ||| 524288 = c) (hr : r ||| 2251799813685248 = r) (h0 : Fr0 c r s0 p0) :
    Fr0 c r s0 (State.startDiscovery p0 p1) := by
  unfold State.startDiscovery
  refine State.modSlot_fr (su rfl hc) (su rfl hr) ?_
  refine State.setSlotState_fr (su rfl hc) (su rfl hr) ?_
  exact h0

theorem State.startSlots_fr {c r : Nat} {s0 : State} {p0} {p1} (hc : c ||| 524288 = c) (hr : r ||| 2251799813685248 = r) (h0 : Fr0 c r s0 p0) :
    Fr0 c r s0 (State.startSlots p0 p1) := by
  unfold State.startSlots
  refine fr0_foldl (fun ha0s _ ha0 => ?_) ?_
  ·
    extract_lets +onlyGivenNames -merge -useContext -underBinder x1
    refine fr0_ite (fun _ => ?_) (fun _ => ?_)
    ·
      refine State.startDiscovery_fr (su rfl hc) (su rfl hr) ?_
      exact ha0
    ·
      exact ha0
  ·
    exact h0

theorem State.powerIsl_fr {c r : Nat} {s0 : State} {p0} {p1} (hc : c ||| 512 = c) (hr : r ||| 0 = r) (h0 : Fr0 c r s0 p0) :
    Fr0 c r s0 (State.powerIsl p0 p1) := by
  unfold State.powerIsl
  refine State.modIsl_fr (su rfl hc) (su rfl hr) ?_
  exact h0

theorem State.powerAll_fr {c r : Nat} {s0 : State} {p0} {p1} (hc : c ||| 512 = c) (hr : r ||| 0 = r) (h0 : Fr0 c r s0 p0) :
    Fr0 c r s0 (State.powerAll p0 p1) := by
  unfold State.powerAll
  refine fr0_foldl (fun ha0s _ ha0 => ?_) ?_
  ·
    refine State.powerIsl_fr (su rfl hc) (su rfl hr) ?_
    exact ha0
  ·
    exact h0

theorem State.setHead_fr {c r : Nat} {s0 : State} {p0} {p1} {p2} (hc : c ||| 0 = c) (hr : r ||| 13510798882111488 = r) (h0 : Fr0 c r s0 p0) :
    Fr0 c r s0 (State.setHead p0 p1 p2) := by
  unfold State.setHead
  refine State.put_fr (su rfl hc) (su rfl hr) ?_ ?_
  ·
    exact h0
  ·
    refine ok_ite ?_ ?_
    ·
      exact O.headAState_ok (su rfl hr)
    ·
      exact O.headBState_ok (su rfl hr)

theorem State.headStarting_fr {c r : Nat} {s0 : State} {p0} {p1} (hc : c ||| 524800 = c) (hr : r ||| 15762598695796736 = r) (h0 : Fr0 c r s0 p0) :
    Fr0 c r s0 (State.headStarting p0 p1) := by
  unfold State.headStarting
  refine State.startSlots_fr (su rfl hc) (su rfl hr) ?_
  refine State.powerAll_fr (su rfl hc) (su rfl hr) ?_
  refine State.setHead_fr (su rfl hc) (su rfl hr) ?_
  exact h0

theorem State.regateStream_fr {c r : Nat} {s0 : State} {p0} (hc : c ||| 512 = c) (hr : r ||| 0 = r) (h0 : Fr0 c r s0 p0) :
    Fr0 c r s0 (State.regateStream p0) := by
  unfold State.regateStream
  refine fr0_ite (fun _ => ?_) (fun _ => ?_)
  ·
    refine State.gateIsl_fr (su rfl hc) (su rfl hr) ?_
    refine State.gateIsl_fr (su rfl hc) (su rfl hr) ?_
    exact h0
  ·
    refine State.powerIsl_fr (su rfl hc) (su rfl hr) ?_
    refine State.powerIsl_fr (su rfl hc) (su rfl hr) ?_
    exact h0

theorem State.modRasp_fr {c r : Nat} {s0 : State} {p0} {p1} (hc : c ||| 2097152 = c) (hr : r ||| 0 = r) (h0 : Fr0 c r s0 p0) :
    Fr0 c r s0 (State.modRasp p0 p1) := by
  unfold State.modRasp
  refine fr_rasp (su rfl hc) ?_
  exact h0

theorem State.overlayStarting_fr {c r : Nat} {s0 : State} {p0} (hc : c ||| 2113536 = c) (hr : r ||| 0 = r) (h0 : Fr0 c r s0 p0) :
    Fr0 c r s0 (State.overlayStarting p0) := by
  unfold State.overlayStarting
  extract_lets +onlyGivenNames -merge -useContext -underBinder x0
  try clear_value x0
  extract_lets +onlyGivenNames -merge -useContext -underBinder x1
  have hx2 : Fr0 c r s0 x1 := by
    refine State.modRasp_fr (su rfl hc) (su rfl hr) ?_
    exact h0
  try clear_value x1
  refine State.modAdm_fr (su rfl hc) (su rfl hr) ?_
  exact hx2

theorem State.refreshCal_fr {c r : Nat} {s0 : State} {p0} (hc : c ||| 0 = c) (hr : r ||| 8646911284551352320 = r) (h0 : Fr0 c r s0 p0) :
    Fr0 c r s0 (State.refreshCal p0) := by
  unfold State.refreshCal
  extract_lets +onlyGivenNames -merge -useContext -underBinder x0
  have hx1 : Fr0 c r s0 x0 := by
    refine State.put_fr (su rfl hc) (su rfl hr) ?_ ?_
    ·
      refine State.put_fr (su rfl hc) (su rfl hr) ?_ ?_
      ·
        refine State.put_fr (su rfl hc) (su rfl hr) ?_ ?_
        ·
          exact h0
        ·
          exact O.calStatusFlags_ok (su rfl hr)
      ·
        exact O.calTempLatched_ok (su rfl hr)
    ·
      exact O.calRampStep_ok (su rfl hr)
  try clear_value x0
  split
  ·
    refine State.put_fr (su rfl hc) (su rfl hr) ?_ ?_
    ·
      exact hx1
    ·
      exact O.calTempMeasured_ok (su rfl hr)
  ·
    exact hx1

theorem State.modCap_fr {c r : Nat} {s0 : State} {p0} {p1} (hc : c ||| 32768 = c) (hr : r ||| 0 = r) (h0 : Fr0 c r s0 p0) :
    Fr0 c r s0 (State.modCap p0 p1) := by
  unfold State.modCap
  refine fr_cal (su rfl hc) ?_
  exact h0

theorem State.uncover_fr {c r : Nat} {s0 : State} {p0} (hc : c ||| 1064960 = c) (hr : r ||| 0 = r) (h0 : Fr0 c r s0 p0) :
    Fr0 c r s0 (State.uncover p0) := by
  unfold State.uncover
  extract_lets +onlyGivenNames -merge -useContext -underBinder x0
  try clear_value x0
  extract_lets +onlyGivenNames -merge -useContext -underBinder x1
  try clear_value x1
  refine fr_raw (u := p0) rfl (fun k hk => by cases k <;> first | rfl | exact bitx hc (by decide) hk) ?_
  exact h0

theorem State.suspend_fr {c r : Nat} {s0 : State} {p0} {p1} (hc : c ||| 22549643264 = c) (hr : r ||| 2066035336255477121024 = r) (h0 : Fr0 c r s0 p0) :
    Fr0 c r s0 (State.suspend p0 p1) := by
  unfold State.suspend
  refine fr0_ite (fun _ => ?_) (fun _ => ?_)
  ·
    exact h0
  ·
    refine State.uncover_fr (su rfl hc) (su rfl hr) ?_
    refine State.post_fr (su rfl hc) (su rfl hr) ?_
    refine State.bump_fr (su rfl hc) (su rfl hr) ?_ ?_
    ·
      refine State.put_fr (su rfl hc) (su rfl hr) ?_ ?_
      ·
        refine State.put_fr (su rfl hc) (su rfl hr) ?_ ?_
        ·
          exact h0
        ·
          exact O.admSuspendCauses_ok (su rfl hr)
      ·
        exact O.admPromiseState_ok (su rfl hr)
    ·
      exact O.admSuspendCount_ok (su rfl hr)

theorem State.resume_fr {c r : Nat} {s0 : State} {p0} {p1} (hc : c ||| 22548578304 = c) (hr : r ||| 885443715538065817600 = r) (h0 : Fr0 c r s0 p0) :
    Fr0 c r s0 (State.resume p0 p1) := by
  unfold State.resume
  refine fr0_ite (fun _ => ?_) (fun _ => ?_)
  ·
    extract_lets +onlyGivenNames -merge -useContext -underBinder x0
    extract_lets +onlyGivenNames -merge -useContext -underBinder x1
    have hx2 : Fr0 c r s0 x1 := by
      refine State.put_fr (su rfl hc) (su rfl hr) ?_ ?_
      ·
        exact h0
      ·
        exact O.admSuspendCauses_ok (su rfl hr)
    try clear_value x1
    refine fr0_ite (fun _ => ?_) (fun _ => ?_)
    ·
      refine State.post_fr (su rfl hc) (su rfl hr) ?_
      refine State.put_fr (su rfl hc) (su rfl hr) ?_ ?_
      ·
        exact hx2
      ·
        exact O.admPromiseState_ok (su rfl hr)
    ·
      exact hx2
  ·
    exact h0

theorem State.refreshFaults_fr {c r : Nat} {s0 : State} {p0} (hc : c ||| 22549643264 = c) (hr : r ||| 4685472994722233450496 = r) (h0 : Fr0 c r s0 p0) :
    Fr0 c r s0 (State.refreshFaults p0) := by
  unfold State.refreshFaults
  extract_lets +onlyGivenNames -merge -useContext -underBinder x0
  have hx1 : Fr0 c r s0 x0 := by
    refine State.put_fr (su rfl hc) (su rfl hr) ?_ ?_
    ·
      refine State.put_fr (su rfl hc) (su rfl hr) ?_ ?_
      ·
        refine State.put_fr (su rfl hc) (su rfl hr) ?_ ?_
        ·
          exact h0
        ·
          exact O.faultActive_ok (su rfl hr)
      ·
        exact O.faultDefeated_ok (su rfl hr)
    ·
      exact O.clockHeldMask_ok (su rfl hr)
  try clear_value x0
  extract_lets +onlyGivenNames -merge -useContext -underBinder x2
  have hx3 : Fr0 c r s0 x2 := by
    refine fr0_ite (fun _ => ?_) (fun _ => ?_)
    ·
      refine State.suspend_fr (su rfl hc) (su rfl hr) ?_
      exact hx1
    ·
      refine State.resume_fr (su rfl hc) (su rfl hr) ?_
      exact hx1
  try clear_value x2
  refine State.putB_fr (su rfl hc) (su rfl hr) ?_ ?_
  ·
    exact hx3
  ·
    exact O.faultNAsserted_ok (su rfl hr)

theorem State.settleIf_fr {c r : Nat} {s0 : State} {p0} {p1} {p2} (hc : c ||| 31139577856 = c) (hr : r ||| 4685472994722233450496 = r) (h0 : Fr0 c r s0 p0) :
    Fr0 c r s0 (State.settleIf p0 p1 p2) := by
  unfold State.settleIf
  refine fr0_ite (fun _ => ?_) (fun _ => ?_)
  ·
    refine State.refreshFaults_fr (su rfl hc) (su rfl hr) ?_
    refine fr_flt (su rfl hc) ?_
    exact h0
  ·
    exact h0

theorem State.settle_fr {c r : Nat} {s0 : State} {p0} {p1} {p2} (hc : c ||| 31139577856 = c) (hr : r ||| 4685472994722233450496 = r) (h0 : Fr0 c r s0 p0) :
    Fr0 c r s0 (State.settle p0 p1 p2) := by
  unfold State.settle
  refine State.settleIf_fr (su rfl hc) (su rfl hr) ?_
  exact h0

theorem State.modPwr_fr {c r : Nat} {s0 : State} {p0} {p1} (hc : c ||| 262144 = c) (hr : r ||| 0 = r) (h0 : Fr0 c r s0 p0) :
    Fr0 c r s0 (State.modPwr p0 p1) := by
  unfold State.modPwr
  refine fr_pwr (su rfl hc) ?_
  exact h0

theorem State.phase_fr {c r : Nat} {s0 : State} {p0} {p1} (hc : c ||| 262144 = c) (hr : r ||| 0 = r) (h0 : Fr0 c r s0 p0) :
    Fr0 c r s0 (State.phase p0 p1) := by
  unfold State.phase
  refine State.modPwr_fr (su rfl hc) (su rfl hr) ?_
  exact h0

theorem State.pwrNote_fr {c r : Nat} {s0 : State} {p0} {p1} {p2} (hc : c ||| 22548578304 = c) (hr : r ||| 7471104 = r) (h0 : Fr0 c r s0 p0) :
    Fr0 c r s0 (State.pwrNote p0 p1 p2) := by
  unfold State.pwrNote
  refine State.note_fr (su rfl hc) (su rfl hr) ?_ ?_
  ·
    exact h0
  ·
    exact O.pwrLastStatus_ok (su rfl hr)

theorem State.endHoldup_fr {c r : Nat} {s0 : State} {p0} (hc : c ||| 22548840448 = c) (hr : r ||| 5607810198407711162368 = r) (h0 : Fr0 c r s0 p0) :
    Fr0 c r s0 (State.endHoldup p0) := by
  unfold State.endHoldup
  refine fr0_ite (fun _ => ?_) (fun _ => ?_)
  ·
    exact h0
  ·
    refine State.resume_fr (su rfl hc) (su rfl hr) ?_
    refine State.pwrNote_fr (su rfl hc) (su rfl hr) ?_
    refine State.modPwr_fr (su rfl hc) (su rfl hr) ?_
    refine State.put_fr (su rfl hc) (su rfl hr) ?_ ?_
    ·
      exact h0
    ·
      exact O.pwrHoldupState_ok (su rfl hr)

theorem State.panelOn_fr {c r : Nat} {s0 : State} {p0} (hc : c ||| 31140364800 = c) (hr : r ||| 9426301984264284143616 = r) (h0 : Fr0 c r s0 p0) :
    Fr0 c r s0 (State.panelOn p0) := by
  unfold State.panelOn
  extract_lets +onlyGivenNames -merge -useContext -underBinder x0
  have hx1 : Fr0 c r s0 x0 := by
    refine State.settle_fr (su rfl hc) (su rfl hr) ?_
    refine State.phase_fr (su rfl hc) (su rfl hr) ?_
    refine State.put_fr (su rfl hc) (su rfl hr) ?_ ?_
    ·
      exact h0
    ·
      exact O.panelPowerState_ok (su rfl hr)
  try clear_value x0
  refine State.endHoldup_fr (su rfl hc) (su rfl hr) ?_
  refine fr0_foldl (fun ha2s _ ha2 => ?_) ?_
  ·
    refine fr0_ite (fun _ => ?_) (fun _ => ?_)
    ·
      refine State.headStarting_fr (su rfl hc) (su rfl hr) ?_
      exact ha2
    ·
      refine State.startSlots_fr (su rfl hc) (su rfl hr) ?_
      exact ha2
  ·
    exact hx1

theorem State.railOn_fr {c r : Nat} {s0 : State} {p0} {p1} (hc : c ||| 262144 = c) (hr : r ||| 0 = r) (h0 : Fr0 c r s0 p0) :
    Fr0 c r s0 (State.railOn p0 p1) := by
  unfold State.railOn
  refine State.modPwr_fr (su rfl hc) (su rfl hr) ?_
  exact h0

theorem State.startRail_fr {c r : Nat} {s0 : State} {p0} {p1} (hc : c ||| 31140364800 = c) (hr : r ||| 9426301984264284143616 = r) (h0 : Fr0 c r s0 p0) :
    Fr0 c r s0 (State.startRail p0 p1) := by
  unfold State.startRail
  split
  ·
    refine State.panelOn_fr (su rfl hc) (su rfl hr) ?_
    exact h0
  ·
    extract_lets +onlyGivenNames -merge -useContext -underBinder x0
    have hx1 : Fr0 c r s0 x0 := by
      refine State.phase_fr (su rfl hc) (su rfl hr) ?_
      refine State.railOn_fr (su rfl hc) (su rfl hr) ?_
      exact h0
    try clear_value x0
    refine fr0_ite (fun _ => ?_) (fun _ => ?_)
    ·
      refine State.phase_fr (su rfl hc) (su rfl hr) ?_
      exact hx1
    ·
      exact hx1

theorem State.elapseTo_fr {c r : Nat} {s0 : State} {p0} {p1} (hc : c ||| 8 = c) (hr : r ||| 0 = r) (h0 : Fr0 c r s0 p0) :
    Fr0 c r s0 (State.elapseTo p0 p1) := by
  unfold State.elapseTo
  refine fr0_ite (fun _ => ?_) (fun _ => ?_)
  ·
    refine fr0_ite (fun _ => ?_) (fun _ => ?_)
    ·
      refine fr_clk (su rfl hc) ?_
      exact h0
    ·
      refine fr_clk (su rfl hc) ?_
      exact h0
  ·
    exact h0

theorem State.panelStart_fr {c r : Nat} {s0 : State} {p0} (hc : c ||| 31140364808 = c) (hr : r ||| 9426301984264284143616 = r) (h0 : Fr0 c r s0 p0) :
    Fr0 c r s0 (State.panelStart p0) := by
  unfold State.panelStart
  refine fr0_ite (fun _ => ?_) (fun _ => ?_)
  ·
    refine State.put_fr (su rfl hc) (su rfl hr) ?_ ?_
    ·
      exact h0
    ·
      exact O.panelPowerState_ok (su rfl hr)
  ·
    refine State.startRail_fr (su rfl hc) (su rfl hr) ?_
    refine State.put_fr (su rfl hc) (su rfl hr) ?_ ?_
    ·
      refine State.elapseTo_fr (su rfl hc) (su rfl hr) ?_
      exact h0
    ·
      exact O.panelPowerState_ok (su rfl hr)

theorem State.fnStarting_fr {c r : Nat} {s0 : State} {p0} {p1} (hc : c ||| 31142494728 = c) (hr : r ||| 9444730713939484213248 = r) (h0 : Fr0 c r s0 p0) :
    Fr0 c r s0 (State.fnStarting p0 p1) := by
  unfold State.fnStarting
  split
  ·
    refine State.headStarting_fr (su rfl hc) (su rfl hr) ?_
    exact h0
  ·
    refine State.headStarting_fr (su rfl hc) (su rfl hr) ?_
    exact h0
  ·
    refine State.regateStream_fr (su rfl hc) (su rfl hr) ?_
    refine State.powerAll_fr (su rfl hc) (su rfl hr) ?_
    refine State.put_fr (su rfl hc) (su rfl hr) ?_ ?_
    ·
      refine State.put_fr (su rfl hc) (su rfl hr) ?_ ?_
      ·
        exact h0
      ·
        exact O.portState_ok (su rfl hr)
    ·
      exact O.portLink_ok (su rfl hr)
  ·
    refine State.powerIsl_fr (su rfl hc) (su rfl hr) ?_
    refine State.put_fr (su rfl hc) (su rfl hr) ?_ ?_
    ·
      exact h0
    ·
      exact O.audPortState_ok (su rfl hr)
  ·
    refine State.powerIsl_fr (su rfl hc) (su rfl hr) ?_
    refine State.put_fr (su rfl hc) (su rfl hr) ?_ ?_
    ·
      exact h0
    ·
      exact O.clpState_ok (su rfl hr)
  ·
    refine State.powerIsl_fr (su rfl hc) (su rfl hr) ?_
    refine State.overlayStarting_fr (su rfl hc) (su rfl hr) ?_
    refine State.put_fr (su rfl hc) (su rfl hr) ?_ ?_
    ·
      exact h0
    ·
      exact O.overlayState_ok (su rfl hr)
  ·
    refine State.refreshCal_fr (su rfl hc) (su rfl hr) ?_
    refine State.modCap_fr (su rfl hc) (su rfl hr) ?_
    refine State.put_fr (su rfl hc) (su rfl hr) ?_ ?_
    ·
      exact h0
    ·
      exact O.captureState_ok (su rfl hr)
  ·
    refine State.panelStart_fr (su rfl hc) (su rfl hr) ?_
    exact h0

theorem State.sendLane_fr {c r : Nat} {s0 : State} {p0} {p1} {p2} {p3} (hc : c ||| 17180393472 = c) (hr : r ||| 0 = r) (h0 : Fr0 c r s0 p0) :
    Fr0 c r s0 (State.sendLane p0 p1 p2 p3) := by
  unfold State.sendLane
  extract_lets +onlyGivenNames -merge -useContext -underBinder x0
  try clear_value x0
  refine State.emit_fr (su rfl hc) (su rfl hr) ?_
  refine State.modSlot_fr (su rfl hc) (su rfl hr) ?_
  exact h0

theorem State.sendSync_fr {c r : Nat} {s0 : State} {p0} {p1} (hc : c ||| 17180393472 = c) (hr : r ||| 0 = r) (h0 : Fr0 c r s0 p0) :
    Fr0 c r s0 (State.sendSync p0 p1) := by
  unfold State.sendSync
  refine fr0_foldl (fun ha0s _ ha0 => ?_) ?_
  ·
    extract_lets +onlyGivenNames -merge -useContext -underBinder x1
    try clear_value x1
    extract_lets +onlyGivenNames -merge -useContext -underBinder x2
    have hx3 : Fr0 c r s0 x2 := by
      refine State.sendLane_fr (su rfl hc) (su rfl hr) ?_
      exact ha0
    try clear_value x2
    refine State.emit_fr (su rfl hc) (su rfl hr) ?_
    exact hx3
  ·
    exact h0

theorem State.setLaneState_fr {c r : Nat} {s0 : State} {p0} {p1} {p2} {p3} (hc : c ||| 0 = c) (hr : r ||| 9444732965739290427392 = r) (h0 : Fr0 c r s0 p0) :
    Fr0 c r s0 (State.setLaneState p0 p1 p2 p3) := by
  unfold State.setLaneState
  refine State.put_fr (su rfl hc) (su rfl hr) ?_ ?_
  ·
    exact h0
  ·
    exact O.linkLaneState_ok (su rfl hr)

theorem State.setAllLanes_fr {c r : Nat} {s0 : State} {p0} {p1} {p2} (hc : c ||| 0 = c) (hr : r ||| 9444732965739290427392 = r) (h0 : Fr0 c r s0 p0) :
    Fr0 c r s0 (State.setAllLanes p0 p1 p2) := by
  unfold State.setAllLanes
  refine fr0_foldl (fun ha0s _ ha0 => ?_) ?_
  ·
    refine State.setLaneState_fr (su rfl hc) (su rfl hr) ?_
    exact ha0
  ·
    exact h0

theorem State.stopSlots_fr {c r : Nat} {s0 : State} {p0} {p1} (hc : c ||| 17180393472 = c) (hr : r ||| 9444735217539104112640 = r) (h0 : Fr0 c r s0 p0) :
    Fr0 c r s0 (State.stopSlots p0 p1) := by
  unfold State.stopSlots
  refine fr0_foldl (fun ha0s _ ha0 => ?_) ?_
  ·
    extract_lets +onlyGivenNames -merge -useContext -underBinder x1
    refine fr0_ite (fun _ => ?_) (fun _ => ?_)
    ·
      exact ha0
    ·
      refine State.modSlot_fr (su rfl hc) (su rfl hr) ?_
      refine State.sendSync_fr (su rfl hc) (su rfl hr) ?_
      refine State.setAllLanes_fr (su rfl hc) (su rfl hr) ?_
      refine State.setSlotState_fr (su rfl hc) (su rfl hr) ?_
      exact ha0
  ·
    exact h0

theorem State.modPort_fr {c r : Nat} {s0 : State} {p0} {p1} {p2} (hc : c ||| 4194304 = c) (hr : r ||| 0 = r) (h0 : Fr0 c r s0 p0) :
    Fr0 c r s0 (State.modPort p0 p1 p2) := by
  unfold State.modPort
  refine fr_aud (su rfl hc) ?_
  exact h0

theorem State.restartPort_fr {c r : Nat} {s0 : State} {p0} {p1} (hc : c ||| 4194304 = c) (hr : r ||| 0 = r) (h0 : Fr0 c r s0 p0) :
    Fr0 c r s0 (State.restartPort p0 p1) := by
  unfold State.restartPort
  refine State.modPort_fr (su rfl hc) (su rfl hr) ?_
  exact h0

theorem State.audLeaveOn_fr {c r : Nat} {s0 : State} {p0} {p1} (hc : c ||| 4194304 = c) (hr : r ||| 2199023255552 = r) (h0 : Fr0 c r s0 p0) :
    Fr0 c r s0 (State.audLeaveOn p0 p1) := by
  unfold State.audLeaveOn
  extract_lets +onlyGivenNames -merge -useContext -underBinder x0
  have hx1 : Fr0 c r s0 x0 := by
    refine State.modPort_fr (su rfl hc) (su rfl hr) ?_
    refine State.restartPort_fr (su rfl hc) (su rfl hr) ?_
    exact h0
  try clear_value x0
  refine State.audFlag_fr (su rfl hc) (su rfl hr) ?_
  refine State.audFlag_fr (su rfl hc) (su rfl hr) ?_
  refine State.audFlag_fr (su rfl hc) (su rfl hr) ?_
  exact hx1

theorem State.modClp_fr {c r : Nat} {s0 : State} {p0} {p1} (hc : c ||| 536870912 = c) (hr : r ||| 0 = r) (h0 : Fr0 c r s0 p0) :
    Fr0 c r s0 (State.modClp p0 p1) := by
  unfold State.modClp
  refine fr_clp (su rfl hc) ?_
  exact h0

theorem State.clpNote_fr {c r : Nat} {s0 : State} {p0} {p1} {p2} (hc : c ||| 22548578304 = c) (hr : r ||| 151115727451828654178304 = r) (h0 : Fr0 c r s0 p0) :
    Fr0 c r s0 (State.clpNote p0 p1 p2) := by
  unfold State.clpNote
  refine State.note_fr (su rfl hc) (su rfl hr) ?_ ?_
  ·
    exact h0
  ·
    exact O.clpLastStatus_ok (su rfl hr)

theorem endFallback_fr {c r : Nat} {s0 : State} {p0} (hc : c ||| 23085449728 = c) (hr : r ||| 283341988972178720161792 = r) (h0 : Fr0 c r s0 p0) :
    Fr0 c r s0 (endFallback p0) := by
  unfold endFallback
  extract_lets +onlyGivenNames -merge -useContext -underBinder x0
  have hx1 : Fr0 c r s0 x0 := by
    refine State.modClp_fr (su rfl hc) (su rfl hr) ?_
    exact h0
  try clear_value x0
  extract_lets +onlyGivenNames -merge -useContext -underBinder x2
  have hx3 : Fr0 c r s0 x2 := by
    refine State.put_fr (su rfl hc) (su rfl hr) ?_ ?_
    ·
      refine State.put_fr (su rfl hc) (su rfl hr) ?_ ?_
      ·
        refine State.put_fr (su rfl hc) (su rfl hr) ?_ ?_
        ·
          exact hx1
        ·
          exact O.clpPlayState_ok (su rfl hr)
      ·
        exact O.clpPlayClip_ok (su rfl hr)
    ·
      exact O.streamSource_ok (su rfl hr)
  try clear_value x2
  refine State.regateStream_fr (su rfl hc) (su rfl hr) ?_
  refine State.clpNote_fr (su rfl hc) (su rfl hr) ?_
  refine fr_hif (su rfl hc) ?_
  exact hx3

theorem State.postFault_fr {c r : Nat} {s0 : State} {p0} {p1} {p2} (hc : c ||| 22548578304 = c) (hr : r ||| 7340032 = r) (h0 : Fr0 c r s0 p0) :
    Fr0 c r s0 (State.postFault p0 p1 p2) := by
  unfold State.postFault
  refine State.postWith_fr (su rfl hc) (su rfl hr) ?_
  exact h0

theorem State.raise_fr {c r : Nat} {s0 : State} {p0} {p1} {p2} {p3} {p4} {p5} (hc : c ||| 31139577856 = c) (hr : r ||| 306916927898379527127040 = r) (h0 : Fr0 c r s0 p0) :
    Fr0 c r s0 (State.raise p0 p1 p2 p3 p4 p5) := by
  unfold State.raise
  extract_lets +onlyGivenNames -merge -useContext -underBinder x0
  try clear_value x0
  extract_lets +onlyGivenNames -merge -useContext -underBinder x1
  have hx2 : Fr0 c r s0 x1 := by
    refine fr_flt (su rfl hc) ?_
    exact h0
  try clear_value x1
  refine State.refreshFaults_fr (su rfl hc) (su rfl hr) ?_
  refine State.postFault_fr (su rfl hc) (su rfl hr) ?_
  refine State.bump_fr (su rfl hc) (su rfl hr) ?_ ?_
  ·
    exact hx2
  ·
    exact O.faultFamilyCount_ok (su rfl hr)

theorem beginPlay_fr {c r : Nat} {s0 : State} {p0} {p1} {p2} {p3} {p4} (hc : c ||| 536871424 = c) (hr : r ||| 661131307601750329917440 = r) (h0 : Fr0 c r s0 p0) :
    Fr0 c r s0 (beginPlay p0 p1 p2 p3 p4) := by
  unfold beginPlay
  extract_lets +onlyGivenNames -merge -useContext -underBinder x0
  extract_lets +onlyGivenNames -merge -useContext -underBinder x1
  have hx2 : Fr0 c r s0 x1 := by
    refine State.modClp_fr (su rfl hc) (su rfl hr) ?_
    exact h0
  try clear_value x1
  refine State.regateStream_fr (su rfl hc) (su rfl hr) ?_
  refine State.put_fr (su rfl hc) (su rfl hr) ?_ ?_
  ·
    refine State.put_fr (su rfl hc) (su rfl hr) ?_ ?_
    ·
      refine State.put_fr (su rfl hc) (su rfl hr) ?_ ?_
      ·
        exact hx2
      ·
        exact O.clpPlayState_ok (su rfl hr)
    ·
      exact O.clpPlayClip_ok (su rfl hr)
  ·
    exact O.clpPlayBase_ok (su rfl hr)

theorem startFallback_fr {c r : Nat} {s0 : State} {p0} (hc : c ||| 31676449280 = c) (hr : r ||| 1194721826677872827301888 = r) (h0 : Fr0 c r s0 p0) :
    Fr0 c r s0 (startFallback p0) := by
  unfold startFallback
  split
  ·
    refine fr0_ite (fun _ => ?_) (fun _ => ?_)
    ·
      exact h0
    ·
      refine State.modClp_fr (su rfl hc) (su rfl hr) ?_
      exact h0
  ·
    extract_lets +onlyGivenNames -merge -useContext -underBinder x0
    refine fr0_ite (fun _ => ?_) (fun _ => ?_)
    ·
      refine State.raise_fr (su rfl hc) (su rfl hr) ?_
      refine State.put_fr (su rfl hc) (su rfl hr) ?_ ?_
      ·
        exact h0
      ·
        exact O.clpLastStatus_ok (su rfl hr)
    ·
      extract_lets +onlyGivenNames -merge -useContext -underBinder x1
      have hx2 : Fr0 c r s0 x1 := by
        refine State.put_fr (su rfl hc) (su rfl hr) ?_ ?_
        ·
          refine State.modClp_fr (su rfl hc) (su rfl hr) ?_
          exact h0
        ·
          exact O.streamSource_ok (su rfl hr)
      try clear_value x1
      extract_lets +onlyGivenNames -merge -useContext -underBinder x3
      try clear_value x3
      extract_lets +onlyGivenNames -merge -useContext -underBinder x4
      have hx5 : Fr0 c r s0 x4 := by
        refine fr_hif (su rfl hc) ?_
        exact hx2
      try clear_value x4
      refine State.clpNote_fr (su rfl hc) (su rfl hr) ?_
      refine beginPlay_fr (su rfl hc) (su rfl hr) ?_
      exact hx5

theorem endPlay_fr {c r : Nat} {s0 : State} {p0} (hc : c ||| 31676449280 = c) (hr : r ||| 1194721826677872827301888 = r) (h0 : Fr0 c r s0 p0) :
    Fr0 c r s0 (endPlay p0) := by
  unfold endPlay
  extract_lets +onlyGivenNames -merge -useContext -underBinder x0
  try clear_value x0
  extract_lets +onlyGivenNames -merge -useContext -underBinder x1
  have hx2 : Fr0 c r s0 x1 := by
    refine State.modClp_fr (su rfl hc) (su rfl hr) ?_
    exact h0
  try clear_value x1
  extract_lets +onlyGivenNames -merge -useContext -underBinder x3
  have hx4 : Fr0 c r s0 x3 := by
    refine State.regateStream_fr (su rfl hc) (su rfl hr) ?_
    refine State.put_fr (su rfl hc) (su rfl hr) ?_ ?_
    ·
      refine State.put_fr (su rfl hc) (su rfl hr) ?_ ?_
      ·
        exact hx2
      ·
        exact O.clpPlayState_ok (su rfl hr)
    ·
      exact O.clpPlayClip_ok (su rfl hr)
  try clear_value x3
  refine fr0_ite (fun _ => ?_) (fun _ => ?_)
  ·
    refine startFallback_fr (su rfl hc) (su rfl hr) ?_
    exact hx4
  ·
    exact hx4

theorem stopPlay_fr {c r : Nat} {s0 : State} {p0} (hc : c ||| 31676449280 = c) (hr : r ||| 1194721826677872827301888 = r) (h0 : Fr0 c r s0 p0) :
    Fr0 c r s0 (stopPlay p0) := by
  unfold stopPlay
  split
  ·
    exact h0
  ·
    refine fr0_ite (fun _ => ?_) (fun _ => ?_)
    ·
      refine endFallback_fr (su rfl hc) (su rfl hr) ?_
      exact h0
    ·
      refine endPlay_fr (su rfl hc) (su rfl hr) ?_
      exact h0

theorem clpStopping_fr {c r : Nat} {s0 : State} {p0} (hc : c ||| 31676449280 = c) (hr : r ||| 1194721826677872827301888 = r) (h0 : Fr0 c r s0 p0) :
    Fr0 c r s0 (clpStopping p0) := by
  unfold clpStopping
  refine stopPlay_fr (su rfl hc) (su rfl hr) ?_
  exact h0

theorem State.overlayStopping_fr {c r : Nat} {s0 : State} {p0} (hc : c ||| 2113536 = c) (hr : r ||| 288230376151711744 = r) (h0 : Fr0 c r s0 p0) :
    Fr0 c r s0 (State.overlayStopping p0) := by
  unfold State.overlayStopping
  refine State.put_fr (su rfl hc) (su rfl hr) ?_ ?_
  ·
    refine State.markResident_fr (su rfl hc) (su rfl hr) ?_
    refine State.modRasp_fr (su rfl hc) (su rfl hr) ?_
    exact h0
  ·
    exact O.overlayState_ok (su rfl hr)

theorem State.endCapture_fr {c r : Nat} {s0 : State} {p0} (hc : c ||| 32768 = c) (hr : r ||| 1208935042986666029481984 = r) (h0 : Fr0 c r s0 p0) :
    Fr0 c r s0 (State.endCapture p0) := by
  unfold State.endCapture
  refine State.put_fr (su rfl hc) (su rfl hr) ?_ ?_
  ·
    refine State.put_fr (su rfl hc) (su rfl hr) ?_ ?_
    ·
      refine State.modCap_fr (su rfl hc) (su rfl hr) ?_
      exact h0
    ·
      exact O.captureResult_ok (su rfl hr)
  ·
    exact O.captureState_ok (su rfl hr)

theorem State.panelOff_fr {c r : Nat} {s0 : State} {p0} (hc : c ||| 31140365064 = c) (hr : r ||| 9426301984264284143616 = r) (h0 : Fr0 c r s0 p0) :
    Fr0 c r s0 (State.panelOff p0) := by
  unfold State.panelOff
  extract_lets +onlyGivenNames -merge -useContext -underBinder x0
  try clear_value x0
  extract_lets +onlyGivenNames -merge -useContext -underBinder x1
  have hx2 : Fr0 c r s0 x1 := by
    refine fr_held (su rfl hc) ?_
    exact h0
  try clear_value x1
  extract_lets +onlyGivenNames -merge -useContext -underBinder x3
  have hx4 : Fr0 c r s0 x3 := by
    refine State.put_fr (su rfl hc) (su rfl hr) ?_ ?_
    ·
      refine State.phase_fr (su rfl hc) (su rfl hr) ?_
      exact hx2
    ·
      exact O.panelPowerState_ok (su rfl hr)
  try clear_value x3
  refine fr0_ite (fun _ => ?_) (fun _ => ?_)
  ·
    refine State.panelStart_fr (su rfl hc) (su rfl hr) ?_
    exact hx4
  ·
    exact hx4

theorem State.railOff_fr {c r : Nat} {s0 : State} {p0} {p1} (hc : c ||| 262144 = c) (hr : r ||| 0 = r) (h0 : Fr0 c r s0 p0) :
    Fr0 c r s0 (State.railOff p0 p1) := by
  unfold State.railOff
  refine State.modPwr_fr (su rfl hc) (su rfl hr) ?_
  exact h0

theorem State.railsOff_fr {c r : Nat} {s0 : State} {p0} {p1} (hc : c ||| 31140365064 = c) (hr : r ||| 9426301984264284143616 = r) (h0 : Fr0 c r s0 p0) :
    Fr0 c r s0 (State.railsOff p0 p1) := by
  unfold State.railsOff
  split
  ·
    refine State.panelOff_fr (su rfl hc) (su rfl hr) ?_
    exact h0
  ·
    extract_lets +onlyGivenNames -merge -useContext -underBinder x0
    extract_lets +onlyGivenNames -merge -useContext -underBinder x1
    have hx2 : Fr0 c r s0 x1 := by
      refine State.phase_fr (su rfl hc) (su rfl hr) ?_
      refine State.railOff_fr (su rfl hc) (su rfl hr) ?_
      exact h0
    try clear_value x1
    refine fr0_ite (fun _ => ?_) (fun _ => ?_)
    ·
      exact hx2
    ·
      refine State.phase_fr (su rfl hc) (su rfl hr) ?_
      exact hx2

theorem State.railsWhenHeadsStopped_fr {c r : Nat} {s0 : State} {p0} (hc : c ||| 31140365064 = c) (hr : r ||| 9426301984264284143616 = r) (h0 : Fr0 c r s0 p0) :
    Fr0 c r s0 (State.railsWhenHeadsStopped p0) := by
  unfold State.railsWhenHeadsStopped
  refine fr0_ite (fun _ => ?_) (fun _ => ?_)
  ·
    refine State.railsOff_fr (su rfl hc) (su rfl hr) ?_
    exact h0
  ·
    exact h0

theorem State.panelStop_fr {c r : Nat} {s0 : State} {p0} (hc : c ||| 31140365064 = c) (hr : r ||| 18871034950003574571008 = r) (h0 : Fr0 c r s0 p0) :
    Fr0 c r s0 (State.panelStop p0) := by
  unfold State.panelStop
  extract_lets +onlyGivenNames -merge -useContext -underBinder x0
  have hx1 : Fr0 c r s0 x0 := by
    refine State.phase_fr (su rfl hc) (su rfl hr) ?_
    refine State.put_fr (su rfl hc) (su rfl hr) ?_ ?_
    ·
      exact h0
    ·
      exact O.panelPowerState_ok (su rfl hr)
  try clear_value x0
  extract_lets +onlyGivenNames -merge -useContext -underBinder x2
  have hx3 : Fr0 c r s0 x2 := by
    refine fr0_foldl (fun ha4s _ ha4 => ?_) ?_
    ·
      refine fr0_ite (fun _ => ?_) (fun _ => ?_)
      ·
        refine State.setHead_fr (su rfl hc) (su rfl hr) ?_
        exact ha4
      ·
        refine fr0_ite (fun _ => ?_) (fun _ => ?_)
        ·
          refine State.setHead_fr (su rfl hc) (su rfl hr) ?_
          refine State.stopSlots_fr (su rfl hc) (su rfl hr) ?_
          exact ha4
        ·
          exact ha4
    ·
      exact hx1
  try clear_value x2
  extract_lets +onlyGivenNames -merge -useContext -underBinder x5
  have hx6 : Fr0 c r s0 x5 := by
    refine fr0_ite (fun _ => ?_) (fun _ => ?_)
    ·
      exact hx3
    ·
      refine State.endHoldup_fr (su rfl hc) (su rfl hr) ?_
      exact hx3
  try clear_value x5
  refine State.railsWhenHeadsStopped_fr (su rfl hc) (su rfl hr) ?_
  exact hx6

theorem State.fnStopping_fr {c r : Nat} {s0 : State} {p0} {p1} (hc : c ||| 31683560200 = c) (hr : r ||| 2417851600950860547489792 = r) (h0 : Fr0 c r s0 p0) :
    Fr0 c r s0 (State.fnStopping p0 p1) := by
  unfold State.fnStopping
  extract_lets +onlyGivenNames -merge -useContext -underBinder x0
  unfold x0; clear x0
  split
  ·
    refine fr0_ite (fun _ => ?_) (fun _ => ?_)
    ·
      refine State.setHead_fr (su rfl hc) (su rfl hr) ?_
      refine State.stopSlots_fr (su rfl hc) (su rfl hr) ?_
      exact h0
    ·
      refine State.setHead_fr (su rfl hc) (su rfl hr) ?_
      exact h0
  ·
    refine fr0_ite (fun _ => ?_) (fun _ => ?_)
    ·
      refine State.setHead_fr (su rfl hc) (su rfl hr) ?_
      refine State.stopSlots_fr (su rfl hc) (su rfl hr) ?_
      exact h0
    ·
      refine State.setHead_fr (su rfl hc) (su rfl hr) ?_
      exact h0
  ·
    refine State.put_fr (su rfl hc) (su rfl hr) ?_ ?_
    ·
      exact h0
    ·
      exact O.portState_ok (su rfl hr)
  ·
    refine State.put_fr (su rfl hc) (su rfl hr) ?_ ?_
    ·
      refine State.audLeaveOn_fr (su rfl hc) (su rfl hr) ?_
      exact h0
    ·
      exact O.audPortState_ok (su rfl hr)
  ·
    refine State.put_fr (su rfl hc) (su rfl hr) ?_ ?_
    ·
      refine clpStopping_fr (su rfl hc) (su rfl hr) ?_
      exact h0
    ·
      exact O.clpState_ok (su rfl hr)
  ·
    refine State.overlayStopping_fr (su rfl hc) (su rfl hr) ?_
    exact h0
  ·
    refine State.refreshCal_fr (su rfl hc) (su rfl hr) ?_
    refine State.endCapture_fr (su rfl hc) (su rfl hr) ?_
    exact h0
  ·
    refine State.panelStop_fr (su rfl hc) (su rfl hr) ?_
    exact h0

theorem State.fnSwitch_fr {c r : Nat} {s0 : State} {p0} {p1} {p2} (hc : c ||| 31683560200 = c) (hr : r ||| 2417851639222661287116800 = r) (h0 : Fr0 c r s0 p0) :
    Fr0 c r s0 (State.fnSwitch p0 p1 p2) := by
  unfold State.fnSwitch
  extract_lets +onlyGivenNames -merge -useContext -underBinder x0
  extract_lets +onlyGivenNames -merge -useContext -underBinder x1
  try clear_value x1
  extract_lets +onlyGivenNames -merge -useContext -underBinder x2
  have hx3 : Fr0 c r s0 x2 := by
    refine State.putB_fr (su rfl hc) (su rfl hr) ?_ ?_
    ·
      exact h0
    ·
      exact Fn.enableObj_ok (su rfl hr)
  try clear_value x2
  extract_lets +onlyGivenNames -merge -useContext -underBinder x4
  have hx5 : Fr0 c r s0 x4 := by
    refine fr_held (su rfl hc) ?_
    exact hx3
  try clear_value x4
  refine fr0_ite (fun _ => ?_) (fun _ => ?_)
  ·
    exact hx5
  ·
    refine fr0_ite (fun _ => ?_) (fun _ => ?_)
    ·
      refine State.fnStarting_fr (su rfl hc) (su rfl hr) ?_
      exact hx5
    ·
      refine State.fnStopping_fr (su rfl hc) (su rfl hr) ?_
      exact hx5

theorem State.putM_fr {c r : Nat} {s0 : State} {p0} {p1} {p2} (hc : c ||| 64 = c) (hr : r ||| 0 = r) (h0 : Fr0 c r s0 p0) :
    Fr0 c r s0 (State.putM p0 p1 p2) := by
  unfold State.putM
  refine fr_maq (su rfl hc) ?_
  exact h0

theorem State.putShadow_fr {c r : Nat} {s0 : State} {p0} {p1} {p2} (hc : c ||| 192 = c) (hr : r ||| 2417851639229258349412352 = r) (h0 : Fr0 c r s0 p0) :
    Fr0 c r s0 (State.putShadow p0 p1 p2) := by
  unfold State.putShadow
  extract_lets +onlyGivenNames -merge -useContext -underBinder x0
  have hx1 : Fr0 c r s0 x0 := by
    refine State.putB_fr (su rfl hc) (su rfl hr) ?_ ?_
    ·
      refine State.putM_fr (su rfl hc) (su rfl hr) ?_
      exact h0
    ·
      exact O.cfgMaquetteDirty_ok (su rfl hr)
  try clear_value x0
  refine fr0_ite (fun _ => ?_) (fun _ => ?_)
  ·
    refine fr_cfg (su rfl hc) ?_
    exact hx1
  ·
    exact hx1

theorem State.dropMaster_fr {c r : Nat} {s0 : State} {p0} {p1} {p2} (hc : c ||| 22556966912 = c) (hr : r ||| 268173312 = r) (h0 : Fr0 c r s0 p0) :
    Fr0 c r s0 (State.dropMaster p0 p1 p2) := by
  unfold State.dropMaster
  extract_lets +onlyGivenNames -merge -useContext -underBinder x0
  have hx1 : Fr0 c r s0 x0 := by
    refine State.modPtp_fr (su rfl hc) (su rfl hr) ?_
    exact h0
  try clear_value x0
  refine State.reselect_fr (su rfl hc) (su rfl hr) ?_
  refine State.putO_fr (su rfl hc) (su rfl hr) ?_ ?_
  ·
    refine State.putO_fr (su rfl hc) (su rfl hr) ?_ ?_
    ·
      refine State.put_fr (su rfl hc) (su rfl hr) ?_ ?_
      ·
        exact hx1
      ·
        exact O.ptpState_ok (su rfl hr)
    ·
      exact O.ptpMasterPort_ok (su rfl hr)
  ·
    exact O.ptpGmIdentity_ok (su rfl hr)

theorem State.ptpSwitch_fr {c r : Nat} {s0 : State} {p0} {p1} {p2} (hc : c ||| 22556966912 = c) (hr : r ||| 4835703278458516966998016 = r) (h0 : Fr0 c r s0 p0) :
    Fr0 c r s0 (State.ptpSwitch p0 p1 p2) := by
  unfold State.ptpSwitch
  extract_lets +onlyGivenNames -merge -useContext -underBinder x0
  have hx1 : Fr0 c r s0 x0 := by
    refine State.putB_fr (su rfl hc) (su rfl hr) ?_ ?_
    ·
      exact h0
    ·
      exact O.ptpEnable_ok (su rfl hr)
  try clear_value x0
  refine fr0_ite (fun _ => ?_) (fun _ => ?_)
  ·
    refine fr0_ite (fun _ => ?_) (fun _ => ?_)
    ·
      refine State.dropMaster_fr (su rfl hc) (su rfl hr) ?_
      refine State.modPtp_fr (su rfl hc) (su rfl hr) ?_
      exact hx1
    ·
      exact hx1
  ·
    refine State.dropMaster_fr (su rfl hc) (su rfl hr) ?_
    exact hx1

theorem ptpObjectWrite_fr {c r : Nat} {s0 : State} {p0} {p1} {p2} {p3} {p4} (hc : c ||| 22556966912 = c) (hr : r ||| 4835703278458516966998016 = r) (h0 : Fr0 c r s0 p0) (h4 : Fr0 c r s0 p4) :
    Fr2 c r s0 (ptpObjectWrite p0 p1 p2 p3 p4) := by
  unfold ptpObjectWrite
  refine fr2_ite (fun _ => ?_) (fun _ => ?_)
  ·
    refine fr2_ite (fun _ => ?_) (fun _ => ?_)
    ·
      refine fr2_mk ?_
      exact h0
    ·
      refine fr2_mk ?_
      refine State.ptpSwitch_fr (su rfl hc) (su rfl hr) ?_
      exact h0
  ·
    refine fr2_ite (fun _ => ?_) (fun _ => ?_)
    ·
      refine fr2_mk ?_
      exact h0
    ·
      refine fr2_mk ?_
      exact h4

theorem timeSetWrite_fr {c r : Nat} {s0 : State} {p0} {p1} (hc : c ||| 8388608 = c) (hr : r ||| 0 = r) (h0 : Fr0 c r s0 p0) :
    Fr2 c r s0 (timeSetWrite p0 p1) := by
  unfold timeSetWrite
  extract_lets +onlyGivenNames -merge -useContext -underBinder x0
  refine fr2_ite (fun _ => ?_) (fun _ => ?_)
  ·
    refine fr2_mk ?_
    exact h0
  ·
    refine fr2_ite (fun _ => ?_) (fun _ => ?_)
    ·
      refine fr2_mk ?_
      exact h0
    ·
      extract_lets +onlyGivenNames -merge -useContext -underBinder x1
      try clear_value x1
      refine fr2_mk ?_
      refine State.modTim_fr (su rfl hc) (su rfl hr) ?_
      exact h0

theorem timeAdjustWrite_fr {c r : Nat} {s0 : State} {p0} {p1} (hc : c ||| 8388608 = c) (hr : r ||| 0 = r) (h0 : Fr0 c r s0 p0) :
    Fr2 c r s0 (timeAdjustWrite p0 p1) := by
  unfold timeAdjustWrite
  refine fr2_ite (fun _ => ?_) (fun _ => ?_)
  ·
    refine fr2_mk ?_
    exact h0
  ·
    extract_lets +onlyGivenNames -merge -useContext -underBinder x0
    try clear_value x0
    refine fr2_mk ?_
    refine State.aim_fr (su rfl hc) (su rfl hr) ?_
    refine State.modTim_fr (su rfl hc) (su rfl hr) ?_
    exact h0

theorem actionAddWrite_fr {c r : Nat} {s0 : State} {p0} {p1} {p2} (hc : c ||| 8388608 = c) (hr : r ||| 19342813113834066795298816 = r) (h0 : Fr0 c r s0 p0) :
    Fr2 c r s0 (actionAddWrite p0 p1 p2) := by
  unfold actionAddWrite
  extract_lets +onlyGivenNames -merge -useContext -underBinder x0
  try clear_value x0
  refine fr2_ite (fun _ => ?_) (fun _ => ?_)
  ·
    refine fr2_mk ?_
    exact h0
  ·
    refine fr2_ite (fun _ => ?_) (fun _ => ?_)
    ·
      refine fr2_mk ?_
      exact h0
    ·
      refine fr2_ite (fun _ => ?_) (fun _ => ?_)
      ·
        refine fr2_mk ?_
        exact h0
      ·
        refine fr2_ite (fun _ => ?_) (fun _ => ?_)
        ·
          refine fr2_mk ?_
          exact h0
        ·
          refine fr2_ite (fun _ => ?_) (fun _ => ?_)
          ·
            refine fr2_mk ?_
            exact h0
          ·
            extract_lets +onlyGivenNames -merge -useContext -underBinder x1
            have hx2 : Fr0 c r s0 x1 := by
              refine State.modTim_fr (su rfl hc) (su rfl hr) ?_
              exact h0
            try clear_value x1
            refine fr2_mk ?_
            refine State.put_fr (su rfl hc) (su rfl hr) ?_ ?_
            ·
              exact hx2
            ·
              exact O.timeActionPending_ok (su rfl hr)

theorem actionCancelWrite_fr {c r : Nat} {s0 : State} {p0} {p1} (hc : c ||| 8388608 = c) (hr : r ||| 19342813113834066795298816 = r) (h0 : Fr0 c r s0 p0) :
    Fr2 c r s0 (actionCancelWrite p0 p1) := by
  unfold actionCancelWrite
  extract_lets +onlyGivenNames -merge -useContext -underBinder x0
  have hx1 : Fr0 c r s0 x0 := by
    refine State.modTim_fr (su rfl hc) (su rfl hr) ?_
    exact h0
  try clear_value x0
  refine fr2_mk ?_
  refine State.put_fr (su rfl hc) (su rfl hr) ?_ ?_
  ·
    exact hx1
  ·
    exact O.timeActionPending_ok (su rfl hr)

theorem State.modAtl_fr {c r : Nat} {s0 : State} {p0} {p1} (hc : c ||| 134217728 = c) (hr : r ||| 0 = r) (h0 : Fr0 c r s0 p0) :
    Fr0 c r s0 (State.modAtl p0 p1) := by
  unfold State.modAtl
  refine fr_atl (su rfl hc) ?_
  exact h0

theorem storePatina_fr {c r : Nat} {s0 : State} {p0} (hc : c ||| 134217728 = c) (hr : r ||| 38685626227668133590597632 = r) (h0 : Fr0 c r s0 p0) :
    Fr2 c r s0 (storePatina p0) := by
  unfold storePatina
  refine fr2_ite (fun _ => ?_) (fun _ => ?_)
  ·
    refine fr2_mk ?_
    exact h0
  ·
    refine fr2_mk ?_
    refine State.modAtl_fr (su rfl hc) (su rfl hr) ?_
    refine State.put_fr (su rfl hc) (su rfl hr) ?_ ?_
    ·
      exact h0
    ·
      exact O.patinaStoreState_ok (su rfl hr)

theorem State.captureStepWrite_fr {c r : Nat} {s0 : State} {p0} {p1} (hc : c ||| 32768 = c) (hr : r ||| 0 = r) (h0 : Fr0 c r s0 p0) :
    Fr2 c r s0 (State.captureStepWrite p0 p1) := by
  unfold State.captureStepWrite
  extract_lets +onlyGivenNames -merge -useContext -underBinder x0
  try clear_value x0
  refine fr2_ite (fun _ => ?_) (fun _ => ?_)
  ·
    refine fr2_mk ?_
    exact h0
  ·
    refine fr2_mk ?_
    refine State.modCap_fr (su rfl hc) (su rfl hr) ?_
    exact h0

theorem State.abortCapture_fr {c r : Nat} {s0 : State} {p0} {p1} {p2} (hc : c ||| 22548611328 = c) (hr : r ||| 155951448601133434903986176 = r) (h0 : Fr0 c r s0 p0) :
    Fr0 c r s0 (State.abortCapture p0 p1 p2) := by
  unfold State.abortCapture
  extract_lets +onlyGivenNames -merge -useContext -underBinder x0
  have hx1 : Fr0 c r s0 x0 := by
    refine State.put_fr (su rfl hc) (su rfl hr) ?_ ?_
    ·
      refine State.modCap_fr (su rfl hc) (su rfl hr) ?_
      exact h0
    ·
      exact O.captureResult_ok (su rfl hr)
  try clear_value x0
  extract_lets +onlyGivenNames -merge -useContext -underBinder x2
  have hx3 : Fr0 c r s0 x2 := by
    refine fr0_ite (fun _ => ?_) (fun _ => ?_)
    ·
      exact hx1
    ·
      refine State.put_fr (su rfl hc) (su rfl hr) ?_ ?_
      ·
        exact hx1
      ·
        exact O.captureCause_ok (su rfl hr)
  try clear_value x2
  extract_lets +onlyGivenNames -merge -useContext -underBinder x4
  have hx5 : Fr0 c r s0 x4 := by
    refine State.putB_fr (su rfl hc) (su rfl hr) ?_ ?_
    ·
      refine State.put_fr (su rfl hc) (su rfl hr) ?_ ?_
      ·
        exact hx3
      ·
        exact O.captureState_ok (su rfl hr)
    ·
      exact O.captureEnable_ok (su rfl hr)
  try clear_value x4
  extract_lets +onlyGivenNames -merge -useContext -underBinder x6
  have hx7 : Fr0 c r s0 x6 := by
    refine fr_held (su rfl hc) ?_
    exact hx5
  try clear_value x6
  refine State.refreshCal_fr (su rfl hc) (su rfl hr) ?_
  refine State.post_fr (su rfl hc) (su rfl hr) ?_
  exact hx7

theorem State.captureReportWrite_fr {c r : Nat} {s0 : State} {p0} {p1} (hc : c ||| 22548611328 = c) (hr : r ||| 233322701056469702085181440 = r) (h0 : Fr0 c r s0 p0) :
    Fr2 c r s0 (State.captureReportWrite p0 p1) := by
  unfold State.captureReportWrite
  extract_lets +onlyGivenNames -merge -useContext -underBinder x0
  try clear_value x0
  extract_lets +onlyGivenNames -merge -useContext -underBinder x1
  refine fr2_ite (fun _ => ?_) (fun _ => ?_)
  ·
    refine fr2_mk ?_
    exact h0
  ·
    refine fr2_ite (fun _ => ?_) (fun _ => ?_)
    ·
      refine fr2_mk ?_
      exact h0
    ·
      refine fr2_ite (fun _ => ?_) (fun _ => ?_)
      ·
        refine fr2_mk ?_
        refine State.put_fr (su rfl hc) (su rfl hr) ?_ ?_
        ·
          refine State.modCap_fr (su rfl hc) (su rfl hr) ?_
          exact h0
        ·
          exact O.captureConfirmed_ok (su rfl hr)
      ·
        refine fr2_ite (fun _ => ?_) (fun _ => ?_)
        ·
          refine fr2_mk ?_
          refine State.abortCapture_fr (su rfl hc) (su rfl hr) ?_
          exact h0
        ·
          refine fr2_mk ?_
          refine State.modCap_fr (su rfl hc) (su rfl hr) ?_
          exact h0

theorem clpOutcome_fr {c r : Nat} {s0 : State} {p0} (hc : c ||| 23085449216 = c) (hr : r ||| 928606145191487034828521472 = r) (h0 : Fr2 c r s0 p0) :
    Fr0 c r s0 (clpOutcome p0) := by
  unfold clpOutcome
  extract_lets +onlyGivenNames -merge -useContext -underBinder x0
  have hx1 : Fr0 c r s0 x0 := by
    refine State.put_fr (su rfl hc) (su rfl hr) ?_ ?_
    ·
      refine State.put_fr (su rfl hc) (su rfl hr) ?_ ?_
      ·
        refine to2 ?_
        exact h0
      ·
        exact O.clpCmdState_ok (su rfl hr)
    ·
      exact O.clpCmdResult_ok (su rfl hr)
  try clear_value x0
  extract_lets +onlyGivenNames -merge -useContext -underBinder x2
  have hx3 : Fr0 c r s0 x2 := by
    refine State.modClp_fr (su rfl hc) (su rfl hr) ?_
    exact hx1
  try clear_value x2
  refine fr0_ite (fun _ => ?_) (fun _ => ?_)
  ·
    exact hx3
  ·
    refine State.clpNote_fr (su rfl hc) (su rfl hr) ?_
    exact hx3

theorem clpPlay_fr {c r : Nat} {s0 : State} {p0} {p1} (hc : c ||| 536871424 = c) (hr : r ||| 661131307601750329917440 = r) (h0 : Fr0 c r s0 p0) :
    Fr2 c r s0 (clpPlay p0 p1) := by
  unfold clpPlay
  extract_lets +onlyGivenNames -merge -useContext -underBinder x0
  refine fr2_ite (fun _ => ?_) (fun _ => ?_)
  ·
    refine fr2_mk ?_
    exact h0
  ·
    refine fr2_mk ?_
    refine beginPlay_fr (su rfl hc) (su rfl hr) ?_
    exact h0

theorem clpStopCmd_fr {c r : Nat} {s0 : State} {p0} (hc : c ||| 31676449280 = c) (hr : r ||| 1194721826677872827301888 = r) (h0 : Fr0 c r s0 p0) :
    Fr2 c r s0 (clpStopCmd p0) := by
  unfold clpStopCmd
  split
  ·
    refine fr2_mk ?_
    exact h0
  ·
    refine fr2_ite (fun _ => ?_) (fun _ => ?_)
    ·
      refine fr2_mk ?_
      exact h0
    ·
      refine fr2_mk ?_
      refine endPlay_fr (su rfl hc) (su rfl hr) ?_
      exact h0

theorem clpCommandWrite_fr {c r : Nat} {s0 : State} {p0} {p1} (hc : c ||| 31676449280 = c) (hr : r ||| 929649751290713079001645056 = r) (h0 : Fr0 c r s0 p0) :
    Fr2 c r s0 (clpCommandWrite p0 p1) := by
  unfold clpCommandWrite
  extract_lets +onlyGivenNames -merge -useContext -underBinder x0
  refine fr2_ite (fun _ => ?_) (fun _ => ?_)
  ·
    refine fr2_mk ?_
    exact h0
  ·
    refine fr2_ite (fun _ => ?_) (fun _ => ?_)
    ·
      refine fr2_mk ?_
      exact h0
    ·
      refine fr2_ite (fun _ => ?_) (fun _ => ?_)
      ·
        refine fr2_mk ?_
        exact h0
      ·
        refine fr2_ite (fun _ => ?_) (fun _ => ?_)
        ·
          refine fr2_mk ?_
          exact h0
        ·
          refine fr2_ite (fun _ => ?_) (fun _ => ?_)
          ·
            refine fr2_mk ?_
            refine clpOutcome_fr (su rfl hc) (su rfl hr) ?_
            refine clpPlay_fr (su rfl hc) (su rfl hr) ?_
            exact h0
          ·
            refine fr2_ite (fun _ => ?_) (fun _ => ?_)
            ·
              refine fr2_mk ?_
              refine clpOutcome_fr (su rfl hc) (su rfl hr) ?_
              refine clpStopCmd_fr (su rfl hc) (su rfl hr) ?_
              exact h0
            ·
              refine fr2_mk ?_
              refine State.modClp_fr (su rfl hc) (su rfl hr) ?_
              refine State.put_fr (su rfl hc) (su rfl hr) ?_ ?_
              ·
                exact h0
              ·
                exact O.clpCmdState_ok (su rfl hr)

theorem fallbackReleaseWrite_fr {c r : Nat} {s0 : State} {p0} (hc : c ||| 23085449728 = c) (hr : r ||| 283341988972178720161792 = r) (h0 : Fr0 c r s0 p0) :
    Fr2 c r s0 (fallbackReleaseWrite p0) := by
  unfold fallbackReleaseWrite
  refine fr2_ite (fun _ => ?_) (fun _ => ?_)
  ·
    refine fr2_mk ?_
    exact h0
  ·
    refine fr2_ite (fun _ => ?_) (fun _ => ?_)
    ·
      refine fr2_mk ?_
      refine endFallback_fr (su rfl hc) (su rfl hr) ?_
      exact h0
    ·
      refine fr2_mk ?_
      refine State.modClp_fr (su rfl hc) (su rfl hr) ?_
      exact h0

theorem State.atlNote_fr {c r : Nat} {s0 : State} {p0} {p1} {p2} (hc : c ||| 22548578304 = c) (hr : r ||| 19807040628566084398393327616 = r) (h0 : Fr0 c r s0 p0) :
    Fr0 c r s0 (State.atlNote p0 p1 p2) := by
  unfold State.atlNote
  refine State.note_fr (su rfl hc) (su rfl hr) ?_ ?_
  ·
    exact h0
  ·
    exact O.atlLastStatus_ok (su rfl hr)

theorem State.refuseSwap_fr {c r : Nat} {s0 : State} {p0} {p1} (hc : c ||| 24704450736 = c) (hr : r ||| 39614081257132174156898500608 = r) (h0 : Fr0 c r s0 p0) :
    Fr0 c r s0 (State.refuseSwap p0 p1) := by
  unfold State.refuseSwap
  extract_lets +onlyGivenNames -merge -useContext -underBinder x0
  try clear_value x0
  extract_lets +onlyGivenNames -merge -useContext -underBinder x1
  have hx2 : Fr0 c r s0 x1 := by
    refine State.put_fr (su rfl hc) (su rfl hr) ?_ ?_
    ·
      refine State.put_fr (su rfl hc) (su rfl hr) ?_ ?_
      ·
        exact h0
      ·
        exact O.cfgSwapState_ok (su rfl hr)
    ·
      exact O.cfgSwapResult_ok (su rfl hr)
  try clear_value x1
  extract_lets +onlyGivenNames -merge -useContext -underBinder x3
  try clear_value x3
  extract_lets +onlyGivenNames -merge -useContext -underBinder x4
  have hx5 : Fr0 c r s0 x4 := by
    refine fr_cfg (su rfl hc) ?_
    exact hx2
  try clear_value x4
  extract_lets +onlyGivenNames -merge -useContext -underBinder x6
  have hx7 : Fr0 c r s0 x6 := by
    refine State.post_fr (su rfl hc) (su rfl hr) ?_
    refine State.recent_fr (su rfl hc) (su rfl hr) ?_
    exact hx5
  try clear_value x6
  split
  ·
    exact hx7
  ·
    refine State.answer_fr (su rfl hc) (su rfl hr) ?_
    exact hx7

theorem tearPatina_fr {c r : Nat} {s0 : State} {p0} (hc : c ||| 68786585600 = c) (hr : r ||| 0 = r) (h0 : Fr0 c r s0 p0) :
    Fr0 c r s0 (tearPatina p0) := by
  unfold tearPatina
  extract_lets +onlyGivenNames -merge -useContext -underBinder x0
  try clear_value x0
  refine State.drawFree_fr (su rfl hc) (su rfl hr) ?_
  refine fr_nor (su rfl hc) ?_
  exact h0

theorem tearBronze_fr {c r : Nat} {s0 : State} {p0} (hc : c ||| 68786585600 = c) (hr : r ||| 0 = r) (h0 : Fr0 c r s0 p0) :
    Fr0 c r s0 (tearBronze p0) := by
  unfold tearBronze
  extract_lets +onlyGivenNames -merge -useContext -underBinder x0
  try clear_value x0
  extract_lets +onlyGivenNames -merge -useContext -underBinder x1
  try clear_value x1
  extract_lets +onlyGivenNames -merge -useContext -underBinder x2
  try clear_value x2
  refine State.drawFree_fr (su rfl hc) (su rfl hr) ?_
  refine fr_nor (su rfl hc) ?_
  exact h0

theorem tearNor_fr {c r : Nat} {s0 : State} {p0} (hc : c ||| 68786585600 = c) (hr : r ||| 0 = r) (h0 : Fr0 c r s0 p0) :
    Fr0 c r s0 (tearNor p0) := by
  unfold tearNor
  extract_lets +onlyGivenNames -merge -useContext -underBinder x0
  try clear_value x0
  extract_lets +onlyGivenNames -merge -useContext -underBinder x1
  try clear_value x1
  extract_lets +onlyGivenNames -merge -useContext -underBinder x2
  have hx3 : Fr0 c r s0 x2 := by
    refine fr_nor (su rfl hc) ?_
    exact h0
  try clear_value x2
  extract_lets +onlyGivenNames -merge -useContext -underBinder x4
  have hx5 : Fr0 c r s0 x4 := by
    refine fr0_ite (fun _ => ?_) (fun _ => ?_)
    ·
      refine tearPatina_fr (su rfl hc) (su rfl hr) ?_
      exact hx3
    ·
      exact hx3
  try clear_value x4
  refine fr0_ite (fun _ => ?_) (fun _ => ?_)
  ·
    refine tearBronze_fr (su rfl hc) (su rfl hr) ?_
    exact hx5
  ·
    exact hx5

theorem State.resetEffects_fr {c r : Nat} {s0 : State} {p0} (hc : c ||| 93625254064 = c) (hr : r ||| 594249904483210205445557583872 = r) (h0 : Fr0 c r s0 p0) :
    Fr0 c r s0 (State.resetEffects p0) := by
  unfold State.resetEffects
  extract_lets +onlyGivenNames -merge -useContext -underBinder x0
  have hx1 : Fr0 c r s0 x0 := by
    refine fr0_foldl (fun ha2s _ ha2 => ?_) ?_
    ·
      refine State.dropAsk_fr (su rfl hc) (su rfl hr) ?_
      exact ha2
    ·
      exact h0
  try clear_value x0
  extract_lets +onlyGivenNames -merge -useContext -underBinder x3
  try clear_value x3
  extract_lets +onlyGivenNames -merge -useContext -underBinder x4
  try clear_value x4
  extract_lets +onlyGivenNames -merge -useContext -underBinder x5
  have hx6 : Fr0 c r s0 x5 := by
    refine fr_cfg (su rfl hc) ?_
    exact hx1
  try clear_value x5
  extract_lets +onlyGivenNames -merge -useContext -underBinder x7
  have hx8 : Fr0 c r s0 x7 := by
    refine fr0_ite (fun _ => ?_) (fun _ => ?_)
    ·
      refine State.refuseSwap_fr (su rfl hc) (su rfl hr) ?_
      exact hx6
    ·
      exact hx6
  try clear_value x7
  extract_lets +onlyGivenNames -merge -useContext -underBinder x9
  have hx10 : Fr0 c r s0 x9 := by
    refine State.put_fr (su rfl hc) (su rfl hr) ?_ ?_
    ·
      refine State.modDict_fr (su rfl hc) (su rfl hr) ?_
      exact hx8
    ·
      exact O.dictDomainOpen_ok (su rfl hr)
  try clear_value x9
  extract_lets +onlyGivenNames -merge -useContext -underBinder x11
  have hx12 : Fr0 c r s0 x11 := by
    refine tearNor_fr (su rfl hc) (su rfl hr) ?_
    exact hx10
  try clear_value x11
  extract_lets +onlyGivenNames -merge -useContext -underBinder x13
  have hx14 : Fr0 c r s0 x13 := by
    refine fr0_ite (fun _ => ?_) (fun _ => ?_)
    ·
      refine State.put_fr (su rfl hc) (su rfl hr) ?_ ?_
      ·
        exact hx12
      ·
        exact O.patinaStoreState_ok (su rfl hr)
    ·
      exact hx12
  try clear_value x13
  extract_lets +onlyGivenNames -merge -useContext -underBinder x15
  have hx16 : Fr0 c r s0 x15 := by
    refine fr0_ite (fun _ => ?_) (fun _ => ?_)
    ·
      refine State.put_fr (su rfl hc) (su rfl hr) ?_ ?_
      ·
        exact hx14
      ·
        exact O.cfgStoreState_ok (su rfl hr)
    ·
      exact hx14
  try clear_value x15
  extract_lets +onlyGivenNames -merge -useContext -underBinder x17
  have hx18 : Fr0 c r s0 x17 := by
    refine fr0_ite (fun _ => ?_) (fun _ => ?_)
    ·
      refine State.modAtl_fr (su rfl hc) (su rfl hr) ?_
      refine State.put_fr (su rfl hc) (su rfl hr) ?_ ?_
      ·
        exact hx16
      ·
        exact O.updateState_ok (su rfl hr)
    ·
      exact hx16
  try clear_value x17
  extract_lets +onlyGivenNames -merge -useContext -underBinder x19
  have hx20 : Fr0 c r s0 x19 := by
    refine fr0_foldl (fun ha21s _ ha21 => ?_) ?_
    ·
      refine fr0_ite (fun _ => ?_) (fun _ => ?_)
      ·
        exact ha21
      ·
        refine State.dropMaster_fr (su rfl hc) (su rfl hr) ?_
        exact ha21
    ·
      exact hx18
  try clear_value x19
  refine State.modAtl_fr (su rfl hc) (su rfl hr) ?_
  exact hx20

theorem State.warmReset_fr {c r : Nat} {s0 : State} {p0} {p1} {p2} (hc : c ||| 102484689072 = c) (hr : r ||| 632626352617984892346950221824 = r) (h0 : Fr0 c r s0 p0) :
    Fr0 c r s0 (State.warmReset p0 p1 p2) := by
  unfold State.warmReset
  extract_lets +onlyGivenNames -merge -useContext -underBinder x0
  extract_lets +onlyGivenNames -merge -useContext -underBinder x1
  have hx2 : Fr0 c r s0 x1 := by
    refine State.bump_fr (su rfl hc) (su rfl hr) ?_ ?_
    ·
      refine State.put_fr (su rfl hc) (su rfl hr) ?_ ?_
      ·
        refine State.put_fr (su rfl hc) (su rfl hr) ?_ ?_
        ·
          exact h0
        ·
          exact O.atlLastResetCause_ok (su rfl hr)
      ·
        exact O.atlState_ok (su rfl hr)
    ·
      exact O.warmResetCount_ok (su rfl hr)
  try clear_value x1
  extract_lets +onlyGivenNames -merge -useContext -underBinder x3
  have hx4 : Fr0 c r s0 x3 := by
    refine fr0_ite (fun _ => ?_) (fun _ => ?_)
    ·
      refine State.bump_fr (su rfl hc) (su rfl hr) ?_ ?_
      ·
        exact hx2
      ·
        exact O.lockstepCount_ok (su rfl hr)
    ·
      exact hx2
  try clear_value x3
  extract_lets +onlyGivenNames -merge -useContext -underBinder x5
  have hx6 : Fr0 c r s0 x5 := by
    refine fr0_ite (fun _ => ?_) (fun _ => ?_)
    ·
      refine State.raise_fr (su rfl hc) (su rfl hr) ?_
      refine State.put_fr (su rfl hc) (su rfl hr) ?_ ?_
      ·
        refine State.modAtl_fr (su rfl hc) (su rfl hr) ?_
        exact hx4
      ·
        exact O.atlLastStatus_ok (su rfl hr)
    ·
      refine fr0_ite (fun _ => ?_) (fun _ => ?_)
      ·
        refine State.atlNote_fr (su rfl hc) (su rfl hr) ?_
        exact hx4
      ·
        exact hx4
  try clear_value x5
  extract_lets +onlyGivenNames -merge -useContext -underBinder x7
  have hx8 : Fr0 c r s0 x7 := by
    refine State.resetEffects_fr (su rfl hc) (su rfl hr) ?_
    refine State.modAtl_fr (su rfl hc) (su rfl hr) ?_
    exact hx6
  try clear_value x7
  refine fr_pln (su rfl hc) ?_
  exact hx8

theorem atlWarmResetWrite_fr {c r : Nat} {s0 : State} {p0} (hc : c ||| 102484689072 = c) (hr : r ||| 632626352617984892346950221824 = r) (h0 : Fr0 c r s0 p0) :
    Fr2 c r s0 (atlWarmResetWrite p0) := by
  unfold atlWarmResetWrite
  refine fr2_mk ?_
  refine State.warmReset_fr (su rfl hc) (su rfl hr) ?_
  exact h0

theorem State.maquetteReset_fr {c r : Nat} {s0 : State} {p0} (hc : c ||| 192 = c) (hr : r ||| 2417851639229258349412352 = r) (h0 : Fr0 c r s0 p0) :
    Fr2 c r s0 (State.maquetteReset p0) := by
  unfold State.maquetteReset
  refine fr2_ite (fun _ => ?_) (fun _ => ?_)
  ·
    refine fr2_mk ?_
    exact h0
  ·
    refine fr2_mk ?_
    extract_lets +onlyGivenNames -merge -useContext -underBinder x0
    have hx1 : Fr0 c r s0 x0 := by
      refine State.put_fr (su rfl hc) (su rfl hr) ?_ ?_
      ·
        exact h0
      ·
        exact O.cfgMaquetteDirty_ok (su rfl hr)
    try clear_value x0
    refine fr_raw (u := x0) rfl (fun k hk => by cases k <;> first | rfl | exact bitx hc (by decide) hk) ?_
    exact hx1

theorem storeConfig_fr {c r : Nat} {s0 : State} {p0} (hc : c ||| 134217728 = c) (hr : r ||| 158456325028528675187087900672 = r) (h0 : Fr0 c r s0 p0) :
    Fr2 c r s0 (storeConfig p0) := by
  unfold storeConfig
  refine fr2_ite (fun _ => ?_) (fun _ => ?_)
  ·
    refine fr2_mk ?_
    exact h0
  ·
    extract_lets +onlyGivenNames -merge -useContext -underBinder x0
    try clear_value x0
    extract_lets +onlyGivenNames -merge -useContext -underBinder x1
    try clear_value x1
    refine fr2_mk ?_
    refine State.modAtl_fr (su rfl hc) (su rfl hr) ?_
    refine State.put_fr (su rfl hc) (su rfl hr) ?_ ?_
    ·
      exact h0
    ·
      exact O.cfgStoreState_ok (su rfl hr)

theorem State.modNor_fr {c r : Nat} {s0 : State} {p0} {p1} (hc : c ||| 67108864 = c) (hr : r ||| 0 = r) (h0 : Fr0 c r s0 p0) :
    Fr0 c r s0 (State.modNor p0 p1) := by
  unfold State.modNor
  refine fr_nor (su rfl hc) ?_
  exact h0

theorem updateApplyWrite_fr {c r : Nat} {s0 : State} {p0} (hc : c ||| 102484689072 = c) (hr : r ||| 632626352617984892346950221824 = r) (h0 : Fr0 c r s0 p0) :
    Fr2 c r s0 (updateApplyWrite p0) := by
  unfold updateApplyWrite
  refine fr2_ite (fun _ => ?_) (fun _ => ?_)
  ·
    refine fr2_mk ?_
    exact h0
  ·
    extract_lets +onlyGivenNames -merge -useContext -underBinder x0
    have hx1 : Fr0 c r s0 x0 := by
      refine State.modNor_fr (su rfl hc) (su rfl hr) ?_
      exact h0
    try clear_value x0
    refine fr2_mk ?_
    refine State.warmReset_fr (su rfl hc) (su rfl hr) ?_
    refine State.put_fr (su rfl hc) (su rfl hr) ?_ ?_
    ·
      exact hx1
    ·
      exact O.updateState_ok (su rfl hr)

theorem State.plnNote_fr {c r : Nat} {s0 : State} {p0} {p1} {p2} (hc : c ||| 22548578304 = c) (hr : r ||| 633825300114114700748358942720 = r) (h0 : Fr0 c r s0 p0) :
    Fr0 c r s0 (State.plnNote p0 p1 p2) := by
  unfold State.plnNote
  refine State.note_fr (su rfl hc) (su rfl hr) ?_ ?_
  ·
    exact h0
  ·
    exact O.plinthLastResult_ok (su rfl hr)

theorem State.modPln_fr {c r : Nat} {s0 : State} {p0} {p1} (hc : c ||| 268435456 = c) (hr : r ||| 0 = r) (h0 : Fr0 c r s0 p0) :
    Fr0 c r s0 (State.modPln p0 p1) := by
  unfold State.modPln
  refine fr_pln (su rfl hc) ?_
  exact h0

theorem plinthStageWrite_fr {c r : Nat} {s0 : State} {p0} {p1} (hc : c ||| 22817013760 = c) (hr : r ||| 633825300114114700748358942720 = r) (h0 : Fr0 c r s0 p0) :
    Fr2 c r s0 (plinthStageWrite p0 p1) := by
  unfold plinthStageWrite
  extract_lets +onlyGivenNames -merge -useContext -underBinder x0
  try clear_value x0
  extract_lets +onlyGivenNames -merge -useContext -underBinder x1
  refine fr2_ite (fun _ => ?_) (fun _ => ?_)
  ·
    refine fr2_mk ?_
    refine State.plnNote_fr (su rfl hc) (su rfl hr) ?_
    exact h0
  ·
    refine fr2_mk ?_
    refine State.modPln_fr (su rfl hc) (su rfl hr) ?_
    exact h0

theorem plinthConfirmWrite_fr {c r : Nat} {s0 : State} {p0} {p1} (hc : c ||| 22817013760 = c) (hr : r ||| 633825300114114700748358942720 = r) (h0 : Fr0 c r s0 p0) :
    Fr2 c r s0 (plinthConfirmWrite p0 p1) := by
  unfold plinthConfirmWrite
  refine fr2_ite (fun _ => ?_) (fun _ => ?_)
  ·
    refine fr2_mk ?_
    refine State.plnNote_fr (su rfl hc) (su rfl hr) ?_
    exact h0
  ·
    refine fr2_ite (fun _ => ?_) (fun _ => ?_)
    ·
      refine fr2_mk ?_
      refine State.plnNote_fr (su rfl hc) (su rfl hr) ?_
      exact h0
    ·
      refine fr2_mk ?_
      refine State.modPln_fr (su rfl hc) (su rfl hr) ?_
      exact h0

theorem State.unstage_fr {c r : Nat} {s0 : State} {p0} (hc : c ||| 268435456 = c) (hr : r ||| 3802951800684688204490109616128 = r) (h0 : Fr0 c r s0 p0) :
    Fr0 c r s0 (State.unstage p0) := by
  unfold State.unstage
  refine State.modPln_fr (su rfl hc) (su rfl hr) ?_
  refine State.putO_fr (su rfl hc) (su rfl hr) ?_ ?_
  ·
    refine State.put_fr (su rfl hc) (su rfl hr) ?_ ?_
    ·
      exact h0
    ·
      exact O.plinthState_ok (su rfl hr)
  ·
    exact O.plinthStagedSet_ok (su rfl hr)

theorem plinthCancelWrite_fr {c r : Nat} {s0 : State} {p0} (hc : c ||| 22817013760 = c) (hr : r ||| 4436777100798802905238468558848 = r) (h0 : Fr0 c r s0 p0) :
    Fr2 c r s0 (plinthCancelWrite p0) := by
  unfold plinthCancelWrite
  split
  ·
    refine fr2_mk ?_
    refine State.plnNote_fr (su rfl hc) (su rfl hr) ?_
    refine State.unstage_fr (su rfl hc) (su rfl hr) ?_
    exact h0
  ·
    refine fr2_mk ?_
    refine State.plnNote_fr (su rfl hc) (su rfl hr) ?_
    exact h0
  ·
    refine fr2_mk ?_
    exact h0

theorem State.seekLease_fr {c r : Nat} {s0 : State} {p0} {p1} (hc : c ||| 8388608 = c) (hr : r ||| 0 = r) (h0 : Fr0 c r s0 p0) :
    Fr0 c r s0 (State.seekLease p0 p1) := by
  unfold State.seekLease
  refine fr0_ite (fun _ => ?_) (fun _ => ?_)
  ·
    refine State.queueTx_fr (su rfl hc) (su rfl hr) ?_
    exact h0
  ·
    exact h0

theorem State.probeAddrs_fr {c r : Nat} {s0 : State} {p0} {p1} (hc : c ||| 8388608 = c) (hr : r ||| 0 = r) (h0 : Fr0 c r s0 p0) :
    Fr0 c r s0 (State.probeAddrs p0 p1) := by
  unfold State.probeAddrs
  refine fr0_foldl (fun ha0s _ ha0 => ?_) ?_
  ·
    refine State.queueTx_fr (su rfl hc) (su rfl hr) ?_
    exact ha0
  ·
    exact h0

theorem State.addrChanged_fr {c r : Nat} {s0 : State} {p0} {p1} (hc : c ||| 8388608 = c) (hr : r ||| 0 = r) (h0 : Fr0 c r s0 p0) :
    Fr0 c r s0 (State.addrChanged p0 p1) := by
  unfold State.addrChanged
  extract_lets +onlyGivenNames -merge -useContext -underBinder x0
  have hx1 : Fr0 c r s0 x0 := by
    refine fr0_ite (fun _ => ?_) (fun _ => ?_)
    ·
      exact h0
    ·
      refine State.modNet_fr (su rfl hc) (su rfl hr) ?_
      exact h0
  try clear_value x0
  extract_lets +onlyGivenNames -merge -useContext -underBinder x2
  try clear_value x2
  extract_lets +onlyGivenNames -merge -useContext -underBinder x3
  have hx4 : Fr0 c r s0 x3 := by
    refine State.modNet_fr (su rfl hc) (su rfl hr) ?_
    exact hx1
  try clear_value x3
  refine fr0_ite (fun _ => ?_) (fun _ => ?_)
  ·
    refine State.seekLease_fr (su rfl hc) (su rfl hr) ?_
    refine State.probeAddrs_fr (su rfl hc) (su rfl hr) ?_
    exact hx4
  ·
    exact hx4

theorem State.joinGroups_fr {c r : Nat} {s0 : State} {p0} {p1} (hc : c ||| 8388608 = c) (hr : r ||| 0 = r) (h0 : Fr0 c r s0 p0) :
    Fr0 c r s0 (State.joinGroups p0 p1) := by
  unfold State.joinGroups
  split
  ·
    extract_lets +onlyGivenNames -merge -useContext -underBinder x0
    unfold x0; clear x0
    refine fr0_ite (fun _ => ?_) (fun _ => ?_)
    ·
      refine fr0_ite (fun _ => ?_) (fun _ => ?_)
      ·
        exact h0
      ·
        refine State.queueTx_fr (su rfl hc) (su rfl hr) ?_
        exact h0
    ·
      refine State.queueTx_fr (su rfl hc) (su rfl hr) ?_
      refine fr0_ite (fun _ => ?_) (fun _ => ?_)
      ·
        exact h0
      ·
        refine State.queueTx_fr (su rfl hc) (su rfl hr) ?_
        exact h0

theorem State.portWritten_fr {c r : Nat} {s0 : State} {p0} {p1} (hc : c ||| 8388608 = c) (hr : r ||| 0 = r) (h0 : Fr0 c r s0 p0) :
    Fr0 c r s0 (State.portWritten p0 p1) := by
  unfold State.portWritten
  refine fr0_ite (fun _ => ?_) (fun _ => ?_)
  ·
    exact h0
  ·
    extract_lets +onlyGivenNames -merge -useContext -underBinder x0
    refine fr0_ite (fun _ => ?_) (fun _ => ?_)
    ·
      refine State.addrChanged_fr (su rfl hc) (su rfl hr) ?_
      exact h0
    ·
      refine fr0_ite (fun _ => ?_) (fun _ => ?_)
      ·
        refine State.joinGroups_fr (su rfl hc) (su rfl hr) ?_
        exact h0
      ·
        exact h0

theorem State.writePlain_fr {c r : Nat} {s0 : State} {p0} {p1} {p2} (hc : c ||| 8389120 = c) (hr : r ||| 5070602400912917605986812821504 = r) (h0 : Fr0 c r s0 p0) (ho1 : Ok c r p1) :
    Fr2 c r s0 (State.writePlain p0 p1 p2) := by
  unfold State.writePlain
  extract_lets +onlyGivenNames -merge -useContext -underBinder x0
  try clear_value x0
  extract_lets +onlyGivenNames -merge -useContext -underBinder x1
  have hx2 : Fr0 c r s0 x1 := by
    refine State.putV_fr (su rfl hc) (su rfl hr) ?_ ?_
    ·
      exact h0
    ·
      exact ho1
  try clear_value x1
  split
  ·
    refine fr2_ite (fun _ => ?_) (fun _ => ?_)
    ·
      refine fr2_mk ?_
      refine State.put_fr (su rfl hc) (su rfl hr) ?_ ?_
      ·
        exact h0
      ·
        exact O.portLastStatus_ok (su rfl hr)
    ·
      refine fr2_mk ?_
      exact hx2
  ·
    split
    ·
      refine fr2_ite (fun _ => ?_) (fun _ => ?_)
      ·
        refine fr2_mk ?_
        exact h0
      ·
        refine fr2_mk ?_
        refine State.regateStream_fr (su rfl hc) (su rfl hr) ?_
        exact hx2
    ·
      refine fr2_ite (fun _ => ?_) (fun _ => ?_)
      ·
        refine fr2_mk ?_
        exact h0
      ·
        refine fr2_mk ?_
        exact hx2
    ·
      refine fr2_ite (fun _ => ?_) (fun _ => ?_)
      ·
        refine fr2_mk ?_
        exact h0
      ·
        refine fr2_mk ?_
        exact hx2
    ·
      refine fr2_ite (fun _ => ?_) (fun _ => ?_)
      ·
        refine fr2_mk ?_
        exact h0
      ·
        refine fr2_mk ?_
        exact hx2
    ·
      refine fr2_ite (fun _ => ?_) (fun _ => ?_)
      ·
        refine fr2_mk ?_
        exact h0
      ·
        refine fr2_mk ?_
        exact hx2
    ·
      refine fr2_ite (fun _ => ?_) (fun _ => ?_)
      ·
        refine fr2_mk ?_
        exact h0
      ·
        refine fr2_mk ?_
        exact hx2
    ·
      refine fr2_ite (fun _ => ?_) (fun _ => ?_)
      ·
        refine fr2_mk ?_
        exact h0
      ·
        refine fr2_mk ?_
        exact hx2
    ·
      refine fr2_mk ?_
      refine State.portWritten_fr (su rfl hc) (su rfl hr) ?_
      exact hx2

theorem State.writeCommand_fr {c r : Nat} {s0 : State} {p0} {p1} {p2} {p3} {p4} (hc : c ||| 103021593584 = c) (hr : r ||| 10141199951936434668332318982144 = r) (h0 : Fr0 c r s0 p0) (ho2 : Ok c r p2) :
    Fr2 c r s0 (State.writeCommand p0 p1 p2 p3 p4) := by
  unfold State.writeCommand
  split
  ·
    refine fr2_ite (fun _ => ?_) (fun _ => ?_)
    ·
      refine fr2_mk ?_
      refine State.putB_fr (su rfl hc) (su rfl hr) ?_ ?_
      ·
        exact h0
      ·
        exact O.vipexSecured_ok (su rfl hr)
    ·
      refine fr2_mk ?_
      exact h0
  ·
    refine fr2_ite (fun _ => ?_) (fun _ => ?_)
    ·
      refine fr2_mk ?_
      refine State.modDict_fr (su rfl hc) (su rfl hr) ?_
      exact h0
    ·
      refine fr2_mk ?_
      exact h0
  ·
    refine timeSetWrite_fr (su rfl hc) (su rfl hr) ?_
    exact h0
  ·
    refine timeAdjustWrite_fr (su rfl hc) (su rfl hr) ?_
    exact h0
  ·
    refine actionAddWrite_fr (su rfl hc) (su rfl hr) ?_
    exact h0
  ·
    refine actionCancelWrite_fr (su rfl hc) (su rfl hr) ?_
    exact h0
  ·
    refine storePatina_fr (su rfl hc) (su rfl hr) ?_
    exact h0
  ·
    refine State.captureStepWrite_fr (su rfl hc) (su rfl hr) ?_
    exact h0
  ·
    refine State.captureReportWrite_fr (su rfl hc) (su rfl hr) ?_
    exact h0
  ·
    refine clpCommandWrite_fr (su rfl hc) (su rfl hr) ?_
    exact h0
  ·
    refine fallbackReleaseWrite_fr (su rfl hc) (su rfl hr) ?_
    exact h0
  ·
    refine atlWarmResetWrite_fr (su rfl hc) (su rfl hr) ?_
    exact h0
  ·
    refine State.maquetteReset_fr (su rfl hc) (su rfl hr) ?_
    exact h0
  ·
    refine storeConfig_fr (su rfl hc) (su rfl hr) ?_
    exact h0
  ·
    refine updateApplyWrite_fr (su rfl hc) (su rfl hr) ?_
    exact h0
  ·
    refine plinthStageWrite_fr (su rfl hc) (su rfl hr) ?_
    exact h0
  ·
    refine plinthConfirmWrite_fr (su rfl hc) (su rfl hr) ?_
    exact h0
  ·
    refine plinthCancelWrite_fr (su rfl hc) (su rfl hr) ?_
    exact h0
  ·
    refine State.writePlain_fr (su rfl hc) (su rfl hr) ?_ ?_
    ·
      exact h0
    ·
      exact ho2

theorem State.writeEffect_fr {c r : Nat} {s0 : State} {p0} {p1} {p2} {p3} (hc : c ||| 103028671480 = c) (hr : r ||| 10141204801825835210736943366144 = r) (h0 : Fr0 c r s0 p0) (ho2 : Ok c r p2) :
    Fr2 c r s0 (State.writeEffect p0 p1 p2 p3) := by
  unfold State.writeEffect
  split
  ·
    refine fr2_mk ?_
    refine State.fnSwitch_fr (su rfl hc) (su rfl hr) ?_
    exact h0
  ·
    refine fr2_ite (fun _ => ?_) (fun _ => ?_)
    ·
      refine fr2_mk ?_
      refine State.putShadow_fr (su rfl hc) (su rfl hr) ?_
      exact h0
    ·
      refine fr2_ite (fun _ => ?_) (fun _ => ?_)
      ·
        refine ptpObjectWrite_fr (su rfl hc) (su rfl hr) ?_ ?_
        ·
          exact h0
        ·
          refine State.putV_fr (su rfl hc) (su rfl hr) ?_ ?_
          ·
            exact h0
          ·
            exact ho2
      ·
        refine State.writeCommand_fr (su rfl hc) (su rfl hr) ?_ ?_
        ·
          exact h0
        ·
          exact ho2

theorem State.serveWrite_fr {c r : Nat} {s0 : State} {p0} {p1} {p2} {p3} {p4} {p5} (hc : c ||| 103028671480 = c) (hr : r ||| 10141204801825835210736943366144 = r) (h0 : Fr0 c r s0 p0) :
    Fr0 c r s0 (State.serveWrite p0 p1 p2 p3 p4 p5) := by
  unfold State.serveWrite
  split
  ·
    refine State.answer_fr (su rfl hc) (su rfl hr) ?_
    exact h0
  ·
    refine fr0_ite (fun _ => ?_) (fun _ => ?_)
    ·
      refine State.requestSwap_fr (su rfl hc) (su rfl hr) ?_
      refine State.holdWindow_fr (su rfl hc) (su rfl hr) ?_
      exact h0
    ·
      refine fr0_ite (fun _ => ?_) (fun _ => ?_)
      ·
        refine State.waitCopy_fr (su rfl hc) (su rfl hr) ?_
        exact h0
      ·
        extract_lets +onlyGivenNames -merge -useContext -underBinder x0
        have hx1 : Fr2 c r s0 x0 := by
          refine State.writeEffect_fr (su rfl hc) (su rfl hr) ?_ ?_
          ·
            exact h0
          ·
            exact ok_all (su rfl hc) (su rfl hr)
        try clear_value x0
        refine State.answer_fr (su rfl hc) (su rfl hr) ?_
        refine to2 ?_
        exact hx1

theorem State.setTransfers_fr {c r : Nat} {s0 : State} {p0} {p1} (hc : c ||| 2147483648 = c) (hr : r ||| 79228162514264337593543950336 = r) (h0 : Fr0 c r s0 p0) :
    Fr0 c r s0 (State.setTransfers p0 p1) := by
  unfold State.setTransfers
  refine State.put_fr (su rfl hc) (su rfl hr) ?_ ?_
  ·
    refine State.modDict_fr (su rfl hc) (su rfl hr) ?_
    exact h0
  ·
    exact O.dictDomainOpen_ok (su rfl hr)

theorem State.serveOpen_fr {c r : Nat} {s0 : State} {p0} {p1} {p2} {p3} {p4} {p5} {p6} {p7} (hc : c ||| 24704450608 = c) (hr : r ||| 79228162514264338555623964672 = r) (h1 : Fr0 c r s0 p1) :
    Fr0 c r s0 (State.serveOpen p0 p1 p2 p3 p4 p5 p6 p7) := by
  unfold State.serveOpen
  split
  ·
    refine State.answer_fr (su rfl hc) (su rfl hr) ?_
    exact h1
  ·
    refine fr0_ite (fun _ => ?_) (fun _ => ?_)
    ·
      refine State.answer_fr (su rfl hc) (su rfl hr) ?_
      exact h1
    ·
      refine fr0_ite (fun _ => ?_) (fun _ => ?_)
      ·
        refine State.answer_fr (su rfl hc) (su rfl hr) ?_
        exact h1
      ·
        refine fr0_ite (fun _ => ?_) (fun _ => ?_)
        ·
          refine State.answer_fr (su rfl hc) (su rfl hr) ?_
          exact h1
        ·
          extract_lets +onlyGivenNames -merge -useContext -underBinder x0
          extract_lets +onlyGivenNames -merge -useContext -underBinder x1
          try clear_value x1
          extract_lets +onlyGivenNames -merge -useContext -underBinder x2
          try clear_value x2
          refine State.answer_fr (su rfl hc) (su rfl hr) ?_
          refine State.modDict_fr (su rfl hc) (su rfl hr) ?_
          refine State.setTransfers_fr (su rfl hc) (su rfl hr) ?_
          exact h1

theorem State.failAccess_fr {c r : Nat} {s0 : State} {p0} {p1} {p2} (hc : c ||| 24704450608 = c) (hr : r ||| 977649270784 = r) (h0 : Fr0 c r s0 p0) :
    Fr0 c r s0 (State.failAccess p0 p1 p2) := by
  unfold State.failAccess
  refine State.answer_fr (su rfl hc) (su rfl hr) ?_
  refine State.eccAll_fr (su rfl hc) (su rfl hr) ?_
  exact h0

theorem State.setTransfer_fr {c r : Nat} {s0 : State} {p0} {p1} (hc : c ||| 2147483648 = c) (hr : r ||| 79228162514264337593543950336 = r) (h0 : Fr0 c r s0 p0) :
    Fr0 c r s0 (State.setTransfer p0 p1) := by
  unfold State.setTransfer
  refine State.setTransfers_fr (su rfl hc) (su rfl hr) ?_
  exact h0

theorem State.serveData_fr {c r : Nat} {s0 : State} {p0} {p1} {p2} {p3} {p4} {p5} {p6} (hc : c ||| 24704450608 = c) (hr : r ||| 79228162514264338571193221120 = r) (h0 : Fr0 c r s0 p0) :
    Fr0 c r s0 (State.serveData p0 p1 p2 p3 p4 p5 p6) := by
  unfold State.serveData
  split
  ·
    refine State.answer_fr (su rfl hc) (su rfl hr) ?_
    exact h0
  ·
    refine fr0_ite (fun _ => ?_) (fun _ => ?_)
    ·
      refine State.answer_fr (su rfl hc) (su rfl hr) ?_
      exact h0
    ·
      refine fr0_ite (fun _ => ?_) (fun _ => ?_)
      ·
        refine State.failAccess_fr (su rfl hc) (su rfl hr) ?_
        exact h0
      ·
        extract_lets +onlyGivenNames -merge -useContext -underBinder x0
        try clear_value x0
        extract_lets +onlyGivenNames -merge -useContext -underBinder x1
        have hx2 : Fr0 c r s0 x1 := by
          refine State.setTransfer_fr (su rfl hc) (su rfl hr) ?_
          exact h0
        try clear_value x1
        refine fr0_ite (fun _ => ?_) (fun _ => ?_)
        ·
          refine State.answer_fr (su rfl hc) (su rfl hr) ?_
          exact hx2
        ·
          refine fr0_ite (fun _ => ?_) (fun _ => ?_)
          ·
            refine State.answer_fr (su rfl hc) (su rfl hr) ?_
            exact hx2
          ·
            refine fr0_ite (fun _ => ?_) (fun _ => ?_)
            ·
              extract_lets +onlyGivenNames -merge -useContext -underBinder x3
              refine State.answer_fr (su rfl hc) (su rfl hr) ?_
              refine State.setTransfer_fr (su rfl hc) (su rfl hr) ?_
              exact hx2
            ·
              refine fr0_ite (fun _ => ?_) (fun _ => ?_)
              ·
                refine State.answer_fr (su rfl hc) (su rfl hr) ?_
                exact hx2
              ·
                refine State.answer_fr (su rfl hc) (su rfl hr) ?_
                refine State.setTransfer_fr (su rfl hc) (su rfl hr) ?_
                exact hx2

theorem State.endTransfer_fr {c r : Nat} {s0 : State} {p0} {p1} (hc : c ||| 2147483648 = c) (hr : r ||| 79228162514264337593543950336 = r) (h0 : Fr0 c r s0 p0) :
    Fr0 c r s0 (State.endTransfer p0 p1) := by
  unfold State.endTransfer
  refine State.setTransfers_fr (su rfl hc) (su rfl hr) ?_
  exact h0

theorem updateClose_fr {c r : Nat} {s0 : State} {p0} {p1} (hc : c ||| 134217728 = c) (hr : r ||| 316912650057057350374175801344 = r) (h0 : Fr0 c r s0 p0) :
    Fr2 c r s0 (updateClose p0 p1) := by
  unfold updateClose
  refine fr2_ite (fun _ => ?_) (fun _ => ?_)
  ·
    refine fr2_mk ?_
    refine State.modAtl_fr (su rfl hc) (su rfl hr) ?_
    refine State.put_fr (su rfl hc) (su rfl hr) ?_ ?_
    ·
      exact h0
    ·
      exact O.updateState_ok (su rfl hr)
  ·
    refine fr2_mk ?_
    exact h0

theorem State.applyDomain_fr {c r : Nat} {s0 : State} {p0} {p1} {p2} (hc : c ||| 24838668528 = c) (hr : r ||| 396143230422960918188149178368 = r) (h0 : Fr0 c r s0 p0) :
    Fr0 c r s0 (State.applyDomain p0 p1 p2) := by
  unfold State.applyDomain
  extract_lets +onlyGivenNames -merge -useContext -underBinder x0
  have hx1 : Fr2 c r s0 x0 := by
    refine fr2_ite (fun _ => ?_) (fun _ => ?_)
    ·
      refine updateClose_fr (su rfl hc) (su rfl hr) ?_
      exact h0
    ·
      refine fr2_mk ?_
      refine State.putShadow_fr (su rfl hc) (su rfl hr) ?_
      exact h0
  try clear_value x0
  extract_lets +onlyGivenNames -merge -useContext -underBinder x2
  have hx3 : Fr0 c r s0 x2 := by
    refine fr0_ite (fun _ => ?_) (fun _ => ?_)
    ·
      refine State.setTransfers_fr (su rfl hc) (su rfl hr) ?_
      refine to2 ?_
      exact hx1
    ·
      refine to2 ?_
      exact hx1
  try clear_value x2
  refine State.answer_fr (su rfl hc) (su rfl hr) ?_
  exact hx3

theorem State.serveClose_fr {c r : Nat} {s0 : State} {p0} {p1} {p2} {p3} {p4} {p5} (hc : c ||| 24838668528 = c) (hr : r ||| 396143230422960918203718434816 = r) (h0 : Fr0 c r s0 p0) :
    Fr0 c r s0 (State.serveClose p0 p1 p2 p3 p4 p5) := by
  unfold State.serveClose
  split
  ·
    refine State.answer_fr (su rfl hc) (su rfl hr) ?_
    exact h0
  ·
    refine fr0_ite (fun _ => ?_) (fun _ => ?_)
    ·
      refine State.waitCopy_fr (su rfl hc) (su rfl hr) ?_
      exact h0
    ·
      extract_lets +onlyGivenNames -merge -useContext -underBinder x0
      have hx1 : Fr0 c r s0 x0 := by
        refine State.endTransfer_fr (su rfl hc) (su rfl hr) ?_
        exact h0
      try clear_value x0
      refine fr0_ite (fun _ => ?_) (fun _ => ?_)
      ·
        refine State.answer_fr (su rfl hc) (su rfl hr) ?_
        exact hx1
      ·
        refine fr0_ite (fun _ => ?_) (fun _ => ?_)
        ·
          refine State.answer_fr (su rfl hc) (su rfl hr) ?_
          exact hx1
        ·
          refine fr0_ite (fun _ => ?_) (fun _ => ?_)
          ·
            refine State.failAccess_fr (su rfl hc) (su rfl hr) ?_
            exact hx1
          ·
            refine fr0_ite (fun _ => ?_) (fun _ => ?_)
            ·
              refine State.answer_fr (su rfl hc) (su rfl hr) ?_
              exact hx1
            ·
              refine fr0_ite (fun _ => ?_) (fun _ => ?_)
              ·
                refine State.answer_fr (su rfl hc) (su rfl hr) ?_
                exact hx1
              ·
                refine fr0_ite (fun _ => ?_) (fun _ => ?_)
                ·
                  refine State.answer_fr (su rfl hc) (su rfl hr) ?_
                  exact hx1
                ·
                  refine State.applyDomain_fr (su rfl hc) (su rfl hr) ?_
                  exact hx1

theorem State.serveAbort_fr {c r : Nat} {s0 : State} {p0} {p1} {p2} (hc : c ||| 24704450608 = c) (hr : r ||| 79228162514264338624343441408 = r) (h0 : Fr0 c r s0 p0) :
    Fr0 c r s0 (State.serveAbort p0 p1 p2) := by
  unfold State.serveAbort
  refine fr0_ite (fun _ => ?_) (fun _ => ?_)
  ·
    refine State.answer_fr (su rfl hc) (su rfl hr) ?_
    exact h0
  ·
    refine State.answer_fr (su rfl hc) (su rfl hr) ?_
    refine State.put_fr (su rfl hc) (su rfl hr) ?_ ?_
    ·
      refine State.endTransfer_fr (su rfl hc) (su rfl hr) ?_
      exact h0
    ·
      exact O.dictLastStatus_ok (su rfl hr)

theorem State.serve_fr {c r : Nat} {s0 : State} {p0} {p1} {p2} {p3} (hc : c ||| 103028671480 = c) (hr : r ||| 10141204801825835211920743727104 = r) (h1 : Fr0 c r s0 p1) :
    Fr0 c r s0 (State.serve p0 p1 p2 p3) := by
  unfold State.serve
  extract_lets +onlyGivenNames -merge -useContext -underBinder x0
  refine fr0_ite (fun _ => ?_) (fun _ => ?_)
  ·
    refine fr0_ite (fun _ => ?_) (fun _ => ?_)
    ·
      refine State.answer_fr (su rfl hc) (su rfl hr) ?_
      exact h1
    ·
      refine State.dropAsk_fr (su rfl hc) (su rfl hr) ?_
      exact h1
  ·
    split
    ·
      refine State.answer_fr (su rfl hc) (su rfl hr) ?_
      exact h1
    ·
      split
      ·
        refine State.answer_fr (su rfl hc) (su rfl hr) ?_
        exact h1
      ·
        refine State.afterRead_fr (su rfl hc) (su rfl hr) ?_
        refine State.answer_fr (su rfl hc) (su rfl hr) ?_
        exact h1
    ·
      refine State.serveWrite_fr (su rfl hc) (su rfl hr) ?_
      exact h1
    ·
      refine State.serveOpen_fr (su rfl hc) (su rfl hr) ?_
      exact h1
    ·
      refine State.serveData_fr (su rfl hc) (su rfl hr) ?_
      exact h1
    ·
      refine State.serveClose_fr (su rfl hc) (su rfl hr) ?_
      exact h1
    ·
      refine State.serveAbort_fr (su rfl hc) (su rfl hr) ?_
      exact h1

theorem State.loadWindow_fr {c r : Nat} {s0 : State} {p0} {p1} (hc : c ||| 2147483648 = c) (hr : r ||| 0 = r) (h0 : Fr0 c r s0 p0) :
    Fr0 c r s0 (State.loadWindow p0 p1) := by
  unfold State.loadWindow
  refine State.modDict_fr (su rfl hc) (su rfl hr) ?_
  exact h0

theorem State.asked_fr {c r : Nat} {s0 : State} {p0} {p1} {p2} (hc : c ||| 2147483648 = c) (hr : r ||| 0 = r) (h0 : Fr0 c r s0 p0) :
    Fr0 c r s0 (State.asked p0 p1 p2) := by
  unfold State.asked
  refine fr0_ite (fun _ => ?_) (fun _ => ?_)
  ·
    refine State.loadWindow_fr (su rfl hc) (su rfl hr) ?_
    exact h0
  ·
    exact h0

theorem State.request_fr {c r : Nat} {s0 : State} {p0} {p1} {p2} (hc : c ||| 103028671480 = c) (hr : r ||| 10141204801825835211972283334656 = r) (h0 : Fr0 c r s0 p0) :
    Fr0 c r s0 (State.request p0 p1 p2) := by
  unfold State.request
  extract_lets +onlyGivenNames -merge -useContext -underBinder x0
  try clear_value x0
  refine fr0_ite (fun _ => ?_) (fun _ => ?_)
  ·
    refine State.turnAway_fr (su rfl hc) (su rfl hr) ?_
    exact h0
  ·
    refine State.serve_fr (su rfl hc) (su rfl hr) ?_
    refine State.asked_fr (su rfl hc) (su rfl hr) ?_
    exact h0

theorem rowWrite_fr {c r : Nat} {s0 : State} {p0} {p1} {p2} {p3} (hc : c ||| 103028671480 = c) (hr : r ||| 10141204801825835211972283334656 = r) (h0 : Fr0 c r s0 p0) :
    Fr0 c r s0 (rowWrite p0 p1 p2 p3) := by
  unfold rowWrite
  refine State.request_fr (su rfl hc) (su rfl hr) ?_
  exact h0

theorem execAtlWarmReset_fr {c r : Nat} {s0 t : State} {p0} {p1} (hc : c ||| 103028671480 = c) (hr : r ||| 10141204801825835211972283334656 = r) (h1 : Fr0 c r s0 p1) (ht : execAtlWarmReset p0 p1 = .next t) :
    Fr0 c r s0 t := by
  unfold execAtlWarmReset at ht
  injection ht with ht
  subst ht
  refine State.ifLive_fr (su rfl hc) (su rfl hr) ?_ ?_
  ·
    exact h1
  ·
    intro u0 hu1
    refine rowWrite_fr (su rfl hc) (su rfl hr) ?_
    exact hu1

theorem State.showFamilies_fr {c r : Nat} {s0 : State} {p0} (hc : c ||| 4194304 = c) (hr : r ||| 0 = r) (h0 : Fr0 c r s0 p0) :
    Fr0 c r s0 (State.showFamilies p0) := by
  unfold State.showFamilies
  refine fr_aud (su rfl hc) ?_
  exact h0

theorem cmdClockRestart_fr {c r : Nat} {s0 : State} {p0} {p1} (hc : c ||| 4194304 = c) (hr : r ||| 0 = r) (h0 : Fr0 c r s0 p0) :
    Fr0 c r s0 (cmdClockRestart p0 p1) := by
  unfold cmdClockRestart
  refine fr0_ite (fun _ => ?_) (fun _ => ?_)
  ·
    exact h0
  ·
    extract_lets +onlyGivenNames -merge -useContext -underBinder x0
    try clear_value x0
    extract_lets +onlyGivenNames -merge -useContext -underBinder x1
    have hx2 : Fr0 c r s0 x1 := by
      refine fr_aud (su rfl hc) ?_
      exact h0
    try clear_value x1
    refine State.showFamilies_fr (su rfl hc) (su rfl hr) ?_
    refine State.restartPort_fr (su rfl hc) (su rfl hr) ?_
    refine State.restartPort_fr (su rfl hc) (su rfl hr) ?_
    exact hx2

theorem execAudClockRestart_fr {c r : Nat} {s0 t : State} {p0} {p1} (hc : c ||| 4194304 = c) (hr : r ||| 0 = r) (h1 : Fr0 c r s0 p1) (ht : execAudClockRestart p0 p1 = .next t) :
    Fr0 c r s0 t := by
  unfold execAudClockRestart at ht
  injection ht with ht
  subst ht
  refine State.ifLive_fr (su rfl hc) (su rfl hr) ?_ ?_
  ·
    exact h1
  ·
    intro u0 hu1
    refine cmdClockRestart_fr (su rfl hc) (su rfl hr) ?_
    exact hu1

theorem cmdPhaseMeasure_fr {c r : Nat} {s0 : State} {p0} {p1} {p2} (hc : c ||| 4194304 = c) (hr : r ||| 10141204801825835214172648898560 = r) (h0 : Fr0 c r s0 p0) :
    Fr0 c r s0 (cmdPhaseMeasure p0 p1 p2) := by
  unfold cmdPhaseMeasure
  refine fr0_ite (fun _ => ?_) (fun _ => ?_)
  ·
    exact h0
  ·
    extract_lets +onlyGivenNames -merge -useContext -underBinder x0
    have hx1 : Fr0 c r s0 x0 := by
      refine State.put_fr (su rfl hc) (su rfl hr) ?_ ?_
      ·
        exact h0
      ·
        exact O.audPhaseError_ok (su rfl hr)
    try clear_value x0
    extract_lets +onlyGivenNames -merge -useContext -underBinder x2
    try clear_value x2
    extract_lets +onlyGivenNames -merge -useContext -underBinder x3
    extract_lets +onlyGivenNames -merge -useContext -underBinder x4
    extract_lets +onlyGivenNames -merge -useContext -underBinder x5
    have hx6 : Fr0 c r s0 x5 := by
      refine State.modPort_fr (su rfl hc) (su rfl hr) ?_
      exact hx1
    try clear_value x5
    refine fr0_ite (fun _ => ?_) (fun _ => ?_)
    ·
      refine State.audFlag_fr (su rfl hc) (su rfl hr) ?_
      exact hx6
    ·
      refine fr0_ite (fun _ => ?_) (fun _ => ?_)
      ·
        refine State.audFlag_fr (su rfl hc) (su rfl hr) ?_
        exact hx6
      ·
        exact hx6

theorem execAudPhaseMeasure_fr {c r : Nat} {s0 t : State} {p0} {p1} {p2} (hc : c ||| 4194304 = c) (hr : r ||| 10141204801825835214172648898560 = r) (h2 : Fr0 c r s0 p2) (ht : execAudPhaseMeasure p0 p1 p2 = .next t) :
    Fr0 c r s0 t := by
  unfold execAudPhaseMeasure at ht
  injection ht with ht
  subst ht
  refine State.ifLive_fr (su rfl hc) (su rfl hr) ?_ ?_
  ·
    exact h2
  ·
    intro u0 hu1
    refine cmdPhaseMeasure_fr (su rfl hc) (su rfl hr) ?_
    exact hu1

theorem State.startClocks_fr {c r : Nat} {s0 : State} {p0} {p1} (hc : c ||| 4194304 = c) (hr : r ||| 0 = r) (h0 : Fr0 c r s0 p0) :
    Fr0 c r s0 (State.startClocks p0 p1) := by
  unfold State.startClocks
  extract_lets +onlyGivenNames -merge -useContext -underBinder x0
  extract_lets +onlyGivenNames -merge -useContext -underBinder x1
  try clear_value x1
  extract_lets +onlyGivenNames -merge -useContext -underBinder x2
  have hx3 : Fr0 c r s0 x2 := by
    refine fr0_ite (fun _ => ?_) (fun _ => ?_)
    ·
      exact h0
    ·
      refine fr_aud (su rfl hc) ?_
      exact h0
  try clear_value x2
  refine State.showFamilies_fr (su rfl hc) (su rfl hr) ?_
  refine State.modPort_fr (su rfl hc) (su rfl hr) ?_
  exact hx3

theorem cmdAudStartDone_fr {c r : Nat} {s0 : State} {p0} {p1} (hc : c ||| 4194304 = c) (hr : r ||| 72057594037927936 = r) (h0 : Fr0 c r s0 p0) :
    Fr0 c r s0 (cmdAudStartDone p0 p1) := by
  unfold cmdAudStartDone
  refine fr0_ite (fun _ => ?_) (fun _ => ?_)
  ·
    exact h0
  ·
    refine State.put_fr (su rfl hc) (su rfl hr) ?_ ?_
    ·
      refine State.restartPort_fr (su rfl hc) (su rfl hr) ?_
      refine State.startClocks_fr (su rfl hc) (su rfl hr) ?_
      exact h0
    ·
      exact O.audPortState_ok (su rfl hr)

theorem execAudPortStartDone_fr {c r : Nat} {s0 t : State} {p0} {p1} (hc : c ||| 4194304 = c) (hr : r ||| 72057594037927936 = r) (h1 : Fr0 c r s0 p1) (ht : execAudPortStartDone p0 p1 = .next t) :
    Fr0 c r s0 t := by
  unfold execAudPortStartDone at ht
  injection ht with ht
  subst ht
  refine State.ifLive_fr (su rfl hc) (su rfl hr) ?_ ?_
  ·
    exact h1
  ·
    intro u0 hu1
    refine cmdAudStartDone_fr (su rfl hc) (su rfl hr) ?_
    exact hu1

theorem State.fnStopped_fr {c r : Nat} {s0 : State} {p0} {p1} {p2} (hc : c ||| 31142494984 = c) (hr : r ||| 9444730713939484213248 = r) (h0 : Fr0 c r s0 p0) (hf2 : ∀ (y0 : State), Fr0 c r s0 y0 → Fr0 c r s0 (p2 y0)) :
    Fr0 c r s0 (State.fnStopped p0 p1 p2) := by
  unfold State.fnStopped
  extract_lets +onlyGivenNames -merge -useContext -underBinder x0
  try clear_value x0
  extract_lets +onlyGivenNames -merge -useContext -underBinder x1
  have hx2 : Fr0 c r s0 x1 := by
    refine State.put_fr (su rfl hc) (su rfl hr) ?_ ?_
    ·
      exact h0
    ·
      exact Fn.stateObj_ok (su rfl hr)
  try clear_value x1
  extract_lets +onlyGivenNames -merge -useContext -underBinder x3
  have hx4 : Fr0 c r s0 x3 := by
    refine fr_held (su rfl hc) ?_
    exact hx2
  try clear_value x3
  refine fr0_ite (fun _ => ?_) (fun _ => ?_)
  ·
    refine State.fnStarting_fr (su rfl hc) (su rfl hr) ?_
    exact hx4
  ·
    refine hf2 _ ?_
    ·
      exact hx4

theorem State.stopClocks_fr {c r : Nat} {s0 : State} {p0} {p1} (hc : c ||| 4194304 = c) (hr : r ||| 0 = r) (h0 : Fr0 c r s0 p0) :
    Fr0 c r s0 (State.stopClocks p0 p1) := by
  unfold State.stopClocks
  extract_lets +onlyGivenNames -merge -useContext -underBinder x0
  extract_lets +onlyGivenNames -merge -useContext -underBinder x1
  extract_lets +onlyGivenNames -merge -useContext -underBinder x2
  have hx3 : Fr0 c r s0 x2 := by
    refine State.modPort_fr (su rfl hc) (su rfl hr) ?_
    exact h0
  try clear_value x2
  extract_lets +onlyGivenNames -merge -useContext -underBinder x4
  try clear_value x4
  extract_lets +onlyGivenNames -merge -useContext -underBinder x5
  have hx6 : Fr0 c r s0 x5 := by
    refine fr0_ite (fun _ => ?_) (fun _ => ?_)
    ·
      exact hx3
    ·
      refine fr_aud (su rfl hc) ?_
      exact hx3
  try clear_value x5
  refine State.showFamilies_fr (su rfl hc) (su rfl hr) ?_
  exact hx6

theorem cmdAudPortStopDone_fr {c r : Nat} {s0 : State} {p0} {p1} (hc : c ||| 31146689288 = c) (hr : r ||| 9444730713939484213248 = r) (h0 : Fr0 c r s0 p0) :
    Fr0 c r s0 (cmdAudPortStopDone p0 p1) := by
  unfold cmdAudPortStopDone
  refine fr0_ite (fun _ => ?_) (fun _ => ?_)
  ·
    exact h0
  ·
    refine State.fnStopped_fr (su rfl hc) (su rfl hr) ?_ ?_
    ·
      refine State.stopClocks_fr (su rfl hc) (su rfl hr) ?_
      exact h0
    ·
      intro u0 hu1
      refine fr0_ite (fun _ => ?_) (fun _ => ?_)
      ·
        refine State.gateIsl_fr (su rfl hc) (su rfl hr) ?_
        exact hu1
      ·
        exact hu1

theorem execAudPortStopDone_fr {c r : Nat} {s0 t : State} {p0} {p1} (hc : c ||| 31146689288 = c) (hr : r ||| 9444730713939484213248 = r) (h1 : Fr0 c r s0 p1) (ht : execAudPortStopDone p0 p1 = .next t) :
    Fr0 c r s0 t := by
  unfold execAudPortStopDone at ht
  injection ht with ht
  subst ht
  refine State.ifLive_fr (su rfl hc) (su rfl hr) ?_ ?_
  ·
    exact h1
  ·
    intro u0 hu1
    refine cmdAudPortStopDone_fr (su rfl hc) (su rfl hr) ?_
    exact hu1

theorem State.sendZero_fr {c r : Nat} {s0 : State} {p0} {p1} (hc : c ||| 17179869184 = c) (hr : r ||| 0 = r) (h0 : Fr0 c r s0 p0) :
    Fr0 c r s0 (State.sendZero p0 p1) := by
  unfold State.sendZero
  refine State.emit_fr (su rfl hc) (su rfl hr) ?_
  exact h0

theorem State.audNote_fr {c r : Nat} {s0 : State} {p0} {p1} {p2} (hc : c ||| 22548578304 = c) (hr : r ||| 20282409603651670423947258626048 = r) (h0 : Fr0 c r s0 p0) :
    Fr0 c r s0 (State.audNote p0 p1 p2) := by
  unfold State.audNote
  refine State.note_fr (su rfl hc) (su rfl hr) ?_ ?_
  ·
    exact h0
  ·
    exact O.audLastStatus_ok (su rfl hr)

theorem State.emptySlot_fr {c r : Nat} {s0 : State} {p0} {p1} {p2} (hc : c ||| 22552772608 = c) (hr : r ||| 60847228810955011274040784453632 = r) (h0 : Fr0 c r s0 p0) :
    Fr0 c r s0 (State.emptySlot p0 p1 p2) := by
  unfold State.emptySlot
  extract_lets +onlyGivenNames -merge -useContext -underBinder x0
  try clear_value x0
  extract_lets +onlyGivenNames -merge -useContext -underBinder x1
  have hx2 : Fr0 c r s0 x1 := by
    refine fr0_ite (fun _ => ?_) (fun _ => ?_)
    ·
      refine State.audNote_fr (su rfl hc) (su rfl hr) ?_
      refine State.bump_fr (su rfl hc) (su rfl hr) ?_ ?_
      ·
        refine State.audFlag_fr (su rfl hc) (su rfl hr) ?_
        refine State.modPort_fr (su rfl hc) (su rfl hr) ?_
        exact h0
      ·
        exact O.audUnderrunCount_ok (su rfl hr)
    ·
      exact h0
  try clear_value x1
  refine State.sendZero_fr (su rfl hc) (su rfl hr) ?_
  exact hx2

theorem State.sendFrame_fr {c r : Nat} {s0 : State} {p0} {p1} {p2} {p3} (hc : c ||| 17179869184 = c) (hr : r ||| 0 = r) (h0 : Fr0 c r s0 p0) :
    Fr0 c r s0 (State.sendFrame p0 p1 p2 p3) := by
  unfold State.sendFrame
  extract_lets +onlyGivenNames -merge -useContext -underBinder x0
  refine State.emit_fr (su rfl hc) (su rfl hr) ?_
  exact h0

theorem State.modStream_fr {c r : Nat} {s0 : State} {p0} {p1} {p2} (hc : c ||| 4194304 = c) (hr : r ||| 0 = r) (h0 : Fr0 c r s0 p0) :
    Fr0 c r s0 (State.modStream p0 p1 p2) := by
  unfold State.modStream
  refine fr_aud (su rfl hc) ?_
  exact h0

theorem State.clearValid_fr {c r : Nat} {s0 : State} {p0} {p1} {p2} {p3} (hc : c ||| 4194304 = c) (hr : r ||| 0 = r) (h0 : Fr0 c r s0 p0) :
    Fr0 c r s0 (State.clearValid p0 p1 p2 p3) := by
  unfold State.clearValid
  extract_lets +onlyGivenNames -merge -useContext -underBinder x0
  try clear_value x0
  extract_lets +onlyGivenNames -merge -useContext -underBinder x1
  try clear_value x1
  refine State.modStream_fr (su rfl hc) (su rfl hr) ?_
  exact h0

theorem State.presentFrame_fr {c r : Nat} {s0 : State} {p0} {p1} {p2} {p3} {p4} (hc : c ||| 22552772608 = c) (hr : r ||| 20282409603651670426146281881600 = r) (h0 : Fr0 c r s0 p0) :
    Fr0 c r s0 (State.presentFrame p0 p1 p2 p3 p4) := by
  unfold State.presentFrame
  extract_lets +onlyGivenNames -merge -useContext -underBinder x0
  extract_lets +onlyGivenNames -merge -useContext -underBinder x1
  try clear_value x1
  extract_lets +onlyGivenNames -merge -useContext -underBinder x2
  have hx3 : Fr0 c r s0 x2 := by
    refine State.audFlag_fr (su rfl hc) (su rfl hr) ?_
    refine State.modPort_fr (su rfl hc) (su rfl hr) ?_
    exact h0
  try clear_value x2
  extract_lets +onlyGivenNames -merge -useContext -underBinder x4
  have hx5 : Fr0 c r s0 x4 := by
    refine fr0_ite (fun _ => ?_) (fun _ => ?_)
    ·
      refine State.audNote_fr (su rfl hc) (su rfl hr) ?_
      refine State.modPort_fr (su rfl hc) (su rfl hr) ?_
      exact hx3
    ·
      exact hx3
  try clear_value x4
  extract_lets +onlyGivenNames -merge -useContext -underBinder x6
  have hx7 : Fr0 c r s0 x6 := by
    refine fr0_ite (fun _ => ?_) (fun _ => ?_)
    ·
      refine State.sendZero_fr (su rfl hc) (su rfl hr) ?_
      exact hx3
    ·
      refine State.sendFrame_fr (su rfl hc) (su rfl hr) ?_
      exact hx5
  try clear_value x6
  refine State.clearValid_fr (su rfl hc) (su rfl hr) ?_
  exact hx7

theorem State.slotContent_fr {c r : Nat} {s0 : State} {p0} {p1} {p2} {p3} {p4} (hc : c ||| 22552772608 = c) (hr : r ||| 60847228810955011274056353710080 = r) (h0 : Fr0 c r s0 p0) :
    Fr0 c r s0 (State.slotContent p0 p1 p2 p3 p4) := by
  unfold State.slotContent
  extract_lets +onlyGivenNames -merge -useContext -underBinder x0
  refine fr0_ite (fun _ => ?_) (fun _ => ?_)
  ·
    refine State.sendZero_fr (su rfl hc) (su rfl hr) ?_
    refine State.audFlag_fr (su rfl hc) (su rfl hr) ?_
    refine State.audFlag_fr (su rfl hc) (su rfl hr) ?_
    exact h0
  ·
    refine fr0_ite (fun _ => ?_) (fun _ => ?_)
    ·
      refine State.sendZero_fr (su rfl hc) (su rfl hr) ?_
      refine State.audFlag_fr (su rfl hc) (su rfl hr) ?_
      refine State.audFlag_fr (su rfl hc) (su rfl hr) ?_
      refine fr0_ite (fun _ => ?_) (fun _ => ?_)
      ·
        exact h0
      ·
        refine State.audNote_fr (su rfl hc) (su rfl hr) ?_
        exact h0
    ·
      split
      ·
        refine State.emptySlot_fr (su rfl hc) (su rfl hr) ?_
        refine State.audFlag_fr (su rfl hc) (su rfl hr) ?_
        exact h0
      ·
        refine State.presentFrame_fr (su rfl hc) (su rfl hr) ?_
        split
        ·
          refine State.eccUncorrectable_fr (su rfl hc) (su rfl hr) ?_
          refine State.audFlag_fr (su rfl hc) (su rfl hr) ?_
          exact h0
        ·
          refine State.audFlag_fr (su rfl hc) (su rfl hr) ?_
          exact h0

theorem cmdSlotPresent_fr {c r : Nat} {s0 : State} {p0} {p1} {p2} {p3} (hc : c ||| 22569549832 = c) (hr : r ||| 60847228810955011274057427451904 = r) (h0 : Fr0 c r s0 p0) :
    Fr0 c r s0 (cmdSlotPresent p0 p1 p2 p3) := by
  unfold cmdSlotPresent
  extract_lets +onlyGivenNames -merge -useContext -underBinder x0
  refine fr0_ite (fun _ => ?_) (fun _ => ?_)
  ·
    exact h0
  ·
    refine fr0_ite (fun _ => ?_) (fun _ => ?_)
    ·
      refine State.sendZero_fr (su rfl hc) (su rfl hr) ?_
      refine State.startClocks_fr (su rfl hc) (su rfl hr) ?_
      exact h0
    ·
      refine fr0_ite (fun _ => ?_) (fun _ => ?_)
      ·
        refine State.emit_fr (su rfl hc) (su rfl hr) ?_
        refine State.modPort_fr (su rfl hc) (su rfl hr) ?_
        exact h0
      ·
        refine fr0_ite (fun _ => ?_) (fun _ => ?_)
        ·
          exact h0
        ·
          refine fr0_ite (fun _ => ?_) (fun _ => ?_)
          ·
            refine State.sendZero_fr (su rfl hc) (su rfl hr) ?_
            exact h0
          ·
            extract_lets +onlyGivenNames -merge -useContext -underBinder x1
            extract_lets +onlyGivenNames -merge -useContext -underBinder x2
            refine State.slotContent_fr (su rfl hc) (su rfl hr) ?_
            refine State.eccCorrected_fr (su rfl hc) (su rfl hr) ?_
            refine State.modPort_fr (su rfl hc) (su rfl hr) ?_
            refine State.reach_fr (su rfl hc) (su rfl hr) ?_
            exact h0

theorem execAudSlotPresent_fr {c r : Nat} {s0 t : State} {p0} {p1} {p2} {p3} (hc : c ||| 22569549832 = c) (hr : r ||| 60847228810955011274057427451904 = r) (h2 : Fr0 c r s0 p2) (ht : execAudSlotPresent p0 p1 p2 p3 = .next t) :
    Fr0 c r s0 t := by
  unfold execAudSlotPresent at ht
  injection ht with ht
  subst ht
  refine State.ifLive_fr (su rfl hc) (su rfl hr) ?_ ?_
  ·
    exact h2
  ·
    intro u0 hu1
    refine cmdSlotPresent_fr (su rfl hc) (su rfl hr) ?_
    exact hu1

theorem State.endSegment_fr {c r : Nat} {s0 : State} {p0} (hc : c ||| 4608 = c) (hr : r ||| 0 = r) (h0 : Fr0 c r s0 p0) :
    Fr0 c r s0 (State.endSegment p0) := by
  unfold State.endSegment
  refine State.regateStream_fr (su rfl hc) (su rfl hr) ?_
  refine State.modSdec_fr (su rfl hc) (su rfl hr) ?_
  exact h0

theorem State.sdecCode_fr {c r : Nat} {s0 : State} {p0} {p1} {p2} (hc : c ||| 4096 = c) (hr : r ||| 243388915243820045087367015432192 = r) (h0 : Fr0 c r s0 p0) :
    Fr0 c r s0 (State.sdecCode p0 p1 p2) := by
  unfold State.sdecCode
  extract_lets +onlyGivenNames -merge -useContext -underBinder x0
  try clear_value x0
  extract_lets +onlyGivenNames -merge -useContext -underBinder x1
  have hx2 : Fr0 c r s0 x1 := by
    refine fr_sdec (su rfl hc) ?_
    exact h0
  try clear_value x1
  refine fr0_ite (fun _ => ?_) (fun _ => ?_)
  ·
    refine State.put_fr (su rfl hc) (su rfl hr) ?_ ?_
    ·
      exact hx2
    ·
      exact O.sdecLastStatus_ok (su rfl hr)
  ·
    refine fr0_ite (fun _ => ?_) (fun _ => ?_)
    ·
      refine State.put_fr (su rfl hc) (su rfl hr) ?_ ?_
      ·
        exact hx2
      ·
        exact O.rrecLastStatus_ok (su rfl hr)
    ·
      exact hx2

theorem State.streamCode_fr {c r : Nat} {s0 : State} {p0} {p1} (hc : c ||| 4096 = c) (hr : r ||| 243388915243820045087367015432192 = r) (h0 : Fr0 c r s0 p0) :
    Fr0 c r s0 (State.streamCode p0 p1) := by
  unfold State.streamCode
  refine State.sdecCode_fr (su rfl hc) (su rfl hr) ?_
  exact h0

theorem State.nextSection_fr {c r : Nat} {s0 : State} {p0} {p1} (hc : c ||| 4608 = c) (hr : r ||| 0 = r) (h0 : Fr0 c r s0 p0) :
    Fr0 c r s0 (State.nextSection p0 p1) := by
  unfold State.nextSection
  extract_lets +onlyGivenNames -merge -useContext -underBinder x0
  have hx1 : Fr0 c r s0 x0 := by
    refine State.modSdec_fr (su rfl hc) (su rfl hr) ?_
    exact h0
  try clear_value x0
  refine fr0_ite (fun _ => ?_) (fun _ => ?_)
  ·
    refine State.endSegment_fr (su rfl hc) (su rfl hr) ?_
    exact hx1
  ·
    exact hx1

theorem State.withSection_fr {c r : Nat} {s0 : State} {p0} {p1} {p2} (hc : c ||| 4608 = c) (hr : r ||| 567907468902246771870523036008448 = r) (h0 : Fr0 c r s0 p0) (hf2 : ∀ (y0 : State) y1, Fr0 c r s0 y0 → Fr0 c r s0 (p2 y0 y1)) :
    Fr0 c r s0 (State.withSection p0 p1 p2) := by
  unfold State.withSection
  split
  ·
    exact h0
  ·
    refine fr0_ite (fun _ => ?_) (fun _ => ?_)
    ·
      exact h0
    ·
      extract_lets +onlyGivenNames -merge -useContext -underBinder x0
      refine fr0_ite (fun _ => ?_) (fun _ => ?_)
      ·
        refine State.endSegment_fr (su rfl hc) (su rfl hr) ?_
        refine State.streamCode_fr (su rfl hc) (su rfl hr) ?_
        exact h0
      ·
        extract_lets +onlyGivenNames -merge -useContext -underBinder x1
        try clear_value x1
        refine fr0_ite (fun _ => ?_) (fun _ => ?_)
        ·
          refine State.nextSection_fr (su rfl hc) (su rfl hr) ?_
          exact h0
        ·
          refine fr0_ite (fun _ => ?_) (fun _ => ?_)
          ·
            refine State.nextSection_fr (su rfl hc) (su rfl hr) ?_
            refine State.bump_fr (su rfl hc) (su rfl hr) ?_ ?_
            ·
              refine State.streamCode_fr (su rfl hc) (su rfl hr) ?_
              exact h0
            ·
              exact O.secCrcFailCount_ok (su rfl hr)
          ·
            refine fr0_ite (fun _ => ?_) (fun _ => ?_)
            ·
              refine State.nextSection_fr (su rfl hc) (su rfl hr) ?_
              refine State.streamCode_fr (su rfl hc) (su rfl hr) ?_
              exact h0
            ·
              refine State.nextSection_fr (su rfl hc) (su rfl hr) ?_
              refine hf2 _ _ ?_
              ·
                exact h0

theorem State.badSection_fr {c r : Nat} {s0 : State} {p0} (hc : c ||| 4096 = c) (hr : r ||| 243388915243820045087367015432192 = r) (h0 : Fr0 c r s0 p0) :
    Fr0 c r s0 (State.badSection p0) := by
  unfold State.badSection
  refine State.streamCode_fr (su rfl hc) (su rfl hr) ?_
  exact h0

theorem State.acceptSection_fr {c r : Nat} {s0 : State} {p0} (hc : c ||| 4096 = c) (hr : r ||| 0 = r) (h0 : Fr0 c r s0 p0) :
    Fr0 c r s0 (State.acceptSection p0) := by
  unfold State.acceptSection
  refine State.modSdec_fr (su rfl hc) (su rfl hr) ?_
  exact h0

theorem State.detectNonPcm_fr {c r : Nat} {s0 : State} {p0} {p1} {p2} {p3} {p4} (hc : c ||| 22552772608 = c) (hr : r ||| 20282409603651670423947258626048 = r) (h0 : Fr0 c r s0 p0) :
    Fr1 c r s0 (State.detectNonPcm p0 p1 p2 p3 p4) := by
  unfold State.detectNonPcm
  extract_lets +onlyGivenNames -merge -useContext -underBinder x0
  try clear_value x0
  refine fr1_ite (fun _ => ?_) (fun _ => ?_)
  ·
    extract_lets +onlyGivenNames -merge -useContext -underBinder x1
    have hx2 : Fr0 c r s0 x1 := by
      refine fr0_ite (fun _ => ?_) (fun _ => ?_)
      ·
        exact h0
      ·
        refine State.audNote_fr (su rfl hc) (su rfl hr) ?_
        exact h0
    try clear_value x1
    refine fr1_mk ?_
    refine State.modStream_fr (su rfl hc) (su rfl hr) ?_
    exact hx2
  ·
    refine fr1_ite (fun _ => ?_) (fun _ => ?_)
    ·
      refine fr1_mk ?_
      exact h0
    ·
      refine fr1_ite (fun _ => ?_) (fun _ => ?_)
      ·
        refine fr1_mk ?_
        refine State.modStream_fr (su rfl hc) (su rfl hr) ?_
        exact h0
      ·
        refine fr1_mk ?_
        refine State.modStream_fr (su rfl hc) (su rfl hr) ?_
        exact h0

theorem State.acceptSample_fr {c r : Nat} {s0 : State} {p0} {p1} {p2} {p3} {p4} {p5} {p6} {p7} (hc : c ||| 22552772608 = c) (hr : r ||| 669319516920505123990259299778560 = r) (h0 : Fr0 c r s0 p0) :
    Fr0 c r s0 (State.acceptSample p0 p1 p2 p3 p4 p5 p6 p7) := by
  unfold State.acceptSample
  split
  rename_i v1 v2 hq3
  have hp0 : Fr0 c r s0 v1 := by
    refine from1 hq3 ?_
    refine State.detectNonPcm_fr (su rfl hc) (su rfl hr) ?_
    exact h0
  clear hq3
  refine fr0_ite (fun _ => ?_) (fun _ => ?_)
  ·
    extract_lets +onlyGivenNames -merge -useContext -underBinder x4
    have hx5 : Fr0 c r s0 x4 := by
      refine fr0_foldl (fun ha6s _ ha6 => ?_) ?_
      ·
        refine State.bump_fr (su rfl hc) (su rfl hr) ?_ ?_
        ·
          exact ha6
        ·
          exact O.audLateDiscardCount_ok (su rfl hr)
      ·
        exact hp0
    try clear_value x4
    split
    ·
      refine fr0_ite (fun _ => ?_) (fun _ => ?_)
      ·
        exact hx5
      ·
        refine State.audNote_fr (su rfl hc) (su rfl hr) ?_
        refine State.modStream_fr (su rfl hc) (su rfl hr) ?_
        exact hx5
    ·
      refine State.audNote_fr (su rfl hc) (su rfl hr) ?_
      refine State.modStream_fr (su rfl hc) (su rfl hr) ?_
      exact hx5
  ·
    refine fr0_ite (fun _ => ?_) (fun _ => ?_)
    ·
      extract_lets +onlyGivenNames -merge -useContext -underBinder x7
      try clear_value x7
      refine fr0_ite (fun _ => ?_) (fun _ => ?_)
      ·
        refine State.audNote_fr (su rfl hc) (su rfl hr) ?_
        refine fr_aud (su rfl hc) ?_
        exact hp0
      ·
        exact hp0
    ·
      extract_lets +onlyGivenNames -merge -useContext -underBinder x8
      refine State.modStream_fr (su rfl hc) (su rfl hr) ?_
      exact hp0

theorem State.acceptSamples_fr {c r : Nat} {s0 p0 : State} {p1 p2 p3 p4 p5 p6 p7 p8} (hc : c ||| 22552772608 = c) (hr : r ||| 669319516920505123990259299778560 = r) (h0 : Fr0 c r s0 p0) :
    Fr0 c r s0 (State.acceptSamples p0 p1 p2 p3 p4 p5 p6 p7 p8) := by
  induction p6 generalizing p0 p7 p8 with
  | zero => exact h0
  | succ n ih => exact ih (State.acceptSample_fr hc hr h0)

theorem cmdAudioBlock_fr {c r : Nat} {s0 : State} {p0} (hc : c ||| 22552793600 = c) (hr : r ||| 1237226985822751895860782335852032 = r) (h0 : Fr0 c r s0 p0) :
    Fr0 c r s0 (cmdAudioBlock p0) := by
  unfold cmdAudioBlock
  refine State.withSection_fr (su rfl hc) (su rfl hr) ?_ ?_
  ·
    exact h0
  ·
    intro u0 u2 hu1
    refine fr0_ite (fun _ => ?_) (fun _ => ?_)
    ·
      refine State.badSection_fr (su rfl hc) (su rfl hr) ?_
      exact hu1
    ·
      extract_lets +onlyGivenNames -merge -useContext -underBinder x3
      extract_lets +onlyGivenNames -merge -useContext -underBinder x4
      extract_lets +onlyGivenNames -merge -useContext -underBinder x5
      extract_lets +onlyGivenNames -merge -useContext -underBinder x6
      have hx7 : Fr0 c r s0 x6 := by
        refine State.acceptSection_fr (su rfl hc) (su rfl hr) ?_
        exact hu1
      try clear_value x6
      extract_lets +onlyGivenNames -merge -useContext -underBinder x8
      have hx9 : Fr0 c r s0 x8 := by
        refine State.modStream_fr (su rfl hc) (su rfl hr) ?_
        exact hx7
      try clear_value x8
      refine State.settleRelief_fr (su rfl hc) (su rfl hr) ?_
      refine State.acceptSamples_fr (su rfl hc) (su rfl hr) ?_
      exact hx9

theorem execAudioBlock_fr {c r : Nat} {s0 t : State} {p0} (hc : c ||| 22552793600 = c) (hr : r ||| 1237226985822751895860782335852032 = r) (h0 : Fr0 c r s0 p0) (ht : execAudioBlock p0 = .next t) :
    Fr0 c r s0 t := by
  unfold execAudioBlock at ht
  injection ht with ht
  subst ht
  refine State.ifLive_fr (su rfl hc) (su rfl hr) ?_ ?_
  ·
    exact h0
  ·
    intro u0 hu1
    refine cmdAudioBlock_fr (su rfl hc) (su rfl hr) ?_
    exact hu1

theorem execCaptureReport_fr {c r : Nat} {s0 t : State} {p0} {p1} {p2} (hc : c ||| 103028671480 = c) (hr : r ||| 10141204801825835211972283334656 = r) (h2 : Fr0 c r s0 p2) (ht : execCaptureReport p0 p1 p2 = .next t) :
    Fr0 c r s0 t := by
  unfold execCaptureReport at ht
  injection ht with ht
  subst ht
  refine State.ifLive_fr (su rfl hc) (su rfl hr) ?_ ?_
  ·
    exact h2
  ·
    intro u0 hu1
    refine rowWrite_fr (su rfl hc) (su rfl hr) ?_
    exact hu1

theorem cmdCaptureStartCheck_fr {c r : Nat} {s0 : State} {p0} (hc : c ||| 22548611072 = c) (hr : r ||| 1298074293213903052929791805095936 = r) (h0 : Fr0 c r s0 p0) :
    Fr0 c r s0 (cmdCaptureStartCheck p0) := by
  unfold cmdCaptureStartCheck
  refine fr0_ite (fun _ => ?_) (fun _ => ?_)
  ·
    exact h0
  ·
    split
    ·
      refine State.refreshCal_fr (su rfl hc) (su rfl hr) ?_
      refine State.post_fr (su rfl hc) (su rfl hr) ?_
      refine State.put_fr (su rfl hc) (su rfl hr) ?_ ?_
      ·
        refine State.putB_fr (su rfl hc) (su rfl hr) ?_ ?_
        ·
          refine State.put_fr (su rfl hc) (su rfl hr) ?_ ?_
          ·
            exact h0
          ·
            exact O.captureState_ok (su rfl hr)
        ·
          exact O.captureEnable_ok (su rfl hr)
      ·
        exact O.captureResult_ok (su rfl hr)
    ·
      extract_lets +onlyGivenNames -merge -useContext -underBinder x0
      have hx1 : Fr0 c r s0 x0 := by
        refine State.put_fr (su rfl hc) (su rfl hr) ?_ ?_
        ·
          exact h0
        ·
          exact O.captureRunId_ok (su rfl hr)
      try clear_value x0
      extract_lets +onlyGivenNames -merge -useContext -underBinder x2
      have hx3 : Fr0 c r s0 x2 := by
        refine State.put_fr (su rfl hc) (su rfl hr) ?_ ?_
        ·
          refine State.put_fr (su rfl hc) (su rfl hr) ?_ ?_
          ·
            exact hx1
          ·
            exact O.captureConfirmed_ok (su rfl hr)
        ·
          exact O.captureState_ok (su rfl hr)
      try clear_value x2
      refine State.refreshCal_fr (su rfl hc) (su rfl hr) ?_
      refine State.modCap_fr (su rfl hc) (su rfl hr) ?_
      exact hx3

theorem execCaptureStartCheck_fr {c r : Nat} {s0 t : State} {p0} (hc : c ||| 22548611072 = c) (hr : r ||| 1298074293213903052929791805095936 = r) (h0 : Fr0 c r s0 p0) (ht : execCaptureStartCheck p0 = .next t) :
    Fr0 c r s0 t := by
  unfold execCaptureStartCheck at ht
  injection ht with ht
  subst ht
  refine State.ifLive_fr (su rfl hc) (su rfl hr) ?_ ?_
  ·
    exact h0
  ·
    intro u0 hu1
    refine cmdCaptureStartCheck_fr (su rfl hc) (su rfl hr) ?_
    exact hu1

theorem execCaptureStep_fr {c r : Nat} {s0 t : State} {p0} {p1} {p2} (hc : c ||| 103028671480 = c) (hr : r ||| 10141204801825835211972283334656 = r) (h2 : Fr0 c r s0 p2) (ht : execCaptureStep p0 p1 p2 = .next t) :
    Fr0 c r s0 t := by
  unfold execCaptureStep at ht
  injection ht with ht
  subst ht
  refine State.ifLive_fr (su rfl hc) (su rfl hr) ?_ ?_
  ·
    exact h2
  ·
    intro u0 hu1
    refine rowWrite_fr (su rfl hc) (su rfl hr) ?_
    exact hu1

theorem cmdCaptureTimeout_fr {c r : Nat} {s0 : State} {p0} (hc : c ||| 22548611336 = c) (hr : r ||| 155951448601133434903986176 = r) (h0 : Fr0 c r s0 p0) :
    Fr0 c r s0 (cmdCaptureTimeout p0) := by
  unfold cmdCaptureTimeout
  split
  ·
    exact h0
  ·
    refine fr0_ite (fun _ => ?_) (fun _ => ?_)
    ·
      exact h0
    ·
      refine State.abortCapture_fr (su rfl hc) (su rfl hr) ?_
      refine State.reach_fr (su rfl hc) (su rfl hr) ?_
      exact h0

theorem execCaptureTimeout_fr {c r : Nat} {s0 t : State} {p0} (hc : c ||| 22548611336 = c) (hr : r ||| 155951448601133434903986176 = r) (h0 : Fr0 c r s0 p0) (ht : execCaptureTimeout p0 = .next t) :
    Fr0 c r s0 t := by
  unfold execCaptureTimeout at ht
  injection ht with ht
  subst ht
  refine State.ifLive_fr (su rfl hc) (su rfl hr) ?_ ?_
  ·
    exact h0
  ·
    intro u0 hu1
    refine cmdCaptureTimeout_fr (su rfl hc) (su rfl hr) ?_
    exact hu1

theorem execCfgMaquetteReset_fr {c r : Nat} {s0 t : State} {p0} {p1} (hc : c ||| 103028671480 = c) (hr : r ||| 10141204801825835211972283334656 = r) (h1 : Fr0 c r s0 p1) (ht : execCfgMaquetteReset p0 p1 = .next t) :
    Fr0 c r s0 t := by
  unfold execCfgMaquetteReset at ht
  injection ht with ht
  subst ht
  refine State.ifLive_fr (su rfl hc) (su rfl hr) ?_ ?_
  ·
    exact h1
  ·
    intro u0 hu1
    refine rowWrite_fr (su rfl hc) (su rfl hr) ?_
    exact hu1

theorem execCfgStore_fr {c r : Nat} {s0 t : State} {p0} {p1} (hc : c ||| 103028671480 = c) (hr : r ||| 10141204801825835211972283334656 = r) (h1 : Fr0 c r s0 p1) (ht : execCfgStore p0 p1 = .next t) :
    Fr0 c r s0 t := by
  unfold execCfgStore at ht
  injection ht with ht
  subst ht
  refine State.ifLive_fr (su rfl hc) (su rfl hr) ?_ ?_
  ·
    exact h1
  ·
    intro u0 hu1
    refine rowWrite_fr (su rfl hc) (su rfl hr) ?_
    exact hu1

theorem cmdCfgStoreBegin_fr {c r : Nat} {s0 : State} {p0} (hc : c ||| 0 = c) (hr : r ||| 158456325028528675187087900672 = r) (h0 : Fr0 c r s0 p0) :
    Fr0 c r s0 (cmdCfgStoreBegin p0) := by
  unfold cmdCfgStoreBegin
  refine fr0_ite (fun _ => ?_) (fun _ => ?_)
  ·
    refine State.put_fr (su rfl hc) (su rfl hr) ?_ ?_
    ·
      exact h0
    ·
      exact O.cfgStoreState_ok (su rfl hr)
  ·
    exact h0

theorem execCfgStoreBegin_fr {c r : Nat} {s0 t : State} {p0} (hc : c ||| 0 = c) (hr : r ||| 158456325028528675187087900672 = r) (h0 : Fr0 c r s0 p0) (ht : execCfgStoreBegin p0 = .next t) :
    Fr0 c r s0 t := by
  unfold execCfgStoreBegin at ht
  injection ht with ht
  subst ht
  refine State.ifLive_fr (su rfl hc) (su rfl hr) ?_ ?_
  ·
    exact h0
  ·
    intro u0 hu1
    refine cmdCfgStoreBegin_fr (su rfl hc) (su rfl hr) ?_
    exact hu1

theorem cmdCfgStoreDone_fr {c r : Nat} {s0 : State} {p0} {p1} (hc : c ||| 22749904896 = c) (hr : r ||| 2596306885592442342940435259850752 = r) (h0 : Fr0 c r s0 p0) :
    Fr0 c r s0 (cmdCfgStoreDone p0 p1) := by
  unfold cmdCfgStoreDone
  refine fr0_ite (fun _ => ?_) (fun _ => ?_)
  ·
    exact h0
  ·
    refine fr0_ite (fun _ => ?_) (fun _ => ?_)
    ·
      refine State.put_fr (su rfl hc) (su rfl hr) ?_ ?_
      ·
        refine State.put_fr (su rfl hc) (su rfl hr) ?_ ?_
        ·
          refine State.modNor_fr (su rfl hc) (su rfl hr) ?_
          exact h0
        ·
          exact O.cfgStoreState_ok (su rfl hr)
      ·
        exact O.cfgStoredGeneration_ok (su rfl hr)
    ·
      refine fr0_ite (fun _ => ?_) (fun _ => ?_)
      ·
        refine State.modAtl_fr (su rfl hc) (su rfl hr) ?_
        exact h0
      ·
        refine State.post_fr (su rfl hc) (su rfl hr) ?_
        refine State.put_fr (su rfl hc) (su rfl hr) ?_ ?_
        ·
          exact h0
        ·
          exact O.cfgStoreState_ok (su rfl hr)

theorem execCfgStoreDone_fr {c r : Nat} {s0 t : State} {p0} {p1} (hc : c ||| 22749904896 = c) (hr : r ||| 2596306885592442342940435259850752 = r) (h1 : Fr0 c r s0 p1) (ht : execCfgStoreDone p0 p1 = .next t) :
    Fr0 c r s0 t := by
  unfold execCfgStoreDone at ht
  injection ht with ht
  subst ht
  refine State.ifLive_fr (su rfl hc) (su rfl hr) ?_ ?_
  ·
    exact h1
  ·
    intro u0 hu1
    refine cmdCfgStoreDone_fr (su rfl hc) (su rfl hr) ?_
    exact hu1

theorem State.railsDown_fr {c r : Nat} {s0 : State} {p0} (hc : c ||| 262400 = c) (hr : r ||| 18446744073709551616 = r) (h0 : Fr0 c r s0 p0) :
    Fr0 c r s0 (State.railsDown p0) := by
  unfold State.railsDown
  extract_lets +onlyGivenNames -merge -useContext -underBinder x0
  have hx1 : Fr0 c r s0 x0 := by
    refine fr_held (su rfl hc) ?_
    exact h0
  try clear_value x0
  refine State.modPwr_fr (su rfl hc) (su rfl hr) ?_
  refine State.put_fr (su rfl hc) (su rfl hr) ?_ ?_
  ·
    exact hx1
  ·
    exact O.panelPowerState_ok (su rfl hr)

theorem State.startDown_fr {c r : Nat} {s0 : State} {p0} {p1} (hc : c ||| 262400 = c) (hr : r ||| 18446744073709551616 = r) (h0 : Fr0 c r s0 p0) :
    Fr0 c r s0 (State.startDown p0 p1) := by
  unfold State.startDown
  split
  ·
    refine State.railsDown_fr (su rfl hc) (su rfl hr) ?_
    exact h0
  ·
    refine State.modPwr_fr (su rfl hc) (su rfl hr) ?_
    exact h0

theorem stopRails_fr {c r : Nat} {s0 : State} {p0} (hc : c ||| 262400 = c) (hr : r ||| 18446744073709551616 = r) (h0 : Fr0 c r s0 p0) :
    Fr0 c r s0 (stopRails p0) := by
  unfold stopRails
  extract_lets +onlyGivenNames -merge -useContext -underBinder x0
  have hx1 : Fr0 c r s0 x0 := by
    unfold x0
    split
    ·
      exact h0
    ·
      refine State.startDown_fr (su rfl hc) (su rfl hr) ?_
      exact h0
  try clear_value x0
  refine fr0_ite (fun _ => ?_) (fun _ => ?_)
  ·
    exact hx1
  ·
    refine State.put_fr (su rfl hc) (su rfl hr) ?_ ?_
    ·
      exact hx1
    ·
      exact O.panelPowerState_ok (su rfl hr)

theorem silenceLanes_fr {c r : Nat} {s0 : State} {p0} (hc : c ||| 17179869184 = c) (hr : r ||| 0 = r) (h0 : Fr0 c r s0 p0) :
    Fr0 c r s0 (silenceLanes p0) := by
  unfold silenceLanes
  refine fr0_foldl (fun ha0s _ ha0 => ?_) ?_
  ·
    refine fr0_ite (fun _ => ?_) (fun _ => ?_)
    ·
      refine State.emit_fr (su rfl hc) (su rfl hr) ?_
      exact ha0
    ·
      exact ha0
  ·
    exact h0

theorem stopDie_fr {c r : Nat} {s0 : State} {p0} {p1} (hc : c ||| 86000272646 = c) (hr : r ||| 18446744073709551616 = r) (h0 : Fr0 c r s0 p0) :
    Fr0 c r s0 (stopDie p0 p1) := by
  unfold stopDie
  extract_lets +onlyGivenNames -merge -useContext -underBinder x0
  have hx1 : Fr0 c r s0 x0 := by
    refine stopRails_fr (su rfl hc) (su rfl hr) ?_
    refine tearNor_fr (su rfl hc) (su rfl hr) ?_
    refine silenceLanes_fr (su rfl hc) (su rfl hr) ?_
    exact h0
  try clear_value x0
  refine fr_raw (u := x0) rfl (fun k hk => by cases k <;> first | rfl | exact bitx hc (by decide) hk) ?_
  exact hx1

theorem State.modRse_fr {c r : Nat} {s0 : State} {p0} {p1} (hc : c ||| 65536 = c) (hr : r ||| 0 = r) (h0 : Fr0 c r s0 p0) :
    Fr0 c r s0 (State.modRse p0 p1) := by
  unfold State.modRse
  refine fr_rse (su rfl hc) ?_
  exact h0

theorem State.noteDiscard_fr {c r : Nat} {s0 : State} {p0} {p1} (hc : c ||| 128 = c) (hr : r ||| 0 = r) (h0 : Fr0 c r s0 p0) :
    Fr0 c r s0 (State.noteDiscard p0 p1) := by
  unfold State.noteDiscard
  refine fr0_ite (fun _ => ?_) (fun _ => ?_)
  ·
    refine fr_cfg (su rfl hc) ?_
    exact h0
  ·
    exact h0

theorem State.setBuf_fr {c r : Nat} {s0 : State} {p0} {p1} {p2} (hc : c ||| 1048576 = c) (hr : r ||| 0 = r) (h0 : Fr0 c r s0 p0) :
    Fr0 c r s0 (State.setBuf p0 p1 p2) := by
  unfold State.setBuf
  refine State.modScan_fr (su rfl hc) (su rfl hr) ?_
  exact h0

theorem State.clearRse_fr {c r : Nat} {s0 : State} {p0} (hc : c ||| 1073807360 = c) (hr : r ||| 0 = r) (h0 : Fr0 c r s0 p0) :
    Fr0 c r s0 (State.clearRse p0) := by
  unfold State.clearRse
  refine fr_raw (u := p0) rfl (fun k hk => by cases k <;> first | rfl | exact bitx hc (by decide) hk) ?_
  exact h0

theorem State.promiseBroken_fr {c r : Nat} {s0 : State} {p0} {p1} {p2} (hc : c ||| 22548578304 = c) (hr : r ||| 10384593717069655257060992665780224 = r) (h0 : Fr0 c r s0 p0) :
    Fr0 c r s0 (State.promiseBroken p0 p1 p2) := by
  unfold State.promiseBroken
  refine fr0_ite (fun _ => ?_) (fun _ => ?_)
  ·
    refine State.bump_fr (su rfl hc) (su rfl hr) ?_ ?_
    ·
      refine State.post_fr (su rfl hc) (su rfl hr) ?_
      exact h0
    ·
      exact O.admBrokenCount_ok (su rfl hr)
  ·
    exact h0

theorem State.presentedEntry_fr {c r : Nat} {s0 : State} {p0} {p1} {p2} {p3} (hc : c ||| 18253611008 = c) (hr : r ||| 6 = r) (h0 : Fr0 c r s0 p0) :
    Fr0 c r s0 (State.presentedEntry p0 p1 p2 p3) := by
  unfold State.presentedEntry
  extract_lets +onlyGivenNames -merge -useContext -underBinder x0
  try clear_value x0
  refine State.complete_fr (su rfl hc) (su rfl hr) ?_
  exact h0

theorem State.loseRse_fr {c r : Nat} {s0 : State} {p0} {p1} (hc : c ||| 22549717632 = c) (hr : r ||| 15576890575604482885591488995065350 = r) (h0 : Fr0 c r s0 p0) :
    Fr0 c r s0 (State.loseRse p0 p1) := by
  unfold State.loseRse
  extract_lets +onlyGivenNames -merge -useContext -underBinder x0
  try clear_value x0
  extract_lets +onlyGivenNames -merge -useContext -underBinder x1
  have hx2 : Fr0 c r s0 x1 := by
    refine State.modRse_fr (su rfl hc) (su rfl hr) ?_
    exact h0
  try clear_value x1
  refine fr0_ite (fun _ => ?_) (fun _ => ?_)
  ·
    exact hx2
  ·
    split
    ·
      extract_lets +onlyGivenNames -merge -useContext -underBinder x3
      have hx4 : Fr0 c r s0 x3 := by
        refine State.noteDiscard_fr (su rfl hc) (su rfl hr) ?_
        refine State.bump_fr (su rfl hc) (su rfl hr) ?_ ?_
        ·
          refine State.setBuf_fr (su rfl hc) (su rfl hr) ?_
          exact hx2
        ·
          exact O.rseOverrunCount_ok (su rfl hr)
      try clear_value x3
      extract_lets +onlyGivenNames -merge -useContext -underBinder x5
      have hx6 : Fr0 c r s0 x5 := by
        refine State.clearRse_fr (su rfl hc) (su rfl hr) ?_
        refine State.promiseBroken_fr (su rfl hc) (su rfl hr) ?_
        refine State.presentedEntry_fr (su rfl hc) (su rfl hr) ?_
        exact hx4
      try clear_value x5
      refine State.releaseFrame_fr (su rfl hc) (su rfl hr) ?_
      refine State.modAdm_fr (su rfl hc) (su rfl hr) ?_
      exact hx6
    ·
      extract_lets +onlyGivenNames -merge -useContext -underBinder x7
      have hx8 : Fr0 c r s0 x7 := by
        refine State.clearRse_fr (su rfl hc) (su rfl hr) ?_
        exact hx2
      try clear_value x7
      refine fr_raw (u := x7) rfl (fun k hk => by cases k <;> first | rfl | exact bitx hc (by decide) hk) ?_
      exact hx8

theorem State.declareSilence_fr {c r : Nat} {s0 : State} {p0} (hc : c ||| 31676449280 = c) (hr : r ||| 249230249210866447996141696629866500 = r) (h0 : Fr0 c r s0 p0) :
    Fr0 c r s0 (State.declareSilence p0) := by
  unfold State.declareSilence
  refine fr0_ite (fun _ => ?_) (fun _ => ?_)
  ·
    exact h0
  ·
    extract_lets +onlyGivenNames -merge -useContext -underBinder x0
    have hx1 : Fr0 c r s0 x0 := by
      refine State.modHif_fr (su rfl hc) (su rfl hr) ?_
      exact h0
    try clear_value x0
    extract_lets +onlyGivenNames -merge -useContext -underBinder x2
    have hx3 : Fr0 c r s0 x2 := by
      refine State.bump_fr (su rfl hc) (su rfl hr) ?_ ?_
      ·
        refine State.put_fr (su rfl hc) (su rfl hr) ?_ ?_
        ·
          exact hx1
        ·
          exact O.hostState_ok (su rfl hr)
      ·
        exact O.hostSilentCount_ok (su rfl hr)
    try clear_value x2
    refine startFallback_fr (su rfl hc) (su rfl hr) ?_
    refine State.raise_fr (su rfl hc) (su rfl hr) ?_
    refine State.put_fr (su rfl hc) (su rfl hr) ?_ ?_
    ·
      exact hx3
    ·
      exact O.hifLastStatus_ok (su rfl hr)

theorem cmdPcieReset_fr {c r : Nat} {s0 : State} {p0} {p1} (hc : c ||| 31676449280 = c) (hr : r ||| 311537811513284379538507652580507652 = r) (h0 : Fr0 c r s0 p0) :
    Fr0 c r s0 (cmdPcieReset p0 p1) := by
  unfold cmdPcieReset
  extract_lets +onlyGivenNames -merge -useContext -underBinder x0
  have hx1 : Fr0 c r s0 x0 := by
    refine State.modScan_fr (su rfl hc) (su rfl hr) ?_
    refine State.modHif_fr (su rfl hc) (su rfl hr) ?_
    exact h0
  try clear_value x0
  extract_lets +onlyGivenNames -merge -useContext -underBinder x2
  have hx3 : Fr0 c r s0 x2 := by
    unfold x2
    split
    ·
      refine State.put_fr (su rfl hc) (su rfl hr) ?_ ?_
      ·
        refine State.put_fr (su rfl hc) (su rfl hr) ?_ ?_
        ·
          refine State.modHif_fr (su rfl hc) (su rfl hr) ?_
          exact hx1
        ·
          exact O.pcieLinkSpeed_ok (su rfl hr)
      ·
        exact O.pcieLinkWidth_ok (su rfl hr)
    ·
      refine State.modHif_fr (su rfl hc) (su rfl hr) ?_
      exact hx1
  try clear_value x2
  refine State.regateStream_fr (su rfl hc) (su rfl hr) ?_
  refine State.declareSilence_fr (su rfl hc) (su rfl hr) ?_
  exact hx3

theorem State.loseClip_fr {c r : Nat} {s0 : State} {p0} (hc : c ||| 31676449280 = c) (hr : r ||| 310679731792138129627938816 = r) (h0 : Fr0 c r s0 p0) :
    Fr0 c r s0 (State.loseClip p0) := by
  unfold State.loseClip
  refine fr0_ite (fun _ => ?_) (fun _ => ?_)
  ·
    exact h0
  ·
    refine State.regateStream_fr (su rfl hc) (su rfl hr) ?_
    refine State.put_fr (su rfl hc) (su rfl hr) ?_ ?_
    ·
      refine State.put_fr (su rfl hc) (su rfl hr) ?_ ?_
      ·
        refine State.modClp_fr (su rfl hc) (su rfl hr) ?_
        refine stopPlay_fr (su rfl hc) (su rfl hr) ?_
        exact h0
      ·
        exact O.clpCmdState_ok (su rfl hr)
    ·
      exact O.clpState_ok (su rfl hr)

theorem State.txDone_fr {c r : Nat} {s0 : State} {p0} {p1} {p2} {p3} {p4} (hc : c ||| 17188257792 = c) (hr : r ||| 0 = r) (h0 : Fr0 c r s0 p0) :
    Fr0 c r s0 (State.txDone p0 p1 p2 p3 p4) := by
  unfold State.txDone
  extract_lets +onlyGivenNames -merge -useContext -underBinder x0
  extract_lets +onlyGivenNames -merge -useContext -underBinder x1
  try clear_value x1
  extract_lets +onlyGivenNames -merge -useContext -underBinder x2
  try clear_value x2
  refine State.emit_fr (su rfl hc) (su rfl hr) ?_
  refine State.modNet_fr (su rfl hc) (su rfl hr) ?_
  exact h0

theorem State.closePort_fr {c r : Nat} {s0 : State} {p0} {p1} (hc : c ||| 17188257792 = c) (hr : r ||| 36028797018963968 = r) (h0 : Fr0 c r s0 p0) :
    Fr0 c r s0 (State.closePort p0 p1) := by
  unfold State.closePort
  extract_lets +onlyGivenNames -merge -useContext -underBinder x0
  extract_lets +onlyGivenNames -merge -useContext -underBinder x1
  have hx2 : Fr0 c r s0 x1 := by
    refine fr0_foldl (fun ha3s _ ha3 => ?_) ?_
    ·
      split
      ·
        refine State.txDone_fr (su rfl hc) (su rfl hr) ?_
        exact ha3
      ·
        exact ha3
    ·
      exact h0
  try clear_value x1
  refine State.put_fr (su rfl hc) (su rfl hr) ?_ ?_
  ·
    refine State.modNet_fr (su rfl hc) (su rfl hr) ?_
    exact hx2
  ·
    exact O.portLink_ok (su rfl hr)

theorem State.losePort_fr {c r : Nat} {s0 : State} {p0} {p1} (hc : c ||| 17188258304 = c) (hr : r ||| 54043195528445952 = r) (h0 : Fr0 c r s0 p0) :
    Fr0 c r s0 (State.losePort p0 p1) := by
  unfold State.losePort
  refine fr0_ite (fun _ => ?_) (fun _ => ?_)
  ·
    exact h0
  ·
    refine State.regateStream_fr (su rfl hc) (su rfl hr) ?_
    refine State.put_fr (su rfl hc) (su rfl hr) ?_ ?_
    ·
      refine State.closePort_fr (su rfl hc) (su rfl hr) ?_
      exact h0
    ·
      exact O.portState_ok (su rfl hr)

theorem State.endUpd_fr {c r : Nat} {s0 : State} {p0} {p1} (hc : c ||| 8192 = c) (hr : r ||| 0 = r) (h0 : Fr0 c r s0 p0) :
    Fr0 c r s0 (State.endUpd p0 p1) := by
  unfold State.endUpd
  refine fr_rrec (su rfl hc) ?_
  exact h0

theorem State.discardUpd_fr {c r : Nat} {s0 : State} {p0} {p1} {p2} (hc : c ||| 12288 = c) (hr : r ||| 2326392381538846597626749722506035200 = r) (h0 : Fr0 c r s0 p0) :
    Fr0 c r s0 (State.discardUpd p0 p1 p2) := by
  unfold State.discardUpd
  extract_lets +onlyGivenNames -merge -useContext -underBinder x0
  have hx1 : Fr0 c r s0 x0 := by
    refine State.sdecCode_fr (su rfl hc) (su rfl hr) ?_
    refine State.endUpd_fr (su rfl hc) (su rfl hr) ?_
    exact h0
  try clear_value x0
  refine fr0_ite (fun _ => ?_) (fun _ => ?_)
  ·
    refine State.bump_fr (su rfl hc) (su rfl hr) ?_ ?_
    ·
      exact hx1
    ·
      exact O.entropyErrorCount_ok (su rfl hr)
  ·
    refine fr0_ite (fun _ => ?_) (fun _ => ?_)
    ·
      refine State.bump_fr (su rfl hc) (su rfl hr) ?_ ?_
      ·
        exact hx1
      ·
        exact O.staleTileCount_ok (su rfl hr)
    ·
      refine State.bump_fr (su rfl hc) (su rfl hr) ?_ ?_
      ·
        exact hx1
      ·
        exact O.cacheFullCount_ok (su rfl hr)

theorem State.loseUpdates_fr {c r : Nat} {s0 : State} {p0} (hc : c ||| 29184 = c) (hr : r ||| 2326392381538846597626749722506100224 = r) (h0 : Fr0 c r s0 p0) :
    Fr0 c r s0 (State.loseUpdates p0) := by
  unfold State.loseUpdates
  extract_lets +onlyGivenNames -merge -useContext -underBinder x0
  try clear_value x0
  extract_lets +onlyGivenNames -merge -useContext -underBinder x1
  have hx2 : Fr0 c r s0 x1 := by
    refine State.modSdec_fr (su rfl hc) (su rfl hr) ?_
    exact h0
  try clear_value x1
  refine State.regateStream_fr (su rfl hc) (su rfl hr) ?_
  refine State.settleRelief_fr (su rfl hc) (su rfl hr) ?_
  refine fr0_foldl (fun ha3s _ ha3 => ?_) ?_
  ·
    refine State.discardUpd_fr (su rfl hc) (su rfl hr) ?_
    exact ha3
  ·
    exact hx2

theorem State.loseOverlay_fr {c r : Nat} {s0 : State} {p0} (hc : c ||| 2113536 = c) (hr : r ||| 288230376151711744 = r) (h0 : Fr0 c r s0 p0) :
    Fr0 c r s0 (State.loseOverlay p0) := by
  unfold State.loseOverlay
  refine fr0_ite (fun _ => ?_) (fun _ => ?_)
  ·
    exact h0
  ·
    refine State.put_fr (su rfl hc) (su rfl hr) ?_ ?_
    ·
      refine State.markResident_fr (su rfl hc) (su rfl hr) ?_
      refine State.modRasp_fr (su rfl hc) (su rfl hr) ?_
      exact h0
    ·
      exact O.overlayState_ok (su rfl hr)

theorem State.audClocksOff_fr {c r : Nat} {s0 : State} {p0} (hc : c ||| 4194304 = c) (hr : r ||| 0 = r) (h0 : Fr0 c r s0 p0) :
    Fr0 c r s0 (State.audClocksOff p0) := by
  unfold State.audClocksOff
  refine fr_aud (su rfl hc) ?_
  exact h0

theorem State.loseAudio_fr {c r : Nat} {s0 : State} {p0} (hc : c ||| 4194304 = c) (hr : r ||| 72059793061183488 = r) (h0 : Fr0 c r s0 p0) :
    Fr0 c r s0 (State.loseAudio p0) := by
  unfold State.loseAudio
  refine State.audClocksOff_fr (su rfl hc) (su rfl hr) ?_
  refine fr0_foldl (fun ha0s _ ha0 => ?_) ?_
  ·
    refine fr0_ite (fun _ => ?_) (fun _ => ?_)
    ·
      exact ha0
    ·
      refine State.put_fr (su rfl hc) (su rfl hr) ?_ ?_
      ·
        refine State.audLeaveOn_fr (su rfl hc) (su rfl hr) ?_
        exact ha0
      ·
        exact O.audPortState_ok (su rfl hr)
  ·
    exact h0

theorem watchdogExpires_fr {c r : Nat} {s0 : State} {p0} {p1} (hc : c ||| 102484689072 = c) (hr : r ||| 632626352617984892346950221824 = r) (h0 : Fr0 c r s0 p0) :
    Fr0 c r s0 (watchdogExpires p0 p1) := by
  unfold watchdogExpires
  refine State.warmReset_fr (su rfl hc) (su rfl hr) ?_
  refine State.modPln_fr (su rfl hc) (su rfl hr) ?_
  exact h0

theorem State.cutDirect_fr {c r : Nat} {s0 : State} {p0} {p1} (hc : c ||| 18254659584 = c) (hr : r ||| 6 = r) (h0 : Fr0 c r s0 p0) :
    Fr0 c r s0 (State.cutDirect p0 p1) := by
  unfold State.cutDirect
  split
  ·
    exact h0
  ·
    refine State.complete_fr (su rfl hc) (su rfl hr) ?_
    refine State.modScan_fr (su rfl hc) (su rfl hr) ?_
    exact h0

theorem State.cutFirstScan_fr {c r : Nat} {s0 : State} {p0} {p1} {p2} (hc : c ||| 22549626880 = c) (hr : r ||| 10384593717069655257060992665780230 = r) (h0 : Fr0 c r s0 p0) :
    Fr0 c r s0 (State.cutFirstScan p0 p1 p2) := by
  unfold State.cutFirstScan
  refine fr0_ite (fun _ => ?_) (fun _ => ?_)
  ·
    exact h0
  ·
    extract_lets +onlyGivenNames -merge -useContext -underBinder x0
    have hx1 : Fr0 c r s0 x0 := by
      refine State.modScan_fr (su rfl hc) (su rfl hr) ?_
      exact h0
    try clear_value x0
    split
    ·
      exact hx1
    ·
      refine fr0_ite (fun _ => ?_) (fun _ => ?_)
      ·
        exact hx1
      ·
        extract_lets +onlyGivenNames -merge -useContext -underBinder x2
        have hx3 : Fr0 c r s0 x2 := by
          refine State.presentedEntry_fr (su rfl hc) (su rfl hr) ?_
          exact hx1
        try clear_value x2
        refine fr0_ite (fun _ => ?_) (fun _ => ?_)
        ·
          refine State.promiseBroken_fr (su rfl hc) (su rfl hr) ?_
          exact hx3
        ·
          exact hx3

theorem State.sendIdle_fr {c r : Nat} {s0 : State} {p0} {p1} {p2} (hc : c ||| 17179869184 = c) (hr : r ||| 0 = r) (h0 : Fr0 c r s0 p0) :
    Fr0 c r s0 (State.sendIdle p0 p1 p2) := by
  unfold State.sendIdle
  refine State.emit_fr (su rfl hc) (su rfl hr) ?_
  exact h0

theorem State.idleLanes_fr {c r : Nat} {s0 : State} {p0} {p1} (hc : c ||| 17179869184 = c) (hr : r ||| 0 = r) (h0 : Fr0 c r s0 p0) :
    Fr0 c r s0 (State.idleLanes p0 p1) := by
  unfold State.idleLanes
  refine fr0_foldl (fun ha0s _ ha0 => ?_) ?_
  ·
    refine fr0_ite (fun _ => ?_) (fun _ => ?_)
    ·
      refine State.sendIdle_fr (su rfl hc) (su rfl hr) ?_
      exact ha0
    ·
      exact ha0
  ·
    exact h0

theorem State.sendControl_fr {c r : Nat} {s0 : State} {p0} {p1} {p2} (hc : c ||| 17180393472 = c) (hr : r ||| 0 = r) (h0 : Fr0 c r s0 p0) :
    Fr0 c r s0 (State.sendControl p0 p1 p2) := by
  unfold State.sendControl
  refine fr0_foldl (fun ha0s _ ha0 => ?_) ?_
  ·
    refine fr0_ite (fun _ => ?_) (fun _ => ?_)
    ·
      refine State.sendLane_fr (su rfl hc) (su rfl hr) ?_
      exact ha0
    ·
      exact ha0
  ·
    refine State.emit_fr (su rfl hc) (su rfl hr) ?_
    exact h0

theorem State.sendToMask_fr {c r : Nat} {s0 : State} {p0} {p1} {p2} (hc : c ||| 17180393472 = c) (hr : r ||| 0 = r) (h0 : Fr0 c r s0 p0) :
    Fr0 c r s0 (State.sendToMask p0 p1 p2) := by
  unfold State.sendToMask
  refine fr0_foldl (fun ha0s _ ha0 => ?_) ?_
  ·
    refine State.idleLanes_fr (su rfl hc) (su rfl hr) ?_
    refine State.sendControl_fr (su rfl hc) (su rfl hr) ?_
    exact ha0
  ·
    exact h0

theorem State.sendBlank_fr {c r : Nat} {s0 : State} {p0} (hc : c ||| 17180393472 = c) (hr : r ||| 0 = r) (h0 : Fr0 c r s0 p0) :
    Fr0 c r s0 (State.sendBlank p0) := by
  unfold State.sendBlank
  refine fr0_foldl (fun ha0s _ ha0 => ?_) ?_
  ·
    refine fr0_ite (fun _ => ?_) (fun _ => ?_)
    ·
      refine State.sendToMask_fr (su rfl hc) (su rfl hr) ?_
      exact ha0
    ·
      exact ha0
  ·
    exact h0

theorem State.sendAbort_fr {c r : Nat} {s0 : State} {p0} {p1} (hc : c ||| 17180393472 = c) (hr : r ||| 0 = r) (h0 : Fr0 c r s0 p0) :
    Fr0 c r s0 (State.sendAbort p0 p1) := by
  unfold State.sendAbort
  refine fr0_foldl (fun ha0s _ ha0 => ?_) ?_
  ·
    refine fr0_ite (fun _ => ?_) (fun _ => ?_)
    ·
      refine State.sendToMask_fr (su rfl hc) (su rfl hr) ?_
      exact ha0
    ·
      exact ha0
  ·
    exact h0

theorem State.haltScan_fr {c r : Nat} {s0 : State} {p0} (hc : c ||| 1048576 = c) (hr : r ||| 0 = r) (h0 : Fr0 c r s0 p0) :
    Fr0 c r s0 (State.haltScan p0) := by
  unfold State.haltScan
  refine State.modScan_fr (su rfl hc) (su rfl hr) ?_
  exact h0

theorem State.clockStopsHeads_fr {c r : Nat} {s0 : State} {p0} (hc : c ||| 22550151424 = c) (hr : r ||| 2668840585286910845813403451212693510 = r) (h0 : Fr0 c r s0 p0) :
    Fr0 c r s0 (State.clockStopsHeads p0) := by
  unfold State.clockStopsHeads
  refine fr0_ite (fun _ => ?_) (fun _ => ?_)
  ·
    exact h0
  ·
    extract_lets +onlyGivenNames -merge -useContext -underBinder x0
    have hx1 : Fr0 c r s0 x0 := by
      refine State.cutDirect_fr (su rfl hc) (su rfl hr) ?_
      refine State.cutFirstScan_fr (su rfl hc) (su rfl hr) ?_
      refine State.sendBlank_fr (su rfl hc) (su rfl hr) ?_
      refine State.sendAbort_fr (su rfl hc) (su rfl hr) ?_
      exact h0
    try clear_value x0
    extract_lets +onlyGivenNames -merge -useContext -underBinder x2
    have hx3 : Fr0 c r s0 x2 := by
      refine State.modScan_fr (su rfl hc) (su rfl hr) ?_
      refine State.haltScan_fr (su rfl hc) (su rfl hr) ?_
      exact hx1
    try clear_value x2
    extract_lets +onlyGivenNames -merge -useContext -underBinder x4
    have hx5 : Fr0 c r s0 x4 := by
      refine State.put_fr (su rfl hc) (su rfl hr) ?_ ?_
      ·
        refine fr0_foldl (fun ha6s _ ha6 => ?_) ?_
        ·
          refine State.setHead_fr (su rfl hc) (su rfl hr) ?_
          refine State.stopSlots_fr (su rfl hc) (su rfl hr) ?_
          exact ha6
        ·
          exact hx3
      ·
        exact O.scanLockState_ok (su rfl hr)
    try clear_value x4
    refine fr_held (su rfl hc) ?_
    exact hx5

theorem State.clockResponse_fr {c r : Nat} {s0 : State} {p0} {p1} (hc : c ||| 103028716472 = c) (hr : r ||| 5311963708133112102857205854941150726 = r) (h0 : Fr0 c r s0 p0) :
    Fr0 c r s0 (State.clockResponse p0 p1) := by
  unfold State.clockResponse
  extract_lets +onlyGivenNames -merge -useContext -underBinder x0
  have hx1 : Fr0 c r s0 x0 := by
    refine fr_held (su rfl hc) ?_
    exact h0
  try clear_value x0
  refine fr0_ite (fun _ => ?_) (fun _ => ?_)
  ·
    refine State.loseRse_fr (su rfl hc) (su rfl hr) ?_
    exact hx1
  ·
    refine fr0_ite (fun _ => ?_) (fun _ => ?_)
    ·
      refine cmdPcieReset_fr (su rfl hc) (su rfl hr) ?_
      exact hx1
    ·
      refine fr0_ite (fun _ => ?_) (fun _ => ?_)
      ·
        refine State.loseClip_fr (su rfl hc) (su rfl hr) ?_
        exact hx1
      ·
        refine fr0_ite (fun _ => ?_) (fun _ => ?_)
        ·
          refine State.losePort_fr (su rfl hc) (su rfl hr) ?_
          exact hx1
        ·
          refine fr0_ite (fun _ => ?_) (fun _ => ?_)
          ·
            refine State.loseUpdates_fr (su rfl hc) (su rfl hr) ?_
            exact hx1
          ·
            refine fr0_ite (fun _ => ?_) (fun _ => ?_)
            ·
              refine State.loseOverlay_fr (su rfl hc) (su rfl hr) ?_
              exact hx1
            ·
              refine fr0_ite (fun _ => ?_) (fun _ => ?_)
              ·
                refine State.loseAudio_fr (su rfl hc) (su rfl hr) ?_
                exact hx1
              ·
                refine fr0_ite (fun _ => ?_) (fun _ => ?_)
                ·
                  refine watchdogExpires_fr (su rfl hc) (su rfl hr) ?_
                  exact hx1
                ·
                  refine fr0_ite (fun _ => ?_) (fun _ => ?_)
                  ·
                    refine fr0_ite (fun _ => ?_) (fun _ => ?_)
                    ·
                      refine State.clockStopsHeads_fr (su rfl hc) (su rfl hr) ?_
                      exact hx1
                    ·
                      refine State.panelStop_fr (su rfl hc) (su rfl hr) ?_
                      refine State.clockStopsHeads_fr (su rfl hc) (su rfl hr) ?_
                      exact hx1
                  ·
                    refine State.clockStopsHeads_fr (su rfl hc) (su rfl hr) ?_
                    exact hx1

theorem cmdClockLost_fr {c r : Nat} {s0 : State} {p0} {p1} (hc : c ||| 103062271934 = c) (hr : r ||| 5311963708133112102857205854941150726 = r) (h0 : Fr0 c r s0 p0) :
    Fr0 c r s0 (cmdClockLost p0 p1) := by
  unfold cmdClockLost
  refine fr0_ite (fun _ => ?_) (fun _ => ?_)
  ·
    exact h0
  ·
    extract_lets +onlyGivenNames -merge -useContext -underBinder x0
    have hx1 : Fr0 c r s0 x0 := by
      refine State.modIsl_fr (su rfl hc) (su rfl hr) ?_
      exact h0
    try clear_value x0
    refine fr0_ite (fun _ => ?_) (fun _ => ?_)
    ·
      refine State.refreshFaults_fr (su rfl hc) (su rfl hr) ?_
      refine stopDie_fr (su rfl hc) (su rfl hr) ?_
      exact hx1
    ·
      refine State.raise_fr (su rfl hc) (su rfl hr) ?_
      refine State.clockResponse_fr (su rfl hc) (su rfl hr) ?_
      exact hx1

theorem execClockLost_fr {c r : Nat} {s0 t : State} {p0} {p1} (hc : c ||| 103062271934 = c) (hr : r ||| 5311963708133112102857205854941150726 = r) (h1 : Fr0 c r s0 p1) (ht : execClockLost p0 p1 = .next t) :
    Fr0 c r s0 t := by
  unfold execClockLost at ht
  injection ht with ht
  subst ht
  refine State.ifLive_fr (su rfl hc) (su rfl hr) ?_ ?_
  ·
    exact h1
  ·
    intro u0 hu1
    refine cmdClockLost_fr (su rfl hc) (su rfl hr) ?_
    exact hu1

theorem cmdClockRestartAttempt_fr {c r : Nat} {s0 : State} {p0} {p1} (hc : c ||| 520 = c) (hr : r ||| 0 = r) (h0 : Fr0 c r s0 p0) :
    Fr0 c r s0 (cmdClockRestartAttempt p0 p1) := by
  unfold cmdClockRestartAttempt
  extract_lets +onlyGivenNames -merge -useContext -underBinder x0
  try clear_value x0
  refine fr0_ite (fun _ => ?_) (fun _ => ?_)
  ·
    exact h0
  ·
    extract_lets +onlyGivenNames -merge -useContext -underBinder x1
    have hx2 : Fr0 c r s0 x1 := by
      refine State.elapseTo_fr (su rfl hc) (su rfl hr) ?_
      exact h0
    try clear_value x1
    extract_lets +onlyGivenNames -merge -useContext -underBinder x3
    refine fr0_ite (fun _ => ?_) (fun _ => ?_)
    ·
      refine State.gateIsl_fr (su rfl hc) (su rfl hr) ?_
      exact hx2
    ·
      refine State.modIsl_fr (su rfl hc) (su rfl hr) ?_
      exact hx2

theorem execClockRestartAttempt_fr {c r : Nat} {s0 t : State} {p0} {p1} (hc : c ||| 520 = c) (hr : r ||| 0 = r) (h1 : Fr0 c r s0 p1) (ht : execClockRestartAttempt p0 p1 = .next t) :
    Fr0 c r s0 t := by
  unfold execClockRestartAttempt at ht
  injection ht with ht
  subst ht
  refine State.ifLive_fr (su rfl hc) (su rfl hr) ?_ ?_
  ·
    exact h1
  ·
    intro u0 hu1
    refine cmdClockRestartAttempt_fr (su rfl hc) (su rfl hr) ?_
    exact hu1

theorem State.clockBack_fr {c r : Nat} {s0 : State} {p0} {p1} (hc : c ||| 31142494728 = c) (hr : r ||| 9444730713939484213248 = r) (h0 : Fr0 c r s0 p0) :
    Fr0 c r s0 (State.clockBack p0 p1) := by
  unfold State.clockBack
  refine fr0_ite (fun _ => ?_) (fun _ => ?_)
  ·
    refine fr0_foldl (fun ha0s _ ha0 => ?_) ?_
    ·
      refine fr0_ite (fun _ => ?_) (fun _ => ?_)
      ·
        refine State.headStarting_fr (su rfl hc) (su rfl hr) ?_
        exact ha0
      ·
        exact ha0
    ·
      exact h0
  ·
    extract_lets +onlyGivenNames -merge -useContext -underBinder x1
    have hx2 : Fr0 c r s0 x1 := by
      refine fr0_foldl (fun ha3s _ ha3 => ?_) ?_
      ·
        refine fr0_ite (fun _ => ?_) (fun _ => ?_)
        ·
          refine State.fnStarting_fr (su rfl hc) (su rfl hr) ?_
          exact ha3
        ·
          exact ha3
      ·
        exact h0
    try clear_value x1
    refine fr0_ite (fun _ => ?_) (fun _ => ?_)
    ·
      refine State.regateStream_fr (su rfl hc) (su rfl hr) ?_
      exact hx2
    ·
      exact hx2

theorem cmdClockRestartCheck_fr {c r : Nat} {s0 : State} {p0} {p1} {p2} (hc : c ||| 31142494728 = c) (hr : r ||| 9444730713939484213248 = r) (h0 : Fr0 c r s0 p0) :
    Fr0 c r s0 (cmdClockRestartCheck p0 p1 p2) := by
  unfold cmdClockRestartCheck
  extract_lets +onlyGivenNames -merge -useContext -underBinder x0
  try clear_value x0
  refine fr0_ite (fun _ => ?_) (fun _ => ?_)
  ·
    exact h0
  ·
    extract_lets +onlyGivenNames -merge -useContext -underBinder x1
    have hx2 : Fr0 c r s0 x1 := by
      refine State.elapseTo_fr (su rfl hc) (su rfl hr) ?_
      exact h0
    try clear_value x1
    refine fr0_ite (fun _ => ?_) (fun _ => ?_)
    ·
      extract_lets +onlyGivenNames -merge -useContext -underBinder x3
      have hx4 : Fr0 c r s0 x3 := by
        refine State.modIsl_fr (su rfl hc) (su rfl hr) ?_
        exact hx2
      try clear_value x3
      refine State.clockBack_fr (su rfl hc) (su rfl hr) ?_
      refine State.refreshFaults_fr (su rfl hc) (su rfl hr) ?_
      refine State.settle_fr (su rfl hc) (su rfl hr) ?_
      refine State.pwrNote_fr (su rfl hc) (su rfl hr) ?_
      exact hx4
    ·
      refine State.refreshFaults_fr (su rfl hc) (su rfl hr) ?_
      refine State.modIsl_fr (su rfl hc) (su rfl hr) ?_
      exact hx2

theorem execClockRestartCheck_fr {c r : Nat} {s0 t : State} {p0} {p1} {p2} (hc : c ||| 31142494728 = c) (hr : r ||| 9444730713939484213248 = r) (h2 : Fr0 c r s0 p2) (ht : execClockRestartCheck p0 p1 p2 = .next t) :
    Fr0 c r s0 t := by
  unfold execClockRestartCheck at ht
  injection ht with ht
  subst ht
  refine State.ifLive_fr (su rfl hc) (su rfl hr) ?_ ?_
  ·
    exact h2
  ·
    intro u0 hu1
    refine cmdClockRestartCheck_fr (su rfl hc) (su rfl hr) ?_
    exact hu1

theorem cmdClp_fr {c r : Nat} {s0 : State} {p0} {p1} {p2} {p3} (hc : c ||| 103028671480 = c) (hr : r ||| 10141204801825835211972283334656 = r) (h0 : Fr0 c r s0 p0) :
    Fr0 c r s0 (cmdClp p0 p1 p2 p3) := by
  unfold cmdClp
  refine fr0_ite (fun _ => ?_) (fun _ => ?_)
  ·
    refine rowWrite_fr (su rfl hc) (su rfl hr) ?_
    exact h0
  ·
    exact h0

theorem execClpClose_fr {c r : Nat} {s0 t : State} {p0} {p1} {p2} (hc : c ||| 103028671480 = c) (hr : r ||| 10141204801825835211972283334656 = r) (h2 : Fr0 c r s0 p2) (ht : execClpClose p0 p1 p2 = .next t) :
    Fr0 c r s0 t := by
  unfold execClpClose at ht
  injection ht with ht
  subst ht
  refine State.ifLive_fr (su rfl hc) (su rfl hr) ?_ ?_
  ·
    exact h2
  ·
    intro u0 hu1
    refine cmdClp_fr (su rfl hc) (su rfl hr) ?_
    exact hu1

theorem State.modDrive_fr {c r : Nat} {s0 : State} {p0} {p1} {p2} (hc : c ||| 536870912 = c) (hr : r ||| 0 = r) (h0 : Fr0 c r s0 p0) :
    Fr0 c r s0 (State.modDrive p0 p1 p2) := by
  unfold State.modDrive
  refine State.modClp_fr (su rfl hc) (su rfl hr) ?_
  exact h0

theorem State.showVolume_fr {c r : Nat} {s0 : State} {p0} (hc : c ||| 0 = c) (hr : r ||| 37218383881977644441306597687849648128 = r) (h0 : Fr0 c r s0 p0) :
    Fr0 c r s0 (State.showVolume p0) := by
  unfold State.showVolume
  refine State.put_fr (su rfl hc) (su rfl hr) ?_ ?_
  ·
    refine State.put_fr (su rfl hc) (su rfl hr) ?_ ?_
    ·
      refine State.put_fr (su rfl hc) (su rfl hr) ?_ ?_
      ·
        exact h0
      ·
        exact O.clpCapacity_ok (su rfl hr)
    ·
      exact O.clpFreeLargest_ok (su rfl hr)
  ·
    exact O.clpClipCount_ok (su rfl hr)

theorem clpFormat_fr {c r : Nat} {s0 : State} {p0} {p1} (hc : c ||| 536870912 = c) (hr : r ||| 79753679747094952374228423616820674560 = r) (h0 : Fr0 c r s0 p0) :
    Fr2 c r s0 (clpFormat p0 p1) := by
  unfold clpFormat
  refine fr2_ite (fun _ => ?_) (fun _ => ?_)
  ·
    refine fr2_mk ?_
    exact h0
  ·
    extract_lets +onlyGivenNames -merge -useContext -underBinder x0
    extract_lets +onlyGivenNames -merge -useContext -underBinder x1
    extract_lets +onlyGivenNames -merge -useContext -underBinder x2
    have hx3 : Fr0 c r s0 x2 := by
      refine State.modClp_fr (su rfl hc) (su rfl hr) ?_
      exact h0
    try clear_value x2
    extract_lets +onlyGivenNames -merge -useContext -underBinder x4
    have hx5 : Fr0 c r s0 x4 := by
      refine fr0_foldl (fun ha6s _ ha6 => ?_) ?_
      ·
        refine State.modDrive_fr (su rfl hc) (su rfl hr) ?_
        exact ha6
      ·
        exact hx3
    try clear_value x4
    refine fr2_mk ?_
    refine State.showVolume_fr (su rfl hc) (su rfl hr) ?_
    refine State.put_fr (su rfl hc) (su rfl hr) ?_ ?_
    ·
      exact hx5
    ·
      exact O.clpLayout_ok (su rfl hr)

theorem State.commitTable_fr {c r : Nat} {s0 : State} {p0} (hc : c ||| 536870912 = c) (hr : r ||| 37218383881977644441306597687849648128 = r) (h0 : Fr0 c r s0 p0) :
    Fr0 c r s0 (State.commitTable p0) := by
  unfold State.commitTable
  extract_lets +onlyGivenNames -merge -useContext -underBinder x0
  extract_lets +onlyGivenNames -merge -useContext -underBinder x1
  try clear_value x1
  extract_lets +onlyGivenNames -merge -useContext -underBinder x2
  try clear_value x2
  extract_lets +onlyGivenNames -merge -useContext -underBinder x3
  have hx4 : Fr0 c r s0 x3 := by
    refine fr0_foldl (fun ha5s _ ha5 => ?_) ?_
    ·
      refine fr0_ite (fun _ => ?_) (fun _ => ?_)
      ·
        refine State.modDrive_fr (su rfl hc) (su rfl hr) ?_
        exact ha5
      ·
        exact ha5
    ·
      exact h0
  try clear_value x3
  refine State.showVolume_fr (su rfl hc) (su rfl hr) ?_
  refine State.modClp_fr (su rfl hc) (su rfl hr) ?_
  exact hx4

theorem State.setClip_fr {c r : Nat} {s0 : State} {p0} {p1} (hc : c ||| 536870912 = c) (hr : r ||| 0 = r) (h0 : Fr0 c r s0 p0) :
    Fr0 c r s0 (State.setClip p0 p1) := by
  unfold State.setClip
  refine State.modClp_fr (su rfl hc) (su rfl hr) ?_
  exact h0

theorem clpCreate_fr {c r : Nat} {s0 : State} {p0} {p1} (hc : c ||| 536870912 = c) (hr : r ||| 122288975612212260307150249545791700992 = r) (h0 : Fr0 c r s0 p0) :
    Fr2 c r s0 (clpCreate p0 p1) := by
  unfold clpCreate
  extract_lets +onlyGivenNames -merge -useContext -underBinder x0
  extract_lets +onlyGivenNames -merge -useContext -underBinder x1
  try clear_value x1
  extract_lets +onlyGivenNames -merge -useContext -underBinder x2
  try clear_value x2
  split
  ·
    refine fr2_mk ?_
    exact h0
  ·
    refine fr2_ite (fun _ => ?_) (fun _ => ?_)
    ·
      refine fr2_mk ?_
      exact h0
    ·
      extract_lets +onlyGivenNames -merge -useContext -underBinder x3
      split
      ·
        refine fr2_mk ?_
        exact h0
      ·
        extract_lets +onlyGivenNames -merge -useContext -underBinder x4
        try clear_value x4
        refine fr2_mk ?_
        refine State.commitTable_fr (su rfl hc) (su rfl hr) ?_
        refine State.put_fr (su rfl hc) (su rfl hr) ?_ ?_
        ·
          refine State.modClp_fr (su rfl hc) (su rfl hr) ?_
          refine State.setClip_fr (su rfl hc) (su rfl hr) ?_
          exact h0
        ·
          exact O.clpLastId_ok (su rfl hr)

theorem clpWrite_fr {c r : Nat} {s0 : State} {p0} {p1} (hc : c ||| 17716740096 = c) (hr : r ||| 0 = r) (h0 : Fr0 c r s0 p0) :
    Fr2 c r s0 (clpWrite p0 p1) := by
  unfold clpWrite
  extract_lets +onlyGivenNames -merge -useContext -underBinder x0
  extract_lets +onlyGivenNames -merge -useContext -underBinder x1
  split
  ·
    refine fr2_mk ?_
    exact h0
  ·
    refine fr2_ite (fun _ => ?_) (fun _ => ?_)
    ·
      refine fr2_mk ?_
      exact h0
    ·
      refine fr2_ite (fun _ => ?_) (fun _ => ?_)
      ·
        refine fr2_mk ?_
        exact h0
      ·
        refine fr2_ite (fun _ => ?_) (fun _ => ?_)
        ·
          refine fr2_mk ?_
          exact h0
        ·
          refine fr2_ite (fun _ => ?_) (fun _ => ?_)
          ·
            refine fr2_mk ?_
            exact h0
          ·
            extract_lets +onlyGivenNames -merge -useContext -underBinder x2
            try clear_value x2
            refine fr2_ite (fun _ => ?_) (fun _ => ?_)
            ·
              refine fr2_mk ?_
              exact h0
            ·
              extract_lets +onlyGivenNames -merge -useContext -underBinder x3
              try clear_value x3
              extract_lets +onlyGivenNames -merge -useContext -underBinder x4
              have hx5 : Fr0 c r s0 x4 := by
                refine State.modClp_fr (su rfl hc) (su rfl hr) ?_
                exact h0
              try clear_value x4
              refine fr2_mk ?_
              refine State.emit_fr (su rfl hc) (su rfl hr) ?_
              refine State.setClip_fr (su rfl hc) (su rfl hr) ?_
              exact hx5

theorem clpClose_fr {c r : Nat} {s0 : State} {p0} {p1} (hc : c ||| 536870912 = c) (hr : r ||| 37218383881977644441306597687849648128 = r) (h0 : Fr0 c r s0 p0) :
    Fr2 c r s0 (clpClose p0 p1) := by
  unfold clpClose
  split
  ·
    refine fr2_mk ?_
    exact h0
  ·
    refine fr2_ite (fun _ => ?_) (fun _ => ?_)
    ·
      refine fr2_mk ?_
      exact h0
    ·
      refine fr2_ite (fun _ => ?_) (fun _ => ?_)
      ·
        refine fr2_mk ?_
        exact h0
      ·
        refine fr2_mk ?_
        refine State.commitTable_fr (su rfl hc) (su rfl hr) ?_
        refine State.setClip_fr (su rfl hc) (su rfl hr) ?_
        exact h0

theorem clpDelete_fr {c r : Nat} {s0 : State} {p0} {p1} (hc : c ||| 536870912 = c) (hr : r ||| 37218383881977644441306597687849648128 = r) (h0 : Fr0 c r s0 p0) :
    Fr2 c r s0 (clpDelete p0 p1) := by
  unfold clpDelete
  extract_lets +onlyGivenNames -merge -useContext -underBinder x0
  refine fr2_ite (fun _ => ?_) (fun _ => ?_)
  ·
    refine fr2_mk ?_
    exact h0
  ·
    refine fr2_ite (fun _ => ?_) (fun _ => ?_)
    ·
      refine fr2_mk ?_
      exact h0
    ·
      refine fr2_mk ?_
      refine State.commitTable_fr (su rfl hc) (su rfl hr) ?_
      refine State.modClp_fr (su rfl hc) (su rfl hr) ?_
      exact h0

theorem finishCommand_fr {c r : Nat} {s0 : State} {p0} (hc : c ||| 23085449216 = c) (hr : r ||| 164824271478258174385263562509591248896 = r) (h0 : Fr0 c r s0 p0) :
    Fr0 c r s0 (finishCommand p0) := by
  unfold finishCommand
  split
  ·
    exact h0
  ·
    refine clpOutcome_fr (su rfl hc) (su rfl hr) ?_
    split
    ·
      refine clpFormat_fr (su rfl hc) (su rfl hr) ?_
      exact h0
    ·
      refine clpCreate_fr (su rfl hc) (su rfl hr) ?_
      exact h0
    ·
      refine clpWrite_fr (su rfl hc) (su rfl hr) ?_
      exact h0
    ·
      refine clpClose_fr (su rfl hc) (su rfl hr) ?_
      exact h0
    ·
      refine clpDelete_fr (su rfl hc) (su rfl hr) ?_
      exact h0

theorem cmdClpCommandDone_fr {c r : Nat} {s0 : State} {p0} (hc : c ||| 23085449216 = c) (hr : r ||| 164824271478258174385263562509591248896 = r) (h0 : Fr0 c r s0 p0) :
    Fr0 c r s0 (cmdClpCommandDone p0) := by
  unfold cmdClpCommandDone
  refine fr0_ite (fun _ => ?_) (fun _ => ?_)
  ·
    refine finishCommand_fr (su rfl hc) (su rfl hr) ?_
    exact h0
  ·
    exact h0

theorem execClpCommandDone_fr {c r : Nat} {s0 t : State} {p0} (hc : c ||| 23085449216 = c) (hr : r ||| 164824271478258174385263562509591248896 = r) (h0 : Fr0 c r s0 p0) (ht : execClpCommandDone p0 = .next t) :
    Fr0 c r s0 t := by
  unfold execClpCommandDone at ht
  injection ht with ht
  subst ht
  refine State.ifLive_fr (su rfl hc) (su rfl hr) ?_ ?_
  ·
    exact h0
  ·
    intro u0 hu1
    refine cmdClpCommandDone_fr (su rfl hc) (su rfl hr) ?_
    exact hu1

theorem execClpCreate_fr {c r : Nat} {s0 t : State} {p0} {p1} {p2} (hc : c ||| 103028671480 = c) (hr : r ||| 10141204801825835211972283334656 = r) (h2 : Fr0 c r s0 p2) (ht : execClpCreate p0 p1 p2 = .next t) :
    Fr0 c r s0 t := by
  unfold execClpCreate at ht
  injection ht with ht
  subst ht
  refine State.ifLive_fr (su rfl hc) (su rfl hr) ?_ ?_
  ·
    exact h2
  ·
    intro u0 hu1
    refine cmdClp_fr (su rfl hc) (su rfl hr) ?_
    exact hu1

theorem execClpDelete_fr {c r : Nat} {s0 t : State} {p0} {p1} {p2} (hc : c ||| 103028671480 = c) (hr : r ||| 10141204801825835211972283334656 = r) (h2 : Fr0 c r s0 p2) (ht : execClpDelete p0 p1 p2 = .next t) :
    Fr0 c r s0 t := by
  unfold execClpDelete at ht
  injection ht with ht
  subst ht
  refine State.ifLive_fr (su rfl hc) (su rfl hr) ?_ ?_
  ·
    exact h2
  ·
    intro u0 hu1
    refine cmdClp_fr (su rfl hc) (su rfl hr) ?_
    exact hu1

theorem execClpFormat_fr {c r : Nat} {s0 t : State} {p0} {p1} {p2} (hc : c ||| 103028671480 = c) (hr : r ||| 10141204801825835211972283334656 = r) (h2 : Fr0 c r s0 p2) (ht : execClpFormat p0 p1 p2 = .next t) :
    Fr0 c r s0 t := by
  unfold execClpFormat at ht
  injection ht with ht
  subst ht
  refine State.ifLive_fr (su rfl hc) (su rfl hr) ?_ ?_
  ·
    exact h2
  ·
    intro u0 hu1
    refine cmdClp_fr (su rfl hc) (su rfl hr) ?_
    exact hu1

theorem driveFault_fr {c r : Nat} {s0 : State} {p0} {p1} {p2} (hc : c ||| 31139577856 = c) (hr : r ||| 458032655350208173965312 = r) (h0 : Fr0 c r s0 p0) :
    Fr0 c r s0 (driveFault p0 p1 p2) := by
  unfold driveFault
  refine State.raise_fr (su rfl hc) (su rfl hr) ?_
  refine State.put_fr (su rfl hc) (su rfl hr) ?_ ?_
  ·
    exact h0
  ·
    exact O.clpLastStatus_ok (su rfl hr)

theorem cmdClpHealthPoll_fr {c r : Nat} {s0 : State} {p0} {p1} {p2} (hc : c ||| 31139577856 = c) (hr : r ||| 458032655350208173965312 = r) (h0 : Fr0 c r s0 p0) :
    Fr0 c r s0 (cmdClpHealthPoll p0 p1 p2) := by
  unfold cmdClpHealthPoll
  refine fr0_ite (fun _ => ?_) (fun _ => ?_)
  ·
    refine driveFault_fr (su rfl hc) (su rfl hr) ?_
    exact h0
  ·
    exact h0

theorem execClpHealthPoll_fr {c r : Nat} {s0 t : State} {p0} {p1} {p2} (hc : c ||| 31139577856 = c) (hr : r ||| 458032655350208173965312 = r) (h2 : Fr0 c r s0 p2) (ht : execClpHealthPoll p0 p1 p2 = .next t) :
    Fr0 c r s0 t := by
  unfold execClpHealthPoll at ht
  injection ht with ht
  subst ht
  refine State.ifLive_fr (su rfl hc) (su rfl hr) ?_ ?_
  ·
    exact h2
  ·
    intro u0 hu1
    refine cmdClpHealthPoll_fr (su rfl hc) (su rfl hr) ?_
    exact hu1

theorem execClpPlay_fr {c r : Nat} {s0 t : State} {p0} {p1} {p2} (hc : c ||| 103028671480 = c) (hr : r ||| 10141204801825835211972283334656 = r) (h2 : Fr0 c r s0 p2) (ht : execClpPlay p0 p1 p2 = .next t) :
    Fr0 c r s0 t := by
  unfold execClpPlay at ht
  injection ht with ht
  subst ht
  refine State.ifLive_fr (su rfl hc) (su rfl hr) ?_ ?_
  ·
    exact h2
  ·
    intro u0 hu1
    refine cmdClp_fr (su rfl hc) (su rfl hr) ?_
    exact hu1

theorem State.pushSegment_fr {c r : Nat} {s0 : State} {p0} {p1} {p2} (hc : c ||| 16781312 = c) (hr : r ||| 0 = r) (h0 : Fr0 c r s0 p0) :
    Fr0 c r s0 (State.pushSegment p0 p1 p2) := by
  unfold State.pushSegment
  refine State.modSdec_fr (su rfl hc) (su rfl hr) ?_
  refine State.memRequest_fr (su rfl hc) (su rfl hr) ?_
  exact h0

theorem State.enqueue_fr {c r : Nat} {s0 : State} {p0} {p1} {p2} (hc : c ||| 16781824 = c) (hr : r ||| 0 = r) (h0 : Fr0 c r s0 p0) :
    Fr0 c r s0 (State.enqueue p0 p1 p2) := by
  unfold State.enqueue
  extract_lets +onlyGivenNames -merge -useContext -underBinder x0
  have hx1 : Fr0 c r s0 x0 := by
    refine State.powerIsl_fr (su rfl hc) (su rfl hr) ?_
    refine State.powerIsl_fr (su rfl hc) (su rfl hr) ?_
    exact h0
  try clear_value x0
  refine fr0_ite (fun _ => ?_) (fun _ => ?_)
  ·
    refine State.pushSegment_fr (su rfl hc) (su rfl hr) ?_
    exact hx1
  ·
    refine State.modSdec_fr (su rfl hc) (su rfl hr) ?_
    exact hx1

theorem cmdClpReadDone_fr {c r : Nat} {s0 : State} {p0} (hc : c ||| 31693230592 = c) (hr : r ||| 1194721826677872827301888 = r) (h0 : Fr0 c r s0 p0) :
    Fr0 c r s0 (cmdClpReadDone p0) := by
  unfold cmdClpReadDone
  split
  ·
    exact h0
  ·
    split
    ·
      extract_lets +onlyGivenNames -merge -useContext -underBinder x0
      extract_lets +onlyGivenNames -merge -useContext -underBinder x1
      try clear_value x1
      extract_lets +onlyGivenNames -merge -useContext -underBinder x2
      try clear_value x2
      extract_lets +onlyGivenNames -merge -useContext -underBinder x3
      have hx4 : Fr0 c r s0 x3 := by
        refine fr0_ite (fun _ => ?_) (fun _ => ?_)
        ·
          exact h0
        ·
          refine State.enqueue_fr (su rfl hc) (su rfl hr) ?_
          exact h0
      try clear_value x3
      extract_lets +onlyGivenNames -merge -useContext -underBinder x5
      try clear_value x5
      refine fr0_ite (fun _ => ?_) (fun _ => ?_)
      ·
        refine State.modClp_fr (su rfl hc) (su rfl hr) ?_
        exact hx4
      ·
        refine fr0_ite (fun _ => ?_) (fun _ => ?_)
        ·
          refine endPlay_fr (su rfl hc) (su rfl hr) ?_
          refine State.modClp_fr (su rfl hc) (su rfl hr) ?_
          exact hx4
        ·
          refine State.put_fr (su rfl hc) (su rfl hr) ?_ ?_
          ·
            refine State.modClp_fr (su rfl hc) (su rfl hr) ?_
            exact hx4
          ·
            exact O.clpPlayBase_ok (su rfl hr)
    ·
      exact h0

theorem execClpReadDone_fr {c r : Nat} {s0 t : State} {p0} (hc : c ||| 31693230592 = c) (hr : r ||| 1194721826677872827301888 = r) (h0 : Fr0 c r s0 p0) (ht : execClpReadDone p0 = .next t) :
    Fr0 c r s0 t := by
  unfold execClpReadDone at ht
  injection ht with ht
  subst ht
  refine State.ifLive_fr (su rfl hc) (su rfl hr) ?_ ?_
  ·
    exact h0
  ·
    intro u0 hu1
    refine cmdClpReadDone_fr (su rfl hc) (su rfl hr) ?_
    exact hu1

theorem loseClips_fr {c r : Nat} {s0 : State} {p0} {p1} (hc : c ||| 31676448768 = c) (hr : r ||| 37218383881978102473961947896023613440 = r) (h0 : Fr0 c r s0 p0) :
    Fr0 c r s0 (loseClips p0 p1) := by
  unfold loseClips
  extract_lets +onlyGivenNames -merge -useContext -underBinder x0
  extract_lets +onlyGivenNames -merge -useContext -underBinder x1
  try clear_value x1
  refine fr0_ite (fun _ => ?_) (fun _ => ?_)
  ·
    refine State.commitTable_fr (su rfl hc) (su rfl hr) ?_
    refine driveFault_fr (su rfl hc) (su rfl hr) ?_
    refine State.modClp_fr (su rfl hc) (su rfl hr) ?_
    exact h0
  ·
    exact h0

theorem cmdClpReadFail_fr {c r : Nat} {s0 : State} {p0} (hc : c ||| 31676449280 = c) (hr : r ||| 547641934263386534358195186708329267200 = r) (h0 : Fr0 c r s0 p0) :
    Fr0 c r s0 (cmdClpReadFail p0) := by
  unfold cmdClpReadFail
  split
  ·
    exact h0
  ·
    split
    ·
      exact h0
    ·
      extract_lets +onlyGivenNames -merge -useContext -underBinder x0
      extract_lets +onlyGivenNames -merge -useContext -underBinder x1
      try clear_value x1
      extract_lets +onlyGivenNames -merge -useContext -underBinder x2
      have hx3 : Fr0 c r s0 x2 := by
        refine State.modDrive_fr (su rfl hc) (su rfl hr) ?_
        refine State.bump_fr (su rfl hc) (su rfl hr) ?_ ?_
        ·
          exact h0
        ·
          exact O.clpReadFailCount_ok (su rfl hr)
      try clear_value x2
      extract_lets +onlyGivenNames -merge -useContext -underBinder x4
      have hx5 : Fr0 c r s0 x4 := by
        refine fr0_ite (fun _ => ?_) (fun _ => ?_)
        ·
          refine driveFault_fr (su rfl hc) (su rfl hr) ?_
          refine State.put_fr (su rfl hc) (su rfl hr) ?_ ?_
          ·
            exact hx3
          ·
            exact O.clpDriveState_ok (su rfl hr)
        ·
          exact hx3
      try clear_value x4
      refine fr0_ite (fun _ => ?_) (fun _ => ?_)
      ·
        refine loseClips_fr (su rfl hc) (su rfl hr) ?_
        refine stopPlay_fr (su rfl hc) (su rfl hr) ?_
        refine State.modClp_fr (su rfl hc) (su rfl hr) ?_
        exact hx5
      ·
        refine fr0_ite (fun _ => ?_) (fun _ => ?_)
        ·
          split
          ·
            exact hx5
          ·
            refine State.emit_fr (su rfl hc) (su rfl hr) ?_
            refine State.modClp_fr (su rfl hc) (su rfl hr) ?_
            exact hx5
        ·
          refine stopPlay_fr (su rfl hc) (su rfl hr) ?_
          exact hx5

theorem execClpReadFail_fr {c r : Nat} {s0 t : State} {p0} (hc : c ||| 31676449280 = c) (hr : r ||| 547641934263386534358195186708329267200 = r) (h0 : Fr0 c r s0 p0) (ht : execClpReadFail p0 = .next t) :
    Fr0 c r s0 t := by
  unfold execClpReadFail at ht
  injection ht with ht
  subst ht
  refine State.ifLive_fr (su rfl hc) (su rfl hr) ?_ ?_
  ·
    exact h0
  ·
    intro u0 hu1
    refine cmdClpReadFail_fr (su rfl hc) (su rfl hr) ?_
    exact hu1

theorem cmdClpReadIssue_fr {c r : Nat} {s0 : State} {p0} (hc : c ||| 17716740096 = c) (hr : r ||| 0 = r) (h0 : Fr0 c r s0 p0) :
    Fr0 c r s0 (cmdClpReadIssue p0) := by
  unfold cmdClpReadIssue
  split
  ·
    exact h0
  ·
    refine fr0_ite (fun _ => ?_) (fun _ => ?_)
    ·
      exact h0
    ·
      split
      ·
        exact h0
      ·
        extract_lets +onlyGivenNames -merge -useContext -underBinder x0
        refine fr0_ite (fun _ => ?_) (fun _ => ?_)
        ·
          exact h0
        ·
          extract_lets +onlyGivenNames -merge -useContext -underBinder x1
          try clear_value x1
          refine State.emit_fr (su rfl hc) (su rfl hr) ?_
          refine State.modClp_fr (su rfl hc) (su rfl hr) ?_
          exact h0

theorem execClpReadIssue_fr {c r : Nat} {s0 t : State} {p0} (hc : c ||| 17716740096 = c) (hr : r ||| 0 = r) (h0 : Fr0 c r s0 p0) (ht : execClpReadIssue p0 = .next t) :
    Fr0 c r s0 t := by
  unfold execClpReadIssue at ht
  injection ht with ht
  subst ht
  refine State.ifLive_fr (su rfl hc) (su rfl hr) ?_ ?_
  ·
    exact h0
  ·
    intro u0 hu1
    refine cmdClpReadIssue_fr (su rfl hc) (su rfl hr) ?_
    exact hu1

theorem State.settleItem_fr {c r : Nat} {s0 : State} {p0} {p1} {p2} {p3} (hc : c ||| 31139577856 = c) (hr : r ||| 4685472994722233450496 = r) (h0 : Fr0 c r s0 p0) :
    Fr0 c r s0 (State.settleItem p0 p1 p2 p3) := by
  unfold State.settleItem
  refine State.settleIf_fr (su rfl hc) (su rfl hr) ?_
  exact h0

theorem probeDrive_fr {c r : Nat} {s0 : State} {p0} {p1} {p2} {p3} (hc : c ||| 31676448768 = c) (hr : r ||| 340282366920938921496029957639942176768 = r) (h0 : Fr0 c r s0 p0) :
    Fr0 c r s0 (probeDrive p0 p1 p2 p3) := by
  unfold probeDrive
  extract_lets +onlyGivenNames -merge -useContext -underBinder x0
  have hx1 : Fr0 c r s0 x0 := by
    refine State.modDrive_fr (su rfl hc) (su rfl hr) ?_
    refine State.put_fr (su rfl hc) (su rfl hr) ?_ ?_
    ·
      exact h0
    ·
      exact O.clpDriveState_ok (su rfl hr)
  try clear_value x0
  refine fr0_ite (fun _ => ?_) (fun _ => ?_)
  ·
    refine State.settleItem_fr (su rfl hc) (su rfl hr) ?_
    exact hx1
  ·
    refine fr0_ite (fun _ => ?_) (fun _ => ?_)
    ·
      refine driveFault_fr (su rfl hc) (su rfl hr) ?_
      exact hx1
    ·
      exact hx1

theorem loseAbsent_fr {c r : Nat} {s0 : State} {p0} (hc : c ||| 31676448768 = c) (hr : r ||| 37218383881978102473961947896023613440 = r) (h0 : Fr0 c r s0 p0) :
    Fr0 c r s0 (loseAbsent p0) := by
  unfold loseAbsent
  refine fr0_ite (fun _ => ?_) (fun _ => ?_)
  ·
    refine fr0_foldl (fun ha0s _ ha0 => ?_) ?_
    ·
      refine fr0_ite (fun _ => ?_) (fun _ => ?_)
      ·
        exact ha0
      ·
        refine loseClips_fr (su rfl hc) (su rfl hr) ?_
        exact ha0
    ·
      exact h0
  ·
    exact h0

theorem useTable_fr {c r : Nat} {s0 : State} {p0} {p1} (hc : c ||| 536870912 = c) (hr : r ||| 0 = r) (h0 : Fr0 c r s0 p0) :
    Fr0 c r s0 (useTable p0 p1) := by
  unfold useTable
  extract_lets +onlyGivenNames -merge -useContext -underBinder x0
  try clear_value x0
  refine State.modClp_fr (su rfl hc) (su rfl hr) ?_
  exact h0

theorem cmdClpStartDone_fr {c r : Nat} {s0 : State} {p0} {p1} {p2} (hc : c ||| 31676449280 = c) (hr : r ||| 420036046668343358880223841513563488256 = r) (h0 : Fr0 c r s0 p0) :
    Fr0 c r s0 (cmdClpStartDone p0 p1 p2) := by
  unfold cmdClpStartDone
  refine fr0_ite (fun _ => ?_) (fun _ => ?_)
  ·
    exact h0
  ·
    extract_lets +onlyGivenNames -merge -useContext -underBinder x0
    try clear_value x0
    extract_lets +onlyGivenNames -merge -useContext -underBinder x1
    have hx2 : Fr0 c r s0 x1 := by
      refine probeDrive_fr (su rfl hc) (su rfl hr) ?_
      refine probeDrive_fr (su rfl hc) (su rfl hr) ?_
      exact h0
    try clear_value x1
    extract_lets +onlyGivenNames -merge -useContext -underBinder x3
    have hx4 : Fr0 c r s0 x3 := by
      refine State.put_fr (su rfl hc) (su rfl hr) ?_ ?_
      ·
        exact hx2
      ·
        exact O.clpLayout_ok (su rfl hr)
    try clear_value x3
    extract_lets +onlyGivenNames -merge -useContext -underBinder x5
    try clear_value x5
    extract_lets +onlyGivenNames -merge -useContext -underBinder x6
    try clear_value x6
    extract_lets +onlyGivenNames -merge -useContext -underBinder x7
    try clear_value x7
    extract_lets +onlyGivenNames -merge -useContext -underBinder x8
    have hx9 : Fr0 c r s0 x8 := by
      refine fr0_ite (fun _ => ?_) (fun _ => ?_)
      ·
        refine State.clpNote_fr (su rfl hc) (su rfl hr) ?_
        exact hx4
      ·
        exact hx4
    try clear_value x8
    refine State.regateStream_fr (su rfl hc) (su rfl hr) ?_
    refine State.showVolume_fr (su rfl hc) (su rfl hr) ?_
    refine State.put_fr (su rfl hc) (su rfl hr) ?_ ?_
    ·
      refine State.put_fr (su rfl hc) (su rfl hr) ?_ ?_
      ·
        refine loseAbsent_fr (su rfl hc) (su rfl hr) ?_
        refine useTable_fr (su rfl hc) (su rfl hr) ?_
        exact hx9
      ·
        exact O.clpState_ok (su rfl hr)
    ·
      exact O.clpCmdState_ok (su rfl hr)

theorem execClpStartDone_fr {c r : Nat} {s0 t : State} {p0} {p1} {p2} (hc : c ||| 31676449280 = c) (hr : r ||| 420036046668343358880223841513563488256 = r) (h2 : Fr0 c r s0 p2) (ht : execClpStartDone p0 p1 p2 = .next t) :
    Fr0 c r s0 t := by
  unfold execClpStartDone at ht
  injection ht with ht
  subst ht
  refine State.ifLive_fr (su rfl hc) (su rfl hr) ?_ ?_
  ·
    exact h2
  ·
    intro u0 hu1
    refine cmdClpStartDone_fr (su rfl hc) (su rfl hr) ?_
    exact hu1

theorem execClpStop_fr {c r : Nat} {s0 t : State} {p0} {p1} {p2} (hc : c ||| 103028671480 = c) (hr : r ||| 10141204801825835211972283334656 = r) (h2 : Fr0 c r s0 p2) (ht : execClpStop p0 p1 p2 = .next t) :
    Fr0 c r s0 t := by
  unfold execClpStop at ht
  injection ht with ht
  subst ht
  refine State.ifLive_fr (su rfl hc) (su rfl hr) ?_ ?_
  ·
    exact h2
  ·
    intro u0 hu1
    refine cmdClp_fr (su rfl hc) (su rfl hr) ?_
    exact hu1

theorem cmdClpStopDone_fr {c r : Nat} {s0 : State} {p0} (hc : c ||| 31679365896 = c) (hr : r ||| 164824271478258183829994276449068122112 = r) (h0 : Fr0 c r s0 p0) :
    Fr0 c r s0 (cmdClpStopDone p0) := by
  unfold cmdClpStopDone
  refine fr0_ite (fun _ => ?_) (fun _ => ?_)
  ·
    exact h0
  ·
    refine State.regateStream_fr (su rfl hc) (su rfl hr) ?_
    refine State.fnStopped_fr (su rfl hc) (su rfl hr) ?_ ?_
    ·
      refine fr0_ite (fun _ => ?_) (fun _ => ?_)
      ·
        exact h0
      ·
        refine finishCommand_fr (su rfl hc) (su rfl hr) ?_
        exact h0
    ·
      intro u0 hu1
      refine State.gateIsl_fr (su rfl hc) (su rfl hr) ?_
      exact hu1

theorem execClpStopDone_fr {c r : Nat} {s0 t : State} {p0} (hc : c ||| 31679365896 = c) (hr : r ||| 164824271478258183829994276449068122112 = r) (h0 : Fr0 c r s0 p0) (ht : execClpStopDone p0 = .next t) :
    Fr0 c r s0 t := by
  unfold execClpStopDone at ht
  injection ht with ht
  subst ht
  refine State.ifLive_fr (su rfl hc) (su rfl hr) ?_ ?_
  ·
    exact h0
  ·
    intro u0 hu1
    refine cmdClpStopDone_fr (su rfl hc) (su rfl hr) ?_
    exact hu1

theorem execClpWrite_fr {c r : Nat} {s0 t : State} {p0} {p1} {p2} (hc : c ||| 103028671480 = c) (hr : r ||| 10141204801825835211972283334656 = r) (h2 : Fr0 c r s0 p2) (ht : execClpWrite p0 p1 p2 = .next t) :
    Fr0 c r s0 t := by
  unfold execClpWrite at ht
  injection ht with ht
  subst ht
  refine State.ifLive_fr (su rfl hc) (su rfl hr) ?_ ?_
  ·
    exact h2
  ·
    intro u0 hu1
    refine cmdClp_fr (su rfl hc) (su rfl hr) ?_
    exact hu1

theorem State.showSlots_fr {c r : Nat} {s0 : State} {p0} (hc : c ||| 0 = c) (hr : r ||| 4763953136893138488487244504044754960384 = r) (h0 : Fr0 c r s0 p0) :
    Fr0 c r s0 (State.showSlots p0) := by
  unfold State.showSlots
  extract_lets +onlyGivenNames -merge -useContext -underBinder x0
  try clear_value x0
  refine State.put_fr (su rfl hc) (su rfl hr) ?_ ?_
  ·
    refine State.put_fr (su rfl hc) (su rfl hr) ?_ ?_
    ·
      refine State.putO_fr (su rfl hc) (su rfl hr) ?_ ?_
      ·
        exact h0
      ·
        exact O.fwSlotVersions_ok (su rfl hr)
    ·
      exact O.fwActiveSlot_ok (su rfl hr)
  ·
    exact O.arbCount_ok (su rfl hr)

theorem State.bootRecovery_fr {c r : Nat} {s0 : State} {p0} {p1} (hc : c ||| 24831377920 = c) (hr : r ||| 4763953136895614373251288259316786659328 = r) (h0 : Fr0 c r s0 p0) :
    Fr0 c r s0 (State.bootRecovery p0 p1) := by
  unfold State.bootRecovery
  extract_lets +onlyGivenNames -merge -useContext -underBinder x0
  have hx1 : Fr0 c r s0 x0 := by
    refine fr_isl (su rfl hc) ?_
    exact h0
  try clear_value x0
  extract_lets +onlyGivenNames -merge -useContext -underBinder x2
  try clear_value x2
  extract_lets +onlyGivenNames -merge -useContext -underBinder x3
  try clear_value x3
  extract_lets +onlyGivenNames -merge -useContext -underBinder x4
  have hx5 : Fr0 c r s0 x4 := by
    refine State.put_fr (su rfl hc) (su rfl hr) ?_ ?_
    ·
      refine fr_raw (u := x0) rfl (fun k hk => by cases k <;> first | rfl | exact bitx hc (by decide) hk) ?_
      exact hx1
    ·
      exact O.atlState_ok (su rfl hr)
  try clear_value x4
  refine State.refreshFaults_fr (su rfl hc) (su rfl hr) ?_
  refine State.modAtl_fr (su rfl hc) (su rfl hr) ?_
  refine State.showSlots_fr (su rfl hc) (su rfl hr) ?_
  exact hx5

theorem State.startPtp_fr {c r : Nat} {s0 : State} {p0} (hc : c ||| 22556966912 = c) (hr : r ||| 4835703278458516966998016 = r) (h0 : Fr0 c r s0 p0) :
    Fr0 c r s0 (State.startPtp p0) := by
  unfold State.startPtp
  refine fr0_foldl (fun ha0s _ ha0 => ?_) ?_
  ·
    refine fr0_ite (fun _ => ?_) (fun _ => ?_)
    ·
      refine State.ptpSwitch_fr (su rfl hc) (su rfl hr) ?_
      exact ha0
    ·
      exact ha0
  ·
    exact h0

theorem State.startFunctions_fr {c r : Nat} {s0 : State} {p0} (hc : c ||| 31142494728 = c) (hr : r ||| 9444730713939484213248 = r) (h0 : Fr0 c r s0 p0) :
    Fr0 c r s0 (State.startFunctions p0) := by
  unfold State.startFunctions
  refine fr0_foldl (fun ha0s _ ha0 => ?_) ?_
  ·
    refine fr0_ite (fun _ => ?_) (fun _ => ?_)
    ·
      refine State.fnStarting_fr (su rfl hc) (su rfl hr) ?_
      exact ha0
    ·
      exact ha0
  ·
    exact h0

theorem State.bootEnd_fr {c r : Nat} {s0 : State} {p0} (hc : c ||| 31285101064 = c) (hr : r ||| 5444517870754827301190568975763121242112 = r) (h0 : Fr0 c r s0 p0) :
    Fr0 c r s0 (State.bootEnd p0) := by
  unfold State.bootEnd
  extract_lets +onlyGivenNames -merge -useContext -underBinder x0
  have hx1 : Fr0 c r s0 x0 := by
    refine fr0_ite (fun _ => ?_) (fun _ => ?_)
    ·
      refine State.atlNote_fr (su rfl hc) (su rfl hr) ?_
      refine State.modAtl_fr (su rfl hc) (su rfl hr) ?_
      exact h0
    ·
      exact h0
  try clear_value x0
  extract_lets +onlyGivenNames -merge -useContext -underBinder x2
  have hx3 : Fr0 c r s0 x2 := by
    refine State.regateStream_fr (su rfl hc) (su rfl hr) ?_
    refine State.startPtp_fr (su rfl hc) (su rfl hr) ?_
    refine State.startFunctions_fr (su rfl hc) (su rfl hr) ?_
    exact hx1
  try clear_value x2
  refine fr0_ite (fun _ => ?_) (fun _ => ?_)
  ·
    refine State.modAtl_fr (su rfl hc) (su rfl hr) ?_
    exact hx3
  ·
    extract_lets +onlyGivenNames -merge -useContext -underBinder x4
    refine State.post_fr (su rfl hc) (su rfl hr) ?_
    refine State.put_fr (su rfl hc) (su rfl hr) ?_ ?_
    ·
      exact hx3
    ·
      exact O.atlStartTimeMs_ok (su rfl hr)

theorem State.reportTorn_fr {c r : Nat} {s0 : State} {p0} (hc : c ||| 22615687168 = c) (hr : r ||| 19807040628566084398393327616 = r) (h0 : Fr0 c r s0 p0) :
    Fr0 c r s0 (State.reportTorn p0) := by
  unfold State.reportTorn
  refine State.modNor_fr (su rfl hc) (su rfl hr) ?_
  refine fr0_foldl (fun ha0s _ ha0 => ?_) ?_
  ·
    refine State.atlNote_fr (su rfl hc) (su rfl hr) ?_
    exact ha0
  ·
    exact h0

theorem State.enterFirmware_fr {c r : Nat} {s0 : State} {p0} (hc : c ||| 69122129920 = c) (hr : r ||| 10889035741470030830827987437816582766592 = r) (h0 : Fr0 c r s0 p0) :
    Fr0 c r s0 (State.enterFirmware p0) := by
  unfold State.enterFirmware
  split
  ·
    exact h0
  ·
    extract_lets +onlyGivenNames -merge -useContext -underBinder x0
    try clear_value x0
    extract_lets +onlyGivenNames -merge -useContext -underBinder x1
    try clear_value x1
    extract_lets +onlyGivenNames -merge -useContext -underBinder x2
    have hx3 : Fr0 c r s0 x2 := by
      refine fr_pln (su rfl hc) ?_
      exact h0
    try clear_value x2
    refine State.modAtl_fr (su rfl hc) (su rfl hr) ?_
    refine State.put_fr (su rfl hc) (su rfl hr) ?_ ?_
    ·
      refine State.drawFree_fr (su rfl hc) (su rfl hr) ?_
      exact hx3
    ·
      exact O.firmwareVersion_ok (su rfl hr)

theorem State.loadConfig_fr {c r : Nat} {s0 : State} {p0} (hc : c ||| 96 = c) (hr : r ||| 21778074079088490929069789141018769096704 = r) (h0 : Fr0 c r s0 p0) :
    Fr0 c r s0 (State.loadConfig p0) := by
  unfold State.loadConfig
  split
  ·
    refine State.put_fr (su rfl hc) (su rfl hr) ?_ ?_
    ·
      exact h0
    ·
      exact O.cfgBankGeneration_ok (su rfl hr)
  ·
    extract_lets +onlyGivenNames -merge -useContext -underBinder x0
    try clear_value x0
    extract_lets +onlyGivenNames -merge -useContext -underBinder x1
    try clear_value x1
    extract_lets +onlyGivenNames -merge -useContext -underBinder x2
    try clear_value x2
    extract_lets +onlyGivenNames -merge -useContext -underBinder x3
    have hx4 : Fr0 c r s0 x3 := by
      refine fr0_foldl (fun ha5s _ ha5 => ?_) ?_
      ·
        refine fr_wipe (u := ha5s) (fun k hk => by cases k <;> first | rfl | exact bitx hc (by decide) hk) (su rfl hr) ?_
        exact ha5
      ·
        exact h0
    try clear_value x3
    refine State.put_fr (su rfl hc) (su rfl hr) ?_ ?_
    ·
      refine State.put_fr (su rfl hc) (su rfl hr) ?_ ?_
      ·
        refine fr_raw (u := x3) rfl (fun k hk => by cases k <;> first | rfl | exact bitx hc (by decide) hk) ?_
        exact hx4
      ·
        exact O.cfgBankGeneration_ok (su rfl hr)
    ·
      exact O.cfgStoredGeneration_ok (su rfl hr)

theorem State.loadPatina_fr {c r : Nat} {s0 : State} {p0} (hc : c ||| 31139610720 = c) (hr : r ||| 130668428897640370276852777152178520326144 = r) (h0 : Fr0 c r s0 p0) :
    Fr0 c r s0 (State.loadPatina p0) := by
  unfold State.loadPatina
  extract_lets +onlyGivenNames -merge -useContext -underBinder x0
  extract_lets +onlyGivenNames -merge -useContext -underBinder x1
  have hx2 : Fr0 c r s0 x1 := by
    refine fr0_ite (fun _ => ?_) (fun _ => ?_)
    ·
      refine State.raise_fr (su rfl hc) (su rfl hr) ?_
      exact h0
    ·
      exact h0
  try clear_value x1
  split
  ·
    extract_lets +onlyGivenNames -merge -useContext -underBinder x3
    try clear_value x3
    refine State.put_fr (su rfl hc) (su rfl hr) ?_ ?_
    ·
      refine State.putM_fr (su rfl hc) (su rfl hr) ?_
      refine State.putV_fr (su rfl hc) (su rfl hr) ?_ ?_
      ·
        exact hx2
      ·
        exact O.patinaLattice_ok (su rfl hc) (su rfl hr)
    ·
      exact O.patinaGeneration_ok (su rfl hr)
  ·
    extract_lets +onlyGivenNames -merge -useContext -underBinder x4
    try clear_value x4
    extract_lets +onlyGivenNames -merge -useContext -underBinder x5
    have hx6 : Fr0 c r s0 x5 := by
      refine fr_cal (su rfl hc) ?_
      exact hx2
    try clear_value x5
    refine fr0_ite (fun _ => ?_) (fun _ => ?_)
    ·
      refine State.post_fr (su rfl hc) (su rfl hr) ?_
      exact hx6
    ·
      refine State.raise_fr (su rfl hc) (su rfl hr) ?_
      exact hx6

theorem State.centreView_fr {c r : Nat} {s0 : State} {p0} (hc : c ||| 96 = c) (hr : r ||| 174224571863520493293247799005065324265472 = r) (h0 : Fr0 c r s0 p0) :
    Fr0 c r s0 (State.centreView p0) := by
  unfold State.centreView
  refine fr0_ite (fun _ => ?_) (fun _ => ?_)
  ·
    exact h0
  ·
    split
    ·
      extract_lets +onlyGivenNames -merge -useContext -underBinder x0
      try clear_value x0
      refine State.putM_fr (su rfl hc) (su rfl hr) ?_
      refine State.putV_fr (su rfl hc) (su rfl hr) ?_ ?_
      ·
        exact h0
      ·
        exact O.viewHeight_ok (su rfl hc) (su rfl hr)

theorem State.useBronze_fr {c r : Nat} {s0 : State} {p0} {p1} {p2} (hc : c ||| 32768 = c) (hr : r ||| 0 = r) (h0 : Fr0 c r s0 p0) :
    Fr0 c r s0 (State.useBronze p0 p1 p2) := by
  unfold State.useBronze
  refine fr_cal (su rfl hc) ?_
  exact h0

theorem State.checkBronze_fr {c r : Nat} {s0 : State} {p0} {p1} (hc : c ||| 31139610624 = c) (hr : r ||| 306916927898379527127040 = r) (h0 : Fr0 c r s0 p0) :
    Fr0 c r s0 (State.checkBronze p0 p1) := by
  unfold State.checkBronze
  extract_lets +onlyGivenNames -merge -useContext -underBinder x0
  try clear_value x0
  extract_lets +onlyGivenNames -merge -useContext -underBinder x1
  try clear_value x1
  extract_lets +onlyGivenNames -merge -useContext -underBinder x2
  have hx3 : Fr0 c r s0 x2 := by
    refine fr0_ite (fun _ => ?_) (fun _ => ?_)
    ·
      refine fr0_ite (fun _ => ?_) (fun _ => ?_)
      ·
        refine State.useBronze_fr (su rfl hc) (su rfl hr) ?_
        exact h0
      ·
        refine State.raise_fr (su rfl hc) (su rfl hr) ?_
        refine State.useBronze_fr (su rfl hc) (su rfl hr) ?_
        exact h0
    ·
      refine fr0_ite (fun _ => ?_) (fun _ => ?_)
      ·
        refine State.raise_fr (su rfl hc) (su rfl hr) ?_
        refine State.useBronze_fr (su rfl hc) (su rfl hr) ?_
        exact h0
      ·
        refine State.raise_fr (su rfl hc) (su rfl hr) ?_
        refine State.useBronze_fr (su rfl hc) (su rfl hr) ?_
        exact h0
  try clear_value x2
  split
  ·
    refine fr0_ite (fun _ => ?_) (fun _ => ?_)
    ·
      exact hx3
    ·
      refine State.post_fr (su rfl hc) (su rfl hr) ?_
      exact hx3
  ·
    exact hx3

theorem State.blackBuffer_fr {c r : Nat} {s0 : State} {p0} (hc : c ||| 1048576 = c) (hr : r ||| 0 = r) (h0 : Fr0 c r s0 p0) :
    Fr0 c r s0 (State.blackBuffer p0) := by
  unfold State.blackBuffer
  refine State.modScan_fr (su rfl hc) (su rfl hr) ?_
  exact h0

theorem State.bootLoad_fr {c r : Nat} {s0 : State} {p0} {p1} (hc : c ||| 102476333672 = c) (hr : r ||| 342324063718634806739201380996356687003648 = r) (h0 : Fr0 c r s0 p0) :
    Fr0 c r s0 (State.bootLoad p0 p1) := by
  unfold State.bootLoad
  extract_lets +onlyGivenNames -merge -useContext -underBinder x0
  have hx1 : Fr0 c r s0 x0 := by
    refine State.showSlots_fr (su rfl hc) (su rfl hr) ?_
    refine State.reportTorn_fr (su rfl hc) (su rfl hr) ?_
    refine State.enterFirmware_fr (su rfl hc) (su rfl hr) ?_
    exact h0
  try clear_value x0
  extract_lets +onlyGivenNames -merge -useContext -underBinder x2
  have hx3 : Fr0 c r s0 x2 := by
    refine State.loadConfig_fr (su rfl hc) (su rfl hr) ?_
    exact hx1
  try clear_value x2
  extract_lets +onlyGivenNames -merge -useContext -underBinder x4
  have hx5 : Fr0 c r s0 x4 := by
    refine fr_isl (su rfl hc) ?_
    exact hx3
  try clear_value x4
  extract_lets +onlyGivenNames -merge -useContext -underBinder x6
  have hx7 : Fr0 c r s0 x6 := by
    refine State.refreshCal_fr (su rfl hc) (su rfl hr) ?_
    refine State.loadPatina_fr (su rfl hc) (su rfl hr) ?_
    refine State.centreView_fr (su rfl hc) (su rfl hr) ?_
    refine State.checkBronze_fr (su rfl hc) (su rfl hr) ?_
    exact hx5
  try clear_value x6
  extract_lets +onlyGivenNames -merge -useContext -underBinder x8
  have hx9 : Fr0 c r s0 x8 := by
    refine State.blackBuffer_fr (su rfl hc) (su rfl hr) ?_
    exact hx7
  try clear_value x8
  refine State.put_fr (su rfl hc) (su rfl hr) ?_ ?_
  ·
    refine fr_raw (u := x8) rfl (fun k hk => by cases k <;> first | rfl | exact bitx hc (by decide) hk) ?_
    exact hx9
  ·
    exact O.atlState_ok (su rfl hr)

theorem State.bootUp_fr {c r : Nat} {s0 : State} {p0} {p1} (hc : c ||| 102487605864 = c) (hr : r ||| 347768581589369826995069263981714637455360 = r) (h0 : Fr0 c r s0 p0) :
    Fr0 c r s0 (State.bootUp p0 p1) := by
  unfold State.bootUp
  refine State.bootEnd_fr (su rfl hc) (su rfl hr) ?_
  refine State.bootLoad_fr (su rfl hc) (su rfl hr) ?_
  exact h0

theorem State.coldBoot_fr {c r : Nat} {s0 : State} {p0} {p1} (hc : c ||| 102487605864 = c) (hr : r ||| 347768581589369826995069263981714637455360 = r) (h0 : Fr0 c r s0 p0) :
    Fr0 c r s0 (State.coldBoot p0 p1) := by
  unfold State.coldBoot
  refine fr0_ite (fun _ => ?_) (fun _ => ?_)
  ·
    refine State.bootRecovery_fr (su rfl hc) (su rfl hr) ?_
    exact h0
  ·
    refine State.bootUp_fr (su rfl hc) (su rfl hr) ?_
    exact h0

theorem State.senseRgmii_fr {c r : Nat} {s0 : State} {p0} (hc : c ||| 68719476736 = c) (hr : r ||| 348449143727040986586495598010130648530944 = r) (h0 : Fr0 c r s0 p0) :
    Fr0 c r s0 (State.senseRgmii p0) := by
  unfold State.senseRgmii
  refine State.drawFree_fr (su rfl hc) (su rfl hr) ?_
  refine State.put_fr (su rfl hc) (su rfl hr) ?_ ?_
  ·
    exact h0
  ·
    exact O.rgmiiIoVoltage_ok (su rfl hr)

theorem State.noteNor_fr {c r : Nat} {s0 : State} {p0} {p1} (hc : c ||| 22548578304 = c) (hr : r ||| 696898287454101780213619762104659690389504 = r) (h0 : Fr0 c r s0 p0) :
    Fr0 c r s0 (State.noteNor p0 p1) := by
  unfold State.noteNor
  refine fr0_foldl (fun ha0s _ ha0 => ?_) ?_
  ·
    refine State.atlNote_fr (su rfl hc) (su rfl hr) ?_
    refine State.bump_fr (su rfl hc) (su rfl hr) ?_ ?_
    ·
      exact ha0
    ·
      exact O.norEccCount_ok (su rfl hr)
  ·
    exact h0

theorem State.setRate_fr {c r : Nat} {s0 : State} {p0} {p1} (hc : c ||| 1048576 = c) (hr : r ||| 44601490397061246283071436545296723011960832 = r) (h0 : Fr0 c r s0 p0) :
    Fr0 c r s0 (State.setRate p0 p1) := by
  unfold State.setRate
  extract_lets +onlyGivenNames -merge -useContext -underBinder x0
  have hx1 : Fr0 c r s0 x0 := by
    refine State.put_fr (su rfl hc) (su rfl hr) ?_ ?_
    ·
      exact h0
    ·
      exact O.timeRate_ok (su rfl hr)
  try clear_value x0
  refine fr_scan (su rfl hc) ?_
  exact hx1

theorem State.showLog_fr {c r : Nat} {s0 : State} {p0} (hc : c ||| 0 = c) (hr : r ||| 535217884764734955396857238543560676143529984 = r) (h0 : Fr0 c r s0 p0) :
    Fr0 c r s0 (State.showLog p0) := by
  unfold State.showLog
  refine State.put_fr (su rfl hc) (su rfl hr) ?_ ?_
  ·
    refine State.put_fr (su rfl hc) (su rfl hr) ?_ ?_
    ·
      exact h0
    ·
      exact O.logNewestSeq_ok (su rfl hr)
  ·
    exact O.logOldestSeq_ok (su rfl hr)

theorem State.loadSaved_fr {c r : Nat} {s0 : State} {p0} {p1} (hc : c ||| 9437184 = c) (hr : r ||| 2853101588837011613025506427931513048961384448 = r) (h0 : Fr0 c r s0 p0) :
    Fr0 c r s0 (State.loadSaved p0 p1) := by
  unfold State.loadSaved
  extract_lets +onlyGivenNames -merge -useContext -underBinder x0
  try clear_value x0
  extract_lets +onlyGivenNames -merge -useContext -underBinder x1
  try clear_value x1
  extract_lets +onlyGivenNames -merge -useContext -underBinder x2
  have hx3 : Fr0 c r s0 x2 := by
    refine State.put_fr (su rfl hc) (su rfl hr) ?_ ?_
    ·
      refine State.put_fr (su rfl hc) (su rfl hr) ?_ ?_
      ·
        refine State.put_fr (su rfl hc) (su rfl hr) ?_ ?_
        ·
          refine State.put_fr (su rfl hc) (su rfl hr) ?_ ?_
          ·
            exact h0
          ·
            exact O.coldStartCount_ok (su rfl hr)
        ·
          exact O.warmResetCount_ok (su rfl hr)
      ·
        exact O.lockstepCount_ok (su rfl hr)
    ·
      exact O.framesPresented_ok (su rfl hr)
  try clear_value x2
  extract_lets +onlyGivenNames -merge -useContext -underBinder x4
  have hx5 : Fr0 c r s0 x4 := by
    refine State.put_fr (su rfl hc) (su rfl hr) ?_ ?_
    ·
      refine State.put_fr (su rfl hc) (su rfl hr) ?_ ?_
      ·
        refine State.put_fr (su rfl hc) (su rfl hr) ?_ ?_
        ·
          exact hx3
        ·
          exact O.holdupLifetime_ok (su rfl hr)
      ·
        exact O.updateCount_ok (su rfl hr)
    ·
      exact O.norEraseMax_ok (su rfl hr)
  try clear_value x4
  extract_lets +onlyGivenNames -merge -useContext -underBinder x6
  have hx7 : Fr0 c r s0 x6 := by
    refine State.put_fr (su rfl hc) (su rfl hr) ?_ ?_
    ·
      refine State.put_fr (su rfl hc) (su rfl hr) ?_ ?_
      ·
        refine State.setRate_fr (su rfl hc) (su rfl hr) ?_
        exact hx5
      ·
        exact O.timeUtcOffset_ok (su rfl hr)
    ·
      exact O.railPgStatus_ok (su rfl hr)
  try clear_value x6
  extract_lets +onlyGivenNames -merge -useContext -underBinder x8
  have hx9 : Fr0 c r s0 x8 := by
    refine State.modTim_fr (su rfl hc) (su rfl hr) ?_
    exact hx7
  try clear_value x8
  refine State.showLog_fr (su rfl hc) (su rfl hr) ?_
  refine State.put_fr (su rfl hc) (su rfl hr) ?_ ?_
  ·
    refine State.put_fr (su rfl hc) (su rfl hr) ?_ ?_
    ·
      exact hx9
    ·
      exact O.thmTripCount_ok (su rfl hr)
  ·
    exact O.thmTripSlotsUsed_ok (su rfl hr)

theorem State.coldBase_fr {c r : Nat} {s0 : State} {p0} (hc : c ||| 17112760302 = c) (hr : r ||| 137438953472 = r) (h0 : Fr0 c r s0 p0) :
    Fr0 c r s0 (State.coldBase p0) := by
  unfold State.coldBase
  refine fr_wipe (u := p0) (fun k hk => by cases k <;> first | rfl | exact bitx hc (by decide) hk) (su rfl hr) ?_
  exact h0

theorem State.applyLimits_fr {c r : Nat} {s0 : State} {p0} {p1} (hc : c ||| 268435456 = c) (hr : r ||| 1458647141945490998441568260777384029383167049728 = r) (h0 : Fr0 c r s0 p0) :
    Fr0 c r s0 (State.applyLimits p0 p1) := by
  unfold State.applyLimits
  extract_lets +onlyGivenNames -merge -useContext -underBinder x0
  have hx1 : Fr0 c r s0 x0 := by
    refine State.put_fr (su rfl hc) (su rfl hr) ?_ ?_
    ·
      refine State.put_fr (su rfl hc) (su rfl hr) ?_ ?_
      ·
        refine State.put_fr (su rfl hc) (su rfl hr) ?_ ?_
        ·
          exact h0
        ·
          exact O.plinthMeanDrive_ok (su rfl hr)
      ·
        exact O.plinthLaneAmplitude_ok (su rfl hr)
    ·
      exact O.plinthTripPoint_ok (su rfl hr)
  try clear_value x0
  extract_lets +onlyGivenNames -merge -useContext -underBinder x2
  have hx3 : Fr0 c r s0 x2 := by
    refine State.put_fr (su rfl hc) (su rfl hr) ?_ ?_
    ·
      refine State.put_fr (su rfl hc) (su rfl hr) ?_ ?_
      ·
        refine State.put_fr (su rfl hc) (su rfl hr) ?_ ?_
        ·
          exact hx1
        ·
          exact O.plinthWdPeriod_ok (su rfl hr)
      ·
        exact O.plinthTfMinNum_ok (su rfl hr)
    ·
      exact O.plinthTfMinDen_ok (su rfl hr)
  try clear_value x2
  extract_lets +onlyGivenNames -merge -useContext -underBinder x4
  have hx5 : Fr0 c r s0 x4 := by
    refine State.put_fr (su rfl hc) (su rfl hr) ?_ ?_
    ·
      refine State.putO_fr (su rfl hc) (su rfl hr) ?_ ?_
      ·
        exact hx3
      ·
        exact O.railOrder_ok (su rfl hr)
    ·
      exact O.plinthCommitSeq_ok (su rfl hr)
  try clear_value x4
  extract_lets +onlyGivenNames -merge -useContext -underBinder x6
  have hx7 : Fr0 c r s0 x6 := by
    refine fr0_foldl (fun ha8s _ ha8 => ?_) ?_
    ·
      refine State.put_fr (su rfl hc) (su rfl hr) ?_ ?_
      ·
        exact ha8
      ·
        exact O.plinthPeakDrive_ok (su rfl hr)
    ·
      exact hx5
  try clear_value x6
  refine State.modPln_fr (su rfl hc) (su rfl hr) ?_
  exact hx7

theorem verifyLimits_fr {c r : Nat} {s0 : State} {p0} (hc : c ||| 22817013760 = c) (hr : r ||| 1458647141945490998441568260777384029383174389760 = r) (h0 : Fr0 c r s0 p0) :
    Fr0 c r s0 (verifyLimits p0) := by
  unfold verifyLimits
  extract_lets +onlyGivenNames -merge -useContext -underBinder x0
  try clear_value x0
  extract_lets +onlyGivenNames -merge -useContext -underBinder x1
  have hx2 : Fr0 c r s0 x1 := by
    refine fr0_foldl (fun ha3s _ ha3 => ?_) ?_
    ·
      refine State.post_fr (su rfl hc) (su rfl hr) ?_
      exact ha3
    ·
      exact h0
  try clear_value x1
  split
  ·
    exact hx2
  ·
    refine State.applyLimits_fr (su rfl hc) (su rfl hr) ?_
    exact hx2

theorem State.thmNote_fr {c r : Nat} {s0 : State} {p0} {p1} {p2} (hc : c ||| 22548578304 = c) (hr : r ||| 1461501637330902918203684832716283019655939883008 = r) (h0 : Fr0 c r s0 p0) :
    Fr0 c r s0 (State.thmNote p0 p1 p2) := by
  unfold State.thmNote
  refine State.note_fr (su rfl hc) (su rfl hr) ?_ ?_
  ·
    exact h0
  ·
    exact O.thmLastStatus_ok (su rfl hr)

theorem State.bootActive_fr {c r : Nat} {s0 : State} {p0} {p1} (hc : c ||| 134217728 = c) (hr : r ||| 0 = r) (h0 : Fr0 c r s0 p0) :
    Fr0 c r s0 (State.bootActive p0 p1) := by
  unfold State.bootActive
  extract_lets +onlyGivenNames -merge -useContext -underBinder x0
  extract_lets +onlyGivenNames -merge -useContext -underBinder x1
  try clear_value x1
  refine State.modAtl_fr (su rfl hc) (su rfl hr) ?_
  exact h0

theorem State.bootSelect_fr {c r : Nat} {s0 : State} {p0} (hc : c ||| 22749904896 = c) (hr : r ||| 19807040628566084398393327616 = r) (h0 : Fr0 c r s0 p0) :
    Fr0 c r s0 (State.bootSelect p0) := by
  unfold State.bootSelect
  split
  ·
    refine State.bootActive_fr (su rfl hc) (su rfl hr) ?_
    exact h0
  ·
    refine fr0_ite (fun _ => ?_) (fun _ => ?_)
    ·
      refine State.modAtl_fr (su rfl hc) (su rfl hr) ?_
      refine State.modNor_fr (su rfl hc) (su rfl hr) ?_
      exact h0
    ·
      refine State.bootActive_fr (su rfl hc) (su rfl hr) ?_
      refine State.atlNote_fr (su rfl hc) (su rfl hr) ?_
      refine State.modNor_fr (su rfl hc) (su rfl hr) ?_
      exact h0

theorem State.modThm_fr {c r : Nat} {s0 : State} {p0} {p1} (hc : c ||| 33554432 = c) (hr : r ||| 0 = r) (h0 : Fr0 c r s0 p0) :
    Fr0 c r s0 (State.modThm p0 p1) := by
  unfold State.modThm
  refine fr_thm (su rfl hc) ?_
  exact h0

theorem State.coldLoad_fr {c r : Nat} {s0 : State} {p0} {p1} (hc : c ||| 103079215086 = c) (hr : r ||| 2923002926212662109401045400922402392553897328640 = r) (h0 : Fr0 c r s0 p0) :
    Fr0 c r s0 (State.coldLoad p0 p1) := by
  unfold State.coldLoad
  extract_lets +onlyGivenNames -merge -useContext -underBinder x0
  have hx1 : Fr0 c r s0 x0 := by
    refine State.modNor_fr (su rfl hc) (su rfl hr) ?_
    exact h0
  try clear_value x0
  extract_lets +onlyGivenNames -merge -useContext -underBinder x2
  try clear_value x2
  extract_lets +onlyGivenNames -merge -useContext -underBinder x3
  extract_lets +onlyGivenNames -merge -useContext -underBinder x4
  have hx5 : Fr0 c r s0 x4 := by
    refine State.senseRgmii_fr (su rfl hc) (su rfl hr) ?_
    refine State.noteNor_fr (su rfl hc) (su rfl hr) ?_
    refine State.loadSaved_fr (su rfl hc) (su rfl hr) ?_
    refine State.coldBase_fr (su rfl hc) (su rfl hr) ?_
    exact hx1
  try clear_value x4
  extract_lets +onlyGivenNames -merge -useContext -underBinder x6
  have hx7 : Fr0 c r s0 x6 := by
    refine fr0_ite (fun _ => ?_) (fun _ => ?_)
    ·
      refine State.put_fr (su rfl hc) (su rfl hr) ?_ ?_
      ·
        refine State.put_fr (su rfl hc) (su rfl hr) ?_ ?_
        ·
          exact hx5
        ·
          exact O.admSuspendCauses_ok (su rfl hr)
      ·
        exact O.admPromiseState_ok (su rfl hr)
    ·
      exact hx5
  try clear_value x6
  extract_lets +onlyGivenNames -merge -useContext -underBinder x8
  extract_lets +onlyGivenNames -merge -useContext -underBinder x9
  have hx10 : Fr0 c r s0 x9 := by
    refine State.drawFree_fr (su rfl hc) (su rfl hr) ?_
    exact hx7
  try clear_value x9
  extract_lets +onlyGivenNames -merge -useContext -underBinder x11
  try clear_value x11
  extract_lets +onlyGivenNames -merge -useContext -underBinder x12
  have hx13 : Fr0 c r s0 x12 := by
    refine fr_mem (su rfl hc) ?_
    exact hx10
  try clear_value x12
  extract_lets +onlyGivenNames -merge -useContext -underBinder x14
  have hx15 : Fr0 c r s0 x14 := by
    refine State.drawFree_fr (su rfl hc) (su rfl hr) ?_
    refine State.elapseTo_fr (su rfl hc) (su rfl hr) ?_
    exact hx13
  try clear_value x14
  extract_lets +onlyGivenNames -merge -useContext -underBinder x16
  try clear_value x16
  extract_lets +onlyGivenNames -merge -useContext -underBinder x17
  have hx18 : Fr0 c r s0 x17 := by
    refine fr_clk (su rfl hc) ?_
    exact hx15
  try clear_value x17
  extract_lets +onlyGivenNames -merge -useContext -underBinder x19
  have hx20 : Fr0 c r s0 x19 := by
    refine verifyLimits_fr (su rfl hc) (su rfl hr) ?_
    exact hx18
  try clear_value x19
  extract_lets +onlyGivenNames -merge -useContext -underBinder x21
  have hx22 : Fr0 c r s0 x21 := by
    refine fr0_ite (fun _ => ?_) (fun _ => ?_)
    ·
      refine State.thmNote_fr (su rfl hc) (su rfl hr) ?_
      exact hx20
    ·
      exact hx20
  try clear_value x21
  extract_lets +onlyGivenNames -merge -useContext -underBinder x23
  have hx24 : Fr0 c r s0 x23 := by
    refine fr0_ite (fun _ => ?_) (fun _ => ?_)
    ·
      refine State.thmNote_fr (su rfl hc) (su rfl hr) ?_
      exact hx22
    ·
      exact hx22
  try clear_value x23
  refine State.bootSelect_fr (su rfl hc) (su rfl hr) ?_
  refine State.modThm_fr (su rfl hc) (su rfl hr) ?_
  exact hx24

theorem cmdRailDownStep_fr {c r : Nat} {s0 : State} {p0} (hc : c ||| 262408 = c) (hr : r ||| 18446744073709551616 = r) (h0 : Fr0 c r s0 p0) :
    Fr0 c r s0 (cmdRailDownStep p0) := by
  unfold cmdRailDownStep
  split
  ·
    extract_lets +onlyGivenNames -merge -useContext -underBinder x0
    have hx1 : Fr0 c r s0 x0 := by
      refine State.railOff_fr (su rfl hc) (su rfl hr) ?_
      refine State.elapseTo_fr (su rfl hc) (su rfl hr) ?_
      exact h0
    try clear_value x0
    split
    ·
      refine State.modPwr_fr (su rfl hc) (su rfl hr) ?_
      exact hx1
    ·
      refine State.railsDown_fr (su rfl hc) (su rfl hr) ?_
      exact hx1
  ·
    exact h0

theorem State.allRailsDown_fr {c r : Nat} {s0 : State} {p0} (hc : c ||| 262408 = c) (hr : r ||| 18446744073709551616 = r) (h0 : Fr0 c r s0 p0) :
    Fr0 c r s0 (State.allRailsDown p0) := by
  unfold State.allRailsDown
  refine fr0_foldl (fun ha0s _ ha0 => ?_) ?_
  ·
    refine cmdRailDownStep_fr (su rfl hc) (su rfl hr) ?_
    exact ha0
  ·
    exact h0

theorem State.coldStart_fr {c r : Nat} {s0 : State} {p0} {p1} (hc : c ||| 103079215086 = c) (hr : r ||| 2923003273981243698751065354477656574194643501056 = r) (h0 : Fr0 c r s0 p0) :
    Fr0 c r s0 (State.coldStart p0 p1) := by
  unfold State.coldStart
  refine State.coldBoot_fr (su rfl hc) (su rfl hr) ?_
  refine State.coldLoad_fr (su rfl hc) (su rfl hr) ?_
  refine State.allRailsDown_fr (su rfl hc) (su rfl hr) ?_
  exact h0

theorem cmdColdStart_fr {c r : Nat} {s0 : State} {p0} {p1} (hc : c ||| 103079215086 = c) (hr : r ||| 2923003273981243698751065354477656574194643501056 = r) (h0 : Fr0 c r s0 p0) :
    Fr0 c r s0 (cmdColdStart p0 p1) := by
  unfold cmdColdStart
  refine fr0_ite (fun _ => ?_) (fun _ => ?_)
  ·
    refine State.coldStart_fr (su rfl hc) (su rfl hr) ?_
    exact h0
  ·
    exact h0

theorem execColdStart_fr {c r : Nat} {s0 t : State} {p0} {p1} (hc : c ||| 103079215086 = c) (hr : r ||| 2923003273981243698751065354477656574194643501056 = r) (h0 : Fr0 c r s0 p0) (ht : execColdStart p0 p1 = .next t) :
    Fr0 c r s0 t := by
  unfold execColdStart at ht
  injection ht with ht
  subst ht
  refine cmdColdStart_fr (su rfl hc) (su rfl hr) ?_
  exact h0

theorem cmdCommitExpired_fr {c r : Nat} {s0 : State} {p0} (hc : c ||| 22817013768 = c) (hr : r ||| 4436777100798802905238468558848 = r) (h0 : Fr0 c r s0 p0) :
    Fr0 c r s0 (cmdCommitExpired p0) := by
  unfold cmdCommitExpired
  refine fr0_ite (fun _ => ?_) (fun _ => ?_)
  ·
    exact h0
  ·
    refine State.plnNote_fr (su rfl hc) (su rfl hr) ?_
    refine State.unstage_fr (su rfl hc) (su rfl hr) ?_
    refine State.elapseTo_fr (su rfl hc) (su rfl hr) ?_
    exact h0

theorem execCommitExpired_fr {c r : Nat} {s0 t : State} {p0} (hc : c ||| 22817013768 = c) (hr : r ||| 4436777100798802905238468558848 = r) (h0 : Fr0 c r s0 p0) (ht : execCommitExpired p0 = .next t) :
    Fr0 c r s0 t := by
  unfold execCommitExpired at ht
  injection ht with ht
  subst ht
  refine State.ifLive_fr (su rfl hc) (su rfl hr) ?_ ?_
  ·
    exact h0
  ·
    intro u0 hu1
    refine cmdCommitExpired_fr (su rfl hc) (su rfl hr) ?_
    exact hu1

theorem writeEntry_fr {c r : Nat} {s0 : State} {p0} {p1} (hc : c ||| 18253611008 = c) (hr : r ||| 0 = r) (h0 : Fr0 c r s0 p0) :
    Fr0 c r s0 (writeEntry p0 p1) := by
  unfold writeEntry
  extract_lets +onlyGivenNames -merge -useContext -underBinder x0
  try clear_value x0
  extract_lets +onlyGivenNames -merge -useContext -underBinder x1
  try clear_value x1
  extract_lets +onlyGivenNames -merge -useContext -underBinder x2
  extract_lets +onlyGivenNames -merge -useContext -underBinder x3
  have hx4 : Fr0 c r s0 x3 := by
    refine State.emit_fr (su rfl hc) (su rfl hr) ?_
    refine State.emit_fr (su rfl hc) (su rfl hr) ?_
    exact h0
  try clear_value x3
  extract_lets +onlyGivenNames -merge -useContext -underBinder x5
  extract_lets +onlyGivenNames -merge -useContext -underBinder x6
  have hx7 : Fr0 c r s0 x6 := by
    refine State.modHif_fr (su rfl hc) (su rfl hr) ?_
    exact hx4
  try clear_value x6
  extract_lets +onlyGivenNames -merge -useContext -underBinder x8
  have hx9 : Fr0 c r s0 x8 := by
    refine fr0_ite (fun _ => ?_) (fun _ => ?_)
    ·
      refine State.irq_fr (su rfl hc) (su rfl hr) ?_
      exact hx7
    ·
      exact hx7
  try clear_value x8
  refine fr0_ite (fun _ => ?_) (fun _ => ?_)
  ·
    refine State.irq_fr (su rfl hc) (su rfl hr) ?_
    exact hx9
  ·
    exact hx9

theorem cmdCompletionEntryWrite_fr {c r : Nat} {s0 : State} {p0} (hc : c ||| 18253611008 = c) (hr : r ||| 0 = r) (h0 : Fr0 c r s0 p0) :
    Fr0 c r s0 (cmdCompletionEntryWrite p0) := by
  unfold cmdCompletionEntryWrite
  extract_lets +onlyGivenNames -merge -useContext -underBinder x0
  try clear_value x0
  refine fr0_ite (fun _ => ?_) (fun _ => ?_)
  ·
    exact h0
  ·
    refine fr0_ite (fun _ => ?_) (fun _ => ?_)
    ·
      refine writeEntry_fr (su rfl hc) (su rfl hr) ?_
      refine State.modHif_fr (su rfl hc) (su rfl hr) ?_
      exact h0
    ·
      split
      ·
        exact h0
      ·
        extract_lets +onlyGivenNames -merge -useContext -underBinder x1
        try clear_value x1
        extract_lets +onlyGivenNames -merge -useContext -underBinder x2
        try clear_value x2
        refine writeEntry_fr (su rfl hc) (su rfl hr) ?_
        refine State.modHif_fr (su rfl hc) (su rfl hr) ?_
        exact h0

theorem execCompletionEntryWrite_fr {c r : Nat} {s0 t : State} {p0} (hc : c ||| 18253611008 = c) (hr : r ||| 0 = r) (h0 : Fr0 c r s0 p0) (ht : execCompletionEntryWrite p0 = .next t) :
    Fr0 c r s0 t := by
  unfold execCompletionEntryWrite at ht
  injection ht with ht
  subst ht
  refine State.ifLive_fr (su rfl hc) (su rfl hr) ?_ ?_
  ·
    exact h0
  ·
    intro u0 hu1
    refine cmdCompletionEntryWrite_fr (su rfl hc) (su rfl hr) ?_
    exact hu1

theorem State.applyCommit_fr {c r : Nat} {s0 : State} {p0} (hc : c ||| 22817013760 = c) (hr : r ||| 1458647141945491002878345361576186934621635608576 = r) (h0 : Fr0 c r s0 p0) :
    Fr0 c r s0 (State.applyCommit p0) := by
  unfold State.applyCommit
  split
  ·
    extract_lets +onlyGivenNames -merge -useContext -underBinder x0
    try clear_value x0
    extract_lets +onlyGivenNames -merge -useContext -underBinder x1
    try clear_value x1
    extract_lets +onlyGivenNames -merge -useContext -underBinder x2
    try clear_value x2
    extract_lets +onlyGivenNames -merge -useContext -underBinder x3
    try clear_value x3
    refine fr0_ite (fun _ => ?_) (fun _ => ?_)
    ·
      refine State.plnNote_fr (su rfl hc) (su rfl hr) ?_
      refine State.unstage_fr (su rfl hc) (su rfl hr) ?_
      exact h0
    ·
      extract_lets +onlyGivenNames -merge -useContext -underBinder x4
      try clear_value x4
      extract_lets +onlyGivenNames -merge -useContext -underBinder x5
      extract_lets +onlyGivenNames -merge -useContext -underBinder x6
      have hx7 : Fr0 c r s0 x6 := by
        refine State.modPln_fr (su rfl hc) (su rfl hr) ?_
        exact h0
      try clear_value x6
      refine State.plnNote_fr (su rfl hc) (su rfl hr) ?_
      refine State.unstage_fr (su rfl hc) (su rfl hr) ?_
      refine State.applyLimits_fr (su rfl hc) (su rfl hr) ?_
      exact hx7
  ·
    exact h0

theorem State.confirmed_fr {c r : Nat} {s0 : State} {p0} {p1} {p2} (hc : c ||| 22817013760 = c) (hr : r ||| 1458647141945491002878345361576186934621635608576 = r) (h0 : Fr0 c r s0 p0) :
    Fr0 c r s0 (State.confirmed p0 p1 p2) := by
  unfold State.confirmed
  extract_lets +onlyGivenNames -merge -useContext -underBinder x0
  have hx1 : Fr0 c r s0 x0 := by
    refine State.modPln_fr (su rfl hc) (su rfl hr) ?_
    refine State.put_fr (su rfl hc) (su rfl hr) ?_ ?_
    ·
      exact h0
    ·
      exact O.plinthState_ok (su rfl hr)
  try clear_value x0
  refine fr0_ite (fun _ => ?_) (fun _ => ?_)
  ·
    exact hx1
  ·
    refine State.applyCommit_fr (su rfl hc) (su rfl hr) ?_
    exact hx1

theorem cmdConfirmVerified_fr {c r : Nat} {s0 : State} {p0} (hc : c ||| 22817013760 = c) (hr : r ||| 1458647141945491002878345361576186934621635608576 = r) (h0 : Fr0 c r s0 p0) :
    Fr0 c r s0 (cmdConfirmVerified p0) := by
  unfold cmdConfirmVerified
  split
  ·
    extract_lets +onlyGivenNames -merge -useContext -underBinder x0
    have hx1 : Fr0 c r s0 x0 := by
      refine State.modPln_fr (su rfl hc) (su rfl hr) ?_
      exact h0
    try clear_value x0
    refine fr0_ite (fun _ => ?_) (fun _ => ?_)
    ·
      exact hx1
    ·
      refine fr0_ite (fun _ => ?_) (fun _ => ?_)
      ·
        refine State.confirmed_fr (su rfl hc) (su rfl hr) ?_
        refine State.put_fr (su rfl hc) (su rfl hr) ?_ ?_
        ·
          exact hx1
        ·
          exact O.plinthLastResult_ok (su rfl hr)
      ·
        refine State.plnNote_fr (su rfl hc) (su rfl hr) ?_
        exact hx1
  ·
    exact h0

theorem execConfirmVerified_fr {c r : Nat} {s0 t : State} {p0} (hc : c ||| 22817013760 = c) (hr : r ||| 1458647141945491002878345361576186934621635608576 = r) (h0 : Fr0 c r s0 p0) (ht : execConfirmVerified p0 = .next t) :
    Fr0 c r s0 t := by
  unfold execConfirmVerified at ht
  injection ht with ht
  subst ht
  refine State.ifLive_fr (su rfl hc) (su rfl hr) ?_ ?_
  ·
    exact h0
  ·
    intro u0 hu1
    refine cmdConfirmVerified_fr (su rfl hc) (su rfl hr) ?_
    exact hu1

theorem cmdConsentConfirmed_fr {c r : Nat} {s0 : State} {p0} (hc : c ||| 22817013768 = c) (hr : r ||| 1458647141945491002878345361576186934621635608576 = r) (h0 : Fr0 c r s0 p0) :
    Fr0 c r s0 (cmdConsentConfirmed p0) := by
  unfold cmdConsentConfirmed
  split
  ·
    exact h0
  ·
    refine fr0_ite (fun _ => ?_) (fun _ => ?_)
    ·
      exact h0
    ·
      refine State.confirmed_fr (su rfl hc) (su rfl hr) ?_
      refine State.elapseTo_fr (su rfl hc) (su rfl hr) ?_
      exact h0

theorem execConsentConfirmed_fr {c r : Nat} {s0 t : State} {p0} (hc : c ||| 22817013768 = c) (hr : r ||| 1458647141945491002878345361576186934621635608576 = r) (h0 : Fr0 c r s0 p0) (ht : execConsentConfirmed p0 = .next t) :
    Fr0 c r s0 t := by
  unfold execConsentConfirmed at ht
  injection ht with ht
  subst ht
  refine State.ifLive_fr (su rfl hc) (su rfl hr) ?_ ?_
  ·
    exact h0
  ·
    intro u0 hu1
    refine cmdConsentConfirmed_fr (su rfl hc) (su rfl hr) ?_
    exact hu1

theorem cmdConsentFall_fr {c r : Nat} {s0 : State} {p0} (hc : c ||| 268435456 = c) (hr : r ||| 2923003274661805836407369665432566039311865085952 = r) (h0 : Fr0 c r s0 p0) :
    Fr0 c r s0 (cmdConsentFall p0) := by
  unfold cmdConsentFall
  refine fr0_ite (fun _ => ?_) (fun _ => ?_)
  ·
    exact h0
  ·
    refine State.modPln_fr (su rfl hc) (su rfl hr) ?_
    refine State.putB_fr (su rfl hc) (su rfl hr) ?_ ?_
    ·
      exact h0
    ·
      exact O.plinthConsent_ok (su rfl hr)

theorem execConsentFall_fr {c r : Nat} {s0 t : State} {p0} (hc : c ||| 268435456 = c) (hr : r ||| 2923003274661805836407369665432566039311865085952 = r) (h0 : Fr0 c r s0 p0) (ht : execConsentFall p0 = .next t) :
    Fr0 c r s0 t := by
  unfold execConsentFall at ht
  injection ht with ht
  subst ht
  refine State.ifLive_fr (su rfl hc) (su rfl hr) ?_ ?_
  ·
    exact h0
  ·
    intro u0 hu1
    refine cmdConsentFall_fr (su rfl hc) (su rfl hr) ?_
    exact hu1

theorem cmdConsentRise_fr {c r : Nat} {s0 : State} {p0} (hc : c ||| 268435456 = c) (hr : r ||| 2923003274661805836407369665432566039311865085952 = r) (h0 : Fr0 c r s0 p0) :
    Fr0 c r s0 (cmdConsentRise p0) := by
  unfold cmdConsentRise
  refine State.modPln_fr (su rfl hc) (su rfl hr) ?_
  refine State.putB_fr (su rfl hc) (su rfl hr) ?_ ?_
  ·
    exact h0
  ·
    exact O.plinthConsent_ok (su rfl hr)

theorem execConsentRise_fr {c r : Nat} {s0 t : State} {p0} (hc : c ||| 268435456 = c) (hr : r ||| 2923003274661805836407369665432566039311865085952 = r) (h0 : Fr0 c r s0 p0) (ht : execConsentRise p0 = .next t) :
    Fr0 c r s0 t := by
  unfold execConsentRise at ht
  injection ht with ht
  subst ht
  refine State.ifLive_fr (su rfl hc) (su rfl hr) ?_ ?_
  ·
    exact h0
  ·
    intro u0 hu1
    refine cmdConsentRise_fr (su rfl hc) (su rfl hr) ?_
    exact hu1

theorem cmdConsentStuck_fr {c r : Nat} {s0 : State} {p0} (hc : c ||| 22817013768 = c) (hr : r ||| 7340032 = r) (h0 : Fr0 c r s0 p0) :
    Fr0 c r s0 (cmdConsentStuck p0) := by
  unfold cmdConsentStuck
  refine fr0_ite (fun _ => ?_) (fun _ => ?_)
  ·
    exact h0
  ·
    refine State.post_fr (su rfl hc) (su rfl hr) ?_
    refine State.modPln_fr (su rfl hc) (su rfl hr) ?_
    refine State.elapseTo_fr (su rfl hc) (su rfl hr) ?_
    exact h0

theorem execConsentStuck_fr {c r : Nat} {s0 t : State} {p0} (hc : c ||| 22817013768 = c) (hr : r ||| 7340032 = r) (h0 : Fr0 c r s0 p0) (ht : execConsentStuck p0 = .next t) :
    Fr0 c r s0 t := by
  unfold execConsentStuck at ht
  injection ht with ht
  subst ht
  refine State.ifLive_fr (su rfl hc) (su rfl hr) ?_ ?_
  ·
    exact h0
  ·
    intro u0 hu1
    refine cmdConsentStuck_fr (su rfl hc) (su rfl hr) ?_
    exact hu1

theorem State.takeEntry_fr {c r : Nat} {s0 : State} {p0} (hc : c ||| 2097152 = c) (hr : r ||| 0 = r) (h0 : Fr0 c r s0 p0) :
    Fr0 c r s0 (State.takeEntry p0) := by
  unfold State.takeEntry
  refine State.modRasp_fr (su rfl hc) (su rfl hr) ?_
  exact h0

theorem State.withCommand_fr {c r : Nat} {s0 : State} {p0} {p1} {p2} (hc : c ||| 18874368 = c) (hr : r ||| 0 = r) (h0 : Fr0 c r s0 p0) (hf2 : ∀ (y0 : State) y1, Fr0 c r s0 y0 → Fr0 c r s0 (p2 y0 y1)) :
    Fr0 c r s0 (State.withCommand p0 p1 p2) := by
  unfold State.withCommand
  extract_lets +onlyGivenNames -merge -useContext -underBinder x0
  try clear_value x0
  refine fr0_ite (fun _ => ?_) (fun _ => ?_)
  ·
    exact h0
  ·
    refine fr0_ite (fun _ => ?_) (fun _ => ?_)
    ·
      exact h0
    ·
      refine hf2 _ _ ?_
      ·
        refine State.memRequest_fr (su rfl hc) (su rfl hr) ?_
        refine State.takeEntry_fr (su rfl hc) (su rfl hr) ?_
        exact h0

theorem State.raspError_fr {c r : Nat} {s0 : State} {p0} {p1} (hc : c ||| 2097152 = c) (hr : r ||| 5846006549323611672814739330865132078623730171904 = r) (h0 : Fr0 c r s0 p0) :
    Fr0 c r s0 (State.raspError p0 p1) := by
  unfold State.raspError
  refine State.put_fr (su rfl hc) (su rfl hr) ?_ ?_
  ·
    refine State.modRasp_fr (su rfl hc) (su rfl hr) ?_
    exact h0
  ·
    exact O.raspLastStatus_ok (su rfl hr)

theorem State.raspDone_fr {c r : Nat} {s0 : State} {p0} (hc : c ||| 0 = c) (hr : r ||| 11692013098647223345629478661730264157247460343808 = r) (h0 : Fr0 c r s0 p0) :
    Fr0 c r s0 (State.raspDone p0) := by
  unfold State.raspDone
  refine State.bump_fr (su rfl hc) (su rfl hr) ?_ ?_
  ·
    exact h0
  ·
    exact O.raspCmdCount_ok (su rfl hr)

theorem State.markTiles_fr {c r : Nat} {s0 : State} {p0} {p1} (hc : c ||| 2097152 = c) (hr : r ||| 0 = r) (h0 : Fr0 c r s0 p0) :
    Fr0 c r s0 (State.markTiles p0 p1) := by
  unfold State.markTiles
  refine fr0_ite (fun _ => ?_) (fun _ => ?_)
  ·
    exact h0
  ·
    extract_lets +onlyGivenNames -merge -useContext -underBinder x0
    try clear_value x0
    refine State.modRasp_fr (su rfl hc) (su rfl hr) ?_
    exact h0

theorem State.draw_fr {c r : Nat} {s0 : State} {p0} {p1} {p2} {p3} {p4} (hc : c ||| 22567453696 = c) (hr : r ||| 17538019647970835018444217992595396235887840854016 = r) (h0 : Fr0 c r s0 p0) :
    Fr0 c r s0 (State.draw p0 p1 p2 p3 p4) := by
  unfold State.draw
  extract_lets +onlyGivenNames -merge -useContext -underBinder x0
  try clear_value x0
  extract_lets +onlyGivenNames -merge -useContext -underBinder x1
  extract_lets +onlyGivenNames -merge -useContext -underBinder x2
  extract_lets +onlyGivenNames -merge -useContext -underBinder x3
  try clear_value x3
  extract_lets +onlyGivenNames -merge -useContext -underBinder x4
  have hx5 : Fr0 c r s0 x4 := by
    refine fr0_foldl (fun ha6s _ ha6 => ?_) ?_
    ·
      refine State.hbmWrite_fr (su rfl hc) (su rfl hr) ?_
      exact ha6
    ·
      exact h0
  try clear_value x4
  extract_lets +onlyGivenNames -merge -useContext -underBinder x7
  try clear_value x7
  extract_lets +onlyGivenNames -merge -useContext -underBinder x8
  have hx9 : Fr0 c r s0 x8 := by
    refine State.eccCorrected_fr (su rfl hc) (su rfl hr) ?_
    refine State.eccAll_fr (su rfl hc) (su rfl hr) ?_
    exact hx5
  try clear_value x8
  extract_lets +onlyGivenNames -merge -useContext -underBinder x10
  have hx11 : Fr0 c r s0 x10 := by
    refine fr0_ite (fun _ => ?_) (fun _ => ?_)
    ·
      exact hx9
    ·
      refine State.post_fr (su rfl hc) (su rfl hr) ?_
      refine State.raspError_fr (su rfl hc) (su rfl hr) ?_
      exact hx9
  try clear_value x10
  refine State.raspDone_fr (su rfl hc) (su rfl hr) ?_
  refine State.markTiles_fr (su rfl hc) (su rfl hr) ?_
  exact hx11

theorem State.startDraw_fr {c r : Nat} {s0 : State} {p0} {p1} (hc : c ||| 2097152 = c) (hr : r ||| 0 = r) (h0 : Fr0 c r s0 p0) :
    Fr0 c r s0 (State.startDraw p0 p1) := by
  unfold State.startDraw
  refine State.modRasp_fr (su rfl hc) (su rfl hr) ?_
  exact h0

theorem State.fillBounce_fr {c r : Nat} {s0 : State} {p0} {p1} {p2} (hc : c ||| 16778240 = c) (hr : r ||| 0 = r) (h0 : Fr0 c r s0 p0) :
    Fr0 c r s0 (State.fillBounce p0 p1 p2) := by
  unfold State.fillBounce
  extract_lets +onlyGivenNames -merge -useContext -underBinder x0
  try clear_value x0
  refine fr0_foldl (fun ha1s _ ha1 => ?_) ?_
  ·
    refine State.hbmWrite_fr (su rfl hc) (su rfl hr) ?_
    exact ha1
  ·
    exact h0

theorem cmdCopy_fr {c r : Nat} {s0 : State} {p0} {p1} {p2} (hc : c ||| 22567453696 = c) (hr : r ||| 17538019647970835018444217992595396235887840854016 = r) (h0 : Fr0 c r s0 p0) :
    Fr0 c r s0 (cmdCopy p0 p1 p2) := by
  unfold cmdCopy
  refine State.withCommand_fr (su rfl hc) (su rfl hr) ?_ ?_
  ·
    exact h0
  ·
    intro u0 u2 hu1
    extract_lets +onlyGivenNames -merge -useContext -underBinder x3
    try clear_value x3
    extract_lets +onlyGivenNames -merge -useContext -underBinder x4
    try clear_value x4
    extract_lets +onlyGivenNames -merge -useContext -underBinder x5
    have hx6 : Fr0 c r s0 x5 := by
      refine State.draw_fr (su rfl hc) (su rfl hr) ?_
      refine State.startDraw_fr (su rfl hc) (su rfl hr) ?_
      exact hu1
    try clear_value x5
    refine fr0_ite (fun _ => ?_) (fun _ => ?_)
    ·
      refine State.fillBounce_fr (su rfl hc) (su rfl hr) ?_
      exact hx6
    ·
      exact hx6

theorem execCopy_fr {c r : Nat} {s0 t : State} {p0} {p1} {p2} (hc : c ||| 22567453696 = c) (hr : r ||| 17538019647970835018444217992595396235887840854016 = r) (h1 : Fr0 c r s0 p1) (ht : execCopy p0 p1 p2 = .next t) :
    Fr0 c r s0 t := by
  unfold execCopy at ht
  injection ht with ht
  subst ht
  refine State.ifLive_fr (su rfl hc) (su rfl hr) ?_ ?_
  ·
    exact h1
  ·
    intro u0 hu1
    refine cmdCopy_fr (su rfl hc) (su rfl hr) ?_
    exact hu1

theorem cmdCplCoalesceTimer_fr {c r : Nat} {s0 : State} {p0} (hc : c ||| 18253611016 = c) (hr : r ||| 0 = r) (h0 : Fr0 c r s0 p0) :
    Fr0 c r s0 (cmdCplCoalesceTimer p0) := by
  unfold cmdCplCoalesceTimer
  split
  ·
    exact h0
  ·
    refine State.irq_fr (su rfl hc) (su rfl hr) ?_
    refine State.elapseTo_fr (su rfl hc) (su rfl hr) ?_
    exact h0

theorem execCplCoalesceTimer_fr {c r : Nat} {s0 t : State} {p0} (hc : c ||| 18253611016 = c) (hr : r ||| 0 = r) (h0 : Fr0 c r s0 p0) (ht : execCplCoalesceTimer p0 = .next t) :
    Fr0 c r s0 t := by
  unfold execCplCoalesceTimer at ht
  injection ht with ht
  subst ht
  refine State.ifLive_fr (su rfl hc) (su rfl hr) ?_ ?_
  ·
    exact h0
  ·
    intro u0 hu1
    refine cmdCplCoalesceTimer_fr (su rfl hc) (su rfl hr) ?_
    exact hu1

theorem State.activity_fr {c r : Nat} {s0 : State} {p0} (hc : c ||| 31139577856 = c) (hr : r ||| 83076749736561927529482663500972036 = r) (h0 : Fr0 c r s0 p0) :
    Fr0 c r s0 (State.activity p0) := by
  unfold State.activity
  extract_lets +onlyGivenNames -merge -useContext -underBinder x0
  have hx1 : Fr0 c r s0 x0 := by
    refine State.modHif_fr (su rfl hc) (su rfl hr) ?_
    exact h0
  try clear_value x0
  refine fr0_ite (fun _ => ?_) (fun _ => ?_)
  ·
    refine fr0_ite (fun _ => ?_) (fun _ => ?_)
    ·
      refine State.post_fr (su rfl hc) (su rfl hr) ?_
      refine State.put_fr (su rfl hc) (su rfl hr) ?_ ?_
      ·
        refine State.settle_fr (su rfl hc) (su rfl hr) ?_
        refine State.put_fr (su rfl hc) (su rfl hr) ?_ ?_
        ·
          refine State.modHif_fr (su rfl hc) (su rfl hr) ?_
          exact hx1
        ·
          exact O.hostState_ok (su rfl hr)
      ·
        exact O.hifLastStatus_ok (su rfl hr)
    ·
      exact hx1
  ·
    refine State.put_fr (su rfl hc) (su rfl hr) ?_ ?_
    ·
      exact hx1
    ·
      exact O.hostState_ok (su rfl hr)

theorem State.ringBusy_fr {c r : Nat} {s0 : State} {p0} (hc : c ||| 18253611008 = c) (hr : r ||| 4 = r) (h0 : Fr0 c r s0 p0) :
    Fr0 c r s0 (State.ringBusy p0) := by
  unfold State.ringBusy
  refine State.lastError_fr (su rfl hc) (su rfl hr) ?_
  refine State.put_fr (su rfl hc) (su rfl hr) ?_ ?_
  ·
    exact h0
  ·
    exact O.hifLastStatus_ok (su rfl hr)

theorem indexWrite_fr {c r : Nat} {s0 : State} {p0} {p1} {p2} {p3} (hc : c ||| 31139577856 = c) (hr : r ||| 83076749736561927529482663500972036 = r) (h0 : Fr0 c r s0 p0) :
    Fr0 c r s0 (indexWrite p0 p1 p2 p3) := by
  unfold indexWrite
  extract_lets +onlyGivenNames -merge -useContext -underBinder x0
  have hx1 : Fr0 c r s0 x0 := by
    refine State.activity_fr (su rfl hc) (su rfl hr) ?_
    exact h0
  try clear_value x0
  extract_lets +onlyGivenNames -merge -useContext -underBinder x2
  refine fr0_ite (fun _ => ?_) (fun _ => ?_)
  ·
    refine State.post_fr (su rfl hc) (su rfl hr) ?_
    refine State.ringBusy_fr (su rfl hc) (su rfl hr) ?_
    exact hx1
  ·
    refine State.modHif_fr (su rfl hc) (su rfl hr) ?_
    exact hx1

theorem cmdCplHead_fr {c r : Nat} {s0 : State} {p0} {p1} (hc : c ||| 31139577856 = c) (hr : r ||| 83076749736561927529482663500972036 = r) (h0 : Fr0 c r s0 p0) :
    Fr0 c r s0 (cmdCplHead p0 p1) := by
  unfold cmdCplHead
  refine indexWrite_fr (su rfl hc) (su rfl hr) ?_
  exact h0

theorem execCplHead_fr {c r : Nat} {s0 t : State} {p0} {p1} (hc : c ||| 31139577856 = c) (hr : r ||| 83076749736561927529482663500972036 = r) (h1 : Fr0 c r s0 p1) (ht : execCplHead p0 p1 = .next t) :
    Fr0 c r s0 t := by
  unfold execCplHead at ht
  injection ht with ht
  subst ht
  refine State.ifLive_fr (su rfl hc) (su rfl hr) ?_ ?_
  ·
    exact h1
  ·
    intro u0 hu1
    refine cmdCplHead_fr (su rfl hc) (su rfl hr) ?_
    exact hu1

theorem State.modCrc_fr {c r : Nat} {s0 : State} {p0} {p1} {p2} (hc : c ||| 134217728 = c) (hr : r ||| 0 = r) (h0 : Fr0 c r s0 p0) :
    Fr0 c r s0 (State.modCrc p0 p1 p2) := by
  unfold State.modCrc
  refine State.modAtl_fr (su rfl hc) (su rfl hr) ?_
  exact h0

theorem cmdCrcAlive_fr {c r : Nat} {s0 : State} {p0} {p1} (hc : c ||| 2281701376 = c) (hr : r ||| 549755813888 = r) (h0 : Fr0 c r s0 p0) :
    Fr0 c r s0 (cmdCrcAlive p0 p1) := by
  unfold cmdCrcAlive
  refine fr0_ite (fun _ => ?_) (fun _ => ?_)
  ·
    exact h0
  ·
    refine fr0_ite (fun _ => ?_) (fun _ => ?_)
    ·
      extract_lets +onlyGivenNames -merge -useContext -underBinder x0
      refine State.modCrc_fr (su rfl hc) (su rfl hr) ?_
      refine State.modDict_fr (su rfl hc) (su rfl hr) ?_
      refine State.put_fr (su rfl hc) (su rfl hr) ?_ ?_
      ·
        exact h0
      ·
        exact O.vipexAliveTx_ok (su rfl hr)
    ·
      refine State.modCrc_fr (su rfl hc) (su rfl hr) ?_
      exact h0

theorem execCrcAlive_fr {c r : Nat} {s0 t : State} {p0} {p1} (hc : c ||| 2281701376 = c) (hr : r ||| 549755813888 = r) (h1 : Fr0 c r s0 p1) (ht : execCrcAlive p0 p1 = .next t) :
    Fr0 c r s0 t := by
  unfold execCrcAlive at ht
  injection ht with ht
  subst ht
  refine State.ifLive_fr (su rfl hc) (su rfl hr) ?_ ?_
  ·
    exact h1
  ·
    intro u0 hu1
    refine cmdCrcAlive_fr (su rfl hc) (su rfl hr) ?_
    exact hu1

theorem cmdCrcData_fr {c r : Nat} {s0 : State} {p0} {p1} {p2} (hc : c ||| 134217728 = c) (hr : r ||| 0 = r) (h0 : Fr0 c r s0 p0) :
    Fr0 c r s0 (cmdCrcData p0 p1 p2) := by
  unfold cmdCrcData
  refine fr0_ite (fun _ => ?_) (fun _ => ?_)
  ·
    refine State.modCrc_fr (su rfl hc) (su rfl hr) ?_
    exact h0
  ·
    exact h0

theorem execCrcData_fr {c r : Nat} {s0 t : State} {p0} {p1} {p2} (hc : c ||| 134217728 = c) (hr : r ||| 0 = r) (h2 : Fr0 c r s0 p2) (ht : execCrcData p0 p1 p2 = .next t) :
    Fr0 c r s0 t := by
  unfold execCrcData at ht
  injection ht with ht
  subst ht
  refine State.ifLive_fr (su rfl hc) (su rfl hr) ?_ ?_
  ·
    exact h2
  ·
    intro u0 hu1
    refine cmdCrcData_fr (su rfl hc) (su rfl hr) ?_
    exact hu1

theorem cmdCrcInit_fr {c r : Nat} {s0 : State} {p0} {p1} (hc : c ||| 134217728 = c) (hr : r ||| 0 = r) (h0 : Fr0 c r s0 p0) :
    Fr0 c r s0 (cmdCrcInit p0 p1) := by
  unfold cmdCrcInit
  refine fr0_ite (fun _ => ?_) (fun _ => ?_)
  ·
    refine State.modCrc_fr (su rfl hc) (su rfl hr) ?_
    exact h0
  ·
    exact h0

theorem execCrcInit_fr {c r : Nat} {s0 t : State} {p0} {p1} (hc : c ||| 134217728 = c) (hr : r ||| 0 = r) (h1 : Fr0 c r s0 p1) (ht : execCrcInit p0 p1 = .next t) :
    Fr0 c r s0 t := by
  unfold execCrcInit at ht
  injection ht with ht
  subst ht
  refine State.ifLive_fr (su rfl hc) (su rfl hr) ?_ ?_
  ·
    exact h1
  ·
    intro u0 hu1
    refine cmdCrcInit_fr (su rfl hc) (su rfl hr) ?_
    exact hu1

theorem cmdCrcSeed_fr {c r : Nat} {s0 : State} {p0} {p1} {p2} (hc : c ||| 134217728 = c) (hr : r ||| 0 = r) (h0 : Fr0 c r s0 p0) :
    Fr0 c r s0 (cmdCrcSeed p0 p1 p2) := by
  unfold cmdCrcSeed
  refine fr0_ite (fun _ => ?_) (fun _ => ?_)
  ·
    refine State.modCrc_fr (su rfl hc) (su rfl hr) ?_
    exact h0
  ·
    exact h0

theorem execCrcSeed_fr {c r : Nat} {s0 t : State} {p0} {p1} {p2} (hc : c ||| 134217728 = c) (hr : r ||| 0 = r) (h2 : Fr0 c r s0 p2) (ht : execCrcSeed p0 p1 p2 = .next t) :
    Fr0 c r s0 t := by
  unfold execCrcSeed at ht
  injection ht with ht
  subst ht
  refine State.ifLive_fr (su rfl hc) (su rfl hr) ?_ ?_
  ·
    exact h2
  ·
    intro u0 hu1
    refine cmdCrcSeed_fr (su rfl hc) (su rfl hr) ?_
    exact hu1

theorem State.dispatchUpd_fr {c r : Nat} {s0 : State} {p0} {p1} (hc : c ||| 12288 = c) (hr : r ||| 0 = r) (h0 : Fr0 c r s0 p0) :
    Fr0 c r s0 (State.dispatchUpd p0 p1) := by
  unfold State.dispatchUpd
  refine fr0_ite (fun _ => ?_) (fun _ => ?_)
  ·
    refine fr_rrec (su rfl hc) ?_
    exact h0
  ·
    split
    ·
      refine fr_rrec (su rfl hc) ?_
      exact h0
    ·
      refine fr_sdec (su rfl hc) ?_
      exact h0

theorem cmdDecoderFree_fr {c r : Nat} {s0 : State} {p0} (hc : c ||| 28672 = c) (hr : r ||| 65024 = r) (h0 : Fr0 c r s0 p0) :
    Fr0 c r s0 (cmdDecoderFree p0) := by
  unfold cmdDecoderFree
  split
  ·
    refine State.settleRelief_fr (su rfl hc) (su rfl hr) ?_
    refine State.dispatchUpd_fr (su rfl hc) (su rfl hr) ?_
    refine fr_sdec (su rfl hc) ?_
    exact h0
  ·
    exact h0

theorem execDecoderFree_fr {c r : Nat} {s0 t : State} {p0} (hc : c ||| 28672 = c) (hr : r ||| 65024 = r) (h0 : Fr0 c r s0 p0) (ht : execDecoderFree p0 = .next t) :
    Fr0 c r s0 t := by
  unfold execDecoderFree at ht
  injection ht with ht
  subst ht
  refine State.ifLive_fr (su rfl hc) (su rfl hr) ?_ ?_
  ·
    exact h0
  ·
    intro u0 hu1
    refine cmdDecoderFree_fr (su rfl hc) (su rfl hr) ?_
    exact hu1

theorem State.netNote_fr {c r : Nat} {s0 : State} {p0} {p1} {p2} (hc : c ||| 22548578304 = c) (hr : r ||| 5070602400912917605986820161536 = r) (h0 : Fr0 c r s0 p0) :
    Fr0 c r s0 (State.netNote p0 p1 p2) := by
  unfold State.netNote
  refine State.note_fr (su rfl hc) (su rfl hr) ?_ ?_
  ·
    exact h0
  ·
    exact O.portLastStatus_ok (su rfl hr)

theorem State.serveTx_fr {c r : Nat} {s0 : State} {p0} {p1} (hc : c ||| 22556966912 = c) (hr : r ||| 23384026197294446696329559724373445920481740849152 = r) (h0 : Fr0 c r s0 p0) :
    Fr0 c r s0 (State.serveTx p0 p1) := by
  unfold State.serveTx
  refine fr0_ite (fun _ => ?_) (fun _ => ?_)
  ·
    exact h0
  ·
    split
    ·
      exact h0
    ·
      refine fr0_ite (fun _ => ?_) (fun _ => ?_)
      ·
        refine State.netNote_fr (su rfl hc) (su rfl hr) ?_
        refine State.txDone_fr (su rfl hc) (su rfl hr) ?_
        exact h0
      ·
        refine fr0_ite (fun _ => ?_) (fun _ => ?_)
        ·
          refine State.netNote_fr (su rfl hc) (su rfl hr) ?_
          refine State.txDone_fr (su rfl hc) (su rfl hr) ?_
          exact h0
        ·
          extract_lets +onlyGivenNames -merge -useContext -underBinder x0
          refine State.txDone_fr (su rfl hc) (su rfl hr) ?_
          refine State.bump_fr (su rfl hc) (su rfl hr) ?_ ?_
          ·
            refine State.emit_fr (su rfl hc) (su rfl hr) ?_
            exact h0
          ·
            exact O.portTxFrames_ok (su rfl hr)

theorem State.sendPtp_fr {c r : Nat} {s0 : State} {p0} {p1} {p2} {p3} (hc : c ||| 22556966912 = c) (hr : r ||| 23384026197294446696329559724373445920481740849152 = r) (h0 : Fr0 c r s0 p0) :
    Fr0 c r s0 (State.sendPtp p0 p1 p2 p3) := by
  unfold State.sendPtp
  extract_lets +onlyGivenNames -merge -useContext -underBinder x0
  extract_lets +onlyGivenNames -merge -useContext -underBinder x1
  try clear_value x1
  refine State.serveTx_fr (su rfl hc) (su rfl hr) ?_
  refine State.queueTx_fr (su rfl hc) (su rfl hr) ?_
  exact h0

theorem cmdDelayReqSend_fr {c r : Nat} {s0 : State} {p0} {p1} {p2} (hc : c ||| 22556966920 = c) (hr : r ||| 23384026197294446696329559724373445920481740849152 = r) (h0 : Fr0 c r s0 p0) :
    Fr0 c r s0 (cmdDelayReqSend p0 p1 p2) := by
  unfold cmdDelayReqSend
  refine fr0_ite (fun _ => ?_) (fun _ => ?_)
  ·
    exact h0
  ·
    extract_lets +onlyGivenNames -merge -useContext -underBinder x0
    have hx1 : Fr0 c r s0 x0 := by
      refine State.reach_fr (su rfl hc) (su rfl hr) ?_
      exact h0
    try clear_value x0
    extract_lets +onlyGivenNames -merge -useContext -underBinder x2
    refine State.sendPtp_fr (su rfl hc) (su rfl hr) ?_
    refine State.modPtp_fr (su rfl hc) (su rfl hr) ?_
    exact hx1

theorem execDelayReqSend_fr {c r : Nat} {s0 t : State} {p0} {p1} {p2} (hc : c ||| 22556966920 = c) (hr : r ||| 23384026197294446696329559724373445920481740849152 = r) (h2 : Fr0 c r s0 p2) (ht : execDelayReqSend p0 p1 p2 = .next t) :
    Fr0 c r s0 t := by
  unfold execDelayReqSend at ht
  injection ht with ht
  subst ht
  refine State.ifLive_fr (su rfl hc) (su rfl hr) ?_ ?_
  ·
    exact h2
  ·
    intro u0 hu1
    refine cmdDelayReqSend_fr (su rfl hc) (su rfl hr) ?_
    exact hu1

theorem State.judge_fr {c r : Nat} {s0 : State} {p0} {p1} (hc : c ||| 31147966464 = c) (hr : r ||| 93536104789177786765035829298527586252701975707648 = r) (h0 : Fr0 c r s0 p0) :
    Fr0 c r s0 (State.judge p0 p1) := by
  unfold State.judge
  extract_lets +onlyGivenNames -merge -useContext -underBinder x0
  try clear_value x0
  split
  ·
    extract_lets +onlyGivenNames -merge -useContext -underBinder x1
    have hx2 : Fr0 c r s0 x1 := by
      refine State.put_fr (su rfl hc) (su rfl hr) ?_ ?_
      ·
        exact h0
      ·
        exact O.ptpOffset_ok (su rfl hr)
    try clear_value x1
    refine fr0_ite (fun _ => ?_) (fun _ => ?_)
    ·
      refine State.reselect_fr (su rfl hc) (su rfl hr) ?_
      refine State.settle_fr (su rfl hc) (su rfl hr) ?_
      refine State.modPtp_fr (su rfl hc) (su rfl hr) ?_
      refine State.put_fr (su rfl hc) (su rfl hr) ?_ ?_
      ·
        exact hx2
      ·
        exact O.ptpState_ok (su rfl hr)
    ·
      exact hx2
  ·
    exact h0

theorem State.addDelay_fr {c r : Nat} {s0 : State} {p0} {p1} {p2} (hc : c ||| 31147966464 = c) (hr : r ||| 140304157183766680147553743945448642881691817082880 = r) (h0 : Fr0 c r s0 p0) :
    Fr0 c r s0 (State.addDelay p0 p1 p2) := by
  unfold State.addDelay
  extract_lets +onlyGivenNames -merge -useContext -underBinder x0
  have hx1 : Fr0 c r s0 x0 := by
    refine State.modPtp_fr (su rfl hc) (su rfl hr) ?_
    exact h0
  try clear_value x0
  extract_lets +onlyGivenNames -merge -useContext -underBinder x2
  have hx3 : Fr0 c r s0 x2 := by
    refine State.put_fr (su rfl hc) (su rfl hr) ?_ ?_
    ·
      exact hx1
    ·
      exact O.ptpPathDelay_ok (su rfl hr)
  try clear_value x2
  refine fr0_ite (fun _ => ?_) (fun _ => ?_)
  ·
    refine State.judge_fr (su rfl hc) (su rfl hr) ?_
    exact hx3
  ·
    exact hx3

theorem cmdDelayRespRx_fr {c r : Nat} {s0 : State} {p0} {p1} {p2} (hc : c ||| 31147966472 = c) (hr : r ||| 140304157183766680147553743945448642881691817082880 = r) (h0 : Fr0 c r s0 p0) :
    Fr0 c r s0 (cmdDelayRespRx p0 p1 p2) := by
  unfold cmdDelayRespRx
  refine fr0_ite (fun _ => ?_) (fun _ => ?_)
  ·
    exact h0
  ·
    split
    ·
      exact h0
    ·
      refine fr0_ite (fun _ => ?_) (fun _ => ?_)
      ·
        exact h0
      ·
        extract_lets +onlyGivenNames -merge -useContext -underBinder x0
        have hx1 : Fr0 c r s0 x0 := by
          refine State.reach_fr (su rfl hc) (su rfl hr) ?_
          exact h0
        try clear_value x0
        extract_lets +onlyGivenNames -merge -useContext -underBinder x2
        try clear_value x2
        refine fr0_ite (fun _ => ?_) (fun _ => ?_)
        ·
          refine State.addDelay_fr (su rfl hc) (su rfl hr) ?_
          exact hx1
        ·
          split
          ·
            exact hx1
          ·
            refine State.addDelay_fr (su rfl hc) (su rfl hr) ?_
            exact hx1

theorem execDelayRespRx_fr {c r : Nat} {s0 t : State} {p0} {p1} {p2} (hc : c ||| 31147966472 = c) (hr : r ||| 140304157183766680147553743945448642881691817082880 = r) (h2 : Fr0 c r s0 p2) (ht : execDelayRespRx p0 p1 p2 = .next t) :
    Fr0 c r s0 t := by
  unfold execDelayRespRx at ht
  injection ht with ht
  subst ht
  refine State.ifLive_fr (su rfl hc) (su rfl hr) ?_ ?_
  ·
    exact h2
  ·
    intro u0 hu1
    refine cmdDelayRespRx_fr (su rfl hc) (su rfl hr) ?_
    exact hu1

theorem State.sideRead_fr {c r : Nat} {s0 : State} {p0} {p1} {p2} {p3} (hc : c ||| 17179869184 = c) (hr : r ||| 0 = r) (h0 : Fr0 c r s0 p0) :
    Fr0 c r s0 (State.sideRead p0 p1 p2 p3) := by
  unfold State.sideRead
  refine State.emit_fr (su rfl hc) (su rfl hr) ?_
  exact h0

theorem State.setTMeas_fr {c r : Nat} {s0 : State} {p0} {p1} (hc : c ||| 32768 = c) (hr : r ||| 8646911284551352320 = r) (h0 : Fr0 c r s0 p0) :
    Fr0 c r s0 (State.setTMeas p0 p1) := by
  unfold State.setTMeas
  refine fr0_ite (fun _ => ?_) (fun _ => ?_)
  ·
    exact h0
  ·
    extract_lets +onlyGivenNames -merge -useContext -underBinder x0
    try clear_value x0
    extract_lets +onlyGivenNames -merge -useContext -underBinder x1
    try clear_value x1
    extract_lets +onlyGivenNames -merge -useContext -underBinder x2
    try clear_value x2
    extract_lets +onlyGivenNames -merge -useContext -underBinder x3
    try clear_value x3
    refine State.refreshCal_fr (su rfl hc) (su rfl hr) ?_
    refine fr_cal (su rfl hc) ?_
    exact h0

theorem State.updateTMeas_fr {c r : Nat} {s0 : State} {p0} (hc : c ||| 32768 = c) (hr : r ||| 8646911284551352320 = r) (h0 : Fr0 c r s0 p0) :
    Fr0 c r s0 (State.updateTMeas p0) := by
  unfold State.updateTMeas
  refine State.setTMeas_fr (su rfl hc) (su rfl hr) ?_
  exact h0

theorem State.linkFault_fr {c r : Nat} {s0 : State} {p0} {p1} {p2} {p3} {p4} {p5} (hc : c ||| 31139577856 = c) (hr : r ||| 187072209578355573530071658894601154414338892627968 = r) (h0 : Fr0 c r s0 p0) :
    Fr0 c r s0 (State.linkFault p0 p1 p2 p3 p4 p5) := by
  unfold State.linkFault
  refine State.raise_fr (su rfl hc) (su rfl hr) ?_
  refine State.put_fr (su rfl hc) (su rfl hr) ?_ ?_
  ·
    exact h0
  ·
    exact O.linkLastStatus_ok (su rfl hr)

theorem State.sidebandFailed_fr {c r : Nat} {s0 : State} {p0} {p1} (hc : c ||| 31140134912 = c) (hr : r ||| 187072209578355573530071658894609801325623443980288 = r) (h0 : Fr0 c r s0 p0) :
    Fr0 c r s0 (State.sidebandFailed p0 p1) := by
  unfold State.sidebandFailed
  extract_lets +onlyGivenNames -merge -useContext -underBinder x0
  extract_lets +onlyGivenNames -merge -useContext -underBinder x1
  have hx2 : Fr0 c r s0 x1 := by
    refine State.modSlot_fr (su rfl hc) (su rfl hr) ?_
    exact h0
  try clear_value x1
  refine fr0_ite (fun _ => ?_) (fun _ => ?_)
  ·
    refine State.updateTMeas_fr (su rfl hc) (su rfl hr) ?_
    refine State.linkFault_fr (su rfl hc) (su rfl hr) ?_
    refine State.modSlot_fr (su rfl hc) (su rfl hr) ?_
    exact hx2
  ·
    exact hx2

theorem State.sidebandOk_fr {c r : Nat} {s0 : State} {p0} {p1} (hc : c ||| 31140102144 = c) (hr : r ||| 4685472994722233450496 = r) (h0 : Fr0 c r s0 p0) :
    Fr0 c r s0 (State.sidebandOk p0 p1) := by
  unfold State.sidebandOk
  refine State.settle_fr (su rfl hc) (su rfl hr) ?_
  refine State.modSlot_fr (su rfl hc) (su rfl hr) ?_
  exact h0

theorem State.mismatch_fr {c r : Nat} {s0 : State} {p0} {p1} (hc : c ||| 17180393472 = c) (hr : r ||| 9444735217539104112640 = r) (h0 : Fr0 c r s0 p0) :
    Fr0 c r s0 (State.mismatch p0 p1) := by
  unfold State.mismatch
  refine State.sendSync_fr (su rfl hc) (su rfl hr) ?_
  refine State.modSlot_fr (su rfl hc) (su rfl hr) ?_
  refine State.setAllLanes_fr (su rfl hc) (su rfl hr) ?_
  refine State.setSlotState_fr (su rfl hc) (su rfl hr) ?_
  exact h0

theorem State.sideWrite_fr {c r : Nat} {s0 : State} {p0} {p1} {p2} {p3} (hc : c ||| 17179869184 = c) (hr : r ||| 0 = r) (h0 : Fr0 c r s0 p0) :
    Fr0 c r s0 (State.sideWrite p0 p1 p2 p3) := by
  unfold State.sideWrite
  refine State.emit_fr (su rfl hc) (su rfl hr) ?_
  exact h0

theorem State.startTraining_fr {c r : Nat} {s0 : State} {p0} {p1} (hc : c ||| 17180393472 = c) (hr : r ||| 9444735217539104112640 = r) (h0 : Fr0 c r s0 p0) :
    Fr0 c r s0 (State.startTraining p0 p1) := by
  unfold State.startTraining
  extract_lets +onlyGivenNames -merge -useContext -underBinder x0
  have hx1 : Fr0 c r s0 x0 := by
    refine State.sideWrite_fr (su rfl hc) (su rfl hr) ?_
    refine State.sideWrite_fr (su rfl hc) (su rfl hr) ?_
    exact h0
  try clear_value x0
  extract_lets +onlyGivenNames -merge -useContext -underBinder x2
  have hx3 : Fr0 c r s0 x2 := by
    refine State.setAllLanes_fr (su rfl hc) (su rfl hr) ?_
    refine State.setSlotState_fr (su rfl hc) (su rfl hr) ?_
    refine State.sendSync_fr (su rfl hc) (su rfl hr) ?_
    exact hx1
  try clear_value x2
  refine State.modSlot_fr (su rfl hc) (su rfl hr) ?_
  exact hx3

theorem State.linkNote_fr {c r : Nat} {s0 : State} {p0} {p1} {p2} (hc : c ||| 22548578304 = c) (hr : r ||| 187072209578355573530071658587684226515959372840960 = r) (h0 : Fr0 c r s0 p0) :
    Fr0 c r s0 (State.linkNote p0 p1 p2) := by
  unfold State.linkNote
  refine State.note_fr (su rfl hc) (su rfl hr) ?_ ?_
  ·
    exact h0
  ·
    exact O.linkLastStatus_ok (su rfl hr)

theorem cmdDescriptorRead_fr {c r : Nat} {s0 : State} {p0} {p1} {p2} (hc : c ||| 31140134920 = c) (hr : r ||| 1309505467048489014710501610430159895638918741098496 = r) (h0 : Fr0 c r s0 p0) :
    Fr0 c r s0 (cmdDescriptorRead p0 p1 p2) := by
  unfold cmdDescriptorRead
  split
  ·
    extract_lets +onlyGivenNames -merge -useContext -underBinder x0
    have hx1 : Fr0 c r s0 x0 := by
      refine State.sideRead_fr (su rfl hc) (su rfl hr) ?_
      exact h0
    try clear_value x0
    extract_lets +onlyGivenNames -merge -useContext -underBinder x2
    have hx3 : Fr0 c r s0 x2 := by
      refine fr0_ite (fun _ => ?_) (fun _ => ?_)
      ·
        refine State.sidebandFailed_fr (su rfl hc) (su rfl hr) ?_
        exact hx1
      ·
        refine State.sidebandOk_fr (su rfl hc) (su rfl hr) ?_
        exact hx1
    try clear_value x2
    extract_lets +onlyGivenNames -merge -useContext -underBinder x4
    try clear_value x4
    refine fr0_ite (fun _ => ?_) (fun _ => ?_)
    ·
      refine fr0_ite (fun _ => ?_) (fun _ => ?_)
      ·
        refine State.modSlot_fr (su rfl hc) (su rfl hr) ?_
        refine State.elapseTo_fr (su rfl hc) (su rfl hr) ?_
        exact hx3
      ·
        refine State.linkFault_fr (su rfl hc) (su rfl hr) ?_
        refine State.mismatch_fr (su rfl hc) (su rfl hr) ?_
        exact hx3
    ·
      extract_lets +onlyGivenNames -merge -useContext -underBinder x5
      have hx6 : Fr0 c r s0 x5 := by
        refine State.modSlot_fr (su rfl hc) (su rfl hr) ?_
        refine State.putO_fr (su rfl hc) (su rfl hr) ?_ ?_
        ·
          refine State.putO_fr (su rfl hc) (su rfl hr) ?_ ?_
          ·
            exact hx3
          ·
            exact O.partnerDescriptor_ok (su rfl hr)
        ·
          exact O.uniformityPartner_ok (su rfl hr)
      try clear_value x5
      refine fr0_ite (fun _ => ?_) (fun _ => ?_)
      ·
        refine State.startTraining_fr (su rfl hc) (su rfl hr) ?_
        exact hx6
      ·
        refine State.linkNote_fr (su rfl hc) (su rfl hr) ?_
        refine State.mismatch_fr (su rfl hc) (su rfl hr) ?_
        exact hx6
  ·
    exact h0

theorem execDescriptorRead_fr {c r : Nat} {s0 t : State} {p0} {p1} {p2} (hc : c ||| 31140134920 = c) (hr : r ||| 1309505467048489014710501610430159895638918741098496 = r) (h2 : Fr0 c r s0 p2) (ht : execDescriptorRead p0 p1 p2 = .next t) :
    Fr0 c r s0 t := by
  unfold execDescriptorRead at ht
  injection ht with ht
  subst ht
  refine State.ifLive_fr (su rfl hc) (su rfl hr) ?_ ?_
  ·
    exact h2
  ·
    intro u0 hu1
    refine cmdDescriptorRead_fr (su rfl hc) (su rfl hr) ?_
    exact hu1

theorem State.discardAdmitted_fr {c r : Nat} {s0 : State} {p0} {p1} {p2} (hc : c ||| 22549717632 = c) (hr : r ||| 10384593717069655257060992665845254 = r) (h0 : Fr0 c r s0 p0) :
    Fr0 c r s0 (State.discardAdmitted p0 p1 p2) := by
  unfold State.discardAdmitted
  extract_lets +onlyGivenNames -merge -useContext -underBinder x0
  try clear_value x0
  extract_lets +onlyGivenNames -merge -useContext -underBinder x1
  try clear_value x1
  extract_lets +onlyGivenNames -merge -useContext -underBinder x2
  try clear_value x2
  extract_lets +onlyGivenNames -merge -useContext -underBinder x3
  have hx4 : Fr0 c r s0 x3 := by
    refine fr0_foldl (fun ha5s _ ha5 => ?_) ?_
    ·
      extract_lets +onlyGivenNames -merge -useContext -underBinder x6
      have hx7 : Fr0 c r s0 x6 := by
        refine State.noteDiscard_fr (su rfl hc) (su rfl hr) ?_
        refine State.presentedEntry_fr (su rfl hc) (su rfl hr) ?_
        exact ha5
      try clear_value x6
      refine fr0_ite (fun _ => ?_) (fun _ => ?_)
      ·
        refine State.promiseBroken_fr (su rfl hc) (su rfl hr) ?_
        exact hx7
      ·
        exact hx7
    ·
      exact h0
  try clear_value x3
  extract_lets +onlyGivenNames -merge -useContext -underBinder x8
  try clear_value x8
  extract_lets +onlyGivenNames -merge -useContext -underBinder x9
  have hx10 : Fr0 c r s0 x9 := by
    refine State.modScan_fr (su rfl hc) (su rfl hr) ?_
    exact hx4
  try clear_value x9
  extract_lets +onlyGivenNames -merge -useContext -underBinder x11
  have hx12 : Fr0 c r s0 x11 := by
    refine State.clearRse_fr (su rfl hc) (su rfl hr) ?_
    exact hx10
  try clear_value x11
  extract_lets +onlyGivenNames -merge -useContext -underBinder x13
  try clear_value x13
  extract_lets +onlyGivenNames -merge -useContext -underBinder x14
  have hx15 : Fr0 c r s0 x14 := by
    refine State.modAdm_fr (su rfl hc) (su rfl hr) ?_
    exact hx12
  try clear_value x14
  refine fr0_foldl (fun ha16s _ ha16 => ?_) ?_
  ·
    refine State.releaseFrame_fr (su rfl hc) (su rfl hr) ?_
    exact ha16
  ·
    exact hx15

theorem State.gateAll_fr {c r : Nat} {s0 : State} {p0} {p1} (hc : c ||| 512 = c) (hr : r ||| 0 = r) (h0 : Fr0 c r s0 p0) :
    Fr0 c r s0 (State.gateAll p0 p1) := by
  unfold State.gateAll
  refine fr0_foldl (fun ha0s _ ha0 => ?_) ?_
  ·
    refine State.gateIsl_fr (su rfl hc) (su rfl hr) ?_
    exact ha0
  ·
    exact h0

theorem State.headStopped_fr {c r : Nat} {s0 : State} {p0} {p1} (hc : c ||| 17180394240 = c) (hr : r ||| 9444748728337986224128 = r) (h0 : Fr0 c r s0 p0) :
    Fr0 c r s0 (State.headStopped p0 p1) := by
  unfold State.headStopped
  extract_lets +onlyGivenNames -merge -useContext -underBinder x0
  try clear_value x0
  extract_lets +onlyGivenNames -merge -useContext -underBinder x1
  try clear_value x1
  extract_lets +onlyGivenNames -merge -useContext -underBinder x2
  have hx3 : Fr0 c r s0 x2 := by
    refine State.stopSlots_fr (su rfl hc) (su rfl hr) ?_
    exact h0
  try clear_value x2
  extract_lets +onlyGivenNames -merge -useContext -underBinder x4
  have hx5 : Fr0 c r s0 x4 := by
    refine fr_held (su rfl hc) ?_
    exact hx3
  try clear_value x4
  refine fr0_ite (fun _ => ?_) (fun _ => ?_)
  ·
    refine State.headStarting_fr (su rfl hc) (su rfl hr) ?_
    exact hx5
  ·
    extract_lets +onlyGivenNames -merge -useContext -underBinder x6
    have hx7 : Fr0 c r s0 x6 := by
      refine State.gateAll_fr (su rfl hc) (su rfl hr) ?_
      refine State.setHead_fr (su rfl hc) (su rfl hr) ?_
      exact hx5
    try clear_value x6
    refine fr0_ite (fun _ => ?_) (fun _ => ?_)
    ·
      exact hx7
    ·
      extract_lets +onlyGivenNames -merge -useContext -underBinder x8
      have hx9 : Fr0 c r s0 x8 := by
        refine State.gateAll_fr (su rfl hc) (su rfl hr) ?_
        exact hx7
      try clear_value x8
      refine fr0_ite (fun _ => ?_) (fun _ => ?_)
      ·
        refine State.gateAll_fr (su rfl hc) (su rfl hr) ?_
        exact hx9
      ·
        exact hx9

theorem State.dropHeads_fr {c r : Nat} {s0 : State} {p0} (hc : c ||| 17181442816 = c) (hr : r ||| 9444748728337986224128 = r) (h0 : Fr0 c r s0 p0) :
    Fr0 c r s0 (State.dropHeads p0) := by
  unfold State.dropHeads
  refine State.haltScan_fr (su rfl hc) (su rfl hr) ?_
  refine fr0_foldl (fun ha0s _ ha0 => ?_) ?_
  ·
    refine fr0_ite (fun _ => ?_) (fun _ => ?_)
    ·
      exact ha0
    ·
      refine State.headStopped_fr (su rfl hc) (su rfl hr) ?_
      exact ha0
  ·
    exact h0

theorem State.confirmHoldup_fr {c r : Nat} {s0 : State} {p0} (hc : c ||| 22550504320 = c) (hr : r ||| 5986310712082564662979542577275731671025319549271558 = r) (h0 : Fr0 c r s0 p0) :
    Fr0 c r s0 (State.confirmHoldup p0) := by
  unfold State.confirmHoldup
  extract_lets +onlyGivenNames -merge -useContext -underBinder x0
  have hx1 : Fr0 c r s0 x0 := by
    refine State.modPwr_fr (su rfl hc) (su rfl hr) ?_
    exact h0
  try clear_value x0
  extract_lets +onlyGivenNames -merge -useContext -underBinder x2
  have hx3 : Fr0 c r s0 x2 := by
    refine State.pwrNote_fr (su rfl hc) (su rfl hr) ?_
    refine State.bump_fr (su rfl hc) (su rfl hr) ?_ ?_
    ·
      refine State.bump_fr (su rfl hc) (su rfl hr) ?_ ?_
      ·
        refine State.put_fr (su rfl hc) (su rfl hr) ?_ ?_
        ·
          exact hx1
        ·
          exact O.pwrHoldupState_ok (su rfl hr)
      ·
        exact O.pwrHoldupCount_ok (su rfl hr)
    ·
      exact O.holdupLifetime_ok (su rfl hr)
  try clear_value x2
  extract_lets +onlyGivenNames -merge -useContext -underBinder x4
  have hx5 : Fr0 c r s0 x4 := by
    refine State.cutFirstScan_fr (su rfl hc) (su rfl hr) ?_
    refine State.sendAbort_fr (su rfl hc) (su rfl hr) ?_
    refine State.suspend_fr (su rfl hc) (su rfl hr) ?_
    exact hx3
  try clear_value x4
  extract_lets +onlyGivenNames -merge -useContext -underBinder x6
  have hx7 : Fr0 c r s0 x6 := by
    refine State.cutDirect_fr (su rfl hc) (su rfl hr) ?_
    exact hx5
  try clear_value x6
  extract_lets +onlyGivenNames -merge -useContext -underBinder x8
  have hx9 : Fr0 c r s0 x8 := by
    refine State.put_fr (su rfl hc) (su rfl hr) ?_ ?_
    ·
      exact hx7
    ·
      exact O.panelPowerState_ok (su rfl hr)
  try clear_value x8
  extract_lets +onlyGivenNames -merge -useContext -underBinder x10
  have hx11 : Fr0 c r s0 x10 := by
    refine State.discardAdmitted_fr (su rfl hc) (su rfl hr) ?_
    refine State.modScan_fr (su rfl hc) (su rfl hr) ?_
    refine State.dropHeads_fr (su rfl hc) (su rfl hr) ?_
    exact hx9
  try clear_value x10
  refine State.startDown_fr (su rfl hc) (su rfl hr) ?_
  exact hx11

theorem compareRail_fr {c r : Nat} {s0 : State} {p0} {p1} {p2} {p3} (hc : c ||| 22550504320 = c) (hr : r ||| 10476043741963098427701262383380153107408344321293830 = r) (h0 : Fr0 c r s0 p0) :
    Fr0 c r s0 (compareRail p0 p1 p2 p3) := by
  unfold compareRail
  extract_lets +onlyGivenNames -merge -useContext -underBinder x0
  extract_lets +onlyGivenNames -merge -useContext -underBinder x1
  extract_lets +onlyGivenNames -merge -useContext -underBinder x2
  try clear_value x2
  extract_lets +onlyGivenNames -merge -useContext -underBinder x3
  have hx4 : Fr0 c r s0 x3 := by
    refine State.modPwr_fr (su rfl hc) (su rfl hr) ?_
    refine State.put_fr (su rfl hc) (su rfl hr) ?_ ?_
    ·
      exact h0
    ·
      exact O.deviceRailMv_ok (su rfl hr)
  try clear_value x3
  extract_lets +onlyGivenNames -merge -useContext -underBinder x5
  have hx6 : Fr0 c r s0 x5 := by
    refine fr0_ite (fun _ => ?_) (fun _ => ?_)
    ·
      exact hx4
    ·
      refine State.uncover_fr (su rfl hc) (su rfl hr) ?_
      exact hx4
  try clear_value x5
  extract_lets +onlyGivenNames -merge -useContext -underBinder x7
  have hx8 : Fr0 c r s0 x7 := by
    refine State.modPwr_fr (su rfl hc) (su rfl hr) ?_
    refine State.pwrNote_fr (su rfl hc) (su rfl hr) ?_
    refine State.bump_fr (su rfl hc) (su rfl hr) ?_ ?_
    ·
      exact hx6
    ·
      exact O.deviceRailLowCount_ok (su rfl hr)
  try clear_value x7
  extract_lets +onlyGivenNames -merge -useContext -underBinder x9
  have hx10 : Fr0 c r s0 x9 := by
    refine fr0_ite (fun _ => ?_) (fun _ => ?_)
    ·
      refine fr0_ite (fun _ => ?_) (fun _ => ?_)
      ·
        exact hx8
      ·
        refine State.confirmHoldup_fr (su rfl hc) (su rfl hr) ?_
        refine State.modPwr_fr (su rfl hc) (su rfl hr) ?_
        exact hx8
    ·
      exact hx6
  try clear_value x9
  refine fr0_ite (fun _ => ?_) (fun _ => ?_)
  ·
    refine State.pwrNote_fr (su rfl hc) (su rfl hr) ?_
    refine State.modPwr_fr (su rfl hc) (su rfl hr) ?_
    exact hx10
  ·
    exact hx10

theorem cmdDeviceRailCompare_fr {c r : Nat} {s0 : State} {p0} {p1} (hc : c ||| 22550504320 = c) (hr : r ||| 10476043741963098427701262383380153107408344321293830 = r) (h0 : Fr0 c r s0 p0) :
    Fr0 c r s0 (cmdDeviceRailCompare p0 p1) := by
  unfold cmdDeviceRailCompare
  extract_lets +onlyGivenNames -merge -useContext -underBinder x0
  try clear_value x0
  extract_lets +onlyGivenNames -merge -useContext -underBinder x1
  try clear_value x1
  extract_lets +onlyGivenNames -merge -useContext -underBinder x2
  have hx3 : Fr0 c r s0 x2 := by
    refine fr0_foldl (fun ha4s _ ha4 => ?_) ?_
    ·
      refine compareRail_fr (su rfl hc) (su rfl hr) ?_
      exact ha4
    ·
      exact h0
  try clear_value x2
  extract_lets +onlyGivenNames -merge -useContext -underBinder x5
  try clear_value x5
  refine State.modPwr_fr (su rfl hc) (su rfl hr) ?_
  exact hx3

theorem execDeviceRailCompare_fr {c r : Nat} {s0 t : State} {p0} {p1} (hc : c ||| 22550504320 = c) (hr : r ||| 10476043741963098427701262383380153107408344321293830 = r) (h1 : Fr0 c r s0 p1) (ht : execDeviceRailCompare p0 p1 = .next t) :
    Fr0 c r s0 t := by
  unfold execDeviceRailCompare at ht
  injection ht with ht
  subst ht
  refine State.ifLive_fr (su rfl hc) (su rfl hr) ?_ ?_
  ·
    exact h1
  ·
    intro u0 hu1
    refine cmdDeviceRailCompare_fr (su rfl hc) (su rfl hr) ?_
    exact hu1

theorem cmdDhcpRetry_fr {c r : Nat} {s0 : State} {p0} {p1} (hc : c ||| 22556966912 = c) (hr : r ||| 5070602400912917605986820161536 = r) (h0 : Fr0 c r s0 p0) :
    Fr0 c r s0 (cmdDhcpRetry p0 p1) := by
  unfold cmdDhcpRetry
  refine fr0_ite (fun _ => ?_) (fun _ => ?_)
  ·
    refine State.seekLease_fr (su rfl hc) (su rfl hr) ?_
    refine State.netNote_fr (su rfl hc) (su rfl hr) ?_
    exact h0
  ·
    exact h0

theorem execDhcpRetry_fr {c r : Nat} {s0 t : State} {p0} {p1} (hc : c ||| 22556966912 = c) (hr : r ||| 5070602400912917605986820161536 = r) (h1 : Fr0 c r s0 p1) (ht : execDhcpRetry p0 p1 = .next t) :
    Fr0 c r s0 t := by
  unfold execDhcpRetry at ht
  injection ht with ht
  subst ht
  refine State.ifLive_fr (su rfl hc) (su rfl hr) ?_ ?_
  ·
    exact h1
  ·
    intro u0 hu1
    refine cmdDhcpRetry_fr (su rfl hc) (su rfl hr) ?_
    exact hu1

theorem execDictRead_fr {c r : Nat} {s0 t : State} {p0} {p1} {p2} {p3} {p4} (hc : c ||| 103028671480 = c) (hr : r ||| 10141204801825835211972283334656 = r) (h4 : Fr0 c r s0 p4) (ht : execDictRead p0 p1 p2 p3 p4 = .next t) :
    Fr0 c r s0 t := by
  unfold execDictRead at ht
  injection ht with ht
  subst ht
  refine State.ifLive_fr (su rfl hc) (su rfl hr) ?_ ?_
  ·
    exact h4
  ·
    intro u0 hu1
    refine State.request_fr (su rfl hc) (su rfl hr) ?_
    exact hu1

theorem execDictWrite_fr {c r : Nat} {s0 t : State} {p0} {p1} {p2} {p3} {p4} (hc : c ||| 103028671480 = c) (hr : r ||| 10141204801825835211972283334656 = r) (h4 : Fr0 c r s0 p4) (ht : execDictWrite p0 p1 p2 p3 p4 = .next t) :
    Fr0 c r s0 t := by
  unfold execDictWrite at ht
  injection ht with ht
  subst ht
  refine State.ifLive_fr (su rfl hc) (su rfl hr) ?_ ?_
  ·
    exact h4
  ·
    intro u0 hu1
    refine State.request_fr (su rfl hc) (su rfl hr) ?_
    exact hu1

theorem State.abortForSwap_fr {c r : Nat} {s0 : State} {p0} (hc : c ||| 22548611328 = c) (hr : r ||| 155951448601133434903986176 = r) (h0 : Fr0 c r s0 p0) :
    Fr0 c r s0 (State.abortForSwap p0) := by
  unfold State.abortForSwap
  refine fr0_ite (fun _ => ?_) (fun _ => ?_)
  ·
    refine State.abortCapture_fr (su rfl hc) (su rfl hr) ?_
    exact h0
  ·
    exact h0

theorem State.armSwap_fr {c r : Nat} {s0 : State} {p0} (hc : c ||| 24704483760 = c) (hr : r ||| 39772450557372536850144559104 = r) (h0 : Fr0 c r s0 p0) :
    Fr0 c r s0 (State.armSwap p0) := by
  unfold State.armSwap
  extract_lets +onlyGivenNames -merge -useContext -underBinder x0
  try clear_value x0
  extract_lets +onlyGivenNames -merge -useContext -underBinder x1
  try clear_value x1
  extract_lets +onlyGivenNames -merge -useContext -underBinder x2
  have hx3 : Fr0 c r s0 x2 := by
    refine fr_cfg (su rfl hc) ?_
    exact h0
  try clear_value x2
  extract_lets +onlyGivenNames -merge -useContext -underBinder x4
  have hx5 : Fr0 c r s0 x4 := by
    refine State.abortForSwap_fr (su rfl hc) (su rfl hr) ?_
    refine State.put_fr (su rfl hc) (su rfl hr) ?_ ?_
    ·
      refine State.put_fr (su rfl hc) (su rfl hr) ?_ ?_
      ·
        refine State.put_fr (su rfl hc) (su rfl hr) ?_ ?_
        ·
          exact hx3
        ·
          exact O.cfgSwapState_ok (su rfl hr)
      ·
        exact O.cfgSwapResult_ok (su rfl hr)
    ·
      exact O.cfgMaquetteDirty_ok (su rfl hr)
  try clear_value x4
  split
  ·
    exact hx5
  ·
    refine State.answer_fr (su rfl hc) (su rfl hr) ?_
    exact hx5

theorem cmdSwapValidationDone_fr {c r : Nat} {s0 : State} {p0} (hc : c ||| 24704483760 = c) (hr : r ||| 39772450557372536850144559104 = r) (h0 : Fr0 c r s0 p0) :
    Fr0 c r s0 (cmdSwapValidationDone p0) := by
  unfold cmdSwapValidationDone
  refine fr0_ite (fun _ => ?_) (fun _ => ?_)
  ·
    exact h0
  ·
    extract_lets +onlyGivenNames -merge -useContext -underBinder x0
    refine fr0_ite (fun _ => ?_) (fun _ => ?_)
    ·
      refine State.refuseSwap_fr (su rfl hc) (su rfl hr) ?_
      exact h0
    ·
      refine State.armSwap_fr (su rfl hc) (su rfl hr) ?_
      exact h0

theorem State.tick_fr {c r : Nat} {s0 : State} {p0} {p1} (hc : c ||| 103028671480 = c) (hr : r ||| 10141204801825835211920743727104 = r) (h0 : Fr0 c r s0 p0) :
    Fr0 c r s0 (State.tick p0 p1) := by
  unfold State.tick
  extract_lets +onlyGivenNames -merge -useContext -underBinder x0
  have hx1 : Fr0 c r s0 x0 := by
    exact h0
  try clear_value x0
  extract_lets +onlyGivenNames -merge -useContext -underBinder x2
  try clear_value x2
  extract_lets +onlyGivenNames -merge -useContext -underBinder x3
  try clear_value x3
  extract_lets +onlyGivenNames -merge -useContext -underBinder x4
  have hx5 : Fr0 c r s0 x4 := by
    refine fr0_foldl (fun ha6s _ ha6 => ?_) ?_
    ·
      refine State.serve_fr (su rfl hc) (su rfl hr) ?_
      exact ha6
    ·
      exact h0
  try clear_value x4
  extract_lets +onlyGivenNames -merge -useContext -underBinder x7
  have hx8 : Fr0 c r s0 x7 := by
    refine fr0_foldl (fun ha9s _ ha9 => ?_) ?_
    ·
      refine State.answer_fr (su rfl hc) (su rfl hr) ?_
      exact ha9
    ·
      exact hx5
  try clear_value x7
  extract_lets +onlyGivenNames -merge -useContext -underBinder x10
  have hx11 : Fr0 c r s0 x10 := by
    refine fr0_foldl (fun ha12s _ ha12 => ?_) ?_
    ·
      refine State.serve_fr (su rfl hc) (su rfl hr) ?_
      exact ha12
    ·
      exact hx8
  try clear_value x10
  extract_lets +onlyGivenNames -merge -useContext -underBinder x13
  have hx14 : Fr0 c r s0 x13 := by
    refine fr0_foldl (fun ha15s _ ha15 => ?_) ?_
    ·
      refine State.serve_fr (su rfl hc) (su rfl hr) ?_
      exact ha15
    ·
      exact hx11
  try clear_value x13
  extract_lets +onlyGivenNames -merge -useContext -underBinder x16
  have hx17 : Fr0 c r s0 x16 := by
    refine fr0_foldl (fun ha18s _ ha18 => ?_) ?_
    ·
      refine State.serve_fr (su rfl hc) (su rfl hr) ?_
      exact ha18
    ·
      exact hx14
  try clear_value x16
  extract_lets +onlyGivenNames -merge -useContext -underBinder x19
  try clear_value x19
  extract_lets +onlyGivenNames -merge -useContext -underBinder x20
  have hx21 : Fr0 c r s0 x20 := by
    refine fr0_ite (fun _ => ?_) (fun _ => ?_)
    ·
      exact hx17
    ·
      refine cmdSwapValidationDone_fr (su rfl hc) (su rfl hr) ?_
      exact hx17
  try clear_value x20
  refine fr0_foldl (fun ha22s _ ha22 => ?_) ?_
  ·
    refine State.serve_fr (su rfl hc) (su rfl hr) ?_
    exact ha22
  ·
    exact hx21

theorem cmdDictionaryTick_fr {c r : Nat} {s0 : State} {p0} {p1} (hc : c ||| 103028671480 = c) (hr : r ||| 10141204801825835211972283334656 = r) (h0 : Fr0 c r s0 p0) :
    Fr0 c r s0 (cmdDictionaryTick p0 p1) := by
  unfold cmdDictionaryTick
  extract_lets +onlyGivenNames -merge -useContext -underBinder x0
  try clear_value x0
  extract_lets +onlyGivenNames -merge -useContext -underBinder x1
  try clear_value x1
  extract_lets +onlyGivenNames -merge -useContext -underBinder x2
  try clear_value x2
  extract_lets +onlyGivenNames -merge -useContext -underBinder x3
  try clear_value x3
  extract_lets +onlyGivenNames -merge -useContext -underBinder x4
  have hx5 : Fr0 c r s0 x4 := by
    refine fr0_foldl (fun ha6s _ ha6 => ?_) ?_
    ·
      refine State.turnAway_fr (su rfl hc) (su rfl hr) ?_
      exact ha6
    ·
      refine State.modDict_fr (su rfl hc) (su rfl hr) ?_
      exact h0
  try clear_value x4
  extract_lets +onlyGivenNames -merge -useContext -underBinder x7
  have hx8 : Fr0 c r s0 x7 := by
    refine fr0_foldl (fun ha9s _ ha9 => ?_) ?_
    ·
      refine State.loadWindow_fr (su rfl hc) (su rfl hr) ?_
      exact ha9
    ·
      exact hx5
  try clear_value x7
  refine State.tick_fr (su rfl hc) (su rfl hr) ?_
  exact hx8

theorem execDictionaryTick_fr {c r : Nat} {s0 t : State} {p0} {p1} (hc : c ||| 103028671480 = c) (hr : r ||| 10141204801825835211972283334656 = r) (h1 : Fr0 c r s0 p1) (ht : execDictionaryTick p0 p1 = .next t) :
    Fr0 c r s0 t := by
  unfold execDictionaryTick at ht
  injection ht with ht
  subst ht
  refine State.ifLive_fr (su rfl hc) (su rfl hr) ?_ ?_
  ·
    exact h1
  ·
    intro u0 hu1
    refine cmdDictionaryTick_fr (su rfl hc) (su rfl hr) ?_
    exact hu1

theorem fdrAdvance_fr {c r : Nat} {s0 : State} {p0} (hc : c ||| 1073741824 = c) (hr : r ||| 0 = r) (h0 : Fr0 c r s0 p0) :
    Fr0 c r s0 (fdrAdvance p0) := by
  unfold fdrAdvance
  refine State.modHif_fr (su rfl hc) (su rfl hr) ?_
  exact h0

theorem directEntry_fr {c r : Nat} {s0 : State} {p0} {p1} {p2} (hc : c ||| 18253611008 = c) (hr : r ||| 6 = r) (h0 : Fr0 c r s0 p0) :
    Fr0 c r s0 (directEntry p0 p1 p2) := by
  unfold directEntry
  extract_lets +onlyGivenNames -merge -useContext -underBinder x0
  have hx1 : Fr0 c r s0 x0 := by
    refine fr0_ite (fun _ => ?_) (fun _ => ?_)
    ·
      exact h0
    ·
      refine State.lastError_fr (su rfl hc) (su rfl hr) ?_
      refine State.put_fr (su rfl hc) (su rfl hr) ?_ ?_
      ·
        exact h0
      ·
        exact O.hifLastStatus_ok (su rfl hr)
  try clear_value x0
  refine State.complete_fr (su rfl hc) (su rfl hr) ?_
  exact hx1

theorem hostCommit_fr {c r : Nat} {s0 : State} {p0} {p1} (hc : c ||| 1048576 = c) (hr : r ||| 11972621413014756705924586149611790497021399392124928 = r) (h0 : Fr0 c r s0 p0) :
    Fr2 c r s0 (hostCommit p0 p1) := by
  unfold hostCommit
  refine fr2_ite (fun _ => ?_) (fun _ => ?_)
  ·
    refine fr2_mk ?_
    refine State.modScan_fr (su rfl hc) (su rfl hr) ?_
    exact h0
  ·
    refine fr2_mk ?_
    refine State.put_fr (su rfl hc) (su rfl hr) ?_ ?_
    ·
      refine State.bump_fr (su rfl hc) (su rfl hr) ?_ ?_
      ·
        refine State.modScan_fr (su rfl hc) (su rfl hr) ?_
        exact h0
      ·
        exact O.scanCommitIgnoredCount_ok (su rfl hr)
    ·
      exact O.scanLastStatus_ok (su rfl hr)

theorem cmdDirectCommitInstant_fr {c r : Nat} {s0 : State} {p0} (hc : c ||| 18254659592 = c) (hr : r ||| 11972621413014756705924586149611790497021399392124934 = r) (h0 : Fr0 c r s0 p0) :
    Fr0 c r s0 (cmdDirectCommitInstant p0) := by
  unfold cmdDirectCommitInstant
  split
  ·
    exact h0
  ·
    refine fr0_ite (fun _ => ?_) (fun _ => ?_)
    ·
      exact h0
    ·
      extract_lets +onlyGivenNames -merge -useContext -underBinder x0
      have hx1 : Fr0 c r s0 x0 := by
        refine State.reach_fr (su rfl hc) (su rfl hr) ?_
        exact h0
      try clear_value x0
      refine fr0_ite (fun _ => ?_) (fun _ => ?_)
      ·
        refine State.modHif_fr (su rfl hc) (su rfl hr) ?_
        refine fdrAdvance_fr (su rfl hc) (su rfl hr) ?_
        refine directEntry_fr (su rfl hc) (su rfl hr) ?_
        exact hx1
      ·
        extract_lets +onlyGivenNames -merge -useContext -underBinder x2
        have hx3 : Fr0 c r s0 x2 := by
          refine State.modScan_fr (su rfl hc) (su rfl hr) ?_
          exact hx1
        try clear_value x2
        extract_lets +onlyGivenNames -merge -useContext -underBinder x4
        have hx5 : Fr2 c r s0 x4 := by
          refine hostCommit_fr (su rfl hc) (su rfl hr) ?_
          exact hx3
        try clear_value x4
        refine fr0_ite (fun _ => ?_) (fun _ => ?_)
        ·
          refine State.modHif_fr (su rfl hc) (su rfl hr) ?_
          refine fdrAdvance_fr (su rfl hc) (su rfl hr) ?_
          refine to2 ?_
          exact hx5
        ·
          refine State.modHif_fr (su rfl hc) (su rfl hr) ?_
          refine fdrAdvance_fr (su rfl hc) (su rfl hr) ?_
          refine directEntry_fr (su rfl hc) (su rfl hr) ?_
          refine to2 ?_
          exact hx5

theorem execDirectCommitInstant_fr {c r : Nat} {s0 t : State} {p0} (hc : c ||| 18254659592 = c) (hr : r ||| 11972621413014756705924586149611790497021399392124934 = r) (h0 : Fr0 c r s0 p0) (ht : execDirectCommitInstant p0 = .next t) :
    Fr0 c r s0 t := by
  unfold execDirectCommitInstant at ht
  injection ht with ht
  subst ht
  refine State.ifLive_fr (su rfl hc) (su rfl hr) ?_ ?_
  ·
    exact h0
  ·
    intro u0 hu1
    refine cmdDirectCommitInstant_fr (su rfl hc) (su rfl hr) ?_
    exact hu1

theorem cmdDirectReq_fr {c r : Nat} {s0 : State} {p0} {p1} (hc : c ||| 18253611008 = c) (hr : r ||| 23945242826029513411849172299223580994042798784118784 = r) (h0 : Fr0 c r s0 p0) :
    Fr0 c r s0 (cmdDirectReq p0 p1) := by
  unfold cmdDirectReq
  refine fr0_ite (fun _ => ?_) (fun _ => ?_)
  ·
    exact h0
  ·
    refine fr0_ite (fun _ => ?_) (fun _ => ?_)
    ·
      refine State.lastError_fr (su rfl hc) (su rfl hr) ?_
      refine State.put_fr (su rfl hc) (su rfl hr) ?_ ?_
      ·
        exact h0
      ·
        exact O.pdpLastStatus_ok (su rfl hr)
    ·
      refine State.modHif_fr (su rfl hc) (su rfl hr) ?_
      exact h0

theorem execDirectReq_fr {c r : Nat} {s0 t : State} {p0} {p1} (hc : c ||| 18253611008 = c) (hr : r ||| 23945242826029513411849172299223580994042798784118784 = r) (h1 : Fr0 c r s0 p1) (ht : execDirectReq p0 p1 = .next t) :
    Fr0 c r s0 t := by
  unfold execDirectReq at ht
  injection ht with ht
  subst ht
  refine State.ifLive_fr (su rfl hc) (su rfl hr) ?_ ?_
  ·
    exact h1
  ·
    intro u0 hu1
    refine cmdDirectReq_fr (su rfl hc) (su rfl hr) ?_
    exact hu1

theorem cmdDiscoveryRetry_fr {c r : Nat} {s0 : State} {p0} {p1} (hc : c ||| 524296 = c) (hr : r ||| 2251799813685248 = r) (h0 : Fr0 c r s0 p0) :
    Fr0 c r s0 (cmdDiscoveryRetry p0 p1) := by
  unfold cmdDiscoveryRetry
  refine fr0_ite (fun _ => ?_) (fun _ => ?_)
  ·
    exact h0
  ·
    refine State.startDiscovery_fr (su rfl hc) (su rfl hr) ?_
    refine State.elapseTo_fr (su rfl hc) (su rfl hr) ?_
    exact h0

theorem execDiscoveryRetry_fr {c r : Nat} {s0 t : State} {p0} {p1} (hc : c ||| 524296 = c) (hr : r ||| 2251799813685248 = r) (h1 : Fr0 c r s0 p1) (ht : execDiscoveryRetry p0 p1 = .next t) :
    Fr0 c r s0 t := by
  unfold execDiscoveryRetry at ht
  injection ht with ht
  subst ht
  refine State.ifLive_fr (su rfl hc) (su rfl hr) ?_ ?_
  ·
    exact h1
  ·
    intro u0 hu1
    refine cmdDiscoveryRetry_fr (su rfl hc) (su rfl hr) ?_
    exact hu1

theorem execDomainAbort_fr {c r : Nat} {s0 t : State} {p0} {p1} {p2} (hc : c ||| 103028671480 = c) (hr : r ||| 10141204801825835211972283334656 = r) (h2 : Fr0 c r s0 p2) (ht : execDomainAbort p0 p1 p2 = .next t) :
    Fr0 c r s0 t := by
  unfold execDomainAbort at ht
  injection ht with ht
  subst ht
  refine State.ifLive_fr (su rfl hc) (su rfl hr) ?_ ?_
  ·
    exact h2
  ·
    intro u0 hu1
    refine State.request_fr (su rfl hc) (su rfl hr) ?_
    exact hu1

theorem execDomainClose_fr {c r : Nat} {s0 t : State} {p0} {p1} {p2} {p3} {p4} (hc : c ||| 103028671480 = c) (hr : r ||| 10141204801825835211972283334656 = r) (h3 : Fr0 c r s0 p3) (ht : execDomainClose p0 p1 p2 p3 p4 = .next t) :
    Fr0 c r s0 t := by
  unfold execDomainClose at ht
  injection ht with ht
  subst ht
  refine State.ifLive_fr (su rfl hc) (su rfl hr) ?_ ?_
  ·
    exact h3
  ·
    intro u0 hu1
    refine State.request_fr (su rfl hc) (su rfl hr) ?_
    exact hu1

theorem execDomainData_fr {c r : Nat} {s0 t : State} {p0} {p1} {p2} {p3} {p4} {p5} {p6} (hc : c ||| 103028671480 = c) (hr : r ||| 10141204801825835211972283334656 = r) (h5 : Fr0 c r s0 p5) (ht : execDomainData p0 p1 p2 p3 p4 p5 p6 = .next t) :
    Fr0 c r s0 t := by
  unfold execDomainData at ht
  injection ht with ht
  subst ht
  refine State.ifLive_fr (su rfl hc) (su rfl hr) ?_ ?_
  ·
    exact h5
  ·
    intro u0 hu1
    refine State.request_fr (su rfl hc) (su rfl hr) ?_
    exact hu1

theorem cmdDomainLost_fr {c r : Nat} {s0 : State} {p0} {p1} (hc : c ||| 31147966472 = c) (hr : r ||| 47890485652059026823698344598754078915983977356197888 = r) (h0 : Fr0 c r s0 p0) :
    Fr0 c r s0 (cmdDomainLost p0 p1) := by
  unfold cmdDomainLost
  extract_lets +onlyGivenNames -merge -useContext -underBinder x0
  try clear_value x0
  split
  ·
    exact h0
  ·
    extract_lets +onlyGivenNames -merge -useContext -underBinder x1
    refine State.dropMaster_fr (su rfl hc) (su rfl hr) ?_
    refine State.raise_fr (su rfl hc) (su rfl hr) ?_
    refine State.bump_fr (su rfl hc) (su rfl hr) ?_ ?_
    ·
      refine State.reach_fr (su rfl hc) (su rfl hr) ?_
      exact h0
    ·
      exact O.ptpLostCount_ok (su rfl hr)

theorem execDomainLost_fr {c r : Nat} {s0 t : State} {p0} {p1} (hc : c ||| 31147966472 = c) (hr : r ||| 47890485652059026823698344598754078915983977356197888 = r) (h1 : Fr0 c r s0 p1) (ht : execDomainLost p0 p1 = .next t) :
    Fr0 c r s0 t := by
  unfold execDomainLost at ht
  injection ht with ht
  subst ht
  refine State.ifLive_fr (su rfl hc) (su rfl hr) ?_ ?_
  ·
    exact h1
  ·
    intro u0 hu1
    refine cmdDomainLost_fr (su rfl hc) (su rfl hr) ?_
    exact hu1

theorem execDomainOpen_fr {c r : Nat} {s0 t : State} {p0} {p1} {p2} {p3} {p4} {p5} {p6} (hc : c ||| 103028671480 = c) (hr : r ||| 10141204801825835211972283334656 = r) (h6 : Fr0 c r s0 p6) (ht : execDomainOpen p0 p1 p2 p3 p4 p5 p6 = .next t) :
    Fr0 c r s0 t := by
  unfold execDomainOpen at ht
  injection ht with ht
  subst ht
  refine State.ifLive_fr (su rfl hc) (su rfl hr) ?_ ?_
  ·
    exact h6
  ·
    intro u0 hu1
    refine State.request_fr (su rfl hc) (su rfl hr) ?_
    exact hu1

theorem cmdDomainRevert_fr {c r : Nat} {s0 : State} {p0} (hc : c ||| 22556966920 = c) (hr : r ||| 33292288 = r) (h0 : Fr0 c r s0 p0) :
    Fr0 c r s0 (cmdDomainRevert p0) := by
  unfold cmdDomainRevert
  extract_lets +onlyGivenNames -merge -useContext -underBinder x0
  refine fr0_ite (fun _ => ?_) (fun _ => ?_)
  ·
    exact h0
  ·
    refine State.reselect_fr (su rfl hc) (su rfl hr) ?_
    refine State.reach_fr (su rfl hc) (su rfl hr) ?_
    exact h0

theorem execDomainRevert_fr {c r : Nat} {s0 t : State} {p0} (hc : c ||| 22556966920 = c) (hr : r ||| 33292288 = r) (h0 : Fr0 c r s0 p0) (ht : execDomainRevert p0 = .next t) :
    Fr0 c r s0 t := by
  unfold execDomainRevert at ht
  injection ht with ht
  subst ht
  refine State.ifLive_fr (su rfl hc) (su rfl hr) ?_ ?_
  ·
    exact h0
  ·
    intro u0 hu1
    refine cmdDomainRevert_fr (su rfl hc) (su rfl hr) ?_
    exact hu1

theorem cmdDomainTimeout_fr {c r : Nat} {s0 : State} {p0} {p1} (hc : c ||| 2147483656 = c) (hr : r ||| 79228162514264337662263427072 = r) (h0 : Fr0 c r s0 p0) :
    Fr0 c r s0 (cmdDomainTimeout p0 p1) := by
  unfold cmdDomainTimeout
  split
  ·
    exact h0
  ·
    refine State.put_fr (su rfl hc) (su rfl hr) ?_ ?_
    ·
      refine State.endTransfer_fr (su rfl hc) (su rfl hr) ?_
      refine State.elapseTo_fr (su rfl hc) (su rfl hr) ?_
      exact h0
    ·
      exact O.dictLastStatus_ok (su rfl hr)

theorem execDomainTimeout_fr {c r : Nat} {s0 t : State} {p0} {p1} (hc : c ||| 2147483656 = c) (hr : r ||| 79228162514264337662263427072 = r) (h1 : Fr0 c r s0 p1) (ht : execDomainTimeout p0 p1 = .next t) :
    Fr0 c r s0 t := by
  unfold execDomainTimeout at ht
  injection ht with ht
  subst ht
  refine State.ifLive_fr (su rfl hc) (su rfl hr) ?_ ?_
  ·
    exact h1
  ·
    intro u0 hu1
    refine cmdDomainTimeout_fr (su rfl hc) (su rfl hr) ?_
    exact hu1

theorem State.takeEpoch_fr {c r : Nat} {s0 : State} {p0} {p1} (hc : c ||| 8 = c) (hr : r ||| 0 = r) (h0 : Fr0 c r s0 p0) :
    Fr0 c r s0 (State.takeEpoch p0 p1) := by
  unfold State.takeEpoch
  extract_lets +onlyGivenNames -merge -useContext -underBinder x0
  have hx1 : Fr0 c r s0 x0 := by
    refine State.reach_fr (su rfl hc) (su rfl hr) ?_
    exact h0
  try clear_value x0
  refine fr_clk (su rfl hc) ?_
  exact hx1

theorem State.advanceEpoch_fr {c r : Nat} {s0 : State} {p0} (hc : c ||| 136 = c) (hr : r ||| 0 = r) (h0 : Fr0 c r s0 p0) :
    Fr0 c r s0 (State.advanceEpoch p0) := by
  unfold State.advanceEpoch
  split
  ·
    extract_lets +onlyGivenNames -merge -useContext -underBinder x0
    extract_lets +onlyGivenNames -merge -useContext -underBinder x1
    refine fr0_ite (fun _ => ?_) (fun _ => ?_)
    ·
      refine State.takeEpoch_fr (su rfl hc) (su rfl hr) ?_
      exact h0
    ·
      extract_lets +onlyGivenNames -merge -useContext -underBinder x2
      try clear_value x2
      extract_lets +onlyGivenNames -merge -useContext -underBinder x3
      have hx4 : Fr0 c r s0 x3 := by
        refine fr_cfg (su rfl hc) ?_
        exact h0
      try clear_value x3
      refine State.takeEpoch_fr (su rfl hc) (su rfl hr) ?_
      exact hx4
  ·
    refine State.takeEpoch_fr (su rfl hc) (su rfl hr) ?_
    exact h0

theorem State.feedSlots_fr {c r : Nat} {s0 : State} {p0} {p1} (hc : c ||| 524288 = c) (hr : r ||| 0 = r) (h0 : Fr0 c r s0 p0) :
    Fr0 c r s0 (State.feedSlots p0 p1) := by
  unfold State.feedSlots
  refine fr0_foldl (fun ha0s _ ha0 => ?_) ?_
  ·
    extract_lets +onlyGivenNames -merge -useContext -underBinder x1
    try clear_value x1
    refine State.modSlot_fr (su rfl hc) (su rfl hr) ?_
    exact ha0
  ·
    exact h0

theorem State.idleHeads_fr {c r : Nat} {s0 : State} {p0} {p1} {p2} (hc : c ||| 17181442048 = c) (hr : r ||| 0 = r) (h0 : Fr0 c r s0 p0) :
    Fr0 c r s0 (State.idleHeads p0 p1 p2) := by
  unfold State.idleHeads
  refine State.modScan_fr (su rfl hc) (su rfl hr) ?_
  refine State.sendAbort_fr (su rfl hc) (su rfl hr) ?_
  exact h0

theorem State.endResync_fr {c r : Nat} {s0 : State} {p0} {p1} (hc : c ||| 22550151168 = c) (hr : r ||| 10384593717069655257060992665780230 = r) (h0 : Fr0 c r s0 p0) :
    Fr0 c r s0 (State.endResync p0 p1) := by
  unfold State.endResync
  split
  ·
    extract_lets +onlyGivenNames -merge -useContext -underBinder x0
    have hx1 : Fr0 c r s0 x0 := by
      refine State.cutDirect_fr (su rfl hc) (su rfl hr) ?_
      refine State.cutFirstScan_fr (su rfl hc) (su rfl hr) ?_
      exact h0
    try clear_value x0
    refine State.feedSlots_fr (su rfl hc) (su rfl hr) ?_
    refine State.modScan_fr (su rfl hc) (su rfl hr) ?_
    refine State.idleHeads_fr (su rfl hc) (su rfl hr) ?_
    exact hx1
  ·
    exact h0

theorem State.finishFirst_fr {c r : Nat} {s0 : State} {p0} (hc : c ||| 22549626880 = c) (hr : r ||| 2787593160200921609761620041142037854027782 = r) (h0 : Fr0 c r s0 p0) :
    Fr0 c r s0 (State.finishFirst p0) := by
  unfold State.finishFirst
  extract_lets +onlyGivenNames -merge -useContext -underBinder x0
  try clear_value x0
  extract_lets +onlyGivenNames -merge -useContext -underBinder x1
  have hx2 : Fr0 c r s0 x1 := by
    refine State.modScan_fr (su rfl hc) (su rfl hr) ?_
    exact h0
  try clear_value x1
  extract_lets +onlyGivenNames -merge -useContext -underBinder x3
  have hx4 : Fr0 c r s0 x3 := by
    refine fr0_ite (fun _ => ?_) (fun _ => ?_)
    ·
      exact h0
    ·
      split
      ·
        exact hx2
      ·
        refine fr0_ite (fun _ => ?_) (fun _ => ?_)
        ·
          exact hx2
        ·
          extract_lets +onlyGivenNames -merge -useContext -underBinder x5
          extract_lets +onlyGivenNames -merge -useContext -underBinder x6
          have hx7 : Fr0 c r s0 x6 := by
            refine State.bump_fr (su rfl hc) (su rfl hr) ?_ ?_
            ·
              refine State.presentedEntry_fr (su rfl hc) (su rfl hr) ?_
              exact hx2
            ·
              exact O.framesPresented_ok (su rfl hr)
          try clear_value x6
          refine fr0_ite (fun _ => ?_) (fun _ => ?_)
          ·
            refine State.promiseBroken_fr (su rfl hc) (su rfl hr) ?_
            exact hx7
          ·
            exact hx7
  try clear_value x3
  refine fr0_ite (fun _ => ?_) (fun _ => ?_)
  ·
    refine State.cutDirect_fr (su rfl hc) (su rfl hr) ?_
    exact hx4
  ·
    exact hx4

theorem State.retarget_fr {c r : Nat} {s0 : State} {p0} (hc : c ||| 1064960 = c) (hr : r ||| 0 = r) (h0 : Fr0 c r s0 p0) :
    Fr0 c r s0 (State.retarget p0) := by
  unfold State.retarget
  extract_lets +onlyGivenNames -merge -useContext -underBinder x0
  try clear_value x0
  extract_lets +onlyGivenNames -merge -useContext -underBinder x1
  have hx2 : Fr0 c r s0 x1 := by
    refine State.modAdm_fr (su rfl hc) (su rfl hr) ?_
    exact h0
  try clear_value x1
  refine State.modScan_fr (su rfl hc) (su rfl hr) ?_
  exact hx2

theorem State.exchangeBanks_fr {c r : Nat} {s0 : State} {p0} (hc : c ||| 1097952 = c) (hr : r ||| 0 = r) (h0 : Fr0 c r s0 p0) :
    Fr0 c r s0 (State.exchangeBanks p0) := by
  unfold State.exchangeBanks
  extract_lets +onlyGivenNames -merge -useContext -underBinder x0
  try clear_value x0
  extract_lets +onlyGivenNames -merge -useContext -underBinder x1
  have hx2 : Fr0 c r s0 x1 := by
    refine fr0_ite (fun _ => ?_) (fun _ => ?_)
    ·
      refine fr_cal (su rfl hc) ?_
      exact h0
    ·
      exact h0
  try clear_value x1
  extract_lets +onlyGivenNames -merge -useContext -underBinder x3
  try clear_value x3
  extract_lets +onlyGivenNames -merge -useContext -underBinder x4
  try clear_value x4
  extract_lets +onlyGivenNames -merge -useContext -underBinder x5
  have hx6 : Fr0 c r s0 x5 := by
    refine fr0_ite (fun _ => ?_) (fun _ => ?_)
    ·
      refine fr_raw (u := x1) rfl (fun k hk => by cases k <;> first | rfl | exact bitx hc (by decide) hk) ?_
      exact hx2
    ·
      exact hx2
  try clear_value x5
  extract_lets +onlyGivenNames -merge -useContext -underBinder x7
  try clear_value x7
  extract_lets +onlyGivenNames -merge -useContext -underBinder x8
  have hx9 : Fr0 c r s0 x8 := by
    refine fr_raw (u := x5) rfl (fun k hk => by cases k <;> first | rfl | exact bitx hc (by decide) hk) ?_
    exact hx6
  try clear_value x8
  refine State.retarget_fr (su rfl hc) (su rfl hr) ?_
  exact hx9

theorem clpTfChange_fr {c r : Nat} {s0 : State} {p0} (hc : c ||| 31676449280 = c) (hr : r ||| 1194721826677872827301888 = r) (h0 : Fr0 c r s0 p0) :
    Fr0 c r s0 (clpTfChange p0) := by
  unfold clpTfChange
  refine fr0_ite (fun _ => ?_) (fun _ => ?_)
  ·
    refine State.clpNote_fr (su rfl hc) (su rfl hr) ?_
    refine stopPlay_fr (su rfl hc) (su rfl hr) ?_
    exact h0
  ·
    exact h0

theorem State.sendLeavers_fr {c r : Nat} {s0 : State} {p0} {p1} (hc : c ||| 17180393472 = c) (hr : r ||| 0 = r) (h0 : Fr0 c r s0 p0) :
    Fr0 c r s0 (State.sendLeavers p0 p1) := by
  unfold State.sendLeavers
  refine fr0_foldl (fun ha0s _ ha0 => ?_) ?_
  ·
    refine fr0_ite (fun _ => ?_) (fun _ => ?_)
    ·
      refine State.modSlot_fr (su rfl hc) (su rfl hr) ?_
      refine State.sendSync_fr (su rfl hc) (su rfl hr) ?_
      refine State.sendControl_fr (su rfl hc) (su rfl hr) ?_
      exact ha0
    ·
      exact ha0
  ·
    exact h0

theorem State.swapSlot_fr {c r : Nat} {s0 : State} {p0} {p1} {p2} {p3} (hc : c ||| 22549102592 = c) (hr : r ||| 187072209578355573530071658597128961733498476953600 = r) (h0 : Fr0 c r s0 p0) :
    Fr0 c r s0 (State.swapSlot p0 p1 p2 p3) := by
  unfold State.swapSlot
  extract_lets +onlyGivenNames -merge -useContext -underBinder x0
  try clear_value x0
  extract_lets +onlyGivenNames -merge -useContext -underBinder x1
  have hx2 : Fr0 c r s0 x1 := by
    refine fr0_ite (fun _ => ?_) (fun _ => ?_)
    ·
      refine State.modSlot_fr (su rfl hc) (su rfl hr) ?_
      exact h0
    ·
      exact h0
  try clear_value x1
  extract_lets +onlyGivenNames -merge -useContext -underBinder x3
  extract_lets +onlyGivenNames -merge -useContext -underBinder x4
  try clear_value x4
  refine fr0_ite (fun _ => ?_) (fun _ => ?_)
  ·
    exact hx2
  ·
    refine fr0_ite (fun _ => ?_) (fun _ => ?_)
    ·
      refine fr0_ite (fun _ => ?_) (fun _ => ?_)
      ·
        exact hx2
      ·
        refine State.modSlot_fr (su rfl hc) (su rfl hr) ?_
        refine State.setAllLanes_fr (su rfl hc) (su rfl hr) ?_
        refine State.setSlotState_fr (su rfl hc) (su rfl hr) ?_
        exact hx2
    ·
      refine fr0_ite (fun _ => ?_) (fun _ => ?_)
      ·
        refine State.startDiscovery_fr (su rfl hc) (su rfl hr) ?_
        exact hx2
      ·
        refine fr0_ite (fun _ => ?_) (fun _ => ?_)
        ·
          refine fr0_ite (fun _ => ?_) (fun _ => ?_)
          ·
            exact hx2
          ·
            refine fr0_ite (fun _ => ?_) (fun _ => ?_)
            ·
              refine State.startDiscovery_fr (su rfl hc) (su rfl hr) ?_
              exact hx2
            ·
              refine fr0_ite (fun _ => ?_) (fun _ => ?_)
              ·
                refine State.startTraining_fr (su rfl hc) (su rfl hr) ?_
                exact hx2
              ·
                exact hx2
        ·
          refine fr0_ite (fun _ => ?_) (fun _ => ?_)
          ·
            exact hx2
          ·
            refine fr0_ite (fun _ => ?_) (fun _ => ?_)
            ·
              refine State.linkNote_fr (su rfl hc) (su rfl hr) ?_
              refine State.mismatch_fr (su rfl hc) (su rfl hr) ?_
              exact hx2
            ·
              refine fr0_ite (fun _ => ?_) (fun _ => ?_)
              ·
                exact hx2
              ·
                refine fr0_ite (fun _ => ?_) (fun _ => ?_)
                ·
                  extract_lets +onlyGivenNames -merge -useContext -underBinder x5
                  have hx6 : Fr0 c r s0 x5 := by
                    refine fr0_foldl (fun ha7s _ ha7 => ?_) ?_
                    ·
                      refine State.setLaneState_fr (su rfl hc) (su rfl hr) ?_
                      exact ha7
                    ·
                      exact hx2
                  try clear_value x5
                  refine State.modSlot_fr (su rfl hc) (su rfl hr) ?_
                  refine State.sendSync_fr (su rfl hc) (su rfl hr) ?_
                  refine State.sideWrite_fr (su rfl hc) (su rfl hr) ?_
                  exact hx6
                ·
                  refine State.startTraining_fr (su rfl hc) (su rfl hr) ?_
                  exact hx2

theorem State.leaveLanes_fr {c r : Nat} {s0 : State} {p0} {p1} (hc : c ||| 0 = c) (hr : r ||| 95780971304118053647396689196903768709136934426902528 = r) (h0 : Fr0 c r s0 p0) :
    Fr0 c r s0 (State.leaveLanes p0 p1) := by
  unfold State.leaveLanes
  extract_lets +onlyGivenNames -merge -useContext -underBinder x0
  try clear_value x0
  refine fr0_foldl (fun ha1s _ ha1 => ?_) ?_
  ·
    refine fr0_foldl (fun ha2s _ ha2 => ?_) ?_
    ·
      refine State.put_fr (su rfl hc) (su rfl hr) ?_ ?_
      ·
        refine State.put_fr (su rfl hc) (su rfl hr) ?_ ?_
        ·
          exact ha2
        ·
          exact O.linkLaneState_ok (su rfl hr)
      ·
        exact O.linkLaneSetting_ok (su rfl hr)
    ·
      exact ha1
  ·
    exact h0

theorem State.showSettings_fr {c r : Nat} {s0 : State} {p0} {p1} (hc : c ||| 0 = c) (hr : r ||| 95780971304118053647396689196894323976171195136475136 = r) (h0 : Fr0 c r s0 p0) :
    Fr0 c r s0 (State.showSettings p0 p1) := by
  unfold State.showSettings
  refine fr0_foldl (fun ha0s _ ha0 => ?_) ?_
  ·
    extract_lets +onlyGivenNames -merge -useContext -underBinder x1
    try clear_value x1
    refine State.put_fr (su rfl hc) (su rfl hr) ?_ ?_
    ·
      exact ha0
    ·
      exact O.linkLaneSetting_ok (su rfl hr)
  ·
    exact h0

theorem State.switchBanks_fr {c r : Nat} {s0 : State} {p0} (hc : c ||| 31677006560 = c) (hr : r ||| 95968043513696409220926760856686183425004649866854400 = r) (h0 : Fr0 c r s0 p0) :
    Fr0 c r s0 (State.switchBanks p0) := by
  unfold State.switchBanks
  extract_lets +onlyGivenNames -merge -useContext -underBinder x0
  have hx1 : Fr0 c r s0 x0 := by
    exact h0
  try clear_value x0
  extract_lets +onlyGivenNames -merge -useContext -underBinder x2
  have hx3 : Fr0 c r s0 x2 := by
    refine State.exchangeBanks_fr (su rfl hc) (su rfl hr) ?_
    exact h0
  try clear_value x2
  extract_lets +onlyGivenNames -merge -useContext -underBinder x4
  have hx5 : Fr0 c r s0 x4 := by
    refine fr0_ite (fun _ => ?_) (fun _ => ?_)
    ·
      exact hx3
    ·
      refine clpTfChange_fr (su rfl hc) (su rfl hr) ?_
      exact hx3
  try clear_value x4
  extract_lets +onlyGivenNames -merge -useContext -underBinder x6
  have hx7 : Fr0 c r s0 x6 := by
    refine State.sendLeavers_fr (su rfl hc) (su rfl hr) ?_
    exact hx5
  try clear_value x6
  extract_lets +onlyGivenNames -merge -useContext -underBinder x8
  have hx9 : Fr0 c r s0 x8 := by
    refine fr0_ite (fun _ => ?_) (fun _ => ?_)
    ·
      refine State.setHead_fr (su rfl hc) (su rfl hr) ?_
      refine State.stopSlots_fr (su rfl hc) (su rfl hr) ?_
      exact hx7
    ·
      exact hx7
  try clear_value x8
  extract_lets +onlyGivenNames -merge -useContext -underBinder x10
  have hx11 : Fr0 c r s0 x10 := by
    refine fr0_foldl (fun ha12s _ ha12 => ?_) ?_
    ·
      refine State.swapSlot_fr (su rfl hc) (su rfl hr) ?_
      exact ha12
    ·
      refine State.leaveLanes_fr (su rfl hc) (su rfl hr) ?_
      exact hx9
  try clear_value x10
  extract_lets +onlyGivenNames -merge -useContext -underBinder x13
  have hx14 : Fr0 c r s0 x13 := by
    refine fr0_foldl (fun ha15s _ ha15 => ?_) ?_
    ·
      refine State.showSettings_fr (su rfl hc) (su rfl hr) ?_
      exact ha15
    ·
      exact hx11
  try clear_value x13
  extract_lets +onlyGivenNames -merge -useContext -underBinder x16
  have hx17 : Fr0 c r s0 x16 := by
    refine fr0_ite (fun _ => ?_) (fun _ => ?_)
    ·
      refine State.regateRse_fr (su rfl hc) (su rfl hr) ?_
      exact hx14
    ·
      exact hx14
  try clear_value x16
  refine State.refreshCal_fr (su rfl hc) (su rfl hr) ?_
  refine fr0_ite (fun _ => ?_) (fun _ => ?_)
  ·
    refine State.modScan_fr (su rfl hc) (su rfl hr) ?_
    exact hx17
  ·
    exact hx17

theorem State.beginBlank_fr {c r : Nat} {s0 : State} {p0} (hc : c ||| 17180393600 = c) (hr : r ||| 0 = r) (h0 : Fr0 c r s0 p0) :
    Fr0 c r s0 (State.beginBlank p0) := by
  unfold State.beginBlank
  extract_lets +onlyGivenNames -merge -useContext -underBinder x0
  extract_lets +onlyGivenNames -merge -useContext -underBinder x1
  have hx2 : Fr0 c r s0 x1 := by
    refine fr0_foldl (fun ha3s _ ha3 => ?_) ?_
    ·
      refine fr0_ite (fun _ => ?_) (fun _ => ?_)
      ·
        refine State.sendToMask_fr (su rfl hc) (su rfl hr) ?_
        exact ha3
      ·
        exact ha3
    ·
      exact h0
  try clear_value x1
  extract_lets +onlyGivenNames -merge -useContext -underBinder x4
  have hx5 : Fr0 c r s0 x4 := by
    refine State.feedSlots_fr (su rfl hc) (su rfl hr) ?_
    exact hx2
  try clear_value x4
  refine fr_cfg (su rfl hc) ?_
  exact hx5

theorem State.audSwap_fr {c r : Nat} {s0 : State} {p0} {p1} (hc : c ||| 4194304 = c) (hr : r ||| 0 = r) (h0 : Fr0 c r s0 p0) :
    Fr0 c r s0 (State.audSwap p0 p1) := by
  unfold State.audSwap
  refine fr_aud (su rfl hc) ?_
  exact h0

theorem State.completeSwap_fr {c r : Nat} {s0 : State} {p0} (hc : c ||| 31681200864 = c) (hr : r ||| 670653871338426509176789836099713783256911851897749504 = r) (h0 : Fr0 c r s0 p0) :
    Fr0 c r s0 (State.completeSwap p0) := by
  unfold State.completeSwap
  extract_lets +onlyGivenNames -merge -useContext -underBinder x0
  have hx1 : Fr0 c r s0 x0 := by
    refine fr0_ite (fun _ => ?_) (fun _ => ?_)
    ·
      exact h0
    ·
      refine State.switchBanks_fr (su rfl hc) (su rfl hr) ?_
      exact h0
  try clear_value x0
  extract_lets +onlyGivenNames -merge -useContext -underBinder x2
  extract_lets +onlyGivenNames -merge -useContext -underBinder x3
  extract_lets +onlyGivenNames -merge -useContext -underBinder x4
  try clear_value x4
  extract_lets +onlyGivenNames -merge -useContext -underBinder x5
  have hx6 : Fr0 c r s0 x5 := by
    refine fr_cfg (su rfl hc) ?_
    exact hx1
  try clear_value x5
  extract_lets +onlyGivenNames -merge -useContext -underBinder x7
  have hx8 : Fr0 c r s0 x7 := by
    refine State.audSwap_fr (su rfl hc) (su rfl hr) ?_
    exact hx6
  try clear_value x7
  extract_lets +onlyGivenNames -merge -useContext -underBinder x9
  have hx10 : Fr0 c r s0 x9 := by
    refine State.put_fr (su rfl hc) (su rfl hr) ?_ ?_
    ·
      refine State.bump_fr (su rfl hc) (su rfl hr) ?_ ?_
      ·
        refine State.put_fr (su rfl hc) (su rfl hr) ?_ ?_
        ·
          refine State.put_fr (su rfl hc) (su rfl hr) ?_ ?_
          ·
            exact hx8
          ·
            exact O.cfgBankGeneration_ok (su rfl hr)
        ·
          exact O.cfgSwapState_ok (su rfl hr)
      ·
        exact O.cfgSwapCount_ok (su rfl hr)
    ·
      exact O.cfgSwapKind_ok (su rfl hr)
  try clear_value x9
  refine State.post_fr (su rfl hc) (su rfl hr) ?_
  exact hx10

theorem State.epochSwap_fr {c r : Nat} {s0 : State} {p0} (hc : c ||| 31681200864 = c) (hr : r ||| 670653871338426509176789836099713783256911851897749504 = r) (h0 : Fr0 c r s0 p0) :
    Fr0 c r s0 (State.epochSwap p0) := by
  unfold State.epochSwap
  refine fr0_ite (fun _ => ?_) (fun _ => ?_)
  ·
    exact h0
  ·
    refine fr0_ite (fun _ => ?_) (fun _ => ?_)
    ·
      refine fr0_ite (fun _ => ?_) (fun _ => ?_)
      ·
        extract_lets +onlyGivenNames -merge -useContext -underBinder x0
        have hx1 : Fr0 c r s0 x0 := by
          refine State.switchBanks_fr (su rfl hc) (su rfl hr) ?_
          refine State.beginBlank_fr (su rfl hc) (su rfl hr) ?_
          exact h0
        try clear_value x0
        refine fr0_ite (fun _ => ?_) (fun _ => ?_)
        ·
          refine State.completeSwap_fr (su rfl hc) (su rfl hr) ?_
          exact hx1
        ·
          exact hx1
      ·
        exact h0
    ·
      refine fr0_ite (fun _ => ?_) (fun _ => ?_)
      ·
        exact h0
      ·
        refine fr0_ite (fun _ => ?_) (fun _ => ?_)
        ·
          extract_lets +onlyGivenNames -merge -useContext -underBinder x2
          have hx3 : Fr0 c r s0 x2 := by
            refine State.completeSwap_fr (su rfl hc) (su rfl hr) ?_
            refine State.beginBlank_fr (su rfl hc) (su rfl hr) ?_
            exact h0
          try clear_value x2
          refine fr_cfg (su rfl hc) ?_
          exact hx3
        ·
          refine State.completeSwap_fr (su rfl hc) (su rfl hr) ?_
          exact h0

theorem State.stopHeads_fr {c r : Nat} {s0 : State} {p0} {p1} (hc : c ||| 17180394240 = c) (hr : r ||| 9444748728337986224128 = r) (h0 : Fr0 c r s0 p0) :
    Fr0 c r s0 (State.stopHeads p0 p1) := by
  unfold State.stopHeads
  refine fr0_foldl (fun ha0s _ ha0 => ?_) ?_
  ·
    refine fr0_ite (fun _ => ?_) (fun _ => ?_)
    ·
      refine State.headStopped_fr (su rfl hc) (su rfl hr) ?_
      refine fr0_ite (fun _ => ?_) (fun _ => ?_)
      ·
        refine State.sendToMask_fr (su rfl hc) (su rfl hr) ?_
        exact ha0
      ·
        exact ha0
    ·
      exact ha0
  ·
    exact h0

theorem State.rotate_fr {c r : Nat} {s0 : State} {p0} {p1} {p2} (hc : c ||| 1048576 = c) (hr : r ||| 1532495540865888858358347027150309183618739122183602176 = r) (h0 : Fr0 c r s0 p0) :
    Fr0 c r s0 (State.rotate p0 p1 p2) := by
  unfold State.rotate
  extract_lets +onlyGivenNames -merge -useContext -underBinder x0
  try clear_value x0
  extract_lets +onlyGivenNames -merge -useContext -underBinder x1
  have hx2 : Fr0 c r s0 x1 := by
    refine State.modScan_fr (su rfl hc) (su rfl hr) ?_
    exact h0
  try clear_value x1
  refine fr0_ite (fun _ => ?_) (fun _ => ?_)
  ·
    exact hx2
  ·
    refine State.put_fr (su rfl hc) (su rfl hr) ?_ ?_
    ·
      exact hx2
    ·
      exact O.scanFrameNumber_ok (su rfl hr)

theorem State.blankEpoch_fr {c r : Nat} {s0 : State} {p0} (hc : c ||| 18255184640 = c) (hr : r ||| 2298743311298833287537520540725473220176837021261692934 = r) (h0 : Fr0 c r s0 p0) :
    Fr0 c r s0 (State.blankEpoch p0) := by
  unfold State.blankEpoch
  extract_lets +onlyGivenNames -merge -useContext -underBinder x0
  have hx1 : Fr0 c r s0 x0 := by
    refine State.stopHeads_fr (su rfl hc) (su rfl hr) ?_
    refine State.bump_fr (su rfl hc) (su rfl hr) ?_ ?_
    ·
      exact h0
    ·
      exact O.scanRetrainSkippedCount_ok (su rfl hr)
  try clear_value x0
  split
  ·
    exact hx1
  ·
    extract_lets +onlyGivenNames -merge -useContext -underBinder x2
    try clear_value x2
    extract_lets +onlyGivenNames -merge -useContext -underBinder x3
    have hx4 : Fr0 c r s0 x3 := by
      refine State.rotate_fr (su rfl hc) (su rfl hr) ?_
      exact hx1
    try clear_value x3
    refine fr0_ite (fun _ => ?_) (fun _ => ?_)
    ·
      exact hx4
    ·
      refine State.presentedEntry_fr (su rfl hc) (su rfl hr) ?_
      refine State.put_fr (su rfl hc) (su rfl hr) ?_ ?_
      ·
        exact hx4
      ·
        exact O.scanLastStatus_ok (su rfl hr)

theorem State.runAction_fr {c r : Nat} {s0 : State} {p0} {p1} (hc : c ||| 93415538688 = c) (hr : r ||| 7340032 = r) (h0 : Fr0 c r s0 p0) :
    Fr0 c r s0 (State.runAction p0 p1) := by
  unfold State.runAction
  extract_lets +onlyGivenNames -merge -useContext -underBinder x0
  try clear_value x0
  extract_lets +onlyGivenNames -merge -useContext -underBinder x1
  try clear_value x1
  extract_lets +onlyGivenNames -merge -useContext -underBinder x2
  unfold x2; clear x2
  split
  ·
    refine State.sendVector_fr (su rfl hc) (su rfl hr) ?_
    exact h0
  ·
    refine State.modDict_fr (su rfl hc) (su rfl hr) ?_
    exact h0
  ·
    refine State.modDict_fr (su rfl hc) (su rfl hr) ?_
    exact h0
  ·
    refine State.drawFree_fr (su rfl hc) (su rfl hr) ?_
    refine State.post_fr (su rfl hc) (su rfl hr) ?_
    exact h0

theorem State.dueAction_fr {c r : Nat} {s0 : State} {p0} {p1} {p2} (hc : c ||| 93415538688 = c) (hr : r ||| 45974866225976665750750410814509275508562173665515405312 = r) (h0 : Fr0 c r s0 p0) :
    Fr0 c r s0 (State.dueAction p0 p1 p2) := by
  unfold State.dueAction
  extract_lets +onlyGivenNames -merge -useContext -underBinder x0
  try clear_value x0
  refine fr0_ite (fun _ => ?_) (fun _ => ?_)
  ·
    refine State.put_fr (su rfl hc) (su rfl hr) ?_ ?_
    ·
      refine State.runAction_fr (su rfl hc) (su rfl hr) ?_
      exact h0
    ·
      exact O.timeActionDoneSeq_ok (su rfl hr)
  ·
    extract_lets +onlyGivenNames -merge -useContext -underBinder x1
    have hx2 : Fr0 c r s0 x1 := by
      refine State.put_fr (su rfl hc) (su rfl hr) ?_ ?_
      ·
        exact h0
      ·
        exact O.timeActionLastLateness_ok (su rfl hr)
    try clear_value x1
    refine fr0_ite (fun _ => ?_) (fun _ => ?_)
    ·
      refine State.post_fr (su rfl hc) (su rfl hr) ?_
      refine State.bump_fr (su rfl hc) (su rfl hr) ?_ ?_
      ·
        exact hx2
      ·
        exact O.timeActionDroppedCount_ok (su rfl hr)
    ·
      refine State.put_fr (su rfl hc) (su rfl hr) ?_ ?_
      ·
        refine State.runAction_fr (su rfl hc) (su rfl hr) ?_
        refine State.post_fr (su rfl hc) (su rfl hr) ?_
        refine State.bump_fr (su rfl hc) (su rfl hr) ?_ ?_
        ·
          exact hx2
        ·
          exact O.timeActionLateCount_ok (su rfl hr)
      ·
        exact O.timeActionDoneSeq_ok (su rfl hr)

theorem State.runActions_fr {c r : Nat} {s0 : State} {p0} (hc : c ||| 93423927296 = c) (hr : r ||| 45974866225976665750750410814528618321676007732310704128 = r) (h0 : Fr0 c r s0 p0) :
    Fr0 c r s0 (State.runActions p0) := by
  unfold State.runActions
  extract_lets +onlyGivenNames -merge -useContext -underBinder x0
  extract_lets +onlyGivenNames -merge -useContext -underBinder x1
  try clear_value x1
  refine fr0_ite (fun _ => ?_) (fun _ => ?_)
  ·
    exact h0
  ·
    extract_lets +onlyGivenNames -merge -useContext -underBinder x2
    have hx3 : Fr0 c r s0 x2 := by
      refine State.modTim_fr (su rfl hc) (su rfl hr) ?_
      exact h0
    try clear_value x2
    refine State.put_fr (su rfl hc) (su rfl hr) ?_ ?_
    ·
      refine fr0_foldl (fun ha4s _ ha4 => ?_) ?_
      ·
        refine State.dueAction_fr (su rfl hc) (su rfl hr) ?_
        exact ha4
      ·
        exact hx3
    ·
      exact O.timeActionPending_ok (su rfl hr)

theorem State.tagDirect_fr {c r : Nat} {s0 : State} {p0} (hc : c ||| 1074790400 = c) (hr : r ||| 0 = r) (h0 : Fr0 c r s0 p0) :
    Fr0 c r s0 (State.tagDirect p0) := by
  unfold State.tagDirect
  split
  ·
    exact h0
  ·
    refine fr0_ite (fun _ => ?_) (fun _ => ?_)
    ·
      refine State.modScan_fr (su rfl hc) (su rfl hr) ?_
      refine State.modHif_fr (su rfl hc) (su rfl hr) ?_
      exact h0
    ·
      exact h0

theorem State.activate_fr {c r : Nat} {s0 : State} {p0} (hc : c ||| 1048576 = c) (hr : r ||| 0 = r) (h0 : Fr0 c r s0 p0) :
    Fr0 c r s0 (State.activate p0) := by
  unfold State.activate
  split
  ·
    exact h0
  ·
    refine State.modScan_fr (su rfl hc) (su rfl hr) ?_
    exact h0

theorem State.startHeads_fr {c r : Nat} {s0 : State} {p0} (hc : c ||| 0 = c) (hr : r ||| 13510798882111488 = r) (h0 : Fr0 c r s0 p0) :
    Fr0 c r s0 (State.startHeads p0) := by
  unfold State.startHeads
  refine fr0_foldl (fun ha0s _ ha0 => ?_) ?_
  ·
    refine fr0_ite (fun _ => ?_) (fun _ => ?_)
    ·
      refine State.setHead_fr (su rfl hc) (su rfl hr) ?_
      exact ha0
    ·
      exact ha0
  ·
    exact h0

theorem State.directRoles_fr {c r : Nat} {s0 : State} {p0} (hc : c ||| 1048576 = c) (hr : r ||| 0 = r) (h0 : Fr0 c r s0 p0) :
    Fr0 c r s0 (State.directRoles p0) := by
  unfold State.directRoles
  extract_lets +onlyGivenNames -merge -useContext -underBinder x0
  try clear_value x0
  extract_lets +onlyGivenNames -merge -useContext -underBinder x1
  try clear_value x1
  refine State.modScan_fr (su rfl hc) (su rfl hr) ?_
  exact h0

theorem State.unscanned_fr {c r : Nat} {s0 : State} {p0} {p1} {p2} (hc : c ||| 91269103616 = c) (hr : r ||| 1532495540865888858368731620867378838875800114849382406 = r) (h0 : Fr0 c r s0 p0) :
    Fr0 c r s0 (State.unscanned p0 p1 p2) := by
  unfold State.unscanned
  extract_lets +onlyGivenNames -merge -useContext -underBinder x0
  have hx1 : Fr0 c r s0 x0 := by
    refine State.rotate_fr (su rfl hc) (su rfl hr) ?_
    exact h0
  try clear_value x0
  refine fr0_ite (fun _ => ?_) (fun _ => ?_)
  ·
    exact hx1
  ·
    split
    ·
      refine State.promiseBroken_fr (su rfl hc) (su rfl hr) ?_
      refine State.presentedEntry_fr (su rfl hc) (su rfl hr) ?_
      exact hx1
    ·
      extract_lets +onlyGivenNames -merge -useContext -underBinder x2
      refine State.drawFree_fr (su rfl hc) (su rfl hr) ?_
      refine State.promiseBroken_fr (su rfl hc) (su rfl hr) ?_
      refine State.presentedEntry_fr (su rfl hc) (su rfl hr) ?_
      exact hx1

theorem State.beginScan_fr {c r : Nat} {s0 : State} {p0} {p1} {p2} (hc : c ||| 1081344 = c) (hr : r ||| 1532495540865888858358347027150309183618739122183602176 = r) (h0 : Fr0 c r s0 p0) :
    Fr0 c r s0 (State.beginScan p0 p1 p2) := by
  unfold State.beginScan
  extract_lets +onlyGivenNames -merge -useContext -underBinder x0
  try clear_value x0
  extract_lets +onlyGivenNames -merge -useContext -underBinder x1
  have hx2 : Fr0 c r s0 x1 := by
    refine State.modScan_fr (su rfl hc) (su rfl hr) ?_
    refine State.rotate_fr (su rfl hc) (su rfl hr) ?_
    exact h0
  try clear_value x1
  refine fr0_ite (fun _ => ?_) (fun _ => ?_)
  ·
    exact hx2
  ·
    refine State.modCap_fr (su rfl hc) (su rfl hr) ?_
    exact hx2

theorem State.modPdp_fr {c r : Nat} {s0 : State} {p0} {p1} (hc : c ||| 131072 = c) (hr : r ||| 0 = r) (h0 : Fr0 c r s0 p0) :
    Fr0 c r s0 (State.modPdp p0 p1) := by
  unfold State.modPdp
  refine fr_pdp (su rfl hc) ?_
  exact h0

theorem State.latchBands_fr {c r : Nat} {s0 : State} {p0} {p1} (hc : c ||| 22548709376 = c) (hr : r ||| 49063802550534472980878954041109117456793694708666728448 = r) (h0 : Fr0 c r s0 p0) :
    Fr0 c r s0 (State.latchBands p0 p1) := by
  unfold State.latchBands
  extract_lets +onlyGivenNames -merge -useContext -underBinder x0
  try clear_value x0
  extract_lets +onlyGivenNames -merge -useContext -underBinder x1
  try clear_value x1
  extract_lets +onlyGivenNames -merge -useContext -underBinder x2
  have hx3 : Fr0 c r s0 x2 := by
    refine fr0_ite (fun _ => ?_) (fun _ => ?_)
    ·
      refine State.modPdp_fr (su rfl hc) (su rfl hr) ?_
      exact h0
    ·
      refine fr0_ite (fun _ => ?_) (fun _ => ?_)
      ·
        exact h0
      ·
        refine State.note_fr (su rfl hc) (su rfl hr) ?_ ?_
        ·
          refine State.modPdp_fr (su rfl hc) (su rfl hr) ?_
          exact h0
        ·
          exact O.pdpLastStatus_ok (su rfl hr)
  try clear_value x2
  extract_lets +onlyGivenNames -merge -useContext -underBinder x4
  have hx5 : Fr0 c r s0 x4 := by
    refine State.modPdp_fr (su rfl hc) (su rfl hr) ?_
    exact hx3
  try clear_value x4
  refine fr0_foldl (fun ha6s _ ha6 => ?_) ?_
  ·
    refine State.put_fr (su rfl hc) (su rfl hr) ?_ ?_
    ·
      exact ha6
    ·
      exact O.driveBandNow_ok (su rfl hr)
  ·
    exact hx5

theorem State.noteStart_fr {c r : Nat} {s0 : State} {p0} (hc : c ||| 22682796032 = c) (hr : r ||| 5444517870735015415413993718908298723328 = r) (h0 : Fr0 c r s0 p0) :
    Fr0 c r s0 (State.noteStart p0) := by
  unfold State.noteStart
  refine fr0_ite (fun _ => ?_) (fun _ => ?_)
  ·
    exact h0
  ·
    extract_lets +onlyGivenNames -merge -useContext -underBinder x0
    refine State.post_fr (su rfl hc) (su rfl hr) ?_
    refine State.put_fr (su rfl hc) (su rfl hr) ?_ ?_
    ·
      refine State.modAtl_fr (su rfl hc) (su rfl hr) ?_
      exact h0
    ·
      exact O.atlStartTimeMs_ok (su rfl hr)

theorem State.measure_fr {c r : Nat} {s0 : State} {p0} {p1} (hc : c ||| 1048576 = c) (hr : r ||| 98079714615416886937592665729189619497406917940311228416 = r) (h0 : Fr0 c r s0 p0) :
    Fr0 c r s0 (State.measure p0 p1) := by
  unfold State.measure
  extract_lets +onlyGivenNames -merge -useContext -underBinder x0
  extract_lets +onlyGivenNames -merge -useContext -underBinder x1
  extract_lets +onlyGivenNames -merge -useContext -underBinder x2
  extract_lets +onlyGivenNames -merge -useContext -underBinder x3
  refine State.modScan_fr (su rfl hc) (su rfl hr) ?_
  refine State.put_fr (su rfl hc) (su rfl hr) ?_ ?_
  ·
    refine State.put_fr (su rfl hc) (su rfl hr) ?_ ?_
    ·
      exact h0
    ·
      exact O.scanPhaseError_ok (su rfl hr)
  ·
    exact O.scanLockState_ok (su rfl hr)

theorem State.readAhead_fr {c r : Nat} {s0 : State} {p0} {p1} (hc : c ||| 1048576 = c) (hr : r ||| 0 = r) (h0 : Fr0 c r s0 p0) :
    Fr0 c r s0 (State.readAhead p0 p1) := by
  unfold State.readAhead
  extract_lets +onlyGivenNames -merge -useContext -underBinder x0
  try clear_value x0
  extract_lets +onlyGivenNames -merge -useContext -underBinder x1
  try clear_value x1
  refine State.modScan_fr (su rfl hc) (su rfl hr) ?_
  exact h0

theorem State.lineZero_fr {c r : Nat} {s0 : State} {p0} {p1} (hc : c ||| 31274450944 = c) (hr : r ||| 147143517165951365362989490505314157053667326279495450624 = r) (h0 : Fr0 c r s0 p0) :
    Fr0 c r s0 (State.lineZero p0 p1) := by
  unfold State.lineZero
  extract_lets +onlyGivenNames -merge -useContext -underBinder x0
  have hx1 : Fr0 c r s0 x0 := by
    refine State.settle_fr (su rfl hc) (su rfl hr) ?_
    refine State.modScan_fr (su rfl hc) (su rfl hr) ?_
    exact h0
  try clear_value x0
  extract_lets +onlyGivenNames -merge -useContext -underBinder x2
  have hx3 : Fr0 c r s0 x2 := by
    refine fr0_ite (fun _ => ?_) (fun _ => ?_)
    ·
      refine State.latchBands_fr (su rfl hc) (su rfl hr) ?_
      exact hx1
    ·
      exact hx1
  try clear_value x2
  extract_lets +onlyGivenNames -merge -useContext -underBinder x4
  have hx5 : Fr0 c r s0 x4 := by
    refine State.irq_fr (su rfl hc) (su rfl hr) ?_
    refine State.noteStart_fr (su rfl hc) (su rfl hr) ?_
    refine State.measure_fr (su rfl hc) (su rfl hr) ?_
    exact hx3
  try clear_value x4
  extract_lets +onlyGivenNames -merge -useContext -underBinder x6
  have hx7 : Fr0 c r s0 x6 := by
    refine State.modScan_fr (su rfl hc) (su rfl hr) ?_
    exact hx5
  try clear_value x6
  refine fr0_ite (fun _ => ?_) (fun _ => ?_)
  ·
    refine State.feedSlots_fr (su rfl hc) (su rfl hr) ?_
    refine State.sendBlank_fr (su rfl hc) (su rfl hr) ?_
    exact hx7
  ·
    refine State.feedSlots_fr (su rfl hc) (su rfl hr) ?_
    refine State.readAhead_fr (su rfl hc) (su rfl hr) ?_
    exact hx7

theorem State.scanNote_fr {c r : Nat} {s0 : State} {p0} {p1} {p2} (hc : c ||| 22548578304 = c) (hr : r ||| 7405568 = r) (h0 : Fr0 c r s0 p0) :
    Fr0 c r s0 (State.scanNote p0 p1 p2) := by
  unfold State.scanNote
  refine State.note_fr (su rfl hc) (su rfl hr) ?_ ?_
  ·
    exact h0
  ·
    exact O.scanLastStatus_ok (su rfl hr)

theorem State.resync__fr {c r : Nat} {s0 : State} {p0} {p1} {p2} (hc : c ||| 22549626880 = c) (hr : r ||| 196159429230833773869868419475239575503198607639508484096 = r) (h0 : Fr0 c r s0 p0) :
    Fr0 c r s0 (State.resync_ p0 p1 p2) := by
  unfold State.resync_
  extract_lets +onlyGivenNames -merge -useContext -underBinder x0
  refine State.scanNote_fr (su rfl hc) (su rfl hr) ?_
  refine State.bump_fr (su rfl hc) (su rfl hr) ?_ ?_
  ·
    refine State.modScan_fr (su rfl hc) (su rfl hr) ?_
    exact h0
  ·
    exact O.scanResyncCount_ok (su rfl hr)

theorem State.frameEpoch_fr {c r : Nat} {s0 : State} {p0} {p1} {p2} (hc : c ||| 99993961216 = c) (hr : r ||| 344835441937651028091226641601421120840490462371824861190 = r) (h0 : Fr0 c r s0 p0) :
    Fr0 c r s0 (State.frameEpoch p0 p1 p2) := by
  unfold State.frameEpoch
  refine fr0_ite (fun _ => ?_) (fun _ => ?_)
  ·
    exact h0
  ·
    extract_lets +onlyGivenNames -merge -useContext -underBinder x0
    have hx1 : Fr0 c r s0 x0 := by
      refine State.modScan_fr (su rfl hc) (su rfl hr) ?_
      exact h0
    try clear_value x0
    extract_lets +onlyGivenNames -merge -useContext -underBinder x2
    have hx3 : Fr0 c r s0 x2 := by
      refine fr0_ite (fun _ => ?_) (fun _ => ?_)
      ·
        refine State.tagDirect_fr (su rfl hc) (su rfl hr) ?_
        refine State.activate_fr (su rfl hc) (su rfl hr) ?_
        exact hx1
      ·
        exact hx1
    try clear_value x2
    extract_lets +onlyGivenNames -merge -useContext -underBinder x4
    have hx5 : Fr0 c r s0 x4 := by
      refine State.startHeads_fr (su rfl hc) (su rfl hr) ?_
      refine State.stopHeads_fr (su rfl hc) (su rfl hr) ?_
      exact hx3
    try clear_value x4
    extract_lets +onlyGivenNames -merge -useContext -underBinder x6
    have hx7 : Fr0 c r s0 x6 := by
      unfold x6
      split
      ·
        refine fr0_ite (fun _ => ?_) (fun _ => ?_)
        ·
          refine State.directRoles_fr (su rfl hc) (su rfl hr) ?_
          exact hx5
        ·
          exact hx5
      ·
        refine fr0_ite (fun _ => ?_) (fun _ => ?_)
        ·
          refine State.unscanned_fr (su rfl hc) (su rfl hr) ?_
          exact hx5
        ·
          refine fr0_ite (fun _ => ?_) (fun _ => ?_)
          ·
            refine State.beginScan_fr (su rfl hc) (su rfl hr) ?_
            exact hx5
          ·
            exact hx5
    try clear_value x6
    extract_lets +onlyGivenNames -merge -useContext -underBinder x8
    have hx9 : Fr0 c r s0 x8 := by
      refine State.modScan_fr (su rfl hc) (su rfl hr) ?_
      exact hx7
    try clear_value x8
    refine fr0_ite (fun _ => ?_) (fun _ => ?_)
    ·
      refine State.put_fr (su rfl hc) (su rfl hr) ?_ ?_
      ·
        refine State.modScan_fr (su rfl hc) (su rfl hr) ?_
        exact hx9
      ·
        exact O.scanLockState_ok (su rfl hr)
    ·
      extract_lets +onlyGivenNames -merge -useContext -underBinder x10
      have hx11 : Fr0 c r s0 x10 := by
        refine State.lineZero_fr (su rfl hc) (su rfl hr) ?_
        exact hx9
      try clear_value x10
      refine fr0_ite (fun _ => ?_) (fun _ => ?_)
      ·
        refine State.resync__fr (su rfl hc) (su rfl hr) ?_
        exact hx11
      ·
        exact hx11

theorem State.audStep_fr {c r : Nat} {s0 : State} {p0} {p1} (hc : c ||| 4194304 = c) (hr : r ||| 0 = r) (h0 : Fr0 c r s0 p0) :
    Fr0 c r s0 (State.audStep p0 p1) := by
  unfold State.audStep
  extract_lets +onlyGivenNames -merge -useContext -underBinder x0
  have hx1 : Fr0 c r s0 x0 := by
    refine fr0_foldl (fun ha2s _ ha2 => ?_) ?_
    ·
      refine State.restartPort_fr (su rfl hc) (su rfl hr) ?_
      exact ha2
    ·
      exact h0
  try clear_value x0
  refine fr_aud (su rfl hc) ?_
  exact hx1

theorem State.shiftTime_fr {c r : Nat} {s0 : State} {p0} {p1} (hc : c ||| 22561161224 = c) (hr : r ||| 1176956575385002643219210516851437453019191645837013811200 = r) (h0 : Fr0 c r s0 p0) :
    Fr0 c r s0 (State.shiftTime p0 p1) := by
  unfold State.shiftTime
  extract_lets +onlyGivenNames -merge -useContext -underBinder x0
  extract_lets +onlyGivenNames -merge -useContext -underBinder x1
  try clear_value x1
  extract_lets +onlyGivenNames -merge -useContext -underBinder x2
  have hx3 : Fr0 c r s0 x2 := by
    refine fr_clk (su rfl hc) ?_
    exact h0
  try clear_value x2
  extract_lets +onlyGivenNames -merge -useContext -underBinder x4
  try clear_value x4
  extract_lets +onlyGivenNames -merge -useContext -underBinder x5
  have hx6 : Fr0 c r s0 x5 := by
    refine State.modTim_fr (su rfl hc) (su rfl hr) ?_
    exact hx3
  try clear_value x5
  refine State.post_fr (su rfl hc) (su rfl hr) ?_
  refine State.audStep_fr (su rfl hc) (su rfl hr) ?_
  refine State.put_fr (su rfl hc) (su rfl hr) ?_ ?_
  ·
    refine State.bump_fr (su rfl hc) (su rfl hr) ?_ ?_
    ·
      exact hx6
    ·
      exact O.timeStepCount_ok (su rfl hr)
  ·
    exact O.timeLastStep_ok (su rfl hr)

theorem State.uncoverScan_fr {c r : Nat} {s0 : State} {p0} (hc : c ||| 1048576 = c) (hr : r ||| 0 = r) (h0 : Fr0 c r s0 p0) :
    Fr0 c r s0 (State.uncoverScan p0) := by
  unfold State.uncoverScan
  refine fr0_ite (fun _ => ?_) (fun _ => ?_)
  ·
    exact h0
  ·
    refine State.modScan_fr (su rfl hc) (su rfl hr) ?_
    exact h0

theorem State.regridBlank_fr {c r : Nat} {s0 : State} {p0} {p1} (hc : c ||| 128 = c) (hr : r ||| 0 = r) (h0 : Fr0 c r s0 p0) :
    Fr0 c r s0 (State.regridBlank p0 p1) := by
  unfold State.regridBlank
  refine fr0_ite (fun _ => ?_) (fun _ => ?_)
  ·
    exact h0
  ·
    extract_lets +onlyGivenNames -merge -useContext -underBinder x0
    refine fr_cfg (su rfl hc) ?_
    exact h0

theorem State.regridBound_fr {c r : Nat} {s0 : State} {p0} (hc : c ||| 128 = c) (hr : r ||| 0 = r) (h0 : Fr0 c r s0 p0) :
    Fr0 c r s0 (State.regridBound p0) := by
  unfold State.regridBound
  split
  ·
    exact h0
  ·
    refine fr0_ite (fun _ => ?_) (fun _ => ?_)
    ·
      exact h0
    ·
      extract_lets +onlyGivenNames -merge -useContext -underBinder x0
      refine fr_cfg (su rfl hc) ?_
      exact h0

theorem State.applyStep_fr {c r : Nat} {s0 : State} {p0} {p1} (hc : c ||| 22562239112 = c) (hr : r ||| 2942391438462506608048026292128593634614014450847993561087 = r) (h0 : Fr0 c r s0 p0) :
    Fr0 c r s0 (State.applyStep p0 p1) := by
  unfold State.applyStep
  split
  ·
    exact h0
  ·
    split
    ·
      extract_lets +onlyGivenNames -merge -useContext -underBinder x0
      extract_lets +onlyGivenNames -merge -useContext -underBinder x1
      have hx2 : Fr0 c r s0 x1 := by
        refine State.resume_fr (su rfl hc) (su rfl hr) ?_
        refine State.shiftTime_fr (su rfl hc) (su rfl hr) ?_
        refine State.uncoverScan_fr (su rfl hc) (su rfl hr) ?_
        refine State.suspend_fr (su rfl hc) (su rfl hr) ?_
        exact h0
      try clear_value x1
      extract_lets +onlyGivenNames -merge -useContext -underBinder x3
      try clear_value x3
      extract_lets +onlyGivenNames -merge -useContext -underBinder x4
      have hx5 : Fr0 c r s0 x4 := by
        refine State.regridBlank_fr (su rfl hc) (su rfl hr) ?_
        refine fr_clk (su rfl hc) ?_
        exact hx2
      try clear_value x4
      extract_lets +onlyGivenNames -merge -useContext -underBinder x6
      extract_lets +onlyGivenNames -merge -useContext -underBinder x7
      try clear_value x7
      extract_lets +onlyGivenNames -merge -useContext -underBinder x8
      have hx9 : Fr0 c r s0 x8 := by
        refine State.modAdm_fr (su rfl hc) (su rfl hr) ?_
        exact hx5
      try clear_value x8
      extract_lets +onlyGivenNames -merge -useContext -underBinder x10
      have hx11 : Fr0 c r s0 x10 := by
        refine State.modScan_fr (su rfl hc) (su rfl hr) ?_
        exact hx9
      try clear_value x10
      extract_lets +onlyGivenNames -merge -useContext -underBinder x12
      have hx13 : Fr0 c r s0 x12 := by
        refine State.regridBound_fr (su rfl hc) (su rfl hr) ?_
        refine fr0_foldl (fun ha14s _ ha14 => ?_) ?_
        ·
          refine State.refuseHead_fr (su rfl hc) (su rfl hr) ?_
          exact ha14
        ·
          exact hx11
      try clear_value x12
      extract_lets +onlyGivenNames -merge -useContext -underBinder x15
      extract_lets +onlyGivenNames -merge -useContext -underBinder x16
      have hx17 : Fr0 c r s0 x16 := by
        refine State.put_fr (su rfl hc) (su rfl hr) ?_ ?_
        ·
          refine State.modSdec_fr (su rfl hc) (su rfl hr) ?_
          exact hx13
        ·
          exact O.lastBinnedEpoch_ok (su rfl hr)
      try clear_value x16
      refine fr0_ite (fun _ => ?_) (fun _ => ?_)
      ·
        refine State.resync__fr (su rfl hc) (su rfl hr) ?_
        exact hx17
      ·
        exact hx17

theorem State.watchHost_fr {c r : Nat} {s0 : State} {p0} (hc : c ||| 31676449280 = c) (hr : r ||| 249230249210866447996141696629866500 = r) (h0 : Fr0 c r s0 p0) :
    Fr0 c r s0 (State.watchHost p0) := by
  unfold State.watchHost
  extract_lets +onlyGivenNames -merge -useContext -underBinder x0
  extract_lets +onlyGivenNames -merge -useContext -underBinder x1
  extract_lets +onlyGivenNames -merge -useContext -underBinder x2
  have hx3 : Fr0 c r s0 x2 := by
    refine State.modHif_fr (su rfl hc) (su rfl hr) ?_
    exact h0
  try clear_value x2
  refine fr0_ite (fun _ => ?_) (fun _ => ?_)
  ·
    refine State.declareSilence_fr (su rfl hc) (su rfl hr) ?_
    exact hx3
  ·
    exact hx3

theorem cmdEpoch_fr {c r : Nat} {s0 : State} {p0} {p1} (hc : c ||| 102691173352 = c) (hr : r ||| 3138479219037074686551889934996081018883558307222258974719 = r) (h0 : Fr0 c r s0 p0) :
    Fr0 c r s0 (cmdEpoch p0 p1) := by
  unfold cmdEpoch
  extract_lets +onlyGivenNames -merge -useContext -underBinder x0
  try clear_value x0
  extract_lets +onlyGivenNames -merge -useContext -underBinder x1
  have hx2 : Fr0 c r s0 x1 := by
    refine State.advanceEpoch_fr (su rfl hc) (su rfl hr) ?_
    refine State.endResync_fr (su rfl hc) (su rfl hr) ?_
    refine State.noteReady_fr (su rfl hc) (su rfl hr) ?_
    exact h0
  try clear_value x1
  extract_lets +onlyGivenNames -merge -useContext -underBinder x3
  try clear_value x3
  extract_lets +onlyGivenNames -merge -useContext -underBinder x4
  have hx5 : Fr0 c r s0 x4 := by
    refine State.settleIf_fr (su rfl hc) (su rfl hr) ?_
    refine State.settleIf_fr (su rfl hc) (su rfl hr) ?_
    refine State.finishFirst_fr (su rfl hc) (su rfl hr) ?_
    exact hx2
  try clear_value x4
  extract_lets +onlyGivenNames -merge -useContext -underBinder x6
  have hx7 : Fr0 c r s0 x6 := by
    refine State.epochSwap_fr (su rfl hc) (su rfl hr) ?_
    exact hx5
  try clear_value x6
  extract_lets +onlyGivenNames -merge -useContext -underBinder x8
  have hx9 : Fr0 c r s0 x8 := by
    refine fr0_ite (fun _ => ?_) (fun _ => ?_)
    ·
      refine State.blankEpoch_fr (su rfl hc) (su rfl hr) ?_
      exact hx7
    ·
      refine State.runActions_fr (su rfl hc) (su rfl hr) ?_
      refine State.frameEpoch_fr (su rfl hc) (su rfl hr) ?_
      exact hx7
  try clear_value x8
  refine State.applyStep_fr (su rfl hc) (su rfl hr) ?_
  refine State.railsWhenHeadsStopped_fr (su rfl hc) (su rfl hr) ?_
  refine State.watchHost_fr (su rfl hc) (su rfl hr) ?_
  exact hx9

theorem execEpoch_fr {c r : Nat} {s0 t : State} {p0} {p1} (hc : c ||| 102691173352 = c) (hr : r ||| 3138479219037074686551889934996081018883558307222258974719 = r) (h1 : Fr0 c r s0 p1) (ht : execEpoch p0 p1 = .next t) :
    Fr0 c r s0 t := by
  unfold execEpoch at ht
  injection ht with ht
  subst ht
  refine State.ifLive_fr (su rfl hc) (su rfl hr) ?_ ?_
  ·
    exact h1
  ·
    intro u0 hu1
    refine cmdEpoch_fr (su rfl hc) (su rfl hr) ?_
    exact hu1

theorem State.dropRx_fr {c r : Nat} {s0 : State} {p0} {p1} (hc : c ||| 0 = c) (hr : r ||| 6277101735386680763835789423207666416102355444464034512896 = r) (h0 : Fr0 c r s0 p0) :
    Fr0 c r s0 (State.dropRx p0 p1) := by
  unfold State.dropRx
  refine State.bump_fr (su rfl hc) (su rfl hr) ?_ ?_
  ·
    exact h0
  ·
    exact O.portRxDropped_ok (su rfl hr)

theorem State.deliverRx_fr {c r : Nat} {s0 : State} {p0} {p1} {p2} (hc : c ||| 22573745152 = c) (hr : r ||| 5070602400912917605986820161536 = r) (h0 : Fr0 c r s0 p0) :
    Fr0 c r s0 (State.deliverRx p0 p1 p2) := by
  unfold State.deliverRx
  extract_lets +onlyGivenNames -merge -useContext -underBinder x0
  split
  ·
    refine State.netNote_fr (su rfl hc) (su rfl hr) ?_
    refine State.modNet_fr (su rfl hc) (su rfl hr) ?_
    exact h0
  ·
    extract_lets +onlyGivenNames -merge -useContext -underBinder x1
    try clear_value x1
    extract_lets +onlyGivenNames -merge -useContext -underBinder x2
    have hx3 : Fr0 c r s0 x2 := by
      refine State.hbmWrite_fr (su rfl hc) (su rfl hr) ?_
      exact h0
    try clear_value x2
    extract_lets +onlyGivenNames -merge -useContext -underBinder x4
    extract_lets +onlyGivenNames -merge -useContext -underBinder x5
    extract_lets +onlyGivenNames -merge -useContext -underBinder x6
    have hx7 : Fr0 c r s0 x6 := by
      refine fr0_ite (fun _ => ?_) (fun _ => ?_)
      ·
        refine State.netNote_fr (su rfl hc) (su rfl hr) ?_
        exact hx3
      ·
        exact hx3
    try clear_value x6
    extract_lets +onlyGivenNames -merge -useContext -underBinder x8
    try clear_value x8
    extract_lets +onlyGivenNames -merge -useContext -underBinder x9
    try clear_value x9
    refine State.modNet_fr (su rfl hc) (su rfl hr) ?_
    refine State.emit_fr (su rfl hc) (su rfl hr) ?_
    exact hx7

theorem State.vxAccept_fr {c r : Nat} {s0 : State} {p0} {p1} {p2} {p3} {p4} (hc : c ||| 24704450560 = c) (hr : r ||| 75325220824640169166029473078491996993228265334221256523776 = r) (h0 : Fr0 c r s0 p0) :
    Fr0 c r s0 (State.vxAccept p0 p1 p2 p3 p4) := by
  unfold State.vxAccept
  extract_lets +onlyGivenNames -merge -useContext -underBinder x0
  extract_lets +onlyGivenNames -merge -useContext -underBinder x1
  extract_lets +onlyGivenNames -merge -useContext -underBinder x2
  try clear_value x2
  extract_lets +onlyGivenNames -merge -useContext -underBinder x3
  extract_lets +onlyGivenNames -merge -useContext -underBinder x4
  extract_lets +onlyGivenNames -merge -useContext -underBinder x5
  extract_lets +onlyGivenNames -merge -useContext -underBinder x6
  extract_lets +onlyGivenNames -merge -useContext -underBinder x7
  extract_lets +onlyGivenNames -merge -useContext -underBinder x8
  extract_lets +onlyGivenNames -merge -useContext -underBinder x9
  try clear_value x9
  extract_lets +onlyGivenNames -merge -useContext -underBinder x10
  try clear_value x10
  refine fr0_ite (fun _ => ?_) (fun _ => ?_)
  ·
    refine State.bump_fr (su rfl hc) (su rfl hr) ?_ ?_
    ·
      exact h0
    ·
      exact O.vipexStaleCount_ok (su rfl hr)
  ·
    extract_lets +onlyGivenNames -merge -useContext -underBinder x11
    try clear_value x11
    extract_lets +onlyGivenNames -merge -useContext -underBinder x12
    try clear_value x12
    refine fr0_ite (fun _ => ?_) (fun _ => ?_)
    ·
      refine State.authFail_fr (su rfl hc) (su rfl hr) ?_
      exact h0
    ·
      extract_lets +onlyGivenNames -merge -useContext -underBinder x13
      have hx14 : Fr0 c r s0 x13 := by
        refine fr0_ite (fun _ => ?_) (fun _ => ?_)
        ·
          refine State.modDict_fr (su rfl hc) (su rfl hr) ?_
          exact h0
        ·
          exact h0
      try clear_value x13
      extract_lets +onlyGivenNames -merge -useContext -underBinder x15
      try clear_value x15
      extract_lets +onlyGivenNames -merge -useContext -underBinder x16
      have hx17 : Fr0 c r s0 x16 := by
        refine State.bump_fr (su rfl hc) (su rfl hr) ?_ ?_
        ·
          refine State.setNode_fr (su rfl hc) (su rfl hr) ?_
          exact hx14
        ·
          exact O.vipexRxCount_ok (su rfl hr)
      try clear_value x16
      extract_lets +onlyGivenNames -merge -useContext -underBinder x18
      try clear_value x18
      refine fr0_ite (fun _ => ?_) (fun _ => ?_)
      ·
        exact hx17
      ·
        refine fr0_ite (fun _ => ?_) (fun _ => ?_)
        ·
          refine fr0_ite (fun _ => ?_) (fun _ => ?_)
          ·
            exact hx17
          ·
            refine State.replyVipex_fr (su rfl hc) (su rfl hr) ?_
            exact hx17
        ·
          refine State.modDict_fr (su rfl hc) (su rfl hr) ?_
          exact hx17

theorem State.vxReceive_fr {c r : Nat} {s0 : State} {p0} {p1} {p2} {p3} {p4} (hc : c ||| 24704450560 = c) (hr : r ||| 87879424295413530693701051924907329825432976223149325549568 = r) (h0 : Fr0 c r s0 p0) :
    Fr0 c r s0 (State.vxReceive p0 p1 p2 p3 p4) := by
  unfold State.vxReceive
  extract_lets +onlyGivenNames -merge -useContext -underBinder x0
  extract_lets +onlyGivenNames -merge -useContext -underBinder x1
  extract_lets +onlyGivenNames -merge -useContext -underBinder x2
  extract_lets +onlyGivenNames -merge -useContext -underBinder x3
  refine fr0_ite (fun _ => ?_) (fun _ => ?_)
  ·
    exact h0
  ·
    refine fr0_ite (fun _ => ?_) (fun _ => ?_)
    ·
      refine State.bump_fr (su rfl hc) (su rfl hr) ?_ ?_
      ·
        exact h0
      ·
        exact O.vipexDiscardCount_ok (su rfl hr)
    ·
      refine State.vxAccept_fr (su rfl hc) (su rfl hr) ?_
      exact h0

theorem State.asirekRx_fr {c r : Nat} {s0 : State} {p0} {p1} {p2} (hc : c ||| 25170432 = c) (hr : r ||| 100433627766186892221372630771322662657637687111424552206336 = r) (h0 : Fr0 c r s0 p0) :
    Fr0 c r s0 (State.asirekRx p0 p1 p2) := by
  unfold State.asirekRx
  refine fr0_ite (fun _ => ?_) (fun _ => ?_)
  ·
    refine State.modNet_fr (su rfl hc) (su rfl hr) ?_
    refine State.enqueue_fr (su rfl hc) (su rfl hr) ?_
    exact h0
  ·
    refine State.bump_fr (su rfl hc) (su rfl hr) ?_ ?_
    ·
      exact h0
    ·
      exact O.portAsirekDiscardCount_ok (su rfl hr)

theorem State.serviceRx_fr {c r : Nat} {s0 : State} {p0} {p1} (hc : c ||| 22556966912 = c) (hr : r ||| 5070602400912917605986820161536 = r) (h0 : Fr0 c r s0 p0) :
    Fr0 c r s0 (State.serviceRx p0 p1) := by
  unfold State.serviceRx
  extract_lets +onlyGivenNames -merge -useContext -underBinder x0
  extract_lets +onlyGivenNames -merge -useContext -underBinder x1
  have hx2 : Fr0 c r s0 x1 := by
    unfold x1
    split
    ·
      exact h0
    ·
      refine fr0_ite (fun _ => ?_) (fun _ => ?_)
      ·
        refine State.netNote_fr (su rfl hc) (su rfl hr) ?_
        refine State.modNet_fr (su rfl hc) (su rfl hr) ?_
        exact h0
      ·
        exact h0
  try clear_value x1
  split
  ·
    exact hx2
  ·
    refine fr0_ite (fun _ => ?_) (fun _ => ?_)
    ·
      exact hx2
    ·
      refine State.addrChanged_fr (su rfl hc) (su rfl hr) ?_
      refine State.modNet_fr (su rfl hc) (su rfl hr) ?_
      exact hx2

theorem cmdEthFrameRx_fr {c r : Nat} {s0 : State} {p0} {p1} (hc : c ||| 24721233416 = c) (hr : r ||| 197728704664680444060827366836112094508137114107256742346752 = r) (h0 : Fr0 c r s0 p0) :
    Fr0 c r s0 (cmdEthFrameRx p0 p1) := by
  unfold cmdEthFrameRx
  extract_lets +onlyGivenNames -merge -useContext -underBinder x0
  extract_lets +onlyGivenNames -merge -useContext -underBinder x1
  try clear_value x1
  refine fr0_ite (fun _ => ?_) (fun _ => ?_)
  ·
    exact h0
  ·
    extract_lets +onlyGivenNames -merge -useContext -underBinder x2
    have hx3 : Fr0 c r s0 x2 := by
      refine State.bump_fr (su rfl hc) (su rfl hr) ?_ ?_
      ·
        refine State.reach_fr (su rfl hc) (su rfl hr) ?_
        exact h0
      ·
        exact O.portRxFrames_ok (su rfl hr)
    try clear_value x2
    extract_lets +onlyGivenNames -merge -useContext -underBinder x4
    refine fr0_ite (fun _ => ?_) (fun _ => ?_)
    ·
      refine State.dropRx_fr (su rfl hc) (su rfl hr) ?_
      exact hx3
    ·
      refine fr0_ite (fun _ => ?_) (fun _ => ?_)
      ·
        refine State.dropRx_fr (su rfl hc) (su rfl hr) ?_
        exact hx3
      ·
        refine fr0_ite (fun _ => ?_) (fun _ => ?_)
        ·
          refine State.netNote_fr (su rfl hc) (su rfl hr) ?_
          refine State.dropRx_fr (su rfl hc) (su rfl hr) ?_
          exact hx3
        ·
          refine fr0_ite (fun _ => ?_) (fun _ => ?_)
          ·
            refine State.dropRx_fr (su rfl hc) (su rfl hr) ?_
            exact hx3
          ·
            refine fr0_ite (fun _ => ?_) (fun _ => ?_)
            ·
              refine State.deliverRx_fr (su rfl hc) (su rfl hr) ?_
              exact hx3
            ·
              refine fr0_ite (fun _ => ?_) (fun _ => ?_)
              ·
                refine fr0_ite (fun _ => ?_) (fun _ => ?_)
                ·
                  refine State.deliverRx_fr (su rfl hc) (su rfl hr) ?_
                  exact hx3
                ·
                  refine State.vxReceive_fr (su rfl hc) (su rfl hr) ?_
                  refine State.deliverRx_fr (su rfl hc) (su rfl hr) ?_
                  exact hx3
              ·
                refine fr0_ite (fun _ => ?_) (fun _ => ?_)
                ·
                  refine State.asirekRx_fr (su rfl hc) (su rfl hr) ?_
                  exact hx3
                ·
                  refine fr0_ite (fun _ => ?_) (fun _ => ?_)
                  ·
                    refine fr0_ite (fun _ => ?_) (fun _ => ?_)
                    ·
                      refine State.deliverRx_fr (su rfl hc) (su rfl hr) ?_
                      exact hx3
                    ·
                      refine State.serviceRx_fr (su rfl hc) (su rfl hr) ?_
                      refine State.deliverRx_fr (su rfl hc) (su rfl hr) ?_
                      exact hx3
                  ·
                    refine State.dropRx_fr (su rfl hc) (su rfl hr) ?_
                    exact hx3

theorem execEthFrameRx_fr {c r : Nat} {s0 t : State} {p0} {p1} (hc : c ||| 24721233416 = c) (hr : r ||| 197728704664680444060827366836112094508137114107256742346752 = r) (h1 : Fr0 c r s0 p1) (ht : execEthFrameRx p0 p1 = .next t) :
    Fr0 c r s0 t := by
  unfold execEthFrameRx at ht
  injection ht with ht
  subst ht
  refine State.ifLive_fr (su rfl hc) (su rfl hr) ?_ ?_
  ·
    exact h1
  ·
    intro u0 hu1
    refine cmdEthFrameRx_fr (su rfl hc) (su rfl hr) ?_
    exact hu1

theorem cmdEthFrameTx_fr {c r : Nat} {s0 : State} {p0} {p1} (hc : c ||| 22556966912 = c) (hr : r ||| 23384026197294446696329559724373445920481740849152 = r) (h0 : Fr0 c r s0 p0) :
    Fr0 c r s0 (cmdEthFrameTx p0 p1) := by
  unfold cmdEthFrameTx
  refine State.serveTx_fr (su rfl hc) (su rfl hr) ?_
  exact h0

theorem execEthFrameTx_fr {c r : Nat} {s0 t : State} {p0} {p1} (hc : c ||| 22556966912 = c) (hr : r ||| 23384026197294446696329559724373445920481740849152 = r) (h1 : Fr0 c r s0 p1) (ht : execEthFrameTx p0 p1 = .next t) :
    Fr0 c r s0 t := by
  unfold execEthFrameTx at ht
  injection ht with ht
  subst ht
  refine State.ifLive_fr (su rfl hc) (su rfl hr) ?_ ?_
  ·
    exact h1
  ·
    intro u0 hu1
    refine cmdEthFrameTx_fr (su rfl hc) (su rfl hr) ?_
    exact hu1

theorem execFallbackRelease_fr {c r : Nat} {s0 t : State} {p0} {p1} (hc : c ||| 103028671480 = c) (hr : r ||| 10141204801825835211972283334656 = r) (h1 : Fr0 c r s0 p1) (ht : execFallbackRelease p0 p1 = .next t) :
    Fr0 c r s0 t := by
  unfold execFallbackRelease at ht
  injection ht with ht
  subst ht
  refine State.ifLive_fr (su rfl hc) (su rfl hr) ?_ ?_
  ·
    exact h1
  ·
    intro u0 hu1
    refine rowWrite_fr (su rfl hc) (su rfl hr) ?_
    exact hu1

theorem cmdFdrTail_fr {c r : Nat} {s0 : State} {p0} {p1} (hc : c ||| 31139577856 = c) (hr : r ||| 83076749736561927529482663500972036 = r) (h0 : Fr0 c r s0 p0) :
    Fr0 c r s0 (cmdFdrTail p0 p1) := by
  unfold cmdFdrTail
  refine indexWrite_fr (su rfl hc) (su rfl hr) ?_
  exact h0

theorem execFdrTail_fr {c r : Nat} {s0 t : State} {p0} {p1} (hc : c ||| 31139577856 = c) (hr : r ||| 83076749736561927529482663500972036 = r) (h1 : Fr0 c r s0 p1) (ht : execFdrTail p0 p1 = .next t) :
    Fr0 c r s0 t := by
  unfold execFdrTail at ht
  injection ht with ht
  subst ht
  refine State.ifLive_fr (su rfl hc) (su rfl hr) ?_ ?_
  ·
    exact h1
  ·
    intro u0 hu1
    refine cmdFdrTail_fr (su rfl hc) (su rfl hr) ?_
    exact hu1

theorem cmdFence_fr {c r : Nat} {s0 : State} {p0} (hc : c ||| 18272485376 = c) (hr : r ||| 11692013098647223345629478661730264157247460343808 = r) (h0 : Fr0 c r s0 p0) :
    Fr0 c r s0 (cmdFence p0) := by
  unfold cmdFence
  refine State.withCommand_fr (su rfl hc) (su rfl hr) ?_ ?_
  ·
    exact h0
  ·
    intro u0 u2 hu1
    extract_lets +onlyGivenNames -merge -useContext -underBinder x3
    have hx4 : Fr0 c r s0 x3 := by
      refine State.raspDone_fr (su rfl hc) (su rfl hr) ?_
      refine State.modRasp_fr (su rfl hc) (su rfl hr) ?_
      exact hu1
    try clear_value x3
    refine fr0_ite (fun _ => ?_) (fun _ => ?_)
    ·
      refine State.irq_fr (su rfl hc) (su rfl hr) ?_
      exact hx4
    ·
      exact hx4

theorem execFence_fr {c r : Nat} {s0 t : State} {p0} (hc : c ||| 18272485376 = c) (hr : r ||| 11692013098647223345629478661730264157247460343808 = r) (h0 : Fr0 c r s0 p0) (ht : execFence p0 = .next t) :
    Fr0 c r s0 t := by
  unfold execFence at ht
  injection ht with ht
  subst ht
  refine State.ifLive_fr (su rfl hc) (su rfl hr) ?_ ?_
  ·
    exact h0
  ·
    intro u0 hu1
    refine cmdFence_fr (su rfl hc) (su rfl hr) ?_
    exact hu1

theorem State.detach_fr {c r : Nat} {s0 : State} {p0} {p1} {p2} (hc : c ||| 8192 = c) (hr : r ||| 0 = r) (h0 : Fr0 c r s0 p0) :
    Fr0 c r s0 (State.detach p0 p1 p2) := by
  unfold State.detach
  split
  ·
    exact h0
  ·
    refine fr_rrec (su rfl hc) ?_
    exact h0

theorem State.allocDir_fr {c r : Nat} {s0 : State} {p0} {p1} {p2} {p3} {p4} {p5} (hc : c ||| 8192 = c) (hr : r ||| 0 = r) (h0 : Fr0 c r s0 p0) :
    Fr1 c r s0 (State.allocDir p0 p1 p2 p3 p4 p5) := by
  unfold State.allocDir
  extract_lets +onlyGivenNames -merge -useContext -underBinder x0
  try clear_value x0
  extract_lets +onlyGivenNames -merge -useContext -underBinder x1
  try clear_value x1
  refine fr1_mk ?_
  refine fr_rrec (su rfl hc) ?_
  exact h0

theorem State.layerDir_fr {c r : Nat} {s0 : State} {p0} {p1} {p2} {p3} {p4} {p5} {p6} (hc : c ||| 8192 = c) (hr : r ||| 0 = r) (h5 : Fr1 c r s0 p5) :
    Fr1 c r s0 (State.layerDir p0 p1 p2 p3 p4 p5 p6) := by
  unfold State.layerDir
  extract_lets +onlyGivenNames -merge -useContext -underBinder x0
  try clear_value x0
  refine fr1_ite (fun _ => ?_) (fun _ => ?_)
  ·
    refine fr1_mk ?_
    refine to1 ?_
    exact h5
  ·
    extract_lets +onlyGivenNames -merge -useContext -underBinder x1
    have hx2 : Fr0 c r s0 x1 := by
      refine State.detach_fr (su rfl hc) (su rfl hr) ?_
      refine to1 ?_
      exact h5
    try clear_value x1
    split
    ·
      refine fr1_mk ?_
      exact hx2
    ·
      split
      rename_i v4 v5 hq6
      have hp3 : Fr0 c r s0 v4 := by
        refine from1 hq6 ?_
        refine State.allocDir_fr (su rfl hc) (su rfl hr) ?_
        exact hx2
      clear hq6
      refine fr1_mk ?_
      exact hp3

theorem State.placeFig_fr {c r : Nat} {s0 : State} {p0} {p1} {p2} {p3} {p4} {p5} {p6} {p7} {p8} (hc : c ||| 14336 = c) (hr : r ||| 243388915243820045087367015432192 = r) (h0 : Fr0 c r s0 p0) :
    Fr0 c r s0 (State.placeFig p0 p1 p2 p3 p4 p5 p6 p7 p8) := by
  unfold State.placeFig
  extract_lets +onlyGivenNames -merge -useContext -underBinder x0
  try clear_value x0
  extract_lets +onlyGivenNames -merge -useContext -underBinder x1
  try clear_value x1
  refine fr0_ite (fun _ => ?_) (fun _ => ?_)
  ·
    refine State.sdecCode_fr (su rfl hc) (su rfl hr) ?_
    exact h0
  ·
    split
    rename_i v3 v4 hq5
    have hp2 : Fr0 c r s0 v3 := by
      refine from1 hq5 ?_
      refine fr1_foldl (fun ha6s _ ha6 => ?_) ?_
      ·
        refine State.layerDir_fr (su rfl hc) (su rfl hr) ?_
        exact ha6
      ·
        refine fr1_mk ?_
        exact h0
    clear hq5
    extract_lets +onlyGivenNames -merge -useContext -underBinder x7
    try clear_value x7
    extract_lets +onlyGivenNames -merge -useContext -underBinder x8
    try clear_value x8
    refine State.dropDirs_fr (su rfl hc) (su rfl hr) ?_
    refine fr_figs (su rfl hc) ?_
    exact hp2

theorem State.define_fr {c r : Nat} {s0 : State} {p0} {p1} {p2} {p3} {p4} {p5} {p6} (hc : c ||| 14336 = c) (hr : r ||| 200867255532373784442745261786034240559095419310216119844864 = r) (h0 : Fr0 c r s0 p0) :
    Fr0 c r s0 (State.define p0 p1 p2 p3 p4 p5 p6) := by
  unfold State.define
  split
  ·
    refine State.sdecCode_fr (su rfl hc) (su rfl hr) ?_
    exact h0
  ·
    split
    ·
      refine State.placeFig_fr (su rfl hc) (su rfl hr) ?_
      exact h0
    ·
      split
      ·
        refine State.bump_fr (su rfl hc) (su rfl hr) ?_ ?_
        ·
          refine State.sdecCode_fr (su rfl hc) (su rfl hr) ?_
          exact h0
        ·
          exact O.figNoContextCount_ok (su rfl hr)
      ·
        refine State.placeFig_fr (su rfl hc) (su rfl hr) ?_
        exact h0

theorem cmdFigureDefine_fr {c r : Nat} {s0 : State} {p0} (hc : c ||| 31232 = c) (hr : r ||| 200867255532373784442745262110552794217522146093372140486144 = r) (h0 : Fr0 c r s0 p0) :
    Fr0 c r s0 (cmdFigureDefine p0) := by
  unfold cmdFigureDefine
  refine State.withSection_fr (su rfl hc) (su rfl hr) ?_ ?_
  ·
    exact h0
  ·
    intro u0 u2 hu1
    extract_lets +onlyGivenNames -merge -useContext -underBinder x3
    refine fr0_ite (fun _ => ?_) (fun _ => ?_)
    ·
      refine State.badSection_fr (su rfl hc) (su rfl hr) ?_
      exact hu1
    ·
      refine State.settleRelief_fr (su rfl hc) (su rfl hr) ?_
      refine State.define_fr (su rfl hc) (su rfl hr) ?_
      refine State.acceptSection_fr (su rfl hc) (su rfl hr) ?_
      exact hu1

theorem execFigureDefine_fr {c r : Nat} {s0 t : State} {p0} (hc : c ||| 31232 = c) (hr : r ||| 200867255532373784442745262110552794217522146093372140486144 = r) (h0 : Fr0 c r s0 p0) (ht : execFigureDefine p0 = .next t) :
    Fr0 c r s0 t := by
  unfold execFigureDefine at ht
  injection ht with ht
  subst ht
  refine State.ifLive_fr (su rfl hc) (su rfl hr) ?_ ?_
  ·
    exact h0
  ·
    intro u0 hu1
    refine cmdFigureDefine_fr (su rfl hc) (su rfl hr) ?_
    exact hu1

theorem State.modify_fr {c r : Nat} {s0 : State} {p0} {p1} {p2} {p3} {p4} {p5} (hc : c ||| 14336 = c) (hr : r ||| 243388915243820045087367015432192 = r) (h0 : Fr0 c r s0 p0) :
    Fr0 c r s0 (State.modify p0 p1 p2 p3 p4 p5) := by
  unfold State.modify
  split
  ·
    refine State.sdecCode_fr (su rfl hc) (su rfl hr) ?_
    exact h0
  ·
    split
    ·
      refine State.sdecCode_fr (su rfl hc) (su rfl hr) ?_
      exact h0
    ·
      split
      ·
        refine State.sdecCode_fr (su rfl hc) (su rfl hr) ?_
        exact h0
      ·
        refine State.placeFig_fr (su rfl hc) (su rfl hr) ?_
        exact h0

theorem cmdFigureModify_fr {c r : Nat} {s0 : State} {p0} (hc : c ||| 31232 = c) (hr : r ||| 567907468902246771870523036073472 = r) (h0 : Fr0 c r s0 p0) :
    Fr0 c r s0 (cmdFigureModify p0) := by
  unfold cmdFigureModify
  refine State.withSection_fr (su rfl hc) (su rfl hr) ?_ ?_
  ·
    exact h0
  ·
    intro u0 u2 hu1
    extract_lets +onlyGivenNames -merge -useContext -underBinder x3
    extract_lets +onlyGivenNames -merge -useContext -underBinder x4
    try clear_value x4
    refine fr0_ite (fun _ => ?_) (fun _ => ?_)
    ·
      refine State.badSection_fr (su rfl hc) (su rfl hr) ?_
      exact hu1
    ·
      refine State.settleRelief_fr (su rfl hc) (su rfl hr) ?_
      refine State.modify_fr (su rfl hc) (su rfl hr) ?_
      refine State.acceptSection_fr (su rfl hc) (su rfl hr) ?_
      exact hu1

theorem execFigureModify_fr {c r : Nat} {s0 t : State} {p0} (hc : c ||| 31232 = c) (hr : r ||| 567907468902246771870523036073472 = r) (h0 : Fr0 c r s0 p0) (ht : execFigureModify p0 = .next t) :
    Fr0 c r s0 t := by
  unfold execFigureModify at ht
  injection ht with ht
  subst ht
  refine State.ifLive_fr (su rfl hc) (su rfl hr) ?_ ?_
  ·
    exact h0
  ·
    intro u0 hu1
    refine cmdFigureModify_fr (su rfl hc) (su rfl hr) ?_
    exact hu1

theorem State.retireFig_fr {c r : Nat} {s0 : State} {p0} {p1} {p2} (hc : c ||| 10240 = c) (hr : r ||| 0 = r) (h0 : Fr0 c r s0 p0) :
    Fr0 c r s0 (State.retireFig p0 p1 p2) := by
  unfold State.retireFig
  extract_lets +onlyGivenNames -merge -useContext -underBinder x0
  have hx1 : Fr0 c r s0 x0 := by
    refine fr0_foldl (fun ha2s _ ha2 => ?_) ?_
    ·
      refine State.detach_fr (su rfl hc) (su rfl hr) ?_
      exact ha2
    ·
      exact h0
  try clear_value x0
  refine State.dropDirs_fr (su rfl hc) (su rfl hr) ?_
  refine fr_figs (su rfl hc) ?_
  exact hx1

theorem State.retire_fr {c r : Nat} {s0 : State} {p0} {p1} {p2} {p3} (hc : c ||| 14336 = c) (hr : r ||| 243388915243820045087367015432192 = r) (h0 : Fr0 c r s0 p0) :
    Fr0 c r s0 (State.retire p0 p1 p2 p3) := by
  unfold State.retire
  split
  ·
    refine State.sdecCode_fr (su rfl hc) (su rfl hr) ?_
    exact h0
  ·
    refine State.retireFig_fr (su rfl hc) (su rfl hr) ?_
    exact h0

theorem cmdFigureRetire_fr {c r : Nat} {s0 : State} {p0} (hc : c ||| 31232 = c) (hr : r ||| 567907468902246771870523036073472 = r) (h0 : Fr0 c r s0 p0) :
    Fr0 c r s0 (cmdFigureRetire p0) := by
  unfold cmdFigureRetire
  refine State.withSection_fr (su rfl hc) (su rfl hr) ?_ ?_
  ·
    exact h0
  ·
    intro u0 u2 hu1
    refine fr0_ite (fun _ => ?_) (fun _ => ?_)
    ·
      refine State.badSection_fr (su rfl hc) (su rfl hr) ?_
      exact hu1
    ·
      refine State.settleRelief_fr (su rfl hc) (su rfl hr) ?_
      refine State.retire_fr (su rfl hc) (su rfl hr) ?_
      refine State.acceptSection_fr (su rfl hc) (su rfl hr) ?_
      exact hu1

theorem execFigureRetire_fr {c r : Nat} {s0 t : State} {p0} (hc : c ||| 31232 = c) (hr : r ||| 567907468902246771870523036073472 = r) (h0 : Fr0 c r s0 p0) (ht : execFigureRetire p0 = .next t) :
    Fr0 c r s0 t := by
  unfold execFigureRetire at ht
  injection ht with ht
  subst ht
  refine State.ifLive_fr (su rfl hc) (su rfl hr) ?_ ?_
  ·
    exact h0
  ·
    intro u0 hu1
    refine cmdFigureRetire_fr (su rfl hc) (su rfl hr) ?_
    exact hu1

theorem cmdFill_fr {c r : Nat} {s0 : State} {p0} {p1} {p2} (hc : c ||| 22567453696 = c) (hr : r ||| 17538019647970835018444217992595396235887840854016 = r) (h0 : Fr0 c r s0 p0) :
    Fr0 c r s0 (cmdFill p0 p1 p2) := by
  unfold cmdFill
  refine State.withCommand_fr (su rfl hc) (su rfl hr) ?_ ?_
  ·
    exact h0
  ·
    intro u0 u2 hu1
    refine State.draw_fr (su rfl hc) (su rfl hr) ?_
    refine State.startDraw_fr (su rfl hc) (su rfl hr) ?_
    exact hu1

theorem execFill_fr {c r : Nat} {s0 t : State} {p0} {p1} {p2} (hc : c ||| 22567453696 = c) (hr : r ||| 17538019647970835018444217992595396235887840854016 = r) (h1 : Fr0 c r s0 p1) (ht : execFill p0 p1 p2 = .next t) :
    Fr0 c r s0 t := by
  unfold execFill at ht
  injection ht with ht
  subst ht
  refine State.ifLive_fr (su rfl hc) (su rfl hr) ?_ ?_
  ·
    exact h1
  ·
    intro u0 hu1
    refine cmdFill_fr (su rfl hc) (su rfl hr) ?_
    exact hu1

theorem cmdFinalCostingDone_fr {c r : Nat} {s0 : State} {p0} (hc : c ||| 22548607488 = c) (hr : r ||| 2812141577453232982198433661597034554414740682835425527857151 = r) (h0 : Fr0 c r s0 p0) :
    Fr0 c r s0 (cmdFinalCostingDone p0) := by
  unfold cmdFinalCostingDone
  split
  ·
    extract_lets +onlyGivenNames -merge -useContext -underBinder x0
    refine fr0_ite (fun _ => ?_) (fun _ => ?_)
    ·
      refine State.refuseFrame_fr (su rfl hc) (su rfl hr) ?_
      refine State.dropHead_fr (su rfl hc) (su rfl hr) ?_
      exact h0
    ·
      refine fr0_ite (fun _ => ?_) (fun _ => ?_)
      ·
        refine State.refuseHead_fr (su rfl hc) (su rfl hr) ?_
        exact h0
      ·
        refine fr0_ite (fun _ => ?_) (fun _ => ?_)
        ·
          refine State.refuseHead_fr (su rfl hc) (su rfl hr) ?_
          exact h0
        ·
          extract_lets +onlyGivenNames -merge -useContext -underBinder x1
          try clear_value x1
          extract_lets +onlyGivenNames -merge -useContext -underBinder x2
          have hx3 : Fr0 c r s0 x2 := by
            refine State.admissionEntry_fr (su rfl hc) (su rfl hr) ?_
            refine State.modAdm_fr (su rfl hc) (su rfl hr) ?_
            refine State.dropHead_fr (su rfl hc) (su rfl hr) ?_
            exact h0
          try clear_value x2
          extract_lets +onlyGivenNames -merge -useContext -underBinder x4
          have hx5 : Fr0 c r s0 x4 := by
            unfold x4
            split
            ·
              refine State.put_fr (su rfl hc) (su rfl hr) ?_ ?_
              ·
                exact hx3
              ·
                exact O.overlayShown_ok (su rfl hr)
            ·
              exact hx3
          try clear_value x4
          extract_lets +onlyGivenNames -merge -useContext -underBinder x6
          have hx7 : Fr0 c r s0 x6 := by
            refine State.put_fr (su rfl hc) (su rfl hr) ?_ ?_
            ·
              refine State.put_fr (su rfl hc) (su rfl hr) ?_ ?_
              ·
                refine State.put_fr (su rfl hc) (su rfl hr) ?_ ?_
                ·
                  refine State.put_fr (su rfl hc) (su rfl hr) ?_ ?_
                  ·
                    refine State.bump_fr (su rfl hc) (su rfl hr) ?_ ?_
                    ·
                      exact hx5
                    ·
                      exact O.admAdmittedCount_ok (su rfl hr)
                  ·
                    exact O.admLastStatus_ok (su rfl hr)
                ·
                  exact O.admLastCost_ok (su rfl hr)
              ·
                exact O.admLastBudget_ok (su rfl hr)
            ·
              exact O.figBinPeak_ok (su rfl hr)
          try clear_value x6
          extract_lets +onlyGivenNames -merge -useContext -underBinder x8
          have hx9 : Fr0 c r s0 x8 := by
            refine fr0_foldl (fun ha10s _ ha10 => ?_) ?_
            ·
              refine State.powerIsl_fr (su rfl hc) (su rfl hr) ?_
              exact ha10
            ·
              exact hx7
          try clear_value x8
          refine State.settleRelief_fr (su rfl hc) (su rfl hr) ?_
          refine State.resume_fr (su rfl hc) (su rfl hr) ?_
          exact hx9
  ·
    exact h0

theorem execFinalCostingDone_fr {c r : Nat} {s0 t : State} {p0} (hc : c ||| 22548607488 = c) (hr : r ||| 2812141577453232982198433661597034554414740682835425527857151 = r) (h0 : Fr0 c r s0 p0) (ht : execFinalCostingDone p0 = .next t) :
    Fr0 c r s0 t := by
  unfold execFinalCostingDone at ht
  injection ht with ht
  subst ht
  refine State.ifLive_fr (su rfl hc) (su rfl hr) ?_ ?_
  ·
    exact h0
  ·
    intro u0 hu1
    refine cmdFinalCostingDone_fr (su rfl hc) (su rfl hr) ?_
    exact hu1

theorem cmdFinalCostingStart_fr {c r : Nat} {s0 : State} {p0} (hc : c ||| 18255737344 = c) (hr : r ||| 262143 = r) (h0 : Fr0 c r s0 p0) :
    Fr0 c r s0 (cmdFinalCostingStart p0) := by
  unfold cmdFinalCostingStart
  split
  ·
    split
    ·
      exact h0
    ·
      refine fr0_ite (fun _ => ?_) (fun _ => ?_)
      ·
        refine State.refuseHead_fr (su rfl hc) (su rfl hr) ?_
        exact h0
      ·
        extract_lets +onlyGivenNames -merge -useContext -underBinder x0
        try clear_value x0
        refine fr0_ite (fun _ => ?_) (fun _ => ?_)
        ·
          refine State.refuseHead_fr (su rfl hc) (su rfl hr) ?_
          exact h0
        ·
          extract_lets +onlyGivenNames -merge -useContext -underBinder x1
          extract_lets +onlyGivenNames -merge -useContext -underBinder x2
          try clear_value x2
          split
          ·
            refine State.refuseFrame_fr (su rfl hc) (su rfl hr) ?_
            refine State.dropHead_fr (su rfl hc) (su rfl hr) ?_
            exact h0
          ·
            extract_lets +onlyGivenNames -merge -useContext -underBinder x3
            try clear_value x3
            extract_lets +onlyGivenNames -merge -useContext -underBinder x4
            try clear_value x4
            extract_lets +onlyGivenNames -merge -useContext -underBinder x5
            have hx6 : Fr0 c r s0 x5 := by
              refine fr_rasp (su rfl hc) ?_
              exact h0
            try clear_value x5
            refine State.modAdm_fr (su rfl hc) (su rfl hr) ?_
            exact hx6
  ·
    exact h0

theorem execFinalCostingStart_fr {c r : Nat} {s0 t : State} {p0} (hc : c ||| 18255737344 = c) (hr : r ||| 262143 = r) (h0 : Fr0 c r s0 p0) (ht : execFinalCostingStart p0 = .next t) :
    Fr0 c r s0 t := by
  unfold execFinalCostingStart at ht
  injection ht with ht
  subst ht
  refine State.ifLive_fr (su rfl hc) (su rfl hr) ?_ ?_
  ·
    exact h0
  ·
    intro u0 hu1
    refine cmdFinalCostingStart_fr (su rfl hc) (su rfl hr) ?_
    exact hu1

theorem State.feedServo_fr {c r : Nat} {s0 : State} {p0} {p1} (hc : c ||| 22556966912 = c) (hr : r ||| 24117248 = r) (h0 : Fr0 c r s0 p0) :
    Fr0 c r s0 (State.feedServo p0 p1) := by
  unfold State.feedServo
  refine fr0_ite (fun _ => ?_) (fun _ => ?_)
  ·
    exact h0
  ·
    extract_lets +onlyGivenNames -merge -useContext -underBinder x0
    try clear_value x0
    extract_lets +onlyGivenNames -merge -useContext -underBinder x1
    extract_lets +onlyGivenNames -merge -useContext -underBinder x2
    extract_lets +onlyGivenNames -merge -useContext -underBinder x3
    have hx4 : Fr0 c r s0 x3 := by
      refine State.aim_fr (su rfl hc) (su rfl hr) ?_
      refine State.modTim_fr (su rfl hc) (su rfl hr) ?_
      exact h0
    try clear_value x3
    refine fr0_ite (fun _ => ?_) (fun _ => ?_)
    ·
      refine fr0_ite (fun _ => ?_) (fun _ => ?_)
      ·
        refine State.put_fr (su rfl hc) (su rfl hr) ?_ ?_
        ·
          exact hx4
        ·
          exact O.timeState_ok (su rfl hr)
      ·
        exact hx4
    ·
      refine fr0_ite (fun _ => ?_) (fun _ => ?_)
      ·
        refine State.post_fr (su rfl hc) (su rfl hr) ?_
        refine State.put_fr (su rfl hc) (su rfl hr) ?_ ?_
        ·
          exact hx4
        ·
          exact O.timeState_ok (su rfl hr)
      ·
        exact hx4

theorem State.useSync_fr {c r : Nat} {s0 : State} {p0} {p1} {p2} {p3} {p4} (hc : c ||| 31147966464 = c) (hr : r ||| 3213876088611516655873101971447361034342933573818287646310400 = r) (h0 : Fr0 c r s0 p0) :
    Fr0 c r s0 (State.useSync p0 p1 p2 p3 p4) := by
  unfold State.useSync
  extract_lets +onlyGivenNames -merge -useContext -underBinder x0
  try clear_value x0
  extract_lets +onlyGivenNames -merge -useContext -underBinder x1
  try clear_value x1
  extract_lets +onlyGivenNames -merge -useContext -underBinder x2
  have hx3 : Fr0 c r s0 x2 := by
    refine State.modPtp_fr (su rfl hc) (su rfl hr) ?_
    exact h0
  try clear_value x2
  extract_lets +onlyGivenNames -merge -useContext -underBinder x4
  try clear_value x4
  extract_lets +onlyGivenNames -merge -useContext -underBinder x5
  have hx6 : Fr0 c r s0 x5 := by
    unfold x5
    split
    ·
      refine State.put_fr (su rfl hc) (su rfl hr) ?_ ?_
      ·
        exact hx3
      ·
        exact O.ptpRate_ok (su rfl hr)
    ·
      refine State.put_fr (su rfl hc) (su rfl hr) ?_ ?_
      ·
        exact hx3
      ·
        exact O.ptpRate_ok (su rfl hr)
  try clear_value x5
  refine fr0_ite (fun _ => ?_) (fun _ => ?_)
  ·
    exact hx6
  ·
    refine State.feedServo_fr (su rfl hc) (su rfl hr) ?_
    refine State.judge_fr (su rfl hc) (su rfl hr) ?_
    exact hx6

theorem cmdFollowUpRx_fr {c r : Nat} {s0 : State} {p0} {p1} {p2} (hc : c ||| 31147966472 = c) (hr : r ||| 3213876088611516655873101971447361034342933573818287646310400 = r) (h0 : Fr0 c r s0 p0) :
    Fr0 c r s0 (cmdFollowUpRx p0 p1 p2) := by
  unfold cmdFollowUpRx
  refine fr0_ite (fun _ => ?_) (fun _ => ?_)
  ·
    exact h0
  ·
    extract_lets +onlyGivenNames -merge -useContext -underBinder x0
    have hx1 : Fr0 c r s0 x0 := by
      refine State.reach_fr (su rfl hc) (su rfl hr) ?_
      exact h0
    try clear_value x0
    split
    ·
      exact hx1
    ·
      refine fr0_ite (fun _ => ?_) (fun _ => ?_)
      ·
        refine State.modPtp_fr (su rfl hc) (su rfl hr) ?_
        exact hx1
      ·
        refine State.useSync_fr (su rfl hc) (su rfl hr) ?_
        exact hx1

theorem execFollowUpRx_fr {c r : Nat} {s0 t : State} {p0} {p1} {p2} (hc : c ||| 31147966472 = c) (hr : r ||| 3213876088611516655873101971447361034342933573818287646310400 = r) (h2 : Fr0 c r s0 p2) (ht : execFollowUpRx p0 p1 p2 = .next t) :
    Fr0 c r s0 t := by
  unfold execFollowUpRx at ht
  injection ht with ht
  subst ht
  refine State.ifLive_fr (su rfl hc) (su rfl hr) ?_ ?_
  ·
    exact h2
  ·
    intro u0 hu1
    refine cmdFollowUpRx_fr (su rfl hc) (su rfl hr) ?_
    exact hu1

theorem cmdFrameCommit_fr {c r : Nat} {s0 : State} {p0} {p1} (hc : c ||| 31139577856 = c) (hr : r ||| 11972621413014756789001335886173718026504062893096966 = r) (h0 : Fr0 c r s0 p0) :
    Fr0 c r s0 (cmdFrameCommit p0 p1) := by
  unfold cmdFrameCommit
  extract_lets +onlyGivenNames -merge -useContext -underBinder x0
  have hx1 : Fr0 c r s0 x0 := by
    refine State.activity_fr (su rfl hc) (su rfl hr) ?_
    exact h0
  try clear_value x0
  refine fr0_ite (fun _ => ?_) (fun _ => ?_)
  ·
    exact hx1
  ·
    refine fr0_ite (fun _ => ?_) (fun _ => ?_)
    ·
      refine State.put_fr (su rfl hc) (su rfl hr) ?_ ?_
      ·
        refine State.bump_fr (su rfl hc) (su rfl hr) ?_ ?_
        ·
          refine State.modScan_fr (su rfl hc) (su rfl hr) ?_
          exact hx1
        ·
          exact O.scanCommitIgnoredCount_ok (su rfl hr)
      ·
        exact O.scanLastStatus_ok (su rfl hr)
    ·
      extract_lets +onlyGivenNames -merge -useContext -underBinder x2
      have hx3 : Fr2 c r s0 x2 := by
        refine hostCommit_fr (su rfl hc) (su rfl hr) ?_
        exact hx1
      try clear_value x2
      split
      ·
        refine fr0_ite (fun _ => ?_) (fun _ => ?_)
        ·
          refine State.modHif_fr (su rfl hc) (su rfl hr) ?_
          refine directEntry_fr (su rfl hc) (su rfl hr) ?_
          refine to2 ?_
          exact hx3
        ·
          refine to2 ?_
          exact hx3
      ·
        refine to2 ?_
        exact hx3

theorem execFrameCommit_fr {c r : Nat} {s0 t : State} {p0} {p1} (hc : c ||| 31139577856 = c) (hr : r ||| 11972621413014756789001335886173718026504062893096966 = r) (h1 : Fr0 c r s0 p1) (ht : execFrameCommit p0 p1 = .next t) :
    Fr0 c r s0 t := by
  unfold execFrameCommit at ht
  injection ht with ht
  subst ht
  refine State.ifLive_fr (su rfl hc) (su rfl hr) ?_ ?_
  ·
    exact h1
  ·
    intro u0 hu1
    refine cmdFrameCommit_fr (su rfl hc) (su rfl hr) ?_
    exact hu1

theorem cmdFrameDescriptorTake_fr {c r : Nat} {s0 : State} {p0} {p1} (hc : c ||| 18253611008 = c) (hr : r ||| 6 = r) (h0 : Fr0 c r s0 p0) :
    Fr0 c r s0 (cmdFrameDescriptorTake p0 p1) := by
  unfold cmdFrameDescriptorTake
  extract_lets +onlyGivenNames -merge -useContext -underBinder x0
  try clear_value x0
  refine fr0_ite (fun _ => ?_) (fun _ => ?_)
  ·
    exact h0
  ·
    extract_lets +onlyGivenNames -merge -useContext -underBinder x1
    extract_lets +onlyGivenNames -merge -useContext -underBinder x2
    extract_lets +onlyGivenNames -merge -useContext -underBinder x3
    extract_lets +onlyGivenNames -merge -useContext -underBinder x4
    try clear_value x4
    extract_lets +onlyGivenNames -merge -useContext -underBinder x5
    extract_lets +onlyGivenNames -merge -useContext -underBinder x6
    have hx7 : Fr0 c r s0 x6 := by
      refine State.modHif_fr (su rfl hc) (su rfl hr) ?_
      exact h0
    try clear_value x6
    refine fr0_ite (fun _ => ?_) (fun _ => ?_)
    ·
      refine fdrAdvance_fr (su rfl hc) (su rfl hr) ?_
      refine directEntry_fr (su rfl hc) (su rfl hr) ?_
      exact hx7
    ·
      refine State.modHif_fr (su rfl hc) (su rfl hr) ?_
      exact hx7

theorem execFrameDescriptorTake_fr {c r : Nat} {s0 t : State} {p0} {p1} (hc : c ||| 18253611008 = c) (hr : r ||| 6 = r) (h1 : Fr0 c r s0 p1) (ht : execFrameDescriptorTake p0 p1 = .next t) :
    Fr0 c r s0 t := by
  unfold execFrameDescriptorTake at ht
  injection ht with ht
  subst ht
  refine State.ifLive_fr (su rfl hc) (su rfl hr) ?_ ?_
  ·
    exact h1
  ·
    intro u0 hu1
    refine cmdFrameDescriptorTake_fr (su rfl hc) (su rfl hr) ?_
    exact hu1

theorem State.refuseMarker_fr {c r : Nat} {s0 : State} {p0} {p1} {p2} {p3} (hc : c ||| 18253611008 = c) (hr : r ||| 81129638414606681695789005144070 = r) (h0 : Fr0 c r s0 p0) :
    Fr0 c r s0 (State.refuseMarker p0 p1 p2 p3) := by
  unfold State.refuseMarker
  refine State.complete_fr (su rfl hc) (su rfl hr) ?_
  refine State.put_fr (su rfl hc) (su rfl hr) ?_ ?_
  ·
    exact h0
  ·
    exact O.sdecLastStatus_ok (su rfl hr)

theorem State.binMarker_fr {c r : Nat} {s0 : State} {p0} {p1} {p2} {p3} {p4} (hc : c ||| 20480 = c) (hr : r ||| 1569275433846670190958947355801916604025588861116008693248 = r) (h0 : Fr0 c r s0 p0) :
    Fr0 c r s0 (State.binMarker p0 p1 p2 p3 p4) := by
  unfold State.binMarker
  extract_lets +onlyGivenNames -merge -useContext -underBinder x0
  extract_lets +onlyGivenNames -merge -useContext -underBinder x1
  try clear_value x1
  extract_lets +onlyGivenNames -merge -useContext -underBinder x2
  try clear_value x2
  extract_lets +onlyGivenNames -merge -useContext -underBinder x3
  try clear_value x3
  extract_lets +onlyGivenNames -merge -useContext -underBinder x4
  have hx5 : Fr0 c r s0 x4 := by
    refine State.put_fr (su rfl hc) (su rfl hr) ?_ ?_
    ·
      refine State.modSdec_fr (su rfl hc) (su rfl hr) ?_
      exact h0
    ·
      exact O.lastBinnedEpoch_ok (su rfl hr)
  try clear_value x4
  refine State.settleRelief_fr (su rfl hc) (su rfl hr) ?_
  refine State.modAdm_fr (su rfl hc) (su rfl hr) ?_
  exact hx5

theorem cmdFrameMarker_fr {c r : Nat} {s0 : State} {p0} (hc : c ||| 18253632000 = c) (hr : r ||| 1569275433846670190958947923709385506272360731639044701702 = r) (h0 : Fr0 c r s0 p0) :
    Fr0 c r s0 (cmdFrameMarker p0) := by
  unfold cmdFrameMarker
  refine fr0_ite (fun _ => ?_) (fun _ => ?_)
  ·
    exact h0
  ·
    refine State.withSection_fr (su rfl hc) (su rfl hr) ?_ ?_
    ·
      exact h0
    ·
      intro u0 u2 hu1
      extract_lets +onlyGivenNames -merge -useContext -underBinder x3
      try clear_value x3
      extract_lets +onlyGivenNames -merge -useContext -underBinder x4
      refine fr0_ite (fun _ => ?_) (fun _ => ?_)
      ·
        refine State.badSection_fr (su rfl hc) (su rfl hr) ?_
        exact hu1
      ·
        extract_lets +onlyGivenNames -merge -useContext -underBinder x5
        extract_lets +onlyGivenNames -merge -useContext -underBinder x6
        extract_lets +onlyGivenNames -merge -useContext -underBinder x7
        extract_lets +onlyGivenNames -merge -useContext -underBinder x8
        extract_lets +onlyGivenNames -merge -useContext -underBinder x9
        have hx10 : Fr0 c r s0 x9 := by
          refine State.acceptSection_fr (su rfl hc) (su rfl hr) ?_
          exact hu1
        try clear_value x9
        refine fr0_ite (fun _ => ?_) (fun _ => ?_)
        ·
          refine State.settleRelief_fr (su rfl hc) (su rfl hr) ?_
          refine State.refuseMarker_fr (su rfl hc) (su rfl hr) ?_
          exact hx10
        ·
          refine fr0_ite (fun _ => ?_) (fun _ => ?_)
          ·
            refine State.settleRelief_fr (su rfl hc) (su rfl hr) ?_
            refine State.refuseMarker_fr (su rfl hc) (su rfl hr) ?_
            exact hx10
          ·
            refine State.binMarker_fr (su rfl hc) (su rfl hr) ?_
            exact hx10

theorem execFrameMarker_fr {c r : Nat} {s0 t : State} {p0} (hc : c ||| 18253632000 = c) (hr : r ||| 1569275433846670190958947923709385506272360731639044701702 = r) (h0 : Fr0 c r s0 p0) (ht : execFrameMarker p0 = .next t) :
    Fr0 c r s0 t := by
  unfold execFrameMarker at ht
  injection ht with ht
  subst ht
  refine State.ifLive_fr (su rfl hc) (su rfl hr) ?_ ?_
  ·
    exact h0
  ·
    intro u0 hu1
    refine cmdFrameMarker_fr (su rfl hc) (su rfl hr) ?_
    exact hu1

theorem cmdFunction_fr {c r : Nat} {s0 : State} {p0} {p1} {p2} {p3} (hc : c ||| 103028671480 = c) (hr : r ||| 10141204801825835211972283334656 = r) (h0 : Fr0 c r s0 p0) :
    Fr0 c r s0 (cmdFunction p0 p1 p2 p3) := by
  unfold cmdFunction
  refine rowWrite_fr (su rfl hc) (su rfl hr) ?_
  exact h0

theorem execFunctionDisable_fr {c r : Nat} {s0 t : State} {p0} {p1} {p2} (hc : c ||| 103028671480 = c) (hr : r ||| 10141204801825835211972283334656 = r) (h2 : Fr0 c r s0 p2) (ht : execFunctionDisable p0 p1 p2 = .next t) :
    Fr0 c r s0 t := by
  unfold execFunctionDisable at ht
  injection ht with ht
  subst ht
  refine State.ifLive_fr (su rfl hc) (su rfl hr) ?_ ?_
  ·
    exact h2
  ·
    intro u0 hu1
    refine cmdFunction_fr (su rfl hc) (su rfl hr) ?_
    exact hu1

theorem execFunctionEnable_fr {c r : Nat} {s0 t : State} {p0} {p1} {p2} (hc : c ||| 103028671480 = c) (hr : r ||| 10141204801825835211972283334656 = r) (h2 : Fr0 c r s0 p2) (ht : execFunctionEnable p0 p1 p2 = .next t) :
    Fr0 c r s0 t := by
  unfold execFunctionEnable at ht
  injection ht with ht
  subst ht
  refine State.ifLive_fr (su rfl hc) (su rfl hr) ?_ ?_
  ·
    exact h2
  ·
    intro u0 hu1
    refine cmdFunction_fr (su rfl hc) (su rfl hr) ?_
    exact hu1

theorem cmdHeartbeatReceived_fr {c r : Nat} {s0 : State} {p0} {p1} {p2} {p3} (hc : c ||| 24696061952 = c) (hr : r ||| 68726816768 = r) (h0 : Fr0 c r s0 p0) :
    Fr0 c r s0 (cmdHeartbeatReceived p0 p1 p2 p3) := by
  unfold cmdHeartbeatReceived
  extract_lets +onlyGivenNames -merge -useContext -underBinder x0
  try clear_value x0
  refine fr0_ite (fun _ => ?_) (fun _ => ?_)
  ·
    refine State.note_fr (su rfl hc) (su rfl hr) ?_ ?_
    ·
      refine State.modDict_fr (su rfl hc) (su rfl hr) ?_
      exact h0
    ·
      exact O.dictLastStatus_ok (su rfl hr)
  ·
    exact h0

theorem execHeartbeatReceived_fr {c r : Nat} {s0 t : State} {p0} {p1} {p2} {p3} (hc : c ||| 24696061952 = c) (hr : r ||| 68726816768 = r) (h3 : Fr0 c r s0 p3) (ht : execHeartbeatReceived p0 p1 p2 p3 = .next t) :
    Fr0 c r s0 t := by
  unfold execHeartbeatReceived at ht
  injection ht with ht
  subst ht
  refine State.ifLive_fr (su rfl hc) (su rfl hr) ?_ ?_
  ·
    exact h3
  ·
    intro u0 hu1
    refine cmdHeartbeatReceived_fr (su rfl hc) (su rfl hr) ?_
    exact hu1

theorem cmdHifCplEn_fr {c r : Nat} {s0 : State} {p0} {p1} (hc : c ||| 1073741824 = c) (hr : r ||| 0 = r) (h0 : Fr0 c r s0 p0) :
    Fr0 c r s0 (cmdHifCplEn p0 p1) := by
  unfold cmdHifCplEn
  refine State.modHif_fr (su rfl hc) (su rfl hr) ?_
  exact h0

theorem execHifCplEn_fr {c r : Nat} {s0 t : State} {p0} {p1} (hc : c ||| 1073741824 = c) (hr : r ||| 0 = r) (h1 : Fr0 c r s0 p1) (ht : execHifCplEn p0 p1 = .next t) :
    Fr0 c r s0 t := by
  unfold execHifCplEn at ht
  injection ht with ht
  subst ht
  refine State.ifLive_fr (su rfl hc) (su rfl hr) ?_ ?_
  ·
    exact h1
  ·
    intro u0 hu1
    refine cmdHifCplEn_fr (su rfl hc) (su rfl hr) ?_
    exact hu1

theorem cmdHifFdrEn_fr {c r : Nat} {s0 : State} {p0} {p1} (hc : c ||| 1073741824 = c) (hr : r ||| 0 = r) (h0 : Fr0 c r s0 p0) :
    Fr0 c r s0 (cmdHifFdrEn p0 p1) := by
  unfold cmdHifFdrEn
  refine State.modHif_fr (su rfl hc) (su rfl hr) ?_
  exact h0

theorem execHifFdrEn_fr {c r : Nat} {s0 t : State} {p0} {p1} (hc : c ||| 1073741824 = c) (hr : r ||| 0 = r) (h1 : Fr0 c r s0 p1) (ht : execHifFdrEn p0 p1 = .next t) :
    Fr0 c r s0 t := by
  unfold execHifFdrEn at ht
  injection ht with ht
  subst ht
  refine State.ifLive_fr (su rfl hc) (su rfl hr) ?_ ?_
  ·
    exact h1
  ·
    intro u0 hu1
    refine cmdHifFdrEn_fr (su rfl hc) (su rfl hr) ?_
    exact hu1

theorem cmdHifSegEn_fr {c r : Nat} {s0 : State} {p0} {p1} (hc : c ||| 1073742336 = c) (hr : r ||| 0 = r) (h0 : Fr0 c r s0 p0) :
    Fr0 c r s0 (cmdHifSegEn p0 p1) := by
  unfold cmdHifSegEn
  refine State.regateStream_fr (su rfl hc) (su rfl hr) ?_
  refine State.modHif_fr (su rfl hc) (su rfl hr) ?_
  exact h0

theorem execHifSegEn_fr {c r : Nat} {s0 t : State} {p0} {p1} (hc : c ||| 1073742336 = c) (hr : r ||| 0 = r) (h1 : Fr0 c r s0 p1) (ht : execHifSegEn p0 p1 = .next t) :
    Fr0 c r s0 t := by
  unfold execHifSegEn at ht
  injection ht with ht
  subst ht
  refine State.ifLive_fr (su rfl hc) (su rfl hr) ?_ ?_
  ·
    exact h1
  ·
    intro u0 hu1
    refine cmdHifSegEn_fr (su rfl hc) (su rfl hr) ?_
    exact hu1

theorem cmdHoldupConfirm_fr {c r : Nat} {s0 : State} {p0} (hc : c ||| 22550504328 = c) (hr : r ||| 5986310712082564662979542577275731671025319549271558 = r) (h0 : Fr0 c r s0 p0) :
    Fr0 c r s0 (cmdHoldupConfirm p0) := by
  unfold cmdHoldupConfirm
  refine fr0_ite (fun _ => ?_) (fun _ => ?_)
  ·
    exact h0
  ·
    refine State.confirmHoldup_fr (su rfl hc) (su rfl hr) ?_
    refine State.elapseTo_fr (su rfl hc) (su rfl hr) ?_
    exact h0

theorem execHoldupConfirm_fr {c r : Nat} {s0 t : State} {p0} (hc : c ||| 22550504328 = c) (hr : r ||| 5986310712082564662979542577275731671025319549271558 = r) (h0 : Fr0 c r s0 p0) (ht : execHoldupConfirm p0 = .next t) :
    Fr0 c r s0 t := by
  unfold execHoldupConfirm at ht
  injection ht with ht
  subst ht
  refine State.ifLive_fr (su rfl hc) (su rfl hr) ?_ ?_
  ·
    exact h0
  ·
    intro u0 hu1
    refine cmdHoldupConfirm_fr (su rfl hc) (su rfl hr) ?_
    exact hu1

theorem State.logLost_fr {c r : Nat} {s0 : State} {p0} (hc : c ||| 4294967296 = c) (hr : r ||| 1048576 = r) (h0 : Fr0 c r s0 p0) :
    Fr0 c r s0 (State.logLost p0) := by
  unfold State.logLost
  refine State.bump_fr (su rfl hc) (su rfl hr) ?_ ?_
  ·
    refine fr_log (su rfl hc) ?_
    exact h0
  ·
    exact O.logLostCount_ok (su rfl hr)

theorem State.toSram_fr {c r : Nat} {s0 : State} {p0} {p1} (hc : c ||| 4294967296 = c) (hr : r ||| 1048576 = r) (h0 : Fr0 c r s0 p0) :
    Fr0 c r s0 (State.toSram p0 p1) := by
  unfold State.toSram
  refine fr0_ite (fun _ => ?_) (fun _ => ?_)
  ·
    refine fr_log (su rfl hc) ?_
    exact h0
  ·
    refine fr0_ite (fun _ => ?_) (fun _ => ?_)
    ·
      refine State.logLost_fr (su rfl hc) (su rfl hr) ?_
      refine fr_log (su rfl hc) ?_
      exact h0
    ·
      refine State.logLost_fr (su rfl hc) (su rfl hr) ?_
      exact h0

theorem State.drainStaging_fr {c r : Nat} {s0 : State} {p0} (hc : c ||| 4294967296 = c) (hr : r ||| 1048576 = r) (h0 : Fr0 c r s0 p0) :
    Fr0 c r s0 (State.drainStaging p0) := by
  unfold State.drainStaging
  extract_lets +onlyGivenNames -merge -useContext -underBinder x0
  try clear_value x0
  refine fr0_foldl (fun ha1s _ ha1 => ?_) ?_
  ·
    refine State.toSram_fr (su rfl hc) (su rfl hr) ?_
    exact ha1
  ·
    refine fr_log (su rfl hc) ?_
    exact h0

theorem State.norLog_fr {c r : Nat} {s0 : State} {p0} {p1} (hc : c ||| 67108864 = c) (hr : r ||| 0 = r) (h0 : Fr0 c r s0 p0) :
    Fr0 c r s0 (State.norLog p0 p1) := by
  unfold State.norLog
  refine State.modNor_fr (su rfl hc) (su rfl hr) ?_
  exact h0

theorem State.saveState_fr {c r : Nat} {s0 : State} {p0} (hc : c ||| 68786585600 = c) (hr : r ||| 22300745198530623141535718272648361505980416 = r) (h0 : Fr0 c r s0 p0) :
    Fr0 c r s0 (State.saveState p0) := by
  unfold State.saveState
  extract_lets +onlyGivenNames -merge -useContext -underBinder x0
  have hx1 : Fr0 c r s0 x0 := by
    refine State.drawFree_fr (su rfl hc) (su rfl hr) ?_
    refine State.put_fr (su rfl hc) (su rfl hr) ?_ ?_
    ·
      exact h0
    ·
      exact O.norEraseMax_ok (su rfl hr)
  try clear_value x0
  extract_lets +onlyGivenNames -merge -useContext -underBinder x2
  try clear_value x2
  refine State.modNor_fr (su rfl hc) (su rfl hr) ?_
  exact hx1

theorem cmdHoldupParked_fr {c r : Nat} {s0 : State} {p0} (hc : c ||| 73081552904 = c) (hr : r ||| 557518629963265737033408333939035227974270976 = r) (h0 : Fr0 c r s0 p0) :
    Fr0 c r s0 (cmdHoldupParked p0) := by
  unfold cmdHoldupParked
  refine fr0_ite (fun _ => ?_) (fun _ => ?_)
  ·
    exact h0
  ·
    extract_lets +onlyGivenNames -merge -useContext -underBinder x0
    have hx1 : Fr0 c r s0 x0 := by
      refine State.put_fr (su rfl hc) (su rfl hr) ?_ ?_
      ·
        refine State.elapseTo_fr (su rfl hc) (su rfl hr) ?_
        exact h0
      ·
        exact O.pwrHoldupState_ok (su rfl hr)
    try clear_value x0
    extract_lets +onlyGivenNames -merge -useContext -underBinder x2
    have hx3 : Fr0 c r s0 x2 := by
      refine fr0_ite (fun _ => ?_) (fun _ => ?_)
      ·
        refine State.put_fr (su rfl hc) (su rfl hr) ?_ ?_
        ·
          exact hx1
        ·
          exact O.patinaStoreState_ok (su rfl hr)
      ·
        exact hx1
    try clear_value x2
    extract_lets +onlyGivenNames -merge -useContext -underBinder x4
    have hx5 : Fr0 c r s0 x4 := by
      refine fr0_ite (fun _ => ?_) (fun _ => ?_)
      ·
        refine State.put_fr (su rfl hc) (su rfl hr) ?_ ?_
        ·
          exact hx3
        ·
          exact O.cfgStoreState_ok (su rfl hr)
      ·
        exact hx3
    try clear_value x4
    refine fr0_ite (fun _ => ?_) (fun _ => ?_)
    ·
      exact hx5
    ·
      extract_lets +onlyGivenNames -merge -useContext -underBinder x6
      have hx7 : Fr0 c r s0 x6 := by
        refine State.drainStaging_fr (su rfl hc) (su rfl hr) ?_
        exact hx5
      try clear_value x6
      extract_lets +onlyGivenNames -merge -useContext -underBinder x8
      try clear_value x8
      extract_lets +onlyGivenNames -merge -useContext -underBinder x9
      try clear_value x9
      extract_lets +onlyGivenNames -merge -useContext -underBinder x10
      try clear_value x10
      extract_lets +onlyGivenNames -merge -useContext -underBinder x11
      try clear_value x11
      extract_lets +onlyGivenNames -merge -useContext -underBinder x12
      extract_lets +onlyGivenNames -merge -useContext -underBinder x13
      try clear_value x13
      extract_lets +onlyGivenNames -merge -useContext -underBinder x14
      have hx15 : Fr0 c r s0 x14 := by
        refine fr_log (su rfl hc) ?_
        exact hx7
      try clear_value x14
      extract_lets +onlyGivenNames -merge -useContext -underBinder x16
      have hx17 : Fr0 c r s0 x16 := by
        refine fr0_foldl (fun ha18s _ ha18 => ?_) ?_
        ·
          refine State.norLog_fr (su rfl hc) (su rfl hr) ?_
          exact ha18
        ·
          exact hx15
      try clear_value x16
      extract_lets +onlyGivenNames -merge -useContext -underBinder x19
      have hx20 : Fr0 c r s0 x19 := by
        refine fr0_foldl (fun ha21s _ ha21 => ?_) ?_
        ·
          refine State.logLost_fr (su rfl hc) (su rfl hr) ?_
          exact ha21
        ·
          exact hx17
      try clear_value x19
      refine State.saveState_fr (su rfl hc) (su rfl hr) ?_
      refine State.showLog_fr (su rfl hc) (su rfl hr) ?_
      exact hx20

theorem execHoldupParked_fr {c r : Nat} {s0 t : State} {p0} (hc : c ||| 73081552904 = c) (hr : r ||| 557518629963265737033408333939035227974270976 = r) (h0 : Fr0 c r s0 p0) (ht : execHoldupParked p0 = .next t) :
    Fr0 c r s0 t := by
  unfold execHoldupParked at ht
  injection ht with ht
  subst ht
  refine State.ifLive_fr (su rfl hc) (su rfl hr) ?_ ?_
  ·
    exact h0
  ·
    intro u0 hu1
    refine cmdHoldupParked_fr (su rfl hc) (su rfl hr) ?_
    exact hu1

theorem cmdHoldupRecovery_fr {c r : Nat} {s0 : State} {p0} (hc : c ||| 31157142024 = c) (hr : r ||| 9426301984264284143616 = r) (h0 : Fr0 c r s0 p0) :
    Fr0 c r s0 (cmdHoldupRecovery p0) := by
  unfold cmdHoldupRecovery
  refine fr0_ite (fun _ => ?_) (fun _ => ?_)
  ·
    refine State.panelStart_fr (su rfl hc) (su rfl hr) ?_
    exact h0
  ·
    refine fr0_ite (fun _ => ?_) (fun _ => ?_)
    ·
      exact h0
    ·
      split
      ·
        extract_lets +onlyGivenNames -merge -useContext -underBinder x0
        have hx1 : Fr0 c r s0 x0 := by
          refine State.elapseTo_fr (su rfl hc) (su rfl hr) ?_
          exact h0
        try clear_value x0
        extract_lets +onlyGivenNames -merge -useContext -underBinder x2
        have hx3 : Fr0 c r s0 x2 := by
          refine State.modPwr_fr (su rfl hc) (su rfl hr) ?_
          refine State.put_fr (su rfl hc) (su rfl hr) ?_ ?_
          ·
            exact hx1
          ·
            exact O.pwrHoldupState_ok (su rfl hr)
        try clear_value x2
        extract_lets +onlyGivenNames -merge -useContext -underBinder x4
        try clear_value x4
        extract_lets +onlyGivenNames -merge -useContext -underBinder x5
        have hx6 : Fr0 c r s0 x5 := by
          refine fr_mem (su rfl hc) ?_
          exact hx3
        try clear_value x5
        refine fr0_ite (fun _ => ?_) (fun _ => ?_)
        ·
          refine State.panelStart_fr (su rfl hc) (su rfl hr) ?_
          exact hx6
        ·
          refine State.endHoldup_fr (su rfl hc) (su rfl hr) ?_
          exact hx6
      ·
        exact h0

theorem execHoldupRecovery_fr {c r : Nat} {s0 t : State} {p0} (hc : c ||| 31157142024 = c) (hr : r ||| 9426301984264284143616 = r) (h0 : Fr0 c r s0 p0) (ht : execHoldupRecovery p0 = .next t) :
    Fr0 c r s0 t := by
  unfold execHoldupRecovery at ht
  injection ht with ht
  subst ht
  refine State.ifLive_fr (su rfl hc) (su rfl hr) ?_ ?_
  ·
    exact h0
  ·
    intro u0 hu1
    refine cmdHoldupRecovery_fr (su rfl hc) (su rfl hr) ?_
    exact hu1

theorem cmdHoldupShed_fr {c r : Nat} {s0 : State} {p0} (hc : c ||| 17039368 = c) (hr : r ||| 0 = r) (h0 : Fr0 c r s0 p0) :
    Fr0 c r s0 (cmdHoldupShed p0) := by
  unfold cmdHoldupShed
  refine fr0_ite (fun _ => ?_) (fun _ => ?_)
  ·
    exact h0
  ·
    extract_lets +onlyGivenNames -merge -useContext -underBinder x0
    have hx1 : Fr0 c r s0 x0 := by
      refine State.modPwr_fr (su rfl hc) (su rfl hr) ?_
      refine State.elapseTo_fr (su rfl hc) (su rfl hr) ?_
      exact h0
    try clear_value x0
    refine fr_mem (su rfl hc) ?_
    exact hx1

theorem execHoldupShed_fr {c r : Nat} {s0 t : State} {p0} (hc : c ||| 17039368 = c) (hr : r ||| 0 = r) (h0 : Fr0 c r s0 p0) (ht : execHoldupShed p0 = .next t) :
    Fr0 c r s0 t := by
  unfold execHoldupShed at ht
  injection ht with ht
  subst ht
  refine State.ifLive_fr (su rfl hc) (su rfl hr) ?_ ?_
  ·
    exact h0
  ·
    intro u0 hu1
    refine cmdHoldupShed_fr (su rfl hc) (su rfl hr) ?_
    exact hu1

theorem cmdHostHeartbeat_fr {c r : Nat} {s0 : State} {p0} (hc : c ||| 31139577856 = c) (hr : r ||| 83076749736561927529482663500972036 = r) (h0 : Fr0 c r s0 p0) :
    Fr0 c r s0 (cmdHostHeartbeat p0) := by
  unfold cmdHostHeartbeat
  refine State.activity_fr (su rfl hc) (su rfl hr) ?_
  exact h0

theorem execHostHeartbeat_fr {c r : Nat} {s0 t : State} {p0} (hc : c ||| 31139577856 = c) (hr : r ||| 83076749736561927529482663500972036 = r) (h0 : Fr0 c r s0 p0) (ht : execHostHeartbeat p0 = .next t) :
    Fr0 c r s0 t := by
  unfold execHostHeartbeat at ht
  injection ht with ht
  subst ht
  refine State.ifLive_fr (su rfl hc) (su rfl hr) ?_ ?_
  ·
    exact h0
  ·
    intro u0 hu1
    refine cmdHostHeartbeat_fr (su rfl hc) (su rfl hr) ?_
    exact hu1

theorem cmdIrqMaskWrite_fr {c r : Nat} {s0 : State} {p0} {p1} (hc : c ||| 18253611008 = c) (hr : r ||| 0 = r) (h0 : Fr0 c r s0 p0) :
    Fr0 c r s0 (cmdIrqMaskWrite p0 p1) := by
  unfold cmdIrqMaskWrite
  extract_lets +onlyGivenNames -merge -useContext -underBinder x0
  extract_lets +onlyGivenNames -merge -useContext -underBinder x1
  have hx2 : Fr0 c r s0 x1 := by
    refine State.modHif_fr (su rfl hc) (su rfl hr) ?_
    exact h0
  try clear_value x1
  refine fr0_foldl (fun ha3s _ ha3 => ?_) ?_
  ·
    refine fr0_ite (fun _ => ?_) (fun _ => ?_)
    ·
      refine State.sendVector_fr (su rfl hc) (su rfl hr) ?_
      exact ha3
    ·
      exact ha3
  ·
    exact hx2

theorem execIrqMaskWrite_fr {c r : Nat} {s0 t : State} {p0} {p1} (hc : c ||| 18253611008 = c) (hr : r ||| 0 = r) (h1 : Fr0 c r s0 p1) (ht : execIrqMaskWrite p0 p1 = .next t) :
    Fr0 c r s0 t := by
  unfold execIrqMaskWrite at ht
  injection ht with ht
  subst ht
  refine State.ifLive_fr (su rfl hc) (su rfl hr) ?_ ?_
  ·
    exact h1
  ·
    intro u0 hu1
    refine cmdIrqMaskWrite_fr (su rfl hc) (su rfl hr) ?_
    exact hu1

theorem cmdIrqStatusClear_fr {c r : Nat} {s0 : State} {p0} {p1} (hc : c ||| 1073741824 = c) (hr : r ||| 0 = r) (h0 : Fr0 c r s0 p0) :
    Fr0 c r s0 (cmdIrqStatusClear p0 p1) := by
  unfold cmdIrqStatusClear
  refine State.modHif_fr (su rfl hc) (su rfl hr) ?_
  exact h0

theorem execIrqStatusClear_fr {c r : Nat} {s0 t : State} {p0} {p1} (hc : c ||| 1073741824 = c) (hr : r ||| 0 = r) (h1 : Fr0 c r s0 p1) (ht : execIrqStatusClear p0 p1 = .next t) :
    Fr0 c r s0 t := by
  unfold execIrqStatusClear at ht
  injection ht with ht
  subst ht
  refine State.ifLive_fr (su rfl hc) (su rfl hr) ?_ ?_
  ·
    exact h1
  ·
    intro u0 hu1
    refine cmdIrqStatusClear_fr (su rfl hc) (su rfl hr) ?_
    exact hu1

theorem State.openGate_fr {c r : Nat} {s0 : State} {p0} (hc : c ||| 16781312 = c) (hr : r ||| 0 = r) (h0 : Fr0 c r s0 p0) :
    Fr0 c r s0 (State.openGate p0) := by
  unfold State.openGate
  refine fr0_ite (fun _ => ?_) (fun _ => ?_)
  ·
    exact h0
  ·
    refine fr0_foldl (fun ha0s _ ha0 => ?_) ?_
    ·
      refine State.pushSegment_fr (su rfl hc) (su rfl hr) ?_
      exact ha0
    ·
      refine State.modSdec_fr (su rfl hc) (su rfl hr) ?_
      exact h0

theorem cmdIslandPowered_fr {c r : Nat} {s0 : State} {p0} {p1} (hc : c ||| 16781824 = c) (hr : r ||| 0 = r) (h0 : Fr0 c r s0 p0) :
    Fr0 c r s0 (cmdIslandPowered p0 p1) := by
  unfold cmdIslandPowered
  refine State.openGate_fr (su rfl hc) (su rfl hr) ?_
  refine State.modIsl_fr (su rfl hc) (su rfl hr) ?_
  exact h0

theorem execIslandPowered_fr {c r : Nat} {s0 t : State} {p0} {p1} (hc : c ||| 16781824 = c) (hr : r ||| 0 = r) (h1 : Fr0 c r s0 p1) (ht : execIslandPowered p0 p1 = .next t) :
    Fr0 c r s0 t := by
  unfold execIslandPowered at ht
  injection ht with ht
  subst ht
  refine State.ifLive_fr (su rfl hc) (su rfl hr) ?_ ?_
  ·
    exact h1
  ·
    intro u0 hu1
    refine cmdIslandPowered_fr (su rfl hc) (su rfl hr) ?_
    exact hu1

theorem State.sendPrbs_fr {c r : Nat} {s0 : State} {p0} {p1} {p2} {p3} (hc : c ||| 17179869184 = c) (hr : r ||| 0 = r) (h0 : Fr0 c r s0 p0) :
    Fr0 c r s0 (State.sendPrbs p0 p1 p2 p3) := by
  unfold State.sendPrbs
  refine State.emit_fr (su rfl hc) (su rfl hr) ?_
  refine State.emit_fr (su rfl hc) (su rfl hr) ?_
  exact h0

theorem State.sendSweep_fr {c r : Nat} {s0 : State} {p0} {p1} {p2} (hc : c ||| 17180393472 = c) (hr : r ||| 0 = r) (h0 : Fr0 c r s0 p0) :
    Fr0 c r s0 (State.sendSweep p0 p1 p2) := by
  unfold State.sendSweep
  refine State.sendPrbs_fr (su rfl hc) (su rfl hr) ?_
  refine State.sendLane_fr (su rfl hc) (su rfl hr) ?_
  exact h0

theorem State.noteSweep_fr {c r : Nat} {s0 : State} {p0} {p1} {p2} (hc : c ||| 524288 = c) (hr : r ||| 0 = r) (h0 : Fr0 c r s0 p0) :
    Fr0 c r s0 (State.noteSweep p0 p1 p2) := by
  unfold State.noteSweep
  extract_lets +onlyGivenNames -merge -useContext -underBinder x0
  refine State.modSlot_fr (su rfl hc) (su rfl hr) ?_
  exact h0

theorem State.sweepLane_fr {c r : Nat} {s0 : State} {p0} {p1} {p2} {p3} (hc : c ||| 17180393472 = c) (hr : r ||| 9444732965739290427392 = r) (h0 : Fr0 c r s0 p0) :
    Fr0 c r s0 (State.sweepLane p0 p1 p2 p3) := by
  unfold State.sweepLane
  extract_lets +onlyGivenNames -merge -useContext -underBinder x0
  have hx1 : Fr0 c r s0 x0 := by
    refine State.sendSweep_fr (su rfl hc) (su rfl hr) ?_
    refine State.setLaneState_fr (su rfl hc) (su rfl hr) ?_
    refine State.sideWrite_fr (su rfl hc) (su rfl hr) ?_
    exact h0
  try clear_value x0
  refine State.modSlot_fr (su rfl hc) (su rfl hr) ?_
  refine State.noteSweep_fr (su rfl hc) (su rfl hr) ?_
  exact hx1

theorem cmdLaneRetry_fr {c r : Nat} {s0 : State} {p0} {p1} {p2} (hc : c ||| 17180393480 = c) (hr : r ||| 6427752177035961102167848369364650410098256708096910631632896 = r) (h0 : Fr0 c r s0 p0) :
    Fr0 c r s0 (cmdLaneRetry p0 p1 p2) := by
  unfold cmdLaneRetry
  refine fr0_ite (fun _ => ?_) (fun _ => ?_)
  ·
    exact h0
  ·
    extract_lets +onlyGivenNames -merge -useContext -underBinder x0
    try clear_value x0
    extract_lets +onlyGivenNames -merge -useContext -underBinder x1
    have hx2 : Fr0 c r s0 x1 := by
      unfold x1
      split
      ·
        refine State.elapseTo_fr (su rfl hc) (su rfl hr) ?_
        exact h0
      ·
        exact h0
    try clear_value x1
    refine fr0_ite (fun _ => ?_) (fun _ => ?_)
    ·
      exact hx2
    ·
      refine State.sweepLane_fr (su rfl hc) (su rfl hr) ?_
      refine State.bump_fr (su rfl hc) (su rfl hr) ?_ ?_
      ·
        exact hx2
      ·
        exact O.linkRetryCount_ok (su rfl hr)

theorem execLaneRetry_fr {c r : Nat} {s0 t : State} {p0} {p1} {p2} (hc : c ||| 17180393480 = c) (hr : r ||| 6427752177035961102167848369364650410098256708096910631632896 = r) (h2 : Fr0 c r s0 p2) (ht : execLaneRetry p0 p1 p2 = .next t) :
    Fr0 c r s0 t := by
  unfold execLaneRetry at ht
  injection ht with ht
  subst ht
  refine State.ifLive_fr (su rfl hc) (su rfl hr) ?_ ?_
  ·
    exact h2
  ·
    intro u0 hu1
    refine cmdLaneRetry_fr (su rfl hc) (su rfl hr) ?_
    exact hu1

theorem State.discardForDirect_fr {c r : Nat} {s0 : State} {p0} (hc : c ||| 18254750336 = c) (hr : r ||| 65030 = r) (h0 : Fr0 c r s0 p0) :
    Fr0 c r s0 (State.discardForDirect p0) := by
  unfold State.discardForDirect
  extract_lets +onlyGivenNames -merge -useContext -underBinder x0
  try clear_value x0
  extract_lets +onlyGivenNames -merge -useContext -underBinder x1
  have hx2 : Fr0 c r s0 x1 := by
    refine fr0_ite (fun _ => ?_) (fun _ => ?_)
    ·
      exact h0
    ·
      refine State.put_fr (su rfl hc) (su rfl hr) ?_ ?_
      ·
        exact h0
      ·
        exact O.hifLastStatus_ok (su rfl hr)
  try clear_value x1
  extract_lets +onlyGivenNames -merge -useContext -underBinder x3
  have hx4 : Fr0 c r s0 x3 := by
    refine fr0_foldl (fun ha5s _ ha5 => ?_) ?_
    ·
      refine State.noteDiscard_fr (su rfl hc) (su rfl hr) ?_
      refine State.presentedEntry_fr (su rfl hc) (su rfl hr) ?_
      exact ha5
    ·
      exact hx2
  try clear_value x3
  extract_lets +onlyGivenNames -merge -useContext -underBinder x6
  have hx7 : Fr0 c r s0 x6 := by
    refine State.modScan_fr (su rfl hc) (su rfl hr) ?_
    exact hx4
  try clear_value x6
  extract_lets +onlyGivenNames -merge -useContext -underBinder x8
  have hx9 : Fr0 c r s0 x8 := by
    refine State.clearRse_fr (su rfl hc) (su rfl hr) ?_
    exact hx7
  try clear_value x8
  extract_lets +onlyGivenNames -merge -useContext -underBinder x10
  have hx11 : Fr0 c r s0 x10 := by
    refine State.modAdm_fr (su rfl hc) (su rfl hr) ?_
    exact hx9
  try clear_value x10
  refine fr0_foldl (fun ha12s _ ha12 => ?_) ?_
  ·
    refine State.releaseFrame_fr (su rfl hc) (su rfl hr) ?_
    exact ha12
  ·
    exact hx11

theorem State.dropDescriptors_fr {c r : Nat} {s0 : State} {p0} (hc : c ||| 18253611008 = c) (hr : r ||| 6 = r) (h0 : Fr0 c r s0 p0) :
    Fr0 c r s0 (State.dropDescriptors p0) := by
  unfold State.dropDescriptors
  extract_lets +onlyGivenNames -merge -useContext -underBinder x0
  have hx1 : Fr0 c r s0 x0 := by
    unfold x0
    split
    ·
      refine fr0_ite (fun _ => ?_) (fun _ => ?_)
      ·
        exact h0
      ·
        refine State.modHif_fr (su rfl hc) (su rfl hr) ?_
        refine fdrAdvance_fr (su rfl hc) (su rfl hr) ?_
        refine directEntry_fr (su rfl hc) (su rfl hr) ?_
        exact h0
    ·
      exact h0
  try clear_value x0
  extract_lets +onlyGivenNames -merge -useContext -underBinder x2
  try clear_value x2
  refine State.modHif_fr (su rfl hc) (su rfl hr) ?_
  exact hx1

theorem State.leaveDirect_fr {c r : Nat} {s0 : State} {p0} (hc : c ||| 18254659584 = c) (hr : r ||| 6 = r) (h0 : Fr0 c r s0 p0) :
    Fr0 c r s0 (State.leaveDirect p0) := by
  unfold State.leaveDirect
  extract_lets +onlyGivenNames -merge -useContext -underBinder x0
  have hx1 : Fr0 c r s0 x0 := by
    refine State.dropDescriptors_fr (su rfl hc) (su rfl hr) ?_
    exact h0
  try clear_value x0
  extract_lets +onlyGivenNames -merge -useContext -underBinder x2
  try clear_value x2
  refine State.modScan_fr (su rfl hc) (su rfl hr) ?_
  refine State.modHif_fr (su rfl hc) (su rfl hr) ?_
  exact hx1

theorem State.modeLatch_fr {c r : Nat} {s0 : State} {p0} (hc : c ||| 22549717632 = c) (hr : r ||| 23945242826029513411849172299223580994042798791523846 = r) (h0 : Fr0 c r s0 p0) :
    Fr0 c r s0 (State.modeLatch p0) := by
  unfold State.modeLatch
  extract_lets +onlyGivenNames -merge -useContext -underBinder x0
  try clear_value x0
  extract_lets +onlyGivenNames -merge -useContext -underBinder x1
  have hx2 : Fr0 c r s0 x1 := by
    refine fr0_ite (fun _ => ?_) (fun _ => ?_)
    ·
      refine State.note_fr (su rfl hc) (su rfl hr) ?_ ?_
      ·
        exact h0
      ·
        exact O.pdpLastStatus_ok (su rfl hr)
    ·
      exact h0
  try clear_value x1
  extract_lets +onlyGivenNames -merge -useContext -underBinder x3
  have hx4 : Fr0 c r s0 x3 := by
    refine fr0_ite (fun _ => ?_) (fun _ => ?_)
    ·
      refine State.modHif_fr (su rfl hc) (su rfl hr) ?_
      exact hx2
    ·
      exact hx2
  try clear_value x3
  refine fr0_ite (fun _ => ?_) (fun _ => ?_)
  ·
    exact hx4
  ·
    extract_lets +onlyGivenNames -merge -useContext -underBinder x5
    have hx6 : Fr0 c r s0 x5 := by
      refine State.modHif_fr (su rfl hc) (su rfl hr) ?_
      exact hx4
    try clear_value x5
    refine fr0_ite (fun _ => ?_) (fun _ => ?_)
    ·
      exact hx6
    ·
      refine fr0_ite (fun _ => ?_) (fun _ => ?_)
      ·
        refine State.discardForDirect_fr (su rfl hc) (su rfl hr) ?_
        refine State.modHif_fr (su rfl hc) (su rfl hr) ?_
        exact hx6
      ·
        refine State.leaveDirect_fr (su rfl hc) (su rfl hr) ?_
        exact hx6

theorem State.bindGrid_fr {c r : Nat} {s0 : State} {p0} (hc : c ||| 18253640320 = c) (hr : r ||| 1569275433846670190958947355801916604025588861116008890367 = r) (h0 : Fr0 c r s0 p0) :
    Fr0 c r s0 (State.bindGrid p0) := by
  unfold State.bindGrid
  extract_lets +onlyGivenNames -merge -useContext -underBinder x0
  try clear_value x0
  extract_lets +onlyGivenNames -merge -useContext -underBinder x1
  try clear_value x1
  extract_lets +onlyGivenNames -merge -useContext -underBinder x2
  extract_lets +onlyGivenNames -merge -useContext -underBinder x3
  extract_lets +onlyGivenNames -merge -useContext -underBinder x4
  have hx5 : Fr0 c r s0 x4 := by
    refine fr0_foldl (fun ha6s _ ha6 => ?_) ?_
    ·
      refine State.refuseHead_fr (su rfl hc) (su rfl hr) ?_
      exact ha6
    ·
      exact h0
  try clear_value x4
  extract_lets +onlyGivenNames -merge -useContext -underBinder x7
  have hx8 : Fr0 c r s0 x7 := by
    refine State.put_fr (su rfl hc) (su rfl hr) ?_ ?_
    ·
      refine State.modSdec_fr (su rfl hc) (su rfl hr) ?_
      exact hx5
    ·
      exact O.lastBinnedEpoch_ok (su rfl hr)
  try clear_value x7
  refine fr_cfg (su rfl hc) ?_
  exact hx8

theorem State.bindSwap_fr {c r : Nat} {s0 : State} {p0} (hc : c ||| 18253640320 = c) (hr : r ||| 1569275433846670190958947355801916604025588865514055401471 = r) (h0 : Fr0 c r s0 p0) :
    Fr0 c r s0 (State.bindSwap p0) := by
  unfold State.bindSwap
  refine fr0_ite (fun _ => ?_) (fun _ => ?_)
  ·
    exact h0
  ·
    extract_lets +onlyGivenNames -merge -useContext -underBinder x0
    try clear_value x0
    extract_lets +onlyGivenNames -merge -useContext -underBinder x1
    have hx2 : Fr0 c r s0 x1 := by
      refine State.put_fr (su rfl hc) (su rfl hr) ?_ ?_
      ·
        refine State.put_fr (su rfl hc) (su rfl hr) ?_ ?_
        ·
          exact h0
        ·
          exact O.cfgSwapState_ok (su rfl hr)
      ·
        exact O.cfgBoundFrame_ok (su rfl hr)
    try clear_value x1
    extract_lets +onlyGivenNames -merge -useContext -underBinder x3
    have hx4 : Fr0 c r s0 x3 := by
      refine State.modAdm_fr (su rfl hc) (su rfl hr) ?_
      exact hx2
    try clear_value x3
    extract_lets +onlyGivenNames -merge -useContext -underBinder x5
    try clear_value x5
    extract_lets +onlyGivenNames -merge -useContext -underBinder x6
    have hx7 : Fr0 c r s0 x6 := by
      refine fr_cfg (su rfl hc) ?_
      exact hx4
    try clear_value x6
    extract_lets +onlyGivenNames -merge -useContext -underBinder x8
    have hx9 : Fr0 c r s0 x8 := by
      refine State.regateOld_fr (su rfl hc) (su rfl hr) ?_
      refine State.powerAll_fr (su rfl hc) (su rfl hr) ?_
      exact hx7
    try clear_value x8
    refine fr0_ite (fun _ => ?_) (fun _ => ?_)
    ·
      refine State.bindGrid_fr (su rfl hc) (su rfl hr) ?_
      exact hx9
    ·
      exact hx9

theorem cmdLatchPoint_fr {c r : Nat} {s0 : State} {p0} (hc : c ||| 22818681480 = c) (hr : r ||| 1569299380548146150011010408774170950802810984972321816575 = r) (h0 : Fr0 c r s0 p0) :
    Fr0 c r s0 (cmdLatchPoint p0) := by
  unfold cmdLatchPoint
  refine fr0_ite (fun _ => ?_) (fun _ => ?_)
  ·
    exact h0
  ·
    extract_lets +onlyGivenNames -merge -useContext -underBinder x0
    have hx1 : Fr0 c r s0 x0 := by
      refine State.endResync_fr (su rfl hc) (su rfl hr) ?_
      refine State.noteReady_fr (su rfl hc) (su rfl hr) ?_
      exact h0
    try clear_value x0
    extract_lets +onlyGivenNames -merge -useContext -underBinder x2
    have hx3 : Fr0 c r s0 x2 := by
      refine State.reach_fr (su rfl hc) (su rfl hr) ?_
      exact hx1
    try clear_value x2
    extract_lets +onlyGivenNames -merge -useContext -underBinder x4
    have hx5 : Fr0 c r s0 x4 := by
      refine State.finishFirst_fr (su rfl hc) (su rfl hr) ?_
      refine State.modScan_fr (su rfl hc) (su rfl hr) ?_
      exact hx3
    try clear_value x4
    extract_lets +onlyGivenNames -merge -useContext -underBinder x6
    have hx7 : Fr0 c r s0 x6 := by
      refine State.modeLatch_fr (su rfl hc) (su rfl hr) ?_
      refine State.applyCommit_fr (su rfl hc) (su rfl hr) ?_
      refine State.tagDirect_fr (su rfl hc) (su rfl hr) ?_
      refine State.activate_fr (su rfl hc) (su rfl hr) ?_
      exact hx5
    try clear_value x6
    refine State.bindSwap_fr (su rfl hc) (su rfl hr) ?_
    exact hx7

theorem execLatchPoint_fr {c r : Nat} {s0 t : State} {p0} (hc : c ||| 22818681480 = c) (hr : r ||| 1569299380548146150011010408774170950802810984972321816575 = r) (h0 : Fr0 c r s0 p0) (ht : execLatchPoint p0 = .next t) :
    Fr0 c r s0 t := by
  unfold execLatchPoint at ht
  injection ht with ht
  subst ht
  refine State.ifLive_fr (su rfl hc) (su rfl hr) ?_ ?_
  ·
    exact h0
  ·
    intro u0 hu1
    refine cmdLatchPoint_fr (su rfl hc) (su rfl hr) ?_
    exact hu1

theorem cmdLateData_fr {c r : Nat} {s0 : State} {p0} (hc : c ||| 18253640200 = c) (hr : r ||| 262143 = r) (h0 : Fr0 c r s0 p0) :
    Fr0 c r s0 (cmdLateData p0) := by
  unfold cmdLateData
  split
  ·
    extract_lets +onlyGivenNames -merge -useContext -underBinder x0
    try clear_value x0
    refine fr0_ite (fun _ => ?_) (fun _ => ?_)
    ·
      exact h0
    ·
      refine State.refuseHead_fr (su rfl hc) (su rfl hr) ?_
      refine State.reach_fr (su rfl hc) (su rfl hr) ?_
      exact h0
  ·
    exact h0

theorem execLateData_fr {c r : Nat} {s0 t : State} {p0} (hc : c ||| 18253640200 = c) (hr : r ||| 262143 = r) (h0 : Fr0 c r s0 p0) (ht : execLateData p0 = .next t) :
    Fr0 c r s0 t := by
  unfold execLateData at ht
  injection ht with ht
  subst ht
  refine State.ifLive_fr (su rfl hc) (su rfl hr) ?_ ?_
  ·
    exact h0
  ·
    intro u0 hu1
    refine cmdLateData_fr (su rfl hc) (su rfl hr) ?_
    exact hu1

theorem cmdLimitRecordWrite_fr {c r : Nat} {s0 : State} {p0} (hc : c ||| 335544320 = c) (hr : r ||| 0 = r) (h0 : Fr0 c r s0 p0) :
    Fr0 c r s0 (cmdLimitRecordWrite p0) := by
  unfold cmdLimitRecordWrite
  split
  ·
    exact h0
  ·
    refine fr0_ite (fun _ => ?_) (fun _ => ?_)
    ·
      exact h0
    ·
      refine State.modPln_fr (su rfl hc) (su rfl hr) ?_
      refine State.modNor_fr (su rfl hc) (su rfl hr) ?_
      exact h0

theorem execLimitRecordWrite_fr {c r : Nat} {s0 t : State} {p0} (hc : c ||| 335544320 = c) (hr : r ||| 0 = r) (h0 : Fr0 c r s0 p0) (ht : execLimitRecordWrite p0 = .next t) :
    Fr0 c r s0 t := by
  unfold execLimitRecordWrite at ht
  injection ht with ht
  subst ht
  refine State.ifLive_fr (su rfl hc) (su rfl hr) ?_ ?_
  ·
    exact h0
  ·
    intro u0 hu1
    refine cmdLimitRecordWrite_fr (su rfl hc) (su rfl hr) ?_
    exact hu1

theorem cmdLockstepMismatch_fr {c r : Nat} {s0 : State} {p0} (hc : c ||| 102484689072 = c) (hr : r ||| 632626352617984892346950221824 = r) (h0 : Fr0 c r s0 p0) :
    Fr0 c r s0 (cmdLockstepMismatch p0) := by
  unfold cmdLockstepMismatch
  refine fr0_ite (fun _ => ?_) (fun _ => ?_)
  ·
    refine State.warmReset_fr (su rfl hc) (su rfl hr) ?_
    exact h0
  ·
    exact h0

theorem execLockstepMismatch_fr {c r : Nat} {s0 t : State} {p0} (hc : c ||| 102484689072 = c) (hr : r ||| 632626352617984892346950221824 = r) (h0 : Fr0 c r s0 p0) (ht : execLockstepMismatch p0 = .next t) :
    Fr0 c r s0 t := by
  unfold execLockstepMismatch at ht
  injection ht with ht
  subst ht
  refine State.ifLive_fr (su rfl hc) (su rfl hr) ?_ ?_
  ·
    exact h0
  ·
    intro u0 hu1
    refine cmdLockstepMismatch_fr (su rfl hc) (su rfl hr) ?_
    exact hu1

theorem State.norLost_fr {c r : Nat} {s0 : State} {p0} (hc : c ||| 4362076160 = c) (hr : r ||| 0 = r) (h0 : Fr0 c r s0 p0) :
    Fr0 c r s0 (State.norLost p0) := by
  unfold State.norLost
  refine fr0_ite (fun _ => ?_) (fun _ => ?_)
  ·
    exact h0
  ·
    extract_lets +onlyGivenNames -merge -useContext -underBinder x0
    try clear_value x0
    refine State.norLog_fr (su rfl hc) (su rfl hr) ?_
    refine fr_log (su rfl hc) ?_
    exact h0

theorem State.writeLog_fr {c r : Nat} {s0 : State} {p0} {p1} (hc : c ||| 4362076160 = c) (hr : r ||| 1048576 = r) (h0 : Fr0 c r s0 p0) :
    Fr0 c r s0 (State.writeLog p0 p1) := by
  unfold State.writeLog
  extract_lets +onlyGivenNames -merge -useContext -underBinder x0
  extract_lets +onlyGivenNames -merge -useContext -underBinder x1
  try clear_value x1
  refine fr0_ite (fun _ => ?_) (fun _ => ?_)
  ·
    refine State.norLog_fr (su rfl hc) (su rfl hr) ?_
    refine State.norLost_fr (su rfl hc) (su rfl hr) ?_
    exact h0
  ·
    refine fr0_ite (fun _ => ?_) (fun _ => ?_)
    ·
      refine State.logLost_fr (su rfl hc) (su rfl hr) ?_
      refine fr_log (su rfl hc) ?_
      exact h0
    ·
      refine State.norLog_fr (su rfl hc) (su rfl hr) ?_
      refine State.norLost_fr (su rfl hc) (su rfl hr) ?_
      refine fr_log (su rfl hc) ?_
      exact h0

theorem cmdLogNorFlush_fr {c r : Nat} {s0 : State} {p0} (hc : c ||| 4362076160 = c) (hr : r ||| 535217884764734955396857238543560676144578560 = r) (h0 : Fr0 c r s0 p0) :
    Fr0 c r s0 (cmdLogNorFlush p0) := by
  unfold cmdLogNorFlush
  refine fr0_ite (fun _ => ?_) (fun _ => ?_)
  ·
    exact h0
  ·
    extract_lets +onlyGivenNames -merge -useContext -underBinder x0
    have hx1 : Fr0 c r s0 x0 := by
      refine State.drainStaging_fr (su rfl hc) (su rfl hr) ?_
      exact h0
    try clear_value x0
    refine fr0_ite (fun _ => ?_) (fun _ => ?_)
    ·
      exact hx1
    ·
      extract_lets +onlyGivenNames -merge -useContext -underBinder x2
      try clear_value x2
      refine State.showLog_fr (su rfl hc) (su rfl hr) ?_
      refine fr0_foldl (fun ha3s _ ha3 => ?_) ?_
      ·
        refine State.writeLog_fr (su rfl hc) (su rfl hr) ?_
        exact ha3
      ·
        refine fr_log (su rfl hc) ?_
        exact hx1

theorem execLogNorFlush_fr {c r : Nat} {s0 t : State} {p0} (hc : c ||| 4362076160 = c) (hr : r ||| 535217884764734955396857238543560676144578560 = r) (h0 : Fr0 c r s0 p0) (ht : execLogNorFlush p0 = .next t) :
    Fr0 c r s0 t := by
  unfold execLogNorFlush at ht
  injection ht with ht
  subst ht
  refine State.ifLive_fr (su rfl hc) (su rfl hr) ?_ ?_
  ·
    exact h0
  ·
    intro u0 hu1
    refine cmdLogNorFlush_fr (su rfl hc) (su rfl hr) ?_
    exact hu1

theorem cmdMemReady_fr {c r : Nat} {s0 : State} {p0} (hc : c ||| 17303040 = c) (hr : r ||| 38566513062215766613007090216187902460532871866549626743029760 = r) (h0 : Fr0 c r s0 p0) :
    Fr0 c r s0 (cmdMemReady p0) := by
  unfold cmdMemReady
  refine fr0_ite (fun _ => ?_) (fun _ => ?_)
  ·
    exact h0
  ·
    extract_lets +onlyGivenNames -merge -useContext -underBinder x0
    try clear_value x0
    extract_lets +onlyGivenNames -merge -useContext -underBinder x1
    have hx2 : Fr0 c r s0 x1 := by
      refine fr_raw (u := p0) rfl (fun k hk => by cases k <;> first | rfl | exact bitx hc (by decide) hk) ?_
      exact h0
    try clear_value x1
    extract_lets +onlyGivenNames -merge -useContext -underBinder x3
    have hx4 : Fr0 c r s0 x3 := by
      refine State.put_fr (su rfl hc) (su rfl hr) ?_ ?_
      ·
        refine State.put_fr (su rfl hc) (su rfl hr) ?_ ?_
        ·
          exact hx2
        ·
          exact O.memState_ok (su rfl hr)
      ·
        exact O.memTrainingTime_ok (su rfl hr)
    try clear_value x3
    refine fr0_foldl (fun ha5s _ ha5 => ?_) ?_
    ·
      refine fr0_ite (fun _ => ?_) (fun _ => ?_)
      ·
        refine State.headStarting_fr (su rfl hc) (su rfl hr) ?_
        exact ha5
      ·
        exact ha5
    ·
      exact hx4

theorem execMemReady_fr {c r : Nat} {s0 t : State} {p0} (hc : c ||| 17303040 = c) (hr : r ||| 38566513062215766613007090216187902460532871866549626743029760 = r) (h0 : Fr0 c r s0 p0) (ht : execMemReady p0 = .next t) :
    Fr0 c r s0 t := by
  unfold execMemReady at ht
  injection ht with ht
  subst ht
  refine State.ifLive_fr (su rfl hc) (su rfl hr) ?_ ?_
  ·
    exact h0
  ·
    intro u0 hu1
    refine cmdMemReady_fr (su rfl hc) (su rfl hr) ?_
    exact hu1

theorem memFailed_fr {c r : Nat} {s0 : State} {p0} {p1} (hc : c ||| 31139577856 = c) (hr : r ||| 12855504354071922204335696738729300820484540878160722746408960 = r) (h0 : Fr0 c r s0 p0) :
    Fr0 c r s0 (memFailed p0 p1) := by
  unfold memFailed
  refine State.raise_fr (su rfl hc) (su rfl hr) ?_
  refine State.put_fr (su rfl hc) (su rfl hr) ?_ ?_
  ·
    refine State.put_fr (su rfl hc) (su rfl hr) ?_ ?_
    ·
      exact h0
    ·
      exact O.memState_ok (su rfl hr)
  ·
    exact O.memLastStatus_ok (su rfl hr)

theorem State.modStack_fr {c r : Nat} {s0 : State} {p0} {p1} {p2} (hc : c ||| 16777216 = c) (hr : r ||| 0 = r) (h0 : Fr0 c r s0 p0) :
    Fr0 c r s0 (State.modStack p0 p1 p2) := by
  unfold State.modStack
  refine fr_mem (su rfl hc) ?_
  exact h0

theorem cmdMemTrainingDone_fr {c r : Nat} {s0 : State} {p0} {p1} {p2} (hc : c ||| 31156355072 = c) (hr : r ||| 12855504354071922204335696738729300820484540878160722746408960 = r) (h0 : Fr0 c r s0 p0) :
    Fr0 c r s0 (cmdMemTrainingDone p0 p1 p2) := by
  unfold cmdMemTrainingDone
  refine fr0_ite (fun _ => ?_) (fun _ => ?_)
  ·
    exact h0
  ·
    refine fr0_ite (fun _ => ?_) (fun _ => ?_)
    ·
      refine memFailed_fr (su rfl hc) (su rfl hr) ?_
      exact h0
    ·
      extract_lets +onlyGivenNames -merge -useContext -underBinder x0
      try clear_value x0
      split
      ·
        refine memFailed_fr (su rfl hc) (su rfl hr) ?_
        exact h0
      ·
        refine fr0_ite (fun _ => ?_) (fun _ => ?_)
        ·
          refine fr_mem (su rfl hc) ?_
          exact h0
        ·
          refine fr0_foldl (fun ha1s _ ha1 => ?_) ?_
          ·
            refine State.modStack_fr (su rfl hc) (su rfl hr) ?_
            exact ha1
          ·
            exact h0

theorem execMemTrainingDone_fr {c r : Nat} {s0 t : State} {p0} {p1} {p2} (hc : c ||| 31156355072 = c) (hr : r ||| 12855504354071922204335696738729300820484540878160722746408960 = r) (h2 : Fr0 c r s0 p2) (ht : execMemTrainingDone p0 p1 p2 = .next t) :
    Fr0 c r s0 t := by
  unfold execMemTrainingDone at ht
  injection ht with ht
  subst ht
  refine State.ifLive_fr (su rfl hc) (su rfl hr) ?_ ?_
  ·
    exact h2
  ·
    intro u0 hu1
    refine cmdMemTrainingDone_fr (su rfl hc) (su rfl hr) ?_
    exact hu1

theorem cmdNop_fr {c r : Nat} {s0 : State} {p0} (hc : c ||| 18874368 = c) (hr : r ||| 11692013098647223345629478661730264157247460343808 = r) (h0 : Fr0 c r s0 p0) :
    Fr0 c r s0 (cmdNop p0) := by
  unfold cmdNop
  refine State.withCommand_fr (su rfl hc) (su rfl hr) ?_ ?_
  ·
    exact h0
  ·
    intro u0 u2 hu1
    refine State.raspDone_fr (su rfl hc) (su rfl hr) ?_
    exact hu1

theorem execNop_fr {c r : Nat} {s0 t : State} {p0} (hc : c ||| 18874368 = c) (hr : r ||| 11692013098647223345629478661730264157247460343808 = r) (h0 : Fr0 c r s0 p0) (ht : execNop p0 = .next t) :
    Fr0 c r s0 t := by
  unfold execNop at ht
  injection ht with ht
  subst ht
  refine State.ifLive_fr (su rfl hc) (su rfl hr) ?_ ?_
  ·
    exact h0
  ·
    intro u0 hu1
    refine cmdNop_fr (su rfl hc) (su rfl hr) ?_
    exact hu1

theorem cmdOverlayStartDone_fr {c r : Nat} {s0 : State} {p0} (hc : c ||| 2098176 = c) (hr : r ||| 288230376151711744 = r) (h0 : Fr0 c r s0 p0) :
    Fr0 c r s0 (cmdOverlayStartDone p0) := by
  unfold cmdOverlayStartDone
  refine fr0_ite (fun _ => ?_) (fun _ => ?_)
  ·
    exact h0
  ·
    extract_lets +onlyGivenNames -merge -useContext -underBinder x0
    have hx1 : Fr0 c r s0 x0 := by
      refine fr_hbm (su rfl hc) ?_
      exact h0
    try clear_value x0
    refine State.put_fr (su rfl hc) (su rfl hr) ?_ ?_
    ·
      refine State.modRasp_fr (su rfl hc) (su rfl hr) ?_
      exact hx1
    ·
      exact O.overlayState_ok (su rfl hr)

theorem execOverlayStartDone_fr {c r : Nat} {s0 t : State} {p0} (hc : c ||| 2098176 = c) (hr : r ||| 288230376151711744 = r) (h0 : Fr0 c r s0 p0) (ht : execOverlayStartDone p0 = .next t) :
    Fr0 c r s0 t := by
  unfold execOverlayStartDone at ht
  injection ht with ht
  subst ht
  refine State.ifLive_fr (su rfl hc) (su rfl hr) ?_ ?_
  ·
    exact h0
  ·
    intro u0 hu1
    refine cmdOverlayStartDone_fr (su rfl hc) (su rfl hr) ?_
    exact hu1

theorem cmdOverlayStopDone_fr {c r : Nat} {s0 : State} {p0} (hc : c ||| 2114304 = c) (hr : r ||| 288230376151711744 = r) (h0 : Fr0 c r s0 p0) :
    Fr0 c r s0 (cmdOverlayStopDone p0) := by
  unfold cmdOverlayStopDone
  refine fr0_ite (fun _ => ?_) (fun _ => ?_)
  ·
    exact h0
  ·
    extract_lets +onlyGivenNames -merge -useContext -underBinder x0
    have hx1 : Fr0 c r s0 x0 := by
      refine State.markResident_fr (su rfl hc) (su rfl hr) ?_
      refine State.modRasp_fr (su rfl hc) (su rfl hr) ?_
      exact h0
    try clear_value x0
    extract_lets +onlyGivenNames -merge -useContext -underBinder x2
    try clear_value x2
    extract_lets +onlyGivenNames -merge -useContext -underBinder x3
    have hx4 : Fr0 c r s0 x3 := by
      refine State.put_fr (su rfl hc) (su rfl hr) ?_ ?_
      ·
        exact hx1
      ·
        exact O.overlayState_ok (su rfl hr)
    try clear_value x3
    extract_lets +onlyGivenNames -merge -useContext -underBinder x5
    have hx6 : Fr0 c r s0 x5 := by
      refine fr_held (su rfl hc) ?_
      exact hx4
    try clear_value x5
    refine fr0_ite (fun _ => ?_) (fun _ => ?_)
    ·
      refine State.overlayStarting_fr (su rfl hc) (su rfl hr) ?_
      exact hx6
    ·
      refine State.gateIsl_fr (su rfl hc) (su rfl hr) ?_
      exact hx6

theorem execOverlayStopDone_fr {c r : Nat} {s0 t : State} {p0} (hc : c ||| 2114304 = c) (hr : r ||| 288230376151711744 = r) (h0 : Fr0 c r s0 p0) (ht : execOverlayStopDone p0 = .next t) :
    Fr0 c r s0 t := by
  unfold execOverlayStopDone at ht
  injection ht with ht
  subst ht
  refine State.ifLive_fr (su rfl hc) (su rfl hr) ?_ ?_
  ·
    exact h0
  ·
    intro u0 hu1
    refine cmdOverlayStopDone_fr (su rfl hc) (su rfl hr) ?_
    exact hu1

theorem cmdPadding_fr {c r : Nat} {s0 : State} {p0} (hc : c ||| 20992 = c) (hr : r ||| 567907468902246771870523036073472 = r) (h0 : Fr0 c r s0 p0) :
    Fr0 c r s0 (cmdPadding p0) := by
  unfold cmdPadding
  refine State.withSection_fr (su rfl hc) (su rfl hr) ?_ ?_
  ·
    exact h0
  ·
    intro u0 u2 hu1
    refine State.settleRelief_fr (su rfl hc) (su rfl hr) ?_
    refine State.acceptSection_fr (su rfl hc) (su rfl hr) ?_
    exact hu1

theorem execPaddingSection_fr {c r : Nat} {s0 t : State} {p0} (hc : c ||| 20992 = c) (hr : r ||| 567907468902246771870523036073472 = r) (h0 : Fr0 c r s0 p0) (ht : execPaddingSection p0 = .next t) :
    Fr0 c r s0 t := by
  unfold execPaddingSection at ht
  injection ht with ht
  subst ht
  refine State.ifLive_fr (su rfl hc) (su rfl hr) ?_ ?_
  ·
    exact h0
  ·
    intro u0 hu1
    refine cmdPadding_fr (su rfl hc) (su rfl hr) ?_
    exact hu1

theorem State.laneFails_fr {c r : Nat} {s0 : State} {p0} {p1} {p2} (hc : c ||| 17180393472 = c) (hr : r ||| 51422017416287688817342786954917203280719940534015110020071424 = r) (h0 : Fr0 c r s0 p0) :
    Fr0 c r s0 (State.laneFails p0 p1 p2) := by
  unfold State.laneFails
  split
  ·
    extract_lets +onlyGivenNames -merge -useContext -underBinder x0
    extract_lets +onlyGivenNames -merge -useContext -underBinder x1
    have hx2 : Fr0 c r s0 x1 := by
      refine State.bump_fr (su rfl hc) (su rfl hr) ?_ ?_
      ·
        refine State.sendControl_fr (su rfl hc) (su rfl hr) ?_
        exact h0
      ·
        exact O.linkSpareSwitchCount_ok (su rfl hr)
    try clear_value x1
    extract_lets +onlyGivenNames -merge -useContext -underBinder x3
    have hx4 : Fr0 c r s0 x3 := by
      refine State.modSlot_fr (su rfl hc) (su rfl hr) ?_
      refine State.setLaneState_fr (su rfl hc) (su rfl hr) ?_
      exact hx2
    try clear_value x3
    refine State.sweepLane_fr (su rfl hc) (su rfl hr) ?_
    exact hx4
  ·
    refine State.sweepLane_fr (su rfl hc) (su rfl hr) ?_
    refine State.modSlot_fr (su rfl hc) (su rfl hr) ?_
    exact h0
  ·
    refine State.sweepLane_fr (su rfl hc) (su rfl hr) ?_
    exact h0

theorem State.attention_fr {c r : Nat} {s0 : State} {p0} {p1} {p2} (hc : c ||| 31140134912 = c) (hr : r ||| 51422017416474761026921142528447274939614550335340733464051712 = r) (h0 : Fr0 c r s0 p0) :
    Fr0 c r s0 (State.attention p0 p1 p2) := by
  unfold State.attention
  refine fr0_ite (fun _ => ?_) (fun _ => ?_)
  ·
    exact h0
  ·
    refine fr0_ite (fun _ => ?_) (fun _ => ?_)
    ·
      refine State.sidebandFailed_fr (su rfl hc) (su rfl hr) ?_
      refine State.sideRead_fr (su rfl hc) (su rfl hr) ?_
      exact h0
    ·
      extract_lets +onlyGivenNames -merge -useContext -underBinder x0
      have hx1 : Fr0 c r s0 x0 := by
        refine State.sidebandOk_fr (su rfl hc) (su rfl hr) ?_
        refine State.sideRead_fr (su rfl hc) (su rfl hr) ?_
        exact h0
      try clear_value x0
      extract_lets +onlyGivenNames -merge -useContext -underBinder x2
      have hx3 : Fr0 c r s0 x2 := by
        refine fr0_ite (fun _ => ?_) (fun _ => ?_)
        ·
          refine fr0_foldl (fun ha4s _ ha4 => ?_) ?_
          ·
            refine State.laneFails_fr (su rfl hc) (su rfl hr) ?_
            exact ha4
          ·
            exact hx1
        ·
          exact hx1
      try clear_value x2
      refine State.sideWrite_fr (su rfl hc) (su rfl hr) ?_
      exact hx3

theorem cmdPartnerAttention_fr {c r : Nat} {s0 : State} {p0} {p1} {p2} {p3} (hc : c ||| 31140134912 = c) (hr : r ||| 51422017416474761026921142528447274939614550335340733464051712 = r) (h0 : Fr0 c r s0 p0) :
    Fr0 c r s0 (cmdPartnerAttention p0 p1 p2 p3) := by
  unfold cmdPartnerAttention
  refine State.attention_fr (su rfl hc) (su rfl hr) ?_
  refine State.attention_fr (su rfl hc) (su rfl hr) ?_
  exact h0

theorem execPartnerAttention_fr {c r : Nat} {s0 t : State} {p0} {p1} {p2} {p3} (hc : c ||| 31140134912 = c) (hr : r ||| 51422017416474761026921142528447274939614550335340733464051712 = r) (h3 : Fr0 c r s0 p3) (ht : execPartnerAttention p0 p1 p2 p3 = .next t) :
    Fr0 c r s0 t := by
  unfold execPartnerAttention at ht
  injection ht with ht
  subst ht
  refine State.ifLive_fr (su rfl hc) (su rfl hr) ?_ ?_
  ·
    exact h3
  ·
    intro u0 hu1
    refine cmdPartnerAttention_fr (su rfl hc) (su rfl hr) ?_
    exact hu1

theorem cmdPartnerRemoved_fr {c r : Nat} {s0 : State} {p0} {p1} (hc : c ||| 31140102152 = c) (hr : r ||| 102844034928543421148381983130761167416917130012998157298827264 = r) (h0 : Fr0 c r s0 p0) :
    Fr0 c r s0 (cmdPartnerRemoved p0 p1) := by
  unfold cmdPartnerRemoved
  split
  ·
    exact h0
  ·
    refine fr0_ite (fun _ => ?_) (fun _ => ?_)
    ·
      exact h0
    ·
      extract_lets +onlyGivenNames -merge -useContext -underBinder x0
      have hx1 : Fr0 c r s0 x0 := by
        refine State.elapseTo_fr (su rfl hc) (su rfl hr) ?_
        exact h0
      try clear_value x0
      extract_lets +onlyGivenNames -merge -useContext -underBinder x2
      have hx3 : Fr0 c r s0 x2 := by
        refine State.setAllLanes_fr (su rfl hc) (su rfl hr) ?_
        refine State.emit_fr (su rfl hc) (su rfl hr) ?_
        exact hx1
      try clear_value x2
      extract_lets +onlyGivenNames -merge -useContext -underBinder x4
      have hx5 : Fr0 c r s0 x4 := by
        refine fr0_foldl (fun ha6s _ ha6 => ?_) ?_
        ·
          refine State.put_fr (su rfl hc) (su rfl hr) ?_ ?_
          ·
            exact ha6
          ·
            exact O.linkLaneSetting_ok (su rfl hr)
        ·
          exact hx3
      try clear_value x4
      extract_lets +onlyGivenNames -merge -useContext -underBinder x7
      have hx8 : Fr0 c r s0 x7 := by
        refine State.putO_fr (su rfl hc) (su rfl hr) ?_ ?_
        ·
          refine State.setSlotState_fr (su rfl hc) (su rfl hr) ?_
          refine State.modSlot_fr (su rfl hc) (su rfl hr) ?_
          exact hx5
        ·
          exact O.partnerTelemetry_ok (su rfl hr)
      try clear_value x7
      refine State.settle_fr (su rfl hc) (su rfl hr) ?_
      refine State.settle_fr (su rfl hc) (su rfl hr) ?_
      refine State.linkNote_fr (su rfl hc) (su rfl hr) ?_
      exact hx8

theorem execPartnerRemoved_fr {c r : Nat} {s0 t : State} {p0} {p1} (hc : c ||| 31140102152 = c) (hr : r ||| 102844034928543421148381983130761167416917130012998157298827264 = r) (h1 : Fr0 c r s0 p1) (ht : execPartnerRemoved p0 p1 = .next t) :
    Fr0 c r s0 t := by
  unfold execPartnerRemoved at ht
  injection ht with ht
  subst ht
  refine State.ifLive_fr (su rfl hc) (su rfl hr) ?_ ?_
  ·
    exact h1
  ·
    intro u0 hu1
    refine cmdPartnerRemoved_fr (su rfl hc) (su rfl hr) ?_
    exact hu1

theorem execPatinaStore_fr {c r : Nat} {s0 t : State} {p0} {p1} (hc : c ||| 103028671480 = c) (hr : r ||| 10141204801825835211972283334656 = r) (h1 : Fr0 c r s0 p1) (ht : execPatinaStore p0 p1 = .next t) :
    Fr0 c r s0 t := by
  unfold execPatinaStore at ht
  injection ht with ht
  subst ht
  refine State.ifLive_fr (su rfl hc) (su rfl hr) ?_ ?_
  ·
    exact h1
  ·
    intro u0 hu1
    refine rowWrite_fr (su rfl hc) (su rfl hr) ?_
    exact hu1

theorem cmdPatinaStoreBegin_fr {c r : Nat} {s0 : State} {p0} (hc : c ||| 201326592 = c) (hr : r ||| 38685626227668133590597632 = r) (h0 : Fr0 c r s0 p0) :
    Fr0 c r s0 (cmdPatinaStoreBegin p0) := by
  unfold cmdPatinaStoreBegin
  refine fr0_ite (fun _ => ?_) (fun _ => ?_)
  ·
    exact h0
  ·
    extract_lets +onlyGivenNames -merge -useContext -underBinder x0
    extract_lets +onlyGivenNames -merge -useContext -underBinder x1
    have hx2 : Fr0 c r s0 x1 := by
      refine State.modNor_fr (su rfl hc) (su rfl hr) ?_
      exact h0
    try clear_value x1
    refine State.modAtl_fr (su rfl hc) (su rfl hr) ?_
    refine State.put_fr (su rfl hc) (su rfl hr) ?_ ?_
    ·
      exact hx2
    ·
      exact O.patinaStoreState_ok (su rfl hr)

theorem execPatinaStoreBegin_fr {c r : Nat} {s0 t : State} {p0} (hc : c ||| 201326592 = c) (hr : r ||| 38685626227668133590597632 = r) (h0 : Fr0 c r s0 p0) (ht : execPatinaStoreBegin p0 = .next t) :
    Fr0 c r s0 t := by
  unfold execPatinaStoreBegin at ht
  injection ht with ht
  subst ht
  refine State.ifLive_fr (su rfl hc) (su rfl hr) ?_ ?_
  ·
    exact h0
  ·
    intro u0 hu1
    refine cmdPatinaStoreBegin_fr (su rfl hc) (su rfl hr) ?_
    exact hu1

theorem cmdPatinaStoreDone_fr {c r : Nat} {s0 : State} {p0} {p1} (hc : c ||| 31340937216 = c) (hr : r ||| 87112285931760285336944247076673037533184 = r) (h0 : Fr0 c r s0 p0) :
    Fr0 c r s0 (cmdPatinaStoreDone p0 p1) := by
  unfold cmdPatinaStoreDone
  refine fr0_ite (fun _ => ?_) (fun _ => ?_)
  ·
    exact h0
  ·
    refine fr0_ite (fun _ => ?_) (fun _ => ?_)
    ·
      refine fr0_ite (fun _ => ?_) (fun _ => ?_)
      ·
        refine State.modAtl_fr (su rfl hc) (su rfl hr) ?_
        exact h0
      ·
        refine State.post_fr (su rfl hc) (su rfl hr) ?_
        refine State.put_fr (su rfl hc) (su rfl hr) ?_ ?_
        ·
          exact h0
        ·
          exact O.patinaStoreState_ok (su rfl hr)
    ·
      extract_lets +onlyGivenNames -merge -useContext -underBinder x0
      try clear_value x0
      extract_lets +onlyGivenNames -merge -useContext -underBinder x1
      extract_lets +onlyGivenNames -merge -useContext -underBinder x2
      have hx3 : Fr0 c r s0 x2 := by
        refine State.modNor_fr (su rfl hc) (su rfl hr) ?_
        exact h0
      try clear_value x2
      extract_lets +onlyGivenNames -merge -useContext -underBinder x4
      try clear_value x4
      extract_lets +onlyGivenNames -merge -useContext -underBinder x5
      try clear_value x5
      extract_lets +onlyGivenNames -merge -useContext -underBinder x6
      have hx7 : Fr0 c r s0 x6 := by
        refine fr_cal (su rfl hc) ?_
        exact hx3
      try clear_value x6
      refine State.refreshCal_fr (su rfl hc) (su rfl hr) ?_
      refine State.settle_fr (su rfl hc) (su rfl hr) ?_
      refine State.put_fr (su rfl hc) (su rfl hr) ?_ ?_
      ·
        refine State.put_fr (su rfl hc) (su rfl hr) ?_ ?_
        ·
          exact hx7
        ·
          exact O.patinaStoreState_ok (su rfl hr)
      ·
        exact O.patinaGeneration_ok (su rfl hr)

theorem execPatinaStoreDone_fr {c r : Nat} {s0 t : State} {p0} {p1} (hc : c ||| 31340937216 = c) (hr : r ||| 87112285931760285336944247076673037533184 = r) (h1 : Fr0 c r s0 p1) (ht : execPatinaStoreDone p0 p1 = .next t) :
    Fr0 c r s0 t := by
  unfold execPatinaStoreDone at ht
  injection ht with ht
  subst ht
  refine State.ifLive_fr (su rfl hc) (su rfl hr) ?_ ?_
  ·
    exact h1
  ·
    intro u0 hu1
    refine cmdPatinaStoreDone_fr (su rfl hc) (su rfl hr) ?_
    exact hu1

theorem cmdPcieLinkLoss_fr {c r : Nat} {s0 : State} {p0} {p1} (hc : c ||| 31676449280 = c) (hr : r ||| 311537811513284379538507652580507652 = r) (h0 : Fr0 c r s0 p0) :
    Fr0 c r s0 (cmdPcieLinkLoss p0 p1) := by
  unfold cmdPcieLinkLoss
  split
  ·
    refine State.declareSilence_fr (su rfl hc) (su rfl hr) ?_
    refine State.put_fr (su rfl hc) (su rfl hr) ?_ ?_
    ·
      refine State.put_fr (su rfl hc) (su rfl hr) ?_ ?_
      ·
        refine State.modHif_fr (su rfl hc) (su rfl hr) ?_
        exact h0
      ·
        exact O.pcieLinkSpeed_ok (su rfl hr)
    ·
      exact O.pcieLinkWidth_ok (su rfl hr)
  ·
    refine State.declareSilence_fr (su rfl hc) (su rfl hr) ?_
    refine State.modHif_fr (su rfl hc) (su rfl hr) ?_
    exact h0

theorem execPcieLinkLoss_fr {c r : Nat} {s0 t : State} {p0} {p1} (hc : c ||| 31676449280 = c) (hr : r ||| 311537811513284379538507652580507652 = r) (h1 : Fr0 c r s0 p1) (ht : execPcieLinkLoss p0 p1 = .next t) :
    Fr0 c r s0 t := by
  unfold execPcieLinkLoss at ht
  injection ht with ht
  subst ht
  refine State.ifLive_fr (su rfl hc) (su rfl hr) ?_ ?_
  ·
    exact h1
  ·
    intro u0 hu1
    refine cmdPcieLinkLoss_fr (su rfl hc) (su rfl hr) ?_
    exact hu1

theorem cmdPcieLinkUp_fr {c r : Nat} {s0 : State} {p0} (hc : c ||| 69793218560 = c) (hr : r ||| 62307562302417931542365955950641152 = r) (h0 : Fr0 c r s0 p0) :
    Fr0 c r s0 (cmdPcieLinkUp p0) := by
  unfold cmdPcieLinkUp
  extract_lets +onlyGivenNames -merge -useContext -underBinder x0
  refine State.drawFree_fr (su rfl hc) (su rfl hr) ?_
  refine State.put_fr (su rfl hc) (su rfl hr) ?_ ?_
  ·
    refine State.put_fr (su rfl hc) (su rfl hr) ?_ ?_
    ·
      refine State.modHif_fr (su rfl hc) (su rfl hr) ?_
      exact h0
    ·
      exact O.pcieLinkSpeed_ok (su rfl hr)
  ·
    exact O.pcieLinkWidth_ok (su rfl hr)

theorem execPcieLinkUp_fr {c r : Nat} {s0 t : State} {p0} (hc : c ||| 69793218560 = c) (hr : r ||| 62307562302417931542365955950641152 = r) (h0 : Fr0 c r s0 p0) (ht : execPcieLinkUp p0 = .next t) :
    Fr0 c r s0 t := by
  unfold execPcieLinkUp at ht
  injection ht with ht
  subst ht
  refine State.ifLive_fr (su rfl hc) (su rfl hr) ?_ ?_
  ·
    exact h0
  ·
    intro u0 hu1
    refine cmdPcieLinkUp_fr (su rfl hc) (su rfl hr) ?_
    exact hu1

theorem execPcieReset_fr {c r : Nat} {s0 t : State} {p0} {p1} (hc : c ||| 31676449280 = c) (hr : r ||| 311537811513284379538507652580507652 = r) (h1 : Fr0 c r s0 p1) (ht : execPcieReset p0 p1 = .next t) :
    Fr0 c r s0 t := by
  unfold execPcieReset at ht
  injection ht with ht
  subst ht
  refine State.ifLive_fr (su rfl hc) (su rfl hr) ?_ ?_
  ·
    exact h1
  ·
    intro u0 hu1
    refine cmdPcieReset_fr (su rfl hc) (su rfl hr) ?_
    exact hu1

theorem cmdPdelayReqRx_fr {c r : Nat} {s0 : State} {p0} {p1} {p2} (hc : c ||| 22556966920 = c) (hr : r ||| 23384026197294446696329559724373445920481740849152 = r) (h0 : Fr0 c r s0 p0) :
    Fr0 c r s0 (cmdPdelayReqRx p0 p1 p2) := by
  unfold cmdPdelayReqRx
  refine fr0_ite (fun _ => ?_) (fun _ => ?_)
  ·
    exact h0
  ·
    refine State.sendPtp_fr (su rfl hc) (su rfl hr) ?_
    refine State.sendPtp_fr (su rfl hc) (su rfl hr) ?_
    refine State.reach_fr (su rfl hc) (su rfl hr) ?_
    exact h0

theorem execPdelayReqRx_fr {c r : Nat} {s0 t : State} {p0} {p1} {p2} (hc : c ||| 22556966920 = c) (hr : r ||| 23384026197294446696329559724373445920481740849152 = r) (h2 : Fr0 c r s0 p2) (ht : execPdelayReqRx p0 p1 p2 = .next t) :
    Fr0 c r s0 t := by
  unfold execPdelayReqRx at ht
  injection ht with ht
  subst ht
  refine State.ifLive_fr (su rfl hc) (su rfl hr) ?_ ?_
  ·
    exact h2
  ·
    intro u0 hu1
    refine cmdPdelayReqRx_fr (su rfl hc) (su rfl hr) ?_
    exact hu1

theorem cmdPfailFall_fr {c r : Nat} {s0 : State} {p0} (hc : c ||| 262144 = c) (hr : r ||| 0 = r) (h0 : Fr0 c r s0 p0) :
    Fr0 c r s0 (cmdPfailFall p0) := by
  unfold cmdPfailFall
  refine fr0_ite (fun _ => ?_) (fun _ => ?_)
  ·
    exact h0
  ·
    refine State.modPwr_fr (su rfl hc) (su rfl hr) ?_
    exact h0

theorem execPfailFall_fr {c r : Nat} {s0 t : State} {p0} (hc : c ||| 262144 = c) (hr : r ||| 0 = r) (h0 : Fr0 c r s0 p0) (ht : execPfailFall p0 = .next t) :
    Fr0 c r s0 t := by
  unfold execPfailFall at ht
  injection ht with ht
  subst ht
  refine cmdPfailFall_fr (su rfl hc) (su rfl hr) ?_
  exact h0

theorem cmdPfailRise_fr {c r : Nat} {s0 : State} {p0} (hc : c ||| 262144 = c) (hr : r ||| 0 = r) (h0 : Fr0 c r s0 p0) :
    Fr0 c r s0 (cmdPfailRise p0) := by
  unfold cmdPfailRise
  refine fr0_ite (fun _ => ?_) (fun _ => ?_)
  ·
    exact h0
  ·
    refine State.modPwr_fr (su rfl hc) (su rfl hr) ?_
    exact h0

theorem execPfailRise_fr {c r : Nat} {s0 t : State} {p0} (hc : c ||| 262144 = c) (hr : r ||| 0 = r) (h0 : Fr0 c r s0 p0) (ht : execPfailRise p0 = .next t) :
    Fr0 c r s0 t := by
  unfold execPfailRise at ht
  injection ht with ht
  subst ht
  refine cmdPfailRise_fr (su rfl hc) (su rfl hr) ?_
  exact h0

theorem cmdPgPanelFall_fr {c r : Nat} {s0 : State} {p0} {p1} (hc : c ||| 262144 = c) (hr : r ||| 89202980794122492566142873090593446023921664 = r) (h0 : Fr0 c r s0 p0) :
    Fr0 c r s0 (cmdPgPanelFall p0 p1) := by
  unfold cmdPgPanelFall
  extract_lets +onlyGivenNames -merge -useContext -underBinder x0
  extract_lets +onlyGivenNames -merge -useContext -underBinder x1
  have hx2 : Fr0 c r s0 x1 := by
    refine State.modPwr_fr (su rfl hc) (su rfl hr) ?_
    refine State.put_fr (su rfl hc) (su rfl hr) ?_ ?_
    ·
      exact h0
    ·
      exact O.railPgStatus_ok (su rfl hr)
  try clear_value x1
  split
  ·
    refine fr0_ite (fun _ => ?_) (fun _ => ?_)
    ·
      refine State.phase_fr (su rfl hc) (su rfl hr) ?_
      exact hx2
    ·
      exact hx2
  ·
    exact hx2

theorem execPgPanelFall_fr {c r : Nat} {s0 t : State} {p0} {p1} (hc : c ||| 262144 = c) (hr : r ||| 89202980794122492566142873090593446023921664 = r) (h1 : Fr0 c r s0 p1) (ht : execPgPanelFall p0 p1 = .next t) :
    Fr0 c r s0 t := by
  unfold execPgPanelFall at ht
  injection ht with ht
  subst ht
  refine State.ifLive_fr (su rfl hc) (su rfl hr) ?_ ?_
  ·
    exact h1
  ·
    intro u0 hu1
    refine cmdPgPanelFall_fr (su rfl hc) (su rfl hr) ?_
    exact hu1

theorem execPlinthCancel_fr {c r : Nat} {s0 t : State} {p0} {p1} (hc : c ||| 103028671480 = c) (hr : r ||| 10141204801825835211972283334656 = r) (h1 : Fr0 c r s0 p1) (ht : execPlinthCancel p0 p1 = .next t) :
    Fr0 c r s0 t := by
  unfold execPlinthCancel at ht
  injection ht with ht
  subst ht
  refine State.ifLive_fr (su rfl hc) (su rfl hr) ?_ ?_
  ·
    exact h1
  ·
    intro u0 hu1
    refine rowWrite_fr (su rfl hc) (su rfl hr) ?_
    exact hu1

theorem execPlinthConfirm_fr {c r : Nat} {s0 t : State} {p0} {p1} {p2} (hc : c ||| 103028671480 = c) (hr : r ||| 10141204801825835211972283334656 = r) (h2 : Fr0 c r s0 p2) (ht : execPlinthConfirm p0 p1 p2 = .next t) :
    Fr0 c r s0 t := by
  unfold execPlinthConfirm at ht
  injection ht with ht
  subst ht
  refine State.ifLive_fr (su rfl hc) (su rfl hr) ?_ ?_
  ·
    exact h2
  ·
    intro u0 hu1
    refine rowWrite_fr (su rfl hc) (su rfl hr) ?_
    exact hu1

theorem execPlinthStage_fr {c r : Nat} {s0 t : State} {p0} {p1} {p2} (hc : c ||| 103028671480 = c) (hr : r ||| 10141204801825835211972283334656 = r) (h2 : Fr0 c r s0 p2) (ht : execPlinthStage p0 p1 p2 = .next t) :
    Fr0 c r s0 t := by
  unfold execPlinthStage at ht
  injection ht with ht
  subst ht
  refine State.ifLive_fr (su rfl hc) (su rfl hr) ?_ ?_
  ·
    exact h2
  ·
    intro u0 hu1
    refine rowWrite_fr (su rfl hc) (su rfl hr) ?_
    exact hu1

theorem cmdPlnWdKick_fr {c r : Nat} {s0 : State} {p0} {p1} (hc : c ||| 102484689072 = c) (hr : r ||| 632626352617984892346950221824 = r) (h0 : Fr0 c r s0 p0) :
    Fr0 c r s0 (cmdPlnWdKick p0 p1) := by
  unfold cmdPlnWdKick
  refine fr0_ite (fun _ => ?_) (fun _ => ?_)
  ·
    exact h0
  ·
    refine fr0_ite (fun _ => ?_) (fun _ => ?_)
    ·
      refine State.drawFree_fr (su rfl hc) (su rfl hr) ?_
      refine State.modPln_fr (su rfl hc) (su rfl hr) ?_
      exact h0
    ·
      refine watchdogExpires_fr (su rfl hc) (su rfl hr) ?_
      exact h0

theorem execPlnWdKick_fr {c r : Nat} {s0 t : State} {p0} {p1} (hc : c ||| 102484689072 = c) (hr : r ||| 632626352617984892346950221824 = r) (h1 : Fr0 c r s0 p1) (ht : execPlnWdKick p0 p1 = .next t) :
    Fr0 c r s0 t := by
  unfold execPlnWdKick at ht
  injection ht with ht
  subst ht
  refine State.ifLive_fr (su rfl hc) (su rfl hr) ?_ ?_
  ·
    exact h1
  ·
    intro u0 hu1
    refine cmdPlnWdKick_fr (su rfl hc) (su rfl hr) ?_
    exact hu1

theorem cmdPortLinkChange_fr {c r : Nat} {s0 : State} {p0} {p1} {p2} (hc : c ||| 22556966912 = c) (hr : r ||| 5070602400912953634783839125504 = r) (h0 : Fr0 c r s0 p0) :
    Fr0 c r s0 (cmdPortLinkChange p0 p1 p2) := by
  unfold cmdPortLinkChange
  refine fr0_ite (fun _ => ?_) (fun _ => ?_)
  ·
    exact h0
  ·
    extract_lets +onlyGivenNames -merge -useContext -underBinder x0
    extract_lets +onlyGivenNames -merge -useContext -underBinder x1
    have hx2 : Fr0 c r s0 x1 := by
      refine State.put_fr (su rfl hc) (su rfl hr) ?_ ?_
      ·
        exact h0
      ·
        exact O.portLink_ok (su rfl hr)
    try clear_value x1
    refine fr0_ite (fun _ => ?_) (fun _ => ?_)
    ·
      refine State.seekLease_fr (su rfl hc) (su rfl hr) ?_
      refine State.joinGroups_fr (su rfl hc) (su rfl hr) ?_
      refine State.probeAddrs_fr (su rfl hc) (su rfl hr) ?_
      refine State.netNote_fr (su rfl hc) (su rfl hr) ?_
      refine State.modNet_fr (su rfl hc) (su rfl hr) ?_
      exact hx2
    ·
      refine fr0_ite (fun _ => ?_) (fun _ => ?_)
      ·
        refine State.netNote_fr (su rfl hc) (su rfl hr) ?_
        exact hx2
      ·
        exact hx2

theorem execPortLinkChange_fr {c r : Nat} {s0 t : State} {p0} {p1} {p2} (hc : c ||| 22556966912 = c) (hr : r ||| 5070602400912953634783839125504 = r) (h2 : Fr0 c r s0 p2) (ht : execPortLinkChange p0 p1 p2 = .next t) :
    Fr0 c r s0 t := by
  unfold execPortLinkChange at ht
  injection ht with ht
  subst ht
  refine State.ifLive_fr (su rfl hc) (su rfl hr) ?_ ?_
  ·
    exact h2
  ·
    intro u0 hu1
    refine cmdPortLinkChange_fr (su rfl hc) (su rfl hr) ?_
    exact hu1

theorem cmdPortStartDone_fr {c r : Nat} {s0 : State} {p0} {p1} (hc : c ||| 512 = c) (hr : r ||| 18014398509481984 = r) (h0 : Fr0 c r s0 p0) :
    Fr0 c r s0 (cmdPortStartDone p0 p1) := by
  unfold cmdPortStartDone
  refine fr0_ite (fun _ => ?_) (fun _ => ?_)
  ·
    exact h0
  ·
    refine fr0_ite (fun _ => ?_) (fun _ => ?_)
    ·
      exact h0
    ·
      refine State.regateStream_fr (su rfl hc) (su rfl hr) ?_
      refine State.put_fr (su rfl hc) (su rfl hr) ?_ ?_
      ·
        exact h0
      ·
        exact O.portState_ok (su rfl hr)

theorem execPortStartDone_fr {c r : Nat} {s0 t : State} {p0} {p1} (hc : c ||| 512 = c) (hr : r ||| 18014398509481984 = r) (h1 : Fr0 c r s0 p1) (ht : execPortStartDone p0 p1 = .next t) :
    Fr0 c r s0 t := by
  unfold execPortStartDone at ht
  injection ht with ht
  subst ht
  refine State.ifLive_fr (su rfl hc) (su rfl hr) ?_ ?_
  ·
    exact h1
  ·
    intro u0 hu1
    refine cmdPortStartDone_fr (su rfl hc) (su rfl hr) ?_
    exact hu1

theorem cmdPortStopDone_fr {c r : Nat} {s0 : State} {p0} {p1} (hc : c ||| 31150883592 = c) (hr : r ||| 9444730713939484213248 = r) (h0 : Fr0 c r s0 p0) :
    Fr0 c r s0 (cmdPortStopDone p0 p1) := by
  unfold cmdPortStopDone
  refine fr0_ite (fun _ => ?_) (fun _ => ?_)
  ·
    exact h0
  ·
    refine State.regateStream_fr (su rfl hc) (su rfl hr) ?_
    refine State.fnStopped_fr (su rfl hc) (su rfl hr) ?_ ?_
    ·
      refine State.closePort_fr (su rfl hc) (su rfl hr) ?_
      exact h0
    ·
      intro u0 hu1
      refine fr0_ite (fun _ => ?_) (fun _ => ?_)
      ·
        exact hu1
      ·
        refine State.gateIsl_fr (su rfl hc) (su rfl hr) ?_
        exact hu1

theorem execPortStopDone_fr {c r : Nat} {s0 t : State} {p0} {p1} (hc : c ||| 31150883592 = c) (hr : r ||| 9444730713939484213248 = r) (h1 : Fr0 c r s0 p1) (ht : execPortStopDone p0 p1 = .next t) :
    Fr0 c r s0 t := by
  unfold execPortStopDone at ht
  injection ht with ht
  subst ht
  refine State.ifLive_fr (su rfl hc) (su rfl hr) ?_ ?_
  ·
    exact h1
  ·
    intro u0 hu1
    refine cmdPortStopDone_fr (su rfl hc) (su rfl hr) ?_
    exact hu1

theorem cmdPowerLoss_fr {c r : Nat} {s0 : State} {p0} (hc : c ||| 85899345902 = c) (hr : r ||| 89202980794122492566142873090593583462875136 = r) (h0 : Fr0 c r s0 p0) :
    Fr0 c r s0 (cmdPowerLoss p0) := by
  unfold cmdPowerLoss
  extract_lets +onlyGivenNames -merge -useContext -underBinder x0
  have hx1 : Fr0 c r s0 x0 := by
    refine fr0_ite (fun _ => ?_) (fun _ => ?_)
    ·
      refine tearNor_fr (su rfl hc) (su rfl hr) ?_
      exact h0
    ·
      exact h0
  try clear_value x0
  extract_lets +onlyGivenNames -merge -useContext -underBinder x2
  unfold x2; clear x2
  extract_lets +onlyGivenNames -merge -useContext -underBinder x3
  try clear_value x3
  refine State.putV_fr (su rfl hc) (su rfl hr) ?_ ?_
  ·
    refine fr_wipe (u := x0) (fun k hk => by cases k <;> first | rfl | exact bitx hc (by decide) hk) (su rfl hr) ?_
    exact hx1
  ·
    exact O.railPgStatus_ok (su rfl hr)

theorem execPowerLoss_fr {c r : Nat} {s0 t : State} {p0} (hc : c ||| 85899345902 = c) (hr : r ||| 89202980794122492566142873090593583462875136 = r) (h0 : Fr0 c r s0 p0) (ht : execPowerLoss p0 = .next t) :
    Fr0 c r s0 t := by
  unfold execPowerLoss at ht
  injection ht with ht
  subst ht
  refine cmdPowerLoss_fr (su rfl hc) (su rfl hr) ?_
  exact h0

theorem cmdPreCostingDone_fr {c r : Nat} {s0 : State} {p0} (hc : c ||| 18253640192 = c) (hr : r ||| 65535 = r) (h0 : Fr0 c r s0 p0) :
    Fr0 c r s0 (cmdPreCostingDone p0) := by
  unfold cmdPreCostingDone
  split
  ·
    refine fr0_ite (fun _ => ?_) (fun _ => ?_)
    ·
      refine State.refuseFrame_fr (su rfl hc) (su rfl hr) ?_
      refine State.dropHead_fr (su rfl hc) (su rfl hr) ?_
      exact h0
    ·
      refine State.modAdm_fr (su rfl hc) (su rfl hr) ?_
      exact h0
  ·
    exact h0

theorem execPreCostingDone_fr {c r : Nat} {s0 t : State} {p0} (hc : c ||| 18253640192 = c) (hr : r ||| 65535 = r) (h0 : Fr0 c r s0 p0) (ht : execPreCostingDone p0 = .next t) :
    Fr0 c r s0 t := by
  unfold execPreCostingDone at ht
  injection ht with ht
  subst ht
  refine State.ifLive_fr (su rfl hc) (su rfl hr) ?_ ?_
  ·
    exact h0
  ·
    intro u0 hu1
    refine cmdPreCostingDone_fr (su rfl hc) (su rfl hr) ?_
    exact hu1

theorem cmdPresenceConfirmed_fr {c r : Nat} {s0 : State} {p0} {p1} (hc : c ||| 524296 = c) (hr : r ||| 2251799813685248 = r) (h0 : Fr0 c r s0 p0) :
    Fr0 c r s0 (cmdPresenceConfirmed p0 p1) := by
  unfold cmdPresenceConfirmed
  extract_lets +onlyGivenNames -merge -useContext -underBinder x0
  try clear_value x0
  refine fr0_ite (fun _ => ?_) (fun _ => ?_)
  ·
    exact h0
  ·
    extract_lets +onlyGivenNames -merge -useContext -underBinder x1
    have hx2 : Fr0 c r s0 x1 := by
      refine State.elapseTo_fr (su rfl hc) (su rfl hr) ?_
      exact h0
    try clear_value x1
    refine fr0_ite (fun _ => ?_) (fun _ => ?_)
    ·
      refine State.startDiscovery_fr (su rfl hc) (su rfl hr) ?_
      exact hx2
    ·
      refine State.modSlot_fr (su rfl hc) (su rfl hr) ?_
      refine State.setSlotState_fr (su rfl hc) (su rfl hr) ?_
      exact hx2

theorem execPresenceConfirmed_fr {c r : Nat} {s0 t : State} {p0} {p1} (hc : c ||| 524296 = c) (hr : r ||| 2251799813685248 = r) (h1 : Fr0 c r s0 p1) (ht : execPresenceConfirmed p0 p1 = .next t) :
    Fr0 c r s0 t := by
  unfold execPresenceConfirmed at ht
  injection ht with ht
  subst ht
  refine State.ifLive_fr (su rfl hc) (su rfl hr) ?_ ?_
  ·
    exact h1
  ·
    intro u0 hu1
    refine cmdPresenceConfirmed_fr (su rfl hc) (su rfl hr) ?_
    exact hu1

theorem cmdPresenceFall_fr {c r : Nat} {s0 : State} {p0} {p1} (hc : c ||| 524288 = c) (hr : r ||| 0 = r) (h0 : Fr0 c r s0 p0) :
    Fr0 c r s0 (cmdPresenceFall p0 p1) := by
  unfold cmdPresenceFall
  extract_lets +onlyGivenNames -merge -useContext -underBinder x0
  have hx1 : Fr0 c r s0 x0 := by
    refine State.modSlot_fr (su rfl hc) (su rfl hr) ?_
    exact h0
  try clear_value x0
  refine fr0_ite (fun _ => ?_) (fun _ => ?_)
  ·
    exact hx1
  ·
    refine State.modSlot_fr (su rfl hc) (su rfl hr) ?_
    exact hx1

theorem execPresenceFall_fr {c r : Nat} {s0 t : State} {p0} {p1} (hc : c ||| 524288 = c) (hr : r ||| 0 = r) (h1 : Fr0 c r s0 p1) (ht : execPresenceFall p0 p1 = .next t) :
    Fr0 c r s0 t := by
  unfold execPresenceFall at ht
  injection ht with ht
  subst ht
  refine State.ifLive_fr (su rfl hc) (su rfl hr) ?_ ?_
  ·
    exact h1
  ·
    intro u0 hu1
    refine cmdPresenceFall_fr (su rfl hc) (su rfl hr) ?_
    exact hu1

theorem cmdPresenceRise_fr {c r : Nat} {s0 : State} {p0} {p1} (hc : c ||| 524288 = c) (hr : r ||| 0 = r) (h0 : Fr0 c r s0 p0) :
    Fr0 c r s0 (cmdPresenceRise p0 p1) := by
  unfold cmdPresenceRise
  refine State.modSlot_fr (su rfl hc) (su rfl hr) ?_
  exact h0

theorem execPresenceRise_fr {c r : Nat} {s0 t : State} {p0} {p1} (hc : c ||| 524288 = c) (hr : r ||| 0 = r) (h1 : Fr0 c r s0 p1) (ht : execPresenceRise p0 p1 = .next t) :
    Fr0 c r s0 t := by
  unfold execPresenceRise at ht
  injection ht with ht
  subst ht
  refine State.ifLive_fr (su rfl hc) (su rfl hr) ?_ ?_
  ·
    exact h1
  ·
    intro u0 hu1
    refine cmdPresenceRise_fr (su rfl hc) (su rfl hr) ?_
    exact hu1

theorem cmdPrivate_fr {c r : Nat} {s0 : State} {p0} (hc : c ||| 4608 = c) (hr : r ||| 567907468902246771870523036008448 = r) (h0 : Fr0 c r s0 p0) :
    Fr0 c r s0 (cmdPrivate p0) := by
  unfold cmdPrivate
  refine State.withSection_fr (su rfl hc) (su rfl hr) ?_ ?_
  ·
    exact h0
  ·
    intro u0 u2 hu1
    exact hu1

theorem execPrivateSection_fr {c r : Nat} {s0 t : State} {p0} (hc : c ||| 4608 = c) (hr : r ||| 567907468902246771870523036008448 = r) (h0 : Fr0 c r s0 p0) (ht : execPrivateSection p0 = .next t) :
    Fr0 c r s0 t := by
  unfold execPrivateSection at ht
  injection ht with ht
  subst ht
  refine State.ifLive_fr (su rfl hc) (su rfl hr) ?_ ?_
  ·
    exact h0
  ·
    intro u0 hu1
    refine cmdPrivate_fr (su rfl hc) (su rfl hr) ?_
    exact hu1

theorem State.withdrawResident_fr {c r : Nat} {s0 : State} {p0} {p1} (hc : c ||| 16384 = c) (hr : r ||| 0 = r) (h0 : Fr0 c r s0 p0) :
    Fr0 c r s0 (State.withdrawResident p0 p1) := by
  unfold State.withdrawResident
  extract_lets +onlyGivenNames -merge -useContext -underBinder x0
  try clear_value x0
  refine State.modAdm_fr (su rfl hc) (su rfl hr) ?_
  exact h0

theorem State.completePublish_fr {c r : Nat} {s0 : State} {p0} {p1} (hc : c ||| 2097152 = c) (hr : r ||| 0 = r) (h0 : Fr0 c r s0 p0) :
    Fr0 c r s0 (State.completePublish p0 p1) := by
  unfold State.completePublish
  refine State.modRasp_fr (su rfl hc) (su rfl hr) ?_
  exact h0

theorem State.acceptPublish_fr {c r : Nat} {s0 : State} {p0} {p1} (hc : c ||| 2113536 = c) (hr : r ||| 205688069665162447282469795043014442601503713468354730378919936 = r) (h0 : Fr0 c r s0 p0) :
    Fr0 c r s0 (State.acceptPublish p0 p1) := by
  unfold State.acceptPublish
  extract_lets +onlyGivenNames -merge -useContext -underBinder x0
  have hx1 : Fr0 c r s0 x0 := by
    refine State.put_fr (su rfl hc) (su rfl hr) ?_ ?_
    ·
      refine State.modRasp_fr (su rfl hc) (su rfl hr) ?_
      exact h0
    ·
      exact O.raspPublishedEpoch_ok (su rfl hr)
  try clear_value x0
  refine fr0_ite (fun _ => ?_) (fun _ => ?_)
  ·
    refine State.withdrawResident_fr (su rfl hc) (su rfl hr) ?_
    refine State.modRasp_fr (su rfl hc) (su rfl hr) ?_
    exact hx1
  ·
    refine State.raspDone_fr (su rfl hc) (su rfl hr) ?_
    refine State.completePublish_fr (su rfl hc) (su rfl hr) ?_
    exact hx1

theorem cmdPublish_fr {c r : Nat} {s0 : State} {p0} (hc : c ||| 18890752 = c) (hr : r ||| 617064208995469803827761414294024883586518545008828319946244096 = r) (h0 : Fr0 c r s0 p0) :
    Fr0 c r s0 (cmdPublish p0) := by
  unfold cmdPublish
  refine State.withCommand_fr (su rfl hc) (su rfl hr) ?_ ?_
  ·
    exact h0
  ·
    intro u0 u2 hu1
    extract_lets +onlyGivenNames -merge -useContext -underBinder x3
    extract_lets +onlyGivenNames -merge -useContext -underBinder x4
    refine fr0_ite (fun _ => ?_) (fun _ => ?_)
    ·
      extract_lets +onlyGivenNames -merge -useContext -underBinder x5
      refine State.markResident_fr (su rfl hc) (su rfl hr) ?_
      refine State.acceptPublish_fr (su rfl hc) (su rfl hr) ?_
      exact hu1
    ·
      refine fr0_ite (fun _ => ?_) (fun _ => ?_)
      ·
        refine State.bump_fr (su rfl hc) (su rfl hr) ?_ ?_
        ·
          refine State.raspError_fr (su rfl hc) (su rfl hr) ?_
          exact hu1
        ·
          exact O.raspRefusedCount_ok (su rfl hr)
      ·
        refine fr0_ite (fun _ => ?_) (fun _ => ?_)
        ·
          refine State.bump_fr (su rfl hc) (su rfl hr) ?_ ?_
          ·
            refine State.raspError_fr (su rfl hc) (su rfl hr) ?_
            exact hu1
          ·
            exact O.raspRefusedCount_ok (su rfl hr)
        ·
          refine State.markResident_fr (su rfl hc) (su rfl hr) ?_
          refine State.acceptPublish_fr (su rfl hc) (su rfl hr) ?_
          exact hu1

theorem execPublish_fr {c r : Nat} {s0 t : State} {p0} (hc : c ||| 18890752 = c) (hr : r ||| 617064208995469803827761414294024883586518545008828319946244096 = r) (h0 : Fr0 c r s0 p0) (ht : execPublish p0 = .next t) :
    Fr0 c r s0 t := by
  unfold execPublish at ht
  injection ht with ht
  subst ht
  refine State.ifLive_fr (su rfl hc) (su rfl hr) ?_ ?_
  ·
    exact h0
  ·
    intro u0 hu1
    refine cmdPublish_fr (su rfl hc) (su rfl hr) ?_
    exact hu1

theorem cmdPublishCatchup_fr {c r : Nat} {s0 : State} {p0} (hc : c ||| 18891776 = c) (hr : r ||| 11692013098647223345629478661730264157247460343808 = r) (h0 : Fr0 c r s0 p0) :
    Fr0 c r s0 (cmdPublishCatchup p0) := by
  unfold cmdPublishCatchup
  refine fr0_ite (fun _ => ?_) (fun _ => ?_)
  ·
    exact h0
  ·
    extract_lets +onlyGivenNames -merge -useContext -underBinder x0
    extract_lets +onlyGivenNames -merge -useContext -underBinder x1
    try clear_value x1
    extract_lets +onlyGivenNames -merge -useContext -underBinder x2
    try clear_value x2
    extract_lets +onlyGivenNames -merge -useContext -underBinder x3
    have hx4 : Fr0 c r s0 x3 := by
      refine fr0_foldl (fun ha5s _ ha5 => ?_) ?_
      ·
        refine State.hbmWrite_fr (su rfl hc) (su rfl hr) ?_
        exact ha5
      ·
        exact h0
    try clear_value x3
    extract_lets +onlyGivenNames -merge -useContext -underBinder x6
    have hx7 : Fr0 c r s0 x6 := by
      refine State.modRasp_fr (su rfl hc) (su rfl hr) ?_
      exact hx4
    try clear_value x6
    split
    ·
      exact hx7
    ·
      refine State.markResident_fr (su rfl hc) (su rfl hr) ?_
      refine State.raspDone_fr (su rfl hc) (su rfl hr) ?_
      refine State.completePublish_fr (su rfl hc) (su rfl hr) ?_
      refine State.modRasp_fr (su rfl hc) (su rfl hr) ?_
      exact hx7

theorem execPublishCatchup_fr {c r : Nat} {s0 t : State} {p0} (hc : c ||| 18891776 = c) (hr : r ||| 11692013098647223345629478661730264157247460343808 = r) (h0 : Fr0 c r s0 p0) (ht : execPublishCatchup p0 = .next t) :
    Fr0 c r s0 t := by
  unfold execPublishCatchup at ht
  injection ht with ht
  subst ht
  refine State.ifLive_fr (su rfl hc) (su rfl hr) ?_ ?_
  ·
    exact h0
  ·
    intro u0 hu1
    refine cmdPublishCatchup_fr (su rfl hc) (su rfl hr) ?_
    exact hu1

theorem execRailDownStep_fr {c r : Nat} {s0 t : State} {p0} (hc : c ||| 262408 = c) (hr : r ||| 18446744073709551616 = r) (h0 : Fr0 c r s0 p0) (ht : execRailDownStep p0 = .next t) :
    Fr0 c r s0 t := by
  unfold execRailDownStep at ht
  injection ht with ht
  subst ht
  refine cmdRailDownStep_fr (su rfl hc) (su rfl hr) ?_
  exact h0

theorem cmdRailFault_fr {c r : Nat} {s0 : State} {p0} {p1} (hc : c ||| 31140365064 = c) (hr : r ||| 10384593717390757748040553433530374 = r) (h0 : Fr0 c r s0 p0) :
    Fr0 c r s0 (cmdRailFault p0 p1) := by
  unfold cmdRailFault
  split
  ·
    exact h0
  ·
    refine fr0_ite (fun _ => ?_) (fun _ => ?_)
    ·
      exact h0
    ·
      extract_lets +onlyGivenNames -merge -useContext -underBinder x0
      have hx1 : Fr0 c r s0 x0 := by
        refine State.elapseTo_fr (su rfl hc) (su rfl hr) ?_
        exact h0
      try clear_value x0
      extract_lets +onlyGivenNames -merge -useContext -underBinder x2
      have hx3 : Fr0 c r s0 x2 := by
        refine State.raise_fr (su rfl hc) (su rfl hr) ?_
        refine State.put_fr (su rfl hc) (su rfl hr) ?_ ?_
        ·
          exact hx1
        ·
          exact O.pwrLastStatus_ok (su rfl hr)
      try clear_value x2
      extract_lets +onlyGivenNames -merge -useContext -underBinder x4
      have hx5 : Fr0 c r s0 x4 := by
        refine State.put_fr (su rfl hc) (su rfl hr) ?_ ?_
        ·
          refine State.cutDirect_fr (su rfl hc) (su rfl hr) ?_
          refine State.cutFirstScan_fr (su rfl hc) (su rfl hr) ?_
          refine State.sendBlank_fr (su rfl hc) (su rfl hr) ?_
          refine State.sendAbort_fr (su rfl hc) (su rfl hr) ?_
          exact hx3
        ·
          exact O.panelPowerState_ok (su rfl hr)
      try clear_value x4
      extract_lets +onlyGivenNames -merge -useContext -underBinder x6
      have hx7 : Fr0 c r s0 x6 := by
        refine State.modScan_fr (su rfl hc) (su rfl hr) ?_
        refine State.dropHeads_fr (su rfl hc) (su rfl hr) ?_
        exact hx5
      try clear_value x6
      refine State.panelStop_fr (su rfl hc) (su rfl hr) ?_
      refine State.putB_fr (su rfl hc) (su rfl hr) ?_ ?_
      ·
        exact hx7
      ·
        exact O.panelPowerEnable_ok (su rfl hr)

theorem execRailFault_fr {c r : Nat} {s0 t : State} {p0} {p1} (hc : c ||| 31140365064 = c) (hr : r ||| 10384593717390757748040553433530374 = r) (h1 : Fr0 c r s0 p1) (ht : execRailFault p0 p1 = .next t) :
    Fr0 c r s0 t := by
  unfold execRailFault at ht
  injection ht with ht
  subst ht
  refine State.ifLive_fr (su rfl hc) (su rfl hr) ?_ ?_
  ·
    exact h1
  ·
    intro u0 hu1
    refine cmdRailFault_fr (su rfl hc) (su rfl hr) ?_
    exact hu1

theorem cmdRailOffStep_fr {c r : Nat} {s0 : State} {p0} (hc : c ||| 31140365064 = c) (hr : r ||| 9426301984264284143616 = r) (h0 : Fr0 c r s0 p0) :
    Fr0 c r s0 (cmdRailOffStep p0) := by
  unfold cmdRailOffStep
  extract_lets +onlyGivenNames -merge -useContext -underBinder x0
  split
  ·
    refine State.railsOff_fr (su rfl hc) (su rfl hr) ?_
    refine State.elapseTo_fr (su rfl hc) (su rfl hr) ?_
    exact h0
  ·
    refine State.railsOff_fr (su rfl hc) (su rfl hr) ?_
    refine State.elapseTo_fr (su rfl hc) (su rfl hr) ?_
    exact h0
  ·
    exact h0

theorem execRailOffStep_fr {c r : Nat} {s0 t : State} {p0} (hc : c ||| 31140365064 = c) (hr : r ||| 9426301984264284143616 = r) (h0 : Fr0 c r s0 p0) (ht : execRailOffStep p0 = .next t) :
    Fr0 c r s0 t := by
  unfold execRailOffStep at ht
  injection ht with ht
  subst ht
  refine State.ifLive_fr (su rfl hc) (su rfl hr) ?_ ?_
  ·
    exact h0
  ·
    intro u0 hu1
    refine cmdRailOffStep_fr (su rfl hc) (su rfl hr) ?_
    exact hu1

theorem cmdRailPgRise_fr {c r : Nat} {s0 : State} {p0} {p1} (hc : c ||| 262144 = c) (hr : r ||| 89202980794122492566142873090593446023921664 = r) (h0 : Fr0 c r s0 p0) :
    Fr0 c r s0 (cmdRailPgRise p0 p1) := by
  unfold cmdRailPgRise
  extract_lets +onlyGivenNames -merge -useContext -underBinder x0
  have hx1 : Fr0 c r s0 x0 := by
    refine State.modPwr_fr (su rfl hc) (su rfl hr) ?_
    refine State.put_fr (su rfl hc) (su rfl hr) ?_ ?_
    ·
      exact h0
    ·
      exact O.railPgStatus_ok (su rfl hr)
  try clear_value x0
  split
  ·
    refine fr0_ite (fun _ => ?_) (fun _ => ?_)
    ·
      refine State.phase_fr (su rfl hc) (su rfl hr) ?_
      exact hx1
    ·
      exact hx1
  ·
    exact hx1

theorem execRailPgRise_fr {c r : Nat} {s0 t : State} {p0} {p1} (hc : c ||| 262144 = c) (hr : r ||| 89202980794122492566142873090593446023921664 = r) (h1 : Fr0 c r s0 p1) (ht : execRailPgRise p0 p1 = .next t) :
    Fr0 c r s0 t := by
  unfold execRailPgRise at ht
  injection ht with ht
  subst ht
  refine State.ifLive_fr (su rfl hc) (su rfl hr) ?_ ?_
  ·
    exact h1
  ·
    intro u0 hu1
    refine cmdRailPgRise_fr (su rfl hc) (su rfl hr) ?_
    exact hu1

theorem cmdRailPgTimeout_fr {c r : Nat} {s0 : State} {p0} (hc : c ||| 31140365064 = c) (hr : r ||| 321102490979560775090176 = r) (h0 : Fr0 c r s0 p0) :
    Fr0 c r s0 (cmdRailPgTimeout p0) := by
  unfold cmdRailPgTimeout
  split
  ·
    extract_lets +onlyGivenNames -merge -useContext -underBinder x0
    have hx1 : Fr0 c r s0 x0 := by
      refine State.elapseTo_fr (su rfl hc) (su rfl hr) ?_
      exact h0
    try clear_value x0
    extract_lets +onlyGivenNames -merge -useContext -underBinder x2
    have hx3 : Fr0 c r s0 x2 := by
      refine State.raise_fr (su rfl hc) (su rfl hr) ?_
      refine State.put_fr (su rfl hc) (su rfl hr) ?_ ?_
      ·
        exact hx1
      ·
        exact O.pwrLastStatus_ok (su rfl hr)
    try clear_value x2
    refine State.panelStop_fr (su rfl hc) (su rfl hr) ?_
    refine State.putB_fr (su rfl hc) (su rfl hr) ?_ ?_
    ·
      exact hx3
    ·
      exact O.panelPowerEnable_ok (su rfl hr)
  ·
    exact h0

theorem execRailPgTimeout_fr {c r : Nat} {s0 t : State} {p0} (hc : c ||| 31140365064 = c) (hr : r ||| 321102490979560775090176 = r) (h0 : Fr0 c r s0 p0) (ht : execRailPgTimeout p0 = .next t) :
    Fr0 c r s0 t := by
  unfold execRailPgTimeout at ht
  injection ht with ht
  subst ht
  refine State.ifLive_fr (su rfl hc) (su rfl hr) ?_ ?_
  ·
    exact h0
  ·
    intro u0 hu1
    refine cmdRailPgTimeout_fr (su rfl hc) (su rfl hr) ?_
    exact hu1

theorem cmdRailStepDelay_fr {c r : Nat} {s0 : State} {p0} (hc : c ||| 31140364808 = c) (hr : r ||| 9426301984264284143616 = r) (h0 : Fr0 c r s0 p0) :
    Fr0 c r s0 (cmdRailStepDelay p0) := by
  unfold cmdRailStepDelay
  split
  ·
    refine State.startRail_fr (su rfl hc) (su rfl hr) ?_
    refine State.elapseTo_fr (su rfl hc) (su rfl hr) ?_
    exact h0
  ·
    exact h0

theorem execRailStepDelay_fr {c r : Nat} {s0 t : State} {p0} (hc : c ||| 31140364808 = c) (hr : r ||| 9426301984264284143616 = r) (h0 : Fr0 c r s0 p0) (ht : execRailStepDelay p0 = .next t) :
    Fr0 c r s0 t := by
  unfold execRailStepDelay at ht
  injection ht with ht
  subst ht
  refine State.ifLive_fr (su rfl hc) (su rfl hr) ?_ ?_
  ·
    exact h0
  ·
    intro u0 hu1
    refine cmdRailStepDelay_fr (su rfl hc) (su rfl hr) ?_
    exact hu1

theorem cmdRaspCommandRefused_fr {c r : Nat} {s0 : State} {p0} {p1} (hc : c ||| 22567452672 = c) (hr : r ||| 411376139330319048558390266474356070463676561804630852604264448 = r) (h0 : Fr0 c r s0 p0) :
    Fr0 c r s0 (cmdRaspCommandRefused p0 p1) := by
  unfold cmdRaspCommandRefused
  refine fr0_ite (fun _ => ?_) (fun _ => ?_)
  ·
    exact h0
  ·
    refine fr0_ite (fun _ => ?_) (fun _ => ?_)
    ·
      refine State.raspDone_fr (su rfl hc) (su rfl hr) ?_
      refine State.bump_fr (su rfl hc) (su rfl hr) ?_ ?_
      ·
        refine State.post_fr (su rfl hc) (su rfl hr) ?_
        refine State.raspError_fr (su rfl hc) (su rfl hr) ?_
        refine State.eccUncorrectable_fr (su rfl hc) (su rfl hr) ?_
        refine State.memRequest_fr (su rfl hc) (su rfl hr) ?_
        refine State.takeEntry_fr (su rfl hc) (su rfl hr) ?_
        exact h0
      ·
        exact O.raspRefusedCount_ok (su rfl hr)
    ·
      split
      ·
        exact h0
      ·
        refine State.bump_fr (su rfl hc) (su rfl hr) ?_ ?_
        ·
          refine State.raspError_fr (su rfl hc) (su rfl hr) ?_
          refine State.memRequest_fr (su rfl hc) (su rfl hr) ?_
          refine State.takeEntry_fr (su rfl hc) (su rfl hr) ?_
          exact h0
        ·
          exact O.raspRefusedCount_ok (su rfl hr)

theorem execRaspCommandRefused_fr {c r : Nat} {s0 t : State} {p0} {p1} (hc : c ||| 22567452672 = c) (hr : r ||| 411376139330319048558390266474356070463676561804630852604264448 = r) (h1 : Fr0 c r s0 p1) (ht : execRaspCommandRefused p0 p1 = .next t) :
    Fr0 c r s0 t := by
  unfold execRaspCommandRefused at ht
  injection ht with ht
  subst ht
  refine State.ifLive_fr (su rfl hc) (su rfl hr) ?_ ?_
  ·
    exact h1
  ·
    intro u0 hu1
    refine cmdRaspCommandRefused_fr (su rfl hc) (su rfl hr) ?_
    exact hu1

theorem cmdRaspRingTail_fr {c r : Nat} {s0 : State} {p0} {p1} (hc : c ||| 22550675456 = c) (hr : r ||| 5846006549323611672814739330865132078623737511936 = r) (h0 : Fr0 c r s0 p0) :
    Fr0 c r s0 (cmdRaspRingTail p0 p1) := by
  unfold cmdRaspRingTail
  extract_lets +onlyGivenNames -merge -useContext -underBinder x0
  refine fr0_ite (fun _ => ?_) (fun _ => ?_)
  ·
    refine State.note_fr (su rfl hc) (su rfl hr) ?_ ?_
    ·
      exact h0
    ·
      exact O.raspLastStatus_ok (su rfl hr)
  ·
    refine State.modRasp_fr (su rfl hc) (su rfl hr) ?_
    exact h0

theorem execRaspRingTail_fr {c r : Nat} {s0 t : State} {p0} {p1} (hc : c ||| 22550675456 = c) (hr : r ||| 5846006549323611672814739330865132078623737511936 = r) (h1 : Fr0 c r s0 p1) (ht : execRaspRingTail p0 p1 = .next t) :
    Fr0 c r s0 t := by
  unfold execRaspRingTail at ht
  injection ht with ht
  subst ht
  refine State.ifLive_fr (su rfl hc) (su rfl hr) ?_ ?_
  ·
    exact h1
  ·
    intro u0 hu1
    refine cmdRaspRingTail_fr (su rfl hc) (su rfl hr) ?_
    exact hu1

theorem State.memNote_fr {c r : Nat} {s0 : State} {p0} {p1} {p2} (hc : c ||| 22548578304 = c) (hr : r ||| 544210944 = r) (h0 : Fr0 c r s0 p0) :
    Fr0 c r s0 (State.memNote p0 p1 p2) := by
  unfold State.memNote
  refine State.note_fr (su rfl hc) (su rfl hr) ?_ ?_
  ·
    exact h0
  ·
    exact O.memLastStatus_ok (su rfl hr)

theorem refreshStack_fr {c r : Nat} {s0 : State} {p0} {p1} (hc : c ||| 22565355520 = c) (hr : r ||| 544210944 = r) (h0 : Fr0 c r s0 p0) :
    Fr0 c r s0 (refreshStack p0 p1) := by
  unfold refreshStack
  extract_lets +onlyGivenNames -merge -useContext -underBinder x0
  try clear_value x0
  extract_lets +onlyGivenNames -merge -useContext -underBinder x1
  have hx2 : Fr0 c r s0 x1 := by
    refine fr0_ite (fun _ => ?_) (fun _ => ?_)
    ·
      exact h0
    ·
      refine State.memNote_fr (su rfl hc) (su rfl hr) ?_
      refine State.modStack_fr (su rfl hc) (su rfl hr) ?_
      exact h0
  try clear_value x1
  extract_lets +onlyGivenNames -merge -useContext -underBinder x3
  try clear_value x3
  refine fr0_ite (fun _ => ?_) (fun _ => ?_)
  ·
    exact hx2
  ·
    refine State.modStack_fr (su rfl hc) (su rfl hr) ?_
    exact hx2

theorem cmdRefreshInstant_fr {c r : Nat} {s0 : State} {p0} (hc : c ||| 22565355528 = c) (hr : r ||| 822752278660603021077484591278675252491367932816789932218515456 = r) (h0 : Fr0 c r s0 p0) :
    Fr0 c r s0 (cmdRefreshInstant p0) := by
  unfold cmdRefreshInstant
  refine fr0_ite (fun _ => ?_) (fun _ => ?_)
  ·
    exact h0
  ·
    extract_lets +onlyGivenNames -merge -useContext -underBinder x0
    have hx1 : Fr0 c r s0 x0 := by
      refine State.elapseTo_fr (su rfl hc) (su rfl hr) ?_
      exact h0
    try clear_value x0
    extract_lets +onlyGivenNames -merge -useContext -underBinder x2
    try clear_value x2
    extract_lets +onlyGivenNames -merge -useContext -underBinder x3
    have hx4 : Fr0 c r s0 x3 := by
      refine fr_mem (su rfl hc) ?_
      exact hx1
    try clear_value x3
    extract_lets +onlyGivenNames -merge -useContext -underBinder x5
    have hx6 : Fr0 c r s0 x5 := by
      refine fr0_foldl (fun ha7s _ ha7 => ?_) ?_
      ·
        refine refreshStack_fr (su rfl hc) (su rfl hr) ?_
        exact ha7
      ·
        exact hx4
    try clear_value x5
    refine State.put_fr (su rfl hc) (su rfl hr) ?_ ?_
    ·
      exact hx6
    ·
      exact O.memHotRefreshMask_ok (su rfl hr)

theorem execRefreshInstant_fr {c r : Nat} {s0 t : State} {p0} (hc : c ||| 22565355528 = c) (hr : r ||| 822752278660603021077484591278675252491367932816789932218515456 = r) (h0 : Fr0 c r s0 p0) (ht : execRefreshInstant p0 = .next t) :
    Fr0 c r s0 t := by
  unfold execRefreshInstant at ht
  injection ht with ht
  subst ht
  refine State.ifLive_fr (su rfl hc) (su rfl hr) ?_ ?_
  ·
    exact h0
  ·
    intro u0 hu1
    refine cmdRefreshInstant_fr (su rfl hc) (su rfl hr) ?_
    exact hu1

theorem cmdReg64LowRead_fr {c r : Nat} {s0 : State} {p0} {p1} (hc : c ||| 17180917760 = c) (hr : r ||| 0 = r) (h0 : Fr0 c r s0 p0) :
    Fr0 c r s0 (cmdReg64LowRead p0 p1) := by
  unfold cmdReg64LowRead
  split
  ·
    exact h0
  ·
    refine State.emit_fr (su rfl hc) (su rfl hr) ?_
    refine State.modScan_fr (su rfl hc) (su rfl hr) ?_
    exact h0

theorem execReg64LowRead_fr {c r : Nat} {s0 t : State} {p0} {p1} (hc : c ||| 17180917760 = c) (hr : r ||| 0 = r) (h1 : Fr0 c r s0 p1) (ht : execReg64LowRead p0 p1 = .next t) :
    Fr0 c r s0 t := by
  unfold execReg64LowRead at ht
  injection ht with ht
  subst ht
  refine State.ifLive_fr (su rfl hc) (su rfl hr) ?_ ?_
  ·
    exact h1
  ·
    intro u0 hu1
    refine cmdReg64LowRead_fr (su rfl hc) (su rfl hr) ?_
    exact hu1

theorem hifControlWrite_fr {c r : Nat} {s0 : State} {p0} {p1} (hc : c ||| 18253611520 = c) (hr : r ||| 23945242826029513411849172299223580994042798784118784 = r) (h0 : Fr0 c r s0 p0) :
    Fr0 c r s0 (hifControlWrite p0 p1) := by
  unfold hifControlWrite
  extract_lets +onlyGivenNames -merge -useContext -underBinder x0
  have hx1 : Fr0 c r s0 x0 := by
    refine fr0_ite (fun _ => ?_) (fun _ => ?_)
    ·
      exact h0
    ·
      refine cmdHifSegEn_fr (su rfl hc) (su rfl hr) ?_
      exact h0
  try clear_value x0
  extract_lets +onlyGivenNames -merge -useContext -underBinder x2
  have hx3 : Fr0 c r s0 x2 := by
    refine fr0_ite (fun _ => ?_) (fun _ => ?_)
    ·
      exact hx1
    ·
      refine cmdHifFdrEn_fr (su rfl hc) (su rfl hr) ?_
      exact hx1
  try clear_value x2
  extract_lets +onlyGivenNames -merge -useContext -underBinder x4
  have hx5 : Fr0 c r s0 x4 := by
    refine fr0_ite (fun _ => ?_) (fun _ => ?_)
    ·
      exact hx3
    ·
      refine cmdHifCplEn_fr (su rfl hc) (su rfl hr) ?_
      exact hx3
  try clear_value x4
  refine cmdDirectReq_fr (su rfl hc) (su rfl hr) ?_
  exact hx5

theorem ringWrite_fr {c r : Nat} {s0 : State} {p0} {p1} {p2} {p3} {p4} {p5} {p6} (hc : c ||| 18253611008 = c) (hr : r ||| 4 = r) (h0 : Fr0 c r s0 p0) :
    Fr0 c r s0 (ringWrite p0 p1 p2 p3 p4 p5 p6) := by
  unfold ringWrite
  refine fr0_ite (fun _ => ?_) (fun _ => ?_)
  ·
    refine State.ringBusy_fr (su rfl hc) (su rfl hr) ?_
    exact h0
  ·
    split
    ·
      refine State.modHif_fr (su rfl hc) (su rfl hr) ?_
      exact h0
    ·
      refine State.modHif_fr (su rfl hc) (su rfl hr) ?_
      exact h0
    ·
      refine fr0_ite (fun _ => ?_) (fun _ => ?_)
      ·
        refine State.modHif_fr (su rfl hc) (su rfl hr) ?_
        exact h0
      ·
        refine State.ringBusy_fr (su rfl hc) (su rfl hr) ?_
        exact h0

theorem cmdSegDoorbell_fr {c r : Nat} {s0 : State} {p0} {p1} (hc : c ||| 31139577856 = c) (hr : r ||| 83076749736561927529482663500972036 = r) (h0 : Fr0 c r s0 p0) :
    Fr0 c r s0 (cmdSegDoorbell p0 p1) := by
  unfold cmdSegDoorbell
  refine indexWrite_fr (su rfl hc) (su rfl hr) ?_
  exact h0

theorem msixWrite_fr {c r : Nat} {s0 : State} {p0} {p1} {p2} (hc : c ||| 18253611008 = c) (hr : r ||| 0 = r) (h0 : Fr0 c r s0 p0) :
    Fr0 c r s0 (msixWrite p0 p1 p2) := by
  unfold msixWrite
  extract_lets +onlyGivenNames -merge -useContext -underBinder x0
  extract_lets +onlyGivenNames -merge -useContext -underBinder x1
  have hx2 : Fr0 c r s0 x1 := by
    refine State.modHif_fr (su rfl hc) (su rfl hr) ?_
    exact h0
  try clear_value x1
  refine fr0_ite (fun _ => ?_) (fun _ => ?_)
  ·
    exact hx2
  ·
    extract_lets +onlyGivenNames -merge -useContext -underBinder x3
    try clear_value x3
    extract_lets +onlyGivenNames -merge -useContext -underBinder x4
    try clear_value x4
    extract_lets +onlyGivenNames -merge -useContext -underBinder x5
    have hx6 : Fr0 c r s0 x5 := by
      refine State.modHif_fr (su rfl hc) (su rfl hr) ?_
      exact hx2
    try clear_value x5
    refine fr0_ite (fun _ => ?_) (fun _ => ?_)
    ·
      refine State.emit_fr (su rfl hc) (su rfl hr) ?_
      refine State.modHif_fr (su rfl hc) (su rfl hr) ?_
      exact hx6
    ·
      exact hx6

theorem cmdRegisterWrite_fr {c r : Nat} {s0 : State} {p0} {p1} {p2} (hc : c ||| 31141675520 = c) (hr : r ||| 35923710245593593812523322924728164152625485407387654 = r) (h0 : Fr0 c r s0 p0) :
    Fr0 c r s0 (cmdRegisterWrite p0 p1 p2) := by
  unfold cmdRegisterWrite
  split
  ·
    refine hifControlWrite_fr (su rfl hc) (su rfl hr) ?_
    exact h0
  ·
    refine fr0_ite (fun _ => ?_) (fun _ => ?_)
    ·
      refine State.modHif_fr (su rfl hc) (su rfl hr) ?_
      exact h0
    ·
      exact h0
  ·
    refine State.activity_fr (su rfl hc) (su rfl hr) ?_
    exact h0
  ·
    refine ringWrite_fr (su rfl hc) (su rfl hr) ?_
    exact h0
  ·
    refine ringWrite_fr (su rfl hc) (su rfl hr) ?_
    exact h0
  ·
    refine ringWrite_fr (su rfl hc) (su rfl hr) ?_
    exact h0
  ·
    refine cmdSegDoorbell_fr (su rfl hc) (su rfl hr) ?_
    exact h0
  ·
    refine ringWrite_fr (su rfl hc) (su rfl hr) ?_
    exact h0
  ·
    refine ringWrite_fr (su rfl hc) (su rfl hr) ?_
    exact h0
  ·
    refine ringWrite_fr (su rfl hc) (su rfl hr) ?_
    exact h0
  ·
    refine cmdFdrTail_fr (su rfl hc) (su rfl hr) ?_
    exact h0
  ·
    refine ringWrite_fr (su rfl hc) (su rfl hr) ?_
    exact h0
  ·
    refine ringWrite_fr (su rfl hc) (su rfl hr) ?_
    exact h0
  ·
    refine ringWrite_fr (su rfl hc) (su rfl hr) ?_
    exact h0
  ·
    refine cmdCplHead_fr (su rfl hc) (su rfl hr) ?_
    exact h0
  ·
    refine cmdIrqStatusClear_fr (su rfl hc) (su rfl hr) ?_
    exact h0
  ·
    refine cmdIrqMaskWrite_fr (su rfl hc) (su rfl hr) ?_
    exact h0
  ·
    refine State.modHif_fr (su rfl hc) (su rfl hr) ?_
    exact h0
  ·
    refine cmdApertureBaseWrite_fr (su rfl hc) (su rfl hr) ?_
    exact h0
  ·
    refine cmdApertureBaseWrite_fr (su rfl hc) (su rfl hr) ?_
    exact h0
  ·
    refine State.modScan_fr (su rfl hc) (su rfl hr) ?_
    exact h0
  ·
    refine State.modScan_fr (su rfl hc) (su rfl hr) ?_
    exact h0
  ·
    refine State.modScan_fr (su rfl hc) (su rfl hr) ?_
    exact h0
  ·
    refine State.modScan_fr (su rfl hc) (su rfl hr) ?_
    exact h0
  ·
    refine cmdFrameCommit_fr (su rfl hc) (su rfl hr) ?_
    exact h0
  ·
    refine cmdRaspRingTail_fr (su rfl hc) (su rfl hr) ?_
    exact h0
  ·
    refine fr0_ite (fun _ => ?_) (fun _ => ?_)
    ·
      refine State.modRasp_fr (su rfl hc) (su rfl hr) ?_
      exact h0
    ·
      exact h0
  ·
    refine fr0_ite (fun _ => ?_) (fun _ => ?_)
    ·
      refine msixWrite_fr (su rfl hc) (su rfl hr) ?_
      exact h0
    ·
      exact h0

theorem State.windowWrite_fr {c r : Nat} {s0 : State} {p0} {p1} {p2} (hc : c ||| 103028671480 = c) (hr : r ||| 10141204801825835211972283334656 = r) (h0 : Fr0 c r s0 p0) :
    Fr0 c r s0 (State.windowWrite p0 p1 p2) := by
  unfold State.windowWrite
  split
  ·
    refine State.request_fr (su rfl hc) (su rfl hr) ?_
    exact h0
  ·
    refine State.modDict_fr (su rfl hc) (su rfl hr) ?_
    exact h0
  ·
    refine State.modDict_fr (su rfl hc) (su rfl hr) ?_
    exact h0
  ·
    refine State.modDict_fr (su rfl hc) (su rfl hr) ?_
    exact h0
  ·
    refine State.modDict_fr (su rfl hc) (su rfl hr) ?_
    exact h0
  ·
    refine fr0_ite (fun _ => ?_) (fun _ => ?_)
    ·
      refine State.modDict_fr (su rfl hc) (su rfl hr) ?_
      exact h0
    ·
      exact h0
  ·
    refine State.modDict_fr (su rfl hc) (su rfl hr) ?_
    exact h0
  ·
    refine fr0_ite (fun _ => ?_) (fun _ => ?_)
    ·
      refine State.modDict_fr (su rfl hc) (su rfl hr) ?_
      exact h0
    ·
      exact h0

theorem execRegisterWrite_fr {c r : Nat} {s0 t : State} {p0} {p1} {p2} (hc : c ||| 103028671480 = c) (hr : r ||| 35923710245593593812533464129525304514842735457271814 = r) (h2 : Fr0 c r s0 p2) (ht : execRegisterWrite p0 p1 p2 = .next t) :
    Fr0 c r s0 t := by
  unfold execRegisterWrite at ht
  injection ht with ht
  subst ht
  refine State.ifLive_fr (su rfl hc) (su rfl hr) ?_ ?_
  ·
    exact h2
  ·
    intro u0 hu1
    refine fr0_ite (fun _ => ?_) (fun _ => ?_)
    ·
      refine cmdRegisterWrite_fr (su rfl hc) (su rfl hr) ?_
      exact hu1
    ·
      refine State.windowWrite_fr (su rfl hc) (su rfl hr) ?_
      exact hu1

theorem State.closeDrive_fr {c r : Nat} {s0 : State} {p0} (hc : c ||| 131072 = c) (hr : r ||| 1645504557321206042154969182557350504982735865633579863348609024 = r) (h0 : Fr0 c r s0 p0) :
    Fr0 c r s0 (State.closeDrive p0) := by
  unfold State.closeDrive
  extract_lets +onlyGivenNames -merge -useContext -underBinder x0
  refine State.put_fr (su rfl hc) (su rfl hr) ?_ ?_
  ·
    refine State.modPdp_fr (su rfl hc) (su rfl hr) ?_
    exact h0
  ·
    exact O.driveMeanLast_ok (su rfl hr)

theorem State.commitBuffer_fr {c r : Nat} {s0 : State} {p0} {p1} {p2} (hc : c ||| 1048576 = c) (hr : r ||| 0 = r) (h0 : Fr0 c r s0 p0) :
    Fr0 c r s0 (State.commitBuffer p0 p1 p2) := by
  unfold State.commitBuffer
  refine State.modScan_fr (su rfl hc) (su rfl hr) ?_
  exact h0

theorem State.overrun_fr {c r : Nat} {s0 : State} {p0} {p1} {p2} (hc : c ||| 31139577984 = c) (hr : r ||| 3291009114642412084309938365130277900541383131080649595212005382 = r) (h0 : Fr0 c r s0 p0) :
    Fr0 c r s0 (State.overrun p0 p1 p2) := by
  unfold State.overrun
  extract_lets +onlyGivenNames -merge -useContext -underBinder x0
  have hx1 : Fr0 c r s0 x0 := by
    refine State.noteDiscard_fr (su rfl hc) (su rfl hr) ?_
    refine State.bump_fr (su rfl hc) (su rfl hr) ?_ ?_
    ·
      refine State.setBuf_fr (su rfl hc) (su rfl hr) ?_
      exact h0
    ·
      exact O.rseOverrunCount_ok (su rfl hr)
  try clear_value x0
  extract_lets +onlyGivenNames -merge -useContext -underBinder x2
  have hx3 : Fr0 c r s0 x2 := by
    refine State.raise_fr (su rfl hc) (su rfl hr) ?_
    refine State.put_fr (su rfl hc) (su rfl hr) ?_ ?_
    ·
      exact hx1
    ·
      exact O.rseLastStatus_ok (su rfl hr)
  try clear_value x2
  refine State.promiseBroken_fr (su rfl hc) (su rfl hr) ?_
  refine State.presentedEntry_fr (su rfl hc) (su rfl hr) ?_
  exact hx3

theorem State.noteFrame_fr {c r : Nat} {s0 : State} {p0} {p1} (hc : c ||| 0 = c) (hr : r ||| 98730273439272362529298150953441030298964151938014791800916541440 = r) (h0 : Fr0 c r s0 p0) :
    Fr0 c r s0 (State.noteFrame p0 p1) := by
  unfold State.noteFrame
  refine State.put_fr (su rfl hc) (su rfl hr) ?_ ?_
  ·
    refine State.put_fr (su rfl hc) (su rfl hr) ?_ ?_
    ·
      refine State.put_fr (su rfl hc) (su rfl hr) ?_ ?_
      ·
        refine State.put_fr (su rfl hc) (su rfl hr) ?_ ?_
        ·
          exact h0
        ·
          exact O.rseStepsLast_ok (su rfl hr)
      ·
        exact O.rseStepBoundLast_ok (su rfl hr)
    ·
      exact O.rseRenderTimeLast_ok (su rfl hr)
  ·
    exact O.rseSplitBinsLast_ok (su rfl hr)

theorem cmdRenderWindowClose_fr {c r : Nat} {s0 : State} {p0} (hc : c ||| 31139783304 = c) (hr : r ||| 103666787111235980655763058501128658704488270934729021259477220870 = r) (h0 : Fr0 c r s0 p0) :
    Fr0 c r s0 (cmdRenderWindowClose p0) := by
  unfold cmdRenderWindowClose
  split
  ·
    exact h0
  ·
    split
    ·
      exact h0
    ·
      extract_lets +onlyGivenNames -merge -useContext -underBinder x0
      have hx1 : Fr0 c r s0 x0 := by
        refine State.reach_fr (su rfl hc) (su rfl hr) ?_
        exact h0
      try clear_value x0
      extract_lets +onlyGivenNames -merge -useContext -underBinder x2
      try clear_value x2
      extract_lets +onlyGivenNames -merge -useContext -underBinder x3
      try clear_value x3
      extract_lets +onlyGivenNames -merge -useContext -underBinder x4
      have hx5 : Fr0 c r s0 x4 := by
        refine fr0_ite (fun _ => ?_) (fun _ => ?_)
        ·
          refine State.closeDrive_fr (su rfl hc) (su rfl hr) ?_
          refine State.commitBuffer_fr (su rfl hc) (su rfl hr) ?_
          refine State.setBuf_fr (su rfl hc) (su rfl hr) ?_
          exact hx1
        ·
          refine State.overrun_fr (su rfl hc) (su rfl hr) ?_
          exact hx1
      try clear_value x4
      extract_lets +onlyGivenNames -merge -useContext -underBinder x6
      have hx7 : Fr0 c r s0 x6 := by
        refine State.clearRse_fr (su rfl hc) (su rfl hr) ?_
        refine fr0_ite (fun _ => ?_) (fun _ => ?_)
        ·
          exact hx5
        ·
          refine State.noteFrame_fr (su rfl hc) (su rfl hr) ?_
          exact hx5
      try clear_value x6
      refine fr0_ite (fun _ => ?_) (fun _ => ?_)
      ·
        exact hx7
      ·
        refine State.releaseFrame_fr (su rfl hc) (su rfl hr) ?_
        refine State.modAdm_fr (su rfl hc) (su rfl hr) ?_
        exact hx7

theorem execRenderWindowClose_fr {c r : Nat} {s0 t : State} {p0} (hc : c ||| 31139783304 = c) (hr : r ||| 103666787111235980655763058501128658704488270934729021259477220870 = r) (h0 : Fr0 c r s0 p0) (ht : execRenderWindowClose p0 = .next t) :
    Fr0 c r s0 t := by
  unfold execRenderWindowClose at ht
  injection ht with ht
  subst ht
  refine State.ifLive_fr (su rfl hc) (su rfl hr) ?_ ?_
  ·
    exact h0
  ·
    intro u0 hu1
    refine cmdRenderWindowClose_fr (su rfl hc) (su rfl hr) ?_
    exact hu1

theorem State.captureStopDone_fr {c r : Nat} {s0 : State} {p0} (hc : c ||| 1048832 = c) (hr : r ||| 17870283321406128128 = r) (h0 : Fr0 c r s0 p0) :
    Fr0 c r s0 (State.captureStopDone p0) := by
  unfold State.captureStopDone
  refine fr0_ite (fun _ => ?_) (fun _ => ?_)
  ·
    exact h0
  ·
    extract_lets +onlyGivenNames -merge -useContext -underBinder x0
    try clear_value x0
    extract_lets +onlyGivenNames -merge -useContext -underBinder x1
    have hx2 : Fr0 c r s0 x1 := by
      refine fr_held (su rfl hc) ?_
      exact h0
    try clear_value x1
    refine State.refreshCal_fr (su rfl hc) (su rfl hr) ?_
    refine State.modScan_fr (su rfl hc) (su rfl hr) ?_
    refine State.put_fr (su rfl hc) (su rfl hr) ?_ ?_
    ·
      exact hx2
    ·
      exact O.captureState_ok (su rfl hr)

theorem State.latchDrive_fr {c r : Nat} {s0 : State} {p0} {p1} (hc : c ||| 22548709376 = c) (hr : r ||| 105312291668581131940744057197082281491194318981543154053102436352 = r) (h0 : Fr0 c r s0 p0) :
    Fr0 c r s0 (State.latchDrive p0 p1) := by
  unfold State.latchDrive
  extract_lets +onlyGivenNames -merge -useContext -underBinder x0
  extract_lets +onlyGivenNames -merge -useContext -underBinder x1
  extract_lets +onlyGivenNames -merge -useContext -underBinder x2
  have hx3 : Fr0 c r s0 x2 := by
    refine fr0_ite (fun _ => ?_) (fun _ => ?_)
    ·
      refine State.note_fr (su rfl hc) (su rfl hr) ?_ ?_
      ·
        exact h0
      ·
        exact O.pdpLastStatus_ok (su rfl hr)
    ·
      exact h0
  try clear_value x2
  extract_lets +onlyGivenNames -merge -useContext -underBinder x4
  have hx5 : Fr0 c r s0 x4 := by
    refine State.modPdp_fr (su rfl hc) (su rfl hr) ?_
    exact hx3
  try clear_value x4
  refine State.put_fr (su rfl hc) (su rfl hr) ?_ ?_
  ·
    exact hx5
  ·
    exact O.driveGainNow_ok (su rfl hr)

theorem State.stepTCal_fr {c r : Nat} {s0 : State} {p0} (hc : c ||| 32768 = c) (hr : r ||| 8646911284551352320 = r) (h0 : Fr0 c r s0 p0) :
    Fr0 c r s0 (State.stepTCal p0) := by
  unfold State.stepTCal
  extract_lets +onlyGivenNames -merge -useContext -underBinder x0
  try clear_value x0
  refine State.refreshCal_fr (su rfl hc) (su rfl hr) ?_
  refine fr_cal (su rfl hc) ?_
  exact h0

theorem State.latchOpening_fr {c r : Nat} {s0 : State} {p0} {p1} (hc : c ||| 22548742144 = c) (hr : r ||| 105312291717620989248452500664549386360004212865989717247529058304 = r) (h0 : Fr0 c r s0 p0) :
    Fr0 c r s0 (State.latchOpening p0 p1) := by
  unfold State.latchOpening
  refine State.latchDrive_fr (su rfl hc) (su rfl hr) ?_
  refine State.stepTCal_fr (su rfl hc) (su rfl hr) ?_
  refine State.latchBands_fr (su rfl hc) (su rfl hr) ?_
  refine State.updateTMeas_fr (su rfl hc) (su rfl hr) ?_
  exact h0

theorem State.stepRamp_fr {c r : Nat} {s0 : State} {p0} {p1} (hc : c ||| 32896 = c) (hr : r ||| 0 = r) (h0 : Fr0 c r s0 p0) :
    Fr0 c r s0 (State.stepRamp p0 p1) := by
  unfold State.stepRamp
  extract_lets +onlyGivenNames -merge -useContext -underBinder x0
  try clear_value x0
  extract_lets +onlyGivenNames -merge -useContext -underBinder x1
  refine fr0_ite (fun _ => ?_) (fun _ => ?_)
  ·
    extract_lets +onlyGivenNames -merge -useContext -underBinder x2
    try clear_value x2
    refine fr_raw (u := p0) rfl (fun k hk => by cases k <;> first | rfl | exact bitx hc (by decide) hk) ?_
    exact h0
  ·
    refine fr0_ite (fun _ => ?_) (fun _ => ?_)
    ·
      refine fr_cal (su rfl hc) ?_
      exact h0
    ·
      exact h0

theorem State.captureRecheck_fr {c r : Nat} {s0 : State} {p0} (hc : c ||| 22548611328 = c) (hr : r ||| 155951448601133434903986176 = r) (h0 : Fr0 c r s0 p0) :
    Fr0 c r s0 (State.captureRecheck p0) := by
  unfold State.captureRecheck
  split
  ·
    refine State.abortCapture_fr (su rfl hc) (su rfl hr) ?_
    exact h0
  ·
    exact h0

theorem State.writeCrc_fr {c r : Nat} {s0 : State} {p0} {p1} {p2} {p3} {p4} (hc : c ||| 16778240 = c) (hr : r ||| 0 = r) (h0 : Fr0 c r s0 p0) :
    Fr0 c r s0 (State.writeCrc p0 p1 p2 p3 p4) := by
  unfold State.writeCrc
  extract_lets +onlyGivenNames -merge -useContext -underBinder x0
  extract_lets +onlyGivenNames -merge -useContext -underBinder x1
  try clear_value x1
  refine State.hbmWrite_fr (su rfl hc) (su rfl hr) ?_
  exact h0

theorem State.warnRender_fr {c r : Nat} {s0 : State} {p0} {p1} (hc : c ||| 1073741824 = c) (hr : r ||| 0 = r) (h0 : Fr0 c r s0 p0) :
    Fr0 c r s0 (State.warnRender p0 p1) := by
  unfold State.warnRender
  refine fr_hif (su rfl hc) ?_
  exact h0

theorem State.backstop_fr {c r : Nat} {s0 : State} {p0} (hc : c ||| 22548578304 = c) (hr : r ||| 210624583337138318638662084880752713810089414382092265307413413888 = r) (h0 : Fr0 c r s0 p0) :
    Fr0 c r s0 (State.backstop p0) := by
  unfold State.backstop
  refine State.warnRender_fr (su rfl hc) (su rfl hr) ?_
  refine State.note_fr (su rfl hc) (su rfl hr) ?_ ?_
  ·
    refine State.bump_fr (su rfl hc) (su rfl hr) ?_ ?_
    ·
      exact h0
    ·
      exact O.driveBackstopCount_ok (su rfl hr)
  ·
    exact O.pdpLastStatus_ok (su rfl hr)

theorem State.takeSums_fr {c r : Nat} {s0 : State} {p0} {p1} (hc : c ||| 22548709376 = c) (hr : r ||| 210624583337138318638662084880752713810089414382092265307413413888 = r) (h0 : Fr0 c r s0 p0) :
    Fr0 c r s0 (State.takeSums p0 p1) := by
  unfold State.takeSums
  extract_lets +onlyGivenNames -merge -useContext -underBinder x0
  try clear_value x0
  extract_lets +onlyGivenNames -merge -useContext -underBinder x1
  have hx2 : Fr0 c r s0 x1 := by
    refine State.modPdp_fr (su rfl hc) (su rfl hr) ?_
    exact h0
  try clear_value x1
  refine fr0_ite (fun _ => ?_) (fun _ => ?_)
  ·
    refine State.backstop_fr (su rfl hc) (su rfl hr) ?_
    exact hx2
  ·
    exact hx2

theorem State.writePiece_fr {c r : Nat} {s0 : State} {p0} {p1} {p2} {p3} {p4} {p5} (hc : c ||| 16778240 = c) (hr : r ||| 0 = r) (h0 : Fr0 c r s0 p0) :
    Fr0 c r s0 (State.writePiece p0 p1 p2 p3 p4 p5) := by
  unfold State.writePiece
  extract_lets +onlyGivenNames -merge -useContext -underBinder x0
  extract_lets +onlyGivenNames -merge -useContext -underBinder x1
  extract_lets +onlyGivenNames -merge -useContext -underBinder x2
  extract_lets +onlyGivenNames -merge -useContext -underBinder x3
  extract_lets +onlyGivenNames -merge -useContext -underBinder x4
  refine State.hbmWrite_fr (su rfl hc) (su rfl hr) ?_
  exact h0

theorem State.writePattern_fr {c r : Nat} {s0 : State} {p0} {p1} {p2} {p3} (hc : c ||| 91284964352 = c) (hr : r ||| 210624583337138318638662084880752713810089414382092265307413413888 = r) (h0 : Fr0 c r s0 p0) :
    Fr0 c r s0 (State.writePattern p0 p1 p2 p3) := by
  unfold State.writePattern
  split
  ·
    extract_lets +onlyGivenNames -merge -useContext -underBinder x0
    extract_lets +onlyGivenNames -merge -useContext -underBinder x1
    try clear_value x1
    extract_lets +onlyGivenNames -merge -useContext -underBinder x2
    try clear_value x2
    extract_lets +onlyGivenNames -merge -useContext -underBinder x3
    have hx4 : Fr0 c r s0 x3 := by
      refine State.drawFree_fr (su rfl hc) (su rfl hr) ?_
      exact h0
    try clear_value x3
    extract_lets +onlyGivenNames -merge -useContext -underBinder x5
    try clear_value x5
    refine fr0_foldl (fun ha6s _ ha6 => ?_) ?_
    ·
      extract_lets +onlyGivenNames -merge -useContext -underBinder x7
      try clear_value x7
      split
      ·
        refine State.writeCrc_fr (su rfl hc) (su rfl hr) ?_
        refine State.takeSums_fr (su rfl hc) (su rfl hr) ?_
        refine State.writePiece_fr (su rfl hc) (su rfl hr) ?_
        exact ha6
    ·
      exact hx4

theorem State.openPattern_fr {c r : Nat} {s0 : State} {p0} {p1} {p2} {p3} (hc : c ||| 91286128000 = c) (hr : r ||| 315936875054735362644288556031890250997950355107042161906496307200 = r) (h0 : Fr0 c r s0 p0) :
    Fr0 c r s0 (State.openPattern p0 p1 p2 p3) := by
  unfold State.openPattern
  extract_lets +onlyGivenNames -merge -useContext -underBinder x0
  have hx1 : Fr0 c r s0 x0 := by
    refine State.latchOpening_fr (su rfl hc) (su rfl hr) ?_
    exact h0
  try clear_value x0
  extract_lets +onlyGivenNames -merge -useContext -underBinder x2
  have hx3 : Fr0 c r s0 x2 := by
    unfold x2
    split
    ·
      refine State.stepRamp_fr (su rfl hc) (su rfl hr) ?_
      exact hx1
    ·
      exact hx1
  try clear_value x2
  extract_lets +onlyGivenNames -merge -useContext -underBinder x4
  try clear_value x4
  extract_lets +onlyGivenNames -merge -useContext -underBinder x5
  try clear_value x5
  extract_lets +onlyGivenNames -merge -useContext -underBinder x6
  try clear_value x6
  extract_lets +onlyGivenNames -merge -useContext -underBinder x7
  have hx8 : Fr0 c r s0 x7 := by
    refine State.modRse_fr (su rfl hc) (su rfl hr) ?_
    refine State.clearRse_fr (su rfl hc) (su rfl hr) ?_
    refine State.setBuf_fr (su rfl hc) (su rfl hr) ?_
    exact hx3
  try clear_value x7
  extract_lets +onlyGivenNames -merge -useContext -underBinder x9
  have hx10 : Fr0 c r s0 x9 := by
    unfold x9
    split
    ·
      refine State.modAdm_fr (su rfl hc) (su rfl hr) ?_
      exact hx8
    ·
      exact hx8
  try clear_value x9
  refine State.captureRecheck_fr (su rfl hc) (su rfl hr) ?_
  refine State.writePattern_fr (su rfl hc) (su rfl hr) ?_
  exact hx10

theorem State.fixCal_fr {c r : Nat} {s0 : State} {p0} {p1} (hc : c ||| 65536 = c) (hr : r ||| 8646911284551352320 = r) (h0 : Fr0 c r s0 p0) :
    Fr0 c r s0 (State.fixCal p0 p1) := by
  unfold State.fixCal
  refine State.refreshCal_fr (su rfl hc) (su rfl hr) ?_
  refine State.modRse_fr (su rfl hc) (su rfl hr) ?_
  exact h0

theorem State.applyThrottle_fr {c r : Nat} {s0 : State} {p0} {p1} (hc : c ||| 0 = c) (hr : r ||| 421249166674228746791672110734681729275580381602196445017243910144 = r) (h0 : Fr0 c r s0 p0) :
    Fr0 c r s0 (State.applyThrottle p0 p1) := by
  unfold State.applyThrottle
  refine State.put_fr (su rfl hc) (su rfl hr) ?_ ?_
  ·
    exact h0
  ·
    exact O.rseThrottleLevel_ok (su rfl hr)

theorem State.openFrame_fr {c r : Nat} {s0 : State} {p0} {p1} {p2} (hc : c ||| 22549872768 = c) (hr : r ||| 526561458391849736040124611399231115635584594468186162264772968448 = r) (h0 : Fr0 c r s0 p0) :
    Fr0 c r s0 (State.openFrame p0 p1 p2) := by
  unfold State.openFrame
  extract_lets +onlyGivenNames -merge -useContext -underBinder x0
  try clear_value x0
  extract_lets +onlyGivenNames -merge -useContext -underBinder x1
  have hx2 : Fr0 c r s0 x1 := by
    refine State.fixCal_fr (su rfl hc) (su rfl hr) ?_
    refine State.stepRamp_fr (su rfl hc) (su rfl hr) ?_
    refine State.latchOpening_fr (su rfl hc) (su rfl hr) ?_
    exact h0
  try clear_value x1
  extract_lets +onlyGivenNames -merge -useContext -underBinder x3
  have hx4 : Fr0 c r s0 x3 := by
    refine State.modAdm_fr (su rfl hc) (su rfl hr) ?_
    refine State.setBuf_fr (su rfl hc) (su rfl hr) ?_
    exact hx2
  try clear_value x3
  extract_lets +onlyGivenNames -merge -useContext -underBinder x5
  have hx6 : Fr0 c r s0 x5 := by
    refine fr0_ite (fun _ => ?_) (fun _ => ?_)
    ·
      exact hx4
    ·
      refine State.modRse_fr (su rfl hc) (su rfl hr) ?_
      refine State.clearRse_fr (su rfl hc) (su rfl hr) ?_
      exact hx4
  try clear_value x5
  refine State.applyThrottle_fr (su rfl hc) (su rfl hr) ?_
  refine State.modRse_fr (su rfl hc) (su rfl hr) ?_
  exact hx6

theorem cmdRenderWindowOpen_fr {c r : Nat} {s0 : State} {p0} (hc : c ||| 91286128008 = c) (hr : r ||| 737186041728964109435960666766571980273530736709238606923740217344 = r) (h0 : Fr0 c r s0 p0) :
    Fr0 c r s0 (cmdRenderWindowOpen p0) := by
  unfold cmdRenderWindowOpen
  refine fr0_ite (fun _ => ?_) (fun _ => ?_)
  ·
    exact h0
  ·
    split
    ·
      exact h0
    ·
      extract_lets +onlyGivenNames -merge -useContext -underBinder x0
      have hx1 : Fr0 c r s0 x0 := by
        refine State.captureStopDone_fr (su rfl hc) (su rfl hr) ?_
        exact h0
      try clear_value x0
      split
      ·
        extract_lets +onlyGivenNames -merge -useContext -underBinder x2
        have hx3 : Fr0 c r s0 x2 := by
          refine State.reach_fr (su rfl hc) (su rfl hr) ?_
          exact hx1
        try clear_value x2
        refine fr0_ite (fun _ => ?_) (fun _ => ?_)
        ·
          refine State.openPattern_fr (su rfl hc) (su rfl hr) ?_
          exact hx3
        ·
          refine State.openFrame_fr (su rfl hc) (su rfl hr) ?_
          exact hx3
      ·
        refine fr0_ite (fun _ => ?_) (fun _ => ?_)
        ·
          refine State.openPattern_fr (su rfl hc) (su rfl hr) ?_
          exact hx1
        ·
          exact hx1

theorem execRenderWindowOpen_fr {c r : Nat} {s0 t : State} {p0} (hc : c ||| 91286128008 = c) (hr : r ||| 737186041728964109435960666766571980273530736709238606923740217344 = r) (h0 : Fr0 c r s0 p0) (ht : execRenderWindowOpen p0 = .next t) :
    Fr0 c r s0 t := by
  unfold execRenderWindowOpen at ht
  injection ht with ht
  subst ht
  refine State.ifLive_fr (su rfl hc) (su rfl hr) ?_ ?_
  ·
    exact h0
  ·
    intro u0 hu1
    refine cmdRenderWindowOpen_fr (su rfl hc) (su rfl hr) ?_
    exact hu1

theorem cmdResetNAssert_fr {c r : Nat} {s0 : State} {p0} (hc : c ||| 92442723590 = c) (hr : r ||| 18446744073709551616 = r) (h0 : Fr0 c r s0 p0) :
    Fr0 c r s0 (cmdResetNAssert p0) := by
  unfold cmdResetNAssert
  refine fr0_ite (fun _ => ?_) (fun _ => ?_)
  ·
    exact h0
  ·
    extract_lets +onlyGivenNames -merge -useContext -underBinder x0
    try clear_value x0
    extract_lets +onlyGivenNames -merge -useContext -underBinder x1
    have hx2 : Fr0 c r s0 x1 := by
      refine fr0_ite (fun _ => ?_) (fun _ => ?_)
      ·
        refine stopRails_fr (su rfl hc) (su rfl hr) ?_
        refine tearNor_fr (su rfl hc) (su rfl hr) ?_
        refine silenceLanes_fr (su rfl hc) (su rfl hr) ?_
        exact h0
      ·
        exact h0
    try clear_value x1
    refine fr_raw (u := x1) rfl (fun k hk => by cases k <;> first | rfl | exact bitx hc (by decide) hk) ?_
    exact hx2

theorem execResetNAssert_fr {c r : Nat} {s0 t : State} {p0} (hc : c ||| 92442723590 = c) (hr : r ||| 18446744073709551616 = r) (h0 : Fr0 c r s0 p0) (ht : execResetNAssert p0 = .next t) :
    Fr0 c r s0 t := by
  unfold execResetNAssert at ht
  injection ht with ht
  subst ht
  refine cmdResetNAssert_fr (su rfl hc) (su rfl hr) ?_
  exact h0

theorem State.sendVerify_fr {c r : Nat} {s0 : State} {p0} {p1} {p2} {p3} (hc : c ||| 17180393472 = c) (hr : r ||| 0 = r) (h0 : Fr0 c r s0 p0) :
    Fr0 c r s0 (State.sendVerify p0 p1 p2 p3) := by
  unfold State.sendVerify
  refine State.sendPrbs_fr (su rfl hc) (su rfl hr) ?_
  refine State.sendLane_fr (su rfl hc) (su rfl hr) ?_
  exact h0

theorem cmdRetrainRealignDone_fr {c r : Nat} {s0 : State} {p0} {p1} {p2} (hc : c ||| 17180393472 = c) (hr : r ||| 95780971304118053647396689196903768711388734240587776 = r) (h0 : Fr0 c r s0 p0) :
    Fr0 c r s0 (cmdRetrainRealignDone p0 p1 p2) := by
  unfold cmdRetrainRealignDone
  refine fr0_ite (fun _ => ?_) (fun _ => ?_)
  ·
    exact h0
  ·
    split
    ·
      refine State.startTraining_fr (su rfl hc) (su rfl hr) ?_
      exact h0
    ·
      extract_lets +onlyGivenNames -merge -useContext -underBinder x0
      have hx1 : Fr0 c r s0 x0 := by
        refine State.sideRead_fr (su rfl hc) (su rfl hr) ?_
        refine fr0_foldl (fun ha2s _ ha2 => ?_) ?_
        ·
          refine State.sendVerify_fr (su rfl hc) (su rfl hr) ?_
          exact ha2
        ·
          exact h0
      try clear_value x0
      refine fr0_ite (fun _ => ?_) (fun _ => ?_)
      ·
        refine State.sendSync_fr (su rfl hc) (su rfl hr) ?_
        refine State.showSettings_fr (su rfl hc) (su rfl hr) ?_
        refine State.modSlot_fr (su rfl hc) (su rfl hr) ?_
        exact hx1
      ·
        refine State.startTraining_fr (su rfl hc) (su rfl hr) ?_
        exact hx1

theorem execRetrainRealignDone_fr {c r : Nat} {s0 t : State} {p0} {p1} {p2} (hc : c ||| 17180393472 = c) (hr : r ||| 95780971304118053647396689196903768711388734240587776 = r) (h2 : Fr0 c r s0 p2) (ht : execRetrainRealignDone p0 p1 p2 = .next t) :
    Fr0 c r s0 t := by
  unfold execRetrainRealignDone at ht
  injection ht with ht
  subst ht
  refine State.ifLive_fr (su rfl hc) (su rfl hr) ?_ ?_
  ·
    exact h2
  ·
    intro u0 hu1
    refine cmdRetrainRealignDone_fr (su rfl hc) (su rfl hr) ?_
    exact hu1

theorem cmdRxReadyAligned_fr {c r : Nat} {s0 : State} {p0} {p1} (hc : c ||| 17180393472 = c) (hr : r ||| 0 = r) (h0 : Fr0 c r s0 p0) :
    Fr0 c r s0 (cmdRxReadyAligned p0 p1) := by
  unfold cmdRxReadyAligned
  refine fr0_ite (fun _ => ?_) (fun _ => ?_)
  ·
    exact h0
  ·
    extract_lets +onlyGivenNames -merge -useContext -underBinder x0
    have hx1 : Fr0 c r s0 x0 := by
      refine State.sideWrite_fr (su rfl hc) (su rfl hr) ?_
      exact h0
    try clear_value x0
    extract_lets +onlyGivenNames -merge -useContext -underBinder x2
    have hx3 : Fr0 c r s0 x2 := by
      refine fr0_foldl (fun ha4s _ ha4 => ?_) ?_
      ·
        refine State.noteSweep_fr (su rfl hc) (su rfl hr) ?_
        refine State.sendSweep_fr (su rfl hc) (su rfl hr) ?_
        exact ha4
      ·
        exact hx1
    try clear_value x2
    refine State.modSlot_fr (su rfl hc) (su rfl hr) ?_
    exact hx3

theorem execRxReadyAligned_fr {c r : Nat} {s0 t : State} {p0} {p1} (hc : c ||| 17180393472 = c) (hr : r ||| 0 = r) (h1 : Fr0 c r s0 p1) (ht : execRxReadyAligned p0 p1 = .next t) :
    Fr0 c r s0 t := by
  unfold execRxReadyAligned at ht
  injection ht with ht
  subst ht
  refine State.ifLive_fr (su rfl hc) (su rfl hr) ?_ ?_
  ·
    exact h1
  ·
    intro u0 hu1
    refine cmdRxReadyAligned_fr (su rfl hc) (su rfl hr) ?_
    exact hu1

theorem State.sendSlip_fr {c r : Nat} {s0 : State} {p0} {p1} {p2} (hc : c ||| 17180393472 = c) (hr : r ||| 0 = r) (h0 : Fr0 c r s0 p0) :
    Fr0 c r s0 (State.sendSlip p0 p1 p2) := by
  unfold State.sendSlip
  refine fr0_foldl (fun ha0s _ ha0 => ?_) ?_
  ·
    refine fr0_ite (fun _ => ?_) (fun _ => ?_)
    ·
      exact ha0
    ·
      refine State.emit_fr (su rfl hc) (su rfl hr) ?_
      refine State.sendLane_fr (su rfl hc) (su rfl hr) ?_
      exact ha0
  ·
    exact h0

theorem State.sendSlips_fr {c r : Nat} {s0 : State} {p0} {p1} (hc : c ||| 17180393472 = c) (hr : r ||| 0 = r) (h0 : Fr0 c r s0 p0) :
    Fr0 c r s0 (State.sendSlips p0 p1) := by
  unfold State.sendSlips
  extract_lets +onlyGivenNames -merge -useContext -underBinder x0
  refine fr0_foldl (fun ha1s _ ha1 => ?_) ?_
  ·
    refine fr0_ite (fun _ => ?_) (fun _ => ?_)
    ·
      exact ha1
    ·
      refine State.sendSlip_fr (su rfl hc) (su rfl hr) ?_
      exact ha1
  ·
    exact h0

theorem State.lineErrors_fr {c r : Nat} {s0 : State} {p0} {p1} {p2} {p3} (hc : c ||| 22548578304 = c) (hr : r ||| 15576596480 = r) (h0 : Fr0 c r s0 p0) :
    Fr0 c r s0 (State.lineErrors p0 p1 p2 p3) := by
  unfold State.lineErrors
  refine fr0_foldl (fun ha0s _ ha0 => ?_) ?_
  ·
    refine State.eccUncorrectable_fr (su rfl hc) (su rfl hr) ?_
    exact ha0
  ·
    exact h0

theorem State.scanWarn_fr {c r : Nat} {s0 : State} {p0} {p1} (hc : c ||| 1048576 = c) (hr : r ||| 0 = r) (h0 : Fr0 c r s0 p0) :
    Fr0 c r s0 (State.scanWarn p0 p1) := by
  unfold State.scanWarn
  refine fr0_ite (fun _ => ?_) (fun _ => ?_)
  ·
    exact h0
  ·
    refine State.modScan_fr (su rfl hc) (su rfl hr) ?_
    exact h0

theorem State.lineFault_fr {c r : Nat} {s0 : State} {p0} {p1} {p2} {p3} {p4} (hc : c ||| 31139577856 = c) (hr : r ||| 23945242826029513411849172299530497921941178311245824 = r) (h0 : Fr0 c r s0 p0) :
    Fr0 c r s0 (State.lineFault p0 p1 p2 p3 p4) := by
  unfold State.lineFault
  refine State.scanWarn_fr (su rfl hc) (su rfl hr) ?_
  refine State.raise_fr (su rfl hc) (su rfl hr) ?_
  refine State.put_fr (su rfl hc) (su rfl hr) ?_ ?_
  ·
    exact h0
  ·
    exact O.pdpLastStatus_ok (su rfl hr)

theorem State.replaceLine_fr {c r : Nat} {s0 : State} {p0} {p1} {p2} {p3} {p4} (hc : c ||| 31139577856 = c) (hr : r ||| 2527495000045396425992858693921502224825781820111100611297343963136 = r) (h0 : Fr0 c r s0 p0) :
    Fr1 c r s0 (State.replaceLine p0 p1 p2 p3 p4) := by
  unfold State.replaceLine
  extract_lets +onlyGivenNames -merge -useContext -underBinder x0
  have hx1 : Fr0 c r s0 x0 := by
    refine State.bump_fr (su rfl hc) (su rfl hr) ?_ ?_
    ·
      exact h0
    ·
      exact O.lineCrcFailCount_ok (su rfl hr)
  try clear_value x0
  extract_lets +onlyGivenNames -merge -useContext -underBinder x2
  unfold x2; clear x2
  split
  ·
    refine fr1_mk ?_
    refine State.modScan_fr (su rfl hc) (su rfl hr) ?_
    refine State.bump_fr (su rfl hc) (su rfl hr) ?_ ?_
    ·
      refine State.lineFault_fr (su rfl hc) (su rfl hr) ?_
      exact hx1
    ·
      exact O.lineZeroedCount_ok (su rfl hr)
  ·
    extract_lets +onlyGivenNames -merge -useContext -underBinder x3
    try clear_value x3
    refine fr1_ite (fun _ => ?_) (fun _ => ?_)
    ·
      refine fr1_mk ?_
      refine State.lineFault_fr (su rfl hc) (su rfl hr) ?_
      exact hx1
    ·
      extract_lets +onlyGivenNames -merge -useContext -underBinder x4
      have hx5 : Fr0 c r s0 x4 := by
        refine State.lineErrors_fr (su rfl hc) (su rfl hr) ?_
        refine State.lineErrors_fr (su rfl hc) (su rfl hr) ?_
        exact hx1
      try clear_value x4
      extract_lets +onlyGivenNames -merge -useContext -underBinder x6
      try clear_value x6
      extract_lets +onlyGivenNames -merge -useContext -underBinder x7
      have hx8 : Fr0 c r s0 x7 := by
        refine fr_flt (su rfl hc) ?_
        exact hx5
      try clear_value x7
      refine fr1_mk ?_
      refine State.modScan_fr (su rfl hc) (su rfl hr) ?_
      refine State.bump_fr (su rfl hc) (su rfl hr) ?_ ?_
      ·
        refine State.lineFault_fr (su rfl hc) (su rfl hr) ?_
        exact hx8
      ·
        exact O.lineZeroedCount_ok (su rfl hr)

theorem State.fetchLine_fr {c r : Nat} {s0 : State} {p0} {p1} {p2} {p3} (hc : c ||| 99859054592 = c) (hr : r ||| 2527495000045396425992858693921502224825781820111100611297343963136 = r) (h0 : Fr0 c r s0 p0) :
    Fr1 c r s0 (State.fetchLine p0 p1 p2 p3) := by
  unfold State.fetchLine
  extract_lets +onlyGivenNames -merge -useContext -underBinder x0
  extract_lets +onlyGivenNames -merge -useContext -underBinder x1
  try clear_value x1
  extract_lets +onlyGivenNames -merge -useContext -underBinder x2
  try clear_value x2
  extract_lets +onlyGivenNames -merge -useContext -underBinder x3
  have hx4 : Fr0 c r s0 x3 := by
    refine State.lineErrors_fr (su rfl hc) (su rfl hr) ?_
    exact h0
  try clear_value x3
  extract_lets +onlyGivenNames -merge -useContext -underBinder x5
  have hx6 : Fr0 c r s0 x5 := by
    refine State.lineErrors_fr (su rfl hc) (su rfl hr) ?_
    exact hx4
  try clear_value x5
  extract_lets +onlyGivenNames -merge -useContext -underBinder x7
  have hx8 : Fr1 c r s0 x7 := by
    refine fr1_ite (fun _ => ?_) (fun _ => ?_)
    ·
      refine fr1_mk ?_
      refine State.drawFree_fr (su rfl hc) (su rfl hr) ?_
      exact hx4
    ·
      refine fr1_ite (fun _ => ?_) (fun _ => ?_)
      ·
        refine fr1_mk ?_
        exact hx6
      ·
        refine State.replaceLine_fr (su rfl hc) (su rfl hr) ?_
        exact hx6
  try clear_value x7
  refine fr1_ite (fun _ => ?_) (fun _ => ?_)
  ·
    refine fr1_mk ?_
    refine to1 ?_
    exact hx8
  ·
    exact hx8

theorem State.takeSpare_fr {c r : Nat} {s0 : State} {p0} {p1} {p2} (hc : c ||| 524288 = c) (hr : r ||| 0 = r) (h0 : Fr0 c r s0 p0) :
    Fr0 c r s0 (State.takeSpare p0 p1 p2) := by
  unfold State.takeSpare
  split
  ·
    refine fr0_ite (fun _ => ?_) (fun _ => ?_)
    ·
      refine State.modSlot_fr (su rfl hc) (su rfl hr) ?_
      exact h0
    ·
      exact h0
  ·
    exact h0

theorem State.sendActive_fr {c r : Nat} {s0 : State} {p0} {p1} {p2} {p3} (hc : c ||| 17180393472 = c) (hr : r ||| 0 = r) (h0 : Fr0 c r s0 p0) :
    Fr0 c r s0 (State.sendActive p0 p1 p2 p3) := by
  unfold State.sendActive
  extract_lets +onlyGivenNames -merge -useContext -underBinder x0
  try clear_value x0
  extract_lets +onlyGivenNames -merge -useContext -underBinder x1
  extract_lets +onlyGivenNames -merge -useContext -underBinder x2
  extract_lets +onlyGivenNames -merge -useContext -underBinder x3
  extract_lets +onlyGivenNames -merge -useContext -underBinder x4
  try clear_value x4
  extract_lets +onlyGivenNames -merge -useContext -underBinder x5
  try clear_value x5
  extract_lets +onlyGivenNames -merge -useContext -underBinder x6
  try clear_value x6
  extract_lets +onlyGivenNames -merge -useContext -underBinder x7
  try clear_value x7
  refine fr0_foldl (fun ha8s _ ha8 => ?_) ?_
  ·
    split
    ·
      refine State.sendIdle_fr (su rfl hc) (su rfl hr) ?_
      refine State.sendLane_fr (su rfl hc) (su rfl hr) ?_
      exact ha8
    ·
      refine fr0_ite (fun _ => ?_) (fun _ => ?_)
      ·
        refine State.sendIdle_fr (su rfl hc) (su rfl hr) ?_
        refine State.sendLane_fr (su rfl hc) (su rfl hr) ?_
        exact ha8
      ·
        exact ha8
  ·
    exact h0

theorem State.sendBlankingLine_fr {c r : Nat} {s0 : State} {p0} {p1} {p2} (hc : c ||| 17180393472 = c) (hr : r ||| 0 = r) (h0 : Fr0 c r s0 p0) :
    Fr0 c r s0 (State.sendBlankingLine p0 p1 p2) := by
  unfold State.sendBlankingLine
  refine State.idleLanes_fr (su rfl hc) (su rfl hr) ?_
  refine State.sendControl_fr (su rfl hc) (su rfl hr) ?_
  exact h0

theorem State.sendSlotLine_fr {c r : Nat} {s0 : State} {p0} {p1} {p2} {p3} (hc : c ||| 17180393472 = c) (hr : r ||| 0 = r) (h0 : Fr0 c r s0 p0) :
    Fr0 c r s0 (State.sendSlotLine p0 p1 p2 p3) := by
  unfold State.sendSlotLine
  extract_lets +onlyGivenNames -merge -useContext -underBinder x0
  have hx1 : Fr0 c r s0 x0 := by
    refine State.takeSpare_fr (su rfl hc) (su rfl hr) ?_
    exact h0
  try clear_value x0
  extract_lets +onlyGivenNames -merge -useContext -underBinder x2
  try clear_value x2
  refine fr0_ite (fun _ => ?_) (fun _ => ?_)
  ·
    refine State.modSlot_fr (su rfl hc) (su rfl hr) ?_
    refine State.idleLanes_fr (su rfl hc) (su rfl hr) ?_
    refine State.sendControl_fr (su rfl hc) (su rfl hr) ?_
    exact hx1
  ·
    refine fr0_ite (fun _ => ?_) (fun _ => ?_)
    ·
      exact hx1
    ·
      split
      ·
        refine State.sendActive_fr (su rfl hc) (su rfl hr) ?_
        exact hx1
      ·
        refine State.sendBlankingLine_fr (su rfl hc) (su rfl hr) ?_
        exact hx1

theorem State.sendHeadLine_fr {c r : Nat} {s0 : State} {p0} {p1} {p2} {p3} (hc : c ||| 99859578880 = c) (hr : r ||| 2527495000045396425992858693921502224825781820111100611297343963136 = r) (h0 : Fr0 c r s0 p0) :
    Fr0 c r s0 (State.sendHeadLine p0 p1 p2 p3) := by
  unfold State.sendHeadLine
  refine fr0_ite (fun _ => ?_) (fun _ => ?_)
  ·
    exact h0
  ·
    extract_lets +onlyGivenNames -merge -useContext -underBinder x0
    have hx1 : Fr0 c r s0 x0 := by
      refine fr0_ite (fun _ => ?_) (fun _ => ?_)
      ·
        refine State.sendSlips_fr (su rfl hc) (su rfl hr) ?_
        exact h0
      ·
        exact h0
    try clear_value x0
    extract_lets +onlyGivenNames -merge -useContext -underBinder x2
    have hx3 : Fr1 c r s0 x2 := by
      refine State.fetchLine_fr (su rfl hc) (su rfl hr) ?_
      exact hx1
    try clear_value x2
    extract_lets +onlyGivenNames -merge -useContext -underBinder x4
    have hx5 : Fr1 c r s0 x4 := by
      refine fr1_ite (fun _ => ?_) (fun _ => ?_)
      ·
        refine fr1_mk ?_
        refine to1 ?_
        exact hx3
      ·
        refine fr1_mk ?_
        exact hx1
    try clear_value x4
    refine fr0_foldl (fun ha6s _ ha6 => ?_) ?_
    ·
      refine State.sendSlotLine_fr (su rfl hc) (su rfl hr) ?_
      exact ha6
    ·
      refine to1 ?_
      exact hx5

theorem State.scanFault_fr {c r : Nat} {s0 : State} {p0} {p1} {p2} (hc : c ||| 31139577856 = c) (hr : r ||| 306916927898379527192576 = r) (h0 : Fr0 c r s0 p0) :
    Fr0 c r s0 (State.scanFault p0 p1 p2) := by
  unfold State.scanFault
  refine State.raise_fr (su rfl hc) (su rfl hr) ?_
  refine State.put_fr (su rfl hc) (su rfl hr) ?_ ?_
  ·
    exact h0
  ·
    exact O.scanLastStatus_ok (su rfl hr)

theorem State.desync_fr {c r : Nat} {s0 : State} {p0} {p1} (hc : c ||| 31140102144 = c) (hr : r ||| 196159429230833773869878804068956952075383567011686711302 = r) (h0 : Fr0 c r s0 p0) :
    Fr0 c r s0 (State.desync p0 p1) := by
  unfold State.desync
  refine State.endResync_fr (su rfl hc) (su rfl hr) ?_
  refine State.resync__fr (su rfl hc) (su rfl hr) ?_
  refine State.scanFault_fr (su rfl hc) (su rfl hr) ?_
  exact h0

theorem cmdScanLine_fr {c r : Nat} {s0 : State} {p0} {p1} {p2} {p3} {p4} (hc : c ||| 99876356104 = c) (hr : r ||| 2527495000241555855223695255384530845222631157234340360975765536774 = r) (h0 : Fr0 c r s0 p0) :
    Fr0 c r s0 (cmdScanLine p0 p1 p2 p3 p4) := by
  unfold cmdScanLine
  extract_lets +onlyGivenNames -merge -useContext -underBinder x0
  refine fr0_ite (fun _ => ?_) (fun _ => ?_)
  ·
    exact h0
  ·
    extract_lets +onlyGivenNames -merge -useContext -underBinder x1
    have hx2 : Fr0 c r s0 x1 := by
      refine State.eccCorrected_fr (su rfl hc) (su rfl hr) ?_
      refine State.reach_fr (su rfl hc) (su rfl hr) ?_
      exact h0
    try clear_value x1
    extract_lets +onlyGivenNames -merge -useContext -underBinder x3
    have hx4 : Fr0 c r s0 x3 := by
      refine State.sendHeadLine_fr (su rfl hc) (su rfl hr) ?_
      refine State.sendHeadLine_fr (su rfl hc) (su rfl hr) ?_
      exact hx2
    try clear_value x3
    extract_lets +onlyGivenNames -merge -useContext -underBinder x5
    have hx6 : Fr0 c r s0 x5 := by
      refine fr0_ite (fun _ => ?_) (fun _ => ?_)
      ·
        refine State.drawFree_fr (su rfl hc) (su rfl hr) ?_
        exact hx4
      ·
        exact hx4
    try clear_value x5
    extract_lets +onlyGivenNames -merge -useContext -underBinder x7
    have hx8 : Fr0 c r s0 x7 := by
      refine State.readAhead_fr (su rfl hc) (su rfl hr) ?_
      refine State.modScan_fr (su rfl hc) (su rfl hr) ?_
      exact hx6
    try clear_value x7
    extract_lets +onlyGivenNames -merge -useContext -underBinder x9
    have hx10 : Fr0 c r s0 x9 := by
      refine State.endResync_fr (su rfl hc) (su rfl hr) ?_
      exact hx8
    try clear_value x9
    extract_lets +onlyGivenNames -merge -useContext -underBinder x11
    have hx12 : Fr0 c r s0 x11 := by
      refine fr0_ite (fun _ => ?_) (fun _ => ?_)
      ·
        refine State.finishFirst_fr (su rfl hc) (su rfl hr) ?_
        exact hx10
      ·
        exact hx10
    try clear_value x11
    refine fr0_ite (fun _ => ?_) (fun _ => ?_)
    ·
      refine State.desync_fr (su rfl hc) (su rfl hr) ?_
      exact hx12
    ·
      exact hx12

theorem execScanLine_fr {c r : Nat} {s0 t : State} {p0} {p1} {p2} {p3} {p4} (hc : c ||| 99876356104 = c) (hr : r ||| 2527495000241555855223695255384530845222631157234340360975765536774 = r) (h3 : Fr0 c r s0 p3) (ht : execScanLine p0 p1 p2 p3 p4 = .next t) :
    Fr0 c r s0 t := by
  unfold execScanLine at ht
  injection ht with ht
  subst ht
  refine State.ifLive_fr (su rfl hc) (su rfl hr) ?_ ?_
  ·
    exact h3
  ·
    intro u0 hu1
    refine cmdScanLine_fr (su rfl hc) (su rfl hr) ?_
    exact hu1

theorem cmdScrubPass_fr {c r : Nat} {s0 : State} {p0} {p1} {p2} (hc : c ||| 22565355520 = c) (hr : r ||| 3369993333393829974333376885877453834204643052817571560154601619456 = r) (h0 : Fr0 c r s0 p0) :
    Fr0 c r s0 (cmdScrubPass p0 p1 p2) := by
  unfold cmdScrubPass
  refine fr0_ite (fun _ => ?_) (fun _ => ?_)
  ·
    exact h0
  ·
    extract_lets +onlyGivenNames -merge -useContext -underBinder x0
    try clear_value x0
    extract_lets +onlyGivenNames -merge -useContext -underBinder x1
    have hx2 : Fr0 c r s0 x1 := by
      refine State.eccCorrected_fr (su rfl hc) (su rfl hr) ?_
      refine State.eccAll_fr (su rfl hc) (su rfl hr) ?_
      exact h0
    try clear_value x1
    refine State.memRequest_fr (su rfl hc) (su rfl hr) ?_
    refine State.bump_fr (su rfl hc) (su rfl hr) ?_ ?_
    ·
      exact hx2
    ·
      exact O.memScrubPasses_ok (su rfl hr)

theorem execScrubPass_fr {c r : Nat} {s0 t : State} {p0} {p1} {p2} (hc : c ||| 22565355520 = c) (hr : r ||| 3369993333393829974333376885877453834204643052817571560154601619456 = r) (h1 : Fr0 c r s0 p1) (ht : execScrubPass p0 p1 p2 = .next t) :
    Fr0 c r s0 t := by
  unfold execScrubPass at ht
  injection ht with ht
  subst ht
  refine State.ifLive_fr (su rfl hc) (su rfl hr) ?_ ?_
  ·
    exact h1
  ·
    intro u0 hu1
    refine cmdScrubPass_fr (su rfl hc) (su rfl hr) ?_
    exact hu1

theorem execSegDoorbell_fr {c r : Nat} {s0 t : State} {p0} {p1} (hc : c ||| 31139577856 = c) (hr : r ||| 83076749736561927529482663500972036 = r) (h1 : Fr0 c r s0 p1) (ht : execSegDoorbell p0 p1 = .next t) :
    Fr0 c r s0 t := by
  unfold execSegDoorbell at ht
  injection ht with ht
  subst ht
  refine State.ifLive_fr (su rfl hc) (su rfl hr) ?_ ?_
  ·
    exact h1
  ·
    intro u0 hu1
    refine cmdSegDoorbell_fr (su rfl hc) (su rfl hr) ?_
    exact hu1

theorem State.popSegment_fr {c r : Nat} {s0 : State} {p0} {p1} (hc : c ||| 4096 = c) (hr : r ||| 0 = r) (h0 : Fr0 c r s0 p0) :
    Fr0 c r s0 (State.popSegment p0 p1) := by
  unfold State.popSegment
  refine State.modSdec_fr (su rfl hc) (su rfl hr) ?_
  exact h0

theorem State.discardSegment_fr {c r : Nat} {s0 : State} {p0} {p1} {p2} {p3} (hc : c ||| 4608 = c) (hr : r ||| 6739986666787659948666753771754907911798201349455188207642917994496 = r) (h0 : Fr0 c r s0 p0) :
    Fr0 c r s0 (State.discardSegment p0 p1 p2 p3) := by
  unfold State.discardSegment
  refine State.regateStream_fr (su rfl hc) (su rfl hr) ?_
  refine State.popSegment_fr (su rfl hc) (su rfl hr) ?_
  refine State.bump_fr (su rfl hc) (su rfl hr) ?_ ?_
  ·
    refine State.streamCode_fr (su rfl hc) (su rfl hr) ?_
    exact h0
  ·
    exact O.segBadCount_ok (su rfl hr)

theorem State.acceptSegment_fr {c r : Nat} {s0 : State} {p0} {p1} {p2} (hc : c ||| 4096 = c) (hr : r ||| 40439920000725959692000522630529446010455716633810858721655415373824 = r) (h0 : Fr0 c r s0 p0) :
    Fr0 c r s0 (State.acceptSegment p0 p1 p2) := by
  unfold State.acceptSegment
  extract_lets +onlyGivenNames -merge -useContext -underBinder x0
  extract_lets +onlyGivenNames -merge -useContext -underBinder x1
  have hx2 : Fr0 c r s0 x1 := by
    refine State.put_fr (su rfl hc) (su rfl hr) ?_ ?_
    ·
      refine State.bump_fr (su rfl hc) (su rfl hr) ?_ ?_
      ·
        exact h0
      ·
        exact O.segOkCount_ok (su rfl hr)
    ·
      exact O.streamCurrentId_ok (su rfl hr)
  try clear_value x1
  refine State.modSdec_fr (su rfl hc) (su rfl hr) ?_
  refine State.popSegment_fr (su rfl hc) (su rfl hr) ?_
  exact hx2

theorem State.retireAll_fr {c r : Nat} {s0 : State} {p0} (hc : c ||| 10240 = c) (hr : r ||| 0 = r) (h0 : Fr0 c r s0 p0) :
    Fr0 c r s0 (State.retireAll p0) := by
  unfold State.retireAll
  refine fr0_foldl (fun ha0s _ ha0 => ?_) ?_
  ·
    refine State.retireFig_fr (su rfl hc) (su rfl hr) ?_
    exact ha0
  ·
    exact h0

theorem cmdSegment_fr {c r : Nat} {s0 : State} {p0} {p1} {p2} (hc : c ||| 22565386752 = c) (hr : r ||| 101099800001814899230001306576323615269528206828347191891522204270080 = r) (h0 : Fr0 c r s0 p0) :
    Fr0 c r s0 (cmdSegment p0 p1 p2) := by
  unfold cmdSegment
  split
  ·
    exact h0
  ·
    refine fr0_ite (fun _ => ?_) (fun _ => ?_)
    ·
      exact h0
    ·
      extract_lets +onlyGivenNames -merge -useContext -underBinder x0
      have hx1 : Fr0 c r s0 x0 := by
        refine State.eccCorrected_fr (su rfl hc) (su rfl hr) ?_
        refine State.eccAll_fr (su rfl hc) (su rfl hr) ?_
        refine State.memRequest_fr (su rfl hc) (su rfl hr) ?_
        exact h0
      try clear_value x0
      refine fr0_ite (fun _ => ?_) (fun _ => ?_)
      ·
        refine State.discardSegment_fr (su rfl hc) (su rfl hr) ?_
        exact hx1
      ·
        refine fr0_ite (fun _ => ?_) (fun _ => ?_)
        ·
          refine State.acceptSegment_fr (su rfl hc) (su rfl hr) ?_
          refine State.settleRelief_fr (su rfl hc) (su rfl hr) ?_
          refine State.retireAll_fr (su rfl hc) (su rfl hr) ?_
          exact hx1
        ·
          split
          ·
            refine State.discardSegment_fr (su rfl hc) (su rfl hr) ?_
            exact hx1
          ·
            refine fr0_ite (fun _ => ?_) (fun _ => ?_)
            ·
              refine State.discardSegment_fr (su rfl hc) (su rfl hr) ?_
              exact hx1
            ·
              extract_lets +onlyGivenNames -merge -useContext -underBinder x2
              refine fr0_ite (fun _ => ?_) (fun _ => ?_)
              ·
                refine State.acceptSegment_fr (su rfl hc) (su rfl hr) ?_
                exact hx1
              ·
                refine fr0_ite (fun _ => ?_) (fun _ => ?_)
                ·
                  refine State.acceptSegment_fr (su rfl hc) (su rfl hr) ?_
                  refine State.bumpBy_fr (su rfl hc) (su rfl hr) ?_ ?_
                  ·
                    refine State.streamCode_fr (su rfl hc) (su rfl hr) ?_
                    exact hx1
                  ·
                    exact O.segLossCount_ok (su rfl hr)
                ·
                  refine State.regateStream_fr (su rfl hc) (su rfl hr) ?_
                  refine State.popSegment_fr (su rfl hc) (su rfl hr) ?_
                  refine State.streamCode_fr (su rfl hc) (su rfl hr) ?_
                  exact hx1

theorem execSegment_fr {c r : Nat} {s0 t : State} {p0} {p1} {p2} (hc : c ||| 22565386752 = c) (hr : r ||| 101099800001814899230001306576323615269528206828347191891522204270080 = r) (h1 : Fr0 c r s0 p1) (ht : execSegment p0 p1 p2 = .next t) :
    Fr0 c r s0 t := by
  unfold execSegment at ht
  injection ht with ht
  subst ht
  refine State.ifLive_fr (su rfl hc) (su rfl hr) ?_ ?_
  ·
    exact h1
  ·
    intro u0 hu1
    refine cmdSegment_fr (su rfl hc) (su rfl hr) ?_
    exact hu1

theorem segComplete_fr {c r : Nat} {s0 : State} {p0} {p1} {p2} (hc : c ||| 86973087744 = c) (hr : r ||| 4 = r) (h0 : Fr0 c r s0 p0) :
    Fr0 c r s0 (segComplete p0 p1 p2) := by
  unfold segComplete
  extract_lets +onlyGivenNames -merge -useContext -underBinder x0
  try clear_value x0
  extract_lets +onlyGivenNames -merge -useContext -underBinder x1
  extract_lets +onlyGivenNames -merge -useContext -underBinder x2
  have hx3 : Fr0 c r s0 x2 := by
    refine fr0_ite (fun _ => ?_) (fun _ => ?_)
    ·
      exact h0
    ·
      refine State.drawFree_fr (su rfl hc) (su rfl hr) ?_
      refine State.lastError_fr (su rfl hc) (su rfl hr) ?_
      refine State.put_fr (su rfl hc) (su rfl hr) ?_ ?_
      ·
        exact h0
      ·
        exact O.hifLastStatus_ok (su rfl hr)
  try clear_value x2
  extract_lets +onlyGivenNames -merge -useContext -underBinder x4
  have hx5 : Fr0 c r s0 x4 := by
    refine State.emit_fr (su rfl hc) (su rfl hr) ?_
    exact hx3
  try clear_value x4
  extract_lets +onlyGivenNames -merge -useContext -underBinder x6
  have hx7 : Fr0 c r s0 x6 := by
    refine State.modHif_fr (su rfl hc) (su rfl hr) ?_
    exact hx5
  try clear_value x6
  refine fr0_ite (fun _ => ?_) (fun _ => ?_)
  ·
    refine State.irq_fr (su rfl hc) (su rfl hr) ?_
    exact hx7
  ·
    exact hx7

theorem cmdSegmentDescriptorCopy_fr {c r : Nat} {s0 : State} {p0} {p1} {p2} (hc : c ||| 86989869568 = c) (hr : r ||| 754878506680217914250676422436549658861840043831136029470901086978052 = r) (h0 : Fr0 c r s0 p0) :
    Fr0 c r s0 (cmdSegmentDescriptorCopy p0 p1 p2) := by
  unfold cmdSegmentDescriptorCopy
  extract_lets +onlyGivenNames -merge -useContext -underBinder x0
  try clear_value x0
  refine fr0_ite (fun _ => ?_) (fun _ => ?_)
  ·
    exact h0
  ·
    refine fr0_ite (fun _ => ?_) (fun _ => ?_)
    ·
      refine segComplete_fr (su rfl hc) (su rfl hr) ?_
      exact h0
    ·
      refine fr0_ite (fun _ => ?_) (fun _ => ?_)
      ·
        refine segComplete_fr (su rfl hc) (su rfl hr) ?_
        exact h0
      ·
        extract_lets +onlyGivenNames -merge -useContext -underBinder x1
        refine fr0_ite (fun _ => ?_) (fun _ => ?_)
        ·
          refine State.modHif_fr (su rfl hc) (su rfl hr) ?_
          exact h0
        ·
          split
          ·
            refine segComplete_fr (su rfl hc) (su rfl hr) ?_
            refine State.bump_fr (su rfl hc) (su rfl hr) ?_ ?_
            ·
              exact h0
            ·
              exact O.dmaErrorCount_ok (su rfl hr)
          ·
            refine fr0_ite (fun _ => ?_) (fun _ => ?_)
            ·
              refine segComplete_fr (su rfl hc) (su rfl hr) ?_
              refine State.bump_fr (su rfl hc) (su rfl hr) ?_ ?_
              ·
                exact h0
              ·
                exact O.dmaErrorCount_ok (su rfl hr)
            ·
              refine segComplete_fr (su rfl hc) (su rfl hr) ?_
              refine State.bumpBy_fr (su rfl hc) (su rfl hr) ?_ ?_
              ·
                refine State.bump_fr (su rfl hc) (su rfl hr) ?_ ?_
                ·
                  refine State.enqueue_fr (su rfl hc) (su rfl hr) ?_
                  exact h0
                ·
                  exact O.segCopiedCount_ok (su rfl hr)
              ·
                exact O.segCopiedBytes_ok (su rfl hr)

theorem execSegmentDescriptorCopy_fr {c r : Nat} {s0 t : State} {p0} {p1} {p2} (hc : c ||| 86989869568 = c) (hr : r ||| 754878506680217914250676422436549658861840043831136029470901086978052 = r) (h2 : Fr0 c r s0 p2) (ht : execSegmentDescriptorCopy p0 p1 p2 = .next t) :
    Fr0 c r s0 t := by
  unfold execSegmentDescriptorCopy at ht
  injection ht with ht
  subst ht
  refine State.ifLive_fr (su rfl hc) (su rfl hr) ?_ ?_
  ·
    exact h2
  ·
    intro u0 hu1
    refine cmdSegmentDescriptorCopy_fr (su rfl hc) (su rfl hr) ?_
    exact hu1

theorem cmdSelfRefreshEntry_fr {c r : Nat} {s0 : State} {p0} {p1} (hc : c ||| 16777224 = c) (hr : r ||| 0 = r) (h0 : Fr0 c r s0 p0) :
    Fr0 c r s0 (cmdSelfRefreshEntry p0 p1) := by
  unfold cmdSelfRefreshEntry
  refine fr0_ite (fun _ => ?_) (fun _ => ?_)
  ·
    exact h0
  ·
    refine State.modStack_fr (su rfl hc) (su rfl hr) ?_
    refine State.elapseTo_fr (su rfl hc) (su rfl hr) ?_
    exact h0

theorem execSelfRefreshEntry_fr {c r : Nat} {s0 t : State} {p0} {p1} (hc : c ||| 16777224 = c) (hr : r ||| 0 = r) (h1 : Fr0 c r s0 p1) (ht : execSelfRefreshEntry p0 p1 = .next t) :
    Fr0 c r s0 t := by
  unfold execSelfRefreshEntry at ht
  injection ht with ht
  subst ht
  refine State.ifLive_fr (su rfl hc) (su rfl hr) ?_ ?_
  ·
    exact h1
  ·
    intro u0 hu1
    refine cmdSelfRefreshEntry_fr (su rfl hc) (su rfl hr) ?_
    exact hu1

theorem cmdSramUncorrectable_fr {c r : Nat} {s0 : State} {p0} (hc : c ||| 102484689072 = c) (hr : r ||| 632626352617984892346950221824 = r) (h0 : Fr0 c r s0 p0) :
    Fr0 c r s0 (cmdSramUncorrectable p0) := by
  unfold cmdSramUncorrectable
  refine fr0_ite (fun _ => ?_) (fun _ => ?_)
  ·
    refine State.warmReset_fr (su rfl hc) (su rfl hr) ?_
    exact h0
  ·
    exact h0

theorem execSramUncorrectable_fr {c r : Nat} {s0 t : State} {p0} (hc : c ||| 102484689072 = c) (hr : r ||| 632626352617984892346950221824 = r) (h0 : Fr0 c r s0 p0) (ht : execSramUncorrectable p0 = .next t) :
    Fr0 c r s0 t := by
  unfold execSramUncorrectable at ht
  injection ht with ht
  subst ht
  refine State.ifLive_fr (su rfl hc) (su rfl hr) ?_ ?_
  ·
    exact h0
  ·
    intro u0 hu1
    refine cmdSramUncorrectable_fr (su rfl hc) (su rfl hr) ?_
    exact hu1

theorem cmdStageVerified_fr {c r : Nat} {s0 : State} {p0} (hc : c ||| 22817013760 = c) (hr : r ||| 4436777100798802905238468558848 = r) (h0 : Fr0 c r s0 p0) :
    Fr0 c r s0 (cmdStageVerified p0) := by
  unfold cmdStageVerified
  split
  ·
    exact h0
  ·
    extract_lets +onlyGivenNames -merge -useContext -underBinder x0
    have hx1 : Fr0 c r s0 x0 := by
      refine State.modPln_fr (su rfl hc) (su rfl hr) ?_
      exact h0
    try clear_value x0
    refine fr0_ite (fun _ => ?_) (fun _ => ?_)
    ·
      refine State.put_fr (su rfl hc) (su rfl hr) ?_ ?_
      ·
        refine State.modPln_fr (su rfl hc) (su rfl hr) ?_
        refine State.putO_fr (su rfl hc) (su rfl hr) ?_ ?_
        ·
          refine State.put_fr (su rfl hc) (su rfl hr) ?_ ?_
          ·
            exact hx1
          ·
            exact O.plinthState_ok (su rfl hr)
        ·
          exact O.plinthStagedSet_ok (su rfl hr)
      ·
        exact O.plinthLastResult_ok (su rfl hr)
    ·
      refine State.plnNote_fr (su rfl hc) (su rfl hr) ?_
      exact hx1

theorem execStageVerified_fr {c r : Nat} {s0 t : State} {p0} (hc : c ||| 22817013760 = c) (hr : r ||| 4436777100798802905238468558848 = r) (h0 : Fr0 c r s0 p0) (ht : execStageVerified p0 = .next t) :
    Fr0 c r s0 t := by
  unfold execStageVerified at ht
  injection ht with ht
  subst ht
  refine State.ifLive_fr (su rfl hc) (su rfl hr) ?_ ?_
  ·
    exact h0
  ·
    intro u0 hu1
    refine cmdStageVerified_fr (su rfl hc) (su rfl hr) ?_
    exact hu1

theorem cmdStateJournalSave_fr {c r : Nat} {s0 : State} {p0} (hc : c ||| 68786585600 = c) (hr : r ||| 22300745198530623141535718272648361505980416 = r) (h0 : Fr0 c r s0 p0) :
    Fr0 c r s0 (cmdStateJournalSave p0) := by
  unfold cmdStateJournalSave
  refine fr0_ite (fun _ => ?_) (fun _ => ?_)
  ·
    refine State.saveState_fr (su rfl hc) (su rfl hr) ?_
    exact h0
  ·
    exact h0

theorem execStateJournalSave_fr {c r : Nat} {s0 t : State} {p0} (hc : c ||| 68786585600 = c) (hr : r ||| 22300745198530623141535718272648361505980416 = r) (h0 : Fr0 c r s0 p0) (ht : execStateJournalSave p0 = .next t) :
    Fr0 c r s0 t := by
  unfold execStateJournalSave at ht
  injection ht with ht
  subst ht
  refine State.ifLive_fr (su rfl hc) (su rfl hr) ?_ ?_
  ·
    exact h0
  ·
    intro u0 hu1
    refine cmdStateJournalSave_fr (su rfl hc) (su rfl hr) ?_
    exact hu1

theorem execStreamSourceWrite_fr {c r : Nat} {s0 t : State} {p0} {p1} {p2} (hc : c ||| 103028671480 = c) (hr : r ||| 10141204801825835211972283334656 = r) (h2 : Fr0 c r s0 p2) (ht : execStreamSourceWrite p0 p1 p2 = .next t) :
    Fr0 c r s0 t := by
  unfold execStreamSourceWrite at ht
  injection ht with ht
  subst ht
  refine State.ifLive_fr (su rfl hc) (su rfl hr) ?_ ?_
  ·
    exact h2
  ·
    intro u0 hu1
    refine rowWrite_fr (su rfl hc) (su rfl hr) ?_
    exact hu1

theorem cmdSwapCopyDone_fr {c r : Nat} {s0 : State} {p0} (hc : c ||| 103028671480 = c) (hr : r ||| 10141204801825835211920743727104 = r) (h0 : Fr0 c r s0 p0) :
    Fr0 c r s0 (cmdSwapCopyDone p0) := by
  unfold cmdSwapCopyDone
  refine fr0_ite (fun _ => ?_) (fun _ => ?_)
  ·
    exact h0
  ·
    extract_lets +onlyGivenNames -merge -useContext -underBinder x0
    try clear_value x0
    extract_lets +onlyGivenNames -merge -useContext -underBinder x1
    try clear_value x1
    extract_lets +onlyGivenNames -merge -useContext -underBinder x2
    have hx3 : Fr0 c r s0 x2 := by
      refine fr_raw (u := p0) rfl (fun k hk => by cases k <;> first | rfl | exact bitx hc (by decide) hk) ?_
      exact h0
    try clear_value x2
    refine fr0_foldl (fun ha4s _ ha4 => ?_) ?_
    ·
      refine State.serve_fr (su rfl hc) (su rfl hr) ?_
      exact ha4
    ·
      exact hx3

theorem execSwapCopyDone_fr {c r : Nat} {s0 t : State} {p0} (hc : c ||| 103028671480 = c) (hr : r ||| 10141204801825835211920743727104 = r) (h0 : Fr0 c r s0 p0) (ht : execSwapCopyDone p0 = .next t) :
    Fr0 c r s0 t := by
  unfold execSwapCopyDone at ht
  injection ht with ht
  subst ht
  refine State.ifLive_fr (su rfl hc) (su rfl hr) ?_ ?_
  ·
    exact h0
  ·
    intro u0 hu1
    refine cmdSwapCopyDone_fr (su rfl hc) (su rfl hr) ?_
    exact hu1

theorem execSwapRequest_fr {c r : Nat} {s0 t : State} {p0} {p1} (hc : c ||| 103028671480 = c) (hr : r ||| 10141204801825835211972283334656 = r) (h1 : Fr0 c r s0 p1) (ht : execSwapRequest p0 p1 = .next t) :
    Fr0 c r s0 t := by
  unfold execSwapRequest at ht
  injection ht with ht
  subst ht
  refine State.ifLive_fr (su rfl hc) (su rfl hr) ?_ ?_
  ·
    exact h1
  ·
    intro u0 hu1
    refine rowWrite_fr (su rfl hc) (su rfl hr) ?_
    exact hu1

theorem execSwapValidationDone_fr {c r : Nat} {s0 t : State} {p0} (hc : c ||| 24704483760 = c) (hr : r ||| 39772450557372536850144559104 = r) (h0 : Fr0 c r s0 p0) (ht : execSwapValidationDone p0 = .next t) :
    Fr0 c r s0 t := by
  unfold execSwapValidationDone at ht
  injection ht with ht
  subst ht
  refine State.ifLive_fr (su rfl hc) (su rfl hr) ?_ ?_
  ·
    exact h0
  ·
    intro u0 hu1
    refine cmdSwapValidationDone_fr (su rfl hc) (su rfl hr) ?_
    exact hu1

theorem State.laneFailed_fr {c r : Nat} {s0 : State} {p0} {p1} {p2} {p3} (hc : c ||| 31140102144 = c) (hr : r ||| 187072209578355573530071658904045889631877996740608 = r) (h0 : Fr0 c r s0 p0) :
    Fr0 c r s0 (State.laneFailed p0 p1 p2 p3) := by
  unfold State.laneFailed
  extract_lets +onlyGivenNames -merge -useContext -underBinder x0
  have hx1 : Fr0 c r s0 x0 := by
    refine State.setLaneState_fr (su rfl hc) (su rfl hr) ?_
    exact h0
  try clear_value x0
  refine fr0_ite (fun _ => ?_) (fun _ => ?_)
  ·
    exact hx1
  ·
    refine fr0_ite (fun _ => ?_) (fun _ => ?_)
    ·
      extract_lets +onlyGivenNames -merge -useContext -underBinder x2
      have hx3 : Fr0 c r s0 x2 := by
        refine State.setSlotState_fr (su rfl hc) (su rfl hr) ?_
        refine State.modSlot_fr (su rfl hc) (su rfl hr) ?_
        exact hx1
      try clear_value x2
      refine State.linkFault_fr (su rfl hc) (su rfl hr) ?_
      exact hx3
    ·
      refine State.linkFault_fr (su rfl hc) (su rfl hr) ?_
      exact hx1

theorem cmdSweepDone_fr {c r : Nat} {s0 : State} {p0} {p1} {p2} (hc : c ||| 31140102152 = c) (hr : r ||| 187072209578355573530071658904045889631877996740608 = r) (h0 : Fr0 c r s0 p0) :
    Fr0 c r s0 (cmdSweepDone p0 p1 p2) := by
  unfold cmdSweepDone
  extract_lets +onlyGivenNames -merge -useContext -underBinder x0
  try clear_value x0
  refine fr0_ite (fun _ => ?_) (fun _ => ?_)
  ·
    extract_lets +onlyGivenNames -merge -useContext -underBinder x1
    have hx2 : Fr0 c r s0 x1 := by
      refine State.sideRead_fr (su rfl hc) (su rfl hr) ?_
      refine State.elapseTo_fr (su rfl hc) (su rfl hr) ?_
      exact h0
    try clear_value x1
    extract_lets +onlyGivenNames -merge -useContext -underBinder x3
    try clear_value x3
    extract_lets +onlyGivenNames -merge -useContext -underBinder x4
    try clear_value x4
    extract_lets +onlyGivenNames -merge -useContext -underBinder x5
    have hx6 : Fr0 c r s0 x5 := by
      refine State.sideWrite_fr (su rfl hc) (su rfl hr) ?_
      exact hx2
    try clear_value x5
    extract_lets +onlyGivenNames -merge -useContext -underBinder x7
    have hx8 : Fr0 c r s0 x7 := by
      refine fr0_foldl (fun ha9s _ ha9 => ?_) ?_
      ·
        refine State.sendVerify_fr (su rfl hc) (su rfl hr) ?_
        exact ha9
      ·
        exact hx6
    try clear_value x7
    refine State.modSlot_fr (su rfl hc) (su rfl hr) ?_
    exact hx8
  ·
    extract_lets +onlyGivenNames -merge -useContext -underBinder x10
    try clear_value x10
    extract_lets +onlyGivenNames -merge -useContext -underBinder x11
    extract_lets +onlyGivenNames -merge -useContext -underBinder x12
    have hx13 : Fr0 c r s0 x12 := by
      refine fr0_ite (fun _ => ?_) (fun _ => ?_)
      ·
        exact h0
      ·
        refine State.sideRead_fr (su rfl hc) (su rfl hr) ?_
        refine State.elapseTo_fr (su rfl hc) (su rfl hr) ?_
        exact h0
    try clear_value x12
    refine fr0_foldl (fun ha14s _ ha14 => ?_) ?_
    ·
      split
      ·
        refine State.laneFailed_fr (su rfl hc) (su rfl hr) ?_
        refine State.modSlot_fr (su rfl hc) (su rfl hr) ?_
        exact ha14
      ·
        extract_lets +onlyGivenNames -merge -useContext -underBinder x15
        have hx16 : Fr0 c r s0 x15 := by
          refine State.sendVerify_fr (su rfl hc) (su rfl hr) ?_
          refine State.sideWrite_fr (su rfl hc) (su rfl hr) ?_
          exact ha14
        try clear_value x15
        refine State.modSlot_fr (su rfl hc) (su rfl hr) ?_
        exact hx16
    ·
      exact hx13

theorem execSweepDone_fr {c r : Nat} {s0 t : State} {p0} {p1} {p2} (hc : c ||| 31140102152 = c) (hr : r ||| 187072209578355573530071658904045889631877996740608 = r) (h2 : Fr0 c r s0 p2) (ht : execSweepDone p0 p1 p2 = .next t) :
    Fr0 c r s0 t := by
  unfold execSweepDone at ht
  injection ht with ht
  subst ht
  refine State.ifLive_fr (su rfl hc) (su rfl hr) ?_ ?_
  ·
    exact h2
  ·
    intro u0 hu1
    refine cmdSweepDone_fr (su rfl hc) (su rfl hr) ?_
    exact hu1

theorem cmdSyncRx_fr {c r : Nat} {s0 : State} {p0} {p1} {p2} (hc : c ||| 31147966472 = c) (hr : r ||| 3213876088611516655873101971447361034342933573818287646310400 = r) (h0 : Fr0 c r s0 p0) :
    Fr0 c r s0 (cmdSyncRx p0 p1 p2) := by
  unfold cmdSyncRx
  refine fr0_ite (fun _ => ?_) (fun _ => ?_)
  ·
    exact h0
  ·
    extract_lets +onlyGivenNames -merge -useContext -underBinder x0
    have hx1 : Fr0 c r s0 x0 := by
      refine State.reach_fr (su rfl hc) (su rfl hr) ?_
      exact h0
    try clear_value x0
    refine fr0_ite (fun _ => ?_) (fun _ => ?_)
    ·
      exact hx1
    ·
      refine fr0_ite (fun _ => ?_) (fun _ => ?_)
      ·
        refine State.modPtp_fr (su rfl hc) (su rfl hr) ?_
        exact hx1
      ·
        refine State.useSync_fr (su rfl hc) (su rfl hr) ?_
        exact hx1

theorem execSyncRx_fr {c r : Nat} {s0 t : State} {p0} {p1} {p2} (hc : c ||| 31147966472 = c) (hr : r ||| 3213876088611516655873101971447361034342933573818287646310400 = r) (h2 : Fr0 c r s0 p2) (ht : execSyncRx p0 p1 p2 = .next t) :
    Fr0 c r s0 t := by
  unfold execSyncRx at ht
  injection ht with ht
  subst ht
  refine State.ifLive_fr (su rfl hc) (su rfl hr) ?_ ?_
  ·
    exact h2
  ·
    intro u0 hu1
    refine cmdSyncRx_fr (su rfl hc) (su rfl hr) ?_
    exact hu1

theorem State.takeTelemetry_fr {c r : Nat} {s0 : State} {p0} {p1} {p2} (hc : c ||| 31140134912 = c) (hr : r ||| 862718396192855330137037153078071076770039141060480716862479215362048 = r) (h0 : Fr0 c r s0 p0) :
    Fr0 c r s0 (State.takeTelemetry p0 p1 p2) := by
  unfold State.takeTelemetry
  extract_lets +onlyGivenNames -merge -useContext -underBinder x0
  extract_lets +onlyGivenNames -merge -useContext -underBinder x1
  extract_lets +onlyGivenNames -merge -useContext -underBinder x2
  extract_lets +onlyGivenNames -merge -useContext -underBinder x3
  try clear_value x3
  extract_lets +onlyGivenNames -merge -useContext -underBinder x4
  have hx5 : Fr0 c r s0 x4 := by
    refine State.putO_fr (su rfl hc) (su rfl hr) ?_ ?_
    ·
      refine State.sidebandOk_fr (su rfl hc) (su rfl hr) ?_
      exact h0
    ·
      exact O.partnerTelemetry_ok (su rfl hr)
  try clear_value x4
  extract_lets +onlyGivenNames -merge -useContext -underBinder x6
  extract_lets +onlyGivenNames -merge -useContext -underBinder x7
  have hx8 : Fr0 c r s0 x7 := by
    refine State.bumpBy_fr (su rfl hc) (su rfl hr) ?_ ?_
    ·
      refine State.modSlot_fr (su rfl hc) (su rfl hr) ?_
      exact hx5
    ·
      exact O.partnerCrcCount_ok (su rfl hr)
  try clear_value x7
  extract_lets +onlyGivenNames -merge -useContext -underBinder x9
  try clear_value x9
  extract_lets +onlyGivenNames -merge -useContext -underBinder x10
  have hx11 : Fr0 c r s0 x10 := by
    refine fr0_ite (fun _ => ?_) (fun _ => ?_)
    ·
      refine State.linkFault_fr (su rfl hc) (su rfl hr) ?_
      exact hx8
    ·
      exact hx8
  try clear_value x10
  extract_lets +onlyGivenNames -merge -useContext -underBinder x12
  try clear_value x12
  extract_lets +onlyGivenNames -merge -useContext -underBinder x13
  have hx14 : Fr0 c r s0 x13 := by
    refine fr0_ite (fun _ => ?_) (fun _ => ?_)
    ·
      refine State.modSlot_fr (su rfl hc) (su rfl hr) ?_
      refine State.raise_fr (su rfl hc) (su rfl hr) ?_
      refine State.put_fr (su rfl hc) (su rfl hr) ?_ ?_
      ·
        exact hx11
      ·
        exact O.pdpLastStatus_ok (su rfl hr)
    ·
      exact hx11
  try clear_value x13
  refine State.updateTMeas_fr (su rfl hc) (su rfl hr) ?_
  exact hx14

theorem cmdTelemetryRead_fr {c r : Nat} {s0 : State} {p0} {p1} {p2} (hc : c ||| 31140134912 = c) (hr : r ||| 862718396192855330137037153078071076770039141060480716862479215362048 = r) (h0 : Fr0 c r s0 p0) :
    Fr0 c r s0 (cmdTelemetryRead p0 p1 p2) := by
  unfold cmdTelemetryRead
  refine fr0_ite (fun _ => ?_) (fun _ => ?_)
  ·
    exact h0
  ·
    extract_lets +onlyGivenNames -merge -useContext -underBinder x0
    try clear_value x0
    extract_lets +onlyGivenNames -merge -useContext -underBinder x1
    have hx2 : Fr0 c r s0 x1 := by
      refine State.modSlot_fr (su rfl hc) (su rfl hr) ?_
      refine fr0_ite (fun _ => ?_) (fun _ => ?_)
      ·
        exact h0
      ·
        refine State.sideRead_fr (su rfl hc) (su rfl hr) ?_
        exact h0
    try clear_value x1
    split
    ·
      refine State.sidebandFailed_fr (su rfl hc) (su rfl hr) ?_
      exact hx2
    ·
      refine fr0_ite (fun _ => ?_) (fun _ => ?_)
      ·
        refine State.takeTelemetry_fr (su rfl hc) (su rfl hr) ?_
        exact hx2
      ·
        refine fr0_ite (fun _ => ?_) (fun _ => ?_)
        ·
          exact hx2
        ·
          refine State.modSlot_fr (su rfl hc) (su rfl hr) ?_
          refine State.sideRead_fr (su rfl hc) (su rfl hr) ?_
          exact hx2

theorem execTelemetryRead_fr {c r : Nat} {s0 t : State} {p0} {p1} {p2} (hc : c ||| 31140134912 = c) (hr : r ||| 862718396192855330137037153078071076770039141060480716862479215362048 = r) (h2 : Fr0 c r s0 p2) (ht : execTelemetryRead p0 p1 p2 = .next t) :
    Fr0 c r s0 t := by
  unfold execTelemetryRead at ht
  injection ht with ht
  subst ht
  refine State.ifLive_fr (su rfl hc) (su rfl hr) ?_ ?_
  ·
    exact h2
  ·
    intro u0 hu1
    refine cmdTelemetryRead_fr (su rfl hc) (su rfl hr) ?_
    exact hu1

theorem restartNow_fr {c r : Nat} {s0 : State} {p0} {p1} (hc : c ||| 103079215086 = c) (hr : r ||| 2923003273981243698751065354477656574194643501056 = r) (h0 : Fr0 c r s0 p0) :
    Fr0 c r s0 (restartNow p0 p1) := by
  unfold restartNow
  refine fr0_ite (fun _ => ?_) (fun _ => ?_)
  ·
    refine State.modThm_fr (su rfl hc) (su rfl hr) ?_
    exact h0
  ·
    refine State.coldStart_fr (su rfl hc) (su rfl hr) ?_
    refine State.modThm_fr (su rfl hc) (su rfl hr) ?_
    exact h0

theorem cmdThermalRestart_fr {c r : Nat} {s0 : State} {p0} {p1} (hc : c ||| 103079215086 = c) (hr : r ||| 2923003273981243698751065354477656574194643501056 = r) (h0 : Fr0 c r s0 p0) :
    Fr0 c r s0 (cmdThermalRestart p0 p1) := by
  unfold cmdThermalRestart
  split
  ·
    exact h0
  ·
    refine fr0_ite (fun _ => ?_) (fun _ => ?_)
    ·
      exact h0
    ·
      refine restartNow_fr (su rfl hc) (su rfl hr) ?_
      refine State.elapseTo_fr (su rfl hc) (su rfl hr) ?_
      exact h0

theorem execThermalRestart_fr {c r : Nat} {s0 t : State} {p0} {p1} (hc : c ||| 103079215086 = c) (hr : r ||| 2923003273981243698751065354477656574194643501056 = r) (h0 : Fr0 c r s0 p0) (ht : execThermalRestart p0 p1 = .next t) :
    Fr0 c r s0 t := by
  unfold execThermalRestart at ht
  injection ht with ht
  subst ht
  refine cmdThermalRestart_fr (su rfl hc) (su rfl hr) ?_
  exact h0

theorem takeSample_fr {c r : Nat} {s0 : State} {p0} {p1} (hc : c ||| 33554432 = c) (hr : r ||| 12078056106883486628010822758984794541789440701298176471534417391648768 = r) (h0 : Fr0 c r s0 p0) :
    Fr0 c r s0 (takeSample p0 p1) := by
  unfold takeSample
  extract_lets +onlyGivenNames -merge -useContext -underBinder x0
  try clear_value x0
  extract_lets +onlyGivenNames -merge -useContext -underBinder x1
  try clear_value x1
  extract_lets +onlyGivenNames -merge -useContext -underBinder x2
  try clear_value x2
  extract_lets +onlyGivenNames -merge -useContext -underBinder x3
  try clear_value x3
  extract_lets +onlyGivenNames -merge -useContext -underBinder x4
  have hx5 : Fr0 c r s0 x4 := by
    refine State.modThm_fr (su rfl hc) (su rfl hr) ?_
    exact h0
  try clear_value x4
  refine State.put_fr (su rfl hc) (su rfl hr) ?_ ?_
  ·
    refine State.put_fr (su rfl hc) (su rfl hr) ?_ ?_
    ·
      refine State.put_fr (su rfl hc) (su rfl hr) ?_ ?_
      ·
        exact hx5
      ·
        exact O.thmTj_ok (su rfl hr)
    ·
      exact O.thmTjSensor_ok (su rfl hr)
  ·
    exact O.thmExcludedMask_ok (su rfl hr)

theorem limitStart_fr {c r : Nat} {s0 : State} {p0} (hc : c ||| 22582132736 = c) (hr : r ||| 1461501637330902918203684832716283019655939883008 = r) (h0 : Fr0 c r s0 p0) :
    Fr0 c r s0 (limitStart p0) := by
  unfold limitStart
  refine fr0_ite (fun _ => ?_) (fun _ => ?_)
  ·
    refine State.modThm_fr (su rfl hc) (su rfl hr) ?_
    exact h0
  ·
    refine fr0_ite (fun _ => ?_) (fun _ => ?_)
    ·
      exact h0
    ·
      refine State.thmNote_fr (su rfl hc) (su rfl hr) ?_
      refine State.modThm_fr (su rfl hc) (su rfl hr) ?_
      exact h0

theorem State.excludeSensor_fr {c r : Nat} {s0 : State} {p0} {p1} (hc : c ||| 31139577856 = c) (hr : r ||| 1461501637330902918203685139633210918035459670016 = r) (h0 : Fr0 c r s0 p0) :
    Fr0 c r s0 (State.excludeSensor p0 p1) := by
  unfold State.excludeSensor
  split
  ·
    exact h0
  ·
    extract_lets +onlyGivenNames -merge -useContext -underBinder x0
    try clear_value x0
    extract_lets +onlyGivenNames -merge -useContext -underBinder x1
    have hx2 : Fr0 c r s0 x1 := by
      refine fr_flt (su rfl hc) ?_
      exact h0
    try clear_value x1
    refine State.raise_fr (su rfl hc) (su rfl hr) ?_
    refine State.put_fr (su rfl hc) (su rfl hr) ?_ ?_
    ·
      exact hx2
    ·
      exact O.thmLastStatus_ok (su rfl hr)

theorem State.restoreSensor_fr {c r : Nat} {s0 : State} {p0} {p1} (hc : c ||| 31139577856 = c) (hr : r ||| 1461501637330902918203684837401756014378165993472 = r) (h0 : Fr0 c r s0 p0) :
    Fr0 c r s0 (State.restoreSensor p0 p1) := by
  unfold State.restoreSensor
  refine State.settleIf_fr (su rfl hc) (su rfl hr) ?_
  refine State.thmNote_fr (su rfl hc) (su rfl hr) ?_
  exact h0

theorem State.sensorEvents_fr {c r : Nat} {s0 : State} {p0} {p1} {p2} (hc : c ||| 31139577856 = c) (hr : r ||| 1461501637330902918203685139633210918035459670016 = r) (h0 : Fr0 c r s0 p0) :
    Fr0 c r s0 (State.sensorEvents p0 p1 p2) := by
  unfold State.sensorEvents
  refine fr0_foldl (fun ha0s _ ha0 => ?_) ?_
  ·
    extract_lets +onlyGivenNames -merge -useContext -underBinder x1
    try clear_value x1
    extract_lets +onlyGivenNames -merge -useContext -underBinder x2
    try clear_value x2
    extract_lets +onlyGivenNames -merge -useContext -underBinder x3
    have hx4 : Fr0 c r s0 x3 := by
      refine fr0_ite (fun _ => ?_) (fun _ => ?_)
      ·
        refine State.excludeSensor_fr (su rfl hc) (su rfl hr) ?_
        exact ha0
      ·
        refine fr0_ite (fun _ => ?_) (fun _ => ?_)
        ·
          refine State.restoreSensor_fr (su rfl hc) (su rfl hr) ?_
          exact ha0
        ·
          exact ha0
    try clear_value x3
    refine fr0_ite (fun _ => ?_) (fun _ => ?_)
    ·
      refine State.postFault_fr (su rfl hc) (su rfl hr) ?_
      refine State.put_fr (su rfl hc) (su rfl hr) ?_ ?_
      ·
        exact hx4
      ·
        exact O.thmLastStatus_ok (su rfl hr)
    ·
      exact hx4
  ·
    exact h0

theorem sampleStack_fr {c r : Nat} {s0 : State} {p0} {p1} {p2} (hc : c ||| 31156355072 = c) (hr : r ||| 13803492693581127574869511724554050904902217944647690038223428511596544 = r) (h0 : Fr0 c r s0 p0) :
    Fr0 c r s0 (sampleStack p0 p1 p2) := by
  unfold sampleStack
  extract_lets +onlyGivenNames -merge -useContext -underBinder x0
  try clear_value x0
  split
  ·
    extract_lets +onlyGivenNames -merge -useContext -underBinder x1
    have hx2 : Fr0 c r s0 x1 := by
      refine State.modStack_fr (su rfl hc) (su rfl hr) ?_
      exact h0
    try clear_value x1
    refine fr0_ite (fun _ => ?_) (fun _ => ?_)
    ·
      exact hx2
    ·
      refine State.raise_fr (su rfl hc) (su rfl hr) ?_
      refine State.put_fr (su rfl hc) (su rfl hr) ?_ ?_
      ·
        refine State.modStack_fr (su rfl hc) (su rfl hr) ?_
        exact hx2
      ·
        exact O.memLastStatus_ok (su rfl hr)
  ·
    extract_lets +onlyGivenNames -merge -useContext -underBinder x3
    try clear_value x3
    extract_lets +onlyGivenNames -merge -useContext -underBinder x4
    have hx5 : Fr0 c r s0 x4 := by
      refine State.put_fr (su rfl hc) (su rfl hr) ?_ ?_
      ·
        refine State.modStack_fr (su rfl hc) (su rfl hr) ?_
        exact h0
      ·
        exact O.memStackTemp_ok (su rfl hr)
    try clear_value x4
    extract_lets +onlyGivenNames -merge -useContext -underBinder x6
    have hx7 : Fr0 c r s0 x6 := by
      refine fr0_ite (fun _ => ?_) (fun _ => ?_)
      ·
        refine State.settleIf_fr (su rfl hc) (su rfl hr) ?_
        refine State.modStack_fr (su rfl hc) (su rfl hr) ?_
        exact hx5
      ·
        exact hx5
    try clear_value x6
    refine fr0_ite (fun _ => ?_) (fun _ => ?_)
    ·
      exact hx7
    ·
      refine State.modStack_fr (su rfl hc) (su rfl hr) ?_
      exact hx7

theorem sampleStacks_fr {c r : Nat} {s0 : State} {p0} {p1} (hc : c ||| 31156355072 = c) (hr : r ||| 41410478080743382724608535173662152714706653833329236258873525406793728 = r) (h0 : Fr0 c r s0 p0) :
    Fr0 c r s0 (sampleStacks p0 p1) := by
  unfold sampleStacks
  extract_lets +onlyGivenNames -merge -useContext -underBinder x0
  try clear_value x0
  extract_lets +onlyGivenNames -merge -useContext -underBinder x1
  have hx2 : Fr0 c r s0 x1 := by
    refine fr0_foldl (fun ha3s _ ha3 => ?_) ?_
    ·
      refine sampleStack_fr (su rfl hc) (su rfl hr) ?_
      exact ha3
    ·
      exact h0
  try clear_value x1
  extract_lets +onlyGivenNames -merge -useContext -underBinder x4
  try clear_value x4
  extract_lets +onlyGivenNames -merge -useContext -underBinder x5
  extract_lets +onlyGivenNames -merge -useContext -underBinder x6
  try clear_value x6
  extract_lets +onlyGivenNames -merge -useContext -underBinder x7
  have hx8 : Fr0 c r s0 x7 := by
    refine fr_mem (su rfl hc) ?_
    exact hx2
  try clear_value x7
  refine State.put_fr (su rfl hc) (su rfl hr) ?_ ?_
  ·
    exact hx8
  ·
    exact O.admDerateNow_ok (su rfl hr)

theorem trip_fr {c r : Nat} {s0 : State} {p0} {p1} (hc : c ||| 91370046726 = c) (hr : r ||| 713623846352979940529145069206827897378045952 = r) (h0 : Fr0 c r s0 p0) :
    Fr0 c r s0 (trip p0 p1) := by
  unfold trip
  extract_lets +onlyGivenNames -merge -useContext -underBinder x0
  have hx1 : Fr0 c r s0 x0 := by
    refine State.modThm_fr (su rfl hc) (su rfl hr) ?_
    exact h0
  try clear_value x0
  extract_lets +onlyGivenNames -merge -useContext -underBinder x2
  have hx3 : Fr0 c r s0 x2 := by
    refine State.suspend_fr (su rfl hc) (su rfl hr) ?_
    refine State.put_fr (su rfl hc) (su rfl hr) ?_ ?_
    ·
      exact hx1
    ·
      exact O.thmTripCount_ok (su rfl hr)
  try clear_value x2
  extract_lets +onlyGivenNames -merge -useContext -underBinder x4
  try clear_value x4
  extract_lets +onlyGivenNames -merge -useContext -underBinder x5
  extract_lets +onlyGivenNames -merge -useContext -underBinder x6
  have hx7 : Fr0 c r s0 x6 := by
    refine State.modThm_fr (su rfl hc) (su rfl hr) ?_
    exact hx3
  try clear_value x6
  refine stopDie_fr (su rfl hc) (su rfl hr) ?_
  exact hx7

theorem logTrips_fr {c r : Nat} {s0 : State} {p0} (hc : c ||| 22649241600 = c) (hr : r ||| 1461501637330902918203684832716283019655939883008 = r) (h0 : Fr0 c r s0 p0) :
    Fr0 c r s0 (logTrips p0) := by
  unfold logTrips
  extract_lets +onlyGivenNames -merge -useContext -underBinder x0
  have hx1 : Fr0 c r s0 x0 := by
    refine fr0_foldl (fun ha2s _ ha2 => ?_) ?_
    ·
      refine State.thmNote_fr (su rfl hc) (su rfl hr) ?_
      exact ha2
    ·
      exact h0
  try clear_value x0
  extract_lets +onlyGivenNames -merge -useContext -underBinder x3
  extract_lets +onlyGivenNames -merge -useContext -underBinder x4
  have hx5 : Fr0 c r s0 x4 := by
    refine fr0_foldl (fun ha6s _ ha6 => ?_) ?_
    ·
      refine State.thmNote_fr (su rfl hc) (su rfl hr) ?_
      refine fr_nor (su rfl hc) ?_
      exact ha6
    ·
      exact hx1
  try clear_value x4
  refine State.modThm_fr (su rfl hc) (su rfl hr) ?_
  exact hx5

theorem norWindow_fr {c r : Nat} {s0 : State} {p0} (hc : c ||| 22649241600 = c) (hr : r ||| 110427941548649020598957555298069738142135947239558901165620043520671744 = r) (h0 : Fr0 c r s0 p0) :
    Fr0 c r s0 (norWindow p0) := by
  unfold norWindow
  extract_lets +onlyGivenNames -merge -useContext -underBinder x0
  try clear_value x0
  extract_lets +onlyGivenNames -merge -useContext -underBinder x1
  try clear_value x1
  extract_lets +onlyGivenNames -merge -useContext -underBinder x2
  try clear_value x2
  extract_lets +onlyGivenNames -merge -useContext -underBinder x3
  try clear_value x3
  extract_lets +onlyGivenNames -merge -useContext -underBinder x4
  try clear_value x4
  extract_lets +onlyGivenNames -merge -useContext -underBinder x5
  try clear_value x5
  extract_lets +onlyGivenNames -merge -useContext -underBinder x6
  have hx7 : Fr0 c r s0 x6 := by
    refine State.modThm_fr (su rfl hc) (su rfl hr) ?_
    exact h0
  try clear_value x6
  refine fr0_ite (fun _ => ?_) (fun _ => ?_)
  ·
    refine logTrips_fr (su rfl hc) (su rfl hr) ?_
    refine State.thmNote_fr (su rfl hc) (su rfl hr) ?_
    refine State.putB_fr (su rfl hc) (su rfl hr) ?_ ?_
    ·
      exact hx7
    ·
      exact O.thmNorWindow_ok (su rfl hr)
  ·
    refine fr0_ite (fun _ => ?_) (fun _ => ?_)
    ·
      refine State.thmNote_fr (su rfl hc) (su rfl hr) ?_
      refine State.putB_fr (su rfl hc) (su rfl hr) ?_ ?_
      ·
        exact hx7
      ·
        exact O.thmNorWindow_ok (su rfl hr)
    ·
      exact hx7

theorem coldSpell_fr {c r : Nat} {s0 : State} {p0} (hc : c ||| 22582132736 = c) (hr : r ||| 1461501637330902918203684832716283019655939883008 = r) (h0 : Fr0 c r s0 p0) :
    Fr0 c r s0 (coldSpell p0) := by
  unfold coldSpell
  extract_lets +onlyGivenNames -merge -useContext -underBinder x0
  try clear_value x0
  extract_lets +onlyGivenNames -merge -useContext -underBinder x1
  refine fr0_ite (fun _ => ?_) (fun _ => ?_)
  ·
    refine State.modThm_fr (su rfl hc) (su rfl hr) ?_
    exact h0
  ·
    extract_lets +onlyGivenNames -merge -useContext -underBinder x2
    have hx3 : Fr0 c r s0 x2 := by
      refine State.modThm_fr (su rfl hc) (su rfl hr) ?_
      exact h0
    try clear_value x2
    refine fr0_ite (fun _ => ?_) (fun _ => ?_)
    ·
      refine State.thmNote_fr (su rfl hc) (su rfl hr) ?_
      exact hx3
    ·
      exact hx3

theorem applyEmergency_fr {c r : Nat} {s0 : State} {p0} {p1} (hc : c ||| 0 = c) (hr : r ||| 421249166674228746791672110734681729275580381602196445017243910144 = r) (h0 : Fr0 c r s0 p0) :
    Fr0 c r s0 (applyEmergency p0 p1) := by
  unfold applyEmergency
  refine fr0_ite (fun _ => ?_) (fun _ => ?_)
  ·
    refine State.put_fr (su rfl hc) (su rfl hr) ?_ ?_
    ·
      exact h0
    ·
      exact O.rseThrottleLevel_ok (su rfl hr)
  ·
    refine fr0_ite (fun _ => ?_) (fun _ => ?_)
    ·
      split
      ·
        refine State.put_fr (su rfl hc) (su rfl hr) ?_ ?_
        ·
          exact h0
        ·
          exact O.rseThrottleLevel_ok (su rfl hr)
      ·
        exact h0
    ·
      exact h0

theorem throttleLevel_fr {c r : Nat} {s0 : State} {p0} (hc : c ||| 22582132736 = c) (hr : r ||| 662567649291894123593738024280231774338224665013189825578621981424615424 = r) (h0 : Fr0 c r s0 p0) :
    Fr0 c r s0 (throttleLevel p0) := by
  unfold throttleLevel
  extract_lets +onlyGivenNames -merge -useContext -underBinder x0
  try clear_value x0
  extract_lets +onlyGivenNames -merge -useContext -underBinder x1
  extract_lets +onlyGivenNames -merge -useContext -underBinder x2
  extract_lets +onlyGivenNames -merge -useContext -underBinder x3
  extract_lets +onlyGivenNames -merge -useContext -underBinder x4
  have hx5 : Fr0 c r s0 x4 := by
    refine State.modThm_fr (su rfl hc) (su rfl hr) ?_
    exact h0
  try clear_value x4
  extract_lets +onlyGivenNames -merge -useContext -underBinder x6
  extract_lets +onlyGivenNames -merge -useContext -underBinder x7
  try clear_value x7
  extract_lets +onlyGivenNames -merge -useContext -underBinder x8
  try clear_value x8
  extract_lets +onlyGivenNames -merge -useContext -underBinder x9
  extract_lets +onlyGivenNames -merge -useContext -underBinder x10
  extract_lets +onlyGivenNames -merge -useContext -underBinder x11
  have hx12 : Fr0 c r s0 x11 := by
    refine State.put_fr (su rfl hc) (su rfl hr) ?_ ?_
    ·
      refine State.put_fr (su rfl hc) (su rfl hr) ?_ ?_
      ·
        exact hx5
      ·
        exact O.thmThrottleLevel_ok (su rfl hr)
    ·
      exact O.admThrottleNow_ok (su rfl hr)
  try clear_value x11
  refine fr0_ite (fun _ => ?_) (fun _ => ?_)
  ·
    refine State.thmNote_fr (su rfl hc) (su rfl hr) ?_
    exact hx12
  ·
    refine fr0_ite (fun _ => ?_) (fun _ => ?_)
    ·
      refine State.thmNote_fr (su rfl hc) (su rfl hr) ?_
      exact hx12
    ·
      exact hx12

theorem riseLevel_fr {c r : Nat} {s0 : State} {p0} (hc : c ||| 22583197696 = c) (hr : r ||| 883423532389192164791650211873096588816660152122644261379159012055973888 = r) (h0 : Fr0 c r s0 p0) :
    Fr0 c r s0 (riseLevel p0) := by
  unfold riseLevel
  extract_lets +onlyGivenNames -merge -useContext -underBinder x0
  try clear_value x0
  extract_lets +onlyGivenNames -merge -useContext -underBinder x1
  try clear_value x1
  extract_lets +onlyGivenNames -merge -useContext -underBinder x2
  try clear_value x2
  extract_lets +onlyGivenNames -merge -useContext -underBinder x3
  have hx4 : Fr0 c r s0 x3 := by
    refine State.modThm_fr (su rfl hc) (su rfl hr) ?_
    exact h0
  try clear_value x3
  extract_lets +onlyGivenNames -merge -useContext -underBinder x5
  refine fr0_ite (fun _ => ?_) (fun _ => ?_)
  ·
    refine State.suspend_fr (su rfl hc) (su rfl hr) ?_
    refine State.thmNote_fr (su rfl hc) (su rfl hr) ?_
    refine State.put_fr (su rfl hc) (su rfl hr) ?_ ?_
    ·
      exact hx4
    ·
      exact O.thmRiseLevel_ok (su rfl hr)
  ·
    refine fr0_ite (fun _ => ?_) (fun _ => ?_)
    ·
      refine State.thmNote_fr (su rfl hc) (su rfl hr) ?_
      refine State.put_fr (su rfl hc) (su rfl hr) ?_ ?_
      ·
        exact hx4
      ·
        exact O.thmRiseLevel_ok (su rfl hr)
    ·
      refine fr0_ite (fun _ => ?_) (fun _ => ?_)
      ·
        refine State.resume_fr (su rfl hc) (su rfl hr) ?_
        refine State.thmNote_fr (su rfl hc) (su rfl hr) ?_
        refine State.put_fr (su rfl hc) (su rfl hr) ?_ ?_
        ·
          exact hx4
        ·
          exact O.thmRiseLevel_ok (su rfl hr)
      ·
        refine fr0_ite (fun _ => ?_) (fun _ => ?_)
        ·
          refine State.thmNote_fr (su rfl hc) (su rfl hr) ?_
          refine State.put_fr (su rfl hc) (su rfl hr) ?_ ?_
          ·
            exact hx4
          ·
            exact O.thmRiseLevel_ok (su rfl hr)
        ·
          exact hx4

theorem cmdThmSample_fr {c r : Nat} {s0 : State} {p0} {p1} {p2} (hc : c ||| 99976758534 = c) (hr : r ||| 1765122049440853362865187065664721171401998539427240600061670265378045952 = r) (h0 : Fr0 c r s0 p0) :
    Fr0 c r s0 (cmdThmSample p0 p1 p2) := by
  unfold cmdThmSample
  refine fr0_ite (fun _ => ?_) (fun _ => ?_)
  ·
    exact h0
  ·
    refine fr0_ite (fun _ => ?_) (fun _ => ?_)
    ·
      refine takeSample_fr (su rfl hc) (su rfl hr) ?_
      exact h0
    ·
      extract_lets +onlyGivenNames -merge -useContext -underBinder x0
      try clear_value x0
      extract_lets +onlyGivenNames -merge -useContext -underBinder x1
      extract_lets +onlyGivenNames -merge -useContext -underBinder x2
      have hx3 : Fr0 c r s0 x2 := by
        refine limitStart_fr (su rfl hc) (su rfl hr) ?_
        refine takeSample_fr (su rfl hc) (su rfl hr) ?_
        exact h0
      try clear_value x2
      extract_lets +onlyGivenNames -merge -useContext -underBinder x4
      have hx5 : Fr0 c r s0 x4 := by
        refine State.sensorEvents_fr (su rfl hc) (su rfl hr) ?_
        exact hx3
      try clear_value x4
      extract_lets +onlyGivenNames -merge -useContext -underBinder x6
      have hx7 : Fr0 c r s0 x6 := by
        refine sampleStacks_fr (su rfl hc) (su rfl hr) ?_
        exact hx5
      try clear_value x6
      extract_lets +onlyGivenNames -merge -useContext -underBinder x8
      have hx9 : Fr0 c r s0 x8 := by
        refine State.modThm_fr (su rfl hc) (su rfl hr) ?_
        exact hx7
      try clear_value x8
      extract_lets +onlyGivenNames -merge -useContext -underBinder x10
      have hx11 : Fr0 c r s0 x10 := by
        refine fr0_ite (fun _ => ?_) (fun _ => ?_)
        ·
          refine State.uncover_fr (su rfl hc) (su rfl hr) ?_
          exact hx9
        ·
          exact hx9
      try clear_value x10
      extract_lets +onlyGivenNames -merge -useContext -underBinder x12
      try clear_value x12
      extract_lets +onlyGivenNames -merge -useContext -underBinder x13
      have hx14 : Fr0 c r s0 x13 := by
        refine State.put_fr (su rfl hc) (su rfl hr) ?_ ?_
        ·
          exact hx11
        ·
          exact O.thmRiseRate_ok (su rfl hr)
      try clear_value x13
      split
      ·
        refine trip_fr (su rfl hc) (su rfl hr) ?_
        exact hx14
      ·
        refine norWindow_fr (su rfl hc) (su rfl hr) ?_
        refine coldSpell_fr (su rfl hc) (su rfl hr) ?_
        refine applyEmergency_fr (su rfl hc) (su rfl hr) ?_
        refine throttleLevel_fr (su rfl hc) (su rfl hr) ?_
        refine riseLevel_fr (su rfl hc) (su rfl hr) ?_
        exact hx14

theorem execThmSample_fr {c r : Nat} {s0 t : State} {p0} {p1} {p2} (hc : c ||| 99976758534 = c) (hr : r ||| 1765122049440853362865187065664721171401998539427240600061670265378045952 = r) (h2 : Fr0 c r s0 p2) (ht : execThmSample p0 p1 p2 = .next t) :
    Fr0 c r s0 t := by
  unfold execThmSample at ht
  injection ht with ht
  subst ht
  refine cmdThmSample_fr (su rfl hc) (su rfl hr) ?_
  exact h2

theorem State.modDir_fr {c r : Nat} {s0 : State} {p0} {p1} {p2} (hc : c ||| 8192 = c) (hr : r ||| 0 = r) (h0 : Fr0 c r s0 p0) :
    Fr0 c r s0 (State.modDir p0 p1 p2) := by
  unfold State.modDir
  refine fr_rrec (su rfl hc) ?_
  exact h0

theorem State.notePoison_fr {c r : Nat} {s0 : State} {p0} {p1} {p2} {p3} (hc : c ||| 31139577856 = c) (hr : r ||| 1766847064778384329583297500742918515827646156152755088412896158830034944 = r) (h0 : Fr0 c r s0 p0) :
    Fr0 c r s0 (State.notePoison p0 p1 p2 p3) := by
  unfold State.notePoison
  extract_lets +onlyGivenNames -merge -useContext -underBinder x0
  have hx1 : Fr0 c r s0 x0 := by
    refine State.put_fr (su rfl hc) (su rfl hr) ?_ ?_
    ·
      refine State.bump_fr (su rfl hc) (su rfl hr) ?_ ?_
      ·
        exact h0
      ·
        exact O.poisonedTileCount_ok (su rfl hr)
    ·
      exact O.rrecLastStatus_ok (su rfl hr)
  try clear_value x0
  extract_lets +onlyGivenNames -merge -useContext -underBinder x2
  have hx3 : Fr0 c r s0 x2 := by
    refine State.raise_fr (su rfl hc) (su rfl hr) ?_
    exact hx1
  try clear_value x2
  refine fr_hif (su rfl hc) ?_
  exact hx3

theorem State.entryLost_fr {c r : Nat} {s0 : State} {p0} {p1} {p2} {p3} {p4} (hc : c ||| 31139586048 = c) (hr : r ||| 1766847064778384329583297500742918515827646156152755088412896174399291392 = r) (h0 : Fr0 c r s0 p0) :
    Fr0 c r s0 (State.entryLost p0 p1 p2 p3 p4) := by
  unfold State.entryLost
  extract_lets +onlyGivenNames -merge -useContext -underBinder x0
  try clear_value x0
  extract_lets +onlyGivenNames -merge -useContext -underBinder x1
  have hx2 : Fr0 c r s0 x1 := by
    refine State.eccUncorrectable_fr (su rfl hc) (su rfl hr) ?_
    exact h0
  try clear_value x1
  extract_lets +onlyGivenNames -merge -useContext -underBinder x3
  have hx4 : Fr0 c r s0 x3 := by
    refine State.dropSlots_fr (su rfl hc) (su rfl hr) ?_
    refine State.modDir_fr (su rfl hc) (su rfl hr) ?_
    exact hx2
  try clear_value x3
  refine State.notePoison_fr (su rfl hc) (su rfl hr) ?_
  exact hx4

theorem State.commitVersion_fr {c r : Nat} {s0 : State} {p0} {p1} {p2} {p3} {p4} (hc : c ||| 31156363264 = c) (hr : r ||| 7067388259113537318333190002971674063309935587502480517959419527403929600 = r) (h0 : Fr0 c r s0 p0) :
    Fr0 c r s0 (State.commitVersion p0 p1 p2 p3 p4) := by
  unfold State.commitVersion
  extract_lets +onlyGivenNames -merge -useContext -underBinder x0
  try clear_value x0
  extract_lets +onlyGivenNames -merge -useContext -underBinder x1
  try clear_value x1
  extract_lets +onlyGivenNames -merge -useContext -underBinder x2
  have hx3 : Fr0 c r s0 x2 := by
    refine State.modDir_fr (su rfl hc) (su rfl hr) ?_
    exact h0
  try clear_value x2
  extract_lets +onlyGivenNames -merge -useContext -underBinder x4
  have hx5 : Fr0 c r s0 x4 := by
    refine fr0_ite (fun _ => ?_) (fun _ => ?_)
    ·
      refine State.dropSlots_fr (su rfl hc) (su rfl hr) ?_
      exact hx3
    ·
      exact hx3
  try clear_value x4
  extract_lets +onlyGivenNames -merge -useContext -underBinder x6
  have hx7 : Fr0 c r s0 x6 := by
    refine State.settleIf_fr (su rfl hc) (su rfl hr) ?_
    exact hx5
  try clear_value x6
  refine State.memRequest_fr (su rfl hc) (su rfl hr) ?_
  refine State.bump_fr (su rfl hc) (su rfl hr) ?_ ?_
  ·
    exact hx7
  ·
    exact O.tilesCommittedCount_ok (su rfl hr)

theorem State.commitUpd_fr {c r : Nat} {s0 : State} {p0} {p1} (hc : c ||| 31156367360 = c) (hr : r ||| 10601082388670305977499785004457511097291295762792565031829381652495204352 = r) (h0 : Fr0 c r s0 p0) :
    Fr0 c r s0 (State.commitUpd p0 p1) := by
  unfold State.commitUpd
  split
  ·
    exact h0
  ·
    refine State.discardUpd_fr (su rfl hc) (su rfl hr) ?_
    exact h0
  ·
    split
    ·
      refine State.bump_fr (su rfl hc) (su rfl hr) ?_ ?_
      ·
        refine State.endUpd_fr (su rfl hc) (su rfl hr) ?_
        exact h0
      ·
        exact O.lateCommitDroppedCount_ok (su rfl hr)
    ·
      extract_lets +onlyGivenNames -merge -useContext -underBinder x0
      try clear_value x0
      refine fr0_ite (fun _ => ?_) (fun _ => ?_)
      ·
        refine State.discardUpd_fr (su rfl hc) (su rfl hr) ?_
        exact h0
      ·
        extract_lets +onlyGivenNames -merge -useContext -underBinder x1
        try clear_value x1
        extract_lets +onlyGivenNames -merge -useContext -underBinder x2
        try clear_value x2
        split
        ·
          split
          ·
            refine State.commitVersion_fr (su rfl hc) (su rfl hr) ?_
            refine State.endUpd_fr (su rfl hc) (su rfl hr) ?_
            exact h0
          ·
            refine State.commitVersion_fr (su rfl hc) (su rfl hr) ?_
            refine State.endUpd_fr (su rfl hc) (su rfl hr) ?_
            exact h0
          ·
            exact h0
        ·
          split
          ·
            refine fr0_ite (fun _ => ?_) (fun _ => ?_)
            ·
              exact h0
            ·
              refine State.discardUpd_fr (su rfl hc) (su rfl hr) ?_
              exact h0
          ·
            extract_lets +onlyGivenNames -merge -useContext -underBinder x3
            unfold x3; clear x3
            split
            ·
              refine fr_rrec (su rfl hc) ?_
              refine State.commitVersion_fr (su rfl hc) (su rfl hr) ?_
              refine State.endUpd_fr (su rfl hc) (su rfl hr) ?_
              exact h0
            ·
              refine fr_rrec (su rfl hc) ?_
              refine State.commitVersion_fr (su rfl hc) (su rfl hr) ?_
              refine State.endUpd_fr (su rfl hc) (su rfl hr) ?_
              exact h0
            ·
              exact h0
        ·
          exact h0

theorem cmdTileCommit_fr {c r : Nat} {s0 : State} {p0} {p1} {p2} (hc : c ||| 31156367872 = c) (hr : r ||| 12367929453448690307083082505200429613118779659668486221405891526650822144 = r) (h0 : Fr0 c r s0 p0) :
    Fr0 c r s0 (cmdTileCommit p0 p1 p2) := by
  unfold cmdTileCommit
  split
  ·
    exact h0
  ·
    refine fr0_ite (fun _ => ?_) (fun _ => ?_)
    ·
      exact h0
    ·
      extract_lets +onlyGivenNames -merge -useContext -underBinder x0
      have hx1 : Fr0 c r s0 x0 := by
        unfold x0
        split
        ·
          refine fr0_ite (fun _ => ?_) (fun _ => ?_)
          ·
            refine State.entryLost_fr (su rfl hc) (su rfl hr) ?_
            exact h0
          ·
            exact h0
        ·
          exact h0
      try clear_value x0
      refine State.regateStream_fr (su rfl hc) (su rfl hr) ?_
      refine State.settleRelief_fr (su rfl hc) (su rfl hr) ?_
      refine State.commitUpd_fr (su rfl hc) (su rfl hr) ?_
      exact hx1

theorem execTileCommit_fr {c r : Nat} {s0 t : State} {p0} {p1} {p2} (hc : c ||| 31156367872 = c) (hr : r ||| 12367929453448690307083082505200429613118779659668486221405891526650822144 = r) (h1 : Fr0 c r s0 p1) (ht : execTileCommit p0 p1 p2 = .next t) :
    Fr0 c r s0 t := by
  unfold execTileCommit at ht
  injection ht with ht
  subst ht
  refine State.ifLive_fr (su rfl hc) (su rfl hr) ?_ ?_
  ·
    exact h1
  ·
    intro u0 hu1
    refine cmdTileCommit_fr (su rfl hc) (su rfl hr) ?_
    exact hu1

theorem cmdTileDecodeDone_fr {c r : Nat} {s0 : State} {p0} {p1} (hc : c ||| 8192 = c) (hr : r ||| 0 = r) (h0 : Fr0 c r s0 p0) :
    Fr0 c r s0 (cmdTileDecodeDone p0 p1) := by
  unfold cmdTileDecodeDone
  extract_lets +onlyGivenNames -merge -useContext -underBinder x0
  try clear_value x0
  refine fr_rrec (su rfl hc) ?_
  exact h0

theorem execTileDecodeDone_fr {c r : Nat} {s0 t : State} {p0} {p1} (hc : c ||| 8192 = c) (hr : r ||| 0 = r) (h1 : Fr0 c r s0 p1) (ht : execTileDecodeDone p0 p1 = .next t) :
    Fr0 c r s0 t := by
  unfold execTileDecodeDone at ht
  injection ht with ht
  subst ht
  refine State.ifLive_fr (su rfl hc) (su rfl hr) ?_ ?_
  ·
    exact h1
  ·
    intro u0 hu1
    refine cmdTileDecodeDone_fr (su rfl hc) (su rfl hr) ?_
    exact hu1

theorem cmdTileUpdate_fr {c r : Nat} {s0 : State} {p0} (hc : c ||| 29184 = c) (hr : r ||| 567907468902246771870523036073472 = r) (h0 : Fr0 c r s0 p0) :
    Fr0 c r s0 (cmdTileUpdate p0) := by
  unfold cmdTileUpdate
  refine State.withSection_fr (su rfl hc) (su rfl hr) ?_ ?_
  ·
    exact h0
  ·
    intro u0 u2 hu1
    refine fr0_ite (fun _ => ?_) (fun _ => ?_)
    ·
      refine State.badSection_fr (su rfl hc) (su rfl hr) ?_
      exact hu1
    ·
      extract_lets +onlyGivenNames -merge -useContext -underBinder x3
      extract_lets +onlyGivenNames -merge -useContext -underBinder x4
      extract_lets +onlyGivenNames -merge -useContext -underBinder x5
      extract_lets +onlyGivenNames -merge -useContext -underBinder x6
      extract_lets +onlyGivenNames -merge -useContext -underBinder x7
      extract_lets +onlyGivenNames -merge -useContext -underBinder x8
      extract_lets +onlyGivenNames -merge -useContext -underBinder x9
      have hx10 : Fr0 c r s0 x9 := by
        refine State.acceptSection_fr (su rfl hc) (su rfl hr) ?_
        exact hu1
      try clear_value x9
      split
      ·
        refine State.settleRelief_fr (su rfl hc) (su rfl hr) ?_
        refine State.sdecCode_fr (su rfl hc) (su rfl hr) ?_
        exact hx10
      ·
        split
        ·
          refine fr0_ite (fun _ => ?_) (fun _ => ?_)
          ·
            refine State.settleRelief_fr (su rfl hc) (su rfl hr) ?_
            refine State.sdecCode_fr (su rfl hc) (su rfl hr) ?_
            exact hx10
          ·
            refine State.settleRelief_fr (su rfl hc) (su rfl hr) ?_
            refine State.dispatchUpd_fr (su rfl hc) (su rfl hr) ?_
            exact hx10
        ·
          refine State.settleRelief_fr (su rfl hc) (su rfl hr) ?_
          refine State.sdecCode_fr (su rfl hc) (su rfl hr) ?_
          exact hx10

theorem execTileUpdate_fr {c r : Nat} {s0 t : State} {p0} (hc : c ||| 29184 = c) (hr : r ||| 567907468902246771870523036073472 = r) (h0 : Fr0 c r s0 p0) (ht : execTileUpdate p0 = .next t) :
    Fr0 c r s0 t := by
  unfold execTileUpdate at ht
  injection ht with ht
  subst ht
  refine State.ifLive_fr (su rfl hc) (su rfl hr) ?_ ?_
  ·
    exact h0
  ·
    intro u0 hu1
    refine cmdTileUpdate_fr (su rfl hc) (su rfl hr) ?_
    exact hu1

theorem execTimeActionAdd_fr {c r : Nat} {s0 t : State} {p0} {p1} {p2} (hc : c ||| 103028671480 = c) (hr : r ||| 10141204801825835211972283334656 = r) (h2 : Fr0 c r s0 p2) (ht : execTimeActionAdd p0 p1 p2 = .next t) :
    Fr0 c r s0 t := by
  unfold execTimeActionAdd at ht
  injection ht with ht
  subst ht
  refine State.ifLive_fr (su rfl hc) (su rfl hr) ?_ ?_
  ·
    exact h2
  ·
    intro u0 hu1
    refine rowWrite_fr (su rfl hc) (su rfl hr) ?_
    exact hu1

theorem execTimeActionCancel_fr {c r : Nat} {s0 t : State} {p0} {p1} {p2} (hc : c ||| 103028671480 = c) (hr : r ||| 10141204801825835211972283334656 = r) (h2 : Fr0 c r s0 p2) (ht : execTimeActionCancel p0 p1 p2 = .next t) :
    Fr0 c r s0 t := by
  unfold execTimeActionCancel at ht
  injection ht with ht
  subst ht
  refine State.ifLive_fr (su rfl hc) (su rfl hr) ?_ ?_
  ·
    exact h2
  ·
    intro u0 hu1
    refine rowWrite_fr (su rfl hc) (su rfl hr) ?_
    exact hu1

theorem execTimeAdjust_fr {c r : Nat} {s0 t : State} {p0} {p1} {p2} (hc : c ||| 103028671480 = c) (hr : r ||| 10141204801825835211972283334656 = r) (h2 : Fr0 c r s0 p2) (ht : execTimeAdjust p0 p1 p2 = .next t) :
    Fr0 c r s0 t := by
  unfold execTimeAdjust at ht
  injection ht with ht
  subst ht
  refine State.ifLive_fr (su rfl hc) (su rfl hr) ?_ ?_
  ·
    exact h2
  ·
    intro u0 hu1
    refine rowWrite_fr (su rfl hc) (su rfl hr) ?_
    exact hu1

theorem cmdTimeNowRead_fr {c r : Nat} {s0 : State} {p0} (hc : c ||| 18253611008 = c) (hr : r ||| 0 = r) (h0 : Fr0 c r s0 p0) :
    Fr0 c r s0 (cmdTimeNowRead p0) := by
  unfold cmdTimeNowRead
  refine State.emit_fr (su rfl hc) (su rfl hr) ?_
  refine State.modHif_fr (su rfl hc) (su rfl hr) ?_
  exact h0

theorem execTimeNowRead_fr {c r : Nat} {s0 t : State} {p0} (hc : c ||| 18253611008 = c) (hr : r ||| 0 = r) (h0 : Fr0 c r s0 p0) (ht : execTimeNowRead p0 = .next t) :
    Fr0 c r s0 t := by
  unfold execTimeNowRead at ht
  injection ht with ht
  subst ht
  refine State.ifLive_fr (su rfl hc) (su rfl hr) ?_ ?_
  ·
    exact h0
  ·
    intro u0 hu1
    refine cmdTimeNowRead_fr (su rfl hc) (su rfl hr) ?_
    exact hu1

theorem cmdTimeRateStep_fr {c r : Nat} {s0 : State} {p0} (hc : c ||| 9437184 = c) (hr : r ||| 44601490397061246283071436545296723011960832 = r) (h0 : Fr0 c r s0 p0) :
    Fr0 c r s0 (cmdTimeRateStep p0) := by
  unfold cmdTimeRateStep
  extract_lets +onlyGivenNames -merge -useContext -underBinder x0
  have hx1 : Fr0 c r s0 x0 := by
    unfold x0
    split
    ·
      exact h0
    ·
      extract_lets +onlyGivenNames -merge -useContext -underBinder x2
      try clear_value x2
      refine fr0_ite (fun _ => ?_) (fun _ => ?_)
      ·
        refine State.modTim_fr (su rfl hc) (su rfl hr) ?_
        exact h0
      ·
        refine State.aim_fr (su rfl hc) (su rfl hr) ?_
        refine State.modTim_fr (su rfl hc) (su rfl hr) ?_
        exact h0
  try clear_value x0
  extract_lets +onlyGivenNames -merge -useContext -underBinder x3
  try clear_value x3
  refine State.setRate_fr (su rfl hc) (su rfl hr) ?_
  exact hx1

theorem execTimeRateStep_fr {c r : Nat} {s0 t : State} {p0} (hc : c ||| 9437184 = c) (hr : r ||| 44601490397061246283071436545296723011960832 = r) (h0 : Fr0 c r s0 p0) (ht : execTimeRateStep p0 = .next t) :
    Fr0 c r s0 t := by
  unfold execTimeRateStep at ht
  injection ht with ht
  subst ht
  refine State.ifLive_fr (su rfl hc) (su rfl hr) ?_ ?_
  ·
    exact h0
  ·
    intro u0 hu1
    refine cmdTimeRateStep_fr (su rfl hc) (su rfl hr) ?_
    exact hu1

theorem execTimeSet_fr {c r : Nat} {s0 t : State} {p0} {p1} {p2} (hc : c ||| 103028671480 = c) (hr : r ||| 10141204801825835211972283334656 = r) (h2 : Fr0 c r s0 p2) (ht : execTimeSet p0 p1 p2 = .next t) :
    Fr0 c r s0 t := by
  unfold execTimeSet at ht
  injection ht with ht
  subst ht
  refine State.ifLive_fr (su rfl hc) (su rfl hr) ?_ ?_
  ·
    exact h2
  ·
    intro u0 hu1
    refine rowWrite_fr (su rfl hc) (su rfl hr) ?_
    exact hu1

theorem cmdToleranceReport_fr {c r : Nat} {s0 : State} {p0} {p1} {p2} (hc : c ||| 16777216 = c) (hr : r ||| 1099511627776 = r) (h0 : Fr0 c r s0 p0) :
    Fr0 c r s0 (cmdToleranceReport p0 p1 p2) := by
  unfold cmdToleranceReport
  extract_lets +onlyGivenNames -merge -useContext -underBinder x0
  try clear_value x0
  extract_lets +onlyGivenNames -merge -useContext -underBinder x1
  extract_lets +onlyGivenNames -merge -useContext -underBinder x2
  try clear_value x2
  extract_lets +onlyGivenNames -merge -useContext -underBinder x3
  have hx4 : Fr0 c r s0 x3 := by
    refine fr_mem (su rfl hc) ?_
    exact h0
  try clear_value x3
  extract_lets +onlyGivenNames -merge -useContext -underBinder x5
  try clear_value x5
  extract_lets +onlyGivenNames -merge -useContext -underBinder x6
  have hx7 : Fr0 c r s0 x6 := by
    refine fr0_ite (fun _ => ?_) (fun _ => ?_)
    ·
      exact hx4
    ·
      refine fr_mem (su rfl hc) ?_
      exact hx4
  try clear_value x6
  refine State.put_fr (su rfl hc) (su rfl hr) ?_ ?_
  ·
    exact hx7
  ·
    exact O.memMinTolerance_ok (su rfl hr)

theorem execToleranceReport_fr {c r : Nat} {s0 t : State} {p0} {p1} {p2} (hc : c ||| 16777216 = c) (hr : r ||| 1099511627776 = r) (h2 : Fr0 c r s0 p2) (ht : execToleranceReport p0 p1 p2 = .next t) :
    Fr0 c r s0 t := by
  unfold execToleranceReport at ht
  injection ht with ht
  subst ht
  refine State.ifLive_fr (su rfl hc) (su rfl hr) ?_ ?_
  ·
    exact h2
  ·
    intro u0 hu1
    refine cmdToleranceReport_fr (su rfl hc) (su rfl hr) ?_
    exact hu1

theorem cmdTrainTimeout_fr {c r : Nat} {s0 : State} {p0} {p1} (hc : c ||| 22549102600 = c) (hr : r ||| 187072209578355573530071658597128959481698663268352 = r) (h0 : Fr0 c r s0 p0) :
    Fr0 c r s0 (cmdTrainTimeout p0 p1) := by
  unfold cmdTrainTimeout
  refine fr0_ite (fun _ => ?_) (fun _ => ?_)
  ·
    exact h0
  ·
    extract_lets +onlyGivenNames -merge -useContext -underBinder x0
    have hx1 : Fr0 c r s0 x0 := by
      refine State.linkNote_fr (su rfl hc) (su rfl hr) ?_
      refine State.elapseTo_fr (su rfl hc) (su rfl hr) ?_
      exact h0
    try clear_value x0
    refine State.modSlot_fr (su rfl hc) (su rfl hr) ?_
    refine State.setAllLanes_fr (su rfl hc) (su rfl hr) ?_
    exact hx1

theorem execTrainTimeout_fr {c r : Nat} {s0 t : State} {p0} {p1} (hc : c ||| 22549102600 = c) (hr : r ||| 187072209578355573530071658597128959481698663268352 = r) (h1 : Fr0 c r s0 p1) (ht : execTrainTimeout p0 p1 = .next t) :
    Fr0 c r s0 t := by
  unfold execTrainTimeout at ht
  injection ht with ht
  subst ht
  refine State.ifLive_fr (su rfl hc) (su rfl hr) ?_ ?_
  ·
    exact h1
  ·
    intro u0 hu1
    refine cmdTrainTimeout_fr (su rfl hc) (su rfl hr) ?_
    exact hu1

theorem cmdTrialConfirm_fr {c r : Nat} {s0 : State} {p0} (hc : c ||| 23018340360 = c) (hr : r ||| 11155136552402224516296974946912623901278208 = r) (h0 : Fr0 c r s0 p0) :
    Fr0 c r s0 (cmdTrialConfirm p0) := by
  unfold cmdTrialConfirm
  split
  ·
    exact h0
  ·
    refine fr0_ite (fun _ => ?_) (fun _ => ?_)
    ·
      exact h0
    ·
      extract_lets +onlyGivenNames -merge -useContext -underBinder x0
      have hx1 : Fr0 c r s0 x0 := by
        refine State.modAtl_fr (su rfl hc) (su rfl hr) ?_
        refine State.elapseTo_fr (su rfl hc) (su rfl hr) ?_
        exact h0
      try clear_value x0
      extract_lets +onlyGivenNames -merge -useContext -underBinder x2
      have hx3 : Fr0 c r s0 x2 := by
        refine State.bump_fr (su rfl hc) (su rfl hr) ?_ ?_
        ·
          refine State.modNor_fr (su rfl hc) (su rfl hr) ?_
          exact hx1
        ·
          exact O.updateCount_ok (su rfl hr)
      try clear_value x2
      extract_lets +onlyGivenNames -merge -useContext -underBinder x4
      extract_lets +onlyGivenNames -merge -useContext -underBinder x5
      try clear_value x5
      extract_lets +onlyGivenNames -merge -useContext -underBinder x6
      have hx7 : Fr0 c r s0 x6 := by
        refine fr_pln (su rfl hc) ?_
        exact hx3
      try clear_value x6
      refine State.showSlots_fr (su rfl hc) (su rfl hr) ?_
      refine fr0_ite (fun _ => ?_) (fun _ => ?_)
      ·
        refine State.atlNote_fr (su rfl hc) (su rfl hr) ?_
        exact hx7
      ·
        exact hx7

theorem execTrialConfirm_fr {c r : Nat} {s0 t : State} {p0} (hc : c ||| 23018340360 = c) (hr : r ||| 11155136552402224516296974946912623901278208 = r) (h0 : Fr0 c r s0 p0) (ht : execTrialConfirm p0 = .next t) :
    Fr0 c r s0 t := by
  unfold execTrialConfirm at ht
  injection ht with ht
  subst ht
  refine State.ifLive_fr (su rfl hc) (su rfl hr) ?_ ?_
  ·
    exact h0
  ·
    intro u0 hu1
    refine cmdTrialConfirm_fr (su rfl hc) (su rfl hr) ?_
    exact hu1

theorem learnOne_fr {c r : Nat} {s0 : State} {p0} {p1} {p2} {p3} (hc : c ||| 22582132736 = c) (hr : r ||| 1461501637330902918203684832716283019655939883008 = r) (h0 : Fr0 c r s0 p0) :
    Fr0 c r s0 (learnOne p0 p1 p2 p3) := by
  unfold learnOne
  extract_lets +onlyGivenNames -merge -useContext -underBinder x0
  try clear_value x0
  refine fr0_ite (fun _ => ?_) (fun _ => ?_)
  ·
    exact h0
  ·
    extract_lets +onlyGivenNames -merge -useContext -underBinder x1
    try clear_value x1
    extract_lets +onlyGivenNames -merge -useContext -underBinder x2
    try clear_value x2
    extract_lets +onlyGivenNames -merge -useContext -underBinder x3
    try clear_value x3
    extract_lets +onlyGivenNames -merge -useContext -underBinder x4
    have hx5 : Fr0 c r s0 x4 := by
      refine State.modThm_fr (su rfl hc) (su rfl hr) ?_
      exact h0
    try clear_value x4
    refine fr0_ite (fun _ => ?_) (fun _ => ?_)
    ·
      refine State.thmNote_fr (su rfl hc) (su rfl hr) ?_
      exact hx5
    ·
      exact hx5

theorem cmdTrimLearn_fr {c r : Nat} {s0 : State} {p0} (hc : c ||| 22582132744 = c) (hr : r ||| 1461501637330902918203684832716283019655939883008 = r) (h0 : Fr0 c r s0 p0) :
    Fr0 c r s0 (cmdTrimLearn p0) := by
  unfold cmdTrimLearn
  split
  ·
    exact h0
  ·
    refine fr0_ite (fun _ => ?_) (fun _ => ?_)
    ·
      exact h0
    ·
      extract_lets +onlyGivenNames -merge -useContext -underBinder x0
      have hx1 : Fr0 c r s0 x0 := by
        refine State.elapseTo_fr (su rfl hc) (su rfl hr) ?_
        exact h0
      try clear_value x0
      extract_lets +onlyGivenNames -merge -useContext -underBinder x2
      have hx3 : Fr0 c r s0 x2 := by
        refine State.modThm_fr (su rfl hc) (su rfl hr) ?_
        exact hx1
      try clear_value x2
      extract_lets +onlyGivenNames -merge -useContext -underBinder x4
      try clear_value x4
      extract_lets +onlyGivenNames -merge -useContext -underBinder x5
      try clear_value x5
      refine fr0_foldl (fun ha6s _ ha6 => ?_) ?_
      ·
        refine learnOne_fr (su rfl hc) (su rfl hr) ?_
        exact ha6
      ·
        exact hx3

theorem execTrimLearn_fr {c r : Nat} {s0 t : State} {p0} (hc : c ||| 22582132744 = c) (hr : r ||| 1461501637330902918203684832716283019655939883008 = r) (h0 : Fr0 c r s0 p0) (ht : execTrimLearn p0 = .next t) :
    Fr0 c r s0 t := by
  unfold execTrimLearn at ht
  injection ht with ht
  subst ht
  refine State.ifLive_fr (su rfl hc) (su rfl hr) ?_ ?_
  ·
    exact h0
  ·
    intro u0 hu1
    refine cmdTrimLearn_fr (su rfl hc) (su rfl hr) ?_
    exact hu1

theorem cmdTrimSave_fr {c r : Nat} {s0 : State} {p0} (hc : c ||| 100663296 = c) (hr : r ||| 0 = r) (h0 : Fr0 c r s0 p0) :
    Fr0 c r s0 (cmdTrimSave p0) := by
  unfold cmdTrimSave
  extract_lets +onlyGivenNames -merge -useContext -underBinder x0
  try clear_value x0
  refine fr0_ite (fun _ => ?_) (fun _ => ?_)
  ·
    exact h0
  ·
    extract_lets +onlyGivenNames -merge -useContext -underBinder x1
    have hx2 : Fr0 c r s0 x1 := by
      refine State.modThm_fr (su rfl hc) (su rfl hr) ?_
      exact h0
    try clear_value x1
    refine fr_nor (su rfl hc) ?_
    exact hx2

theorem execTrimSave_fr {c r : Nat} {s0 t : State} {p0} (hc : c ||| 100663296 = c) (hr : r ||| 0 = r) (h0 : Fr0 c r s0 p0) (ht : execTrimSave p0 = .next t) :
    Fr0 c r s0 t := by
  unfold execTrimSave at ht
  injection ht with ht
  subst ht
  refine State.ifLive_fr (su rfl hc) (su rfl hr) ?_ ?_
  ·
    exact h0
  ·
    intro u0 hu1
    refine cmdTrimSave_fr (su rfl hc) (su rfl hr) ?_
    exact hu1

theorem cmdTripRecordProgrammed_fr {c r : Nat} {s0 : State} {p0} (hc : c ||| 33554432 = c) (hr : r ||| 1427247692705959881058285969449495136382746624 = r) (h0 : Fr0 c r s0 p0) :
    Fr0 c r s0 (cmdTripRecordProgrammed p0) := by
  unfold cmdTripRecordProgrammed
  split
  ·
    exact h0
  ·
    refine State.put_fr (su rfl hc) (su rfl hr) ?_ ?_
    ·
      refine State.modThm_fr (su rfl hc) (su rfl hr) ?_
      exact h0
    ·
      exact O.thmTripSlotsUsed_ok (su rfl hr)

theorem execTripRecordProgrammed_fr {c r : Nat} {s0 t : State} {p0} (hc : c ||| 33554432 = c) (hr : r ||| 1427247692705959881058285969449495136382746624 = r) (h0 : Fr0 c r s0 p0) (ht : execTripRecordProgrammed p0 = .next t) :
    Fr0 c r s0 t := by
  unfold execTripRecordProgrammed at ht
  injection ht with ht
  subst ht
  refine cmdTripRecordProgrammed_fr (su rfl hc) (su rfl hr) ?_
  exact h0

theorem cmdUnderrun_fr {c r : Nat} {s0 : State} {p0} {p1} {p2} (hc : c ||| 31140102144 = c) (hr : r ||| 14134776518227074636666380005943348126630255768722328237157808982526590982 = r) (h0 : Fr0 c r s0 p0) :
    Fr0 c r s0 (cmdUnderrun p0 p1 p2) := by
  unfold cmdUnderrun
  extract_lets +onlyGivenNames -merge -useContext -underBinder x0
  refine fr0_ite (fun _ => ?_) (fun _ => ?_)
  ·
    exact h0
  ·
    extract_lets +onlyGivenNames -merge -useContext -underBinder x1
    have hx2 : Fr0 c r s0 x1 := by
      refine State.scanFault_fr (su rfl hc) (su rfl hr) ?_
      refine State.bump_fr (su rfl hc) (su rfl hr) ?_ ?_
      ·
        exact h0
      ·
        exact O.scanUnderrunCount_ok (su rfl hr)
    try clear_value x1
    refine State.feedSlots_fr (su rfl hc) (su rfl hr) ?_
    refine State.idleHeads_fr (su rfl hc) (su rfl hr) ?_
    refine State.modScan_fr (su rfl hc) (su rfl hr) ?_
    refine State.cutDirect_fr (su rfl hc) (su rfl hr) ?_
    refine State.cutFirstScan_fr (su rfl hc) (su rfl hr) ?_
    exact hx2

theorem execUnderrun_fr {c r : Nat} {s0 t : State} {p0} {p1} {p2} (hc : c ||| 31140102144 = c) (hr : r ||| 14134776518227074636666380005943348126630255768722328237157808982526590982 = r) (h2 : Fr0 c r s0 p2) (ht : execUnderrun p0 p1 p2 = .next t) :
    Fr0 c r s0 t := by
  unfold execUnderrun at ht
  injection ht with ht
  subst ht
  refine State.ifLive_fr (su rfl hc) (su rfl hr) ?_ ?_
  ·
    exact h2
  ·
    intro u0 hu1
    refine cmdUnderrun_fr (su rfl hc) (su rfl hr) ?_
    exact hu1

theorem cmdUnitDispatch_fr {c r : Nat} {s0 : State} {p0} (hc : c ||| 1073807360 = c) (hr : r ||| 0 = r) (h0 : Fr0 c r s0 p0) :
    Fr0 c r s0 (cmdUnitDispatch p0) := by
  unfold cmdUnitDispatch
  split
  ·
    exact h0
  ·
    refine fr0_ite (fun _ => ?_) (fun _ => ?_)
    ·
      exact h0
    ·
      extract_lets +onlyGivenNames -merge -useContext -underBinder x0
      have hx1 : Fr0 c r s0 x0 := by
        refine fr0_ite (fun _ => ?_) (fun _ => ?_)
        ·
          exact h0
        ·
          refine State.modRse_fr (su rfl hc) (su rfl hr) ?_
          refine State.clearRse_fr (su rfl hc) (su rfl hr) ?_
          exact h0
      try clear_value x0
      extract_lets +onlyGivenNames -merge -useContext -underBinder x2
      try clear_value x2
      split
      ·
        exact hx1
      ·
        refine fr0_ite (fun _ => ?_) (fun _ => ?_)
        ·
          exact hx1
        ·
          refine State.modRse_fr (su rfl hc) (su rfl hr) ?_
          exact hx1

theorem execUnitDispatch_fr {c r : Nat} {s0 t : State} {p0} (hc : c ||| 1073807360 = c) (hr : r ||| 0 = r) (h0 : Fr0 c r s0 p0) (ht : execUnitDispatch p0 = .next t) :
    Fr0 c r s0 t := by
  unfold execUnitDispatch at ht
  injection ht with ht
  subst ht
  refine State.ifLive_fr (su rfl hc) (su rfl hr) ?_ ?_
  ·
    exact h0
  ·
    intro u0 hu1
    refine cmdUnitDispatch_fr (su rfl hc) (su rfl hr) ?_
    exact hu1

theorem State.storeError_fr {c r : Nat} {s0 : State} {p0} {p1} {p2} (hc : c ||| 31139577856 = c) (hr : r ||| 28269553039745158387975172096196634618354443359975681978140757326906261504 = r) (h0 : Fr0 c r s0 p0) :
    Fr0 c r s0 (State.storeError p0 p1 p2) := by
  unfold State.storeError
  refine State.warnRender_fr (su rfl hc) (su rfl hr) ?_
  refine State.raise_fr (su rfl hc) (su rfl hr) ?_
  refine State.put_fr (su rfl hc) (su rfl hr) ?_ ?_
  ·
    refine State.bump_fr (su rfl hc) (su rfl hr) ?_ ?_
    ·
      exact h0
    ·
      exact O.rseStoreEccCount_ok (su rfl hr)
  ·
    exact O.rseLastStatus_ok (su rfl hr)

theorem State.writeRow_fr {c r : Nat} {s0 : State} {p0} {p1} {p2} {p3} {p4} {p5} (hc : c ||| 22565487616 = c) (hr : r ||| 210624583337138318638662084880752713810089414382092265307413413888 = r) (h0 : Fr0 c r s0 p0) :
    Fr0 c r s0 (State.writeRow p0 p1 p2 p3 p4 p5) := by
  unfold State.writeRow
  extract_lets +onlyGivenNames -merge -useContext -underBinder x0
  try clear_value x0
  extract_lets +onlyGivenNames -merge -useContext -underBinder x1
  extract_lets +onlyGivenNames -merge -useContext -underBinder x2
  try clear_value x2
  split
  ·
    extract_lets +onlyGivenNames -merge -useContext -underBinder x3
    have hx4 : Fr0 c r s0 x3 := by
      refine State.takeSums_fr (su rfl hc) (su rfl hr) ?_
      exact h0
    try clear_value x3
    refine fr0_foldl (fun ha5s _ ha5 => ?_) ?_
    ·
      extract_lets +onlyGivenNames -merge -useContext -underBinder x6
      try clear_value x6
      split
      ·
        exact ha5
      ·
        refine State.writePiece_fr (su rfl hc) (su rfl hr) ?_
        exact ha5
    ·
      exact hx4

theorem State.countRays_fr {c r : Nat} {s0 : State} {p0} {p1} (hc : c ||| 1073807360 = c) (hr : r ||| 56539106076199307661307932108083330871594185709985278391158558168061050880 = r) (h0 : Fr0 c r s0 p0) :
    Fr0 c r s0 (State.countRays p0 p1) := by
  unfold State.countRays
  extract_lets +onlyGivenNames -merge -useContext -underBinder x0
  extract_lets +onlyGivenNames -merge -useContext -underBinder x1
  have hx2 : Fr0 c r s0 x1 := by
    refine State.modRse_fr (su rfl hc) (su rfl hr) ?_
    exact h0
  try clear_value x1
  refine fr0_ite (fun _ => ?_) (fun _ => ?_)
  ·
    exact hx2
  ·
    refine State.warnRender_fr (su rfl hc) (su rfl hr) ?_
    refine State.put_fr (su rfl hc) (su rfl hr) ?_ ?_
    ·
      refine State.bumpBy_fr (su rfl hc) (su rfl hr) ?_ ?_
      ·
        exact hx2
      ·
        exact O.rseHitOverflowCount_ok (su rfl hr)
    ·
      exact O.rseLastStatus_ok (su rfl hr)

theorem State.writeDoneLines_fr {c r : Nat} {s0 : State} {p0} {p1} {p2} {p3} (hc : c ||| 16778240 = c) (hr : r ||| 0 = r) (h0 : Fr0 c r s0 p0) :
    Fr0 c r s0 (State.writeDoneLines p0 p1 p2 p3) := by
  unfold State.writeDoneLines
  extract_lets +onlyGivenNames -merge -useContext -underBinder x0
  try clear_value x0
  extract_lets +onlyGivenNames -merge -useContext -underBinder x1
  extract_lets +onlyGivenNames -merge -useContext -underBinder x2
  try clear_value x2
  refine fr0_foldl (fun ha3s _ ha3 => ?_) ?_
  ·
    extract_lets +onlyGivenNames -merge -useContext -underBinder x4
    extract_lets +onlyGivenNames -merge -useContext -underBinder x5
    try clear_value x5
    refine fr0_ite (fun _ => ?_) (fun _ => ?_)
    ·
      refine State.writeCrc_fr (su rfl hc) (su rfl hr) ?_
      exact ha3
    ·
      exact ha3
  ·
    exact h0

theorem cmdUnitRenderDone_fr {c r : Nat} {s0 : State} {p0} {p1} {p2} {p3} (hc : c ||| 31156552704 = c) (hr : r ||| 84808659323278040271779010758632112005586641870084903020124421091245424640 = r) (h0 : Fr0 c r s0 p0) :
    Fr0 c r s0 (cmdUnitRenderDone p0 p1 p2 p3) := by
  unfold cmdUnitRenderDone
  split
  ·
    refine fr0_ite (fun _ => ?_) (fun _ => ?_)
    ·
      exact h0
    ·
      split
      ·
        exact h0
      ·
        extract_lets +onlyGivenNames -merge -useContext -underBinder x0
        have hx1 : Fr0 c r s0 x0 := by
          refine State.eccAll_fr (su rfl hc) (su rfl hr) ?_
          exact h0
        try clear_value x0
        extract_lets +onlyGivenNames -merge -useContext -underBinder x2
        have hx3 : Fr0 c r s0 x2 := by
          refine fr0_foldl (fun ha4s _ ha4 => ?_) ?_
          ·
            refine State.storeError_fr (su rfl hc) (su rfl hr) ?_
            exact ha4
          ·
            exact hx1
        try clear_value x2
        extract_lets +onlyGivenNames -merge -useContext -underBinder x5
        try clear_value x5
        extract_lets +onlyGivenNames -merge -useContext -underBinder x6
        try clear_value x6
        extract_lets +onlyGivenNames -merge -useContext -underBinder x7
        extract_lets +onlyGivenNames -merge -useContext -underBinder x8
        try clear_value x8
        extract_lets +onlyGivenNames -merge -useContext -underBinder x9
        try clear_value x9
        extract_lets +onlyGivenNames -merge -useContext -underBinder x10
        try clear_value x10
        extract_lets +onlyGivenNames -merge -useContext -underBinder x11
        have hx12 : Fr0 c r s0 x11 := by
          refine fr0_foldl (fun ha13s _ ha13 => ?_) ?_
          ·
            refine State.writeRow_fr (su rfl hc) (su rfl hr) ?_
            refine State.countRays_fr (su rfl hc) (su rfl hr) ?_
            exact ha13
          ·
            exact hx3
        try clear_value x11
        extract_lets +onlyGivenNames -merge -useContext -underBinder x14
        have hx15 : Fr0 c r s0 x14 := by
          refine State.modRse_fr (su rfl hc) (su rfl hr) ?_
          exact hx12
        try clear_value x14
        refine State.writeDoneLines_fr (su rfl hc) (su rfl hr) ?_
        exact hx15
  ·
    exact h0

theorem execUnitRenderDone_fr {c r : Nat} {s0 t : State} {p0} {p1} {p2} {p3} (hc : c ||| 31156552704 = c) (hr : r ||| 84808659323278040271779010758632112005586641870084903020124421091245424640 = r) (h2 : Fr0 c r s0 p2) (ht : execUnitRenderDone p0 p1 p2 p3 = .next t) :
    Fr0 c r s0 t := by
  unfold execUnitRenderDone at ht
  injection ht with ht
  subst ht
  refine State.ifLive_fr (su rfl hc) (su rfl hr) ?_ ?_
  ·
    exact h2
  ·
    intro u0 hu1
    refine cmdUnitRenderDone_fr (su rfl hc) (su rfl hr) ?_
    exact hu1

theorem cmdUnitRenderStart_fr {c r : Nat} {s0 : State} {p0} {p1} (hc : c ||| 65536 = c) (hr : r ||| 0 = r) (h0 : Fr0 c r s0 p0) :
    Fr0 c r s0 (cmdUnitRenderStart p0 p1) := by
  unfold cmdUnitRenderStart
  split
  ·
    refine fr0_ite (fun _ => ?_) (fun _ => ?_)
    ·
      exact h0
    ·
      refine State.modRse_fr (su rfl hc) (su rfl hr) ?_
      exact h0
  ·
    exact h0

theorem execUnitRenderStart_fr {c r : Nat} {s0 t : State} {p0} {p1} (hc : c ||| 65536 = c) (hr : r ||| 0 = r) (h1 : Fr0 c r s0 p1) (ht : execUnitRenderStart p0 p1 = .next t) :
    Fr0 c r s0 t := by
  unfold execUnitRenderStart at ht
  injection ht with ht
  subst ht
  refine State.ifLive_fr (su rfl hc) (su rfl hr) ?_ ?_
  ·
    exact h1
  ·
    intro u0 hu1
    refine cmdUnitRenderStart_fr (su rfl hc) (su rfl hr) ?_
    exact hu1

theorem State.poisonTile_fr {c r : Nat} {s0 : State} {p0} {p1} {p2} {p3} {p4} {p5} {p6} (hc : c ||| 31139586048 = c) (hr : r ||| 1766847064778384329583297500742918515827646156152755088412896174399291392 = r) (h0 : Fr0 c r s0 p0) :
    Fr0 c r s0 (State.poisonTile p0 p1 p2 p3 p4 p5 p6) := by
  unfold State.poisonTile
  split
  ·
    exact h0
  ·
    extract_lets +onlyGivenNames -merge -useContext -underBinder x0
    try clear_value x0
    extract_lets +onlyGivenNames -merge -useContext -underBinder x1
    try clear_value x1
    extract_lets +onlyGivenNames -merge -useContext -underBinder x2
    unfold x2; clear x2
    split
    ·
      refine State.entryLost_fr (su rfl hc) (su rfl hr) ?_
      exact h0
    ·
      split
      ·
        refine fr0_ite (fun _ => ?_) (fun _ => ?_)
        ·
          exact h0
        ·
          refine State.notePoison_fr (su rfl hc) (su rfl hr) ?_
          refine State.modDir_fr (su rfl hc) (su rfl hr) ?_
          refine State.eccUncorrectable_fr (su rfl hc) (su rfl hr) ?_
          exact h0
      ·
        exact h0
    ·
      split
      ·
        refine fr0_ite (fun _ => ?_) (fun _ => ?_)
        ·
          exact h0
        ·
          refine State.notePoison_fr (su rfl hc) (su rfl hr) ?_
          refine State.modDir_fr (su rfl hc) (su rfl hr) ?_
          refine State.eccUncorrectable_fr (su rfl hc) (su rfl hr) ?_
          exact h0
      ·
        exact h0

theorem State.tileError_fr {c r : Nat} {s0 : State} {p0} {p1} {p2} {p3} (hc : c ||| 31139586048 = c) (hr : r ||| 1766847064778384329583303346749467839439318970892085953544974798129463296 = r) (h0 : Fr0 c r s0 p0) :
    Fr0 c r s0 (State.tileError p0 p1 p2 p3) := by
  unfold State.tileError
  split
  ·
    exact h0
  ·
    refine fr0_ite (fun _ => ?_) (fun _ => ?_)
    ·
      split
      ·
        refine State.note_fr (su rfl hc) (su rfl hr) ?_ ?_
        ·
          refine State.eccUncorrectable_fr (su rfl hc) (su rfl hr) ?_
          exact h0
        ·
          exact O.raspLastStatus_ok (su rfl hr)
      ·
        exact h0
    ·
      refine State.poisonTile_fr (su rfl hc) (su rfl hr) ?_
      exact h0

theorem cmdUnitStagingDone_fr {c r : Nat} {s0 : State} {p0} {p1} {p2} {p3} {p4} {p5} (hc : c ||| 31156428800 = c) (hr : r ||| 30036400104523542717558475442946102457793762330867461014757833746582339584 = r) (h0 : Fr0 c r s0 p0) :
    Fr0 c r s0 (cmdUnitStagingDone p0 p1 p2 p3 p4 p5) := by
  unfold cmdUnitStagingDone
  split
  ·
    refine fr0_ite (fun _ => ?_) (fun _ => ?_)
    ·
      exact h0
    ·
      split
      ·
        exact h0
      ·
        extract_lets +onlyGivenNames -merge -useContext -underBinder x0
        try clear_value x0
        extract_lets +onlyGivenNames -merge -useContext -underBinder x1
        have hx2 : Fr0 c r s0 x1 := by
          refine State.eccCorrected_fr (su rfl hc) (su rfl hr) ?_
          refine State.memRequest_fr (su rfl hc) (su rfl hr) ?_
          exact h0
        try clear_value x1
        extract_lets +onlyGivenNames -merge -useContext -underBinder x3
        try clear_value x3
        extract_lets +onlyGivenNames -merge -useContext -underBinder x4
        have hx5 : Fr0 c r s0 x4 := by
          refine fr0_foldl (fun ha6s _ ha6 => ?_) ?_
          ·
            split
            ·
              refine State.tileError_fr (su rfl hc) (su rfl hr) ?_
              exact ha6
            ·
              exact ha6
          ·
            exact hx2
        try clear_value x4
        extract_lets +onlyGivenNames -merge -useContext -underBinder x7
        have hx8 : Fr0 c r s0 x7 := by
          refine State.eccAll_fr (su rfl hc) (su rfl hr) ?_
          exact hx5
        try clear_value x7
        extract_lets +onlyGivenNames -merge -useContext -underBinder x9
        have hx10 : Fr0 c r s0 x9 := by
          refine fr0_foldl (fun ha11s _ ha11 => ?_) ?_
          ·
            refine State.storeError_fr (su rfl hc) (su rfl hr) ?_
            exact ha11
          ·
            exact hx8
        try clear_value x9
        extract_lets +onlyGivenNames -merge -useContext -underBinder x12
        try clear_value x12
        extract_lets +onlyGivenNames -merge -useContext -underBinder x13
        try clear_value x13
        refine State.modRse_fr (su rfl hc) (su rfl hr) ?_
        exact hx10
  ·
    exact h0

theorem execUnitStagingDone_fr {c r : Nat} {s0 t : State} {p0} {p1} {p2} {p3} {p4} {p5} (hc : c ||| 31156428800 = c) (hr : r ||| 30036400104523542717558475442946102457793762330867461014757833746582339584 = r) (h4 : Fr0 c r s0 p4) (ht : execUnitStagingDone p0 p1 p2 p3 p4 p5 = .next t) :
    Fr0 c r s0 t := by
  unfold execUnitStagingDone at ht
  injection ht with ht
  subst ht
  refine State.ifLive_fr (su rfl hc) (su rfl hr) ?_ ?_
  ·
    exact h4
  ·
    intro u0 hu1
    refine cmdUnitStagingDone_fr (su rfl hc) (su rfl hr) ?_
    exact hu1

theorem cmdUnknown_fr {c r : Nat} {s0 : State} {p0} (hc : c ||| 4608 = c) (hr : r ||| 567907468902246771870523036008448 = r) (h0 : Fr0 c r s0 p0) :
    Fr0 c r s0 (cmdUnknown p0) := by
  unfold cmdUnknown
  refine State.withSection_fr (su rfl hc) (su rfl hr) ?_ ?_
  ·
    exact h0
  ·
    intro u0 u2 hu1
    exact hu1

theorem execUnknownSection_fr {c r : Nat} {s0 t : State} {p0} (hc : c ||| 4608 = c) (hr : r ||| 567907468902246771870523036008448 = r) (h0 : Fr0 c r s0 p0) (ht : execUnknownSection p0 = .next t) :
    Fr0 c r s0 t := by
  unfold execUnknownSection at ht
  injection ht with ht
  subst ht
  refine State.ifLive_fr (su rfl hc) (su rfl hr) ?_ ?_
  ·
    exact h0
  ·
    intro u0 hu1
    refine cmdUnknown_fr (su rfl hc) (su rfl hr) ?_
    exact hu1

theorem execUpdateApply_fr {c r : Nat} {s0 t : State} {p0} {p1} (hc : c ||| 103028671480 = c) (hr : r ||| 10141204801825835211972283334656 = r) (h1 : Fr0 c r s0 p1) (ht : execUpdateApply p0 p1 = .next t) :
    Fr0 c r s0 t := by
  unfold execUpdateApply at ht
  injection ht with ht
  subst ht
  refine State.ifLive_fr (su rfl hc) (su rfl hr) ?_ ?_
  ·
    exact h1
  ·
    intro u0 hu1
    refine rowWrite_fr (su rfl hc) (su rfl hr) ?_
    exact hu1

theorem updateFail_fr {c r : Nat} {s0 : State} {p0} {p1} (hc : c ||| 22615687168 = c) (hr : r ||| 113078212145816597093331040047546789776912106629897792492650735700051755008 = r) (h0 : Fr0 c r s0 p0) :
    Fr0 c r s0 (updateFail p0 p1) := by
  unfold updateFail
  extract_lets +onlyGivenNames -merge -useContext -underBinder x0
  have hx1 : Fr0 c r s0 x0 := by
    refine State.atlNote_fr (su rfl hc) (su rfl hr) ?_
    refine State.put_fr (su rfl hc) (su rfl hr) ?_ ?_
    ·
      refine State.put_fr (su rfl hc) (su rfl hr) ?_ ?_
      ·
        exact h0
      ·
        exact O.updateState_ok (su rfl hr)
    ·
      exact O.updateResult_ok (su rfl hr)
  try clear_value x0
  refine fr0_ite (fun _ => ?_) (fun _ => ?_)
  ·
    refine State.showSlots_fr (su rfl hc) (su rfl hr) ?_
    refine State.modNor_fr (su rfl hc) (su rfl hr) ?_
    exact hx1
  ·
    exact hx1

theorem cmdUpdateVerifyDone_fr {c r : Nat} {s0 : State} {p0} (hc : c ||| 22615687168 = c) (hr : r ||| 113078212145816597093331040047546789776912106629897792492650735700051755008 = r) (h0 : Fr0 c r s0 p0) :
    Fr0 c r s0 (cmdUpdateVerifyDone p0) := by
  unfold cmdUpdateVerifyDone
  refine fr0_ite (fun _ => ?_) (fun _ => ?_)
  ·
    exact h0
  ·
    extract_lets +onlyGivenNames -merge -useContext -underBinder x0
    refine fr0_ite (fun _ => ?_) (fun _ => ?_)
    ·
      refine State.put_fr (su rfl hc) (su rfl hr) ?_ ?_
      ·
        exact h0
      ·
        exact O.updateState_ok (su rfl hr)
    ·
      refine updateFail_fr (su rfl hc) (su rfl hr) ?_
      exact h0

theorem execUpdateVerifyDone_fr {c r : Nat} {s0 t : State} {p0} (hc : c ||| 22615687168 = c) (hr : r ||| 113078212145816597093331040047546789776912106629897792492650735700051755008 = r) (h0 : Fr0 c r s0 p0) (ht : execUpdateVerifyDone p0 = .next t) :
    Fr0 c r s0 t := by
  unfold execUpdateVerifyDone at ht
  injection ht with ht
  subst ht
  refine State.ifLive_fr (su rfl hc) (su rfl hr) ?_ ?_
  ·
    exact h0
  ·
    intro u0 hu1
    refine cmdUpdateVerifyDone_fr (su rfl hc) (su rfl hr) ?_
    exact hu1

theorem cmdUpdateWriteBegin_fr {c r : Nat} {s0 : State} {p0} (hc : c ||| 67108864 = c) (hr : r ||| 4763953137210051138544301854418930761728 = r) (h0 : Fr0 c r s0 p0) :
    Fr0 c r s0 (cmdUpdateWriteBegin p0) := by
  unfold cmdUpdateWriteBegin
  refine fr0_ite (fun _ => ?_) (fun _ => ?_)
  ·
    exact h0
  ·
    extract_lets +onlyGivenNames -merge -useContext -underBinder x0
    have hx1 : Fr0 c r s0 x0 := by
      refine State.put_fr (su rfl hc) (su rfl hr) ?_ ?_
      ·
        exact h0
      ·
        exact O.updateState_ok (su rfl hr)
    try clear_value x0
    refine fr0_ite (fun _ => ?_) (fun _ => ?_)
    ·
      refine State.showSlots_fr (su rfl hc) (su rfl hr) ?_
      refine State.modNor_fr (su rfl hc) (su rfl hr) ?_
      exact hx1
    ·
      exact hx1

theorem execUpdateWriteBegin_fr {c r : Nat} {s0 t : State} {p0} (hc : c ||| 67108864 = c) (hr : r ||| 4763953137210051138544301854418930761728 = r) (h0 : Fr0 c r s0 p0) (ht : execUpdateWriteBegin p0 = .next t) :
    Fr0 c r s0 t := by
  unfold execUpdateWriteBegin at ht
  injection ht with ht
  subst ht
  refine State.ifLive_fr (su rfl hc) (su rfl hr) ?_ ?_
  ·
    exact h0
  ·
    intro u0 hu1
    refine cmdUpdateWriteBegin_fr (su rfl hc) (su rfl hr) ?_
    exact hu1

theorem updateWritten_fr {c r : Nat} {s0 : State} {p0} (hc : c ||| 22615687168 = c) (hr : r ||| 113078212145816597093331040047557940149511371941468560351787059880804745216 = r) (h0 : Fr0 c r s0 p0) :
    Fr0 c r s0 (updateWritten p0) := by
  unfold updateWritten
  extract_lets +onlyGivenNames -merge -useContext -underBinder x0
  try clear_value x0
  extract_lets +onlyGivenNames -merge -useContext -underBinder x1
  have hx2 : Fr0 c r s0 x1 := by
    refine State.put_fr (su rfl hc) (su rfl hr) ?_ ?_
    ·
      refine State.put_fr (su rfl hc) (su rfl hr) ?_ ?_
      ·
        exact h0
      ·
        exact O.updateState_ok (su rfl hr)
    ·
      exact O.updateResult_ok (su rfl hr)
  try clear_value x1
  refine fr0_ite (fun _ => ?_) (fun _ => ?_)
  ·
    refine State.showSlots_fr (su rfl hc) (su rfl hr) ?_
    refine State.modNor_fr (su rfl hc) (su rfl hr) ?_
    exact hx2
  ·
    refine State.atlNote_fr (su rfl hc) (su rfl hr) ?_
    refine State.bump_fr (su rfl hc) (su rfl hr) ?_ ?_
    ·
      refine State.modNor_fr (su rfl hc) (su rfl hr) ?_
      exact hx2
    ·
      exact O.updateCount_ok (su rfl hr)

theorem cmdUpdateWriteDone_fr {c r : Nat} {s0 : State} {p0} {p1} {p2} (hc : c ||| 103079215086 = c) (hr : r ||| 113078212145816597093331042970550058994202668468017617854496721451546968064 = r) (h0 : Fr0 c r s0 p0) :
    Fr0 c r s0 (cmdUpdateWriteDone p0 p1 p2) := by
  unfold cmdUpdateWriteDone
  refine fr0_ite (fun _ => ?_) (fun _ => ?_)
  ·
    exact h0
  ·
    refine fr0_ite (fun _ => ?_) (fun _ => ?_)
    ·
      refine fr0_ite (fun _ => ?_) (fun _ => ?_)
      ·
        refine State.modAtl_fr (su rfl hc) (su rfl hr) ?_
        exact h0
      ·
        refine updateFail_fr (su rfl hc) (su rfl hr) ?_
        exact h0
    ·
      refine fr0_ite (fun _ => ?_) (fun _ => ?_)
      ·
        refine State.coldStart_fr (su rfl hc) (su rfl hr) ?_
        refine State.modNor_fr (su rfl hc) (su rfl hr) ?_
        refine updateWritten_fr (su rfl hc) (su rfl hr) ?_
        exact h0
      ·
        refine updateWritten_fr (su rfl hc) (su rfl hr) ?_
        exact h0

theorem execUpdateWriteDone_fr {c r : Nat} {s0 t : State} {p0} {p1} {p2} (hc : c ||| 103079215086 = c) (hr : r ||| 113078212145816597093331042970550058994202668468017617854496721451546968064 = r) (h1 : Fr0 c r s0 p1) (ht : execUpdateWriteDone p0 p1 p2 = .next t) :
    Fr0 c r s0 t := by
  unfold execUpdateWriteDone at ht
  injection ht with ht
  subst ht
  refine State.ifLive_fr (su rfl hc) (su rfl hr) ?_ ?_
  ·
    exact h1
  ·
    intro u0 hu1
    refine cmdUpdateWriteDone_fr (su rfl hc) (su rfl hr) ?_
    exact hu1

theorem State.storeSetting_fr {c r : Nat} {s0 : State} {p0} {p1} {p2} {p3} (hc : c ||| 524288 = c) (hr : r ||| 95780971304118053647396689196894323976171195136475136 = r) (h0 : Fr0 c r s0 p0) :
    Fr0 c r s0 (State.storeSetting p0 p1 p2 p3) := by
  unfold State.storeSetting
  extract_lets +onlyGivenNames -merge -useContext -underBinder x0
  refine State.showSettings_fr (su rfl hc) (su rfl hr) ?_
  refine State.modSlot_fr (su rfl hc) (su rfl hr) ?_
  exact h0

theorem State.assignLanes_fr {c r : Nat} {s0 : State} {p0} {p1} {p2} (hc : c ||| 31140102144 = c) (hr : r ||| 187072209578355573530071658904045889631877996740608 = r) (h0 : Fr0 c r s0 p0) :
    Fr0 c r s0 (State.assignLanes p0 p1 p2) := by
  unfold State.assignLanes
  extract_lets +onlyGivenNames -merge -useContext -underBinder x0
  try clear_value x0
  extract_lets +onlyGivenNames -merge -useContext -underBinder x1
  have hx2 : Fr0 c r s0 x1 := by
    refine fr0_foldl (fun ha3s _ ha3 => ?_) ?_
    ·
      refine State.setLaneState_fr (su rfl hc) (su rfl hr) ?_
      exact ha3
    ·
      exact h0
  try clear_value x1
  extract_lets +onlyGivenNames -merge -useContext -underBinder x4
  have hx5 : Fr0 c r s0 x4 := by
    unfold x4
    split
    ·
      refine State.setLaneState_fr (su rfl hc) (su rfl hr) ?_
      exact hx2
    ·
      exact hx2
  try clear_value x4
  extract_lets +onlyGivenNames -merge -useContext -underBinder x6
  have hx7 : Fr0 c r s0 x6 := by
    refine State.modSlot_fr (su rfl hc) (su rfl hr) ?_
    exact hx5
  try clear_value x6
  extract_lets +onlyGivenNames -merge -useContext -underBinder x8
  try clear_value x8
  extract_lets +onlyGivenNames -merge -useContext -underBinder x9
  have hx10 : Fr0 c r s0 x9 := by
    refine fr0_foldl (fun ha11s _ ha11 => ?_) ?_
    ·
      extract_lets +onlyGivenNames -merge -useContext -underBinder x12
      refine State.linkFault_fr (su rfl hc) (su rfl hr) ?_
      exact ha11
    ·
      exact hx7
  try clear_value x9
  refine fr0_ite (fun _ => ?_) (fun _ => ?_)
  ·
    refine State.linkNote_fr (su rfl hc) (su rfl hr) ?_
    refine State.setSlotState_fr (su rfl hc) (su rfl hr) ?_
    exact hx10
  ·
    refine State.setSlotState_fr (su rfl hc) (su rfl hr) ?_
    exact hx10

theorem State.laneGood_fr {c r : Nat} {s0 : State} {p0} {p1} {p2} {p3} (hc : c ||| 31140102144 = c) (hr : r ||| 187072209578355573530071658601814434728220703064064 = r) (h0 : Fr0 c r s0 p0) :
    Fr0 c r s0 (State.laneGood p0 p1 p2 p3) := by
  unfold State.laneGood
  extract_lets +onlyGivenNames -merge -useContext -underBinder x0
  try clear_value x0
  refine fr0_ite (fun _ => ?_) (fun _ => ?_)
  ·
    refine State.setLaneState_fr (su rfl hc) (su rfl hr) ?_
    exact h0
  ·
    extract_lets +onlyGivenNames -merge -useContext -underBinder x1
    have hx2 : Fr0 c r s0 x1 := by
      refine fr0_ite (fun _ => ?_) (fun _ => ?_)
      ·
        refine State.settleItem_fr (su rfl hc) (su rfl hr) ?_
        refine State.linkNote_fr (su rfl hc) (su rfl hr) ?_
        exact h0
      ·
        exact h0
    try clear_value x1
    split
    ·
      extract_lets +onlyGivenNames -merge -useContext -underBinder x3
      have hx4 : Fr0 c r s0 x3 := by
        refine State.modSlot_fr (su rfl hc) (su rfl hr) ?_
        refine State.setLaneState_fr (su rfl hc) (su rfl hr) ?_
        exact hx2
      try clear_value x3
      refine fr0_ite (fun _ => ?_) (fun _ => ?_)
      ·
        refine State.setSlotState_fr (su rfl hc) (su rfl hr) ?_
        exact hx4
      ·
        exact hx4
    ·
      refine State.setLaneState_fr (su rfl hc) (su rfl hr) ?_
      exact hx2

theorem cmdVerifyDone_fr {c r : Nat} {s0 : State} {p0} {p1} {p2} (hc : c ||| 31140102152 = c) (hr : r ||| 95968043513696409220926760855798369865803073133215744 = r) (h0 : Fr0 c r s0 p0) :
    Fr0 c r s0 (cmdVerifyDone p0 p1 p2) := by
  unfold cmdVerifyDone
  extract_lets +onlyGivenNames -merge -useContext -underBinder x0
  try clear_value x0
  extract_lets +onlyGivenNames -merge -useContext -underBinder x1
  try clear_value x1
  refine fr0_ite (fun _ => ?_) (fun _ => ?_)
  ·
    extract_lets +onlyGivenNames -merge -useContext -underBinder x2
    have hx3 : Fr0 c r s0 x2 := by
      refine State.sideRead_fr (su rfl hc) (su rfl hr) ?_
      refine State.elapseTo_fr (su rfl hc) (su rfl hr) ?_
      exact h0
    try clear_value x2
    extract_lets +onlyGivenNames -merge -useContext -underBinder x4
    have hx5 : Fr0 c r s0 x4 := by
      refine fr0_foldl (fun ha6s _ ha6 => ?_) ?_
      ·
        refine State.storeSetting_fr (su rfl hc) (su rfl hr) ?_
        exact ha6
      ·
        exact hx3
    try clear_value x4
    refine State.sendSync_fr (su rfl hc) (su rfl hr) ?_
    refine State.assignLanes_fr (su rfl hc) (su rfl hr) ?_
    exact hx5
  ·
    extract_lets +onlyGivenNames -merge -useContext -underBinder x7
    try clear_value x7
    extract_lets +onlyGivenNames -merge -useContext -underBinder x8
    extract_lets +onlyGivenNames -merge -useContext -underBinder x9
    have hx10 : Fr0 c r s0 x9 := by
      refine fr0_ite (fun _ => ?_) (fun _ => ?_)
      ·
        exact h0
      ·
        refine State.sideRead_fr (su rfl hc) (su rfl hr) ?_
        refine State.elapseTo_fr (su rfl hc) (su rfl hr) ?_
        exact h0
    try clear_value x9
    refine fr0_foldl (fun ha11s _ ha11 => ?_) ?_
    ·
      extract_lets +onlyGivenNames -merge -useContext -underBinder x12
      have hx13 : Fr0 c r s0 x12 := by
        refine State.modSlot_fr (su rfl hc) (su rfl hr) ?_
        exact ha11
      try clear_value x12
      extract_lets +onlyGivenNames -merge -useContext -underBinder x14
      have hx15 : Fr0 c r s0 x14 := by
        refine State.storeSetting_fr (su rfl hc) (su rfl hr) ?_
        exact hx13
      try clear_value x14
      refine State.sendIdle_fr (su rfl hc) (su rfl hr) ?_
      refine fr0_ite (fun _ => ?_) (fun _ => ?_)
      ·
        refine State.laneGood_fr (su rfl hc) (su rfl hr) ?_
        exact hx15
      ·
        refine State.laneFailed_fr (su rfl hc) (su rfl hr) ?_
        exact hx15
    ·
      exact hx10

theorem execVerifyDone_fr {c r : Nat} {s0 t : State} {p0} {p1} {p2} (hc : c ||| 31140102152 = c) (hr : r ||| 95968043513696409220926760855798369865803073133215744 = r) (h2 : Fr0 c r s0 p2) (ht : execVerifyDone p0 p1 p2 = .next t) :
    Fr0 c r s0 t := by
  unfold execVerifyDone at ht
  injection ht with ht
  subst ht
  refine State.ifLive_fr (su rfl hc) (su rfl hr) ?_ ?_
  ·
    exact h2
  ·
    intro u0 hu1
    refine cmdVerifyDone_fr (su rfl hc) (su rfl hr) ?_
    exact hu1

theorem cmdVipexHeartbeat_fr {c r : Nat} {s0 : State} {p0} (hc : c ||| 2155872256 = c) (hr : r ||| 549755813888 = r) (h0 : Fr0 c r s0 p0) :
    Fr0 c r s0 (cmdVipexHeartbeat p0) := by
  unfold cmdVipexHeartbeat
  extract_lets +onlyGivenNames -merge -useContext -underBinder x0
  try clear_value x0
  refine fr0_ite (fun _ => ?_) (fun _ => ?_)
  ·
    exact h0
  ·
    extract_lets +onlyGivenNames -merge -useContext -underBinder x1
    try clear_value x1
    refine fr0_foldl (fun ha2s _ ha2 => ?_) ?_
    ·
      refine fr0_ite (fun _ => ?_) (fun _ => ?_)
      ·
        refine State.sendVipex_fr (su rfl hc) (su rfl hr) ?_
        exact ha2
      ·
        exact ha2
    ·
      exact h0

theorem execVipexHeartbeat_fr {c r : Nat} {s0 t : State} {p0} (hc : c ||| 2155872256 = c) (hr : r ||| 549755813888 = r) (h0 : Fr0 c r s0 p0) (ht : execVipexHeartbeat p0 = .next t) :
    Fr0 c r s0 t := by
  unfold execVipexHeartbeat at ht
  injection ht with ht
  subst ht
  refine State.ifLive_fr (su rfl hc) (su rfl hr) ?_ ?_
  ·
    exact h0
  ·
    intro u0 hu1
    refine cmdVipexHeartbeat_fr (su rfl hc) (su rfl hr) ?_
    exact hu1

theorem execVipexKeyWrite_fr {c r : Nat} {s0 t : State} {p0} {p1} {p2} (hc : c ||| 103028671480 = c) (hr : r ||| 10141204801825835211972283334656 = r) (h2 : Fr0 c r s0 p2) (ht : execVipexKeyWrite p0 p1 p2 = .next t) :
    Fr0 c r s0 t := by
  unfold execVipexKeyWrite at ht
  injection ht with ht
  subst ht
  refine State.ifLive_fr (su rfl hc) (su rfl hr) ?_ ?_
  ·
    exact h2
  ·
    intro u0 hu1
    refine rowWrite_fr (su rfl hc) (su rfl hr) ?_
    exact hu1

theorem State.readNor_fr {c r : Nat} {s0 : State} {p0} {p1} (hc : c ||| 22615687168 = c) (hr : r ||| 696898287454101780213619762104659690389504 = r) (h0 : Fr0 c r s0 p0) :
    Fr0 c r s0 (State.readNor p0 p1) := by
  unfold State.readNor
  refine State.noteNor_fr (su rfl hc) (su rfl hr) ?_
  refine State.modNor_fr (su rfl hc) (su rfl hr) ?_
  exact h0

theorem cmdWarmResetDone_fr {c r : Nat} {s0 : State} {p0} {p1} (hc : c ||| 100328816640 = c) (hr : r ||| 712551276332467425417699037801793052475392 = r) (h0 : Fr0 c r s0 p0) :
    Fr0 c r s0 (cmdWarmResetDone p0 p1) := by
  unfold cmdWarmResetDone
  refine fr0_ite (fun _ => ?_) (fun _ => ?_)
  ·
    exact h0
  ·
    extract_lets +onlyGivenNames -merge -useContext -underBinder x0
    refine fr0_ite (fun _ => ?_) (fun _ => ?_)
    ·
      refine State.refreshFaults_fr (su rfl hc) (su rfl hr) ?_
      refine State.atlNote_fr (su rfl hc) (su rfl hr) ?_
      refine State.put_fr (su rfl hc) (su rfl hr) ?_ ?_
      ·
        exact h0
      ·
        exact O.atlState_ok (su rfl hr)
    ·
      extract_lets +onlyGivenNames -merge -useContext -underBinder x1
      have hx2 : Fr0 c r s0 x1 := by
        refine State.bootSelect_fr (su rfl hc) (su rfl hr) ?_
        refine State.readNor_fr (su rfl hc) (su rfl hr) ?_
        exact h0
      try clear_value x1
      refine fr0_ite (fun _ => ?_) (fun _ => ?_)
      ·
        refine State.refreshFaults_fr (su rfl hc) (su rfl hr) ?_
        refine State.modAtl_fr (su rfl hc) (su rfl hr) ?_
        refine State.put_fr (su rfl hc) (su rfl hr) ?_ ?_
        ·
          exact hx2
        ·
          exact O.atlState_ok (su rfl hr)
      ·
        extract_lets +onlyGivenNames -merge -useContext -underBinder x3
        have hx4 : Fr0 c r s0 x3 := by
          refine State.settle_fr (su rfl hc) (su rfl hr) ?_
          refine State.enterFirmware_fr (su rfl hc) (su rfl hr) ?_
          refine State.put_fr (su rfl hc) (su rfl hr) ?_ ?_
          ·
            exact hx2
          ·
            exact O.atlState_ok (su rfl hr)
        try clear_value x3
        refine State.atlNote_fr (su rfl hc) (su rfl hr) ?_
        refine State.showSlots_fr (su rfl hc) (su rfl hr) ?_
        refine State.reportTorn_fr (su rfl hc) (su rfl hr) ?_
        exact hx4

theorem execWarmResetDone_fr {c r : Nat} {s0 t : State} {p0} {p1} (hc : c ||| 100328816640 = c) (hr : r ||| 712551276332467425417699037801793052475392 = r) (h0 : Fr0 c r s0 p0) (ht : execWarmResetDone p0 p1 = .next t) :
    Fr0 c r s0 t := by
  unfold execWarmResetDone at ht
  injection ht with ht
  subst ht
  refine State.ifLive_fr (su rfl hc) (su rfl hr) ?_ ?_
  ·
    exact h0
  ·
    intro u0 hu1
    refine cmdWarmResetDone_fr (su rfl hc) (su rfl hr) ?_
    exact hu1

theorem cmdWatchdogExpiry_fr {c r : Nat} {s0 : State} {p0} (hc : c ||| 102484689080 = c) (hr : r ||| 632626352617984892346950221824 = r) (h0 : Fr0 c r s0 p0) :
    Fr0 c r s0 (cmdWatchdogExpiry p0) := by
  unfold cmdWatchdogExpiry
  refine fr0_ite (fun _ => ?_) (fun _ => ?_)
  ·
    refine watchdogExpires_fr (su rfl hc) (su rfl hr) ?_
    refine State.elapseTo_fr (su rfl hc) (su rfl hr) ?_
    exact h0
  ·
    exact h0

theorem execWatchdogExpiry_fr {c r : Nat} {s0 t : State} {p0} (hc : c ||| 102484689080 = c) (hr : r ||| 632626352617984892346950221824 = r) (h0 : Fr0 c r s0 p0) (ht : execWatchdogExpiry p0 = .next t) :
    Fr0 c r s0 t := by
  unfold execWatchdogExpiry at ht
  injection ht with ht
  subst ht
  refine State.ifLive_fr (su rfl hc) (su rfl hr) ?_ ?_
  ·
    exact h0
  ·
    intro u0 hu1
    refine cmdWatchdogExpiry_fr (su rfl hc) (su rfl hr) ?_
    exact hu1

/-! ## Reading a frame -/

/-- Whether an entry of the table speaks of a key. -/
def Reg.hits (g : Reg) (k : Nat) : Bool :=
  g.count == 0 || (if g.stride = 0 then k == g.base else decide (g.base ≤ k) && (k - g.base) % g.stride == 0 && decide ((k - g.base) / g.stride < g.count))

/-- Whether the mask's entries speak of a key. -/
def touched (r k : Nat) : Bool := (List.range 247).any fun i => r.testBit i && (regAt i).hits k

theorem Reg.hits_of_covers {g : Reg} {k : Nat} (h : g.covers k) : g.hits k = true := by
  unfold Reg.hits
  rcases h with h | ⟨n, hn, rfl⟩
  · simp [h]
  · split
    · next h0 => simp [h0]
    · next h0 =>
      have : n * g.stride / g.stride = n := Nat.mul_div_cancel _ (Nat.pos_of_ne_zero h0)
      simp [this, hn]

theorem val_of_fr {c r : Nat} {s t : State} {q : Obj} (h : Fr0 c r s t) (hp : c.testBit 0 = false) (hc : c.testBit 5 = false) (hr : r < 2 ^ 247)
    (hq : touched r q.key = false) : t.val q = s.val q := by
  have hpart : t.part = s.part := (h.1 .part hp).symm
  unfold State.val State.storeOf
  rw [hpart]
  split
  · rw [← show s.cast = t.cast from h.1 .cast hc]
  · rw [h.2 q.key fun i hi hcov => ?_]
    have hlt : i < 247 := (Nat.pow_lt_pow_iff_right (a := 2) (by decide)).mp (Nat.lt_of_le_of_lt (Nat.ge_two_pow_of_testBit hi) hr)
    have ht : touched r q.key = true := List.any_eq_true.mpr ⟨i, List.mem_range.mpr hlt, by rw [hi, Reg.hits_of_covers hcov]; rfl⟩
    rw [ht] at hq
    exact absurd hq (by decide)

theorem vals_of_fr {c r : Nat} {s t : State} {q : Obj} (h : Fr0 c r s t) (hp : c.testBit 0 = false) (hc : c.testBit 5 = false) (hr : r < 2 ^ 247)
    (hq : touched r q.key = false) : t.val q = s.val q ∧ t.int q = s.int q ∧ t.nat q = s.nat q ∧ t.flag q = s.flag q ∧ t.oct q = s.oct q := by
  have hv := val_of_fr h hp hc hr hq
  simp [State.int, State.nat, State.flag, State.oct, hv]

/-- Whether `T` names everything in the masks. -/
def Touch.admits (T : Touch) (c r : Nat) : Bool :=
  ([.part, .die, .stop, .clk, .cast, .maq, .cfg, .held, .isl, .hbm, .figs, .sdec, .rrec, .adm, .cal, .rse, .pdp, .pwr, .link, .scan, .rasp, .aud, .tim, .mem, .thm, .nor, .atl, .pln, .clp, .hif, .dict, .log, .flt, .out, .pending, .free].all fun k => !c.testBit k.bit || T.pieces.contains k) &&
  decide (r < 2 ^ 247) && (List.range 247).all fun i => !r.testBit i || T.regs.contains (regAt i) || T.regs.contains .every

theorem framed_of_fr {c r : Nat} {s t : State} {T : Touch} (h : Fr0 c r s t) (hT : T.admits c r = true) (hp : c.testBit 0 = false) : framed T s t := by
  unfold Touch.admits at hT
  simp only [Bool.and_eq_true, List.all_eq_true, Bool.or_eq_true, Bool.not_eq_true', decide_eq_true_eq, List.mem_range, List.contains_iff_mem] at hT
  obtain ⟨⟨hk, hlt⟩, hr⟩ := hT
  refine ⟨fun k hn => h.1 k ?_, fun o ho hno => ?_⟩
  · rcases hk k (by cases k <;> simp) with h0 | h0
    · exact h0
    · exact absurd h0 hn
  · have hpart : t.part = s.part := (h.1 .part hp).symm
    unfold State.val State.storeOf
    rw [hpart, if_neg ho, if_neg ho, h.2 o.key fun i hi hcov => ?_]
    have hi' : i < 247 := (Nat.pow_lt_pow_iff_right (a := 2) (by decide)).mp (Nat.lt_of_le_of_lt (Nat.ge_two_pow_of_testBit hi) hlt)
    rcases hr i hi' with (h0 | h0) | h0
    · rw [hi] at h0; exact absurd h0 (by decide)
    · exact hno _ h0 hcov
    · exact hno _ h0 (cov_all rfl _)
theorem State.postWith_vals {q : Obj} (s : State) (f : Bool) (code : Nat) (p : List Nat) (hq : touched 7340032 q.key = false) :
    (s.postWith f code p).val q = s.val q ∧ (s.postWith f code p).int q = s.int q ∧ (s.postWith f code p).nat q = s.nat q ∧ (s.postWith f code p).flag q = s.flag q ∧ (s.postWith f code p).oct q = s.oct q :=
  vals_of_fr (State.postWith_fr (c := 22548578304) (r := 7340032) rfl rfl (fr_refl s)) rfl rfl (by decide) hq

theorem State.post_vals {q : Obj} (s : State) (code : Nat) (p : List Nat) (hq : touched 7340032 q.key = false) :
    (s.post code p).val q = s.val q ∧ (s.post code p).int q = s.int q ∧ (s.post code p).nat q = s.nat q ∧ (s.post code p).flag q = s.flag q ∧ (s.post code p).oct q = s.oct q :=
  vals_of_fr (State.post_fr (c := 22548578304) (r := 7340032) rfl rfl (fr_refl s)) rfl rfl (by decide) hq

theorem State.postFault_vals {q : Obj} (s : State) (code : Nat) (p : List Nat) (hq : touched 7340032 q.key = false) :
    (s.postFault code p).val q = s.val q ∧ (s.postFault code p).int q = s.int q ∧ (s.postFault code p).nat q = s.nat q ∧ (s.postFault code p).flag q = s.flag q ∧ (s.postFault code p).oct q = s.oct q :=
  vals_of_fr (State.postFault_fr (c := 22548578304) (r := 7340032) rfl rfl (fr_refl s)) rfl rfl (by decide) hq

theorem State.complete_vals {q : Obj} (s : State) (e : Completion) (hq : touched 6 q.key = false) :
    (s.complete e).val q = s.val q ∧ (s.complete e).int q = s.int q ∧ (s.complete e).nat q = s.nat q ∧ (s.complete e).flag q = s.flag q ∧ (s.complete e).oct q = s.oct q :=
  vals_of_fr (State.complete_fr (c := 18253611008) (r := 6) rfl rfl (fr_refl s)) rfl rfl (by decide) hq

theorem State.suspend_vals {q : Obj} (s : State) (b : Nat) (hq : touched 2066035336255477121024 q.key = false) :
    (s.suspend b).val q = s.val q ∧ (s.suspend b).int q = s.int q ∧ (s.suspend b).nat q = s.nat q ∧ (s.suspend b).flag q = s.flag q ∧ (s.suspend b).oct q = s.oct q :=
  vals_of_fr (State.suspend_fr (c := 22549643264) (r := 2066035336255477121024) rfl rfl (fr_refl s)) rfl rfl (by decide) hq

theorem State.resume_vals {q : Obj} (s : State) (b : Nat) (hq : touched 885443715538065817600 q.key = false) :
    (s.resume b).val q = s.val q ∧ (s.resume b).int q = s.int q ∧ (s.resume b).nat q = s.nat q ∧ (s.resume b).flag q = s.flag q ∧ (s.resume b).oct q = s.oct q :=
  vals_of_fr (State.resume_fr (c := 22548578304) (r := 885443715538065817600) rfl rfl (fr_refl s)) rfl rfl (by decide) hq

theorem State.refreshFaults_vals {q : Obj} (s : State)  (hq : touched 4685472994722233450496 q.key = false) :
    (s.refreshFaults).val q = s.val q ∧ (s.refreshFaults).int q = s.int q ∧ (s.refreshFaults).nat q = s.nat q ∧ (s.refreshFaults).flag q = s.flag q ∧ (s.refreshFaults).oct q = s.oct q :=
  vals_of_fr (State.refreshFaults_fr (c := 22549643264) (r := 4685472994722233450496) rfl rfl (fr_refl s)) rfl rfl (by decide) hq

theorem State.raise_vals {q : Obj} (s : State) (fam cls item code : Nat) (p : List Nat) (hq : touched 306916927898379527127040 q.key = false) :
    (s.raise fam cls item code p).val q = s.val q ∧ (s.raise fam cls item code p).int q = s.int q ∧ (s.raise fam cls item code p).nat q = s.nat q ∧ (s.raise fam cls item code p).flag q = s.flag q ∧ (s.raise fam cls item code p).oct q = s.oct q :=
  vals_of_fr (State.raise_fr (c := 31139577856) (r := 306916927898379527127040) rfl rfl (fr_refl s)) rfl rfl (by decide) hq

theorem State.settleIf_vals {q : Obj} (s : State) (fam : Nat) (p : FaultRec → Bool) (hq : touched 4685472994722233450496 q.key = false) :
    (s.settleIf fam p).val q = s.val q ∧ (s.settleIf fam p).int q = s.int q ∧ (s.settleIf fam p).nat q = s.nat q ∧ (s.settleIf fam p).flag q = s.flag q ∧ (s.settleIf fam p).oct q = s.oct q :=
  vals_of_fr (State.settleIf_fr (c := 31139577856) (r := 4685472994722233450496) rfl rfl (fr_refl s)) rfl rfl (by decide) hq

theorem State.settle_vals {q : Obj} (s : State) (fam cls : Nat) (hq : touched 4685472994722233450496 q.key = false) :
    (s.settle fam cls).val q = s.val q ∧ (s.settle fam cls).int q = s.int q ∧ (s.settle fam cls).nat q = s.nat q ∧ (s.settle fam cls).flag q = s.flag q ∧ (s.settle fam cls).oct q = s.oct q :=
  vals_of_fr (State.settle_fr (c := 31139577856) (r := 4685472994722233450496) rfl rfl (fr_refl s)) rfl rfl (by decide) hq

theorem State.settleItem_vals {q : Obj} (s : State) (fam cls item : Nat) (hq : touched 4685472994722233450496 q.key = false) :
    (s.settleItem fam cls item).val q = s.val q ∧ (s.settleItem fam cls item).int q = s.int q ∧ (s.settleItem fam cls item).nat q = s.nat q ∧ (s.settleItem fam cls item).flag q = s.flag q ∧ (s.settleItem fam cls item).oct q = s.oct q :=
  vals_of_fr (State.settleItem_fr (c := 31139577856) (r := 4685472994722233450496) rfl rfl (fr_refl s)) rfl rfl (by decide) hq

theorem State.eccUncorrectable_vals {q : Obj} (s : State) (a : Nat) (k : MemClass) (f : Bool) (hq : touched 15576596480 q.key = false) :
    (s.eccUncorrectable a k f).val q = s.val q ∧ (s.eccUncorrectable a k f).int q = s.int q ∧ (s.eccUncorrectable a k f).nat q = s.nat q ∧ (s.eccUncorrectable a k f).flag q = s.flag q ∧ (s.eccUncorrectable a k f).oct q = s.oct q :=
  vals_of_fr (State.eccUncorrectable_fr (c := 22548578304) (r := 15576596480) rfl rfl (fr_refl s)) rfl rfl (by decide) hq


end Sys2Proof.Machine
end

