-- ==== Sys2Proof/Laws/Keep.lean ====
section
/-! SUPPORT. What no operation but those on memory changes: the bytes of HBM, and the queue of commands. -/

set_option linter.unusedSimpArgs false

namespace Sys2Proof.Machine

@[simp] theorem State.eccAll_mem (s : State) (cls : MemClass) (addrs : List Nat) :
    (State.eccAll s cls addrs).hbm = s.hbm ∧ (State.eccAll s cls addrs).pending = s.pending :=
  have h := State.eccAll_fr (c := 22548578304) (r := 15576596480) rfl rfl (fr_refl _)
  ⟨(h.1 .hbm rfl).symm, (h.1 .pending rfl).symm⟩

@[simp] theorem State.eccCorrected_mem (s : State) (addrs : List Nat) :
    (State.eccCorrected s addrs).hbm = s.hbm ∧ (State.eccCorrected s addrs).pending = s.pending :=
  have h := State.eccCorrected_fr (c := 16777216) (r := 1073741824) rfl rfl (fr_refl _)
  ⟨(h.1 .hbm rfl).symm, (h.1 .pending rfl).symm⟩

@[simp] theorem State.dropSlots_mem (s : State) (dead : List Nat) :
    (State.dropSlots s dead).hbm = s.hbm ∧ (State.dropSlots s dead).pending = s.pending :=
  have h := State.dropSlots_fr (c := 8192) (r := 0) rfl rfl (fr_refl _)
  ⟨(h.1 .hbm rfl).symm, (h.1 .pending rfl).symm⟩

@[simp] theorem State.dropDirs_mem (s : State) :
    (State.dropDirs s).hbm = s.hbm ∧ (State.dropDirs s).pending = s.pending :=
  have h := State.dropDirs_fr (c := 8192) (r := 0) rfl rfl (fr_refl _)
  ⟨(h.1 .hbm rfl).symm, (h.1 .pending rfl).symm⟩

@[simp] theorem State.refreshRelief_mem (s : State) :
    (State.refreshRelief s).hbm = s.hbm ∧ (State.refreshRelief s).pending = s.pending :=
  have h := State.refreshRelief_fr (c := 0) (r := 65024) rfl rfl (fr_refl _)
  ⟨(h.1 .hbm rfl).symm, (h.1 .pending rfl).symm⟩

@[simp] theorem State.detach_mem (s : State) (ord : Nat) (id : Option Nat) :
    (State.detach s ord id).hbm = s.hbm ∧ (State.detach s ord id).pending = s.pending :=
  have h := State.detach_fr (c := 8192) (r := 0) rfl rfl (fr_refl _)
  ⟨(h.1 .hbm rfl).symm, (h.1 .pending rfl).symm⟩

@[simp] theorem State.allocDir_mem (s : State) (fig layer tx ty ord : Nat) :
    (State.allocDir s fig layer tx ty ord).1.hbm = s.hbm ∧ (State.allocDir s fig layer tx ty ord).1.pending = s.pending :=
  have h := State.allocDir_fr (c := 8192) (r := 0) rfl rfl (fr_refl _)
  ⟨(h.1 .hbm rfl).symm, (h.1 .pending rfl).symm⟩

@[simp] theorem State.sdecCode_mem (s : State) (key code : Nat) :
    (State.sdecCode s key code).hbm = s.hbm ∧ (State.sdecCode s key code).pending = s.pending :=
  have h := State.sdecCode_fr (c := 4096) (r := 243388915243820045087367015432192) rfl rfl (fr_refl _)
  ⟨(h.1 .hbm rfl).symm, (h.1 .pending rfl).symm⟩

@[simp] theorem State.placeFig_mem (s : State) (key ord : Nat) (old : Option Figure) (slot id : Nat) (c : Ctx) (ls : List Layer) (screen : Figure → Rect) :
    (State.placeFig s key ord old slot id c ls screen).hbm = s.hbm ∧ (State.placeFig s key ord old slot id c ls screen).pending = s.pending :=
  have h := State.placeFig_fr (c := 14336) (r := 243388915243820045087367015432192) rfl rfl (fr_refl _)
  ⟨(h.1 .hbm rfl).symm, (h.1 .pending rfl).symm⟩

@[simp] theorem State.retireFig_mem (s : State) (ord : Nat) (f : Figure) :
    (State.retireFig s ord f).hbm = s.hbm ∧ (State.retireFig s ord f).pending = s.pending :=
  have h := State.retireFig_fr (c := 10240) (r := 0) rfl rfl (fr_refl _)
  ⟨(h.1 .hbm rfl).symm, (h.1 .pending rfl).symm⟩

@[simp] theorem State.retireAll_mem (s : State) :
    (State.retireAll s).hbm = s.hbm ∧ (State.retireAll s).pending = s.pending :=
  have h := State.retireAll_fr (c := 10240) (r := 0) rfl rfl (fr_refl _)
  ⟨(h.1 .hbm rfl).symm, (h.1 .pending rfl).symm⟩

@[simp] theorem State.define_mem (s : State) (key ord id : Nat) (c : Ctx) (ls : List Layer) (screen : Figure → Rect) :
    (State.define s key ord id c ls screen).hbm = s.hbm ∧ (State.define s key ord id c ls screen).pending = s.pending :=
  have h := State.define_fr (c := 14336) (r := 200867255532373784442745261786034240559095419310216119844864) rfl rfl (fr_refl _)
  ⟨(h.1 .hbm rfl).symm, (h.1 .pending rfl).symm⟩

@[simp] theorem State.modify_mem (s : State) (key ord id : Nat) (change : Figure → Except Nat (Ctx × List Layer)) (screen : Figure → Rect) :
    (State.modify s key ord id change screen).hbm = s.hbm ∧ (State.modify s key ord id change screen).pending = s.pending :=
  have h := State.modify_fr (c := 14336) (r := 243388915243820045087367015432192) rfl rfl (fr_refl _)
  ⟨(h.1 .hbm rfl).symm, (h.1 .pending rfl).symm⟩

@[simp] theorem State.retire_mem (s : State) (key ord id : Nat) :
    (State.retire s key ord id).hbm = s.hbm ∧ (State.retire s key ord id).pending = s.pending :=
  have h := State.retire_fr (c := 14336) (r := 243388915243820045087367015432192) rfl rfl (fr_refl _)
  ⟨(h.1 .hbm rfl).symm, (h.1 .pending rfl).symm⟩

@[simp] theorem State.markResident_mem (s : State) :
    (State.markResident s).hbm = s.hbm ∧ (State.markResident s).pending = s.pending :=
  have h := State.markResident_fr (c := 16384) (r := 0) rfl rfl (fr_refl _)
  ⟨(h.1 .hbm rfl).symm, (h.1 .pending rfl).symm⟩

@[simp] theorem State.settleRelief_mem (s : State) :
    (State.settleRelief s).hbm = s.hbm ∧ (State.settleRelief s).pending = s.pending :=
  have h := State.settleRelief_fr (c := 16384) (r := 65024) rfl rfl (fr_refl _)
  ⟨(h.1 .hbm rfl).symm, (h.1 .pending rfl).symm⟩

@[simp] theorem State.endUpd_mem (s : State) (ord : Nat) :
    (State.endUpd s ord).hbm = s.hbm ∧ (State.endUpd s ord).pending = s.pending :=
  have h := State.endUpd_fr (c := 8192) (r := 0) rfl rfl (fr_refl _)
  ⟨(h.1 .hbm rfl).symm, (h.1 .pending rfl).symm⟩

@[simp] theorem State.dispatchUpd_mem (s : State) (u : TileUpd) :
    (State.dispatchUpd s u).hbm = s.hbm ∧ (State.dispatchUpd s u).pending = s.pending :=
  have h := State.dispatchUpd_fr (c := 12288) (r := 0) rfl rfl (fr_refl _)
  ⟨(h.1 .hbm rfl).symm, (h.1 .pending rfl).symm⟩

@[simp] theorem State.commitVersion_mem (s : State) (d : Dir) (t : TileEntry) (v : Version) (keep : Option (Nat × Nat)) :
    (State.commitVersion s d t v keep).hbm = s.hbm ∧ (State.commitVersion s d t v keep).pending = s.pending :=
  have h := State.commitVersion_fr (c := 31156363264) (r := 7067388259113537318333190002971674063309935587502480517959419527403929600) rfl rfl (fr_refl _)
  ⟨(h.1 .hbm rfl).symm, (h.1 .pending rfl).symm⟩

@[simp] theorem State.discardUpd_mem (s : State) (u : TileUpd) (code : Nat) :
    (State.discardUpd s u code).hbm = s.hbm ∧ (State.discardUpd s u code).pending = s.pending :=
  have h := State.discardUpd_fr (c := 12288) (r := 2326392381538846597626749722506035200) rfl rfl (fr_refl _)
  ⟨(h.1 .hbm rfl).symm, (h.1 .pending rfl).symm⟩

@[simp] theorem State.commitUpd_mem (s : State) (u : TileUpd) :
    (State.commitUpd s u).hbm = s.hbm ∧ (State.commitUpd s u).pending = s.pending :=
  have h := State.commitUpd_fr (c := 31156367360) (r := 10601082388670305977499785004457511097291295762792565031829381652495204352) rfl rfl (fr_refl _)
  ⟨(h.1 .hbm rfl).symm, (h.1 .pending rfl).symm⟩

@[simp] theorem State.notePoison_mem (s : State) (d : Dir) (tx ty : Nat) :
    (State.notePoison s d tx ty).hbm = s.hbm ∧ (State.notePoison s d tx ty).pending = s.pending :=
  have h := State.notePoison_fr (c := 31139577856) (r := 1766847064778384329583297500742918515827646156152755088412896158830034944) rfl rfl (fr_refl _)
  ⟨(h.1 .hbm rfl).symm, (h.1 .pending rfl).symm⟩

@[simp] theorem State.entryLost_mem (s : State) (d : Dir) (tx ty : Nat) (cls : MemClass) :
    (State.entryLost s d tx ty cls).hbm = s.hbm ∧ (State.entryLost s d tx ty cls).pending = s.pending :=
  have h := State.entryLost_fr (c := 31139586048) (r := 1766847064778384329583297500742918515827646156152755088412896174399291392) rfl rfl (fr_refl _)
  ⟨(h.1 .hbm rfl).symm, (h.1 .pending rfl).symm⟩

@[simp] theorem State.regateRse_mem (s : State) (nb : Bool) :
    (State.regateRse s nb).hbm = s.hbm ∧ (State.regateRse s nb).pending = s.pending :=
  have h := State.regateRse_fr (c := 512) (r := 0) rfl rfl (fr_refl _)
  ⟨(h.1 .hbm rfl).symm, (h.1 .pending rfl).symm⟩

@[simp] theorem State.regateOld_mem (s : State) :
    (State.regateOld s).hbm = s.hbm ∧ (State.regateOld s).pending = s.pending :=
  have h := State.regateOld_fr (c := 512) (r := 0) rfl rfl (fr_refl _)
  ⟨(h.1 .hbm rfl).symm, (h.1 .pending rfl).symm⟩

@[simp] theorem State.releaseFrame_mem (s : State) (number : Nat) :
    (State.releaseFrame s number).hbm = s.hbm ∧ (State.releaseFrame s number).pending = s.pending :=
  have h := State.releaseFrame_fr (c := 25088) (r := 65024) rfl rfl (fr_refl _)
  ⟨(h.1 .hbm rfl).symm, (h.1 .pending rfl).symm⟩

@[simp] theorem State.regateStream_mem (s : State) :
    (State.regateStream s).hbm = s.hbm ∧ (State.regateStream s).pending = s.pending :=
  have h := State.regateStream_fr (c := 512) (r := 0) rfl rfl (fr_refl _)
  ⟨(h.1 .hbm rfl).symm, (h.1 .pending rfl).symm⟩

@[simp] theorem cmdTileDecodeDone_mem (s : State) (dec : Nat) :
    (cmdTileDecodeDone s dec).hbm = s.hbm ∧ (cmdTileDecodeDone s dec).pending = s.pending :=
  have h := cmdTileDecodeDone_fr (c := 8192) (r := 0) rfl rfl (fr_refl _)
  ⟨(h.1 .hbm rfl).symm, (h.1 .pending rfl).symm⟩

@[simp] theorem cmdDecoderFree_mem (s : State) :
    (cmdDecoderFree s).hbm = s.hbm ∧ (cmdDecoderFree s).pending = s.pending :=
  have h := cmdDecoderFree_fr (c := 28672) (r := 65024) rfl rfl (fr_refl _)
  ⟨(h.1 .hbm rfl).symm, (h.1 .pending rfl).symm⟩

@[simp] theorem cmdTileCommit_mem (s : State) (ord : Nat) (entryUe : Bool) :
    (cmdTileCommit s ord entryUe).hbm = s.hbm ∧ (cmdTileCommit s ord entryUe).pending = s.pending :=
  have h := cmdTileCommit_fr (c := 31156367872) (r := 12367929453448690307083082505200429613118779659668486221405891526650822144) rfl rfl (fr_refl _)
  ⟨(h.1 .hbm rfl).symm, (h.1 .pending rfl).symm⟩

@[simp] theorem State.refreshCal_mem (s : State) :
    (State.refreshCal s).hbm = s.hbm ∧ (State.refreshCal s).pending = s.pending :=
  have h := State.refreshCal_fr (c := 0) (r := 8646911284551352320) rfl rfl (fr_refl _)
  ⟨(h.1 .hbm rfl).symm, (h.1 .pending rfl).symm⟩

@[simp] theorem State.setTMeas_mem (s : State) (t : Option Int) :
    (State.setTMeas s t).hbm = s.hbm ∧ (State.setTMeas s t).pending = s.pending :=
  have h := State.setTMeas_fr (c := 32768) (r := 8646911284551352320) rfl rfl (fr_refl _)
  ⟨(h.1 .hbm rfl).symm, (h.1 .pending rfl).symm⟩

@[simp] theorem State.stepTCal_mem (s : State) :
    (State.stepTCal s).hbm = s.hbm ∧ (State.stepTCal s).pending = s.pending :=
  have h := State.stepTCal_fr (c := 32768) (r := 8646911284551352320) rfl rfl (fr_refl _)
  ⟨(h.1 .hbm rfl).symm, (h.1 .pending rfl).symm⟩

@[simp] theorem State.streamCode_mem (s : State) (code : Nat) :
    (State.streamCode s code).hbm = s.hbm ∧ (State.streamCode s code).pending = s.pending :=
  have h := State.streamCode_fr (c := 4096) (r := 243388915243820045087367015432192) rfl rfl (fr_refl _)
  ⟨(h.1 .hbm rfl).symm, (h.1 .pending rfl).symm⟩

@[simp] theorem State.popSegment_mem (s : State) (rest : Bytes) :
    (State.popSegment s rest).hbm = s.hbm ∧ (State.popSegment s rest).pending = s.pending :=
  have h := State.popSegment_fr (c := 4096) (r := 0) rfl rfl (fr_refl _)
  ⟨(h.1 .hbm rfl).symm, (h.1 .pending rfl).symm⟩

@[simp] theorem State.discardSegment_mem (s : State) (g : Seg) (code : Nat) (bad : Bool) :
    (State.discardSegment s g code bad).hbm = s.hbm ∧ (State.discardSegment s g code bad).pending = s.pending :=
  have h := State.discardSegment_fr (c := 4608) (r := 6739986666787659948666753771754907911798201349455188207642917994496) rfl rfl (fr_refl _)
  ⟨(h.1 .hbm rfl).symm, (h.1 .pending rfl).symm⟩

@[simp] theorem State.acceptSegment_mem (s : State) (g : Seg) (ue : List Nat) :
    (State.acceptSegment s g ue).hbm = s.hbm ∧ (State.acceptSegment s g ue).pending = s.pending :=
  have h := State.acceptSegment_fr (c := 4096) (r := 40439920000725959692000522630529446010455716633810858721655415373824) rfl rfl (fr_refl _)
  ⟨(h.1 .hbm rfl).symm, (h.1 .pending rfl).symm⟩

@[simp] theorem cmdSegment_mem (s : State) (ue ce : List Nat) :
    (cmdSegment s ue ce).hbm = s.hbm ∧ (cmdSegment s ue ce).pending = s.pending :=
  have h := cmdSegment_fr (c := 22565386752) (r := 101099800001814899230001306576323615269528206828347191891522204270080) rfl rfl (fr_refl _)
  ⟨(h.1 .hbm rfl).symm, (h.1 .pending rfl).symm⟩

@[simp] theorem State.endSegment_mem (s : State) :
    (State.endSegment s).hbm = s.hbm ∧ (State.endSegment s).pending = s.pending :=
  have h := State.endSegment_fr (c := 4608) (r := 0) rfl rfl (fr_refl _)
  ⟨(h.1 .hbm rfl).symm, (h.1 .pending rfl).symm⟩

@[simp] theorem State.nextSection_mem (s : State) (n : Nat) :
    (State.nextSection s n).hbm = s.hbm ∧ (State.nextSection s n).pending = s.pending :=
  have h := State.nextSection_fr (c := 4608) (r := 0) rfl rfl (fr_refl _)
  ⟨(h.1 .hbm rfl).symm, (h.1 .pending rfl).symm⟩

@[simp] theorem State.badSection_mem (s : State) :
    (State.badSection s).hbm = s.hbm ∧ (State.badSection s).pending = s.pending :=
  have h := State.badSection_fr (c := 4096) (r := 243388915243820045087367015432192) rfl rfl (fr_refl _)
  ⟨(h.1 .hbm rfl).symm, (h.1 .pending rfl).symm⟩

@[simp] theorem State.acceptSection_mem (s : State) :
    (State.acceptSection s).hbm = s.hbm ∧ (State.acceptSection s).pending = s.pending :=
  have h := State.acceptSection_fr (c := 4096) (r := 0) rfl rfl (fr_refl _)
  ⟨(h.1 .hbm rfl).symm, (h.1 .pending rfl).symm⟩

@[simp] theorem cmdFigureDefine_mem (s : State) :
    (cmdFigureDefine s).hbm = s.hbm ∧ (cmdFigureDefine s).pending = s.pending :=
  have h := cmdFigureDefine_fr (c := 31232) (r := 200867255532373784442745262110552794217522146093372140486144) rfl rfl (fr_refl _)
  ⟨(h.1 .hbm rfl).symm, (h.1 .pending rfl).symm⟩

@[simp] theorem cmdFigureModify_mem (s : State) :
    (cmdFigureModify s).hbm = s.hbm ∧ (cmdFigureModify s).pending = s.pending :=
  have h := cmdFigureModify_fr (c := 31232) (r := 567907468902246771870523036073472) rfl rfl (fr_refl _)
  ⟨(h.1 .hbm rfl).symm, (h.1 .pending rfl).symm⟩

@[simp] theorem cmdFigureRetire_mem (s : State) :
    (cmdFigureRetire s).hbm = s.hbm ∧ (cmdFigureRetire s).pending = s.pending :=
  have h := cmdFigureRetire_fr (c := 31232) (r := 567907468902246771870523036073472) rfl rfl (fr_refl _)
  ⟨(h.1 .hbm rfl).symm, (h.1 .pending rfl).symm⟩

@[simp] theorem cmdTileUpdate_mem (s : State) :
    (cmdTileUpdate s).hbm = s.hbm ∧ (cmdTileUpdate s).pending = s.pending :=
  have h := cmdTileUpdate_fr (c := 29184) (r := 567907468902246771870523036073472) rfl rfl (fr_refl _)
  ⟨(h.1 .hbm rfl).symm, (h.1 .pending rfl).symm⟩

@[simp] theorem cmdPadding_mem (s : State) :
    (cmdPadding s).hbm = s.hbm ∧ (cmdPadding s).pending = s.pending :=
  have h := cmdPadding_fr (c := 20992) (r := 567907468902246771870523036073472) rfl rfl (fr_refl _)
  ⟨(h.1 .hbm rfl).symm, (h.1 .pending rfl).symm⟩

@[simp] theorem cmdUnknown_mem (s : State) :
    (cmdUnknown s).hbm = s.hbm ∧ (cmdUnknown s).pending = s.pending :=
  have h := cmdUnknown_fr (c := 4608) (r := 567907468902246771870523036008448) rfl rfl (fr_refl _)
  ⟨(h.1 .hbm rfl).symm, (h.1 .pending rfl).symm⟩

@[simp] theorem cmdPrivate_mem (s : State) :
    (cmdPrivate s).hbm = s.hbm ∧ (cmdPrivate s).pending = s.pending :=
  have h := cmdPrivate_fr (c := 4608) (r := 567907468902246771870523036008448) rfl rfl (fr_refl _)
  ⟨(h.1 .hbm rfl).symm, (h.1 .pending rfl).symm⟩

@[simp] theorem State.refuseMarker_mem (s : State) (tag epoch code : Nat) :
    (State.refuseMarker s tag epoch code).hbm = s.hbm ∧ (State.refuseMarker s tag epoch code).pending = s.pending :=
  have h := State.refuseMarker_fr (c := 18253611008) (r := 81129638414606681695789005144070) rfl rfl (fr_refl _)
  ⟨(h.1 .hbm rfl).symm, (h.1 .pending rfl).symm⟩

@[simp] theorem State.binMarker_mem (s : State) (tag epoch ord key : Nat) :
    (State.binMarker s tag epoch ord key).hbm = s.hbm ∧ (State.binMarker s tag epoch ord key).pending = s.pending :=
  have h := State.binMarker_fr (c := 20480) (r := 1569275433846670190958947355801916604025588861116008693248) rfl rfl (fr_refl _)
  ⟨(h.1 .hbm rfl).symm, (h.1 .pending rfl).symm⟩

@[simp] theorem cmdFrameMarker_mem (s : State) :
    (cmdFrameMarker s).hbm = s.hbm ∧ (cmdFrameMarker s).pending = s.pending :=
  have h := cmdFrameMarker_fr (c := 18253632000) (r := 1569275433846670190958947923709385506272360731639044701702) rfl rfl (fr_refl _)
  ⟨(h.1 .hbm rfl).symm, (h.1 .pending rfl).symm⟩

@[simp] theorem State.dropCodes_mem (s : State) (f : Frame) :
    (State.dropCodes s f).hbm = s.hbm ∧ (State.dropCodes s f).pending = s.pending :=
  have h := State.dropCodes_fr (c := 4096) (r := 0) rfl rfl (fr_refl _)
  ⟨(h.1 .hbm rfl).symm, (h.1 .pending rfl).symm⟩

@[simp] theorem State.admissionEntry_mem (s : State) (f : Frame) (c : Completion) :
    (State.admissionEntry s f c).hbm = s.hbm ∧ (State.admissionEntry s f c).pending = s.pending :=
  have h := State.admissionEntry_fr (c := 18253615104) (r := 7) rfl rfl (fr_refl _)
  ⟨(h.1 .hbm rfl).symm, (h.1 .pending rfl).symm⟩

@[simp] theorem State.dropHead_mem (s : State) :
    (State.dropHead s).hbm = s.hbm ∧ (State.dropHead s).pending = s.pending :=
  have h := State.dropHead_fr (c := 16384) (r := 0) rfl rfl (fr_refl _)
  ⟨(h.1 .hbm rfl).symm, (h.1 .pending rfl).symm⟩

@[simp] theorem State.rebind_mem (s : State) (number : Nat) :
    (State.rebind s number).hbm = s.hbm ∧ (State.rebind s number).pending = s.pending :=
  have h := State.rebind_fr (c := 0) (r := 8) rfl rfl (fr_refl _)
  ⟨(h.1 .hbm rfl).symm, (h.1 .pending rfl).symm⟩

@[simp] theorem State.refuseFrame_mem (s : State) (f : Frame) (c : Completion) :
    (State.refuseFrame s f c).hbm = s.hbm ∧ (State.refuseFrame s f c).pending = s.pending :=
  have h := State.refuseFrame_fr (c := 18253640192) (r := 65535) rfl rfl (fr_refl _)
  ⟨(h.1 .hbm rfl).symm, (h.1 .pending rfl).symm⟩

@[simp] theorem State.refusalStatus_mem (s : State) (code : Nat) :
    (State.refusalStatus s code).hbm = s.hbm ∧ (State.refusalStatus s code).pending = s.pending :=
  have h := State.refusalStatus_fr (c := 0) (r := 196612) rfl rfl (fr_refl _)
  ⟨(h.1 .hbm rfl).symm, (h.1 .pending rfl).symm⟩

@[simp] theorem State.refuseHead_mem (s : State) (f : Frame) (code : Nat) :
    (State.refuseHead s f code).hbm = s.hbm ∧ (State.refuseHead s f code).pending = s.pending :=
  have h := State.refuseHead_fr (c := 18253640192) (r := 262143) rfl rfl (fr_refl _)
  ⟨(h.1 .hbm rfl).symm, (h.1 .pending rfl).symm⟩

@[simp] theorem cmdAdmTakeFrame_mem (s : State) :
    (cmdAdmTakeFrame s).hbm = s.hbm ∧ (cmdAdmTakeFrame s).pending = s.pending :=
  have h := cmdAdmTakeFrame_fr (c := 18253640192) (r := 262143) rfl rfl (fr_refl _)
  ⟨(h.1 .hbm rfl).symm, (h.1 .pending rfl).symm⟩

@[simp] theorem cmdPreCostingDone_mem (s : State) :
    (cmdPreCostingDone s).hbm = s.hbm ∧ (cmdPreCostingDone s).pending = s.pending :=
  have h := cmdPreCostingDone_fr (c := 18253640192) (r := 65535) rfl rfl (fr_refl _)
  ⟨(h.1 .hbm rfl).symm, (h.1 .pending rfl).symm⟩

@[simp] theorem cmdFinalCostingStart_mem (s : State) :
    (cmdFinalCostingStart s).hbm = s.hbm ∧ (cmdFinalCostingStart s).pending = s.pending :=
  have h := cmdFinalCostingStart_fr (c := 18255737344) (r := 262143) rfl rfl (fr_refl _)
  ⟨(h.1 .hbm rfl).symm, (h.1 .pending rfl).symm⟩

@[simp] theorem cmdFinalCostingDone_mem (s : State) :
    (cmdFinalCostingDone s).hbm = s.hbm ∧ (cmdFinalCostingDone s).pending = s.pending :=
  have h := cmdFinalCostingDone_fr (c := 22548607488) (r := 2812141577453232982198433661597034554414740682835425527857151) rfl rfl (fr_refl _)
  ⟨(h.1 .hbm rfl).symm, (h.1 .pending rfl).symm⟩

@[simp] theorem cmdLateData_mem (s : State) :
    (cmdLateData s).hbm = s.hbm ∧ (cmdLateData s).pending = s.pending :=
  have h := cmdLateData_fr (c := 18253640200) (r := 262143) rfl rfl (fr_refl _)
  ⟨(h.1 .hbm rfl).symm, (h.1 .pending rfl).symm⟩

@[simp] theorem State.updateTMeas_mem (s : State) :
    (State.updateTMeas s).hbm = s.hbm ∧ (State.updateTMeas s).pending = s.pending :=
  have h := State.updateTMeas_fr (c := 32768) (r := 8646911284551352320) rfl rfl (fr_refl _)
  ⟨(h.1 .hbm rfl).symm, (h.1 .pending rfl).symm⟩

@[simp] theorem State.latchBands_mem (s : State) (newBank : Bool) :
    (State.latchBands s newBank).hbm = s.hbm ∧ (State.latchBands s newBank).pending = s.pending :=
  have h := State.latchBands_fr (c := 22548709376) (r := 49063802550534472980878954041109117456793694708666728448) rfl rfl (fr_refl _)
  ⟨(h.1 .hbm rfl).symm, (h.1 .pending rfl).symm⟩

@[simp] theorem State.latchDrive_mem (s : State) (newBank : Bool) :
    (State.latchDrive s newBank).hbm = s.hbm ∧ (State.latchDrive s newBank).pending = s.pending :=
  have h := State.latchDrive_fr (c := 22548709376) (r := 105312291668581131940744057197082281491194318981543154053102436352) rfl rfl (fr_refl _)
  ⟨(h.1 .hbm rfl).symm, (h.1 .pending rfl).symm⟩

@[simp] theorem State.writePiece_mem (s : State) (base : Nat) (newBank : Bool) (x y : Nat) (codes : List Nat) :
    (State.writePiece s base newBank x y codes).pending = s.pending :=
  ((State.writePiece_fr (c := 16778240) (r := 0) rfl rfl (fr_refl _)).1 .pending rfl).symm

@[simp] theorem State.writeCrc_mem (s : State) (base : Nat) (newBank : Bool) (y h : Nat) :
    (State.writeCrc s base newBank y h).pending = s.pending :=
  ((State.writeCrc_fr (c := 16778240) (r := 0) rfl rfl (fr_refl _)).1 .pending rfl).symm

@[simp] theorem State.backstop_mem (s : State) :
    (State.backstop s).hbm = s.hbm ∧ (State.backstop s).pending = s.pending :=
  have h := State.backstop_fr (c := 22548578304) (r := 210624583337138318638662084880752713810089414382092265307413413888) rfl rfl (fr_refl _)
  ⟨(h.1 .hbm rfl).symm, (h.1 .pending rfl).symm⟩

@[simp] theorem State.takeSums_mem (s : State) (q : DriveSums) :
    (State.takeSums s q).hbm = s.hbm ∧ (State.takeSums s q).pending = s.pending :=
  have h := State.takeSums_fr (c := 22548709376) (r := 210624583337138318638662084880752713810089414382092265307413413888) rfl rfl (fr_refl _)
  ⟨(h.1 .hbm rfl).symm, (h.1 .pending rfl).symm⟩

@[simp] theorem State.closeDrive_mem (s : State) :
    (State.closeDrive s).hbm = s.hbm ∧ (State.closeDrive s).pending = s.pending :=
  have h := State.closeDrive_fr (c := 131072) (r := 1645504557321206042154969182557350504982735865633579863348609024) rfl rfl (fr_refl _)
  ⟨(h.1 .hbm rfl).symm, (h.1 .pending rfl).symm⟩

@[simp] theorem State.abortCapture_mem (s : State) (result cause : Nat) :
    (State.abortCapture s result cause).hbm = s.hbm ∧ (State.abortCapture s result cause).pending = s.pending :=
  have h := State.abortCapture_fr (c := 22548611328) (r := 155951448601133434903986176) rfl rfl (fr_refl _)
  ⟨(h.1 .hbm rfl).symm, (h.1 .pending rfl).symm⟩

@[simp] theorem State.abortForSwap_mem (s : State) :
    (State.abortForSwap s).hbm = s.hbm ∧ (State.abortForSwap s).pending = s.pending :=
  have h := State.abortForSwap_fr (c := 22548611328) (r := 155951448601133434903986176) rfl rfl (fr_refl _)
  ⟨(h.1 .hbm rfl).symm, (h.1 .pending rfl).symm⟩

@[simp] theorem State.endCapture_mem (s : State) :
    (State.endCapture s).hbm = s.hbm ∧ (State.endCapture s).pending = s.pending :=
  have h := State.endCapture_fr (c := 32768) (r := 1208935042986666029481984) rfl rfl (fr_refl _)
  ⟨(h.1 .hbm rfl).symm, (h.1 .pending rfl).symm⟩

@[simp] theorem State.captureStepWrite_mem (s : State) (v : Bytes) :
    (State.captureStepWrite s v).2.hbm = s.hbm ∧ (State.captureStepWrite s v).2.pending = s.pending :=
  have h := State.captureStepWrite_fr (c := 32768) (r := 0) rfl rfl (fr_refl _)
  ⟨(h.1 .hbm rfl).symm, (h.1 .pending rfl).symm⟩

@[simp] theorem State.captureReportWrite_mem (s : State) (v : Bytes) :
    (State.captureReportWrite s v).2.hbm = s.hbm ∧ (State.captureReportWrite s v).2.pending = s.pending :=
  have h := State.captureReportWrite_fr (c := 22548611328) (r := 233322701056469702085181440) rfl rfl (fr_refl _)
  ⟨(h.1 .hbm rfl).symm, (h.1 .pending rfl).symm⟩

@[simp] theorem State.writePattern_mem (s : State) (ci : CalIn) (nb : Bool) (base : Nat) :
    (State.writePattern s ci nb base).pending = s.pending :=
  ((State.writePattern_fr (c := 91284964352) (r := 210624583337138318638662084880752713810089414382092265307413413888) rfl rfl (fr_refl _)).1 .pending rfl).symm

@[simp] theorem cmdCaptureStartCheck_mem (s : State) :
    (cmdCaptureStartCheck s).hbm = s.hbm ∧ (cmdCaptureStartCheck s).pending = s.pending :=
  have h := cmdCaptureStartCheck_fr (c := 22548611072) (r := 1298074293213903052929791805095936) rfl rfl (fr_refl _)
  ⟨(h.1 .hbm rfl).symm, (h.1 .pending rfl).symm⟩

@[simp] theorem cmdCaptureTimeout_mem (s : State) :
    (cmdCaptureTimeout s).hbm = s.hbm ∧ (cmdCaptureTimeout s).pending = s.pending :=
  have h := cmdCaptureTimeout_fr (c := 22548611336) (r := 155951448601133434903986176) rfl rfl (fr_refl _)
  ⟨(h.1 .hbm rfl).symm, (h.1 .pending rfl).symm⟩

@[simp] theorem State.setBuf_mem (s : State) (n : Nat) (b : Buf) :
    (State.setBuf s n b).hbm = s.hbm ∧ (State.setBuf s n b).pending = s.pending :=
  have h := State.setBuf_fr (c := 1048576) (r := 0) rfl rfl (fr_refl _)
  ⟨(h.1 .hbm rfl).symm, (h.1 .pending rfl).symm⟩

@[simp] theorem State.clearRse_mem (s : State) :
    (State.clearRse s).hbm = s.hbm ∧ (State.clearRse s).pending = s.pending :=
  have h := State.clearRse_fr (c := 1073807360) (r := 0) rfl rfl (fr_refl _)
  ⟨(h.1 .hbm rfl).symm, (h.1 .pending rfl).symm⟩

@[simp] theorem State.promiseBroken_mem (s : State) (f : Frame) (status : Nat) :
    (State.promiseBroken s f status).hbm = s.hbm ∧ (State.promiseBroken s f status).pending = s.pending :=
  have h := State.promiseBroken_fr (c := 22548578304) (r := 10384593717069655257060992665780224) rfl rfl (fr_refl _)
  ⟨(h.1 .hbm rfl).symm, (h.1 .pending rfl).symm⟩

@[simp] theorem State.presentedEntry_mem (s : State) (f : Frame) (status at_ : Nat) :
    (State.presentedEntry s f status at_).hbm = s.hbm ∧ (State.presentedEntry s f status at_).pending = s.pending :=
  have h := State.presentedEntry_fr (c := 18253611008) (r := 6) rfl rfl (fr_refl _)
  ⟨(h.1 .hbm rfl).symm, (h.1 .pending rfl).symm⟩

@[simp] theorem State.poisonTile_mem (s : State) (f : Frame) (g : Figure) (layer tx ty : Nat) (e : TileUe) :
    (State.poisonTile s f g layer tx ty e).hbm = s.hbm ∧ (State.poisonTile s f g layer tx ty e).pending = s.pending :=
  have h := State.poisonTile_fr (c := 31139586048) (r := 1766847064778384329583297500742918515827646156152755088412896174399291392) rfl rfl (fr_refl _)
  ⟨(h.1 .hbm rfl).symm, (h.1 .pending rfl).symm⟩

@[simp] theorem State.tileError_mem (s : State) (f : Frame) (key : Nat × Nat × Nat × Nat) (e : TileUe) :
    (State.tileError s f key e).hbm = s.hbm ∧ (State.tileError s f key e).pending = s.pending :=
  have h := State.tileError_fr (c := 31139586048) (r := 1766847064778384329583303346749467839439318970892085953544974798129463296) rfl rfl (fr_refl _)
  ⟨(h.1 .hbm rfl).symm, (h.1 .pending rfl).symm⟩

@[simp] theorem State.storeError_mem (s : State) (cluster unit : Nat) :
    (State.storeError s cluster unit).hbm = s.hbm ∧ (State.storeError s cluster unit).pending = s.pending :=
  have h := State.storeError_fr (c := 31139577856) (r := 28269553039745158387975172096196634618354443359975681978140757326906261504) rfl rfl (fr_refl _)
  ⟨(h.1 .hbm rfl).symm, (h.1 .pending rfl).symm⟩

@[simp] theorem cmdUnitDispatch_mem (s : State) :
    (cmdUnitDispatch s).hbm = s.hbm ∧ (cmdUnitDispatch s).pending = s.pending :=
  have h := cmdUnitDispatch_fr (c := 1073807360) (r := 0) rfl rfl (fr_refl _)
  ⟨(h.1 .hbm rfl).symm, (h.1 .pending rfl).symm⟩

@[simp] theorem cmdUnitStagingDone_mem (s : State) (c : Nat) (tileUe : List (Nat × TileUe)) (figUe : List (Nat × Nat)) (ce : List Nat) (store : List EccHit) :
    (cmdUnitStagingDone s c tileUe figUe ce store).hbm = s.hbm ∧ (cmdUnitStagingDone s c tileUe figUe ce store).pending = s.pending :=
  have h := cmdUnitStagingDone_fr (c := 31156428800) (r := 30036400104523542717558475442946102457793762330867461014757833746582339584) rfl rfl (fr_refl _)
  ⟨(h.1 .hbm rfl).symm, (h.1 .pending rfl).symm⟩

@[simp] theorem cmdUnitRenderStart_mem (s : State) (c : Nat) :
    (cmdUnitRenderStart s c).hbm = s.hbm ∧ (cmdUnitRenderStart s c).pending = s.pending :=
  have h := cmdUnitRenderStart_fr (c := 65536) (r := 0) rfl rfl (fr_refl _)
  ⟨(h.1 .hbm rfl).symm, (h.1 .pending rfl).symm⟩

@[simp] theorem State.countRays_mem (s : State) (rays : List (Nat × Ray × RayOut)) :
    (State.countRays s rays).hbm = s.hbm ∧ (State.countRays s rays).pending = s.pending :=
  have h := State.countRays_fr (c := 1073807360) (r := 56539106076199307661307932108083330871594185709985278391158558168061050880) rfl rfl (fr_refl _)
  ⟨(h.1 .hbm rfl).symm, (h.1 .pending rfl).symm⟩

@[simp] theorem State.writeRow_mem (s : State) (base : Nat) (nb : Bool) (y : Nat) (values : List Nat) (rays : List (Nat × Ray × RayOut)) :
    (State.writeRow s base nb y values rays).pending = s.pending :=
  ((State.writeRow_fr (c := 22565487616) (r := 210624583337138318638662084880752713810089414382092265307413413888) rfl rfl (fr_refl _)).1 .pending rfl).symm

@[simp] theorem State.writeDoneLines_mem (s : State) (f : Frame) (u : RUnit) (base : Nat) :
    (State.writeDoneLines s f u base).pending = s.pending :=
  ((State.writeDoneLines_fr (c := 16778240) (r := 0) rfl rfl (fr_refl _)).1 .pending rfl).symm

@[simp] theorem cmdUnitRenderDone_mem (s : State) (c : Nat) (store : List EccHit) (calUe : List Nat) :
    (cmdUnitRenderDone s c store calUe).pending = s.pending :=
  ((cmdUnitRenderDone_fr (c := 31156552704) (r := 84808659323278040271779010758632112005586641870084903020124421091245424640) rfl rfl (fr_refl _)).1 .pending rfl).symm

@[simp] theorem State.stepRamp_mem (s : State) (f : Frame) :
    (State.stepRamp s f).hbm = s.hbm ∧ (State.stepRamp s f).pending = s.pending :=
  have h := State.stepRamp_fr (c := 32896) (r := 0) rfl rfl (fr_refl _)
  ⟨(h.1 .hbm rfl).symm, (h.1 .pending rfl).symm⟩

@[simp] theorem State.fixCal_mem (s : State) (f : Frame) :
    (State.fixCal s f).hbm = s.hbm ∧ (State.fixCal s f).pending = s.pending :=
  have h := State.fixCal_fr (c := 65536) (r := 8646911284551352320) rfl rfl (fr_refl _)
  ⟨(h.1 .hbm rfl).symm, (h.1 .pending rfl).symm⟩

@[simp] theorem State.applyThrottle_mem (s : State) (f : Frame) :
    (State.applyThrottle s f).hbm = s.hbm ∧ (State.applyThrottle s f).pending = s.pending :=
  have h := State.applyThrottle_fr (c := 0) (r := 421249166674228746791672110734681729275580381602196445017243910144) rfl rfl (fr_refl _)
  ⟨(h.1 .hbm rfl).symm, (h.1 .pending rfl).symm⟩

@[simp] theorem State.latchOpening_mem (s : State) (nb : Bool) :
    (State.latchOpening s nb).hbm = s.hbm ∧ (State.latchOpening s nb).pending = s.pending :=
  have h := State.latchOpening_fr (c := 22548742144) (r := 105312291717620989248452500664549386360004212865989717247529058304) rfl rfl (fr_refl _)
  ⟨(h.1 .hbm rfl).symm, (h.1 .pending rfl).symm⟩

@[simp] theorem State.captureStopDone_mem (s : State) :
    (State.captureStopDone s).hbm = s.hbm ∧ (State.captureStopDone s).pending = s.pending :=
  have h := State.captureStopDone_fr (c := 1048832) (r := 17870283321406128128) rfl rfl (fr_refl _)
  ⟨(h.1 .hbm rfl).symm, (h.1 .pending rfl).symm⟩

@[simp] theorem State.captureRecheck_mem (s : State) :
    (State.captureRecheck s).hbm = s.hbm ∧ (State.captureRecheck s).pending = s.pending :=
  have h := State.captureRecheck_fr (c := 22548611328) (r := 155951448601133434903986176) rfl rfl (fr_refl _)
  ⟨(h.1 .hbm rfl).symm, (h.1 .pending rfl).symm⟩

@[simp] theorem State.openPattern_mem (s : State) (b : Nat) (f : Option Frame) (nb : Bool) :
    (State.openPattern s b f nb).pending = s.pending :=
  ((State.openPattern_fr (c := 91286128000) (r := 315936875054735362644288556031890250997950355107042161906496307200) rfl rfl (fr_refl _)).1 .pending rfl).symm

@[simp] theorem State.openFrame_mem (s : State) (b : Nat) (f : Frame) :
    (State.openFrame s b f).hbm = s.hbm ∧ (State.openFrame s b f).pending = s.pending :=
  have h := State.openFrame_fr (c := 22549872768) (r := 526561458391849736040124611399231115635584594468186162264772968448) rfl rfl (fr_refl _)
  ⟨(h.1 .hbm rfl).symm, (h.1 .pending rfl).symm⟩

@[simp] theorem cmdRenderWindowOpen_mem (s : State) :
    (cmdRenderWindowOpen s).pending = s.pending :=
  ((cmdRenderWindowOpen_fr (c := 91286128008) (r := 737186041728964109435960666766571980273530736709238606923740217344) rfl rfl (fr_refl _)).1 .pending rfl).symm

@[simp] theorem State.commitBuffer_mem (s : State) (b : Nat) (nb : Bool) :
    (State.commitBuffer s b nb).hbm = s.hbm ∧ (State.commitBuffer s b nb).pending = s.pending :=
  have h := State.commitBuffer_fr (c := 1048576) (r := 0) rfl rfl (fr_refl _)
  ⟨(h.1 .hbm rfl).symm, (h.1 .pending rfl).symm⟩

@[simp] theorem State.noteFrame_mem (s : State) (f : Frame) :
    (State.noteFrame s f).hbm = s.hbm ∧ (State.noteFrame s f).pending = s.pending :=
  have h := State.noteFrame_fr (c := 0) (r := 98730273439272362529298150953441030298964151938014791800916541440) rfl rfl (fr_refl _)
  ⟨(h.1 .hbm rfl).symm, (h.1 .pending rfl).symm⟩

@[simp] theorem State.noteDiscard_mem (s : State) (f : Frame) :
    (State.noteDiscard s f).hbm = s.hbm ∧ (State.noteDiscard s f).pending = s.pending :=
  have h := State.noteDiscard_fr (c := 128) (r := 0) rfl rfl (fr_refl _)
  ⟨(h.1 .hbm rfl).symm, (h.1 .pending rfl).symm⟩

@[simp] theorem State.overrun_mem (s : State) (b : Nat) (f : Frame) :
    (State.overrun s b f).hbm = s.hbm ∧ (State.overrun s b f).pending = s.pending :=
  have h := State.overrun_fr (c := 31139577984) (r := 3291009114642412084309938365130277900541383131080649595212005382) rfl rfl (fr_refl _)
  ⟨(h.1 .hbm rfl).symm, (h.1 .pending rfl).symm⟩

@[simp] theorem cmdRenderWindowClose_mem (s : State) :
    (cmdRenderWindowClose s).hbm = s.hbm ∧ (cmdRenderWindowClose s).pending = s.pending :=
  have h := cmdRenderWindowClose_fr (c := 31139783304) (r := 103666787111235980655763058501128658704488270934729021259477220870) rfl rfl (fr_refl _)
  ⟨(h.1 .hbm rfl).symm, (h.1 .pending rfl).symm⟩

@[simp] theorem State.setLaneState_mem (s : State) (slot j v : Nat) :
    (State.setLaneState s slot j v).hbm = s.hbm ∧ (State.setLaneState s slot j v).pending = s.pending :=
  have h := State.setLaneState_fr (c := 0) (r := 9444732965739290427392) rfl rfl (fr_refl _)
  ⟨(h.1 .hbm rfl).symm, (h.1 .pending rfl).symm⟩

@[simp] theorem State.sendLane_mem (s : State) (slot j : Nat) (bs : List Block) :
    (State.sendLane s slot j bs).hbm = s.hbm ∧ (State.sendLane s slot j bs).pending = s.pending :=
  have h := State.sendLane_fr (c := 17180393472) (r := 0) rfl rfl (fr_refl _)
  ⟨(h.1 .hbm rfl).symm, (h.1 .pending rfl).symm⟩

@[simp] theorem State.sendIdle_mem (s : State) (slot j : Nat) :
    (State.sendIdle s slot j).hbm = s.hbm ∧ (State.sendIdle s slot j).pending = s.pending :=
  have h := State.sendIdle_fr (c := 17179869184) (r := 0) rfl rfl (fr_refl _)
  ⟨(h.1 .hbm rfl).symm, (h.1 .pending rfl).symm⟩

@[simp] theorem State.sendPrbs_mem (s : State) (slot j : Nat) (steps : List (Nat × Nat)) :
    (State.sendPrbs s slot j steps).hbm = s.hbm ∧ (State.sendPrbs s slot j steps).pending = s.pending :=
  have h := State.sendPrbs_fr (c := 17179869184) (r := 0) rfl rfl (fr_refl _)
  ⟨(h.1 .hbm rfl).symm, (h.1 .pending rfl).symm⟩

@[simp] theorem State.sendSweep_mem (s : State) (slot j : Nat) :
    (State.sendSweep s slot j).hbm = s.hbm ∧ (State.sendSweep s slot j).pending = s.pending :=
  have h := State.sendSweep_fr (c := 17180393472) (r := 0) rfl rfl (fr_refl _)
  ⟨(h.1 .hbm rfl).symm, (h.1 .pending rfl).symm⟩

@[simp] theorem State.sendVerify_mem (s : State) (slot j preset : Nat) :
    (State.sendVerify s slot j preset).hbm = s.hbm ∧ (State.sendVerify s slot j preset).pending = s.pending :=
  have h := State.sendVerify_fr (c := 17180393472) (r := 0) rfl rfl (fr_refl _)
  ⟨(h.1 .hbm rfl).symm, (h.1 .pending rfl).symm⟩

@[simp] theorem State.sendControl_mem (s : State) (slot : Nat) (b : Block) :
    (State.sendControl s slot b).hbm = s.hbm ∧ (State.sendControl s slot b).pending = s.pending :=
  have h := State.sendControl_fr (c := 17180393472) (r := 0) rfl rfl (fr_refl _)
  ⟨(h.1 .hbm rfl).symm, (h.1 .pending rfl).symm⟩

@[simp] theorem State.sendSync_mem (s : State) (slot : Nat) :
    (State.sendSync s slot).hbm = s.hbm ∧ (State.sendSync s slot).pending = s.pending :=
  have h := State.sendSync_fr (c := 17180393472) (r := 0) rfl rfl (fr_refl _)
  ⟨(h.1 .hbm rfl).symm, (h.1 .pending rfl).symm⟩

@[simp] theorem State.sendSlip_mem (s : State) (slot n : Nat) :
    (State.sendSlip s slot n).hbm = s.hbm ∧ (State.sendSlip s slot n).pending = s.pending :=
  have h := State.sendSlip_fr (c := 17180393472) (r := 0) rfl rfl (fr_refl _)
  ⟨(h.1 .hbm rfl).symm, (h.1 .pending rfl).symm⟩

@[simp] theorem State.idleLanes_mem (s : State) (slot : Nat) :
    (State.idleLanes s slot).hbm = s.hbm ∧ (State.idleLanes s slot).pending = s.pending :=
  have h := State.idleLanes_fr (c := 17179869184) (r := 0) rfl rfl (fr_refl _)
  ⟨(h.1 .hbm rfl).symm, (h.1 .pending rfl).symm⟩

@[simp] theorem State.sendActive_mem (s : State) (slot y : Nat) (line : Bytes) :
    (State.sendActive s slot y line).hbm = s.hbm ∧ (State.sendActive s slot y line).pending = s.pending :=
  have h := State.sendActive_fr (c := 17180393472) (r := 0) rfl rfl (fr_refl _)
  ⟨(h.1 .hbm rfl).symm, (h.1 .pending rfl).symm⟩

@[simp] theorem State.sendBlankingLine_mem (s : State) (slot y : Nat) :
    (State.sendBlankingLine s slot y).hbm = s.hbm ∧ (State.sendBlankingLine s slot y).pending = s.pending :=
  have h := State.sendBlankingLine_fr (c := 17180393472) (r := 0) rfl rfl (fr_refl _)
  ⟨(h.1 .hbm rfl).symm, (h.1 .pending rfl).symm⟩

@[simp] theorem State.setSlotState_mem (s : State) (n v : Nat) :
    (State.setSlotState s n v).hbm = s.hbm ∧ (State.setSlotState s n v).pending = s.pending :=
  have h := State.setSlotState_fr (c := 0) (r := 2251799813685248) rfl rfl (fr_refl _)
  ⟨(h.1 .hbm rfl).symm, (h.1 .pending rfl).symm⟩

@[simp] theorem State.linkNote_mem (s : State) (code : Nat) (param : List Nat) :
    (State.linkNote s code param).hbm = s.hbm ∧ (State.linkNote s code param).pending = s.pending :=
  have h := State.linkNote_fr (c := 22548578304) (r := 187072209578355573530071658587684226515959372840960) rfl rfl (fr_refl _)
  ⟨(h.1 .hbm rfl).symm, (h.1 .pending rfl).symm⟩

@[simp] theorem State.linkFault_mem (s : State) (fam cls item code : Nat) (param : List Nat) :
    (State.linkFault s fam cls item code param).hbm = s.hbm ∧ (State.linkFault s fam cls item code param).pending = s.pending :=
  have h := State.linkFault_fr (c := 31139577856) (r := 187072209578355573530071658894601154414338892627968) rfl rfl (fr_refl _)
  ⟨(h.1 .hbm rfl).symm, (h.1 .pending rfl).symm⟩

@[simp] theorem State.sideWrite_mem (s : State) (n off : Nat) (data : Bytes) :
    (State.sideWrite s n off data).hbm = s.hbm ∧ (State.sideWrite s n off data).pending = s.pending :=
  have h := State.sideWrite_fr (c := 17179869184) (r := 0) rfl rfl (fr_refl _)
  ⟨(h.1 .hbm rfl).symm, (h.1 .pending rfl).symm⟩

@[simp] theorem State.sideRead_mem (s : State) (n off len : Nat) :
    (State.sideRead s n off len).hbm = s.hbm ∧ (State.sideRead s n off len).pending = s.pending :=
  have h := State.sideRead_fr (c := 17179869184) (r := 0) rfl rfl (fr_refl _)
  ⟨(h.1 .hbm rfl).symm, (h.1 .pending rfl).symm⟩

@[simp] theorem State.setAllLanes_mem (s : State) (n v : Nat) :
    (State.setAllLanes s n v).hbm = s.hbm ∧ (State.setAllLanes s n v).pending = s.pending :=
  have h := State.setAllLanes_fr (c := 0) (r := 9444732965739290427392) rfl rfl (fr_refl _)
  ⟨(h.1 .hbm rfl).symm, (h.1 .pending rfl).symm⟩

@[simp] theorem State.startDiscovery_mem (s : State) (n : Nat) :
    (State.startDiscovery s n).hbm = s.hbm ∧ (State.startDiscovery s n).pending = s.pending :=
  have h := State.startDiscovery_fr (c := 524288) (r := 2251799813685248) rfl rfl (fr_refl _)
  ⟨(h.1 .hbm rfl).symm, (h.1 .pending rfl).symm⟩

@[simp] theorem State.startTraining_mem (s : State) (n : Nat) :
    (State.startTraining s n).hbm = s.hbm ∧ (State.startTraining s n).pending = s.pending :=
  have h := State.startTraining_fr (c := 17180393472) (r := 9444735217539104112640) rfl rfl (fr_refl _)
  ⟨(h.1 .hbm rfl).symm, (h.1 .pending rfl).symm⟩

@[simp] theorem State.mismatch_mem (s : State) (n : Nat) :
    (State.mismatch s n).hbm = s.hbm ∧ (State.mismatch s n).pending = s.pending :=
  have h := State.mismatch_fr (c := 17180393472) (r := 9444735217539104112640) rfl rfl (fr_refl _)
  ⟨(h.1 .hbm rfl).symm, (h.1 .pending rfl).symm⟩

@[simp] theorem State.sidebandOk_mem (s : State) (n : Nat) :
    (State.sidebandOk s n).hbm = s.hbm ∧ (State.sidebandOk s n).pending = s.pending :=
  have h := State.sidebandOk_fr (c := 31140102144) (r := 4685472994722233450496) rfl rfl (fr_refl _)
  ⟨(h.1 .hbm rfl).symm, (h.1 .pending rfl).symm⟩

@[simp] theorem State.sidebandFailed_mem (s : State) (n : Nat) :
    (State.sidebandFailed s n).hbm = s.hbm ∧ (State.sidebandFailed s n).pending = s.pending :=
  have h := State.sidebandFailed_fr (c := 31140134912) (r := 187072209578355573530071658894609801325623443980288) rfl rfl (fr_refl _)
  ⟨(h.1 .hbm rfl).symm, (h.1 .pending rfl).symm⟩

@[simp] theorem State.showSettings_mem (s : State) (n : Nat) :
    (State.showSettings s n).hbm = s.hbm ∧ (State.showSettings s n).pending = s.pending :=
  have h := State.showSettings_fr (c := 0) (r := 95780971304118053647396689196894323976171195136475136) rfl rfl (fr_refl _)
  ⟨(h.1 .hbm rfl).symm, (h.1 .pending rfl).symm⟩

@[simp] theorem State.storeSetting_mem (s : State) (n j k : Nat) :
    (State.storeSetting s n j k).hbm = s.hbm ∧ (State.storeSetting s n j k).pending = s.pending :=
  have h := State.storeSetting_fr (c := 524288) (r := 95780971304118053647396689196894323976171195136475136) rfl rfl (fr_refl _)
  ⟨(h.1 .hbm rfl).symm, (h.1 .pending rfl).symm⟩

@[simp] theorem State.noteSweep_mem (s : State) (n j : Nat) :
    (State.noteSweep s n j).hbm = s.hbm ∧ (State.noteSweep s n j).pending = s.pending :=
  have h := State.noteSweep_fr (c := 524288) (r := 0) rfl rfl (fr_refl _)
  ⟨(h.1 .hbm rfl).symm, (h.1 .pending rfl).symm⟩

@[simp] theorem State.sweepLane_mem (s : State) (n j : Nat) (retry : Bool) :
    (State.sweepLane s n j retry).hbm = s.hbm ∧ (State.sweepLane s n j retry).pending = s.pending :=
  have h := State.sweepLane_fr (c := 17180393472) (r := 9444732965739290427392) rfl rfl (fr_refl _)
  ⟨(h.1 .hbm rfl).symm, (h.1 .pending rfl).symm⟩

@[simp] theorem State.laneFailed_mem (s : State) (n j : Nat) (retry : Bool) :
    (State.laneFailed s n j retry).hbm = s.hbm ∧ (State.laneFailed s n j retry).pending = s.pending :=
  have h := State.laneFailed_fr (c := 31140102144) (r := 187072209578355573530071658904045889631877996740608) rfl rfl (fr_refl _)
  ⟨(h.1 .hbm rfl).symm, (h.1 .pending rfl).symm⟩

@[simp] theorem State.laneGood_mem (s : State) (n j : Nat) (retry : Bool) :
    (State.laneGood s n j retry).hbm = s.hbm ∧ (State.laneGood s n j retry).pending = s.pending :=
  have h := State.laneGood_fr (c := 31140102144) (r := 187072209578355573530071658601814434728220703064064) rfl rfl (fr_refl _)
  ⟨(h.1 .hbm rfl).symm, (h.1 .pending rfl).symm⟩

@[simp] theorem State.assignLanes_mem (s : State) (n : Nat) (good : List Nat) :
    (State.assignLanes s n good).hbm = s.hbm ∧ (State.assignLanes s n good).pending = s.pending :=
  have h := State.assignLanes_fr (c := 31140102144) (r := 187072209578355573530071658904045889631877996740608) rfl rfl (fr_refl _)
  ⟨(h.1 .hbm rfl).symm, (h.1 .pending rfl).symm⟩

@[simp] theorem State.startSlots_mem (s : State) (h : Nat) :
    (State.startSlots s h).hbm = s.hbm ∧ (State.startSlots s h).pending = s.pending :=
  have h := State.startSlots_fr (c := 524288) (r := 2251799813685248) rfl rfl (fr_refl _)
  ⟨(h.1 .hbm rfl).symm, (h.1 .pending rfl).symm⟩

@[simp] theorem State.stopSlots_mem (s : State) (h : Nat) :
    (State.stopSlots s h).hbm = s.hbm ∧ (State.stopSlots s h).pending = s.pending :=
  have h := State.stopSlots_fr (c := 17180393472) (r := 9444735217539104112640) rfl rfl (fr_refl _)
  ⟨(h.1 .hbm rfl).symm, (h.1 .pending rfl).symm⟩

@[simp] theorem cmdPresenceFall_mem (s : State) (n : Nat) :
    (cmdPresenceFall s n).hbm = s.hbm ∧ (cmdPresenceFall s n).pending = s.pending :=
  have h := cmdPresenceFall_fr (c := 524288) (r := 0) rfl rfl (fr_refl _)
  ⟨(h.1 .hbm rfl).symm, (h.1 .pending rfl).symm⟩

@[simp] theorem cmdPresenceRise_mem (s : State) (n : Nat) :
    (cmdPresenceRise s n).hbm = s.hbm ∧ (cmdPresenceRise s n).pending = s.pending :=
  have h := cmdPresenceRise_fr (c := 524288) (r := 0) rfl rfl (fr_refl _)
  ⟨(h.1 .hbm rfl).symm, (h.1 .pending rfl).symm⟩

@[simp] theorem cmdPresenceConfirmed_mem (s : State) (n : Nat) :
    (cmdPresenceConfirmed s n).hbm = s.hbm ∧ (cmdPresenceConfirmed s n).pending = s.pending :=
  have h := cmdPresenceConfirmed_fr (c := 524296) (r := 2251799813685248) rfl rfl (fr_refl _)
  ⟨(h.1 .hbm rfl).symm, (h.1 .pending rfl).symm⟩

@[simp] theorem cmdPartnerRemoved_mem (s : State) (n : Nat) :
    (cmdPartnerRemoved s n).hbm = s.hbm ∧ (cmdPartnerRemoved s n).pending = s.pending :=
  have h := cmdPartnerRemoved_fr (c := 31140102152) (r := 102844034928543421148381983130761167416917130012998157298827264) rfl rfl (fr_refl _)
  ⟨(h.1 .hbm rfl).symm, (h.1 .pending rfl).symm⟩

@[simp] theorem cmdDescriptorRead_mem (s : State) (n : Nat) (answer : Option Bytes) :
    (cmdDescriptorRead s n answer).hbm = s.hbm ∧ (cmdDescriptorRead s n answer).pending = s.pending :=
  have h := cmdDescriptorRead_fr (c := 31140134920) (r := 1309505467048489014710501610430159895638918741098496) rfl rfl (fr_refl _)
  ⟨(h.1 .hbm rfl).symm, (h.1 .pending rfl).symm⟩

@[simp] theorem cmdRxReadyAligned_mem (s : State) (n : Nat) :
    (cmdRxReadyAligned s n).hbm = s.hbm ∧ (cmdRxReadyAligned s n).pending = s.pending :=
  have h := cmdRxReadyAligned_fr (c := 17180393472) (r := 0) rfl rfl (fr_refl _)
  ⟨(h.1 .hbm rfl).symm, (h.1 .pending rfl).symm⟩

@[simp] theorem cmdTrainTimeout_mem (s : State) (n : Nat) :
    (cmdTrainTimeout s n).hbm = s.hbm ∧ (cmdTrainTimeout s n).pending = s.pending :=
  have h := cmdTrainTimeout_fr (c := 22549102600) (r := 187072209578355573530071658597128959481698663268352) rfl rfl (fr_refl _)
  ⟨(h.1 .hbm rfl).symm, (h.1 .pending rfl).symm⟩

@[simp] theorem cmdDiscoveryRetry_mem (s : State) (n : Nat) :
    (cmdDiscoveryRetry s n).hbm = s.hbm ∧ (cmdDiscoveryRetry s n).pending = s.pending :=
  have h := cmdDiscoveryRetry_fr (c := 524296) (r := 2251799813685248) rfl rfl (fr_refl _)
  ⟨(h.1 .hbm rfl).symm, (h.1 .pending rfl).symm⟩

@[simp] theorem cmdSweepDone_mem (s : State) (n : Nat) (bytes : Bytes) :
    (cmdSweepDone s n bytes).hbm = s.hbm ∧ (cmdSweepDone s n bytes).pending = s.pending :=
  have h := cmdSweepDone_fr (c := 31140102152) (r := 187072209578355573530071658904045889631877996740608) rfl rfl (fr_refl _)
  ⟨(h.1 .hbm rfl).symm, (h.1 .pending rfl).symm⟩

@[simp] theorem cmdVerifyDone_mem (s : State) (n : Nat) (errors : Bytes) :
    (cmdVerifyDone s n errors).hbm = s.hbm ∧ (cmdVerifyDone s n errors).pending = s.pending :=
  have h := cmdVerifyDone_fr (c := 31140102152) (r := 95968043513696409220926760855798369865803073133215744) rfl rfl (fr_refl _)
  ⟨(h.1 .hbm rfl).symm, (h.1 .pending rfl).symm⟩

@[simp] theorem cmdRetrainRealignDone_mem (s : State) (n : Nat) (errors : Option Bytes) :
    (cmdRetrainRealignDone s n errors).hbm = s.hbm ∧ (cmdRetrainRealignDone s n errors).pending = s.pending :=
  have h := cmdRetrainRealignDone_fr (c := 17180393472) (r := 95780971304118053647396689196903768711388734240587776) rfl rfl (fr_refl _)
  ⟨(h.1 .hbm rfl).symm, (h.1 .pending rfl).symm⟩

@[simp] theorem State.laneFails_mem (s : State) (n j : Nat) :
    (State.laneFails s n j).hbm = s.hbm ∧ (State.laneFails s n j).pending = s.pending :=
  have h := State.laneFails_fr (c := 17180393472) (r := 51422017416287688817342786954917203280719940534015110020071424) rfl rfl (fr_refl _)
  ⟨(h.1 .hbm rfl).symm, (h.1 .pending rfl).symm⟩

@[simp] theorem State.attention_mem (s : State) (n : Nat) (p : PartnerStat) :
    (State.attention s n p).hbm = s.hbm ∧ (State.attention s n p).pending = s.pending :=
  have h := State.attention_fr (c := 31140134912) (r := 51422017416474761026921142528447274939614550335340733464051712) rfl rfl (fr_refl _)
  ⟨(h.1 .hbm rfl).symm, (h.1 .pending rfl).symm⟩

@[simp] theorem State.takeTelemetry_mem (s : State) (n : Nat) (b : Bytes) :
    (State.takeTelemetry s n b).hbm = s.hbm ∧ (State.takeTelemetry s n b).pending = s.pending :=
  have h := State.takeTelemetry_fr (c := 31140134912) (r := 862718396192855330137037153078071076770039141060480716862479215362048) rfl rfl (fr_refl _)
  ⟨(h.1 .hbm rfl).symm, (h.1 .pending rfl).symm⟩

@[simp] theorem cmdPartnerAttention_mem (s : State) (pair : Nat) (even odd : PartnerStat) :
    (cmdPartnerAttention s pair even odd).hbm = s.hbm ∧ (cmdPartnerAttention s pair even odd).pending = s.pending :=
  have h := cmdPartnerAttention_fr (c := 31140134912) (r := 51422017416474761026921142528447274939614550335340733464051712) rfl rfl (fr_refl _)
  ⟨(h.1 .hbm rfl).symm, (h.1 .pending rfl).symm⟩

@[simp] theorem cmdLaneRetry_mem (s : State) (n j : Nat) :
    (cmdLaneRetry s n j).hbm = s.hbm ∧ (cmdLaneRetry s n j).pending = s.pending :=
  have h := cmdLaneRetry_fr (c := 17180393480) (r := 6427752177035961102167848369364650410098256708096910631632896) rfl rfl (fr_refl _)
  ⟨(h.1 .hbm rfl).symm, (h.1 .pending rfl).symm⟩

@[simp] theorem cmdTelemetryRead_mem (s : State) (n : Nat) (answer : Option Bytes) :
    (cmdTelemetryRead s n answer).hbm = s.hbm ∧ (cmdTelemetryRead s n answer).pending = s.pending :=
  have h := cmdTelemetryRead_fr (c := 31140134912) (r := 862718396192855330137037153078071076770039141060480716862479215362048) rfl rfl (fr_refl _)
  ⟨(h.1 .hbm rfl).symm, (h.1 .pending rfl).symm⟩

@[simp] theorem State.takeEntry_mem (s : State) :
    (State.takeEntry s).hbm = s.hbm ∧ (State.takeEntry s).pending = s.pending :=
  have h := State.takeEntry_fr (c := 2097152) (r := 0) rfl rfl (fr_refl _)
  ⟨(h.1 .hbm rfl).symm, (h.1 .pending rfl).symm⟩

@[simp] theorem State.raspError_mem (s : State) (code : Nat) :
    (State.raspError s code).hbm = s.hbm ∧ (State.raspError s code).pending = s.pending :=
  have h := State.raspError_fr (c := 2097152) (r := 5846006549323611672814739330865132078623730171904) rfl rfl (fr_refl _)
  ⟨(h.1 .hbm rfl).symm, (h.1 .pending rfl).symm⟩

@[simp] theorem State.raspDone_mem (s : State) :
    (State.raspDone s).hbm = s.hbm ∧ (State.raspDone s).pending = s.pending :=
  have h := State.raspDone_fr (c := 0) (r := 11692013098647223345629478661730264157247460343808) rfl rfl (fr_refl _)
  ⟨(h.1 .hbm rfl).symm, (h.1 .pending rfl).symm⟩

@[simp] theorem State.markTiles_mem (s : State) (r : SurfRect) :
    (State.markTiles s r).hbm = s.hbm ∧ (State.markTiles s r).pending = s.pending :=
  have h := State.markTiles_fr (c := 2097152) (r := 0) rfl rfl (fr_refl _)
  ⟨(h.1 .hbm rfl).symm, (h.1 .pending rfl).symm⟩

@[simp] theorem State.startDraw_mem (s : State) (bound : Nat) :
    (State.startDraw s bound).hbm = s.hbm ∧ (State.startDraw s bound).pending = s.pending :=
  have h := State.startDraw_fr (c := 2097152) (r := 0) rfl rfl (fr_refl _)
  ⟨(h.1 .hbm rfl).symm, (h.1 .pending rfl).symm⟩

@[simp] theorem State.draw_mem (s : State) (c : Bytes) (ue ce : List Nat) (src : Nat → Nat → Option Nat) :
    (State.draw s c ue ce src).pending = s.pending :=
  ((State.draw_fr (c := 22567453696) (r := 17538019647970835018444217992595396235887840854016) rfl rfl (fr_refl _)).1 .pending rfl).symm

@[simp] theorem State.fillBounce_mem (s : State) (before : List Host.Cell) (r : SurfRect) :
    (State.fillBounce s before r).pending = s.pending :=
  ((State.fillBounce_fr (c := 16778240) (r := 0) rfl rfl (fr_refl _)).1 .pending rfl).symm

@[simp] theorem State.completePublish_mem (s : State) (k : Nat) :
    (State.completePublish s k).hbm = s.hbm ∧ (State.completePublish s k).pending = s.pending :=
  have h := State.completePublish_fr (c := 2097152) (r := 0) rfl rfl (fr_refl _)
  ⟨(h.1 .hbm rfl).symm, (h.1 .pending rfl).symm⟩

@[simp] theorem State.withdrawResident_mem (s : State) (k : Nat) :
    (State.withdrawResident s k).hbm = s.hbm ∧ (State.withdrawResident s k).pending = s.pending :=
  have h := State.withdrawResident_fr (c := 16384) (r := 0) rfl rfl (fr_refl _)
  ⟨(h.1 .hbm rfl).symm, (h.1 .pending rfl).symm⟩

@[simp] theorem State.acceptPublish_mem (s : State) (k : Nat) :
    (State.acceptPublish s k).hbm = s.hbm ∧ (State.acceptPublish s k).pending = s.pending :=
  have h := State.acceptPublish_fr (c := 2113536) (r := 205688069665162447282469795043014442601503713468354730378919936) rfl rfl (fr_refl _)
  ⟨(h.1 .hbm rfl).symm, (h.1 .pending rfl).symm⟩

@[simp] theorem cmdNop_mem (s : State) :
    (cmdNop s).hbm = s.hbm ∧ (cmdNop s).pending = s.pending :=
  have h := cmdNop_fr (c := 18874368) (r := 11692013098647223345629478661730264157247460343808) rfl rfl (fr_refl _)
  ⟨(h.1 .hbm rfl).symm, (h.1 .pending rfl).symm⟩

@[simp] theorem cmdFill_mem (s : State) (ue ce : List Nat) :
    (cmdFill s ue ce).pending = s.pending :=
  ((cmdFill_fr (c := 22567453696) (r := 17538019647970835018444217992595396235887840854016) rfl rfl (fr_refl _)).1 .pending rfl).symm

@[simp] theorem cmdCopy_mem (s : State) (ue ce : List Nat) :
    (cmdCopy s ue ce).pending = s.pending :=
  ((cmdCopy_fr (c := 22567453696) (r := 17538019647970835018444217992595396235887840854016) rfl rfl (fr_refl _)).1 .pending rfl).symm

@[simp] theorem cmdPublish_mem (s : State) :
    (cmdPublish s).hbm = s.hbm ∧ (cmdPublish s).pending = s.pending :=
  have h := cmdPublish_fr (c := 18890752) (r := 617064208995469803827761414294024883586518545008828319946244096) rfl rfl (fr_refl _)
  ⟨(h.1 .hbm rfl).symm, (h.1 .pending rfl).symm⟩

@[simp] theorem cmdFence_mem (s : State) :
    (cmdFence s).hbm = s.hbm ∧ (cmdFence s).pending = s.pending :=
  have h := cmdFence_fr (c := 18272485376) (r := 11692013098647223345629478661730264157247460343808) rfl rfl (fr_refl _)
  ⟨(h.1 .hbm rfl).symm, (h.1 .pending rfl).symm⟩

@[simp] theorem cmdRaspCommandRefused_mem (s : State) (ecc : Bool) :
    (cmdRaspCommandRefused s ecc).hbm = s.hbm ∧ (cmdRaspCommandRefused s ecc).pending = s.pending :=
  have h := cmdRaspCommandRefused_fr (c := 22567452672) (r := 411376139330319048558390266474356070463676561804630852604264448) rfl rfl (fr_refl _)
  ⟨(h.1 .hbm rfl).symm, (h.1 .pending rfl).symm⟩

@[simp] theorem cmdPublishCatchup_mem (s : State) :
    (cmdPublishCatchup s).pending = s.pending :=
  ((cmdPublishCatchup_fr (c := 18891776) (r := 11692013098647223345629478661730264157247460343808) rfl rfl (fr_refl _)).1 .pending rfl).symm

@[simp] theorem cmdRaspRingTail_mem (s : State) (v : Nat) :
    (cmdRaspRingTail s v).hbm = s.hbm ∧ (cmdRaspRingTail s v).pending = s.pending :=
  have h := cmdRaspRingTail_fr (c := 22550675456) (r := 5846006549323611672814739330865132078623737511936) rfl rfl (fr_refl _)
  ⟨(h.1 .hbm rfl).symm, (h.1 .pending rfl).symm⟩

@[simp] theorem cmdOverlayStartDone_mem (s : State) :
    (cmdOverlayStartDone s).pending = s.pending :=
  ((cmdOverlayStartDone_fr (c := 2098176) (r := 288230376151711744) rfl rfl (fr_refl _)).1 .pending rfl).symm

@[simp] theorem State.overlayStarting_mem (s : State) :
    (State.overlayStarting s).hbm = s.hbm ∧ (State.overlayStarting s).pending = s.pending :=
  have h := State.overlayStarting_fr (c := 2113536) (r := 0) rfl rfl (fr_refl _)
  ⟨(h.1 .hbm rfl).symm, (h.1 .pending rfl).symm⟩

@[simp] theorem State.overlayStopping_mem (s : State) :
    (State.overlayStopping s).hbm = s.hbm ∧ (State.overlayStopping s).pending = s.pending :=
  have h := State.overlayStopping_fr (c := 2113536) (r := 288230376151711744) rfl rfl (fr_refl _)
  ⟨(h.1 .hbm rfl).symm, (h.1 .pending rfl).symm⟩

@[simp] theorem cmdOverlayStopDone_mem (s : State) :
    (cmdOverlayStopDone s).hbm = s.hbm ∧ (cmdOverlayStopDone s).pending = s.pending :=
  have h := cmdOverlayStopDone_fr (c := 2114304) (r := 288230376151711744) rfl rfl (fr_refl _)
  ⟨(h.1 .hbm rfl).symm, (h.1 .pending rfl).symm⟩

@[simp] theorem State.audNote_mem (s : State) (code : Nat) (param : List Nat) :
    (State.audNote s code param).hbm = s.hbm ∧ (State.audNote s code param).pending = s.pending :=
  have h := State.audNote_fr (c := 22548578304) (r := 20282409603651670423947258626048) rfl rfl (fr_refl _)
  ⟨(h.1 .hbm rfl).symm, (h.1 .pending rfl).symm⟩

@[simp] theorem State.audFlag_mem (s : State) (p b : Nat) (on : Bool) :
    (State.audFlag s p b on).hbm = s.hbm ∧ (State.audFlag s p b on).pending = s.pending :=
  have h := State.audFlag_fr (c := 0) (r := 2199023255552) rfl rfl (fr_refl _)
  ⟨(h.1 .hbm rfl).symm, (h.1 .pending rfl).symm⟩

@[simp] theorem State.detectNonPcm_mem (s : State) (i : Nat) (flag : Bool) (l r : Nat) :
    (State.detectNonPcm s i flag l r).1.hbm = s.hbm ∧ (State.detectNonPcm s i flag l r).1.pending = s.pending :=
  have h := State.detectNonPcm_fr (c := 22552772608) (r := 20282409603651670423947258626048) rfl rfl (fr_refl _)
  ⟨(h.1 .hbm rfl).symm, (h.1 .pending rfl).symm⟩

@[simp] theorem State.acceptSample_mem (s : State) (i fs slot width : Nat) (flag : Bool) (l r : Nat) :
    (State.acceptSample s i fs slot width flag l r).hbm = s.hbm ∧ (State.acceptSample s i fs slot width flag l r).pending = s.pending :=
  have h := State.acceptSample_fr (c := 22552772608) (r := 669319516920505123990259299778560) rfl rfl (fr_refl _)
  ⟨(h.1 .hbm rfl).symm, (h.1 .pending rfl).symm⟩

@[simp] theorem cmdAudioBlock_mem (s : State) :
    (cmdAudioBlock s).hbm = s.hbm ∧ (cmdAudioBlock s).pending = s.pending :=
  have h := cmdAudioBlock_fr (c := 22552793600) (r := 1237226985822751895860782335852032) rfl rfl (fr_refl _)
  ⟨(h.1 .hbm rfl).symm, (h.1 .pending rfl).symm⟩

@[simp] theorem State.sendFrame_mem (s : State) (p l r : Nat) :
    (State.sendFrame s p l r).hbm = s.hbm ∧ (State.sendFrame s p l r).pending = s.pending :=
  have h := State.sendFrame_fr (c := 17179869184) (r := 0) rfl rfl (fr_refl _)
  ⟨(h.1 .hbm rfl).symm, (h.1 .pending rfl).symm⟩

@[simp] theorem State.sendZero_mem (s : State) (p : Nat) :
    (State.sendZero s p).hbm = s.hbm ∧ (State.sendZero s p).pending = s.pending :=
  have h := State.sendZero_fr (c := 17179869184) (r := 0) rfl rfl (fr_refl _)
  ⟨(h.1 .hbm rfl).symm, (h.1 .pending rfl).symm⟩

@[simp] theorem State.showFamilies_mem (s : State) :
    (State.showFamilies s).hbm = s.hbm ∧ (State.showFamilies s).pending = s.pending :=
  have h := State.showFamilies_fr (c := 4194304) (r := 0) rfl rfl (fr_refl _)
  ⟨(h.1 .hbm rfl).symm, (h.1 .pending rfl).symm⟩

@[simp] theorem State.startClocks_mem (s : State) (p : Nat) :
    (State.startClocks s p).hbm = s.hbm ∧ (State.startClocks s p).pending = s.pending :=
  have h := State.startClocks_fr (c := 4194304) (r := 0) rfl rfl (fr_refl _)
  ⟨(h.1 .hbm rfl).symm, (h.1 .pending rfl).symm⟩

@[simp] theorem State.stopClocks_mem (s : State) (p : Nat) :
    (State.stopClocks s p).hbm = s.hbm ∧ (State.stopClocks s p).pending = s.pending :=
  have h := State.stopClocks_fr (c := 4194304) (r := 0) rfl rfl (fr_refl _)
  ⟨(h.1 .hbm rfl).symm, (h.1 .pending rfl).symm⟩

@[simp] theorem State.audClocksOff_mem (s : State) :
    (State.audClocksOff s).hbm = s.hbm ∧ (State.audClocksOff s).pending = s.pending :=
  have h := State.audClocksOff_fr (c := 4194304) (r := 0) rfl rfl (fr_refl _)
  ⟨(h.1 .hbm rfl).symm, (h.1 .pending rfl).symm⟩

@[simp] theorem State.clearValid_mem (s : State) (i e p : Nat) :
    (State.clearValid s i e p).hbm = s.hbm ∧ (State.clearValid s i e p).pending = s.pending :=
  have h := State.clearValid_fr (c := 4194304) (r := 0) rfl rfl (fr_refl _)
  ⟨(h.1 .hbm rfl).symm, (h.1 .pending rfl).symm⟩

@[simp] theorem State.emptySlot_mem (s : State) (p n : Nat) :
    (State.emptySlot s p n).hbm = s.hbm ∧ (State.emptySlot s p n).pending = s.pending :=
  have h := State.emptySlot_fr (c := 22552772608) (r := 60847228810955011274040784453632) rfl rfl (fr_refl _)
  ⟨(h.1 .hbm rfl).symm, (h.1 .pending rfl).symm⟩

@[simp] theorem State.presentFrame_mem (s : State) (p i : Nat) (f : SampleFrame) (zero : Bool) :
    (State.presentFrame s p i f zero).hbm = s.hbm ∧ (State.presentFrame s p i f zero).pending = s.pending :=
  have h := State.presentFrame_fr (c := 22552772608) (r := 20282409603651670426146281881600) rfl rfl (fr_refl _)
  ⟨(h.1 .hbm rfl).symm, (h.1 .pending rfl).symm⟩

@[simp] theorem State.slotContent_mem (s : State) (p rate n : Nat) (hit : Option Nat) :
    (State.slotContent s p rate n hit).hbm = s.hbm ∧ (State.slotContent s p rate n hit).pending = s.pending :=
  have h := State.slotContent_fr (c := 22552772608) (r := 60847228810955011274056353710080) rfl rfl (fr_refl _)
  ⟨(h.1 .hbm rfl).symm, (h.1 .pending rfl).symm⟩

@[simp] theorem cmdSlotPresent_mem (s : State) (p : Nat) (ue ce : Option Nat) :
    (cmdSlotPresent s p ue ce).hbm = s.hbm ∧ (cmdSlotPresent s p ue ce).pending = s.pending :=
  have h := cmdSlotPresent_fr (c := 22569549832) (r := 60847228810955011274057427451904) rfl rfl (fr_refl _)
  ⟨(h.1 .hbm rfl).symm, (h.1 .pending rfl).symm⟩

@[simp] theorem State.restartPort_mem (s : State) (p : Nat) :
    (State.restartPort s p).hbm = s.hbm ∧ (State.restartPort s p).pending = s.pending :=
  have h := State.restartPort_fr (c := 4194304) (r := 0) rfl rfl (fr_refl _)
  ⟨(h.1 .hbm rfl).symm, (h.1 .pending rfl).symm⟩

@[simp] theorem State.audStep_mem (s : State) (old : Nat) :
    (State.audStep s old).hbm = s.hbm ∧ (State.audStep s old).pending = s.pending :=
  have h := State.audStep_fr (c := 4194304) (r := 0) rfl rfl (fr_refl _)
  ⟨(h.1 .hbm rfl).symm, (h.1 .pending rfl).symm⟩

@[simp] theorem State.audSwap_mem (s : State) (pairs : List Nat) :
    (State.audSwap s pairs).hbm = s.hbm ∧ (State.audSwap s pairs).pending = s.pending :=
  have h := State.audSwap_fr (c := 4194304) (r := 0) rfl rfl (fr_refl _)
  ⟨(h.1 .hbm rfl).symm, (h.1 .pending rfl).symm⟩

@[simp] theorem State.audLeaveOn_mem (s : State) (p : Nat) :
    (State.audLeaveOn s p).hbm = s.hbm ∧ (State.audLeaveOn s p).pending = s.pending :=
  have h := State.audLeaveOn_fr (c := 4194304) (r := 2199023255552) rfl rfl (fr_refl _)
  ⟨(h.1 .hbm rfl).symm, (h.1 .pending rfl).symm⟩

@[simp] theorem cmdClockRestart_mem (s : State) (q : Nat) :
    (cmdClockRestart s q).hbm = s.hbm ∧ (cmdClockRestart s q).pending = s.pending :=
  have h := cmdClockRestart_fr (c := 4194304) (r := 0) rfl rfl (fr_refl _)
  ⟨(h.1 .hbm rfl).symm, (h.1 .pending rfl).symm⟩

@[simp] theorem cmdAudStartDone_mem (s : State) (p : Nat) :
    (cmdAudStartDone s p).hbm = s.hbm ∧ (cmdAudStartDone s p).pending = s.pending :=
  have h := cmdAudStartDone_fr (c := 4194304) (r := 72057594037927936) rfl rfl (fr_refl _)
  ⟨(h.1 .hbm rfl).symm, (h.1 .pending rfl).symm⟩

@[simp] theorem cmdPhaseMeasure_mem (s : State) (p : Nat) (error : Int) :
    (cmdPhaseMeasure s p error).hbm = s.hbm ∧ (cmdPhaseMeasure s p error).pending = s.pending :=
  have h := cmdPhaseMeasure_fr (c := 4194304) (r := 10141204801825835214172648898560) rfl rfl (fr_refl _)
  ⟨(h.1 .hbm rfl).symm, (h.1 .pending rfl).symm⟩

@[simp] theorem State.pushSegment_mem (s : State) (transport : Nat) (bs : Bytes) :
    (State.pushSegment s transport bs).hbm = s.hbm ∧ (State.pushSegment s transport bs).pending = s.pending :=
  have h := State.pushSegment_fr (c := 16781312) (r := 0) rfl rfl (fr_refl _)
  ⟨(h.1 .hbm rfl).symm, (h.1 .pending rfl).symm⟩

@[simp] theorem State.enqueue_mem (s : State) (transport : Nat) (bs : Bytes) :
    (State.enqueue s transport bs).hbm = s.hbm ∧ (State.enqueue s transport bs).pending = s.pending :=
  have h := State.enqueue_fr (c := 16781824) (r := 0) rfl rfl (fr_refl _)
  ⟨(h.1 .hbm rfl).symm, (h.1 .pending rfl).symm⟩

@[simp] theorem State.openGate_mem (s : State) :
    (State.openGate s).hbm = s.hbm ∧ (State.openGate s).pending = s.pending :=
  have h := State.openGate_fr (c := 16781312) (r := 0) rfl rfl (fr_refl _)
  ⟨(h.1 .hbm rfl).symm, (h.1 .pending rfl).symm⟩

@[simp] theorem State.netNote_mem (s : State) (p code : Nat) :
    (State.netNote s p code).hbm = s.hbm ∧ (State.netNote s p code).pending = s.pending :=
  have h := State.netNote_fr (c := 22548578304) (r := 5070602400912917605986820161536) rfl rfl (fr_refl _)
  ⟨(h.1 .hbm rfl).symm, (h.1 .pending rfl).symm⟩

@[simp] theorem State.queueTx_mem (s : State) (p q transport : Nat) (body : TxBody) (dest : Option (Bytes × Nat)) (ts : Bool) :
    (State.queueTx s p q transport body dest ts).hbm = s.hbm ∧ (State.queueTx s p q transport body dest ts).pending = s.pending :=
  have h := State.queueTx_fr (c := 8388608) (r := 0) rfl rfl (fr_refl _)
  ⟨(h.1 .hbm rfl).symm, (h.1 .pending rfl).symm⟩

@[simp] theorem State.txDone_mem (s : State) (p q status : Nat) (ts : Option Nat) :
    (State.txDone s p q status ts).hbm = s.hbm ∧ (State.txDone s p q status ts).pending = s.pending :=
  have h := State.txDone_fr (c := 17188257792) (r := 0) rfl rfl (fr_refl _)
  ⟨(h.1 .hbm rfl).symm, (h.1 .pending rfl).symm⟩

@[simp] theorem State.serveTx_mem (s : State) (p : Nat) :
    (State.serveTx s p).hbm = s.hbm ∧ (State.serveTx s p).pending = s.pending :=
  have h := State.serveTx_fr (c := 22556966912) (r := 23384026197294446696329559724373445920481740849152) rfl rfl (fr_refl _)
  ⟨(h.1 .hbm rfl).symm, (h.1 .pending rfl).symm⟩

@[simp] theorem State.sendPtp_mem (s : State) (d kind seq : Nat) :
    (State.sendPtp s d kind seq).hbm = s.hbm ∧ (State.sendPtp s d kind seq).pending = s.pending :=
  have h := State.sendPtp_fr (c := 22556966912) (r := 23384026197294446696329559724373445920481740849152) rfl rfl (fr_refl _)
  ⟨(h.1 .hbm rfl).symm, (h.1 .pending rfl).symm⟩

@[simp] theorem State.aim_mem (s : State) (o base : Int) :
    (State.aim s o base).hbm = s.hbm ∧ (State.aim s o base).pending = s.pending :=
  have h := State.aim_fr (c := 8388608) (r := 0) rfl rfl (fr_refl _)
  ⟨(h.1 .hbm rfl).symm, (h.1 .pending rfl).symm⟩

@[simp] theorem State.setRate_mem (s : State) (r : Int) :
    (State.setRate s r).hbm = s.hbm ∧ (State.setRate s r).pending = s.pending :=
  have h := State.setRate_fr (c := 1048576) (r := 44601490397061246283071436545296723011960832) rfl rfl (fr_refl _)
  ⟨(h.1 .hbm rfl).symm, (h.1 .pending rfl).symm⟩

@[simp] theorem State.takeUtc_mem (s : State) (a : Option Announce) :
    (State.takeUtc s a).hbm = s.hbm ∧ (State.takeUtc s a).pending = s.pending :=
  have h := State.takeUtc_fr (c := 0) (r := 786432) rfl rfl (fr_refl _)
  ⟨(h.1 .hbm rfl).symm, (h.1 .pending rfl).symm⟩

@[simp] theorem State.firstStep_mem (s : State) (d : Nat) :
    (State.firstStep s d).hbm = s.hbm ∧ (State.firstStep s d).pending = s.pending :=
  have h := State.firstStep_fr (c := 8388608) (r := 0) rfl rfl (fr_refl _)
  ⟨(h.1 .hbm rfl).symm, (h.1 .pending rfl).symm⟩

@[simp] theorem State.reselect_mem (s : State) (back : Bool) :
    (State.reselect s back).hbm = s.hbm ∧ (State.reselect s back).pending = s.pending :=
  have h := State.reselect_fr (c := 22556966912) (r := 33292288) rfl rfl (fr_refl _)
  ⟨(h.1 .hbm rfl).symm, (h.1 .pending rfl).symm⟩

@[simp] theorem State.feedServo_mem (s : State) (d : Nat) :
    (State.feedServo s d).hbm = s.hbm ∧ (State.feedServo s d).pending = s.pending :=
  have h := State.feedServo_fr (c := 22556966912) (r := 24117248) rfl rfl (fr_refl _)
  ⟨(h.1 .hbm rfl).symm, (h.1 .pending rfl).symm⟩

@[simp] theorem State.takeMaster_mem (s : State) (d : Nat) (f : Foreign) :
    (State.takeMaster s d f).hbm = s.hbm ∧ (State.takeMaster s d f).pending = s.pending :=
  have h := State.takeMaster_fr (c := 22556966912) (r := 268173312) rfl rfl (fr_refl _)
  ⟨(h.1 .hbm rfl).symm, (h.1 .pending rfl).symm⟩

@[simp] theorem State.dropMaster_mem (s : State) (d st : Nat) :
    (State.dropMaster s d st).hbm = s.hbm ∧ (State.dropMaster s d st).pending = s.pending :=
  have h := State.dropMaster_fr (c := 22556966912) (r := 268173312) rfl rfl (fr_refl _)
  ⟨(h.1 .hbm rfl).symm, (h.1 .pending rfl).symm⟩

@[simp] theorem State.ptpSwitch_mem (s : State) (d : Nat) (on : Bool) :
    (State.ptpSwitch s d on).hbm = s.hbm ∧ (State.ptpSwitch s d on).pending = s.pending :=
  have h := State.ptpSwitch_fr (c := 22556966912) (r := 4835703278458516966998016) rfl rfl (fr_refl _)
  ⟨(h.1 .hbm rfl).symm, (h.1 .pending rfl).symm⟩

@[simp] theorem State.judge_mem (s : State) (d : Nat) :
    (State.judge s d).hbm = s.hbm ∧ (State.judge s d).pending = s.pending :=
  have h := State.judge_fr (c := 31147966464) (r := 93536104789177786765035829298527586252701975707648) rfl rfl (fr_refl _)
  ⟨(h.1 .hbm rfl).symm, (h.1 .pending rfl).symm⟩

@[simp] theorem State.useSync_mem (s : State) (d : Nat) (sync : PtpMsg) (origin : Nat) (corr : Int) :
    (State.useSync s d sync origin corr).hbm = s.hbm ∧ (State.useSync s d sync origin corr).pending = s.pending :=
  have h := State.useSync_fr (c := 31147966464) (r := 3213876088611516655873101971447361034342933573818287646310400) rfl rfl (fr_refl _)
  ⟨(h.1 .hbm rfl).symm, (h.1 .pending rfl).symm⟩

@[simp] theorem State.addDelay_mem (s : State) (d : Nat) (m : Int) :
    (State.addDelay s d m).hbm = s.hbm ∧ (State.addDelay s d m).pending = s.pending :=
  have h := State.addDelay_fr (c := 31147966464) (r := 140304157183766680147553743945448642881691817082880) rfl rfl (fr_refl _)
  ⟨(h.1 .hbm rfl).symm, (h.1 .pending rfl).symm⟩

@[simp] theorem cmdAnnounceRx_mem (s : State) (d : Nat) (a : Announce) :
    (cmdAnnounceRx s d a).hbm = s.hbm ∧ (cmdAnnounceRx s d a).pending = s.pending :=
  have h := cmdAnnounceRx_fr (c := 22556966920) (r := 268173312) rfl rfl (fr_refl _)
  ⟨(h.1 .hbm rfl).symm, (h.1 .pending rfl).symm⟩

@[simp] theorem cmdSyncRx_mem (s : State) (d : Nat) (m : PtpMsg) :
    (cmdSyncRx s d m).hbm = s.hbm ∧ (cmdSyncRx s d m).pending = s.pending :=
  have h := cmdSyncRx_fr (c := 31147966472) (r := 3213876088611516655873101971447361034342933573818287646310400) rfl rfl (fr_refl _)
  ⟨(h.1 .hbm rfl).symm, (h.1 .pending rfl).symm⟩

@[simp] theorem cmdFollowUpRx_mem (s : State) (d : Nat) (m : PtpMsg) :
    (cmdFollowUpRx s d m).hbm = s.hbm ∧ (cmdFollowUpRx s d m).pending = s.pending :=
  have h := cmdFollowUpRx_fr (c := 31147966472) (r := 3213876088611516655873101971447361034342933573818287646310400) rfl rfl (fr_refl _)
  ⟨(h.1 .hbm rfl).symm, (h.1 .pending rfl).symm⟩

@[simp] theorem cmdDelayReqSend_mem (s : State) (d stamp : Nat) :
    (cmdDelayReqSend s d stamp).hbm = s.hbm ∧ (cmdDelayReqSend s d stamp).pending = s.pending :=
  have h := cmdDelayReqSend_fr (c := 22556966920) (r := 23384026197294446696329559724373445920481740849152) rfl rfl (fr_refl _)
  ⟨(h.1 .hbm rfl).symm, (h.1 .pending rfl).symm⟩

@[simp] theorem cmdDelayRespRx_mem (s : State) (d : Nat) (m : PtpMsg) :
    (cmdDelayRespRx s d m).hbm = s.hbm ∧ (cmdDelayRespRx s d m).pending = s.pending :=
  have h := cmdDelayRespRx_fr (c := 31147966472) (r := 140304157183766680147553743945448642881691817082880) rfl rfl (fr_refl _)
  ⟨(h.1 .hbm rfl).symm, (h.1 .pending rfl).symm⟩

@[simp] theorem cmdPdelayReqRx_mem (s : State) (d : Nat) (m : PtpMsg) :
    (cmdPdelayReqRx s d m).hbm = s.hbm ∧ (cmdPdelayReqRx s d m).pending = s.pending :=
  have h := cmdPdelayReqRx_fr (c := 22556966920) (r := 23384026197294446696329559724373445920481740849152) rfl rfl (fr_refl _)
  ⟨(h.1 .hbm rfl).symm, (h.1 .pending rfl).symm⟩

@[simp] theorem cmdDomainLost_mem (s : State) (d : Nat) :
    (cmdDomainLost s d).hbm = s.hbm ∧ (cmdDomainLost s d).pending = s.pending :=
  have h := cmdDomainLost_fr (c := 31147966472) (r := 47890485652059026823698344598754078915983977356197888) rfl rfl (fr_refl _)
  ⟨(h.1 .hbm rfl).symm, (h.1 .pending rfl).symm⟩

@[simp] theorem cmdDomainRevert_mem (s : State) :
    (cmdDomainRevert s).hbm = s.hbm ∧ (cmdDomainRevert s).pending = s.pending :=
  have h := cmdDomainRevert_fr (c := 22556966920) (r := 33292288) rfl rfl (fr_refl _)
  ⟨(h.1 .hbm rfl).symm, (h.1 .pending rfl).symm⟩

@[simp] theorem cmdTimeRateStep_mem (s : State) :
    (cmdTimeRateStep s).hbm = s.hbm ∧ (cmdTimeRateStep s).pending = s.pending :=
  have h := cmdTimeRateStep_fr (c := 9437184) (r := 44601490397061246283071436545296723011960832) rfl rfl (fr_refl _)
  ⟨(h.1 .hbm rfl).symm, (h.1 .pending rfl).symm⟩

@[simp] theorem timeSetWrite_mem (s : State) (v : Bytes) :
    (timeSetWrite s v).2.hbm = s.hbm ∧ (timeSetWrite s v).2.pending = s.pending :=
  have h := timeSetWrite_fr (c := 8388608) (r := 0) rfl rfl (fr_refl _)
  ⟨(h.1 .hbm rfl).symm, (h.1 .pending rfl).symm⟩

@[simp] theorem timeAdjustWrite_mem (s : State) (v : Int) :
    (timeAdjustWrite s v).2.hbm = s.hbm ∧ (timeAdjustWrite s v).2.pending = s.pending :=
  have h := timeAdjustWrite_fr (c := 8388608) (r := 0) rfl rfl (fr_refl _)
  ⟨(h.1 .hbm rfl).symm, (h.1 .pending rfl).symm⟩

@[simp] theorem State.shiftTime_mem (s : State) (d : Int) :
    (State.shiftTime s d).hbm = s.hbm ∧ (State.shiftTime s d).pending = s.pending :=
  have h := State.shiftTime_fr (c := 22561161224) (r := 1176956575385002643219210516851437453019191645837013811200) rfl rfl (fr_refl _)
  ⟨(h.1 .hbm rfl).symm, (h.1 .pending rfl).symm⟩

@[simp] theorem actionAddWrite_mem (s : State) (party : Party) (v : Bytes) :
    (actionAddWrite s party v).2.hbm = s.hbm ∧ (actionAddWrite s party v).2.pending = s.pending :=
  have h := actionAddWrite_fr (c := 8388608) (r := 19342813113834066795298816) rfl rfl (fr_refl _)
  ⟨(h.1 .hbm rfl).symm, (h.1 .pending rfl).symm⟩

@[simp] theorem actionCancelWrite_mem (s : State) (seq : Nat) :
    (actionCancelWrite s seq).2.hbm = s.hbm ∧ (actionCancelWrite s seq).2.pending = s.pending :=
  have h := actionCancelWrite_fr (c := 8388608) (r := 19342813113834066795298816) rfl rfl (fr_refl _)
  ⟨(h.1 .hbm rfl).symm, (h.1 .pending rfl).symm⟩

@[simp] theorem State.sendVipex_mem (s : State) (p q kind dst txn : Nat) (payload : Bytes) (dest : Option (Bytes × Nat)) :
    (State.sendVipex s p q kind dst txn payload dest).hbm = s.hbm ∧ (State.sendVipex s p q kind dst txn payload dest).pending = s.pending :=
  have h := State.sendVipex_fr (c := 2155872256) (r := 549755813888) rfl rfl (fr_refl _)
  ⟨(h.1 .hbm rfl).symm, (h.1 .pending rfl).symm⟩

@[simp] theorem State.replyVipex_mem (s : State) (r : VxReq) (status : Nat) (payload : Bytes) :
    (State.replyVipex s r status payload).hbm = s.hbm ∧ (State.replyVipex s r status payload).pending = s.pending :=
  have h := State.replyVipex_fr (c := 2155872256) (r := 549755813888) rfl rfl (fr_refl _)
  ⟨(h.1 .hbm rfl).symm, (h.1 .pending rfl).symm⟩

@[simp] theorem State.setNode_mem (s : State) (n : Node) :
    (State.setNode s n).hbm = s.hbm ∧ (State.setNode s n).pending = s.pending :=
  have h := State.setNode_fr (c := 2147483648) (r := 0) rfl rfl (fr_refl _)
  ⟨(h.1 .hbm rfl).symm, (h.1 .pending rfl).symm⟩

@[simp] theorem State.authFail_mem (s : State) :
    (State.authFail s).hbm = s.hbm ∧ (State.authFail s).pending = s.pending :=
  have h := State.authFail_fr (c := 24696061952) (r := 103086555136) rfl rfl (fr_refl _)
  ⟨(h.1 .hbm rfl).symm, (h.1 .pending rfl).symm⟩

@[simp] theorem State.vxAccept_mem (s : State) (port : Nat) (m : Bytes) (src : Bytes) (srcPort : Nat) :
    (State.vxAccept s port m src srcPort).hbm = s.hbm ∧ (State.vxAccept s port m src srcPort).pending = s.pending :=
  have h := State.vxAccept_fr (c := 24704450560) (r := 75325220824640169166029473078491996993228265334221256523776) rfl rfl (fr_refl _)
  ⟨(h.1 .hbm rfl).symm, (h.1 .pending rfl).symm⟩

@[simp] theorem State.vxReceive_mem (s : State) (port : Nat) (m : Bytes) (from_ : Bytes) (srcPort : Nat) :
    (State.vxReceive s port m from_ srcPort).hbm = s.hbm ∧ (State.vxReceive s port m from_ srcPort).pending = s.pending :=
  have h := State.vxReceive_fr (c := 24704450560) (r := 87879424295413530693701051924907329825432976223149325549568) rfl rfl (fr_refl _)
  ⟨(h.1 .hbm rfl).symm, (h.1 .pending rfl).symm⟩

@[simp] theorem State.dropRx_mem (s : State) (p : Nat) :
    (State.dropRx s p).hbm = s.hbm ∧ (State.dropRx s p).pending = s.pending :=
  have h := State.dropRx_fr (c := 0) (r := 6277101735386680763835789423207666416102355444464034512896) rfl rfl (fr_refl _)
  ⟨(h.1 .hbm rfl).symm, (h.1 .pending rfl).symm⟩

@[simp] theorem State.deliverRx_mem (s : State) (f : RxFrame) (q : Nat) :
    (State.deliverRx s f q).pending = s.pending :=
  ((State.deliverRx_fr (c := 22573745152) (r := 5070602400912917605986820161536) rfl rfl (fr_refl _)).1 .pending rfl).symm

@[simp] theorem State.asirekRx_mem (s : State) (p : Nat) (m : Bytes) :
    (State.asirekRx s p m).hbm = s.hbm ∧ (State.asirekRx s p m).pending = s.pending :=
  have h := State.asirekRx_fr (c := 25170432) (r := 100433627766186892221372630771322662657637687111424552206336) rfl rfl (fr_refl _)
  ⟨(h.1 .hbm rfl).symm, (h.1 .pending rfl).symm⟩

@[simp] theorem State.probeAddrs_mem (s : State) (p : Nat) :
    (State.probeAddrs s p).hbm = s.hbm ∧ (State.probeAddrs s p).pending = s.pending :=
  have h := State.probeAddrs_fr (c := 8388608) (r := 0) rfl rfl (fr_refl _)
  ⟨(h.1 .hbm rfl).symm, (h.1 .pending rfl).symm⟩

@[simp] theorem State.joinGroups_mem (s : State) (p : Nat) :
    (State.joinGroups s p).hbm = s.hbm ∧ (State.joinGroups s p).pending = s.pending :=
  have h := State.joinGroups_fr (c := 8388608) (r := 0) rfl rfl (fr_refl _)
  ⟨(h.1 .hbm rfl).symm, (h.1 .pending rfl).symm⟩

@[simp] theorem State.seekLease_mem (s : State) (p : Nat) :
    (State.seekLease s p).hbm = s.hbm ∧ (State.seekLease s p).pending = s.pending :=
  have h := State.seekLease_fr (c := 8388608) (r := 0) rfl rfl (fr_refl _)
  ⟨(h.1 .hbm rfl).symm, (h.1 .pending rfl).symm⟩

@[simp] theorem State.addrChanged_mem (s : State) (p : Nat) :
    (State.addrChanged s p).hbm = s.hbm ∧ (State.addrChanged s p).pending = s.pending :=
  have h := State.addrChanged_fr (c := 8388608) (r := 0) rfl rfl (fr_refl _)
  ⟨(h.1 .hbm rfl).symm, (h.1 .pending rfl).symm⟩

@[simp] theorem State.portWritten_mem (s : State) (o : Obj) :
    (State.portWritten s o).hbm = s.hbm ∧ (State.portWritten s o).pending = s.pending :=
  have h := State.portWritten_fr (c := 8388608) (r := 0) rfl rfl (fr_refl _)
  ⟨(h.1 .hbm rfl).symm, (h.1 .pending rfl).symm⟩

@[simp] theorem State.serviceRx_mem (s : State) (f : RxFrame) :
    (State.serviceRx s f).hbm = s.hbm ∧ (State.serviceRx s f).pending = s.pending :=
  have h := State.serviceRx_fr (c := 22556966912) (r := 5070602400912917605986820161536) rfl rfl (fr_refl _)
  ⟨(h.1 .hbm rfl).symm, (h.1 .pending rfl).symm⟩

@[simp] theorem cmdEthFrameRx_mem (s : State) (f : RxFrame) :
    (cmdEthFrameRx s f).pending = s.pending :=
  ((cmdEthFrameRx_fr (c := 24721233416) (r := 197728704664680444060827366836112094508137114107256742346752) rfl rfl (fr_refl _)).1 .pending rfl).symm

@[simp] theorem cmdEthFrameTx_mem (s : State) (p : Nat) :
    (cmdEthFrameTx s p).hbm = s.hbm ∧ (cmdEthFrameTx s p).pending = s.pending :=
  have h := cmdEthFrameTx_fr (c := 22556966912) (r := 23384026197294446696329559724373445920481740849152) rfl rfl (fr_refl _)
  ⟨(h.1 .hbm rfl).symm, (h.1 .pending rfl).symm⟩

@[simp] theorem cmdPortStartDone_mem (s : State) (p : Nat) :
    (cmdPortStartDone s p).hbm = s.hbm ∧ (cmdPortStartDone s p).pending = s.pending :=
  have h := cmdPortStartDone_fr (c := 512) (r := 18014398509481984) rfl rfl (fr_refl _)
  ⟨(h.1 .hbm rfl).symm, (h.1 .pending rfl).symm⟩

@[simp] theorem State.closePort_mem (s : State) (p : Nat) :
    (State.closePort s p).hbm = s.hbm ∧ (State.closePort s p).pending = s.pending :=
  have h := State.closePort_fr (c := 17188257792) (r := 36028797018963968) rfl rfl (fr_refl _)
  ⟨(h.1 .hbm rfl).symm, (h.1 .pending rfl).symm⟩

@[simp] theorem cmdPortLinkChange_mem (s : State) (p link : Nat) :
    (cmdPortLinkChange s p link).hbm = s.hbm ∧ (cmdPortLinkChange s p link).pending = s.pending :=
  have h := cmdPortLinkChange_fr (c := 22556966912) (r := 5070602400912953634783839125504) rfl rfl (fr_refl _)
  ⟨(h.1 .hbm rfl).symm, (h.1 .pending rfl).symm⟩

@[simp] theorem cmdDhcpRetry_mem (s : State) (p : Nat) :
    (cmdDhcpRetry s p).hbm = s.hbm ∧ (cmdDhcpRetry s p).pending = s.pending :=
  have h := cmdDhcpRetry_fr (c := 22556966912) (r := 5070602400912917605986820161536) rfl rfl (fr_refl _)
  ⟨(h.1 .hbm rfl).symm, (h.1 .pending rfl).symm⟩

@[simp] theorem cmdVipexHeartbeat_mem (s : State) :
    (cmdVipexHeartbeat s).hbm = s.hbm ∧ (cmdVipexHeartbeat s).pending = s.pending :=
  have h := cmdVipexHeartbeat_fr (c := 2155872256) (r := 549755813888) rfl rfl (fr_refl _)
  ⟨(h.1 .hbm rfl).symm, (h.1 .pending rfl).symm⟩

@[simp] theorem cmdHeartbeatReceived_mem (s : State) (p node : Nat) (otherMac : Bool) :
    (cmdHeartbeatReceived s p node otherMac).hbm = s.hbm ∧ (cmdHeartbeatReceived s p node otherMac).pending = s.pending :=
  have h := cmdHeartbeatReceived_fr (c := 24696061952) (r := 68726816768) rfl rfl (fr_refl _)
  ⟨(h.1 .hbm rfl).symm, (h.1 .pending rfl).symm⟩

@[simp] theorem State.answerWindow_mem (s : State) (r : Reply) :
    (State.answerWindow s r).hbm = s.hbm ∧ (State.answerWindow s r).pending = s.pending :=
  have h := State.answerWindow_fr (c := 20401094656) (r := 0) rfl rfl (fr_refl _)
  ⟨(h.1 .hbm rfl).symm, (h.1 .pending rfl).symm⟩

@[simp] theorem State.answerVipex_mem (s : State) (v : VxReq) (r : Reply) :
    (State.answerVipex s v r).hbm = s.hbm ∧ (State.answerVipex s v r).pending = s.pending :=
  have h := State.answerVipex_fr (c := 2155872256) (r := 549755813888) rfl rfl (fr_refl _)
  ⟨(h.1 .hbm rfl).symm, (h.1 .pending rfl).symm⟩

@[simp] theorem State.recent_mem (s : State) (code : Nat) :
    (State.recent s code).hbm = s.hbm ∧ (State.recent s code).pending = s.pending :=
  have h := State.recent_fr (c := 48) (r := 137438953472) rfl rfl (fr_refl _)
  ⟨(h.1 .hbm rfl).symm, (h.1 .pending rfl).symm⟩

@[simp] theorem State.answer_mem (s : State) (a : Ask) (r : Reply) :
    (State.answer s a r).hbm = s.hbm ∧ (State.answer s a r).pending = s.pending :=
  have h := State.answer_fr (c := 24704450608) (r := 962080014336) rfl rfl (fr_refl _)
  ⟨(h.1 .hbm rfl).symm, (h.1 .pending rfl).symm⟩

@[simp] theorem State.refuseSwap_mem (s : State) (code : Nat) :
    (State.refuseSwap s code).hbm = s.hbm ∧ (State.refuseSwap s code).pending = s.pending :=
  have h := State.refuseSwap_fr (c := 24704450736) (r := 39614081257132174156898500608) rfl rfl (fr_refl _)
  ⟨(h.1 .hbm rfl).symm, (h.1 .pending rfl).symm⟩

@[simp] theorem State.dropAsk_mem (s : State) (a : Ask) (code : Nat) :
    (State.dropAsk s a code).hbm = s.hbm ∧ (State.dropAsk s a code).pending = s.pending :=
  have h := State.dropAsk_fr (c := 24704450608) (r := 962080014336) rfl rfl (fr_refl _)
  ⟨(h.1 .hbm rfl).symm, (h.1 .pending rfl).symm⟩

@[simp] theorem State.setHead_mem (s : State) (h v : Nat) :
    (State.setHead s h v).hbm = s.hbm ∧ (State.setHead s h v).pending = s.pending :=
  have h := State.setHead_fr (c := 0) (r := 13510798882111488) rfl rfl (fr_refl _)
  ⟨(h.1 .hbm rfl).symm, (h.1 .pending rfl).symm⟩

@[simp] theorem State.powerAll_mem (s : State) (l : List Nat) :
    (State.powerAll s l).hbm = s.hbm ∧ (State.powerAll s l).pending = s.pending :=
  have h := State.powerAll_fr (c := 512) (r := 0) rfl rfl (fr_refl _)
  ⟨(h.1 .hbm rfl).symm, (h.1 .pending rfl).symm⟩

@[simp] theorem State.gateAll_mem (s : State) (l : List Nat) :
    (State.gateAll s l).hbm = s.hbm ∧ (State.gateAll s l).pending = s.pending :=
  have h := State.gateAll_fr (c := 512) (r := 0) rfl rfl (fr_refl _)
  ⟨(h.1 .hbm rfl).symm, (h.1 .pending rfl).symm⟩

@[simp] theorem State.headStarting_mem (s : State) (h : Nat) :
    (State.headStarting s h).hbm = s.hbm ∧ (State.headStarting s h).pending = s.pending :=
  have h := State.headStarting_fr (c := 524800) (r := 15762598695796736) rfl rfl (fr_refl _)
  ⟨(h.1 .hbm rfl).symm, (h.1 .pending rfl).symm⟩

@[simp] theorem State.headStopped_mem (s : State) (h : Nat) :
    (State.headStopped s h).hbm = s.hbm ∧ (State.headStopped s h).pending = s.pending :=
  have h := State.headStopped_fr (c := 17180394240) (r := 9444748728337986224128) rfl rfl (fr_refl _)
  ⟨(h.1 .hbm rfl).symm, (h.1 .pending rfl).symm⟩

@[simp] theorem State.sendToMask_mem (s : State) (h : Nat) (b : State → Block) :
    (State.sendToMask s h b).hbm = s.hbm ∧ (State.sendToMask s h b).pending = s.pending :=
  have h := State.sendToMask_fr (c := 17180393472) (r := 0) rfl rfl (fr_refl _)
  ⟨(h.1 .hbm rfl).symm, (h.1 .pending rfl).symm⟩

@[simp] theorem State.sendAbort_mem (s : State) (line : Nat) :
    (State.sendAbort s line).hbm = s.hbm ∧ (State.sendAbort s line).pending = s.pending :=
  have h := State.sendAbort_fr (c := 17180393472) (r := 0) rfl rfl (fr_refl _)
  ⟨(h.1 .hbm rfl).symm, (h.1 .pending rfl).symm⟩

@[simp] theorem State.sendBlank_mem (s : State) :
    (State.sendBlank s).hbm = s.hbm ∧ (State.sendBlank s).pending = s.pending :=
  have h := State.sendBlank_fr (c := 17180393472) (r := 0) rfl rfl (fr_refl _)
  ⟨(h.1 .hbm rfl).symm, (h.1 .pending rfl).symm⟩

@[simp] theorem State.cutFirstScan_mem (s : State) (code : Nat) (broken : Bool) :
    (State.cutFirstScan s code broken).hbm = s.hbm ∧ (State.cutFirstScan s code broken).pending = s.pending :=
  have h := State.cutFirstScan_fr (c := 22549626880) (r := 10384593717069655257060992665780230) rfl rfl (fr_refl _)
  ⟨(h.1 .hbm rfl).symm, (h.1 .pending rfl).symm⟩

@[simp] theorem State.cutDirect_mem (s : State) (code : Nat) :
    (State.cutDirect s code).hbm = s.hbm ∧ (State.cutDirect s code).pending = s.pending :=
  have h := State.cutDirect_fr (c := 18254659584) (r := 6) rfl rfl (fr_refl _)
  ⟨(h.1 .hbm rfl).symm, (h.1 .pending rfl).symm⟩

@[simp] theorem State.discardAdmitted_mem (s : State) (code : Nat) (broken : Bool) :
    (State.discardAdmitted s code broken).hbm = s.hbm ∧ (State.discardAdmitted s code broken).pending = s.pending :=
  have h := State.discardAdmitted_fr (c := 22549717632) (r := 10384593717069655257060992665845254) rfl rfl (fr_refl _)
  ⟨(h.1 .hbm rfl).symm, (h.1 .pending rfl).symm⟩

@[simp] theorem State.idleHeads_mem (s : State) (line until_ : Nat) :
    (State.idleHeads s line until_).hbm = s.hbm ∧ (State.idleHeads s line until_).pending = s.pending :=
  have h := State.idleHeads_fr (c := 17181442048) (r := 0) rfl rfl (fr_refl _)
  ⟨(h.1 .hbm rfl).symm, (h.1 .pending rfl).symm⟩

@[simp] theorem State.haltScan_mem (s : State) :
    (State.haltScan s).hbm = s.hbm ∧ (State.haltScan s).pending = s.pending :=
  have h := State.haltScan_fr (c := 1048576) (r := 0) rfl rfl (fr_refl _)
  ⟨(h.1 .hbm rfl).symm, (h.1 .pending rfl).symm⟩

@[simp] theorem State.dropHeads_mem (s : State) :
    (State.dropHeads s).hbm = s.hbm ∧ (State.dropHeads s).pending = s.pending :=
  have h := State.dropHeads_fr (c := 17181442816) (r := 9444748728337986224128) rfl rfl (fr_refl _)
  ⟨(h.1 .hbm rfl).symm, (h.1 .pending rfl).symm⟩

@[simp] theorem State.scanFault_mem (s : State) (code : Nat) (param : List Nat) :
    (State.scanFault s code param).hbm = s.hbm ∧ (State.scanFault s code param).pending = s.pending :=
  have h := State.scanFault_fr (c := 31139577856) (r := 306916927898379527192576) rfl rfl (fr_refl _)
  ⟨(h.1 .hbm rfl).symm, (h.1 .pending rfl).symm⟩

@[simp] theorem State.scanNote_mem (s : State) (code : Nat) (param : List Nat) :
    (State.scanNote s code param).hbm = s.hbm ∧ (State.scanNote s code param).pending = s.pending :=
  have h := State.scanNote_fr (c := 22548578304) (r := 7405568) rfl rfl (fr_refl _)
  ⟨(h.1 .hbm rfl).symm, (h.1 .pending rfl).symm⟩

@[simp] theorem State.railOn_mem (s : State) (r : Nat) :
    (State.railOn s r).hbm = s.hbm ∧ (State.railOn s r).pending = s.pending :=
  have h := State.railOn_fr (c := 262144) (r := 0) rfl rfl (fr_refl _)
  ⟨(h.1 .hbm rfl).symm, (h.1 .pending rfl).symm⟩

@[simp] theorem State.railOff_mem (s : State) (r : Nat) :
    (State.railOff s r).hbm = s.hbm ∧ (State.railOff s r).pending = s.pending :=
  have h := State.railOff_fr (c := 262144) (r := 0) rfl rfl (fr_refl _)
  ⟨(h.1 .hbm rfl).symm, (h.1 .pending rfl).symm⟩

@[simp] theorem State.pwrNote_mem (s : State) (code : Nat) (param : List Nat) :
    (State.pwrNote s code param).hbm = s.hbm ∧ (State.pwrNote s code param).pending = s.pending :=
  have h := State.pwrNote_fr (c := 22548578304) (r := 7471104) rfl rfl (fr_refl _)
  ⟨(h.1 .hbm rfl).symm, (h.1 .pending rfl).symm⟩

@[simp] theorem State.phase_mem (s : State) (p : RailPhase) :
    (State.phase s p).hbm = s.hbm ∧ (State.phase s p).pending = s.pending :=
  have h := State.phase_fr (c := 262144) (r := 0) rfl rfl (fr_refl _)
  ⟨(h.1 .hbm rfl).symm, (h.1 .pending rfl).symm⟩

@[simp] theorem State.endHoldup_mem (s : State) :
    (State.endHoldup s).hbm = s.hbm ∧ (State.endHoldup s).pending = s.pending :=
  have h := State.endHoldup_fr (c := 22548840448) (r := 5607810198407711162368) rfl rfl (fr_refl _)
  ⟨(h.1 .hbm rfl).symm, (h.1 .pending rfl).symm⟩

@[simp] theorem State.panelOn_mem (s : State) :
    (State.panelOn s).hbm = s.hbm ∧ (State.panelOn s).pending = s.pending :=
  have h := State.panelOn_fr (c := 31140364800) (r := 9426301984264284143616) rfl rfl (fr_refl _)
  ⟨(h.1 .hbm rfl).symm, (h.1 .pending rfl).symm⟩

@[simp] theorem State.startRail_mem (s : State) (i : Nat) :
    (State.startRail s i).hbm = s.hbm ∧ (State.startRail s i).pending = s.pending :=
  have h := State.startRail_fr (c := 31140364800) (r := 9426301984264284143616) rfl rfl (fr_refl _)
  ⟨(h.1 .hbm rfl).symm, (h.1 .pending rfl).symm⟩

@[simp] theorem State.panelStart_mem (s : State) :
    (State.panelStart s).hbm = s.hbm ∧ (State.panelStart s).pending = s.pending :=
  have h := State.panelStart_fr (c := 31140364808) (r := 9426301984264284143616) rfl rfl (fr_refl _)
  ⟨(h.1 .hbm rfl).symm, (h.1 .pending rfl).symm⟩

@[simp] theorem State.panelOff_mem (s : State) :
    (State.panelOff s).hbm = s.hbm ∧ (State.panelOff s).pending = s.pending :=
  have h := State.panelOff_fr (c := 31140365064) (r := 9426301984264284143616) rfl rfl (fr_refl _)
  ⟨(h.1 .hbm rfl).symm, (h.1 .pending rfl).symm⟩

@[simp] theorem State.railsOff_mem (s : State) (n : Nat) :
    (State.railsOff s n).hbm = s.hbm ∧ (State.railsOff s n).pending = s.pending :=
  have h := State.railsOff_fr (c := 31140365064) (r := 9426301984264284143616) rfl rfl (fr_refl _)
  ⟨(h.1 .hbm rfl).symm, (h.1 .pending rfl).symm⟩

@[simp] theorem State.railsWhenHeadsStopped_mem (s : State) :
    (State.railsWhenHeadsStopped s).hbm = s.hbm ∧ (State.railsWhenHeadsStopped s).pending = s.pending :=
  have h := State.railsWhenHeadsStopped_fr (c := 31140365064) (r := 9426301984264284143616) rfl rfl (fr_refl _)
  ⟨(h.1 .hbm rfl).symm, (h.1 .pending rfl).symm⟩

@[simp] theorem State.panelStop_mem (s : State) :
    (State.panelStop s).hbm = s.hbm ∧ (State.panelStop s).pending = s.pending :=
  have h := State.panelStop_fr (c := 31140365064) (r := 18871034950003574571008) rfl rfl (fr_refl _)
  ⟨(h.1 .hbm rfl).symm, (h.1 .pending rfl).symm⟩

@[simp] theorem State.railsDown_mem (s : State) :
    (State.railsDown s).hbm = s.hbm ∧ (State.railsDown s).pending = s.pending :=
  have h := State.railsDown_fr (c := 262400) (r := 18446744073709551616) rfl rfl (fr_refl _)
  ⟨(h.1 .hbm rfl).symm, (h.1 .pending rfl).symm⟩

@[simp] theorem State.startDown_mem (s : State) (t0 : Nat) :
    (State.startDown s t0).hbm = s.hbm ∧ (State.startDown s t0).pending = s.pending :=
  have h := State.startDown_fr (c := 262400) (r := 18446744073709551616) rfl rfl (fr_refl _)
  ⟨(h.1 .hbm rfl).symm, (h.1 .pending rfl).symm⟩

@[simp] theorem State.confirmHoldup_mem (s : State) :
    (State.confirmHoldup s).hbm = s.hbm ∧ (State.confirmHoldup s).pending = s.pending :=
  have h := State.confirmHoldup_fr (c := 22550504320) (r := 5986310712082564662979542577275731671025319549271558) rfl rfl (fr_refl _)
  ⟨(h.1 .hbm rfl).symm, (h.1 .pending rfl).symm⟩

@[simp] theorem cmdRailPgRise_mem (s : State) (r : Nat) :
    (cmdRailPgRise s r).hbm = s.hbm ∧ (cmdRailPgRise s r).pending = s.pending :=
  have h := cmdRailPgRise_fr (c := 262144) (r := 89202980794122492566142873090593446023921664) rfl rfl (fr_refl _)
  ⟨(h.1 .hbm rfl).symm, (h.1 .pending rfl).symm⟩

@[simp] theorem cmdRailStepDelay_mem (s : State) :
    (cmdRailStepDelay s).hbm = s.hbm ∧ (cmdRailStepDelay s).pending = s.pending :=
  have h := cmdRailStepDelay_fr (c := 31140364808) (r := 9426301984264284143616) rfl rfl (fr_refl _)
  ⟨(h.1 .hbm rfl).symm, (h.1 .pending rfl).symm⟩

@[simp] theorem cmdRailPgTimeout_mem (s : State) :
    (cmdRailPgTimeout s).hbm = s.hbm ∧ (cmdRailPgTimeout s).pending = s.pending :=
  have h := cmdRailPgTimeout_fr (c := 31140365064) (r := 321102490979560775090176) rfl rfl (fr_refl _)
  ⟨(h.1 .hbm rfl).symm, (h.1 .pending rfl).symm⟩

@[simp] theorem cmdPgPanelFall_mem (s : State) (r : Nat) :
    (cmdPgPanelFall s r).hbm = s.hbm ∧ (cmdPgPanelFall s r).pending = s.pending :=
  have h := cmdPgPanelFall_fr (c := 262144) (r := 89202980794122492566142873090593446023921664) rfl rfl (fr_refl _)
  ⟨(h.1 .hbm rfl).symm, (h.1 .pending rfl).symm⟩

@[simp] theorem cmdRailFault_mem (s : State) (r : Nat) :
    (cmdRailFault s r).hbm = s.hbm ∧ (cmdRailFault s r).pending = s.pending :=
  have h := cmdRailFault_fr (c := 31140365064) (r := 10384593717390757748040553433530374) rfl rfl (fr_refl _)
  ⟨(h.1 .hbm rfl).symm, (h.1 .pending rfl).symm⟩

@[simp] theorem cmdRailOffStep_mem (s : State) :
    (cmdRailOffStep s).hbm = s.hbm ∧ (cmdRailOffStep s).pending = s.pending :=
  have h := cmdRailOffStep_fr (c := 31140365064) (r := 9426301984264284143616) rfl rfl (fr_refl _)
  ⟨(h.1 .hbm rfl).symm, (h.1 .pending rfl).symm⟩

@[simp] theorem cmdPfailFall_mem (s : State) :
    (cmdPfailFall s).hbm = s.hbm ∧ (cmdPfailFall s).pending = s.pending :=
  have h := cmdPfailFall_fr (c := 262144) (r := 0) rfl rfl (fr_refl _)
  ⟨(h.1 .hbm rfl).symm, (h.1 .pending rfl).symm⟩

@[simp] theorem cmdPfailRise_mem (s : State) :
    (cmdPfailRise s).hbm = s.hbm ∧ (cmdPfailRise s).pending = s.pending :=
  have h := cmdPfailRise_fr (c := 262144) (r := 0) rfl rfl (fr_refl _)
  ⟨(h.1 .hbm rfl).symm, (h.1 .pending rfl).symm⟩

@[simp] theorem cmdHoldupConfirm_mem (s : State) :
    (cmdHoldupConfirm s).hbm = s.hbm ∧ (cmdHoldupConfirm s).pending = s.pending :=
  have h := cmdHoldupConfirm_fr (c := 22550504328) (r := 5986310712082564662979542577275731671025319549271558) rfl rfl (fr_refl _)
  ⟨(h.1 .hbm rfl).symm, (h.1 .pending rfl).symm⟩

@[simp] theorem cmdHoldupShed_mem (s : State) :
    (cmdHoldupShed s).hbm = s.hbm ∧ (cmdHoldupShed s).pending = s.pending :=
  have h := cmdHoldupShed_fr (c := 17039368) (r := 0) rfl rfl (fr_refl _)
  ⟨(h.1 .hbm rfl).symm, (h.1 .pending rfl).symm⟩

@[simp] theorem cmdHoldupRecovery_mem (s : State) :
    (cmdHoldupRecovery s).hbm = s.hbm ∧ (cmdHoldupRecovery s).pending = s.pending :=
  have h := cmdHoldupRecovery_fr (c := 31157142024) (r := 9426301984264284143616) rfl rfl (fr_refl _)
  ⟨(h.1 .hbm rfl).symm, (h.1 .pending rfl).symm⟩

@[simp] theorem cmdRailDownStep_mem (s : State) :
    (cmdRailDownStep s).hbm = s.hbm ∧ (cmdRailDownStep s).pending = s.pending :=
  have h := cmdRailDownStep_fr (c := 262408) (r := 18446744073709551616) rfl rfl (fr_refl _)
  ⟨(h.1 .hbm rfl).symm, (h.1 .pending rfl).symm⟩

@[simp] theorem compareRail_mem (s : State) (n : Nat) (t : Nat × Nat) (mv : Nat) :
    (compareRail s n t mv).hbm = s.hbm ∧ (compareRail s n t mv).pending = s.pending :=
  have h := compareRail_fr (c := 22550504320) (r := 10476043741963098427701262383380153107408344321293830) rfl rfl (fr_refl _)
  ⟨(h.1 .hbm rfl).symm, (h.1 .pending rfl).symm⟩

@[simp] theorem cmdDeviceRailCompare_mem (s : State) (mv : List Nat) :
    (cmdDeviceRailCompare s mv).hbm = s.hbm ∧ (cmdDeviceRailCompare s mv).pending = s.pending :=
  have h := cmdDeviceRailCompare_fr (c := 22550504320) (r := 10476043741963098427701262383380153107408344321293830) rfl rfl (fr_refl _)
  ⟨(h.1 .hbm rfl).symm, (h.1 .pending rfl).symm⟩

@[simp] theorem State.memNote_mem (s : State) (code : Nat) (param : List Nat) :
    (State.memNote s code param).hbm = s.hbm ∧ (State.memNote s code param).pending = s.pending :=
  have h := State.memNote_fr (c := 22548578304) (r := 544210944) rfl rfl (fr_refl _)
  ⟨(h.1 .hbm rfl).symm, (h.1 .pending rfl).symm⟩

@[simp] theorem refreshStack_mem (s : State) (i : Nat) :
    (refreshStack s i).hbm = s.hbm ∧ (refreshStack s i).pending = s.pending :=
  have h := refreshStack_fr (c := 22565355520) (r := 544210944) rfl rfl (fr_refl _)
  ⟨(h.1 .hbm rfl).symm, (h.1 .pending rfl).symm⟩

@[simp] theorem cmdRefreshInstant_mem (s : State) :
    (cmdRefreshInstant s).hbm = s.hbm ∧ (cmdRefreshInstant s).pending = s.pending :=
  have h := cmdRefreshInstant_fr (c := 22565355528) (r := 822752278660603021077484591278675252491367932816789932218515456) rfl rfl (fr_refl _)
  ⟨(h.1 .hbm rfl).symm, (h.1 .pending rfl).symm⟩

@[simp] theorem cmdToleranceReport_mem (s : State) (fifoA fifoB : Nat) :
    (cmdToleranceReport s fifoA fifoB).hbm = s.hbm ∧ (cmdToleranceReport s fifoA fifoB).pending = s.pending :=
  have h := cmdToleranceReport_fr (c := 16777216) (r := 1099511627776) rfl rfl (fr_refl _)
  ⟨(h.1 .hbm rfl).symm, (h.1 .pending rfl).symm⟩

@[simp] theorem cmdSelfRefreshEntry_mem (s : State) (i : Nat) :
    (cmdSelfRefreshEntry s i).hbm = s.hbm ∧ (cmdSelfRefreshEntry s i).pending = s.pending :=
  have h := cmdSelfRefreshEntry_fr (c := 16777224) (r := 0) rfl rfl (fr_refl _)
  ⟨(h.1 .hbm rfl).symm, (h.1 .pending rfl).symm⟩

@[simp] theorem cmdScrubPass_mem (s : State) (ue ce : List Nat) :
    (cmdScrubPass s ue ce).hbm = s.hbm ∧ (cmdScrubPass s ue ce).pending = s.pending :=
  have h := cmdScrubPass_fr (c := 22565355520) (r := 3369993333393829974333376885877453834204643052817571560154601619456) rfl rfl (fr_refl _)
  ⟨(h.1 .hbm rfl).symm, (h.1 .pending rfl).symm⟩

@[simp] theorem apertureRefused_mem (s : State) (n : Nat) :
    (apertureRefused s n).hbm = s.hbm ∧ (apertureRefused s n).pending = s.pending :=
  have h := apertureRefused_fr (c := 0) (r := 805306368) rfl rfl (fr_refl _)
  ⟨(h.1 .hbm rfl).symm, (h.1 .pending rfl).symm⟩

@[simp] theorem cmdApertureRead_mem (s : State) (off n : Nat) (ue ce : List Nat) :
    (cmdApertureRead s off n ue ce).hbm = s.hbm ∧ (cmdApertureRead s off n ue ce).pending = s.pending :=
  have h := cmdApertureRead_fr (c := 91284832256) (r := 16918773760) rfl rfl (fr_refl _)
  ⟨(h.1 .hbm rfl).symm, (h.1 .pending rfl).symm⟩

@[simp] theorem cmdApertureWrite_mem (s : State) (off : Nat) (data : Bytes) :
    (cmdApertureWrite s off data).pending = s.pending :=
  ((cmdApertureWrite_fr (c := 16778240) (r := 805306368) rfl rfl (fr_refl _)).1 .pending rfl).symm

@[simp] theorem State.thmNote_mem (s : State) (code : Nat) (param : List Nat) :
    (State.thmNote s code param).hbm = s.hbm ∧ (State.thmNote s code param).pending = s.pending :=
  have h := State.thmNote_fr (c := 22548578304) (r := 1461501637330902918203684832716283019655939883008) rfl rfl (fr_refl _)
  ⟨(h.1 .hbm rfl).symm, (h.1 .pending rfl).symm⟩

@[simp] theorem State.excludeSensor_mem (s : State) (n : Nat) :
    (State.excludeSensor s n).hbm = s.hbm ∧ (State.excludeSensor s n).pending = s.pending :=
  have h := State.excludeSensor_fr (c := 31139577856) (r := 1461501637330902918203685139633210918035459670016) rfl rfl (fr_refl _)
  ⟨(h.1 .hbm rfl).symm, (h.1 .pending rfl).symm⟩

@[simp] theorem State.restoreSensor_mem (s : State) (n : Nat) :
    (State.restoreSensor s n).hbm = s.hbm ∧ (State.restoreSensor s n).pending = s.pending :=
  have h := State.restoreSensor_fr (c := 31139577856) (r := 1461501637330902918203684837401756014378165993472) rfl rfl (fr_refl _)
  ⟨(h.1 .hbm rfl).symm, (h.1 .pending rfl).symm⟩

@[simp] theorem State.sensorEvents_mem (s : State) (old new : List Sensor) :
    (State.sensorEvents s old new).hbm = s.hbm ∧ (State.sensorEvents s old new).pending = s.pending :=
  have h := State.sensorEvents_fr (c := 31139577856) (r := 1461501637330902918203685139633210918035459670016) rfl rfl (fr_refl _)
  ⟨(h.1 .hbm rfl).symm, (h.1 .pending rfl).symm⟩

@[simp] theorem riseLevel_mem (s : State) :
    (riseLevel s).hbm = s.hbm ∧ (riseLevel s).pending = s.pending :=
  have h := riseLevel_fr (c := 22583197696) (r := 883423532389192164791650211873096588816660152122644261379159012055973888) rfl rfl (fr_refl _)
  ⟨(h.1 .hbm rfl).symm, (h.1 .pending rfl).symm⟩

@[simp] theorem throttleLevel_mem (s : State) :
    (throttleLevel s).hbm = s.hbm ∧ (throttleLevel s).pending = s.pending :=
  have h := throttleLevel_fr (c := 22582132736) (r := 662567649291894123593738024280231774338224665013189825578621981424615424) rfl rfl (fr_refl _)
  ⟨(h.1 .hbm rfl).symm, (h.1 .pending rfl).symm⟩

@[simp] theorem applyEmergency_mem (s : State) (before : Nat) :
    (applyEmergency s before).hbm = s.hbm ∧ (applyEmergency s before).pending = s.pending :=
  have h := applyEmergency_fr (c := 0) (r := 421249166674228746791672110734681729275580381602196445017243910144) rfl rfl (fr_refl _)
  ⟨(h.1 .hbm rfl).symm, (h.1 .pending rfl).symm⟩

@[simp] theorem limitStart_mem (s : State) :
    (limitStart s).hbm = s.hbm ∧ (limitStart s).pending = s.pending :=
  have h := limitStart_fr (c := 22582132736) (r := 1461501637330902918203684832716283019655939883008) rfl rfl (fr_refl _)
  ⟨(h.1 .hbm rfl).symm, (h.1 .pending rfl).symm⟩

@[simp] theorem sampleStack_mem (s : State) (i : Nat) (raw : Option Int) :
    (sampleStack s i raw).hbm = s.hbm ∧ (sampleStack s i raw).pending = s.pending :=
  have h := sampleStack_fr (c := 31156355072) (r := 13803492693581127574869511724554050904902217944647690038223428511596544) rfl rfl (fr_refl _)
  ⟨(h.1 .hbm rfl).symm, (h.1 .pending rfl).symm⟩

@[simp] theorem sampleStacks_mem (s : State) (raw : List (Option Int)) :
    (sampleStacks s raw).hbm = s.hbm ∧ (sampleStacks s raw).pending = s.pending :=
  have h := sampleStacks_fr (c := 31156355072) (r := 41410478080743382724608535173662152714706653833329236258873525406793728) rfl rfl (fr_refl _)
  ⟨(h.1 .hbm rfl).symm, (h.1 .pending rfl).symm⟩

@[simp] theorem logTrips_mem (s : State) :
    (logTrips s).hbm = s.hbm ∧ (logTrips s).pending = s.pending :=
  have h := logTrips_fr (c := 22649241600) (r := 1461501637330902918203684832716283019655939883008) rfl rfl (fr_refl _)
  ⟨(h.1 .hbm rfl).symm, (h.1 .pending rfl).symm⟩

@[simp] theorem norWindow_mem (s : State) :
    (norWindow s).hbm = s.hbm ∧ (norWindow s).pending = s.pending :=
  have h := norWindow_fr (c := 22649241600) (r := 110427941548649020598957555298069738142135947239558901165620043520671744) rfl rfl (fr_refl _)
  ⟨(h.1 .hbm rfl).symm, (h.1 .pending rfl).symm⟩

@[simp] theorem coldSpell_mem (s : State) :
    (coldSpell s).hbm = s.hbm ∧ (coldSpell s).pending = s.pending :=
  have h := coldSpell_fr (c := 22582132736) (r := 1461501637330902918203684832716283019655939883008) rfl rfl (fr_refl _)
  ⟨(h.1 .hbm rfl).symm, (h.1 .pending rfl).symm⟩

@[simp] theorem tearBronze_mem (s : State) :
    (tearBronze s).hbm = s.hbm ∧ (tearBronze s).pending = s.pending :=
  have h := tearBronze_fr (c := 68786585600) (r := 0) rfl rfl (fr_refl _)
  ⟨(h.1 .hbm rfl).symm, (h.1 .pending rfl).symm⟩

@[simp] theorem tearPatina_mem (s : State) :
    (tearPatina s).hbm = s.hbm ∧ (tearPatina s).pending = s.pending :=
  have h := tearPatina_fr (c := 68786585600) (r := 0) rfl rfl (fr_refl _)
  ⟨(h.1 .hbm rfl).symm, (h.1 .pending rfl).symm⟩

@[simp] theorem tearNor_mem (s : State) :
    (tearNor s).hbm = s.hbm ∧ (tearNor s).pending = s.pending :=
  have h := tearNor_fr (c := 68786585600) (r := 0) rfl rfl (fr_refl _)
  ⟨(h.1 .hbm rfl).symm, (h.1 .pending rfl).symm⟩

@[simp] theorem silenceLanes_mem (s : State) :
    (silenceLanes s).hbm = s.hbm ∧ (silenceLanes s).pending = s.pending :=
  have h := silenceLanes_fr (c := 17179869184) (r := 0) rfl rfl (fr_refl _)
  ⟨(h.1 .hbm rfl).symm, (h.1 .pending rfl).symm⟩

@[simp] theorem stopRails_mem (s : State) :
    (stopRails s).hbm = s.hbm ∧ (stopRails s).pending = s.pending :=
  have h := stopRails_fr (c := 262400) (r := 18446744073709551616) rfl rfl (fr_refl _)
  ⟨(h.1 .hbm rfl).symm, (h.1 .pending rfl).symm⟩

@[simp] theorem stopDie_mem (s : State) (why : StopCause) :
    (stopDie s why).pending = s.pending :=
  ((stopDie_fr (c := 86000272646) (r := 18446744073709551616) rfl rfl (fr_refl _)).1 .pending rfl).symm

@[simp] theorem trip_mem (s : State) (cause : Nat) :
    (trip s cause).pending = s.pending :=
  ((trip_fr (c := 91370046726) (r := 713623846352979940529145069206827897378045952) rfl rfl (fr_refl _)).1 .pending rfl).symm

@[simp] theorem takeSample_mem (s : State) (raw : List (Option Int)) :
    (takeSample s raw).hbm = s.hbm ∧ (takeSample s raw).pending = s.pending :=
  have h := takeSample_fr (c := 33554432) (r := 12078056106883486628010822758984794541789440701298176471534417391648768) rfl rfl (fr_refl _)
  ⟨(h.1 .hbm rfl).symm, (h.1 .pending rfl).symm⟩

@[simp] theorem cmdThmSample_mem (s : State) (raw hbmStacks : List (Option Int)) :
    (cmdThmSample s raw hbmStacks).pending = s.pending :=
  ((cmdThmSample_fr (c := 99976758534) (r := 1765122049440853362865187065664721171401998539427240600061670265378045952) rfl rfl (fr_refl _)).1 .pending rfl).symm

@[simp] theorem cmdTripRecordProgrammed_mem (s : State) :
    (cmdTripRecordProgrammed s).hbm = s.hbm ∧ (cmdTripRecordProgrammed s).pending = s.pending :=
  have h := cmdTripRecordProgrammed_fr (c := 33554432) (r := 1427247692705959881058285969449495136382746624) rfl rfl (fr_refl _)
  ⟨(h.1 .hbm rfl).symm, (h.1 .pending rfl).symm⟩

@[simp] theorem learnOne_mem (s : State) (total : Int) (count : Nat) (n : Nat) :
    (learnOne s total count n).hbm = s.hbm ∧ (learnOne s total count n).pending = s.pending :=
  have h := learnOne_fr (c := 22582132736) (r := 1461501637330902918203684832716283019655939883008) rfl rfl (fr_refl _)
  ⟨(h.1 .hbm rfl).symm, (h.1 .pending rfl).symm⟩

@[simp] theorem cmdTrimLearn_mem (s : State) :
    (cmdTrimLearn s).hbm = s.hbm ∧ (cmdTrimLearn s).pending = s.pending :=
  have h := cmdTrimLearn_fr (c := 22582132744) (r := 1461501637330902918203684832716283019655939883008) rfl rfl (fr_refl _)
  ⟨(h.1 .hbm rfl).symm, (h.1 .pending rfl).symm⟩

@[simp] theorem cmdTrimSave_mem (s : State) :
    (cmdTrimSave s).hbm = s.hbm ∧ (cmdTrimSave s).pending = s.pending :=
  have h := cmdTrimSave_fr (c := 100663296) (r := 0) rfl rfl (fr_refl _)
  ⟨(h.1 .hbm rfl).symm, (h.1 .pending rfl).symm⟩

@[simp] theorem State.atlNote_mem (s : State) (code : Nat) (param : List Nat) :
    (State.atlNote s code param).hbm = s.hbm ∧ (State.atlNote s code param).pending = s.pending :=
  have h := State.atlNote_fr (c := 22548578304) (r := 19807040628566084398393327616) rfl rfl (fr_refl _)
  ⟨(h.1 .hbm rfl).symm, (h.1 .pending rfl).symm⟩

@[simp] theorem State.bootActive_mem (s : State) (failed : Option Nat) :
    (State.bootActive s failed).hbm = s.hbm ∧ (State.bootActive s failed).pending = s.pending :=
  have h := State.bootActive_fr (c := 134217728) (r := 0) rfl rfl (fr_refl _)
  ⟨(h.1 .hbm rfl).symm, (h.1 .pending rfl).symm⟩

@[simp] theorem State.bootSelect_mem (s : State) :
    (State.bootSelect s).hbm = s.hbm ∧ (State.bootSelect s).pending = s.pending :=
  have h := State.bootSelect_fr (c := 22749904896) (r := 19807040628566084398393327616) rfl rfl (fr_refl _)
  ⟨(h.1 .hbm rfl).symm, (h.1 .pending rfl).symm⟩

@[simp] theorem State.enterFirmware_mem (s : State) :
    (State.enterFirmware s).hbm = s.hbm ∧ (State.enterFirmware s).pending = s.pending :=
  have h := State.enterFirmware_fr (c := 69122129920) (r := 10889035741470030830827987437816582766592) rfl rfl (fr_refl _)
  ⟨(h.1 .hbm rfl).symm, (h.1 .pending rfl).symm⟩

@[simp] theorem State.noteNor_mem (s : State) (ue : List NorUe) :
    (State.noteNor s ue).hbm = s.hbm ∧ (State.noteNor s ue).pending = s.pending :=
  have h := State.noteNor_fr (c := 22548578304) (r := 696898287454101780213619762104659690389504) rfl rfl (fr_refl _)
  ⟨(h.1 .hbm rfl).symm, (h.1 .pending rfl).symm⟩

@[simp] theorem State.readNor_mem (s : State) (ue : List NorUe) :
    (State.readNor s ue).hbm = s.hbm ∧ (State.readNor s ue).pending = s.pending :=
  have h := State.readNor_fr (c := 22615687168) (r := 696898287454101780213619762104659690389504) rfl rfl (fr_refl _)
  ⟨(h.1 .hbm rfl).symm, (h.1 .pending rfl).symm⟩

@[simp] theorem State.reportTorn_mem (s : State) :
    (State.reportTorn s).hbm = s.hbm ∧ (State.reportTorn s).pending = s.pending :=
  have h := State.reportTorn_fr (c := 22615687168) (r := 19807040628566084398393327616) rfl rfl (fr_refl _)
  ⟨(h.1 .hbm rfl).symm, (h.1 .pending rfl).symm⟩

@[simp] theorem State.showSlots_mem (s : State) :
    (State.showSlots s).hbm = s.hbm ∧ (State.showSlots s).pending = s.pending :=
  have h := State.showSlots_fr (c := 0) (r := 4763953136893138488487244504044754960384) rfl rfl (fr_refl _)
  ⟨(h.1 .hbm rfl).symm, (h.1 .pending rfl).symm⟩

@[simp] theorem State.resetEffects_mem (s : State) :
    (State.resetEffects s).hbm = s.hbm ∧ (State.resetEffects s).pending = s.pending :=
  have h := State.resetEffects_fr (c := 93625254064) (r := 594249904483210205445557583872) rfl rfl (fr_refl _)
  ⟨(h.1 .hbm rfl).symm, (h.1 .pending rfl).symm⟩

@[simp] theorem State.warmReset_mem (s : State) (cause code : Nat) :
    (State.warmReset s cause code).hbm = s.hbm ∧ (State.warmReset s cause code).pending = s.pending :=
  have h := State.warmReset_fr (c := 102484689072) (r := 632626352617984892346950221824) rfl rfl (fr_refl _)
  ⟨(h.1 .hbm rfl).symm, (h.1 .pending rfl).symm⟩

@[simp] theorem cmdLockstepMismatch_mem (s : State) :
    (cmdLockstepMismatch s).hbm = s.hbm ∧ (cmdLockstepMismatch s).pending = s.pending :=
  have h := cmdLockstepMismatch_fr (c := 102484689072) (r := 632626352617984892346950221824) rfl rfl (fr_refl _)
  ⟨(h.1 .hbm rfl).symm, (h.1 .pending rfl).symm⟩

@[simp] theorem cmdSramUncorrectable_mem (s : State) :
    (cmdSramUncorrectable s).hbm = s.hbm ∧ (cmdSramUncorrectable s).pending = s.pending :=
  have h := cmdSramUncorrectable_fr (c := 102484689072) (r := 632626352617984892346950221824) rfl rfl (fr_refl _)
  ⟨(h.1 .hbm rfl).symm, (h.1 .pending rfl).symm⟩

@[simp] theorem atlWarmResetWrite_mem (s : State) :
    (atlWarmResetWrite s).2.hbm = s.hbm ∧ (atlWarmResetWrite s).2.pending = s.pending :=
  have h := atlWarmResetWrite_fr (c := 102484689072) (r := 632626352617984892346950221824) rfl rfl (fr_refl _)
  ⟨(h.1 .hbm rfl).symm, (h.1 .pending rfl).symm⟩

@[simp] theorem cmdWarmResetDone_mem (s : State) (ue : List NorUe) :
    (cmdWarmResetDone s ue).hbm = s.hbm ∧ (cmdWarmResetDone s ue).pending = s.pending :=
  have h := cmdWarmResetDone_fr (c := 100328816640) (r := 712551276332467425417699037801793052475392) rfl rfl (fr_refl _)
  ⟨(h.1 .hbm rfl).symm, (h.1 .pending rfl).symm⟩

@[simp] theorem cmdTrialConfirm_mem (s : State) :
    (cmdTrialConfirm s).hbm = s.hbm ∧ (cmdTrialConfirm s).pending = s.pending :=
  have h := cmdTrialConfirm_fr (c := 23018340360) (r := 11155136552402224516296974946912623901278208) rfl rfl (fr_refl _)
  ⟨(h.1 .hbm rfl).symm, (h.1 .pending rfl).symm⟩

@[simp] theorem State.logLost_mem (s : State) :
    (State.logLost s).hbm = s.hbm ∧ (State.logLost s).pending = s.pending :=
  have h := State.logLost_fr (c := 4294967296) (r := 1048576) rfl rfl (fr_refl _)
  ⟨(h.1 .hbm rfl).symm, (h.1 .pending rfl).symm⟩

@[simp] theorem State.toSram_mem (s : State) (e : LogEntry) :
    (State.toSram s e).hbm = s.hbm ∧ (State.toSram s e).pending = s.pending :=
  have h := State.toSram_fr (c := 4294967296) (r := 1048576) rfl rfl (fr_refl _)
  ⟨(h.1 .hbm rfl).symm, (h.1 .pending rfl).symm⟩

@[simp] theorem State.norLog_mem (s : State) (e : LogEntry) :
    (State.norLog s e).hbm = s.hbm ∧ (State.norLog s e).pending = s.pending :=
  have h := State.norLog_fr (c := 67108864) (r := 0) rfl rfl (fr_refl _)
  ⟨(h.1 .hbm rfl).symm, (h.1 .pending rfl).symm⟩

@[simp] theorem State.norLost_mem (s : State) :
    (State.norLost s).hbm = s.hbm ∧ (State.norLost s).pending = s.pending :=
  have h := State.norLost_fr (c := 4362076160) (r := 0) rfl rfl (fr_refl _)
  ⟨(h.1 .hbm rfl).symm, (h.1 .pending rfl).symm⟩

@[simp] theorem State.writeLog_mem (s : State) (e : LogEntry) :
    (State.writeLog s e).hbm = s.hbm ∧ (State.writeLog s e).pending = s.pending :=
  have h := State.writeLog_fr (c := 4362076160) (r := 1048576) rfl rfl (fr_refl _)
  ⟨(h.1 .hbm rfl).symm, (h.1 .pending rfl).symm⟩

@[simp] theorem State.showLog_mem (s : State) :
    (State.showLog s).hbm = s.hbm ∧ (State.showLog s).pending = s.pending :=
  have h := State.showLog_fr (c := 0) (r := 535217884764734955396857238543560676143529984) rfl rfl (fr_refl _)
  ⟨(h.1 .hbm rfl).symm, (h.1 .pending rfl).symm⟩

@[simp] theorem State.drainStaging_mem (s : State) :
    (State.drainStaging s).hbm = s.hbm ∧ (State.drainStaging s).pending = s.pending :=
  have h := State.drainStaging_fr (c := 4294967296) (r := 1048576) rfl rfl (fr_refl _)
  ⟨(h.1 .hbm rfl).symm, (h.1 .pending rfl).symm⟩

@[simp] theorem State.saveState_mem (s : State) :
    (State.saveState s).hbm = s.hbm ∧ (State.saveState s).pending = s.pending :=
  have h := State.saveState_fr (c := 68786585600) (r := 22300745198530623141535718272648361505980416) rfl rfl (fr_refl _)
  ⟨(h.1 .hbm rfl).symm, (h.1 .pending rfl).symm⟩

@[simp] theorem cmdLogNorFlush_mem (s : State) :
    (cmdLogNorFlush s).hbm = s.hbm ∧ (cmdLogNorFlush s).pending = s.pending :=
  have h := cmdLogNorFlush_fr (c := 4362076160) (r := 535217884764734955396857238543560676144578560) rfl rfl (fr_refl _)
  ⟨(h.1 .hbm rfl).symm, (h.1 .pending rfl).symm⟩

@[simp] theorem cmdStateJournalSave_mem (s : State) :
    (cmdStateJournalSave s).hbm = s.hbm ∧ (cmdStateJournalSave s).pending = s.pending :=
  have h := cmdStateJournalSave_fr (c := 68786585600) (r := 22300745198530623141535718272648361505980416) rfl rfl (fr_refl _)
  ⟨(h.1 .hbm rfl).symm, (h.1 .pending rfl).symm⟩

@[simp] theorem cmdHoldupParked_mem (s : State) :
    (cmdHoldupParked s).hbm = s.hbm ∧ (cmdHoldupParked s).pending = s.pending :=
  have h := cmdHoldupParked_fr (c := 73081552904) (r := 557518629963265737033408333939035227974270976) rfl rfl (fr_refl _)
  ⟨(h.1 .hbm rfl).symm, (h.1 .pending rfl).symm⟩

@[simp] theorem updateClose_mem (s : State) (img : Bytes) :
    (updateClose s img).2.hbm = s.hbm ∧ (updateClose s img).2.pending = s.pending :=
  have h := updateClose_fr (c := 134217728) (r := 316912650057057350374175801344) rfl rfl (fr_refl _)
  ⟨(h.1 .hbm rfl).symm, (h.1 .pending rfl).symm⟩

@[simp] theorem updateFail_mem (s : State) (code : Nat) :
    (updateFail s code).hbm = s.hbm ∧ (updateFail s code).pending = s.pending :=
  have h := updateFail_fr (c := 22615687168) (r := 113078212145816597093331040047546789776912106629897792492650735700051755008) rfl rfl (fr_refl _)
  ⟨(h.1 .hbm rfl).symm, (h.1 .pending rfl).symm⟩

@[simp] theorem cmdUpdateVerifyDone_mem (s : State) :
    (cmdUpdateVerifyDone s).hbm = s.hbm ∧ (cmdUpdateVerifyDone s).pending = s.pending :=
  have h := cmdUpdateVerifyDone_fr (c := 22615687168) (r := 113078212145816597093331040047546789776912106629897792492650735700051755008) rfl rfl (fr_refl _)
  ⟨(h.1 .hbm rfl).symm, (h.1 .pending rfl).symm⟩

@[simp] theorem cmdUpdateWriteBegin_mem (s : State) :
    (cmdUpdateWriteBegin s).hbm = s.hbm ∧ (cmdUpdateWriteBegin s).pending = s.pending :=
  have h := cmdUpdateWriteBegin_fr (c := 67108864) (r := 4763953137210051138544301854418930761728) rfl rfl (fr_refl _)
  ⟨(h.1 .hbm rfl).symm, (h.1 .pending rfl).symm⟩

@[simp] theorem updateWritten_mem (s : State) :
    (updateWritten s).hbm = s.hbm ∧ (updateWritten s).pending = s.pending :=
  have h := updateWritten_fr (c := 22615687168) (r := 113078212145816597093331040047557940149511371941468560351787059880804745216) rfl rfl (fr_refl _)
  ⟨(h.1 .hbm rfl).symm, (h.1 .pending rfl).symm⟩

@[simp] theorem updateApplyWrite_mem (s : State) :
    (updateApplyWrite s).2.hbm = s.hbm ∧ (updateApplyWrite s).2.pending = s.pending :=
  have h := updateApplyWrite_fr (c := 102484689072) (r := 632626352617984892346950221824) rfl rfl (fr_refl _)
  ⟨(h.1 .hbm rfl).symm, (h.1 .pending rfl).symm⟩

@[simp] theorem State.modCrc_mem (s : State) (u : Nat) (f : CrcUnit → CrcUnit) :
    (State.modCrc s u f).hbm = s.hbm ∧ (State.modCrc s u f).pending = s.pending :=
  have h := State.modCrc_fr (c := 134217728) (r := 0) rfl rfl (fr_refl _)
  ⟨(h.1 .hbm rfl).symm, (h.1 .pending rfl).symm⟩

@[simp] theorem cmdCrcInit_mem (s : State) (u : Nat) :
    (cmdCrcInit s u).hbm = s.hbm ∧ (cmdCrcInit s u).pending = s.pending :=
  have h := cmdCrcInit_fr (c := 134217728) (r := 0) rfl rfl (fr_refl _)
  ⟨(h.1 .hbm rfl).symm, (h.1 .pending rfl).symm⟩

@[simp] theorem cmdCrcData_mem (s : State) (u : Nat) (data : Bytes) :
    (cmdCrcData s u data).hbm = s.hbm ∧ (cmdCrcData s u data).pending = s.pending :=
  have h := cmdCrcData_fr (c := 134217728) (r := 0) rfl rfl (fr_refl _)
  ⟨(h.1 .hbm rfl).symm, (h.1 .pending rfl).symm⟩

@[simp] theorem cmdCrcSeed_mem (s : State) (u v : Nat) :
    (cmdCrcSeed s u v).hbm = s.hbm ∧ (cmdCrcSeed s u v).pending = s.pending :=
  have h := cmdCrcSeed_fr (c := 134217728) (r := 0) rfl rfl (fr_refl _)
  ⟨(h.1 .hbm rfl).symm, (h.1 .pending rfl).symm⟩

@[simp] theorem cmdCrcAlive_mem (s : State) (u : Nat) :
    (cmdCrcAlive s u).hbm = s.hbm ∧ (cmdCrcAlive s u).pending = s.pending :=
  have h := cmdCrcAlive_fr (c := 2281701376) (r := 549755813888) rfl rfl (fr_refl _)
  ⟨(h.1 .hbm rfl).symm, (h.1 .pending rfl).symm⟩

@[simp] theorem State.plnNote_mem (s : State) (code : Nat) (param : List Nat) :
    (State.plnNote s code param).hbm = s.hbm ∧ (State.plnNote s code param).pending = s.pending :=
  have h := State.plnNote_fr (c := 22548578304) (r := 633825300114114700748358942720) rfl rfl (fr_refl _)
  ⟨(h.1 .hbm rfl).symm, (h.1 .pending rfl).symm⟩

@[simp] theorem State.unstage_mem (s : State) :
    (State.unstage s).hbm = s.hbm ∧ (State.unstage s).pending = s.pending :=
  have h := State.unstage_fr (c := 268435456) (r := 3802951800684688204490109616128) rfl rfl (fr_refl _)
  ⟨(h.1 .hbm rfl).symm, (h.1 .pending rfl).symm⟩

@[simp] theorem State.applyLimits_mem (s : State) (v : Bytes) :
    (State.applyLimits s v).hbm = s.hbm ∧ (State.applyLimits s v).pending = s.pending :=
  have h := State.applyLimits_fr (c := 268435456) (r := 1458647141945490998441568260777384029383167049728) rfl rfl (fr_refl _)
  ⟨(h.1 .hbm rfl).symm, (h.1 .pending rfl).symm⟩

@[simp] theorem State.applyCommit_mem (s : State) :
    (State.applyCommit s).hbm = s.hbm ∧ (State.applyCommit s).pending = s.pending :=
  have h := State.applyCommit_fr (c := 22817013760) (r := 1458647141945491002878345361576186934621635608576) rfl rfl (fr_refl _)
  ⟨(h.1 .hbm rfl).symm, (h.1 .pending rfl).symm⟩

@[simp] theorem State.confirmed_mem (s : State) (consent : Bool) (sig : Bytes) :
    (State.confirmed s consent sig).hbm = s.hbm ∧ (State.confirmed s consent sig).pending = s.pending :=
  have h := State.confirmed_fr (c := 22817013760) (r := 1458647141945491002878345361576186934621635608576) rfl rfl (fr_refl _)
  ⟨(h.1 .hbm rfl).symm, (h.1 .pending rfl).symm⟩

@[simp] theorem plinthStageWrite_mem (s : State) (v : Bytes) :
    (plinthStageWrite s v).2.hbm = s.hbm ∧ (plinthStageWrite s v).2.pending = s.pending :=
  have h := plinthStageWrite_fr (c := 22817013760) (r := 633825300114114700748358942720) rfl rfl (fr_refl _)
  ⟨(h.1 .hbm rfl).symm, (h.1 .pending rfl).symm⟩

@[simp] theorem cmdStageVerified_mem (s : State) :
    (cmdStageVerified s).hbm = s.hbm ∧ (cmdStageVerified s).pending = s.pending :=
  have h := cmdStageVerified_fr (c := 22817013760) (r := 4436777100798802905238468558848) rfl rfl (fr_refl _)
  ⟨(h.1 .hbm rfl).symm, (h.1 .pending rfl).symm⟩

@[simp] theorem plinthConfirmWrite_mem (s : State) (v : Bytes) :
    (plinthConfirmWrite s v).2.hbm = s.hbm ∧ (plinthConfirmWrite s v).2.pending = s.pending :=
  have h := plinthConfirmWrite_fr (c := 22817013760) (r := 633825300114114700748358942720) rfl rfl (fr_refl _)
  ⟨(h.1 .hbm rfl).symm, (h.1 .pending rfl).symm⟩

@[simp] theorem cmdConfirmVerified_mem (s : State) :
    (cmdConfirmVerified s).hbm = s.hbm ∧ (cmdConfirmVerified s).pending = s.pending :=
  have h := cmdConfirmVerified_fr (c := 22817013760) (r := 1458647141945491002878345361576186934621635608576) rfl rfl (fr_refl _)
  ⟨(h.1 .hbm rfl).symm, (h.1 .pending rfl).symm⟩

@[simp] theorem cmdConsentFall_mem (s : State) :
    (cmdConsentFall s).hbm = s.hbm ∧ (cmdConsentFall s).pending = s.pending :=
  have h := cmdConsentFall_fr (c := 268435456) (r := 2923003274661805836407369665432566039311865085952) rfl rfl (fr_refl _)
  ⟨(h.1 .hbm rfl).symm, (h.1 .pending rfl).symm⟩

@[simp] theorem cmdConsentConfirmed_mem (s : State) :
    (cmdConsentConfirmed s).hbm = s.hbm ∧ (cmdConsentConfirmed s).pending = s.pending :=
  have h := cmdConsentConfirmed_fr (c := 22817013768) (r := 1458647141945491002878345361576186934621635608576) rfl rfl (fr_refl _)
  ⟨(h.1 .hbm rfl).symm, (h.1 .pending rfl).symm⟩

@[simp] theorem cmdConsentStuck_mem (s : State) :
    (cmdConsentStuck s).hbm = s.hbm ∧ (cmdConsentStuck s).pending = s.pending :=
  have h := cmdConsentStuck_fr (c := 22817013768) (r := 7340032) rfl rfl (fr_refl _)
  ⟨(h.1 .hbm rfl).symm, (h.1 .pending rfl).symm⟩

@[simp] theorem cmdConsentRise_mem (s : State) :
    (cmdConsentRise s).hbm = s.hbm ∧ (cmdConsentRise s).pending = s.pending :=
  have h := cmdConsentRise_fr (c := 268435456) (r := 2923003274661805836407369665432566039311865085952) rfl rfl (fr_refl _)
  ⟨(h.1 .hbm rfl).symm, (h.1 .pending rfl).symm⟩

@[simp] theorem cmdCommitExpired_mem (s : State) :
    (cmdCommitExpired s).hbm = s.hbm ∧ (cmdCommitExpired s).pending = s.pending :=
  have h := cmdCommitExpired_fr (c := 22817013768) (r := 4436777100798802905238468558848) rfl rfl (fr_refl _)
  ⟨(h.1 .hbm rfl).symm, (h.1 .pending rfl).symm⟩

@[simp] theorem plinthCancelWrite_mem (s : State) :
    (plinthCancelWrite s).2.hbm = s.hbm ∧ (plinthCancelWrite s).2.pending = s.pending :=
  have h := plinthCancelWrite_fr (c := 22817013760) (r := 4436777100798802905238468558848) rfl rfl (fr_refl _)
  ⟨(h.1 .hbm rfl).symm, (h.1 .pending rfl).symm⟩

@[simp] theorem cmdLimitRecordWrite_mem (s : State) :
    (cmdLimitRecordWrite s).hbm = s.hbm ∧ (cmdLimitRecordWrite s).pending = s.pending :=
  have h := cmdLimitRecordWrite_fr (c := 335544320) (r := 0) rfl rfl (fr_refl _)
  ⟨(h.1 .hbm rfl).symm, (h.1 .pending rfl).symm⟩

@[simp] theorem verifyLimits_mem (s : State) :
    (verifyLimits s).hbm = s.hbm ∧ (verifyLimits s).pending = s.pending :=
  have h := verifyLimits_fr (c := 22817013760) (r := 1458647141945490998441568260777384029383174389760) rfl rfl (fr_refl _)
  ⟨(h.1 .hbm rfl).symm, (h.1 .pending rfl).symm⟩

@[simp] theorem watchdogExpires_mem (s : State) (bad : Bool) :
    (watchdogExpires s bad).hbm = s.hbm ∧ (watchdogExpires s bad).pending = s.pending :=
  have h := watchdogExpires_fr (c := 102484689072) (r := 632626352617984892346950221824) rfl rfl (fr_refl _)
  ⟨(h.1 .hbm rfl).symm, (h.1 .pending rfl).symm⟩

@[simp] theorem cmdWatchdogExpiry_mem (s : State) :
    (cmdWatchdogExpiry s).hbm = s.hbm ∧ (cmdWatchdogExpiry s).pending = s.pending :=
  have h := cmdWatchdogExpiry_fr (c := 102484689080) (r := 632626352617984892346950221824) rfl rfl (fr_refl _)
  ⟨(h.1 .hbm rfl).symm, (h.1 .pending rfl).symm⟩

@[simp] theorem cmdPlnWdKick_mem (s : State) (v : Nat) :
    (cmdPlnWdKick s v).hbm = s.hbm ∧ (cmdPlnWdKick s v).pending = s.pending :=
  have h := cmdPlnWdKick_fr (c := 102484689072) (r := 632626352617984892346950221824) rfl rfl (fr_refl _)
  ⟨(h.1 .hbm rfl).symm, (h.1 .pending rfl).symm⟩

@[simp] theorem State.clpNote_mem (s : State) (code : Nat) (param : List Nat) :
    (State.clpNote s code param).hbm = s.hbm ∧ (State.clpNote s code param).pending = s.pending :=
  have h := State.clpNote_fr (c := 22548578304) (r := 151115727451828654178304) rfl rfl (fr_refl _)
  ⟨(h.1 .hbm rfl).symm, (h.1 .pending rfl).symm⟩

@[simp] theorem State.setClip_mem (s : State) (c : Clip) :
    (State.setClip s c).hbm = s.hbm ∧ (State.setClip s c).pending = s.pending :=
  have h := State.setClip_fr (c := 536870912) (r := 0) rfl rfl (fr_refl _)
  ⟨(h.1 .hbm rfl).symm, (h.1 .pending rfl).symm⟩

@[simp] theorem State.showVolume_mem (s : State) :
    (State.showVolume s).hbm = s.hbm ∧ (State.showVolume s).pending = s.pending :=
  have h := State.showVolume_fr (c := 0) (r := 37218383881977644441306597687849648128) rfl rfl (fr_refl _)
  ⟨(h.1 .hbm rfl).symm, (h.1 .pending rfl).symm⟩

@[simp] theorem State.commitTable_mem (s : State) :
    (State.commitTable s).hbm = s.hbm ∧ (State.commitTable s).pending = s.pending :=
  have h := State.commitTable_fr (c := 536870912) (r := 37218383881977644441306597687849648128) rfl rfl (fr_refl _)
  ⟨(h.1 .hbm rfl).symm, (h.1 .pending rfl).symm⟩

@[simp] theorem beginPlay_mem (s : State) (id passes arg : Nat) (fallback : Bool) :
    (beginPlay s id passes arg fallback).hbm = s.hbm ∧ (beginPlay s id passes arg fallback).pending = s.pending :=
  have h := beginPlay_fr (c := 536871424) (r := 661131307601750329917440) rfl rfl (fr_refl _)
  ⟨(h.1 .hbm rfl).symm, (h.1 .pending rfl).symm⟩

@[simp] theorem startFallback_mem (s : State) :
    (startFallback s).hbm = s.hbm ∧ (startFallback s).pending = s.pending :=
  have h := startFallback_fr (c := 31676449280) (r := 1194721826677872827301888) rfl rfl (fr_refl _)
  ⟨(h.1 .hbm rfl).symm, (h.1 .pending rfl).symm⟩

@[simp] theorem endPlay_mem (s : State) :
    (endPlay s).hbm = s.hbm ∧ (endPlay s).pending = s.pending :=
  have h := endPlay_fr (c := 31676449280) (r := 1194721826677872827301888) rfl rfl (fr_refl _)
  ⟨(h.1 .hbm rfl).symm, (h.1 .pending rfl).symm⟩

@[simp] theorem endFallback_mem (s : State) :
    (endFallback s).hbm = s.hbm ∧ (endFallback s).pending = s.pending :=
  have h := endFallback_fr (c := 23085449728) (r := 283341988972178720161792) rfl rfl (fr_refl _)
  ⟨(h.1 .hbm rfl).symm, (h.1 .pending rfl).symm⟩

@[simp] theorem stopPlay_mem (s : State) :
    (stopPlay s).hbm = s.hbm ∧ (stopPlay s).pending = s.pending :=
  have h := stopPlay_fr (c := 31676449280) (r := 1194721826677872827301888) rfl rfl (fr_refl _)
  ⟨(h.1 .hbm rfl).symm, (h.1 .pending rfl).symm⟩

@[simp] theorem clpTfChange_mem (s : State) :
    (clpTfChange s).hbm = s.hbm ∧ (clpTfChange s).pending = s.pending :=
  have h := clpTfChange_fr (c := 31676449280) (r := 1194721826677872827301888) rfl rfl (fr_refl _)
  ⟨(h.1 .hbm rfl).symm, (h.1 .pending rfl).symm⟩

@[simp] theorem fallbackReleaseWrite_mem (s : State) :
    (fallbackReleaseWrite s).2.hbm = s.hbm ∧ (fallbackReleaseWrite s).2.pending = s.pending :=
  have h := fallbackReleaseWrite_fr (c := 23085449728) (r := 283341988972178720161792) rfl rfl (fr_refl _)
  ⟨(h.1 .hbm rfl).symm, (h.1 .pending rfl).symm⟩

@[simp] theorem cmdClpReadIssue_mem (s : State) :
    (cmdClpReadIssue s).hbm = s.hbm ∧ (cmdClpReadIssue s).pending = s.pending :=
  have h := cmdClpReadIssue_fr (c := 17716740096) (r := 0) rfl rfl (fr_refl _)
  ⟨(h.1 .hbm rfl).symm, (h.1 .pending rfl).symm⟩

@[simp] theorem cmdClpReadDone_mem (s : State) :
    (cmdClpReadDone s).hbm = s.hbm ∧ (cmdClpReadDone s).pending = s.pending :=
  have h := cmdClpReadDone_fr (c := 31693230592) (r := 1194721826677872827301888) rfl rfl (fr_refl _)
  ⟨(h.1 .hbm rfl).symm, (h.1 .pending rfl).symm⟩

@[simp] theorem driveFault_mem (s : State) (d code : Nat) :
    (driveFault s d code).hbm = s.hbm ∧ (driveFault s d code).pending = s.pending :=
  have h := driveFault_fr (c := 31139577856) (r := 458032655350208173965312) rfl rfl (fr_refl _)
  ⟨(h.1 .hbm rfl).symm, (h.1 .pending rfl).symm⟩

@[simp] theorem loseClips_mem (s : State) (d : Nat) :
    (loseClips s d).hbm = s.hbm ∧ (loseClips s d).pending = s.pending :=
  have h := loseClips_fr (c := 31676448768) (r := 37218383881978102473961947896023613440) rfl rfl (fr_refl _)
  ⟨(h.1 .hbm rfl).symm, (h.1 .pending rfl).symm⟩

@[simp] theorem cmdClpReadFail_mem (s : State) :
    (cmdClpReadFail s).hbm = s.hbm ∧ (cmdClpReadFail s).pending = s.pending :=
  have h := cmdClpReadFail_fr (c := 31676449280) (r := 547641934263386534358195186708329267200) rfl rfl (fr_refl _)
  ⟨(h.1 .hbm rfl).symm, (h.1 .pending rfl).symm⟩

@[simp] theorem cmdClpHealthPoll_mem (s : State) (d : Nat) (warn : Bool) :
    (cmdClpHealthPoll s d warn).hbm = s.hbm ∧ (cmdClpHealthPoll s d warn).pending = s.pending :=
  have h := cmdClpHealthPoll_fr (c := 31139577856) (r := 458032655350208173965312) rfl rfl (fr_refl _)
  ⟨(h.1 .hbm rfl).symm, (h.1 .pending rfl).symm⟩

@[simp] theorem clpFormat_mem (s : State) (v : Bytes) :
    (clpFormat s v).2.hbm = s.hbm ∧ (clpFormat s v).2.pending = s.pending :=
  have h := clpFormat_fr (c := 536870912) (r := 79753679747094952374228423616820674560) rfl rfl (fr_refl _)
  ⟨(h.1 .hbm rfl).symm, (h.1 .pending rfl).symm⟩

@[simp] theorem clpCreate_mem (s : State) (v : Bytes) :
    (clpCreate s v).2.hbm = s.hbm ∧ (clpCreate s v).2.pending = s.pending :=
  have h := clpCreate_fr (c := 536870912) (r := 122288975612212260307150249545791700992) rfl rfl (fr_refl _)
  ⟨(h.1 .hbm rfl).symm, (h.1 .pending rfl).symm⟩

@[simp] theorem clpWrite_mem (s : State) (v : Bytes) :
    (clpWrite s v).2.hbm = s.hbm ∧ (clpWrite s v).2.pending = s.pending :=
  have h := clpWrite_fr (c := 17716740096) (r := 0) rfl rfl (fr_refl _)
  ⟨(h.1 .hbm rfl).symm, (h.1 .pending rfl).symm⟩

@[simp] theorem clpClose_mem (s : State) (v : Bytes) :
    (clpClose s v).2.hbm = s.hbm ∧ (clpClose s v).2.pending = s.pending :=
  have h := clpClose_fr (c := 536870912) (r := 37218383881977644441306597687849648128) rfl rfl (fr_refl _)
  ⟨(h.1 .hbm rfl).symm, (h.1 .pending rfl).symm⟩

@[simp] theorem clpDelete_mem (s : State) (v : Bytes) :
    (clpDelete s v).2.hbm = s.hbm ∧ (clpDelete s v).2.pending = s.pending :=
  have h := clpDelete_fr (c := 536870912) (r := 37218383881977644441306597687849648128) rfl rfl (fr_refl _)
  ⟨(h.1 .hbm rfl).symm, (h.1 .pending rfl).symm⟩

@[simp] theorem clpPlay_mem (s : State) (v : Bytes) :
    (clpPlay s v).2.hbm = s.hbm ∧ (clpPlay s v).2.pending = s.pending :=
  have h := clpPlay_fr (c := 536871424) (r := 661131307601750329917440) rfl rfl (fr_refl _)
  ⟨(h.1 .hbm rfl).symm, (h.1 .pending rfl).symm⟩

@[simp] theorem clpStopCmd_mem (s : State) :
    (clpStopCmd s).2.hbm = s.hbm ∧ (clpStopCmd s).2.pending = s.pending :=
  have h := clpStopCmd_fr (c := 31676449280) (r := 1194721826677872827301888) rfl rfl (fr_refl _)
  ⟨(h.1 .hbm rfl).symm, (h.1 .pending rfl).symm⟩

@[simp] theorem clpCommandWrite_mem (s : State) (v : Bytes) :
    (clpCommandWrite s v).2.hbm = s.hbm ∧ (clpCommandWrite s v).2.pending = s.pending :=
  have h := clpCommandWrite_fr (c := 31676449280) (r := 929649751290713079001645056) rfl rfl (fr_refl _)
  ⟨(h.1 .hbm rfl).symm, (h.1 .pending rfl).symm⟩

@[simp] theorem finishCommand_mem (s : State) :
    (finishCommand s).hbm = s.hbm ∧ (finishCommand s).pending = s.pending :=
  have h := finishCommand_fr (c := 23085449216) (r := 164824271478258174385263562509591248896) rfl rfl (fr_refl _)
  ⟨(h.1 .hbm rfl).symm, (h.1 .pending rfl).symm⟩

@[simp] theorem cmdClpCommandDone_mem (s : State) :
    (cmdClpCommandDone s).hbm = s.hbm ∧ (cmdClpCommandDone s).pending = s.pending :=
  have h := cmdClpCommandDone_fr (c := 23085449216) (r := 164824271478258174385263562509591248896) rfl rfl (fr_refl _)
  ⟨(h.1 .hbm rfl).symm, (h.1 .pending rfl).symm⟩

@[simp] theorem probeDrive_mem (s : State) (d : Nat) (p : DriveProbe) (st : Nat) :
    (probeDrive s d p st).hbm = s.hbm ∧ (probeDrive s d p st).pending = s.pending :=
  have h := probeDrive_fr (c := 31676448768) (r := 340282366920938921496029957639942176768) rfl rfl (fr_refl _)
  ⟨(h.1 .hbm rfl).symm, (h.1 .pending rfl).symm⟩

@[simp] theorem useTable_mem (s : State) (best : Nat × List Clip) :
    (useTable s best).hbm = s.hbm ∧ (useTable s best).pending = s.pending :=
  have h := useTable_fr (c := 536870912) (r := 0) rfl rfl (fr_refl _)
  ⟨(h.1 .hbm rfl).symm, (h.1 .pending rfl).symm⟩

@[simp] theorem loseAbsent_mem (s : State) :
    (loseAbsent s).hbm = s.hbm ∧ (loseAbsent s).pending = s.pending :=
  have h := loseAbsent_fr (c := 31676448768) (r := 37218383881978102473961947896023613440) rfl rfl (fr_refl _)
  ⟨(h.1 .hbm rfl).symm, (h.1 .pending rfl).symm⟩

@[simp] theorem cmdClpStartDone_mem (s : State) (p0 p1 : DriveProbe) :
    (cmdClpStartDone s p0 p1).hbm = s.hbm ∧ (cmdClpStartDone s p0 p1).pending = s.pending :=
  have h := cmdClpStartDone_fr (c := 31676449280) (r := 420036046668343358880223841513563488256) rfl rfl (fr_refl _)
  ⟨(h.1 .hbm rfl).symm, (h.1 .pending rfl).symm⟩

@[simp] theorem clpStopping_mem (s : State) :
    (clpStopping s).hbm = s.hbm ∧ (clpStopping s).pending = s.pending :=
  have h := clpStopping_fr (c := 31676449280) (r := 1194721826677872827301888) rfl rfl (fr_refl _)
  ⟨(h.1 .hbm rfl).symm, (h.1 .pending rfl).symm⟩

@[simp] theorem State.ringBusy_mem (s : State) :
    (State.ringBusy s).hbm = s.hbm ∧ (State.ringBusy s).pending = s.pending :=
  have h := State.ringBusy_fr (c := 18253611008) (r := 4) rfl rfl (fr_refl _)
  ⟨(h.1 .hbm rfl).symm, (h.1 .pending rfl).symm⟩

@[simp] theorem State.activity_mem (s : State) :
    (State.activity s).hbm = s.hbm ∧ (State.activity s).pending = s.pending :=
  have h := State.activity_fr (c := 31139577856) (r := 83076749736561927529482663500972036) rfl rfl (fr_refl _)
  ⟨(h.1 .hbm rfl).symm, (h.1 .pending rfl).symm⟩

@[simp] theorem State.declareSilence_mem (s : State) :
    (State.declareSilence s).hbm = s.hbm ∧ (State.declareSilence s).pending = s.pending :=
  have h := State.declareSilence_fr (c := 31676449280) (r := 249230249210866447996141696629866500) rfl rfl (fr_refl _)
  ⟨(h.1 .hbm rfl).symm, (h.1 .pending rfl).symm⟩

@[simp] theorem State.watchHost_mem (s : State) :
    (State.watchHost s).hbm = s.hbm ∧ (State.watchHost s).pending = s.pending :=
  have h := State.watchHost_fr (c := 31676449280) (r := 249230249210866447996141696629866500) rfl rfl (fr_refl _)
  ⟨(h.1 .hbm rfl).symm, (h.1 .pending rfl).symm⟩

@[simp] theorem cmdPcieLinkLoss_mem (s : State) (k : LinkLoss) :
    (cmdPcieLinkLoss s k).hbm = s.hbm ∧ (cmdPcieLinkLoss s k).pending = s.pending :=
  have h := cmdPcieLinkLoss_fr (c := 31676449280) (r := 311537811513284379538507652580507652) rfl rfl (fr_refl _)
  ⟨(h.1 .hbm rfl).symm, (h.1 .pending rfl).symm⟩

@[simp] theorem cmdPcieReset_mem (s : State) (k : PcieReset) :
    (cmdPcieReset s k).hbm = s.hbm ∧ (cmdPcieReset s k).pending = s.pending :=
  have h := cmdPcieReset_fr (c := 31676449280) (r := 311537811513284379538507652580507652) rfl rfl (fr_refl _)
  ⟨(h.1 .hbm rfl).symm, (h.1 .pending rfl).symm⟩

@[simp] theorem cmdPcieLinkUp_mem (s : State) :
    (cmdPcieLinkUp s).hbm = s.hbm ∧ (cmdPcieLinkUp s).pending = s.pending :=
  have h := cmdPcieLinkUp_fr (c := 69793218560) (r := 62307562302417931542365955950641152) rfl rfl (fr_refl _)
  ⟨(h.1 .hbm rfl).symm, (h.1 .pending rfl).symm⟩

@[simp] theorem cmdHifSegEn_mem (s : State) (on : Bool) :
    (cmdHifSegEn s on).hbm = s.hbm ∧ (cmdHifSegEn s on).pending = s.pending :=
  have h := cmdHifSegEn_fr (c := 1073742336) (r := 0) rfl rfl (fr_refl _)
  ⟨(h.1 .hbm rfl).symm, (h.1 .pending rfl).symm⟩

@[simp] theorem cmdHifFdrEn_mem (s : State) (on : Bool) :
    (cmdHifFdrEn s on).hbm = s.hbm ∧ (cmdHifFdrEn s on).pending = s.pending :=
  have h := cmdHifFdrEn_fr (c := 1073741824) (r := 0) rfl rfl (fr_refl _)
  ⟨(h.1 .hbm rfl).symm, (h.1 .pending rfl).symm⟩

@[simp] theorem cmdHifCplEn_mem (s : State) (on : Bool) :
    (cmdHifCplEn s on).hbm = s.hbm ∧ (cmdHifCplEn s on).pending = s.pending :=
  have h := cmdHifCplEn_fr (c := 1073741824) (r := 0) rfl rfl (fr_refl _)
  ⟨(h.1 .hbm rfl).symm, (h.1 .pending rfl).symm⟩

@[simp] theorem indexWrite_mem (s : State) (size v : Nat) (set : Hif → Nat → Hif) :
    (indexWrite s size v set).hbm = s.hbm ∧ (indexWrite s size v set).pending = s.pending :=
  have h := indexWrite_fr (c := 31139577856) (r := 83076749736561927529482663500972036) rfl rfl (fr_refl _)
  ⟨(h.1 .hbm rfl).symm, (h.1 .pending rfl).symm⟩

@[simp] theorem cmdSegDoorbell_mem (s : State) (v : Nat) :
    (cmdSegDoorbell s v).hbm = s.hbm ∧ (cmdSegDoorbell s v).pending = s.pending :=
  have h := cmdSegDoorbell_fr (c := 31139577856) (r := 83076749736561927529482663500972036) rfl rfl (fr_refl _)
  ⟨(h.1 .hbm rfl).symm, (h.1 .pending rfl).symm⟩

@[simp] theorem cmdFdrTail_mem (s : State) (v : Nat) :
    (cmdFdrTail s v).hbm = s.hbm ∧ (cmdFdrTail s v).pending = s.pending :=
  have h := cmdFdrTail_fr (c := 31139577856) (r := 83076749736561927529482663500972036) rfl rfl (fr_refl _)
  ⟨(h.1 .hbm rfl).symm, (h.1 .pending rfl).symm⟩

@[simp] theorem cmdCplHead_mem (s : State) (v : Nat) :
    (cmdCplHead s v).hbm = s.hbm ∧ (cmdCplHead s v).pending = s.pending :=
  have h := cmdCplHead_fr (c := 31139577856) (r := 83076749736561927529482663500972036) rfl rfl (fr_refl _)
  ⟨(h.1 .hbm rfl).symm, (h.1 .pending rfl).symm⟩

@[simp] theorem segComplete_mem (s : State) (d : Bytes) (status : Nat) :
    (segComplete s d status).hbm = s.hbm ∧ (segComplete s d status).pending = s.pending :=
  have h := segComplete_fr (c := 86973087744) (r := 4) rfl rfl (fr_refl _)
  ⟨(h.1 .hbm rfl).symm, (h.1 .pending rfl).symm⟩

@[simp] theorem cmdSegmentDescriptorCopy_mem (s : State) (d : Bytes) (dma : Dma) :
    (cmdSegmentDescriptorCopy s d dma).hbm = s.hbm ∧ (cmdSegmentDescriptorCopy s d dma).pending = s.pending :=
  have h := cmdSegmentDescriptorCopy_fr (c := 86989869568) (r := 754878506680217914250676422436549658861840043831136029470901086978052) rfl rfl (fr_refl _)
  ⟨(h.1 .hbm rfl).symm, (h.1 .pending rfl).symm⟩

@[simp] theorem writeEntry_mem (s : State) (c : Completion) :
    (writeEntry s c).hbm = s.hbm ∧ (writeEntry s c).pending = s.pending :=
  have h := writeEntry_fr (c := 18253611008) (r := 0) rfl rfl (fr_refl _)
  ⟨(h.1 .hbm rfl).symm, (h.1 .pending rfl).symm⟩

@[simp] theorem cmdCompletionEntryWrite_mem (s : State) :
    (cmdCompletionEntryWrite s).hbm = s.hbm ∧ (cmdCompletionEntryWrite s).pending = s.pending :=
  have h := cmdCompletionEntryWrite_fr (c := 18253611008) (r := 0) rfl rfl (fr_refl _)
  ⟨(h.1 .hbm rfl).symm, (h.1 .pending rfl).symm⟩

@[simp] theorem cmdCplCoalesceTimer_mem (s : State) :
    (cmdCplCoalesceTimer s).hbm = s.hbm ∧ (cmdCplCoalesceTimer s).pending = s.pending :=
  have h := cmdCplCoalesceTimer_fr (c := 18253611016) (r := 0) rfl rfl (fr_refl _)
  ⟨(h.1 .hbm rfl).symm, (h.1 .pending rfl).symm⟩

@[simp] theorem cmdIrqStatusClear_mem (s : State) (v : Nat) :
    (cmdIrqStatusClear s v).hbm = s.hbm ∧ (cmdIrqStatusClear s v).pending = s.pending :=
  have h := cmdIrqStatusClear_fr (c := 1073741824) (r := 0) rfl rfl (fr_refl _)
  ⟨(h.1 .hbm rfl).symm, (h.1 .pending rfl).symm⟩

@[simp] theorem cmdIrqMaskWrite_mem (s : State) (v : Nat) :
    (cmdIrqMaskWrite s v).hbm = s.hbm ∧ (cmdIrqMaskWrite s v).pending = s.pending :=
  have h := cmdIrqMaskWrite_fr (c := 18253611008) (r := 0) rfl rfl (fr_refl _)
  ⟨(h.1 .hbm rfl).symm, (h.1 .pending rfl).symm⟩

@[simp] theorem msixWrite_mem (s : State) (off v : Nat) :
    (msixWrite s off v).hbm = s.hbm ∧ (msixWrite s off v).pending = s.pending :=
  have h := msixWrite_fr (c := 18253611008) (r := 0) rfl rfl (fr_refl _)
  ⟨(h.1 .hbm rfl).symm, (h.1 .pending rfl).symm⟩

@[simp] theorem cmdReg64LowRead_mem (s : State) (off : Nat) :
    (cmdReg64LowRead s off).hbm = s.hbm ∧ (cmdReg64LowRead s off).pending = s.pending :=
  have h := cmdReg64LowRead_fr (c := 17180917760) (r := 0) rfl rfl (fr_refl _)
  ⟨(h.1 .hbm rfl).symm, (h.1 .pending rfl).symm⟩

@[simp] theorem cmdTimeNowRead_mem (s : State) :
    (cmdTimeNowRead s).hbm = s.hbm ∧ (cmdTimeNowRead s).pending = s.pending :=
  have h := cmdTimeNowRead_fr (c := 18253611008) (r := 0) rfl rfl (fr_refl _)
  ⟨(h.1 .hbm rfl).symm, (h.1 .pending rfl).symm⟩

@[simp] theorem hostCommit_mem (s : State) (p : Pair) :
    (hostCommit s p).2.hbm = s.hbm ∧ (hostCommit s p).2.pending = s.pending :=
  have h := hostCommit_fr (c := 1048576) (r := 11972621413014756705924586149611790497021399392124928) rfl rfl (fr_refl _)
  ⟨(h.1 .hbm rfl).symm, (h.1 .pending rfl).symm⟩

@[simp] theorem directEntry_mem (s : State) (d : FdHeld) (code : Nat) :
    (directEntry s d code).hbm = s.hbm ∧ (directEntry s d code).pending = s.pending :=
  have h := directEntry_fr (c := 18253611008) (r := 6) rfl rfl (fr_refl _)
  ⟨(h.1 .hbm rfl).symm, (h.1 .pending rfl).symm⟩

@[simp] theorem cmdFrameCommit_mem (s : State) (v : Nat) :
    (cmdFrameCommit s v).hbm = s.hbm ∧ (cmdFrameCommit s v).pending = s.pending :=
  have h := cmdFrameCommit_fr (c := 31139577856) (r := 11972621413014756789001335886173718026504062893096966) rfl rfl (fr_refl _)
  ⟨(h.1 .hbm rfl).symm, (h.1 .pending rfl).symm⟩

@[simp] theorem cmdDirectReq_mem (s : State) (on : Bool) :
    (cmdDirectReq s on).hbm = s.hbm ∧ (cmdDirectReq s on).pending = s.pending :=
  have h := cmdDirectReq_fr (c := 18253611008) (r := 23945242826029513411849172299223580994042798784118784) rfl rfl (fr_refl _)
  ⟨(h.1 .hbm rfl).symm, (h.1 .pending rfl).symm⟩

@[simp] theorem fdrAdvance_mem (s : State) :
    (fdrAdvance s).hbm = s.hbm ∧ (fdrAdvance s).pending = s.pending :=
  have h := fdrAdvance_fr (c := 1073741824) (r := 0) rfl rfl (fr_refl _)
  ⟨(h.1 .hbm rfl).symm, (h.1 .pending rfl).symm⟩

@[simp] theorem cmdFrameDescriptorTake_mem (s : State) (desc : Bytes) :
    (cmdFrameDescriptorTake s desc).hbm = s.hbm ∧ (cmdFrameDescriptorTake s desc).pending = s.pending :=
  have h := cmdFrameDescriptorTake_fr (c := 18253611008) (r := 6) rfl rfl (fr_refl _)
  ⟨(h.1 .hbm rfl).symm, (h.1 .pending rfl).symm⟩

@[simp] theorem cmdDirectCommitInstant_mem (s : State) :
    (cmdDirectCommitInstant s).hbm = s.hbm ∧ (cmdDirectCommitInstant s).pending = s.pending :=
  have h := cmdDirectCommitInstant_fr (c := 18254659592) (r := 11972621413014756705924586149611790497021399392124934) rfl rfl (fr_refl _)
  ⟨(h.1 .hbm rfl).symm, (h.1 .pending rfl).symm⟩

@[simp] theorem ringWrite_mem (s : State) (r : Ring) (k lo hi v : Nat) (set : Hif → Ring → Hif) :
    (ringWrite s r k lo hi v set).hbm = s.hbm ∧ (ringWrite s r k lo hi v set).pending = s.pending :=
  have h := ringWrite_fr (c := 18253611008) (r := 4) rfl rfl (fr_refl _)
  ⟨(h.1 .hbm rfl).symm, (h.1 .pending rfl).symm⟩

@[simp] theorem cmdApertureBaseWrite_mem (s : State) (v : Nat) :
    (cmdApertureBaseWrite s v).hbm = s.hbm ∧ (cmdApertureBaseWrite s v).pending = s.pending :=
  have h := cmdApertureBaseWrite_fr (c := 1073741824) (r := 0) rfl rfl (fr_refl _)
  ⟨(h.1 .hbm rfl).symm, (h.1 .pending rfl).symm⟩

@[simp] theorem hifControlWrite_mem (s : State) (v : Nat) :
    (hifControlWrite s v).hbm = s.hbm ∧ (hifControlWrite s v).pending = s.pending :=
  have h := hifControlWrite_fr (c := 18253611520) (r := 23945242826029513411849172299223580994042798784118784) rfl rfl (fr_refl _)
  ⟨(h.1 .hbm rfl).symm, (h.1 .pending rfl).symm⟩

@[simp] theorem cmdRegisterWrite_mem (s : State) (off v : Nat) :
    (cmdRegisterWrite s off v).hbm = s.hbm ∧ (cmdRegisterWrite s off v).pending = s.pending :=
  have h := cmdRegisterWrite_fr (c := 31141675520) (r := 35923710245593593812523322924728164152625485407387654) rfl rfl (fr_refl _)
  ⟨(h.1 .hbm rfl).symm, (h.1 .pending rfl).symm⟩

@[simp] theorem cmdHostHeartbeat_mem (s : State) :
    (cmdHostHeartbeat s).hbm = s.hbm ∧ (cmdHostHeartbeat s).pending = s.pending :=
  have h := cmdHostHeartbeat_fr (c := 31139577856) (r := 83076749736561927529482663500972036) rfl rfl (fr_refl _)
  ⟨(h.1 .hbm rfl).symm, (h.1 .pending rfl).symm⟩

@[simp] theorem State.fnStarting_mem (s : State) (f : Fn) :
    (State.fnStarting s f).hbm = s.hbm ∧ (State.fnStarting s f).pending = s.pending :=
  have h := State.fnStarting_fr (c := 31142494728) (r := 9444730713939484213248) rfl rfl (fr_refl _)
  ⟨(h.1 .hbm rfl).symm, (h.1 .pending rfl).symm⟩

@[simp] theorem State.fnStopping_mem (s : State) (f : Fn) :
    (State.fnStopping s f).hbm = s.hbm ∧ (State.fnStopping s f).pending = s.pending :=
  have h := State.fnStopping_fr (c := 31683560200) (r := 2417851600950860547489792) rfl rfl (fr_refl _)
  ⟨(h.1 .hbm rfl).symm, (h.1 .pending rfl).symm⟩

@[simp] theorem State.fnSwitch_mem (s : State) (f : Fn) (on : Bool) :
    (State.fnSwitch s f on).hbm = s.hbm ∧ (State.fnSwitch s f on).pending = s.pending :=
  have h := State.fnSwitch_fr (c := 31683560200) (r := 2417851639222661287116800) rfl rfl (fr_refl _)
  ⟨(h.1 .hbm rfl).symm, (h.1 .pending rfl).symm⟩

@[simp] theorem cmdPortStopDone_mem (s : State) (p : Nat) :
    (cmdPortStopDone s p).hbm = s.hbm ∧ (cmdPortStopDone s p).pending = s.pending :=
  have h := cmdPortStopDone_fr (c := 31150883592) (r := 9444730713939484213248) rfl rfl (fr_refl _)
  ⟨(h.1 .hbm rfl).symm, (h.1 .pending rfl).symm⟩

@[simp] theorem cmdAudPortStopDone_mem (s : State) (p : Nat) :
    (cmdAudPortStopDone s p).hbm = s.hbm ∧ (cmdAudPortStopDone s p).pending = s.pending :=
  have h := cmdAudPortStopDone_fr (c := 31146689288) (r := 9444730713939484213248) rfl rfl (fr_refl _)
  ⟨(h.1 .hbm rfl).symm, (h.1 .pending rfl).symm⟩

@[simp] theorem cmdClpStopDone_mem (s : State) :
    (cmdClpStopDone s).hbm = s.hbm ∧ (cmdClpStopDone s).pending = s.pending :=
  have h := cmdClpStopDone_fr (c := 31679365896) (r := 164824271478258183829994276449068122112) rfl rfl (fr_refl _)
  ⟨(h.1 .hbm rfl).symm, (h.1 .pending rfl).symm⟩

@[simp] theorem cmdIslandPowered_mem (s : State) (i : Nat) :
    (cmdIslandPowered s i).hbm = s.hbm ∧ (cmdIslandPowered s i).pending = s.pending :=
  have h := cmdIslandPowered_fr (c := 16781824) (r := 0) rfl rfl (fr_refl _)
  ⟨(h.1 .hbm rfl).symm, (h.1 .pending rfl).symm⟩

@[simp] theorem State.requestSwap_mem (s : State) (a : Ask) :
    (State.requestSwap s a).hbm = s.hbm ∧ (State.requestSwap s a).pending = s.pending :=
  have h := State.requestSwap_fr (c := 24704450736) (r := 5360126525440) rfl rfl (fr_refl _)
  ⟨(h.1 .hbm rfl).symm, (h.1 .pending rfl).symm⟩

@[simp] theorem State.armSwap_mem (s : State) :
    (State.armSwap s).hbm = s.hbm ∧ (State.armSwap s).pending = s.pending :=
  have h := State.armSwap_fr (c := 24704483760) (r := 39772450557372536850144559104) rfl rfl (fr_refl _)
  ⟨(h.1 .hbm rfl).symm, (h.1 .pending rfl).symm⟩

@[simp] theorem State.maquetteReset_mem (s : State) :
    (State.maquetteReset s).2.hbm = s.hbm ∧ (State.maquetteReset s).2.pending = s.pending :=
  have h := State.maquetteReset_fr (c := 192) (r := 2417851639229258349412352) rfl rfl (fr_refl _)
  ⟨(h.1 .hbm rfl).symm, (h.1 .pending rfl).symm⟩

@[simp] theorem State.regridBlank_mem (s : State) (d : Int) :
    (State.regridBlank s d).hbm = s.hbm ∧ (State.regridBlank s d).pending = s.pending :=
  have h := State.regridBlank_fr (c := 128) (r := 0) rfl rfl (fr_refl _)
  ⟨(h.1 .hbm rfl).symm, (h.1 .pending rfl).symm⟩

@[simp] theorem State.regridBound_mem (s : State) :
    (State.regridBound s).hbm = s.hbm ∧ (State.regridBound s).pending = s.pending :=
  have h := State.regridBound_fr (c := 128) (r := 0) rfl rfl (fr_refl _)
  ⟨(h.1 .hbm rfl).symm, (h.1 .pending rfl).symm⟩

@[simp] theorem State.bindGrid_mem (s : State) :
    (State.bindGrid s).hbm = s.hbm ∧ (State.bindGrid s).pending = s.pending :=
  have h := State.bindGrid_fr (c := 18253640320) (r := 1569275433846670190958947355801916604025588861116008890367) rfl rfl (fr_refl _)
  ⟨(h.1 .hbm rfl).symm, (h.1 .pending rfl).symm⟩

@[simp] theorem State.bindSwap_mem (s : State) :
    (State.bindSwap s).hbm = s.hbm ∧ (State.bindSwap s).pending = s.pending :=
  have h := State.bindSwap_fr (c := 18253640320) (r := 1569275433846670190958947355801916604025588865514055401471) rfl rfl (fr_refl _)
  ⟨(h.1 .hbm rfl).symm, (h.1 .pending rfl).symm⟩

@[simp] theorem State.retarget_mem (s : State) :
    (State.retarget s).hbm = s.hbm ∧ (State.retarget s).pending = s.pending :=
  have h := State.retarget_fr (c := 1064960) (r := 0) rfl rfl (fr_refl _)
  ⟨(h.1 .hbm rfl).symm, (h.1 .pending rfl).symm⟩

@[simp] theorem State.exchangeBanks_mem (s : State) :
    (State.exchangeBanks s).hbm = s.hbm ∧ (State.exchangeBanks s).pending = s.pending :=
  have h := State.exchangeBanks_fr (c := 1097952) (r := 0) rfl rfl (fr_refl _)
  ⟨(h.1 .hbm rfl).symm, (h.1 .pending rfl).symm⟩

@[simp] theorem State.switchBanks_mem (s : State) :
    (State.switchBanks s).hbm = s.hbm ∧ (State.switchBanks s).pending = s.pending :=
  have h := State.switchBanks_fr (c := 31677006560) (r := 95968043513696409220926760856686183425004649866854400) rfl rfl (fr_refl _)
  ⟨(h.1 .hbm rfl).symm, (h.1 .pending rfl).symm⟩

@[simp] theorem State.completeSwap_mem (s : State) :
    (State.completeSwap s).hbm = s.hbm ∧ (State.completeSwap s).pending = s.pending :=
  have h := State.completeSwap_fr (c := 31681200864) (r := 670653871338426509176789836099713783256911851897749504) rfl rfl (fr_refl _)
  ⟨(h.1 .hbm rfl).symm, (h.1 .pending rfl).symm⟩

@[simp] theorem cmdSwapValidationDone_mem (s : State) :
    (cmdSwapValidationDone s).hbm = s.hbm ∧ (cmdSwapValidationDone s).pending = s.pending :=
  have h := cmdSwapValidationDone_fr (c := 24704483760) (r := 39772450557372536850144559104) rfl rfl (fr_refl _)
  ⟨(h.1 .hbm rfl).symm, (h.1 .pending rfl).symm⟩

@[simp] theorem storeConfig_mem (s : State) :
    (storeConfig s).2.hbm = s.hbm ∧ (storeConfig s).2.pending = s.pending :=
  have h := storeConfig_fr (c := 134217728) (r := 158456325028528675187087900672) rfl rfl (fr_refl _)
  ⟨(h.1 .hbm rfl).symm, (h.1 .pending rfl).symm⟩

@[simp] theorem cmdCfgStoreBegin_mem (s : State) :
    (cmdCfgStoreBegin s).hbm = s.hbm ∧ (cmdCfgStoreBegin s).pending = s.pending :=
  have h := cmdCfgStoreBegin_fr (c := 0) (r := 158456325028528675187087900672) rfl rfl (fr_refl _)
  ⟨(h.1 .hbm rfl).symm, (h.1 .pending rfl).symm⟩

@[simp] theorem cmdCfgStoreDone_mem (s : State) (failed : Bool) :
    (cmdCfgStoreDone s failed).hbm = s.hbm ∧ (cmdCfgStoreDone s failed).pending = s.pending :=
  have h := cmdCfgStoreDone_fr (c := 22749904896) (r := 2596306885592442342940435259850752) rfl rfl (fr_refl _)
  ⟨(h.1 .hbm rfl).symm, (h.1 .pending rfl).symm⟩

@[simp] theorem storePatina_mem (s : State) :
    (storePatina s).2.hbm = s.hbm ∧ (storePatina s).2.pending = s.pending :=
  have h := storePatina_fr (c := 134217728) (r := 38685626227668133590597632) rfl rfl (fr_refl _)
  ⟨(h.1 .hbm rfl).symm, (h.1 .pending rfl).symm⟩

@[simp] theorem cmdPatinaStoreBegin_mem (s : State) :
    (cmdPatinaStoreBegin s).hbm = s.hbm ∧ (cmdPatinaStoreBegin s).pending = s.pending :=
  have h := cmdPatinaStoreBegin_fr (c := 201326592) (r := 38685626227668133590597632) rfl rfl (fr_refl _)
  ⟨(h.1 .hbm rfl).symm, (h.1 .pending rfl).symm⟩

@[simp] theorem cmdPatinaStoreDone_mem (s : State) (failed : Bool) :
    (cmdPatinaStoreDone s failed).hbm = s.hbm ∧ (cmdPatinaStoreDone s failed).pending = s.pending :=
  have h := cmdPatinaStoreDone_fr (c := 31340937216) (r := 87112285931760285336944247076673037533184) rfl rfl (fr_refl _)
  ⟨(h.1 .hbm rfl).symm, (h.1 .pending rfl).symm⟩

@[simp] theorem State.afterRead_mem (s : State) (o : Obj) :
    (State.afterRead s o).hbm = s.hbm ∧ (State.afterRead s o).pending = s.pending :=
  have h := State.afterRead_fr (c := 0) (r := 3298534883328) rfl rfl (fr_refl _)
  ⟨(h.1 .hbm rfl).symm, (h.1 .pending rfl).symm⟩

@[simp] theorem State.putShadow_mem (s : State) (o : Obj) (v : Bytes) :
    (State.putShadow s o v).hbm = s.hbm ∧ (State.putShadow s o v).pending = s.pending :=
  have h := State.putShadow_fr (c := 192) (r := 2417851639229258349412352) rfl rfl (fr_refl _)
  ⟨(h.1 .hbm rfl).symm, (h.1 .pending rfl).symm⟩

@[simp] theorem State.holdWindow_mem (s : State) (a : Ask) :
    (State.holdWindow s a).hbm = s.hbm ∧ (State.holdWindow s a).pending = s.pending :=
  have h := State.holdWindow_fr (c := 2147483648) (r := 0) rfl rfl (fr_refl _)
  ⟨(h.1 .hbm rfl).symm, (h.1 .pending rfl).symm⟩

@[simp] theorem State.waitCopy_mem (s : State) (a : Ask) :
    (State.waitCopy s a).hbm = s.hbm ∧ (State.waitCopy s a).pending = s.pending :=
  have h := State.waitCopy_fr (c := 2147483776) (r := 0) rfl rfl (fr_refl _)
  ⟨(h.1 .hbm rfl).symm, (h.1 .pending rfl).symm⟩

@[simp] theorem State.serveWrite_mem (s : State) (a : Ask) (thawed : Bool) (index sub : Nat) (v : Bytes) :
    (State.serveWrite s a thawed index sub v).hbm = s.hbm ∧ (State.serveWrite s a thawed index sub v).pending = s.pending :=
  have h := State.serveWrite_fr (c := 103028671480) (r := 10141204801825835210736943366144) rfl rfl (fr_refl _)
  ⟨(h.1 .hbm rfl).symm, (h.1 .pending rfl).symm⟩

@[simp] theorem State.setTransfers_mem (s : State) (l : List Transfer) :
    (State.setTransfers s l).hbm = s.hbm ∧ (State.setTransfers s l).pending = s.pending :=
  have h := State.setTransfers_fr (c := 2147483648) (r := 79228162514264337593543950336) rfl rfl (fr_refl _)
  ⟨(h.1 .hbm rfl).symm, (h.1 .pending rfl).symm⟩

@[simp] theorem State.endTransfer_mem (s : State) (h : Nat) :
    (State.endTransfer s h).hbm = s.hbm ∧ (State.endTransfer s h).pending = s.pending :=
  have h := State.endTransfer_fr (c := 2147483648) (r := 79228162514264337593543950336) rfl rfl (fr_refl _)
  ⟨(h.1 .hbm rfl).symm, (h.1 .pending rfl).symm⟩

@[simp] theorem State.setTransfer_mem (s : State) (t : Transfer) :
    (State.setTransfer s t).hbm = s.hbm ∧ (State.setTransfer s t).pending = s.pending :=
  have h := State.setTransfer_fr (c := 2147483648) (r := 79228162514264337593543950336) rfl rfl (fr_refl _)
  ⟨(h.1 .hbm rfl).symm, (h.1 .pending rfl).symm⟩

@[simp] theorem State.failAccess_mem (s : State) (a : Ask) (ue : Option Nat) :
    (State.failAccess s a ue).hbm = s.hbm ∧ (State.failAccess s a ue).pending = s.pending :=
  have h := State.failAccess_fr (c := 24704450608) (r := 977649270784) rfl rfl (fr_refl _)
  ⟨(h.1 .hbm rfl).symm, (h.1 .pending rfl).symm⟩

@[simp] theorem State.serveData_mem (s : State) (a : Ask) (h offset maxLen : Nat) (data : Bytes) (ue : Option Nat) :
    (State.serveData s a h offset maxLen data ue).hbm = s.hbm ∧ (State.serveData s a h offset maxLen data ue).pending = s.pending :=
  have h := State.serveData_fr (c := 24704450608) (r := 79228162514264338571193221120) rfl rfl (fr_refl _)
  ⟨(h.1 .hbm rfl).symm, (h.1 .pending rfl).symm⟩

@[simp] theorem State.applyDomain_mem (s : State) (a : Ask) (t : Transfer) :
    (State.applyDomain s a t).hbm = s.hbm ∧ (State.applyDomain s a t).pending = s.pending :=
  have h := State.applyDomain_fr (c := 24838668528) (r := 396143230422960918188149178368) rfl rfl (fr_refl _)
  ⟨(h.1 .hbm rfl).symm, (h.1 .pending rfl).symm⟩

@[simp] theorem State.serveClose_mem (s : State) (a : Ask) (thawed : Bool) (h crc : Nat) (ue : Option Nat) :
    (State.serveClose s a thawed h crc ue).hbm = s.hbm ∧ (State.serveClose s a thawed h crc ue).pending = s.pending :=
  have h := State.serveClose_fr (c := 24838668528) (r := 396143230422960918203718434816) rfl rfl (fr_refl _)
  ⟨(h.1 .hbm rfl).symm, (h.1 .pending rfl).symm⟩

@[simp] theorem State.serveAbort_mem (s : State) (a : Ask) (h : Nat) :
    (State.serveAbort s a h).hbm = s.hbm ∧ (State.serveAbort s a h).pending = s.pending :=
  have h := State.serveAbort_fr (c := 24704450608) (r := 79228162514264338624343441408) rfl rfl (fr_refl _)
  ⟨(h.1 .hbm rfl).symm, (h.1 .pending rfl).symm⟩

@[simp] theorem State.turnAway_mem (s : State) (a : Ask) :
    (State.turnAway s a).hbm = s.hbm ∧ (State.turnAway s a).pending = s.pending :=
  have h := State.turnAway_fr (c := 24696061952) (r := 120266424320) rfl rfl (fr_refl _)
  ⟨(h.1 .hbm rfl).symm, (h.1 .pending rfl).symm⟩

@[simp] theorem State.loadWindow_mem (s : State) (op : DictOp) :
    (State.loadWindow s op).hbm = s.hbm ∧ (State.loadWindow s op).pending = s.pending :=
  have h := State.loadWindow_fr (c := 2147483648) (r := 0) rfl rfl (fr_refl _)
  ⟨(h.1 .hbm rfl).symm, (h.1 .pending rfl).symm⟩

@[simp] theorem State.asked_mem (s : State) (p : Party) (op : DictOp) :
    (State.asked s p op).hbm = s.hbm ∧ (State.asked s p op).pending = s.pending :=
  have h := State.asked_fr (c := 2147483648) (r := 0) rfl rfl (fr_refl _)
  ⟨(h.1 .hbm rfl).symm, (h.1 .pending rfl).symm⟩

@[simp] theorem State.request_mem (s : State) (p : Party) (op : DictOp) :
    (State.request s p op).hbm = s.hbm ∧ (State.request s p op).pending = s.pending :=
  have h := State.request_fr (c := 103028671480) (r := 10141204801825835211972283334656) rfl rfl (fr_refl _)
  ⟨(h.1 .hbm rfl).symm, (h.1 .pending rfl).symm⟩

@[simp] theorem State.tick_mem (s : State) (asks : List Ask) :
    (State.tick s asks).hbm = s.hbm ∧ (State.tick s asks).pending = s.pending :=
  have h := State.tick_fr (c := 103028671480) (r := 10141204801825835211920743727104) rfl rfl (fr_refl _)
  ⟨(h.1 .hbm rfl).symm, (h.1 .pending rfl).symm⟩

@[simp] theorem State.windowWrite_mem (s : State) (off v : Nat) :
    (State.windowWrite s off v).hbm = s.hbm ∧ (State.windowWrite s off v).pending = s.pending :=
  have h := State.windowWrite_fr (c := 103028671480) (r := 10141204801825835211972283334656) rfl rfl (fr_refl _)
  ⟨(h.1 .hbm rfl).symm, (h.1 .pending rfl).symm⟩

@[simp] theorem cmdDictionaryTick_mem (s : State) (reqs : List Req) :
    (cmdDictionaryTick s reqs).hbm = s.hbm ∧ (cmdDictionaryTick s reqs).pending = s.pending :=
  have h := cmdDictionaryTick_fr (c := 103028671480) (r := 10141204801825835211972283334656) rfl rfl (fr_refl _)
  ⟨(h.1 .hbm rfl).symm, (h.1 .pending rfl).symm⟩

@[simp] theorem cmdDomainTimeout_mem (s : State) (h : Nat) :
    (cmdDomainTimeout s h).hbm = s.hbm ∧ (cmdDomainTimeout s h).pending = s.pending :=
  have h := cmdDomainTimeout_fr (c := 2147483656) (r := 79228162514264337662263427072) rfl rfl (fr_refl _)
  ⟨(h.1 .hbm rfl).symm, (h.1 .pending rfl).symm⟩

@[simp] theorem cmdSwapCopyDone_mem (s : State) :
    (cmdSwapCopyDone s).hbm = s.hbm ∧ (cmdSwapCopyDone s).pending = s.pending :=
  have h := cmdSwapCopyDone_fr (c := 103028671480) (r := 10141204801825835211920743727104) rfl rfl (fr_refl _)
  ⟨(h.1 .hbm rfl).symm, (h.1 .pending rfl).symm⟩

@[simp] theorem rowWrite_mem (s : State) (p : Party) (o : Obj) (v : Bytes) :
    (rowWrite s p o v).hbm = s.hbm ∧ (rowWrite s p o v).pending = s.pending :=
  have h := rowWrite_fr (c := 103028671480) (r := 10141204801825835211972283334656) rfl rfl (fr_refl _)
  ⟨(h.1 .hbm rfl).symm, (h.1 .pending rfl).symm⟩

@[simp] theorem cmdFunction_mem (s : State) (p : Party) (n : Nat) (on : Bool) :
    (cmdFunction s p n on).hbm = s.hbm ∧ (cmdFunction s p n on).pending = s.pending :=
  have h := cmdFunction_fr (c := 103028671480) (r := 10141204801825835211972283334656) rfl rfl (fr_refl _)
  ⟨(h.1 .hbm rfl).symm, (h.1 .pending rfl).symm⟩

@[simp] theorem cmdClp_mem (s : State) (p : Party) (op : Nat) (v : Bytes) :
    (cmdClp s p op v).hbm = s.hbm ∧ (cmdClp s p op v).pending = s.pending :=
  have h := cmdClp_fr (c := 103028671480) (r := 10141204801825835211972283334656) rfl rfl (fr_refl _)
  ⟨(h.1 .hbm rfl).symm, (h.1 .pending rfl).symm⟩

@[simp] theorem State.takeEpoch_mem (s : State) (k : Nat) :
    (State.takeEpoch s k).hbm = s.hbm ∧ (State.takeEpoch s k).pending = s.pending :=
  have h := State.takeEpoch_fr (c := 8) (r := 0) rfl rfl (fr_refl _)
  ⟨(h.1 .hbm rfl).symm, (h.1 .pending rfl).symm⟩

@[simp] theorem State.advanceEpoch_mem (s : State) :
    (State.advanceEpoch s).hbm = s.hbm ∧ (State.advanceEpoch s).pending = s.pending :=
  have h := State.advanceEpoch_fr (c := 136) (r := 0) rfl rfl (fr_refl _)
  ⟨(h.1 .hbm rfl).symm, (h.1 .pending rfl).symm⟩

@[simp] theorem State.noteReady_mem (s : State) :
    (State.noteReady s).hbm = s.hbm ∧ (State.noteReady s).pending = s.pending :=
  have h := State.noteReady_fr (c := 1048576) (r := 0) rfl rfl (fr_refl _)
  ⟨(h.1 .hbm rfl).symm, (h.1 .pending rfl).symm⟩

@[simp] theorem State.startHeads_mem (s : State) :
    (State.startHeads s).hbm = s.hbm ∧ (State.startHeads s).pending = s.pending :=
  have h := State.startHeads_fr (c := 0) (r := 13510798882111488) rfl rfl (fr_refl _)
  ⟨(h.1 .hbm rfl).symm, (h.1 .pending rfl).symm⟩

@[simp] theorem State.stopHeads_mem (s : State) (lo : Nat) :
    (State.stopHeads s lo).hbm = s.hbm ∧ (State.stopHeads s lo).pending = s.pending :=
  have h := State.stopHeads_fr (c := 17180394240) (r := 9444748728337986224128) rfl rfl (fr_refl _)
  ⟨(h.1 .hbm rfl).symm, (h.1 .pending rfl).symm⟩

@[simp] theorem State.feedSlots_mem (s : State) (on : Bool) :
    (State.feedSlots s on).hbm = s.hbm ∧ (State.feedSlots s on).pending = s.pending :=
  have h := State.feedSlots_fr (c := 524288) (r := 0) rfl rfl (fr_refl _)
  ⟨(h.1 .hbm rfl).symm, (h.1 .pending rfl).symm⟩

@[simp] theorem State.finishFirst_mem (s : State) :
    (State.finishFirst s).hbm = s.hbm ∧ (State.finishFirst s).pending = s.pending :=
  have h := State.finishFirst_fr (c := 22549626880) (r := 2787593160200921609761620041142037854027782) rfl rfl (fr_refl _)
  ⟨(h.1 .hbm rfl).symm, (h.1 .pending rfl).symm⟩

@[simp] theorem State.activate_mem (s : State) :
    (State.activate s).hbm = s.hbm ∧ (State.activate s).pending = s.pending :=
  have h := State.activate_fr (c := 1048576) (r := 0) rfl rfl (fr_refl _)
  ⟨(h.1 .hbm rfl).symm, (h.1 .pending rfl).symm⟩

@[simp] theorem State.rotate_mem (s : State) (b : Nat) (f : Frame) :
    (State.rotate s b f).hbm = s.hbm ∧ (State.rotate s b f).pending = s.pending :=
  have h := State.rotate_fr (c := 1048576) (r := 1532495540865888858358347027150309183618739122183602176) rfl rfl (fr_refl _)
  ⟨(h.1 .hbm rfl).symm, (h.1 .pending rfl).symm⟩

@[simp] theorem State.beginScan_mem (s : State) (b : Nat) (f : Frame) :
    (State.beginScan s b f).hbm = s.hbm ∧ (State.beginScan s b f).pending = s.pending :=
  have h := State.beginScan_fr (c := 1081344) (r := 1532495540865888858358347027150309183618739122183602176) rfl rfl (fr_refl _)
  ⟨(h.1 .hbm rfl).symm, (h.1 .pending rfl).symm⟩

@[simp] theorem State.unscanned_mem (s : State) (b : Nat) (f : Frame) :
    (State.unscanned s b f).hbm = s.hbm ∧ (State.unscanned s b f).pending = s.pending :=
  have h := State.unscanned_fr (c := 91269103616) (r := 1532495540865888858368731620867378838875800114849382406) rfl rfl (fr_refl _)
  ⟨(h.1 .hbm rfl).symm, (h.1 .pending rfl).symm⟩

@[simp] theorem State.directRoles_mem (s : State) :
    (State.directRoles s).hbm = s.hbm ∧ (State.directRoles s).pending = s.pending :=
  have h := State.directRoles_fr (c := 1048576) (r := 0) rfl rfl (fr_refl _)
  ⟨(h.1 .hbm rfl).symm, (h.1 .pending rfl).symm⟩

@[simp] theorem State.measure_mem (s : State) (e : Int) :
    (State.measure s e).hbm = s.hbm ∧ (State.measure s e).pending = s.pending :=
  have h := State.measure_fr (c := 1048576) (r := 98079714615416886937592665729189619497406917940311228416) rfl rfl (fr_refl _)
  ⟨(h.1 .hbm rfl).symm, (h.1 .pending rfl).symm⟩

@[simp] theorem State.resync__mem (s : State) (e : Int) (code : Nat) :
    (State.resync_ s e code).hbm = s.hbm ∧ (State.resync_ s e code).pending = s.pending :=
  have h := State.resync__fr (c := 22549626880) (r := 196159429230833773869868419475239575503198607639508484096) rfl rfl (fr_refl _)
  ⟨(h.1 .hbm rfl).symm, (h.1 .pending rfl).symm⟩

@[simp] theorem State.endResync_mem (s : State) (line : Nat) :
    (State.endResync s line).hbm = s.hbm ∧ (State.endResync s line).pending = s.pending :=
  have h := State.endResync_fr (c := 22550151168) (r := 10384593717069655257060992665780230) rfl rfl (fr_refl _)
  ⟨(h.1 .hbm rfl).symm, (h.1 .pending rfl).symm⟩

@[simp] theorem State.discardForDirect_mem (s : State) :
    (State.discardForDirect s).hbm = s.hbm ∧ (State.discardForDirect s).pending = s.pending :=
  have h := State.discardForDirect_fr (c := 18254750336) (r := 65030) rfl rfl (fr_refl _)
  ⟨(h.1 .hbm rfl).symm, (h.1 .pending rfl).symm⟩

@[simp] theorem State.dropDescriptors_mem (s : State) :
    (State.dropDescriptors s).hbm = s.hbm ∧ (State.dropDescriptors s).pending = s.pending :=
  have h := State.dropDescriptors_fr (c := 18253611008) (r := 6) rfl rfl (fr_refl _)
  ⟨(h.1 .hbm rfl).symm, (h.1 .pending rfl).symm⟩

@[simp] theorem State.leaveDirect_mem (s : State) :
    (State.leaveDirect s).hbm = s.hbm ∧ (State.leaveDirect s).pending = s.pending :=
  have h := State.leaveDirect_fr (c := 18254659584) (r := 6) rfl rfl (fr_refl _)
  ⟨(h.1 .hbm rfl).symm, (h.1 .pending rfl).symm⟩

@[simp] theorem State.modeLatch_mem (s : State) :
    (State.modeLatch s).hbm = s.hbm ∧ (State.modeLatch s).pending = s.pending :=
  have h := State.modeLatch_fr (c := 22549717632) (r := 23945242826029513411849172299223580994042798791523846) rfl rfl (fr_refl _)
  ⟨(h.1 .hbm rfl).symm, (h.1 .pending rfl).symm⟩

@[simp] theorem State.tagDirect_mem (s : State) :
    (State.tagDirect s).hbm = s.hbm ∧ (State.tagDirect s).pending = s.pending :=
  have h := State.tagDirect_fr (c := 1074790400) (r := 0) rfl rfl (fr_refl _)
  ⟨(h.1 .hbm rfl).symm, (h.1 .pending rfl).symm⟩

@[simp] theorem cmdLatchPoint_mem (s : State) :
    (cmdLatchPoint s).hbm = s.hbm ∧ (cmdLatchPoint s).pending = s.pending :=
  have h := cmdLatchPoint_fr (c := 22818681480) (r := 1569299380548146150011010408774170950802810984972321816575) rfl rfl (fr_refl _)
  ⟨(h.1 .hbm rfl).symm, (h.1 .pending rfl).symm⟩

@[simp] theorem State.beginBlank_mem (s : State) :
    (State.beginBlank s).hbm = s.hbm ∧ (State.beginBlank s).pending = s.pending :=
  have h := State.beginBlank_fr (c := 17180393600) (r := 0) rfl rfl (fr_refl _)
  ⟨(h.1 .hbm rfl).symm, (h.1 .pending rfl).symm⟩

@[simp] theorem State.epochSwap_mem (s : State) :
    (State.epochSwap s).hbm = s.hbm ∧ (State.epochSwap s).pending = s.pending :=
  have h := State.epochSwap_fr (c := 31681200864) (r := 670653871338426509176789836099713783256911851897749504) rfl rfl (fr_refl _)
  ⟨(h.1 .hbm rfl).symm, (h.1 .pending rfl).symm⟩

@[simp] theorem State.blankEpoch_mem (s : State) :
    (State.blankEpoch s).hbm = s.hbm ∧ (State.blankEpoch s).pending = s.pending :=
  have h := State.blankEpoch_fr (c := 18255184640) (r := 2298743311298833287537520540725473220176837021261692934) rfl rfl (fr_refl _)
  ⟨(h.1 .hbm rfl).symm, (h.1 .pending rfl).symm⟩

@[simp] theorem State.readAhead_mem (s : State) (ys : List Nat) :
    (State.readAhead s ys).hbm = s.hbm ∧ (State.readAhead s ys).pending = s.pending :=
  have h := State.readAhead_fr (c := 1048576) (r := 0) rfl rfl (fr_refl _)
  ⟨(h.1 .hbm rfl).symm, (h.1 .pending rfl).symm⟩

@[simp] theorem State.noteStart_mem (s : State) :
    (State.noteStart s).hbm = s.hbm ∧ (State.noteStart s).pending = s.pending :=
  have h := State.noteStart_fr (c := 22682796032) (r := 5444517870735015415413993718908298723328) rfl rfl (fr_refl _)
  ⟨(h.1 .hbm rfl).symm, (h.1 .pending rfl).symm⟩

@[simp] theorem State.lineZero_mem (s : State) (e : Int) :
    (State.lineZero s e).hbm = s.hbm ∧ (State.lineZero s e).pending = s.pending :=
  have h := State.lineZero_fr (c := 31274450944) (r := 147143517165951365362989490505314157053667326279495450624) rfl rfl (fr_refl _)
  ⟨(h.1 .hbm rfl).symm, (h.1 .pending rfl).symm⟩

@[simp] theorem State.frameEpoch_mem (s : State) (fresh : Bool) (e : Int) :
    (State.frameEpoch s fresh e).hbm = s.hbm ∧ (State.frameEpoch s fresh e).pending = s.pending :=
  have h := State.frameEpoch_fr (c := 99993961216) (r := 344835441937651028091226641601421120840490462371824861190) rfl rfl (fr_refl _)
  ⟨(h.1 .hbm rfl).symm, (h.1 .pending rfl).symm⟩

@[simp] theorem State.runAction_mem (s : State) (a : Action) :
    (State.runAction s a).hbm = s.hbm ∧ (State.runAction s a).pending = s.pending :=
  have h := State.runAction_fr (c := 93415538688) (r := 7340032) rfl rfl (fr_refl _)
  ⟨(h.1 .hbm rfl).symm, (h.1 .pending rfl).symm⟩

@[simp] theorem State.dueAction_mem (s : State) (t : Nat) (a : Action) :
    (State.dueAction s t a).hbm = s.hbm ∧ (State.dueAction s t a).pending = s.pending :=
  have h := State.dueAction_fr (c := 93415538688) (r := 45974866225976665750750410814509275508562173665515405312) rfl rfl (fr_refl _)
  ⟨(h.1 .hbm rfl).symm, (h.1 .pending rfl).symm⟩

@[simp] theorem State.runActions_mem (s : State) :
    (State.runActions s).hbm = s.hbm ∧ (State.runActions s).pending = s.pending :=
  have h := State.runActions_fr (c := 93423927296) (r := 45974866225976665750750410814528618321676007732310704128) rfl rfl (fr_refl _)
  ⟨(h.1 .hbm rfl).symm, (h.1 .pending rfl).symm⟩

@[simp] theorem State.uncoverScan_mem (s : State) :
    (State.uncoverScan s).hbm = s.hbm ∧ (State.uncoverScan s).pending = s.pending :=
  have h := State.uncoverScan_fr (c := 1048576) (r := 0) rfl rfl (fr_refl _)
  ⟨(h.1 .hbm rfl).symm, (h.1 .pending rfl).symm⟩

@[simp] theorem State.applyStep_mem (s : State) (e : Int) :
    (State.applyStep s e).hbm = s.hbm ∧ (State.applyStep s e).pending = s.pending :=
  have h := State.applyStep_fr (c := 22562239112) (r := 2942391438462506608048026292128593634614014450847993561087) rfl rfl (fr_refl _)
  ⟨(h.1 .hbm rfl).symm, (h.1 .pending rfl).symm⟩

@[simp] theorem cmdEpoch_mem (s : State) (e : Int) :
    (cmdEpoch s e).hbm = s.hbm ∧ (cmdEpoch s e).pending = s.pending :=
  have h := cmdEpoch_fr (c := 102691173352) (r := 3138479219037074686551889934996081018883558307222258974719) rfl rfl (fr_refl _)
  ⟨(h.1 .hbm rfl).symm, (h.1 .pending rfl).symm⟩

@[simp] theorem State.lineErrors_mem (s : State) (ue : List Nat) (a n : Nat) :
    (State.lineErrors s ue a n).hbm = s.hbm ∧ (State.lineErrors s ue a n).pending = s.pending :=
  have h := State.lineErrors_fr (c := 22548578304) (r := 15576596480) rfl rfl (fr_refl _)
  ⟨(h.1 .hbm rfl).symm, (h.1 .pending rfl).symm⟩

@[simp] theorem State.scanWarn_mem (s : State) (code : Nat) :
    (State.scanWarn s code).hbm = s.hbm ∧ (State.scanWarn s code).pending = s.pending :=
  have h := State.scanWarn_fr (c := 1048576) (r := 0) rfl rfl (fr_refl _)
  ⟨(h.1 .hbm rfl).symm, (h.1 .pending rfl).symm⟩

@[simp] theorem State.lineFault_mem (s : State) (item code y h : Nat) :
    (State.lineFault s item code y h).hbm = s.hbm ∧ (State.lineFault s item code y h).pending = s.pending :=
  have h := State.lineFault_fr (c := 31139577856) (r := 23945242826029513411849172299530497921941178311245824) rfl rfl (fr_refl _)
  ⟨(h.1 .hbm rfl).symm, (h.1 .pending rfl).symm⟩

@[simp] theorem State.replaceLine_mem (s : State) (ue : List Nat) (y h n : Nat) :
    (State.replaceLine s ue y h n).1.hbm = s.hbm ∧ (State.replaceLine s ue y h n).1.pending = s.pending :=
  have h := State.replaceLine_fr (c := 31139577856) (r := 2527495000045396425992858693921502224825781820111100611297343963136) rfl rfl (fr_refl _)
  ⟨(h.1 .hbm rfl).symm, (h.1 .pending rfl).symm⟩

@[simp] theorem State.fetchLine_mem (s : State) (ue : List Nat) (y h : Nat) :
    (State.fetchLine s ue y h).1.hbm = s.hbm ∧ (State.fetchLine s ue y h).1.pending = s.pending :=
  have h := State.fetchLine_fr (c := 99859054592) (r := 2527495000045396425992858693921502224825781820111100611297343963136) rfl rfl (fr_refl _)
  ⟨(h.1 .hbm rfl).symm, (h.1 .pending rfl).symm⟩

@[simp] theorem State.takeSpare_mem (s : State) (n y : Nat) :
    (State.takeSpare s n y).hbm = s.hbm ∧ (State.takeSpare s n y).pending = s.pending :=
  have h := State.takeSpare_fr (c := 524288) (r := 0) rfl rfl (fr_refl _)
  ⟨(h.1 .hbm rfl).symm, (h.1 .pending rfl).symm⟩

@[simp] theorem State.sendSlips_mem (s : State) (h : Nat) :
    (State.sendSlips s h).hbm = s.hbm ∧ (State.sendSlips s h).pending = s.pending :=
  have h := State.sendSlips_fr (c := 17180393472) (r := 0) rfl rfl (fr_refl _)
  ⟨(h.1 .hbm rfl).symm, (h.1 .pending rfl).symm⟩

@[simp] theorem State.sendSlotLine_mem (s : State) (n y : Nat) (line : Option Bytes) :
    (State.sendSlotLine s n y line).hbm = s.hbm ∧ (State.sendSlotLine s n y line).pending = s.pending :=
  have h := State.sendSlotLine_fr (c := 17180393472) (r := 0) rfl rfl (fr_refl _)
  ⟨(h.1 .hbm rfl).symm, (h.1 .pending rfl).symm⟩

@[simp] theorem State.sendHeadLine_mem (s : State) (ue : List Nat) (y h : Nat) :
    (State.sendHeadLine s ue y h).hbm = s.hbm ∧ (State.sendHeadLine s ue y h).pending = s.pending :=
  have h := State.sendHeadLine_fr (c := 99859578880) (r := 2527495000045396425992858693921502224825781820111100611297343963136) rfl rfl (fr_refl _)
  ⟨(h.1 .hbm rfl).symm, (h.1 .pending rfl).symm⟩

@[simp] theorem State.desync_mem (s : State) (y : Nat) :
    (State.desync s y).hbm = s.hbm ∧ (State.desync s y).pending = s.pending :=
  have h := State.desync_fr (c := 31140102144) (r := 196159429230833773869878804068956952075383567011686711302) rfl rfl (fr_refl _)
  ⟨(h.1 .hbm rfl).symm, (h.1 .pending rfl).symm⟩

@[simp] theorem cmdScanLine_mem (s : State) (ueA ueB ce : List Nat) (desync : Bool) :
    (cmdScanLine s ueA ueB ce desync).hbm = s.hbm ∧ (cmdScanLine s ueA ueB ce desync).pending = s.pending :=
  have h := cmdScanLine_fr (c := 99876356104) (r := 2527495000241555855223695255384530845222631157234340360975765536774) rfl rfl (fr_refl _)
  ⟨(h.1 .hbm rfl).symm, (h.1 .pending rfl).symm⟩

@[simp] theorem cmdUnderrun_mem (s : State) (h level : Nat) :
    (cmdUnderrun s h level).hbm = s.hbm ∧ (cmdUnderrun s h level).pending = s.pending :=
  have h := cmdUnderrun_fr (c := 31140102144) (r := 14134776518227074636666380005943348126630255768722328237157808982526590982) rfl rfl (fr_refl _)
  ⟨(h.1 .hbm rfl).symm, (h.1 .pending rfl).symm⟩

@[simp] theorem State.clockStopsHeads_mem (s : State) :
    (State.clockStopsHeads s).hbm = s.hbm ∧ (State.clockStopsHeads s).pending = s.pending :=
  have h := State.clockStopsHeads_fr (c := 22550151424) (r := 2668840585286910845813403451212693510) rfl rfl (fr_refl _)
  ⟨(h.1 .hbm rfl).symm, (h.1 .pending rfl).symm⟩

@[simp] theorem State.loseRse_mem (s : State) (n : Nat) :
    (State.loseRse s n).hbm = s.hbm ∧ (State.loseRse s n).pending = s.pending :=
  have h := State.loseRse_fr (c := 22549717632) (r := 15576890575604482885591488995065350) rfl rfl (fr_refl _)
  ⟨(h.1 .hbm rfl).symm, (h.1 .pending rfl).symm⟩

@[simp] theorem State.loseUpdates_mem (s : State) :
    (State.loseUpdates s).hbm = s.hbm ∧ (State.loseUpdates s).pending = s.pending :=
  have h := State.loseUpdates_fr (c := 29184) (r := 2326392381538846597626749722506100224) rfl rfl (fr_refl _)
  ⟨(h.1 .hbm rfl).symm, (h.1 .pending rfl).symm⟩

@[simp] theorem State.losePort_mem (s : State) (p : Nat) :
    (State.losePort s p).hbm = s.hbm ∧ (State.losePort s p).pending = s.pending :=
  have h := State.losePort_fr (c := 17188258304) (r := 54043195528445952) rfl rfl (fr_refl _)
  ⟨(h.1 .hbm rfl).symm, (h.1 .pending rfl).symm⟩

@[simp] theorem State.loseClip_mem (s : State) :
    (State.loseClip s).hbm = s.hbm ∧ (State.loseClip s).pending = s.pending :=
  have h := State.loseClip_fr (c := 31676449280) (r := 310679731792138129627938816) rfl rfl (fr_refl _)
  ⟨(h.1 .hbm rfl).symm, (h.1 .pending rfl).symm⟩

@[simp] theorem State.loseOverlay_mem (s : State) :
    (State.loseOverlay s).hbm = s.hbm ∧ (State.loseOverlay s).pending = s.pending :=
  have h := State.loseOverlay_fr (c := 2113536) (r := 288230376151711744) rfl rfl (fr_refl _)
  ⟨(h.1 .hbm rfl).symm, (h.1 .pending rfl).symm⟩

@[simp] theorem State.loseAudio_mem (s : State) :
    (State.loseAudio s).hbm = s.hbm ∧ (State.loseAudio s).pending = s.pending :=
  have h := State.loseAudio_fr (c := 4194304) (r := 72059793061183488) rfl rfl (fr_refl _)
  ⟨(h.1 .hbm rfl).symm, (h.1 .pending rfl).symm⟩

@[simp] theorem State.clockResponse_mem (s : State) (i : Nat) :
    (State.clockResponse s i).hbm = s.hbm ∧ (State.clockResponse s i).pending = s.pending :=
  have h := State.clockResponse_fr (c := 103028716472) (r := 5311963708133112102857205854941150726) rfl rfl (fr_refl _)
  ⟨(h.1 .hbm rfl).symm, (h.1 .pending rfl).symm⟩

@[simp] theorem State.clockBack_mem (s : State) (i : Nat) :
    (State.clockBack s i).hbm = s.hbm ∧ (State.clockBack s i).pending = s.pending :=
  have h := State.clockBack_fr (c := 31142494728) (r := 9444730713939484213248) rfl rfl (fr_refl _)
  ⟨(h.1 .hbm rfl).symm, (h.1 .pending rfl).symm⟩

@[simp] theorem cmdClockLost_mem (s : State) (i : Nat) :
    (cmdClockLost s i).pending = s.pending :=
  ((cmdClockLost_fr (c := 103062271934) (r := 5311963708133112102857205854941150726) rfl rfl (fr_refl _)).1 .pending rfl).symm

@[simp] theorem cmdClockRestartAttempt_mem (s : State) (i : Nat) :
    (cmdClockRestartAttempt s i).hbm = s.hbm ∧ (cmdClockRestartAttempt s i).pending = s.pending :=
  have h := cmdClockRestartAttempt_fr (c := 520) (r := 0) rfl rfl (fr_refl _)
  ⟨(h.1 .hbm rfl).symm, (h.1 .pending rfl).symm⟩

@[simp] theorem cmdClockRestartCheck_mem (s : State) (i : Nat) (ok : Bool) :
    (cmdClockRestartCheck s i ok).hbm = s.hbm ∧ (cmdClockRestartCheck s i ok).pending = s.pending :=
  have h := cmdClockRestartCheck_fr (c := 31142494728) (r := 9444730713939484213248) rfl rfl (fr_refl _)
  ⟨(h.1 .hbm rfl).symm, (h.1 .pending rfl).symm⟩

@[simp] theorem State.coldBase_mem (s : State) :
    (State.coldBase s).pending = s.pending :=
  ((State.coldBase_fr (c := 17112760302) (r := 137438953472) rfl rfl (fr_refl _)).1 .pending rfl).symm

@[simp] theorem State.loadSaved_mem (s : State) (pg : Nat) :
    (State.loadSaved s pg).hbm = s.hbm ∧ (State.loadSaved s pg).pending = s.pending :=
  have h := State.loadSaved_fr (c := 9437184) (r := 2853101588837011613025506427931513048961384448) rfl rfl (fr_refl _)
  ⟨(h.1 .hbm rfl).symm, (h.1 .pending rfl).symm⟩

@[simp] theorem State.senseRgmii_mem (s : State) :
    (State.senseRgmii s).hbm = s.hbm ∧ (State.senseRgmii s).pending = s.pending :=
  have h := State.senseRgmii_fr (c := 68719476736) (r := 348449143727040986586495598010130648530944) rfl rfl (fr_refl _)
  ⟨(h.1 .hbm rfl).symm, (h.1 .pending rfl).symm⟩

@[simp] theorem State.loadConfig_mem (s : State) :
    (State.loadConfig s).hbm = s.hbm ∧ (State.loadConfig s).pending = s.pending :=
  have h := State.loadConfig_fr (c := 96) (r := 21778074079088490929069789141018769096704) rfl rfl (fr_refl _)
  ⟨(h.1 .hbm rfl).symm, (h.1 .pending rfl).symm⟩

@[simp] theorem State.useBronze_mem (s : State) (img : Option Bytes) (one : Bool) :
    (State.useBronze s img one).hbm = s.hbm ∧ (State.useBronze s img one).pending = s.pending :=
  have h := State.useBronze_fr (c := 32768) (r := 0) rfl rfl (fr_refl _)
  ⟨(h.1 .hbm rfl).symm, (h.1 .pending rfl).symm⟩

@[simp] theorem State.checkBronze_mem (s : State) (single : Bool) :
    (State.checkBronze s single).hbm = s.hbm ∧ (State.checkBronze s single).pending = s.pending :=
  have h := State.checkBronze_fr (c := 31139610624) (r := 306916927898379527127040) rfl rfl (fr_refl _)
  ⟨(h.1 .hbm rfl).symm, (h.1 .pending rfl).symm⟩

@[simp] theorem State.centreView_mem (s : State) :
    (State.centreView s).hbm = s.hbm ∧ (State.centreView s).pending = s.pending :=
  have h := State.centreView_fr (c := 96) (r := 174224571863520493293247799005065324265472) rfl rfl (fr_refl _)
  ⟨(h.1 .hbm rfl).symm, (h.1 .pending rfl).symm⟩

@[simp] theorem State.loadPatina_mem (s : State) :
    (State.loadPatina s).hbm = s.hbm ∧ (State.loadPatina s).pending = s.pending :=
  have h := State.loadPatina_fr (c := 31139610720) (r := 130668428897640370276852777152178520326144) rfl rfl (fr_refl _)
  ⟨(h.1 .hbm rfl).symm, (h.1 .pending rfl).symm⟩

@[simp] theorem State.startFunctions_mem (s : State) :
    (State.startFunctions s).hbm = s.hbm ∧ (State.startFunctions s).pending = s.pending :=
  have h := State.startFunctions_fr (c := 31142494728) (r := 9444730713939484213248) rfl rfl (fr_refl _)
  ⟨(h.1 .hbm rfl).symm, (h.1 .pending rfl).symm⟩

@[simp] theorem State.blackBuffer_mem (s : State) :
    (State.blackBuffer s).hbm = s.hbm ∧ (State.blackBuffer s).pending = s.pending :=
  have h := State.blackBuffer_fr (c := 1048576) (r := 0) rfl rfl (fr_refl _)
  ⟨(h.1 .hbm rfl).symm, (h.1 .pending rfl).symm⟩

@[simp] theorem State.startPtp_mem (s : State) :
    (State.startPtp s).hbm = s.hbm ∧ (State.startPtp s).pending = s.pending :=
  have h := State.startPtp_fr (c := 22556966912) (r := 4835703278458516966998016) rfl rfl (fr_refl _)
  ⟨(h.1 .hbm rfl).symm, (h.1 .pending rfl).symm⟩

@[simp] theorem State.bootLoad_mem (s : State) (single : Bool) :
    (State.bootLoad s single).hbm = s.hbm ∧ (State.bootLoad s single).pending = s.pending :=
  have h := State.bootLoad_fr (c := 102476333672) (r := 342324063718634806739201380996356687003648) rfl rfl (fr_refl _)
  ⟨(h.1 .hbm rfl).symm, (h.1 .pending rfl).symm⟩

@[simp] theorem State.bootEnd_mem (s : State) :
    (State.bootEnd s).hbm = s.hbm ∧ (State.bootEnd s).pending = s.pending :=
  have h := State.bootEnd_fr (c := 31285101064) (r := 5444517870754827301190568975763121242112) rfl rfl (fr_refl _)
  ⟨(h.1 .hbm rfl).symm, (h.1 .pending rfl).symm⟩

@[simp] theorem State.bootUp_mem (s : State) (single : Bool) :
    (State.bootUp s single).hbm = s.hbm ∧ (State.bootUp s single).pending = s.pending :=
  have h := State.bootUp_fr (c := 102487605864) (r := 347768581589369826995069263981714637455360) rfl rfl (fr_refl _)
  ⟨(h.1 .hbm rfl).symm, (h.1 .pending rfl).symm⟩

@[simp] theorem State.bootRecovery_mem (s : State) (single : Bool) :
    (State.bootRecovery s single).hbm = s.hbm ∧ (State.bootRecovery s single).pending = s.pending :=
  have h := State.bootRecovery_fr (c := 24831377920) (r := 4763953136895614373251288259316786659328) rfl rfl (fr_refl _)
  ⟨(h.1 .hbm rfl).symm, (h.1 .pending rfl).symm⟩

@[simp] theorem State.coldLoad_mem (s : State) (ue : List NorUe) :
    (State.coldLoad s ue).pending = s.pending :=
  ((State.coldLoad_fr (c := 103079215086) (r := 2923002926212662109401045400922402392553897328640) rfl rfl (fr_refl _)).1 .pending rfl).symm

@[simp] theorem State.coldBoot_mem (s : State) (single : Bool) :
    (State.coldBoot s single).hbm = s.hbm ∧ (State.coldBoot s single).pending = s.pending :=
  have h := State.coldBoot_fr (c := 102487605864) (r := 347768581589369826995069263981714637455360) rfl rfl (fr_refl _)
  ⟨(h.1 .hbm rfl).symm, (h.1 .pending rfl).symm⟩

@[simp] theorem State.allRailsDown_mem (s : State) :
    (State.allRailsDown s).hbm = s.hbm ∧ (State.allRailsDown s).pending = s.pending :=
  have h := State.allRailsDown_fr (c := 262408) (r := 18446744073709551616) rfl rfl (fr_refl _)
  ⟨(h.1 .hbm rfl).symm, (h.1 .pending rfl).symm⟩

@[simp] theorem State.coldStart_mem (s : State) (ue : List NorUe) :
    (State.coldStart s ue).pending = s.pending :=
  ((State.coldStart_fr (c := 103079215086) (r := 2923003273981243698751065354477656574194643501056) rfl rfl (fr_refl _)).1 .pending rfl).symm

@[simp] theorem cmdColdStart_mem (s : State) (ue : List NorUe) :
    (cmdColdStart s ue).pending = s.pending :=
  ((cmdColdStart_fr (c := 103079215086) (r := 2923003273981243698751065354477656574194643501056) rfl rfl (fr_refl _)).1 .pending rfl).symm

@[simp] theorem cmdResetNAssert_mem (s : State) :
    (cmdResetNAssert s).pending = s.pending :=
  ((cmdResetNAssert_fr (c := 92442723590) (r := 18446744073709551616) rfl rfl (fr_refl _)).1 .pending rfl).symm

@[simp] theorem restartNow_mem (s : State) (ue : List NorUe) :
    (restartNow s ue).pending = s.pending :=
  ((restartNow_fr (c := 103079215086) (r := 2923003273981243698751065354477656574194643501056) rfl rfl (fr_refl _)).1 .pending rfl).symm

@[simp] theorem cmdThermalRestart_mem (s : State) (ue : List NorUe) :
    (cmdThermalRestart s ue).pending = s.pending :=
  ((cmdThermalRestart_fr (c := 103079215086) (r := 2923003273981243698751065354477656574194643501056) rfl rfl (fr_refl _)).1 .pending rfl).symm

@[simp] theorem cmdPowerLoss_mem (s : State) :
    (cmdPowerLoss s).pending = s.pending :=
  ((cmdPowerLoss_fr (c := 85899345902) (r := 89202980794122492566142873090593583462875136) rfl rfl (fr_refl _)).1 .pending rfl).symm

@[simp] theorem memFailed_mem (s : State) (stack : Nat) :
    (memFailed s stack).hbm = s.hbm ∧ (memFailed s stack).pending = s.pending :=
  have h := memFailed_fr (c := 31139577856) (r := 12855504354071922204335696738729300820484540878160722746408960) rfl rfl (fr_refl _)
  ⟨(h.1 .hbm rfl).symm, (h.1 .pending rfl).symm⟩

@[simp] theorem cmdMemTrainingDone_mem (s : State) (failed : List Nat) (answered : Nat) :
    (cmdMemTrainingDone s failed answered).hbm = s.hbm ∧ (cmdMemTrainingDone s failed answered).pending = s.pending :=
  have h := cmdMemTrainingDone_fr (c := 31156355072) (r := 12855504354071922204335696738729300820484540878160722746408960) rfl rfl (fr_refl _)
  ⟨(h.1 .hbm rfl).symm, (h.1 .pending rfl).symm⟩

@[simp] theorem cmdMemReady_mem (s : State) :
    (cmdMemReady s).pending = s.pending :=
  ((cmdMemReady_fr (c := 17303040) (r := 38566513062215766613007090216187902460532871866549626743029760) rfl rfl (fr_refl _)).1 .pending rfl).symm

@[simp] theorem cmdUpdateWriteDone_mem (s : State) (failed : Bool) (ue : List NorUe) :
    (cmdUpdateWriteDone s failed ue).pending = s.pending :=
  ((cmdUpdateWriteDone_fr (c := 103079215086) (r := 113078212145816597093331042970550058994202668468017617854496721451546968064) rfl rfl (fr_refl _)).1 .pending rfl).symm

@[simp] theorem State.idle_mem (s : State) :
    (State.idle s).hbm = s.hbm ∧ (State.idle s).pending = s.pending :=
  have h := State.idle_fr (c := 1048584) (r := 0) rfl rfl (fr_refl _)
  ⟨(h.1 .hbm rfl).symm, (h.1 .pending rfl).symm⟩

@[simp] theorem ite_hbm (c : Prop) [Decidable c] (a b : State) : (if c then a else b).hbm = if c then a.hbm else b.hbm := by
  split <;> rfl
@[simp] theorem ite_pending (c : Prop) [Decidable c] (a b : State) : (if c then a else b).pending = if c then a.pending else b.pending := by
  split <;> rfl
@[simp] theorem ite_fst_hbm {β : Type} (c : Prop) [Decidable c] (a b : State × β) : (if c then a else b).1.hbm = if c then a.1.hbm else b.1.hbm := by
  split <;> rfl
@[simp] theorem ite_fst_pending {β : Type} (c : Prop) [Decidable c] (a b : State × β) : (if c then a else b).1.pending = if c then a.1.pending else b.1.pending := by
  split <;> rfl
theorem foldl_hbm {α : Type} (g : State → α → State) (h : ∀ s a r, r = g s a → r.hbm = s.hbm) (l : List α) (s : State) :
    (l.foldl g s).hbm = s.hbm := by
  induction l generalizing s with
  | nil => rfl
  | cons a l ih => rw [List.foldl_cons, ih, h _ _ _ rfl]
theorem foldl_pending {α : Type} (g : State → α → State) (h : ∀ s a r, r = g s a → r.pending = s.pending) (l : List α) (s : State) :
    (l.foldl g s).pending = s.pending := by
  induction l generalizing s with
  | nil => rfl
  | cons a l ih => rw [List.foldl_cons, ih, h _ _ _ rfl]


@[simp] theorem State.emits_mem (s : State) (os : List Out) :
    (State.emits s os).hbm = s.hbm ∧ (State.emits s os).pending = s.pending := by
  simp [State.emits, foldl_hbm, foldl_pending]

theorem State.ifLive_hbm (s : State) (f : State → State) (h : (f s).hbm = s.hbm) : (s.ifLive f).hbm = s.hbm := by
  unfold State.ifLive; split <;> simp [h]

theorem State.ifLive_pending (s : State) (f : State → State) (h : (f s).pending = s.pending) : (s.ifLive f).pending = s.pending := by
  unfold State.ifLive; split <;> simp [h]

theorem State.layerDirs_hbm (id ord : Nat) (o n : Nat → Option (Nat × Nat)) (d : List (Option Nat)) (l : List Nat) (a : State × List (Option Nat)) :
    (l.foldl (State.layerDir id ord o n d) a).1.hbm = a.1.hbm := by
  induction l generalizing a with
  | nil => rfl
  | cons k l ih => rw [List.foldl_cons, ih]; unfold State.layerDir; dsimp only; (repeat' split) <;> simp

theorem State.layerDirs_pending (id ord : Nat) (o n : Nat → Option (Nat × Nat)) (d : List (Option Nat)) (l : List Nat) (a : State × List (Option Nat)) :
    (l.foldl (State.layerDir id ord o n d) a).1.pending = a.1.pending := by
  induction l generalizing a with
  | nil => rfl
  | cons k l ih => rw [List.foldl_cons, ih]; unfold State.layerDir; dsimp only; (repeat' split) <;> simp


@[simp] theorem State.withSection_hbm (s : State) (mine : Nat → Bool) (body : State → Bytes → State) (h : ∀ s sec, (body s sec).hbm = s.hbm) :
    (s.withSection mine body).hbm = s.hbm := by
  unfold State.withSection; dsimp only; (repeat' split) <;> simp [h]

@[simp] theorem State.withSection_pending (s : State) (mine : Nat → Bool) (body : State → Bytes → State) (h : ∀ s sec, (body s sec).pending = s.pending) :
    (s.withSection mine body).pending = s.pending := by
  unfold State.withSection; dsimp only; (repeat' split) <;> simp [h]


@[simp] theorem State.discardFrame_mem (s : State) (f : Frame) (status : Nat) :
    (State.discardFrame s f status).hbm = s.hbm ∧ (State.discardFrame s f status).pending = s.pending := by
  simp [State.discardFrame]

@[simp] theorem State.withCommand_hbm (s : State) (op : Nat) (body : State → Bytes → State) (h : ∀ s c, (body s c).hbm = s.hbm) :
    (s.withCommand op body).hbm = s.hbm := by
  unfold State.withCommand; dsimp only; (repeat' split) <;> simp [h]

@[simp] theorem State.withCommand_pending (s : State) (op : Nat) (body : State → Bytes → State) (h : ∀ s c, (body s c).pending = s.pending) :
    (s.withCommand op body).pending = s.pending := by
  unfold State.withCommand; dsimp only; (repeat' split) <;> simp [h]


theorem State.acceptSamples_mem (i fs width packing : Nat) (flag : Bool) (n slot : Nat) (bs : Bytes) (s : State) :
    (s.acceptSamples i fs width packing flag n slot bs).hbm = s.hbm ∧ (s.acceptSamples i fs width packing flag n slot bs).pending = s.pending := by
  induction n generalizing s slot bs with
  | zero => simp [State.acceptSamples]
  | succ n ih => simp [State.acceptSamples, ih]

theorem ptpObjectWrite_mem (s : State) (d sub v : Nat) (store : State) (h : store.hbm = s.hbm ∧ store.pending = s.pending) :
    (ptpObjectWrite s d sub v store).2.hbm = s.hbm ∧ (ptpObjectWrite s d sub v store).2.pending = s.pending := by
  unfold ptpObjectWrite; (repeat' split) <;> simp [h]

@[simp] theorem clpOutcome_mem (r : Nat × State) : (clpOutcome r).hbm = r.2.hbm ∧ (clpOutcome r).pending = r.2.pending :=
  have h := clpOutcome_fr (c := 23085449216) (r := 928606145191487034828521472) rfl rfl (fr_refl _)
  ⟨(h.1 .hbm rfl).symm, (h.1 .pending rfl).symm⟩

@[simp] theorem State.fnStopped_hbm (s : State) (f : Fn) (gate : State → State) (h : ∀ s, (gate s).hbm = s.hbm) :
    (s.fnStopped f gate).hbm = s.hbm := by
  simp only [State.fnStopped]; split <;> simp [h]

@[simp] theorem State.fnStopped_pending (s : State) (f : Fn) (gate : State → State) (h : ∀ s, (gate s).pending = s.pending) :
    (s.fnStopped f gate).pending = s.pending := by
  simp only [State.fnStopped]; split <;> simp [h]


@[simp] theorem State.swapSlot_mem (s o : State) (retrain : Bool) (n : Nat) :
    (State.swapSlot s o retrain n).hbm = s.hbm ∧ (State.swapSlot s o retrain n).pending = s.pending :=
  have h := State.swapSlot_fr (c := 22549102592) (r := 187072209578355573530071658597128961733498476953600) rfl rfl (fr_refl _)
  ⟨(h.1 .hbm rfl).symm, (h.1 .pending rfl).symm⟩

@[simp] theorem State.sendLeavers_mem (s o : State) :
    (State.sendLeavers s o).hbm = s.hbm ∧ (State.sendLeavers s o).pending = s.pending :=
  have h := State.sendLeavers_fr (c := 17180393472) (r := 0) rfl rfl (fr_refl _)
  ⟨(h.1 .hbm rfl).symm, (h.1 .pending rfl).symm⟩

@[simp] theorem State.writePlain_mem (s : State) (o : Obj) (v : Bytes) :
    (State.writePlain s o v).2.hbm = s.hbm ∧ (State.writePlain s o v).2.pending = s.pending :=
  have h := State.writePlain_fr (c := 8389168) (r := 5070602400912917606124251774976) rfl rfl (fr_refl _) (ok_all rfl rfl)
  ⟨(h.1 .hbm rfl).symm, (h.1 .pending rfl).symm⟩

@[simp] theorem State.writeCommand_mem (s : State) (a : Ask) (o : Obj) (v : Bytes) (n : Nat) :
    (State.writeCommand s a o v n).2.hbm = s.hbm ∧ (State.writeCommand s a o v n).2.pending = s.pending :=
  have h := State.writeCommand_fr (c := 103021593584) (r := 10141199951936434668332318982144) rfl rfl (fr_refl _) (ok_all rfl rfl)
  ⟨(h.1 .hbm rfl).symm, (h.1 .pending rfl).symm⟩

@[simp] theorem State.writeEffect_mem (s : State) (a : Ask) (o : Obj) (v : Bytes) :
    (State.writeEffect s a o v).2.hbm = s.hbm ∧ (State.writeEffect s a o v).2.pending = s.pending :=
  have h := State.writeEffect_fr (c := 103028671480) (r := 10141204801825835210736943366144) rfl rfl (fr_refl _) (ok_all rfl rfl)
  ⟨(h.1 .hbm rfl).symm, (h.1 .pending rfl).symm⟩

@[simp] theorem State.serveOpen_mem (old s : State) (a : Ask) (index sub : Nat) (dirRead maq : Bool) (total : Nat) :
    (State.serveOpen old s a index sub dirRead maq total).hbm = s.hbm ∧ (State.serveOpen old s a index sub dirRead maq total).pending = s.pending :=
  have h := State.serveOpen_fr (c := 24704450608) (r := 79228162514264338555623964672) rfl rfl (fr_refl _)
  ⟨(h.1 .hbm rfl).symm, (h.1 .pending rfl).symm⟩

@[simp] theorem State.serve_mem (old s : State) (a : Ask) (thawed : Bool) :
    (State.serve old s a thawed).hbm = s.hbm ∧ (State.serve old s a thawed).pending = s.pending :=
  have h := State.serve_fr (c := 103028671480) (r := 10141204801825835211920743727104) rfl rfl (fr_refl _)
  ⟨(h.1 .hbm rfl).symm, (h.1 .pending rfl).symm⟩

end Sys2Proof.Machine
end

