-- ==== Sys2Proof/Laws/Memory.lean ====
section
/-! SUPPORT. HBM's canonical form: every memory operation keeps it, and so does every command. -/

namespace Sys2Proof.Machine

open State (memGet memSet memWrite)

/-! ## The list of cells -/

theorem memOk_tail {c : Host.Cell} {m : List Host.Cell} (h : memOk (c :: m) = true) : memOk m = true := by
  cases m with
  | nil => rfl
  | cons d m => simp only [memOk, Bool.and_eq_true] at h; exact h.2

theorem memOk_nz {c : Host.Cell} {m : List Host.Cell} (h : memOk (c :: m) = true) : c.2 ≠ 0 := by
  cases m with
  | nil => simpa [memOk] using h
  | cons d m => simp only [memOk, Bool.and_eq_true, bne_iff_ne] at h; exact h.1.1

/-- Every later address is higher. -/
theorem memOk_lt {c : Host.Cell} {m : List Host.Cell} (h : memOk (c :: m) = true) : ∀ d ∈ m, c.1 < d.1 := by
  induction m generalizing c with
  | nil => simp
  | cons e m ih =>
    simp only [memOk, Bool.and_eq_true, decide_eq_true_eq] at h
    intro d hd
    rcases List.mem_cons.mp hd with rfl | hd
    · exact h.1.2
    · exact Nat.lt_trans h.1.2 (ih h.2 d hd)

/-- A cell in front of a canonical list. -/
theorem memOk_cons {c : Host.Cell} {m : List Host.Cell} (hz : c.2 ≠ 0) (hl : ∀ d ∈ m, c.1 < d.1) (h : memOk m = true) : memOk (c :: m) = true := by
  cases m with
  | nil => simpa [memOk] using hz
  | cons e m => simp only [memOk, Bool.and_eq_true, decide_eq_true_eq, bne_iff_ne]; exact ⟨⟨hz, hl e (by simp)⟩, h⟩

theorem memSet_mem {m : List Host.Cell} {a : Nat} {b : Byte} {d : Host.Cell} (h : d ∈ memSet m a b) : d = (a, b) ∨ d ∈ m := by
  induction m with
  | nil =>
    unfold memSet at h
    split at h
    · simp at h
    · exact .inl (by simpa using h)
  | cons c m ih =>
    unfold memSet at h
    split at h
    · split at h
      · exact .inr (List.mem_cons_of_mem _ h)
      · rcases List.mem_cons.mp h with h | h
        · exact .inl h
        · exact .inr (List.mem_cons_of_mem _ h)
    · split at h
      · split at h
        · exact .inr h
        · rcases List.mem_cons.mp h with h | h
          · exact .inl h
          · exact .inr h
      · rcases List.mem_cons.mp h with h | h
        · exact .inr (h ▸ List.mem_cons_self ..)
        · exact (ih h).imp id (List.mem_cons_of_mem _)

/-- Writing one byte keeps the canonical form. -/
theorem memSet_ok {m : List Host.Cell} (a : Nat) (b : Byte) (h : memOk m = true) : memOk (memSet m a b) = true := by
  induction m with
  | nil =>
    unfold memSet
    split
    · rfl
    · simpa [memOk]
  | cons c m ih =>
    obtain ⟨k, v⟩ := c
    unfold memSet
    split
    · split
      · exact memOk_tail h
      · next hk hb => subst hk; exact memOk_cons hb (memOk_lt (c := (k, v)) h) (memOk_tail h)
    · split
      · split
        · exact h
        · next hk ha hb =>
          refine memOk_cons hb (fun d hd => ?_) h
          rcases List.mem_cons.mp hd with rfl | hd
          · exact ha
          · exact Nat.lt_trans ha (memOk_lt h d hd)
      · next hk ha =>
        refine memOk_cons (memOk_nz h) (fun d hd => ?_) (ih (memOk_tail h))
        rcases memSet_mem hd with rfl | hd
        · simp only; omega
        · exact memOk_lt h d hd

/-- Writing a byte string keeps the canonical form. -/
theorem memWrite_ok (bs : Bytes) {m : List Host.Cell} (a : Nat) (h : memOk m = true) : memOk (memWrite m a bs) = true := by
  induction bs generalizing m a with
  | nil => exact h
  | cons b bs ih => exact ih _ (memSet_ok a b h)

/-- Dropping cells keeps the canonical form. -/
theorem filter_memOk (p : Host.Cell → Bool) {m : List Host.Cell} (h : memOk m = true) : memOk (m.filter p) = true := by
  induction m with
  | nil => rfl
  | cons c m ih =>
    rw [List.filter_cons]
    split
    · exact memOk_cons (memOk_nz h) (fun d hd => memOk_lt h d ((List.mem_filter.mp hd).1)) (ih (memOk_tail h))
    · exact ih (memOk_tail h)

theorem memClear_ok {m : List Host.Cell} (lo hi : Nat) (h : memOk m = true) : memOk (memClear m lo hi) = true := filter_memOk _ h

/-! ## Reading back -/

/-- An address below every listed one reads 0. -/
theorem memGet_low {m : List Host.Cell} {a : Nat} (h : ∀ d ∈ m, a < d.1) : memGet m a = 0 := by
  induction m with
  | nil => rfl
  | cons c m ih =>
    obtain ⟨k, v⟩ := c
    have hk := h (k, v) (by simp)
    simp only at hk
    unfold memGet
    rw [if_neg (by omega)]
    exact ih fun d hd => h d (List.mem_cons_of_mem _ hd)

/-- The byte written is the byte read. -/
theorem memGet_memSet_same {m : List Host.Cell} (a : Nat) (b : Byte) (h : memOk m = true) : memGet (memSet m a b) a = b := by
  induction m with
  | nil => unfold memSet; split <;> simp [memGet, *]
  | cons c m ih =>
    obtain ⟨k, v⟩ := c
    unfold memSet
    split
    · next hk =>
      subst hk
      split
      · next hb => rw [hb]; exact memGet_low (memOk_lt h)
      · simp [memGet]
    · next hk =>
      split
      · next ha =>
        split
        · next hb =>
          rw [hb]
          refine memGet_low fun d hd => ?_
          rcases List.mem_cons.mp hd with rfl | hd
          · exact ha
          · exact Nat.lt_trans ha (memOk_lt h d hd)
        · simp [memGet]
      · rw [memGet, if_neg hk]; exact ih (memOk_tail h)

/-- Writing a byte leaves every other one. -/
theorem memGet_memSet_ne {m : List Host.Cell} {a x : Nat} (b : Byte) (hx : x ≠ a) : memGet (memSet m a b) x = memGet m x := by
  have hx' : a ≠ x := fun h => hx h.symm
  induction m with
  | nil => unfold memSet; split <;> simp [memGet, hx']
  | cons c m ih =>
    obtain ⟨k, v⟩ := c
    unfold memSet
    split
    · next hk => subst hk; split <;> simp [memGet, hx']
    · split
      · split
        · rfl
        · rw [memGet, if_neg hx']
      · rw [memGet, memGet, ih]

/-- Writing a byte string leaves every byte outside it. -/
theorem memGet_memWrite_out (bs : Bytes) {m : List Host.Cell} {a x : Nat} (h : x < a ∨ a + bs.length ≤ x) : memGet (memWrite m a bs) x = memGet m x := by
  induction bs generalizing m a with
  | nil => rfl
  | cons b bs ih =>
    simp only [List.length_cons] at h
    rw [memWrite, ih (by omega), memGet_memSet_ne b (by omega)]

/-- Dropping a range leaves every byte outside it. -/
theorem memGet_memClear_out {m : List Host.Cell} {lo hi x : Nat} (h : x < lo ∨ hi ≤ x) : memGet (memClear m lo hi) x = memGet m x := by
  unfold memClear
  induction m with
  | nil => rfl
  | cons c m ih =>
    obtain ⟨k, v⟩ := c
    rw [List.filter_cons]
    split
    · rw [memGet, memGet, ih]
    · next hp =>
      simp only [Bool.or_eq_true, decide_eq_true_eq, not_or] at hp
      rw [memGet, if_neg (by omega), ih]

/-- Inside the range every byte reads 0. -/
theorem memGet_memClear_in {m : List Host.Cell} {lo hi x : Nat} (h : lo ≤ x ∧ x < hi) : memGet (memClear m lo hi) x = 0 := by
  unfold memClear
  induction m with
  | nil => rfl
  | cons c m ih =>
    obtain ⟨k, v⟩ := c
    rw [List.filter_cons]
    split
    · next hp =>
      simp only [Bool.or_eq_true, decide_eq_true_eq] at hp
      rw [memGet, if_neg (by omega), ih]
    · exact ih

/-! ## The state -/

theorem foldl_memOk {α : Type} (g : State → α → State) (h : ∀ s a r, r = g s a → memOk s.hbm = true → memOk r.hbm = true) (l : List α) (s : State)
    (hs : memOk s.hbm = true) : memOk (l.foldl g s).hbm = true := by
  induction l generalizing s with
  | nil => exact hs
  | cons a l ih => rw [List.foldl_cons]; exact ih _ (h _ _ _ rfl hs)

theorem memOk_of_eq {s t : State} (h : t.hbm = s.hbm) (hs : memOk s.hbm = true) : memOk t.hbm = true := by rw [h]; exact hs

theorem memOk_of_nil {t : State} (h : t.hbm = []) : memOk t.hbm = true := by rw [h]; rfl

@[simp] theorem State.hbmWrite_hbm (s : State) (a : Nat) (bs : Bytes) : (s.hbmWrite a bs).hbm = memWrite s.hbm a bs := rfl

theorem State.hbmWrite_ok {s : State} (a : Nat) (bs : Bytes) (hs : memOk s.hbm = true) : memOk (s.hbmWrite a bs).hbm = true :=
  memWrite_ok bs a hs

theorem State.ifLive_ok {s : State} (f : State → State) (h : memOk (f s).hbm = true) (hs : memOk s.hbm = true) : memOk (s.ifLive f).hbm = true := by
  unfold State.ifLive; split <;> assumption

theorem State.modRse_ok {s : State} (f : Rse → Rse) (hs : memOk s.hbm = true) : memOk (s.modRse f).hbm = true := hs

/-! ## The operations that write -/

theorem State.writePiece_ok {s : State} (base : Nat) (nb : Bool) (x y : Nat) (codes : List Nat) (hs : memOk s.hbm = true) :
    memOk (s.writePiece base nb x y codes).hbm = true := State.hbmWrite_ok _ _ hs

theorem State.writeCrc_ok {s : State} (base : Nat) (nb : Bool) (y h : Nat) (hs : memOk s.hbm = true) :
    memOk (s.writeCrc base nb y h).hbm = true := State.hbmWrite_ok _ _ hs

theorem State.writePattern_ok {s : State} (ci : CalIn) (nb : Bool) (base : Nat) (hs : memOk s.hbm = true) : memOk (s.writePattern ci nb base).hbm = true := by
  unfold State.writePattern
  refine foldl_memOk _ (fun s a r hr h => ?_) _ _ (memOk_of_eq (by simp) hs)
  subst hr
  dsimp only
  exact State.writeCrc_ok _ _ _ _ (memOk_of_eq (State.takeSums_mem _ _).1 (State.writePiece_ok base nb _ _ _ h))

theorem State.writeRow_ok {s : State} (base : Nat) (nb : Bool) (y : Nat) (values : List Nat) (rays : List (Nat × Ray × RayOut))
    (hs : memOk s.hbm = true) : memOk (s.writeRow base nb y values rays).hbm = true := by
  unfold State.writeRow
  refine foldl_memOk _ (fun s a r hr h => ?_) _ _ (memOk_of_eq (by simp) hs)
  subst hr
  dsimp only
  split
  · exact h
  · exact State.writePiece_ok _ _ _ _ _ h

theorem State.writeDoneLines_ok {s : State} (f : Frame) (u : RUnit) (base : Nat) (hs : memOk s.hbm = true) :
    memOk (s.writeDoneLines f u base).hbm = true := by
  unfold State.writeDoneLines
  refine foldl_memOk _ (fun s a r hr h => ?_) _ _ hs
  subst hr
  dsimp only
  split
  · exact State.writeCrc_ok _ _ _ _ h
  · exact h

theorem cmdUnitRenderDone_ok {s : State} (c : Nat) (store : List EccHit) (calUe : List Nat) (hs : memOk s.hbm = true) :
    memOk (cmdUnitRenderDone s c store calUe).hbm = true := by
  unfold cmdUnitRenderDone
  split
  · split
    · exact hs
    · split
      · exact hs
      · refine State.writeDoneLines_ok _ _ _ (State.modRse_ok _ (foldl_memOk _ (fun s a r hr h => ?_) _ _ (memOk_of_eq ?_ hs)))
        · rw [hr]; exact State.writeRow_ok _ _ _ _ _ (memOk_of_eq (State.countRays_mem _ _).1 h)
        · rw [foldl_hbm _ (by intro s a r h; subst h; simp) _ _]; simp
  · exact hs

theorem State.openPattern_ok {s : State} (b : Nat) (f : Option Frame) (nb : Bool) (hs : memOk s.hbm = true) : memOk (s.openPattern b f nb).hbm = true := by
  unfold State.openPattern
  cases f with
  | none => exact memOk_of_eq (State.captureRecheck_mem _).1 (State.writePattern_ok _ _ _ (memOk_of_eq (by simp) hs))
  | some g => exact memOk_of_eq (State.captureRecheck_mem _).1 (State.writePattern_ok _ _ _ (memOk_of_eq (by simp) hs))

theorem cmdRenderWindowOpen_ok {s : State} (hs : memOk s.hbm = true) : memOk (cmdRenderWindowOpen s).hbm = true := by
  unfold cmdRenderWindowOpen
  split
  · exact hs
  · split
    · exact hs
    · dsimp only
      split
      · split
        · exact State.openPattern_ok _ _ _ (memOk_of_eq (by simp) hs)
        · exact memOk_of_eq (by simp) hs
      · split
        · exact State.openPattern_ok _ _ _ (memOk_of_eq (by simp) hs)
        · exact memOk_of_eq (by simp) hs

theorem State.draw_ok {s : State} (c : Bytes) (ue ce : List Nat) (src : Nat → Nat → Option Nat) (hs : memOk s.hbm = true) :
    memOk (s.draw c ue ce src).hbm = true := by
  unfold State.draw
  dsimp only
  simp only [State.raspDone_mem, State.markTiles_mem]
  have h := fun l => foldl_memOk (fun (t : State) (p : Nat × Bytes × List Nat) => t.hbmWrite p.1 p.2.1)
    (fun s a r hr h => by subst hr; exact State.hbmWrite_ok _ _ h) l s hs
  split
  · rw [(State.eccCorrected_mem _ _).1, (State.eccAll_mem _ _ _).1]; exact h _
  · simp only [State.post_fields]; rw [(State.raspError_mem _ _).1, (State.eccCorrected_mem _ _).1, (State.eccAll_mem _ _ _).1]; exact h _

theorem State.fillBounce_ok {s : State} (before : List Host.Cell) (r : SurfRect) (hs : memOk s.hbm = true) : memOk (s.fillBounce before r).hbm = true := by
  unfold State.fillBounce
  exact foldl_memOk _ (fun s a r hr h => by subst hr; exact State.hbmWrite_ok _ _ h) _ _ hs

theorem State.withCommand_ok {s : State} (op : Nat) (body : State → Bytes → State) (h : ∀ s c, memOk s.hbm = true → memOk (body s c).hbm = true)
    (hs : memOk s.hbm = true) : memOk (s.withCommand op body).hbm = true := by
  unfold State.withCommand
  dsimp only
  split
  · exact hs
  · split
    · exact hs
    · exact h _ _ (memOk_of_eq (by simp) hs)

theorem cmdFill_ok {s : State} (ue ce : List Nat) (hs : memOk s.hbm = true) : memOk (cmdFill s ue ce).hbm = true :=
  State.withCommand_ok _ _ (fun _ _ h => State.draw_ok _ _ _ _ (memOk_of_eq (State.startDraw_mem _ _).1 h)) hs

theorem cmdCopy_ok {s : State} (ue ce : List Nat) (hs : memOk s.hbm = true) : memOk (cmdCopy s ue ce).hbm = true := by
  refine State.withCommand_ok _ _ (fun t c h => ?_) hs
  dsimp only
  have h' := State.draw_ok c ue ce (fun i j => some ((t.srcRect c).addr (State.sourceOf (fieldN c 3 1) (t.srcRect c).w (t.srcRect c).h i j).1
    (State.sourceOf (fieldN c 3 1) (t.srcRect c).w (t.srcRect c).h i j).2)) (memOk_of_eq (State.startDraw_mem t (t.drawBound c (t.needsBounce c))).1 h)
  split
  · exact State.fillBounce_ok _ _ h'
  · exact h'

theorem cmdPublishCatchup_ok {s : State} (hs : memOk s.hbm = true) : memOk (cmdPublishCatchup s).hbm = true := by
  unfold cmdPublishCatchup
  split
  · exact hs
  · dsimp only
    have h := fun l => foldl_memOk (fun (t : State) (p : Nat × Bytes) => t.hbmWrite (State.planeBase s.rasp.draft + p.1) p.2)
      (fun s a r hr h => by subst hr; exact State.hbmWrite_ok _ _ h) l s hs
    split
    · exact h _
    · rw [(State.markResident_mem _).1, (State.raspDone_mem _).1, (State.completePublish_mem _ _).1]
      exact h _

theorem cmdOverlayStartDone_ok {s : State} (hs : memOk s.hbm = true) : memOk (cmdOverlayStartDone s).hbm = true := by
  unfold cmdOverlayStartDone
  split
  · exact hs
  · simp only [State.put_fields, State.modRasp_fields]
    exact memClear_ok _ _ (memClear_ok _ _ hs)

theorem State.deliverRx_ok {s : State} (f : RxFrame) (q : Nat) (hs : memOk s.hbm = true) : memOk (s.deliverRx f q).hbm = true := by
  unfold State.deliverRx
  split
  · exact memOk_of_eq (by simp) hs
  · next addr len _ =>
    dsimp only
    refine memOk_of_eq ?_ (State.hbmWrite_ok addr (f.frame.take len) hs)
    simp

theorem memOk_ite {c : Prop} [Decidable c] {a b : State} (ha : memOk a.hbm = true) (hb : memOk b.hbm = true) :
    memOk (if c then a else b).hbm = true := by
  split
  · exact ha
  · exact hb

theorem cmdEthFrameRx_ok {s : State} (f : RxFrame) (hs : memOk s.hbm = true) : memOk (cmdEthFrameRx s f).hbm = true := by
  unfold cmdEthFrameRx
  dsimp only
  have h0 : ∀ p, memOk ((s.reach f.stamp).bump (O.portRxFrames p)).hbm = true := fun p => memOk_of_eq (by simp) hs
  have drop : ∀ p, memOk (((s.reach f.stamp).bump (O.portRxFrames p)).dropRx p).hbm = true := fun p => memOk_of_eq (by simp) (h0 p)
  generalize hp : ((s.reach f.stamp).bump (O.portRxFrames f.port.val)) = t at *
  have h0 := hp ▸ h0 f.port.val
  have drop := hp ▸ drop f.port.val
  refine memOk_ite hs (memOk_ite drop (memOk_ite drop (memOk_ite ?_ (memOk_ite drop (memOk_ite (State.deliverRx_ok _ _ h0)
    (memOk_ite (memOk_ite (State.deliverRx_ok _ _ h0) ?_) (memOk_ite ?_ (memOk_ite (memOk_ite (State.deliverRx_ok _ _ h0) ?_) drop))))))))
  · rw [(State.netNote_mem _ _ _).1]; exact drop
  · rw [(State.vxReceive_mem _ _ _ _ _).1]; exact State.deliverRx_ok _ _ h0
  · rw [(State.asirekRx_mem _ _ _).1]; exact h0
  · rw [(State.serviceRx_mem _ _).1]; exact State.deliverRx_ok _ _ h0

theorem cmdApertureWrite_ok {s : State} (off : Nat) (data : Bytes) (hs : memOk s.hbm = true) : memOk (cmdApertureWrite s off data).hbm = true := by
  unfold cmdApertureWrite
  dsimp only
  refine memOk_of_eq (apertureRefused_mem _ _).1 (foldl_memOk _ (fun s a r hr h => ?_) _ _ hs)
  subst hr
  split
  · exact State.hbmWrite_ok _ _ h
  · exact h

/-! ## The operations that lose memory -/

@[simp] theorem stopDie_hbm (s : State) (why : StopCause) : (stopDie s why).hbm = [] := rfl

@[simp] theorem trip_hbm (s : State) (cause : Nat) : (trip s cause).hbm = [] := by
  unfold trip; exact stopDie_hbm _ _

theorem cmdThmSample_ok {s : State} (raw st : List (Option Int)) (hs : memOk s.hbm = true) : memOk (cmdThmSample s raw st).hbm = true := by
  unfold cmdThmSample
  split
  · exact hs
  · split
    · exact memOk_of_eq (by simp) hs
    · dsimp only
      split
      · exact memOk_of_nil (by simp)
      · rw [(norWindow_mem _).1, (coldSpell_mem _).1, (applyEmergency_mem _ _).1, (throttleLevel_mem _).1, (riseLevel_mem _).1]
        simp only [State.put_fields]
        split <;> exact memOk_of_eq (by simp) hs

theorem cmdClockLost_ok {s : State} (i : Nat) (hs : memOk s.hbm = true) : memOk (cmdClockLost s i).hbm = true := by
  unfold cmdClockLost
  split
  · exact hs
  · dsimp only
    split
    · exact memOk_of_nil (by simp)
    · exact memOk_of_eq (by simp) hs

@[simp] theorem State.coldBase_hbm (s : State) : s.coldBase.hbm = [] := rfl

@[simp] theorem State.coldLoad_hbm (s : State) (ue : List NorUe) : (s.coldLoad ue).hbm = [] := by
  simp [State.coldLoad]

@[simp] theorem State.coldStart_hbm (s : State) (ue : List NorUe) : (s.coldStart ue).hbm = [] := by
  simp [State.coldStart]

theorem cmdColdStart_ok {s : State} (ue : List NorUe) (hs : memOk s.hbm = true) : memOk (cmdColdStart s ue).hbm = true := by
  unfold cmdColdStart
  split
  · exact memOk_of_nil (by simp)
  · exact hs

theorem cmdResetNAssert_ok {s : State} (hs : memOk s.hbm = true) : memOk (cmdResetNAssert s).hbm = true := by
  unfold cmdResetNAssert
  split
  · exact hs
  · exact memOk_of_nil (by simp)

theorem restartNow_ok {s : State} (ue : List NorUe) (hs : memOk s.hbm = true) : memOk (restartNow s ue).hbm = true := by
  unfold restartNow
  split
  · exact hs
  · exact memOk_of_nil (State.coldStart_hbm _ _)

theorem cmdThermalRestart_ok {s : State} (ue : List NorUe) (hs : memOk s.hbm = true) : memOk (cmdThermalRestart s ue).hbm = true := by
  unfold cmdThermalRestart
  split
  · exact hs
  · split
    · exact hs
    · exact restartNow_ok _ (memOk_of_eq (by simp) hs)

@[simp] theorem cmdPowerLoss_hbm (s : State) : (cmdPowerLoss s).hbm = [] := by
  unfold cmdPowerLoss; simp

theorem cmdMemReady_ok {s : State} (hs : memOk s.hbm = true) : memOk (cmdMemReady s).hbm = true := by
  unfold cmdMemReady
  split
  · exact hs
  · dsimp only
    refine memOk_of_nil ?_
    rw [foldl_hbm _ (by intro s a r h; subst h; split <;> simp)]
    simp

theorem cmdUpdateWriteDone_ok {s : State} (failed : Bool) (ue : List NorUe) (hs : memOk s.hbm = true) : memOk (cmdUpdateWriteDone s failed ue).hbm = true := by
  unfold cmdUpdateWriteDone
  split
  · exact hs
  · split
    · split
      · exact memOk_of_eq (by simp) hs
      · exact memOk_of_eq (by simp) hs
    · split
      · exact memOk_of_nil (by simp)
      · exact memOk_of_eq (by simp) hs

end Sys2Proof.Machine
end

