-- ==== Sys2Proof/WellFormed.lean ====
section
/-! DEFINITION. The commands that the hardware can be given: the bounds that the table's operands have and the types of `Instr` do not say. A command that fails here has a meaning all the same. -/

namespace Sys2Proof

/-- An object's address (R366). -/
def objAddr (index sub : Nat) : Bool := index < 65536 && sub < 256

/-- A party: a request over BAR2 has no node (R372). -/
def partyOk (p : Party) : Bool := p.node < 4096 && (p.route != .bar2 || p.node == 0)

/-- A dictionary operation (R370, R382, R383, R386). -/
def opOk : DictOp → Bool
  | .unknown => true
  | .read i k _ => objAddr i k
  | .write i k v => objAddr i k && v.length ≤ 65535
  | .domainOpen i k _ _ n => objAddr i k && n < 2 ^ 32
  | .domainData h o m d _ => h < 256 && o < 2 ^ 32 && m ≤ 524288 && d.length ≤ 524288
  | .domainClose h c _ => h < 256 && c < 2 ^ 32
  | .domainAbort h => h < 256

/-- Whether a command is one that the hardware can be given. -/
def wellFormed (i : Instr) : Bool :=
  match i with
  | .coldStart ue | .thermalRestart ue | .warmResetDone ue | .updateWriteDone _ ue => ue.all fun u => u.addr < 64000000
  | .memTrainingDone failed answered => failed.length ≤ 4 && answered ≤ 4
  | .functionEnable p _ | .functionDisable p _ => partyOk p
  | .tileCommit ord _ => ord < 2 ^ 64
  | .toleranceReport a b => a < 2 ^ 32 && b < 2 ^ 32
  | .thmSample x y => x.length == 48 && y.length ≤ 4
  | .deviceRailCompare mv => mv.length == 11
  | .dictionaryTick rs => rs.all fun r => partyOk r.party && opOk r.op
  | .dictRead p i k _ => partyOk p && objAddr i k
  | .dictWrite p i k v => partyOk p && opOk (.write i k v)
  | .domainOpen p i k d m n => partyOk p && opOk (.domainOpen i k d m n)
  | .domainData p h o m d u => partyOk p && opOk (.domainData h o m d u)
  | .domainClose p h c u => partyOk p && opOk (.domainClose h c u)
  | .domainAbort p h => partyOk p && opOk (.domainAbort h)
  | .domainTimeout h => h < 256
  | .vipexKeyWrite p k => partyOk p && k.length ≤ 65535
  | .streamSourceWrite p v => partyOk p && v < 256
  | .timeActionCancel p n => partyOk p && n < 2 ^ 32
  | .ethFrameRx f => f.vlan < 4096 && f.srcPort < 65536 && match f.buf with
    | none => true
    | some (addr, len) => addr % 64 == 0 && 64 ≤ len && len ≤ 16384
  | .portLinkChange _ l => l ≤ 3
  | .segmentDescriptorCopy d _ => d.length == 32
  | .frameDescriptorTake d => d.length == 32
  | .reg64LowRead o => o < 65536 && o % 8 == 0
  | .registerWrite o _ => o % 4 == 0 && (o < 65536 || (0x100000 ≤ o && o < 0x200000))
  | .apertureRead o n _ _ => o + n ≤ 2 ^ 33
  | .apertureWrite o d => o + d.length ≤ 2 ^ 33
  | _ => true

end Sys2Proof
end

