-- ==== Sys2Proof/Tests/Slice0.lean ====
section
/-! SUPPORT. The model's own tests: ill-formed commands that the check refuses, small steps with outcomes from the spec, and states that meet the hypotheses of the statements. -/

set_option linter.all false
set_option Elab.async false

namespace Sys2Proof.Tests

open Sys2Proof Sys2Proof.Machine
open State (memGet memSet memWrite)

/-! ## States -/

/-- A die that runs, with nothing else set up. -/
def on : State := { die := .running }
/-- The same with Plinth state `n`. -/
def onPln (n : Nat) (p : Pln) : State := { on.put O.plinthState n with pln := p }
/-- Slot 0 of PTP enabled on a MGMT port that is ON, with this slot state and P2P mechanism or not. -/
def onPtp (mech : Nat) (p : PtpSlot) : State :=
  { ((on.put (O.ptpState 0) 1).put (O.portState 0) 2).put (O.ptpDelayMech 0) mech with tim := { slots := [p, {}] } }
/-- The same with three ports, the link of port 0 up. -/
def portUp (s : State) : State := { s.put (O.portLink 0) 2 with tim := { s.tim with ports := [{}, {}, {}] } }
/-- A PTP message of master 7. -/
def msgOf (seq stamp : Nat) (two : Bool) : PtpMsg := { seq := seq, stamp := stamp, twoStep := two, origin := 3, source := [7#8] }
/-- Port 0 ON, with this port's queues. -/
def onNet (p : NetPort) : State := { on.put (O.portState 0) 2 with tim := { ports := [p, {}, {}] } }
/-- A service frame into a buffer of `n` bytes. -/
def rxOf (n : Nat) : RxFrame := { port := 0, frame := [1#8, 2#8, 3#8], service := true, buf := some (0x80000010, n) }
/-- All islands powered. -/
def up : State := { on with isl := List.replicate 32 { pow := .powered } }
/-- The Rasp ON with one entry of these bytes in a ring of 16, and this memory. -/
def onRasp (entry : Bytes) (m : List Host.Cell) (r : Rasp) : State :=
  { (up.put O.overlayState 2).put O.raspRingSize 1024 with hbm := memWrite m 0x98000000 entry, rasp := { r with tail := r.head + 1 } }
/-- A command entry: opcode, flags, ROP, orientation and mask, then the fields of its first 32 bytes, then source and the rest. -/
def entryOf (op flags rop orient mask : Nat) (base pitch x y w h sbase spitch sx sy colour : Nat) : Bytes :=
  leBytes 1 op ++ leBytes 1 flags ++ leBytes 1 rop ++ leBytes 1 orient ++ leBytes 4 mask ++ leBytes 8 base ++ leBytes 4 pitch ++ leBytes 2 x ++ leBytes 2 y ++
  leBytes 2 w ++ leBytes 2 h ++ zeros 4 ++ leBytes 8 sbase ++ leBytes 4 spitch ++ leBytes 2 sx ++ leBytes 2 sy ++ zeros 8 ++ leBytes 4 colour ++ leBytes 4 colour
/-- All islands powered, Atelier RUNNING, the dictionary ready. -/
def run : State := { up.put O.atlState 1 with dict := { ready := true } }
/-- The segment and completion rings at 0x1000 and 0x9000 with 16 entries; one descriptor waits. -/
def rings : State := { run with hif := { seg := { base := 0x1000, size := 16, tail := 1, en := true }, fdr := { base := 0x5000, size := 16, tail := 1, en := true }, cpl := { base := 0x9000, size := 16, en := true } } }
/-- Capture STARTING, with every precondition of a run met. -/
def calm : State :=
  { ((up.put O.captureState 1).put O.captureTfNum up.tf.1).put O.captureTfDen up.tf.2 with
    clk := { now := 60000000001 }, cal := { tMeas := some 0, hist := [(0, some 0)] } }
/-- A segment of 24 header bytes and `body`. -/
def segOf (flags id seq count : Nat) (body : Bytes) : Seg :=
  let h := leBytes 4 0x4B525341 ++ leBytes 1 1 ++ leBytes 1 flags ++ leBytes 2 count ++ leBytes 4 id ++ leBytes 4 seq ++ leBytes 4 (24 + body.length)
  { transport := 0, bytes := h ++ leBytes 4 (crc32c h) ++ body }
/-- A section of this type. -/
def secOf (ty : Nat) (body : Bytes) : Bytes :=
  let h := leBytes 1 ty ++ zeros 3 ++ leBytes 4 (12 + body.length) ++ body
  h ++ leBytes 4 (crc32c h)
/-- The parser before this rest of a segment. -/
def inSec (rest : Bytes) (s : State) : State := { s with sdec := { s.sdec with inSeg := true, rest := rest, curId := some 7 } }
/-- A context with this many layers, and a layer, that pass their checks. -/
def goodCtx (n : Nat) : Ctx := { layerCount := n, layerMask := 1, rot := { w := 2 ^ 30 }, scale := 65536, opacity := 1024 }
/-- A layer of this many tiles that passes its checks. -/
def goodLayer (x y : Nat) : Layer := { tilesX := x, tilesY := y, pitchU := 1, pitchV := 1, q := { w := 2 ^ 30 } }
/-- A FIGURE_DEFINE section. -/
def defineOf (id : Nat) (c : Ctx) (ls : List Layer) : Bytes :=
  secOf 2 (leBytes 4 id ++ (ctxBytes { slot := 0, id := id, ctx := c }).take 128 ++ ls.flatMap layerBytes)
/-- Figure 5 with one layer of 2 x 2 tiles, live, its directory 0. -/
def withFig (s : State) : State :=
  { s with figs := [{ slot := 0, id := 5, ctx := goodCtx 1, layers := [goodLayer 2 2], dirs := [some 0] }]
           rrec := { s.rrec with nextDir := 1, dirs := [{ id := 0, figId := 5, layer := 0, tilesX := 2, tilesY := 2, units := [0], allocOrd := 0 }] } }
/-- A TILE_UPDATE section of Figure `id`, layer 0. -/
def tileOf (id flags tx ty seq : Nat) (payload : Bytes) : Bytes :=
  secOf 5 (leBytes 4 id ++ leBytes 1 0 ++ leBytes 1 flags ++ leBytes 2 tx ++ leBytes 2 ty ++ zeros 2 ++ leBytes 4 seq ++ payload)
/-- Figure 5 of `withFig`. -/
def fig5 : Figure := { slot := 0, id := 5, ctx := goodCtx 1, layers := [goodLayer 2 2], dirs := [some 0] }
/-- A tile update in flight, of tile (1, 1) of directory 0, with sequence number 1. -/
def updOf (ord : Nat) (dec : Option Nat) (r : TileResult) : TileUpd :=
  { ordinal := ord, key := 9, figId := 5, layer := 0, tx := 1, ty := 1, dir := 0, flags := 0, seq := 1, qp := [0, 0, 0, 0, 0, 0], payload := [], decoder := dec, result := r }
/-- All decoders busy. -/
def busyDecs (s : State) : State := { s with rrec := { s.rrec with upds := (List.range 16).map fun d => updOf (100 + d) (some d) .pending } }
/-- Directory 0 with this version of tile (1, 1). -/
def vDir (v : Version) : Dir :=
  { id := 0, figId := 5, layer := 0, tilesX := 2, tilesY := 2, units := [0], allocOrd := 0, tiles := [{ tx := 1, ty := 1, cur := v }] }
/-- That directory with one update in flight. -/
def vFig (u : TileUpd) (v : Version) : State := { withFig up with rrec := { dirs := [vDir v], upds := [u], slots := v.slot.toList.map fun n => (n, []) } }
/-- A FRAME_MARKER section. -/
def markerOf (epoch tag flags : Nat) : Bytes := secOf 1 (leBytes 8 epoch ++ leBytes 4 tag ++ leBytes 4 flags)
/-- A frame for epoch 9 with these units. -/
def frameOf (us : List RUnit) (resident : Option Nat) : Frame := { number := 3, tag := 8, epoch := 9, bin := { units := us }, residentAt := resident }
/-- A whole bin that reads `n` tiles and holds `s` samples. -/
def unitOf (sub s n : Nat) : RUnit := { bin := 0, sub := sub, rect := {}, s := s, n := n }
/-- A frame waits at this stage. -/
def waits (f : Frame) (stage : AdmStage) (s : State) : State := { s with adm := { waiting := [f], stage := stage } }
/-- The frame of these units pends, with RSE working for it; `cs` are its first clusters. -/
def pends (us : List RUnit) (cs : List Cluster) (s : State) : State :=
  { s with adm := { pending := some (frameOf us (some 0)) }, rse := { frame := some 3, clusters := cs ++ List.replicate (64 - cs.length) {} } }
/-- The same frame renders into buffer 1. -/
def renders (us : List RUnit) (cs : List Cluster) (s : State) : State :=
  { pends us cs s with adm := { rendering := some (frameOf us (some 0)) }
                       scan := { s.scan with bufs := [{}, { role := .render, frame := some (frameOf us (some 0)) }, {}] } }
/-- Head A ON, scanning, `k` buffers as given. -/
def scans (line : Nat) (bs : List Buf) (s : State) : State := { s.put O.headAState 2 with scan := { running := true, line := line, bufs := bs } }
/-- Slot 1 of head A is trained and fed: logical lanes 0 to 3 on lanes 4, 0, 3 and 1, lane 2 in reserve. -/
def feedsOne (s : State) : State :=
  let s := (List.range 5).foldl (fun s j => s.put (O.linkLaneState (s.laneNo 1 j)) (if j = 2 then 3 else 2)) (s.put (O.linkSlotState 1) 4)
  { s with link := s.link.set 1 { present := true, fed := true, logical := [some 4, some 0, some 3, some 1] } }
/-- An AUDIO_BLOCK section: stream port, rate, packing, second, ns, frames and their bytes. -/
def audioOf (i rate p sec ns n : Nat) (data : Bytes) : Bytes :=
  secOf 6 (leBytes 1 i ++ leBytes 1 rate ++ leBytes 1 p ++ leBytes 1 0 ++ leBytes 8 sec ++ leBytes 4 ns ++ leBytes 2 n ++ zeros 2 ++ data)
/-- Audio port 5, at 48 kHz with 16-bit slots, ON and routed to stream port 2, which holds `ring`. -/
def onAud (a : AudPort) (ring : List SampleFrame) : State :=
  { (((up.put (O.audPortState 5) 2).put (O.audPortRoute 5) 2).put (O.audPairRate 2) 1).put (O.audPortSlotBits 5) 16 with
    aud := { ports := (List.replicate 8 {}).set 5 a, streams := (List.replicate 8 {}).set 2 { rate := some 1, ring := ring } } }
/-- Slot 3 with this state and record. -/
def onSlot (v : Nat) (x : Slot) : State := { up.put (O.linkSlotState 3) v with link := (List.replicate 32 {}).set 3 x }
/-- A panel descriptor of a board of 640 by 17,280 pixels. -/
def descr : Bytes :=
  let h := leBytes 2 0xD17A ++ leBytes 1 1 ++ leBytes 1 3 ++ zeros 12 ++ leBytes 2 640 ++ leBytes 2 17280 ++ leBytes 1 16 ++ zeros 39
  h ++ leBytes 4 (crc32c h)
/-- Slot 2 TRAINED with lanes 0, 1, 2, 4 as its logical lanes, and lane 3 STANDBY or not. -/
def spared (b : Bool) : State :=
  let s : State := { up.put (O.linkSlotState 2) 4 with link := (List.replicate 32 {}).set 2 { logical := [some 0, some 1, some 2, some 4], fed := true } }
  let s := (List.range 5).foldl (fun s j => s.setLaneState 2 j 2) s
  s.setLaneState 2 3 (if b then 3 else 4)
/-- Panel power in state `v`, with this sequencer. -/
def panel (v : Nat) (p : Pwr) : State := { ((up.put O.panelPowerState v).put O.panelPowerEnable 1).putO O.railOrder [0#8, 1#8, 2#8, 3#8, 4#8, 5#8] with pwr := p }
/-- The clip store ON over a MIRRORED volume of two drives, with these clips, bytes and play. -/
def onClip (cs : List Clip) (ds : List (Nat × Bytes)) (p : Option Play) (cmd : Option Bytes) : State :=
  { ((((run.put O.clpState 2).put O.clpLayout 1).put (O.clpDriveState 0) 1).put (O.clpDriveState 1) 1).put O.clpCmdState 1 with
    clp := { drives := [{ capacity := 4096 * 2048 }, { capacity := 4096 * 2048 }], table := cs, data := ds, play := p, cmd := cmd } }
/-- A clip command. -/
def clipCmd (op layout id len addr : Nat) : Bytes := leBytes 1 op ++ leBytes 1 layout ++ leBytes 2 id ++ leBytes 4 len ++ leBytes 8 addr ++ zeros 16
/-- The bytes of a clip of one frame, relative epoch 0. -/
def clipBytes : Bytes := (segOf 1 7 0 1 (markerOf 0 5 0)).bytes
/-- An open transfer of the drive curves in the hands of BAR2. -/
def xfer (read : Bool) (total : Nat) (data : Bytes) : Transfer := { handle := 3, party := {}, obj := O.driveCurves, isRead := read, total := total, data := data }
/-- Atelier RUNNING with that transfer open. -/
def onXfer (x : Transfer) : State := { run with dict := { run.dict with transfers := [x] } }
/-- A limit set for slot 0, with the serial number of zeros, that passes checks 1 to 6 of an uncommissioned Plinth; `rest` follows it. -/
def limitSet (rest : Bytes) : Bytes :=
  leBytes 4 0x4C4E4C50 ++ leBytes 2 1 ++ zeros 18 ++ leBytes 4 1 ++ leBytes 2 30000 ++ leBytes 2 400 ++ leBytes 2 1600 ++ leBytes 2 100 ++
  leBytes 4 1 ++ leBytes 4 60 ++ [0#8, 1#8, 2#8, 3#8, 4#8, 5#8] ++ zeros 2 ++ zeros 64 ++ zeros 12 ++ rest
/-- A timed action: seq, ns, second and kind, with the rest of its bytes. -/
def actionOf (seq ns sec kind flags vector : Nat) : Bytes :=
  leBytes 4 seq ++ leBytes 4 ns ++ leBytes 8 sec ++ leBytes 1 kind ++ leBytes 1 flags ++ leBytes 1 vector ++ zeros 13
/-- A segment as large as the stream queue. -/
def bigSeg : Seg := { transport := 0, bytes := List.replicate (2 ^ 30) 0#8 }

theorem bigSeg_length : bigSeg.bytes.length = 2 ^ 30 := List.length_replicate ..

/-- Behind it there is no room. -/
theorem queueRoom_big {s : State} {n : Nat} (h : s.sdec.queue = [bigSeg]) (hn : 0 < n) : s.queueRoom n = false := by
  simp only [State.queueRoom, State.queueUsed, h, List.map_cons, List.map_nil, bigSeg_length, sumN, decide_eq_false_iff_not]
  simp only [List.foldl_cons, List.foldl_nil]
  omega

/-- With every number below `n` taken, none is free. -/
theorem lowestFree_range (n : Nat) : lowestFree n (List.range n) = none := by
  simp only [lowestFree, List.find?_eq_none, List.mem_range, List.length_range]
  intro k hk
  simp only [List.contains_iff_mem, List.mem_range, Bool.not_eq_true', decide_eq_false_iff_not, Bool.not_eq_false]
  omega

/-- That many Figures, each in its own context. -/
def figsTo (n : Nat) : List Figure := (List.range n).map fun i => { slot := i, id := i + 100, ctx := goodCtx 1 }

theorem figsTo_slots (n : Nat) : (figsTo n).map (·.slot) = List.range n := by
  rw [figsTo, List.map_map]; exact List.map_id _

/-- That many slots in use. -/
def slotsTo (n : Nat) : List (Nat × List Texel) := (List.range n).map fun k => (k, [])

theorem slotsTo_numbers (n : Nat) : (slotsTo n).map (·.1) = List.range n := by
  rw [slotsTo, List.map_map]; exact List.map_id _

/-- The parser at a FIGURE_DEFINE of Figure 9, with that many contexts live. -/
def fullFigs (n : Nat) : State := inSec (defineOf 9 (goodCtx 1) [goodLayer 2 2]) { up with figs := figsTo n }

theorem fullFigs_slots (n : Nat) : lowestFree n ((fullFigs n).figs.map (·.slot)) = none := by
  rw [show (fullFigs n).figs.map (·.slot) = List.range n from figsTo_slots n]; exact lowestFree_range n

/-- A tile of texels to commit, with that many slots of the pool taken. -/
def fullSlots (n : Nat) : State :=
  { withFig up with rrec := { dirs := [vDir {}], upds := [updOf 3 none (.texels [7#128])], slots := slotsTo n } }

theorem fullSlots_free (n : Nat) (h : (fullSlots n).slotTotal = n) : (fullSlots n).freeSlot = none := by
  rw [State.freeSlot, h, show (fullSlots n).rrec.slots.map (·.1) = List.range n from slotsTo_numbers n]; exact lowestFree_range n

/-! ## The check of commands -/

/-- One ill-formed command for each check: each is refused. -/
theorem test_illFormed :
    [ Instr.memTrainingDone [0, 1, 2, 3, 0] 4, .memTrainingDone [] 5, .functionEnable { node := 5 } 0, .functionDisable { route := .mgmt, node := 4096 } 0,
      .tileCommit (2 ^ 64) false, .coldStart [{ addr := 64000000 }], .updateWriteDone true [{ addr := 64000000 }], .toleranceReport (2 ^ 32) 0, .toleranceReport 0 (2 ^ 32), .thmSample [] [], .thmSample (List.replicate 48 none) (List.replicate 5 none),
      .deviceRailCompare [], .dictionaryTick [⟨{ node := 1 }, .unknown⟩], .dictionaryTick [⟨{}, .read 65536 0 false⟩], .dictRead { node := 1 } 0 0 false,
      .dictRead {} 65536 0 false, .dictRead {} 0 256 false, .dictWrite { node := 1 } 0 0 [], .dictWrite {} 0 256 [],
      .domainOpen { node := 1 } 0 0 false false 0, .domainOpen {} 65536 0 false false 0, .domainOpen {} 0 0 false false (2 ^ 32), .domainData { node := 1 } 0 0 0 [] none,
      .domainData {} 256 0 0 [] none, .domainData {} 0 (2 ^ 32) 0 [] none, .domainData {} 0 0 524289 [] none, .domainClose { node := 1 } 0 0 none, .domainClose {} 256 0 none,
      .domainClose {} 0 (2 ^ 32) none, .domainAbort { node := 1 } 0, .domainAbort {} 256, .domainTimeout 256, .vipexKeyWrite { node := 1 } [],
      .streamSourceWrite { node := 1 } 0, .streamSourceWrite {} 256, .timeActionCancel { node := 1 } 0, .timeActionCancel {} (2 ^ 32),
      .ethFrameRx { port := 0, vlan := 4096 }, .ethFrameRx { port := 0, buf := some (32, 64) }, .ethFrameRx { port := 0, srcPort := 65536 }, .portLinkChange 0 4, .segmentDescriptorCopy [] .error, .frameDescriptorTake [], .reg64LowRead 65536, .reg64LowRead 4,
      .registerWrite 65536 0, .registerWrite 2 0, .apertureRead (2 ^ 33) 1 [] [], .apertureWrite (2 ^ 33) [0#8] ].all (fun c => !wellFormed c) = true := by
  decide +kernel

/-- The same commands within their bounds pass. -/
theorem test_wellFormed :
    [ Instr.memTrainingDone [3] 4, .functionEnable { route := .mgmt, node := 4095 } 16, .tileCommit (2 ^ 64 - 1) false, .thmSample (List.replicate 48 none) [],
      .deviceRailCompare (List.replicate 11 0), .dictRead {} 65535 255 true, .domainClose {} 255 0 none, .portLinkChange 2 3, .reg64LowRead 0x418, .apertureRead (2 ^ 33 - 1) 1 [] [],
      .coldStart [{ addr := 63999999 }], .epoch 0 ].all wellFormed = true := by
  decide +kernel

/-! ## Worked examples of the spec -/

/-- The budgets of R191's table at 60 Hz: E without and with the refresh pre-warning. -/
theorem test_budgets : (budgetOf (1, 60) 895, budgetOf (1, 60) 790) = (21703750, 19157500) := by decide +kernel

/-- The unit of the worked budget of 07_admission.md: S 159,744, m 13, 15 tiles, 8 Figures, 64 clusters, H4. -/
theorem test_unit_cost : unitCost .full { l := 0, c := 64, g := 2560, e := 0 } { bin := 0, rect := {}, s := 159744, m := 13, n := 15, f := 8 } = 10088 := by decide +kernel

/-- The K of that example: 129,600 such units on 64 clusters. -/
theorem test_frame_cost : costOf 64 (129600 * 10088) 10088 = 20456568 := by decide +kernel

/-- The CRC-32 check value of R450, over "123456789". -/
theorem test_crc_check : crcResult { on with atl := { crc := [{}, {}, {}, { reg := crcFeed (crcPoly 3) 0xFFFFFFFF [0x31#8, 0x32#8, 0x33#8, 0x34#8, 0x35#8, 0x36#8, 0x37#8, 0x38#8, 0x39#8] }] } } 3 = 0xCBF43926 := by
  decide +kernel

/-- The lattice position of the worked example of 05_ray_calibration.md. -/
theorem test_lattice_position : (latPos 15360 511 30720, latPos 8640 255 17280) = ((255, 33313), (127, 33251)) := by decide +kernel

/-- Its thermal terms at 31 °C. -/
theorem test_thermal_terms : thermTerms { tRef := 400, kPitch := 53687, kGap := 168 } 496 = (322122, 1008) := by decide +kernel

/-- Its subpixel centre in 2^-24 mm: green of pixel (15,360, 8,640). -/
theorem test_subpixel : subpixelCentre false 1048576 1048576 15360 8640 1 = (16106651648, 9060220928) := by decide +kernel

/-- The first slot and the ring entry of the worked example of 16_audio.md. -/
theorem test_audio_slot : (gridSlot 1750000000123456789 48000, gridSlot 1750000000123456789 48000 % ringFrames) = (84000000005926, 612134) := by decide +kernel

/-- The scan group clock of the full panel, 514.8 MHz (01_architecture.md), and its line of 69,120 bytes (R227). -/
theorem test_panel : (State.reset.groupClock false, State.reset.lineBytes false) = (514800000, 69120) := by decide +kernel

/-- The unused curve of a full-scale value at 12 bits is the top code (R245, R246). -/
theorem test_curve_top : curveCode [] 0 0 65535 12 = 4095 := by decide +kernel

/-! ## Small steps -/

/-- A completion entry of 64 bytes is laid out as R321 says: kind, phase, status, tag. -/
theorem test_completion : ((cplBytes { kind := .presented, status := 0x0801, tag := 7 } true).take 8).length = 8 ∧ fieldN (cplBytes { kind := .presented, status := 0x0801, tag := 7 } true) 2 2 = 0x0801 := by
  decide +kernel

/-- IRQ_STATUS_CLEAR clears the bits written 1 and no other (R326). -/
theorem test_irq_clear : gives (.irqStatusClear 5) { on with hif := { irqStatus := 0x87 } } fun t => t.hif.irqStatus = 0x82 := ⟨_, rfl, by decide +kernel⟩

/-- SEG_DOORBELL takes an index below the ring's size, and ignores one at it (R317). -/
theorem test_doorbell : gives (.segDoorbell 15) rings (fun t => t.hif.seg.tail = 15) ∧ gives (.segDoorbell 16) rings fun t => t.hif.seg.tail = 1 ∧ t.hif.lastError = 0x010B :=
  ⟨⟨_, rfl, by decide +kernel⟩, ⟨_, rfl, by decide +kernel⟩⟩

/-- The front of the queue runs, and the rest stays. -/
theorem test_step : (match step { on with pending := [.irqMaskWrite 3, .coldStart []] } with | .next t => t.hif.irqMask == 3 && t.pending == [.coldStart []] | _ => false) = true := by
  decide +kernel

/-- A step on an empty queue is one nanosecond. -/
theorem test_idle : (match step up with | .next t => t.clk.now == 1 && t.clk.disp == 2 ^ 32 | _ => false) = true := by decide +kernel

/-- The reset state: the die held, nothing waiting (R507). -/
theorem test_reset : State.reset.die = .inReset ∧ State.reset.pending = [] ∧ Memory.wf State.reset = true := by decide +kernel

/-! ## States that meet the hypotheses of the statements -/

theorem witness_StartsAndResets :
    (∃ (s : State) (ue : List NorUe), s.die = Die.inReset) ∧
    (∃ (s : State), s.die ≠ Die.inReset) ∧
    (∃ (s : State), s.die = Die.inReset) ∧
    (∃ (s : State) (t0 : Nat) (ue : List NorUe), s.thm.belowSince = some t0 ∧ s.die = Die.stopped ∧ s.stop = StopCause.trip ∧ (s.elapseTo (t0 + 60000000000)).recentRestarts < (s.elapseTo (t0 + 60000000000)).nat O.thmAutoRestart) ∧
    (∃ (s : State) (t0 : Nat) (ue : List NorUe), s.thm.belowSince = some t0 ∧ s.die = Die.stopped ∧ s.stop = StopCause.trip ∧ (s.elapseTo (t0 + 60000000000)).nat O.thmAutoRestart ≤ (s.elapseTo (t0 + 60000000000)).recentRestarts) :=
  ⟨⟨({ } : State), ([⟨0x10000, .newest⟩] : List NorUe), by decide +kernel⟩,
   ⟨up, by decide +kernel⟩,
   ⟨({ } : State), by decide +kernel⟩,
   ⟨({ on with die := .stopped, stop := .trip, thm := { belowSince := some 5 } }.put O.thmAutoRestart 1), 5, ([] : List NorUe), by decide +kernel⟩,
   ⟨({ on with die := .stopped, stop := .trip, thm := { belowSince := some 5, restarts := [4, 5] } }.put O.thmAutoRestart 2), 5, ([] : List NorUe), by decide +kernel⟩⟩

theorem witness_MemoryStarts :
    (∃ (s : State) (failed : List (Fin 4)) (answered : Nat), s.die = Die.running ∧ s.nat O.memState = 0 ∧ s.mem.filling = false ∧ s.nat O.atlState ≠ 4 ∧ answered = s.nat O.hbmStackCount ∧ List.filter (fun i => failed.any fun f => ↑f == i) (List.range s.stackCount) = []) ∧
    (∃ (s : State) (failed : List (Fin 4)) (answered : Nat), s.die = Die.running ∧ s.nat O.memState = 0 ∧ s.mem.filling = false ∧ s.nat O.atlState ≠ 4 ∧ answered = s.nat O.hbmStackCount ∧ List.filter (fun i => failed.any fun f => ↑f == i) (List.range s.stackCount) ≠ [] ∧ (∀ (i : Nat), i ∈ List.filter (fun i => failed.any fun f => ↑f == i) (List.range s.stackCount) → (s.stack i).retrained = false)) ∧
    (∃ (s : State) (failed : List (Fin 4)) (answered : Nat), s.die = Die.running ∧ s.nat O.memState = 0 ∧ s.mem.filling = false ∧ s.nat O.atlState ≠ 4 ∧ (answered ≠ s.nat O.hbmStackCount ∨ ∃ i, i ∈ List.filter (fun i => failed.any fun f => ↑f == i) (List.range s.stackCount) ∧ (s.stack i).retrained = true)) ∧
    (∃ (s : State), s.die = Die.running ∧ s.mem.filling = true) ∧
    (∃ (s : State) (i : Fin 32), s.die = Die.running ∧ ↑i < s.isl.length) :=
  ⟨⟨up, [], 4, by decide +kernel⟩,
   ⟨(up.put O.hbmStackCount 4), [3], 4, by decide +kernel⟩,
   ⟨(up.put O.hbmStackCount 4), [3, 3], 3, by decide +kernel⟩,
   ⟨{ up with clk := { now := 5000 }, hbm := [(1, 5#8)], mem := { up.mem with filling := true } }, by decide +kernel⟩,
   ⟨{ up with isl := List.replicate 32 { pow := .powering } }, 5, by decide +kernel⟩⟩

theorem witness_MemoryIdles :
    (∃ (s : State) (fa : Nat) (fb : Nat), s.die = Die.running) ∧
    (∃ (s : State) (i : Fin 4), s.die = Die.running ∧ s.nat O.memState = 1 ∧ ↑i < s.stackCount ∧ ↑i < s.mem.hbmStacks.length ∧ s.headState 0 ≠ 2 ∧ s.headState 1 ≠ 2 ∧ s.mem.tol = (4294967295, 4294967295)) ∧
    (∃ (s : State) (ue : List Nat) (ce : List Nat), s.die = Die.running ∧ s.nat O.memState = 1) :=
  ⟨⟨up, 5, 6, by decide +kernel⟩,
   ⟨(up.put O.memState 1), 3, by decide +kernel⟩,
   ⟨(up.put O.memState 1), [0, 4294967296, 64424509440], [], by decide +kernel⟩⟩

theorem witness_ApertureRead :
    (∃ (s : State) (off : Nat) (n : Nat) (ue : List Nat) (ce : List Nat), s.die = Die.running) ∧
    (∃ (s : State) (v : W64), s.die = Die.running) :=
  ⟨⟨up, 0, 5, [], [], by decide +kernel⟩,
   ⟨up, 0xFFFFFFFFFFFFFFFF#64, by decide +kernel⟩⟩

theorem witness_ApertureWrite : ∃ (s : State) (off : Nat) (data : Bytes), s.die = Die.running ∧ memOk s.hbm = true :=
  ⟨up, 0, [1#8], by decide +kernel⟩

theorem witness_HostRings :
    (∃ (s : State) (on : Bool), s.die = Die.running) ∧
    (∃ (s : State) (v : W32), s.die = Die.running ∧ BitVec.toNat v % 65536 < s.hif.seg.size) ∧
    (∃ (s : State) (v : W32), s.die = Die.running ∧ BitVec.toNat v % 65536 < s.hif.fdr.size) ∧
    (∃ (s : State) (v : W32), s.die = Die.running ∧ BitVec.toNat v % 65536 < s.hif.cpl.size) ∧
    (∃ (s : State) (v : W32), s.die = Die.running ∧ s.hif.hostSilent = false ∧ s.hif.seg.size ≤ BitVec.toNat v % 65536) ∧
    (∃ (s : State) (v : W32), s.die = Die.running ∧ s.hif.hostSilent = false ∧ s.hif.fdr.size ≤ BitVec.toNat v % 65536) ∧
    (∃ (s : State) (v : W32), s.die = Die.running ∧ s.hif.hostSilent = false ∧ s.hif.cpl.size ≤ BitVec.toNat v % 65536) ∧
    (∃ (s : State) (v : W32), s.die = Die.running ∧ s.hif.seg.en = false ∧ (¬∃ k, k ∈ List.range 17 ∧ 4 ≤ k ∧ BitVec.toNat v = 2 ^ k)) ∧
    (∃ (s : State) (v : W32), s.die = Die.running ∧ s.hif.seg.en = false ∧ (∃ k, k ∈ List.range 17 ∧ 4 ≤ k ∧ BitVec.toNat v = 2 ^ k)) ∧
    (∃ (s : State) (v : W32), s.die = Die.running ∧ s.hif.seg.en = true) :=
  ⟨⟨up, true, by decide +kernel⟩,
   ⟨rings, 15, by decide +kernel⟩,
   ⟨rings, 15, by decide +kernel⟩,
   ⟨rings, 15, by decide +kernel⟩,
   ⟨rings, 16, by decide +kernel⟩,
   ⟨rings, 16, by decide +kernel⟩,
   ⟨rings, 16, by decide +kernel⟩,
   ⟨up, 0xFFFFFFFF#32, by decide +kernel⟩,
   ⟨up, 65536#32, by decide +kernel⟩,
   ⟨rings, 16#32, by decide +kernel⟩⟩

theorem witness_SegmentCopy :
    (∃ (s : State) (desc : Bytes) (dma : Dma), s.die = Die.running ∧ s.hif.seg.en = true ∧ s.hif.seg.head ≠ s.hif.seg.tail ∧ s.linkUp = true ∧ 0 < s.hif.seg.size ∧ segDescOk desc = false) ∧
    (∃ (s : State) (desc : Bytes) (dma : Dma) (data : Bytes), s.die = Die.running ∧ s.hif.seg.en = true ∧ s.hif.seg.head ≠ s.hif.seg.tail ∧ s.linkUp = true ∧ 0 < s.hif.seg.size ∧ segDescOk desc = true ∧ s.source = 0 ∧ s.queueRoom (fieldN desc 8 4) = true ∧ (match dma with | Dma.ok data => if List.length data = fieldN desc 8 4 then some data else none | x => none) = some data) ∧
    (∃ (s : State) (desc : Bytes) (dma : Dma), s.die = Die.running ∧ s.hif.seg.en = true ∧ s.hif.seg.head ≠ s.hif.seg.tail ∧ s.linkUp = true ∧ 0 < s.hif.seg.size ∧ segDescOk desc = true ∧ s.source = 0 ∧ s.queueRoom (fieldN desc 8 4) = true ∧ (match dma with | Dma.ok data => if List.length data = fieldN desc 8 4 then some data else none | x => none) = none) ∧
    (∃ (s : State) (desc : Bytes) (dma : Dma), s.die = Die.running ∧ s.hif.seg.en = true ∧ s.hif.seg.head ≠ s.hif.seg.tail ∧ s.linkUp = true ∧ 0 < s.hif.seg.size ∧ segDescOk desc = true ∧ s.source ≠ 0) ∧
    (∃ (s : State) (desc : Bytes) (dma : Dma), s.die = Die.running ∧ s.hif.seg.en = true ∧ s.hif.seg.head ≠ s.hif.seg.tail ∧ s.linkUp = true ∧ 0 < s.hif.seg.size ∧ segDescOk desc = true ∧ s.source = 0 ∧ s.queueRoom (fieldN desc 8 4) = false) :=
  ⟨⟨rings, (zeros 32), (.ok []), by decide +kernel⟩,
   ⟨rings, (leBytes 8 64 ++ leBytes 4 64 ++ leBytes 2 1 ++ zeros 18), (.ok (zeros 64)), (zeros 64), by decide +kernel⟩,
   ⟨rings, (leBytes 8 64 ++ leBytes 4 64 ++ leBytes 2 1 ++ zeros 18), (.ok (zeros 63)), by decide +kernel⟩,
   ⟨(rings.put O.streamSource 1), (leBytes 8 64 ++ leBytes 4 64 ++ leBytes 2 1 ++ zeros 18), (.ok (zeros 63)), by decide +kernel⟩,
   ⟨{ rings with sdec := { queue := [bigSeg] } }, (leBytes 8 64 ++ leBytes 4 64 ++ leBytes 2 1 ++ zeros 18), .error, rfl, rfl, by decide +kernel, by decide +kernel, by decide +kernel, by decide +kernel, by decide +kernel, queueRoom_big rfl (by decide +kernel)⟩⟩

theorem witness_InterruptAndLatchedReads :
    (∃ (s : State) (t0 : Nat), s.die = Die.running ∧ s.hif.cplFirstAt = some t0) ∧
    (∃ (s : State) (off : Nat) (v : Nat), s.die = Die.running ∧ (off, v) ∈ [(80, s.curEpoch), (768, s.hif.apertureBase), (1024, s.scan.addrA), (1032, s.scan.addrB), (1040, s.scan.active.a), (1048, s.scan.active.b)]) :=
  ⟨⟨{ up with hif := { coalesceDelay := 3, irqMask := 0, cplFirstAt := some 5 } }, 5, by decide +kernel⟩,
   ⟨{ up with hif := { apertureBase := 0x1234567890 } }, 0x300, 0x1234567890, by decide +kernel⟩⟩

theorem witness_CompletionEntry :
    (∃ (s : State), s.die = Die.running ∧ s.hif.cpl.en = true ∧ s.linkUp = true ∧ 0 < s.hif.cpl.size ∧ (s.hif.cpl.tail + 1) % s.hif.cpl.size ≠ s.hif.cpl.head ∧ s.hif.lost ≠ 0) ∧
    (∃ (s : State) (c : Completion) (cs : List Completion), s.die = Die.running ∧ s.hif.cpl.en = true ∧ s.linkUp = true ∧ 0 < s.hif.cpl.size ∧ (s.hif.cpl.tail + 1) % s.hif.cpl.size ≠ s.hif.cpl.head ∧ s.hif.lost = 0 ∧ s.hif.queue = c :: cs) ∧
    (∃ (s : State), s.die = Die.running ∧ s.hif.cpl.en = true ∧ s.linkUp = true ∧ 0 < s.hif.cpl.size ∧ (s.hif.cpl.tail + 1) % s.hif.cpl.size = s.hif.cpl.head) ∧
    (∃ (s : State), s.die = Die.running ∧ s.hif.cpl.en = true ∧ s.linkUp = true ∧ 0 < s.hif.cpl.size ∧ s.hif.lost = 0 ∧ s.hif.queue = []) :=
  ⟨⟨{ rings with hif := { rings.hif with lost := 3, queue := [{ kind := .presented }] } }, by decide +kernel⟩,
   ⟨{ rings with hif := { rings.hif with queue := [{ kind := .presented }] } }, { kind := .presented }, [], by decide +kernel⟩,
   ⟨{ rings with hif := { rings.hif with cpl := { rings.hif.cpl with tail := 15 }, queue := [{ kind := .presented, warnCount := 5, irq := true }] } }, by decide +kernel⟩,
   ⟨rings, by decide +kernel⟩⟩

theorem witness_DirectModeRegisters :
    (∃ (s : State) (on : Bool), s.die = Die.running ∧ on ≠ s.hif.directReq ∧ (on = false ∨ 65535 ≤ s.nat O.plinthMeanDrive)) ∧
    (∃ (s : State) (on : Bool), s.die = Die.running ∧ on = true ∧ s.hif.directReq = false ∧ s.nat O.plinthMeanDrive < 65535) ∧
    (∃ (s : State) (v : W32), s.die = Die.running ∧ s.hif.hostSilent = false ∧ bitOf (BitVec.toNat v) 0 = true ∧ s.hif.direct = false) ∧
    (∃ (s : State) (v : W32), s.die = Die.running ∧ s.hif.hostSilent = false ∧ bitOf (BitVec.toNat v) 0 = false) ∧
    (∃ (s : State) (v : W32), s.die = Die.running ∧ s.hif.hostSilent = false ∧ bitOf (BitVec.toNat v) 0 = true ∧ s.hif.direct = true ∧ pairOk s.activity { a := s.scan.addrA, b := s.scan.addrB, crcSkip := bitOf (BitVec.toNat v) 1 } = false) ∧
    (∃ (s : State) (v : W32), s.die = Die.running ∧ s.hif.hostSilent = false ∧ bitOf (BitVec.toNat v) 0 = true ∧ s.hif.direct = true ∧ pairOk s.activity { a := s.scan.addrA, b := s.scan.addrB, crcSkip := bitOf (BitVec.toNat v) 1 } = true) :=
  ⟨⟨up, true, by decide +kernel⟩,
   ⟨(up.put O.plinthMeanDrive 65534), true, by decide +kernel⟩,
   ⟨up, 1, by decide +kernel⟩,
   ⟨up, 0, by decide +kernel⟩,
   ⟨{ up with hif := { direct := true } }, 1, by decide +kernel⟩,
   ⟨{ up with hif := { direct := true }, scan := { addrA := 0xC0000000, addrB := 0xC0010E00 } }, 3, by decide +kernel⟩⟩

theorem witness_DirectFrames :
    (∃ (s : State) (desc : Bytes), s.die = Die.running ∧ s.hif.fdr.en = true ∧ s.hif.fdr.head ≠ s.hif.fdr.tail ∧ s.hif.held = none ∧ s.linkUp = true ∧ 0 < s.hif.fdr.size ∧ (s.hif.direct = false ∨ s.hif.fdrStale ≠ 0)) ∧
    (∃ (s : State) (desc : Bytes), s.die = Die.running ∧ s.hif.fdr.en = true ∧ s.hif.fdr.head ≠ s.hif.fdr.tail ∧ s.hif.held = none ∧ s.linkUp = true ∧ 0 < s.hif.fdr.size ∧ s.hif.direct = true ∧ s.hif.fdrStale = 0 ∧ commitInstant s (if fieldN desc 16 8 = 0 then earliestDirect s else fieldN desc 16 8) ≤ s.ns) ∧
    (∃ (s : State) (desc : Bytes), s.die = Die.running ∧ s.hif.fdr.en = true ∧ s.hif.fdr.head ≠ s.hif.fdr.tail ∧ s.hif.held = none ∧ s.linkUp = true ∧ 0 < s.hif.fdr.size ∧ s.hif.direct = true ∧ s.hif.fdrStale = 0 ∧ s.ns < commitInstant s (if fieldN desc 16 8 = 0 then earliestDirect s else fieldN desc 16 8) ∧ ((s.curEpoch + 16384 < if fieldN desc 16 8 = 0 then earliestDirect s else fieldN desc 16 8) ∨ ∃ p, p ∈ s.hif.prevFdEpoch ∧ (if fieldN desc 16 8 = 0 then earliestDirect s else fieldN desc 16 8) ≤ p)) ∧
    (∃ (s : State) (desc : Bytes), s.die = Die.running ∧ s.hif.fdr.en = true ∧ s.hif.fdr.head ≠ s.hif.fdr.tail ∧ s.hif.held = none ∧ s.linkUp = true ∧ 0 < s.hif.fdr.size ∧ s.hif.direct = true ∧ s.hif.fdrStale = 0 ∧ s.ns < commitInstant s (if fieldN desc 16 8 = 0 then earliestDirect s else fieldN desc 16 8) ∧ (if fieldN desc 16 8 = 0 then earliestDirect s else fieldN desc 16 8) ≤ s.curEpoch + 16384 ∧ (∀ (p : Nat), p ∈ s.hif.prevFdEpoch → p < if fieldN desc 16 8 = 0 then earliestDirect s else fieldN desc 16 8)) ∧
    (∃ (s : State) (d : FdHeld), s.die = Die.running ∧ s.hif.held = some d ∧ d.committed = false ∧ s.hif.direct = true ∧ 0 < s.hif.fdr.size ∧ pairOk (s.reach (commitInstant s d.epoch)) { a := d.addrA, b := d.addrB, crcSkip := d.crcSkip } = false) ∧
    (∃ (s : State) (d : FdHeld), s.die = Die.running ∧ s.hif.held = some d ∧ d.committed = false ∧ s.hif.direct = true ∧ 0 < s.hif.fdr.size ∧ pairOk (s.reach (commitInstant s d.epoch)) { a := d.addrA, b := d.addrB, crcSkip := d.crcSkip } = true) :=
  ⟨⟨rings, (zeros 32), by decide +kernel⟩,
   ⟨{ rings with clk := { epoch := 20, disp := 2 ^ 63 }, hif := { rings.hif with direct := true } }, (zeros 16 ++ leBytes 8 1 ++ zeros 8), by decide +kernel⟩,
   ⟨{ rings with hif := { rings.hif with direct := true } }, (zeros 16 ++ leBytes 8 17000 ++ zeros 8), by decide +kernel⟩,
   ⟨{ rings with hif := { rings.hif with direct := true } }, (zeros 16 ++ leBytes 8 700 ++ leBytes 4 77 ++ leBytes 2 3 ++ zeros 2), by decide +kernel⟩,
   ⟨{ rings with hif := { rings.hif with direct := true, held := some { epoch := 5 } } }, { epoch := 5 }, by decide +kernel⟩,
   ⟨{ rings with hif := { rings.hif with direct := true, held := some { epoch := 5, addrA := 0xC0000000, addrB := 0xC0010E00, crcSkip := true } } }, { epoch := 5, addrA := 0xC0000000, addrB := 0xC0010E00, crcSkip := true }, by decide +kernel⟩⟩

theorem witness_PcieEvents : ∃ (s : State) (kind : PcieReset), s.die = Die.running :=
  ⟨{ rings with hif := { rings.hif with direct := true, armed := true, apertureBase := 7 } }, .linkDown, by decide +kernel⟩

theorem witness_FunctionTransitionsEnd :
    (∃ (s : State) (p : Fin 3), s.die = Die.running ∧ s.nat (O.portState ↑p) = 1 ∧ (p = 1 → s.islandUp 3 = true) ∧ (p = 2 → s.islandUp 4 = true)) ∧
    (∃ (s : State) (p : Fin 8), s.die = Die.running ∧ s.nat (O.audPortState ↑p) = 1 ∧ s.islandUp 28 = true) ∧
    (∃ (s : State) (d0 : DriveProbe) (d1 : DriveProbe), s.die = Die.running ∧ s.nat O.clpState = 1) ∧
    (∃ (s : State), s.die = Die.running ∧ s.nat O.overlayState = 1 ∧ s.islandUp 27 = true) ∧
    (∃ (s : State) (p : Fin 3), s.die = Die.running ∧ s.nat (O.portState ↑p) = 3) ∧
    (∃ (s : State) (p : Fin 8), s.die = Die.running ∧ s.nat (O.audPortState ↑p) = 3) ∧
    (∃ (s : State), s.die = Die.running ∧ s.nat O.clpState = 3) ∧
    (∃ (s : State), s.die = Die.running ∧ s.nat O.overlayState = 3) :=
  ⟨⟨(up.put (O.portState 1) 1), 1, by decide +kernel⟩,
   ⟨(up.put (O.audPortState 7) 1), 7, by decide +kernel⟩,
   ⟨(up.put O.clpState 1), { }, { }, by decide +kernel⟩,
   ⟨{ up.put O.overlayState 1 with hbm := memWrite [] 0x80000000 [1#8, 2#8] }, by decide +kernel⟩,
   ⟨(up.put (O.portState 1) 3), 1, by decide +kernel⟩,
   ⟨{ up.put (O.audPortState 7) 3 with held := [.aud 7] }, 7, by decide +kernel⟩,
   ⟨{ up.put O.clpState 3 with held := [.clip] }, by decide +kernel⟩,
   ⟨{ up.put O.overlayState 3 with held := [.overlay], rasp := { tail := 3 } }, by decide +kernel⟩⟩

theorem witness_CaptureRuns :
    (∃ (s : State), s.die = Die.running ∧ s.nat O.captureState = 1 ∧ s.captureBlocked 5 = none) ∧
    (∃ (s : State) (code : Nat), s.die = Die.running ∧ s.nat O.captureState = 1 ∧ s.captureBlocked 5 = some code) ∧
    (∃ (s : State) (t0 : Nat), s.die = Die.running ∧ s.nat O.captureState = 2 ∧ s.cal.cap.confirmed = false ∧ s.cal.cap.shownAt = some t0) :=
  ⟨⟨calm, by decide +kernel⟩,
   ⟨(up.put O.captureState 1), 0x0710, by decide +kernel⟩,
   ⟨{ up.put O.captureState 2 with cal := { cap := { confirmed := false, shownAt := some 5, valid := true, step := zeros 16 } } }, 5, by decide +kernel⟩⟩

theorem witness_Segments :
    (∃ (s : State) (g : Seg) (gs : List Seg) (ue : List Nat) (ce : List Nat), s.die = Die.running ∧ s.sdec.queue = g :: gs ∧ s.sdec.inSeg = false ∧ s.sdec.stalled = none ∧ s.islandUp 6 = true ∧ (segHeaderOk g.transport g.bytes && !ue.any fun x => decide (x < 24)) = false) ∧
    (∃ (s : State) (g : Seg) (gs : List Seg) (ue : List Nat) (ce : List Nat), s.die = Die.running ∧ s.sdec.queue = g :: gs ∧ s.sdec.inSeg = false ∧ s.sdec.stalled = none ∧ s.islandUp 6 = true ∧ (segHeaderOk g.transport g.bytes && !ue.any fun x => decide (x < 24)) = true ∧ bitOf (fieldN g.bytes 5 1) 0 = true) ∧
    (∃ (s : State) (g : Seg) (gs : List Seg) (ue : List Nat) (ce : List Nat), s.die = Die.running ∧ s.sdec.queue = g :: gs ∧ s.sdec.inSeg = false ∧ s.sdec.stalled = none ∧ s.islandUp 6 = true ∧ (segHeaderOk g.transport g.bytes && !ue.any fun x => decide (x < 24)) = true ∧ bitOf (fieldN g.bytes 5 1) 0 = false ∧ s.sdec.curId = some (segId g.bytes) ∧ (segSeq g.bytes + 2 ^ 32 - s.sdec.expected) % 2 ^ 32 = 0) ∧
    (∃ (s : State) (g : Seg) (gs : List Seg) (ue : List Nat) (ce : List Nat), s.die = Die.running ∧ s.sdec.queue = g :: gs ∧ s.sdec.inSeg = false ∧ s.sdec.stalled = none ∧ s.islandUp 6 = true ∧ (segHeaderOk g.transport g.bytes && !ue.any fun x => decide (x < 24)) = true ∧ bitOf (fieldN g.bytes 5 1) 0 = false ∧ s.sdec.curId = some (segId g.bytes) ∧ 1 ≤ (segSeq g.bytes + 2 ^ 32 - s.sdec.expected) % 2 ^ 32 ∧ (segSeq g.bytes + 2 ^ 32 - s.sdec.expected) % 2 ^ 32 < 2 ^ 31) ∧
    (∃ (s : State) (g : Seg) (gs : List Seg) (ue : List Nat) (ce : List Nat), s.die = Die.running ∧ s.sdec.queue = g :: gs ∧ s.sdec.inSeg = false ∧ s.sdec.stalled = none ∧ s.islandUp 6 = true ∧ (segHeaderOk g.transport g.bytes && !ue.any fun x => decide (x < 24)) = true ∧ bitOf (fieldN g.bytes 5 1) 0 = false ∧ s.sdec.curId = some (segId g.bytes) ∧ 2 ^ 31 ≤ (segSeq g.bytes + 2 ^ 32 - s.sdec.expected) % 2 ^ 32) ∧
    (∃ (s : State) (g : Seg) (gs : List Seg) (ue : List Nat) (ce : List Nat), s.die = Die.running ∧ s.sdec.queue = g :: gs ∧ s.sdec.inSeg = false ∧ s.sdec.stalled = none ∧ s.islandUp 6 = true ∧ (segHeaderOk g.transport g.bytes && !ue.any fun x => decide (x < 24)) = true ∧ bitOf (fieldN g.bytes 5 1) 0 = false ∧ s.sdec.curId ≠ some (segId g.bytes)) ∧
    (∃ (s : State) (g : Seg) (gs : List Seg) (ue : List Nat) (ce : List Nat) (u : Nat), s.die = Die.running ∧ s.sdec.queue = g :: gs ∧ s.sdec.inSeg = false ∧ s.sdec.stalled = none ∧ s.islandUp 6 = true ∧ u ∈ ue) :=
  ⟨⟨{ up with sdec := { queue := [{ transport := 0, bytes := [0#8] }] } }, { transport := 0, bytes := [0#8] }, [], [], [], by decide +kernel⟩,
   ⟨{ up with sdec := { queue := [segOf 1 7 0 0 (zeros 12)] }, figs := [{ slot := 0, id := 5, ctx := { } }] }, (segOf 1 7 0 0 (zeros 12)), [], [], [], by decide +kernel⟩,
   ⟨{ up with sdec := { curId := some 7, expected := 3, queue := [segOf 0 7 3 0 (zeros 12)] } }, (segOf 0 7 3 0 (zeros 12)), [], [24], [], by decide +kernel⟩,
   ⟨{ up with sdec := { curId := some 7, expected := 3, queue := [segOf 0 7 4 0 (zeros 12)] } }, (segOf 0 7 4 0 (zeros 12)), [], [24], [], by decide +kernel⟩,
   ⟨{ up with sdec := { curId := some 7, expected := 3, queue := [segOf 0 7 2 0 (zeros 12)] } }, (segOf 0 7 2 0 (zeros 12)), [], [24], [], by decide +kernel⟩,
   ⟨{ up with sdec := { curId := some 8, expected := 3, queue := [segOf 0 7 2 0 (zeros 12)] } }, (segOf 0 7 2 0 (zeros 12)), [], [24], [], by decide +kernel⟩,
   ⟨{ up with sdec := { curId := some 7, expected := 3, queue := [segOf 0 7 3 0 (zeros 12)] } }, (segOf 0 7 3 0 (zeros 12)), [], [24, 30], [7], 30, by decide +kernel⟩⟩

theorem witness_StreamSections :
    (∃ (s : State) (ty : Nat) (sec : Bytes), atSection s ty sec ∧ ty = 7) ∧
    (∃ (s : State) (ty : Nat) (sec : Bytes), atSection s ty sec ∧ (ty = 0 ∨ 8 ≤ ty ∧ ty < 128)) ∧
    (∃ (s : State) (ty : Nat) (sec : Bytes), atSection s ty sec ∧ 128 ≤ ty) ∧
    (∃ (s : State) (c : Instr) (ty : Nat), s.die = Die.running ∧ s.canParse = true ∧ s.sdec.rest ≠ [] ∧ fieldN s.sdec.rest 0 1 = ty ∧ (c, ty) ∈ [(Instr.frameMarker, 1), (Instr.figureDefine, 2), (Instr.figureModify, 3), (Instr.figureRetire, 4), (Instr.tileUpdate, 5), (Instr.audioBlock, 6), (Instr.paddingSection, 7)] ∧ (c = Instr.frameMarker → s.adm.waiting.length < 2 ∧ s.islandUp 8 = true) ∧ (secLen s.sdec.rest < 12 ∨ secLen s.sdec.rest % 4 ≠ 0 ∨ List.length s.sdec.rest < secLen s.sdec.rest)) ∧
    (∃ (s : State) (c : Instr) (ty : Nat), s.die = Die.running ∧ s.canParse = true ∧ s.sdec.rest ≠ [] ∧ fieldN s.sdec.rest 0 1 = ty ∧ (c, ty) ∈ [(Instr.frameMarker, 1), (Instr.figureDefine, 2), (Instr.figureModify, 3), (Instr.figureRetire, 4), (Instr.tileUpdate, 5), (Instr.audioBlock, 6), (Instr.paddingSection, 7)] ∧ (c = Instr.frameMarker → s.adm.waiting.length < 2 ∧ s.islandUp 8 = true) ∧ 12 ≤ secLen s.sdec.rest ∧ secLen s.sdec.rest % 4 = 0 ∧ secLen s.sdec.rest ≤ List.length s.sdec.rest ∧ s.secCrcOk (List.take (secLen s.sdec.rest) s.sdec.rest) = false) :=
  ⟨⟨(inSec (secOf 7 (zeros 4)) up), 7, (secOf 7 (zeros 4)), by unfold atSection; decide +kernel⟩,
   ⟨(inSec (secOf 0 [] ++ secOf 7 []) up), 0, (secOf 0 []), by unfold atSection; decide +kernel⟩,
   ⟨(inSec (secOf 128 (zeros 4)) up), 128, (secOf 128 (zeros 4)), by unfold atSection; decide +kernel⟩,
   ⟨(inSec ((secOf 7 (zeros 4)).take 14) up), .paddingSection, 7, by decide +kernel⟩,
   ⟨(inSec ((secOf 1 (zeros 4)).take 12 ++ zeros 4) up), .frameMarker, 1, by decide +kernel⟩⟩

theorem witness_FigureDefine :
    (∃ (s : State) (sec : Bytes), atSection s 2 sec ∧ List.length sec ≠ 144 + 64 * fieldN sec 13 1) ∧
    (∃ (s : State) (sec : Bytes) (code : Nat), atSection s 2 sec ∧ List.length sec = 144 + 64 * fieldN sec 13 1 ∧ figCheck (List.filter (fun g => g.id != fieldN sec 8 4) s.figs) (parseCtx (cut sec 12 128)) (parseLayers (cut sec 140 (64 * fieldN sec 13 1)) (fieldN sec 13 1)) = some code) ∧
    (∃ (s : State) (sec : Bytes), atSection s 2 sec ∧ List.length sec = 144 + 64 * fieldN sec 13 1 ∧ figCheck (List.filter (fun g => g.id != fieldN sec 8 4) s.figs) (parseCtx (cut sec 12 128)) (parseLayers (cut sec 140 (64 * fieldN sec 13 1)) (fieldN sec 13 1)) = none ∧ State.dirNeed (fun k => match s.fig? (fieldN sec 8 4) with | none => none | some f => dirDims f.ctx f.layers k) (dirDims (parseCtx (cut sec 12 128)) (parseLayers (cut sec 140 (64 * fieldN sec 13 1)) (fieldN sec 13 1))) ≤ s.dirFree ∧ ((s.fig? (fieldN sec 8 4)).isSome = true ∨ (lowestFree 16384 (List.map (fun x => x.slot) s.figs)).isSome = true)) ∧
    (∃ (s : State) (sec : Bytes), atSection s 2 sec ∧ List.length sec = 144 + 64 * fieldN sec 13 1 ∧ figCheck (List.filter (fun g => g.id != fieldN sec 8 4) s.figs) (parseCtx (cut sec 12 128)) (parseLayers (cut sec 140 (64 * fieldN sec 13 1)) (fieldN sec 13 1)) = none ∧ s.dirFree < State.dirNeed (fun k => match s.fig? (fieldN sec 8 4) with | none => none | some f => dirDims f.ctx f.layers k) (dirDims (parseCtx (cut sec 12 128)) (parseLayers (cut sec 140 (64 * fieldN sec 13 1)) (fieldN sec 13 1))) ∧ ((s.fig? (fieldN sec 8 4)).isSome = true ∨ (lowestFree 16384 (List.map (fun x => x.slot) s.figs)).isSome = true)) ∧
    (∃ (s : State) (sec : Bytes), atSection s 2 sec ∧ sec.length = 144 + 64 * fieldN sec 13 1 ∧ figCheck (List.filter (fun g => g.id != fieldN sec 8 4) s.figs) (parseCtx (cut sec 12 128)) (parseLayers (cut sec 140 (64 * fieldN sec 13 1)) (fieldN sec 13 1)) = none ∧ s.fig? (fieldN sec 8 4) = none ∧ lowestFree 16384 (s.figs.map (·.slot)) = none) :=
  ⟨⟨(inSec (secOf 2 (zeros 128)) up), (secOf 2 (zeros 128)), by unfold atSection; decide +kernel⟩,
   ⟨(inSec (defineOf 9 (goodCtx 0) []) up), (defineOf 9 (goodCtx 0) []), 0x0603, by unfold atSection; decide +kernel⟩,
   ⟨(inSec (defineOf 9 (goodCtx 1) [goodLayer 512 512]) (withFig up)), (defineOf 9 (goodCtx 1) [goodLayer 512 512]), by unfold atSection; decide +kernel⟩,
   ⟨(inSec (defineOf 9 (goodCtx 1) [goodLayer 512 512]) { withFig up with rrec := { dirs := [{ id := 0, figId := 5, layer := 0, tilesX := 2, tilesY := 2, units := List.range 65300, allocOrd := 0 }] } }), (defineOf 9 (goodCtx 1) [goodLayer 512 512]), by unfold atSection; decide +kernel⟩,
   ⟨fullFigs 16384, defineOf 9 (goodCtx 1) [goodLayer 2 2], by unfold atSection; decide +kernel, by decide +kernel, by decide +kernel, by decide +kernel, fullFigs_slots 16384⟩⟩

theorem witness_FigureChanges :
    (∃ (s : State) (sec : Bytes), atSection s 4 sec ∧ List.length sec = 16 ∧ s.fig? (fieldN sec 8 4) = none) ∧
    (∃ (s : State) (sec : Bytes), atSection s 4 sec ∧ List.length sec = 16 ∧ (s.fig? (fieldN sec 8 4)).isSome = true) ∧
    (∃ (s : State) (sec : Bytes), atSection s 3 sec ∧ 24 ≤ List.length sec ∧ fieldN sec 12 4 ≠ 0 ∧ fieldN sec 12 4 < 512 ∧ List.length sec = 20 + modifySize (fieldN sec 12 4) (List.take (List.length sec - 20) (List.drop 16 sec)) ∧ s.fig? (fieldN sec 8 4) = none) ∧
    (∃ (s : State) (sec : Bytes) (f : Figure) (c : Ctx) (ls : List Layer), atSection s 3 sec ∧ 24 ≤ List.length sec ∧ fieldN sec 12 4 ≠ 0 ∧ fieldN sec 12 4 < 512 ∧ List.length sec = 20 + modifySize (fieldN sec 12 4) (List.take (List.length sec - 20) (List.drop 16 sec)) ∧ s.fig? (fieldN sec 8 4) = some f ∧ applyModify (fieldN sec 12 4) (List.take (List.length sec - 20) (List.drop 16 sec)) f = Except.ok (c, ls) ∧ figCheck (List.filter (fun g => g.id != fieldN sec 8 4) s.figs) c ls = none ∧ State.dirNeed (dirDims f.ctx f.layers) (dirDims c ls) ≤ s.dirFree) ∧
    (∃ (s : State) (sec : Bytes) (f : Figure) (c : Ctx) (ls : List Layer) (code : Nat), atSection s 3 sec ∧ 24 ≤ List.length sec ∧ fieldN sec 12 4 ≠ 0 ∧ fieldN sec 12 4 < 512 ∧ List.length sec = 20 + modifySize (fieldN sec 12 4) (List.take (List.length sec - 20) (List.drop 16 sec)) ∧ s.fig? (fieldN sec 8 4) = some f ∧ applyModify (fieldN sec 12 4) (List.take (List.length sec - 20) (List.drop 16 sec)) f = Except.ok (c, ls) ∧ figCheck (List.filter (fun g => g.id != fieldN sec 8 4) s.figs) c ls = some code) ∧
    (∃ (s : State) (sec : Bytes) (f : Figure) (code : Nat), atSection s 3 sec ∧ 24 ≤ List.length sec ∧ fieldN sec 12 4 ≠ 0 ∧ fieldN sec 12 4 < 512 ∧ List.length sec = 20 + modifySize (fieldN sec 12 4) (List.take (List.length sec - 20) (List.drop 16 sec)) ∧ s.fig? (fieldN sec 8 4) = some f ∧ applyModify (fieldN sec 12 4) (List.take (List.length sec - 20) (List.drop 16 sec)) f = Except.error code) :=
  ⟨⟨(inSec (secOf 4 (leBytes 4 9)) (withFig up)), (secOf 4 (leBytes 4 9)), by unfold atSection; decide +kernel⟩,
   ⟨(inSec (secOf 4 (leBytes 4 5)) (withFig up)), (secOf 4 (leBytes 4 5)), by unfold atSection; decide +kernel⟩,
   ⟨(inSec (secOf 3 (leBytes 4 9 ++ leBytes 4 2 ++ leBytes 4 300)) (withFig up)), (secOf 3 (leBytes 4 9 ++ leBytes 4 2 ++ leBytes 4 300)), by unfold atSection; decide +kernel⟩,
   ⟨(inSec (secOf 3 (leBytes 4 5 ++ leBytes 4 2 ++ leBytes 4 300)) (withFig up)), (secOf 3 (leBytes 4 5 ++ leBytes 4 2 ++ leBytes 4 300)), { slot := 0, id := 5, ctx := goodCtx 1, layers := [goodLayer 2 2], dirs := [some 0] }, { goodCtx 1 with opacity := 300 }, ([goodLayer 2 2] ++ List.replicate 31 ({ } : Layer)), by unfold atSection; decide +kernel, by decide +kernel, by decide +kernel, by decide +kernel, by decide +kernel, by decide +kernel, rfl, by decide +kernel, by decide +kernel⟩,
   ⟨(inSec (secOf 3 (leBytes 4 5 ++ leBytes 4 2 ++ leBytes 4 1025)) (withFig up)), (secOf 3 (leBytes 4 5 ++ leBytes 4 2 ++ leBytes 4 1025)), { slot := 0, id := 5, ctx := goodCtx 1, layers := [goodLayer 2 2], dirs := [some 0] }, { goodCtx 1 with opacity := 1025 }, ([goodLayer 2 2] ++ List.replicate 31 ({ } : Layer)), 0x0603, by unfold atSection; decide +kernel, by decide +kernel, by decide +kernel, by decide +kernel, by decide +kernel, by decide +kernel, rfl, by decide +kernel⟩,
   ⟨(inSec (secOf 3 (leBytes 4 5 ++ leBytes 4 256 ++ leBytes 4 2 ++ zeros 64)) (withFig up)), (secOf 3 (leBytes 4 5 ++ leBytes 4 256 ++ leBytes 4 2 ++ zeros 64)), fig5, 0x0605, by unfold atSection; decide +kernel, by decide +kernel, by decide +kernel, by decide +kernel, by decide +kernel, by decide +kernel, rfl⟩⟩

theorem witness_TileUpdates :
    (∃ (s : State) (sec : Bytes), atSection s 5 sec ∧ tileFieldsOk sec = false) ∧
    (∃ (s : State) (sec : Bytes), atSection s 5 sec ∧ tileFieldsOk sec = true ∧ s.fig? (fieldN sec 8 4) = none) ∧
    (∃ (s : State) (sec : Bytes) (f : Figure), atSection s 5 sec ∧ tileFieldsOk sec = true ∧ s.fig? (fieldN sec 8 4) = some f ∧ (f.layers[fieldN sec 12 1]? = none ∨ f.dirs[fieldN sec 12 1]?.getD none = none ∨ ∃ l, f.layers[fieldN sec 12 1]? = some l ∧ (l.tilesX ≤ fieldN sec 14 2 ∨ l.tilesY ≤ fieldN sec 16 2))) ∧
    (∃ (s : State) (sec : Bytes) (f : Figure) (l : Layer) (d : Nat), atSection s 5 sec ∧ tileFieldsOk sec = true ∧ s.fig? (fieldN sec 8 4) = some f ∧ f.layers[fieldN sec 12 1]? = some l ∧ f.dirs[fieldN sec 12 1]?.getD none = some d ∧ fieldN sec 14 2 < l.tilesX ∧ fieldN sec 16 2 < l.tilesY ∧ bitOf (fieldN sec 13 1) 0 = true) ∧
    (∃ (s : State) (sec : Bytes) (f : Figure) (l : Layer) (d : Nat) (n : Nat), atSection s 5 sec ∧ tileFieldsOk sec = true ∧ s.fig? (fieldN sec 8 4) = some f ∧ f.layers[fieldN sec 12 1]? = some l ∧ f.dirs[fieldN sec 12 1]?.getD none = some d ∧ fieldN sec 14 2 < l.tilesX ∧ fieldN sec 16 2 < l.tilesY ∧ bitOf (fieldN sec 13 1) 0 = false ∧ lowestFree 16 s.busyDecoders = some n) ∧
    (∃ (s : State) (sec : Bytes) (f : Figure) (l : Layer) (d : Nat), atSection s 5 sec ∧ tileFieldsOk sec = true ∧ s.fig? (fieldN sec 8 4) = some f ∧ f.layers[fieldN sec 12 1]? = some l ∧ f.dirs[fieldN sec 12 1]?.getD none = some d ∧ fieldN sec 14 2 < l.tilesX ∧ fieldN sec 16 2 < l.tilesY ∧ bitOf (fieldN sec 13 1) 0 = false ∧ lowestFree 16 s.busyDecoders = none) ∧
    (∃ (s : State) (dec : Fin 16), s.die = Die.running) ∧
    (∃ (s : State) (u : TileUpd) (n : Nat), s.die = Die.running ∧ s.sdec.stalled = some u ∧ bitOf u.flags 0 = false ∧ lowestFree 16 s.busyDecoders = some n) :=
  ⟨⟨(inSec (tileOf 9 0x80 0 0 1 []) (withFig up)), (tileOf 9 0x80 0 0 1 []), by unfold atSection; decide +kernel⟩,
   ⟨(inSec (tileOf 9 1 0 0 1 (zeros 8 ++ leBytes 4 16 ++ zeros 16)) (withFig up)), (tileOf 9 1 0 0 1 (zeros 8 ++ leBytes 4 16 ++ zeros 16)), by unfold atSection; decide +kernel⟩,
   ⟨(inSec (tileOf 5 1 2 0 1 (zeros 8 ++ leBytes 4 16 ++ zeros 16)) (withFig up)), (tileOf 5 1 2 0 1 (zeros 8 ++ leBytes 4 16 ++ zeros 16)), fig5, by unfold atSection; decide +kernel⟩,
   ⟨(inSec (tileOf 5 1 1 0 1 (zeros 8 ++ leBytes 4 16 ++ leBytes 16 0x0123456789)) (withFig up)), (tileOf 5 1 1 0 1 (zeros 8 ++ leBytes 4 16 ++ leBytes 16 0x0123456789)), fig5, (goodLayer 2 2), 0, by unfold atSection; decide +kernel⟩,
   ⟨(inSec (tileOf 5 0 1 1 1 (zeros 8 ++ leBytes 4 5 ++ zeros 8)) (withFig up)), (tileOf 5 0 1 1 1 (zeros 8 ++ leBytes 4 5 ++ zeros 8)), fig5, (goodLayer 2 2), 0, 0, by unfold atSection; decide +kernel⟩,
   ⟨(inSec (tileOf 5 0 1 1 1 (zeros 8 ++ leBytes 4 5 ++ zeros 8)) (busyDecs (withFig up))), (tileOf 5 0 1 1 1 (zeros 8 ++ leBytes 4 5 ++ zeros 8)), fig5, (goodLayer 2 2), 0, by unfold atSection; decide +kernel⟩,
   ⟨{ up with rrec := { upds := [updOf 3 (some 7) .pending] } }, 7, by decide +kernel⟩,
   ⟨{ up with sdec := { stalled := some (updOf 3 none .pending) } }, (updOf 3 none .pending), 0, by decide +kernel⟩⟩

theorem witness_TileCommit :
    (∃ (s : State) (u : TileUpd), s.die = Die.running ∧ List.find? (fun x => x.ordinal == u.ordinal) s.rrec.upds = some u ∧ s.blocked u = false ∧ u.result = TileResult.failed) ∧
    (∃ (s : State) (u : TileUpd) (ue : Bool), s.die = Die.running ∧ List.find? (fun x => x.ordinal == u.ordinal) s.rrec.upds = some u ∧ s.blocked u = false ∧ u.result ≠ TileResult.failed ∧ u.result ≠ TileResult.pending ∧ s.dir? u.dir = none) ∧
    (∃ (s : State) (u : TileUpd) (d : Dir), s.die = Die.running ∧ List.find? (fun x => x.ordinal == u.ordinal) s.rrec.upds = some u ∧ s.blocked u = false ∧ u.result ≠ TileResult.failed ∧ u.result ≠ TileResult.pending ∧ s.dir? u.dir = some d ∧ (d.entry u.tx u.ty).cur.seqValid = true ∧ (d.entry u.tx u.ty).cur.poisoned = false ∧ newer32 u.seq (d.entry u.tx u.ty).cur.lastSeq = false) ∧
    (∃ (s : State) (u : TileUpd) (d : Dir) (w : Texel), s.die = Die.running ∧ List.find? (fun x => x.ordinal == u.ordinal) s.rrec.upds = some u ∧ s.blocked u = false ∧ u.result ≠ TileResult.failed ∧ u.result ≠ TileResult.pending ∧ s.dir? u.dir = some d ∧ ((d.entry u.tx u.ty).cur.seqValid = false ∨ (d.entry u.tx u.ty).cur.poisoned = true ∨ newer32 u.seq (d.entry u.tx u.ty).cur.lastSeq = true) ∧ s.keeper d (d.entry u.tx u.ty).cur.ordinal u.ordinal = none ∧ u.result = TileResult.fill w) ∧
    (∃ (s : State) (u : TileUpd) (d : Dir) (ws : List Texel) (n : Nat), s.die = Die.running ∧ List.find? (fun x => x.ordinal == u.ordinal) s.rrec.upds = some u ∧ s.blocked u = false ∧ u.result ≠ TileResult.failed ∧ u.result ≠ TileResult.pending ∧ s.dir? u.dir = some d ∧ ((d.entry u.tx u.ty).cur.seqValid = false ∨ (d.entry u.tx u.ty).cur.poisoned = true ∨ newer32 u.seq (d.entry u.tx u.ty).cur.lastSeq = true) ∧ s.keeper d (d.entry u.tx u.ty).cur.ordinal u.ordinal = none ∧ u.result = TileResult.texels ws ∧ s.freeSlot = some n) ∧
    (∃ (s : State) (u : TileUpd) (d : Dir) (f : Nat) (i : Nat) (w : Texel), s.die = Die.running ∧ List.find? (fun x => x.ordinal == u.ordinal) s.rrec.upds = some u ∧ s.blocked u = false ∧ u.result ≠ TileResult.failed ∧ u.result ≠ TileResult.pending ∧ s.dir? u.dir = some d ∧ ((d.entry u.tx u.ty).cur.seqValid = false ∨ (d.entry u.tx u.ty).cur.poisoned = true ∨ newer32 u.seq (d.entry u.tx u.ty).cur.lastSeq = true) ∧ s.keeper d (d.entry u.tx u.ty).cur.ordinal u.ordinal = some f ∧ s.freeRecord = some i ∧ u.result = TileResult.fill w) ∧
    (∃ (s : State) (u : TileUpd) (d : Dir) (w : Texel), s.die = Die.running ∧ List.find? (fun x => x.ordinal == u.ordinal) s.rrec.upds = some u ∧ s.blocked u = false ∧ u.result ≠ TileResult.failed ∧ u.result ≠ TileResult.pending ∧ s.dir? u.dir = some d ∧ u.result = TileResult.fill w ∧ s.keeper d 0 u.ordinal = none) ∧
    (∃ (s : State) (u : TileUpd) (d : Dir) (ws : List Texel), s.die = Die.running ∧ (s.rrec.upds.find? fun x => x.ordinal == u.ordinal) = some u ∧ s.blocked u = false ∧ s.dir? u.dir = some d ∧ (d.entry u.tx u.ty).cur.seqValid = false ∧ u.result = TileResult.texels ws ∧ s.freeSlot = none ∧ s.slotsRetained = 0) :=
  ⟨⟨{ withFig up with rrec := { (withFig up).rrec with upds := [updOf 3 none .failed] } }, (updOf 3 none .failed), by decide +kernel⟩,
   ⟨{ withFig up with rrec := { upds := [updOf 3 none (.fill 5#128)] } }, (updOf 3 none (.fill 5#128)), false, by decide +kernel⟩,
   ⟨(vFig (updOf 3 none (.fill 5#128)) { ordinal := 2, lastSeq := 1, seqValid := true }), (updOf 3 none (.fill 5#128)), (vDir { ordinal := 2, lastSeq := 1, seqValid := true }), by decide +kernel⟩,
   ⟨(vFig (updOf 3 none (.fill 5#128)) { ordinal := 2, lastSeq := 0, seqValid := true, slot := some 4 }), (updOf 3 none (.fill 5#128)), (vDir { ordinal := 2, lastSeq := 0, seqValid := true, slot := some 4 }), 5#128, by decide +kernel⟩,
   ⟨(vFig (updOf 3 none (.texels [7#128])) { ordinal := 2, lastSeq := 0, seqValid := true, slot := some 0 }), (updOf 3 none (.texels [7#128])), (vDir { ordinal := 2, lastSeq := 0, seqValid := true, slot := some 0 }), [7#128], 1, by decide +kernel⟩,
   ⟨{ vFig (updOf 5 none (.fill 5#128)) { ordinal := 2, lastSeq := 0, seqValid := true, slot := some 4 } with adm := { waiting := [{ number := 8, ordinal := 4, epoch := 3 }] } }, (updOf 5 none (.fill 5#128)), (vDir { ordinal := 2, lastSeq := 0, seqValid := true, slot := some 4 }), 8, 0, 5#128, by decide +kernel⟩,
   ⟨(vFig (updOf 3 none (.fill 5#128)) { ordinal := 2, lastSeq := 5, seqValid := true, slot := some 4 }), (updOf 3 none (.fill 5#128)), (vDir { ordinal := 2, lastSeq := 5, seqValid := true, slot := some 4 }), 5#128, by decide +kernel⟩,
   ⟨fullSlots 4718592, updOf 3 none (.texels [7#128]), vDir {}, [7#128], by decide +kernel, by decide +kernel, by decide +kernel, by decide +kernel, by decide +kernel, by decide +kernel, fullSlots_free _ (by decide +kernel), by decide +kernel⟩⟩

theorem witness_FrameMarkers :
    (∃ (s : State) (sec : Bytes), atSection s 1 sec ∧ s.adm.waiting.length < 2 ∧ s.islandUp 8 = true ∧ (¬(List.length sec = 28 ∧ (bitOf (fieldN sec 20 4) 0 = true → fieldN sec 8 8 = 0)))) ∧
    (∃ (s : State) (sec : Bytes) (l : Nat), atSection s 1 sec ∧ s.adm.waiting.length < 2 ∧ s.islandUp 8 = true ∧ (List.length sec = 28 ∧ (bitOf (fieldN sec 20 4) 0 = true → fieldN sec 8 8 = 0)) ∧ s.sdec.lastEpoch = some l ∧ (if bitOf (fieldN sec 20 4) 0 = true then s.asapEpoch else fieldN sec 8 8) ≤ l) ∧
    (∃ (s : State) (sec : Bytes), atSection s 1 sec ∧ s.adm.waiting.length < 2 ∧ s.islandUp 8 = true ∧ (List.length sec = 28 ∧ (bitOf (fieldN sec 20 4) 0 = true → fieldN sec 8 8 = 0)) ∧ (∀ (l : Nat), s.sdec.lastEpoch = some l → l < if bitOf (fieldN sec 20 4) 0 = true then s.asapEpoch else fieldN sec 8 8) ∧ s.rangeBase + 16384 < if bitOf (fieldN sec 20 4) 0 = true then s.asapEpoch else fieldN sec 8 8) ∧
    (∃ (s : State) (sec : Bytes), atSection s 1 sec ∧ s.adm.waiting.length < 2 ∧ s.islandUp 8 = true ∧ (List.length sec = 28 ∧ (bitOf (fieldN sec 20 4) 0 = true → fieldN sec 8 8 = 0)) ∧ (∀ (l : Nat), s.sdec.lastEpoch = some l → l < if bitOf (fieldN sec 20 4) 0 = true then s.asapEpoch else fieldN sec 8 8) ∧ (if bitOf (fieldN sec 20 4) 0 = true then s.asapEpoch else fieldN sec 8 8) ≤ s.rangeBase + 16384) :=
  ⟨⟨(inSec (markerOf 5 77 1) up), (markerOf 5 77 1), by unfold atSection; decide +kernel⟩,
   ⟨(inSec (markerOf 5 77 0) { up with sdec := { lastEpoch := some 5 } }), (markerOf 5 77 0), 5, by unfold atSection; decide +kernel⟩,
   ⟨(inSec (markerOf 16385 77 0) { up with sdec := { lastEpoch := some 5, frames := 3 } }), (markerOf 16385 77 0), by unfold atSection; decide +kernel⟩,
   ⟨(inSec (markerOf 16384 77 0) { up with sdec := { lastEpoch := some 5, frames := 3 } }), (markerOf 16384 77 0), by unfold atSection; decide +kernel⟩⟩

theorem witness_AdmissionFirstSteps :
    (∃ (s : State) (f : Frame) (rest : List Frame), s.die = Die.running ∧ s.adm.waiting = f :: rest ∧ s.adm.stage = AdmStage.idle ∧ s.adm.pending = none ∧ s.islandUp 8 = true ∧ s.hif.direct = true) ∧
    (∃ (s : State) (f : Frame) (rest : List Frame), s.die = Die.running ∧ s.adm.waiting = f :: rest ∧ s.adm.stage = AdmStage.idle ∧ s.adm.pending = none ∧ s.islandUp 8 = true ∧ s.hif.direct = false ∧ s.nat O.pwrHoldupState ≠ 0) ∧
    (∃ (s : State) (f : Frame) (rest : List Frame) (b : Nat), s.die = Die.running ∧ s.adm.waiting = f :: rest ∧ s.adm.stage = AdmStage.idle ∧ s.adm.pending = none ∧ s.islandUp 8 = true ∧ s.hif.direct = false ∧ s.nat O.pwrHoldupState = 0 ∧ f.bin.badBin = some b) ∧
    (∃ (s : State) (f : Frame) (rest : List Frame), s.die = Die.running ∧ s.adm.waiting = f :: rest ∧ s.adm.stage = AdmStage.idle ∧ s.adm.pending = none ∧ s.islandUp 8 = true ∧ s.hif.direct = false ∧ s.nat O.pwrHoldupState = 0 ∧ f.bin.badBin = none ∧ (∃ u, u ∈ f.bin.units ∧ u.sub ≠ 255 ∧ 48 < u.n)) ∧
    (∃ (s : State) (f : Frame) (rest : List Frame), s.die = Die.running ∧ s.adm.waiting = f :: rest ∧ s.adm.stage = AdmStage.idle ∧ s.adm.pending = none ∧ s.islandUp 8 = true ∧ s.hif.direct = false ∧ s.nat O.pwrHoldupState = 0 ∧ f.bin.badBin = none ∧ (∀ (u : RUnit), u ∈ f.bin.units → u.sub = 255 ∨ u.n ≤ 48)) ∧
    (∃ (s : State) (f : Frame) (rest : List Frame) (i : CostIn) (rho : Nat), s.die = Die.running ∧ s.adm.waiting = f :: rest ∧ s.adm.stage = AdmStage.preCosting i rho ∧ frameCost Measure.full i f.bin.units ≤ i.e) ∧
    (∃ (s : State) (f : Frame) (rest : List Frame) (i : CostIn) (rho : Nat), s.die = Die.running ∧ s.adm.waiting = f :: rest ∧ s.adm.stage = AdmStage.preCosting i rho ∧ i.e < frameCost Measure.full i f.bin.units) ∧
    (∃ (s : State) (f : Frame) (rest : List Frame), s.die = Die.running ∧ s.adm.waiting = f :: rest ∧ s.adm.stage = AdmStage.waiting ∧ (∀ (r : Nat), f.residentAt = some r → deadlineAt f.tf f.epoch < ↑r)) :=
  ⟨⟨{ waits (frameOf [] none) .idle up with hif := { direct := true } }, (frameOf [] none), [], by decide +kernel⟩,
   ⟨((waits (frameOf [] none) .idle up).put O.pwrHoldupState 1), (frameOf [] none), [], by decide +kernel⟩,
   ⟨(waits { frameOf [] none with bin := { badBin := some 12 } } .idle up), { frameOf [] none with bin := { badBin := some 12 } }, [], 12, by decide +kernel⟩,
   ⟨(waits (frameOf [unitOf 255 0 100, unitOf 3 0 49] none) .idle up), (frameOf [unitOf 255 0 100, unitOf 3 0 49] none), [], by decide +kernel⟩,
   ⟨(waits (frameOf [unitOf 255 0 49, unitOf 3 0 48] none) .idle up), (frameOf [unitOf 255 0 49, unitOf 3 0 48] none), [], by decide +kernel⟩,
   ⟨(waits (frameOf [unitOf 3 0 48] none) (.preCosting (up.costIn false 0 895) 895) up), (frameOf [unitOf 3 0 48] none), [], (up.costIn false 0 895), 895, by decide +kernel⟩,
   ⟨(waits (frameOf [unitOf 3 4000000000 48] none) (.preCosting (up.costIn false 0 895) 895) up), (frameOf [unitOf 3 4000000000 48] none), [], (up.costIn false 0 895), 895, by decide +kernel⟩,
   ⟨(waits (frameOf [] none) .waiting up), (frameOf [] none), [], by decide +kernel⟩⟩

theorem witness_AdmissionDecision :
    (∃ (s : State) (f : Frame) (rest : List Frame) (r : Nat), s.die = Die.running ∧ s.adm.waiting = f :: rest ∧ s.adm.stage = AdmStage.waiting ∧ f.residentAt = some r ∧ deadlineAt f.tf f.epoch < ↑r) ∧
    (∃ (s : State) (f : Frame) (rest : List Frame) (r : Nat), s.die = Die.running ∧ s.adm.waiting = f :: rest ∧ s.adm.stage = AdmStage.waiting ∧ f.residentAt = some r ∧ (¬deadlineAt f.tf f.epoch < ↑r) ∧ (¬(s.onNewBank f.number = true ∧ s.cfg.changesTf = true ∧ f.epoch < s.cfg.erEpoch.getD 0)) ∧ f.bin.gen = s.genOf (s.onNewBank f.number) ∧ f.bin.badBin = none ∧ (∀ (u : RUnit), u ∈ f.bin.units → u.sub = 255 ∨ u.n ≤ 48)) ∧
    (∃ (s : State) (f : Frame) (rest : List Frame) (r : Nat), s.die = Die.running ∧ s.adm.waiting = f :: rest ∧ s.adm.stage = AdmStage.waiting ∧ f.residentAt = some r ∧ (¬deadlineAt f.tf f.epoch < ↑r) ∧ (s.onNewBank f.number = true ∧ s.cfg.changesTf = true ∧ f.epoch < s.cfg.erEpoch.getD 0)) ∧
    (∃ (s : State) (f : Frame) (rest : List Frame) (i : CostIn) (rho : Nat) (gen : Nat) (nb : Bool), s.die = Die.running ∧ s.adm.waiting = f :: rest ∧ s.adm.stage = AdmStage.finalCosting i rho gen nb ∧ frameCost Measure.full i f.bin.units ≤ i.e ∧ s.hif.direct = false ∧ s.nat O.pwrHoldupState = 0) ∧
    (∃ (s : State) (f : Frame) (rest : List Frame) (i : CostIn) (rho : Nat) (gen : Nat) (nb : Bool), s.die = Die.running ∧ s.adm.waiting = f :: rest ∧ s.adm.stage = AdmStage.finalCosting i rho gen nb ∧ i.e < frameCost Measure.full i f.bin.units) ∧
    (∃ (s : State) (f : Frame) (rest : List Frame) (i : CostIn) (rho : Nat) (gen : Nat) (nb : Bool), s.die = Die.running ∧ s.adm.waiting = f :: rest ∧ s.adm.stage = AdmStage.finalCosting i rho gen nb ∧ frameCost Measure.full i f.bin.units ≤ i.e ∧ s.hif.direct = true) ∧
    (∃ (s : State) (f : Frame) (rest : List Frame) (i : CostIn) (rho : Nat) (gen : Nat) (nb : Bool), s.die = Die.running ∧ s.adm.waiting = f :: rest ∧ s.adm.stage = AdmStage.finalCosting i rho gen nb ∧ frameCost Measure.full i f.bin.units ≤ i.e ∧ s.hif.direct = false ∧ s.nat O.pwrHoldupState ≠ 0) :=
  ⟨⟨(waits (frameOf [] (some 900000000)) .waiting up), (frameOf [] (some 900000000)), [], 900000000, by decide +kernel⟩,
   ⟨(waits { frameOf [unitOf 3 0 48] (some 0) with bin := { units := [unitOf 3 0 48], gen := 1 } } .waiting (up.put O.cfgBankGeneration 1)), { frameOf [unitOf 3 0 48] (some 0) with bin := { units := [unitOf 3 0 48], gen := 1 } }, [], 0, by decide +kernel⟩,
   ⟨(({ waits (frameOf [] (some 0)) .waiting up with cfg := { changesTf := true, erEpoch := some 10 } }.put O.cfgSwapState 3).put O.cfgBoundFrame 3), (frameOf [] (some 0)), [], 0, by decide +kernel⟩,
   ⟨(waits (frameOf [unitOf 3 0 48] (some 0)) (.finalCosting (up.costIn false 0 895) 895 1 false) up), (frameOf [unitOf 3 0 48] (some 0)), [], (up.costIn false 0 895), 895, 1, false, by decide +kernel⟩,
   ⟨(waits (frameOf [unitOf 3 4000000000 48] (some 0)) (.finalCosting (up.costIn false 0 895) 895 1 false) up), (frameOf [unitOf 3 4000000000 48] (some 0)), [], (up.costIn false 0 895), 895, 1, false, by decide +kernel⟩,
   ⟨{ waits (frameOf [unitOf 3 0 48] (some 0)) (.finalCosting (up.costIn false 0 895) 895 1 false) up with hif := { direct := true } }, (frameOf [unitOf 3 0 48] (some 0)), [], (up.costIn false 0 895), 895, 1, false, by decide +kernel⟩,
   ⟨((waits (frameOf [unitOf 3 0 48] (some 0)) (.finalCosting (up.costIn false 0 895) 895 1 false) up).put O.pwrHoldupState 1), (frameOf [unitOf 3 0 48] (some 0)), [], (up.costIn false 0 895), 895, 1, false, by decide +kernel⟩⟩

theorem witness_UnitCosts : ∃ (i : CostIn) (u : RUnit), i.l < 16 ∧ 0 < i.g :=
  ⟨{ l := 15, c := 8, g := 1024, e := 0 }, (unitOf 3 17 48), by decide +kernel⟩

theorem witness_FrameCosts :
    (∃ (m : Measure) (i : CostIn) (us : List RUnit), 0 < i.c) ∧
    (∃ (s : State) (f : Frame) (fs : List Frame) (i : CostIn) (rho : Nat), s.die = Die.running ∧ s.adm.waiting = f :: fs ∧ s.adm.stage = AdmStage.preCosting i rho) :=
  ⟨⟨.full, { l := 15, c := 8, g := 1024, e := 0 }, [unitOf 3 17 48], by decide +kernel⟩,
   ⟨(waits (frameOf [unitOf 3 0 48] none) (.preCosting (up.costIn false 0 895) 895) up), (frameOf [unitOf 3 0 48] none), [], (up.costIn false 0 895), 895, by decide +kernel⟩⟩

theorem witness_Units :
    (∃ (s : State) (f : Frame) (c : Nat), s.die = Die.running ∧ s.stagingFrame = some f ∧ f.captureRun = none ∧ s.capturing = false ∧ s.rse.frame = some f.number ∧ s.rse.nextUnit < f.bin.units.length ∧ c < s.rse.clusters.length ∧ (c / 8 ∈ s.rseIslands f.adm.newBank ∧ s.islandUp (9 + c / 8) = true ∧ (s.rse.clusters.getD c { }).next = none) ∧ (∀ (k : Nat), k < c → ¬(k / 8 ∈ s.rseIslands f.adm.newBank ∧ s.islandUp (9 + k / 8) = true ∧ (s.rse.clusters.getD k { }).next = none))) ∧
    (∃ (s : State) (f : Frame) (c : Fin 64) (st : Staged) (u : RUnit) (tileUe : List (Nat × TileUe)) (figUe : List (Nat × Nat)) (ce : List Nat) (store : List EccHit), s.die = Die.running ∧ s.stagingFrame = some f ∧ s.rse.frame = some f.number ∧ ↑c < s.rse.clusters.length ∧ (s.rse.clusters.getD ↑c { }).next = some st ∧ st.ready = false ∧ f.bin.units[st.unit]? = some u) ∧
    (∃ (s : State) (f : Frame) (c : Fin 64) (st : Staged), s.die = Die.running ∧ s.adm.rendering = some f ∧ s.rse.frame = some f.number ∧ ↑c < s.rse.clusters.length ∧ s.islandUp (9 + ↑c / 8) = true ∧ (s.rse.clusters.getD ↑c { }).cur = some st ∧ st.started = false) ∧
    (∃ (s : State) (f : Frame) (c : Fin 64) (st : Staged) (u : RUnit) (b : Nat) (store : List EccHit) (calUe : List Nat), s.die = Die.running ∧ s.adm.rendering = some f ∧ ↑c < s.rse.clusters.length ∧ (s.rse.clusters.getD ↑c { }).cur = some st ∧ st.started = true ∧ s.bufIn Role.render = some b ∧ f.bin.units[st.unit]? = some u) :=
  ⟨⟨(pends [unitOf 255 0 0] [] up), (frameOf [unitOf 255 0 0] (some 0)), 0, by decide +kernel⟩,
   ⟨(pends [unitOf 255 0 0] [{ next := some { unit := 0 } }] up), (frameOf [unitOf 255 0 0] (some 0)), 0, { unit := 0 }, (unitOf 255 0 0), [(0, .slot 5)], [(0, 7)], [], [], by decide +kernel⟩,
   ⟨(renders [unitOf 255 0 0] [{ cur := some { unit := 0, ready := true }, next := some { unit := 1 } }] up), (frameOf [unitOf 255 0 0] (some 0)), 0, { unit := 0, ready := true }, by decide +kernel⟩,
   ⟨(renders [{ unitOf 255 0 0 with rect := { x1 := 2, y1 := 1 } }] [{ cur := some { unit := 0, ready := true, started := true }, next := some { unit := 0, ready := true } }] up), (frameOf [{ unitOf 255 0 0 with rect := { x1 := 2, y1 := 1 } }] (some 0)), 0, { unit := 0, ready := true, started := true }, { unitOf 255 0 0 with rect := { x1 := 2, y1 := 1 } }, 1, [.result 1], [5], by decide +kernel⟩⟩

theorem witness_RenderWindow :
    (∃ (s : State) (f : Frame) (b : Nat), s.die = Die.running ∧ s.adm.rendering = none ∧ s.adm.pending = some f ∧ s.bufIn Role.render = none ∧ s.hif.direct = false ∧ s.bufIn Role.free = some b ∧ s.capturing = false ∧ s.nat O.captureState ≠ 3) ∧
    (∃ (s : State) (f : Frame) (b : Nat), s.die = Die.running ∧ s.bufIn Role.render = some b ∧ (s.scan.bufs.getD b { }).frame = some f ∧ s.rse.pattern = false ∧ f.number ≠ 0 ∧ s.rse.written.length < f.bin.units.length) ∧
    (∃ (s : State) (f : Frame) (b : Nat), s.die = Die.running ∧ s.bufIn Role.render = some b ∧ (s.scan.bufs.getD b { }).frame = some f ∧ s.rse.pattern = false ∧ f.number ≠ 0 ∧ f.bin.units.length ≤ s.rse.written.length) ∧
    (∃ (s : State) (b : Nat), s.die = Die.running ∧ s.adm.rendering = none ∧ s.adm.pending = none ∧ s.bufIn Role.render = none ∧ s.hif.direct = false ∧ s.bufIn Role.free = some b ∧ s.capturing = true ∧ s.nat O.captureState ≠ 3) :=
  ⟨⟨(pends [unitOf 255 0 0] [] up), (frameOf [unitOf 255 0 0] (some 0)), 0, by decide +kernel⟩,
   ⟨(renders [unitOf 255 0 0] [] up), (frameOf [unitOf 255 0 0] (some 0)), 1, by decide +kernel⟩,
   ⟨(renders [] [] up), (frameOf [] (some 0)), 1, by decide +kernel⟩,
   ⟨{ (((up.put O.captureState 2).put O.headHActive 4).put O.headVActive 2) with cal := { cap := { valid := true } } }, 0, by decide +kernel⟩⟩

theorem witness_LatchAndEpoch :
    (∃ (s : State), s.die = Die.running ∧ s.genRuns = true ∧ s.cfg.blank = false) ∧
    (∃ (s : State) (e : Int), s.die = Die.running ∧ s.headState 0 = 2 ∧ 1 ≤ s.nat O.headCount ∧ s.cfg.blank = false ∧ s.nat O.cfgSwapState ≠ 3 ∧ s.tim.step = none ∧ s.scan.idleUntil = none ∧ s.scan.running = true ∧ e.natAbs ≤ 1000) :=
  ⟨⟨(up.put O.headAState 1), by decide +kernel⟩,
   ⟨(scans 5 [{ }, { }, { }] up), 1000, by decide +kernel⟩⟩

theorem witness_ScanLines :
    (∃ (s : State) (ueA : List Nat) (ueB : List Nat) (ce : List Nat), (s.die = Die.running ∧ s.scan.running = true ∧ s.cfg.blank = false ∧ s.scan.line < s.nat O.headVTotal) ∧ s.anySends = true ∧ (s.scan.idleUntil = none ∧ s.scan.resync = none)) ∧
    (∃ (s : State) (ueA : List Nat) (ueB : List Nat) (ce : List Nat) (h : Nat) (n : Nat) (L : Nat) (j : Nat), (s.die = Die.running ∧ s.scan.running = true ∧ s.cfg.blank = false ∧ s.scan.line < s.nat O.headVTotal) ∧ (s.scan.idleUntil = none ∧ s.scan.resync = none) ∧ (h < 2 ∧ s.headSends h = true ∧ n ∈ s.maskedSlots h ∧ (s.slot n).fed = true ∧ (s.slot n).blankNext = false ∧ (s.slot n).spare = none) ∧ s.scan.line < s.nat O.headVActive ∧ s.scan.blankUntilNew = false ∧ L < 4 ∧ j < 5 ∧ (s.slot n).logical.getD L none = some j) ∧
    (∃ (s : State) (ueA : List Nat) (ueB : List Nat) (ce : List Nat) (h : Nat) (n : Nat), (s.die = Die.running ∧ s.scan.running = true ∧ s.cfg.blank = false ∧ s.scan.line < s.nat O.headVTotal) ∧ (s.scan.idleUntil = none ∧ s.scan.resync = none) ∧ (h < 2 ∧ s.headSends h = true ∧ n ∈ s.maskedSlots h ∧ (s.slot n).fed = true ∧ (s.slot n).blankNext = false ∧ (s.slot n).spare = none) ∧ (s.nat O.headVActive ≤ s.scan.line ∨ s.scan.blankUntilNew = true)) ∧
    (∃ (s : State) (ueA : List Nat) (ueB : List Nat) (ce : List Nat) (desync : Bool) (k : Nat) (code : Nat), (s.die = Die.running ∧ s.scan.running = true ∧ s.cfg.blank = false ∧ s.scan.line < s.nat O.headVTotal) ∧ s.anySends = true ∧ s.scan.idleUntil = some k ∧ s.scan.resync = some code) ∧
    (∃ (s : State) (ueA : List Nat) (ueB : List Nat) (ce : List Nat) (desync : Bool) (h : Nat) (n : Nat), (s.die = Die.running ∧ s.scan.running = true ∧ s.cfg.blank = false ∧ s.scan.line < s.nat O.headVTotal) ∧ ((s.scan.idleUntil = none ∧ s.scan.resync = none) ∧ desync = true ∨ s.scan.idleUntil.isSome = true ∧ s.scan.resync.isSome = true) ∧ h < 2 ∧ s.headSends h = true ∧ n ∈ s.readySlots h) ∧
    (∃ (s : State) (h : Fin 2) (level : Nat) (g : Nat) (n : Nat), (s.die = Die.running ∧ s.scan.running = true ∧ s.cfg.blank = false ∧ s.scan.line < s.nat O.headVTotal) ∧ s.headSends ↑h = true ∧ (s.scan.idleUntil = none ∨ s.scan.resync ≠ none) ∧ s.scan.line < s.nat O.headVActive ∧ g < 2 ∧ s.headSends g = true ∧ n ∈ s.readySlots g) :=
  ⟨⟨(scans 5 [{ }, { }, { }] up), [], [], [], by decide +kernel⟩,
   ⟨(feedsOne (scans 5 [{ }, { }, { }] up)), [], [], [], 0, 1, 2, 3, by decide +kernel⟩,
   ⟨(feedsOne (scans 17280 [{ }, { }, { }] up)), [], [], [], 0, 1, by decide +kernel⟩,
   ⟨{ scans 5 [{ }, { }, { }] up with scan := { running := true, line := 5, idleUntil := some 9, resync := some 0x0B05 } }, [], [], [], true, 9, 0x0B05, by decide +kernel⟩,
   ⟨{ feedsOne (scans 5 [{ }, { }, { }] up) with scan := { running := true, line := 5, idleUntil := some 9, resync := some 0x0B05 } }, [], [], [], false, 0, 1, by decide +kernel⟩,
   ⟨(feedsOne (scans 17279 [{ }, { }, { }] up)), 0, 3, 0, 1, by decide +kernel⟩⟩

theorem witness_SwapSteps :
    (∃ (s : State), s.die = Die.running ∧ s.nat O.cfgSwapState = 1 ∧ s.cfg.copying = false ∧ s.checkSwap = 0) ∧
    (∃ (s : State), s.die = Die.running ∧ s.nat O.cfgSwapState = 1 ∧ s.cfg.copying = false ∧ s.checkSwap ≠ 0) ∧
    (∃ (s : State), s.die = Die.running ∧ s.cfg.copying = true ∧ s.cfg.waiting = []) :=
  ⟨⟨(up.put O.cfgSwapState 1), by decide +kernel⟩,
   ⟨({ up with maq := [(O.headVTotal.key, .num 70)] }.put O.cfgSwapState 1), by decide +kernel⟩,
   ⟨{ up with cfg := { copying := true }, cast := [(O.headVTotal.key, .num 70)] }, by decide +kernel⟩⟩

theorem witness_Stores :
    (∃ (s : State), s.die = Die.running ∧ s.atlRuns = true ∧ s.flag O.thmNorWindow = true ∧ s.nat O.cfgStoreState = 1) ∧
    (∃ (s : State), s.die = Die.running ∧ s.atlRuns = true ∧ s.flag O.thmNorWindow = true ∧ s.nat O.patinaStoreState = 1 ∧ 2 ≤ s.nor.patina.length) ∧
    (∃ (s : State), s.die = Die.running ∧ s.atlRuns = true ∧ s.nat O.cfgStoreState = 2 ∧ s.atl.storeTries = 0) ∧
    (∃ (s : State), s.die = Die.running ∧ s.atlRuns = true ∧ s.nat O.cfgStoreState = 2 ∧ s.atl.storeTries ≠ 0) ∧
    (∃ (s : State), s.die = Die.running ∧ s.atlRuns = true ∧ s.nat O.patinaStoreState = 2 ∧ s.atl.patinaTries = 0) ∧
    (∃ (s : State), s.die = Die.running ∧ s.atlRuns = true ∧ s.nat O.patinaStoreState = 2 ∧ s.atl.patinaTries ≠ 0) :=
  ⟨⟨((run.put O.thmNorWindow 1).put O.cfgStoreState 1), by decide +kernel⟩,
   ⟨{ (run.put O.thmNorWindow 1).put O.patinaStoreState 1 with nor := { run.nor with patina := [{ }, { }] } }, by decide +kernel⟩,
   ⟨(run.put O.cfgStoreState 2), by decide +kernel⟩,
   ⟨{ (run.put O.cfgStoreState 2) with atl := { run.atl with storeTries := 1 } }, by decide +kernel⟩,
   ⟨{ (run.put O.patinaStoreState 2) with atl := { run.atl with patinaTarget := 1 } }, by decide +kernel⟩,
   ⟨{ (run.put O.patinaStoreState 2) with atl := { run.atl with patinaTries := 1 } }, by decide +kernel⟩⟩

theorem witness_PtpMessagesAndDomains :
    (∃ (s : State) (d : Fin 2) (a : Announce), s.die = Die.running ∧ s.tim.slots.length = 2 ∧ s.ptpMatches (↑d) a.msg = true ∧ a.steps < 255 ∧ (s.ptp ↑d).master = none ∧ ((s.ptp ↑d).heard = [] ∧ s.nat (O.ptpProfile ↑d) = 1 ∨ (s.ptp ↑d).heard.length = 1 ∧ ∀ (old : Foreign), old ∈ (s.ptp ↑d).heard → old.ann.msg.source = a.msg.source ∧ (s.reach a.msg.stamp).ns ≤ old.heardAt + 4 * intervalNs a.msg.interval)) ∧
    (∃ (s : State) (d : Fin 2) (m : PtpMsg), s.die = Die.running ∧ s.tim.slots.length = 2 ∧ s.ptpMatches (↑d) m = true ∧ (s.ptp ↑d).master = some m.source ∧ ((s.ptp ↑d).lastUsed = none ∨ ∃ l, (s.ptp ↑d).lastUsed = some l ∧ 1 ≤ (m.seq + 65536 - l) % 65536 ∧ (m.seq + 65536 - l) % 65536 ≤ 32767)) ∧
    (∃ (s : State) (d : Fin 2) (m : PtpMsg) (w : PtpMsg), s.die = Die.running ∧ s.tim.slots.length = 2 ∧ s.ptpMatches (↑d) m = true ∧ List.find? (fun x => x.seq == m.seq && x.source == m.source) (s.ptp ↑d).waiting = some w ∧ freshSeq (s.ptp ↑d).lastUsed w.seq = true ∧ (s.reach m.stamp).ns ≤ w.stamp + 1000000000) ∧
    (∃ (s : State) (d : Fin 2) (stamp : Nat), s.die = Die.running ∧ s.tim.slots.length = 2 ∧ s.ptpUp ↑d = true ∧ (s.nat (O.ptpDelayMech ↑d) = 1 ∨ (s.ptp ↑d).master.isSome = true)) ∧
    (∃ (s : State) (d : Fin 2) (m : PtpMsg) (stamp : Nat), s.die = Die.running ∧ s.tim.slots.length = 2 ∧ s.ptpMatches (↑d) m = true ∧ m.mine = true ∧ (s.ptp ↑d).sent = some (m.seq, stamp) ∧ s.nat (O.ptpDelayMech ↑d) = 1) ∧
    (∃ (s : State) (d : Fin 2) (m : PtpMsg) (stamp : Nat) (t1 : Int) (t2 : Int) (rest : List (Int × Int)), s.die = Die.running ∧ s.tim.slots.length = 2 ∧ s.ptpMatches (↑d) m = true ∧ m.mine = true ∧ (s.ptp ↑d).sent = some (m.seq, stamp) ∧ s.nat (O.ptpDelayMech ↑d) = 0 ∧ (s.ptp ↑d).samples = (t1, t2) :: rest) ∧
    (∃ (s : State) (d : Fin 2) (a : Announce), s.die = Die.running ∧ s.tim.slots.length = 2 ∧ (s.ptp ↑d).ann = some a) ∧
    (∃ (s : State), s.die = Die.running ∧ s.nat O.timePreferredDomain ≤ 1 ∧ s.selected = some (1 - s.nat O.timePreferredDomain) ∧ s.nat (O.ptpState (s.nat O.timePreferredDomain)) = 3 ∧ s.nat O.timeRevertS ≠ 0) ∧
    (∃ (s : State), s.die = Die.running ∧ s.tim.adjust = none ∧ (s.int O.timeRate).natAbs ≤ rateMax.natAbs ∧ s.tim.target.natAbs ≤ rateMax.natAbs) :=
  ⟨⟨((onPtp 0 { }).put (O.ptpProfile 0) 1), 0, { msg := msgOf 1 5 true, gmIdentity := [9#8] }, by decide +kernel⟩,
   ⟨(onPtp 0 { master := some [7#8] }), 0, (msgOf 1 5 true), by decide +kernel⟩,
   ⟨(onPtp 0 { waiting := [msgOf 1 5 true] }), 0, (msgOf 1 1000000005 true), (msgOf 1 5 true), by decide +kernel⟩,
   ⟨(portUp (onPtp 1 { })), 0, 5, by decide +kernel⟩,
   ⟨(onPtp 1 { sent := some (1, 5) }), 0, { msgOf 1 8 true with mine := true }, 5, by decide +kernel⟩,
   ⟨(onPtp 0 { sent := some (1, 5), samples := [(2, 3)] }), 0, { msgOf 1 8 true with mine := true }, 5, 2, 3, [], by decide +kernel⟩,
   ⟨(onPtp 0 { ann := some { } }), 0, { }, by decide +kernel⟩,
   ⟨(((on.put O.timeSelectedDomain 1).put (O.ptpState 0) 3).put O.timeState 2), by decide +kernel⟩,
   ⟨{ on with tim := { on.tim with target := 140737488355 } }, by decide +kernel⟩⟩

theorem witness_PortFrames :
    (∃ (s : State) (f : RxFrame) (addr : Nat) (len : Nat), s.die = Die.running ∧ memOk s.hbm = true ∧ s.nat (O.portState ↑f.port) = 2 ∧ f.fcsOk = true ∧ f.dstOk = true ∧ f.length ≤ s.nat (O.portMtu ↑f.port) ∧ (s.nat (O.portVlan ↑f.port) = 0 ∨ f.vlan = s.nat (O.portVlan ↑f.port)) ∧ f.fragment = false ∧ f.checksumsOk = true ∧ s.ptpWanted f = false ∧ f.udpPort ≠ some 48005 ∧ f.udpPort ≠ some 48006 ∧ f.service = true ∧ f.conflict = none ∧ f.lease = none ∧ f.buf = some (addr, len)) ∧
    (∃ (s : State) (f : RxFrame), s.die = Die.running ∧ memOk s.hbm = true ∧ s.nat (O.portState ↑f.port) = 2 ∧ f.fcsOk = true ∧ f.dstOk = true ∧ (s.nat (O.portMtu ↑f.port) < f.length ∨ s.nat (O.portVlan ↑f.port) ≠ 0 ∧ f.vlan ≠ s.nat (O.portVlan ↑f.port))) ∧
    (∃ (s : State) (p : Fin 3) (q : Nat) (x : TxDesc), s.die = Die.running ∧ s.nat (O.portState ↑p) = 2 ∧ nextTx (s.tim.ports.getD ↑p { }) = some (q, x) ∧ 60 ≤ x.len ∧ x.len ≤ s.nat (O.portMtu ↑p) + 18) ∧
    (∃ (s : State) (p : Fin 3) (link : Nat), s.die = Die.running ∧ link ≤ 3 ∧ s.nat (O.portState ↑p) ≠ 0) ∧
    (∃ (s : State) (p : Fin 3), s.die = Die.running ∧ s.nat (O.portState ↑p) = 2 ∧ s.nat (O.ipv4Mode ↑p) = 2 ∧ (s.tim.ports.getD ↑p { }).lease = none) ∧
    (∃ (s : State) (p : Fin 3), s.die = Die.running ∧ s.nat (O.portState ↑p) = 2 ∧ s.dict.conflictAt = none) ∧
    (∃ (s : State) (p : Fin 3), s.die = Die.running ∧ s.nat O.vipexHeartbeatMs ≠ 0 ∧ (List.all (s.oct O.vipexHeartbeatAddr) fun x => x == 0) = false ∧ s.tim.ports.length = 3 ∧ (∀ (n : NetPort), n ∈ s.tim.ports → n.tx.length = 4)) :=
  ⟨⟨(onNet { }), (rxOf 8), 0x80000010, 8, by decide +kernel⟩,
   ⟨(onNet { }), { rxOf 8 with length := 1501 }, by decide +kernel⟩,
   ⟨((onNet { tx := [[], [{ body := .vipex [1#8], len := 1518, tsReq := true }, { body := .vipex [2#8], len := 60, tsReq := true }], [], []] }).put (O.portLink 0) 3), 0, 1, { body := .vipex [1#8], len := 1518, tsReq := true }, by decide +kernel⟩,
   ⟨(onNet { }), 0, 3, by decide +kernel⟩,
   ⟨((onNet { }).put (O.ipv4Mode 0) 2), 0, by decide +kernel⟩,
   ⟨(onNet { }), 0, by decide +kernel⟩,
   ⟨(((onNet { lease := some 5 }).put (O.ipv4Mode 0) 2).putO O.vipexHeartbeatAddr (zeros 10 ++ [0xFF#8, 0xFF#8, 239#8, 1#8, 1#8, 1#8])), 0, by decide +kernel⟩⟩

theorem witness_RaspCommands :
    (∃ (s : State) (v : W32), s.die = Die.running) ∧
    (∃ (s : State) (k : Nat), s.die = Die.running ∧ s.raspReady = true ∧ k = fieldN s.ringEntry 32 8 ∧ fieldN s.ringEntry 0 1 = 0 ∧ s.commandError s.ringEntry = none) ∧
    (∃ (s : State) (k : Nat), s.die = Die.running ∧ s.raspReady = true ∧ k = fieldN s.ringEntry 32 8 ∧ fieldN s.ringEntry 0 1 = 4 ∧ s.commandError s.ringEntry = none) ∧
    (∃ (s : State) (k : Nat), s.die = Die.running ∧ s.raspReady = true ∧ k = fieldN s.ringEntry 32 8 ∧ fieldN s.ringEntry 0 1 = 3 ∧ s.commandError s.ringEntry = none ∧ k ≠ 0) ∧
    (∃ (s : State) (k : Nat) (code : Nat), s.die = Die.running ∧ s.raspReady = true ∧ k = fieldN s.ringEntry 32 8 ∧ s.commandError s.ringEntry = some code) :=
  ⟨⟨((onRasp [] [] { })), 15#32, by decide +kernel⟩,
   ⟨(onRasp [] [] { }), 0, by decide +kernel⟩,
   ⟨(onRasp (entryOf 4 8 0 0 0 0 0 0 0 0 0 0 0 0 0 77) [] { }), 0, by decide +kernel⟩,
   ⟨(onRasp (entryOf 3 0 0 0 0 0 0 0 0 0 0 5 0 0 0 0) [] { }), 5, by decide +kernel⟩,
   ⟨(onRasp (entryOf 9 0 0 0 0 0 0 0 0 0 0 5 0 0 0 0) [] { }), 5, 0x0E01, by decide +kernel⟩⟩

theorem witness_RaspDrawing :
    (∃ (s : State) (ue : List Nat) (ce : List Nat), s.die = Die.running ∧ memOk s.hbm = true ∧ s.raspReady = true ∧ s.rasp.catchup = false ∧ s.commandError s.ringEntry = none ∧ s.nat O.overlayWidth ≤ 7680 ∧ s.nat O.overlayHeight ≤ 4320 ∧ fieldN s.ringEntry 0 1 = 1) ∧
    (∃ (s : State) (ue : List Nat) (ce : List Nat), s.die = Die.running ∧ memOk s.hbm = true ∧ s.raspReady = true ∧ s.rasp.catchup = false ∧ s.commandError s.ringEntry = none ∧ s.nat O.overlayWidth ≤ 7680 ∧ s.nat O.overlayHeight ≤ 4320 ∧ fieldN s.ringEntry 0 1 = 2) ∧
    (∃ (s : State), s.die = Die.running ∧ memOk s.hbm = true ∧ s.nat O.overlayState = 2 ∧ s.rasp.catchup = true ∧ s.draftFrames = [] ∧ s.islandUp 27 = true ∧ s.rasp.incomplete = []) :=
  ⟨⟨(onRasp (entryOf 1 0 0xF0 0 15 0xA0000000 64 1 1 2 1 0 0 0 0 0x04030201) [] { }), [], [], by decide +kernel⟩,
   ⟨(onRasp (entryOf 2 0 0xCC 0 15 0xA0000000 64 1 1 1 1 0xA0000100 64 0 0 0) [] { }), [0xA0000110], [0xA0000110], by decide +kernel⟩,
   ⟨(onRasp [] [] { catchup := true, copying := [0] }), by decide +kernel⟩⟩

theorem witness_AudioBlocksAndPorts :
    (∃ (s : State) (sec : Bytes), atSection s 6 sec ∧ audioFieldsOk sec = true ∧ s.aud.streams.length = 8 ∧ s.clk.disp * rateHz (fieldN sec 9 1) + 1000000 * 2 ^ 32 * rateHz (fieldN sec 9 1) ≤ gridSlot (fieldN sec 12 8 * 1000000000 + fieldN sec 20 4) (rateHz (fieldN sec 9 1)) * 1000000000 * 2 ^ 32 ∧ gridSlot (fieldN sec 12 8 * 1000000000 + fieldN sec 20 4) (rateHz (fieldN sec 9 1)) + fieldN sec 24 2 ≤ slotNow s.clk.disp (rateHz (fieldN sec 9 1)) + 2097152) ∧
    (∃ (s : State) (sec : Bytes), atSection s 6 sec ∧ audioFieldsOk sec = true ∧ s.aud.streams.length = 8 ∧ (gridSlot (fieldN sec 12 8 * 1000000000 + fieldN sec 20 4) (rateHz (fieldN sec 9 1)) + fieldN sec 24 2 - 1) * 1000000000 * 2 ^ 32 < s.clk.disp * rateHz (fieldN sec 9 1) + 1000000 * 2 ^ 32 * rateHz (fieldN sec 9 1)) ∧
    (∃ (s : State) (p : Fin 8) (f : SampleFrame), s.die = Die.running ∧ s.aud.ports.length = 8 ∧ s.nat (O.audPortState ↑p) = 2 ∧ s.islandUp 28 = true ∧ s.aud.restarting.getD (↑p / 2) false = false ∧ s.audNat (O.audPortRoute ↑p) < 8 ∧ (s.streamPort (s.audNat (O.audPortRoute ↑p))).rate = some (s.audNat (O.audPairRate (↑p / 2))) ∧ List.find? (fun f => f.entry == s.nextSlot (↑p) (rateHz (s.audNat (O.audPairRate (↑p / 2)))) % 2097152 && !f.sent.contains ↑p) (s.streamPort (s.audNat (O.audPortRoute ↑p))).ring = some f ∧ f.nonPcm = false ∧ f.width ≤ s.audNat (O.audPortSlotBits ↑p) ∧ s.nat O.pwrHoldupState = 0) ∧
    (∃ (s : State) (p : Fin 8), s.die = Die.running ∧ s.aud.ports.length = 8 ∧ s.nat (O.audPortState ↑p) = 2 ∧ s.islandUp 28 = true ∧ s.aud.restarting.getD (↑p / 2) false = false ∧ s.audNat (O.audPortRoute ↑p) < 8 ∧ (s.streamPort (s.audNat (O.audPortRoute ↑p))).rate = some (s.audNat (O.audPairRate (↑p / 2))) ∧ List.find? (fun f => f.entry == s.nextSlot (↑p) (rateHz (s.audNat (O.audPairRate (↑p / 2)))) % 2097152 && !f.sent.contains ↑p) (s.streamPort (s.audNat (O.audPortRoute ↑p))).ring = none) ∧
    (∃ (s : State) (p : Fin 8) (error : Int), s.die = Die.running ∧ s.aud.ports.length = 8 ∧ s.nat (O.audPortState ↑p) = 2 ∧ s.islandUp 28 = true) ∧
    (∃ (s : State) (q : Fin 4), s.die = Die.running ∧ s.aud.ports.length = 8 ∧ s.aud.restarting.getD (↑q) false = true ∧ s.islandUp 28 = true) ∧
    (∃ (s : State) (p : Fin 8), s.die = Die.running ∧ s.aud.ports.length = 8 ∧ s.nat (O.audPortState ↑p) = 1 ∧ s.islandUp 28 = true) :=
  ⟨⟨(inSec (audioOf 2 1 0 1 0 1 [1#8, 2#8, 3#8, 4#8]) up), (audioOf 2 1 0 1 0 1 [1#8, 2#8, 3#8, 4#8]), by unfold atSection; decide +kernel⟩,
   ⟨(inSec (audioOf 2 1 0 1 0 3 (zeros 12)) { (up.put (O.audPortRoute 5) 2).put (O.audPortRoute 1) 2 with clk := { disp := 2 ^ 70 } }), (audioOf 2 1 0 1 0 3 (zeros 12)), by unfold atSection; decide +kernel⟩,
   ⟨(onAud { next := some 7 } [{ entry := 7, left := 0x12345678, right := 0x80000000, width := 16 }]), 5, { entry := 7, left := 0x12345678, right := 0x80000000, width := 16 }, by decide +kernel⟩,
   ⟨(onAud { next := some 7, started := true } []), 5, by decide +kernel⟩,
   ⟨(onAud { inside := 15 } []), 5, 20, by decide +kernel⟩,
   ⟨{ onAud { } [] with aud := { restarting := [false, false, true, false] } }, 2, by decide +kernel⟩,
   ⟨((onAud { } []).put (O.audPortState 5) 1), 5, by decide +kernel⟩⟩

theorem witness_LinkStarts :
    (∃ (s : State) (n : Fin 32), s.die = Die.running ∧ s.link.length = 32 ∧ (s.slot ↑n).phase = LinkPhase.confirming ∧ (s.slot ↑n).present = true) ∧
    (∃ (s : State) (n : Fin 32) (tries : Nat) (answer : Option Bytes), s.die = Die.running ∧ s.link.length = 32 ∧ (s.slot ↑n).phase = LinkPhase.reading tries) ∧
    (∃ (s : State) (n : Fin 32), s.die = Die.running ∧ s.link.length = 32 ∧ (s.slot ↑n).phase = LinkPhase.aligning) ∧
    (∃ (s : State) (n : Fin 32), s.die = Die.running ∧ s.link.length = 32 ∧ (s.slot ↑n).phase = LinkPhase.waitRetry) ∧
    (∃ (s : State) (n : Fin 32) (bytes : Bytes), s.die = Die.running ∧ s.link.length = 32 ∧ (s.slot ↑n).phase = LinkPhase.sweeping) ∧
    (∃ (s : State) (n : Fin 32) (errors : Bytes), s.die = Die.running ∧ s.link.length = 32 ∧ (s.slot ↑n).phase = LinkPhase.verifying) ∧
    (∃ (s : State) (n : Fin 32) (errors : Bytes), s.die = Die.running ∧ s.link.length = 32 ∧ (s.slot ↑n).phase = LinkPhase.realigning) ∧
    (∃ (s : State) (n : Fin 32), s.die = Die.running ∧ s.link.length = 32 ∧ (s.slot ↑n).phase = LinkPhase.realigning) :=
  ⟨⟨(onSlot 0 { present := true, phase := .confirming, since := 7 }), 3, by decide +kernel⟩,
   ⟨(onSlot 2 { present := true, phase := .reading 1 }), 3, 1, none, by decide +kernel⟩,
   ⟨(onSlot 3 { present := true, phase := .aligning }), 3, by decide +kernel⟩,
   ⟨(onSlot 2 { present := true, phase := .waitRetry }), 3, by decide +kernel⟩,
   ⟨(onSlot 3 { present := true, phase := .sweeping }), 3, (leBytes 16 0x80 ++ leBytes 16 0x700 ++ zeros 16 ++ leBytes 16 (2 ^ 127) ++ leBytes 16 (2 ^ 128 - 1)), by decide +kernel⟩,
   ⟨(onSlot 3 { present := true, phase := .verifying, choice := [(0, 1), (1, 2), (2, 3), (3, 4), (4, 5)] }), 3, (zeros 5), by decide +kernel⟩,
   ⟨((onSlot 4 { present := true, phase := .realigning, stored := [(0, 2, 9)] }).setLaneState 3 2 2), 3, (zeros 5), by decide +kernel⟩,
   ⟨(onSlot 4 { present := true, phase := .realigning }), 3, by decide +kernel⟩⟩

theorem witness_LinkUpkeep :
    (∃ (s : State) (n : Fin 32) (at' : Nat), s.die = Die.running ∧ s.link.length = 32 ∧ (s.slot ↑n).highAt = some at' ∧ (s.slot ↑n).present = false ∧ s.slotState ↑n ≠ 0) ∧
    (∃ (s : State) (pair : Fin 16) (even : PartnerStat) (odd : PartnerStat) (j : Nat) (L : Nat) (k : Nat), s.die = Die.running ∧ s.link.length = 32 ∧ (s.slotState (2 * ↑pair) = 4 ∨ s.slotState (2 * ↑pair) = 5) ∧ s.slotState (2 * ↑pair + 1) < 4 ∧ even.answered = true ∧ bitOf even.pstat 3 = true ∧ s.failingLanes (2 * ↑pair) even = [j] ∧ j < 5 ∧ List.findIdx? (fun x => x == some j) (s.slot (2 * ↑pair)).logical = some L ∧ s.standby (2 * ↑pair) = some k ∧ k ≠ j) ∧
    (∃ (s : State) (pair : Fin 16) (even : PartnerStat) (odd : PartnerStat) (j : Nat) (L : Nat), s.die = Die.running ∧ s.link.length = 32 ∧ (s.slotState (2 * ↑pair) = 4 ∨ s.slotState (2 * ↑pair) = 5) ∧ s.slotState (2 * ↑pair + 1) < 4 ∧ even.answered = true ∧ bitOf even.pstat 3 = true ∧ s.failingLanes (2 * ↑pair) even = [j] ∧ j < 5 ∧ List.findIdx? (fun x => x == some j) (s.slot (2 * ↑pair)).logical = some L ∧ s.standby (2 * ↑pair) = none) ∧
    (∃ (s : State) (n : Fin 32) (j : Fin 5), s.die = Die.running ∧ s.link.length = 32 ∧ s.laneState ↑n ↑j = 4 ∧ (s.slotState ↑n = 4 ∨ s.slotState ↑n = 5) ∧ (∀ (y : Nat × Nat × Nat × Nat), y ∈ List.find? (fun x => x.fst == ↑j) (s.slot ↑n).sweeps → y.snd.snd.snd < 1440)) ∧
    (∃ (s : State) (n : Fin 32) (b : Bytes), s.die = Die.running ∧ s.link.length = 32 ∧ 3 ≤ s.slotState ↑n ∧ s.slotState ↑n ≤ 5 ∧ List.length b = 32 ∧ crc32c (List.take 28 b) ≠ fieldN b 28 4) ∧
    (∃ (s : State) (n : Fin 32) (b : Bytes), s.die = Die.running ∧ s.link.length = 32 ∧ 3 ≤ s.slotState ↑n ∧ s.slotState ↑n ≤ 5 ∧ List.length b = 32 ∧ crc32c (List.take 28 b) = fieldN b 28 4) :=
  ⟨⟨(onSlot 4 { highAt := some 5 }), 3, 5, by decide +kernel⟩,
   ⟨(spared true), 1, { pstat := 8, laneLock := 30 }, { }, 0, 0, 3, by decide +kernel⟩,
   ⟨(spared false), 1, { pstat := 8, laneLock := 30 }, { }, 0, 0, by decide +kernel⟩,
   ⟨((onSlot 4 { sweeps := [(2, 5, 0, 1439)] }).setLaneState 3 2 4), 3, 2, by decide +kernel⟩,
   ⟨(onSlot 4 { sideFails := 2 }), 3, (zeros 31 ++ [1#8]), by decide +kernel⟩,
   ⟨(onSlot 4 { sideFails := 2 }), 3, (let h := leBytes 2 0x1234 ++ leBytes 2 1 ++ leBytes 4 5 ++ zeros 20; h ++ leBytes 4 (crc32c h)), by decide +kernel⟩⟩

theorem witness_PanelRails :
    (∃ (s : State) (r : Fin 6) (at' : Nat) (i : Nat), s.die = Die.running ∧ List.find? (fun x => x.fst == ↑r) s.pwr.pgLowAt = some (↑r, at') ∧ s.nat O.panelPowerState = 2 ∧ bitOf s.pwr.en ↑r = true ∧ i < 6 ∧ s.rails[i]? = some ↑r) ∧
    (∃ (s : State) (i : Nat), s.die = Die.running ∧ s.pwr.phase = RailPhase.stepDelay i) ∧
    (∃ (s : State) (i : Nat) (r : Nat), s.die = Die.running ∧ s.pwr.phase = RailPhase.waitPg i ∧ i < 6 ∧ s.rails[i]? = some r ∧ bitOf s.pwr.en r = true) ∧
    (∃ (s : State) (i : Nat), s.die = Die.running ∧ (s.pwr.phase = RailPhase.waitFall i ∨ s.pwr.phase = RailPhase.offDelay i)) ∧
    (∃ (s : State) (i : Nat), s.pwr.phase = RailPhase.down i) :=
  ⟨⟨(panel 2 { pgLowAt := [(3, 5)], en := 8 }), 3, 5, 3, by decide +kernel⟩,
   ⟨(panel 1 { phase := .stepDelay 0, en := 1 }), 0, by decide +kernel⟩,
   ⟨(panel 1 { phase := .waitPg 5, en := 63 }), 5, 5, by decide +kernel⟩,
   ⟨(panel 3 { phase := .waitFall 5, en := 31 }), 5, by decide +kernel⟩,
   ⟨{ panel 3 { phase := .down 1, en := 3 } with die := .stopped }, 1, by decide +kernel⟩⟩

theorem witness_HoldUp :
    (∃ (s : State), s.die = Die.running ∧ s.pwr.pfailLow = true ∧ s.nat O.pwrHoldupState ≠ 1 ∧ s.nat O.pwrHoldupState ≠ 2) ∧
    (∃ (s : State), s.die = Die.running ∧ s.nat O.pwrHoldupState = 1) ∧
    (∃ (s : State) (h : Nat), s.die = Die.running ∧ s.nat O.pwrHoldupState = 2 ∧ s.pwr.phase = RailPhase.rest ∧ s.pwr.pfailHighAt = some h ∧ s.pwr.lowCause = false ∧ s.pwr.pfailLow = false) ∧
    (∃ (s : State) (mv : List Nat), s.die = Die.running ∧ mv.length = 11 ∧ (∀ (n : Nat), n < 11 → (railLow ((railTable (s.nat O.rgmiiIoVoltage)).getD n (0, 0)) (mv.getD n 0) || railHigh ((railTable (s.nat O.rgmiiIoVoltage)).getD n (0, 0)) (mv.getD n 0)) = false)) ∧
    (∃ (s : State) (mv : List Nat) (n : Nat), s.die = Die.running ∧ mv.length = 11 ∧ n < 11 ∧ railLow ((railTable (s.nat O.rgmiiIoVoltage)).getD n (0, 0)) (mv.getD n 0) = true ∧ (∀ (m : Nat), m < 11 → m ≠ n → (railLow ((railTable (s.nat O.rgmiiIoVoltage)).getD m (0, 0)) (mv.getD m 0) || railHigh ((railTable (s.nat O.rgmiiIoVoltage)).getD m (0, 0)) (mv.getD m 0)) = false) ∧ s.pwr.lows.length = 11 ∧ s.pwr.lows.getD n 0 = 1 ∧ s.nat O.pwrHoldupState = 0) :=
  ⟨⟨{ renders [] [] up with pwr := { pfailLow := true, pfailAt := 9 } }, by decide +kernel⟩,
   ⟨((up.put O.pwrHoldupState 1).put O.patinaStoreState 2), by decide +kernel⟩,
   ⟨{ up.put O.pwrHoldupState 2 with pwr := { pfailHighAt := some 8 } }, 8, by decide +kernel⟩,
   ⟨up, [750, 1100, 400, 1800, 850, 1200, 850, 800, 1800, 3300, 2500], by decide +kernel⟩,
   ⟨{ up with pwr := { lows := [0, 0, 0, 1, 0, 0, 0, 0, 0, 0, 0] } }, [750, 1100, 400, 1709, 850, 1200, 850, 800, 1800, 3300, 2500], 3, by decide +kernel⟩⟩

theorem witness_Thermal :
    (∃ (s : State) (raw : List (Option Int)) (mems : List (Option Int)), s.die = Die.running) ∧
    (∃ (s : State) (r : Bytes), s.thm.record = some r) ∧
    (∃ (s : State) (since : Nat), s.die = Die.running ∧ s.thm.calmSince = some since ∧ mayLearn s = true ∧ s.thm.sensors.length = 48) ∧
    (∃ (s : State), s.die = Die.running ∧ (∀ (at' : Nat), at' ∈ s.thm.trimsSavedAt → at' + 3600000000000 ≤ s.clk.now) ∧ s.flag O.thmNorWindow = true ∧ s.nat O.atlState = 1) :=
  ⟨⟨up, (List.replicate 48 (some 700)), [], by decide +kernel⟩,
   ⟨{ up with thm := { record := some [1#8] } }, [1#8], by decide +kernel⟩,
   ⟨{ on with thm := { calmSince := some 4, sensors := [{ val := 4 }, { val := 1, trim := 23 }, { val := 4, trim := -24 }, { val := 8, excl := true }] ++ List.replicate 44 { } } }, 4, by decide +kernel⟩,
   ⟨(run.put O.thmNorWindow 1), by decide +kernel⟩⟩

theorem witness_ClockLoss :
    (∃ (s : State) (i : Fin 32), s.die = Die.running ∧ s.isl.length = 32 ∧ (s.island ↑i).lost = false) ∧
    (∃ (s : State) (i : Fin 32), s.die = Die.running ∧ s.isl.length = 32 ∧ (s.island ↑i).held = true ∧ (s.island ↑i).lost = true ∧ (s.island ↑i).restarting = false ∧ State.restartable ↑i = true ∧ (s.island ↑i).lastRestart = none) ∧
    (∃ (s : State) (i : Fin 32) (sec : Nat), s.die = Die.running ∧ s.isl.length = 32 ∧ (s.island ↑i).held = true ∧ (s.island ↑i).lost = true ∧ (s.island ↑i).restarting = false ∧ State.restartable ↑i = true ∧ (s.island ↑i).lastRestart = some sec ∧ s.powerSeconds + 1 < sec + 3600 ∧ (s.island ↑i).lostAt ≤ s.clk.now) ∧
    (∃ (s : State) (i : Fin 32), s.die = Die.running ∧ s.isl.length = 32 ∧ (s.island ↑i).restarting = true) :=
  ⟨⟨run, 29, by decide +kernel⟩,
   ⟨{ up with isl := (List.replicate 32 { }).set 22 { held := true, lost := true, lostAt := 5 } }, 22, by decide +kernel⟩,
   ⟨{ up with isl := (List.replicate 32 { }).set 22 { held := true, lost := true, lastRestart := some 2 } }, 22, 2, by decide +kernel⟩,
   ⟨{ up with isl := (List.replicate 32 { }).set 22 { held := true, lost := true, restarting := true } }, 22, by decide +kernel⟩⟩

theorem witness_WarmResets :
    (∃ (s : State), s.die = Die.running ∧ (s.nat O.atlState = 1 ∨ s.nat O.atlState = 2)) ∧
    (∃ (s : State) (v : W32), s.die = Die.running ∧ s.pln.armed = true ∧ BitVec.toNat v = 65535 - s.pln.token.toNat) ∧
    (∃ (s : State) (v : W32), s.die = Die.running ∧ s.pln.armed = true ∧ BitVec.toNat v ≠ 65535 - s.pln.token.toNat) ∧
    (∃ (s : State) (ue : List NorUe), s.die = Die.running ∧ s.nat O.atlState = 2 ∧ (s.island 30).held = false ∧ (3 ≤ s.nat O.atlLastResetCause ∧ s.nat O.atlLastResetCause ≤ 5 ∧ 3 ≤ s.atl.faultResets.length)) ∧
    (∃ (s : State) (ue : List NorUe) (i : FwImage), s.die = Die.running ∧ s.nat O.atlState = 2 ∧ (s.island 30).held = false ∧ (¬(3 ≤ s.nat O.atlLastResetCause ∧ s.nat O.atlLastResetCause ≤ 5 ∧ 3 ≤ s.atl.faultResets.length)) ∧ (s.readNor ue).nor.trial = none ∧ (s.readNor ue).slotBoots (s.readNor ue).nor.active = true ∧ (s.readNor ue).nor.fw.getD (s.readNor ue).nor.active none = some i) ∧
    (∃ (s : State) (ue : List NorUe), s.die = Die.running ∧ s.nat O.atlState = 2 ∧ (s.island 30).held = false ∧ (¬(3 ≤ s.nat O.atlLastResetCause ∧ s.nat O.atlLastResetCause ≤ 5 ∧ 3 ≤ s.atl.faultResets.length)) ∧ (s.readNor ue).nor.trial = none ∧ (s.readNor ue).slotBoots (s.readNor ue).nor.active = false ∧ (s.readNor ue).slotBoots (1 - (s.readNor ue).nor.active) = false) ∧
    (∃ (s : State) (k : Nat) (i : FwImage), s.die = Die.running ∧ s.nor.trial = some k ∧ s.nat O.atlState = 1 ∧ s.atl.trialRuns = true ∧ s.nor.fw.getD k none = some i) :=
  ⟨⟨run, by decide +kernel⟩,
   ⟨{ run with pln := { armed := true, token := 5, deadline := 70 } }, 65530#32, by decide +kernel⟩,
   ⟨{ run with pln := { armed := true, token := 5, deadline := 70 } }, 5#32, by decide +kernel⟩,
   ⟨{ (run.put O.atlState 2).put O.atlLastResetCause 5 with atl := { faultResets := [1, 2, 3] } }, [{ addr := 7 }], by decide +kernel⟩,
   ⟨((run.put O.atlState 2).put O.atlLastResetCause 7), [{ addr := 0x1C50000, hit := .newest }], { }, by decide +kernel⟩,
   ⟨{ (run.put O.atlState 2).put O.atlLastResetCause 5 with nor := { fw := [none, none] }, atl := { faultResets := [1, 2] } }, [], by decide +kernel⟩,
   ⟨{ run with nor := { fw := [some { }, some { arb := 130 }], trial := some 1, attempted := true }, atl := { trialRuns := true, runningSince := 3 } }, 1, { arb := 130 }, by decide +kernel⟩⟩

theorem witness_NorWrites :
    (∃ (s : State), s.die = Die.running ∧ s.nat O.atlState = 1 ∧ s.flag O.thmNorWindow = true ∧ (s.log.sram ++ s.log.staging).length ≤ 4096 ∧ s.log.lostSince = 0 ∧ s.log.rateTimes.length + (s.log.sram ++ s.log.staging).length ≤ 36000 ∧ s.nor.ring.length + (s.log.sram ++ s.log.staging).length ≤ 528 * 127 ∧ s.nor.pinned.length + (s.log.sram ++ s.log.staging).length ≤ 16 * 127) ∧
    (∃ (s : State) (r : Bytes), s.die = Die.running ∧ s.nat O.atlState = 1 ∧ s.flag O.thmNorWindow = true ∧ s.pln.toWrite = some r) ∧
    (∃ (s : State), s.die = Die.running ∧ s.nat O.atlState = 1 ∧ s.flag O.thmNorWindow = false ∧ s.log.sram.length + s.log.staging.length ≤ 4096) ∧
    (∃ (s : State), s.die = Die.running ∧ s.nat O.updateState = 1) ∧
    (∃ (s : State), s.die = Die.running ∧ s.nat O.updateState = 2 ∧ s.flag O.thmNorWindow = true) ∧
    (∃ (s : State) (ue : List NorUe), s.die = Die.running ∧ s.nat O.updateState = 3 ∧ s.nat O.atlState ≠ 4) ∧
    (∃ (s : State) (ue : List NorUe), s.die = Die.running ∧ s.nat O.updateState = 3 ∧ s.atl.updateTries ≠ 0) :=
  ⟨⟨(run.put O.thmNorWindow 1), by decide +kernel⟩,
   ⟨{ run.put O.thmNorWindow 1 with pln := { toWrite := some [5#8] } }, [5#8], by decide +kernel⟩,
   ⟨{ run with log := { staging := [{ seq := 1, time := 2, code := 3, pinned := true }], sram := [{ seq := 0, time := 1, code := 4 }] } }, by decide +kernel⟩,
   ⟨{ run.put O.updateState 1 with atl := { image := [1#8] } }, by decide +kernel⟩,
   ⟨{ (run.put O.updateState 2).put O.thmNorWindow 1 with atl := { image := leBytes 6 0 ++ [1#8] ++ zeros 400 } }, by decide +kernel⟩,
   ⟨{ (run.put O.updateState 3).put O.thmNorWindow 1 with atl := { image := leBytes 6 0 ++ [1#8] ++ leBytes 1 4 ++ leBytes 4 9 ++ zeros 116 ++ [2#8] ++ zeros 400 } }, [], by decide +kernel⟩,
   ⟨{ (run.put O.updateState 3).put O.thmNorWindow 1 with atl := { updateTries := 1, image := leBytes 6 0 ++ [2#8] ++ zeros 400 } }, [], by decide +kernel⟩⟩

theorem witness_CrcUnits :
    (∃ (s : State) (ue : List NorUe), s.die = Die.inReset) ∧
    (∃ (s : State) (t0 : Nat) (ue : List NorUe), s.die = Die.stopped ∧ s.stop = StopCause.trip ∧ s.thm.belowSince = some t0 ∧ (s.elapseTo (t0 + 60000000000)).recentRestarts < s.nat O.thmAutoRestart) ∧
    (∃ (s : State) (p : Party), s.die = Die.running ∧ s.nat O.atlState = 1 ∧ p.route = Route.bar2 ∧ s.pln.armed = true) ∧
    (∃ (s : State) (p : Party), s.die = Die.running ∧ s.nat O.atlState = 1 ∧ p.route = Route.bar2 ∧ s.nat O.updateState = 4 ∧ fieldN s.atl.image 6 1 = 1) ∧
    (∃ (s : State) (u : Fin 4), s.die = Die.running ∧ s.nat O.atlState = 1 ∧ s.atl.crc.length = 4 ∧ ↑u = 0 ∧ (s.atl.crc.getD 0 { }).count ≠ 8) ∧
    (∃ (s : State) (u : Fin 4), s.die = Die.running ∧ s.nat O.atlState = 1 ∧ s.atl.crc.length = 4 ∧ ↑u = 0 ∧ (s.atl.crc.getD 0 { }).count = 8) ∧
    (∃ (s : State) (u : Fin 4), s.die = Die.running ∧ s.nat O.atlState = 1 ∧ s.atl.crc.length = 4 ∧ ↑u ≠ 0) ∧
    (∃ (s : State) (u : Fin 4) (v : W32), s.die = Die.running ∧ s.nat O.atlState = 1 ∧ s.atl.crc.length = 4) ∧
    (∃ (s : State) (u : Fin 4) (data : Bytes), s.die = Die.running ∧ s.nat O.atlState = 1 ∧ s.atl.crc.length = 4) :=
  ⟨⟨({ } : State), [], by decide +kernel⟩,
   ⟨({ on with die := .stopped, stop := .trip, thm := { belowSince := some 5 } }.put O.thmAutoRestart 1), 5, [], by decide +kernel⟩,
   ⟨{ run with pln := { armed := true }, dict := { run.dict with txAny := true, aliveTx := 7 } }, { route := .bar2 }, by decide +kernel⟩,
   ⟨{ run.put O.updateState 4 with atl := { image := zeros 6 ++ [1#8] } }, { route := .bar2 }, by decide +kernel⟩,
   ⟨run, 0, by decide +kernel⟩,
   ⟨{ run with dict := { run.dict with txAny := true, aliveTx := 254 }, atl := { crc := [{ count := 8 }, { }, { }, { }] } }, 0, by decide +kernel⟩,
   ⟨run, 3, by decide +kernel⟩,
   ⟨run, 3, 0x12345678#32, by decide +kernel⟩,
   ⟨run, 2, [1#8, 2#8], by decide +kernel⟩⟩

theorem witness_LimitCommits :
    (∃ (s : State) (g : Stage), s.die = Die.running ∧ s.pln.verifying = some g) ∧
    (∃ (s : State) (g : Stage) (sig : Bytes) (key : Bytes), s.die = Die.running ∧ s.pln.confirming = some sig ∧ s.pln.stage = some g ∧ confirmKey s = some key ∧ s.nat O.plinthState = 1) ∧
    (∃ (s : State) (g : Stage) (fell : Nat), s.die = Die.running ∧ s.pln.stage = some g ∧ s.pln.fellAt = some fell ∧ s.nat O.plinthState = 1 ∧ s.pln.consentLow = true ∧ fell + 2000000000 ≤ s.pln.windowEnd) ∧
    (∃ (s : State), s.die = Die.running ∧ s.pln.consentLow = false) ∧
    (∃ (s : State), s.die = Die.running ∧ s.pln.consentLow = true ∧ s.pln.stuck = false) :=
  ⟨⟨(onPln 0 { verifying := some { set := zeros 128, sig := zeros 96 } }), { set := zeros 128, sig := zeros 96 }, by decide +kernel⟩,
   ⟨(onPln 1 { stage := some { set := zeros 128, key := [1#8], sig := zeros 96 }, confirming := some [2#8] }), { set := zeros 128, key := [1#8], sig := zeros 96 }, [2#8], [1#8], by decide +kernel⟩,
   ⟨(onPln 1 { stage := some { set := zeros 128, sig := zeros 96 }, fellAt := some 5, consentLow := true, windowEnd := 2000000005 }), { set := zeros 128, sig := zeros 96 }, 5, by decide +kernel⟩,
   ⟨on, by decide +kernel⟩,
   ⟨{ on with pln := { on.pln with consentLow := true } }, by decide +kernel⟩⟩

theorem witness_ClipStore :
    (∃ (s : State) (p : Play) (c : Clip) (e : Nat), s.die = Die.running ∧ s.clp.play = some p ∧ p.reading = none ∧ s.nat O.clpState = 2 ∧ s.clpHeld = false ∧ nextRead s p = some (c, e) ∧ s.queueRoom (e - p.pos) = true) ∧
    (∃ (s : State) (p : Play) (c : Clip) (n : Nat) (d : Nat) (since : Nat), s.die = Die.running ∧ s.clp.play = some p ∧ p.reading = some (n, d, since) ∧ s.clip p.clip = some c ∧ d < 2 ∧ s.clp.drives.length = 2 ∧ s.nat O.clpLayout ≠ 2 ∧ s.driveReady (1 - d) = true ∧ (List.filter (fun x => decide (s.clk.now < x + 60000000000)) (s.drive d).fails).length < 2) ∧
    (∃ (s : State) (d : Fin 2), s.die = Die.running ∧ s.nat O.clpState = 2 ∧ s.driveReady ↑d = true ∧ s.clpHeld = false) ∧
    (∃ (s : State) (v : Bytes), s.die = Die.running ∧ s.nat O.clpState = 2 ∧ s.clpHeld = false ∧ s.clp.cmd = some v ∧ fieldN v 0 1 = 1 ∧ s.driveReady 0 = true ∧ s.driveReady 1 = true ∧ (fieldN v 1 1 = 1 ∨ fieldN v 1 1 = 2)) ∧
    (∃ (s : State) (v : Bytes) (r : Nat × Nat), s.die = Die.running ∧ s.nat O.clpState = 2 ∧ s.clpHeld = false ∧ s.clp.cmd = some v ∧ fieldN v 0 1 = 2 ∧ fieldN v 2 2 ≠ 0 ∧ fieldN v 2 2 ≤ 4096 ∧ s.clip (fieldN v 2 2) = none ∧ List.find? (fun r => decide (ceilDiv (fieldN v 8 8) 4096 ≤ r.snd)) (freeRanges s.volumeBlocks s.clp.table) = some r) ∧
    (∃ (s : State) (v : Bytes) (c : Clip), s.die = Die.running ∧ s.nat O.clpState = 2 ∧ s.clpHeld = false ∧ s.clp.cmd = some v ∧ fieldN v 0 1 = 3 ∧ s.clip (fieldN v 2 2) = some c ∧ c.state = 1 ∧ fieldN v 4 4 % 4 = 0 ∧ 36 ≤ fieldN v 4 4 ∧ fieldN v 4 4 ≤ 268435456 ∧ fieldN v 8 8 % 4 = 0 ∧ clpRange s (fieldN v 8 8) (fieldN v 4 4) = true ∧ c.len + fieldN v 4 4 ≤ 4096 * c.blocks ∧ clipDataOk (s.clipData (fieldN v 2 2) ++ s.hbmRead (fieldN v 8 8) (fieldN v 4 4)) = true) ∧
    (∃ (s : State) (v : Bytes) (c : Clip), s.die = Die.running ∧ s.nat O.clpState = 2 ∧ s.clpHeld = false ∧ s.clp.cmd = some v ∧ fieldN v 0 1 = 4 ∧ s.clip (fieldN v 2 2) = some c ∧ c.state = 1 ∧ marksOf (s.clipData (fieldN v 2 2)) ≠ []) ∧
    (∃ (s : State) (v : Bytes) (c : Clip), s.die = Die.running ∧ s.nat O.clpState = 2 ∧ s.clpHeld = false ∧ s.clp.cmd = some v ∧ fieldN v 0 1 = 5 ∧ s.clip (fieldN v 2 2) = some c ∧ s.nat O.clpFallbackClip ≠ fieldN v 2 2 ∧ s.clp.play = none) ∧
    (∃ (s : State) (v : Bytes), s.die = Die.running ∧ s.nat O.clpState = 2 ∧ s.clpHeld = false ∧ s.clp.cmd = some v ∧ 3 ≤ fieldN v 0 1 ∧ s.clip (fieldN v 2 2) = none) :=
  ⟨⟨(onClip [{ id := 3, state := 2, start := 4, blocks := 1, len := 52, span := 1 }] [(3, clipBytes)] (some { clip := 3, passes := 1, start := 9 }) none), { clip := 3, passes := 1, start := 9 }, { id := 3, state := 2, start := 4, blocks := 1, len := 52, span := 1 }, 52, by decide +kernel⟩,
   ⟨(onClip [{ id := 3, state := 2, start := 4, blocks := 1, len := 52, span := 1 }] [(3, clipBytes)] (some { clip := 3, passes := 1, start := 9, reading := some (52, 0, 5) }) none), { clip := 3, passes := 1, start := 9, reading := some (52, 0, 5) }, { id := 3, state := 2, start := 4, blocks := 1, len := 52, span := 1 }, 52, 0, 5, by decide +kernel⟩,
   ⟨(onClip [] [] none none), 1, by decide +kernel⟩,
   ⟨(onClip [{ id := 3, state := 2 }] [] none (some (clipCmd 1 2 0 0 0))), (clipCmd 1 2 0 0 0), by decide +kernel⟩,
   ⟨(onClip [{ id := 3, state := 2, start := 0, blocks := 1 }] [] none (some (clipCmd 2 0 4 0 4097))), (clipCmd 2 0 4 0 4097), (1, 1023), by decide +kernel⟩,
   ⟨{ onClip [{ id := 3, state := 1, start := 0, blocks := 1 }] [] none (some (clipCmd 3 0 3 52 0x80000000)) with hbm := memWrite [] 0x80000000 clipBytes }, (clipCmd 3 0 3 52 0x80000000), { id := 3, state := 1, start := 0, blocks := 1 }, by decide +kernel⟩,
   ⟨(onClip [{ id := 3, state := 1, start := 0, blocks := 1, len := 52 }] [(3, clipBytes)] none (some (clipCmd 4 0 3 0 0))), (clipCmd 4 0 3 0 0), { id := 3, state := 1, start := 0, blocks := 1, len := 52 }, by decide +kernel⟩,
   ⟨(onClip [{ id := 3, state := 1, start := 0, blocks := 1, len := 52 }] [(3, clipBytes)] none (some (clipCmd 5 0 3 0 0))), (clipCmd 5 0 3 0 0), { id := 3, state := 1, start := 0, blocks := 1, len := 52 }, by decide +kernel⟩,
   ⟨(onClip [{ id := 3, state := 1, start := 0, blocks := 1, len := 52 }] [(3, clipBytes)] none (some (clipCmd 5 0 4 0 0))), (clipCmd 5 0 4 0 0), by decide +kernel⟩⟩

theorem witness_Requests :
    (∃ (s : State) (index : Nat) (sub : Nat) (o : Obj) (p : Party) (maq : Bool), servable s p ∧ index < 49152 ∧ objAt index sub = none) ∧
    (∃ (s : State) (index : Nat) (sub : Nat) (o : Obj) (p : Party) (maq : Bool), servable s p ∧ index < 49152 ∧ objAt index sub = some o ∧ o.ty ≠ Ty.domain ∧ o.index ≠ 12545) ∧
    (∃ (s : State) (index : Nat) (sub : Nat) (o : Obj) (p : Party) (v : Bytes), servable s p ∧ index < 49152 ∧ objAt index sub = some o ∧ (o.access = Access.ro ∨ o.access = Access.cnst) ∧ o.key ≠ O.dictLastStatus.key) ∧
    (∃ (s : State) (index : Nat) (sub : Nat) (o : Obj) (p : Party) (v : Bytes), servable s p ∧ index < 49152 ∧ objAt index sub = some o ∧ o.access = Access.rws ∧ o.ty ≠ Ty.domain ∧ (∀ (f : Fn), f ∈ allFns → f.enableObj.key ≠ o.key) ∧ o.key ≠ O.cfgSwapRequest.key ∧ lengthOk o (List.length v) = true ∧ rangeOk o v = true ∧ s.nat O.cfgSwapState ≠ 0) ∧
    (∃ (s : State) (index : Nat) (sub : Nat) (o : Obj) (p : Party) (q : Party) (v : Bytes) (w : Bytes), index < 49152 ∧ objAt index sub = some o ∧ o.access = Access.rws ∧ o.ty ≠ Ty.domain ∧ (∀ (f : Fn), f ∈ allFns → f.enableObj.key ≠ o.key) ∧ o.key ≠ O.cfgSwapRequest.key ∧ lengthOk o (List.length v) = true ∧ rangeOk o v = true ∧ lengthOk o (List.length w) = true ∧ rangeOk o w = true ∧ s.nat O.cfgSwapState = 0 ∧ s.cfg.copying = false ∧ s.dict.inbox = [] ∧ s.dict.due = [] ∧ (index ≠ O.cfgSwapRequest.index ∨ sub ≠ O.cfgSwapRequest.sub) ∧ servable s p ∧ servable s q ∧ p.route = Route.bar2 ∧ p.node ≤ q.node ∧ q.route ≠ Route.bar2) :=
  ⟨⟨run, 0x3FFF, 1, O.tfNum, { }, true, by unfold servable; decide +kernel⟩,
   ⟨run, O.headVTotal.index, O.headVTotal.sub, O.headVTotal, { }, true, by unfold servable; decide +kernel⟩,
   ⟨run, O.headAState.index, O.headAState.sub, O.headAState, { }, [1#8], by unfold servable; decide +kernel⟩,
   ⟨(run.put O.cfgSwapState 2), O.headVTotal.index, O.headVTotal.sub, O.headVTotal, { route := .mgmt, node := 5 }, (leBytes 2 17700), by unfold servable; decide +kernel⟩,
   ⟨run, O.headVTotal.index, O.headVTotal.sub, O.headVTotal, { }, { route := .mgmt, node := 5 }, (leBytes 2 17700), (leBytes 2 17701), by unfold servable; decide +kernel⟩⟩

theorem witness_DomainTransfers :
    (∃ (s : State) (p : Party) (index : Nat) (sub : Nat) (total : Nat) (maq : Bool) (o : Obj), servable s p ∧ index < 49152 ∧ objAt index sub = some o ∧ o.ty = Ty.domain ∧ s.dict.transfers.length < 4 ∧ o.access = Access.rws ∧ total ≤ domainSize o ∧ s.nat O.cfgSwapState = 0 ∧ s.writing o = false ∧ o.key ≠ O.updateImage.key) ∧
    (∃ (s : State) (p : Party) (h : Nat), servable s p ∧ s.transfer h = none) ∧
    (∃ (s : State) (p : Party) (h : Nat) (x : Transfer) (offset : Nat) (maxLen : Nat) (data : Bytes), servable s p ∧ s.transfer h = some x ∧ x.isRead = true ∧ x.prevOff ≠ some offset ∧ offset = State.moved x) ∧
    (∃ (s : State) (p : Party) (h : Nat) (x : Transfer) (data : Bytes) (maxLen : Nat), servable s p ∧ s.transfer h = some x ∧ x.isRead = false ∧ x.prevOff ≠ some (List.length x.data) ∧ 512 ≤ List.length data ∧ List.length data ≤ 8192 ∧ List.length x.data + List.length data ≤ x.total) ∧
    (∃ (s : State) (p : Party) (h : Nat) (x : Transfer) (crc : Nat), servable s p ∧ s.transfer h = some x ∧ x.isRead = true) ∧
    (∃ (s : State) (p : Party) (h : Nat) (x : Transfer), servable s p ∧ s.transfer h = some x ∧ x.isRead = false ∧ x.obj.access = Access.rws ∧ List.length x.data = x.total ∧ domainLength x.obj (List.length x.data) = 0 ∧ s.nat O.cfgSwapState = 0 ∧ s.cfg.copying = false ∧ x.obj.key ≠ O.updateImage.key) ∧
    (∃ (s : State) (p : Party) (h : Nat) (x : Transfer) (crc : Nat), servable s p ∧ s.transfer h = some x ∧ x.isRead = false ∧ x.obj.access = Access.rws ∧ List.length x.data = x.total ∧ crc ≠ crc32c x.data ∧ s.cfg.copying = false) ∧
    (∃ (s : State) (p : Party) (h : Nat) (x : Transfer), servable s p ∧ s.transfer h = some x ∧ s.die = Die.running) ∧
    (∃ (s : State) (p : Party) (h : Nat) (x : Transfer) (a : Nat) (offset : Nat) (maxLen : Nat) (data : Bytes), servable s p ∧ s.transfer h = some x) :=
  ⟨⟨run, { route := .mgmt, node := 5 }, O.driveCurves.index, O.driveCurves.sub, 49200, true, O.driveCurves, by unfold servable; decide +kernel⟩,
   ⟨run, { }, 3, by unfold servable; decide +kernel⟩,
   ⟨(onXfer (xfer true 4 [1#8, 2#8, 3#8, 4#8])), { }, 3, (xfer true 4 [1#8, 2#8, 3#8, 4#8]), 0, 3, [], by unfold servable; decide +kernel⟩,
   ⟨(onXfer (xfer false 49200 [])), { }, 3, (xfer false 49200 []), (zeros 512), 0, by unfold servable; decide +kernel⟩,
   ⟨(onXfer (xfer true 4 [1#8])), { }, 3, (xfer true 4 [1#8]), 5, by unfold servable; decide +kernel⟩,
   ⟨(onXfer (xfer false 49200 (zeros 49200))), { }, 3, (xfer false 49200 (zeros 49200)), by unfold servable; decide +kernel, rfl, rfl, rfl, List.length_replicate .., by show domainLength O.driveCurves (zeros 49200).length = 0; rw [show (zeros 49200).length = 49200 from List.length_replicate ..]; decide +kernel, by decide +kernel, rfl, by decide +kernel⟩,
   ⟨(onXfer (xfer false 4 (zeros 4))), { }, 3, (xfer false 4 (zeros 4)), 7, by unfold servable; decide +kernel⟩,
   ⟨(onXfer (xfer false 49200 [])), { }, 3, (xfer false 49200 []), by unfold servable; decide +kernel⟩,
   ⟨(onXfer (xfer true 4 [1#8])), { }, 3, (xfer true 4 [1#8]), 99, 0, 3, [], by unfold servable; decide +kernel⟩⟩

theorem witness_FunctionSwitches :
    (∃ (s : State) (p : Party) (n : Fin 17), servable s p ∧ n.val < 16 ∧ s.nat (fnOf n).stateObj = 0) ∧
    (∃ (s : State) (p : Party) (n : Fin 17), servable s p ∧ s.nat (fnOf n).stateObj = 2) ∧
    (∃ (s : State) (p : Party) (n : Fin 17), servable s p ∧ s.nat (fnOf n).stateObj = 3) ∧
    (∃ (s : State) (p : Party) (n : Fin 17) (r : Nat), servable s p ∧ n.val = 16 ∧ s.nat (fnOf n).stateObj = 0 ∧ s.pwr.pfailLow = false ∧ s.nat O.pwrHoldupState = 0 ∧ s.rails[0]? = some r) ∧
    (∃ (s : State) (p : Party) (n : Fin 17), servable s p ∧ n.val = 16 ∧ s.nat (fnOf n).stateObj = 2 ∧ (s.lastOn 6).isSome = true) :=
  ⟨⟨run, { }, 0, by unfold servable; decide +kernel⟩,
   ⟨(run.put O.headBState 2), { route := .mgmt, node := 5 }, 1, by unfold servable; decide +kernel⟩,
   ⟨(run.put (O.portState 2) 3), { }, 4, by unfold servable; decide +kernel⟩,
   ⟨(run.putO O.railOrder [0#8,1#8,2#8,3#8,4#8,5#8]), { }, 16, 0, by unfold servable; decide +kernel⟩,
   ⟨{ (run.put O.panelPowerState 2).putO O.railOrder [0#8,1#8,2#8,3#8,4#8,5#8] with pwr := { en := 63 } }, { }, 16, by unfold servable; decide +kernel⟩⟩

theorem witness_CommandWrites :
    (∃ (s : State) (p : Party) (v : Bytes), servable s p ∧ List.length v = 10 ∧ s.selected = none ∧ fieldN v 6 4 ≤ 999999999) ∧
    (∃ (s : State) (p : Party) (v : Bytes), servable s p ∧ List.length v = 10 ∧ s.selected.isSome = true) ∧
    (∃ (s : State) (p : Party) (v : Bytes), servable s p ∧ List.length v = 8 ∧ s.selected = none) ∧
    (∃ (s : State) (p : Party) (v : Bytes), servable s p ∧ List.length v = 8 ∧ s.selected.isSome = true) ∧
    (∃ (s : State) (p : Party) (v : Bytes), servable s p ∧ List.length v = 32 ∧ actionOk (parseAction p v) v = true ∧ s.ns ≤ (parseAction p v).due + 10000000000 ∧ (bitOf (parseAction p v).flags 0 = false ∨ s.tEpoch s.curEpoch ≤ (parseAction p v).due) ∧ (∀ (x : Action), x ∈ s.tim.actions → x.seq ≠ (parseAction p v).seq) ∧ s.tim.actions.length < 256) ∧
    (∃ (s : State) (p : Party) (v : Bytes), servable s p ∧ List.length v = 32 ∧ actionOk (parseAction p v) v = false) ∧
    (∃ (s : State) (p : Party) (v : Bytes), servable s p ∧ List.length v = 32 ∧ actionOk (parseAction p v) v = true ∧ (parseAction p v).due + 10000000000 < s.ns) ∧
    (∃ (s : State) (p : Party) (seq : Nat), servable s p ∧ seq < 2 ^ 32) ∧
    (∃ (s : State) (p : Party), s.nat O.cfgSwapState = 0 ∧ servable s p) ∧
    (∃ (s : State) (p : Party), servable s p ∧ s.nat O.cfgSwapState ≠ 0) ∧
    (∃ (s : State) (p : Party), servable s p ∧ s.nat O.cfgStoreState ≠ 1 ∧ s.nat O.cfgStoreState ≠ 2) ∧
    (∃ (s : State) (p : Party), servable s p ∧ (s.nat O.cfgStoreState = 1 ∨ s.nat O.cfgStoreState = 2)) ∧
    (∃ (s : State) (p : Party), servable s p ∧ s.nat O.patinaStoreState ≠ 1 ∧ s.nat O.patinaStoreState ≠ 2) ∧
    (∃ (s : State) (p : Party), servable s p ∧ (s.nat O.patinaStoreState = 1 ∨ s.nat O.patinaStoreState = 2)) ∧
    (∃ (s : State) (p : Party), servable s p ∧ s.nat O.updateState = 4 ∧ fieldN s.atl.image 6 1 = 1) ∧
    (∃ (s : State) (p : Party), servable s p ∧ s.nat O.updateState ≠ 4) ∧
    (∃ (s : State) (p : Party), servable s p ∧ s.hif.hostSilent = true) ∧
    (∃ (s : State) (p : Party), servable s p ∧ s.hif.hostSilent = false ∧ s.hif.fallback = true) ∧
    (∃ (s : State) (p : Party) (key : Bytes), servable s p ∧ List.length key = 32 ∧ (p.route = Route.bar2 ∨ p.secured = true)) ∧
    (∃ (s : State) (p : Party) (key : Bytes), servable s p ∧ List.length key = 32 ∧ p.route ≠ Route.bar2 ∧ p.secured = false) ∧
    (∃ (s : State) (p : Party) (v : Nat), servable s p ∧ v ≤ 3 ∧ s.hif.fallback = false) ∧
    (∃ (s : State) (p : Party) (v : Nat), servable s p ∧ v ≤ 3 ∧ s.hif.fallback = true) ∧
    (∃ (s : State) (p : Party) (v : Bytes), servable s p ∧ List.length v = 16 ∧ s.nat O.captureState = 2 ∧ s.cal.cap.valid = true ∧ s.cal.cap.confirmed = true ∧ fieldN v 0 2 = s.nat O.captureConfirmed + 1) ∧
    (∃ (s : State) (p : Party) (v : Bytes), servable s p ∧ List.length v = 16 ∧ s.nat O.captureState ≠ 2) ∧
    (∃ (s : State) (p : Party) (v : Bytes) (tag : Nat), servable s p ∧ List.length v = 8 ∧ s.nat O.captureState = 2 ∧ s.cal.cap.valid = true ∧ s.cal.cap.presented = some tag ∧ fieldN v 0 1 = tag / 2 ^ 24 ∧ fieldN v 2 2 = tag / 2 ^ 8 % 65536 ∧ fieldN v 2 2 = fieldN s.cal.cap.step 0 2 ∧ fieldN v 4 4 = tag) ∧
    (∃ (s : State) (p : Party) (v : Bytes) (tag : Nat), servable s p ∧ List.length v = 8 ∧ s.nat O.captureState = 2 ∧ s.cal.cap.valid = true ∧ s.cal.cap.presented = some tag ∧ fieldN v 0 1 = tag / 2 ^ 24 ∧ fieldN v 2 2 = tag / 2 ^ 8 % 65536 ∧ fieldN v 2 2 = fieldN s.cal.cap.step 0 2 ∧ fieldN v 4 4 ≠ tag ∧ s.cal.cap.attempt < 2) ∧
    (∃ (s : State) (p : Party) (v : Bytes) (tag : Nat), servable s p ∧ List.length v = 8 ∧ s.nat O.captureState = 2 ∧ s.cal.cap.valid = true ∧ s.cal.cap.presented = some tag ∧ fieldN v 0 1 = tag / 2 ^ 24 ∧ fieldN v 2 2 = tag / 2 ^ 8 % 65536 ∧ fieldN v 2 2 = fieldN s.cal.cap.step 0 2 ∧ fieldN v 4 4 ≠ tag ∧ 2 ≤ s.cal.cap.attempt) ∧
    (∃ (s : State) (p : Party) (v : Bytes), servable s p ∧ List.length v = 8 ∧ (s.nat O.captureState ≠ 2 ∨ s.cal.cap.presented = none)) :=
  ⟨⟨run, { }, (leBytes 6 5 ++ leBytes 4 999999999), by unfold servable; decide +kernel⟩,
   ⟨(run.put O.timeSelectedDomain 1), { }, (leBytes 6 5 ++ leBytes 4 1999999999), by unfold servable; decide +kernel⟩,
   ⟨run, { }, (leBytes 8 5), by unfold servable; decide +kernel⟩,
   ⟨(run.put O.timeSelectedDomain 1), { }, (leBytes 8 5), by unfold servable; decide +kernel⟩,
   ⟨run, { }, (actionOf 7 3 11 1 0 16), by unfold servable; decide +kernel⟩,
   ⟨run, { route := .mgmt, node := 5 }, (actionOf 7 3 11 1 0 15), by unfold servable; decide +kernel⟩,
   ⟨{ run with clk := { disp := 2 ^ 70 } }, { }, (actionOf 7 3 11 1 0 16), by unfold servable; decide +kernel⟩,
   ⟨{ run with tim := { run.tim with actions := [{ seq := 7, due := 0, kind := 1, flags := 0, vector := 16, index := 0, sub := 0, len := 0, value := [], party := { } }] } }, { }, 7, by unfold servable; decide +kernel⟩,
   ⟨run, { }, by unfold servable; decide +kernel⟩,
   ⟨(run.put O.cfgSwapState 2), { }, by unfold servable; decide +kernel⟩,
   ⟨run, { }, by unfold servable; decide +kernel⟩,
   ⟨(run.put O.cfgStoreState 1), { }, by unfold servable; decide +kernel⟩,
   ⟨run, { }, by unfold servable; decide +kernel⟩,
   ⟨(run.put O.patinaStoreState 2), { }, by unfold servable; decide +kernel⟩,
   ⟨{ run.put O.updateState 4 with atl := { image := zeros 6 ++ [1#8] ++ zeros 400 } }, { }, by unfold servable; decide +kernel⟩,
   ⟨run, { }, by unfold servable; decide +kernel⟩,
   ⟨{ run with hif := { hostSilent := true } }, { }, by unfold servable; decide +kernel⟩,
   ⟨{ run.put O.streamSource 3 with hif := { fallback := true }, clp := { savedSource := 2, play := some { clip := 1, passes := 0, start := 0, fallback := true } } }, { }, by unfold servable; decide +kernel⟩,
   ⟨run, { }, (leBytes 32 5), by unfold servable; decide +kernel⟩,
   ⟨run, { route := .mgmt, node := 5 }, (leBytes 32 5), by unfold servable; decide +kernel⟩,
   ⟨run, { }, 3, by unfold servable; decide +kernel⟩,
   ⟨{ run with hif := { fallback := true } }, { }, 3, by unfold servable; decide +kernel⟩,
   ⟨{ run.put O.captureState 2 with cal := { cap := { valid := true, confirmed := true } } }, { }, (leBytes 16 1), by unfold servable; decide +kernel⟩,
   ⟨run, { }, (leBytes 16 1), by unfold servable; decide +kernel⟩,
   ⟨{ run.put O.captureState 2 with cal := { cap := { valid := true, confirmed := false, presented := some 256, step := leBytes 16 1 } } }, { }, (leBytes 2 0 ++ leBytes 2 1 ++ leBytes 4 256), 256, by unfold servable; decide +kernel⟩,
   ⟨{ run.put O.captureState 2 with cal := { cap := { valid := true, confirmed := false, presented := some 256, step := leBytes 16 1 } } }, { }, (leBytes 2 0 ++ leBytes 2 1 ++ leBytes 4 255), 256, by unfold servable; decide +kernel⟩,
   ⟨{ run.put O.captureState 2 with cal := { cap := { valid := true, confirmed := false, attempt := 2, presented := some 256, step := leBytes 16 1 } } }, { }, (leBytes 2 0 ++ leBytes 2 1 ++ leBytes 4 255), 256, by unfold servable; decide +kernel⟩,
   ⟨run, { }, (leBytes 8 1), by unfold servable; decide +kernel⟩⟩

theorem witness_CommissionWrites :
    (∃ (s : State) (p : Party) (v : Bytes), servable s p ∧ (List.length v = 224 ∨ List.length v = 320) ∧ s.nat O.plinthState ≠ 0) ∧
    (∃ (s : State) (p : Party) (v : Bytes), servable s p ∧ (List.length v = 224 ∨ List.length v = 320) ∧ s.nat O.plinthState = 0 ∧ s.pln.verifying = none ∧ lsForm s.pln v = true ∧ cut v 8 16 = List.take 16 (s.oct O.serialNumber ++ zeros 16) ∧ lsSeq v = s.nat O.plinthCommitSeq + 1 ∧ lsValues s.pln v = true ∧ lsCeilings s.pln v = true) ∧
    (∃ (s : State) (p : Party) (v : Bytes), servable s p ∧ List.length v = 96 ∧ s.nat O.plinthState = 0) ∧
    (∃ (s : State) (p : Party) (v : Bytes), servable s p ∧ List.length v = 96 ∧ s.nat O.plinthState ≠ 0 ∧ (confirmKey s).isSome = true) ∧
    (∃ (s : State) (p : Party), servable s p ∧ s.nat O.plinthState = 1) ∧
    (∃ (s : State) (p : Party), servable s p ∧ s.nat O.plinthState = 2) ∧
    (∃ (s : State) (p : Party) (v : Bytes) (op : Nat), servable s p ∧ List.length v = 32 ∧ 1 ≤ op ∧ op ≤ 7 ∧ fieldN v 0 1 = op ∧ s.nat O.clpState ≠ 2) ∧
    (∃ (s : State) (p : Party) (v : Bytes) (op : Nat), servable s p ∧ List.length v = 32 ∧ s.nat O.clpState = 2 ∧ s.nat O.clpCmdState ≠ 1 ∧ s.clpHeld = false ∧ 1 ≤ op ∧ op ≤ 5 ∧ fieldN v 0 1 = op ∧ s.clp.play = none ∧ (op = 1 → fieldN v 1 1 = 1 ∨ fieldN v 1 1 = 2)) ∧
    (∃ (s : State) (p : Party) (v : Bytes), servable s p ∧ List.length v = 32 ∧ s.nat O.clpState = 2 ∧ s.nat O.clpCmdState ≠ 1 ∧ s.clpHeld = false ∧ fieldN v 0 1 = 6 ∧ playCheck s (fieldN v 2 2) (fieldN v 8 8) true = 0) ∧
    (∃ (s : State) (p : Party) (v : Bytes), servable s p ∧ List.length v = 32 ∧ s.nat O.clpState = 2 ∧ s.nat O.clpCmdState ≠ 1 ∧ s.clpHeld = false ∧ fieldN v 0 1 = 6 ∧ playCheck s (fieldN v 2 2) (fieldN v 8 8) true ≠ 0) ∧
    (∃ (s : State) (p : Party) (v : Bytes) (x : Play), servable s p ∧ List.length v = 32 ∧ s.nat O.clpState = 2 ∧ s.nat O.clpCmdState ≠ 1 ∧ s.clpHeld = false ∧ fieldN v 0 1 = 7 ∧ s.clp.play = some x ∧ x.fallback = false ∧ s.clp.fallbackDue = false) :=
  ⟨⟨(run.put O.plinthState 1), { }, (limitSet (zeros 192)), by unfold servable; decide +kernel⟩,
   ⟨(run.putO O.serialNumber []), { }, (limitSet (zeros 192)), by unfold servable; decide +kernel⟩,
   ⟨run, { }, (zeros 96), by unfold servable; decide +kernel⟩,
   ⟨{ run.put O.plinthState 1 with pln := { stage := some { set := limitSet [], key := [1#8], sig := [] } } }, { }, (zeros 96), by unfold servable; decide +kernel⟩,
   ⟨{ run.put O.plinthState 1 with pln := { stage := some { set := limitSet [], key := [1#8], sig := [] } } }, { }, by unfold servable; decide +kernel⟩,
   ⟨(run.put O.plinthState 2), { }, by unfold servable; decide +kernel⟩,
   ⟨run, { }, (clipCmd 5 0 3 0 0), 5, by unfold servable; decide +kernel⟩,
   ⟨((onClip [] [] none none).put O.clpCmdState 0), { }, (clipCmd 1 2 3 0 0), 1, by unfold servable; decide +kernel⟩,
   ⟨(((onClip [{ id := 3, state := 2, start := 4, blocks := 1, len := 52, span := 1 }] [(3, clipBytes)] none none).put O.clpCmdState 0).put O.streamSource 3), { }, (clipCmd 6 0 3 0 0), by unfold servable; decide +kernel⟩,
   ⟨(((onClip [] [] none none).put O.clpCmdState 0).put O.streamSource 3), { }, (clipCmd 6 0 3 0 0), by unfold servable; decide +kernel⟩,
   ⟨((onClip [] [] (some { clip := 3, passes := 1, start := 9 }) none).put O.clpCmdState 0), { }, (clipCmd 7 0 3 0 0), { clip := 3, passes := 1, start := 9 }, by unfold servable; decide +kernel⟩⟩

theorem witness_IdleTick :
    (∃ (s : State), s.pending = [] ∧ s.die = Die.running ∧ (s.island 5).lost = false ∧ -2 ^ 48 ≤ s.int O.timeRate) ∧
    (∃ (s : State), s.pending = [] ∧ (s.die ≠ Die.running ∨ (s.island 5).lost = true)) :=
  ⟨⟨up, by decide +kernel⟩,
   ⟨{ }, by decide +kernel⟩⟩

theorem witness_CommandFrames : ∃ (c : Instr) (s : State) (t : State), exec c s = .next t :=
  ⟨.irqMaskWrite 3#32, up, _, rfl⟩

theorem witness_MemoryStaysCanonical : ∃ (s : State) (t : State), Memory.wf s = true ∧ step s = .next t :=
  ⟨{ up with hbm := [(5, 1#8)] }, _, by decide +kernel, rfl⟩

theorem witness_StoppedDie : ∃ (c : Instr) (s : State), s.die ≠ Die.running :=
  ⟨.epoch 0, { }, by decide +kernel⟩

end Sys2Proof.Tests
end

section
/-! SUPPORT. Rules for what several families of statements share: a command of a running die, lists keyed by a number, the interrupt registers, objects, the stream queue, the event log, and a good answer. -/

namespace Sys2Proof.Machine

/-- A command whose meaning runs while the die runs gives what that meaning gives. -/
theorem gives_of_live {c : Instr} {s : State} {f : State → State} {P : State → Prop} (hd : s.die = .running)
    (he : exec c s = .next (s.ifLive f)) (hP : P (f s)) : gives c s P :=
  ⟨f s, by rw [he]; simp [State.ifLive, State.live, hd], hP⟩

/-! ## Lists -/

theorem find?_removed_same {α : Type} (key : α → Nat) (l : List α) (i : Nat) : (l.filter fun y => key y != i).find? (fun y => key y == i) = none := by
  simp [List.find?_eq_none]

theorem find?_removed_ne {α : Type} (key : α → Nat) (l : List α) {i k : Nat} (h : k ≠ i) :
    (l.filter fun y => key y != i).find? (fun y => key y == k) = l.find? fun y => key y == k := by
  rw [List.find?_filter]
  congr 1
  funext y
  rw [Bool.eq_iff_iff]
  simp only [bne_iff_ne, beq_iff_eq, decide_eq_true_eq]
  exact ⟨fun hy => hy.2, fun hy => ⟨hy ▸ h, hy⟩⟩

theorem find?_replaced_same {α : Type} (key : α → Nat) (l : List α) (a : α) :
    ((l.filter fun y => key y != key a) ++ [a]).find? (fun y => key y == key a) = some a := by
  rw [List.find?_append, find?_removed_same]; simp

theorem find?_replaced_ne {α : Type} (key : α → Nat) (l : List α) {a : α} {k : Nat} (h : k ≠ key a) :
    ((l.filter fun y => key y != key a) ++ [a]).find? (fun y => key y == k) = l.find? fun y => key y == k := by
  rw [List.find?_append, find?_removed_ne key l h]; simp [Ne.symm h]

theorem foldl_keeps {α β γ : Type} (P : α → γ) {g : α → β → α} (hg : ∀ a b, P (g a b) = P a) (l : List β) (a : α) : P (l.foldl g a) = P a := by
  induction l generalizing a with
  | nil => rfl
  | cons b l ih => rw [List.foldl_cons, ih, hg]

/-! ## Interrupt registers -/

theorem State.sendVector_hif (s : State) (v : Nat) : ∃ p, (s.sendVector v).hif = { s.hif with msixPend := p } := by
  unfold State.sendVector
  split
  · exact ⟨_, rfl⟩
  · exact ⟨s.hif.msixPend, rfl⟩

/-- A cause changes the interrupt registers of the host interface alone. -/
theorem State.irq_hif (s : State) (b : Nat) : ∃ i p, (s.irq b).hif = { s.hif with irqStatus := i, msixPend := p } := by
  unfold State.irq
  dsimp only
  split
  · exact ⟨s.hif.irqStatus, s.hif.msixPend, rfl⟩
  · split
    · exact ⟨_, s.hif.msixPend, rfl⟩
    · obtain ⟨p, hp⟩ := State.sendVector_hif { s with hif := { s.hif with irqStatus := Nat.lor s.hif.irqStatus (2 ^ b) } } b
      exact ⟨_, p, hp⟩

/-- LAST_ERROR holds the code, and nothing else of the host interface but its interrupt registers changes. -/
theorem State.lastError_hif (s : State) (c : Nat) :
    ∃ i p, (s.lastError c).hif = { s.hif with lastError := c, irqStatus := i, msixPend := p } := by
  unfold State.lastError
  split
  · next h => exact ⟨s.hif.irqStatus, s.hif.msixPend, by rw [← h]⟩
  · obtain ⟨i, p, h⟩ := State.irq_hif { s with hif := { s.hif with lastError := c } } 7
    exact ⟨i, p, h⟩

theorem State.mem_out_sendVector {s : State} {o : Out} (v : Nat) (h : o ∈ s.out) : o ∈ (s.sendVector v).out := by
  unfold State.sendVector
  split
  · exact h
  · exact List.mem_cons_of_mem _ h

theorem State.mem_out_irq {s : State} {o : Out} (b : Nat) (h : o ∈ s.out) : o ∈ (s.irq b).out := by
  unfold State.irq
  dsimp only
  split
  · exact h
  · split
    · exact h
    · exact State.mem_out_sendVector b h

/-! ## Objects -/

/-- A number that fits an unsigned object is read back as it was put. -/
theorem State.nat_put_fits (s : State) (o : Obj) (v : Nat) {w : Nat} (hw : o.ty.width = some w) (hs : o.ty.isSigned = false) (hv : v < 2 ^ (8 * w)) :
    (s.put o v).nat o = v := by
  rw [State.nat_put_same, Ty.fit_unsigned hw hs, Nat.mod_eq_of_lt hv]

theorem State.nat_bumpBy_ne {s : State} {o q : Obj} {n : Nat} (h : q.key ≠ o.key) : (s.bumpBy o n).nat q = s.nat q := State.nat_put_ne h

theorem State.nat_bump_ne {s : State} {o q : Obj} (h : q.key ≠ o.key) : (s.bump o).nat q = s.nat q := State.nat_bumpBy_ne h

/-- The empty mask speaks of no object. -/
theorem touched_none (k : Nat) : touched 0 k = false := by simp [touched]

/-! ## The stream queue -/

/-- Powering an island up does not make it ready: that is ISLAND_POWERED's (R26). -/
theorem State.powerIsl_powered (s : State) (i j : Nat) : (((s.powerIsl i).island j).pow = .powered) ↔ (s.island j).pow = .powered := by
  unfold State.powerIsl State.modIsl State.island
  simp only [List.getD_eq_getElem?_getD, List.getElem?_modify]
  cases s.isl[j]? with
  | none => simp
  | some x =>
    by_cases hij : i = j
    · simp only [hij, if_true, Option.map_eq_map, Option.map_some, Option.getD_some]
      split
      · next hx => simp [hx.1]
      · rfl
    · simp [hij]

theorem State.powerIsl_streamPowered (s : State) (i : Nat) : (s.powerIsl i).streamPowered = s.streamPowered := by
  unfold State.streamPowered
  rw [Bool.eq_iff_iff]
  simp only [Bool.and_eq_true, beq_iff_eq, State.powerIsl_powered]

/-- A segment enters the stream queue while its islands are powered and nothing waits before it (R27). -/
theorem State.enqueue_powered {s : State} {k : Nat} {bs : Bytes} (hp : s.streamPowered = true) (hg : s.sdec.gate = []) :
    (s.enqueue k bs).sdec = { s.sdec with
      queue := s.sdec.queue ++ [{ transport := k, addr := 0x40000000 + s.sdec.wr, bytes := bs }]
      wr := (s.sdec.wr + bs.length) % 0x40000000 } := by
  unfold State.enqueue
  simp [State.powerIsl_streamPowered, hp, hg, State.pushSegment]

/-- A segment waits at the gate while its islands are not powered, or behind others that wait there (R27). -/
theorem State.enqueue_waits {s : State} {k : Nat} {bs : Bytes} (h : s.streamPowered = false ∨ s.sdec.gate ≠ []) :
    (s.enqueue k bs).sdec = { s.sdec with gate := s.sdec.gate ++ [(k, bs)] } := by
  unfold State.enqueue
  rcases h with h | h
  · simp [State.powerIsl_streamPowered, h]
  · simp [h]

/-- A delivered segment changes the stream decoder, the islands and the memory's wake-up alone. -/
theorem State.enqueue_frame (s : State) (k : Nat) (bs : Bytes) : Fr0 16781824 0 s (s.enqueue k bs) :=
  State.enqueue_fr rfl rfl (fr_refl s)

theorem State.enqueue_nat (s : State) (k : Nat) (bs : Bytes) (q : Obj) : (s.enqueue k bs).nat q = s.nat q :=
  (vals_of_fr (s.enqueue_frame k bs) rfl rfl (by decide) (touched_none _)).2.2.1

theorem State.regateStream_frame (s : State) : Fr0 512 0 s s.regateStream := State.regateStream_fr rfl rfl (fr_refl s)

theorem State.regateStream_nat (s : State) (q : Obj) : s.regateStream.nat q = s.nat q :=
  (vals_of_fr s.regateStream_frame rfl rfl (by decide) (touched_none _)).2.2.1

/-! ## Islands -/

theorem State.powerAll_nat (s : State) (l : List Nat) (q : Obj) : (s.powerAll l).nat q = s.nat q :=
  (vals_of_fr (State.powerAll_fr (c := 512) (r := 0) rfl rfl (fr_refl s)) rfl rfl (by decide) (touched_none _)).2.2.1

/-! ## The event log and the faults -/

/-- The event log of `t` continues that of `s`. -/
def logGrows (s t : State) : Prop := ∃ es, t.log.staging = s.log.staging ++ es

theorem logGrows_of_eq {s t : State} (h : t.log = s.log) : logGrows s t := ⟨[], by simp [h]⟩

theorem logGrows.trans {s t u : State} (h : logGrows s t) (g : logGrows t u) : logGrows s u := by
  obtain ⟨es, h⟩ := h
  obtain ⟨fs, g⟩ := g
  exact ⟨es ++ fs, by rw [g, h, List.append_assoc]⟩

theorem logGrows_postWith (s : State) (f : Bool) (code : Nat) (param : List Nat) : logGrows s (s.postWith f code param) := by
  by_cases hfull : 256 ≤ s.log.staging.length
  · refine ⟨[], ?_⟩
    unfold State.postWith
    rw [if_pos hfull]
    cases f <;> simp
  · obtain ⟨es, hes, -⟩ := logs_postWith s f code param (by simp only [List.length_singleton]; omega)
    exact ⟨es, hes⟩

theorem logGrows_put {s t : State} (o : Obj) (v : Int) (h : logGrows s t) : logGrows s (t.put o v) :=
  h.trans (logGrows_of_eq (by simp))

theorem logGrows_suspend (s : State) (bit : Nat) : logGrows s (s.suspend bit) := by
  unfold State.suspend
  split
  · exact logGrows_of_eq rfl
  · have huncover : ∀ t : State, t.uncover.log = t.log := fun t => rfl
    refine logGrows.trans (logGrows.trans (logGrows_of_eq ?_) (logGrows_postWith _ false 0x0910 [bit])) (logGrows_of_eq (huncover _))
    simp

theorem logGrows_resume (s : State) (bit : Nat) : logGrows s (s.resume bit) := by
  unfold State.resume
  dsimp only
  split
  · split
    · exact (logGrows_of_eq (by simp)).trans (logGrows_postWith _ false 0x0911 [])
    · exact logGrows_of_eq (by simp)
  · exact logGrows_of_eq rfl

theorem logGrows_refreshFaults (s : State) : logGrows s s.refreshFaults := by
  unfold State.refreshFaults
  dsimp only
  refine logGrows_put _ _ ?_
  split
  · exact (logGrows_put _ _ (logGrows_put _ _ (logGrows_put _ _ (logGrows_of_eq rfl)))).trans (logGrows_suspend _ 3)
  · exact (logGrows_put _ _ (logGrows_put _ _ (logGrows_put _ _ (logGrows_of_eq rfl)))).trans (logGrows_resume _ 3)

/-- A posted entry stays among the posted ones while the log goes on. -/
theorem logged_of_post {s u t : State} (f : Bool) (code : Nat) (param : List Nat) (hs : u.log = s.log) (hg : logGrows (u.postWith f code param) t) :
    logged s t (code, param) := by
  intro hlen
  obtain ⟨fs, hfs⟩ := hg
  obtain ⟨gs, hgs⟩ := logGrows_postWith u f code param
  have hroom : u.log.staging.length + [(code, param)].length ≤ 256 := by
    rw [hfs, hgs, List.length_append, List.length_append] at hlen
    rw [List.length_singleton]; omega
  obtain ⟨es, hes, hmap⟩ := logs_postWith u f code param hroom
  refine ⟨es ++ fs, by rw [hfs, hes, hs, List.append_assoc], ?_⟩
  rw [List.map_append, hmap]
  exact List.mem_append_left _ (List.mem_singleton_self _)

/-- A raised fault is logged with its code (R491). -/
theorem logged_raise (s u : State) (fam cls item code : Nat) (param : List Nat) (hs : u.log = s.log) :
    logged s (u.raise fam cls item code param) (code, param) := by
  unfold State.raise
  exact logged_of_post true code param (by simp [hs]) (logGrows_refreshFaults _)

/-- A raised fault is counted in its family (R490). -/
theorem counts_raise (s : State) (fam cls item code : Nat) (param : List Nat) (hq : touched 4685472994722233450496 (O.faultFamilyCount fam).key = false)
    (hp : touched 7340032 (O.faultFamilyCount fam).key = false) : counts s (s.raise fam cls item code param) (O.faultFamilyCount fam) 1 := by
  unfold counts State.raise
  rw [(State.refreshFaults_vals _ hq).2.2.1, (State.postFault_vals _ _ _ hp).2.2.1]
  exact counts_bump _ (O.faultFamilyCount fam) (w := 4) rfl rfl

/-! ## Answers -/

/-- A good answer changes the window or what leaves the block, no object and no function. -/
theorem answer_good_keeps (s : State) (a : Ask) (ha : a.party.action = none) (hv : a.vx = none) :
    (∀ q, (s.answer a { status := 0 }).val q = s.val q) ∧ (s.answer a { status := 0 }).held = s.held ∧ (s.answer a { status := 0 }).pwr = s.pwr := by
  have he : s.answer a { status := 0 } = if a.party.route = .bar2 then s.answerWindow { status := 0 } else s.emit (.vipex a.party 0 (Reply.payload { status := 0 })) := by
    unfold State.answer
    simp only [ha, hv]
    rfl
  rw [he]
  split
  · have hf := State.answerWindow_fr (p1 := { status := 0 }) (c := 20401094656) (r := 0) rfl rfl (fr_refl s)
    exact ⟨fun q => val_of_fr hf rfl rfl (by decide) (touched_none _), (hf.1 .held rfl).symm, (hf.1 .pwr rfl).symm⟩
  · exact ⟨fun q => by simp, rfl, rfl⟩

end Sys2Proof.Machine
end

section
/-! The descriptor at the head of the segment ring (R318 to R320). -/

namespace Sys2Proof.Machine

/-- The descriptor at the head is completed with a status: written back with DONE and the time, the head advanced, its code reported, its interrupt raised (R318, R319). -/
def segTaken (s : State) (desc : Bytes) (t : State) (status time : Nat) : Prop :=
  Out.hostWrite (s.hif.seg.base + 32 * s.hif.seg.head + 0x10) (leBytes 2 status ++ leBytes 2 1 ++ zeros 4 ++ leBytes 8 time) ∈ t.out ∧
  t.hif.seg = { s.hif.seg with head := (s.hif.seg.head + 1) % s.hif.seg.size } ∧ t.hif.segStalled = false ∧
  (status ≠ 0 → t.hif.lastError = status ∧ t.nat O.hifLastStatus = status) ∧ (bitOf (fieldN desc 0x0C 2) 0 = true → bitOf t.hif.irqStatus 1 = true)

/-- The code of a descriptor becomes the most recent one of the host interface; without one nothing is reported. -/
def segReport (s : State) (status : Nat) : State :=
  if status = 0 then s else ((s.put O.hifLastStatus status).lastError status).drawFree

theorem segReport_hif (s : State) (status : Nat) :
    (segReport s status).hif.seg = s.hif.seg ∧ (status ≠ 0 → (segReport s status).hif.lastError = status) := by
  unfold segReport
  split
  · next h => exact ⟨rfl, fun hn => absurd h hn⟩
  · obtain ⟨i, p, h⟩ := State.lastError_hif (s.put O.hifLastStatus status) status
    simp [h]

theorem segReport_sdec (s : State) (status : Nat) : (segReport s status).sdec = s.sdec := by
  unfold segReport; split <;> simp

theorem segReport_status (s : State) {status : Nat} (h : status ≠ 0) (hw : status < 65536) : (segReport s status).nat O.hifLastStatus = status := by
  unfold segReport
  simpa [h] using State.nat_put_fits s O.hifLastStatus status (w := 2) rfl rfl hw

theorem segReport_nat (s : State) (status : Nat) {q : Obj} (hq : q.key ≠ O.hifLastStatus.key) : (segReport s status).nat q = s.nat q := by
  unfold segReport; split <;> simp [State.nat_put_ne hq]

/-- The time a write-back carries: that of the copy, or with a code whatever the spec leaves open. -/
def segTime (s : State) (status : Nat) : Nat := if status = 0 then s.ns else (Config.freeBits 64 s.free).toNat

/-- The write-back and the head's advance, before the interrupt. -/
def segAdvance (s : State) (status : Nat) : State :=
  ((segReport s status).emit (.hostWrite (s.hif.seg.base + 32 * s.hif.seg.head + 0x10)
    (leBytes 2 status ++ leBytes 2 1 ++ zeros 4 ++ leBytes 8 (segTime s status)))).modHif
      fun h => { h with seg := { h.seg with head := (h.seg.head + 1) % max 1 h.seg.size }, segStalled := false }

theorem segComplete_eq (s : State) (d : Bytes) (status : Nat) :
    segComplete s d status = if bitOf (fieldN d 0x0C 2) 0 then (segAdvance s status).irq 1 else segAdvance s status := rfl

theorem segComplete_sdec (s : State) (d : Bytes) (status : Nat) : (segComplete s d status).sdec = s.sdec := by
  rw [segComplete_eq]; split <;> simp [segAdvance, segReport_sdec]

theorem segComplete_nat (s : State) (d : Bytes) (status : Nat) {q : Obj} (hq : q.key ≠ O.hifLastStatus.key) : (segComplete s d status).nat q = s.nat q := by
  rw [segComplete_eq]; split <;> simp [segAdvance, segReport_nat s status hq]

theorem segAdvance_taken (s : State) (d : Bytes) {status : Nat} (hz : 0 < s.hif.seg.size) (hw : status < 65536) (hi : bitOf (fieldN d 0x0C 2) 0 = false) :
    segTaken s d (segAdvance s status) status (segTime s status) := by
  obtain ⟨hseg, herr⟩ := segReport_hif s status
  have hsize : max 1 s.hif.seg.size = s.hif.seg.size := Nat.max_eq_right hz
  refine ⟨by simp [segAdvance], by simp [segAdvance, hseg, hsize], by simp [segAdvance], fun hn => ?_, fun h => absurd h (by simp [hi])⟩
  exact ⟨by simpa [segAdvance] using herr hn, by simpa [segAdvance] using segReport_status s hn hw⟩

/-- A completed descriptor is taken with its status (R318, R319). -/
theorem segComplete_taken (s : State) (d : Bytes) {status : Nat} (hz : 0 < s.hif.seg.size) (hw : status < 65536) :
    segTaken s d (segComplete s d status) status (segTime s status) := by
  rw [segComplete_eq]
  cases hi : bitOf (fieldN d 0x0C 2) 0 with
  | false => exact segAdvance_taken s d hz hw hi
  | true =>
    obtain ⟨hout, hseg, hst, hcode, -⟩ := segAdvance_taken s [] hz hw rfl
    obtain ⟨i, p, hif⟩ := State.irq_hif (segAdvance s status) 1
    refine ⟨State.mem_out_irq 1 hout, ?_, ?_, ?_, fun _ => irq_bit _ 1⟩
    · simpa [hif] using hseg
    · simpa [hif] using hst
    · simpa [hif] using hcode

/-- Taking a descriptor reads the rings and the time of the state alone. -/
theorem segTaken_congr {s u t : State} {d : Bytes} {status time : Nat} (h : u.hif = s.hif) (ht : segTaken u d t status time) : segTaken s d t status time := by
  unfold segTaken at ht ⊢; rwa [h] at ht

section
variable {s : State} {d : Bytes} (dma : Dma) (hen : s.hif.seg.en = true) (hne : s.hif.seg.head ≠ s.hif.seg.tail) (hup : s.linkUp = true)
include hen hne hup

theorem segmentCopy_bad (hok : segDescOk d = false) : cmdSegmentDescriptorCopy s d dma = segComplete s d 0x0101 := by
  simp [cmdSegmentDescriptorCopy, hen, hne, hup, hok]

theorem segmentCopy_source (hok : segDescOk d = true) (hs : s.source ≠ 0) : cmdSegmentDescriptorCopy s d dma = segComplete s d 0x0106 := by
  simp [cmdSegmentDescriptorCopy, hen, hne, hup, hok, hs]

theorem segmentCopy_full (hok : segDescOk d = true) (hs : s.source = 0) (hr : s.queueRoom (fieldN d 8 4) = false) :
    cmdSegmentDescriptorCopy s d dma = s.modHif fun h => { h with segStalled := true } := by
  simp [cmdSegmentDescriptorCopy, hen, hne, hup, hok, hs, hr]

theorem segmentCopy_error (hok : segDescOk d = true) (hs : s.source = 0) (hr : s.queueRoom (fieldN d 8 4) = true)
    (hd : ∀ data, dma = .ok data → data.length ≠ fieldN d 8 4) :
    cmdSegmentDescriptorCopy s d dma = segComplete (s.bump O.dmaErrorCount) d 0x0102 := by
  cases dma with
  | error => simp [cmdSegmentDescriptorCopy, hen, hne, hup, hok, hs, hr]
  | ok data => simp [cmdSegmentDescriptorCopy, hen, hne, hup, hok, hs, hr, hd data rfl]

omit dma in
theorem segmentCopy_copied {data : Bytes} (hok : segDescOk d = true) (hs : s.source = 0) (hr : s.queueRoom (fieldN d 8 4) = true)
    (hd : data.length = fieldN d 8 4) :
    cmdSegmentDescriptorCopy s d (.ok data) =
      segComplete (((s.enqueue 0 data).bump O.segCopiedCount).bumpBy O.segCopiedBytes (fieldN d 8 4)) d 0 := by
  simp [cmdSegmentDescriptorCopy, hen, hne, hup, hok, hs, hr, hd]

end

/-- Settles O7, by the outcomes of R319's table in their order; every completed descriptor goes through `segComplete_taken`. -/
theorem segmentCopy : Obligations.SegmentCopy := by
  intro s d dma hdie hen hne hup hz n got taken
  have took : ∀ {u : State} {st : Nat}, u.hif = s.hif → st < 65536 → taken (segComplete u d st) st (segTime u st) := fun {u} _ hu hw =>
    segTaken_congr hu (segComplete_taken u d (by rw [hu]; exact hz) hw)
  refine ⟨fun hok => ?_, fun hok hs => ?_, fun hok hs hr => ?_, fun hok hs hr => ⟨fun hg => ?_, fun data hg => ?_⟩⟩
  · refine gives_of_live hdie rfl ?_
    rw [segmentCopy_bad dma hen hne hup hok]
    exact ⟨⟨_, took rfl (by decide)⟩, segComplete_sdec ..⟩
  · refine gives_of_live hdie rfl ?_
    rw [segmentCopy_source dma hen hne hup hok hs]
    exact ⟨⟨_, took rfl (by decide)⟩, segComplete_sdec ..⟩
  · refine gives_of_live hdie rfl ?_
    rw [segmentCopy_full dma hen hne hup hok hs hr]
    exact ⟨rfl, rfl, rfl⟩
  · have hbad : ∀ data, dma = .ok data → data.length ≠ n := by
      rintro data rfl hl
      simp [got, hl] at hg
    refine gives_of_live hdie rfl ?_
    rw [segmentCopy_error dma hen hne hup hok hs hr hbad]
    refine ⟨⟨_, took (by simp) (by decide)⟩, by simp [segComplete_sdec], ?_⟩
    unfold counts
    rw [segComplete_nat _ _ _ (by decide)]
    exact counts_bump s O.dmaErrorCount (w := 4) rfl rfl
  · obtain ⟨rfl, hl⟩ : dma = .ok data ∧ data.length = n := by
      cases dma with
      | error => simp [got] at hg
      | ok x =>
        simp only [got, Option.ite_none_right_eq_some, Option.some.injEq] at hg
        exact ⟨congrArg Dma.ok hg.2, hg.2 ▸ hg.1⟩
    refine gives_of_live hdie rfl ?_
    rw [segmentCopy_copied hen hne hup hok hs hr hl]
    have hhif : (s.enqueue 0 data).hif = s.hif := ((s.enqueue_frame 0 data).1 .hif rfl).symm
    have hclk : (s.enqueue 0 data).clk = s.clk := ((s.enqueue_frame 0 data).1 .clk rfl).symm
    refine ⟨?_, fun hp hgate => ?_, fun hw => ?_, ?_, ?_⟩
    · have h := took (u := ((s.enqueue 0 data).bump O.segCopiedCount).bumpBy O.segCopiedBytes n) (st := 0) (by simp [hhif]) (by decide)
      rwa [show segTime _ 0 = s.ns by simp [segTime, State.ns, hclk]] at h
    · simp [segComplete_sdec, State.enqueue_powered hp hgate, hgate]
    · simp [segComplete_sdec, State.enqueue_waits hw]
    · unfold counts
      rw [segComplete_nat _ _ _ (by decide), State.nat_bumpBy_ne (by decide), counts_bump _ O.segCopiedCount (w := 8) rfl rfl, State.enqueue_nat]
    · unfold counts
      rw [segComplete_nat _ _ _ (by decide), counts_bumpBy _ O.segCopiedBytes n (w := 8) rfl rfl, State.nat_bump_ne (by decide), State.enqueue_nat]

end Sys2Proof.Machine
end

section
/-! The clip store at work: reads, health polls, and the commands of the table (R473 to R484). -/

namespace Sys2Proof.Machine

/-! ## Reads -/

/-- CLP_READ_ISSUE sends the drive command for the next frame's bytes (R483). -/
theorem clpReadIssue_eq {s : State} {p : Play} {c : Clip} {e : Nat} (hp : s.clp.play = some p) (hr : p.reading = none) (hst : s.nat O.clpState = 2)
    (hh : s.clpHeld = false) (hn : nextRead s p = some (c, e)) (hroom : s.queueRoom (e - p.pos) = true) :
    cmdClpReadIssue s = (s.modClp fun x => { x with
      play := some { p with reading := some (e - p.pos, (driveOf s (4096 * c.start + p.pos)).1, s.clk.now) } }).emit
        (.drive (driveOf s (4096 * c.start + p.pos)).1 false (4096 * 1024 + (driveOf s (4096 * c.start + p.pos)).2) (e - p.pos)) := by
  simp [cmdClpReadIssue, hp, hr, hst, hh, hn, hroom]

/-- With no fallback due, the end of a play leaves nothing that plays (R482). -/
theorem endPlay_plain {s : State} (h : s.clp.fallbackDue = false) :
    (endPlay s).clp.play = none ∧ (endPlay s).nat O.clpPlayState = 0 ∧ (endPlay s).nat O.clpPlayClip = 0 := by
  have he : endPlay s = (((s.modClp fun c => { c with play := none, fallbackDue := false }).put O.clpPlayState 0).put O.clpPlayClip 0).regateStream := by
    simp [endPlay, h]
  refine ⟨?_, ?_, ?_⟩
  · rw [he, ← ((State.regateStream_frame _).1 .clp rfl : _ = _)]; simp
  · rw [he, State.regateStream_nat, State.nat_put_ne (by decide), State.nat_put_same]; rfl
  · rw [he, State.regateStream_nat, State.nat_put_same]; rfl

theorem endPlay_sdec (s : State) : (endPlay s).sdec = s.sdec :=
  ((endPlay_fr (c := 31676449280) (r := 1194721826677872827301888) rfl rfl (fr_refl s)).1 .sdec rfl).symm

/-- The rebased segments of a read reach the stream queue where it takes them from the clip store (R482). -/
def clpDeliver (s : State) (bytes : Bytes) : State := if bytes.isEmpty || s.source != 3 then s else s.enqueue 3 bytes

theorem clpDeliver_clp (s : State) (bytes : Bytes) : (clpDeliver s bytes).clp = s.clp := by
  unfold clpDeliver
  split
  · rfl
  · exact ((s.enqueue_frame 3 bytes).1 .clp rfl).symm

theorem clpDeliver_source (s : State) {bytes : Bytes} (h : s.source ≠ 3) : clpDeliver s bytes = s := by simp [clpDeliver, h]

theorem clpDeliver_enqueue (s : State) {bytes : Bytes} (h : s.source = 3) (hb : bytes ≠ []) : clpDeliver s bytes = s.enqueue 3 bytes := by
  simp [clpDeliver, h, hb]

/-- The bytes that a read of a play puts into the stream: its segments, rebased to the pass (R482). -/
def clpReadBytes (s : State) (p : Play) (c : Clip) (n : Nat) : Bytes :=
  (segsOf (cut (s.clipData p.clip) p.pos n)).flatMap (rebaseSegment s.tf (p.start + p.pass * c.span))

/-- The play with a read passed on: it stands at the next frame. -/
def Play.advance (p : Play) (n : Nat) : Play := { p with pos := p.pos + n, frame := p.frame + 1, reading := none }

/-- A failed read is counted and kept with the drive's failures of the last 60 s (R484). -/
def clpCountFail (s : State) (d : Nat) : State :=
  (s.bump O.clpReadFailCount).modDrive d fun x => { x with fails := ((s.drive d).fails.filter fun t => s.clk.now < t + 60000000000) ++ [s.clk.now] }

theorem clpCountFail_nat (s : State) (d : Nat) {q : Obj} (hq : q.key ≠ O.clpReadFailCount.key) : (clpCountFail s d).nat q = s.nat q := by
  simp [clpCountFail, State.nat_bump_ne hq]

theorem clpDriveState_key (d : Nat) : (O.clpDriveState d).key ≠ O.clpReadFailCount.key := by
  simp only [O.clpDriveState, Obj.key, O.clpReadFailCount]; omega

section
variable {s : State} {p : Play} {c : Clip} {n d since : Nat} (hp : s.clp.play = some p) (hr : p.reading = some (n, d, since)) (hc : s.clip p.clip = some c)
include hp hr hc

theorem clpReadDone_frame (hlt : p.pos + n < c.len) :
    cmdClpReadDone s = (clpDeliver s (clpReadBytes s p c n)).modClp fun x => { x with play := some (p.advance n) } := by
  simp [cmdClpReadDone, hp, hr, hc, hlt, clpDeliver, clpReadBytes, Play.advance]

theorem clpReadDone_pass (hle : c.len ≤ p.pos + n) (h : p.passes = 0 ∨ p.pass + 1 < p.passes) :
    cmdClpReadDone s = ((clpDeliver s (clpReadBytes s p c n)).modClp fun x => { x with
      play := some { p.advance n with pass := p.pass + 1, pos := 0, frame := 0 } }).put O.clpPlayBase (p.start + (p.pass + 1) * c.span : Nat) := by
  have hgo : ¬ (p.passes ≠ 0 ∧ p.passes ≤ p.pass + 1) := by omega
  simp only [cmdClpReadDone, hp, hr, hc]
  rw [if_neg (by simpa using hle), if_neg hgo]
  rfl

theorem clpReadDone_end (hle : c.len ≤ p.pos + n) (h0 : p.passes ≠ 0) (h : p.passes ≤ p.pass + 1) :
    cmdClpReadDone s = endPlay ((clpDeliver s (clpReadBytes s p c n)).modClp fun x => { x with play := some (p.advance n) }) := by
  simp only [cmdClpReadDone, hp, hr, hc]
  rw [if_neg (by simpa using hle), if_pos ⟨h0, h⟩]
  rfl

/-- Whatever becomes of the play, the stream decoder sees the delivery alone. -/
theorem clpReadDone_sdec : (cmdClpReadDone s).sdec = (clpDeliver s (clpReadBytes s p c n)).sdec := by
  by_cases hlt : p.pos + n < c.len
  · rw [clpReadDone_frame hp hr hc hlt]; simp
  · by_cases h : p.passes = 0 ∨ p.pass + 1 < p.passes
    · rw [clpReadDone_pass hp hr hc (by omega) h]; simp
    · rw [clpReadDone_end hp hr hc (by omega) (by omega) (by omega), endPlay_sdec]; simp

/-- CLP_READ_FAIL with a mirror and fewer than three failures in 60 s: counted, and read again from the mirror (R484). -/
theorem clpReadFail_mirror (hl : s.nat O.clpLayout ≠ 2) (hm : s.driveReady (1 - d) = true)
    (hf : ((s.drive d).fails.filter fun x => s.clk.now < x + 60000000000).length < 2) :
    cmdClpReadFail s = ((clpCountFail s d).modClp fun x => { x with play := some { p with reading := some (n, 1 - d, s.clk.now) } }).emit
      (.drive (1 - d) false (4096 * (1024 + c.start) + p.pos) n) := by
  have hfew : ¬ (3 ≤ (((s.drive d).fails.filter fun t => s.clk.now < t + 60000000000) ++ [s.clk.now]).length ∧ (clpCountFail s d).driveReady d = true) := by
    rw [List.length_append, List.length_singleton]; omega
  have hlay : (clpCountFail s d).nat O.clpLayout ≠ 2 := by rwa [clpCountFail_nat s d (by decide)]
  have hmir : (clpCountFail s d).driveReady (1 - d) = true := by
    rwa [State.driveReady, clpCountFail_nat s d (clpDriveState_key _)]
  have hclip : (clpCountFail s d).clip p.clip = some c := hc
  unfold cmdClpReadFail
  simp only [hp, hr]
  rw [← clpCountFail, if_neg hfew, if_neg hlay, if_pos hmir, hclip]

end

/-! ## Health -/

theorem driveFault_untouched (d : Nat) : touched 306916927898379527127040 (O.clpDriveState d).key = false := by
  unfold O.clpDriveState
  rcases Nat.mod_two_eq_zero_or_one d with h | h
  · rw [h]; decide +kernel
  · rw [h]; decide +kernel

/-- A drive's fault is the store's last status, is counted and logged, and leaves every drive's state (R473, R493). -/
theorem driveFault_shows (s : State) (d : Nat) {code : Nat} (hc : code < 65536) :
    (driveFault s d code).nat O.clpLastStatus = code ∧ counts s (driveFault s d code) (O.faultFamilyCount 12) 1 ∧
    logged s (driveFault s d code) (code, [d]) ∧ ∀ k, (driveFault s d code).nat (O.clpDriveState k) = s.nat (O.clpDriveState k) := by
  unfold driveFault
  refine ⟨?_, ?_, ?_, fun k => ?_⟩
  · rw [(State.raise_vals _ 12 0 d code [d] (by decide +kernel)).2.2.1]
    exact State.nat_put_fits s O.clpLastStatus code (w := 2) rfl rfl hc
  · unfold counts
    rw [counts_raise _ 12 0 d code [d] (by decide +kernel) (by decide +kernel), State.nat_put_ne (by decide)]
  · exact logged_raise s _ 12 0 d code [d] (by simp)
  · have hkey : (O.clpDriveState k).key ≠ O.clpLastStatus.key := by
      simp only [O.clpDriveState, Obj.key, O.clpLastStatus]; omega
    rw [(State.raise_vals _ 12 0 d code [d] (driveFault_untouched k)).2.2.1, State.nat_put_ne hkey]

/-! ## The table -/

theorem State.clip_congr {s t : State} (h : t.clp.table = s.clp.table) (k : Nat) : t.clip k = s.clip k := by
  unfold State.clip; rw [h]

theorem State.clip_id {s : State} {k : Nat} {c : Clip} (h : s.clip k = some c) : c.id = k := by
  simpa using List.find?_some h

theorem State.setClip_clip_same (s : State) (c : Clip) : (s.setClip c).clip c.id = some c := find?_replaced_same Clip.id s.clp.table c

theorem State.setClip_clip_ne (s : State) (c : Clip) {k : Nat} (h : k ≠ c.id) : (s.setClip c).clip k = s.clip k :=
  find?_replaced_ne Clip.id s.clp.table h

/-- Committing the table leaves it as it is (R476). -/
theorem State.commitTable_table (s : State) : s.commitTable.clp.table = s.clp.table := by
  unfold State.commitTable State.showVolume
  simp only [State.put_fields, State.modClp_fields]
  refine foldl_keeps (fun t : State => t.clp.table) (fun t d => ?_) _ _
  split
  · simp only [State.modDrive, State.modClp_fields]
  · rfl

theorem State.commitTable_nat (s : State) {q : Obj} (hq : touched 37218383881977644441306597687849648128 q.key = false) :
    s.commitTable.nat q = s.nat q :=
  (vals_of_fr (State.commitTable_fr (c := 536870912) rfl rfl (fr_refl s)) rfl rfl (by decide) hq).2.2.1

/-! ## Commands -/

/-- What the running command comes to, by its opcode (R477). -/
def clpRun (s : State) (v : Bytes) : Nat × State :=
  match fieldN v 0 1 with
  | 1 => clpFormat s v
  | 2 => clpCreate s v
  | 3 => clpWrite s v
  | 4 => clpClose s v
  | _ => clpDelete s v

theorem clpCommandDone_eq {s : State} {v : Bytes} (hst : s.nat O.clpState = 2) (hh : s.clpHeld = false) (hc : s.clp.cmd = some v) :
    cmdClpCommandDone s = clpOutcome (clpRun s v) := by
  simp only [cmdClpCommandDone, finishCommand, hst, hh, hc]
  rfl

/-- A command that did its work is DONE with result 0, and the table is what it made it (R477). -/
theorem clpOutcome_done (t : State) :
    (clpOutcome (0, t)).nat O.clpCmdState = 2 ∧ (clpOutcome (0, t)).nat O.clpCmdResult = 0 ∧ (clpOutcome (0, t)).clp = { t.clp with cmd := none } ∧
    (clpOutcome (0, t)).hbm = t.hbm ∧
    ∀ q : Obj, q.key ≠ O.clpCmdState.key → q.key ≠ O.clpCmdResult.key → (clpOutcome (0, t)).nat q = t.nat q := by
  have he : clpOutcome (0, t) = ((t.put O.clpCmdState 2).put O.clpCmdResult 0).modClp fun c => { c with cmd := none } := rfl
  rw [he]
  refine ⟨?_, ?_, by simp, by simp, fun q h1 h2 => ?_⟩
  · simp only [State.modClp_vals]
    rw [State.nat_put_ne (by decide), State.nat_put_same]; rfl
  · simp only [State.modClp_vals, State.nat_put_same]; rfl
  · simp only [State.modClp_vals]
    rw [State.nat_put_ne h2, State.nat_put_ne h1]

/-- A refused command is FAILED with its code, which is logged; the table stays (R477). -/
theorem clpOutcome_refused (s : State) {code : Nat} (h : code ≠ 0) (hw : code < 65536) :
    (clpOutcome (code, s)).nat O.clpCmdState = 3 ∧ (clpOutcome (code, s)).nat O.clpCmdResult = code ∧ (clpOutcome (code, s)).clp.table = s.clp.table ∧
    logs s (clpOutcome (code, s)) [(code, [])] := by
  have he : clpOutcome (code, s) = ((((s.put O.clpCmdState 3).put O.clpCmdResult code).modClp fun c => { c with cmd := none }).put
      O.clpLastStatus code).post code [] := by
    simp [clpOutcome, h, State.clpNote, State.note]
  rw [he]
  refine ⟨?_, ?_, by simp, logs_congr (by simp) rfl (logs_post _ code [])⟩
  · rw [(State.post_vals _ _ _ (by decide +kernel)).2.2.1, State.nat_put_ne (by decide)]
    simp only [State.modClp_vals]
    rw [State.nat_put_ne (by decide), State.nat_put_same]; rfl
  · rw [(State.post_vals _ _ _ (by decide +kernel)).2.2.1, State.nat_put_ne (by decide)]
    simp only [State.modClp_vals]
    exact State.nat_put_fits _ O.clpCmdResult code (w := 2) rfl rfl hw

theorem State.showVolume_clp (s : State) : s.showVolume.clp = s.clp := by simp [State.showVolume]

theorem foldl_modDrive_table (g : Nat → Drive → Drive) (l : List Nat) (s : State) : (l.foldl (fun s d => s.modDrive d (g d)) s).clp.table = s.clp.table :=
  foldl_keeps (fun t : State => t.clp.table) (g := fun s d => s.modDrive d (g d)) (fun _ _ => rfl) l s

theorem foldl_modDrive_volumes (g : Nat → Drive → Drive) (l : List Nat) (s : State) : (l.foldl (fun s d => s.modDrive d (g d)) s).clp.volumes = s.clp.volumes :=
  foldl_keeps (fun t : State => t.clp.volumes) (g := fun s d => s.modDrive d (g d)) (fun _ _ => rfl) l s

/-- FORMAT empties the table and names the layout (R478). -/
theorem clpFormat_ready {s : State} {v : Bytes} (h0 : s.driveReady 0 = true) (h1 : s.driveReady 1 = true) (hl : fieldN v 1 1 = 1 ∨ fieldN v 1 1 = 2) :
    ∃ t, clpFormat s v = (0, t) ∧ t.clp.table = [] ∧ t.clp.volumes = s.clp.volumes + 1 ∧ t.nat O.clpLayout = fieldN v 1 1 ∧ t.nat O.clpClipCount = 0 := by
  have hlay : (if fieldN v 1 1 = 2 then 2 else 1) = fieldN v 1 1 := by rcases hl with h | h <;> simp [h]
  unfold clpFormat
  simp only [h0, h1, Bool.not_true, Bool.or_self, Bool.false_eq_true, if_false, hlay]
  refine ⟨_, rfl, ?_, ?_, ?_, ?_⟩
  · simp only [State.showVolume_clp, State.put_fields, foldl_modDrive_table, State.modClp_fields]
  · simp only [State.showVolume_clp, State.put_fields, foldl_modDrive_volumes, State.modClp_fields]
  · unfold State.showVolume
    rw [State.nat_put_ne (by decide), State.nat_put_ne (by decide), State.nat_put_ne (by decide)]
    exact State.nat_put_fits _ O.clpLayout _ (w := 1) rfl rfl (by omega)
  · unfold State.showVolume
    simp only [State.put_fields, foldl_modDrive_table, State.modClp_fields, State.nat_put_same, List.length_nil]
    rfl

/-- The clip that CREATE enters into a free range: WRITING and empty (R478). -/
def clpCreated (s : State) (v : Bytes) (r : Nat × Nat) : Clip :=
  { id := fieldN v 2 2, state := 1, start := r.1, blocks := ceilDiv (fieldN v 8 8) 4096, tfNum := fieldN v 0x10 4, tfDen := fieldN v 0x14 4
    created := s.ns / 1000000000 }

/-- CREATE with a free ID and room puts a WRITING clip into the first range that takes it (R478). -/
theorem clpCreate_free {s : State} {v : Bytes} {r : Nat × Nat} (h0 : fieldN v 2 2 ≠ 0) (h1 : fieldN v 2 2 ≤ 4096) (hn : s.clip (fieldN v 2 2) = none)
    (hr : (freeRanges s.volumeBlocks s.clp.table).find? (fun r => ceilDiv (fieldN v 8 8) 4096 ≤ r.2) = some r) :
    ∃ t, clpCreate s v = (0, t) ∧ t.nat O.clpLastId = fieldN v 2 2 ∧ (∀ k, k ≠ fieldN v 2 2 → t.clip k = s.clip k) ∧
      t.clip (fieldN v 2 2) = some (clpCreated s v r) := by
  have hfree : ¬ ((s.clp.table.map (·.id)).contains (fieldN v 2 2) ∨ 4096 < fieldN v 2 2) := by
    have hno := List.find?_eq_none.mp hn
    simp only [beq_iff_eq] at hno
    rw [List.contains_iff_mem, List.mem_map]
    rintro (⟨c, hc, hid⟩ | hbig)
    · exact hno c hc hid
    · omega
  unfold clpCreate
  simp only [h0, if_false]
  rw [if_neg hfree, hr]
  refine ⟨_, rfl, ?_, fun k hk => ?_, ?_⟩
  · rw [State.commitTable_nat _ (by decide +kernel)]
    exact State.nat_put_fits _ O.clpLastId _ (w := 2) rfl rfl (by omega)
  · rw [State.clip_congr (State.commitTable_table _)]
    exact State.setClip_clip_ne s _ hk
  · rw [State.clip_congr (State.commitTable_table _)]
    exact State.setClip_clip_same s (clpCreated s v r)

theorem State.clipData_replaced {s t : State} {k : Nat} {b : Bytes} (h : t.clp.data = (s.clp.data.filter fun x => x.1 != k) ++ [(k, b)]) :
    t.clipData k = b := by
  have hf := find?_replaced_same Prod.fst s.clp.data (k, b)
  unfold State.clipData
  rw [h, hf]
  rfl

/-- WRITE of good data appends it to a WRITING clip (R478, R479). -/
theorem clpWrite_good {s : State} {v : Bytes} {c : Clip} (hc : s.clip (fieldN v 2 2) = some c) (hst : c.state = 1) (h4 : fieldN v 4 4 % 4 = 0)
    (hlo : 36 ≤ fieldN v 4 4) (hhi : fieldN v 4 4 ≤ 268435456) (ha : fieldN v 8 8 % 4 = 0) (hrange : clpRange s (fieldN v 8 8) (fieldN v 4 4) = true)
    (hroom : c.len + fieldN v 4 4 ≤ 4096 * c.blocks)
    (hok : clipDataOk (s.clipData (fieldN v 2 2) ++ s.hbmRead (fieldN v 8 8) (fieldN v 4 4)) = true) :
    ∃ t, clpWrite s v = (0, t) ∧ t.clipData (fieldN v 2 2) = s.clipData (fieldN v 2 2) ++ s.hbmRead (fieldN v 8 8) (fieldN v 4 4) ∧ t.hbm = s.hbm ∧
      ∀ k, k ≠ fieldN v 2 2 → t.clip k = s.clip k := by
  have hid := State.clip_id hc
  have hlen : ¬ (fieldN v 4 4 % 4 ≠ 0 ∨ fieldN v 4 4 < 36 ∨ 268435456 < fieldN v 4 4 ∨ fieldN v 8 8 % 4 ≠ 0) := by omega
  unfold clpWrite
  simp only [hc, hst, hrange, hid, hok, Bool.not_true, Bool.false_eq_true, ne_eq, not_true_eq_false, if_false]
  rw [if_neg hlen, if_neg (by omega)]
  refine ⟨_, rfl, ?_, by simp [State.setClip], fun k hk => ?_⟩
  · exact State.clipData_replaced (s := s) (by simp [State.setClip])
  · exact State.setClip_clip_ne _ _ (by simpa [hid] using hk)

/-- CLOSE makes a WRITING clip with a marker READY (R478, R480). -/
theorem clpClose_marked {s : State} {v : Bytes} {c : Clip} (hc : s.clip (fieldN v 2 2) = some c) (hst : c.state = 1)
    (hm : marksOf (s.clipData (fieldN v 2 2)) ≠ []) :
    ∃ t, clpClose s v = (0, t) ∧ t.clip (fieldN v 2 2) = some (readyClip c (s.clipData (fieldN v 2 2))) ∧
      ∀ k, k ≠ fieldN v 2 2 → t.clip k = s.clip k := by
  have hid := State.clip_id hc
  have hready : (readyClip c (s.clipData (fieldN v 2 2))).id = fieldN v 2 2 := hid
  unfold clpClose
  simp only [hc, hst, hid, List.isEmpty_iff, hm, ne_eq, not_true_eq_false, if_false]
  refine ⟨_, rfl, ?_, fun k hk => ?_⟩
  · have h := State.setClip_clip_same s (readyClip c (s.clipData (fieldN v 2 2)))
    rw [hready] at h
    rw [State.clip_congr (State.commitTable_table _), h]
  · rw [State.clip_congr (State.commitTable_table _)]
    exact State.setClip_clip_ne s _ (hready ▸ hk)

/-- DELETE of a clip that nothing holds takes it from the table (R478). -/
theorem clpDelete_idle {s : State} {v : Bytes} {c : Clip} (hc : s.clip (fieldN v 2 2) = some c) (hf : s.nat O.clpFallbackClip ≠ fieldN v 2 2)
    (hp : s.clp.play = none) :
    ∃ t, clpDelete s v = (0, t) ∧ t.clip (fieldN v 2 2) = none ∧ ∀ k, k ≠ fieldN v 2 2 → t.clip k = s.clip k := by
  unfold clpDelete
  simp only [hc, hf, hp, Option.isNone_some, Option.any_none, Bool.false_eq_true, decide_false, Bool.or_self, if_false]
  refine ⟨_, rfl, ?_, fun k hk => ?_⟩
  · rw [State.clip_congr (State.commitTable_table _)]
    exact find?_removed_same Clip.id s.clp.table _
  · rw [State.clip_congr (State.commitTable_table _)]
    exact find?_removed_ne Clip.id s.clp.table hk

/-- WRITE, CLOSE and DELETE of a clip that is not there answer 0x1409 (R478). -/
theorem clpRun_missing {s : State} {v : Bytes} (hop : 3 ≤ fieldN v 0 1) (hn : s.clip (fieldN v 2 2) = none) : clpRun s v = (0x1409, s) := by
  unfold clpRun
  split
  · omega
  · omega
  · simp [clpWrite, hn]
  · simp [clpClose, hn]
  · simp [clpDelete, hn]

/-- A command that leaves `t` is DONE with result 0, and what it made of the table stands. -/
theorem clpCommandDone_gives {s t : State} {v : Bytes} {P : State → Prop} (hdie : s.die = .running) (hst : s.nat O.clpState = 2) (hh : s.clpHeld = false)
    (hc : s.clp.cmd = some v) (hrun : clpRun s v = (0, t)) (hP : P (clpOutcome (0, t))) :
    gives .clpCommandDone s fun t => t.nat O.clpCmdState = 2 ∧ t.nat O.clpCmdResult = 0 ∧ t.clp.cmd = none ∧ P t := by
  refine gives_of_live hdie rfl ?_
  rw [clpCommandDone_eq hst hh hc, hrun]
  obtain ⟨hdone, hres, hclp, -, -⟩ := clpOutcome_done t
  exact ⟨hdone, hres, by rw [hclp], hP⟩

theorem clpOutcome_clip (t : State) (k : Nat) : (clpOutcome (0, t)).clip k = t.clip k := by
  obtain ⟨-, -, hclp, -, -⟩ := clpOutcome_done t
  exact State.clip_congr (by rw [hclp]) k

theorem clpOutcome_clipData (t : State) (k : Nat) : (clpOutcome (0, t)).clipData k = t.clipData k := by
  obtain ⟨-, -, hclp, -, -⟩ := clpOutcome_done t
  unfold State.clipData; rw [hclp]

/-- Settles O48: the reads of a play, the health poll, and each command of the table by its opcode. -/
theorem clipStore : Obligations.ClipStore := by
  refine ⟨?_, ?_, ?_, ?_⟩
  · intro s p c e hdie hp hr hst hh hn hroom
    refine gives_of_live hdie rfl ?_
    rw [clpReadIssue_eq hp hr hst hh hn hroom]
    simp
  · intro s p c n d since hdie hp hr hc
    refine ⟨gives_of_live hdie rfl ⟨?_, ?_, ?_, ?_, ?_, ?_⟩, ?_⟩
    · intro hb hsrc hpow hgate
      rw [clpReadDone_sdec hp hr hc, clpDeliver_enqueue s (bytes := clpReadBytes s p c n) hsrc hb, State.enqueue_powered hpow hgate]
      rfl
    · intro hb hsrc hpow
      rw [clpReadDone_sdec hp hr hc, clpDeliver_enqueue s (bytes := clpReadBytes s p c n) hsrc hb, State.enqueue_waits (.inl hpow)]
      exact ⟨rfl, rfl⟩
    · intro hsrc
      rw [clpReadDone_sdec hp hr hc, clpDeliver_source s hsrc]
    · intro hlt
      rw [clpReadDone_frame hp hr hc hlt]
      simp [Play.advance]
    · intro hle hpass
      rw [clpReadDone_pass hp hr hc hle hpass]
      exact ⟨shows_put _ O.clpPlayBase _ (w := 8) rfl rfl, by simp [Play.advance]⟩
    · intro hle h0 hpass hdue
      rw [clpReadDone_end hp hr hc hle h0 hpass]
      exact endPlay_plain (by simpa [clpDeliver_clp] using hdue)
    · intro _ _ hl hm hf
      refine gives_of_live hdie rfl ?_
      rw [clpReadFail_mirror hp hr hc hl hm hf]
      refine ⟨?_, by simp, by simp [clpCountFail], by simp [clpCountFail]⟩
      unfold counts
      simp only [State.emit_vals, State.modClp_vals, clpCountFail, State.modDrive_vals]
      exact counts_bump s O.clpReadFailCount (w := 4) rfl rfl
  · intro s d hdie
    refine ⟨gives_of_live hdie rfl (by simp [cmdClpHealthPoll]), fun hst hr hh => gives_of_live hdie rfl ?_⟩
    have he : cmdClpHealthPoll s d true = driveFault s d 0x140D := by simp [cmdClpHealthPoll, hst, hr, hh]
    rw [he]
    obtain ⟨hlast, hcount, hlog, hstate⟩ := driveFault_shows s d (code := 0x140D) (by decide)
    exact ⟨hlast, hcount, hlog, (hstate d).symm⟩
  · intro s v hdie hst hh hcmd id ends rest
    have after : ∀ {t : State}, (∀ k, k ≠ id → t.clip k = s.clip k) → rest (clpOutcome (0, t)) := fun {t} ht k hk => by
      rw [clpOutcome_clip, ht k hk]
    refine ⟨fun hop h0 h1 hl => ?_, fun r hop hne hle hn hr => ?_, fun c hop hc hcs h4 hlo hhi ha hrange hroom hok => ?_, fun c hop hc hcs hm => ?_,
      fun c hop hc hf hp => ?_, fun hop hn => ?_⟩
    · obtain ⟨t, ht, htab, hvol, hlay, hcnt⟩ := clpFormat_ready h0 h1 hl
      obtain ⟨-, -, hclp, -, hnat⟩ := clpOutcome_done t
      refine clpCommandDone_gives hdie hst hh hcmd (by simpa [clpRun, hop] using ht) ⟨?_, ?_, ?_, ?_⟩
      · rw [hclp]; exact htab
      · rw [hnat _ (by decide) (by decide), hlay]
      · rw [hnat _ (by decide) (by decide), hcnt]
      · rw [hclp]; exact hvol
    · obtain ⟨t, ht, hlast, hrest, hclip⟩ := clpCreate_free hne hle hn hr
      obtain ⟨-, -, -, -, hnat⟩ := clpOutcome_done t
      refine clpCommandDone_gives hdie hst hh hcmd (by simpa [clpRun, hop] using ht) ⟨?_, after hrest, ?_⟩
      · rw [hnat _ (by decide) (by decide), hlast]
      · rw [clpOutcome_clip, hclip]; rfl
    · obtain ⟨t, ht, hdata, hhbm, hrest⟩ := clpWrite_good hc hcs h4 hlo hhi ha hrange hroom hok
      obtain ⟨-, -, -, hmem, -⟩ := clpOutcome_done t
      refine clpCommandDone_gives hdie hst hh hcmd (by simpa [clpRun, hop] using ht) ⟨?_, hmem.trans hhbm, after hrest⟩
      rw [clpOutcome_clipData, hdata]
    · obtain ⟨t, ht, hclip, hrest⟩ := clpClose_marked hc hcs hm
      refine clpCommandDone_gives hdie hst hh hcmd (by simpa [clpRun, hop] using ht) ⟨?_, after hrest⟩
      rw [clpOutcome_clip, hclip]
    · obtain ⟨t, ht, hclip, hrest⟩ := clpDelete_idle hc hf hp
      refine clpCommandDone_gives hdie hst hh hcmd (by simpa [clpRun, hop] using ht) ⟨?_, after hrest⟩
      rw [clpOutcome_clip, hclip]
    · refine gives_of_live hdie rfl ?_
      rw [clpCommandDone_eq hst hh hcmd, clpRun_missing hop hn]
      exact clpOutcome_refused s (by decide) (by decide)

end Sys2Proof.Machine
end

section
/-! The switchable functions (R44, R45, R256, R257): the write of an enable object, the one-deep slot, and what a function does as it starts or stops. -/

namespace Sys2Proof.Machine

/-! ## Objects of the functions -/

/-- The 17 functions' enables are RW objects of one byte, found at their place in the dictionary. -/
theorem fnOf_enable_object (n : Fin 17) :
    objAt (fnOf n).enableObj.index (fnOf n).enableObj.sub = some (fnOf n).enableObj ∧ (fnOf n).enableObj.index < 0xC000 ∧
    (fnOf n).enableObj.access = .rw ∧ (fnOf n).enableObj.ty = .bool ∧ (fnOf n).enableObj.rng = .any := by
  revert n; decide +kernel

theorem fnOf_enable_find (n : Fin 17) : (allFns.find? fun f => f.enableObj.key == (fnOf n).enableObj.key) = some (fnOf n) := by
  revert n; decide +kernel

theorem fnOf_enable_ne_swap (n : Fin 17) : (fnOf n).enableObj.key ≠ O.cfgSwapRequest.key := by
  revert n; decide +kernel

theorem fnOf_ne_panel {n : Fin 17} (h : n.val < 16) : fnOf n ≠ .panel := by
  revert n; decide

theorem fnOf_state_ne_enable (n : Fin 17) : (fnOf n).stateObj.key ≠ (fnOf n).enableObj.key := by
  revert n; decide +kernel

theorem fnOf_enable_starting (n : Fin 17) : touched 9444730713939484213248 (fnOf n).enableObj.key = false := by
  revert n; decide +kernel

theorem fnOf_enable_stopping (n : Fin 17) : touched 2417851600950860547489792 (fnOf n).enableObj.key = false := by
  revert n; decide +kernel

/-! ## The write of an enable -/

theorem fnOf_enable_writable (s : State) (n : Fin 17) (on : Bool) :
    s.writeObj false (fnOf n).enableObj.index (fnOf n).enableObj.sub (leBytes 1 (b2n on)) = .ok (fnOf n).enableObj := by
  obtain ⟨hat, hlt, hacc, hty, hrng⟩ := fnOf_enable_object n
  have hfind : findObj (fnOf n).enableObj.index (fnOf n).enableObj.sub = .ok (fnOf n).enableObj := by
    unfold findObj
    rw [if_neg (by omega), if_neg (by omega), hat]
  have hlen : lengthOk (fnOf n).enableObj (leBytes 1 (b2n on)).length = true := by unfold lengthOk; rw [hty]; rfl
  have hrange : rangeOk (fnOf n).enableObj (leBytes 1 (b2n on)) = true := by unfold rangeOk; rw [hty, hrng]; cases on <;> rfl
  unfold State.writeObj
  rw [hfind]
  simp [hacc, hty, hlen, hrange]

/-- The effect of a write of an enable is the function's switch (R44). -/
theorem writeEffect_enable (s : State) (a : Ask) (n : Fin 17) (on : Bool) :
    s.writeEffect a (fnOf n).enableObj (leBytes 1 (b2n on)) = (0, s.fnSwitch (fnOf n) on) := by
  have hv : (leNat (leBytes 1 (b2n on)) != 0) = on := by cases on <;> rfl
  unfold State.writeEffect
  rw [fnOf_enable_find]
  simp only [hv]

/-- The write of function `n`'s enable. -/
def switchOp (n : Fin 17) (on : Bool) : DictOp := .write (fnOf n).enableObj.index (fnOf n).enableObj.sub (leBytes 1 (b2n on))

/-- A FUNCTION_ENABLE or FUNCTION_DISABLE that the engine takes switches the function and answers 0. -/
theorem cmdFunction_eq {s : State} {p : Party} (h : servable s p) (n : Fin 17) (on : Bool) :
    cmdFunction s p n on = ((s.asked p (switchOp n on)).fnSwitch (fnOf n) on).answer { party := p, op := switchOp n on } { status := 0 } := by
  obtain ⟨-, -, hacc, -, -⟩ := fnOf_enable_object n
  unfold cmdFunction rowWrite
  rw [request_write h (fnOf_enable_writable _ n on) (fnOf_enable_ne_swap n) (.inl (by rw [hacc]; decide)), writeEffect_enable]
  rfl

/-! ## The slot of a function -/

/-- A function's request as written: the enable stands and the slot holds an enable or none, before the function starts or stops (R44, R45). -/
def fnSlot (s : State) (f : Fn) (on : Bool) : State :=
  { s.putB f.enableObj on with
    held := (s.held.filter fun g => g != f) ++ (if (fnRequest on (s.nat f.stateObj) (s.held.contains f)).2 then [f] else []) }

theorem fnSlot_held (s : State) (f : Fn) (on : Bool) :
    (fnSlot s f on).held.contains f = (fnRequest on (s.nat f.stateObj) (s.held.contains f)).2 := by
  unfold fnSlot
  cases (fnRequest on (s.nat f.stateObj) (s.held.contains f)).2 <;> simp

theorem fnSlot_val (s : State) (f : Fn) (on : Bool) {q : Obj} (hq : q.key ≠ f.enableObj.key) : (fnSlot s f on).val q = s.val q := by
  have h : (s.putB f.enableObj on).val q = s.val q := State.val_put_ne hq
  rw [← h]; exact State.val_congr rfl rfl

theorem fnSlot_nat (s : State) (f : Fn) (on : Bool) {q : Obj} (hq : q.key ≠ f.enableObj.key) : (fnSlot s f on).nat q = s.nat q := by
  unfold State.nat; rw [fnSlot_val s f on hq]

theorem fnSlot_enable (s : State) (n : Fin 17) (on : Bool) : (fnSlot s (fnOf n) on).flag (fnOf n).enableObj = on := by
  obtain ⟨-, -, -, hty, -⟩ := fnOf_enable_object n
  have h : (s.putB (fnOf n).enableObj on).flag (fnOf n).enableObj = on := by
    unfold State.putB
    rw [State.flag_put_same, hty]
    cases on <;> rfl
  exact h

theorem fnSwitch_eq (s : State) (f : Fn) (on : Bool) :
    s.fnSwitch f on =
      if (fnRequest on (s.nat f.stateObj) (s.held.contains f)).1 = s.nat f.stateObj then fnSlot s f on
      else if (fnRequest on (s.nat f.stateObj) (s.held.contains f)).1 = 1 then (fnSlot s f on).fnStarting f else (fnSlot s f on).fnStopping f := rfl

/-! ## Starting and stopping -/

theorem fnStarting_enable (s : State) (f : Fn) (n : Fin 17) : (s.fnStarting f).flag (fnOf n).enableObj = s.flag (fnOf n).enableObj :=
  (vals_of_fr (State.fnStarting_fr (c := 31142494728) (r := 9444730713939484213248) rfl rfl (fr_refl s)) rfl rfl (by decide) (fnOf_enable_starting n)).2.2.2.1

theorem fnStopping_enable (s : State) (f : Fn) (n : Fin 17) : (s.fnStopping f).flag (fnOf n).enableObj = s.flag (fnOf n).enableObj :=
  (vals_of_fr (State.fnStopping_fr (c := 31683560200) (r := 2417851600950860547489792) rfl rfl (fr_refl s)) rfl rfl (by decide) (fnOf_enable_stopping n)).2.2.2.1

theorem startSlots_nat (s : State) (h : Nat) {q : Obj} (hq : touched 2251799813685248 q.key = false) : (s.startSlots h).nat q = s.nat q :=
  (vals_of_fr (State.startSlots_fr (c := 524288) (r := 2251799813685248) rfl rfl (fr_refl s)) rfl rfl (by decide) hq).2.2.1

theorem refreshCal_nat (s : State) {q : Obj} (hq : touched 8646911284551352320 q.key = false) : s.refreshCal.nat q = s.nat q :=
  (vals_of_fr (State.refreshCal_fr (c := 0) (r := 8646911284551352320) rfl rfl (fr_refl s)) rfl rfl (by decide) hq).2.2.1

theorem overlayStarting_nat (s : State) (q : Obj) : s.overlayStarting.nat q = s.nat q :=
  (vals_of_fr (State.overlayStarting_fr (c := 2113536) (r := 0) rfl rfl (fr_refl s)) rfl rfl (by decide) (touched_none _)).2.2.1

theorem setHead_state (s : State) (h : Nat) {v : Nat} (hv : v < 256) : (s.setHead h v).headState h = v :=
  State.nat_put_fits s (if h = 0 then O.headAState else O.headBState) v (w := 1) (by split <;> rfl) (by split <;> rfl) hv

theorem headStarting_state (s : State) (h : Nat) : (s.headStarting h).headState h = 1 := by
  have hkey : touched 2251799813685248 (if h = 0 then O.headAState else O.headBState).key = false := by split <;> decide +kernel
  unfold State.headStarting State.headState
  rw [startSlots_nat _ _ hkey, State.powerAll_nat]
  exact setHead_state s h (by decide)

/-- Every function but panel power is STARTING once it enters STARTING (R20, R44). -/
theorem fnStarting_state (s : State) {f : Fn} (hf : f ≠ .panel) : (s.fnStarting f).nat f.stateObj = 1 := by
  cases f with
  | headA => exact headStarting_state s 0
  | headB => exact headStarting_state s 1
  | port p =>
    have hkey : (O.portState p).key ≠ (O.portLink p).key := by simp only [O.portState, O.portLink, Obj.key]; omega
    simp only [State.fnStarting, Fn.stateObj]
    rw [State.regateStream_nat, State.powerAll_nat, State.nat_put_ne hkey]
    exact State.nat_put_fits s (O.portState p) 1 (w := 1) rfl rfl (by decide)
  | aud p =>
    simp only [State.fnStarting, Fn.stateObj, State.powerIsl_vals]
    exact State.nat_put_fits s (O.audPortState p) 1 (w := 1) rfl rfl (by decide)
  | clip =>
    simp only [State.fnStarting, Fn.stateObj, State.powerIsl_vals]
    exact State.nat_put_fits s O.clpState 1 (w := 1) rfl rfl (by decide)
  | overlay =>
    simp only [State.fnStarting, Fn.stateObj, State.powerIsl_vals, overlayStarting_nat]
    exact State.nat_put_fits s O.overlayState 1 (w := 1) rfl rfl (by decide)
  | capture =>
    simp only [State.fnStarting, Fn.stateObj]
    rw [refreshCal_nat _ (by decide +kernel)]
    simp only [State.modCap_vals]
    exact State.nat_put_fits s O.captureState 1 (w := 1) rfl rfl (by decide)
  | panel => exact absurd rfl hf

/-- Every function but panel power is STOPPING once it enters STOPPING (R20, R44). -/
theorem fnStopping_state (s : State) {f : Fn} (hf : f ≠ .panel) : (s.fnStopping f).nat f.stateObj = 3 := by
  cases f with
  | headA =>
    simp only [State.fnStopping]
    split
    · exact setHead_state _ 0 (by decide)
    · exact setHead_state _ 0 (by decide)
  | headB =>
    simp only [State.fnStopping]
    split
    · exact setHead_state _ 1 (by decide)
    · exact setHead_state _ 1 (by decide)
  | port p => exact State.nat_put_fits _ (O.portState p) 3 (w := 1) rfl rfl (by decide)
  | aud p => exact State.nat_put_fits _ (O.audPortState p) 3 (w := 1) rfl rfl (by decide)
  | clip => exact State.nat_put_fits _ O.clpState 3 (w := 1) rfl rfl (by decide)
  | overlay => exact State.nat_put_fits _ O.overlayState 3 (w := 1) rfl rfl (by decide)
  | capture =>
    simp only [State.fnStopping, Fn.stateObj]
    rw [refreshCal_nat _ (by decide +kernel)]
    exact State.nat_put_fits _ O.captureState 3 (w := 1) rfl rfl (by decide)
  | panel => exact absurd rfl hf

/-! ## Panel power -/

theorem phase_nat (s : State) (p : RailPhase) (q : Obj) : (s.phase p).nat q = s.nat q := by simp [State.phase]

theorem phase_en (s : State) (p : RailPhase) : (s.phase p).pwr.en = s.pwr.en := rfl

/-- A rail that is started is enabled, and no object changes (R256). -/
theorem startRail_some {s : State} {i r : Nat} (hr : s.rails[i]? = some r) :
    (∀ q, (s.startRail i).nat q = s.nat q) ∧ bitOf (s.startRail i).pwr.en r = true := by
  let u : State := (s.railOn r).phase (.waitPg i)
  have hu : ∀ q, u.nat q = s.nat q := fun q => by simp [u, phase_nat, State.railOn]
  have hen : bitOf u.pwr.en r = true := bitOf_lor s.pwr.en r
  have he : s.startRail i = if bitOf (u.nat O.railPgStatus) r then u.phase (.stepDelay i) else u := by
    unfold State.startRail; rw [hr]
  rw [he]
  split
  · exact ⟨fun q => (phase_nat ..).trans (hu q), by rwa [phase_en]⟩
  · exact ⟨hu, hen⟩

/-- Panel power starts where the supply is good: STARTING, its first rail enabled (R256). -/
theorem panelStart_first {s : State} {r : Nat} (hp : s.pwr.pfailLow = false) (hh : s.nat O.pwrHoldupState = 0) (hr : s.rails[0]? = some r) :
    s.panelStart.nat O.panelPowerState = 1 ∧ bitOf s.panelStart.pwr.en r = true := by
  let u : State := (s.elapseTo (s.pwr.pfailHighAt.getD s.clk.now + 10000000)).put O.panelPowerState 1
  have hstart : s.panelStart = u.startRail 0 := by simp [State.panelStart, hp, hh, u]
  have hrails : u.rails[0]? = some r := by
    have ho : u.oct O.railOrder = s.oct O.railOrder := by simp [u, State.oct_put_ne (o := O.panelPowerState) (q := O.railOrder) (by decide)]
    unfold State.rails at hr ⊢; rw [ho, hr]
  obtain ⟨hnat, hen⟩ := startRail_some hrails
  rw [hstart, hnat]
  exact ⟨State.nat_put_fits _ O.panelPowerState 1 (w := 1) rfl rfl (by decide), hen⟩

/-- What the stopping of the heads leaves of panel power: its state, its rails and their order. -/
def railView (s : State) : Nat × Nat × Bytes := (s.nat O.panelPowerState, s.pwr.en, s.oct O.railOrder)

theorem railView_of_fr {c r : Nat} {s t : State} (h : Fr0 c r s t) (hp : c.testBit 0 = false) (hc : c.testBit 5 = false) (hw : c.testBit 18 = false)
    (hr : r < 2 ^ 247) (h1 : touched r O.panelPowerState.key = false) (h2 : touched r O.railOrder.key = false) : railView t = railView s := by
  unfold railView
  rw [(vals_of_fr h hp hc hr h1).2.2.1, (vals_of_fr h hp hc hr h2).2.2.2.2, (h.1 .pwr hw : s.pwr = t.pwr)]

theorem railView_setHead (s : State) (h v : Nat) : railView (s.setHead h v) = railView s :=
  railView_of_fr (State.setHead_fr (c := 0) (r := 13510798882111488) rfl rfl (fr_refl s)) rfl rfl rfl (by decide) (by decide +kernel) (by decide +kernel)

theorem railView_stopSlots (s : State) (h : Nat) : railView (s.stopSlots h) = railView s :=
  railView_of_fr (State.stopSlots_fr (c := 17180393472) (r := 9444735217539104112640) rfl rfl (fr_refl s)) rfl rfl rfl (by decide) (by decide +kernel)
    (by decide +kernel)

theorem railView_endHoldup (s : State) : railView s.endHoldup = railView s := by
  have hf := State.endHoldup_fr (c := 22548840448) (r := 5607810198407711162368) rfl rfl (fr_refl s)
  have hen : s.endHoldup.pwr.en = s.pwr.en := by
    unfold State.endHoldup
    split
    · rfl
    · simp [State.pwrNote]
  unfold railView
  rw [(vals_of_fr hf rfl rfl (by decide) (q := O.panelPowerState) (by decide +kernel)).2.2.1,
    (vals_of_fr hf rfl rfl (by decide) (q := O.railOrder) (by decide +kernel)).2.2.2.2, hen]

theorem lastOn_congr {s t : State} (hen : t.pwr.en = s.pwr.en) (hord : t.oct O.railOrder = s.oct O.railOrder) (n : Nat) : t.lastOn n = s.lastOn n := by
  unfold State.lastOn State.rails
  rw [hen, hord]

/-- A rail that is turned off leaves every object (R257). -/
theorem railsOff_some {s : State} {n i : Nat} (hi : s.lastOn n = some i) (q : Obj) : (s.railsOff n).nat q = s.nat q := by
  let u : State := (s.railOff (s.rails.getD i 6)).phase (.waitFall i)
  have hu : u.nat q = s.nat q := by simp [u, phase_nat, State.railOff]
  have he : s.railsOff n = if bitOf (u.nat O.railPgStatus) (s.rails.getD i 6) then u else u.phase (.offDelay i) := by
    unfold State.railsOff; rw [hi]
  rw [he]
  split
  · exact hu
  · exact (phase_nat ..).trans hu

/-- While a rail is on, the rails' turn leaves panel power's state to their end (R257). -/
theorem railsWhenHeadsStopped_state {s : State} (h : (s.lastOn 6).isSome = true) :
    s.railsWhenHeadsStopped.nat O.panelPowerState = s.nat O.panelPowerState := by
  obtain ⟨i, hi⟩ := Option.isSome_iff_exists.mp h
  unfold State.railsWhenHeadsStopped
  split
  · exact railsOff_some hi _
  · rfl

/-- A head that panel power stops goes through STOPPING first (R257). -/
def headDown (s : State) (h : Nat) : State :=
  if s.headState h = 2 then s.setHead h 3 else if s.headState h = 1 then (s.stopSlots h).setHead h 3 else s

theorem railView_headDown (s : State) (h : Nat) : railView (headDown s h) = railView s := by
  unfold headDown
  split
  · exact railView_setHead ..
  · split
    · exact (railView_setHead ..).trans (railView_stopSlots ..)
    · rfl

/-- Both heads on their way down, and a recovery ended where panel power is no longer enabled (R257, R260). -/
def panelDown (s : State) : State :=
  let t := (List.range 2).foldl headDown ((s.put O.panelPowerState 3).phase .stopHeads)
  if t.flag O.panelPowerEnable then t else t.endHoldup

theorem panelStop_eq (s : State) : s.panelStop = (panelDown s).railsWhenHeadsStopped := rfl

theorem railView_panelDown (s : State) : railView (panelDown s) = (3, s.pwr.en, s.oct O.railOrder) := by
  have hstop : railView ((s.put O.panelPowerState 3).phase .stopHeads) = (3, s.pwr.en, s.oct O.railOrder) := by
    have hst : (s.put O.panelPowerState 3).nat O.panelPowerState = 3 := State.nat_put_fits s O.panelPowerState 3 (w := 1) rfl rfl (by decide)
    have hord : (s.put O.panelPowerState 3).oct O.railOrder = s.oct O.railOrder := State.oct_put_ne (by decide)
    simp only [railView, State.phase, State.modPwr_vals, State.modPwr_fields, hst, hord, State.put_fields]
  have hheads := foldl_keeps railView railView_headDown (List.range 2) ((s.put O.panelPowerState 3).phase .stopHeads)
  unfold panelDown
  dsimp only
  split
  · exact hheads.trans hstop
  · exact (railView_endHoldup _).trans (hheads.trans hstop)

/-- Panel power with a rail on is STOPPING once it enters STOPPING (R257). -/
theorem panelStop_state {s : State} (h : (s.lastOn 6).isSome = true) : s.panelStop.nat O.panelPowerState = 3 := by
  obtain ⟨hst, hen, hord⟩ : (panelDown s).nat O.panelPowerState = 3 ∧ (panelDown s).pwr.en = s.pwr.en ∧ (panelDown s).oct O.railOrder = s.oct O.railOrder := by
    simpa [railView] using railView_panelDown s
  rw [panelStop_eq, railsWhenHeadsStopped_state (by rwa [lastOn_congr hen hord]), hst]

/-! ## The switch -/

section
variable (s : State) (n : Fin 17)

theorem fnSwitch_enable (on : Bool) : (s.fnSwitch (fnOf n) on).flag (fnOf n).enableObj = on := by
  rw [fnSwitch_eq]
  split
  · exact fnSlot_enable s n on
  · split
    · exact (fnStarting_enable _ _ n).trans (fnSlot_enable s n on)
    · exact (fnStopping_enable _ _ n).trans (fnSlot_enable s n on)

/-- A function that a request leaves in its state only takes the enable and the slot (R44). -/
theorem fnSwitch_stays {on : Bool} {held : Bool} (h : fnRequest on (s.nat (fnOf n).stateObj) (s.held.contains (fnOf n)) = (s.nat (fnOf n).stateObj, held)) :
    (s.fnSwitch (fnOf n) on).nat (fnOf n).stateObj = s.nat (fnOf n).stateObj ∧ (s.fnSwitch (fnOf n) on).held.contains (fnOf n) = held := by
  rw [fnSwitch_eq, if_pos (by rw [h]), fnSlot_held, h]
  exact ⟨fnSlot_nat s _ on (fnOf_state_ne_enable n), rfl⟩

variable {s n}

/-- An enable of a function that is OFF starts it (R44). -/
theorem fnSwitch_starts (h : s.nat (fnOf n).stateObj = 0) : s.fnSwitch (fnOf n) true = (fnSlot s (fnOf n) true).fnStarting (fnOf n) := by
  rw [fnSwitch_eq, h]; rfl

/-- A disable of a function that is STARTING or ON stops it (R44). -/
theorem fnSwitch_stops (h : s.nat (fnOf n).stateObj = 1 ∨ s.nat (fnOf n).stateObj = 2) :
    s.fnSwitch (fnOf n) false = (fnSlot s (fnOf n) false).fnStopping (fnOf n) := by
  rw [fnSwitch_eq]
  rcases h with h | h
  · rw [h]; rfl
  · rw [h]; rfl

end

theorem fnSlot_railOrder (s : State) (on : Bool) : (fnSlot s .panel on).oct O.railOrder = s.oct O.railOrder := by
  unfold State.oct; rw [fnSlot_val s .panel on (by decide)]

/-- What an enable of function `n` makes of the state `s` (R44, R45, R256). -/
def switchedOn (s : State) (n : Fin 17) (t : State) : Prop :=
  t.flag (fnOf n).enableObj = true ∧
  (n.val < 16 → s.nat (fnOf n).stateObj = 0 → t.nat (fnOf n).stateObj = 1) ∧
  (s.nat (fnOf n).stateObj = 1 ∨ s.nat (fnOf n).stateObj = 2 → t.nat (fnOf n).stateObj = s.nat (fnOf n).stateObj) ∧
  (s.nat (fnOf n).stateObj = 3 → t.nat (fnOf n).stateObj = 3 ∧ t.held.contains (fnOf n) = true) ∧
  (∀ r, n.val = 16 → s.nat (fnOf n).stateObj = 0 → s.pwr.pfailLow = false → s.nat O.pwrHoldupState = 0 → s.rails[0]? = some r →
    t.nat (fnOf n).stateObj = 1 ∧ bitOf t.pwr.en r = true)

/-- What a disable of function `n` makes of the state `s` (R44, R45, R257). -/
def switchedOff (s : State) (n : Fin 17) (t : State) : Prop :=
  t.flag (fnOf n).enableObj = false ∧
  (s.nat (fnOf n).stateObj = 3 → t.nat (fnOf n).stateObj = 3 ∧ t.held.contains (fnOf n) = false) ∧
  (s.nat (fnOf n).stateObj = 0 → t.nat (fnOf n).stateObj = 0) ∧
  (n.val < 16 → s.nat (fnOf n).stateObj = 1 ∨ s.nat (fnOf n).stateObj = 2 → t.nat (fnOf n).stateObj = 3) ∧
  (n.val = 16 → s.nat (fnOf n).stateObj = 1 ∨ s.nat (fnOf n).stateObj = 2 → (s.lastOn 6).isSome = true → t.nat (fnOf n).stateObj = 3)

theorem fnSwitch_on (s : State) (n : Fin 17) : switchedOn s n (s.fnSwitch (fnOf n) true) := by
  refine ⟨fnSwitch_enable s n true, fun hn h => ?_, fun h => ?_, fun h => ?_, fun r hn h hp hh hr => ?_⟩
  · rw [fnSwitch_starts h]
    exact fnStarting_state _ (fnOf_ne_panel hn)
  · refine (fnSwitch_stays s n (held := s.held.contains (fnOf n)) ?_).1
    rcases h with h | h
    · rw [h]; rfl
    · rw [h]; rfl
  · obtain ⟨hst, hheld⟩ := fnSwitch_stays s n (on := true) (held := true) (by rw [h]; rfl)
    exact ⟨hst.trans h, hheld⟩
  · obtain rfl : n = 16 := Fin.ext hn
    rw [fnSwitch_starts h]
    refine panelStart_first (s := fnSlot s .panel true) hp ?_ ?_
    · rw [fnSlot_nat s .panel true (by decide), hh]
    · rw [← hr]; unfold State.rails; rw [fnSlot_railOrder]

theorem fnSwitch_off (s : State) (n : Fin 17) : switchedOff s n (s.fnSwitch (fnOf n) false) := by
  refine ⟨fnSwitch_enable s n false, fun h => ?_, fun h => ?_, fun hn h => ?_, fun hn h hlast => ?_⟩
  · obtain ⟨hst, hheld⟩ := fnSwitch_stays s n (on := false) (held := false) (by rw [h]; rfl)
    exact ⟨hst.trans h, hheld⟩
  · exact ((fnSwitch_stays s n (on := false) (held := s.held.contains (fnOf n)) (by rw [h]; rfl)).1).trans h
  · rw [fnSwitch_stops h]
    exact fnStopping_state _ (fnOf_ne_panel hn)
  · obtain rfl : n = 16 := Fin.ext hn
    rw [fnSwitch_stops h]
    refine panelStop_state (s := fnSlot s .panel false) ?_
    have hsame := lastOn_congr (s := s) (t := fnSlot s .panel false) rfl (fnSlot_railOrder s false) 6
    rw [hsame]
    exact hlast

/-- A row that writes an enable is served with 0 and leaves what the switch makes of the state. -/
theorem serves_switch {c : Instr} {s : State} {p : Party} {n : Fin 17} {on : Bool} {P : State → Prop}
    (hc : exec c s = .next (s.ifLive fun s => cmdFunction s p n on))
    (hP : ∀ u t : State, (∃ d, u = { s with dict := d }) → (∀ q, t.val q = (u.fnSwitch (fnOf n) on).val q) →
      t.held = (u.fnSwitch (fnOf n) on).held → t.pwr = (u.fnSwitch (fnOf n) on).pwr → P t) : serves c s p 0 P := by
  intro h
  have hact : p.action = none := by obtain ⟨-, -, -, ha, -⟩ := h; exact ha
  obtain ⟨d, -, hd⟩ := asked_eq s p (switchOp n on)
  obtain ⟨hval, hheld, hpwr⟩ := answer_good_keeps ((s.asked p (switchOp n on)).fnSwitch (fnOf n) on) { party := p, op := switchOp n on } hact rfl
  refine gives_of_live h.1 hc ?_
  rw [cmdFunction_eq h]
  exact ⟨answered_answer _ _ { status := 0 } hact rfl, hP _ _ ⟨d, hd⟩ hval hheld hpwr⟩

/-- Settles O51: the write of an enable is the function's switch, and `fnRequest` says whether the function stays, starts or stops. -/
theorem functionSwitches : Obligations.FunctionSwitches := by
  intro s p n f
  constructor
  · refine serves_switch rfl fun u t hu hval hheld hpwr => ?_
    obtain ⟨d, rfl⟩ := hu
    have h : switchedOn s n _ := fnSwitch_on { s with dict := d } n
    simpa only [switchedOn, State.flag, State.nat, hval, hheld, hpwr] using h
  · refine serves_switch rfl fun u t hu hval hheld hpwr => ?_
    obtain ⟨d, rfl⟩ := hu
    have h : switchedOff s n _ := fnSwitch_off { s with dict := d } n
    simpa only [switchedOff, State.flag, State.nat, hval, hheld, hpwr] using h

end Sys2Proof.Machine
end

section
/-! A section that the parser takes: how parsing goes on behind it, the codes it records, and the relief cache's objects after it (R81 to R83, R108, R130). -/

namespace Sys2Proof.Machine

/-! ## What the shared operations leave -/

@[simp] theorem State.acceptSection_fields (s : State) :
    s.acceptSection.figs = s.figs ∧ s.acceptSection.rrec = s.rrec ∧ s.acceptSection.sdec = { s.sdec with ordinal := s.sdec.ordinal + 1 } := ⟨rfl, rfl, rfl⟩

@[simp] theorem State.sdecCode_fields (s : State) (key code : Nat) :
    (s.sdecCode key code).figs = s.figs ∧ (s.sdecCode key code).rrec = s.rrec ∧
    (s.sdecCode key code).sdec = { s.sdec with codes := s.sdec.codes ++ [⟨key, code⟩] } := by
  unfold State.sdecCode
  dsimp only
  split
  · simp
  · split <;> simp

theorem State.settleRelief_frame (s : State) : Fr0 16384 65024 s s.settleRelief := State.settleRelief_fr rfl rfl (fr_refl s)

@[simp] theorem State.settleRelief_fields (s : State) :
    s.settleRelief.figs = s.figs ∧ s.settleRelief.rrec = s.rrec ∧ s.settleRelief.sdec = s.sdec :=
  ⟨(s.settleRelief_frame.1 .figs rfl).symm, (s.settleRelief_frame.1 .rrec rfl).symm, (s.settleRelief_frame.1 .sdec rfl).symm⟩

theorem State.settleRelief_nat (s : State) {q : Obj} (hq : touched 65024 q.key = false) : s.settleRelief.nat q = s.nat q :=
  (vals_of_fr s.settleRelief_frame rfl rfl (by decide) hq).2.2.1

theorem State.nextSection_frame (s : State) (n : Nat) : Fr0 4608 0 s (s.nextSection n) := State.nextSection_fr rfl rfl (fr_refl s)

@[simp] theorem State.nextSection_fields (s : State) (n : Nat) : (s.nextSection n).figs = s.figs ∧ (s.nextSection n).rrec = s.rrec :=
  ⟨((s.nextSection_frame n).1 .figs rfl).symm, ((s.nextSection_frame n).1 .rrec rfl).symm⟩

@[simp] theorem State.nextSection_nat (s : State) (n : Nat) (q : Obj) : (s.nextSection n).nat q = s.nat q :=
  (vals_of_fr (s.nextSection_frame n) rfl rfl (by decide) (touched_none _)).2.2.1

theorem State.regateStream_sdec (s : State) : s.regateStream.sdec = s.sdec := (s.regateStream_frame.1 .sdec rfl).symm

/-- Behind a section the parser stands before the rest; the segment ends with its last section (R80). -/
theorem State.nextSection_cursor (s : State) (n : Nat) :
    (s.nextSection n).sdec.rest = s.sdec.rest.drop n ∧ (s.nextSection n).sdec.inSeg = (s.sdec.inSeg && !(s.sdec.rest.drop n).isEmpty) := by
  unfold State.nextSection State.endSegment
  dsimp only [State.modSdec]
  split
  · next h => simp_all [State.regateStream_sdec]
  · next h => simpa using fun _ => h

@[simp] theorem State.nextSection_sdec (s : State) (n : Nat) :
    (s.nextSection n).sdec.codes = s.sdec.codes ∧ (s.nextSection n).sdec.ordinal = s.sdec.ordinal ∧ (s.nextSection n).sdec.stalled = s.sdec.stalled := by
  unfold State.nextSection State.endSegment
  dsimp only [State.modSdec]
  split
  · simp [State.regateStream_sdec]
  · simp

/-! ## A section before the parser -/

section
variable {s : State} {ty : Nat} {sec : Bytes} (h : atSection s ty sec)
include h

theorem atSection_parsing : s.sdec.inSeg = true ∧ s.sdec.stalled = none := by
  obtain ⟨-, hparse, -⟩ := h
  simp only [State.canParse, Bool.and_eq_true, Option.isNone_iff_eq_none] at hparse
  exact hparse.1

/-- The first byte of the rest of the segment is the section's type. -/
theorem atSection_head : ∃ t bs, s.sdec.rest = t :: bs ∧ t.toNat = ty := by
  obtain ⟨-, -, -, htake, hmin, -, hty, -⟩ := h
  cases hrest : s.sdec.rest with
  | nil => simp [hrest] at htake; simp [htake] at hmin
  | cons t bs =>
    refine ⟨t, bs, rfl, ?_⟩
    obtain ⟨m, hm⟩ : ∃ m, sec.length = m + 1 := ⟨sec.length - 1, by omega⟩
    rw [hrest, hm, List.take_succ_cons] at htake
    rw [htake] at hty
    simpa [fieldN, cut, leNat] using hty

theorem atSection_fits : sec.length ≤ s.sdec.rest.length := by
  obtain ⟨-, -, -, htake, -⟩ := h
  have := congrArg List.length htake
  rw [List.length_take] at this
  omega

/-- A whole section of a command's type is handed to its meaning, and parsing goes on behind it (R83). -/
theorem withSection_at {mine : Nat → Bool} (body : State → Bytes → State) (hmine : mine ty = true) (h0 : ty ≠ 0) (h8 : ty < 8) :
    s.withSection mine body = (body s sec).nextSection sec.length := by
  obtain ⟨t, bs, hrest, rfl⟩ := atSection_head h
  have hfits := atSection_fits h
  obtain ⟨-, hparse, hlen, htake, hmin, hmod, -, hcrc⟩ := h
  have hwhole : ¬ (secLen s.sdec.rest < 12 ∨ secLen s.sdec.rest % 4 ≠ 0 ∨ s.sdec.rest.length < secLen s.sdec.rest) := by omega
  unfold State.withSection
  split
  · next hnil => simp [hnil] at hrest
  · next t' bs' hcons =>
    obtain ⟨rfl, -⟩ : t' = t ∧ bs' = bs := by simpa [hcons] using hrest
    rw [if_neg (by simp [hparse, hmine])]
    dsimp only
    rw [if_neg hwhole, if_neg (by omega), ← hlen, ← htake, hcrc, if_neg (by simp), if_neg (by omega)]

/-- An effect that leaves the parser's place lets parsing pass the section. -/
theorem passed_nextSection {u : State} (hrest : u.sdec.rest = s.sdec.rest) (hseg : u.sdec.inSeg = s.sdec.inSeg) :
    passed s (u.nextSection sec.length) sec := by
  obtain ⟨hr, hi⟩ := u.nextSection_cursor sec.length
  refine ⟨by rw [hr, hrest], ?_⟩
  rw [hi, hseg, hrest, (atSection_parsing h).1]
  simp

/-- A malformed section is passed with 0x0402 and takes no ordinal (R83). -/
theorem badSection_outcome :
    passed s (s.badSection.nextSection sec.length) sec ∧ coded s (s.badSection.nextSection sec.length) 0x0402 ∧
    (s.badSection.nextSection sec.length).figs = s.figs ∧ (s.badSection.nextSection sec.length).rrec = s.rrec ∧
    (s.badSection.nextSection sec.length).sdec.ordinal = s.sdec.ordinal := by
  unfold State.badSection State.streamCode
  exact ⟨passed_nextSection h (by simp) (by simp), by simp [coded], by simp, by simp, by simp⟩

end

/-- An accepted section whose effect is refused with a code: an ordinal is taken, nothing else changes (R65, R111). -/
def State.refusedSection (s : State) (sec : Bytes) (code : Nat) : State :=
  ((s.acceptSection.sdecCode s.sdec.pos code).settleRelief).nextSection sec.length

theorem refusedSection_outcome {s : State} {ty : Nat} {sec : Bytes} (h : atSection s ty sec) (code : Nat) :
    passed s (s.refusedSection sec code) sec ∧ coded s (s.refusedSection sec code) code ∧ (s.refusedSection sec code).figs = s.figs ∧
    (s.refusedSection sec code).rrec = s.rrec ∧ (s.refusedSection sec code).sdec.ordinal = s.sdec.ordinal + 1 := by
  unfold State.refusedSection
  exact ⟨passed_nextSection h (by simp) (by simp), by simp [coded], by simp, by simp, by simp⟩

end Sys2Proof.Machine
end

section
/-! Figures: defined, modified and retired (R64 to R66, R68, R89 to R91, R122). -/

namespace Sys2Proof.Machine

/-! ## Placing and retiring a Figure -/

theorem State.fig?_congr {s t : State} (h : t.figs = s.figs) (i : Nat) : t.fig? i = s.fig? i := by
  unfold State.fig?; rw [h]

theorem State.fig?_id {s : State} {id : Nat} {f : Figure} (h : s.fig? id = some f) : f.id = id := by
  simpa using List.find?_some h

theorem State.dropDirs_fields (s : State) : s.dropDirs.figs = s.figs ∧ s.dropDirs.sdec = s.sdec := by
  have h : Fr0 8192 0 s s.dropDirs := State.dropDirs_fr rfl rfl (fr_refl s)
  exact ⟨(h.1 .figs rfl).symm, (h.1 .sdec rfl).symm⟩

/-- The directories of a Figure are given out in the relief cache alone. -/
theorem State.layerDirs_fields (s : State) (id ord : Nat) (old new : Nat → Option (Nat × Nat)) (dirs ds : List (Option Nat)) (ks : List Nat) :
    (ks.foldl (State.layerDir id ord old new dirs) (s, ds)).1.figs = s.figs ∧ (ks.foldl (State.layerDir id ord old new dirs) (s, ds)).1.sdec = s.sdec := by
  have h : Fr1 8192 0 s (ks.foldl (State.layerDir id ord old new dirs) (s, ds)) :=
    fr1_foldl (fun _ _ ha => State.layerDir_fr rfl rfl ha) (fr1_mk (fr_refl s))
  exact ⟨((to1 h).1 .figs rfl).symm, ((to1 h).1 .sdec rfl).symm⟩

/-- A retired Figure leaves the list, and nothing of the stream changes (R66). -/
theorem State.retireFig_fields (s : State) (ord : Nat) (f : Figure) :
    (s.retireFig ord f).figs = s.figs.filter (fun g => g.id != f.id) ∧ (s.retireFig ord f).sdec = s.sdec := by
  have h : Fr0 8192 0 s (f.dirs.foldl (fun s d => s.detach ord d) s) :=
    fr0_foldl (fun _ _ ha => State.detach_fr rfl rfl ha) (fr_refl s)
  have hfigs : s.figs = _ := h.1 .figs rfl
  have hsdec : s.sdec = _ := h.1 .sdec rfl
  unfold State.retireFig
  simp only [State.dropDirs_fields]
  exact ⟨by rw [← hfigs], hsdec.symm⟩

/-- The dimensions for which a Figure, where there is one, has directories. -/
def liveDims (old : Option Figure) (k : Nat) : Option (Nat × Nat) :=
  match old with
  | none => none
  | some f => dirDims f.ctx f.layers k

/-- `t` has the Figure `id` live in the context `slot` with these fields, the depth key following its box under AUTO_KEY, and every other Figure of `s` (R50, R65). -/
def hasFigure (s t : State) (id slot : Nat) (c : Ctx) (ls : List Layer) : Prop :=
  (∃ f, t.fig? id = some f ∧ f.slot = slot ∧ f.layers = ls.take c.layerCount ∧
    f.ctx = (if bitOf c.flags 1 then { c with depthKey := autoKey f.pmax.z } else c)) ∧
  ∀ i, i ≠ id → t.fig? i = s.fig? i

theorem hasFigure_congr {s s' t t' : State} {id slot : Nat} {c : Ctx} {ls : List Layer} (hs : s'.figs = s.figs) (ht : t'.figs = t.figs)
    (h : hasFigure s t id slot c ls) : hasFigure s' t' id slot c ls := by
  simpa only [hasFigure, State.fig?_congr hs, State.fig?_congr ht] using h

theorem hasFigure_replaced {s t : State} {f : Figure} {c : Ctx} {ls : List Layer} (hfigs : t.figs = s.figs.filter (fun g => g.id != f.id) ++ [f])
    (hlayers : f.layers = ls.take c.layerCount) (hctx : f.ctx = if bitOf c.flags 1 then { c with depthKey := autoKey f.pmax.z } else c) :
    hasFigure s t f.id f.slot c ls := by
  unfold hasFigure State.fig?
  rw [hfigs]
  exact ⟨⟨f, find?_replaced_same Figure.id s.figs f, rfl, hlayers, hctx⟩, fun i hi => find?_replaced_ne Figure.id s.figs hi⟩

/-- The Figure that an update puts in its place, its derived fields filled in (R49, R50, R69). -/
def placedFigure (slot id : Nat) (c : Ctx) (ls : List Layer) (ds : List (Option Nat)) (screen : Figure → Rect) : Figure :=
  let f := deriveFig { slot := slot, id := id, ctx := c, layers := ls.take c.layerCount, dirs := ds }
  { f with screen := screen f }

section
variable {s : State} (key ord : Nat) {old : Option Figure} (slot id : Nat) {c : Ctx} {ls : List Layer} (screen : Figure → Rect)

/-- Too few directory entries (R128). -/
theorem State.placeFig_short (h : s.dirFree < State.dirNeed (liveDims old) (dirDims c ls)) :
    s.placeFig key ord old slot id c ls screen = s.sdecCode key 0x0502 := if_pos h

/-- With directory entries enough the derived Figure joins the others, and a Figure of its ID leaves (R65). -/
theorem State.placeFig_eq (h : State.dirNeed (liveDims old) (dirDims c ls) ≤ s.dirFree) :
    ∃ (t : State) (ds : List (Option Nat)), t.figs = s.figs ∧ t.sdec = s.sdec ∧ s.placeFig key ord old slot id c ls screen =
      ({ t with figs := t.figs.filter (fun g => g.id != id) ++ [placedFigure slot id c ls ds screen] } : State).dropDirs := by
  obtain ⟨hfigs, hsdec⟩ := s.layerDirs_fields id ord (liveDims old) (dirDims c ls) ((old.map (·.dirs)).getD []) [] (List.range 32)
  exact ⟨_, _, hfigs, hsdec, if_neg (Nat.not_lt.mpr h)⟩

/-- A placed Figure is live with its fields, and nothing of the stream changes (R65). -/
theorem State.placeFig_placed (h : State.dirNeed (liveDims old) (dirDims c ls) ≤ s.dirFree) :
    hasFigure s (s.placeFig key ord old slot id c ls screen) id slot c ls ∧ (s.placeFig key ord old slot id c ls screen).sdec = s.sdec := by
  obtain ⟨t, ds, hfigs, hsdec, heq⟩ := s.placeFig_eq key ord slot id screen h
  rw [heq]
  refine ⟨hasFigure_replaced (f := placedFigure slot id c ls ds screen) ?_ rfl rfl, ?_⟩
  · simp only [State.dropDirs_fields, hfigs]; rfl
  · simp only [State.dropDirs_fields, hsdec]

end

/-! ## FIGURE_DEFINE -/

section
variable {s : State} {id : Nat} {c : Ctx} {ls : List Layer} (key ord : Nat) (screen : Figure → Rect)

theorem State.define_unfit {code : Nat} (h : figCheck (s.figs.filter fun g => g.id != id) c ls = some code) :
    s.define key ord id c ls screen = s.sdecCode key code := by
  simp [State.define, h]

theorem State.define_full (h : figCheck (s.figs.filter fun g => g.id != id) c ls = none) (hf : s.fig? id = none)
    (hfree : lowestFree 16384 (s.figs.map (·.slot)) = none) :
    s.define key ord id c ls screen = (s.sdecCode key 0x0601).bump O.figNoContextCount := by
  simp [State.define, h, hf, hfree]

/-- A Define that passes the checks takes the context of a live Figure of its ID, else the lowest free one (R65). -/
theorem State.define_placed (h : figCheck (s.figs.filter fun g => g.id != id) c ls = none)
    (hslot : (s.fig? id).isSome = true ∨ (lowestFree 16384 (s.figs.map (·.slot))).isSome = true) :
    ∃ slot, s.define key ord id c ls screen = s.placeFig key ord (s.fig? id) slot id c ls screen ∧ ∀ g, s.fig? id = some g → slot = g.slot := by
  cases hf : s.fig? id with
  | some f => exact ⟨f.slot, by simp [State.define, h, hf], by simp⟩
  | none =>
    obtain ⟨n, hn⟩ := Option.isSome_iff_exists.mp (hslot.resolve_left (by simp [hf]))
    exact ⟨n, by simp [State.define, h, hf, hn], by simp⟩

end

/-- An accepted section that puts a checked Figure in its place. -/
def State.placedSection (s : State) (sec : Bytes) (old : Option Figure) (slot id : Nat) (c : Ctx) (ls : List Layer) : State :=
  ((s.acceptSection.placeFig s.sdec.pos s.sdec.ordinal old slot id c ls s.screenOf).settleRelief).nextSection sec.length

section
variable {s : State} {ty : Nat} {sec : Bytes} {old : Option Figure} (slot id : Nat) {c : Ctx} {ls : List Layer}

theorem placedSection_short (h : s.dirFree < State.dirNeed (liveDims old) (dirDims c ls)) :
    s.placedSection sec old slot id c ls = s.refusedSection sec 0x0502 := by
  unfold State.placedSection State.refusedSection
  rw [State.placeFig_short (s := s.acceptSection) _ _ slot id _ h]

theorem placedSection_outcome (h : atSection s ty sec) (hneed : State.dirNeed (liveDims old) (dirDims c ls) ≤ s.dirFree) :
    passed s (s.placedSection sec old slot id c ls) sec ∧ (s.placedSection sec old slot id c ls).sdec.codes = s.sdec.codes ∧
    (s.placedSection sec old slot id c ls).sdec.ordinal = s.sdec.ordinal + 1 ∧ hasFigure s (s.placedSection sec old slot id c ls) id slot c ls := by
  obtain ⟨hfig, hsdec⟩ := State.placeFig_placed (s := s.acceptSection) s.sdec.pos s.sdec.ordinal slot id s.screenOf hneed
  unfold State.placedSection
  exact ⟨passed_nextSection h (by simp [hsdec]) (by simp [hsdec]), by simp [hsdec], by simp [hsdec], hasFigure_congr rfl (by simp) hfig⟩

end

section
variable {s : State} {sec : Bytes} (h : atSection s 2 sec)
include h

theorem figureDefine_malformed (hlen : sec.length ≠ 144 + 64 * fieldN sec 13 1) : cmdFigureDefine s = s.badSection.nextSection sec.length := by
  unfold cmdFigureDefine
  rw [withSection_at h _ rfl (by decide) (by decide)]
  dsimp only
  rw [if_pos hlen]

theorem figureDefine_formed (hlen : sec.length = 144 + 64 * fieldN sec 13 1) :
    cmdFigureDefine s = ((s.acceptSection.define s.sdec.pos s.sdec.ordinal (fieldN sec 8 4) (parseCtx (cut sec 12 128))
      (parseLayers (cut sec 0x8C (64 * fieldN sec 13 1)) (fieldN sec 13 1)) s.screenOf).settleRelief).nextSection sec.length := by
  unfold cmdFigureDefine
  rw [withSection_at h _ rfl (by decide) (by decide)]
  dsimp only
  rw [if_neg (not_not_intro hlen)]

end

/-- Settles O18, by the outcomes of a Define in the order of its checks: malformed, failing R64, no context, too few directory entries, placed. -/
theorem figureDefine : Obligations.FigureDefine := by
  intro s sec h n id c ls check old
  have hold : old = liveDims (s.fig? id) := rfl
  refine ⟨fun hlen => ?_, fun hlen code hc => ?_, fun hlen hc hneed hslot => ?_, fun hlen hc hneed hslot => ?_, fun hlen hc hf hfree => ?_⟩
  · refine gives_of_live h.1 rfl ?_
    rw [figureDefine_malformed h hlen]
    obtain ⟨hpass, hcode, hfigs, -, hord⟩ := badSection_outcome h
    exact ⟨hpass, hcode, hfigs, hord⟩
  · refine gives_of_live h.1 rfl ?_
    rw [figureDefine_formed h hlen, State.define_unfit (s := s.acceptSection) _ _ _ hc]
    obtain ⟨hpass, hcode, hfigs, -, hord⟩ := refusedSection_outcome h code
    exact ⟨hpass, hcode, hfigs, hord⟩
  · obtain ⟨slot, hdef, hsame⟩ := State.define_placed (s := s.acceptSection) s.sdec.pos s.sdec.ordinal s.screenOf hc hslot
    refine gives_of_live h.1 rfl ?_
    rw [figureDefine_formed h hlen, hdef]
    obtain ⟨hpass, hcodes, hord, ⟨f, hf, hfslot, hlayers, hctx⟩, hothers⟩ := placedSection_outcome slot id h (hold ▸ hneed)
    exact ⟨hpass, hcodes, hord, ⟨f, hf, hlayers, fun g hg => hfslot.trans (hsame g hg), hctx⟩, hothers⟩
  · obtain ⟨slot, hdef, -⟩ := State.define_placed (s := s.acceptSection) s.sdec.pos s.sdec.ordinal s.screenOf hc hslot
    refine gives_of_live h.1 rfl ?_
    rw [figureDefine_formed h hlen, hdef]
    obtain ⟨hpass, hcode, hfigs, -, -⟩ := refusedSection_outcome h 0x0502
    rw [← placedSection_short slot id (hold ▸ hneed)] at hpass hcode hfigs
    exact ⟨hpass, hcode, hfigs⟩
  · refine gives_of_live h.1 rfl ?_
    rw [figureDefine_formed h hlen, State.define_full (s := s.acceptSection) _ _ _ hc hf hfree]
    refine ⟨passed_nextSection h (by simp) (by simp), by simp [coded], by simp, ?_⟩
    unfold counts
    rw [State.nextSection_nat, State.settleRelief_nat _ (by decide +kernel)]
    exact counts_bump (s.acceptSection.sdecCode s.sdec.pos 0x0601) O.figNoContextCount (w := 4) rfl rfl

/-! ## FIGURE_RETIRE and FIGURE_MODIFY -/

section
variable {s : State} {sec : Bytes}

theorem figureRetire_formed (h : atSection s 4 sec) (hlen : sec.length = 16) :
    cmdFigureRetire s = ((s.acceptSection.retire s.sdec.pos s.sdec.ordinal (fieldN sec 8 4)).settleRelief).nextSection sec.length := by
  unfold cmdFigureRetire
  rw [withSection_at h _ rfl (by decide) (by decide)]
  rw [if_neg (not_not_intro hlen)]

theorem figureRetire_missing (h : atSection s 4 sec) (hlen : sec.length = 16) (hf : s.fig? (fieldN sec 8 4) = none) :
    cmdFigureRetire s = s.refusedSection sec 0x0604 := by
  have hnone : s.acceptSection.fig? (fieldN sec 8 4) = none := hf
  rw [figureRetire_formed h hlen, State.retire, hnone]
  rfl

theorem figureRetire_live (h : atSection s 4 sec) (hlen : sec.length = 16) {f : Figure} (hf : s.fig? (fieldN sec 8 4) = some f) :
    cmdFigureRetire s = ((s.acceptSection.retireFig s.sdec.ordinal f).settleRelief).nextSection sec.length := by
  have hsome : s.acceptSection.fig? (fieldN sec 8 4) = some f := hf
  rw [figureRetire_formed h hlen, State.retire, hsome]

variable (h : atSection s 3 sec) (hmin : 24 ≤ sec.length) (hmask0 : fieldN sec 12 4 ≠ 0) (hmask : fieldN sec 12 4 < 512)
  (hlen : sec.length = 20 + modifySize (fieldN sec 12 4) ((sec.drop 16).take (sec.length - 20)))
include h hmin hmask0 hmask hlen

theorem figureModify_formed :
    cmdFigureModify s = ((s.acceptSection.modify s.sdec.pos s.sdec.ordinal (fieldN sec 8 4)
      (applyModify (fieldN sec 12 4) ((sec.drop 16).take (sec.length - 20))) s.screenOf).settleRelief).nextSection sec.length := by
  unfold cmdFigureModify
  rw [withSection_at h _ rfl (by decide) (by decide)]
  dsimp only
  rw [if_neg]
  omega

theorem figureModify_missing (hf : s.fig? (fieldN sec 8 4) = none) : cmdFigureModify s = s.refusedSection sec 0x0604 := by
  have hnone : s.acceptSection.fig? (fieldN sec 8 4) = none := hf
  rw [figureModify_formed h hmin hmask0 hmask hlen, State.modify, hnone]
  rfl

variable {f : Figure} (hf : s.fig? (fieldN sec 8 4) = some f)
include hf

theorem figureModify_bad {code : Nat} (hc : applyModify (fieldN sec 12 4) ((sec.drop 16).take (sec.length - 20)) f = .error code) :
    cmdFigureModify s = s.refusedSection sec code := by
  have hsome : s.acceptSection.fig? (fieldN sec 8 4) = some f := hf
  rw [figureModify_formed h hmin hmask0 hmask hlen, State.modify, hsome]
  dsimp only
  rw [hc]
  rfl

variable {c : Ctx} {ls : List Layer} (hc : applyModify (fieldN sec 12 4) ((sec.drop 16).take (sec.length - 20)) f = .ok (c, ls))
include hc

theorem figureModify_unfit {code : Nat} (hcheck : figCheck (s.figs.filter fun g => g.id != fieldN sec 8 4) c ls = some code) :
    cmdFigureModify s = s.refusedSection sec code := by
  have hsome : s.acceptSection.fig? (fieldN sec 8 4) = some f := hf
  rw [figureModify_formed h hmin hmask0 hmask hlen, State.modify, hsome]
  dsimp only
  rw [hc]
  simp only [State.acceptSection_fields, hcheck]
  rfl

theorem figureModify_placed (hcheck : figCheck (s.figs.filter fun g => g.id != fieldN sec 8 4) c ls = none) :
    cmdFigureModify s = s.placedSection sec (some f) f.slot (fieldN sec 8 4) c ls := by
  have hsome : s.acceptSection.fig? (fieldN sec 8 4) = some f := hf
  rw [figureModify_formed h hmin hmask0 hmask hlen, State.modify, hsome]
  dsimp only
  rw [hc]
  simp only [State.acceptSection_fields, hcheck]
  rfl

end

/-- Settles O19: a Retire by whether its Figure is live, a Modify by the outcome of its changes, R64's checks and the directory entries left. -/
theorem figureChanges : Obligations.FigureChanges := by
  constructor
  · intro s sec h hlen id
    refine ⟨fun hf => ?_, fun hf => ?_⟩
    · refine gives_of_live h.1 rfl ?_
      rw [figureRetire_missing h hlen hf]
      obtain ⟨hpass, hcode, hfigs, -, -⟩ := refusedSection_outcome h 0x0604
      exact ⟨hpass, hcode, hfigs⟩
    · obtain ⟨f, hf⟩ := Option.isSome_iff_exists.mp hf
      refine gives_of_live h.1 rfl ?_
      rw [figureRetire_live h hlen hf]
      obtain ⟨hfigs, hsdec⟩ := s.acceptSection.retireFig_fields s.sdec.ordinal f
      exact ⟨passed_nextSection h (by simp [hsdec]) (by simp [hsdec]), by simp [hsdec], by simp [hfigs, State.fig?_id hf, id]⟩
  · intro s sec h id mask body hmin hmask0 hmask hlen
    have refused : ∀ code, cmdFigureModify s = s.refusedSection sec code →
        gives .figureModify s fun t => passed s t sec ∧ coded s t code ∧ t.figs = s.figs := fun code heq => by
      refine gives_of_live h.1 rfl ?_
      rw [heq]
      obtain ⟨hpass, hcode, hfigs, -, -⟩ := refusedSection_outcome h code
      exact ⟨hpass, hcode, hfigs⟩
    refine ⟨fun hf => refused _ (figureModify_missing h hmin hmask0 hmask hlen hf), fun f c ls hf hc => ?_,
      fun f code hf hc => refused _ (figureModify_bad h hmin hmask0 hmask hlen hf hc)⟩
    refine ⟨fun code hcheck => refused _ (figureModify_unfit h hmin hmask0 hmask hlen hf hc hcheck), fun hcheck hneed => refused _ ?_,
      fun hcheck hneed => gives_of_live h.1 rfl ?_⟩
    · rw [figureModify_placed h hmin hmask0 hmask hlen hf hc hcheck]
      exact placedSection_short f.slot id hneed
    · rw [figureModify_placed h hmin hmask0 hmask hlen hf hc hcheck]
      obtain ⟨hpass, hcodes, -, hfig, hothers⟩ := placedSection_outcome f.slot id h (old := some f) hneed
      exact ⟨hpass, hcodes, hfig, hothers⟩

end Sys2Proof.Machine
end

section
/-! Tile updates on their way into the decoders and out of them (R65, R68, R92, R104, R112, R114). -/

namespace Sys2Proof.Machine

/-! ## Dispatch -/

section
variable {s : State} {u : TileUpd}

/-- A FILL goes straight to the writer (R112). -/
theorem State.dispatchUpd_fill (h : bitOf u.flags 0 = true) :
    s.dispatchUpd u = { s with rrec := { s.rrec with
      upds := s.rrec.upds ++ [{ u with result := .fill (fillTexel (BitVec.ofNat 128 (leNat (u.payload.take 16)))) }] } } := by
  simp [State.dispatchUpd, h]

/-- A coded tile goes to the lowest free decoder (R112). -/
theorem State.dispatchUpd_decoder {n : Nat} (h : bitOf u.flags 0 = false) (hn : lowestFree 16 s.busyDecoders = some n) :
    s.dispatchUpd u = { s with rrec := { s.rrec with upds := s.rrec.upds ++ [{ u with decoder := some n }] } } := by
  simp [State.dispatchUpd, h, hn]

/-- With all decoders busy the parser stalls on a coded tile (R112). -/
theorem State.dispatchUpd_stalls (h : bitOf u.flags 0 = false) (hn : lowestFree 16 s.busyDecoders = none) :
    s.dispatchUpd u = { s with sdec := { s.sdec with stalled := some u } } := by
  simp [State.dispatchUpd, h, hn]

end

/-! ## TILE_UPDATE -/

theorem bitOf_low_flags (n : Nat) : bitOf (n % 16) 0 = bitOf n 0 := by
  simp only [bitOf_testBit]
  exact Nat.testBit_mod_two_pow n 4 0

/-- The payload of a well-formed FILL is its 16 bytes (R92). -/
theorem fill_payload {sec : Bytes} (hok : tileFieldsOk sec = true) (hfill : bitOf (fieldN sec 13 1) 0 = true) : fieldN sec 0x20 4 = 16 := by
  simp only [tileFieldsOk, bitOf_low_flags, hfill, if_true, Bool.and_eq_true, beq_iff_eq] at hok
  exact hok.2.2

/-- The tile update of a section, for the directory of the layer it names (R92). -/
def sectionUpd (s : State) (sec : Bytes) (dir : Nat) : TileUpd :=
  { ordinal := s.sdec.ordinal, key := s.sdec.pos, figId := fieldN sec 8 4, layer := fieldN sec 12 1, tx := fieldN sec 14 2, ty := fieldN sec 16 2, dir := dir
    flags := fieldN sec 13 1 % 16, seq := fieldN sec 0x14 4, qp := (cut sec 0x18 6).map (·.toNat), payload := cut sec 0x24 (fieldN sec 0x20 4) }

/-- An accepted section whose update is dispatched. -/
def State.dispatchedSection (s : State) (sec : Bytes) (dir : Nat) : State :=
  ((s.acceptSection.dispatchUpd (sectionUpd s sec dir)).settleRelief).nextSection sec.length

section
variable {s : State} {sec : Bytes} (h : atSection s 5 sec)
include h

theorem tileUpdate_malformed (hok : tileFieldsOk sec = false) : cmdTileUpdate s = s.badSection.nextSection sec.length := by
  unfold cmdTileUpdate
  rw [withSection_at h _ rfl (by decide) (by decide), if_pos (by simp [hok])]

variable (hok : tileFieldsOk sec = true)
include hok

theorem tileUpdate_noFigure (hf : s.fig? (fieldN sec 8 4) = none) : cmdTileUpdate s = s.refusedSection sec 0x0604 := by
  have hnone : s.acceptSection.fig? (fieldN sec 8 4) = none := hf
  unfold cmdTileUpdate
  rw [withSection_at h _ rfl (by decide) (by decide), if_neg (by simp [hok])]
  simp only [hnone]
  rfl

variable {f : Figure} (hf : s.fig? (fieldN sec 8 4) = some f)
include hf

theorem tileUpdate_noTile (hno : f.layers[fieldN sec 12 1]? = none ∨ (f.dirs[fieldN sec 12 1]?).getD none = none ∨
      ∃ l, f.layers[fieldN sec 12 1]? = some l ∧ (l.tilesX ≤ fieldN sec 14 2 ∨ l.tilesY ≤ fieldN sec 16 2)) :
    cmdTileUpdate s = s.refusedSection sec 0x0605 := by
  have hsome : s.acceptSection.fig? (fieldN sec 8 4) = some f := hf
  unfold cmdTileUpdate
  rw [withSection_at h _ rfl (by decide) (by decide), if_neg (by simp [hok])]
  simp only [hsome]
  split
  · next l d hl hd =>
    obtain ⟨l', hl', hout⟩ := (hno.resolve_left (by simp [hl])).resolve_left (by simp [hd])
    obtain rfl : l = l' := Option.some.inj (hl.symm.trans hl')
    rw [if_pos hout]
    rfl
  · rfl

theorem tileUpdate_dispatched {l : Layer} {d : Nat} (hl : f.layers[fieldN sec 12 1]? = some l) (hd : (f.dirs[fieldN sec 12 1]?).getD none = some d)
    (hx : fieldN sec 14 2 < l.tilesX) (hy : fieldN sec 16 2 < l.tilesY) :
    cmdTileUpdate s = s.dispatchedSection sec d := by
  have hsome : s.acceptSection.fig? (fieldN sec 8 4) = some f := hf
  unfold cmdTileUpdate
  rw [withSection_at h _ rfl (by decide) (by decide), if_neg (by simp [hok])]
  simp only [hsome, hl, hd]
  rw [if_neg (by omega)]
  rfl

end

/-- The texel bytes that the update of a FILL carries (R92). -/
theorem sectionUpd_fill {s : State} {sec : Bytes} (hok : tileFieldsOk sec = true) (hfill : bitOf (fieldN sec 13 1) 0 = true) (d : Nat) :
    (sectionUpd s sec d).payload.take 16 = cut sec 0x24 16 := by
  simp only [sectionUpd, cut, fill_payload hok hfill, List.take_take, Nat.min_self]

section
variable {s : State} {sec : Bytes} (d : Nat)

/-- A FILL joins the updates in flight with its texel (R92, R112). -/
theorem dispatchedSection_fill (h : atSection s 5 sec) (hok : tileFieldsOk sec = true) (hfill : bitOf (fieldN sec 13 1) 0 = true) :
    passed s (s.dispatchedSection sec d) sec ∧ (s.dispatchedSection sec d).sdec.ordinal = s.sdec.ordinal + 1 ∧
    (s.dispatchedSection sec d).sdec.codes = s.sdec.codes ∧
    (s.dispatchedSection sec d).rrec.upds = s.rrec.upds ++
      [{ sectionUpd s sec d with result := .fill (fillTexel (BitVec.ofNat 128 (leNat (cut sec 0x24 16)))) }] := by
  unfold State.dispatchedSection
  rw [State.dispatchUpd_fill ((bitOf_low_flags _).trans hfill), sectionUpd_fill hok hfill]
  exact ⟨passed_nextSection h (by simp) (by simp), by simp, by simp, by simp⟩

/-- A coded tile joins them on the lowest free decoder (R112). -/
theorem dispatchedSection_decoder (h : atSection s 5 sec) (hfill : bitOf (fieldN sec 13 1) 0 = false) {n : Nat}
    (hn : lowestFree 16 s.busyDecoders = some n) :
    passed s (s.dispatchedSection sec d) sec ∧ (s.dispatchedSection sec d).sdec.ordinal = s.sdec.ordinal + 1 ∧
    (s.dispatchedSection sec d).sdec.codes = s.sdec.codes ∧ (s.dispatchedSection sec d).sdec.stalled = none ∧
    (s.dispatchedSection sec d).rrec.upds = s.rrec.upds ++ [{ sectionUpd s sec d with decoder := some n }] := by
  unfold State.dispatchedSection
  rw [State.dispatchUpd_decoder (s := s.acceptSection) ((bitOf_low_flags _).trans hfill) hn]
  exact ⟨passed_nextSection h (by simp) (by simp), by simp, by simp, by simp [(atSection_parsing h).2], by simp⟩

/-- With all decoders busy the parser stalls on it (R112). -/
theorem dispatchedSection_stalls (hfill : bitOf (fieldN sec 13 1) 0 = false) (hn : lowestFree 16 s.busyDecoders = none) :
    (s.dispatchedSection sec d).sdec.ordinal = s.sdec.ordinal + 1 ∧ (s.dispatchedSection sec d).rrec.upds = s.rrec.upds ∧
    (s.dispatchedSection sec d).sdec.stalled = some (sectionUpd s sec d) := by
  unfold State.dispatchedSection
  rw [State.dispatchUpd_stalls (s := s.acceptSection) ((bitOf_low_flags _).trans hfill) hn]
  exact ⟨by simp, by simp, by simp⟩

end

/-! ## TILE_DECODE_DONE and DECODER_FREE -/

/-- What a finished decoder makes of an update: the one it held gets its texels or its failure, and no decoder (R104, R114). -/
def decodedUpd (dec : Nat) (u : TileUpd) : TileUpd :=
  if u.decoder = some dec then
    { u with decoder := none, result := match decodeTile u.flags u.qp u.payload with | some ws => .texels ws | none => .failed }
  else u

theorem tileDecodeDone_eq (s : State) (dec : Nat) :
    cmdTileDecodeDone s dec = { s with rrec := { s.rrec with upds := s.rrec.upds.map (decodedUpd dec) } } := rfl

theorem decodedUpd_decoder (dec : Nat) (u : TileUpd) : (decodedUpd dec u).decoder ≠ some dec := by
  unfold decodedUpd
  split
  · simp
  · assumption

theorem decodedUpd_other {dec : Nat} {u : TileUpd} (h : u.decoder ≠ some dec) : decodedUpd dec u = u := if_neg h

theorem decodedUpd_texels {dec : Nat} {u : TileUpd} {ws : List Texel} (h : u.decoder = some dec) (hws : decodeTile u.flags u.qp u.payload = some ws) :
    decodedUpd dec u = { u with decoder := none, result := .texels ws } := by
  simp [decodedUpd, h, hws]

theorem decodedUpd_failed {dec : Nat} {u : TileUpd} (h : u.decoder = some dec) (hws : decodeTile u.flags u.qp u.payload = none) :
    decodedUpd dec u = { u with decoder := none, result := .failed } := by
  simp [decodedUpd, h, hws]

/-- DECODER_FREE hands the tile on which the parser stalls to the lowest free decoder (R112). -/
theorem decoderFree_eq {s : State} {u : TileUpd} {n : Nat} (hs : s.sdec.stalled = some u) (hflag : bitOf u.flags 0 = false)
    (hn : lowestFree 16 s.busyDecoders = some n) :
    cmdDecoderFree s = ({ s with
      sdec := { s.sdec with stalled := none }
      rrec := { s.rrec with upds := s.rrec.upds ++ [{ u with decoder := some n }] } } : State).settleRelief := by
  unfold cmdDecoderFree
  rw [hs, hn]
  dsimp only
  rw [State.dispatchUpd_decoder (s := { s with sdec := { s.sdec with stalled := none } }) hflag hn]

/-- Settles O20: the outcomes of TILE_UPDATE in the order of its checks, each dispatch of R112, and the decoders' ends. -/
theorem tileUpdates : Obligations.TileUpdates := by
  refine ⟨fun s sec h => ?_, fun s dec hdie => ?_, fun s u n hdie hs hflag hn => ?_⟩
  · intro id k tx ty fill
    refine ⟨fun hok => ?_, fun hok hf => ?_, fun hok f hf => ⟨fun hno => ?_, fun l d hl hd hx hy => ?_⟩⟩
    · refine gives_of_live h.1 rfl ?_
      rw [tileUpdate_malformed h hok]
      obtain ⟨hpass, hcode, -, hrrec, -⟩ := badSection_outcome h
      exact ⟨hpass, hcode, hrrec⟩
    · refine gives_of_live h.1 rfl ?_
      rw [tileUpdate_noFigure h hok hf]
      obtain ⟨hpass, hcode, -, hrrec, -⟩ := refusedSection_outcome h 0x0604
      exact ⟨hpass, hcode, hrrec⟩
    · refine gives_of_live h.1 rfl ?_
      rw [tileUpdate_noTile h hok hf hno]
      obtain ⟨hpass, hcode, -, hrrec, -⟩ := refusedSection_outcome h 0x0605
      exact ⟨hpass, hcode, hrrec⟩
    · have heq := tileUpdate_dispatched h hok hf hl hd hx hy
      refine ⟨fun hfill => ?_, fun hfill n hn => ?_, fun hfill hn => ?_⟩
      · refine gives_of_live h.1 rfl ?_
        rw [heq]
        obtain ⟨hpass, hord, hcodes, hupds⟩ := dispatchedSection_fill d h hok hfill
        exact ⟨hpass, hord, hcodes, _, hupds, rfl, rfl, rfl, rfl, rfl, rfl⟩
      · refine gives_of_live h.1 rfl ?_
        rw [heq]
        obtain ⟨hpass, hord, hcodes, hstall, hupds⟩ := dispatchedSection_decoder d h hfill hn
        exact ⟨hpass, hord, hcodes, hstall, _, hupds, rfl, rfl, rfl, rfl, rfl, rfl⟩
      · refine gives_of_live h.1 rfl ?_
        rw [heq]
        obtain ⟨hord, hupds, hstall⟩ := dispatchedSection_stalls d hfill hn
        exact ⟨hord, hupds, _, hstall, rfl, rfl, rfl, rfl⟩
  · refine gives_of_live hdie rfl ?_
    rw [tileDecodeDone_eq]
    refine ⟨fun u hu => ?_, rfl, rfl, fun i u hu => ?_⟩
    · obtain ⟨v, -, rfl⟩ := List.mem_map.mp hu
      exact decodedUpd_decoder dec.val v
    · have hmap : (s.rrec.upds.map (decodedUpd dec.val))[i]? = some (decodedUpd dec.val u) := by rw [List.getElem?_map, hu]; rfl
      exact ⟨fun hne => hmap.trans (congrArg some (decodedUpd_other hne)), fun hdec ws hws => hmap.trans (congrArg some (decodedUpd_texels hdec hws)),
        fun hdec hws => hmap.trans (congrArg some (decodedUpd_failed hdec hws))⟩
  · refine gives_of_live hdie rfl ?_
    rw [decoderFree_eq hs hflag hn]
    exact ⟨by simp, by simp⟩

end Sys2Proof.Machine
end

section
/-! What every section command makes of a section: broken ones, those whose CRC fails, and the types that no command gives a meaning (R81 to R83). -/

namespace Sys2Proof.Machine

/-! ## The steps of R83 -/

@[simp] theorem fieldN_first (b : Byte) (bs : Bytes) : fieldN (b :: bs) 0 1 = b.toNat := by simp [fieldN, cut, leNat]

/-- Before a section the parser reads its first byte as the type. -/
theorem rest_eq_cons {s : State} {ty : Nat} (hne : s.sdec.rest ≠ []) (hty : fieldN s.sdec.rest 0 1 = ty) :
    ∃ b bs, s.sdec.rest = b :: bs ∧ b.toNat = ty := by
  obtain ⟨b, bs, hcons⟩ := List.exists_cons_of_ne_nil hne
  exact ⟨b, bs, hcons, by simpa [hcons] using hty⟩

section
variable {s : State} {ty : Nat} {mine : Nat → Bool} (body : State → Bytes → State)
  (hparse : s.canParse = true) (hne : s.sdec.rest ≠ []) (hty : fieldN s.sdec.rest 0 1 = ty) (hmine : mine ty = true)
include hparse hne hty hmine

/-- A section is told by its length, its type and its CRC, in this order (R83). -/
theorem withSection_eq :
    s.withSection mine body =
      if secLen s.sdec.rest < 12 ∨ secLen s.sdec.rest % 4 ≠ 0 ∨ s.sdec.rest.length < secLen s.sdec.rest then (s.streamCode 0x0402).endSegment
      else if 0x80 ≤ ty then s.nextSection (secLen s.sdec.rest)
      else if !s.secCrcOk (s.sdec.rest.take (secLen s.sdec.rest)) then
        ((s.streamCode 0x0404).bump O.secCrcFailCount).nextSection (secLen s.sdec.rest)
      else if ty = 0 ∨ 8 ≤ ty then (s.streamCode 0x0403).nextSection (secLen s.sdec.rest)
      else (body s (s.sdec.rest.take (secLen s.sdec.rest))).nextSection (secLen s.sdec.rest) := by
  obtain ⟨b, bs, hrest, rfl⟩ := rest_eq_cons hne hty
  unfold State.withSection
  split
  · next hnil => exact absurd hnil hne
  · next b' bs' hcons =>
    obtain ⟨rfl, -⟩ : b' = b ∧ bs' = bs := by simpa [hcons] using hrest
    exact if_neg (by simp [hparse, hmine])

end

/-! ## Where the parser stands after a discarded section -/

theorem State.endSegment_frame (s : State) : Fr0 4608 0 s s.endSegment := State.endSegment_fr rfl rfl (fr_refl s)

/-- A segment that ends leaves no section, and no code or Figure changes (R80). -/
theorem State.endSegment_fields (s : State) :
    s.endSegment.sdec.inSeg = false ∧ s.endSegment.sdec.rest = [] ∧ s.endSegment.sdec.codes = s.sdec.codes ∧ s.endSegment.figs = s.figs := by
  refine ⟨?_, ?_, ?_, (s.endSegment_frame.1 .figs rfl).symm⟩ <;> simp [State.endSegment, State.regateStream_sdec]

theorem State.sdecCode_frame (s : State) (key code : Nat) : Fr0 4096 243388915243820045087367015432192 s (s.sdecCode key code) :=
  State.sdecCode_fr rfl rfl (fr_refl s)

@[simp] theorem State.sdecCode_adm_log (s : State) (key code : Nat) : (s.sdecCode key code).adm = s.adm ∧ (s.sdecCode key code).log = s.log :=
  ⟨((s.sdecCode_frame key code).1 .adm rfl).symm, ((s.sdecCode_frame key code).1 .log rfl).symm⟩

theorem State.sdecCode_nat (s : State) (key code : Nat) {q : Obj} (hq : touched 243388915243820045087367015432192 q.key = false) :
    (s.sdecCode key code).nat q = s.nat q :=
  (vals_of_fr (s.sdecCode_frame key code) rfl rfl (by decide) hq).2.2.1

/-- A code is recorded at the parser's place, and what the decoder holds beside the codes stays (R108). -/
@[simp] theorem State.streamCode_fields (s : State) (code : Nat) :
    (s.streamCode code).figs = s.figs ∧ (s.streamCode code).adm = s.adm ∧ (s.streamCode code).log = s.log ∧
    (s.streamCode code).sdec = { s.sdec with codes := s.sdec.codes ++ [⟨s.sdec.pos, code⟩] } := by
  simp [State.streamCode]

/-! ## The section commands -/

/-- A command that takes the sections of one type goes through the steps of R83, FRAME_MARKER while fewer than 2 frames wait. -/
theorem sectionCommand_withSection {s : State} {c : Instr} {ty : Nat}
    (hc : (c, ty) ∈ [(Instr.frameMarker, 1), (.figureDefine, 2), (.figureModify, 3), (.figureRetire, 4), (.tileUpdate, 5), (.audioBlock, 6), (.paddingSection, 7)])
    (hmarker : c = .frameMarker → s.adm.waiting.length < 2 ∧ s.islandUp 8 = true) :
    ∃ (f : State → State) (body : State → Bytes → State), exec c s = .next (s.ifLive f) ∧ f s = s.withSection (· == ty) body := by
  simp only [List.mem_cons, Prod.mk.injEq, List.not_mem_nil, or_false] at hc
  rcases hc with ⟨rfl, rfl⟩ | ⟨rfl, rfl⟩ | ⟨rfl, rfl⟩ | ⟨rfl, rfl⟩ | ⟨rfl, rfl⟩ | ⟨rfl, rfl⟩ | ⟨rfl, rfl⟩
  · obtain ⟨hroom, hup⟩ := hmarker rfl
    exact ⟨cmdFrameMarker, _, rfl, if_neg (by simp [hup]; omega)⟩
  · exact ⟨cmdFigureDefine, _, rfl, rfl⟩
  · exact ⟨cmdFigureModify, _, rfl, rfl⟩
  · exact ⟨cmdFigureRetire, _, rfl, rfl⟩
  · exact ⟨cmdTileUpdate, _, rfl, rfl⟩
  · exact ⟨cmdAudioBlock, _, rfl, rfl⟩
  · exact ⟨cmdPadding, _, rfl, rfl⟩

theorem sectionType_range {c : Instr} {ty : Nat}
    (hc : (c, ty) ∈ [(Instr.frameMarker, 1), (.figureDefine, 2), (.figureModify, 3), (.figureRetire, 4), (.tileUpdate, 5), (.audioBlock, 6), (.paddingSection, 7)]) :
    1 ≤ ty ∧ ty ≤ 7 := by
  simp only [List.mem_cons, Prod.mk.injEq, List.not_mem_nil, or_false] at hc
  omega

/-- A section whose CRC fails is passed over with 0x0404 and counted (R81, R83). -/
theorem crcFailed_outcome (s : State) (n : Nat) :
    let t := ((s.streamCode 0x0404).bump O.secCrcFailCount).nextSection n
    coded s t 0x0404 ∧ counts s t O.secCrcFailCount 1 ∧ t.sdec.rest = s.sdec.rest.drop n ∧ t.sdec.ordinal = s.sdec.ordinal ∧ t.figs = s.figs := by
  have hcount := counts_bump (s.streamCode 0x0404) O.secCrcFailCount (w := 4) rfl rfl
  have hsame : (s.streamCode 0x0404).nat O.secCrcFailCount = s.nat O.secCrcFailCount := s.sdecCode_nat _ _ (by decide +kernel)
  refine ⟨by simp [coded], ?_, by simp [State.nextSection_cursor], by simp, by simp⟩
  unfold counts at hcount ⊢
  rw [State.nextSection_nat, hcount, hsame]

section
variable {s : State} {ty : Nat} {sec : Bytes} (h : atSection s ty sec)
include h

/-- The section that the parser takes, told by its type alone: its length and its CRC are good. -/
theorem withSection_atSection {mine : Nat → Bool} (body : State → Bytes → State) (hmine : mine ty = true) :
    s.withSection mine body =
      if 0x80 ≤ ty then s.nextSection sec.length
      else if ty = 0 ∨ 8 ≤ ty then (s.streamCode 0x0403).nextSection sec.length
      else (body s sec).nextSection sec.length := by
  obtain ⟨b, bs, hrest, hb⟩ := atSection_head h
  have hfits := atSection_fits h
  obtain ⟨-, hparse, hlen, htake, hmin, hmod, -, hcrc⟩ := h
  rw [withSection_eq body hparse (by simp [hrest]) (by simpa [hrest] using hb) hmine, if_neg (by omega), ← hlen, ← htake, hcrc,
    if_neg (c := (!true) = true) (by decide)]

theorem paddingSection_eq (hty : ty = 7) : cmdPadding s = (s.acceptSection.settleRelief).nextSection sec.length := by
  subst hty
  exact withSection_at h _ rfl (by decide) (by decide)

theorem unknownSection_eq (hty : ty = 0 ∨ 8 ≤ ty ∧ ty < 0x80) : cmdUnknown s = (s.streamCode 0x0403).nextSection sec.length := by
  unfold cmdUnknown
  rw [withSection_atSection h _ (by rcases hty with rfl | ⟨h8, h80⟩ <;> simp [*]), if_neg (by omega), if_pos (by omega)]

theorem privateSection_eq (hty : 0x80 ≤ ty) : cmdPrivate s = s.nextSection sec.length := by
  unfold cmdPrivate
  rw [withSection_atSection h _ (by simp [hty]), if_pos hty]

end

/-- Settles O17: the types without an effect by `withSection_atSection`; for the seven others what R83 does before it looks at the command's own meaning. -/
theorem streamSections : Obligations.StreamSections := by
  refine ⟨fun s ty sec h => ⟨fun hty => ?_, fun hty => ?_, fun hty => ?_⟩, fun s c ty hdie hparse hne hty hc hmarker => ?_⟩
  · refine gives_of_live h.1 rfl ?_
    rw [paddingSection_eq h hty]
    exact ⟨passed_nextSection h (by simp) (by simp), by simp, by simp, by simp⟩
  · refine gives_of_live h.1 rfl ?_
    rw [unknownSection_eq h hty]
    exact ⟨passed_nextSection h (by simp) (by simp), by simp [coded], by simp, by simp⟩
  · refine gives_of_live h.1 rfl ?_
    rw [privateSection_eq h hty]
    exact ⟨passed_nextSection h rfl rfl, by simp, by simp, by simp⟩
  · obtain ⟨f, body, hexec, hf⟩ := sectionCommand_withSection hc hmarker
    obtain ⟨h1, h7⟩ := sectionType_range hc
    intro n
    refine ⟨fun hbad => gives_of_live hdie hexec ?_, fun hmin hmod hfits hcrc => gives_of_live hdie hexec ?_⟩
    · rw [hf, withSection_eq body hparse hne hty (by simp), if_pos hbad]
      obtain ⟨hseg, hrest, hcodes, hfigs⟩ := (s.streamCode 0x0402).endSegment_fields
      exact ⟨by simp [coded, hcodes], hseg, hrest, by simp [hfigs]⟩
    · rw [hf, withSection_eq body hparse hne hty (by simp), if_neg (by omega), if_neg (by omega), hcrc, if_pos (by decide)]
      exact crcFailed_outcome s n

end Sys2Proof.Machine
end

section
/-! Frame markers: the frames they close and the ones they are refused (R85 to R88). -/

namespace Sys2Proof.Machine

/-! ## What the waiting frames and the completion queue show -/

theorem completes_congr {s t s' t' : State} {l : List (CplKind × Nat)} (hs : s'.hif.queue = s.hif.queue) (ht : t'.hif.queue = t.hif.queue)
    (h : completes s t l) : completes s' t' l := by
  unfold completes; rw [hs, ht]; exact h

@[simp] theorem State.settleRelief_hif (s : State) : s.settleRelief.hif = s.hif := (s.settleRelief_frame.1 .hif rfl).symm

@[simp] theorem State.acceptSection_adm (s : State) : s.acceptSection.adm = s.adm := rfl

@[simp] theorem State.nextSection_adm_hif (s : State) (n : Nat) : (s.nextSection n).adm = s.adm ∧ (s.nextSection n).hif = s.hif :=
  ⟨((s.nextSection_frame n).1 .adm rfl).symm, ((s.nextSection_frame n).1 .hif rfl).symm⟩

@[simp] theorem State.nextSection_frames (s : State) (n : Nat) :
    (s.nextSection n).sdec.frames = s.sdec.frames ∧ (s.nextSection n).sdec.lastEpoch = s.sdec.lastEpoch := by
  unfold State.nextSection State.endSegment
  dsimp only [State.modSdec]
  split
  · simp [State.regateStream_sdec]
  · simp

/-- Residency is recorded on the waiting frames; whatever else they show stays (R123). -/
theorem State.settleRelief_waiting {α : Type} (s : State) (g : Frame → α) (hg : ∀ f r, g { f with residentAt := r } = g f) :
    s.settleRelief.adm.waiting.map g = s.adm.waiting.map g := by
  have hadm : s.refreshRelief.adm = s.adm := ((State.refreshRelief_fr (c := 0) (r := 65024) rfl rfl (fr_refl s)).1 .adm rfl).symm
  unfold State.settleRelief State.markResident
  rw [hadm, List.map_map]
  refine List.map_congr_left fun f _ => ?_
  simp only [Function.comp_apply]
  split
  · exact hg f _
  · rfl

/-! ## The outcomes of a marker -/

/-- Whether a marker is well formed: 28 bytes, and an ASAP one names no epoch (R85, R86). -/
def markerFormed (sec : Bytes) : Prop := sec.length = 28 ∧ (bitOf (fieldN sec 20 4) 0 = true → fieldN sec 8 8 = 0)

/-- A marker is well formed where FRAME_MARKER does not call it a bad section. -/
theorem markerFormed_iff (sec : Bytes) :
    markerFormed sec ↔ ¬ (sec.length ≠ 28 ∨ (bitOf (fieldN sec 20 4) 0 = true ∧ fieldN sec 8 8 ≠ 0)) := by
  simp only [markerFormed, ne_eq, not_or, not_and, Decidable.not_not]

/-- The epoch a marker asks for: the one it names, or under ASAP that of R86. -/
def State.markerEpoch (s : State) (sec : Bytes) : Nat := if bitOf (fieldN sec 20 4) 0 then s.asapEpoch else fieldN sec 8 8

/-- A marker refused with a code: its ordinal is taken and its entry made (R87). -/
def State.refusedMarker (s : State) (sec : Bytes) (code : Nat) : State :=
  ((s.acceptSection.refuseMarker (fieldN sec 16 4) (s.markerEpoch sec) code).settleRelief).nextSection sec.length

/-- A marker that closes a frame (R88). -/
def State.binnedMarker (s : State) (sec : Bytes) : State :=
  (s.acceptSection.binMarker (fieldN sec 16 4) (s.markerEpoch sec) s.sdec.ordinal s.sdec.pos).nextSection sec.length

section
variable {s : State} {sec : Bytes} (h : atSection s 1 sec) (hroom : s.adm.waiting.length < 2) (hup : s.islandUp 8 = true)
include h hroom hup

theorem frameMarker_malformed (hbad : ¬ markerFormed sec) : cmdFrameMarker s = s.badSection.nextSection sec.length := by
  unfold cmdFrameMarker
  rw [if_neg (by simp [hup]; omega), withSection_at h _ rfl (by decide) (by decide)]
  dsimp only
  rw [if_pos (Decidable.not_not.mp (mt (markerFormed_iff sec).mpr hbad))]

variable (hform : markerFormed sec)
include hform

/-- A well-formed marker is told by its epoch (R87). -/
theorem frameMarker_formed :
    cmdFrameMarker s =
      if s.sdec.lastEpoch.any (s.markerEpoch sec ≤ ·) then s.refusedMarker sec 0x0406
      else if s.rangeBase + 16384 < s.markerEpoch sec then s.refusedMarker sec 0x0407
      else s.binnedMarker sec := by
  unfold cmdFrameMarker
  rw [if_neg (by simp [hup]; omega), withSection_at h _ rfl (by decide) (by decide)]
  dsimp only
  rw [if_neg ((markerFormed_iff sec).mp hform)]
  unfold State.refusedMarker State.binnedMarker
  simp only [← apply_ite (fun u : State => u.nextSection sec.length)]
  rfl

theorem frameMarker_stale {l : Nat} (hl : s.sdec.lastEpoch = some l) (hle : s.markerEpoch sec ≤ l) : cmdFrameMarker s = s.refusedMarker sec 0x0406 := by
  rw [frameMarker_formed h hroom hup hform, if_pos (by simpa [hl] using hle)]

variable (hnew : ∀ l, s.sdec.lastEpoch = some l → l < s.markerEpoch sec)
include hnew

theorem frameMarker_far (hfar : s.rangeBase + 16384 < s.markerEpoch sec) : cmdFrameMarker s = s.refusedMarker sec 0x0407 := by
  rw [frameMarker_formed h hroom hup hform, if_neg (by simpa [Option.any_eq_true] using hnew), if_pos hfar]

theorem frameMarker_binned (hnear : s.markerEpoch sec ≤ s.rangeBase + 16384) : cmdFrameMarker s = s.binnedMarker sec := by
  rw [frameMarker_formed h hroom hup hform, if_neg (by simpa [Option.any_eq_true] using hnew), if_neg (by omega)]

end

theorem State.refuseMarker_fields (s : State) (tag epoch code : Nat) :
    (s.refuseMarker tag epoch code).adm = s.adm ∧ (s.refuseMarker tag epoch code).sdec = s.sdec := by
  simp [State.refuseMarker]

theorem State.refuseMarker_completes (s : State) (tag epoch code : Nat) : completes s (s.refuseMarker tag epoch code) [(.markerRefused, code)] :=
  completes_congr (by simp) rfl
    (completes_complete (s.put O.sdecLastStatus code) { kind := .markerRefused, status := code, tag := tag, epoch := epoch, eventTime := s.ns })

section
variable {s : State} {sec : Bytes} (h : atSection s 1 sec)
include h

/-- A refused marker makes its entry and no frame (R87). -/
theorem refusedMarker_outcome (code : Nat) :
    passed s (s.refusedMarker sec code) sec ∧ completes s (s.refusedMarker sec code) [(.markerRefused, code)] ∧
    (s.refusedMarker sec code).adm.waiting.map (·.number) = s.adm.waiting.map (·.number) ∧ (s.refusedMarker sec code).sdec.frames = s.sdec.frames := by
  obtain ⟨hadm, hsdec⟩ := s.acceptSection.refuseMarker_fields (fieldN sec 16 4) (s.markerEpoch sec) code
  have hmade := s.acceptSection.refuseMarker_completes (fieldN sec 16 4) (s.markerEpoch sec) code
  unfold State.refusedMarker
  refine ⟨passed_nextSection h (by simp [hsdec]) (by simp [hsdec]), completes_congr rfl (by simp) hmade, ?_, by simp [hsdec]⟩
  simp [State.settleRelief_waiting, hadm]

/-- A marker that closes a frame numbers it and puts it behind the waiting ones (R88). -/
theorem binnedMarker_outcome :
    passed s (s.binnedMarker sec) sec ∧ (s.binnedMarker sec).sdec.frames = s.sdec.frames + 1 ∧
    (s.binnedMarker sec).sdec.lastEpoch = some (s.markerEpoch sec) ∧ (s.binnedMarker sec).sdec.ordinal = s.sdec.ordinal + 1 ∧
    (s.binnedMarker sec).adm.waiting.map (fun f => (f.number, f.tag, f.epoch)) =
      s.adm.waiting.map (fun f => (f.number, f.tag, f.epoch)) ++ [(s.sdec.frames + 1, fieldN sec 16 4, s.markerEpoch sec)] := by
  unfold State.binnedMarker State.binMarker
  refine ⟨passed_nextSection h (by simp) (by simp), by simp, by simp, by simp, ?_⟩
  simp [State.settleRelief_waiting]

end

/-- Settles O22: a marker by its form, then by its epoch against the last one and against the range, as `frameMarker_formed` orders them. -/
theorem frameMarkers : Obligations.FrameMarkers := by
  intro s sec h hroom hup asap named e wellFormed
  refine ⟨fun hbad => gives_of_live h.1 rfl ?_, fun hform l hl hle => gives_of_live h.1 rfl ?_,
    fun hform hnew => ⟨fun hfar => gives_of_live h.1 rfl ?_, fun hnear => gives_of_live h.1 rfl ?_⟩⟩
  · rw [frameMarker_malformed h hroom hup hbad]
    obtain ⟨hpass, hcode, -⟩ := badSection_outcome h
    exact ⟨hpass, hcode, by simp [State.badSection]⟩
  · rw [frameMarker_stale h hroom hup hform hl hle]
    exact refusedMarker_outcome h 0x0406
  · rw [frameMarker_far h hroom hup hform hnew hfar]
    exact refusedMarker_outcome h 0x0407
  · rw [frameMarker_binned h hroom hup hform hnew hnear]
    exact binnedMarker_outcome h

end Sys2Proof.Machine
end

section
/-! Segments at the front of the stream queue: their read, and whether they are accepted or discarded (R78 to R80, R216). -/

namespace Sys2Proof.Machine

/-! ## What a read logs -/

theorem logged_congr {s t s' t' : State} {x : Nat × List Nat} (hs : s'.log = s.log) (ht : t'.log = t.log) (h : logged s t x) : logged s' t' x := by
  unfold logged; rw [hs, ht]; exact h

/-- What is logged from a later state on is logged from an earlier one on. -/
theorem logged_of_grows {s u t : State} {x : Nat × List Nat} (hg : logGrows s u) (h : logged u t x) : logged s t x := by
  intro hlen
  obtain ⟨es, hes⟩ := hg
  obtain ⟨fs, hfs, hx⟩ := h hlen
  exact ⟨es ++ fs, by rw [hfs, hes, List.append_assoc], by rw [List.map_append]; exact List.mem_append_right _ hx⟩

theorem State.partitionOf_congr {s t : State} (h : t.part = s.part) (a : Nat) : t.partitionOf a = s.partitionOf a := by
  unfold State.partitionOf; rw [h]

theorem logGrows_eccUncorrectable (s : State) (a : Nat) (cls : MemClass) : logGrows s (s.eccUncorrectable a cls) := by
  unfold State.eccUncorrectable
  exact (logGrows_of_eq (by simp)).trans (logGrows_postWith _ false _ _)

/-- An uncorrectable sector is logged with its address, its partition and the class that read it (R216). -/
theorem logged_eccUncorrectable {s t : State} (a : Nat) (cls : MemClass) (hg : logGrows (s.eccUncorrectable a cls) t) :
    logged s t (0x0A02, [a, s.partitionOf a, cls.num]) := by
  unfold State.eccUncorrectable at hg
  dsimp only at hg
  rw [State.partitionOf_congr (s := s) (by simp)] at hg
  exact logged_of_post false 0x0A02 _ (by simp) hg

theorem logGrows_eccAll (s : State) (cls : MemClass) (l : List Nat) : logGrows s (s.eccAll cls l) := by
  unfold State.eccAll
  induction l generalizing s with
  | nil => exact logGrows_of_eq rfl
  | cons a l ih => exact (logGrows_eccUncorrectable s _ cls).trans (ih _)

theorem logged_eccAll (s : State) (cls : MemClass) {l : List Nat} {a : Nat} (ha : a ∈ l) :
    logged s (s.eccAll cls l) (0x0A02, [a / 32 * 32, s.partitionOf (a / 32 * 32), cls.num]) := by
  induction l generalizing s with
  | nil => exact absurd ha List.not_mem_nil
  | cons b l ih =>
    rcases List.mem_cons.mp ha with rfl | hl
    · exact logged_eccUncorrectable _ cls (logGrows_eccAll _ cls l)
    · have htail := ih (s.eccUncorrectable (b / 32 * 32) cls) hl
      rw [State.partitionOf_congr (s := s) (by simp)] at htail
      exact logged_of_grows (logGrows_eccUncorrectable s _ cls) htail

/-! ## The read of a segment -/

/-- The read of a segment meets uncorrectable sectors at the offsets `ue` and corrects those at `ce` (R216). -/
def State.readSegment (s : State) (g : Seg) (ue ce : List Nat) : State :=
  ((s.memRequest).eccAll .relief (ue.map fun u => g.addr + u)).eccCorrected (ce.map fun u => g.addr + u)

theorem State.readSegment_frame (s : State) (g : Seg) (ue ce : List Nat) : Fr0 22565355520 16650338304 s (s.readSegment g ue ce) :=
  State.eccCorrected_fr rfl rfl (State.eccAll_fr rfl rfl (State.memRequest_fr rfl rfl (fr_refl s)))

theorem State.readSegment_fields (s : State) (g : Seg) (ue ce : List Nat) :
    (s.readSegment g ue ce).sdec = s.sdec ∧ (s.readSegment g ue ce).figs = s.figs :=
  ⟨((s.readSegment_frame g ue ce).1 .sdec rfl).symm, ((s.readSegment_frame g ue ce).1 .figs rfl).symm⟩

theorem State.readSegment_nat (s : State) (g : Seg) (ue ce : List Nat) {q : Obj} (hq : touched 16650338304 q.key = false) :
    (s.readSegment g ue ce).nat q = s.nat q :=
  (vals_of_fr (s.readSegment_frame g ue ce) rfl rfl (by decide) hq).2.2.1

/-- Every uncorrectable sector of the read is logged in class 4 (R216). -/
theorem logged_readSegment (s : State) (g : Seg) {ue : List Nat} (ce : List Nat) {u : Nat} (hu : u ∈ ue) :
    logged s (s.readSegment g ue ce) (0x0A02, [(g.addr + u) / 32 * 32, s.partitionOf ((g.addr + u) / 32 * 32), 4]) := by
  have hecc := logged_eccAll s.memRequest .relief (List.mem_map_of_mem (f := fun u => g.addr + u) hu)
  rw [State.partitionOf_congr (s := s) (by simp)] at hecc
  have hcorrected : ∀ t : State, (t.eccCorrected (ce.map fun u => g.addr + u)).log = t.log := fun t =>
    ((State.eccCorrected_fr (c := 16777216) (r := 1073741824) rfl rfl (fr_refl t)).1 .log rfl).symm
  exact logged_congr (by simp) (hcorrected _) hecc

/-! ## Acceptance and discard -/

@[simp] theorem State.regateStream_log (s : State) : s.regateStream.log = s.log := (s.regateStream_frame.1 .log rfl).symm

/-- Figures retired one after the other are gone. -/
theorem State.retireEach_figs {l : List Figure} {s : State} (hl : ∀ g ∈ s.figs, g ∈ l) :
    (l.foldl (fun s f => s.retireFig s.sdec.ordinal f) s).figs = [] := by
  induction l generalizing s with
  | nil => exact List.eq_nil_iff_forall_not_mem.mpr fun g hg => List.not_mem_nil (hl g hg)
  | cons f l ih =>
    refine ih fun g hg => ?_
    rw [(s.retireFig_fields s.sdec.ordinal f).1, List.mem_filter, bne_iff_ne] at hg
    obtain ⟨hmem, hid⟩ := hg
    exact (List.mem_cons.mp (hl g hmem)).resolve_left fun heq => hid (congrArg Figure.id heq)

theorem State.retireAll_figs (s : State) : s.retireAll.figs = [] := State.retireEach_figs fun _ hg => hg

theorem State.retireAll_frame (s : State) : Fr0 10240 0 s s.retireAll := State.retireAll_fr rfl rfl (fr_refl s)

/-- The queue behind the front segment stays when it is taken out (R80). -/
theorem State.popSegment_queue {s : State} {g : Seg} {gs : List Seg} (hq : s.sdec.queue = g :: gs) : (s.popSegment []).sdec.queue = gs := by
  simp [State.popSegment, hq]

/-- The segment `g` is accepted: it leaves the queue `g :: gs`, its sections are next and it is tracked (R79, R80). -/
def segAccepted (s t : State) (g : Seg) (gs : List Seg) (ue : List Nat) : Prop :=
  t.sdec.inSeg = true ∧ t.sdec.bad = ue ∧ t.sdec.rest = (g.bytes.take (segLen g.bytes)).drop 24 ∧ t.sdec.curId = some (segId g.bytes) ∧
  t.sdec.expected = (segSeq g.bytes + 1) % 2 ^ 32 ∧ t.nat O.segOkCount = min (s.nat O.segOkCount + 1) (2 ^ 32 - 1) ∧ (g.transport ≠ 3 → t.sdec.queue = gs)

theorem acceptSegment_accepted {s u : State} {g : Seg} {gs : List Seg} (ue : List Nat) (hq : u.sdec.queue = g :: gs)
    (hok : u.nat O.segOkCount = s.nat O.segOkCount) : segAccepted s (u.acceptSegment g ue) g gs ue := by
  have hcount : (u.bump O.segOkCount).nat O.segOkCount = min (u.nat O.segOkCount + 1) (2 ^ 32 - 1) := counts_bump u O.segOkCount (w := 4) rfl rfl
  unfold State.acceptSegment
  dsimp only
  refine ⟨by simp, by simp, by simp, by simp, by simp, ?_, fun ht => ?_⟩
  · rw [State.modSdec_vals .. |>.2.2.1, State.popSegment, State.modSdec_vals .. |>.2.2.1, State.nat_put_ne (by decide), hcount, hok]
  · rw [if_neg ht]
    simpa using State.popSegment_queue (s := (u.bump O.segOkCount).put O.streamCurrentId (segId g.bytes)) (by simpa using hq)

theorem acceptSegment_keeps (u : State) (g : Seg) (ue : List Nat) :
    (u.acceptSegment g ue).figs = u.figs ∧ (u.acceptSegment g ue).sdec.codes = u.sdec.codes ∧ (u.acceptSegment g ue).log = u.log := by
  simp [State.acceptSegment, State.popSegment]

theorem acceptSegment_nat (u : State) (g : Seg) (ue : List Nat) {q : Obj} (h1 : q.key ≠ O.segOkCount.key) (h2 : q.key ≠ O.streamCurrentId.key) :
    (u.acceptSegment g ue).nat q = u.nat q := by
  simp [State.acceptSegment, State.popSegment, State.nat_put_ne h2, State.nat_bump_ne h1]

/-- The segment `g` is discarded with a code: it leaves the queue `g :: gs`, and what is tracked stays (R78, R79). -/
def segDiscarded (s t : State) (g : Seg) (gs : List Seg) (code : Nat) : Prop :=
  t.sdec.inSeg = false ∧ coded s t code ∧ t.sdec.curId = s.sdec.curId ∧ t.sdec.expected = s.sdec.expected ∧ t.figs = s.figs ∧
  (g.transport ≠ 3 → t.sdec.queue = gs)

/-- A segment behind whose code nothing else of the decoder has changed, taken out of the queue. -/
theorem popSegment_discarded {s u : State} {g : Seg} {gs : List Seg} {code : Nat} (bad : Bool) (hq : s.sdec.queue = g :: gs)
    (hseg : s.sdec.inSeg = false) (hu : u.sdec = { s.sdec with codes := s.sdec.codes ++ [⟨s.sdec.pos, code⟩] }) (hfigs : u.figs = s.figs) :
    segDiscarded s (u.popSegment (State.afterDiscard g bad)).regateStream g gs code := by
  have hkeep : (u.popSegment (State.afterDiscard g bad)).regateStream.figs = u.figs := (State.regateStream_frame _).1 .figs rfl |>.symm
  unfold segDiscarded coded
  rw [State.regateStream_sdec, hkeep, hfigs]
  refine ⟨by simp [State.popSegment, hu, hseg], by simp [State.popSegment, hu], by simp [State.popSegment, hu], by simp [State.popSegment, hu], rfl,
    fun ht => ?_⟩
  rw [State.afterDiscard, if_pos ht]
  exact State.popSegment_queue (by simpa [hu] using hq)

theorem discardSegment_discarded {s u : State} {g : Seg} {gs : List Seg} (code : Nat) (bad : Bool) (hq : s.sdec.queue = g :: gs)
    (hseg : s.sdec.inSeg = false) (hu : u.sdec = s.sdec) (hfigs : u.figs = s.figs) : segDiscarded s (u.discardSegment g code bad) g gs code :=
  popSegment_discarded bad hq hseg (by simp [hu]) (by simp [hfigs])

theorem counts_discardSegment (u : State) (g : Seg) (code : Nat) (bad : Bool) : counts u (u.discardSegment g code bad) O.segBadCount 1 := by
  have hcount := counts_bump (u.streamCode code) O.segBadCount (w := 4) rfl rfl
  have hsame : (u.streamCode code).nat O.segBadCount = u.nat O.segBadCount := u.sdecCode_nat _ _ (by decide +kernel)
  unfold counts at hcount ⊢
  rw [State.discardSegment, State.regateStream_nat, State.popSegment, State.modSdec_vals .. |>.2.2.1, hcount, hsame]

/-! ## SEGMENT -/

/-- δ: how far the segment's number lies behind the one expected, modulo 2^32 (R79). -/
def segDistance (g : Seg) (expected : Nat) : Nat := (segSeq g.bytes + 2 ^ 32 - expected) % 2 ^ 32

/-- What becomes of a segment once it is read: its header first, then STREAM_START, then the stream it belongs to, then its place in it (R78, R79). -/
def State.trackSegment (s : State) (g : Seg) (ue : List Nat) : State :=
  if !(segHeaderOk g.transport g.bytes && !ue.any (· < 24)) then s.discardSegment g 0x0401 true
  else if bitOf (fieldN g.bytes 5 1) 0 then s.retireAll.settleRelief.acceptSegment g ue
  else if s.sdec.curId ≠ some (segId g.bytes) then s.discardSegment g 0x0409 false
  else if segDistance g s.sdec.expected = 0 then s.acceptSegment g ue
  else if segDistance g s.sdec.expected < 2 ^ 31 then
    ((s.streamCode 0x0408).bumpBy O.segLossCount (segDistance g s.sdec.expected)).acceptSegment g ue
  else ((s.streamCode 0x0408).popSegment (State.afterDiscard g false)).regateStream

/-- SEGMENT reads the segment at the front and tracks it. -/
theorem segment_eq {s : State} {g : Seg} {gs : List Seg} (ue ce : List Nat) (hq : s.sdec.queue = g :: gs) (hseg : s.sdec.inSeg = false)
    (hstall : s.sdec.stalled = none) (hup : s.islandUp 6 = true) : cmdSegment s ue ce = (s.readSegment g ue ce).trackSegment g ue := by
  unfold cmdSegment State.trackSegment
  rw [hq]
  dsimp only
  rw [if_neg (by simp [hseg, hstall, hup])]
  have hheader : (ue.any (· < 24) || !segHeaderOk g.transport g.bytes) = !(segHeaderOk g.transport g.bytes && !ue.any (· < 24)) := by
    rw [Bool.not_and, Bool.not_not, Bool.or_comm]
  refine ite_congr (congrArg (· = true) hheader) (fun _ => rfl) fun _ => ite_congr rfl (fun _ => rfl) fun _ => ?_
  split
  · next hid =>
    rw [if_pos]
    · rfl
    · show (s.readSegment g ue ce).sdec.curId ≠ _
      simp [State.readSegment, hid]
  · next id hid =>
    refine ite_congr (propext ?_) (fun _ => rfl) fun _ => rfl
    show _ ↔ (s.readSegment g ue ce).sdec.curId ≠ _
    rw [State.readSegment, hid, ne_eq, ne_eq, Option.some.injEq, eq_comm]

/-- Tracking a segment logs nothing. -/
theorem State.trackSegment_log (s : State) (g : Seg) (ue : List Nat) : (s.trackSegment g ue).log = s.log := by
  have hretire : s.retireAll.settleRelief.log = s.log :=
    ((State.settleRelief_frame _).1 .log rfl).symm.trans (s.retireAll_frame.1 .log rfl).symm
  have hdiscard : ∀ code bad, (s.discardSegment g code bad).log = s.log := fun code bad => by simp [State.discardSegment, State.popSegment]
  have haccept : ∀ u : State, (u.acceptSegment g ue).log = u.log := fun u => (acceptSegment_keeps u g ue).2.2
  unfold State.trackSegment
  split
  · exact hdiscard _ _
  split
  · exact (haccept _).trans hretire
  split
  · exact hdiscard _ _
  split
  · exact haccept _
  split
  · rw [haccept]; simp
  · simp [State.popSegment]

section
variable {s : State} {g : Seg} {ue : List Nat}

theorem trackSegment_bad (hok : (segHeaderOk g.transport g.bytes && !ue.any (· < 24)) = false) : s.trackSegment g ue = s.discardSegment g 0x0401 true := by
  rw [State.trackSegment, hok, if_pos (by decide)]

variable (hok : (segHeaderOk g.transport g.bytes && !ue.any (· < 24)) = true)
include hok

theorem trackSegment_start (hstart : bitOf (fieldN g.bytes 5 1) 0 = true) : s.trackSegment g ue = s.retireAll.settleRelief.acceptSegment g ue := by
  rw [State.trackSegment, hok, if_neg (by decide), if_pos hstart]

variable (hstart : bitOf (fieldN g.bytes 5 1) 0 = false)
include hstart

theorem trackSegment_foreign (hid : s.sdec.curId ≠ some (segId g.bytes)) : s.trackSegment g ue = s.discardSegment g 0x0409 false := by
  rw [State.trackSegment, hok, if_neg (by decide), if_neg (by simp [hstart]), if_pos hid]

variable (hid : s.sdec.curId = some (segId g.bytes))
include hid

theorem trackSegment_next (hd : segDistance g s.sdec.expected = 0) : s.trackSegment g ue = s.acceptSegment g ue := by
  rw [State.trackSegment, hok, if_neg (by decide), if_neg (by simp [hstart]), if_neg (by simp [hid]), if_pos hd]

variable {d : Nat} (hdist : segDistance g s.sdec.expected = d)
include hdist

theorem trackSegment_gap (hpos : 1 ≤ d) (hd : d < 2 ^ 31) : s.trackSegment g ue = ((s.streamCode 0x0408).bumpBy O.segLossCount d).acceptSegment g ue := by
  rw [State.trackSegment, hok, if_neg (by decide), if_neg (by simp [hstart]), if_neg (by simp [hid]), hdist, if_neg (by omega), if_pos hd]

theorem trackSegment_late (hd : 2 ^ 31 ≤ d) :
    s.trackSegment g ue = ((s.streamCode 0x0408).popSegment (State.afterDiscard g false)).regateStream := by
  rw [State.trackSegment, hok, if_neg (by decide), if_neg (by simp [hstart]), if_neg (by simp [hid]), hdist, if_neg (by omega), if_neg (by omega)]

end

/-- What holds of the tracked segment, SEGMENT gives. -/
theorem gives_segment {s : State} {g : Seg} {gs : List Seg} {ue ce : List Nat} {P : State → Prop} (hdie : s.die = .running)
    (hq : s.sdec.queue = g :: gs) (hseg : s.sdec.inSeg = false) (hstall : s.sdec.stalled = none) (hup : s.islandUp 6 = true)
    (hP : P ((s.readSegment g ue ce).trackSegment g ue)) : gives (.segment ue ce) s P :=
  gives_of_live (f := fun s => cmdSegment s ue ce) hdie rfl (segment_eq ue ce hq hseg hstall hup ▸ hP)

/-- STREAM_START retires every Figure and leaves the decoder and its counters to the segment's acceptance (R79). -/
theorem State.restart_fields (s : State) :
    s.retireAll.settleRelief.figs = [] ∧ s.retireAll.settleRelief.sdec = s.sdec ∧ s.retireAll.settleRelief.nat O.segOkCount = s.nat O.segOkCount := by
  refine ⟨by simp [s.retireAll_figs], ?_, ?_⟩
  · rw [(State.settleRelief_fields _).2.2]
    exact (s.retireAll_frame.1 .sdec rfl).symm
  · rw [State.settleRelief_nat _ (by decide +kernel)]
    exact (vals_of_fr s.retireAll_frame rfl rfl (by decide) (touched_none _)).2.2.1

/-- A gap in the current stream: the segment behind it is accepted, the gap is recorded and its segments are counted (R79). -/
theorem gap_accepted {s u : State} {g : Seg} {gs : List Seg} (ue : List Nat) (d : Nat) (hq : s.sdec.queue = g :: gs) (hsdec : u.sdec = s.sdec)
    (hok : u.nat O.segOkCount = s.nat O.segOkCount) (hloss : u.nat O.segLossCount = s.nat O.segLossCount) :
    let t := ((u.streamCode 0x0408).bumpBy O.segLossCount d).acceptSegment g ue
    segAccepted s t g gs ue ∧ t.figs = u.figs ∧ coded s t 0x0408 ∧ counts s t O.segLossCount d := by
  have hcodeOk : (u.streamCode 0x0408).nat O.segOkCount = u.nat O.segOkCount := u.sdecCode_nat _ _ (by decide +kernel)
  have hcodeLoss : (u.streamCode 0x0408).nat O.segLossCount = u.nat O.segLossCount := u.sdecCode_nat _ _ (by decide +kernel)
  have hcount := counts_bumpBy (u.streamCode 0x0408) O.segLossCount d (w := 4) rfl rfl
  refine ⟨acceptSegment_accepted ue (by simp [hsdec, hq]) ?_, by simp [acceptSegment_keeps], by simp [coded, acceptSegment_keeps, hsdec], ?_⟩
  · rw [State.nat_bumpBy_ne (by decide), hcodeOk, hok]
  · unfold counts at hcount ⊢
    rw [acceptSegment_nat _ g ue (by decide) (by decide), hcount, hcodeLoss, hloss]

/-- Settles O16: the outcomes of `trackSegment` in the order of its checks, each on the state behind the segment's read; the read's log by `logged_readSegment`. -/
theorem segments : Obligations.Segments := by
  intro s g gs ue ce hdie hq hseg hstall hup d ok accepted discarded
  obtain ⟨hsdec, hfigs⟩ := s.readSegment_fields g ue ce
  have hdist : segDistance g (s.readSegment g ue ce).sdec.expected = d := by rw [hsdec]; rfl
  have hqueue : (s.readSegment g ue ce).sdec.queue = g :: gs := by rw [hsdec, hq]
  have hcount : (s.readSegment g ue ce).nat O.segOkCount = s.nat O.segOkCount := s.readSegment_nat g ue ce (by decide +kernel)
  have hdiscard : ∀ code bad, segDiscarded s ((s.readSegment g ue ce).discardSegment g code bad) g gs code := fun code bad =>
    discardSegment_discarded code bad hq hseg hsdec hfigs
  refine ⟨fun hok => gives_segment hdie hq hseg hstall hup ?_, fun hok hstart => gives_segment hdie hq hseg hstall hup ?_,
    fun hok hstart => ⟨fun hid => ?_, fun hid hd => ?_, fun hid hd1 hd2 => ?_, fun hid hd => ?_⟩, fun u hu => ?_⟩
  · rw [trackSegment_bad hok]
    refine ⟨hdiscard _ _, ?_⟩
    have hbad := counts_discardSegment (s.readSegment g ue ce) g 0x0401 true
    unfold counts at hbad ⊢
    rw [hbad, s.readSegment_nat g ue ce (by decide +kernel)]
  · rw [trackSegment_start hok hstart]
    obtain ⟨hnone, hkeep, hnat⟩ := (s.readSegment g ue ce).restart_fields
    obtain ⟨hf, hc, -⟩ := acceptSegment_keeps (s.readSegment g ue ce).retireAll.settleRelief g ue
    exact ⟨acceptSegment_accepted ue (by rw [hkeep, hqueue]) (hnat.trans hcount), hf.trans hnone, by rw [hc, hkeep, hsdec]⟩
  · refine gives_segment hdie hq hseg hstall hup ?_
    rw [trackSegment_foreign hok hstart (by rwa [hsdec])]
    exact hdiscard _ _
  · refine gives_segment hdie hq hseg hstall hup ?_
    rw [trackSegment_next hok hstart (by rwa [hsdec]) (hdist.trans hd)]
    obtain ⟨hf, hc, -⟩ := acceptSegment_keeps (s.readSegment g ue ce) g ue
    exact ⟨acceptSegment_accepted ue hqueue hcount, hf.trans hfigs, by rw [hc, hsdec]⟩
  · refine gives_segment hdie hq hseg hstall hup ?_
    rw [trackSegment_gap hok hstart (by rwa [hsdec]) hdist hd1 hd2]
    obtain ⟨hacc, hf, hc, hloss⟩ := gap_accepted ue d hq hsdec hcount (s.readSegment_nat g ue ce (by decide +kernel))
    exact ⟨hacc, hf.trans hfigs, hc, hloss⟩
  · refine gives_segment hdie hq hseg hstall hup ?_
    rw [trackSegment_late hok hstart (by rwa [hsdec]) hdist hd]
    exact popSegment_discarded false hq hseg (by simp [hsdec]) (by simp [hfigs])
  · exact gives_segment hdie hq hseg hstall hup (logged_congr rfl (State.trackSegment_log _ g ue) (logged_readSegment s g ce hu))

end Sys2Proof.Machine
end

section
/-! Tile updates at their commit: discarded, dropped, or the tile's new version (R113, R114, R119, R121, R125, R126, R129). -/

namespace Sys2Proof.Machine

/-! ## Tile entries and directories -/

theorem Dir.entry_place (d : Dir) (tx ty : Nat) : (d.entry tx ty).tx = tx ∧ (d.entry tx ty).ty = ty := by
  unfold Dir.entry
  cases h : d.tiles.find? fun t => t.tx == tx && t.ty == ty with
  | none => exact ⟨rfl, rfl⟩
  | some t => simpa using List.find?_some h

/-- A tile's entry put in place changes the tiles of its directory alone. -/
theorem Dir.setEntry_fields (d : Dir) (t : TileEntry) :
    (d.setEntry t).id = d.id ∧ (d.setEntry t).allocOrd = d.allocOrd ∧ (d.setEntry t).endOrd = d.endOrd := by
  unfold Dir.setEntry
  split <;> exact ⟨rfl, rfl, rfl⟩

/-- The entry put in place is the one its tile then has. -/
theorem Dir.setEntry_entry (d : Dir) (t : TileEntry) : (d.setEntry t).entry t.tx t.ty = t := by
  unfold Dir.setEntry Dir.entry
  split
  · next hany =>
    obtain ⟨x, hx⟩ := Option.isSome_iff_exists.mp (List.find?_isSome.mpr (List.any_eq_true.mp hany))
    have hplace : x.tx = t.tx ∧ x.ty = t.ty := by simpa using List.find?_some hx
    have hkeeps : ((fun x : TileEntry => x.tx == t.tx && x.ty == t.ty) ∘ fun x => if x.tx = t.tx ∧ x.ty = t.ty then t else x) =
        fun x => x.tx == t.tx && x.ty == t.ty := by
      funext y
      by_cases hy : y.tx = t.tx ∧ y.ty = t.ty <;> simp [hy]
    simp only [List.find?_map, hkeeps, hx, Option.map_some, Option.getD_some, if_pos hplace]
  · next hnone =>
    have hfind : (d.tiles.find? fun x => x.tx == t.tx && x.ty == t.ty) = none := by simpa using hnone
    simp [List.find?_append, hfind]

theorem State.dropSlots_nat (s : State) (dead : List Nat) (q : Obj) : (s.dropSlots dead).nat q = s.nat q := rfl

theorem State.dir?_congr {s t : State} (h : t.rrec.dirs = s.rrec.dirs) (i : Nat) : t.dir? i = s.dir? i := by
  unfold State.dir?; rw [h]

theorem State.dir?_id {s : State} {i : Nat} {d : Dir} (h : s.dir? i = some d) : d.id = i := by
  simpa using List.find?_some h

/-- A change of a directory that keeps its number is what its number then leads to. -/
theorem State.modDir_dir? {s : State} {i : Nat} {d : Dir} {f : Dir → Dir} (hd : s.dir? i = some d) (hf : ∀ x, (f x).id = x.id) :
    (s.modDir d.id f).dir? i = some (f d) := by
  rw [State.dir?_id hd]
  have hkeeps : ((fun x : Dir => x.id == i) ∘ fun x => if x.id = i then f x else x) = fun x => x.id == i := by
    funext x
    by_cases hx : x.id = i <;> simp [hx, hf]
  have hid := State.dir?_id hd
  unfold State.dir? at hd ⊢
  simp only [State.modDir, List.find?_map, hkeeps, hd, Option.map_some, if_pos hid]

/-! ## The frames that may keep an old version -/

/-- The marker ordinals and the numbers of the frames in the render pipeline: what R121 asks of them. -/
def State.readers (s : State) : List (Nat × Nat) := s.pipeline.map fun f => (f.ordinal, f.number)

theorem State.readers_congr {s t : State} (h : t.adm = s.adm) : t.readers = s.readers := by
  unfold State.readers State.pipeline; rw [h]

theorem State.readers_uncover (s : State) : s.uncover.readers = s.readers := by
  unfold State.readers State.pipeline State.uncover
  cases s.adm.pending <;> cases s.adm.rendering <;> simp

theorem State.readers_suspend (s : State) (bit : Nat) : (s.suspend bit).readers = s.readers := by
  unfold State.suspend
  split
  · rfl
  · exact (State.readers_uncover _).trans (State.readers_congr (by simp))

theorem State.readers_refreshFaults (s : State) : s.refreshFaults.readers = s.readers := by
  have hput : ∀ (t : State) o (v : Int), (t.put o v).readers = t.readers := fun t o v => State.readers_congr (by simp)
  have hputB : ∀ (t : State) o b, (t.putB o b).readers = t.readers := fun t o b => State.readers_congr (by simp)
  have hresume : ∀ (t : State) b, (t.resume b).readers = t.readers := fun t b => State.readers_congr (by simp)
  unfold State.refreshFaults
  dsimp only
  split
  · rw [hputB, State.readers_suspend, hput, hput, hput]
  · rw [hputB, hresume, hput, hput, hput]

theorem State.readers_raise (s : State) (fam cls item code : Nat) (param : List Nat) : (s.raise fam cls item code param).readers = s.readers := by
  unfold State.raise
  rw [State.readers_refreshFaults]
  exact State.readers_congr (by simp)

/-- Which frame keeps a version rests on those numbers and on the span of the directory's life alone. -/
theorem State.keeper_congr {s t : State} {d e : Dir} (h : t.readers = s.readers) (halloc : e.allocOrd = d.allocOrd) (hend : e.endOrd = d.endOrd) (c o : Nat) :
    t.keeper e c o = s.keeper d c o := by
  have hnumbers : ∀ u : State, (u.pipeline.filter fun f => readsDir d f.ordinal && c < f.ordinal && f.ordinal < o).map (·.number) =
      (u.readers.filter fun x => readsDir d x.1 && c < x.1 && x.1 < o).map (·.2) := fun u => by
    simp [State.readers, List.filter_map, Function.comp_def]
  have hreads : readsDir e = readsDir d := by funext m; unfold readsDir; rw [halloc, hend]
  unfold State.keeper
  dsimp only
  rw [hreads, hnumbers, hnumbers, h]

/-! ## The counters of tile updates -/

/-- The counters of what becomes of a tile update (R125, R129). -/
def reliefCounters : List Obj :=
  [O.entropyErrorCount, O.staleTileCount, O.cacheFullCount, O.lateCommitDroppedCount, O.tilesCommittedCount, O.poisonedTileCount]

/-- The mask of all objects that a commit changes through the shared operations: codes of the stream, uncorrectable sectors, faults, the relief cache's upkeep. -/
def commitMask : Nat := 243388915550736972985762111880704

theorem touched_of_submask {a b k : Nat} (h : b ||| a = b) (hb : touched b k = false) : touched a k = false := by
  rw [touched, List.any_eq_false] at hb ⊢
  intro i hi ha
  rw [Bool.and_eq_true] at ha
  exact hb i hi (by rw [bit_of h ha.1, ha.2]; rfl)

set_option maxRecDepth 20000 in
/-- The reduction goes through the 247 entries of the table of objects, hence its depth. -/
theorem commitMask_untouched : ∀ o ∈ reliefCounters, touched commitMask o.key = false := by decide

/-- None of those operations changes such a counter. -/
theorem reliefCounter_untouched {o : Obj} (ho : o ∈ reliefCounters) {m : Nat} (hm : commitMask ||| m = commitMask) : touched m o.key = false :=
  touched_of_submask hm (commitMask_untouched o ho)

/-! ## Discards and drops -/

/-- An update leaves the pipeline with a code that is recorded and counted, and the relief stays (R114, R125). -/
def tileDiscarded (s t : State) (u : TileUpd) (code : Nat) (o : Obj) : Prop :=
  t.rrec.upds = (s.rrec.upds.filter fun x => x.ordinal != u.ordinal) ∧ t.sdec.codes = s.sdec.codes ++ [⟨u.key, code⟩] ∧ counts s t o 1 ∧
  t.rrec.dirs = s.rrec.dirs

/-- What every commit ends with: the relief cache's objects, residency and the gating of the stream's islands. -/
def State.afterCommit (s : State) : State := s.settleRelief.regateStream

@[simp] theorem State.afterCommit_fields (s : State) : s.afterCommit.rrec = s.rrec ∧ s.afterCommit.sdec = s.sdec ∧ s.afterCommit.log = s.log := by
  have hrrec : s.afterCommit.rrec = s.settleRelief.rrec := (s.settleRelief.regateStream_frame.1 .rrec rfl).symm
  have hlog : s.settleRelief.log = s.log := (s.settleRelief_frame.1 .log rfl).symm
  exact ⟨by simp [hrrec], by simp [State.afterCommit, State.regateStream_sdec], by simp [State.afterCommit, hlog]⟩

theorem State.afterCommit_nat (s : State) {o : Obj} (ho : o ∈ reliefCounters) : s.afterCommit.nat o = s.nat o :=
  (State.regateStream_nat _ o).trans (s.settleRelief_nat (reliefCounter_untouched ho rfl))

theorem counts_congr {s t s' t' : State} {o : Obj} {n : Nat} (hs : s'.nat o = s.nat o) (ht : t'.nat o = t.nat o) (h : counts s t o n) : counts s' t' o n := by
  unfold counts; rw [hs, ht]; exact h

theorem State.discardUpd_discarded {s : State} {u : TileUpd} {code : Nat} {o : Obj} (ho : o ∈ reliefCounters)
    (hstep : s.discardUpd u code = ((s.endUpd u.ordinal).sdecCode u.key code).bump o) (hw : o.ty.width = some 4) (hsign : o.ty.isSigned = false) :
    tileDiscarded s (s.discardUpd u code).afterCommit u code o := by
  rw [hstep]
  refine ⟨by simp [State.endUpd], by simp [State.endUpd], ?_, by simp [State.endUpd]⟩
  exact counts_congr (State.sdecCode_nat (s.endUpd u.ordinal) _ _ (reliefCounter_untouched ho rfl)).symm
    (State.afterCommit_nat _ ho) (counts_bump _ o hw hsign)

/-! ## A new version -/

/-- A tile's entry with a new version; where a frame keeps the old one, it moves into a record (R121). -/
def TileEntry.withVersion (t : TileEntry) (v : Version) (keep : Option (Nat × Nat)) : TileEntry :=
  match keep with
  | some (i, f) => { t with cur := v, older := { index := i, ver := t.cur, release := f } :: t.older }
  | none => { t with cur := v }

theorem TileEntry.withVersion_fields (t : TileEntry) (v : Version) (keep : Option (Nat × Nat)) :
    (t.withVersion v keep).tx = t.tx ∧ (t.withVersion v keep).ty = t.ty ∧ (t.withVersion v keep).cur = v := by
  cases keep <;> exact ⟨rfl, rfl, rfl⟩

/-- The new version in the directory; an old one that no frame keeps gives up its slot (R121). -/
def State.putVersion (s : State) (d : Dir) (t : TileEntry) (v : Version) (keep : Option (Nat × Nat)) : State :=
  let u := s.modDir d.id fun d => d.setEntry (t.withVersion v keep)
  if keep.isNone && (t.cur.slot.isSome || t.cur.fill.isSome || t.cur.poisoned || t.cur.ordinal != 0) then u.dropSlots t.cur.slot.toList else u

section
variable (s : State) (d : Dir) (t : TileEntry) (v : Version) (keep : Option (Nat × Nat))

theorem State.putVersion_fields :
    (s.putVersion d t v keep).rrec.upds = s.rrec.upds ∧
    (s.putVersion d t v keep).rrec.dirs = (s.modDir d.id fun d => d.setEntry (t.withVersion v keep)).rrec.dirs ∧
    (s.putVersion d t v keep).log = s.log ∧ ∀ q, (s.putVersion d t v keep).nat q = s.nat q := by
  unfold State.putVersion
  dsimp only
  split <;> exact ⟨rfl, rfl, rfl, fun _ => rfl⟩

theorem State.commitVersion_eq : s.commitVersion d t v keep =
    (((s.putVersion d t v keep).settleIf 4 fun f => f.cls == d.id * 1048576 + t.tx * 1024 + t.ty).bump O.tilesCommittedCount).memRequest := by
  cases keep <;> rfl

theorem State.commitVersion_rrec :
    (s.commitVersion d t v keep).rrec.upds = s.rrec.upds ∧
    (s.commitVersion d t v keep).rrec.dirs = (s.modDir d.id fun d => d.setEntry (t.withVersion v keep)).rrec.dirs := by
  obtain ⟨hupds, hdirs, -, -⟩ := s.putVersion_fields d t v keep
  rw [State.commitVersion_eq]
  exact ⟨by simp [hupds], by simp [hdirs]⟩

theorem State.commitVersion_nat {o : Obj} (ho : o ∈ reliefCounters) (hne : o.key ≠ O.tilesCommittedCount.key) :
    (s.commitVersion d t v keep).nat o = s.nat o := by
  obtain ⟨-, -, -, hnat⟩ := s.putVersion_fields d t v keep
  have hmem : ∀ u : State, u.memRequest.nat o = u.nat o := fun u => by simp
  rw [State.commitVersion_eq, hmem, State.nat_bump_ne hne, (State.settleIf_vals _ _ _ (reliefCounter_untouched ho rfl)).2.2.1, hnat]

/-- A commit is counted. -/
theorem State.commitVersion_counts : counts s (s.commitVersion d t v keep) O.tilesCommittedCount 1 := by
  obtain ⟨-, -, -, hnat⟩ := s.putVersion_fields d t v keep
  have hsettle : ∀ p, ((s.putVersion d t v keep).settleIf 4 p).nat O.tilesCommittedCount = s.nat O.tilesCommittedCount := fun p =>
    (State.settleIf_vals _ 4 p (reliefCounter_untouched (by simp [reliefCounters]) rfl)).2.2.1.trans (hnat _)
  have hmem : ∀ u : State, u.memRequest.nat O.tilesCommittedCount = u.nat O.tilesCommittedCount := fun u => by simp
  rw [State.commitVersion_eq]
  generalize (fun f : FaultRec => f.cls == _) = p
  exact counts_congr (hsettle p).symm (hmem _) (counts_bump ((s.putVersion d t v keep).settleIf 4 p) O.tilesCommittedCount (w := 8) rfl rfl)

theorem logGrows_settleIf (fam : Nat) (p : FaultRec → Bool) : logGrows s (s.settleIf fam p) := by
  unfold State.settleIf
  split
  · refine (logGrows_of_eq ?_).trans (logGrows_refreshFaults _)
    rfl
  · exact logGrows_of_eq rfl

theorem logGrows_commitVersion : logGrows s (s.commitVersion d t v keep) := by
  obtain ⟨-, -, hlog, -⟩ := s.putVersion_fields d t v keep
  rw [State.commitVersion_eq]
  generalize (fun f : FaultRec => f.cls == _) = p
  exact ((logGrows_of_eq hlog).trans (logGrows_settleIf (s.putVersion d t v keep) 4 p)).trans (logGrows_of_eq (by simp))

end

/-- An update leaves the pipeline, is counted as committed, and its tile has this entry (R119, R121). -/
def tileCommitted (s t : State) (u : TileUpd) (entry : TileEntry) : Prop :=
  t.rrec.upds = (s.rrec.upds.filter fun x => x.ordinal != u.ordinal) ∧ counts s t O.tilesCommittedCount 1 ∧
  ∃ e, t.dir? u.dir = some e ∧ e.entry u.tx u.ty = entry

theorem tileCommitted_congr {s t t' : State} {u : TileUpd} {entry : TileEntry} (hupds : t'.rrec.upds = t.rrec.upds) (hdirs : t'.rrec.dirs = t.rrec.dirs)
    (hnat : t'.nat O.tilesCommittedCount = t.nat O.tilesCommittedCount) (h : tileCommitted s t u entry) : tileCommitted s t' u entry := by
  obtain ⟨hleft, hcount, e, hdir, hentry⟩ := h
  exact ⟨hupds.trans hleft, counts_congr rfl hnat hcount, e, (State.dir?_congr hdirs _).trans hdir, hentry⟩

theorem tileCommitted_afterCommit {s t : State} {u : TileUpd} {entry : TileEntry} (h : tileCommitted s t u entry) : tileCommitted s t.afterCommit u entry :=
  tileCommitted_congr (by simp) (by simp) (t.afterCommit_nat (by simp [reliefCounters])) h

theorem commitVersion_committed {s : State} {u : TileUpd} {d : Dir} (hd : s.dir? u.dir = some d) (v : Version) (keep : Option (Nat × Nat)) :
    tileCommitted s ((s.endUpd u.ordinal).commitVersion d (d.entry u.tx u.ty) v keep) u ((d.entry u.tx u.ty).withVersion v keep) := by
  obtain ⟨hupds, hdirs⟩ := (s.endUpd u.ordinal).commitVersion_rrec d (d.entry u.tx u.ty) v keep
  obtain ⟨htx, hty⟩ := d.entry_place u.tx u.ty
  obtain ⟨hvx, hvy, -⟩ := (d.entry u.tx u.ty).withVersion_fields v keep
  refine ⟨hupds, (s.endUpd u.ordinal).commitVersion_counts d _ v keep, d.setEntry ((d.entry u.tx u.ty).withVersion v keep), ?_, ?_⟩
  · exact (State.dir?_congr hdirs _).trans (State.modDir_dir? (s := s.endUpd u.ordinal) hd fun x => (x.setEntry_fields _).1)
  · have hentry := d.setEntry_entry ((d.entry u.tx u.ty).withVersion v keep)
    rwa [hvx, hvy, htx, hty] at hentry

/-! ## What a commit does -/

/-- The version that an update gives its tile, but for its texels (R119). -/
def TileUpd.version (u : TileUpd) : Version := { lastSeq := u.seq, ordinal := u.ordinal, seqValid := true }

/-- Whether a tile at this version takes an update of a sequence number: its first one, any while it is poisoned, else a newer one (R94, R125, R129). -/
def Version.takes (v : Version) (seq : Nat) : Prop := v.seqValid = false ∨ v.poisoned = true ∨ newer32 seq v.lastSeq = true

theorem Version.takes_iff (v : Version) (seq : Nat) : v.takes seq ↔ (v.seqValid && !v.poisoned && !newer32 seq v.lastSeq) = false := by
  unfold Version.takes
  cases v.seqValid <;> cases v.poisoned <;> cases newer32 seq v.lastSeq <;> simp

/-- Texels go to a slot of the pool. -/
def State.fillSlot (s : State) (n : Nat) (ws : List Texel) : State :=
  { s with rrec := { s.rrec with slots := s.rrec.slots ++ [(n, ws)], stale := s.rrec.stale.filter (·.1 != n) } }

section
variable {s : State} {u : TileUpd}

theorem commitUpd_failed (h : u.result = .failed) : s.commitUpd u = s.discardUpd u 0x0405 := by
  unfold State.commitUpd
  rw [h]

theorem commitUpd_noDir (hf : u.result ≠ .failed) (hp : u.result ≠ .pending) (hd : s.dir? u.dir = none) :
    s.commitUpd u = (s.endUpd u.ordinal).bump O.lateCommitDroppedCount := by
  unfold State.commitUpd
  split
  · exact absurd ‹_› hp
  · exact absurd ‹_› hf
  · rw [hd]

variable {d : Dir} (hd : s.dir? u.dir = some d)
include hd

theorem commitUpd_stale (hf : u.result ≠ .failed) (hp : u.result ≠ .pending) (hold : ¬ (d.entry u.tx u.ty).cur.takes u.seq) :
    s.commitUpd u = s.discardUpd u 0x040A := by
  unfold State.commitUpd
  split
  · exact absurd ‹_› hp
  · exact absurd ‹_› hf
  · rw [hd]
    exact if_pos (by rwa [Version.takes_iff, Bool.not_eq_false] at hold)

variable (hnew : (d.entry u.tx u.ty).cur.takes u.seq)
include hnew

theorem commitUpd_full {ws : List Texel} (hr : u.result = .texels ws) (hslot : s.freeSlot = none) (hheld : s.slotsRetained = 0) :
    s.commitUpd u = s.discardUpd u 0x0501 := by
  simp [State.commitUpd, hr, hd, (Version.takes_iff _ _).mp hnew, hslot, hheld]

theorem commitUpd_texels {ws : List Texel} {n : Nat} (hr : u.result = .texels ws) (hslot : s.freeSlot = some n)
    (hkeep : s.keeper d (d.entry u.tx u.ty).cur.ordinal u.ordinal = none) :
    s.commitUpd u = ((s.endUpd u.ordinal).commitVersion d (d.entry u.tx u.ty) { u.version with slot := some n } none).fillSlot n ws := by
  simp only [State.commitUpd, hr, hd, (Version.takes_iff _ _).mp hnew, hslot, hkeep]
  rfl

variable {w : Texel} (hr : u.result = .fill w)
include hr

theorem commitUpd_fill (hkeep : s.keeper d (d.entry u.tx u.ty).cur.ordinal u.ordinal = none) :
    s.commitUpd u = (s.endUpd u.ordinal).commitVersion d (d.entry u.tx u.ty) { u.version with fill := some w } none := by
  simp only [State.commitUpd, hr, hd, (Version.takes_iff _ _).mp hnew, hkeep]
  rfl

theorem commitUpd_fill_kept {f i : Nat} (hkeep : s.keeper d (d.entry u.tx u.ty).cur.ordinal u.ordinal = some f) (hfree : s.freeRecord = some i) :
    s.commitUpd u = (s.endUpd u.ordinal).commitVersion d (d.entry u.tx u.ty) { u.version with fill := some w } (some (i, f)) := by
  simp only [State.commitUpd, hr, hd, (Version.takes_iff _ _).mp hnew, hkeep, hfree]
  rfl

end

/-! ## An unreadable directory entry -/

/-- What is logged stays logged while the log goes on. -/
theorem logged_then_grows {s u t : State} {x : Nat × List Nat} (h : logged s u x) (hg : logGrows u t) : logged s t x := by
  intro hlen
  obtain ⟨fs, hfs⟩ := hg
  obtain ⟨es, hes, hx⟩ := h (by rw [hfs, List.length_append] at hlen; omega)
  exact ⟨es ++ fs, by rw [hfs, hes, List.append_assoc], by rw [List.map_append]; exact List.mem_append_left _ hx⟩

/-- The entry of a tile that is lost: no slot, every other field zero, and poisoned (R129). -/
def TileEntry.lost (t : TileEntry) : TileEntry := { t with cur := { poisoned := true } }

section
variable (s : State) (d : Dir) (tx ty : Nat)

/-- The count and the fault of a poisoned tile; what is left of its report is the warning. -/
def State.raisePoison : State :=
  ((s.bump O.poisonedTileCount).put O.rrecLastStatus 0x0503).raise 4 (d.id * 1048576 + tx * 1024 + ty) 0 0x0503 [d.figId, d.layer, tx, ty]

theorem State.raisePoison_fields : (s.raisePoison d tx ty).rrec = s.rrec ∧ (s.raisePoison d tx ty).readers = s.readers := by
  unfold State.raisePoison
  refine ⟨by simp, ?_⟩
  rw [State.readers_raise]
  exact State.readers_congr (by simp)

theorem State.raisePoison_counts : counts s (s.raisePoison d tx ty) O.poisonedTileCount 1 := by
  have hput : ((s.bump O.poisonedTileCount).put O.rrecLastStatus 0x0503).nat O.poisonedTileCount = (s.bump O.poisonedTileCount).nat O.poisonedTileCount :=
    State.nat_put_ne (by decide)
  exact counts_congr rfl ((State.raise_vals _ _ _ _ _ _ (reliefCounter_untouched (by simp [reliefCounters]) rfl)).2.2.1.trans hput) (counts_bump s O.poisonedTileCount (w := 4) rfl rfl)

theorem State.raisePoison_logged : logged s (s.raisePoison d tx ty) (0x0503, [d.figId, d.layer, tx, ty]) := by
  unfold State.raisePoison
  exact logged_raise s _ _ _ _ _ _ (by simp)

theorem State.notePoison_fields : (s.notePoison d tx ty).rrec = (s.raisePoison d tx ty).rrec ∧ (s.notePoison d tx ty).adm = (s.raisePoison d tx ty).adm ∧
    (s.notePoison d tx ty).log = (s.raisePoison d tx ty).log ∧ ∀ q, (s.notePoison d tx ty).nat q = (s.raisePoison d tx ty).nat q := by
  unfold State.notePoison State.raisePoison
  dsimp only
  generalize State.raise _ _ _ _ _ _ = r
  exact ⟨rfl, rfl, rfl, fun _ => rfl⟩

variable (cls : MemClass)

/-- The state in which the loss of the entry is reported. -/
def State.dropEntry : State :=
  ((s.eccUncorrectable (entryAddr d tx ty) cls).modDir d.id fun d' => d'.setEntry (d.entry tx ty).lost).dropSlots (d.entry tx ty).cur.slot.toList

theorem State.entryLost_eq : s.entryLost d tx ty cls = (s.dropEntry d tx ty cls).notePoison d tx ty := rfl

theorem State.dropEntry_fields : (s.dropEntry d tx ty cls).adm = s.adm ∧ (s.dropEntry d tx ty cls).log = (s.eccUncorrectable (entryAddr d tx ty) cls).log ∧
    (s.dropEntry d tx ty cls).rrec.upds = s.rrec.upds ∧
    (s.dropEntry d tx ty cls).rrec.dirs = (s.modDir d.id fun d' => d'.setEntry (d.entry tx ty).lost).rrec.dirs := by
  simp [State.dropEntry, State.dropSlots, State.modDir]

theorem State.dropEntry_nat (q : Obj) : (s.dropEntry d tx ty cls).nat q = (s.eccUncorrectable (entryAddr d tx ty) cls).nat q := by
  unfold State.dropEntry
  rw [State.dropSlots_nat]
  exact (State.modDir_vals _ _ _ q).2.2.1

theorem State.entryLost_rrec : (s.entryLost d tx ty cls).rrec.upds = s.rrec.upds ∧
    (s.entryLost d tx ty cls).rrec.dirs = (s.modDir d.id fun d' => d'.setEntry (d.entry tx ty).lost).rrec.dirs := by
  obtain ⟨-, -, hupds, hdirs⟩ := s.dropEntry_fields d tx ty cls
  rw [State.entryLost_eq, (State.notePoison_fields _ _ _ _).1, (State.raisePoison_fields _ _ _ _).1]
  exact ⟨hupds, hdirs⟩

theorem State.entryLost_readers : (s.entryLost d tx ty cls).readers = s.readers := by
  obtain ⟨-, hadm, -, -⟩ := (s.dropEntry d tx ty cls).notePoison_fields d tx ty
  rw [State.entryLost_eq, State.readers_congr hadm, (State.raisePoison_fields _ _ _ _).2]
  exact State.readers_congr (s.dropEntry_fields d tx ty cls).1

theorem State.entryLost_counts : counts s (s.entryLost d tx ty cls) O.poisonedTileCount 1 := by
  obtain ⟨-, -, -, hnat⟩ := (s.dropEntry d tx ty cls).notePoison_fields d tx ty
  have hdrop : (s.dropEntry d tx ty cls).nat O.poisonedTileCount = s.nat O.poisonedTileCount :=
    (s.dropEntry_nat d tx ty cls _).trans (State.eccUncorrectable_vals s (entryAddr d tx ty) cls false (reliefCounter_untouched (by simp [reliefCounters]) rfl)).2.2.1
  exact counts_congr hdrop.symm (hnat _) ((s.dropEntry d tx ty cls).raisePoison_counts d tx ty)

theorem State.entryLost_logged : logged s (s.entryLost d tx ty cls) (0x0503, [d.figId, d.layer, tx, ty]) := by
  obtain ⟨-, hlog, -, -⟩ := s.dropEntry_fields d tx ty cls
  obtain ⟨-, -, hnote, -⟩ := (s.dropEntry d tx ty cls).notePoison_fields d tx ty
  refine logged_of_grows ((logGrows_eccUncorrectable s (entryAddr d tx ty) cls).trans (logGrows_of_eq hlog)) ?_
  exact logged_congr rfl hnote ((s.dropEntry d tx ty cls).raisePoison_logged d tx ty)

end

/-- A FILL of a tile whose entry is lost commits: the poisoned tile accepts it, and no frame keeps the empty version (R121, R129). -/
theorem commitUpd_lost {s : State} {u : TileUpd} {d : Dir} {w : Texel} (hd : s.dir? u.dir = some d) (hr : u.result = .fill w)
    (hkeep : s.keeper d 0 u.ordinal = none) :
    ∃ e, (s.entryLost d u.tx u.ty .relief).dir? u.dir = some e ∧ (s.entryLost d u.tx u.ty .relief).commitUpd u =
      ((s.entryLost d u.tx u.ty .relief).endUpd u.ordinal).commitVersion e (e.entry u.tx u.ty) { u.version with fill := some w } none := by
  obtain ⟨-, hdirs⟩ := s.entryLost_rrec d u.tx u.ty .relief
  obtain ⟨htx, hty⟩ := d.entry_place u.tx u.ty
  obtain ⟨-, halloc, hend⟩ := d.setEntry_fields (d.entry u.tx u.ty).lost
  have hdir : (s.entryLost d u.tx u.ty .relief).dir? u.dir = some (d.setEntry (d.entry u.tx u.ty).lost) :=
    (State.dir?_congr hdirs _).trans (State.modDir_dir? hd fun x => (x.setEntry_fields _).1)
  have hentry : (d.setEntry (d.entry u.tx u.ty).lost).entry u.tx u.ty = (d.entry u.tx u.ty).lost := by
    have hset := d.setEntry_entry (d.entry u.tx u.ty).lost
    rwa [show (d.entry u.tx u.ty).lost.tx = u.tx from htx, show (d.entry u.tx u.ty).lost.ty = u.ty from hty] at hset
  refine ⟨_, hdir, commitUpd_fill hdir ?_ hr ?_⟩
  · rw [hentry]
    exact .inr (.inl rfl)
  · rw [hentry, State.keeper_congr (s.entryLost_readers d u.tx u.ty .relief) halloc hend]
    exact hkeep

/-- The report of a poisoned tile stands behind the commit of an update (R129). -/
theorem poison_afterCommit {s v : State} {x : Nat × List Nat} (hcount : counts s v O.poisonedTileCount 1) (hlog : logged s v x)
    (ord : Nat) (d : Dir) (t : TileEntry) (ver : Version) (keep : Option (Nat × Nat)) :
    counts s ((v.endUpd ord).commitVersion d t ver keep).afterCommit O.poisonedTileCount 1 ∧
    logged s ((v.endUpd ord).commitVersion d t ver keep).afterCommit x := by
  have hnat : ((v.endUpd ord).commitVersion d t ver keep).nat O.poisonedTileCount = v.nat O.poisonedTileCount :=
    (v.endUpd ord).commitVersion_nat d t ver keep (by simp [reliefCounters]) (by decide)
  have hgrows : logGrows v ((v.endUpd ord).commitVersion d t ver keep) := logGrows_commitVersion (v.endUpd ord) d t ver keep
  exact ⟨counts_congr rfl ((State.afterCommit_nat _ (by simp [reliefCounters])).trans hnat) hcount,
    logged_then_grows hlog (hgrows.trans (logGrows_of_eq (State.afterCommit_fields _).2.2))⟩

/-! ## TILE_COMMIT -/

/-- The read of the tile's directory entry, with or without an uncorrectable error (R129). -/
def State.readEntry (s : State) (u : TileUpd) (ue : Bool) : State :=
  match s.dir? u.dir with
  | some d => if ue then s.entryLost d u.tx u.ty .relief else s
  | none => s

theorem State.readEntry_noDir {s : State} {u : TileUpd} (h : s.dir? u.dir = none) (ue : Bool) : s.readEntry u ue = s := by
  simp [State.readEntry, h]

theorem State.readEntry_good (s : State) (u : TileUpd) : s.readEntry u false = s := by
  unfold State.readEntry
  split <;> rfl

theorem State.readEntry_lost {s : State} {u : TileUpd} {d : Dir} (h : s.dir? u.dir = some d) : s.readEntry u true = s.entryLost d u.tx u.ty .relief := by
  simp [State.readEntry, h]

section
variable {s : State} {u : TileUpd} {P : State → Prop} (hdie : s.die = .running) (hfind : (s.rrec.upds.find? fun x => x.ordinal == u.ordinal) = some u)
  (hfirst : s.blocked u = false) (hp : u.result ≠ .pending)
include hdie hfind hfirst hp

/-- What holds behind the commit of an update that nothing holds back, TILE_COMMIT gives (R113). -/
theorem gives_tileCommit {ue : Bool} (hP : P ((s.readEntry u ue).commitUpd u).afterCommit) : gives (.tileCommit u.ordinal ue) s P := by
  have heq : cmdTileCommit s u.ordinal ue = ((s.readEntry u ue).commitUpd u).afterCommit := by
    unfold cmdTileCommit
    rw [hfind]
    dsimp only
    rw [if_neg (by simp [hfirst, hp])]
    cases hd : s.dir? u.dir with
    | none => rw [State.readEntry_noDir hd, State.afterCommit]
    | some d =>
      cases ue with
      | false => rw [State.readEntry_good, State.afterCommit]; rfl
      | true => rw [State.readEntry_lost hd, State.afterCommit]; rfl
  exact gives_of_live (f := fun s => cmdTileCommit s u.ordinal ue) hdie rfl (heq ▸ hP)

theorem gives_tileCommit_good (hP : P (s.commitUpd u).afterCommit) : gives (.tileCommit u.ordinal false) s P :=
  gives_tileCommit hdie hfind hfirst hp (by rwa [State.readEntry_good])

end

/-- Settles O21: the outcomes of `commitUpd` in the order of its checks, and the commit behind a lost entry. -/
theorem tileCommit : Obligations.TileCommit := by
  intro s u hdie hfind hfirst left
  refine ⟨fun hf => ?_, fun ue hf hp hd => ?_, fun hf hp d hd => ⟨fun hvalid hclean hold => ?_, fun hnew => ⟨fun ws hr hslot hheld => ?_,
    fun hkeep => ⟨fun w hr => ?_, fun ws n hr hslot => ?_⟩, fun f i w hkeep hfree hr => ?_⟩, fun w hr hkeep => ?_⟩⟩
  · refine gives_tileCommit_good hdie hfind hfirst (by simp [hf]) ?_
    rw [commitUpd_failed hf]
    exact State.discardUpd_discarded (o := O.entropyErrorCount) (by simp [reliefCounters]) rfl rfl rfl
  · refine gives_tileCommit hdie hfind hfirst hp ?_
    rw [State.readEntry_noDir hd, commitUpd_noDir hf hp hd]
    refine ⟨by simp [left, State.endUpd], ?_, by simp [State.endUpd]⟩
    exact counts_congr rfl (State.afterCommit_nat _ (by simp [reliefCounters])) (counts_bump (s.endUpd u.ordinal) O.lateCommitDroppedCount (w := 4) rfl rfl)
  · refine gives_tileCommit_good hdie hfind hfirst hp ?_
    rw [commitUpd_stale hd hf hp (by simp [Version.takes, hvalid, hclean, hold])]
    exact State.discardUpd_discarded (o := O.staleTileCount) (by simp [reliefCounters]) rfl rfl rfl
  · refine gives_tileCommit_good hdie hfind hfirst hp ?_
    rw [commitUpd_full hd hnew hr hslot hheld]
    exact State.discardUpd_discarded (o := O.cacheFullCount) (by simp [reliefCounters]) rfl rfl rfl
  · refine gives_tileCommit_good hdie hfind hfirst hp ?_
    rw [commitUpd_fill hd hnew hr hkeep]
    obtain ⟨hleft, hcount, e, hdir, hentry⟩ := tileCommitted_afterCommit (commitVersion_committed hd { u.version with fill := some w } none)
    exact ⟨hleft, hcount, e, hdir, by rw [hentry]; rfl⟩
  · refine gives_tileCommit_good hdie hfind hfirst hp ?_
    rw [commitUpd_texels hd hnew hr hslot hkeep]
    obtain ⟨hleft, hcount, e, hdir, hentry⟩ := tileCommitted_afterCommit (tileCommitted_congr
      (t' := ((s.endUpd u.ordinal).commitVersion d (d.entry u.tx u.ty) { u.version with slot := some n } none).fillSlot n ws) rfl rfl rfl
      (commitVersion_committed hd { u.version with slot := some n } none))
    exact ⟨hleft, hcount, by simp [State.fillSlot], e, hdir, by rw [hentry]; rfl⟩
  · refine gives_tileCommit_good hdie hfind hfirst hp ?_
    rw [commitUpd_fill_kept hd hnew hr hkeep hfree]
    obtain ⟨hleft, -, e, hdir, hentry⟩ := tileCommitted_afterCommit (commitVersion_committed hd { u.version with fill := some w } (some (i, f)))
    exact ⟨hleft, e, hdir, by rw [hentry]; rfl, by rw [hentry]; rfl⟩
  · refine gives_tileCommit hdie hfind hfirst hp ?_
    obtain ⟨e, he, heq⟩ := commitUpd_lost hd hr hkeep
    rw [State.readEntry_lost hd, heq]
    obtain ⟨hleft, -, e', hdir, hentry⟩ := tileCommitted_afterCommit (commitVersion_committed he { u.version with fill := some w } none)
    obtain ⟨hcount, hlog⟩ := poison_afterCommit (s.entryLost_counts d u.tx u.ty .relief) (s.entryLost_logged d u.tx u.ty .relief)
      u.ordinal e (e.entry u.tx u.ty) { u.version with fill := some w } none
    rw [(s.entryLost_rrec d u.tx u.ty .relief).1] at hleft
    exact ⟨hleft, hcount, hlog, e', hdir, by rw [hentry]; rfl⟩

end Sys2Proof.Machine
end

section
/-! The clusters of the ray engine: dispatch and staging of units (R167, R168, R169, R183). -/

namespace Sys2Proof.Machine

/-! ## The list of clusters -/

theorem getD_modify_same {α : Type} (g : α → α) {l : List α} {i : Nat} (h : i < l.length) (d : α) : (l.modify i g).getD i d = g (l.getD i d) := by
  simp [List.getD_eq_getElem?_getD, h]

theorem getD_modify_ne {α : Type} (g : α → α) (l : List α) {i k : Nat} (h : k ≠ i) (d : α) : (l.modify i g).getD k d = l.getD k d := by
  simp [List.getD_eq_getElem?_getD, Ne.symm h]

theorem head?_of_least {l : List Nat} {c : Nat} (hsort : l.Pairwise (· ≤ ·)) (hmem : c ∈ l) (hleast : ∀ k ∈ l, c ≤ k) : l.head? = some c := by
  cases l with
  | nil => simp at hmem
  | cons a l =>
    have hac : a ≤ c := by
      rcases List.mem_cons.mp hmem with rfl | h
      · exact Nat.le_refl _
      · exact List.rel_of_pairwise_cons hsort h
    rw [List.head?_cons, Nat.le_antisymm hac (hleast a List.mem_cons_self)]

theorem Cluster.advance_ready {x : Cluster} {n : Staged} (hcur : x.cur = none) (hnext : x.next = some n) (hr : n.ready = true) :
    x.advance = { x with cur := some n, next := none } := by
  simp [Cluster.advance, hcur, hnext, hr]

theorem Cluster.advance_busy {x : Cluster} (hcur : x.cur ≠ none) : x.advance = x := by
  obtain ⟨st, hst⟩ := Option.ne_none_iff_exists'.mp hcur
  simp [Cluster.advance, hst]

theorem Cluster.advance_unstaged {x : Cluster} (hnext : ∀ n, x.next = some n → n.ready = false) : x.advance = x := by
  unfold Cluster.advance
  split
  · next st _ hst => simp [hnext st hst]
  · rfl

theorem Cluster.advance_results (x : Cluster) : x.advance.results = x.results := by
  unfold Cluster.advance
  split
  · split <;> rfl
  · rfl

/-- A cluster with a unit staged in its next slot (R168). -/
def Cluster.stage (x : Cluster) (n : Staged) : Cluster := { x with next := some n }

/-- A cluster whose current unit is written: its results stand first in the result buffer (R159, R170). -/
def Cluster.finish (x : Cluster) (r : Nat × List Nat) : Cluster := { x with cur := none, results := r :: x.results.take 1 }

/-- Where the cluster has no current unit, the staged one becomes it; else it waits in the next slot (R168, R169). -/
theorem Cluster.stage_advance (x : Cluster) {n : Staged} (hr : n.ready = true) :
    (x.cur = none → (x.stage n).advance.cur = some n ∧ (x.stage n).advance.next = none) ∧
    (x.cur ≠ none → (x.stage n).advance.cur = x.cur ∧ (x.stage n).advance.next = some n) := by
  refine ⟨fun hcur => ?_, fun hcur => ?_⟩
  · rw [Cluster.advance_ready (x := x.stage n) hcur rfl hr]
    exact ⟨rfl, rfl⟩
  · rw [Cluster.advance_busy (x := x.stage n) hcur]
    exact ⟨rfl, rfl⟩

/-- Behind a written unit a staged next unit becomes current, and one not yet staged stays the next (R168, R169). -/
theorem Cluster.finish_advance (x : Cluster) (r : Nat × List Nat) :
    (∀ n, x.next = some n → n.ready = true → (x.finish r).advance.cur = some n ∧ (x.finish r).advance.next = none) ∧
    ((∀ n, x.next = some n → n.ready = false) → (x.finish r).advance.cur = none ∧ (x.finish r).advance.next = x.next) ∧
    (x.finish r).advance.results.head? = some r := by
  refine ⟨fun n hn hr => ?_, fun hn => ?_, ?_⟩
  · rw [Cluster.advance_ready (x := x.finish r) rfl hn hr]
    exact ⟨rfl, rfl⟩
  · rw [Cluster.advance_unstaged (x := x.finish r) hn]
    exact ⟨rfl, rfl⟩
  · rw [Cluster.advance_results]
    rfl

/-! ## UNIT_DISPATCH -/

/-- The clusters of an island that have room for a unit, lowest first: none while it is not running (R168). -/
def State.islandFree (s : State) (i : Nat) : List Nat :=
  if s.islandUp (9 + i) then (List.range 8).filterMap fun k => if (s.rse.clusters.getD (8 * i + k) {}).next.isNone then some (8 * i + k) else none else []

/-- The clusters of the enabled, running islands whose next slot is empty, lowest first (R168). -/
def State.freeClusters (s : State) (nb : Bool) : List Nat := (s.rseIslands nb).flatMap s.islandFree

theorem State.mem_islandFree {s : State} {i x : Nat} :
    x ∈ s.islandFree i ↔ x / 8 = i ∧ s.islandUp (9 + i) = true ∧ (s.rse.clusters.getD x {}).next = none := by
  unfold State.islandFree
  simp only [List.mem_ite_nil_right, List.mem_filterMap, List.mem_range, Option.ite_none_right_eq_some, Option.some.injEq, Option.isNone_iff_eq_none]
  constructor
  · rintro ⟨hup, k, hk, hfree, rfl⟩
    exact ⟨by omega, hup, hfree⟩
  · rintro ⟨rfl, hup, hfree⟩
    exact ⟨hup, x % 8, by omega, by rwa [Nat.div_add_mod], Nat.div_add_mod x 8⟩

theorem State.mem_freeClusters {s : State} {nb : Bool} {x : Nat} :
    x ∈ s.freeClusters nb ↔ x / 8 ∈ s.rseIslands nb ∧ s.islandUp (9 + x / 8) = true ∧ (s.rse.clusters.getD x {}).next = none := by
  simp only [State.freeClusters, List.mem_flatMap, State.mem_islandFree]
  constructor
  · rintro ⟨i, hi, rfl, hup, hfree⟩
    exact ⟨hi, hup, hfree⟩
  · rintro ⟨hi, hup, hfree⟩
    exact ⟨_, hi, rfl, hup, hfree⟩

theorem State.islandFree_sorted (s : State) (i : Nat) : (s.islandFree i).Pairwise (· ≤ ·) := by
  unfold State.islandFree
  split
  · refine List.pairwise_lt_range.filterMap _ fun a b hab x hx y hy => ?_
    simp only [Option.ite_none_right_eq_some, Option.some.injEq] at hx hy
    omega
  · exact List.Pairwise.nil

theorem State.freeClusters_sorted (s : State) (nb : Bool) : (s.freeClusters nb).Pairwise (· ≤ ·) := by
  have hislands : (s.rseIslands nb).Pairwise (· < ·) := List.pairwise_lt_range.filter _
  refine List.pairwise_flatMap.mpr ⟨fun i _ => s.islandFree_sorted i, hislands.imp fun hij x hx y hy => ?_⟩
  obtain ⟨rfl, -⟩ := State.mem_islandFree.mp hx
  obtain ⟨rfl, -⟩ := State.mem_islandFree.mp hy
  omega

/-- The next unit goes to the first free cluster of the frame being staged (R168). -/
theorem cmdUnitDispatch_given {s : State} {f : Frame} {c : Nat} (hf : s.stagingFrame = some f) (hrun : f.captureRun = none) (hcap : s.capturing = false)
    (hframe : s.rse.frame = some f.number) (hleft : s.rse.nextUnit < f.bin.units.length) (hfirst : (s.freeClusters f.adm.newBank).head? = some c) :
    cmdUnitDispatch s = s.modRse fun r => { r with
      nextUnit := r.nextUnit + 1, given := if r.given.contains (c / 8) then r.given else r.given ++ [c / 8],
      clusters := r.clusters.modify c fun x => { x with next := some { unit := r.nextUnit } } } := by
  unfold State.freeClusters State.islandFree at hfirst
  unfold cmdUnitDispatch
  simp only [hf]
  rw [if_neg (by simp [hrun, hcap]), if_pos hframe]
  simp only [hfirst]
  rw [if_neg (by omega)]

/-! ## UNIT_STAGING_DONE -/

/-- Errors of cluster storage zero texels and break layers, and change nothing else of a staged unit (R183). -/
theorem Staged.spoil_fields (st : Staged) (hits : List EccHit) :
    (st.spoil hits).unit = st.unit ∧ (st.spoil hits).ready = st.ready ∧ (st.spoil hits).started = st.started ∧ (st.spoil hits).consts = st.consts ∧
    (st.spoil hits).omitted = st.omitted ∧ (st.spoil hits).tiles.map (·.1) = st.tiles.map (·.1) := by
  have hkeeps : (fun x : Staged => (x.unit, x.ready, x.started, x.consts, x.omitted, x.tiles.map (·.1))) (st.spoil hits) =
      (st.unit, st.ready, st.started, st.consts, st.omitted, st.tiles.map (·.1)) := by
    refine foldl_keeps (fun x : Staged => (x.unit, x.ready, x.started, x.consts, x.omitted, x.tiles.map (·.1))) (fun x h => ?_) hits st
    cases h with
    | tileWord t w =>
      have hkeys : (x.tiles.modify t fun y => (y.1, y.2.set w 0#128)).map (·.1) = x.tiles.map (·.1) := by
        refine List.ext_getElem? fun i => ?_
        simp only [List.getElem?_map, List.getElem?_modify, Option.map_eq_map, Option.map_map]
        congr 1
        funext y
        simp only [Function.comp_apply]
        split <;> rfl
      simp only [hkeys]
    | layerConst p l => rfl
    | result i => rfl
  simpa only [Prod.mk.injEq] using hkeeps

theorem State.eccAll_rse (s : State) (cls : MemClass) (as : List Nat) : (s.eccAll cls as).rse = s.rse :=
  (State.eccAll_fr (c := 22548578304) (r := 15576596480) rfl rfl (fr_refl s) |>.1 .rse rfl).symm

theorem State.eccCorrected_rse (s : State) (as : List Nat) : (s.eccCorrected as).rse = s.rse :=
  (State.eccCorrected_fr (c := 16777216) (r := 1073741824) rfl rfl (fr_refl s) |>.1 .rse rfl).symm

theorem State.storeError_frame (s : State) (cluster unit : Nat) :
    Fr0 31139577856 28269553039745158387975172096196634618354443359975681978140757326906261504 s (s.storeError cluster unit) :=
  State.storeError_fr rfl rfl (fr_refl s)

theorem State.storeError_rse (s : State) (cluster unit : Nat) : (s.storeError cluster unit).rse = s.rse :=
  ((s.storeError_frame cluster unit).1 .rse rfl).symm

theorem State.tileError_rse (s : State) (f : Frame) (key : Nat × Nat × Nat × Nat) (e : TileUe) : (s.tileError f key e).rse = s.rse :=
  (State.tileError_fr (c := 31139586048) (r := 1766847064778384329583303346749467839439318970892085953544974798129463296) rfl rfl (fr_refl s) |>.1 .rse rfl).symm

/-- A staged unit is ready with its layer constants and tiles, its Figures lost to read errors omitted, and its cluster advances;
the reads change nothing of the ray engine (R167, R168, R172). -/
theorem cmdUnitStagingDone_staged {s : State} {f : Frame} {c : Nat} {st : Staged} {u : RUnit} (tileUe : List (Nat × TileUe)) (figUe : List (Nat × Nat))
    (ce : List Nat) (store : List EccHit) (hf : s.stagingFrame = some f) (hframe : s.rse.frame = some f.number)
    (hnext : (s.rse.clusters.getD c {}).next = some st) (hready : st.ready = false) (hunit : f.bin.units[st.unit]? = some u) :
    ∃ (p : State) (st' : Staged), p.rse = s.rse ∧ cmdUnitStagingDone s c tileUe figUe ce store =
        p.modRse (fun r => { r with clusters := r.clusters.modify c fun x => (x.stage st').advance }) ∧
      st'.unit = st.unit ∧ st'.ready = true ∧ st'.started = st.started ∧ st'.consts = unitConsts f u ∧
      st'.omitted = figUe.filterMap (fun i => u.figs[i.1]?) ∧ st'.tiles.map (·.1) = s.unitTiles f u := by
  unfold cmdUnitStagingDone
  simp only [hf, hnext, hunit]
  rw [if_neg (by simp [hready, hframe])]
  refine ⟨_, _, ?_, rfl, ?_⟩
  · rw [foldl_keeps State.rse (fun x _ => x.storeError_rse c st.unit), State.eccAll_rse, foldl_keeps State.rse (fun x i => ?_), State.eccCorrected_rse]
    · rfl
    · split
      · exact x.tileError_rse ..
      · rfl
  · obtain ⟨hu, hr, hs, hc, ho, ht⟩ := Staged.spoil_fields _ store
    refine ⟨hu, hr, hs, hc, ho, ht.trans ?_⟩
    rw [List.map_map]
    exact List.map_id' _

/-! ## UNIT_RENDER_START -/

/-- Rendering of the current unit begins in the window (R169). -/
theorem cmdUnitRenderStart_started {s : State} {f : Frame} {c : Nat} {st : Staged} (hf : s.adm.rendering = some f) (hframe : s.rse.frame = some f.number)
    (hup : s.islandUp (9 + c / 8) = true) (hcur : (s.rse.clusters.getD c {}).cur = some st) (hst : st.started = false) :
    cmdUnitRenderStart s c = s.modRse fun r => { r with clusters := r.clusters.modify c fun x => { x with cur := some { st with started := true } } } := by
  simp only [cmdUnitRenderStart, hf, hcur]
  rw [if_neg (by simp [hst, hframe, hup])]

end Sys2Proof.Machine
end

section
/-! A written unit in memory: the pieces of its lines and the CRC entries of the lines it completes (R166, R170, R204, R227, R251, R252). -/

namespace Sys2Proof.Machine

open State (memGet)

/-! ## The columns of a row's rays -/

/-- Columns in rising order, at most the three rays of a pixel in each (R166). -/
def rayColumns (l : List Nat) : Prop := l.Pairwise (· ≤ ·) ∧ ∀ x, l.count x ≤ 3

theorem rayColumns.sublist {l m : List Nat} (h : rayColumns l) (hs : m.Sublist l) : rayColumns m :=
  ⟨h.1.sublist hs, fun x => Nat.le_trans (hs.count_le x) (h.2 x)⟩

/-- Rays of `n` columns from `a` on number at most three a column. -/
theorem rayColumns.length_le {l : List Nat} (h : rayColumns l) {a n : Nat} (hin : ∀ x ∈ l, a ≤ x ∧ x < a + n) : l.length ≤ 3 * n := by
  induction n generalizing l a with
  | zero =>
    cases l with
    | nil => exact Nat.le_refl 0
    | cons x l =>
      have hx := hin x List.mem_cons_self
      omega
  | succ n ih =>
    have hrest : (l.filter fun x => x != a).length ≤ 3 * n := by
      refine ih (a := a + 1) (h.sublist List.filter_sublist) fun x hx => ?_
      obtain ⟨hmem, hne⟩ := List.mem_filter.mp hx
      have hrange := hin x hmem
      have hxa : x ≠ a := bne_iff_ne.mp hne
      omega
    have hsplit : l.length = l.count a + (l.filter fun x => x != a).length := by
      rw [← List.countP_eq_length_filter, List.length_eq_countP_add_countP (· == a)]
      refine congrArg (l.count a + ·) (List.countP_congr fun x _ => ?_)
      rw [decide_eq_true_iff, bne, Bool.not_eq_true', Bool.not_eq_true]
    have hfirst := h.2 a
    omega

theorem count_threefold_le (x0 n x : Nat) : ((List.range n).flatMap fun i => [x0 + i, x0 + i, x0 + i]).count x ≤ 3 := by
  induction n with
  | zero => simp
  | succ n ih =>
    rw [List.range_succ, List.flatMap_append, List.count_append, List.flatMap_singleton]
    by_cases hx : x = x0 + n
    · have hearlier : ((List.range n).flatMap fun i => [x0 + i, x0 + i, x0 + i]).count x = 0 := by
        refine List.count_eq_zero.mpr fun hmem => ?_
        simp only [List.mem_flatMap, List.mem_range, List.mem_cons, List.not_mem_nil, or_false, or_self] at hmem
        omega
      rw [hearlier, Nat.zero_add]
      exact List.count_le_length
    · have hlast : [x0 + n, x0 + n, x0 + n].count x = 0 := List.count_eq_zero.mpr (by simpa using hx)
      rwa [hlast]

theorem rayColumns_threefold (x0 n : Nat) : rayColumns ((List.range n).flatMap fun i => [x0 + i, x0 + i, x0 + i]) := by
  refine ⟨List.pairwise_flatMap.mpr ⟨fun i _ => by simp, List.pairwise_lt_range.imp fun hij x hx y hy => ?_⟩, count_threefold_le x0 n⟩
  simp only [List.mem_cons, List.not_mem_nil, or_false, or_self] at hx hy
  omega

/-- A traced row has three rays in each of its columns, in rising order (R166). -/
theorem traceRow_columns (ci : CalIn) (f : Frame) (u : RUnit) (st : Staged) (y : Nat) : rayColumns ((traceRow ci f u st y).map (·.1)) := by
  have hcols : (traceRow ci f u st y).map (·.1) = (List.range (u.rect.x1 - u.rect.x0)).flatMap fun i => [u.rect.x0 + i, u.rect.x0 + i, u.rect.x0 + i] := by
    rw [traceRow, List.map_flatMap]
    rfl
  rw [hcols]
  exact rayColumns_threefold _ _

/-! ## Codes -/

/-- A fold that answers one code for each element keeps the elements' columns. -/
theorem foldl_codes_columns {α γ : Type} {g : List (Nat × Nat) × γ → α → List (Nat × Nat) × γ} (column : α → Nat)
    (hg : ∀ acc x, (g acc x).1.map Prod.fst = acc.1.map Prod.fst ++ [column x]) (l : List α) (acc : List (Nat × Nat) × γ) :
    (l.foldl g acc).1.map Prod.fst = acc.1.map Prod.fst ++ l.map column := by
  induction l generalizing acc with
  | nil => simp
  | cons x l ih => rw [List.foldl_cons, ih, hg, List.map_cons, List.append_assoc, List.singleton_append]

theorem zip_columns_sublist {α β : Type} (vs : List α) (rays : List (Nat × β)) : ((vs.zip rays).map (·.2.1)).Sublist (rays.map (·.1)) := by
  induction vs generalizing rays with
  | nil => simp
  | cons v vs ih =>
    cases rays with
    | nil => simp
    | cons r rays => simpa using ih rays

/-- A head's codes in a row begin in that head and end with its columns. -/
theorem headCodes_fit {codes : List (Nat × Nat)} (hc : rayColumns (codes.map (·.1))) {w h : Nat} (hw : 0 < w) {c : Nat × Nat}
    (hhead : (codes.filter fun c => c.1 / w == h).head? = some c) :
    c.1 / w = h ∧ (codes.filter fun c => c.1 / w == h).length + 3 * (c.1 % w) ≤ 3 * w := by
  obtain ⟨rest, hmine⟩ := List.head?_eq_some_iff.mp hhead
  have hhere : ∀ d ∈ codes.filter (fun c => c.1 / w == h), d.1 / w = h := fun d hd => by simpa using (List.mem_filter.mp hd).2
  have hcol : c.1 / w = h := hhere c (by simp [hmine])
  have hstart := Nat.div_add_mod c.1 w
  rw [hcol] at hstart
  have hmod := Nat.mod_lt c.1 hw
  have hmineCols := hc.sublist ((List.filter_sublist (p := fun c => c.1 / w == h)).map Prod.fst)
  have hin : ∀ x ∈ (codes.filter fun c => c.1 / w == h).map (·.1), c.1 ≤ x ∧ x < c.1 + (w - c.1 % w) := by
    intro x hx
    refine ⟨?_, ?_⟩
    · have hsort := hmineCols.1
      rw [hmine, List.map_cons] at hx hsort
      rcases List.mem_cons.mp hx with rfl | hx
      · exact Nat.le_refl _
      · exact List.rel_of_pairwise_cons hsort hx
    · obtain ⟨d, hd, rfl⟩ := List.mem_map.mp hx
      have hplace := Nat.div_add_mod d.1 w
      rw [hhere d hd] at hplace
      have hbelow := Nat.mod_lt d.1 hw
      omega
  have hlen := hmineCols.length_le hin
  rw [List.length_map] at hlen
  exact ⟨hcol, by omega⟩

/-! ## The banks a render reads -/

/-- What the values of shadowed objects come from, in either bank (R43). -/
def State.banks (s : State) : Part × Store × Store := (s.part, s.cast, s.maq)

theorem banks_of_fr {c r : Nat} {s t : State} (h : Fr0 c r s t) (hp : c.testBit 0 = false) (hc : c.testBit 5 = false) (hm : c.testBit 6 = false) :
    t.banks = s.banks := by
  rw [State.banks, State.banks, ← show s.part = t.part from h.1 .part hp, ← show s.cast = t.cast from h.1 .cast hc, ← show s.maq = t.maq from h.1 .maq hm]

theorem natB_of_banks {s t : State} (h : t.banks = s.banks) (nb : Bool) {o : Obj} (ho : o.access = .rws) : t.natB nb o = s.natB nb o := by
  simp only [State.banks, Prod.mk.injEq] at h
  obtain ⟨hpart, hcast, hmaq⟩ := h
  simp [State.natB, State.valB, State.val, State.valM, State.storeOf, ho, hpart, hcast, hmaq]

theorem headSize_of_banks {s t : State} (h : t.banks = s.banks) (nb : Bool) :
    t.natB nb O.headCount = s.natB nb O.headCount ∧ t.natB nb O.headHActive = s.natB nb O.headHActive ∧
    t.natB nb O.bitsPerSubpixel = s.natB nb O.bitsPerSubpixel :=
  ⟨natB_of_banks h nb rfl, natB_of_banks h nb rfl, natB_of_banks h nb rfl⟩

theorem lineBytes_of_banks {s t : State} (h : t.banks = s.banks) (nb : Bool) : t.lineBytes nb = s.lineBytes nb := by
  simp only [State.lineBytes, headSize_of_banks h nb]

theorem outsideLine_of_banks {s t : State} (h : t.banks = s.banks) (nb : Bool) (b y hd a : Nat) :
    outsideLine t nb b y hd a ↔ outsideLine s nb b y hd a := by
  simp only [outsideLine, State.linePitch, lineBytes_of_banks h, headSize_of_banks h]

/-! ## What a write leaves -/

/-- The banks and the byte at `a` are in `t` as in `s`. -/
def byteKept (a : Nat) (s t : State) : Prop := t.banks = s.banks ∧ memGet t.hbm a = memGet s.hbm a

theorem byteKept.refl (a : Nat) (s : State) : byteKept a s s := ⟨rfl, rfl⟩

theorem byteKept.trans {a : Nat} {s t u : State} (h : byteKept a s t) (g : byteKept a t u) : byteKept a s u :=
  ⟨g.1.trans h.1, g.2.trans h.2⟩

theorem byteKept_of_fr {c r : Nat} {s t : State} (a : Nat) (h : Fr0 c r s t) (hp : c.testBit 0 = false) (hc : c.testBit 5 = false)
    (hm : c.testBit 6 = false) (hh : c.testBit 10 = false) : byteKept a s t :=
  ⟨banks_of_fr h hp hc hm, by rw [← show s.hbm = t.hbm from h.1 .hbm hh]⟩

theorem byteKept_foldl {α : Type} {a : Nat} {g : State → α → State} {s : State} (l : List α)
    (hg : ∀ t, t.banks = s.banks → ∀ x ∈ l, byteKept a t (g t x)) : byteKept a s (l.foldl g s) :=
  List.foldlRecOn l g (motive := byteKept a s) (byteKept.refl a s) fun t ht x hx => ht.trans (hg t ht.1 x hx)

theorem leBytes_length (n v : Nat) : (leBytes n v).length = n := by
  induction n generalizing v with
  | zero => rfl
  | succ n ih => rw [leBytes, List.length_cons, ih]

theorem hbmWrite_byteKept {a p : Nat} {bs : Bytes} (s : State) (h : a < p ∨ p + bs.length ≤ a) : byteKept a s (s.hbmWrite p bs) :=
  ⟨banks_of_fr (State.hbmWrite_fr (c := 16778240) (r := 0) rfl rfl (fr_refl s)) rfl rfl rfl, memGet_memWrite_out bs h⟩

/-- The codes of a head's active columns fit its line (R227). -/
theorem State.lineBytes_fit (s : State) (nb : Bool) : 3 * s.natB nb O.headHActive * s.natB nb O.bitsPerSubpixel ≤ 8 * s.lineBytes nb := by
  unfold State.lineBytes headLineBytesOf ceilDiv
  rw [Nat.mul_comm 3]
  generalize s.natB nb O.headHActive * 3 * s.natB nb O.bitsPerSubpixel = bits
  omega

/-- A piece stays within its head's line (R227, R252). -/
theorem writePiece_byteKept {s : State} {nb : Bool} {b x y a : Nat} {codes : List Nat}
    (hfit : codes.length + 3 * (x % s.natB nb O.headHActive) ≤ 3 * s.natB nb O.headHActive)
    (hout : outsideLine s nb b y (x / s.natB nb O.headHActive) a) : byteKept a s (s.writePiece (bufBase b) nb x y codes) := by
  have hroom := s.lineBytes_fit nb
  obtain ⟨hplace, -⟩ := hout
  unfold State.writePiece
  dsimp only
  generalize s.natB nb O.headHActive = w at *
  generalize s.natB nb O.bitsPerSubpixel = bits at *
  have hcodes := Nat.mul_le_mul_right bits hfit
  have hbits : (codes.length + 3 * (x % w)) * bits = x % w * 3 * bits + codes.length * bits := by
    rw [Nat.add_mul, Nat.mul_comm 3, Nat.add_comm]
  refine hbmWrite_byteKept s ?_
  rw [leBytes_length]
  split <;> omega

theorem writeCrc_byteKept {s : State} {nb : Bool} {b y h a : Nat} (hout : outsideLine s nb b y h a) :
    byteKept a s (s.writeCrc (bufBase b) nb y h) :=
  hbmWrite_byteKept s (by simpa [crcEntry, leBytes_length] using hout.2)

/-- The piece of a row that lies in head `h`, written from its first column on (R227). -/
def State.writeHead (base : Nat) (nb : Bool) (y w : Nat) (codes : List (Nat × Nat)) (s : State) (h : Nat) : State :=
  match (codes.filter fun c => c.1 / w == h).head? with
  | none => s
  | some c => s.writePiece base nb c.1 y ((codes.filter fun c => c.1 / w == h).map (·.2))

/-- A row's codes stand at the columns of its rays; PDP takes their sums and they are written head by head (R243, R249, R252). -/
theorem writeRow_heads (s : State) (base : Nat) (nb : Bool) (y : Nat) (values : List Nat) (rays : List (Nat × Ray × RayOut)) :
    ∃ (codes : List (Nat × Nat)) (q : DriveSums), (codes.map (·.1)).Sublist (rays.map (·.1)) ∧ s.writeRow base nb y values rays =
      (List.range ((s.takeSums q).natB nb O.headCount)).foldl (State.writeHead base nb y (s.natB nb O.headHActive) codes) (s.takeSums q) := by
  refine ⟨_, _, ?_, rfl⟩
  rw [foldl_codes_columns (fun vr => vr.2.1) fun acc vr => by simp]
  exact zip_columns_sublist values rays

/-- A row's codes are written within the lines of the heads (R243, R252). -/
theorem writeRow_byteKept {s : State} {nb : Bool} {b y a : Nat} (values : List Nat) {rays : List (Nat × Ray × RayOut)} (hw : 0 < s.natB nb O.headHActive)
    (hcols : rayColumns (rays.map (·.1))) (hout : ∀ h, h < s.natB nb O.headCount → outsideLine s nb b y h a) :
    byteKept a s (s.writeRow (bufBase b) nb y values rays) := by
  obtain ⟨codes, q, hsub, heq⟩ := writeRow_heads s (bufBase b) nb y values rays
  have hsums : byteKept a s (s.takeSums q) :=
    byteKept_of_fr a (State.takeSums_fr (c := 22548709376) (r := 210624583337138318638662084880752713810089414382092265307413413888) rfl rfl (fr_refl s)) rfl rfl rfl rfl
  rw [heq, (headSize_of_banks hsums.1 nb).1]
  refine hsums.trans (byteKept_foldl _ fun t ht h hh => ?_)
  have hbanks : t.banks = s.banks := ht.trans hsums.1
  unfold State.writeHead
  split
  · exact byteKept.refl a t
  · next c hhead =>
    obtain ⟨hcol, hfit⟩ := headCodes_fit (hcols.sublist hsub) hw hhead
    have hlen : t.natB nb O.headHActive = s.natB nb O.headHActive := (headSize_of_banks hbanks nb).2.1
    refine writePiece_byteKept ?_ ?_
    · rw [hlen, List.length_map]
      exact hfit
    · rw [hlen, hcol, outsideLine_of_banks hbanks]
      exact hout h (List.mem_range.mp hh)

/-! ## The lines of a unit -/

/-- Address `a` lies outside the lines of a unit's rectangle in frame buffer `b`, and outside their CRC entries. -/
def outsideUnit (s : State) (nb : Bool) (b : Nat) (u : RUnit) (a : Nat) : Prop :=
  ∀ y h, u.rect.y0 ≤ y → y < u.rect.y1 → h < s.natB nb O.headCount → outsideLine s nb b y h a

theorem outsideUnit.of_banks {s t : State} {nb : Bool} {b a : Nat} {u : RUnit} (h : outsideUnit s nb b u a) (hb : t.banks = s.banks) :
    outsideUnit t nb b u a := fun y hd h0 h1 hh =>
  (outsideLine_of_banks hb nb b y hd a).mpr (h y hd h0 h1 (by rwa [(headSize_of_banks hb nb).1] at hh))

theorem writeDoneLines_byteKept {s : State} {f : Frame} {u : RUnit} {b a : Nat} (hout : outsideUnit s f.adm.newBank b u a) :
    byteKept a s (s.writeDoneLines f u (bufBase b)) := by
  unfold State.writeDoneLines
  refine byteKept_foldl _ fun t ht yh hmem => ?_
  obtain ⟨i, hi, hd, hhd, rfl⟩ : ∃ i, i < u.rect.y1 - u.rect.y0 ∧ ∃ hd, hd < s.natB f.adm.newBank O.headCount ∧ (u.rect.y0 + i, hd) = yh := by
    simpa [List.mem_flatMap] using hmem
  dsimp only
  split
  · refine writeCrc_byteKept ((outsideLine_of_banks ht ..).mpr (hout _ _ ?_ ?_ hhd)) <;> omega
  · exact byteKept.refl a t

/-! ## The rows of a unit -/

/-- The units written and the clusters. -/
def State.rsePlan (s : State) : List Nat × List Cluster := (s.rse.written, s.rse.clusters)

theorem rsePlan_of_fr {c r : Nat} {s t : State} (h : Fr0 c r s t) (hr : c.testBit 16 = false) : t.rsePlan = s.rsePlan := by
  rw [State.rsePlan, State.rsePlan, ← show s.rse = t.rse from h.1 .rse hr]

theorem countRays_plan (s : State) (rays : List (Nat × Ray × RayOut)) : (s.countRays rays).rsePlan = s.rsePlan := by
  unfold State.countRays
  dsimp only
  split
  · rfl
  · simp [State.rsePlan, State.warnRender]

theorem countRays_byteKept (a : Nat) (s : State) (rays : List (Nat × Ray × RayOut)) : byteKept a s (s.countRays rays) :=
  byteKept_of_fr a (State.countRays_fr (c := 1073807360) (r := 56539106076199307661307932108083330871594185709985278391158558168061050880) rfl rfl
    (fr_refl s)) rfl rfl rfl rfl

/-- A traced row of a unit is counted and written (R160, R180, R243). -/
def State.paintRow (nb : Bool) (b y0 n : Nat) (values : List Nat) (s : State) (ir : Nat × List (Nat × Ray × RayOut)) : State :=
  (s.countRays ir.2).writeRow (bufBase b) nb (y0 + ir.1) ((values.drop (n * ir.1)).take n) ir.2

theorem paintRow_plan (nb : Bool) (b y0 n : Nat) (values : List Nat) (s : State) (ir : Nat × List (Nat × Ray × RayOut)) :
    (s.paintRow nb b y0 n values ir).rsePlan = s.rsePlan :=
  (rsePlan_of_fr (State.writeRow_fr (c := 22565487616) (r := 210624583337138318638662084880752713810089414382092265307413413888) rfl rfl (fr_refl _)) rfl).trans
    (countRays_plan s ir.2)

theorem paintRow_byteKept {s : State} {nb : Bool} {b y0 a : Nat} (n : Nat) (values : List Nat) {ir : Nat × List (Nat × Ray × RayOut)}
    (hw : 0 < s.natB nb O.headHActive) (hcols : rayColumns (ir.2.map (·.1)))
    (hout : ∀ h, h < s.natB nb O.headCount → outsideLine s nb b (y0 + ir.1) h a) : byteKept a s (s.paintRow nb b y0 n values ir) := by
  have hcount := countRays_byteKept a s ir.2
  refine hcount.trans (writeRow_byteKept _ ?_ hcols fun h hh => ?_)
  · rwa [(headSize_of_banks hcount.1 nb).2.1]
  · rw [(headSize_of_banks hcount.1 nb).1] at hh
    exact (outsideLine_of_banks hcount.1 ..).mpr (hout h hh)

/-- Every traced row of a unit in turn is counted and written. -/
def State.paintRows (s : State) (f : Frame) (u : RUnit) (b : Nat) (values : List Nat) (rows : List (List (Nat × Ray × RayOut))) : State :=
  ((List.range rows.length).zip rows).foldl (State.paintRow f.adm.newBank b u.rect.y0 (3 * (u.rect.x1 - u.rect.x0)) values) s

theorem paintRows_plan (s : State) (f : Frame) (u : RUnit) (b : Nat) (values : List Nat) (rows : List (List (Nat × Ray × RayOut))) :
    (s.paintRows f u b values rows).rsePlan = s.rsePlan :=
  foldl_keeps State.rsePlan (fun x ir => paintRow_plan _ _ _ _ _ x ir) _ s

/-- The rows of a unit are written within its lines. -/
theorem paintRows_byteKept {s : State} {f : Frame} {u : RUnit} {b a : Nat} (values : List Nat) {rows : List (List (Nat × Ray × RayOut))}
    (hw : 0 < s.natB f.adm.newBank O.headHActive) (hlen : rows.length = u.rect.y1 - u.rect.y0) (hcols : ∀ row ∈ rows, rayColumns (row.map (·.1)))
    (hout : outsideUnit s f.adm.newBank b u a) : byteKept a s (s.paintRows f u b values rows) := by
  refine byteKept_foldl _ fun t ht ir hmem => ?_
  obtain ⟨hi, hrow⟩ := List.of_mem_zip hmem
  rw [List.mem_range, hlen] at hi
  refine paintRow_byteKept _ _ ?_ (hcols _ hrow) fun h hh => ?_
  · rwa [(headSize_of_banks ht _).2.1]
  · rw [(headSize_of_banks ht _).1] at hh
    exact (outsideLine_of_banks ht ..).mpr (hout _ _ (by omega) (by omega) hh)

/-! ## UNIT_RENDER_DONE -/

/-- The state in which a unit's rows are traced and written: CAL's second copies were read, errors of cluster storage were reported (R183, R216). -/
def State.renderReads (s : State) (c unit : Nat) (store : List EccHit) (calUe : List Nat) : State :=
  store.foldl (fun s _ => s.storeError c unit) (s.eccAll .renderWrite (calUe.map fun a => 0x10000000 + a % 0x10000000))

theorem renderReads_plan (s : State) (c unit : Nat) (store : List EccHit) (calUe : List Nat) : (s.renderReads c unit store calUe).rsePlan = s.rsePlan := by
  rw [State.renderReads, foldl_keeps State.rsePlan fun x _ => rsePlan_of_fr (x.storeError_frame c unit) rfl]
  exact congrArg (fun r : Rse => (r.written, r.clusters)) (s.eccAll_rse ..)

theorem renderReads_byteKept (a : Nat) (s : State) (c unit : Nat) (store : List EccHit) (calUe : List Nat) :
    byteKept a s (s.renderReads c unit store calUe) :=
  (byteKept_of_fr a (State.eccAll_fr (c := 22548578304) (r := 15576596480) rfl rfl (fr_refl s)) rfl rfl rfl rfl).trans
    (byteKept_foldl store fun t _ _ _ => byteKept_of_fr a (t.storeError_frame c unit) rfl rfl rfl rfl)

/-- The end of a unit: it counts as written, its results stand in the result buffer, its cluster advances, and the lines it completes
get their CRC entries (R159, R170, R252). -/
def State.finishUnit (s : State) (f : Frame) (c b n : Nat) (u : RUnit) (values : List Nat) : State :=
  (s.modRse fun r => { r with
    written := r.written ++ [n], lastDoneAt := s.ns
    clusters := r.clusters.modify c fun x => (x.finish (n, values)).advance
    }).writeDoneLines f u (bufBase b)

theorem finishUnit_plan (s : State) (f : Frame) (c b n : Nat) (u : RUnit) (values : List Nat) : (s.finishUnit f c b n u values).rsePlan =
    (s.rse.written ++ [n], s.rse.clusters.modify c fun x => (x.finish (n, values)).advance) :=
  rsePlan_of_fr (State.writeDoneLines_fr (c := 16778240) (r := 0) rfl rfl (fr_refl _)) rfl

theorem finishUnit_byteKept {s : State} {f : Frame} {u : RUnit} {b a : Nat} (c n : Nat) (values : List Nat) (hout : outsideUnit s f.adm.newBank b u a) :
    byteKept a s (s.finishUnit f c b n u values) := writeDoneLines_byteKept hout

/-- A started unit's rows are traced and written, and the unit ends (R170). -/
theorem cmdUnitRenderDone_painted {s : State} {f : Frame} {c b : Nat} {st : Staged} {u : RUnit} (store : List EccHit) (calUe : List Nat)
    (hf : s.adm.rendering = some f) (hcur : (s.rse.clusters.getD c {}).cur = some st) (hst : st.started = true) (hb : s.bufIn .render = some b)
    (hunit : f.bin.units[st.unit]? = some u) :
    ∃ (values : List Nat) (rows : List (List (Nat × Ray × RayOut))), rows.length = u.rect.y1 - u.rect.y0 ∧ (∀ row ∈ rows, rayColumns (row.map (·.1))) ∧
      cmdUnitRenderDone s c store calUe =
        ((s.renderReads c st.unit store calUe).paintRows f u b values rows).finishUnit f c b st.unit u values := by
  have hspoil : (st.spoil store).unit = st.unit := (st.spoil_fields store).1
  unfold cmdUnitRenderDone
  simp only [hf, hcur, hb, hunit]
  rw [if_neg (by simp [hst]), hspoil]
  refine ⟨_, _, ?_, ?_, rfl⟩
  · rw [List.length_map, List.length_range]
  · intro row hrow
    obtain ⟨i, -, rfl⟩ := List.mem_map.mp hrow
    exact traceRow_columns ..

/-- UNIT_RENDER_DONE counts the unit as written and finishes its cluster, and memory keeps every byte outside the unit's lines (R170). -/
theorem cmdUnitRenderDone_done {s : State} {f : Frame} {c b : Nat} {st : Staged} {u : RUnit} (store : List EccHit) (calUe : List Nat)
    (hf : s.adm.rendering = some f) (hcur : (s.rse.clusters.getD c {}).cur = some st) (hst : st.started = true) (hb : s.bufIn .render = some b)
    (hunit : f.bin.units[st.unit]? = some u) :
    (∃ values, (cmdUnitRenderDone s c store calUe).rsePlan = (s.rse.written ++ [st.unit],
      s.rse.clusters.modify c fun x => (x.finish (st.unit, values)).advance)) ∧
    (0 < s.natB f.adm.newBank O.headHActive → ∀ a, outsideUnit s f.adm.newBank b u a →
      memGet (cmdUnitRenderDone s c store calUe).hbm a = memGet s.hbm a) := by
  obtain ⟨values, rows, hlen, hcols, heq⟩ := cmdUnitRenderDone_painted store calUe hf hcur hst hb hunit
  rw [heq]
  refine ⟨⟨values, ?_⟩, fun hw a hout => ?_⟩
  · have hplan := (paintRows_plan (s.renderReads c st.unit store calUe) f u b values rows).trans (renderReads_plan s c st.unit store calUe)
    simp only [State.rsePlan, Prod.mk.injEq] at hplan
    rw [finishUnit_plan, hplan.1, hplan.2]
  · have hreads := renderReads_byteKept a s c st.unit store calUe
    have hrows := hreads.trans (paintRows_byteKept values (by rwa [(headSize_of_banks hreads.1 _).2.1]) hlen hcols (hout.of_banks hreads.1))
    exact (hrows.trans (finishUnit_byteKept c st.unit values (hout.of_banks hrows.1))).2

/-- Settles O27: the four commands by what each does to the clusters; the bytes that stay are those of `cmdUnitRenderDone_done`. -/
theorem units : Obligations.Units := by
  unfold Obligations.Units
  refine ⟨fun s f c hdie hf hrun hcap hframe => ?_, fun s f c st u tileUe figUe ce store hdie hf hframe hc hnext hready hunit => ?_,
    fun s f c st hdie hf hframe hc hup hcur hst => ?_, fun s f c st u b store calUe hdie hf hc hcur hst hb hunit => ?_⟩
  · intro takes hleft hc hfree hleast
    have hfirst : (s.freeClusters f.adm.newBank).head? = some c :=
      head?_of_least (s.freeClusters_sorted _) (State.mem_freeClusters.mpr hfree) fun k hk =>
        Nat.le_of_not_lt fun hkc => hleast k hkc (State.mem_freeClusters.mp hk)
    refine gives_of_live hdie rfl ?_
    simp only [cmdUnitDispatch_given hf hrun hcap hframe hleft hfirst, State.modRse_fields, getD_modify_same _ hc]
    exact ⟨trivial, trivial, trivial, fun k hk => getD_modify_ne _ _ hk _⟩
  · obtain ⟨p, st', hrse, heq, hunit', hready', hrest⟩ := cmdUnitStagingDone_staged tileUe figUe ce store hf hframe hnext hready hunit
    obtain ⟨hidle, hbusy⟩ := Cluster.stage_advance (s.rse.clusters.getD c {}) hready'
    obtain ⟨hstarted, hconsts, homitted, htiles⟩ := hrest
    refine gives_of_live (f := fun s => cmdUnitStagingDone s c tileUe figUe ce store) hdie rfl ?_
    simp only [heq, State.modRse_fields, hrse, getD_modify_same _ hc]
    exact ⟨st', hidle, hbusy, hunit', hready', hstarted, hconsts, homitted, htiles, fun k hk => getD_modify_ne _ _ hk _⟩
  · refine gives_of_live (f := fun s => cmdUnitRenderStart s c) hdie rfl ?_
    simp only [cmdUnitRenderStart_started hf hframe hup hcur hst]
    exact ⟨getD_modify_same _ hc _, fun k hk => getD_modify_ne _ _ hk _⟩
  · obtain ⟨⟨values, hplan⟩, hbytes⟩ := cmdUnitRenderDone_done store calUe hf hcur hst hb hunit
    simp only [State.rsePlan, Prod.mk.injEq] at hplan
    obtain ⟨hwritten, hclusters⟩ := hplan
    refine gives_of_live (f := fun s => cmdUnitRenderDone s c store calUe) hdie rfl ?_
    obtain ⟨hstaged, hunstaged, hresults⟩ := Cluster.finish_advance (s.rse.clusters.getD c {}) (st.unit, values)
    simp only [hwritten, hclusters, getD_modify_same _ hc]
    exact ⟨trivial, fun k hk => getD_modify_ne _ _ hk _, hstaged, hunstaged, ⟨values, hresults⟩, hbytes⟩

end Sys2Proof.Machine
end

section
/-! The costs of units and frames (R187, R188), and the offending unit (R194). -/

namespace Sys2Proof.Machine

theorem ceilDiv_le_iff {a b : Nat} (hb : 0 < b) (x : Nat) : ceilDiv a b ≤ x ↔ a ≤ b * x := by
  rw [ceilDiv, Nat.div_le_iff_le_mul_add_pred hb]
  omega

/-- Settles O25: each rounded-up division of R187 by `ceilDiv_le_iff`. -/
theorem unitCosts : Obligations.UnitCosts := by
  unfold Obligations.UnitCosts
  exact fun i u hl hg => ⟨ceilDiv_le_iff (by decide), ceilDiv_le_iff (Nat.sub_pos_of_lt hl), ceilDiv_le_iff (Nat.mul_pos (by decide) hg), rfl⟩

theorem frameCost_le_iff (m : Measure) {i : CostIn} (hc : 0 < i.c) (us : List RUnit) (x : Nat) :
    frameCost m i us ≤ x + 2 * (us.map (unitCost m i)).foldl max 0 + 8192 ↔ (us.map (unitCost m i)).sum ≤ i.c * x := by
  rw [List.sum_eq_foldl, ← ceilDiv_le_iff hc, frameCost, costOf, sumN, maxN]
  omega

theorem sumN_append_one (l : List Nat) (w : Nat) : sumN (l ++ [w]) = sumN l + w := by simp [sumN]

theorem maxN_append_one (l : List Nat) (w : Nat) : maxN (l ++ [w]) = max (maxN l) w := by simp [maxN]

/-- The sum and the largest that `offending` carries are those of the units before the ones left. -/
theorem frameCost_append_one (m : Measure) (i : CostIn) (us : List RUnit) (u : RUnit) :
    frameCost m i (us ++ [u]) =
      costOf i.c (sumN (us.map (unitCost m i)) + unitCost m i u) (max (maxN (us.map (unitCost m i))) (unitCost m i u)) := by
  simp only [frameCost, List.map_append, List.map_singleton, sumN_append_one, maxN_append_one]

/-- `offending` on the units `us` that stand behind `pre`. -/
def offendingAfter (m : Measure) (i : CostIn) (pre us : List RUnit) : Option RUnit :=
  offending m i us (sumN (pre.map (unitCost m i))) (maxN (pre.map (unitCost m i)))

theorem offendingAfter_cons (m : Measure) (i : CostIn) (pre : List RUnit) (u : RUnit) (us : List RUnit) :
    offendingAfter m i pre (u :: us) = if i.e < frameCost m i (pre ++ [u]) then some u else offendingAfter m i (pre ++ [u]) us := by
  rw [frameCost_append_one]
  simp only [offendingAfter, List.map_append, List.map_singleton, sumN_append_one, maxN_append_one]
  rfl

theorem offendingAfter_eq_some (m : Measure) (i : CostIn) (pre us : List RUnit) (u : RUnit) :
    offendingAfter m i pre us = some u ↔
      ∃ j, us[j]? = some u ∧ i.e < frameCost m i (pre ++ us.take (j + 1)) ∧ ∀ k, k < j → frameCost m i (pre ++ us.take (k + 1)) ≤ i.e := by
  induction us generalizing pre with
  | nil => simp [offendingAfter, offending]
  | cons v us ih =>
    rw [offendingAfter_cons, ← Nat.or_exists_add_one]
    simp only [Nat.forall_lt_succ_left]
    by_cases hover : i.e < frameCost m i (pre ++ [v])
    · simp [hover, Nat.not_le.mpr hover]
    · simp [hover, ih, Nat.not_lt.mp hover]

theorem offendingAfter_eq_none (m : Measure) (i : CostIn) (pre us : List RUnit) :
    offendingAfter m i pre us = none ↔ ∀ j, j < us.length → frameCost m i (pre ++ us.take (j + 1)) ≤ i.e := by
  induction us generalizing pre with
  | nil => simp [offendingAfter, offending]
  | cons v us ih =>
    rw [offendingAfter_cons, List.length_cons, Nat.forall_lt_succ_left]
    by_cases hover : i.e < frameCost m i (pre ++ [v])
    · simp [hover, Nat.not_le.mpr hover]
    · simp [hover, ih, Nat.not_lt.mp hover]

end Sys2Proof.Machine
end

section
/-! A refused frame: what leaves the admission queue, what is reported and what is counted (R30, R122, R192, R195). -/

namespace Sys2Proof.Machine

/-! ## The operations of the admission queue -/

@[simp] theorem State.dropHead_fields (s : State) :
    s.dropHead.adm = { s.adm with waiting := s.adm.waiting.drop 1, stage := .idle } ∧ s.dropHead.hif = s.hif := ⟨rfl, rfl⟩

@[simp] theorem State.dropHead_nat (s : State) (q : Obj) : s.dropHead.nat q = s.nat q := by simp [State.dropHead]

@[simp] theorem State.dropCodes_fields (s : State) (f : Frame) : (s.dropCodes f).adm = s.adm ∧ (s.dropCodes f).hif = s.hif := ⟨rfl, rfl⟩

@[simp] theorem State.settleRelief_stage (s : State) :
    s.settleRelief.adm.stage = s.adm.stage ∧ s.settleRelief.adm.pending = s.adm.pending := by
  have hadm : s.adm = s.refreshRelief.adm := (State.refreshRelief_fr (c := 0) (r := 65024) rfl rfl (fr_refl s)).1 .adm rfl
  rw [hadm]
  exact ⟨rfl, rfl⟩

/-- A frame's entry joins the completion queue with the status it is given (R195). -/
theorem State.admissionEntry_completes (s : State) (f : Frame) (c : Completion) :
    completes s (s.admissionEntry f c) [(.admission, c.status)] :=
  completes_congr (s := (s.dropCodes f).bumpBy O.figBinDropCount f.bin.drops) (by simp) rfl (completes_complete _ _)

theorem State.admissionEntry_frame (s : State) (f : Frame) (c : Completion) : Fr0 18253615104 7 s (s.admissionEntry f c) :=
  State.admissionEntry_fr rfl rfl (fr_refl s)

@[simp] theorem State.admissionEntry_adm (s : State) (f : Frame) (c : Completion) : (s.admissionEntry f c).adm = s.adm :=
  ((s.admissionEntry_frame f c).1 .adm rfl).symm

theorem State.admissionEntry_nat (s : State) (f : Frame) (c : Completion) {q : Obj} (hq : touched 7 q.key = false) :
    (s.admissionEntry f c).nat q = s.nat q :=
  (vals_of_fr (s.admissionEntry_frame f c) rfl rfl (by decide) hq).2.2.1

@[simp] theorem State.rebind_fields (s : State) (n : Nat) : (s.rebind n).adm = s.adm ∧ (s.rebind n).hif = s.hif := by
  unfold State.rebind
  split <;> simp

theorem State.rebind_nat (s : State) (n : Nat) {q : Obj} (hq : q.key ≠ O.cfgBoundFrame.key) : (s.rebind n).nat q = s.nat q := by
  unfold State.rebind
  split
  · exact State.nat_put_ne hq
  · rfl

/-! ## A released frame -/

theorem State.regateOld_adm (s : State) : s.regateOld.adm = s.adm :=
  ((State.regateOld_fr (c := 512) (r := 0) rfl rfl (fr_refl s)).1 .adm rfl).symm

theorem State.dropDirs_adm (s : State) : s.dropDirs.adm = s.adm :=
  ((State.dropDirs_fr (c := 8192) (r := 0) rfl rfl (fr_refl s)).1 .adm rfl).symm

/-- Releasing a frame leaves the queue but for the residency of the waiting frames (R122, R123). -/
theorem State.releaseFrame_adm (s : State) (n : Nat) :
    (s.releaseFrame n).adm.waiting.map (·.number) = s.adm.waiting.map (·.number) ∧ (s.releaseFrame n).adm.stage = s.adm.stage ∧
    (s.releaseFrame n).adm.pending = s.adm.pending := by
  unfold State.releaseFrame
  simp [State.regateOld_adm, State.settleRelief_waiting, State.dropDirs_adm, State.dropSlots]

theorem State.releaseFrame_frame (s : State) (n : Nat) : Fr0 25088 65024 s (s.releaseFrame n) := State.releaseFrame_fr rfl rfl (fr_refl s)

theorem State.releaseFrame_nat (s : State) (n : Nat) {q : Obj} (hq : touched 65024 q.key = false) : (s.releaseFrame n).nat q = s.nat q :=
  (vals_of_fr (s.releaseFrame_frame n) rfl rfl (by decide) hq).2.2.1

@[simp] theorem State.releaseFrame_hif (s : State) (n : Nat) : (s.releaseFrame n).hif = s.hif := ((s.releaseFrame_frame n).1 .hif rfl).symm

/-! ## The refusal -/

/-- What a refusal writes of its costing, where there was one. -/
def State.recordCost (s : State) (c : Completion) : State :=
  if c.budget = 0 then s else (s.put O.admLastCost c.cost).put O.admLastBudget c.budget

@[simp] theorem State.recordCost_fields (s : State) (c : Completion) : (s.recordCost c).adm = s.adm ∧ (s.recordCost c).hif = s.hif := by
  unfold State.recordCost
  split <;> simp

theorem State.recordCost_nat (s : State) (c : Completion) {q : Obj} (hk : q.key ≠ O.admLastCost.key) (he : q.key ≠ O.admLastBudget.key) :
    (s.recordCost c).nat q = s.nat q := by
  unfold State.recordCost
  split
  · rfl
  · rw [State.nat_put_ne he, State.nat_put_ne hk]

/-- All that a refusal writes before the frame is released: its report, the last status, the bound frame and the costing (R192, R195). -/
def State.recordRefusal (s : State) (f : Frame) (c : Completion) : State :=
  (((((s.admissionEntry f c).bump O.admRefusedCount).put O.admLastStatus c.status).put O.admLastBadBin c.badBin).rebind f.number).recordCost c

theorem State.refuseFrame_eq (s : State) (f : Frame) (c : Completion) : s.refuseFrame f c = (s.recordRefusal f c).releaseFrame f.number := rfl

@[simp] theorem State.recordRefusal_fields (s : State) (f : Frame) (c : Completion) :
    (s.recordRefusal f c).adm = s.adm ∧ (s.recordRefusal f c).hif = (s.admissionEntry f c).hif := by
  simp [State.recordRefusal]

theorem State.recordRefusal_shows (s : State) (f : Frame) (c : Completion) :
    counts s (s.recordRefusal f c) O.admRefusedCount 1 ∧ shows (s.recordRefusal f c) O.admLastStatus c.status := by
  unfold State.recordRefusal
  constructor
  · refine counts_congr (s.admissionEntry_nat f c (by decide +kernel)).symm ?_ (counts_bump (s.admissionEntry f c) O.admRefusedCount (w := 4) rfl rfl)
    rw [State.recordCost_nat _ _ (by decide) (by decide), State.rebind_nat _ _ (by decide), State.nat_put_ne (by decide), State.nat_put_ne (by decide)]
  · rw [shows, State.recordCost_nat _ _ (by decide) (by decide), State.rebind_nat _ _ (by decide), State.nat_put_ne (by decide)]
    exact shows_put _ O.admLastStatus c.status (w := 2) rfl rfl

/-- A frame that leaves the head of the queue refused (R30, R192, R195). -/
theorem refusedHead_refuseFrame (s : State) (f : Frame) (c : Completion) : refusedHead s (s.dropHead.refuseFrame f c) c.status := by
  rw [State.refuseFrame_eq]
  obtain ⟨hwaiting, hstage, hpending⟩ := (s.dropHead.recordRefusal f c).releaseFrame_adm f.number
  obtain ⟨hcount, hstatus⟩ := s.dropHead.recordRefusal_shows f c
  have hentry := s.dropHead.admissionEntry_completes f c
  refine ⟨by simpa using hwaiting, by simpa using hstage, by simpa using hpending, completes_congr rfl (by simp) hentry, ?_, ?_⟩
  · exact counts_congr (s.dropHead_nat _).symm (State.releaseFrame_nat _ _ (by decide +kernel)) hcount
  · rwa [shows, State.releaseFrame_nat _ _ (by decide +kernel)]

theorem State.refusalStatus_frame (s : State) (code : Nat) : Fr0 0 196612 s (s.refusalStatus code) := State.refusalStatus_fr rfl rfl (fr_refl s)

/-- A frame that leaves the head of the queue with a code that no costing decided (R195). -/
theorem refusedHead_refuseHead (s : State) (f : Frame) (code : Nat) : refusedHead s (s.refuseHead f code) code := by
  have hframe := s.refusalStatus_frame code
  have hadm : s.adm = (s.refusalStatus code).adm := hframe.1 .adm rfl
  have hhif : s.hif = (s.refusalStatus code).hif := hframe.1 .hif rfl
  have hcount : (s.refusalStatus code).nat O.admRefusedCount = s.nat O.admRefusedCount :=
    (vals_of_fr hframe rfl rfl (by decide) (by decide +kernel)).2.2.1
  have hrefused : refusedHead (s.refusalStatus code) (s.refuseHead f code) code :=
    refusedHead_refuseFrame (s.refusalStatus code) f (s.plainRefusal f code)
  simpa only [refusedHead, completes, counts, ← hadm, ← hhif, hcount] using hrefused

end Sys2Proof.Machine
end

section
/-! The two costings of a frame: the outcomes of PRE_COSTING_DONE, FINAL_COSTING_START and FINAL_COSTING_DONE (R192, R195, R197, R239). -/

namespace Sys2Proof.Machine

/-! ## PRE_COSTING_DONE -/

section
variable {s : State} {f : Frame} {rest : List Frame} {i : CostIn} {rho : Nat} (hw : s.adm.waiting = f :: rest) (hst : s.adm.stage = .preCosting i rho)
include hw hst

theorem cmdPreCostingDone_over (h : i.e < frameCost .full i f.bin.units) :
    cmdPreCostingDone s = s.dropHead.refuseFrame f (State.costRefusal i rho f.bin.gen f.bin.units) := by
  simp only [cmdPreCostingDone, hw, hst, if_pos h]

theorem cmdPreCostingDone_fits (h : frameCost .full i f.bin.units ≤ i.e) : cmdPreCostingDone s = s.modAdm fun a => { a with stage := .waiting } := by
  simp only [cmdPreCostingDone, hw, hst, if_neg (Nat.not_lt.mpr h)]

/-- The frame goes on to wait exactly if it fits (R192, R193). -/
theorem cmdPreCostingDone_waiting : (cmdPreCostingDone s).adm.stage = .waiting ↔ frameCost .full i f.bin.units ≤ i.e := by
  by_cases h : i.e < frameCost .full i f.bin.units
  · rw [cmdPreCostingDone_over hw hst h]
    obtain ⟨-, hstage, -⟩ := refusedHead_refuseFrame s f (State.costRefusal i rho f.bin.gen f.bin.units)
    rw [hstage]
    exact ⟨fun heq => AdmStage.noConfusion heq, fun hle => absurd h (Nat.not_lt.mpr hle)⟩
  · rw [cmdPreCostingDone_fits hw hst (Nat.not_lt.mp h)]
    exact ⟨fun _ => Nat.not_lt.mp h, fun _ => rfl⟩

end

/-- Settles O26: K by `frameCost_le_iff`, the offending unit as `offendingAfter` no units, PRE_COSTING_DONE by `cmdPreCostingDone_waiting`. -/
theorem frameCosts : Obligations.FrameCosts := by
  unfold Obligations.FrameCosts
  refine ⟨fun m i us hc => ⟨frameCost_le_iff m hc us, offendingAfter_eq_some m i [] us, offendingAfter_eq_none m i [] us⟩, ?_⟩
  exact fun s f fs i rho hdie hw hst => gives_of_live hdie rfl (cmdPreCostingDone_waiting hw hst)

/-! ## FINAL_COSTING_START -/

section
variable {s : State} {f : Frame} {rest : List Frame} {r : Nat} (hw : s.adm.waiting = f :: rest) (hst : s.adm.stage = .waiting)
  (hres : f.residentAt = some r)
include hw hst hres

theorem cmdFinalCostingStart_late (hlate : deadlineAt f.tf f.epoch < (r : Int)) : cmdFinalCostingStart s = s.refuseHead f 0x0904 := by
  simp only [cmdFinalCostingStart, hw, hst, hres, if_pos hlate]

variable (hintime : ¬ deadlineAt f.tf f.epoch < (r : Int))
include hintime

theorem cmdFinalCostingStart_behind (hnew : s.onNewBank f.number = true) (hgrid : s.cfg.changesTf = true) (hepoch : f.epoch < s.cfg.erEpoch.getD 0) :
    cmdFinalCostingStart s = s.refuseHead f 0x0B07 := by
  simp [cmdFinalCostingStart, hw, hst, hres, hintime, hnew, hgrid, hepoch]

/-- A frame binned under its bank's generation, whose binning refuses it with nothing, starts its final costing (R192, R526). -/
theorem cmdFinalCostingStart_binned (hahead : ¬ (s.onNewBank f.number = true ∧ s.cfg.changesTf = true ∧ f.epoch < s.cfg.erEpoch.getD 0))
    (hgen : f.bin.gen = s.genOf (s.onNewBank f.number)) (hbin : s.binRefusal f = none) :
    (cmdFinalCostingStart s).adm = { s.adm with
      waiting := { f with overlayBuf := some (s.shownFor f.epoch) } :: rest
      stage := .finalCosting (s.costIn (s.onNewBank f.number) (s.nat O.admThrottleNow) (s.nat O.admDerateNow)) (s.nat O.admDerateNow)
        (s.genOf (s.onNewBank f.number)) (s.onNewBank f.number) } := by
  have hgrid : (s.onNewBank f.number && s.cfg.changesTf && decide (f.epoch < s.cfg.erEpoch.getD 0)) = false := by
    rw [← Bool.not_eq_true]
    simpa [and_assoc] using hahead
  simp only [cmdFinalCostingStart, hw, hst, hres, if_neg hintime, hgrid, Bool.false_eq_true, if_false, if_pos hgen, hbin]
  rfl

end

theorem State.binRefusal_none (s : State) {f : Frame} (hbad : f.bin.badBin = none) (hsub : ∀ u ∈ f.bin.units, u.sub = 255 ∨ u.n ≤ 48) :
    s.binRefusal f = none := by
  have hfind : (f.bin.units.find? fun u => u.sub != 255 && decide (48 < u.n)) = none := by
    rw [List.find?_eq_none]
    intro u hu
    rcases hsub u hu with h | h <;> simp [h]
  rw [State.binRefusal, hbad, hfind]

/-! ## FINAL_COSTING_DONE -/

/-- A code that is no fault-class code changes no register of the host interface (R446, R491). -/
theorem State.post_hif (s : State) (code : Nat) (param : List Nat) : (s.post code param).hif = s.hif := by
  by_cases hfull : 256 ≤ s.log.staging.length
  · simp [State.post, State.postWith, hfull]
  · simp [State.post, State.postWith, hfull]

theorem State.resume_hif (s : State) (b : Nat) : (s.resume b).hif = s.hif := by
  unfold State.resume
  dsimp only
  split
  · split
    · simp [State.post_hif]
    · simp
  · rfl

/-- The frame as it is admitted under the record of its final costing (R32, R197). -/
def State.admitted (s : State) (f : Frame) (i : CostIn) (rho gen : Nat) (nb : Bool) : Frame :=
  { f with
    adm := { gen := gen, newBank := nb, throttle := i.l, derate := rho, budget := i.e, cost := frameCost .full i f.bin.units }
    tf := s.tfOf nb, covered := s.nat O.admSuspendCauses == 0, overlayBuf := if s.nat O.overlayState = 2 then f.overlayBuf else none }

/-- The report of an admitted frame (R195). -/
def admittedReport (f : Frame) (i : CostIn) (rho gen : Nat) : Completion :=
  { kind := .admission, throttle := i.l, derate := rho, gen := gen, cost := frameCost .full i f.bin.units, budget := i.e }

/-- The head of the queue becomes the pending frame, and its entry is made. -/
def State.pendHead (s : State) (f g : Frame) (c : Completion) : State :=
  (s.dropHead.modAdm fun a => { a with pending := some g }).admissionEntry f c

/-- The overlay buffer that the admitted frame shows, where it shows one (R295). -/
def State.showOverlay (s : State) (f : Frame) : State :=
  match f.overlayBuf with
  | some b => s.put O.overlayShown b
  | none => s

/-- The objects an admission writes (R195, R199). -/
def State.recordAdmission (s : State) (f : Frame) (i : CostIn) : State :=
  ((((s.bump O.admAdmittedCount).put O.admLastStatus 0).put O.admLastCost (frameCost .full i f.bin.units)).put O.admLastBudget i.e).put
    O.figBinPeak f.bin.peak

/-- What an admission ends with: the islands that render are powered, the promise is resumed and the relief cache settled (R163, R198). -/
def State.afterAdmission (s : State) (nb : Bool) : State :=
  (((s.rseIslands nb).foldl (fun s n => s.powerIsl (9 + n)) s).resume 0).settleRelief

@[simp] theorem State.pendHead_adm (s : State) (f g : Frame) (c : Completion) :
    (s.pendHead f g c).adm.stage = .idle ∧ (s.pendHead f g c).adm.pending = some g := by
  simp [State.pendHead]

theorem State.pendHead_completes (s : State) (f g : Frame) (c : Completion) : completes s (s.pendHead f g c) [(.admission, c.status)] :=
  completes_congr rfl rfl (State.admissionEntry_completes (s.dropHead.modAdm fun a => { a with pending := some g }) f c)

theorem State.pendHead_nat (s : State) (f g : Frame) (c : Completion) {q : Obj} (hq : touched 7 q.key = false) :
    (s.pendHead f g c).nat q = s.nat q := by
  rw [State.pendHead, State.admissionEntry_nat _ _ _ hq]
  simp

@[simp] theorem State.showOverlay_fields (s : State) (f : Frame) : (s.showOverlay f).adm = s.adm ∧ (s.showOverlay f).hif = s.hif := by
  unfold State.showOverlay
  split <;> simp

theorem State.showOverlay_nat (s : State) (f : Frame) {q : Obj} (hq : q.key ≠ O.overlayShown.key) : (s.showOverlay f).nat q = s.nat q := by
  unfold State.showOverlay
  split
  · exact State.nat_put_ne hq
  · rfl

@[simp] theorem State.recordAdmission_fields (s : State) (f : Frame) (i : CostIn) :
    (s.recordAdmission f i).adm = s.adm ∧ (s.recordAdmission f i).hif = s.hif := by
  simp [State.recordAdmission]

theorem State.recordAdmission_shows (s : State) (f : Frame) (i : CostIn) :
    counts s (s.recordAdmission f i) O.admAdmittedCount 1 ∧ shows (s.recordAdmission f i) O.admLastCost (frameCost .full i f.bin.units) ∧
    shows (s.recordAdmission f i) O.admLastBudget i.e := by
  unfold State.recordAdmission
  refine ⟨counts_congr rfl ?_ (counts_bump s O.admAdmittedCount (w := 8) rfl rfl), ?_, ?_⟩
  · rw [State.nat_put_ne (by decide), State.nat_put_ne (by decide), State.nat_put_ne (by decide), State.nat_put_ne (by decide)]
  · unfold shows
    rw [State.nat_put_ne (by decide), State.nat_put_ne (by decide)]
    exact shows_put _ O.admLastCost _ (w := 4) rfl rfl
  · unfold shows
    rw [State.nat_put_ne (by decide)]
    exact shows_put _ O.admLastBudget _ (w := 4) rfl rfl

@[simp] theorem State.afterAdmission_fields (s : State) (nb : Bool) :
    (s.afterAdmission nb).adm.stage = s.adm.stage ∧ (s.afterAdmission nb).adm.pending = s.adm.pending ∧ (s.afterAdmission nb).hif = s.hif := by
  have hadm := foldl_keeps State.adm (g := fun s n => s.powerIsl (9 + n)) (fun _ _ => by simp) (s.rseIslands nb) s
  have hhif := foldl_keeps State.hif (g := fun s n => s.powerIsl (9 + n)) (fun _ _ => by simp) (s.rseIslands nb) s
  simp [State.afterAdmission, State.resume_hif, hadm, hhif]

theorem State.afterAdmission_nat (s : State) (nb : Bool) {q : Obj} (hpromise : touched 885443715538065817600 q.key = false)
    (hrelief : touched 65024 q.key = false) : (s.afterAdmission nb).nat q = s.nat q := by
  rw [State.afterAdmission, State.settleRelief_nat _ hrelief, (State.resume_vals _ 0 hpromise).2.2.1]
  exact foldl_keeps (State.nat · q) (fun _ _ => by simp) (s.rseIslands nb) s

section
variable {s : State} {f : Frame} {rest : List Frame} {i : CostIn} {rho gen : Nat} {nb : Bool} (hw : s.adm.waiting = f :: rest)
  (hst : s.adm.stage = .finalCosting i rho gen nb)
include hw hst

theorem cmdFinalCostingDone_over (h : i.e < frameCost .full i f.bin.units) :
    cmdFinalCostingDone s = s.dropHead.refuseFrame f (State.costRefusal i rho gen f.bin.units) := by
  simp only [cmdFinalCostingDone, hw, hst, if_pos h]

variable (hfits : frameCost .full i f.bin.units ≤ i.e)
include hfits

theorem cmdFinalCostingDone_direct (hd : s.hif.direct = true) : cmdFinalCostingDone s = s.refuseHead f 0x0105 := by
  simp only [cmdFinalCostingDone, hw, hst, if_neg (Nat.not_lt.mpr hfits), if_pos hd]

variable (hd : s.hif.direct = false)
include hd

theorem cmdFinalCostingDone_holdup (hh : s.nat O.pwrHoldupState ≠ 0) : cmdFinalCostingDone s = s.refuseHead f 0x1105 := by
  simp only [cmdFinalCostingDone, hw, hst, if_neg (Nat.not_lt.mpr hfits), hd, Bool.false_eq_true, if_false, if_pos hh]

theorem cmdFinalCostingDone_admits (hh : s.nat O.pwrHoldupState = 0) :
    cmdFinalCostingDone s =
      (((s.pendHead f (s.admitted f i rho gen nb) (admittedReport f i rho gen)).showOverlay f).recordAdmission f i).afterAdmission nb := by
  simp only [cmdFinalCostingDone, hw, hst, if_neg (Nat.not_lt.mpr hfits), hd, Bool.false_eq_true, if_false, hh, ne_eq, not_true_eq_false]
  rfl

/-- An admitted frame becomes the pending one, with its entry, its count and its costing shown (R192, R195). -/
theorem cmdFinalCostingDone_admitted (hh : s.nat O.pwrHoldupState = 0) :
    (cmdFinalCostingDone s).adm.pending = some (s.admitted f i rho gen nb) ∧ (cmdFinalCostingDone s).adm.stage = .idle ∧
    completes s (cmdFinalCostingDone s) [(.admission, 0)] ∧ counts s (cmdFinalCostingDone s) O.admAdmittedCount 1 ∧
    shows (cmdFinalCostingDone s) O.admLastCost (frameCost .full i f.bin.units) ∧ shows (cmdFinalCostingDone s) O.admLastBudget i.e := by
  rw [cmdFinalCostingDone_admits hw hst hfits hd hh]
  obtain ⟨hcount, hcost, hbudget⟩ :=
    ((s.pendHead f (s.admitted f i rho gen nb) (admittedReport f i rho gen)).showOverlay f).recordAdmission_shows f i
  have hentry := s.pendHead_completes f (s.admitted f i rho gen nb) (admittedReport f i rho gen)
  refine ⟨by simp, by simp, completes_congr rfl (by simp) hentry, ?_, ?_, ?_⟩
  · refine counts_congr ?_ (State.afterAdmission_nat _ nb (by decide +kernel) (by decide +kernel)) hcount
    rw [State.showOverlay_nat _ _ (by decide), State.pendHead_nat _ _ _ _ (by decide +kernel)]
  · rwa [shows, State.afterAdmission_nat _ nb (by decide +kernel) (by decide +kernel)]
  · rwa [shows, State.afterAdmission_nat _ nb (by decide +kernel) (by decide +kernel)]

end

/-- Settles O24: each outcome of the two commands, every refusal by `refusedHead_refuseHead` or `refusedHead_refuseFrame`. -/
theorem admissionDecision : Obligations.AdmissionDecision := by
  unfold Obligations.AdmissionDecision
  refine ⟨fun s f rest r hdie hw hst hres => ?_, fun s f rest i rho gen nb hdie hw hst => ?_⟩
  · intro nb late behind
    refine ⟨fun hlate => gives_of_live hdie rfl ?_, fun hintime hbehind => gives_of_live hdie rfl ?_,
      fun hintime hahead hgen hbad hsub => gives_of_live hdie rfl ?_⟩
    · rw [cmdFinalCostingStart_late hw hst hres hlate]
      exact refusedHead_refuseHead s f 0x0904
    · obtain ⟨hnew, hgrid, hepoch⟩ := hbehind
      rw [cmdFinalCostingStart_behind hw hst hres hintime hnew hgrid hepoch]
      exact refusedHead_refuseHead s f 0x0B07
    · rw [cmdFinalCostingStart_binned hw hst hres hintime hahead hgen (s.binRefusal_none hbad hsub), hw]
      exact ⟨rfl, rfl⟩
  · intro k
    refine ⟨fun hover => gives_of_live hdie rfl ?_, fun hfits hd => gives_of_live hdie rfl ?_,
      fun hfits hd hh => gives_of_live hdie rfl ?_, fun hfits hd hh => gives_of_live hdie rfl ?_⟩
    · rw [cmdFinalCostingDone_over hw hst hover]
      exact refusedHead_refuseFrame s f (State.costRefusal i rho gen f.bin.units)
    · rw [cmdFinalCostingDone_direct hw hst hfits hd]
      exact refusedHead_refuseHead s f 0x0105
    · rw [cmdFinalCostingDone_holdup hw hst hfits hd hh]
      exact refusedHead_refuseHead s f 0x1105
    · obtain ⟨hpending, hrest⟩ := cmdFinalCostingDone_admitted hw hst hfits hd hh
      exact ⟨⟨_, hpending, rfl, rfl, rfl, rfl, rfl, rfl⟩, hrest⟩

end Sys2Proof.Machine
end

section
/-! The rail sequences of panel power: a step of the walk up or down, its end, and a fault of a rail (R255 to R258, R420). -/

namespace Sys2Proof.Machine

/-! ## The instant, a rail's bit, and the order of the rails -/

theorem State.elapseTo_reached (s : State) (t : Nat) : t ≤ (s.elapseTo t).clk.now := by
  unfold State.elapseTo
  split
  · split
    · exact Nat.le_refl t
    · simp only [tickBy]; omega
  · omega

theorem State.elapseTo_clock (s : State) (t : Nat) : s.clk.now ≤ (s.elapseTo t).clk.now := by
  unfold State.elapseTo
  split
  · next h =>
    split
    · exact Nat.le_of_lt h
    · exact Nat.le_add_right _ _
  · exact Nat.le_refl _

theorem bitOf_sub_own (n b : Nat) : bitOf (n - if bitOf n b then 2 ^ b else 0) b = false := by
  split
  · next h =>
    have hdiv : (n - 2 ^ b) / 2 ^ b = n / 2 ^ b - 1 := by simpa using Nat.sub_mul_div n (2 ^ b) 1
    simp only [bitOf_testBit, Nat.testBit_eq_decide_div_mod_eq, hdiv, decide_eq_true_eq, decide_eq_false_iff_not] at h ⊢
    omega
  · next h => simpa using h

/-- The status register of the rails holds six of the bits that are put into it. -/
theorem bitOf_railPgStatus_put (s : State) (v : Nat) (r : Fin 6) : bitOf ((s.put O.railPgStatus v).nat O.railPgStatus) r = bitOf v r := by
  have hfit : (s.put O.railPgStatus v).nat O.railPgStatus = v % 2 ^ 8 := by rw [State.nat_put_same, Ty.fit_unsigned (w := 1) rfl rfl]
  have hr : r.val < 8 := Nat.lt_of_lt_of_le r.isLt (by decide)
  rw [hfit, bitOf_testBit, bitOf_testBit, Nat.testBit_mod_two_pow]
  simp [hr]

theorem rails_congr {s t : State} (h : t.oct O.railOrder = s.oct O.railOrder) : t.rails = s.rails := by
  unfold State.rails; rw [h]

@[simp] theorem State.elapseTo_rails (s : State) (t : Nat) : (s.elapseTo t).rails = s.rails := rails_congr (by simp)

@[simp] theorem State.elapseTo_lastOn (s : State) (t n : Nat) : (s.elapseTo t).lastOn n = s.lastOn n := lastOn_congr (by simp) (by simp) n

theorem State.lastOn_lt {s : State} {n k : Nat} (h : s.lastOn n = some k) : k < n := by
  simpa using List.mem_of_find?_eq_some h

theorem State.lastOn_isSome {s : State} {n i r : Nat} (hi : i < n) (hr : s.rails[i]? = some r) (hen : bitOf s.pwr.en r = true) : (s.lastOn n).isSome = true := by
  unfold State.lastOn
  rw [List.find?_isSome]
  exact ⟨i, by simpa using hi, by simpa [List.getD_eq_getElem?_getD, hr] using hen⟩

/-! ## What a frame keeps of the sequence -/

section
variable {c r : Nat} {s t : State} (h : Fr0 c r s t)
include h

theorem pwr_of_fr (hw : c.testBit 18 = false) : t.pwr = s.pwr := (h.1 .pwr hw).symm

theorem clk_of_fr (hk : c.testBit 3 = false) : t.clk = s.clk := (h.1 .clk hk).symm

theorem log_of_fr (hl : c.testBit 32 = false) : t.log = s.log := (h.1 .log hl).symm

theorem lastOn_of_fr (hp : c.testBit 0 = false) (hc : c.testBit 5 = false) (hw : c.testBit 18 = false) (hr : r < 2 ^ 247)
    (ho : touched r O.railOrder.key = false) (n : Nat) : t.lastOn n = s.lastOn n :=
  lastOn_congr (congrArg Pwr.en (pwr_of_fr h hw)) (vals_of_fr h hp hc hr ho).2.2.2.2 n

end

/-- The mask of all objects that panel power's way to ON changes through the shared operations. -/
def risingMask : Nat := 4685488757320929247232

/-- The mask of all objects that panel power's walks and faults change through the shared operations. -/
def panelMask : Nat := 10384593717390757746914653526687750

set_option maxRecDepth 20000 in
/-- The reduction goes through the table of objects, hence its depth. -/
theorem risingMask_untouched : touched risingMask O.panelPowerState.key = false := by decide

set_option maxRecDepth 20000 in
/-- The reduction goes through the table of objects, hence its depth. -/
theorem panelMask_untouched : ∀ o ∈ [O.railOrder, O.panelPowerEnable], touched panelMask o.key = false := by decide

/-- The shared operations on the way to ON leave panel power's state alone. -/
theorem panelPowerState_untouched {m : Nat} (hm : risingMask ||| m = risingMask) : touched m O.panelPowerState.key = false :=
  touched_of_submask hm risingMask_untouched

theorem railOrder_untouched {m : Nat} (hm : panelMask ||| m = panelMask) : touched m O.railOrder.key = false :=
  touched_of_submask hm (panelMask_untouched _ (by simp))

theorem panelPowerEnable_untouched {m : Nat} (hm : panelMask ||| m = panelMask) : touched m O.panelPowerEnable.key = false :=
  touched_of_submask hm (panelMask_untouched _ (by simp))

/-! ## A step of the walk up or down -/

/-- The next rail up: its good is awaited unless it shows already (R256). -/
theorem startRail_next {s : State} {i r : Nat} (hr : s.rails[i]? = some r) :
    (s.startRail i).pwr.phase = (if bitOf (s.nat O.railPgStatus) r then .stepDelay i else .waitPg i) := by
  have hpg : (((s.railOn r).phase (.waitPg i)).nat O.railPgStatus) = s.nat O.railPgStatus := by simp [phase_nat, State.railOn]
  unfold State.startRail
  simp only [hr, hpg]
  split
  · rfl
  · rfl

theorem startRail_clk (s : State) (i : Nat) : (s.startRail i).clk = s.clk :=
  clk_of_fr (State.startRail_fr (c := 31140364800) (r := 9426301984264284143616) rfl rfl (fr_refl s)) rfl

theorem startRail_last {s : State} {i : Nat} (hr : s.rails[i]? = none) : s.startRail i = s.panelOn := by
  simp only [State.startRail, hr]

/-- The next rail down: it is turned off, and its fall is awaited unless it shows already (R257). -/
theorem railsOff_next {s : State} {n k : Nat} (hk : s.lastOn n = some k) :
    ∃ p, s.railsOff n = s.modPwr (fun _ => p) ∧ bitOf p.en (s.rails.getD k 6) = false ∧ (p.phase = .waitFall k ∨ p.phase = .offDelay k) := by
  unfold State.railsOff
  simp only [hk]
  split
  · exact ⟨((s.railOff _).phase (.waitFall k)).pwr, by simp only [State.phase, State.railOff, State.modPwr], bitOf_sub_own s.pwr.en _, .inl rfl⟩
  · exact ⟨(((s.railOff _).phase (.waitFall k)).phase (.offDelay k)).pwr, by simp only [State.phase, State.railOff, State.modPwr], bitOf_sub_own s.pwr.en _, .inr rfl⟩

/-- Behind the last rail down, with no enable held, panel power is OFF (R257). -/
theorem railsOff_done {s : State} {n : Nat} (hlast : s.lastOn n = none) (hheld : s.held.contains Fn.panel = false) :
    (s.railsOff n).nat O.panelPowerState = 0 ∧ (s.railsOff n).pwr.phase = .rest := by
  have he : s.railsOff n = (({ s with held := s.held.filter fun f => f != Fn.panel } : State).phase .rest).put O.panelPowerState 0 := by
    simp only [State.railsOff, hlast, State.panelOff, hheld, Bool.false_eq_true, if_false]
  rw [he]
  exact ⟨State.nat_put_fits _ O.panelPowerState 0 (w := 1) rfl rfl (by decide), by simp [State.phase]⟩

theorem panelStart_clock (s : State) : s.clk.now ≤ s.panelStart.clk.now := by
  unfold State.panelStart
  split
  · simp
  · rw [startRail_clk, (State.put_fields ..).2.2.2.1]
    exact s.elapseTo_clock _

theorem panelOff_clock (s : State) : s.clk.now ≤ s.panelOff.clk.now := by
  let off : State := (({ s with held := s.held.filter fun f => f != Fn.panel } : State).phase .rest).put O.panelPowerState 0
  have hoff : s.clk.now = off.clk.now := by simp only [off, State.phase, State.put_fields, State.modPwr_fields]
  have he : s.panelOff = if s.held.contains Fn.panel then off.panelStart else off := rfl
  rw [he]
  split
  · exact Nat.le_trans (Nat.le_of_eq hoff) (panelStart_clock off)
  · exact Nat.le_of_eq hoff

/-- The walk down never turns time back, whether it ends or starts again (R45, R257). -/
theorem railsOff_clock (s : State) (n : Nat) : s.clk.now ≤ (s.railsOff n).clk.now := by
  cases hk : s.lastOn n with
  | some k =>
    obtain ⟨p, hp, -⟩ := railsOff_next hk
    exact Nat.le_of_eq (by simp only [hp, State.modPwr_fields])
  | none =>
    simp only [State.railsOff, hk]
    exact panelOff_clock s

/-! ## Panel power reaches ON -/

theorem endHoldup_phase (s : State) : s.endHoldup.pwr.phase = s.pwr.phase := by
  unfold State.endHoldup
  split
  · rfl
  · simp [State.pwrNote]

/-- Every head is trained or started once panel power is ON (R240, R256). -/
def State.wakeHeads (s : State) : State :=
  (List.range 2).foldl (fun s h => if s.headState h = 0 && s.headEnabled h then s.headStarting h else s.startSlots h) s

theorem panelOn_eq (s : State) : s.panelOn = (((s.put O.panelPowerState 2).phase .rest).settle 13 0).wakeHeads.endHoldup := rfl

/-- The panel's faults end and its heads wake without a change of panel power or of the sequencer. -/
theorem wakeHeads_settle_frame (s : State) : Fr0 31140102656 4685488757320929247232 s (s.settle 13 0).wakeHeads :=
  fr0_foldl (fun _ _ h => fr0_ite (fun _ => State.headStarting_fr rfl rfl h) (fun _ => State.startSlots_fr rfl rfl h)) (State.settle_fr rfl rfl (fr_refl s))

theorem railView_state {s t : State} (h : railView t = railView s) : t.nat O.panelPowerState = s.nat O.panelPowerState := congrArg Prod.fst h

theorem panelOn_state (s : State) : s.panelOn.nat O.panelPowerState = 2 ∧ s.panelOn.pwr.phase = .rest := by
  have hon : ((s.put O.panelPowerState 2).phase .rest).nat O.panelPowerState = 2 :=
    (phase_nat ..).trans (State.nat_put_fits s O.panelPowerState 2 (w := 1) rfl rfl (by decide))
  have hrest : ((s.put O.panelPowerState 2).phase .rest).pwr.phase = .rest := by simp [State.phase]
  rw [panelOn_eq]
  generalize (s.put O.panelPowerState 2).phase .rest = on at hon hrest
  have hframe := wakeHeads_settle_frame on
  have hstate := (vals_of_fr hframe rfl rfl (by decide) (panelPowerState_untouched rfl)).2.2.1
  exact ⟨(railView_state (railView_endHoldup _)).trans (hstate.trans hon), by rw [endHoldup_phase, pwr_of_fr hframe rfl, hrest]⟩

/-! ## A fault of a rail stops panel power -/

theorem logGrows_endHoldup (s : State) : logGrows s s.endHoldup := by
  unfold State.endHoldup State.pwrNote State.note
  split
  · exact logGrows_of_eq rfl
  · exact ((logGrows_of_eq (by simp)).trans (logGrows_postWith _ false 0x1104 [])).trans (logGrows_resume _ 2)

/-- The heads' way down leaves the clock, the log and every object but the heads' own. -/
theorem headDown_fr {c r : Nat} {s0 s : State} (h : Nat) (hc : c ||| 17180393472 = c) (hr : r ||| 9444748728337986224128 = r) (h0 : Fr0 c r s0 s) :
    Fr0 c r s0 (headDown s h) :=
  fr0_ite (fun _ => State.setHead_fr (su rfl hc) (su rfl hr) h0)
    (fun _ => fr0_ite (fun _ => State.setHead_fr (su rfl hc) (su rfl hr) (State.stopSlots_fr (su rfl hc) (su rfl hr) h0)) (fun _ => h0))

theorem panelDown_frame (s : State) : Fr0 22549364736 15071005670819406938112 s (panelDown s) := by
  have hstop : Fr0 22549364736 15071005670819406938112 s ((s.put O.panelPowerState 3).phase .stopHeads) :=
    State.phase_fr rfl rfl (State.put_fr rfl rfl (fr_refl s) (O.panelPowerState_ok rfl))
  have hheads := fr0_foldl (l := List.range 2) (fun _ h => headDown_fr h rfl rfl) hstop
  exact fr0_ite (fun _ => hheads) (fun _ => State.endHoldup_fr rfl rfl hheads)

theorem logGrows_panelDown (s : State) : logGrows s (panelDown s) := by
  let stop : State := (s.put O.panelPowerState 3).phase .stopHeads
  have hheads : Fr0 17180393472 9444748728337986224128 stop ((List.range 2).foldl headDown stop) :=
    fr0_foldl (fun _ h => headDown_fr h rfl rfl) (fr_refl stop)
  have hlog : ((List.range 2).foldl headDown stop).log = s.log := (log_of_fr hheads rfl).trans (by simp [stop, State.phase])
  unfold panelDown
  dsimp only
  split
  · exact logGrows_of_eq hlog
  · exact (logGrows_of_eq hlog).trans (logGrows_endHoldup _)

/-- While a rail is on, the rails' turn is a matter of the power sequencer alone (R257). -/
theorem railsWhenHeadsStopped_pwr {s : State} (h : (s.lastOn 6).isSome = true) : ∃ p, s.railsWhenHeadsStopped = s.modPwr fun _ => p := by
  obtain ⟨k, hk⟩ := Option.isSome_iff_exists.mp h
  unfold State.railsWhenHeadsStopped
  split
  · obtain ⟨p, hp, -⟩ := railsOff_next hk
    exact ⟨p, hp⟩
  · exact ⟨s.pwr, rfl⟩

/-- Panel power that stops with a rail on is STOPPING, and leaves its enable and the clock (R257). -/
theorem panelStop_stopping {s : State} (h : (s.lastOn 6).isSome = true) :
    s.panelStop.nat O.panelPowerState = 3 ∧ s.panelStop.flag O.panelPowerEnable = s.flag O.panelPowerEnable ∧ s.panelStop.clk = s.clk ∧
    logGrows s s.panelStop := by
  have hframe := panelDown_frame s
  have henable : (panelDown s).flag O.panelPowerEnable = s.flag O.panelPowerEnable := (vals_of_fr hframe rfl rfl (by decide) (panelPowerEnable_untouched rfl)).2.2.2.1
  obtain ⟨-, hen, hord⟩ : (panelDown s).nat O.panelPowerState = 3 ∧ (panelDown s).pwr.en = s.pwr.en ∧ (panelDown s).oct O.railOrder = s.oct O.railOrder := by
    simpa [railView] using railView_panelDown s
  obtain ⟨p, hp⟩ := railsWhenHeadsStopped_pwr (s := panelDown s) (by rwa [lastOn_congr hen hord])
  refine ⟨panelStop_state h, ?_⟩
  rw [panelStop_eq, hp]
  simp only [State.modPwr_vals, State.modPwr_fields]
  exact ⟨henable, clk_of_fr hframe rfl, (logGrows_panelDown s).trans (logGrows_of_eq (by simp))⟩

/-- The fault's last step: the enable is cleared and panel power stops (R258). -/
def State.endEnable (s : State) : State := (s.putB O.panelPowerEnable false).panelStop

theorem endEnable_stopping {s : State} (h : (s.lastOn 6).isSome = true) :
    s.endEnable.nat O.panelPowerState = 3 ∧ s.endEnable.flag O.panelPowerEnable = false ∧ s.endEnable.clk = s.clk ∧ logGrows s s.endEnable := by
  have hlast : (s.putB O.panelPowerEnable false).lastOn 6 = s.lastOn 6 := lastOn_congr (by simp) (State.oct_put_ne (by decide)) 6
  obtain ⟨hst, henable, hclk, hlog⟩ := panelStop_stopping (s := s.putB O.panelPowerEnable false) (by rwa [hlast])
  refine ⟨hst, henable.trans ?_, hclk.trans (by simp), (logGrows_of_eq (by simp)).trans hlog⟩
  unfold State.putB
  rw [State.flag_put_same]
  rfl

/-- A RAIL fault is recorded at its instant: shown, counted and logged (R258, R490). -/
def State.railFaultAt (s : State) (t code r : Nat) : State := ((s.elapseTo t).put O.pwrLastStatus code).raise 13 0 0 code [r]

theorem railFaultAt_keeps (s : State) (t code r : Nat) :
    (s.railFaultAt t code r).lastOn 6 = s.lastOn 6 ∧ t ≤ (s.railFaultAt t code r).clk.now ∧ logged s (s.railFaultAt t code r) (code, [r]) := by
  let u : State := (s.elapseTo t).put O.pwrLastStatus code
  have hframe : Fr0 31139577856 306916927898379527127040 u (s.railFaultAt t code r) := State.raise_fr rfl rfl (fr_refl u)
  have hlast : u.lastOn 6 = s.lastOn 6 := lastOn_congr (by simp) ((State.oct_put_ne (by decide)).trans (by simp)) 6
  refine ⟨(lastOn_of_fr hframe rfl rfl rfl (by decide) (railOrder_untouched rfl) 6).trans hlast, ?_, logged_raise s u 13 0 0 code [r] (by simp [u])⟩
  rw [clk_of_fr hframe rfl, (State.put_fields ..).2.2.2.1]
  exact s.elapseTo_reached t

theorem logGrows_promiseBroken (s : State) (f : Frame) (status : Nat) : logGrows s (s.promiseBroken f status) := by
  unfold State.promiseBroken
  split
  · exact logGrows_put _ _ (logGrows_postWith s false 0x0912 _)
  · exact logGrows_of_eq rfl

theorem logGrows_cutFirstScan (s : State) (code : Nat) : logGrows s (s.cutFirstScan code) := by
  unfold State.cutFirstScan
  split
  · exact logGrows_of_eq rfl
  · dsimp only
    split
    · exact logGrows_of_eq rfl
    · split
      · exact logGrows_of_eq rfl
      · next f _ _ =>
        have hentry : ∀ u : State, (u.presentedEntry f code s.scan.lineZeroAt).log = u.log := fun u =>
          log_of_fr (State.presentedEntry_fr (c := 18253611008) (r := 6) rfl rfl (fr_refl u)) rfl
        rw [if_pos rfl]
        exact logGrows.trans (logGrows_of_eq (hentry (s.modScan _))) (logGrows_promiseBroken _ f code)

/-- A rail lost while ON blanks the heads, cuts off what they show and takes them off their lanes (R258). -/
def State.blankHeads (s : State) : State :=
  (((((s.sendAbort s.lineNow).sendBlank.cutFirstScan 0x1102).cutDirect 0x1102).put O.panelPowerState 3).dropHeads).modScan fun x => { x with stopCode := some 0x1102 }

theorem blankHeads_keeps (s : State) : s.blankHeads.lastOn 6 = s.lastOn 6 ∧ s.blankHeads.clk = s.clk ∧ logGrows s s.blankHeads := by
  let sent : State := (s.sendAbort s.lineNow).sendBlank
  let cut : State := sent.cutFirstScan 0x1102
  have hsent : Fr0 17180393472 0 s sent := State.sendBlank_fr rfl rfl (State.sendAbort_fr rfl rfl (fr_refl s))
  have hcut : Fr0 22549626880 10384593717069655257060992665780230 sent cut := State.cutFirstScan_fr rfl rfl (fr_refl sent)
  have hdrop : Fr0 18255184640 9463195472411695775750 cut s.blankHeads :=
    State.modScan_fr rfl rfl (State.dropHeads_fr rfl rfl (State.put_fr rfl rfl (State.cutDirect_fr rfl rfl (fr_refl cut)) (O.panelPowerState_ok rfl)))
  have hlast : s.blankHeads.lastOn 6 = s.lastOn 6 :=
    (lastOn_of_fr hdrop rfl rfl rfl (by decide) (railOrder_untouched rfl) 6).trans <|
      (lastOn_of_fr hcut rfl rfl rfl (by decide) (railOrder_untouched rfl) 6).trans (lastOn_of_fr hsent rfl rfl rfl (by decide) (railOrder_untouched rfl) 6)
  have hclk : s.blankHeads.clk = s.clk := ((clk_of_fr hdrop rfl).trans (clk_of_fr hcut rfl)).trans (clk_of_fr hsent rfl)
  have hlog := ((logGrows_of_eq (log_of_fr hsent rfl)).trans (logGrows_cutFirstScan sent 0x1102)).trans (logGrows_of_eq (log_of_fr hdrop rfl))
  exact ⟨hlast, hclk, hlog⟩

/-! ## The commands -/

/-- A rail's good shows, and its count of a fault is gone (R256, R258). -/
def State.pgShown (s : State) (r : Nat) : State :=
  (s.put O.railPgStatus (Nat.lor (s.nat O.railPgStatus) (2 ^ r))).modPwr fun p => { p with pgLowAt := p.pgLowAt.filter (·.1 != r) }

/-- A rail's good is gone, and its count of a fault runs (R257, R258). -/
def State.pgGone (s : State) (r : Nat) : State :=
  (s.put O.railPgStatus (if bitOf (s.nat O.railPgStatus) r then s.nat O.railPgStatus - 2 ^ r else s.nat O.railPgStatus : Nat)).modPwr fun p =>
    { p with pgLowAt := (r, s.clk.now) :: p.pgLowAt.filter (·.1 != r) }

section
variable (s : State) (r : Fin 6)

theorem pgShown_good : bitOf ((s.pgShown r).nat O.railPgStatus) r = true := by
  have h := bitOf_railPgStatus_put s (Nat.lor (s.nat O.railPgStatus) (2 ^ r.val)) r
  simp only [State.pgShown, State.modPwr_vals, h, bitOf_lor]

theorem pgGone_low : bitOf ((s.pgGone r).nat O.railPgStatus) r = false := by
  have hsub : (if bitOf (s.nat O.railPgStatus) r then s.nat O.railPgStatus - 2 ^ r.val else s.nat O.railPgStatus) =
      s.nat O.railPgStatus - if bitOf (s.nat O.railPgStatus) r then 2 ^ r.val else 0 := by split <;> rfl
  simp only [State.pgGone, State.modPwr_vals, hsub, bitOf_railPgStatus_put, bitOf_sub_own]

theorem pgShown_sequence : (s.pgShown r).rails = s.rails ∧ (s.pgShown r).pwr.phase = s.pwr.phase ∧ (s.pgShown r).clk = s.clk :=
  ⟨rails_congr (by simp only [State.pgShown, State.modPwr_vals]; exact State.oct_put_ne (by decide)), by simp [State.pgShown], by simp [State.pgShown]⟩

theorem pgGone_sequence : (s.pgGone r).rails = s.rails ∧ (s.pgGone r).pwr.phase = s.pwr.phase ∧ (s.pgGone r).clk = s.clk ∧
    (s.pgGone r).pwr.pgLowAt.head? = some (r.val, s.clk.now) :=
  ⟨rails_congr (by simp only [State.pgGone, State.modPwr_vals]; exact State.oct_put_ne (by decide)), by simp [State.pgGone], by simp [State.pgGone],
    by simp [State.pgGone]⟩

/-- The rise of a rail's good shows it, and moves at most the phase (R256). -/
theorem cmdRailPgRise_cases : cmdRailPgRise s r = s.pgShown r ∨ ∃ p, cmdRailPgRise s r = (s.pgShown r).phase p := by
  unfold cmdRailPgRise
  generalize hu : State.modPwr _ _ = u
  obtain rfl : s.pgShown r = u := hu
  dsimp only
  split
  · split
    · exact .inr ⟨_, rfl⟩
    · exact .inl rfl
  · exact .inl rfl

/-- The fall of a rail's good shows it, and moves at most the phase (R257). -/
theorem cmdPgPanelFall_cases : cmdPgPanelFall s r = s.pgGone r ∨ ∃ p, cmdPgPanelFall s r = (s.pgGone r).phase p := by
  unfold cmdPgPanelFall
  dsimp only
  generalize hu : State.modPwr _ _ = u
  obtain rfl : s.pgGone r = u := hu
  split
  · split
    · exact .inr ⟨_, rfl⟩
    · exact .inl rfl
  · exact .inl rfl

theorem cmdRailPgRise_good : bitOf ((cmdRailPgRise s r).nat O.railPgStatus) r = true := by
  rcases cmdRailPgRise_cases s r with he | ⟨p, he⟩
  · rw [he, pgShown_good]
  · rw [he, phase_nat, pgShown_good]

theorem cmdPgPanelFall_low : bitOf ((cmdPgPanelFall s r).nat O.railPgStatus) r = false ∧ (cmdPgPanelFall s r).pwr.pgLowAt.head? = some (r.val, s.clk.now) := by
  obtain ⟨-, -, -, hhead⟩ := pgGone_sequence s r
  rcases cmdPgPanelFall_cases s r with he | ⟨p, he⟩
  · rw [he]
    exact ⟨pgGone_low s r, hhead⟩
  · rw [he, phase_nat]
    exact ⟨pgGone_low s r, hhead⟩

variable {s r} {i : Nat}

/-- The rise of the good that is awaited starts the delay to the next rail (R256). -/
theorem cmdRailPgRise_awaited (hp : s.pwr.phase = .waitPg i) (hr : s.rails[i]? = some r.val) : cmdRailPgRise s r = (s.pgShown r).phase (.stepDelay i) := by
  obtain ⟨hrails, hphase, -⟩ := pgShown_sequence s r
  unfold cmdRailPgRise
  generalize hu : State.modPwr _ _ = u
  obtain rfl : s.pgShown r = u := hu
  simp only [hphase, hp, hrails, hr, if_true]

/-- The fall of the good that is awaited starts the delay to the rail before (R257). -/
theorem cmdPgPanelFall_awaited (hp : s.pwr.phase = .waitFall i) (hr : s.rails[i]? = some r.val) : cmdPgPanelFall s r = (s.pgGone r).phase (.offDelay i) := by
  obtain ⟨hrails, hphase, -⟩ := pgGone_sequence s r
  unfold cmdPgPanelFall
  dsimp only
  generalize hu : State.modPwr _ _ = u
  obtain rfl : s.pgGone r = u := hu
  simp only [hphase, hp, hrails, hr, if_true]

end

section
variable {s : State} {i : Nat}

theorem cmdRailStepDelay_eq (hp : s.pwr.phase = .stepDelay i) :
    cmdRailStepDelay s = (s.elapseTo (s.pwr.since + s.nat O.railStepDelay * 1000000)).startRail (i + 1) := by
  simp only [cmdRailStepDelay, hp]

/-- The delay behind a rail ends with the next rail enabled (R256). -/
theorem cmdRailStepDelay_next {r : Nat} (hp : s.pwr.phase = .stepDelay i) (hr : s.rails[i + 1]? = some r) :
    bitOf (cmdRailStepDelay s).pwr.en r = true ∧
    (cmdRailStepDelay s).pwr.phase = (if bitOf (s.nat O.railPgStatus) r then .stepDelay (i + 1) else .waitPg (i + 1)) ∧
    (cmdRailStepDelay s).nat O.panelPowerState = s.nat O.panelPowerState := by
  rw [cmdRailStepDelay_eq hp]
  generalize s.pwr.since + s.nat O.railStepDelay * 1000000 = t
  have hr' : (s.elapseTo t).rails[i + 1]? = some r := by rwa [State.elapseTo_rails]
  obtain ⟨hnat, hen⟩ := startRail_some hr'
  refine ⟨hen, (startRail_next hr').trans ?_, (hnat _).trans ?_⟩
  · simp only [State.elapseTo_vals]
  · simp only [State.elapseTo_vals]

/-- The delay behind the last rail ends with panel power ON (R256). -/
theorem cmdRailStepDelay_last (hp : s.pwr.phase = .stepDelay i) (hr : s.rails[i + 1]? = none) :
    (cmdRailStepDelay s).nat O.panelPowerState = 2 ∧ (cmdRailStepDelay s).pwr.phase = .rest := by
  rw [cmdRailStepDelay_eq hp, startRail_last (by rwa [State.elapseTo_rails])]
  exact panelOn_state _

theorem cmdRailStepDelay_reached (hp : s.pwr.phase = .stepDelay i) :
    s.pwr.since + s.nat O.railStepDelay * 1000000 ≤ (cmdRailStepDelay s).clk.now := by
  rw [cmdRailStepDelay_eq hp, startRail_clk]
  exact s.elapseTo_reached _

/-- A good that does not come in time stops panel power (R258). -/
theorem cmdRailPgTimeout_eq {r : Nat} (hp : s.pwr.phase = .waitPg i) (hr : s.rails[i]? = some r) :
    cmdRailPgTimeout s = (s.railFaultAt (s.pwr.since + s.nat O.railPgTimeout * 1000000) 0x1101 r).endEnable := by
  have hrail : s.rails.getD i 6 = r := by simp [List.getD_eq_getElem?_getD, hr]
  simp only [cmdRailPgTimeout, hp, State.elapseTo_rails, hrail, State.railFaultAt, State.endEnable, Int.cast_ofNat_Int]

/-- A good that is lost while ON stops panel power, once it was low for 100 µs (R258). -/
theorem cmdRailFault_eq {r t : Nat} (hlow : s.pwr.pgLowAt.find? (·.1 == r) = some (r, t)) (hon : s.nat O.panelPowerState = 2) (hen : bitOf s.pwr.en r = true) :
    cmdRailFault s r = (s.railFaultAt (t + 100000) 0x1102 r).blankHeads.endEnable := by
  simp only [cmdRailFault, hlow, hon, hen, ne_eq, not_true_eq_false, decide_false, Bool.not_true, Bool.or_self, Bool.false_eq_true, if_false,
    State.railFaultAt, State.blankHeads, State.endEnable, Int.cast_ofNat_Int]

/-- RAIL_OFF_STEP takes the next rail once the off delay is over, behind the time limit where the fall did not come (R257). -/
theorem cmdRailOffStep_eq (hp : s.pwr.phase = .waitFall i ∨ s.pwr.phase = .offDelay i) :
    ∃ t, s.pwr.since + s.nat O.railOffDelay * 1000000 ≤ t ∧ cmdRailOffStep s = (s.elapseTo t).railsOff i := by
  rcases hp with hp | hp
  · refine ⟨s.pwr.since + s.nat O.railPgTimeout * 1000000 + s.nat O.railOffDelay * 1000000, by omega, ?_⟩
    simp only [cmdRailOffStep, hp]
  · refine ⟨s.pwr.since + s.nat O.railOffDelay * 1000000, Nat.le_refl _, ?_⟩
    simp only [cmdRailOffStep, hp]

/-- RAIL_OFF_STEP turns the next rail off, or ends with panel power OFF (R257). -/
theorem cmdRailOffStep_walks (hp : s.pwr.phase = .waitFall i ∨ s.pwr.phase = .offDelay i) :
    s.pwr.since + s.nat O.railOffDelay * 1000000 ≤ (cmdRailOffStep s).clk.now ∧
    (∀ k, s.lastOn i = some k → bitOf (cmdRailOffStep s).pwr.en (s.rails.getD k 6) = false ∧
      ((cmdRailOffStep s).pwr.phase = .waitFall k ∨ (cmdRailOffStep s).pwr.phase = .offDelay k)) ∧
    (s.lastOn i = none → s.held.contains Fn.panel = false →
      (cmdRailOffStep s).nat O.panelPowerState = 0 ∧ (cmdRailOffStep s).pwr.phase = .rest) := by
  obtain ⟨t, ht, he⟩ := cmdRailOffStep_eq hp
  have hlast := s.elapseTo_lastOn t i
  rw [he]
  refine ⟨Nat.le_trans ht (Nat.le_trans (s.elapseTo_reached t) (railsOff_clock _ i)), fun k hk => ?_, fun hk hheld => railsOff_done (hlast.trans hk) (by simpa using hheld)⟩
  obtain ⟨p, hoff, hen, hphase⟩ := railsOff_next (hlast.trans hk)
  rw [s.elapseTo_rails] at hen
  simp only [hoff, State.modPwr_fields]
  exact ⟨hen, hphase⟩

/-- The rail of a place is turned off at the instant of the rail-down (R259). -/
def State.dropRail (s : State) (i : Nat) : State := (s.elapseTo s.pwr.since).railOff (s.rails.getD i 6)

theorem State.dropRail_low (s : State) (i : Nat) : bitOf (s.dropRail i).pwr.en (s.rails.getD i 6) = false := by
  simp only [State.dropRail, State.railOff, State.modPwr_fields, bitOf_sub_own]

theorem State.dropRail_reached (s : State) (i : Nat) : s.pwr.since ≤ (s.dropRail i).clk.now := by
  simpa only [State.dropRail, State.railOff, State.modPwr_fields] using s.elapseTo_reached s.pwr.since

theorem State.dropRail_nat (s : State) (i : Nat) (q : Obj) : (s.dropRail i).nat q = s.nat q := by
  simp [State.dropRail, State.railOff]

theorem cmdRailDownStep_die (s : State) : (cmdRailDownStep s).die = s.die :=
  ((cmdRailDownStep_fr (c := 262408) (r := 18446744073709551616) rfl rfl (fr_refl s)).1 .die rfl).symm

theorem cmdRailDownStep_next {k : Nat} (hp : s.pwr.phase = .down i) (hk : (s.dropRail i).lastOn i = some k) :
    cmdRailDownStep s = (s.dropRail i).modPwr fun p => { p with phase := .down k, since := p.since + 100000 } := by
  unfold State.dropRail at hk ⊢
  simp only [cmdRailDownStep, hp, hk]

theorem cmdRailDownStep_last (hp : s.pwr.phase = .down i) (hk : (s.dropRail i).lastOn i = none) : cmdRailDownStep s = (s.dropRail i).railsDown := by
  unfold State.dropRail at hk ⊢
  simp only [cmdRailDownStep, hp, hk]

theorem railsDown_state (s : State) : s.railsDown.nat O.panelPowerState = 0 ∧ s.railsDown.pwr = { s.pwr with phase := .rest } ∧ s.railsDown.clk = s.clk := by
  refine ⟨?_, by simp [State.railsDown], by simp [State.railsDown]⟩
  simp only [State.railsDown, State.modPwr_vals]
  exact State.nat_put_fits _ O.panelPowerState 0 (w := 1) rfl rfl (by decide)

/-- RAIL_DOWN_STEP turns its rail off and goes on to one below it, or ends with panel power OFF (R259, R420). -/
theorem cmdRailDownStep_walks (hp : s.pwr.phase = .down i) :
    s.pwr.since ≤ (cmdRailDownStep s).clk.now ∧ bitOf (cmdRailDownStep s).pwr.en (s.rails.getD i 6) = false ∧
    ((cmdRailDownStep s).pwr.phase = .rest ∧ (cmdRailDownStep s).nat O.panelPowerState = 0 ∨
      ∃ k, k < i ∧ (cmdRailDownStep s).pwr.phase = .down k ∧ (cmdRailDownStep s).nat O.panelPowerState = s.nat O.panelPowerState) := by
  have hreached := s.dropRail_reached i
  have hlow := s.dropRail_low i
  cases hk : (s.dropRail i).lastOn i with
  | none =>
    obtain ⟨hst, hpwr, hclk⟩ := railsDown_state (s.dropRail i)
    rw [cmdRailDownStep_last hp hk, hpwr, hclk]
    exact ⟨hreached, hlow, .inl ⟨rfl, hst⟩⟩
  | some k =>
    have hst := s.dropRail_nat i O.panelPowerState
    rw [cmdRailDownStep_next hp hk]
    simp only [State.modPwr_fields, State.modPwr_vals]
    exact ⟨hreached, hlow, .inr ⟨k, State.lastOn_lt hk, rfl, hst⟩⟩

end

/-- Settles O40: each command by its own rule, a walk's end by `panelOn_state` and `railsOff_done`, a fault by `endEnable_stopping`. -/
theorem panelRails : Obligations.PanelRails := by
  unfold Obligations.PanelRails
  refine ⟨fun s r hdie => ⟨gives_of_live hdie rfl ?_, gives_of_live hdie rfl ?_, fun at' i hlow hon hen hi hr => gives_of_live hdie rfl ?_⟩,
    fun s i hdie => ⟨fun hp => gives_of_live hdie rfl ?_, fun r hp hi hr hen => gives_of_live hdie rfl ?_, fun hp => gives_of_live hdie rfl ?_⟩,
    fun s i hp => ⟨cmdRailDownStep s, rfl, ?_⟩⟩
  · refine ⟨cmdRailPgRise_good s r, fun i hp hr => ?_⟩
    obtain ⟨-, -, hclk⟩ := pgShown_sequence s r
    rw [cmdRailPgRise_awaited hp hr]
    exact ⟨rfl, congrArg Clock.now hclk⟩
  · obtain ⟨hlow, hhead⟩ := cmdPgPanelFall_low s r
    refine ⟨hlow, hhead, fun i hp hr => ?_⟩
    obtain ⟨-, -, hclk, -⟩ := pgGone_sequence s r
    rw [cmdPgPanelFall_awaited hp hr]
    exact ⟨rfl, congrArg Clock.now hclk⟩
  · obtain ⟨hlast, htime, hlogged⟩ := railFaultAt_keeps s (at' + 100000) 0x1102 r
    obtain ⟨hblank, hclk, hlog⟩ := blankHeads_keeps (s.railFaultAt (at' + 100000) 0x1102 r)
    have hsome : ((s.railFaultAt (at' + 100000) 0x1102 r).blankHeads.lastOn 6).isSome = true := by
      rw [hblank, hlast]
      exact State.lastOn_isSome hi hr hen
    obtain ⟨hst, henable, hend, hlog'⟩ := endEnable_stopping hsome
    rw [cmdRailFault_eq hlow hon hen]
    exact ⟨hst, henable, by rwa [hend, hclk], logged_then_grows hlogged (hlog.trans hlog')⟩
  · refine ⟨cmdRailStepDelay_reached hp, fun r hr => ?_, fun hr => ?_⟩
    · exact cmdRailStepDelay_next hp hr
    · exact cmdRailStepDelay_last hp hr
  · obtain ⟨hlast, htime, hlogged⟩ := railFaultAt_keeps s (s.pwr.since + s.nat O.railPgTimeout * 1000000) 0x1101 r
    have hsome : ((s.railFaultAt (s.pwr.since + s.nat O.railPgTimeout * 1000000) 0x1101 r).lastOn 6).isSome = true := by
      rw [hlast]
      exact State.lastOn_isSome hi hr hen
    obtain ⟨hst, henable, hend, hlog⟩ := endEnable_stopping hsome
    rw [cmdRailPgTimeout_eq hp hr]
    exact ⟨hst, henable, by rwa [hend], logged_then_grows hlogged hlog⟩
  · exact cmdRailOffStep_walks hp
  · obtain ⟨hreached, hlow, hturn⟩ := cmdRailDownStep_walks hp
    exact ⟨hreached, hlow, cmdRailDownStep_die s, hturn⟩

end Sys2Proof.Machine
end

section
/-! Rules for the panel link's state: a slot's record, what is sent on its lanes, the states of slots and lanes, and what the link's reports leave alone (R269 to R291). -/

namespace Sys2Proof.Machine

/-! ## What the link keeps -/

/-- The mask of the components that reports of the link change: the outputs, the log, the faults with what hangs on them, and the measured temperature. -/
def reportParts : Nat := 31139610624

/-- The mask of the objects that reports of the link change: those of faults and codes, of the measured temperature, the counters of the partners and the settings shown. -/
def reportObjs : Nat := 862718293348820593342630822510550814332321776533813090934932892549120

/-- The objects that no report of the link changes: those of Cast, and those that `reportObjs` does not name. -/
def LinkObj (q : Obj) : Prop := q.access = .rws ∨ touched reportObjs q.key = false

/-- From `s` to `t` no time passed, no slot's record was added or dropped, the objects of `LinkObj` kept their values, and the log went on. -/
structure LinkKept (s t : State) : Prop where
  clk : t.clk = s.clk
  slots : t.link.length = s.link.length
  vals : ∀ {q : Obj}, LinkObj q → t.val q = s.val q
  grows : logGrows s t

/-! ## A slot's record -/

@[simp] theorem State.modSlot_slot (s : State) {n : Nat} (f : Slot → Slot) (hn : n < s.link.length) : (s.modSlot n f).slot n = f (s.slot n) :=
  getD_modify_same f hn {}

/-- The record of a slot rests on the link's records alone. -/
theorem State.slot_congr {s t : State} (h : t.link = s.link) (n : Nat) : t.slot n = s.slot n := by unfold State.slot; rw [h]

@[simp] theorem State.put_slot (s : State) (o : Obj) (v : Int) (n : Nat) : (s.put o v).slot n = s.slot n := State.slot_congr (by simp) n
@[simp] theorem State.putO_slot (s : State) (o : Obj) (v : Bytes) (n : Nat) : (s.putO o v).slot n = s.slot n := State.slot_congr (by simp) n
@[simp] theorem State.elapseTo_slot (s : State) (t n : Nat) : (s.elapseTo t).slot n = s.slot n := State.slot_congr (by simp) n

/-! ## What is sent on a slot's lanes -/

/-- A slot's record with other scrambler states. -/
def Slot.rescramble (g : List Nat → List Nat) (x : Slot) : Slot := { x with scram := g x.scram }

/-- Between `s` and `t` the lanes of slot `n` carried something: their scramblers and the outputs changed, and nothing else. -/
def Sends (n : Nat) (s t : State) : Prop := ∃ (g : List Nat → List Nat) (o : List Out), t = { s.modSlot n (Slot.rescramble g) with out := o }

theorem Sends.refl (n : Nat) (s : State) : Sends n s s := by
  refine ⟨id, s.out, ?_⟩
  have h : s.link.modify n (Slot.rescramble id) = s.link := List.modify_id n s.link
  unfold State.modSlot
  rw [h]

theorem Sends.trans {n : Nat} {s t u : State} (h : Sends n s t) (k : Sends n t u) : Sends n s u := by
  obtain ⟨g, o, rfl⟩ := h
  obtain ⟨g', o', rfl⟩ := k
  refine ⟨fun x => g' (g x), o', ?_⟩
  unfold State.modSlot
  simp only [List.modify_modify_eq]
  rfl

theorem Sends.emit {n : Nat} {s t : State} (o : Out) (h : Sends n s t) : Sends n s (t.emit o) := by
  obtain ⟨g, o', rfl⟩ := h
  exact ⟨g, o :: o', rfl⟩

theorem Sends.foldl {α : Type} {n : Nat} {g : State → α → State} (hg : ∀ t a, Sends n t (g t a)) (l : List α) (s : State) : Sends n s (l.foldl g s) := by
  induction l generalizing s with
  | nil => exact Sends.refl n s
  | cons a l ih => exact (hg s a).trans (ih _)

section
variable (s : State) (n : Nat)

theorem sends_sendLane (j : Nat) (bs : List Block) : Sends n s (s.sendLane n j bs) :=
  ⟨fun r => setAt r j (codeBlocks ((s.slot n).scram.getD j scramblerSeed) bs).2, _, rfl⟩

theorem sends_sendPrbs (j : Nat) (steps : List (Nat × Nat)) : Sends n s (s.sendPrbs n j steps) := ((Sends.refl n s).emit _).emit _

theorem sends_sendSweep (j : Nat) : Sends n s (s.sendSweep n j) := (sends_sendLane s n j _).trans (sends_sendPrbs _ n j _)

theorem sends_sendVerify (j preset : Nat) : Sends n s (s.sendVerify n j preset) := (sends_sendLane s n j _).trans (sends_sendPrbs _ n j _)

theorem sends_sendVerifies (l : List (Nat × Nat)) : Sends n s (l.foldl (fun s c => s.sendVerify n c.1 (c.2 / 8)) s) := by
  refine Sends.foldl (fun t c => ?_) l s
  exact sends_sendVerify t n c.1 (c.2 / 8)

theorem sends_sendSync : Sends n s (s.sendSync n) :=
  Sends.foldl (fun t j => (sends_sendLane t n j _).emit _) _ s

theorem sends_sendControl (b : Block) : Sends n s (s.sendControl n b) := by
  refine ((Sends.refl n s).emit _).trans (Sends.foldl (fun t j => ?_) _ _)
  split
  · exact sends_sendLane t n j _
  · exact Sends.refl n t

end

section
variable {n : Nat} {s t : State} (h : Sends n s t)
include h

theorem Sends.slot : ∃ r, t.slot n = { s.slot n with scram := r } := by
  obtain ⟨g, o, rfl⟩ := h
  by_cases hn : n < s.link.length
  · exact ⟨g (s.slot n).scram, s.modSlot_slot _ hn⟩
  · have hout : s.link.modify n (Slot.rescramble g) = s.link := List.modify_eq_self (Nat.le_of_not_lt hn)
    unfold State.modSlot
    rw [hout]
    exact ⟨(s.slot n).scram, rfl⟩

theorem Sends.keeps {γ : Type} (P : Slot → γ) (hP : ∀ x r, P { x with scram := r } = P x) : P (t.slot n) = P (s.slot n) := by
  obtain ⟨r, hr⟩ := h.slot
  rw [hr, hP]

theorem Sends.fields : t.obj = s.obj ∧ t.clk = s.clk ∧ t.log = s.log ∧ t.link.length = s.link.length ∧ ∀ q, t.val q = s.val q := by
  obtain ⟨g, o, rfl⟩ := h
  exact ⟨rfl, rfl, rfl, List.length_modify .., fun _ => rfl⟩

end

/-! ## The objects of the link -/

/-- Whether no object of an entry of the table has a key from `lo` to `hi`. -/
def Reg.avoids (g : Reg) (lo hi : Nat) : Bool := g.count != 0 && (decide (hi < g.base) || decide (g.base + g.stride * (g.count - 1) < lo))

theorem Reg.hits_of_avoids {g : Reg} {lo hi k : Nat} (h : g.avoids lo hi = true) (hlo : lo ≤ k) (hhi : k ≤ hi) : g.hits k = false := by
  simp only [Reg.avoids, Bool.and_eq_true, bne_iff_ne, Bool.or_eq_true, decide_eq_true_eq] at h
  obtain ⟨hcount, hout⟩ := h
  rw [Bool.eq_false_iff]
  intro hk
  have hbounds : g.base ≤ k ∧ k ≤ g.base + g.stride * (g.count - 1) := by
    simp only [Reg.hits, Bool.or_eq_true, beq_iff_eq, hcount, false_or] at hk
    split at hk
    · next h0 => simp [h0, beq_iff_eq.mp hk]
    · simp only [Bool.and_eq_true, decide_eq_true_eq, beq_iff_eq] at hk
      obtain ⟨⟨hge, hdiv⟩, hlt⟩ := hk
      have hle : g.stride * ((k - g.base) / g.stride) ≤ g.stride * (g.count - 1) := Nat.mul_le_mul_left _ (by omega)
      rw [Nat.mul_div_cancel' (Nat.dvd_of_mod_eq_zero hdiv)] at hle
      omega
  omega

/-- A mask whose entries all avoid a stretch of keys touches none of its objects. -/
theorem touched_of_avoids {r lo hi k : Nat} (h : ((List.range 247).all fun i => !r.testBit i || (regAt i).avoids lo hi) = true) (hlo : lo ≤ k) (hhi : k ≤ hi) :
    touched r k = false := by
  rw [touched, List.any_eq_false]
  intro i hi hit
  rw [Bool.and_eq_true] at hit
  have havoid := List.all_eq_true.mp h i hi
  rw [hit.1, Bool.not_true, Bool.false_or] at havoid
  rw [Reg.hits_of_avoids havoid hlo hhi] at hit
  exact Bool.false_ne_true hit.2

theorem Obj.key_ne_of_index {o q : Obj} (h : o.index ≠ q.index) (ho : o.sub < 256) (hq : q.sub < 256) : o.key ≠ q.key := by
  unfold Obj.key; omega

theorem slotSub_lt (n : Nat) : n % 32 + 1 < 256 := by omega

theorem laneSub_lt (m : Nat) : m % 160 + 1 < 256 := by omega

theorem Obj.key_le_of_index {o : Obj} {i : Nat} (hi : o.index = i) (hsub : o.sub < 256) : i * 256 ≤ o.key ∧ o.key ≤ i * 256 + 255 := by
  unfold Obj.key
  omega

set_option maxRecDepth 20000 in
/-- The states of slots and lanes and what the partners told stand in 0x5003 to 0x5006, where no report writes. -/
theorem linkObj_of_index {o : Obj} {i : Nat} (hi : o.index = i) (hsub : o.sub < 256) (hlo : 0x5003 ≤ i) (hhi : i ≤ 0x5006) : LinkObj o := by
  obtain ⟨hge, hle⟩ := Obj.key_le_of_index hi hsub
  exact .inr (touched_of_avoids (lo := 0x500300) (hi := 0x5006FF) (by decide) (by omega) (by omega))

theorem linkSlotState_linkObj (n : Nat) : LinkObj (O.linkSlotState n) := linkObj_of_index (i := 0x5003) rfl (slotSub_lt n) (by omega) (by omega)

theorem partnerDescriptor_linkObj (n : Nat) : LinkObj (O.partnerDescriptor n) := linkObj_of_index (i := 0x5004) rfl (slotSub_lt n) (by omega) (by omega)

theorem partnerTelemetry_linkObj (n : Nat) : LinkObj (O.partnerTelemetry n) := linkObj_of_index (i := 0x5005) rfl (slotSub_lt n) (by omega) (by omega)

theorem linkLaneState_linkObj (m : Nat) : LinkObj (O.linkLaneState m) := linkObj_of_index (i := 0x5006) rfl (laneSub_lt m) (by omega) (by omega)

set_option maxRecDepth 20000 in
theorem linkSpareSwitchCount_linkObj : LinkObj O.linkSpareSwitchCount := .inr (by decide)

/-- Lane numbers of one slot differ (R265). -/
theorem laneNo_key_ne (s : State) (n : Nat) {i j : Nat} (hi : i < 5) (hj : j < 5) (h : i ≠ j) :
    (O.linkLaneState (s.laneNo n i)).key ≠ (O.linkLaneState (s.laneNo n j)).key := by
  have hdiffer : physLane n (s.groupOf n) i % 160 ≠ physLane n (s.groupOf n) j % 160 := by unfold physLane; omega
  exact fun he => hdiffer (Nat.add_right_cancel (Nat.add_left_cancel he))

theorem slotState_key_ne_lane (n m : Nat) : (O.linkSlotState n).key ≠ (O.linkLaneState m).key :=
  Obj.key_ne_of_index (show 0x5003 ≠ 0x5006 by decide) (slotSub_lt n) (laneSub_lt m)

/-! ## The states of slots and lanes -/

theorem State.laneNo_congr {s t : State} {n : Nat} (h : t.oct (O.linkLaneMap n) = s.oct (O.linkLaneMap n)) (j : Nat) : t.laneNo n j = s.laneNo n j := by
  simp only [State.laneNo, State.groupOf, State.laneMap, h]

theorem State.laneState_congr {s t : State} {n : Nat} (hmap : t.oct (O.linkLaneMap n) = s.oct (O.linkLaneMap n))
    (h : ∀ m, t.nat (O.linkLaneState m) = s.nat (O.linkLaneState m)) (j : Nat) : t.laneState n j = s.laneState n j := by
  unfold State.laneState
  rw [State.laneNo_congr hmap, h]

/-- Whether a descriptor fits rests on Cast alone (R280). -/
theorem State.descriptorFits_congr {s t : State} (h : ∀ q : Obj, q.access = .rws → t.val q = s.val q) (n : Nat) (d : Bytes) :
    t.descriptorFits n d = s.descriptorFits n d := by
  have hnat : ∀ q : Obj, q.access = .rws → t.nat q = s.nat q := fun q hq => by unfold State.nat; rw [h q hq]
  have hwidth : t.slotWidth n = s.slotWidth n := congrArg (fun v : Val => fieldN v.toBytes 2 2) (h (O.linkSlotRegion n) rfl)
  simp only [State.descriptorFits, hwidth, hnat O.linkLaneRate rfl, hnat O.bitsPerSubpixel rfl, hnat O.headVActive rfl]

/-- A lane map lies in Cast: no change of a lane's state reaches it. -/
theorem laneMap_key_ne (n m : Nat) : (O.linkLaneMap n).key ≠ (O.linkLaneState m).key :=
  Obj.key_ne_of_index (show 0x5001 ≠ 0x5006 by decide) (slotSub_lt n) (laneSub_lt m)

section
variable (s : State) (n : Nat)

@[simp] theorem State.setSlotState_slot (v m : Nat) : (s.setSlotState n v).slot m = s.slot m := s.put_slot ..

@[simp] theorem State.setLaneState_slot (j v m : Nat) : (s.setLaneState n j v).slot m = s.slot m := s.put_slot ..

theorem State.slotState_set {v : Nat} (hv : v < 256) : (s.setSlotState n v).slotState n = v :=
  State.nat_put_fits s (O.linkSlotState n) v (w := 1) rfl rfl hv

theorem State.slotState_setLaneState (j v m : Nat) : (s.setLaneState n j v).slotState m = s.slotState m :=
  State.nat_put_ne (slotState_key_ne_lane m _)

theorem State.laneNo_setLaneState (i v m j : Nat) : (s.setLaneState n i v).laneNo m j = s.laneNo m j :=
  State.laneNo_congr (State.oct_put_ne (laneMap_key_ne m _)) j

theorem State.laneState_set (j : Nat) {v : Nat} (hv : v < 256) : (s.setLaneState n j v).laneState n j = v := by
  unfold State.laneState
  rw [State.laneNo_setLaneState]
  exact State.nat_put_fits s _ v (w := 1) rfl rfl hv

theorem State.laneState_set_ne {i j : Nat} (v : Nat) (hi : i < 5) (hj : j < 5) (h : i ≠ j) : (s.setLaneState n j v).laneState n i = s.laneState n i := by
  unfold State.laneState
  rw [State.laneNo_setLaneState]
  exact State.nat_put_ne (laneNo_key_ne s n hi hj h)

theorem State.laneState_setAllLanes {v j : Nat} (hv : v < 256) (hj : j < 5) : (s.setAllLanes n v).laneState n j = v := by
  have h : ∀ k, k ≤ 5 → ∀ i, i < k → ((List.range k).foldl (fun s j => s.setLaneState n j v) s).laneState n i = v := by
    intro k
    induction k with
    | zero => intro _ i hi; omega
    | succ k ih =>
      intro hk i hi
      rw [List.range_succ, List.foldl_append]
      by_cases he : i = k
      · subst he; exact State.laneState_set _ n i hv
      · exact (State.laneState_set_ne _ n v (by omega) (by omega) he).trans (ih (by omega) i (by omega))
  exact h 5 (Nat.le_refl 5) j hj

theorem State.slotState_setAllLanes (v m : Nat) : (s.setAllLanes n v).slotState m = s.slotState m :=
  foldl_keeps (fun t : State => t.slotState m) (fun t j => t.slotState_setLaneState n j v m) _ s

end

/-! ## What is kept -/

theorem LinkKept.refl (s : State) : LinkKept s s := ⟨rfl, rfl, fun _ => rfl, logGrows_of_eq rfl⟩

theorem LinkKept.trans {s t u : State} (h : LinkKept s t) (k : LinkKept t u) : LinkKept s u :=
  ⟨k.clk.trans h.clk, k.slots.trans h.slots, fun hq => (k.vals hq).trans (h.vals hq), h.grows.trans k.grows⟩

theorem Sends.kept {n : Nat} {s t : State} (h : Sends n s t) : LinkKept s t := by
  obtain ⟨-, hclk, hlog, hlen, hval⟩ := h.fields
  exact ⟨hclk, hlen, fun {q} _ => hval q, logGrows_of_eq hlog⟩

theorem modSlot_kept (s : State) (n : Nat) (f : Slot → Slot) : LinkKept s (s.modSlot n f) :=
  ⟨by simp, by simp, fun _ => by simp, logGrows_of_eq (by simp)⟩

theorem emit_kept (s : State) (o : Out) : LinkKept s (s.emit o) := ⟨rfl, rfl, fun _ => by simp, logGrows_of_eq rfl⟩

@[simp] theorem State.sideRead_slot (s : State) (n off len m : Nat) : (s.sideRead n off len).slot m = s.slot m := rfl

@[simp] theorem State.sideWrite_slot (s : State) (n off : Nat) (data : Bytes) (m : Nat) : (s.sideWrite n off data).slot m = s.slot m := rfl

theorem sideRead_kept (s : State) (n off len : Nat) : LinkKept s (s.sideRead n off len) := emit_kept ..

theorem sideWrite_kept (s : State) (n off : Nat) (data : Bytes) : LinkKept s (s.sideWrite n off data) := emit_kept ..

section
variable {s t : State} (h : Fr0 reportParts reportObjs s t)
include h

theorem link_of_report : t.link = s.link := (h.1 .link rfl).symm

theorem kept_of_report (hg : logGrows s t) : LinkKept s t := by
  have hpart : t.part = s.part := (h.1 .part rfl).symm
  refine ⟨(h.1 .clk rfl).symm, by rw [link_of_report h], fun hq => ?_, hg⟩
  rcases hq with hq | hq
  · exact State.val_congr hpart (by unfold State.storeOf; rw [if_pos hq, if_pos hq]; exact (h.1 .cast rfl).symm)
  · exact val_of_fr h rfl rfl (by decide) hq

end

section
variable (s : State) (n : Nat)

theorem logGrows_raise (fam cls item code : Nat) (param : List Nat) : logGrows s (s.raise fam cls item code param) := by
  unfold State.raise
  exact ((logGrows_of_eq (by simp)).trans (logGrows_postWith _ true code param)).trans (logGrows_refreshFaults _)

theorem linkFault_report (fam cls item code : Nat) (param : List Nat) : Fr0 reportParts reportObjs s (s.linkFault fam cls item code param) :=
  State.linkFault_fr rfl rfl (fr_refl s)

theorem linkNote_report (code : Nat) (param : List Nat) : Fr0 reportParts reportObjs s (s.linkNote code param) :=
  State.linkNote_fr rfl rfl (fr_refl s)

theorem settle_report (fam cls : Nat) : Fr0 reportParts reportObjs s (s.settle fam cls) := State.settle_fr rfl rfl (fr_refl s)

theorem updateTMeas_report : Fr0 reportParts reportObjs s s.updateTMeas := State.updateTMeas_fr rfl rfl (fr_refl s)

theorem showSettings_report : Fr0 reportParts reportObjs s (s.showSettings n) := State.showSettings_fr rfl rfl (fr_refl s)

@[simp] theorem State.linkFault_slot (fam cls item code : Nat) (param : List Nat) (m : Nat) : (s.linkFault fam cls item code param).slot m = s.slot m :=
  State.slot_congr (link_of_report (linkFault_report ..)) m

@[simp] theorem State.linkNote_slot (code : Nat) (param : List Nat) (m : Nat) : (s.linkNote code param).slot m = s.slot m :=
  State.slot_congr (link_of_report (linkNote_report ..)) m

@[simp] theorem State.settle_slot (fam cls m : Nat) : (s.settle fam cls).slot m = s.slot m := State.slot_congr (link_of_report (settle_report ..)) m

@[simp] theorem State.updateTMeas_slot (m : Nat) : s.updateTMeas.slot m = s.slot m := State.slot_congr (link_of_report (updateTMeas_report s)) m

@[simp] theorem State.showSettings_slot (m : Nat) : (s.showSettings n).slot m = s.slot m := State.slot_congr (link_of_report (showSettings_report ..)) m

theorem linkFault_kept (fam cls item code : Nat) (param : List Nat) : LinkKept s (s.linkFault fam cls item code param) :=
  kept_of_report (linkFault_report ..) ((logGrows_of_eq (by simp)).trans (logGrows_raise _ fam cls item code param))

theorem linkNote_kept (code : Nat) (param : List Nat) : LinkKept s (s.linkNote code param) :=
  kept_of_report (linkNote_report ..) ((logGrows_of_eq (by simp)).trans (logGrows_postWith _ false code param))

theorem settle_kept (fam cls : Nat) : LinkKept s (s.settle fam cls) := kept_of_report (settle_report ..) (logGrows_settleIf s fam _)

theorem updateTMeas_kept : LinkKept s s.updateTMeas :=
  kept_of_report (updateTMeas_report s) (logGrows_of_eq (log_of_fr (State.updateTMeas_fr (c := 32768) (r := 8646911284551352320) rfl rfl (fr_refl s)) rfl))

theorem showSettings_kept : LinkKept s (s.showSettings n) :=
  kept_of_report (showSettings_report ..) (logGrows_of_eq (log_of_fr (State.showSettings_fr (c := 0) (r := reportObjs) rfl rfl (fr_refl s)) rfl))

theorem storeSetting_kept (j k : Nat) : LinkKept s (s.storeSetting n j k) := (modSlot_kept ..).trans (showSettings_kept ..)

theorem LinkKept.foldl {α : Type} {g : State → α → State} (hg : ∀ t a, LinkKept t (g t a)) (l : List α) : LinkKept s (l.foldl g s) := by
  induction l generalizing s with
  | nil => exact .refl s
  | cons a l ih => exact (hg s a).trans (ih _)

theorem storeSettings_kept (l : List (Nat × Nat)) : LinkKept s (l.foldl (fun s c => s.storeSetting n c.1 c.2) s) := by
  refine LinkKept.foldl s (fun t c => ?_) l
  exact storeSetting_kept t n c.1 c.2

theorem logged_linkFault (fam cls item code : Nat) (param : List Nat) : logged s (s.linkFault fam cls item code param) (code, param) :=
  logged_raise s _ fam cls item code param (by simp)

theorem logs_linkNote (code : Nat) (param : List Nat) : logs s (s.linkNote code param) [(code, param)] := logs_note s O.linkLastStatus code param

theorem logged_linkNote (code : Nat) (param : List Nat) : logged s (s.linkNote code param) (code, param) :=
  logged_of_post (u := s.put O.linkLastStatus code) false code param (by simp) (logGrows_of_eq rfl)

end

section
variable {s t : State} (h : LinkKept s t)
include h

theorem LinkKept.oct {q : Obj} (hq : LinkObj q) : t.oct q = s.oct q := by unfold State.oct; rw [h.vals hq]

theorem LinkKept.nat {q : Obj} (hq : LinkObj q) : t.nat q = s.nat q := by unfold State.nat; rw [h.vals hq]

theorem LinkKept.slotState (n : Nat) : t.slotState n = s.slotState n := h.nat (linkSlotState_linkObj n)

theorem LinkKept.laneMap (n : Nat) : t.laneMap n = s.laneMap n := h.oct (.inl rfl)

theorem LinkKept.laneState (n j : Nat) : t.laneState n j = s.laneState n j :=
  State.laneState_congr (h.laneMap n) (fun m => h.nat (linkLaneState_linkObj m)) j

theorem LinkKept.descriptorFits (n : Nat) (d : Bytes) : t.descriptorFits n d = s.descriptorFits n d :=
  State.descriptorFits_congr (fun _ hq => h.vals (.inl hq)) n d

theorem LinkKept.within {n : Nat} (hn : n < s.link.length) : n < t.link.length := h.slots ▸ hn

end

/-! ## A sideband transaction (R291) -/

section
variable (s : State) (n : Nat)

theorem sidebandOk_kept : LinkKept s (s.sidebandOk n) := (modSlot_kept ..).trans (settle_kept ..)

theorem sidebandOk_slot (hn : n < s.link.length) : (s.sidebandOk n).slot n = { s.slot n with sideFails := 0, stale := false } := by
  simp [State.sidebandOk, hn]

/-- The failure is counted; the third in a row is reported (R291). -/
theorem sidebandFailed_eq : s.sidebandFailed n =
    if (s.slot n).sideFails + 1 = 3 then
      (((s.modSlot n fun x => { x with sideFails := (s.slot n).sideFails + 1 }).modSlot n fun x => { x with stale := true }).linkFault 15 n 0 0x0D0C [n]).updateTMeas
    else s.modSlot n fun x => { x with sideFails := (s.slot n).sideFails + 1 } := rfl

theorem sidebandFailed_kept : LinkKept s (s.sidebandFailed n) := by
  rw [sidebandFailed_eq]
  split
  · exact (((modSlot_kept ..).trans (modSlot_kept ..)).trans (linkFault_kept ..)).trans (updateTMeas_kept _)
  · exact modSlot_kept ..

theorem sidebandFailed_counts (hn : n < s.link.length) : ((s.sidebandFailed n).slot n).sideFails = (s.slot n).sideFails + 1 := by
  rw [sidebandFailed_eq]
  split
  · simp [hn]
  · simp [hn]

theorem sidebandFailed_third (hn : n < s.link.length) (h : (s.slot n).sideFails = 2) :
    ((s.sidebandFailed n).slot n).stale = true ∧ logged s (s.sidebandFailed n) (0x0D0C, [n]) := by
  rw [sidebandFailed_eq, if_pos (by rw [h])]
  refine ⟨by simp [hn], logged_of_grows (s := s) (logGrows_of_eq (by simp)) (logged_then_grows (logged_linkFault _ 15 n 0 0x0D0C [n]) (updateTMeas_kept _).grows)⟩

end

end Sys2Proof.Machine
end

section
/-! How a slot of the panel link comes up: presence, the descriptor, training, the assignment of its lanes, and realignment (R280 to R286). -/

namespace Sys2Proof.Machine

@[simp] theorem State.setSlotState_fields (s : State) (n v : Nat) :
    (s.setSlotState n v).link = s.link ∧ (s.setSlotState n v).clk = s.clk ∧ (s.setSlotState n v).log = s.log := by
  simp [State.setSlotState]

@[simp] theorem State.setLaneState_fields (s : State) (n j v : Nat) :
    (s.setLaneState n j v).link = s.link ∧ (s.setLaneState n j v).clk = s.clk ∧ (s.setLaneState n j v).log = s.log := by
  simp [State.setLaneState]

@[simp] theorem State.setAllLanes_fields (s : State) (n v : Nat) :
    (s.setAllLanes n v).link = s.link ∧ (s.setAllLanes n v).clk = s.clk ∧ (s.setAllLanes n v).log = s.log :=
  ⟨foldl_keeps State.link (by simp) _ s, foldl_keeps State.clk (by simp) _ s, foldl_keeps State.log (by simp) _ s⟩

/-! ## Discovery, training and mismatch -/

/-- The mask of the objects that training and a mismatch change: the states of slots and lanes. -/
def slotObjs : Nat := 9444735217539104112640

set_option maxRecDepth 20000 in
theorem partnerDescriptor_untouched (n : Nat) : touched slotObjs (O.partnerDescriptor n).key = false := by
  obtain ⟨hge, hle⟩ := Obj.key_le_of_index (o := O.partnerDescriptor n) (i := 0x5004) rfl (slotSub_lt n)
  exact touched_of_avoids (lo := 0x500400) (hi := 0x5004FF) (by decide) hge hle

theorem startTraining_frame (s : State) (n : Nat) : Fr0 17180393472 slotObjs s (s.startTraining n) := State.startTraining_fr rfl rfl (fr_refl s)

theorem mismatch_frame (s : State) (n : Nat) : Fr0 17180393472 slotObjs s (s.mismatch n) := State.mismatch_fr rfl rfl (fr_refl s)

/-- The partner's rate and receiver are set, and SYNC runs on every lane (R285). -/
def State.sendTraining (s : State) (n : Nat) : State :=
  ((s.sideWrite n 0x41 (leBytes 1 (s.nat O.linkLaneRate))).sideWrite n 0x40 (leBytes 1 1)).sendSync n

theorem sendTraining_kept (s : State) (n : Nat) : LinkKept s (s.sendTraining n) :=
  ((sideWrite_kept ..).trans (sideWrite_kept ..)).trans (sends_sendSync ..).kept

theorem startTraining_eq (s : State) (n : Nat) :
    s.startTraining n = (((s.sendTraining n).setSlotState n 3).setAllLanes n 1).modSlot n fun x => { x with
      phase := .aligning, since := (((s.sendTraining n).setSlotState n 3).setAllLanes n 1).clk.now, fed := false, jobs := [], spare := none
      logical := [none, none, none, none] } := rfl

section
variable (s : State) {n : Nat} (hn : n < s.link.length)
include hn

theorem startDiscovery_shows :
    (s.startDiscovery n).slotState n = 2 ∧ ((s.startDiscovery n).slot n).phase = .reading 0 ∧ (s.startDiscovery n).clk = s.clk := by
  refine ⟨?_, by simp [State.startDiscovery, hn], by simp [State.startDiscovery]⟩
  exact ((modSlot_kept ..).slotState n).trans (State.slotState_set s n (by decide))

/-- A slot in training: its lanes are in training and await alignment (R281, R285). -/
theorem startTraining_shows :
    (s.startTraining n).slotState n = 3 ∧ ((s.startTraining n).slot n).phase = .aligning ∧ ∀ j, j < 5 → (s.startTraining n).laneState n j = 1 := by
  have hu : n < (s.sendTraining n).link.length := (sendTraining_kept s n).within hn
  rw [startTraining_eq]
  generalize s.sendTraining n = u at hu
  refine ⟨?_, by simp [hu], fun j hj => ?_⟩
  · rw [(modSlot_kept ..).slotState, State.slotState_setAllLanes]
    exact State.slotState_set u n (by decide)
  · rw [(modSlot_kept ..).laneState]
    exact State.laneState_setAllLanes _ n (by decide) hj

theorem mismatch_shows : (s.mismatch n).slotState n = 6 ∧ ((s.mismatch n).slot n).phase = .none := by
  unfold State.mismatch
  refine ⟨?_, ?_⟩
  · rw [(sends_sendSync ..).kept.slotState, (modSlot_kept ..).slotState, State.slotState_setAllLanes]
    exact State.slotState_set s n (by decide)
  · rw [(sends_sendSync ..).keeps Slot.phase fun _ _ => rfl]
    simp [hn]

end

/-! ## Presence -/

theorem elapseTo_slotTrains (s : State) (t n : Nat) : (s.elapseTo t).slotTrains n = s.slotTrains n := by
  simp [State.slotTrains, State.headDrives, State.headState, State.slotWidth, State.regionOf, State.octB, State.valB]

section
variable {s : State} {n : Nat} (hn : n < s.link.length)
include hn

theorem cmdPresenceFall_shows :
    ((cmdPresenceFall s n).slot n).present = true ∧ (cmdPresenceFall s n).slotState n = s.slotState n ∧
    (s.slotState n = 0 → ((cmdPresenceFall s n).slot n).phase = .confirming ∧ ((cmdPresenceFall s n).slot n).since = s.clk.now) := by
  have hkept := modSlot_kept s n fun x => { x with present := true, highAt := none }
  unfold cmdPresenceFall
  simp only [hkept.slotState]
  split
  · next h => exact ⟨by simp [hn], hkept.slotState n, fun h0 => absurd h0 h⟩
  · exact ⟨by simp [hn], (hkept.trans (modSlot_kept ..)).slotState n, fun _ => by simp [hn]⟩

theorem cmdPresenceRise_shows :
    ((cmdPresenceRise s n).slot n).present = false ∧ ((cmdPresenceRise s n).slot n).highAt = some s.clk.now ∧
    ((cmdPresenceRise s n).slot n).phase ≠ .confirming ∧ (cmdPresenceRise s n).obj = s.obj := by
  unfold cmdPresenceRise
  rw [State.modSlot_slot _ _ hn]
  refine ⟨rfl, rfl, ?_, by simp⟩
  dsimp only
  split
  · exact LinkPhase.noConfusion
  · assumption

theorem cmdPresenceConfirmed_shows (hp : (s.slot n).phase = .confirming) (hpres : (s.slot n).present = true) :
    (s.slot n).since + 50000000 ≤ (cmdPresenceConfirmed s n).clk.now ∧
    (s.slotTrains n = true → (cmdPresenceConfirmed s n).slotState n = 2 ∧ ((cmdPresenceConfirmed s n).slot n).phase = .reading 0) ∧
    (s.slotTrains n = false → (cmdPresenceConfirmed s n).slotState n = 1 ∧ ((cmdPresenceConfirmed s n).slot n).phase = .none) := by
  have he : cmdPresenceConfirmed s n =
      if s.slotTrains n then (s.elapseTo ((s.slot n).since + 50000000)).startDiscovery n
      else ((s.elapseTo ((s.slot n).since + 50000000)).setSlotState n 1).modSlot n fun x => { x with phase := .none } := by
    simp [cmdPresenceConfirmed, hp, hpres, elapseTo_slotTrains]
  have htime := s.elapseTo_reached ((s.slot n).since + 50000000)
  have hu : n < (s.elapseTo ((s.slot n).since + 50000000)).link.length := by simpa using hn
  rw [he]
  generalize s.elapseTo ((s.slot n).since + 50000000) = u at htime hu
  cases ht : s.slotTrains n with
  | true =>
    obtain ⟨hst, hph, hclk⟩ := startDiscovery_shows u hu
    exact ⟨by rw [if_pos rfl, hclk]; exact htime, fun _ => ⟨hst, hph⟩, fun h => absurd h (by decide)⟩
  | false =>
    refine ⟨by simpa using htime, fun h => absurd h (by decide), fun _ => ⟨?_, by simp [hu]⟩⟩
    exact ((modSlot_kept ..).slotState n).trans (State.slotState_set u n (by decide))

end

/-! ## The descriptor -/

/-- The descriptor's transaction has been counted, good or failed (R291). -/
def State.descriptorAnswered (s : State) (n : Nat) (answer : Option Bytes) : State :=
  if answer.isNone then (s.sideRead n 0 64).sidebandFailed n else (s.sideRead n 0 64).sidebandOk n

theorem descriptorAnswered_kept (s : State) (n : Nat) (answer : Option Bytes) : LinkKept s (s.descriptorAnswered n answer) := by
  unfold State.descriptorAnswered
  split
  · exact (sideRead_kept ..).trans (sidebandFailed_kept ..)
  · exact (sideRead_kept ..).trans (sidebandOk_kept ..)

/-- A valid descriptor is kept, and its uniformity shown (R280). -/
def State.keepDescriptor (s : State) (n : Nat) (d : Bytes) : State :=
  ((s.putO (O.partnerDescriptor n) d).putO (O.uniformityPartner n) (cut d 0x1A 6)).modSlot n fun x => { x with desc := d }

theorem keepDescriptor_shows (s : State) (n : Nat) (d : Bytes) : (s.keepDescriptor n d).oct (O.partnerDescriptor n) = d := by
  have hkey : (O.partnerDescriptor n).key ≠ (O.uniformityPartner n).key :=
    Obj.key_ne_of_index (show 0x5004 ≠ 0x5403 by decide) (slotSub_lt n) (slotSub_lt n)
  unfold State.keepDescriptor
  rw [(State.modSlot_vals ..).2.2.2.2, State.oct_putO_ne hkey, State.oct_putO_same]

theorem keepDescriptor_fields (s : State) (n : Nat) (d : Bytes) :
    (s.keepDescriptor n d).part = s.part ∧ (s.keepDescriptor n d).cast = s.cast ∧ (s.keepDescriptor n d).link.length = s.link.length ∧
    (s.keepDescriptor n d).log = s.log := by
  have hputs : ∀ (t : State) (o : Obj) (v : Bytes), o.access ≠ .rws → (t.putO o v).cast = t.cast := fun t o v ho => by
    unfold State.putO State.putV
    rw [if_neg ho]
  unfold State.keepDescriptor
  refine ⟨by simp, ?_, by simp, by simp⟩
  rw [(State.modSlot_fields ..).2.2.2.2.2.1, hputs _ (O.uniformityPartner n) _ Access.noConfusion, hputs _ (O.partnerDescriptor n) _ Access.noConfusion]

theorem keepDescriptor_fits (s : State) (n : Nat) (d : Bytes) : (s.keepDescriptor n d).descriptorFits n d = s.descriptorFits n d := by
  obtain ⟨hpart, hcast, -, -⟩ := keepDescriptor_fields s n d
  refine State.descriptorFits_congr (fun q hq => State.val_congr hpart ?_) n d
  unfold State.storeOf
  rw [if_pos hq, if_pos hq, hcast]

section
variable {s : State} {n tries : Nat} {answer : Option Bytes} (hp : (s.slot n).phase = .reading tries)
include hp

theorem cmdDescriptorRead_reading : cmdDescriptorRead s n answer =
    if !descriptorValid (answer.getD []) then
      if tries < 2 then
        ((s.descriptorAnswered n answer).elapseTo ((s.descriptorAnswered n answer).clk.now + 10000000)).modSlot n fun x => { x with phase := .reading (tries + 1) }
      else ((s.descriptorAnswered n answer).mismatch n).linkFault 15 n 0 0x0D07 [n]
    else if ((s.descriptorAnswered n answer).keepDescriptor n (answer.getD [])).descriptorFits n (answer.getD []) then
      ((s.descriptorAnswered n answer).keepDescriptor n (answer.getD [])).startTraining n
    else (((s.descriptorAnswered n answer).keepDescriptor n (answer.getD [])).mismatch n).linkNote 0x0D08 [n] := by
  unfold cmdDescriptorRead
  rw [hp]
  rfl

/-- What DESCRIPTOR_READ does with a valid descriptor, by whether it fits (R280). -/
theorem cmdDescriptorRead_valid_shows {d : Bytes} (hn : n < s.link.length) (ha : answer = some d) (hd : descriptorValid d = true) :
    (cmdDescriptorRead s n answer).oct (O.partnerDescriptor n) = d ∧
    (s.descriptorFits n d = true → (cmdDescriptorRead s n answer).slotState n = 3 ∧ ((cmdDescriptorRead s n answer).slot n).phase = .aligning ∧
      ∀ j, j < 5 → (cmdDescriptorRead s n answer).laneState n j = 1) ∧
    (s.descriptorFits n d = false → (cmdDescriptorRead s n answer).slotState n = 6 ∧ ((cmdDescriptorRead s n answer).slot n).phase = .none ∧
      logged s (cmdDescriptorRead s n answer) (0x0D08, [n])) := by
  have hkept := descriptorAnswered_kept s n answer
  have hfit : ((s.descriptorAnswered n answer).keepDescriptor n d).descriptorFits n d = s.descriptorFits n d :=
    (keepDescriptor_fits ..).trans (hkept.descriptorFits n d)
  have hdesc := keepDescriptor_shows (s.descriptorAnswered n answer) n d
  obtain ⟨-, -, hlen, hlog⟩ := keepDescriptor_fields (s.descriptorAnswered n answer) n d
  have hu : n < ((s.descriptorAnswered n answer).keepDescriptor n d).link.length := hlen ▸ hkept.within hn
  have hgrows : logGrows s ((s.descriptorAnswered n answer).keepDescriptor n d) := hkept.grows.trans (logGrows_of_eq hlog)
  have huntouched := partnerDescriptor_untouched n
  rw [cmdDescriptorRead_reading hp, ha, Option.getD_some, hd, if_neg (by decide), ← ha, hfit]
  generalize (s.descriptorAnswered n answer).keepDescriptor n d = u at hdesc hu hgrows
  cases hf : s.descriptorFits n d with
  | true =>
    obtain ⟨-, -, -, -, hoct⟩ := vals_of_fr (startTraining_frame u n) rfl rfl (by decide) huntouched
    exact ⟨hoct.trans hdesc, fun _ => startTraining_shows u hu, fun h => absurd h (by decide)⟩
  | false =>
    obtain ⟨-, -, -, -, hoct⟩ := vals_of_fr (mismatch_frame u n) rfl rfl (by decide) huntouched
    obtain ⟨hst, hph⟩ := mismatch_shows u hu
    have hnote := linkNote_kept (u.mismatch n) 0x0D08 [n]
    have hgrown : logGrows s (u.mismatch n) := hgrows.trans (logGrows_of_eq (log_of_fr (mismatch_frame u n) rfl))
    refine ⟨(hnote.oct (partnerDescriptor_linkObj n)).trans (hoct.trans hdesc), fun h => absurd h (by decide), fun _ => ⟨?_, ?_, ?_⟩⟩
    · exact (hnote.slotState n).trans hst
    · exact (congrArg Slot.phase (State.linkNote_slot ..)).trans hph
    · exact logged_of_grows hgrown (logged_linkNote _ _ _)

/-- What DESCRIPTOR_READ does with an invalid descriptor, or none: twice more after 10 ms, then it gives up (R280). -/
theorem cmdDescriptorRead_invalid_shows (hn : n < s.link.length) (hbad : descriptorValid (answer.getD []) = false) :
    (tries < 2 → ((cmdDescriptorRead s n answer).slot n).phase = .reading (tries + 1) ∧ s.clk.now + 10000000 ≤ (cmdDescriptorRead s n answer).clk.now) ∧
    (2 ≤ tries → (cmdDescriptorRead s n answer).slotState n = 6 ∧ ((cmdDescriptorRead s n answer).slot n).phase = .none ∧
      logged s (cmdDescriptorRead s n answer) (0x0D07, [n])) := by
  have hkept := descriptorAnswered_kept s n answer
  have hu : n < (s.descriptorAnswered n answer).link.length := hkept.within hn
  refine ⟨fun ht => ?_, fun ht => ?_⟩
  · have htime := State.elapseTo_reached (s.descriptorAnswered n answer) ((s.descriptorAnswered n answer).clk.now + 10000000)
    rw [cmdDescriptorRead_reading hp, hbad, Bool.not_false, if_pos rfl, if_pos ht]
    exact ⟨by simp [hu], by simpa [hkept.clk] using htime⟩
  · obtain ⟨hst, hph⟩ := mismatch_shows _ hu
    have hgrown := hkept.grows.trans (logGrows_of_eq (log_of_fr (mismatch_frame (s.descriptorAnswered n answer) n) rfl))
    rw [cmdDescriptorRead_reading hp, hbad, Bool.not_false, if_pos rfl, if_neg (Nat.not_lt.mpr ht)]
    exact ⟨((linkFault_kept ..).slotState n).trans hst, (congrArg Slot.phase (State.linkFault_slot ..)).trans hph,
      logged_of_grows hgrown (logged_linkFault _ _ _ _ _ _)⟩

end

/-! ## Training -/

section
variable {s : State} {n : Nat} (hn : n < s.link.length)
include hn

theorem cmdRxReadyAligned_shows (hp : (s.slot n).phase = .aligning) :
    ((cmdRxReadyAligned s n).slot n).phase = .sweeping ∧ (cmdRxReadyAligned s n).obj = s.obj := by
  have hsweep : ∀ (t : State) (j : Nat), ((t.sendSweep n j).noteSweep n j).obj = t.obj ∧ ((t.sendSweep n j).noteSweep n j).link.length = t.link.length := by
    intro t j
    obtain ⟨hobj, -, -, hlen, -⟩ := (sends_sendSweep t n j).fields
    exact ⟨by simp [State.noteSweep, hobj], by simp [State.noteSweep, hlen]⟩
  have hobj := foldl_keeps State.obj (fun t j => (hsweep t j).1) (List.range 5) (s.sideWrite n 0x40 (leBytes 1 3))
  have hlen := foldl_keeps (fun t : State => t.link.length) (fun t j => (hsweep t j).2) (List.range 5) (s.sideWrite n 0x40 (leBytes 1 3))
  unfold cmdRxReadyAligned
  rw [if_neg (by simp [hp])]
  dsimp only
  generalize (List.range 5).foldl (fun s j => (s.sendSweep n j).noteSweep n j) (s.sideWrite n 0x40 (leBytes 1 3)) = u at hobj hlen
  have hu : n < u.link.length := Nat.lt_of_lt_of_eq hn hlen.symm
  exact ⟨by simp [hu], by simp only [State.modSlot_fields]; exact hobj⟩

theorem cmdTrainTimeout_shows (hp : (s.slot n).phase = .aligning) :
    ((cmdTrainTimeout s n).slot n).phase = .waitRetry ∧ (s.slot n).since + 50000000 ≤ (cmdTrainTimeout s n).clk.now ∧
    logs s (cmdTrainTimeout s n) [(0x0D0D, [n])] ∧ ∀ j, j < 5 → (cmdTrainTimeout s n).laneState n j = 0 := by
  have htime := s.elapseTo_reached ((s.slot n).since + 50000000)
  have hnote := linkNote_kept (s.elapseTo ((s.slot n).since + 50000000)) 0x0D0D [n]
  have hlogs : logs s ((s.elapseTo ((s.slot n).since + 50000000)).linkNote 0x0D0D [n]) [(0x0D0D, [n])] :=
    logs_congr (by simp) rfl (logs_linkNote _ _ _)
  have hu : n < ((s.elapseTo ((s.slot n).since + 50000000)).linkNote 0x0D0D [n]).link.length := hnote.within (by simpa using hn)
  unfold cmdTrainTimeout
  rw [if_neg (by simp [hp])]
  dsimp only
  rw [← hnote.clk] at htime
  generalize (s.elapseTo ((s.slot n).since + 50000000)).linkNote 0x0D0D [n] = u at htime hlogs hu
  refine ⟨by simp [hu], by simpa using htime, logs_congr rfl (by simp) hlogs, fun j hj => ?_⟩
  rw [(modSlot_kept ..).laneState]
  exact State.laneState_setAllLanes u n (by decide) hj

theorem cmdDiscoveryRetry_shows (hp : (s.slot n).phase = .waitRetry) :
    (cmdDiscoveryRetry s n).slotState n = 2 ∧ ((cmdDiscoveryRetry s n).slot n).phase = .reading 0 ∧
    (s.slot n).since + 1000000000 ≤ (cmdDiscoveryRetry s n).clk.now := by
  obtain ⟨hst, hph, hclk⟩ := startDiscovery_shows (s.elapseTo ((s.slot n).since + 1000000000)) (n := n) (by simpa using hn)
  unfold cmdDiscoveryRetry
  rw [if_neg (by simp [hp])]
  exact ⟨hst, hph, by rw [hclk]; exact s.elapseTo_reached _⟩

end

/-- The settings that the pass maps of a whole sweep give (R284). -/
def sweptChoice (bytes : Bytes) : List (Nat × Nat) := (List.range 5).filterMap fun j => (chooseSetting (passMapOf bytes j)).map fun k => (j, k)

/-- The chosen settings are written to the partner and every chosen lane runs VERIFY (R284). -/
def State.sendChoice (s : State) (n : Nat) (ch : List (Nat × Nat)) : State :=
  ch.foldl (fun s c => s.sendVerify n c.1 (c.2 / 8))
    (s.sideWrite n 0x42 ((List.range 5).flatMap fun j => leBytes 1 (((ch.find? (·.1 == j)).map (·.2 % 8)).getD 0)))

theorem sendChoice_kept (s : State) (n : Nat) (ch : List (Nat × Nat)) : LinkKept s (s.sendChoice n ch) :=
  (sideWrite_kept ..).trans (sends_sendVerifies _ n ch).kept

/-- The state in which a whole sweep's choice has been sent. -/
def State.sweptAll (s : State) (n : Nat) (bytes : Bytes) : State :=
  ((s.elapseTo ((s.slot n).since + 46200000)).sideRead n 0x80 80).sendChoice n (sweptChoice bytes)

theorem cmdSweepDone_whole {s : State} {n : Nat} (bytes : Bytes) (hp : (s.slot n).phase = .sweeping) : cmdSweepDone s n bytes =
    (s.sweptAll n bytes).modSlot n fun x => { x with phase := .verifying, choice := sweptChoice bytes, since := (s.sweptAll n bytes).clk.now } := by
  unfold cmdSweepDone
  dsimp only
  rw [if_pos hp]
  rfl

theorem cmdSweepDone_shows {s : State} {n : Nat} (hn : n < s.link.length) (bytes : Bytes) (hp : (s.slot n).phase = .sweeping) :
    ((cmdSweepDone s n bytes).slot n).phase = .verifying ∧ (s.slot n).since + 46200000 ≤ (cmdSweepDone s n bytes).clk.now ∧
    ((cmdSweepDone s n bytes).slot n).choice = sweptChoice bytes := by
  have htime := s.elapseTo_reached ((s.slot n).since + 46200000)
  have hkept : LinkKept (s.elapseTo ((s.slot n).since + 46200000)) (s.sweptAll n bytes) := (sideRead_kept ..).trans (sendChoice_kept ..)
  have hu : n < (s.sweptAll n bytes).link.length := hkept.within (by simpa using hn)
  rw [cmdSweepDone_whole bytes hp]
  exact ⟨by simp [hu], by simpa [hkept.clk] using htime, by simp [hu]⟩

/-! ## The assignment of the lanes -/

/-- The good lanes of a slot in the order of its lane map (R265, R284). -/
def State.laneOrder (s : State) (n : Nat) (good : List Nat) : List Nat := ((List.range 5).map (mapOrder (s.laneMap n))).filter good.contains

/-- Good lanes are ACTIVE, the fifth of them STANDBY, the others FAILED (R284). -/
def State.markLanes (s : State) (n : Nat) (good : List Nat) : State :=
  let t := (List.range 5).foldl (fun s j => s.setLaneState n j (if good.contains j then 2 else 4)) s
  match (s.laneOrder n good)[4]? with | some j => t.setLaneState n j 3 | none => t

theorem markLanes_link (s : State) (n : Nat) (good : List Nat) : (s.markLanes n good).link = s.link := by
  have h := foldl_keeps State.link (g := fun s j => s.setLaneState n j (if good.contains j then 2 else 4)) (by simp) (List.range 5) s
  unfold State.markLanes
  dsimp only
  split
  · simpa using h
  · exact h

/-- Each bad lane of a slot is a fault of its own (R284, R493). -/
def State.reportBadLanes (s : State) (n : Nat) (bad : List Nat) : State :=
  (List.range bad.length).foldl (fun s i => s.linkFault 0 n (bad.getD i 0) (if i = 0 then 0x0D09 else 0x0D0A) [n, bad.getD i 0]) s

theorem reportBadLanes_slot (s : State) (n : Nat) (bad : List Nat) : (s.reportBadLanes n bad).slot n = s.slot n :=
  foldl_keeps (fun t : State => t.slot n) (fun t _ => t.linkFault_slot ..) _ s

/-- Training ends: the lanes are marked and logical lanes 0 to 3 assigned (R284, R285). -/
def State.assigned (s : State) (n : Nat) (good : List Nat) : State :=
  ((s.markLanes n good).modSlot n fun x => { x with
    phase := .none, logical := (List.range 4).map fun L => (s.laneOrder n good)[L]?
    trainedRates := (x.trainedRates.filter (· != (s.markLanes n good).nat O.linkLaneRate)) ++ [(s.markLanes n good).nat O.linkLaneRate] }).reportBadLanes n
      ((List.range 5).filter fun j => !good.contains j)

theorem assignLanes_eq (s : State) (n : Nat) (good : List Nat) : s.assignLanes n good =
    if 4 ≤ (s.laneOrder n good).length then
      ((s.assigned n good).setSlotState n 4).linkNote 0x0D05 (n :: [fieldN ((s.assigned n good).oct (O.partnerDescriptor n)) 8 8])
    else (s.assigned n good).setSlotState n 5 := rfl

theorem assigned_slot (s : State) {n : Nat} (hn : n < s.link.length) (good : List Nat) :
    ((s.assigned n good).slot n).phase = .none ∧ ((s.assigned n good).slot n).logical = (List.range 4).map fun L => (s.laneOrder n good)[L]? := by
  have hu : n < (s.markLanes n good).link.length := by rwa [markLanes_link]
  unfold State.assigned
  rw [reportBadLanes_slot]
  exact ⟨by simp [hu], by simp [hu]⟩

theorem assignLanes_shows (s : State) {n : Nat} (hn : n < s.link.length) (good : List Nat) :
    ((s.assignLanes n good).slot n).phase = .none ∧ ((s.assignLanes n good).slot n).logical = ((List.range 4).map fun L => (s.laneOrder n good)[L]?) ∧
    (s.assignLanes n good).slotState n = if 4 ≤ (s.laneOrder n good).length then 4 else 5 := by
  obtain ⟨hph, hlog⟩ := assigned_slot s hn good
  rw [assignLanes_eq]
  split
  · refine ⟨by simpa using hph, by simpa using hlog, ?_⟩
    exact ((linkNote_kept ..).slotState n).trans (State.slotState_set _ n (by decide))
  · exact ⟨by simpa using hph, by simpa using hlog, State.slotState_set _ n (by decide)⟩

/-- The lanes of a slot's choice that verify without an error (R284). -/
def goodLanes (choice : List (Nat × Nat)) (errors : Bytes) : List Nat := (choice.filter fun c => fieldN errors c.1 1 == 0).map (·.1)

/-- The state in which every chosen setting has been stored after VERIFY (R284). -/
def State.verified (s : State) (n : Nat) : State :=
  (s.slot n).choice.foldl (fun s c => s.storeSetting n c.1 c.2) ((s.elapseTo ((s.slot n).since + 1000000)).sideRead n 0x49 5)

theorem cmdVerifyDone_whole {s : State} {n : Nat} (errors : Bytes) (hp : (s.slot n).phase = .verifying) :
    cmdVerifyDone s n errors = ((s.verified n).assignLanes n (goodLanes (s.slot n).choice errors)).sendSync n := by
  unfold cmdVerifyDone
  dsimp only
  rw [if_pos hp]
  rfl

theorem cmdVerifyDone_shows {s : State} {n : Nat} (hn : n < s.link.length) (errors : Bytes) (hp : (s.slot n).phase = .verifying) :
    ((cmdVerifyDone s n errors).slot n).phase = .none ∧
    ((cmdVerifyDone s n errors).slot n).logical = ((List.range 4).map fun L => (s.laneOrder n (goodLanes (s.slot n).choice errors))[L]?) ∧
    (cmdVerifyDone s n errors).slotState n = if 4 ≤ (s.laneOrder n (goodLanes (s.slot n).choice errors)).length then 4 else 5 := by
  have hkept : LinkKept (s.elapseTo ((s.slot n).since + 1000000)) (s.verified n) :=
    (sideRead_kept ..).trans (storeSettings_kept ..)
  have hmap : (s.verified n).laneMap n = s.laneMap n := (hkept.laneMap n).trans (by simp [State.laneMap])
  obtain ⟨hph, hlog, hst⟩ := assignLanes_shows (s.verified n) (hkept.within (n := n) (by simpa using hn)) (goodLanes (s.slot n).choice errors)
  rw [State.laneOrder, hmap] at hlog hst
  have hsync := sends_sendSync ((s.verified n).assignLanes n (goodLanes (s.slot n).choice errors)) n
  rw [cmdVerifyDone_whole errors hp]
  exact ⟨(hsync.keeps Slot.phase fun _ _ => rfl).trans hph, (hsync.keeps Slot.logical fun _ _ => rfl).trans hlog, (hsync.kept.slotState n).trans hst⟩

/-! ## Realignment -/

theorem LinkKept.storedChoice {s t : State} (h : LinkKept s t) {n : Nat} (hs : (t.slot n).stored = (s.slot n).stored) : t.storedChoice n = s.storedChoice n := by
  simp only [State.storedChoice, hs, h.nat (q := O.linkLaneRate) (.inl rfl), h.laneState]

/-- The lanes with stored settings run VERIFY again, and its errors are read (R286). -/
def State.reverified (s : State) (n : Nat) : State :=
  ((s.storedChoice n).foldl (fun s c => s.sendVerify n c.1 (c.2 / 8)) s).sideRead n 0x49 5

theorem reverified_sends (s : State) (n : Nat) : Sends n s (s.reverified n) :=
  (sends_sendVerifies s n (s.storedChoice n)).emit _

theorem reverified_storedChoice (s : State) (n : Nat) : (s.reverified n).storedChoice n = s.storedChoice n :=
  (reverified_sends s n).kept.storedChoice ((reverified_sends s n).keeps Slot.stored fun _ _ => rfl)

section
variable {s : State} {n : Nat} (hn : n < s.link.length) (hp : (s.slot n).phase = .realigning)
include hp

theorem cmdRetrainRealignDone_none : cmdRetrainRealignDone s n none = s.startTraining n := if_neg fun h => h hp

theorem cmdRetrainRealignDone_errors (errors : Bytes) : cmdRetrainRealignDone s n (some errors) =
    if ((s.reverified n).storedChoice n).all fun c => fieldN errors c.1 1 == 0 then
      (((s.reverified n).modSlot n fun x => { x with phase := .none }).showSettings n).sendSync n
    else (s.reverified n).startTraining n := if_neg fun h => h hp

include hn

theorem cmdRetrainRealignDone_good {errors : Bytes} (h : ∀ c ∈ s.storedChoice n, fieldN errors c.1 1 = 0) :
    ((cmdRetrainRealignDone s n (some errors)).slot n).phase = .none ∧ (cmdRetrainRealignDone s n (some errors)).slotState n = s.slotState n := by
  have hsends := reverified_sends s n
  have hu : n < (s.reverified n).link.length := hsends.kept.within hn
  have hshow := (modSlot_kept (s.reverified n) n fun x => { x with phase := .none }).trans (showSettings_kept _ n)
  have hsync := sends_sendSync (((s.reverified n).modSlot n fun x => { x with phase := .none }).showSettings n) n
  rw [cmdRetrainRealignDone_errors hp, reverified_storedChoice, if_pos (by simpa using h)]
  exact ⟨(hsync.keeps Slot.phase fun _ _ => rfl).trans (by simp [hu]), ((hsends.kept.trans hshow).trans hsync.kept).slotState n⟩

theorem cmdRetrainRealignDone_bad {errors : Bytes} {c : Nat × Nat} (hc : c ∈ s.storedChoice n) (he : fieldN errors c.1 1 ≠ 0) :
    ((cmdRetrainRealignDone s n (some errors)).slot n).phase = .aligning ∧ (cmdRetrainRealignDone s n (some errors)).slotState n = 3 := by
  obtain ⟨hst, hph, -⟩ := startTraining_shows (s.reverified n) ((reverified_sends s n).kept.within hn)
  have hbad : ¬ ((s.storedChoice n).all fun c => fieldN errors c.1 1 == 0) = true := fun hall => he (by simpa using List.all_eq_true.mp hall c hc)
  rw [cmdRetrainRealignDone_errors hp, reverified_storedChoice, if_neg hbad]
  exact ⟨hph, hst⟩

end

/-- Settles O38: each phase's command by the lemma that says what it shows, the assignment by `assignLanes_shows`, a new training by `startTraining_shows`. -/
theorem linkStarts : Obligations.LinkStarts := by
  unfold Obligations.LinkStarts
  intro s n hdie hlink
  have hn : n.val < s.link.length := by rw [hlink]; exact n.isLt
  refine ⟨gives_of_live hdie rfl (cmdPresenceFall_shows hn), gives_of_live hdie rfl (cmdPresenceRise_shows hn),
    fun hp hpres => gives_of_live hdie rfl (cmdPresenceConfirmed_shows hn hp hpres),
    fun tries answer hp => gives_of_live hdie rfl ⟨fun d ha hd => cmdDescriptorRead_valid_shows hp hn ha hd, fun hbad ht => ?_, fun hbad ht => ?_⟩,
    fun hp => ⟨gives_of_live hdie rfl (cmdRxReadyAligned_shows hn hp), gives_of_live hdie rfl (cmdTrainTimeout_shows hn hp)⟩,
    fun hp => gives_of_live hdie rfl (cmdDiscoveryRetry_shows hn hp),
    fun bytes hp => gives_of_live hdie rfl (cmdSweepDone_shows hn bytes hp),
    fun errors hp => gives_of_live hdie rfl (cmdVerifyDone_shows hn errors hp),
    fun hp => ⟨gives_of_live hdie rfl ?_, fun errors => gives_of_live hdie rfl ⟨fun h => ?_, fun c hc he => ?_⟩⟩⟩
  · exact (cmdDescriptorRead_invalid_shows hp hn hbad).1 ht
  · exact (cmdDescriptorRead_invalid_shows hp hn hbad).2 ht
  · obtain ⟨hst, hph, -⟩ := startTraining_shows s hn
    rw [cmdRetrainRealignDone_none hp]
    exact ⟨hph, hst⟩
  · exact cmdRetrainRealignDone_good hn hp h
  · exact cmdRetrainRealignDone_bad hn hp hc he

end Sys2Proof.Machine
end

section
/-! The upkeep of a slot of the panel link: removal, failing lanes, retries of a failed lane, and telemetry (R287 to R291). -/

namespace Sys2Proof.Machine

/-! ## Removal -/

/-- The slot is silent, its lanes are off and its settings gone, and nothing is kept of its partner (R289). -/
def State.slotCleared (s : State) (n : Nat) : State :=
  ((((List.range 5).foldl (fun s j => s.put (O.linkLaneSetting (s.laneNo n j)) 0) ((s.emit (.panel n .silent)).setAllLanes n 0)).modSlot n fun _ => {}).setSlotState n 0).putO
    (O.partnerTelemetry n) []

theorem slotCleared_shows (s : State) {n : Nat} (hn : n < s.link.length) :
    (s.slotCleared n).slot n = {} ∧ (s.slotCleared n).slotState n = 0 ∧ (s.slotCleared n).oct (O.partnerTelemetry n) = [] ∧
    (s.slotCleared n).clk = s.clk ∧ (s.slotCleared n).log = s.log := by
  have hputs : ∀ (t : State) (j : Nat), (t.put (O.linkLaneSetting (t.laneNo n j)) 0).link = t.link ∧
      (t.put (O.linkLaneSetting (t.laneNo n j)) 0).clk = t.clk ∧ (t.put (O.linkLaneSetting (t.laneNo n j)) 0).log = t.log := by simp
  have hkey : (O.linkSlotState n).key ≠ (O.partnerTelemetry n).key := Obj.key_ne_of_index (show 0x5003 ≠ 0x5005 by decide) (slotSub_lt n) (slotSub_lt n)
  have hlink := foldl_keeps State.link (fun t j => (hputs t j).1) (List.range 5) ((s.emit (.panel n .silent)).setAllLanes n 0)
  have hclk := foldl_keeps State.clk (fun t j => (hputs t j).2.1) (List.range 5) ((s.emit (.panel n .silent)).setAllLanes n 0)
  have hlog := foldl_keeps State.log (fun t j => (hputs t j).2.2) (List.range 5) ((s.emit (.panel n .silent)).setAllLanes n 0)
  unfold State.slotCleared
  generalize (List.range 5).foldl (fun s j => s.put (O.linkLaneSetting (s.laneNo n j)) 0) ((s.emit (.panel n .silent)).setAllLanes n 0) = u at hlink hclk hlog
  simp only [State.setAllLanes_fields, State.emit_fields] at hlink hclk hlog
  have hu : n < u.link.length := by rwa [hlink]
  refine ⟨by simp [hu], ?_, State.oct_putO_same .., by simp [hclk], by simp [hlog]⟩
  exact (State.nat_putO_ne hkey).trans (State.slotState_set _ n (by decide))

theorem cmdPartnerRemoved_eq {s : State} {n t : Nat} (hhigh : (s.slot n).highAt = some t) (hpres : (s.slot n).present = false) (hst : s.slotState n ≠ 0) :
    cmdPartnerRemoved s n = ((((s.elapseTo (t + 1000000)).slotCleared n).linkNote 0x0D06 [n]).settle 0 n).settle 15 n := by
  simp only [cmdPartnerRemoved, hhigh, hpres, hst, Bool.false_eq_true, or_self, if_false]
  rfl

/-- What PARTNER_REMOVED leaves (R289). -/
theorem cmdPartnerRemoved_shows {s : State} {n t : Nat} (hn : n < s.link.length) (hhigh : (s.slot n).highAt = some t) (hpres : (s.slot n).present = false)
    (hst : s.slotState n ≠ 0) :
    (cmdPartnerRemoved s n).slot n = {} ∧ (cmdPartnerRemoved s n).slotState n = 0 ∧ (cmdPartnerRemoved s n).oct (O.partnerTelemetry n) = [] ∧
    t + 1000000 ≤ (cmdPartnerRemoved s n).clk.now ∧ logged s (cmdPartnerRemoved s n) (0x0D06, [n]) := by
  obtain ⟨hslot, hstate, htele, hclk, hlog⟩ := slotCleared_shows (s.elapseTo (t + 1000000)) (n := n) (by simpa using hn)
  have htime := s.elapseTo_reached (t + 1000000)
  rw [← hclk] at htime
  rw [cmdPartnerRemoved_eq hhigh hpres hst]
  generalize (s.elapseTo (t + 1000000)).slotCleared n = u at hslot hstate htele htime hlog
  have hsettled := (settle_kept (u.linkNote 0x0D06 [n]) 0 n).trans (settle_kept _ 15 n)
  have hkept := (linkNote_kept u 0x0D06 [n]).trans hsettled
  refine ⟨by simp [hslot], (hkept.slotState n).trans hstate, (hkept.oct (partnerTelemetry_linkObj n)).trans htele, by rwa [hkept.clk], ?_⟩
  exact logged_then_grows (logged_congr (by simp [hlog]) rfl (logged_linkNote u 0x0D06 [n])) hsettled.grows

/-! ## One lane alone -/

/-- The sweep of one lane has been started and recorded (R282, R288). -/
def State.sweepStarted (s : State) (n j : Nat) : State := (((s.sideWrite n 0x40 (leBytes 1 3)).setLaneState n j 1).sendSweep n j).noteSweep n j

theorem noteSweep_slot (s : State) {n : Nat} (hn : n < s.link.length) (j : Nat) : ∃ w, (s.noteSweep n j).slot n = { s.slot n with sweeps := w } := by
  unfold State.noteSweep
  exact ⟨_, State.modSlot_slot s _ hn⟩

section
variable (s : State) {n : Nat} (hn : n < s.link.length) {j : Nat}
include hn

/-- The records of the slots when a lane's sweep has started: the slot's scramblers and its recorded sweeps have changed. -/
theorem sweepStarted_slot : n < (s.sweepStarted n j).link.length ∧ ∃ r w, (s.sweepStarted n j).slot n = { s.slot n with scram := r, sweeps := w } := by
  have hsend := sends_sendSweep ((s.sideWrite n 0x40 (leBytes 1 3)).setLaneState n j 1) n j
  have hv : n < (((s.sideWrite n 0x40 (leBytes 1 3)).setLaneState n j 1).sendSweep n j).link.length :=
    hsend.kept.within (by simpa using (sideWrite_kept s n 0x40 (leBytes 1 3)).within hn)
  obtain ⟨r, hr⟩ := hsend.slot
  obtain ⟨w, hw⟩ := noteSweep_slot _ hv j
  refine ⟨(modSlot_kept ..).within hv, r, w, ?_⟩
  rw [State.sweepStarted, hw, hr, State.setLaneState_slot]
  rfl

theorem sweepLane_slot (retry : Bool) : ∃ r w i, (s.sweepLane n j retry).slot n = { s.slot n with
    scram := r, sweeps := w, jobs := ((s.slot n).jobs.filter (·.lane != j)) ++ [{ lane := j, retry := retry, since := i }] } := by
  obtain ⟨hu, r, w, hslot⟩ := sweepStarted_slot s hn (j := j)
  refine ⟨r, w, (((s.sideWrite n 0x40 (leBytes 1 3)).setLaneState n j 1).sendSweep n j).clk.now, ?_⟩
  exact (State.modSlot_slot (s.sweepStarted n j) _ hu).trans (by rw [hslot])

end

theorem sweepLane_jobs (s : State) {n : Nat} (hn : n < s.link.length) (j : Nat) (retry : Bool) :
    ∃ w ∈ ((s.sweepLane n j retry).slot n).jobs, w.lane = j ∧ w.retry = retry ∧ w.verifying = false := by
  obtain ⟨r, w, i, hslot⟩ := sweepLane_slot s hn (j := j) retry
  rw [hslot]
  exact ⟨{ lane := j, retry := retry, since := i }, by simp, rfl, rfl, rfl⟩

section
variable (s : State) (n : Nat) {j : Nat} (retry : Bool)

/-- Behind the change of the lane's state a sweep of one lane keeps what the link keeps. -/
theorem sweepLane_kept : LinkKept ((s.sideWrite n 0x40 (leBytes 1 3)).setLaneState n j 1) (s.sweepLane n j retry) :=
  ((sends_sendSweep ..).kept.trans (modSlot_kept ..)).trans (modSlot_kept ..)

theorem sweepLane_clk : (s.sweepLane n j retry).clk = s.clk := by
  rw [(sweepLane_kept ..).clk, (State.setLaneState_fields ..).2.1]
  rfl

theorem sweepLane_laneState : (s.sweepLane n j retry).laneState n j = 1 := by
  rw [(sweepLane_kept ..).laneState]
  exact State.laneState_set _ n j (by decide)

theorem sweepLane_laneState_ne {i : Nat} (hi : i < 5) (hj : j < 5) (h : i ≠ j) : (s.sweepLane n j retry).laneState n i = s.laneState n i := by
  rw [(sweepLane_kept ..).laneState, State.laneState_set_ne _ n 1 hi hj h]
  exact (sideWrite_kept ..).laneState n i

/-- The sweep of a lane changes no object but lanes' states. -/
theorem sweepLane_nat {q : Obj} (hq : touched slotObjs q.key = false) : (s.sweepLane n j retry).nat q = s.nat q := by
  obtain ⟨-, -, hnat, -⟩ := vals_of_fr (State.sweepLane_fr (c := 17180393472) (r := slotObjs) (p1 := n) (p2 := j) (p3 := retry) rfl rfl (fr_refl s)) rfl rfl (by decide) hq
  exact hnat

end

set_option maxRecDepth 20000 in
theorem linkSpareSwitchCount_untouched : touched slotObjs O.linkSpareSwitchCount.key = false := by decide

set_option maxRecDepth 20000 in
theorem linkRetryCount_untouched : touched slotObjs O.linkRetryCount.key = false := by decide

/-! ## A retry of a failed lane -/

/-- The instant from which a lane may be swept again has been reached (R288). -/
def State.retryTime (s : State) (n j : Nat) : State :=
  match (s.slot n).sweeps.find? (·.1 == j) with | some y => s.elapseTo (y.2.1 + 60000000000) | none => s

theorem retryTime_keeps (s : State) (n j : Nat) : (s.retryTime n j).nat O.linkRetryCount = s.nat O.linkRetryCount ∧
    ∀ y, (s.slot n).sweeps.find? (·.1 == j) = some y → y.2.1 + 60000000000 ≤ (s.retryTime n j).clk.now := by
  unfold State.retryTime
  split
  · next y hy => exact ⟨by simp, fun y' hy' => by rw [hy] at hy'; cases hy'; exact s.elapseTo_reached _⟩
  · next hy => exact ⟨rfl, fun y' hy' => by rw [hy] at hy'; cases hy'⟩

theorem cmdLaneRetry_sweeps {s : State} {n j : Nat} (hlane : s.laneState n j = 4) (hst : s.slotState n = 4 ∨ s.slotState n = 5)
    (hday : ∀ y ∈ (s.slot n).sweeps.find? (·.1 == j), y.2.2.2 < 1440) :
    cmdLaneRetry s n j = ((s.retryTime n j).bump O.linkRetryCount).sweepLane n j true := by
  have hmany : ∀ t : State, ((s.slot n).sweeps.find? (·.1 == j)).any (fun y => y.2.2.1 == t.ns / 86400000000000 && 1440 ≤ y.2.2.2) = false := by
    intro t
    cases hf : (s.slot n).sweeps.find? (·.1 == j) with
    | none => rfl
    | some y =>
      have hy := hday y hf
      simp [Nat.not_le.mpr hy]
  have hgo : ¬ (s.laneState n j ≠ 4 ∨ (s.slotState n ≠ 4 ∧ s.slotState n ≠ 5)) := by omega
  unfold cmdLaneRetry
  rw [if_neg hgo]
  dsimp only
  rw [hmany]
  rfl

/-! ## A failing lane -/

section
variable {s t : State} (h : LinkKept s t) (n : Nat)
include h

theorem LinkKept.standby : t.standby n = s.standby n := by
  simp only [State.standby, h.laneState]

theorem LinkKept.failingLanes (hl : (t.slot n).logical = (s.slot n).logical) (p : PartnerStat) : t.failingLanes n p = s.failingLanes n p := by
  simp only [State.failingLanes, h.laneState, hl]

end

theorem standby_lt {s : State} {n k : Nat} (h : s.standby n = some k) : k < 5 := by
  simpa using List.mem_of_find?_eq_some h

theorem suspend_scanLine (s : State) (b : Nat) : (s.suspend b).scan.line = s.scan.line := by
  have huncover : ∀ t : State, t.uncover.scan.line = t.scan.line := fun _ => rfl
  unfold State.suspend
  split
  · rfl
  · rw [huncover]
    simp only [State.post_fields, State.bump_fields, State.put_fields]

theorem resume_scan (s : State) (b : Nat) : (s.resume b).scan = s.scan :=
  ((State.resume_fr (c := 22548578304) (r := 885443715538065817600) rfl rfl (fr_refl s)).1 .scan rfl).symm

theorem refreshFaults_scanLine (s : State) : s.refreshFaults.scan.line = s.scan.line := by
  unfold State.refreshFaults
  dsimp only
  split
  · simp only [State.putB_fields, suspend_scanLine, State.put_fields]
  · simp only [State.putB_fields, resume_scan, State.put_fields]

/-- The end of a fault leaves the raster where it is. -/
theorem settle_scanLine (s : State) (fam cls : Nat) : (s.settle fam cls).scan.line = s.scan.line := by
  unfold State.settle State.settleIf
  split
  · rw [refreshFaults_scanLine]
  · rfl

theorem spareLine_congr {s t : State} (hv : t.nat O.headVTotal = s.nat O.headVTotal) (hl : t.scan.line = s.scan.line) : t.spareLine = s.spareLine := by
  unfold State.spareLine State.lineNow
  rw [hv, hl]

/-- The standby lane takes the failing lane's place: every lane in use learns it, the switch is counted (R287). -/
def State.spareTaken (s : State) (n L k : Nat) : State :=
  (((s.sendControl n (useSpareBlock L s.spareLine s.frameLo)).bump O.linkSpareSwitchCount).setLaneState n k 2).modSlot n fun x => { x with spare := some (L, k, s.spareLine) }

/-- Without a standby lane the slot goes black (R287). -/
def State.slotBlack (s : State) (n : Nat) : State := s.modSlot n fun x => { x with fed := false, blankNext := x.blankNext || x.fed }

section
variable {s : State} {n j L : Nat} (hL : (s.slot n).logical.findIdx? (· == some j) = some L)
include hL

theorem laneFails_spare {k : Nat} (hk : s.standby n = some k) : s.laneFails n j = (s.spareTaken n L k).sweepLane n j false := by
  unfold State.laneFails
  rw [hL, hk]
  rfl

theorem laneFails_black (hk : s.standby n = none) : s.laneFails n j = (s.slotBlack n).sweepLane n j false := by
  unfold State.laneFails
  rw [hL, hk]
  rfl

end

section
variable (s : State) {n : Nat} (hn : n < s.link.length) (L : Nat) {k : Nat}
include hn

theorem spareTaken_shows : n < (s.spareTaken n L k).link.length ∧ (s.spareTaken n L k).laneState n k = 2 ∧
    ((s.spareTaken n L k).slot n).spare = some (L, k, s.spareLine) ∧ counts s (s.spareTaken n L k) O.linkSpareSwitchCount 1 := by
  have hsend := sends_sendControl s n (useSpareBlock L s.spareLine s.frameLo)
  have hcount := hsend.kept.nat linkSpareSwitchCount_linkObj
  have hu : n < (s.sendControl n (useSpareBlock L s.spareLine s.frameLo)).link.length := hsend.kept.within hn
  have hkey : O.linkSpareSwitchCount.key ≠ (O.linkLaneState (((s.sendControl n (useSpareBlock L s.spareLine s.frameLo)).bump O.linkSpareSwitchCount).laneNo n k)).key :=
    Obj.key_ne_of_index (show 0x5000 ≠ 0x5006 by decide) (show 4 < 256 by decide) (laneSub_lt _)
  unfold State.spareTaken
  generalize s.sendControl n (useSpareBlock L s.spareLine s.frameLo) = u at hcount hu hkey
  refine ⟨by simpa using hu, ?_, by simp [hu], counts_congr hcount.symm ?_ (counts_bump u O.linkSpareSwitchCount (w := 4) rfl rfl)⟩
  · rw [(modSlot_kept ..).laneState]
    exact State.laneState_set _ n k (by decide)
  · rw [(modSlot_kept ..).nat linkSpareSwitchCount_linkObj]
    exact State.nat_put_ne hkey

end

/-! ## A partner's attention -/

/-- The partner's status has been read well (R287, R291). -/
def State.statusRead (s : State) (n : Nat) : State := (s.sideRead n 0x47 2).sidebandOk n

theorem statusRead_kept (s : State) (n : Nat) : LinkKept s (s.statusRead n) := (sideRead_kept ..).trans (sidebandOk_kept ..)

theorem statusRead_slot (s : State) {n : Nat} (hn : n < s.link.length) : (s.statusRead n).slot n = { s.slot n with sideFails := 0, stale := false } :=
  sidebandOk_slot (s.sideRead n 0x47 2) n hn

theorem statusRead_spareLine (s : State) (n : Nat) : (s.statusRead n).spareLine = s.spareLine :=
  spareLine_congr ((statusRead_kept s n).nat (.inl rfl)) (settle_scanLine _ 15 n)

theorem attention_untrained {s : State} {n : Nat} (p : PartnerStat) (h : s.slotState n < 4) : s.attention n p = s := by
  unfold State.attention
  rw [if_pos (by omega)]

/-- Every lane of the list fails in turn, and the partner is told to go on, with its receiver armed while a lane is swept (R287). -/
def State.failLanes (s : State) (n : Nat) (l : List Nat) : State :=
  (l.foldl (fun s j => s.laneFails n j) s).sideWrite n 0x40 (leBytes 1 (if ((l.foldl (fun s j => s.laneFails n j) s).slot n).jobs.isEmpty then 5 else 7))

theorem failLanes_one {s : State} {n j : Nat} (hjobs : ((s.laneFails n j).slot n).jobs ≠ []) :
    s.failLanes n [j] = (s.laneFails n j).sideWrite n 0x40 (leBytes 1 7) := by
  simp [State.failLanes, hjobs]

theorem attention_fails {s : State} {n : Nat} {p : PartnerStat} (hn : n < s.link.length) (hst : s.slotState n = 4 ∨ s.slotState n = 5) (ha : p.answered = true)
    (hb : bitOf p.pstat 3 = true) : s.attention n p = (s.statusRead n).failLanes n (s.failingLanes n p) := by
  rw [← (statusRead_kept s n).failingLanes n (by rw [statusRead_slot s hn]) p]
  unfold State.attention
  rw [if_neg (by omega), ha, hb]
  rfl

/-- The mask of the objects that an attention changes: those of the link's reports, the lanes' states and the count of switches. -/
def attentionObjs : Nat := 51422017416474761026921142528447274939614550335340733464051712

theorem attention_frame (s : State) (n : Nat) (p : PartnerStat) : Fr0 31140134912 attentionObjs s (s.attention n p) := State.attention_fr rfl rfl (fr_refl s)

set_option maxRecDepth 20000 in
theorem linkSlotState_attended (n : Nat) : touched attentionObjs (O.linkSlotState n).key = false := by
  obtain ⟨hge, hle⟩ := Obj.key_le_of_index (o := O.linkSlotState n) (i := 0x5003) rfl (slotSub_lt n)
  exact touched_of_avoids (lo := 0x500300) (hi := 0x5003FF) (by decide) hge hle

/-- What one lane's failure leaves of an even slot, when the odd one of the pair is not trained: that lane's sweep, behind what made it fail (R287). -/
theorem cmdPartnerAttention_one {s v : State} {pair j : Nat} {even : PartnerStat} (odd : PartnerStat) (hn : 2 * pair < s.link.length)
    (hst : s.slotState (2 * pair) = 4 ∨ s.slotState (2 * pair) = 5) (hodd : s.slotState (2 * pair + 1) < 4) (ha : even.answered = true)
    (hb : bitOf even.pstat 3 = true) (hf : s.failingLanes (2 * pair) even = [j]) (hv : 2 * pair < v.link.length)
    (he : (s.statusRead (2 * pair)).laneFails (2 * pair) j = v.sweepLane (2 * pair) j false) :
    cmdPartnerAttention s pair even odd = (v.sweepLane (2 * pair) j false).sideWrite (2 * pair) 0x40 (leBytes 1 7) := by
  have hkeeps : (s.attention (2 * pair) even).slotState (2 * pair + 1) = s.slotState (2 * pair + 1) :=
    (vals_of_fr (attention_frame s (2 * pair) even) rfl rfl (by decide) (linkSlotState_attended _)).2.2.1
  obtain ⟨w, hw, -⟩ := sweepLane_jobs v hv j false
  rw [cmdPartnerAttention, attention_untrained odd (hkeeps ▸ hodd), attention_fails hn hst ha hb, hf, failLanes_one (he ▸ List.ne_nil_of_mem hw), he]

section
variable {s : State} {n j L : Nat} (hn : n < s.link.length) (hL : (s.slot n).logical.findIdx? (· == some j) = some L)
include hn hL

/-- The slot once its partner's status has been read and its standby lane has taken the failing lane's place (R287). -/
theorem statusRead_laneFails_spare {k : Nat} (hk : s.standby n = some k) :
    (s.statusRead n).laneFails n j = ((s.statusRead n).spareTaken n L k).sweepLane n j false :=
  laneFails_spare (by rw [statusRead_slot s hn]; exact hL) (((statusRead_kept s n).standby n).trans hk)

theorem statusRead_laneFails_black (hk : s.standby n = none) : (s.statusRead n).laneFails n j = ((s.statusRead n).slotBlack n).sweepLane n j false :=
  laneFails_black (by rw [statusRead_slot s hn]; exact hL) (((statusRead_kept s n).standby n).trans hk)

end

section
variable {s : State} {pair j L : Nat} {even : PartnerStat} (odd : PartnerStat) (hn : 2 * pair < s.link.length)
  (hst : s.slotState (2 * pair) = 4 ∨ s.slotState (2 * pair) = 5) (hodd : s.slotState (2 * pair + 1) < 4) (ha : even.answered = true)
  (hb : bitOf even.pstat 3 = true) (hf : s.failingLanes (2 * pair) even = [j]) (hj : j < 5) (hL : (s.slot (2 * pair)).logical.findIdx? (· == some j) = some L)
include hn hst hodd ha hb hf hL

include hj in
theorem cmdPartnerAttention_spare {k : Nat} (hk : s.standby (2 * pair) = some k) (hkj : k ≠ j) :
    (cmdPartnerAttention s pair even odd).laneState (2 * pair) k = 2 ∧ (cmdPartnerAttention s pair even odd).laneState (2 * pair) j = 1 ∧
    ((cmdPartnerAttention s pair even odd).slot (2 * pair)).spare = some (L, k, s.spareLine) ∧
    counts s (cmdPartnerAttention s pair even odd) O.linkSpareSwitchCount 1 ∧
    (∃ w ∈ ((cmdPartnerAttention s pair even odd).slot (2 * pair)).jobs, w.lane = j ∧ w.retry = false ∧ w.verifying = false) ∧
    (cmdPartnerAttention s pair even odd).out.head? = some (.panel (2 * pair) (.sideband pair 0x3A 0x40 [7#8])) := by
  have hread := statusRead_kept s (2 * pair)
  obtain ⟨hv, hlane, hspare, hcount⟩ := spareTaken_shows (s.statusRead (2 * pair)) (hread.within hn) L (k := k)
  obtain ⟨r, w, i, hslot⟩ := sweepLane_slot _ hv (j := j) false
  have hjobs := sweepLane_jobs _ hv j false
  have hcounted := sweepLane_nat ((s.statusRead (2 * pair)).spareTaken (2 * pair) L k) (2 * pair) (j := j) false linkSpareSwitchCount_untouched
  have hlanes := sweepLane_laneState_ne ((s.statusRead (2 * pair)).spareTaken (2 * pair) L k) (2 * pair) false (standby_lt hk) hj hkj
  rw [cmdPartnerAttention_one odd hn hst hodd ha hb hf hv (statusRead_laneFails_spare hn hL hk), (sideWrite_kept ..).laneState, (sideWrite_kept ..).laneState, State.sideWrite_slot]
  refine ⟨hlanes.trans hlane, sweepLane_laneState .., ?_, ?_, hjobs, ?_⟩
  · exact (congrArg Slot.spare hslot).trans (hspare.trans (by rw [statusRead_spareLine]))
  · exact counts_congr (hread.nat linkSpareSwitchCount_linkObj).symm (((sideWrite_kept ..).nat linkSpareSwitchCount_linkObj).trans hcounted) hcount
  · have hpair : 2 * pair / 2 = pair ∧ 2 * pair % 2 = 0 := by omega
    simp [State.sideWrite, State.sideTarget, State.emit, hpair, leBytes]

theorem cmdPartnerAttention_black (hk : s.standby (2 * pair) = none) :
    (cmdPartnerAttention s pair even odd).laneState (2 * pair) j = 1 ∧ ((cmdPartnerAttention s pair even odd).slot (2 * pair)).fed = false ∧
    ((s.slot (2 * pair)).fed = true → ((cmdPartnerAttention s pair even odd).slot (2 * pair)).blankNext = true) ∧
    (cmdPartnerAttention s pair even odd).nat O.linkSpareSwitchCount = s.nat O.linkSpareSwitchCount := by
  have hread := statusRead_kept s (2 * pair)
  have hblack : LinkKept (s.statusRead (2 * pair)) ((s.statusRead (2 * pair)).slotBlack (2 * pair)) := modSlot_kept ..
  have hv := hblack.within (hread.within hn)
  have hblacked : ((s.statusRead (2 * pair)).slotBlack (2 * pair)).slot (2 * pair) =
      { s.slot (2 * pair) with sideFails := 0, stale := false, fed := false, blankNext := (s.slot (2 * pair)).blankNext || (s.slot (2 * pair)).fed } :=
    (State.modSlot_slot _ _ (hread.within hn)).trans (by rw [statusRead_slot s hn])
  obtain ⟨r, w, i, hslot⟩ := sweepLane_slot _ hv (j := j) false
  rw [hblacked] at hslot
  have hcounted := sweepLane_nat ((s.statusRead (2 * pair)).slotBlack (2 * pair)) (2 * pair) (j := j) false linkSpareSwitchCount_untouched
  rw [cmdPartnerAttention_one odd hn hst hodd ha hb hf hv (statusRead_laneFails_black hn hL hk), (sideWrite_kept ..).laneState, (sideWrite_kept ..).nat linkSpareSwitchCount_linkObj, State.sideWrite_slot]
  refine ⟨sweepLane_laneState .., congrArg Slot.fed hslot, fun hfed => (congrArg Slot.blankNext hslot).trans (by simp [hfed]), ?_⟩
  exact hcounted.trans ((hread.trans hblack).nat linkSpareSwitchCount_linkObj)

end

/-! ## Telemetry -/

/-- A reading of a partner's telemetry was asked for, or is the repeat of one (R291). -/
def State.telemetryAsked (s : State) (n : Nat) : State :=
  (if (s.slot n).teleAgain then s else s.sideRead n 0x60 32).modSlot n fun x => { x with teleAgain := false }

section
variable (s : State) {n : Nat}

theorem telemetryAsked_kept : LinkKept s (s.telemetryAsked n) := by
  unfold State.telemetryAsked
  split
  · exact modSlot_kept ..
  · exact (sideRead_kept ..).trans (modSlot_kept ..)

variable (hn : n < s.link.length)
include hn

theorem telemetryAsked_slot : (s.telemetryAsked n).slot n = { s.slot n with teleAgain := false } := by
  unfold State.telemetryAsked
  split
  · exact State.modSlot_slot s _ hn
  · exact State.modSlot_slot (s.sideRead n 0x60 32) _ hn

end

theorem telemetryAsked_obj (s : State) (n : Nat) : (s.telemetryAsked n).obj = s.obj := by
  unfold State.telemetryAsked
  split
  · simp
  · exact (State.modSlot_fields (s.sideRead n 0x60 32) n _).2.2.2.2.1

/-- A good reading is kept, and the CRC errors it counts are added (R290, R291). -/
def State.readingKept (s : State) (n : Nat) (b : Bytes) : State :=
  (((s.sidebandOk n).putO (O.partnerTelemetry n) b).modSlot n fun x => { x with
    temp := if bitOf (fieldN b 2 2) 0 then some (fieldI b 0 2) else none, tempAt := ((s.sidebandOk n).putO (O.partnerTelemetry n) b).clk.now
    crcSeen := fieldN b 4 4 }).bumpBy O.partnerCrcCount (fieldN b 4 4 - (s.slot n).crcSeen)

theorem readingKept_shows (s : State) {n : Nat} (hn : n < s.link.length) (b : Bytes) :
    n < (s.readingKept n b).link.length ∧ (s.readingKept n b).oct (O.partnerTelemetry n) = b ∧ (s.readingKept n b).slot n = { s.slot n with
      sideFails := 0, stale := false, temp := if bitOf (fieldN b 2 2) 0 then some (fieldI b 0 2) else none
      tempAt := ((s.sidebandOk n).putO (O.partnerTelemetry n) b).clk.now, crcSeen := fieldN b 4 4 } := by
  have hkey : (O.partnerTelemetry n).key ≠ O.partnerCrcCount.key := Obj.key_ne_of_index (show 0x5005 ≠ 0x5405 by decide) (slotSub_lt n) (show 6 < 256 by decide)
  have hok : n < ((s.sidebandOk n).putO (O.partnerTelemetry n) b).link.length := by simpa using (sidebandOk_kept s n).within hn
  refine ⟨by simpa [State.readingKept] using hok, ?_, ?_⟩
  · exact (State.oct_put_ne hkey).trans (by simp)
  · exact (State.put_slot ..).trans ((State.modSlot_slot _ _ hok).trans (by rw [State.putO_slot, sidebandOk_slot s n hn]))

/-- Rising flags of a reading are a fault of the partner (R291). -/
def State.flagsReported (s : State) (n flags : Nat) (rises : Bool) : State := if rises then s.linkFault 15 n 0 0x0D0E [n, flags] else s

/-- CRC errors of a partner are reported at most once a second (R254). -/
def State.crcReported (s : State) (n cnt base : Nat) (due : Bool) : State :=
  if base < cnt && due then
    ((s.put O.pdpLastStatus 0x0C06).raise 15 n 0 0x0C06 [n, cnt - base]).modSlot n fun x => { x with crcBase := cnt, crcLoggedAt := some s.clk.now }
  else s

theorem flagsReported_keeps (s : State) (n flags : Nat) (rises : Bool) :
    LinkKept s (s.flagsReported n flags rises) ∧ ∀ m, (s.flagsReported n flags rises).slot m = s.slot m := by
  unfold State.flagsReported
  split
  · exact ⟨linkFault_kept .., fun m => by simp⟩
  · exact ⟨.refl s, fun _ => rfl⟩

theorem crcFault_report (s : State) (n : Nat) (param : List Nat) : Fr0 reportParts reportObjs s ((s.put O.pdpLastStatus 0x0C06).raise 15 n 0 0x0C06 param) :=
  State.raise_fr rfl rfl (State.put_fr rfl rfl (fr_refl s) (O.pdpLastStatus_ok rfl))

theorem crcReported_keeps (s : State) {n : Nat} (hn : n < s.link.length) (cnt base : Nat) (due : Bool) :
    LinkKept s (s.crcReported n cnt base due) ∧ ∃ c l, (s.crcReported n cnt base due).slot n = { s.slot n with crcBase := c, crcLoggedAt := l } := by
  unfold State.crcReported
  split
  · have hfault : LinkKept s ((s.put O.pdpLastStatus 0x0C06).raise 15 n 0 0x0C06 [n, cnt - base]) :=
      kept_of_report (crcFault_report ..) ((logGrows_of_eq (by simp)).trans (logGrows_raise _ 15 n 0 0x0C06 _))
    have hslot := State.slot_congr (link_of_report (crcFault_report s n [n, cnt - base])) n
    exact ⟨hfault.trans (modSlot_kept ..), cnt, some s.clk.now, (State.modSlot_slot _ _ (hfault.within hn)).trans (by rw [hslot])⟩
  · exact ⟨.refl s, (s.slot n).crcBase, (s.slot n).crcLoggedAt, rfl⟩

theorem takeTelemetry_eq (s : State) (n : Nat) (b : Bytes) : ∃ rises due, s.takeTelemetry n b =
    (((s.readingKept n b).flagsReported n (fieldN b 2 2) rises).crcReported n (fieldN b 4 4) (s.slot n).crcBase due).updateTMeas := ⟨_, _, rfl⟩

theorem takeTelemetry_shows (s : State) {n : Nat} (hn : n < s.link.length) (b : Bytes) :
    (s.takeTelemetry n b).oct (O.partnerTelemetry n) = b ∧ ((s.takeTelemetry n b).slot n).sideFails = 0 ∧ ((s.takeTelemetry n b).slot n).stale = false ∧
    ((s.takeTelemetry n b).slot n).temp = (if bitOf (fieldN b 2 2) 0 = true then some (fieldI b 0 2) else none) ∧
    ((s.takeTelemetry n b).slot n).crcSeen = fieldN b 4 4 := by
  obtain ⟨rises, due, he⟩ := takeTelemetry_eq s n b
  obtain ⟨hu, hoct, hread⟩ := readingKept_shows s hn b
  obtain ⟨hflags, hslot⟩ := flagsReported_keeps (s.readingKept n b) n (fieldN b 2 2) rises
  obtain ⟨hcrc, c, l, hlast⟩ := crcReported_keeps _ (hflags.within hu) (fieldN b 4 4) (s.slot n).crcBase due
  have hkept := (hflags.trans hcrc).trans (updateTMeas_kept _)
  rw [he]
  refine ⟨(hkept.oct (partnerTelemetry_linkObj n)).trans hoct, ?_⟩
  rw [State.updateTMeas_slot, hlast, hslot, hread]
  exact ⟨rfl, rfl, rfl, rfl⟩

section
variable {s : State} {n : Nat} (hn : n < s.link.length) (hst : ¬ (s.slotState n < 3 ∨ 5 < s.slotState n))
include hst

theorem cmdTelemetryRead_none : cmdTelemetryRead s n none = (s.telemetryAsked n).sidebandFailed n := if_neg hst

theorem cmdTelemetryRead_good {b : Bytes} (hb : b.length = 32) (hcrc : crc32c (b.take 28) = fieldN b 28 4) :
    cmdTelemetryRead s n (some b) = (s.telemetryAsked n).takeTelemetry n b :=
  (if_neg hst).trans (if_pos ⟨hb, hcrc⟩)

theorem cmdTelemetryRead_bad {b : Bytes} (hcrc : crc32c (b.take 28) ≠ fieldN b 28 4) : cmdTelemetryRead s n (some b) =
    if (s.slot n).teleAgain then s.telemetryAsked n else ((s.telemetryAsked n).sideRead n 0x60 32).modSlot n fun x => { x with teleAgain := true } :=
  (if_neg hst).trans (if_neg fun h => hcrc h.2)

include hn

/-- A failed transaction is counted; the third in a row makes the telemetry stale (R291). -/
theorem cmdTelemetryRead_none_shows : ((cmdTelemetryRead s n none).slot n).sideFails = (s.slot n).sideFails + 1 ∧
    ((s.slot n).sideFails = 2 → ((cmdTelemetryRead s n none).slot n).stale = true ∧ logged s (cmdTelemetryRead s n none) (0x0D0C, [n])) := by
  have hkept := telemetryAsked_kept s (n := n)
  have hasked := congrArg Slot.sideFails (telemetryAsked_slot s hn)
  rw [cmdTelemetryRead_none hst]
  refine ⟨(sidebandFailed_counts _ n (hkept.within hn)).trans (by rw [hasked]), fun h2 => ?_⟩
  obtain ⟨hstale, hlogged⟩ := sidebandFailed_third _ n (hkept.within hn) (hasked.trans h2)
  exact ⟨hstale, logged_of_grows hkept.grows hlogged⟩

/-- A reading with a bad CRC is asked for once more, and not used (R291). -/
theorem cmdTelemetryRead_bad_shows {b : Bytes} (hcrc : crc32c (b.take 28) ≠ fieldN b 28 4) :
    ((cmdTelemetryRead s n (some b)).slot n).teleAgain = !(s.slot n).teleAgain ∧ ((cmdTelemetryRead s n (some b)).slot n).temp = (s.slot n).temp ∧
    (cmdTelemetryRead s n (some b)).obj = s.obj := by
  have hasked := telemetryAsked_slot s hn
  have hobj := telemetryAsked_obj s n
  have hu : n < ((s.telemetryAsked n).sideRead n 0x60 32).link.length := (telemetryAsked_kept s).within hn
  rw [cmdTelemetryRead_bad hst hcrc]
  cases hagain : (s.slot n).teleAgain with
  | true =>
    rw [if_pos rfl, hasked]
    exact ⟨rfl, rfl, hobj⟩
  | false =>
    rw [if_neg Bool.false_ne_true, State.modSlot_slot _ _ hu, State.sideRead_slot, hasked]
    exact ⟨rfl, rfl, by simp only [State.modSlot_fields]; exact hobj⟩

end

/-- Settles O39: the removal by `slotCleared_shows`, a failing lane by what its sweep and the spare leave, a reading by `takeTelemetry_shows`. -/
theorem linkUpkeep : Obligations.LinkUpkeep := by
  unfold Obligations.LinkUpkeep
  refine ⟨fun s n at' hdie hlink hhigh hpres hst => gives_of_live hdie rfl (cmdPartnerRemoved_shows (by rw [hlink]; exact n.isLt) hhigh hpres hst),
    fun s pair even odd j L hdie hlink hst hodd ha hb hf hj hL => ?_, fun s n j hdie hlink hlane hst hday => gives_of_live hdie rfl ?_,
    fun s n hdie hlink h3 h5 => ?_⟩
  · have hn : 2 * pair.val < s.link.length := by rw [hlink]; omega
    exact ⟨fun k hk hkj => gives_of_live hdie rfl (cmdPartnerAttention_spare odd hn hst hodd ha hb hf hj hL hk hkj),
      fun hk => gives_of_live hdie rfl (cmdPartnerAttention_black odd hn hst hodd ha hb hf hL hk)⟩
  · obtain ⟨hcount, htime⟩ := retryTime_keeps s n j
    rw [cmdLaneRetry_sweeps hlane hst hday]
    refine ⟨sweepLane_laneState .., counts_congr hcount.symm (sweepLane_nat _ n true linkRetryCount_untouched) (counts_bump _ O.linkRetryCount (w := 4) rfl rfl), fun y hy => ?_⟩
    simp only [sweepLane_clk, State.bump_fields]
    exact htime y hy
  · have hn : n.val < s.link.length := by rw [hlink]; exact n.isLt
    have hread : ¬ (s.slotState n < 3 ∨ 5 < s.slotState n) := by omega
    refine ⟨gives_of_live hdie rfl (cmdTelemetryRead_none_shows hn hread), fun b _ hcrc => gives_of_live hdie rfl (cmdTelemetryRead_bad_shows hn hread hcrc),
      fun b hb hcrc => gives_of_live hdie rfl ?_⟩
    rw [cmdTelemetryRead_good hread hb hcrc]
    exact takeTelemetry_shows _ ((telemetryAsked_kept s).within hn) b

end Sys2Proof.Machine
end

section
/-! How STARTING and STOPPING of ports, audio ports, the clip store and the overlay end (R45, R309, R347, R409, R487). -/

namespace Sys2Proof.Machine

/-! ## STARTING ends -/

theorem portState_put (s : State) (p : Nat) {v : Nat} (hv : v < 256) : (s.put (O.portState p) v).nat (O.portState p) = v :=
  State.nat_put_fits s (O.portState p) v (w := 1) rfl rfl hv

theorem audPortState_put (s : State) (p : Nat) {v : Nat} (hv : v < 256) : (s.put (O.audPortState p) v).nat (O.audPortState p) = v :=
  State.nat_put_fits s (O.audPortState p) v (w := 1) rfl rfl hv

/-- A port that is STARTING enters ON once the island behind it is up; port 0 needs none (R347). -/
theorem cmdPortStartDone_on {s : State} {p : Nat} (hst : s.nat (O.portState p) = 1) (h1 : p = 1 → s.islandUp 3 = true) (h2 : p = 2 → s.islandUp 4 = true) :
    (cmdPortStartDone s p).nat (O.portState p) = 2 := by
  have hup : ((p = 1 && !s.islandUp 3) || (p = 2 && !s.islandUp 4)) = false := by
    by_cases hp1 : p = 1
    · simp [hp1, h1 hp1]
    · by_cases hp2 : p = 2
      · simp [hp2, h2 hp2]
      · simp [hp1, hp2]
  have hon : cmdPortStartDone s p = (s.put (O.portState p) 2).regateStream := by simp [cmdPortStartDone, hst, hup]
  rw [hon, State.regateStream_nat]
  exact portState_put s p (by decide)

/-- An audio port that is STARTING enters ON once the AUD island is up (R409). -/
theorem cmdAudStartDone_on {s : State} {p : Nat} (hst : s.nat (O.audPortState p) = 1) (hup : s.islandUp 28 = true) :
    (cmdAudStartDone s p).nat (O.audPortState p) = 2 := by
  have hon : cmdAudStartDone s p = ((s.startClocks p).restartPort p).put (O.audPortState p) 2 := by simp [cmdAudStartDone, hst, hup]
  rw [hon]
  exact audPortState_put _ p (by decide)

/-- The volume's objects are no others (R488). -/
theorem State.showVolume_nat (s : State) {q : Obj} (hcap : q.key ≠ O.clpCapacity.key) (hfree : q.key ≠ O.clpFreeLargest.key)
    (hcount : q.key ≠ O.clpClipCount.key) : s.showVolume.nat q = s.nat q := by
  unfold State.showVolume
  rw [State.nat_put_ne hcount, State.nat_put_ne hfree, State.nat_put_ne hcap]

/-- A clip store that is STARTING enters ON with no command, whatever its drives answer (R487). -/
theorem cmdClpStartDone_on {s : State} (d0 d1 : DriveProbe) (hst : s.nat O.clpState = 1) :
    (cmdClpStartDone s d0 d1).nat O.clpState = 2 ∧ (cmdClpStartDone s d0 d1).nat O.clpCmdState = 0 := by
  obtain ⟨u, hon⟩ : ∃ u : State, cmdClpStartDone s d0 d1 = (((u.put O.clpState 2).put O.clpCmdState 0).showVolume).regateStream :=
    ⟨_, if_neg fun h => h hst⟩
  rw [hon, State.regateStream_nat, State.regateStream_nat, State.showVolume_nat _ (by decide) (by decide) (by decide),
    State.showVolume_nat _ (by decide) (by decide) (by decide), State.nat_put_ne (by decide)]
  exact ⟨State.nat_put_fits u O.clpState 2 (w := 1) rfl rfl (by decide), State.nat_put_fits _ O.clpCmdState 0 (w := 1) rfl rfl (by decide)⟩

/-- What the overlay enters ON with: both plane buffers zero, and nothing of the ring or of an earlier PUBLISH (R309). -/
theorem cmdOverlayStartDone_eq {s : State} (hst : s.nat O.overlayState = 1) (hup : s.islandUp 27 = true) :
    cmdOverlayStartDone s =
      (({ s with hbm := memClear (memClear s.hbm 0x80000000 0x87E90000) 0x88000000 0x8FE90000 } : State).modRasp fun r => { r with
        head := r.tail, draft := 0, published := [], dirty := [], copying := [], catchup := false, incomplete := [], draws := [] }).put O.overlayState 2 := by
  simp [cmdOverlayStartDone, hst, hup]

/-- Two ranges cleared read as zeros, every other byte as before. -/
theorem memGet_memClear_pair (m : List Host.Cell) (lo hi lo' hi' a : Nat) :
    State.memGet (memClear (memClear m lo hi) lo' hi') a = if lo ≤ a ∧ a < hi ∨ lo' ≤ a ∧ a < hi' then 0#8 else State.memGet m a := by
  by_cases h' : lo' ≤ a ∧ a < hi'
  · rw [if_pos (.inr h')]
    exact memGet_memClear_in h'
  · rw [memGet_memClear_out (by omega)]
    by_cases h : lo ≤ a ∧ a < hi
    · rw [if_pos (.inl h)]
      exact memGet_memClear_in h
    · rw [if_neg (by omega)]
      exact memGet_memClear_out (by omega)

/-! ## STOPPING ends -/

/-- The end of a function's STOPPING before anything starts or is gated: OFF, or STARTING where the slot holds an enable, and the slot empty (R45). -/
def stopEnd (s : State) (f : Fn) : State :=
  { s.put f.stateObj (fnStopEnd (s.held.contains f)) with held := s.held.filter fun g => g != f }

theorem stopEnd_held (s : State) (f : Fn) : (stopEnd s f).held.contains f = false := by simp [stopEnd]

theorem stopEnd_rasp (s : State) (f : Fn) : (stopEnd s f).rasp = s.rasp := by simp [stopEnd]

theorem stopEnd_state (s : State) (f : Fn) : (stopEnd s f).nat f.stateObj = if s.held.contains f then 1 else 0 := by
  have hbyte : f.stateObj.ty.width = some 1 ∧ f.stateObj.ty.isSigned = false := by cases f <;> exact ⟨rfl, rfl⟩
  have hput : (s.put f.stateObj (fnStopEnd (s.held.contains f))).nat f.stateObj = fnStopEnd (s.held.contains f) :=
    State.nat_put_fits s f.stateObj _ hbyte.1 hbyte.2 (by unfold fnStopEnd; split <;> decide)
  exact hput

/-- A function's state and slot at the end of its STOPPING, as `s` held them before (R45). -/
def stoppedAs (s : State) (f : Fn) (t : State) : Prop :=
  t.nat f.stateObj = (if s.held.contains f then 1 else 0) ∧ t.held.contains f = false

theorem stoppedAs_stopEnd (s : State) (f : Fn) : stoppedAs s f (stopEnd s f) := ⟨stopEnd_state s f, stopEnd_held s f⟩

/-- What follows the end of STOPPING and changes neither the function's state nor any slot. -/
theorem stoppedAs.keep {s t u : State} {f : Fn} (h : stoppedAs s f t) (hn : u.nat f.stateObj = t.nat f.stateObj) (hh : u.held = t.held) : stoppedAs s f u := by
  unfold stoppedAs; rw [hn, hh]; exact h

/-- What came before the end of STOPPING and changed no slot. -/
theorem stoppedAs.before {s u t : State} {f : Fn} (h : stoppedAs u f t) (hh : u.held = s.held) : stoppedAs s f t := by
  unfold stoppedAs at h; rwa [hh] at h

theorem fnStarting_held (s : State) (f : Fn) : (s.fnStarting f).held = s.held :=
  ((State.fnStarting_fr (c := 31142494728) (r := 9444730713939484213248) rfl rfl (fr_refl s)).1 .held rfl).symm

theorem regateStream_held (s : State) : s.regateStream.held = s.held := (s.regateStream_frame.1 .held rfl).symm

/-- Every function but panel power ends STOPPING in OFF, or starts at once where the slot holds an enable, which it then no longer does (R45). -/
theorem fnStopped_stoppedAs (s : State) {f : Fn} (hf : f ≠ .panel) {gate : State → State}
    (hg : ∀ t, (gate t).nat f.stateObj = t.nat f.stateObj ∧ (gate t).held = t.held) : stoppedAs s f (s.fnStopped f gate) := by
  have hends : s.fnStopped f gate = if s.held.contains f then (stopEnd s f).fnStarting f else gate (stopEnd s f) := rfl
  rw [hends]
  split
  · next hagain =>
    refine (stoppedAs_stopEnd s f).keep ?_ (fnStarting_held _ f)
    rw [fnStarting_state _ hf, stopEnd_state, if_pos hagain]
  · exact (stoppedAs_stopEnd s f).keep (hg _).1 (hg _).2

theorem stoppedAs.regated {s t : State} {f : Fn} (h : stoppedAs s f t) : stoppedAs s f t.regateStream :=
  h.keep (t.regateStream_nat _) (regateStream_held t)

/-- A port that closes keeps every slot (R347). -/
theorem closePort_held (s : State) (p : Nat) : (s.closePort p).held = s.held :=
  ((State.closePort_fr (c := 17188257792) (r := 36028797018963968) rfl rfl (fr_refl s)).1 .held rfl).symm

theorem cmdPortStopDone_stopped {s : State} {p : Nat} (hst : s.nat (O.portState p) = 3) : stoppedAs s (.port p) (cmdPortStopDone s p) := by
  have hends : cmdPortStopDone s p = ((s.closePort p).fnStopped (.port p) fun s => if p = 0 then s else s.gateIsl (2 + p)).regateStream :=
    if_neg fun h => h hst
  rw [hends]
  refine ((fnStopped_stoppedAs (s.closePort p) (f := .port p) (nofun) fun t => ?_).before (closePort_held s p)).regated
  split
  · exact ⟨rfl, rfl⟩
  · simp

/-- The clocks of a port stop and no slot changes (R409). -/
theorem stopClocks_held (s : State) (p : Nat) : (s.stopClocks p).held = s.held :=
  ((State.stopClocks_fr (c := 4194304) (r := 0) rfl rfl (fr_refl s)).1 .held rfl).symm

theorem cmdAudPortStopDone_stopped {s : State} {p : Nat} (hst : s.nat (O.audPortState p) = 3) : stoppedAs s (.aud p) (cmdAudPortStopDone s p) := by
  have hends : cmdAudPortStopDone s p =
      (s.stopClocks p).fnStopped (.aud p) fun s => if (List.range 8).all fun q => s.nat (O.audPortState q) == 0 then s.gateIsl 28 else s :=
    if_neg fun h => h hst
  rw [hends]
  refine (fnStopped_stoppedAs (s.stopClocks p) (f := .aud p) (nofun) fun t => ?_).before (stopClocks_held s p)
  split
  · simp
  · exact ⟨rfl, rfl⟩

/-- A command of the clip store that ends changes no slot (R477). -/
theorem finishCommand_held (s : State) : (finishCommand s).held = s.held :=
  ((finishCommand_fr (c := 23085449216) (r := 164824271478258174385263562509591248896) rfl rfl (fr_refl s)).1 .held rfl).symm

theorem cmdClpStopDone_stopped {s : State} (hst : s.nat O.clpState = 3) : stoppedAs s .clip (cmdClpStopDone s) := by
  have hends : cmdClpStopDone s = ((if s.clpHeld then s else finishCommand s).fnStopped .clip fun s => s.gateIsl 1).regateStream := if_neg fun h => h hst
  have hheld : (if s.clpHeld then s else finishCommand s).held = s.held := by
    split
    · rfl
    · exact finishCommand_held s
  rw [hends]
  exact ((fnStopped_stoppedAs _ (f := .clip) (nofun) fun t => by simp).before hheld).regated

/-- The Rasp as its STOPPING ends: the ring emptied, an incomplete PUBLISH and its catch-up abandoned (R309). -/
def raspEmptied (s : State) : State :=
  (s.modRasp fun r => { r with head := r.tail, incomplete := [], catchup := false, copying := [], draws := [] }).markResident

theorem cmdOverlayStopDone_eq {s : State} (hst : s.nat O.overlayState = 3) : cmdOverlayStopDone s =
    if (raspEmptied s).held.contains Fn.overlay then (stopEnd (raspEmptied s) .overlay).overlayStarting else (stopEnd (raspEmptied s) .overlay).gateIsl 27 :=
  if_neg fun h => h hst

theorem cmdOverlayStopDone_stopped {s : State} (hst : s.nat O.overlayState = 3) :
    stoppedAs s .overlay (cmdOverlayStopDone s) ∧ (cmdOverlayStopDone s).rasp.head = s.rasp.tail ∧ (cmdOverlayStopDone s).rasp.incomplete = [] := by
  have hend : stoppedAs s .overlay (stopEnd (raspEmptied s) .overlay) := (stoppedAs_stopEnd (raspEmptied s) .overlay).before rfl
  have hrasp : (stopEnd (raspEmptied s) .overlay).rasp = (raspEmptied s).rasp := stopEnd_rasp ..
  rw [cmdOverlayStopDone_eq hst]
  split
  · exact ⟨hend.keep (overlayStarting_nat ..) rfl, congrArg Rasp.head hrasp, congrArg Rasp.incomplete hrasp⟩
  · refine ⟨hend.keep (by simp) (by simp), ?_, ?_⟩
    · simp only [State.gateIsl_fields, hrasp]; rfl
    · simp only [State.gateIsl_fields, hrasp]; rfl

/-- Settles O14: the ends of STARTING command by command, the ends of STOPPING by `stoppedAs`. -/
theorem functionTransitionsEnd : Obligations.FunctionTransitionsEnd := by
  refine ⟨⟨fun s p hdie hst h3 h4 => ?_, fun s p hdie hst hup => ?_, fun s d0 d1 hdie hst => ?_, fun s hdie hst hup => gives_of_live hdie rfl ?_⟩,
    fun s p hdie hst => ?_, fun s p hdie hst => ?_, fun s hdie hst => ?_, fun s hdie hst => gives_of_live hdie rfl ?_⟩
  · exact gives_of_live hdie rfl (cmdPortStartDone_on hst (fun h => h3 (Fin.ext h)) fun h => h4 (Fin.ext h))
  · exact gives_of_live hdie rfl (cmdAudStartDone_on hst hup)
  · exact gives_of_live hdie rfl (cmdClpStartDone_on d0 d1 hst)
  · rw [cmdOverlayStartDone_eq hst hup]
    refine ⟨State.nat_put_fits _ O.overlayState 2 (w := 1) rfl rfl (by decide), by simp, by simp, by simp, fun a => ?_⟩
    simpa using memGet_memClear_pair s.hbm 0x80000000 0x87E90000 0x88000000 0x8FE90000 a
  · exact gives_of_live hdie rfl (cmdPortStopDone_stopped hst)
  · exact gives_of_live hdie rfl (cmdAudPortStopDone_stopped hst)
  · exact gives_of_live hdie rfl (cmdClpStopDone_stopped hst)
  · obtain ⟨⟨hstate, hheld⟩, hhead, hinc⟩ := cmdOverlayStopDone_stopped hst
    exact ⟨hstate, hheld, hhead, hinc⟩

end Sys2Proof.Machine
end

section
/-! The commands of the Rasp ring that draw nothing: handing over, NOP, FENCE, PUBLISH for an epoch, and refused entries (R298, R299, R304, R305, R308, R310). -/

namespace Sys2Proof.Machine

/-! ## An entry is taken -/

/-- The state with the entry at HEAD copied: HEAD advanced and the read made (R298). -/
def State.entryTaken (s : State) : State := s.takeEntry.memRequest

@[simp] theorem State.entryTaken_fields (s : State) :
    s.entryTaken.rasp = { s.rasp with head := (s.rasp.head + 1) % max 1 s.ringEntries } ∧ s.entryTaken.part = s.part ∧ s.entryTaken.hbm = s.hbm ∧
    s.entryTaken.hif = s.hif ∧ s.entryTaken.log = s.log := by
  simp [State.entryTaken, State.takeEntry]

@[simp] theorem State.entryTaken_nat (s : State) (q : Obj) : s.entryTaken.nat q = s.nat q := by simp [State.entryTaken, State.takeEntry]

/-- What PUBLISH is measured against does not depend on HEAD or on the wake of the stacks (R308). -/
theorem State.entryTaken_publish (s : State) :
    s.entryTaken.publishFloor = s.publishFloor ∧ s.entryTaken.publishDelay = s.publishDelay ∧ s.entryTaken.tf = s.tf ∧ s.entryTaken.ns = s.ns :=
  ⟨rfl, rfl, rfl, rfl⟩

/-- A valid entry of a command that draws nothing is taken and run (R298, R299). -/
theorem State.withCommand_taken {s : State} {op : Nat} {body : State → Bytes → State} (hready : s.raspReady = true) (hop : fieldN s.ringEntry 0 1 = op)
    (hok : s.commandError s.ringEntry = none) (hdraw : op ≠ 1 ∧ op ≠ 2) : s.withCommand op body = body s.entryTaken s.ringEntry := by
  obtain ⟨h1, h2⟩ := hdraw
  simp [State.withCommand, State.entryTaken, hready, hop, hok, h1, h2]

/-! ## Completion and refusal -/

@[simp] theorem State.raspDone_fields (s : State) :
    s.raspDone.rasp = s.rasp ∧ s.raspDone.hbm = s.hbm ∧ s.raspDone.hif = s.hif ∧ s.raspDone.log = s.log := by
  simp [State.raspDone]

theorem State.raspDone_nat (s : State) {q : Obj} (hq : q.key ≠ O.raspCmdCount.key) : s.raspDone.nat q = s.nat q := State.nat_bump_ne hq

/-- A completed command is counted (R311). -/
theorem counts_raspDone {s u : State} (hu : u.nat O.raspCmdCount = s.nat O.raspCmdCount) : counts s u.raspDone O.raspCmdCount 1 :=
  counts_congr hu.symm rfl (counts_bump u O.raspCmdCount (w := 8) rfl rfl)

@[simp] theorem State.raspError_fields (s : State) (code : Nat) :
    (s.raspError code).rasp = { s.rasp with status := code * 65536 + 1 } ∧ (s.raspError code).hbm = s.hbm ∧ (s.raspError code).log = s.log := by
  simp [State.raspError]

theorem State.raspError_nat (s : State) (code : Nat) {q : Obj} (hq : q.key ≠ O.raspLastStatus.key) : (s.raspError code).nat q = s.nat q := by
  simp [State.raspError, State.nat_put_ne hq]

/-- A refused command is counted (R311). -/
theorem counts_raspRefused {s u : State} (hu : u.nat O.raspRefusedCount = s.nat O.raspRefusedCount) : counts s (u.bump O.raspRefusedCount) O.raspRefusedCount 1 :=
  counts_congr hu.symm rfl (counts_bump u O.raspRefusedCount (w := 4) rfl rfl)

/-- An entry taken and refused with a code: the code in RASP_STATUS, and one more refused (R299, R308). -/
def raspRefused (s : State) (code : Nat) : State := (s.entryTaken.raspError code).bump O.raspRefusedCount

@[simp] theorem raspRefused_fields (s : State) (code : Nat) :
    (raspRefused s code).rasp = { s.rasp with head := (s.rasp.head + 1) % max 1 s.ringEntries, status := code * 65536 + 1 } ∧
    (raspRefused s code).hbm = s.hbm := by
  simp [raspRefused]

theorem raspRefused_counts (s : State) (code : Nat) : counts s (raspRefused s code) O.raspRefusedCount 1 :=
  counts_raspRefused (by rw [State.raspError_nat _ _ (by decide), State.entryTaken_nat])

/-! ## Reports -/

/-- Of the objects, a code that is no fault-class code touches the count of lost entries alone (R448). -/
theorem State.post_nat (s : State) (code : Nat) (param : List Nat) {q : Obj} (hq : q.key ≠ O.logLostCount.key) : (s.post code param).nat q = s.nat q := by
  have hlost : ∀ t : State, (t.bump O.logLostCount).nat q = t.nat q := fun t => State.nat_bump_ne hq
  unfold State.post State.postWith
  split
  · exact hlost _
  · rfl

/-! ## RASP_RING_TAIL -/

/-- A TAIL past the ring is ignored and logged (R298). -/
theorem cmdRaspRingTail_past {s : State} {v : Nat} (h : s.ringEntries ≤ v % 16384) : (cmdRaspRingTail s v).rasp = s.rasp ∧
    shows (cmdRaspRingTail s v) O.raspLastStatus 0x0E01 ∧ logs s (cmdRaspRingTail s v) [(0x0E01, [v % 16384])] := by
  rw [show cmdRaspRingTail s v = s.note O.raspLastStatus 0x0E01 [v % 16384] from if_pos h]
  refine ⟨by simp, ?_, logs_note s _ _ _⟩
  unfold shows State.note
  rw [State.post_nat _ _ _ (by decide)]
  exact shows_put s O.raspLastStatus 0x0E01 (w := 2) rfl rfl

/-! ## FENCE -/

/-- The value a FENCE writes stands in RASP_FENCE, with every command before it complete (R304). -/
def fenced (s : State) : State := (s.entryTaken.modRasp fun r => { r with fence := fieldN s.ringEntry 0x3C 4, draws := [] }).raspDone

theorem fenced_shows (s : State) :
    (fenced s).rasp = { s.rasp with head := (s.rasp.head + 1) % max 1 s.ringEntries, fence := fieldN s.ringEntry 0x3C 4, draws := [] } ∧
    counts s (fenced s) O.raspCmdCount 1 ∧ (fenced s).hbm = s.hbm ∧ (fenced s).hif = s.hif :=
  ⟨by simp [fenced], counts_raspDone (by simp), by simp [fenced], by simp [fenced]⟩

/-! ## PUBLISH -/

/-- An accepted PUBLISH is the last one, and its epoch is shown (R308, R311). -/
def publishNoted (s : State) (k : Nat) : State := (s.modRasp fun r => { r with lastPublish := some k }).put O.raspPublishedEpoch k

/-- While a catch-up runs an accepted PUBLISH waits for it, and with it the frames from its epoch on (R123, R308). -/
theorem State.acceptPublish_waits {s : State} (k : Nat) (h : s.rasp.catchup = true) :
    s.acceptPublish k = ((publishNoted s k).modRasp fun r => { r with incomplete := [k] }).withdrawResident k :=
  if_pos (by simpa [State.modRasp_fields] using h)

/-- With no catch-up an accepted PUBLISH completes at once (R295, R307). -/
theorem State.acceptPublish_completes {s : State} (k : Nat) (h : s.rasp.catchup = false) :
    s.acceptPublish k = ((publishNoted s k).completePublish k).raspDone :=
  if_neg (by simp [State.modRasp_fields, h])

theorem publishNoted_rasp (s : State) (k : Nat) : (publishNoted s k).rasp = { s.rasp with lastPublish := some k } := by simp [publishNoted]

theorem publishNoted_cmdCount (s : State) (k : Nat) : (publishNoted s k).nat O.raspCmdCount = s.nat O.raspCmdCount := by
  simp [publishNoted, State.nat_put_ne (o := O.raspPublishedEpoch) (q := O.raspCmdCount) (by decide)]

theorem shows_publishNoted (s : State) (k : Nat) : shows (publishNoted s k) O.raspPublishedEpoch k :=
  shows_put _ O.raspPublishedEpoch k (w := 8) rfl rfl

theorem shows_congr {t u : State} {o : Obj} {v : Nat} (hu : u.nat o = t.nat o) (h : shows t o v) : shows u o v := by
  unfold shows; rw [hu]; exact h

/-- The residency of waiting frames is no matter of the Rasp, of memory or of an object. -/
theorem State.withdrawResident_fields (s : State) (k : Nat) :
    (s.withdrawResident k).rasp = s.rasp ∧ (s.withdrawResident k).hbm = s.hbm ∧ ∀ q, (s.withdrawResident k).nat q = s.nat q :=
  ⟨rfl, rfl, fun q => by simp [State.withdrawResident]⟩

/-- What an accepted PUBLISH for epoch `k` makes of the Rasp (R295, R307, R308, R311). -/
def publishAccepted (s : State) (k : Nat) (t : State) : Prop :=
  t.rasp.head = s.rasp.head ∧ t.hbm = s.hbm ∧ t.rasp.lastPublish = some k ∧ shows t O.raspPublishedEpoch k ∧
  (s.rasp.catchup = true → t.rasp.incomplete = [k] ∧ t.rasp.draft = s.rasp.draft ∧ t.nat O.raspCmdCount = s.nat O.raspCmdCount) ∧
  (s.rasp.catchup = false → counts s t O.raspCmdCount 1 ∧ t.rasp.published = (k, s.rasp.draft) :: s.rasp.published ∧ t.rasp.draft = 1 - s.rasp.draft ∧
    t.rasp.catchup = true ∧ t.rasp.copying = s.rasp.dirty ∧ t.rasp.dirty = [])

theorem acceptPublish_accepted (s : State) (k : Nat) : publishAccepted s k (s.acceptPublish k) := by
  have hnoted := publishNoted_rasp s k
  cases hc : s.rasp.catchup with
  | true =>
    obtain ⟨hrasp, hhbm, hnat⟩ := State.withdrawResident_fields ((publishNoted s k).modRasp fun r => { r with incomplete := [k] }) k
    rw [State.acceptPublish_waits k hc]
    refine ⟨?_, ?_, ?_, shows_congr (by simp [hnat]) (shows_publishNoted s k), fun _ => ⟨?_, ?_, ?_⟩, fun h => absurd (hc.symm.trans h) (by decide)⟩
    · simp [hrasp, hnoted]
    · simp [publishNoted]
    · simp [hrasp, hnoted]
    · simp [hrasp]
    · simp [hrasp, hnoted]
    · simp [hnat, publishNoted_cmdCount]
  | false =>
    have hshown : ((publishNoted s k).completePublish k).raspDone.nat O.raspPublishedEpoch = (publishNoted s k).nat O.raspPublishedEpoch := by
      rw [State.raspDone_nat _ (by decide)]; simp [State.completePublish]
    rw [State.acceptPublish_completes k hc]
    refine ⟨?_, ?_, ?_, shows_congr hshown (shows_publishNoted s k), fun h => absurd (hc.symm.trans h) (by decide), fun _ => ⟨counts_raspDone ?_, ?_⟩⟩
    · simp [State.completePublish, hnoted]
    · simp [State.completePublish, publishNoted]
    · simp [State.completePublish, hnoted]
    · simp [State.completePublish, publishNoted_cmdCount]
    · simp [State.completePublish, hnoted]

/-! ## Each command's outcome -/

section
variable {s : State} (hready : s.raspReady = true) (hok : s.commandError s.ringEntry = none)
include hready hok

theorem cmdNop_taken (hop : fieldN s.ringEntry 0 1 = 0) : cmdNop s = s.entryTaken.raspDone :=
  State.withCommand_taken hready hop hok (by decide)

theorem cmdFence_taken (hop : fieldN s.ringEntry 0 1 = 4) :
    cmdFence s = if bitOf (fieldN s.ringEntry 1 1) 3 then (fenced s).irq 3 else fenced s :=
  State.withCommand_taken hready hop hok (by decide)

variable (hop : fieldN s.ringEntry 0 1 = 3) {k : Nat} (hk : k = fieldN s.ringEntry 0x20 8) (hk0 : k ≠ 0)
include hop hk hk0

/-- A PUBLISH for an epoch: out of order, late, or accepted (R308). -/
theorem cmdPublish_epoch : cmdPublish s =
    if k < s.publishFloor then raspRefused s 0x0E05
    else if deadlineAt s.tf k < ((s.ns + s.publishDelay : Nat) : Int) then raspRefused s 0x0E04
    else (s.entryTaken.acceptPublish k).markResident := by
  obtain ⟨hfloor, hdelay, htf, hns⟩ := s.entryTaken_publish
  unfold cmdPublish
  rw [State.withCommand_taken hready hop hok (by decide)]
  simp only [← hk, hk0, if_false, hfloor, hdelay, htf, hns, raspRefused]

/-- Whatever becomes of it, a PUBLISH takes one entry and writes no memory (R298, R308). -/
theorem cmdPublish_takes : (cmdPublish s).rasp.head = (s.rasp.head + 1) % max 1 s.ringEntries ∧ (cmdPublish s).hbm = s.hbm := by
  rw [cmdPublish_epoch hready hok hop hk hk0]
  split
  · simp
  · split
    · simp
    · obtain ⟨hhead, hhbm, -⟩ := acceptPublish_accepted s.entryTaken k
      exact ⟨hhead, hhbm⟩

theorem cmdPublish_outOfOrder (hf : k < s.publishFloor) : cmdPublish s = raspRefused s 0x0E05 := by
  rw [cmdPublish_epoch hready hok hop hk hk0, if_pos hf]

theorem cmdPublish_late (hf : s.publishFloor ≤ k) (hl : deadlineAt s.tf k < ((s.ns + s.publishDelay : Nat) : Int)) : cmdPublish s = raspRefused s 0x0E04 := by
  rw [cmdPublish_epoch hready hok hop hk hk0, if_neg (by omega), if_pos hl]

theorem cmdPublish_accepted (hf : s.publishFloor ≤ k) (hl : ((s.ns + s.publishDelay : Nat) : Int) ≤ deadlineAt s.tf k) :
    cmdPublish s = (s.entryTaken.acceptPublish k).markResident := by
  rw [cmdPublish_epoch hready hok hop hk hk0, if_neg (by omega), if_neg (by omega)]

end

/-! ## Refused entries -/

theorem cmdRaspCommandRefused_invalid {s : State} {code : Nat} (hready : s.raspReady = true) (hcode : s.commandError s.ringEntry = some code) :
    cmdRaspCommandRefused s false = raspRefused s code := by
  simp [cmdRaspCommandRefused, raspRefused, State.entryTaken, hready, hcode]

/-- An entry taken whose read met an uncorrectable error, reported before it counts as refused and complete (R216, R305). -/
def raspUnread (s : State) : State := ((s.entryTaken.eccUncorrectable (ringBase + 64 * s.rasp.head) .rasp).raspError 0x0E06).post 0x0E06

theorem cmdRaspCommandRefused_unread {s : State} (hready : s.raspReady = true) :
    cmdRaspCommandRefused s true = ((raspUnread s).bump O.raspRefusedCount).raspDone := by
  simp [cmdRaspCommandRefused, raspUnread, State.entryTaken, hready]

/-- An uncorrectable sector is logged once, with its address, its partition and the class that read it (R216). -/
theorem logs_eccUncorrectable (s : State) (a : Nat) (cls : MemClass) : logs s (s.eccUncorrectable a cls) [(0x0A02, [a, s.partitionOf a, cls.num])] := by
  unfold State.eccUncorrectable
  dsimp only
  rw [State.partitionOf_congr (s := s) (by simp)]
  exact logs_congr (by simp) rfl (logs_postWith _ false 0x0A02 _)

theorem logs_raspUnread (s : State) :
    logs s (raspUnread s) [(0x0A02, [0x98000000 + 64 * s.rasp.head, s.partitionOf (0x98000000 + 64 * s.rasp.head), 6]), (0x0E06, [])] := by
  have hread := logs_eccUncorrectable s.entryTaken (ringBase + 64 * s.rasp.head) .rasp
  rw [State.partitionOf_congr (s := s) (by simp)] at hread
  exact logs_trans (logs_congr (by simp) rfl hread) (logs_congr (by simp) rfl (logs_post _ 0x0E06 []))

/-- The objects of an uncorrectable sector, and the count of lost entries, lie above the Rasp's (R216, R221). -/
theorem State.eccUncorrectable_nat (s : State) (a : Nat) (cls : MemClass) {q : Obj} (hq : q.key < 0xA200 * 256) : (s.eccUncorrectable a cls).nat q = s.nat q := by
  have habove : ∀ o : Obj, 0xA200 ≤ o.index → q.key ≠ o.key := fun o ho => by unfold Obj.key at hq ⊢; omega
  unfold State.eccUncorrectable
  refine (State.post_nat _ _ _ (habove _ (by decide))).trans ?_
  rw [State.nat_bump_ne (habove _ (show 0xA200 ≤ 0xA503 by decide)), State.nat_put_ne (habove _ (by decide)), State.nat_put_ne (habove _ (by decide)),
    State.nat_put_ne (habove _ (by decide))]

/-- The report of the read touches neither count of commands (R311). -/
theorem raspUnread_nat (s : State) {q : Obj} (hq : q.key < 0xA200 * 256) (hlast : q.key ≠ O.raspLastStatus.key) : (raspUnread s).nat q = s.nat q := by
  have hlost : q.key ≠ O.logLostCount.key := Nat.ne_of_lt (Nat.lt_of_lt_of_le hq (by decide))
  rw [raspUnread, State.post_nat _ _ _ hlost, State.raspError_nat _ _ hlast, State.eccUncorrectable_nat _ _ _ hq, State.entryTaken_nat]

theorem raspUnread_fields (s : State) :
    (raspUnread s).rasp = { s.rasp with head := (s.rasp.head + 1) % max 1 s.ringEntries, status := 0x0E06 * 65536 + 1 } ∧ (raspUnread s).hbm = s.hbm := by
  simp [raspUnread]

/-- Settles O35, command by command: an entry is taken, and then complete, refused, or a PUBLISH accepted. -/
theorem raspCommands : Obligations.RaspCommands := by
  refine ⟨fun s v hdie => gives_of_live hdie rfl ⟨fun h => ?_, cmdRaspRingTail_past⟩, fun s k hdie hready hk =>
    ⟨fun hop hok => gives_of_live hdie rfl ?_, fun hop hok => gives_of_live hdie rfl ?_, fun hop hok hk0 => gives_of_live hdie rfl ?_,
      fun code hcode => gives_of_live hdie rfl ?_, gives_of_live hdie rfl ?_⟩⟩
  · rw [show cmdRaspRingTail s v.toNat = s.modRasp fun r => { r with tail := v.toNat % 16384 } from if_neg (by omega)]
    exact ⟨rfl, rfl⟩
  · rw [cmdNop_taken hready hok hop]
    exact ⟨by simp, counts_raspDone (by simp), by simp⟩
  · obtain ⟨hrasp, hcount, hhbm, hhif⟩ := fenced_shows s
    rw [cmdFence_taken hready hok hop]
    split
    · next hirq =>
      exact ⟨by simpa using hrasp, counts_congr rfl (by simp) hcount, by simpa using hhbm, fun _ => irq_bit _ 3, fun h => absurd (hirq.symm.trans h) (by decide)⟩
    · next hirq => exact ⟨hrasp, hcount, hhbm, fun h => absurd h hirq, fun _ => hhif⟩
  · obtain ⟨hhead, hhbm⟩ := cmdPublish_takes hready hok hop hk hk0
    refine ⟨hhead, hhbm, fun hf => ?_, fun hf hl => ?_, fun hf hl => ?_⟩
    · rw [cmdPublish_outOfOrder hready hok hop hk hk0 hf]
      exact ⟨by simp, raspRefused_counts s _, by simp⟩
    · rw [cmdPublish_late hready hok hop hk hk0 hf hl]
      exact ⟨by simp, raspRefused_counts s _, by simp⟩
    · obtain ⟨-, -, haccepted⟩ := acceptPublish_accepted s.entryTaken k
      rw [cmdPublish_accepted hready hok hop hk hk0 hf hl]
      exact haccepted
  · rw [cmdRaspCommandRefused_invalid hready hcode]
    exact ⟨by simp, raspRefused_counts s code, by simp⟩
  · obtain ⟨hrasp, hhbm⟩ := raspUnread_fields s
    rw [cmdRaspCommandRefused_unread hready]
    refine ⟨by simpa using hrasp, ?_, counts_raspDone ?_, logs_congr rfl (by simp) (logs_raspUnread s), by simpa using hhbm⟩
    · exact counts_congr rfl (State.raspDone_nat _ (by decide)) (counts_raspRefused (raspUnread_nat s (by decide) (by decide)))
    · rw [State.nat_bump_ne (by decide), raspUnread_nat s (by decide) (by decide)]

end Sys2Proof.Machine
end

section
/-! What every command and every step holds: a next state, the frame, the queue and HBM, a die that does not run, a step without a command, and the state after reset (R348, R420, R507, R508). -/

set_option Elab.async false

namespace Sys2Proof.Machine

/-! ## The frame of every command -/

/-- Where `touches` names everything in a command's masks, it frames the command. -/
theorem framed_of_exec {i : Instr} {c r : Nat} {s t : State} (h : Fr0 c r s t)
    (hT : (touches i).admits c r = true := by dsimp only [touches]; decide +kernel) (hp : c.testBit 0 = false := by rfl) : framed (touches i) s t :=
  framed_of_fr h hT hp

/-- Settles O57: each command's own masks, and that `touches` names everything in them. -/
theorem commandFrames : Obligations.CommandFrames := by
  intro i s t h
  cases i with
  | coldStart _ => exact framed_of_exec (execColdStart_fr (Nat.or_self _) (Nat.or_self _) (fr_refl s) h)
  | resetNAssert => exact framed_of_exec (execResetNAssert_fr (Nat.or_self _) (Nat.or_self _) (fr_refl s) h)
  | memTrainingDone _ _ => exact framed_of_exec (execMemTrainingDone_fr (Nat.or_self _) (Nat.or_self _) (fr_refl s) h)
  | memReady => exact framed_of_exec (execMemReady_fr (Nat.or_self _) (Nat.or_self _) (fr_refl s) h)
  | islandPowered _ => exact framed_of_exec (execIslandPowered_fr (Nat.or_self _) (Nat.or_self _) (fr_refl s) h)
  | functionEnable _ _ => exact framed_of_exec (execFunctionEnable_fr (Nat.or_self _) (Nat.or_self _) (fr_refl s) h)
  | functionDisable _ _ => exact framed_of_exec (execFunctionDisable_fr (Nat.or_self _) (Nat.or_self _) (fr_refl s) h)
  | portStartDone _ => exact framed_of_exec (execPortStartDone_fr (Nat.or_self _) (Nat.or_self _) (fr_refl s) h)
  | portStopDone _ => exact framed_of_exec (execPortStopDone_fr (Nat.or_self _) (Nat.or_self _) (fr_refl s) h)
  | audPortStartDone _ => exact framed_of_exec (execAudPortStartDone_fr (Nat.or_self _) (Nat.or_self _) (fr_refl s) h)
  | audPortStopDone _ => exact framed_of_exec (execAudPortStopDone_fr (Nat.or_self _) (Nat.or_self _) (fr_refl s) h)
  | clpStartDone _ _ => exact framed_of_exec (execClpStartDone_fr (Nat.or_self _) (Nat.or_self _) (fr_refl s) h)
  | clpStopDone => exact framed_of_exec (execClpStopDone_fr (Nat.or_self _) (Nat.or_self _) (fr_refl s) h)
  | overlayStartDone => exact framed_of_exec (execOverlayStartDone_fr (Nat.or_self _) (Nat.or_self _) (fr_refl s) h)
  | overlayStopDone => exact framed_of_exec (execOverlayStopDone_fr (Nat.or_self _) (Nat.or_self _) (fr_refl s) h)
  | captureStartCheck => exact framed_of_exec (execCaptureStartCheck_fr (Nat.or_self _) (Nat.or_self _) (fr_refl s) h)
  | captureStep _ _ => exact framed_of_exec (execCaptureStep_fr (Nat.or_self _) (Nat.or_self _) (fr_refl s) h)
  | captureReport _ _ => exact framed_of_exec (execCaptureReport_fr (Nat.or_self _) (Nat.or_self _) (fr_refl s) h)
  | captureTimeout => exact framed_of_exec (execCaptureTimeout_fr (Nat.or_self _) (Nat.or_self _) (fr_refl s) h)
  | segment _ _ => exact framed_of_exec (execSegment_fr (Nat.or_self _) (Nat.or_self _) (fr_refl s) h)
  | frameMarker => exact framed_of_exec (execFrameMarker_fr (Nat.or_self _) (Nat.or_self _) (fr_refl s) h)
  | figureDefine => exact framed_of_exec (execFigureDefine_fr (Nat.or_self _) (Nat.or_self _) (fr_refl s) h)
  | figureModify => exact framed_of_exec (execFigureModify_fr (Nat.or_self _) (Nat.or_self _) (fr_refl s) h)
  | figureRetire => exact framed_of_exec (execFigureRetire_fr (Nat.or_self _) (Nat.or_self _) (fr_refl s) h)
  | tileUpdate => exact framed_of_exec (execTileUpdate_fr (Nat.or_self _) (Nat.or_self _) (fr_refl s) h)
  | decoderFree => exact framed_of_exec (execDecoderFree_fr (Nat.or_self _) (Nat.or_self _) (fr_refl s) h)
  | tileDecodeDone _ => exact framed_of_exec (execTileDecodeDone_fr (Nat.or_self _) (Nat.or_self _) (fr_refl s) h)
  | tileCommit _ _ => exact framed_of_exec (execTileCommit_fr (Nat.or_self _) (Nat.or_self _) (fr_refl s) h)
  | audioBlock => exact framed_of_exec (execAudioBlock_fr (Nat.or_self _) (Nat.or_self _) (fr_refl s) h)
  | paddingSection => exact framed_of_exec (execPaddingSection_fr (Nat.or_self _) (Nat.or_self _) (fr_refl s) h)
  | unknownSection => exact framed_of_exec (execUnknownSection_fr (Nat.or_self _) (Nat.or_self _) (fr_refl s) h)
  | privateSection => exact framed_of_exec (execPrivateSection_fr (Nat.or_self _) (Nat.or_self _) (fr_refl s) h)
  | admTakeFrame => exact framed_of_exec (execAdmTakeFrame_fr (Nat.or_self _) (Nat.or_self _) (fr_refl s) h)
  | preCostingDone => exact framed_of_exec (execPreCostingDone_fr (Nat.or_self _) (Nat.or_self _) (fr_refl s) h)
  | finalCostingStart => exact framed_of_exec (execFinalCostingStart_fr (Nat.or_self _) (Nat.or_self _) (fr_refl s) h)
  | finalCostingDone => exact framed_of_exec (execFinalCostingDone_fr (Nat.or_self _) (Nat.or_self _) (fr_refl s) h)
  | lateData => exact framed_of_exec (execLateData_fr (Nat.or_self _) (Nat.or_self _) (fr_refl s) h)
  | renderWindowOpen => exact framed_of_exec (execRenderWindowOpen_fr (Nat.or_self _) (Nat.or_self _) (fr_refl s) h)
  | renderWindowClose => exact framed_of_exec (execRenderWindowClose_fr (Nat.or_self _) (Nat.or_self _) (fr_refl s) h)
  | unitDispatch => exact framed_of_exec (execUnitDispatch_fr (Nat.or_self _) (Nat.or_self _) (fr_refl s) h)
  | unitStagingDone _ _ _ _ _ => exact framed_of_exec (execUnitStagingDone_fr (Nat.or_self _) (Nat.or_self _) (fr_refl s) h)
  | unitRenderStart _ => exact framed_of_exec (execUnitRenderStart_fr (Nat.or_self _) (Nat.or_self _) (fr_refl s) h)
  | unitRenderDone _ _ _ => exact framed_of_exec (execUnitRenderDone_fr (Nat.or_self _) (Nat.or_self _) (fr_refl s) h)
  | latchPoint => exact framed_of_exec (execLatchPoint_fr (Nat.or_self _) (Nat.or_self _) (fr_refl s) h)
  | epoch _ => exact framed_of_exec (execEpoch_fr (Nat.or_self _) (Nat.or_self _) (fr_refl s) h)
  | swapCopyDone => exact framed_of_exec (execSwapCopyDone_fr (Nat.or_self _) (Nat.or_self _) (fr_refl s) h)
  | pcieLinkLoss _ => exact framed_of_exec (execPcieLinkLoss_fr (Nat.or_self _) (Nat.or_self _) (fr_refl s) h)
  | pcieReset _ => exact framed_of_exec (execPcieReset_fr (Nat.or_self _) (Nat.or_self _) (fr_refl s) h)
  | scanLine _ _ _ _ => exact framed_of_exec (execScanLine_fr (Nat.or_self _) (Nat.or_self _) (fr_refl s) h)
  | underrun _ _ => exact framed_of_exec (execUnderrun_fr (Nat.or_self _) (Nat.or_self _) (fr_refl s) h)
  | refreshInstant => exact framed_of_exec (execRefreshInstant_fr (Nat.or_self _) (Nat.or_self _) (fr_refl s) h)
  | toleranceReport _ _ => exact framed_of_exec (execToleranceReport_fr (Nat.or_self _) (Nat.or_self _) (fr_refl s) h)
  | selfRefreshEntry _ => exact framed_of_exec (execSelfRefreshEntry_fr (Nat.or_self _) (Nat.or_self _) (fr_refl s) h)
  | scrubPass _ _ => exact framed_of_exec (execScrubPass_fr (Nat.or_self _) (Nat.or_self _) (fr_refl s) h)
  | thmSample _ _ => exact framed_of_exec (execThmSample_fr (Nat.or_self _) (Nat.or_self _) (fr_refl s) h)
  | tripRecordProgrammed => exact framed_of_exec (execTripRecordProgrammed_fr (Nat.or_self _) (Nat.or_self _) (fr_refl s) h)
  | thermalRestart _ => exact framed_of_exec (execThermalRestart_fr (Nat.or_self _) (Nat.or_self _) (fr_refl s) h)
  | trimLearn => exact framed_of_exec (execTrimLearn_fr (Nat.or_self _) (Nat.or_self _) (fr_refl s) h)
  | pfailFall => exact framed_of_exec (execPfailFall_fr (Nat.or_self _) (Nat.or_self _) (fr_refl s) h)
  | holdupConfirm => exact framed_of_exec (execHoldupConfirm_fr (Nat.or_self _) (Nat.or_self _) (fr_refl s) h)
  | holdupShed => exact framed_of_exec (execHoldupShed_fr (Nat.or_self _) (Nat.or_self _) (fr_refl s) h)
  | holdupParked => exact framed_of_exec (execHoldupParked_fr (Nat.or_self _) (Nat.or_self _) (fr_refl s) h)
  | holdupRecovery => exact framed_of_exec (execHoldupRecovery_fr (Nat.or_self _) (Nat.or_self _) (fr_refl s) h)
  | railDownStep => exact framed_of_exec (execRailDownStep_fr (Nat.or_self _) (Nat.or_self _) (fr_refl s) h)
  | deviceRailCompare _ => exact framed_of_exec (execDeviceRailCompare_fr (Nat.or_self _) (Nat.or_self _) (fr_refl s) h)
  | railPgRise _ => exact framed_of_exec (execRailPgRise_fr (Nat.or_self _) (Nat.or_self _) (fr_refl s) h)
  | railStepDelay => exact framed_of_exec (execRailStepDelay_fr (Nat.or_self _) (Nat.or_self _) (fr_refl s) h)
  | railPgTimeout => exact framed_of_exec (execRailPgTimeout_fr (Nat.or_self _) (Nat.or_self _) (fr_refl s) h)
  | railFault _ => exact framed_of_exec (execRailFault_fr (Nat.or_self _) (Nat.or_self _) (fr_refl s) h)
  | railOffStep => exact framed_of_exec (execRailOffStep_fr (Nat.or_self _) (Nat.or_self _) (fr_refl s) h)
  | clockLost _ => exact framed_of_exec (execClockLost_fr (Nat.or_self _) (Nat.or_self _) (fr_refl s) h)
  | clockRestartAttempt _ => exact framed_of_exec (execClockRestartAttempt_fr (Nat.or_self _) (Nat.or_self _) (fr_refl s) h)
  | clockRestartCheck _ _ => exact framed_of_exec (execClockRestartCheck_fr (Nat.or_self _) (Nat.or_self _) (fr_refl s) h)
  | lockstepMismatch => exact framed_of_exec (execLockstepMismatch_fr (Nat.or_self _) (Nat.or_self _) (fr_refl s) h)
  | sramUncorrectable => exact framed_of_exec (execSramUncorrectable_fr (Nat.or_self _) (Nat.or_self _) (fr_refl s) h)
  | watchdogExpiry => exact framed_of_exec (execWatchdogExpiry_fr (Nat.or_self _) (Nat.or_self _) (fr_refl s) h)
  | warmResetDone _ => exact framed_of_exec (execWarmResetDone_fr (Nat.or_self _) (Nat.or_self _) (fr_refl s) h)
  | atlWarmReset _ => exact framed_of_exec (execAtlWarmReset_fr (Nat.or_self _) (Nat.or_self _) (fr_refl s) h)
  | plnWdKick _ => exact framed_of_exec (execPlnWdKick_fr (Nat.or_self _) (Nat.or_self _) (fr_refl s) h)
  | trialConfirm => exact framed_of_exec (execTrialConfirm_fr (Nat.or_self _) (Nat.or_self _) (fr_refl s) h)
  | stateJournalSave => exact framed_of_exec (execStateJournalSave_fr (Nat.or_self _) (Nat.or_self _) (fr_refl s) h)
  | logNorFlush => exact framed_of_exec (execLogNorFlush_fr (Nat.or_self _) (Nat.or_self _) (fr_refl s) h)
  | trimSave => exact framed_of_exec (execTrimSave_fr (Nat.or_self _) (Nat.or_self _) (fr_refl s) h)
  | limitRecordWrite => exact framed_of_exec (execLimitRecordWrite_fr (Nat.or_self _) (Nat.or_self _) (fr_refl s) h)
  | dictionaryTick _ => exact framed_of_exec (execDictionaryTick_fr (Nat.or_self _) (Nat.or_self _) (fr_refl s) h)
  | dictRead _ _ _ _ => exact framed_of_exec (execDictRead_fr (Nat.or_self _) (Nat.or_self _) (fr_refl s) h)
  | dictWrite _ _ _ _ => exact framed_of_exec (execDictWrite_fr (Nat.or_self _) (Nat.or_self _) (fr_refl s) h)
  | domainOpen _ _ _ _ _ _ => exact framed_of_exec (execDomainOpen_fr (Nat.or_self _) (Nat.or_self _) (fr_refl s) h)
  | domainData _ _ _ _ _ _ => exact framed_of_exec (execDomainData_fr (Nat.or_self _) (Nat.or_self _) (fr_refl s) h)
  | domainClose _ _ _ _ => exact framed_of_exec (execDomainClose_fr (Nat.or_self _) (Nat.or_self _) (fr_refl s) h)
  | domainAbort _ _ => exact framed_of_exec (execDomainAbort_fr (Nat.or_self _) (Nat.or_self _) (fr_refl s) h)
  | domainTimeout _ => exact framed_of_exec (execDomainTimeout_fr (Nat.or_self _) (Nat.or_self _) (fr_refl s) h)
  | vipexHeartbeat => exact framed_of_exec (execVipexHeartbeat_fr (Nat.or_self _) (Nat.or_self _) (fr_refl s) h)
  | heartbeatReceived _ _ _ => exact framed_of_exec (execHeartbeatReceived_fr (Nat.or_self _) (Nat.or_self _) (fr_refl s) h)
  | vipexKeyWrite _ _ => exact framed_of_exec (execVipexKeyWrite_fr (Nat.or_self _) (Nat.or_self _) (fr_refl s) h)
  | swapRequest _ => exact framed_of_exec (execSwapRequest_fr (Nat.or_self _) (Nat.or_self _) (fr_refl s) h)
  | swapValidationDone => exact framed_of_exec (execSwapValidationDone_fr (Nat.or_self _) (Nat.or_self _) (fr_refl s) h)
  | cfgMaquetteReset _ => exact framed_of_exec (execCfgMaquetteReset_fr (Nat.or_self _) (Nat.or_self _) (fr_refl s) h)
  | cfgStore _ => exact framed_of_exec (execCfgStore_fr (Nat.or_self _) (Nat.or_self _) (fr_refl s) h)
  | cfgStoreBegin => exact framed_of_exec (execCfgStoreBegin_fr (Nat.or_self _) (Nat.or_self _) (fr_refl s) h)
  | cfgStoreDone _ => exact framed_of_exec (execCfgStoreDone_fr (Nat.or_self _) (Nat.or_self _) (fr_refl s) h)
  | patinaStore _ => exact framed_of_exec (execPatinaStore_fr (Nat.or_self _) (Nat.or_self _) (fr_refl s) h)
  | patinaStoreBegin => exact framed_of_exec (execPatinaStoreBegin_fr (Nat.or_self _) (Nat.or_self _) (fr_refl s) h)
  | patinaStoreDone _ => exact framed_of_exec (execPatinaStoreDone_fr (Nat.or_self _) (Nat.or_self _) (fr_refl s) h)
  | streamSourceWrite _ _ => exact framed_of_exec (execStreamSourceWrite_fr (Nat.or_self _) (Nat.or_self _) (fr_refl s) h)
  | timeSet _ _ => exact framed_of_exec (execTimeSet_fr (Nat.or_self _) (Nat.or_self _) (fr_refl s) h)
  | timeAdjust _ _ => exact framed_of_exec (execTimeAdjust_fr (Nat.or_self _) (Nat.or_self _) (fr_refl s) h)
  | timeActionAdd _ _ => exact framed_of_exec (execTimeActionAdd_fr (Nat.or_self _) (Nat.or_self _) (fr_refl s) h)
  | timeActionCancel _ _ => exact framed_of_exec (execTimeActionCancel_fr (Nat.or_self _) (Nat.or_self _) (fr_refl s) h)
  | ethFrameRx _ => exact framed_of_exec (execEthFrameRx_fr (Nat.or_self _) (Nat.or_self _) (fr_refl s) h)
  | ethFrameTx _ => exact framed_of_exec (execEthFrameTx_fr (Nat.or_self _) (Nat.or_self _) (fr_refl s) h)
  | portLinkChange _ _ => exact framed_of_exec (execPortLinkChange_fr (Nat.or_self _) (Nat.or_self _) (fr_refl s) h)
  | syncRx _ _ => exact framed_of_exec (execSyncRx_fr (Nat.or_self _) (Nat.or_self _) (fr_refl s) h)
  | followUpRx _ _ => exact framed_of_exec (execFollowUpRx_fr (Nat.or_self _) (Nat.or_self _) (fr_refl s) h)
  | announceRx _ _ => exact framed_of_exec (execAnnounceRx_fr (Nat.or_self _) (Nat.or_self _) (fr_refl s) h)
  | delayReqSend _ _ => exact framed_of_exec (execDelayReqSend_fr (Nat.or_self _) (Nat.or_self _) (fr_refl s) h)
  | delayRespRx _ _ => exact framed_of_exec (execDelayRespRx_fr (Nat.or_self _) (Nat.or_self _) (fr_refl s) h)
  | pdelayReqRx _ _ => exact framed_of_exec (execPdelayReqRx_fr (Nat.or_self _) (Nat.or_self _) (fr_refl s) h)
  | domainLost _ => exact framed_of_exec (execDomainLost_fr (Nat.or_self _) (Nat.or_self _) (fr_refl s) h)
  | domainRevert => exact framed_of_exec (execDomainRevert_fr (Nat.or_self _) (Nat.or_self _) (fr_refl s) h)
  | timeRateStep => exact framed_of_exec (execTimeRateStep_fr (Nat.or_self _) (Nat.or_self _) (fr_refl s) h)
  | hifSegEn _ => exact framed_of_exec (execHifSegEn_fr (Nat.or_self _) (Nat.or_self _) (fr_refl s) h)
  | hifFdrEn _ => exact framed_of_exec (execHifFdrEn_fr (Nat.or_self _) (Nat.or_self _) (fr_refl s) h)
  | hifCplEn _ => exact framed_of_exec (execHifCplEn_fr (Nat.or_self _) (Nat.or_self _) (fr_refl s) h)
  | directReq _ => exact framed_of_exec (execDirectReq_fr (Nat.or_self _) (Nat.or_self _) (fr_refl s) h)
  | segDoorbell _ => exact framed_of_exec (execSegDoorbell_fr (Nat.or_self _) (Nat.or_self _) (fr_refl s) h)
  | segmentDescriptorCopy _ _ => exact framed_of_exec (execSegmentDescriptorCopy_fr (Nat.or_self _) (Nat.or_self _) (fr_refl s) h)
  | fdrTail _ => exact framed_of_exec (execFdrTail_fr (Nat.or_self _) (Nat.or_self _) (fr_refl s) h)
  | frameDescriptorTake _ => exact framed_of_exec (execFrameDescriptorTake_fr (Nat.or_self _) (Nat.or_self _) (fr_refl s) h)
  | directCommitInstant => exact framed_of_exec (execDirectCommitInstant_fr (Nat.or_self _) (Nat.or_self _) (fr_refl s) h)
  | cplHead _ => exact framed_of_exec (execCplHead_fr (Nat.or_self _) (Nat.or_self _) (fr_refl s) h)
  | completionEntryWrite => exact framed_of_exec (execCompletionEntryWrite_fr (Nat.or_self _) (Nat.or_self _) (fr_refl s) h)
  | hostHeartbeat => exact framed_of_exec (execHostHeartbeat_fr (Nat.or_self _) (Nat.or_self _) (fr_refl s) h)
  | frameCommit _ => exact framed_of_exec (execFrameCommit_fr (Nat.or_self _) (Nat.or_self _) (fr_refl s) h)
  | timeNowRead => exact framed_of_exec (execTimeNowRead_fr (Nat.or_self _) (Nat.or_self _) (fr_refl s) h)
  | reg64LowRead _ => exact framed_of_exec (execReg64LowRead_fr (Nat.or_self _) (Nat.or_self _) (fr_refl s) h)
  | irqStatusClear _ => exact framed_of_exec (execIrqStatusClear_fr (Nat.or_self _) (Nat.or_self _) (fr_refl s) h)
  | irqMaskWrite _ => exact framed_of_exec (execIrqMaskWrite_fr (Nat.or_self _) (Nat.or_self _) (fr_refl s) h)
  | cplCoalesceTimer => exact framed_of_exec (execCplCoalesceTimer_fr (Nat.or_self _) (Nat.or_self _) (fr_refl s) h)
  | apertureBaseWrite _ => exact framed_of_exec (execApertureBaseWrite_fr (Nat.or_self _) (Nat.or_self _) (fr_refl s) h)
  | apertureRead _ _ _ _ => exact framed_of_exec (execApertureRead_fr (Nat.or_self _) (Nat.or_self _) (fr_refl s) h)
  | apertureWrite _ _ => exact framed_of_exec (execApertureWrite_fr (Nat.or_self _) (Nat.or_self _) (fr_refl s) h)
  | registerWrite _ _ => exact framed_of_exec (execRegisterWrite_fr (Nat.or_self _) (Nat.or_self _) (fr_refl s) h)
  | raspRingTail _ => exact framed_of_exec (execRaspRingTail_fr (Nat.or_self _) (Nat.or_self _) (fr_refl s) h)
  | nop => exact framed_of_exec (execNop_fr (Nat.or_self _) (Nat.or_self _) (fr_refl s) h)
  | fill _ _ => exact framed_of_exec (execFill_fr (Nat.or_self _) (Nat.or_self _) (fr_refl s) h)
  | copy _ _ => exact framed_of_exec (execCopy_fr (Nat.or_self _) (Nat.or_self _) (fr_refl s) h)
  | publish => exact framed_of_exec (execPublish_fr (Nat.or_self _) (Nat.or_self _) (fr_refl s) h)
  | fence => exact framed_of_exec (execFence_fr (Nat.or_self _) (Nat.or_self _) (fr_refl s) h)
  | publishCatchup => exact framed_of_exec (execPublishCatchup_fr (Nat.or_self _) (Nat.or_self _) (fr_refl s) h)
  | audSlotPresent _ _ _ => exact framed_of_exec (execAudSlotPresent_fr (Nat.or_self _) (Nat.or_self _) (fr_refl s) h)
  | audPhaseMeasure _ _ => exact framed_of_exec (execAudPhaseMeasure_fr (Nat.or_self _) (Nat.or_self _) (fr_refl s) h)
  | presenceFall _ => exact framed_of_exec (execPresenceFall_fr (Nat.or_self _) (Nat.or_self _) (fr_refl s) h)
  | presenceConfirmed _ => exact framed_of_exec (execPresenceConfirmed_fr (Nat.or_self _) (Nat.or_self _) (fr_refl s) h)
  | descriptorRead _ _ => exact framed_of_exec (execDescriptorRead_fr (Nat.or_self _) (Nat.or_self _) (fr_refl s) h)
  | trainTimeout _ => exact framed_of_exec (execTrainTimeout_fr (Nat.or_self _) (Nat.or_self _) (fr_refl s) h)
  | discoveryRetry _ => exact framed_of_exec (execDiscoveryRetry_fr (Nat.or_self _) (Nat.or_self _) (fr_refl s) h)
  | sweepDone _ _ => exact framed_of_exec (execSweepDone_fr (Nat.or_self _) (Nat.or_self _) (fr_refl s) h)
  | verifyDone _ _ => exact framed_of_exec (execVerifyDone_fr (Nat.or_self _) (Nat.or_self _) (fr_refl s) h)
  | retrainRealignDone _ _ => exact framed_of_exec (execRetrainRealignDone_fr (Nat.or_self _) (Nat.or_self _) (fr_refl s) h)
  | partnerAttention _ _ _ => exact framed_of_exec (execPartnerAttention_fr (Nat.or_self _) (Nat.or_self _) (fr_refl s) h)
  | laneRetry _ _ => exact framed_of_exec (execLaneRetry_fr (Nat.or_self _) (Nat.or_self _) (fr_refl s) h)
  | partnerRemoved _ => exact framed_of_exec (execPartnerRemoved_fr (Nat.or_self _) (Nat.or_self _) (fr_refl s) h)
  | telemetryRead _ _ => exact framed_of_exec (execTelemetryRead_fr (Nat.or_self _) (Nat.or_self _) (fr_refl s) h)
  | plinthStage _ _ => exact framed_of_exec (execPlinthStage_fr (Nat.or_self _) (Nat.or_self _) (fr_refl s) h)
  | stageVerified => exact framed_of_exec (execStageVerified_fr (Nat.or_self _) (Nat.or_self _) (fr_refl s) h)
  | plinthConfirm _ _ => exact framed_of_exec (execPlinthConfirm_fr (Nat.or_self _) (Nat.or_self _) (fr_refl s) h)
  | consentFall => exact framed_of_exec (execConsentFall_fr (Nat.or_self _) (Nat.or_self _) (fr_refl s) h)
  | consentConfirmed => exact framed_of_exec (execConsentConfirmed_fr (Nat.or_self _) (Nat.or_self _) (fr_refl s) h)
  | consentStuck => exact framed_of_exec (execConsentStuck_fr (Nat.or_self _) (Nat.or_self _) (fr_refl s) h)
  | commitExpired => exact framed_of_exec (execCommitExpired_fr (Nat.or_self _) (Nat.or_self _) (fr_refl s) h)
  | plinthCancel _ => exact framed_of_exec (execPlinthCancel_fr (Nat.or_self _) (Nat.or_self _) (fr_refl s) h)
  | updateVerifyDone => exact framed_of_exec (execUpdateVerifyDone_fr (Nat.or_self _) (Nat.or_self _) (fr_refl s) h)
  | updateWriteBegin => exact framed_of_exec (execUpdateWriteBegin_fr (Nat.or_self _) (Nat.or_self _) (fr_refl s) h)
  | updateWriteDone _ _ => exact framed_of_exec (execUpdateWriteDone_fr (Nat.or_self _) (Nat.or_self _) (fr_refl s) h)
  | updateApply _ => exact framed_of_exec (execUpdateApply_fr (Nat.or_self _) (Nat.or_self _) (fr_refl s) h)
  | crcInit _ => exact framed_of_exec (execCrcInit_fr (Nat.or_self _) (Nat.or_self _) (fr_refl s) h)
  | crcData _ _ => exact framed_of_exec (execCrcData_fr (Nat.or_self _) (Nat.or_self _) (fr_refl s) h)
  | crcSeed _ _ => exact framed_of_exec (execCrcSeed_fr (Nat.or_self _) (Nat.or_self _) (fr_refl s) h)
  | crcAlive _ => exact framed_of_exec (execCrcAlive_fr (Nat.or_self _) (Nat.or_self _) (fr_refl s) h)
  | clpFormat _ _ => exact framed_of_exec (execClpFormat_fr (Nat.or_self _) (Nat.or_self _) (fr_refl s) h)
  | clpCreate _ _ => exact framed_of_exec (execClpCreate_fr (Nat.or_self _) (Nat.or_self _) (fr_refl s) h)
  | clpWrite _ _ => exact framed_of_exec (execClpWrite_fr (Nat.or_self _) (Nat.or_self _) (fr_refl s) h)
  | clpClose _ _ => exact framed_of_exec (execClpClose_fr (Nat.or_self _) (Nat.or_self _) (fr_refl s) h)
  | clpDelete _ _ => exact framed_of_exec (execClpDelete_fr (Nat.or_self _) (Nat.or_self _) (fr_refl s) h)
  | clpPlay _ _ => exact framed_of_exec (execClpPlay_fr (Nat.or_self _) (Nat.or_self _) (fr_refl s) h)
  | clpStop _ _ => exact framed_of_exec (execClpStop_fr (Nat.or_self _) (Nat.or_self _) (fr_refl s) h)
  | clpCommandDone => exact framed_of_exec (execClpCommandDone_fr (Nat.or_self _) (Nat.or_self _) (fr_refl s) h)
  | clpReadIssue => exact framed_of_exec (execClpReadIssue_fr (Nat.or_self _) (Nat.or_self _) (fr_refl s) h)
  | clpReadDone => exact framed_of_exec (execClpReadDone_fr (Nat.or_self _) (Nat.or_self _) (fr_refl s) h)
  | clpReadFail => exact framed_of_exec (execClpReadFail_fr (Nat.or_self _) (Nat.or_self _) (fr_refl s) h)
  | clpHealthPoll _ _ => exact framed_of_exec (execClpHealthPoll_fr (Nat.or_self _) (Nat.or_self _) (fr_refl s) h)
  | fallbackRelease _ => exact framed_of_exec (execFallbackRelease_fr (Nat.or_self _) (Nat.or_self _) (fr_refl s) h)
  | pfailRise => exact framed_of_exec (execPfailRise_fr (Nat.or_self _) (Nat.or_self _) (fr_refl s) h)
  | consentRise => exact framed_of_exec (execConsentRise_fr (Nat.or_self _) (Nat.or_self _) (fr_refl s) h)
  | presenceRise _ => exact framed_of_exec (execPresenceRise_fr (Nat.or_self _) (Nat.or_self _) (fr_refl s) h)
  | pgPanelFall _ => exact framed_of_exec (execPgPanelFall_fr (Nat.or_self _) (Nat.or_self _) (fr_refl s) h)
  | rxReadyAligned _ => exact framed_of_exec (execRxReadyAligned_fr (Nat.or_self _) (Nat.or_self _) (fr_refl s) h)
  | confirmVerified => exact framed_of_exec (execConfirmVerified_fr (Nat.or_self _) (Nat.or_self _) (fr_refl s) h)
  | pcieLinkUp => exact framed_of_exec (execPcieLinkUp_fr (Nat.or_self _) (Nat.or_self _) (fr_refl s) h)
  | powerLoss => exact framed_of_exec (execPowerLoss_fr (Nat.or_self _) (Nat.or_self _) (fr_refl s) h)
  | raspCommandRefused _ => exact framed_of_exec (execRaspCommandRefused_fr (Nat.or_self _) (Nat.or_self _) (fr_refl s) h)
  | dhcpRetry _ => exact framed_of_exec (execDhcpRetry_fr (Nat.or_self _) (Nat.or_self _) (fr_refl s) h)
  | audClockRestart _ => exact framed_of_exec (execAudClockRestart_fr (Nat.or_self _) (Nat.or_self _) (fr_refl s) h)

/-! ## The queue and HBM -/

/-- No command touches the queue. -/
theorem pending_not_touched (i : Instr) : Piece.pending ∉ (touches i).pieces := by
  cases i <;> (dsimp only [touches]; decide)

theorem exec_pending {i : Instr} {s t : State} (h : exec i s = .next t) : t.pending = s.pending :=
  ((commandFrames i s t h).1 .pending (pending_not_touched i)).symm

theorem ifLive_memOk {s t : State} {f : State → State} (h : Host.Outcome.next (ρ := Refusal) (φ := Fault) (s.ifLive f) = .next t)
    (hs : memOk s.hbm = true) (hf : memOk (f s).hbm = true) : memOk t.hbm = true := by
  injection h with h
  exact h ▸ State.ifLive_ok f hf hs

/-- A command that writes HBM keeps its form; the others leave it. -/
theorem exec_memOk {i : Instr} {s t : State} (h : exec i s = .next t) (hs : memOk s.hbm = true) : memOk t.hbm = true := by
  cases i with
  | coldStart ue => injection h with h; exact h ▸ cmdColdStart_ok ue hs
  | resetNAssert => injection h with h; exact h ▸ cmdResetNAssert_ok hs
  | thermalRestart ue => injection h with h; exact h ▸ cmdThermalRestart_ok ue hs
  | powerLoss => injection h with h; exact h ▸ memOk_of_nil (cmdPowerLoss_hbm s)
  | thmSample raw st => injection h with h; exact h ▸ cmdThmSample_ok raw st hs
  | memReady => exact ifLive_memOk h hs (cmdMemReady_ok hs)
  | clockLost i => exact ifLive_memOk h hs (cmdClockLost_ok i hs)
  | updateWriteDone failed ue => exact ifLive_memOk h hs (cmdUpdateWriteDone_ok failed ue hs)
  | renderWindowOpen => exact ifLive_memOk h hs (cmdRenderWindowOpen_ok hs)
  | unitRenderDone c store ue => exact ifLive_memOk h hs (cmdUnitRenderDone_ok c store ue hs)
  | overlayStartDone => exact ifLive_memOk h hs (cmdOverlayStartDone_ok hs)
  | fill ue ce => exact ifLive_memOk h hs (cmdFill_ok ue ce hs)
  | copy ue ce => exact ifLive_memOk h hs (cmdCopy_ok ue ce hs)
  | publishCatchup => exact ifLive_memOk h hs (cmdPublishCatchup_ok hs)
  | ethFrameRx f => exact ifLive_memOk h hs (cmdEthFrameRx_ok f hs)
  | apertureWrite off data => exact ifLive_memOk h hs (cmdApertureWrite_ok off data hs)
  | _ => exact memOk_of_eq ((commandFrames _ s t h).1 .hbm (by dsimp only [touches]; decide)).symm hs

/-- Settles O58: a step with a command keeps both by the command's laws, one without by those of `State.idle`. -/
theorem memoryStaysCanonical : Obligations.MemoryStaysCanonical := by
  intro s t hs h
  unfold step at h
  split at h
  · next hp =>
    injection h with h
    rw [← h, hp]
    exact ⟨memOk_of_eq (State.idle_mem s).1 hs, (State.idle_mem s).2.trans hp⟩
  · next c rest hp =>
    rw [hp]
    exact ⟨exec_memOk h hs, exec_pending h⟩

/-! ## Steps -/

/-- Settles O54: the step matches on the queue. -/
theorem stepTakesFront : Obligations.StepTakesFront := fun _ _ _ => rfl

/-- Settles O55: each command's arm answers `.next`. -/
theorem commandsAnswer : Obligations.CommandsAnswer := by
  intro c s
  cases c <;> rfl

theorem ifLive_of_not_running {s : State} (f : State → State) (h : s.die ≠ .running) : s.ifLive f = s := by
  unfold State.ifLive State.live
  rw [if_neg (by simpa using h)]

/-- Settles O60: all commands but the nine run under `State.ifLive`. -/
theorem stoppedDie : Obligations.StoppedDie := by
  intro c s hdie
  cases c with
  | coldStart | resetNAssert | thermalRestart | powerLoss | pfailFall | pfailRise | railDownStep | thmSample | tripRecordProgrammed => trivial
  | _ => exact congrArg Host.Outcome.next (ifLive_of_not_running _ hdie)

/-! ## A step on an empty queue -/

/-- Display time with its remainder advances by a nanosecond and the rate's part of one (R348). -/
theorem tickClock_total (c : Clock) {rate : Int} (h : -2 ^ 48 ≤ rate) :
    ((tickClock c rate).disp : Int) * 65536 + (tickClock c rate).rem = (c.disp : Int) * 65536 + c.rem + 2 ^ 48 + rate := by
  simp only [tickClock, tickBy]
  omega

theorem idle_keeps (s : State) : s.idle.obj = s.obj ∧ s.idle.clk.now = s.clk.now + 1 := by
  unfold State.idle
  split
  · exact ⟨rfl, rfl⟩
  · exact ⟨rfl, rfl⟩

theorem idle_counts {s : State} (hdie : s.die = .running) (hclk : (s.island 5).lost = false) : s.idle.clk = tickClock s.clk (s.int O.timeRate) := by
  unfold State.idle
  rw [if_pos (by simp [State.live, hdie, hclk])]
  rfl

theorem idle_stands {s : State} (h : s.die ≠ .running ∨ (s.island 5).lost = true) : s.idle.clk.disp = s.clk.disp := by
  unfold State.idle
  rw [if_neg (by rcases h with h | h <;> simp [State.live, h])]

/-- Settles O56. -/
theorem idleTick : Obligations.IdleTick := by
  intro s hp
  have hstep : step s = .next s.idle := by rw [step, hp]
  refine ⟨s.idle, hstep, (State.idle_mem s).2.trans hp, (idle_keeps s).2, (idle_keeps s).1, fun hdie hclk hrate => ?_, idle_stands⟩
  rw [idle_counts hdie hclk]
  exact tickClock_total s.clk hrate

/-! ## The state after reset -/

/-- Settles O59: no store holds a value, so every object reads as its default. -/
theorem resetState : Obligations.ResetState := by
  have hval : ∀ o : Obj, State.reset.val o = dfltOn .h4 o := fun o => by
    unfold State.val State.storeOf
    split <;> rfl
  exact ⟨rfl, rfl, rfl, rfl, rfl, rfl, fun o => ⟨hval o, rfl⟩⟩

end Sys2Proof.Machine
end

section
/-! The completion ring: the layout of an entry, and how entries are written to the host (R321 to R324, R328). -/

set_option Elab.async false

namespace Sys2Proof.Machine

/-! ## Fields of a byte string -/

theorem leNat_leBytes (n v : Nat) : leNat (leBytes n v) = v % 2 ^ (8 * n) := by
  induction n generalizing v with
  | zero => simp [leBytes, leNat, Nat.mod_one]
  | succ n ih =>
    have h : v % 2 ^ (8 * (n + 1)) = v % 256 + 256 * (v / 256 % 2 ^ (8 * n)) := by
      rw [show 2 ^ (8 * (n + 1)) = 256 * 2 ^ (8 * n) by rw [Nat.mul_add, Nat.pow_add, Nat.mul_comm], Nat.mod_mul]
    rw [leBytes, leNat, ih, h]
    simp

/-- The field at the front of a byte string. -/
theorem fieldN_front (n v : Nat) (bs : Bytes) : fieldN (leBytes n v ++ bs) 0 n = v % 2 ^ (8 * n) := by
  rw [fieldN, cut, List.drop_zero, List.take_left' (leBytes_length n v), leNat_leBytes]

/-- A field behind the one at the front. -/
theorem fieldN_behind {n off : Nat} (h : n ≤ off) (v k : Nat) (bs : Bytes) : fieldN (leBytes n v ++ bs) off k = fieldN bs (off - n) k := by
  rw [fieldN, cut, List.drop_append, List.drop_eq_nil_of_le (by rwa [leBytes_length]), leBytes_length]
  rfl

/-! ## An entry (R321) -/

theorem CplKind.code_mod (k : CplKind) : k.code % 256 = k.code := by cases k <;> rfl

theorem maskOf_pair_mod (a b : Bool) : maskOf [a, b] % 256 = b2n a + 2 * b2n b := by cases a <;> cases b <;> rfl

/-- Settles O10: the fields before a field are passed over one by one. -/
theorem completionLayout : Obligations.CompletionLayout := by
  intro c phase
  have hlen : (cplBytes c phase).length = 64 := by simp [cplBytes, leBytes_length, zeros]
  refine ⟨hlen, ?_, ?_, ?_, ?_, ?_, ?_, ?_, ?_, ?_, ?_, ?_, ?_, ?_, ?_, ?_, ?_, ?_, ?_⟩ <;>
    simp [cplBytes, List.append_assoc, fieldN_front, fieldN_behind, maskOf_pair_mod, CplKind.code_mod]

/-! ## The write of an entry (R323, R328) -/

theorem State.irq_keeps_bit {s : State} {b : Nat} (k : Nat) (h : bitOf s.hif.irqStatus b = true) : bitOf (s.irq k).hif.irqStatus b = true := by
  have hlor : bitOf (Nat.lor s.hif.irqStatus (2 ^ k)) b = true := by
    rw [bitOf_testBit] at h ⊢
    show (s.hif.irqStatus ||| 2 ^ k).testBit b = true
    rw [Nat.testBit_or, h, Bool.true_or]
  unfold State.irq
  dsimp only
  split
  · exact h
  · split
    · exact hlor
    · rw [State.sendVector_irqStatus]; exact hlor

/-- The entry has left for the host and the tail stands behind it; the interrupts are still to come. -/
def entryOut (s : State) (c : Completion) : State :=
  let t := (s.hif.cpl.tail + 1) % max 1 s.hif.cpl.size
  let a := s.hif.cpl.base + 64 * s.hif.cpl.tail
  ((s.emit (.hostWrite (a + 4) ((cplBytes c s.hif.phase).drop 4))).emit (.hostWrite a ((cplBytes c s.hif.phase).take 4))).modHif fun h => { h with
    cpl := { h.cpl with tail := t }, phase := if t = 0 then !h.phase else h.phase
    cplSince := h.cplSince + 1, cplFirstAt := if h.cplFirstAt.isSome then h.cplFirstAt else some s.clk.now }

/-- The entry's own interrupt. -/
def entryIrq (s : State) (c : Completion) : State := if c.irq then (entryOut s c).irq 2 else entryOut s c

/-- What an entry's own interrupt changes of the host interface. -/
theorem entryIrq_hif (s : State) (c : Completion) : ∃ i p, (entryIrq s c).hif = { (entryOut s c).hif with irqStatus := i, msixPend := p } := by
  unfold entryIrq
  split
  · exact State.irq_hif _ 2
  · exact ⟨(entryOut s c).hif.irqStatus, (entryOut s c).hif.msixPend, rfl⟩

theorem writeEntry_eq (s : State) (c : Completion) : writeEntry s c =
    if max 1 (entryIrq s c).hif.coalesceCount ≤ (entryIrq s c).hif.cplSince ∨ (entryIrq s c).hif.coalesceDelay = 0 then (entryIrq s c).irq 0
    else entryIrq s c := rfl

/-- The host interface behind the write of an entry: the ring's registers have moved on, and interrupts may have been sent. -/
theorem writeEntry_hif (s : State) (c : Completion) :
    ∃ i p, (writeEntry s c).hif = { (entryOut s c).hif with irqStatus := i, msixPend := p } := by
  obtain ⟨i, p, h⟩ := entryIrq_hif s c
  rw [writeEntry_eq]
  split
  · obtain ⟨j, q, hj⟩ := State.irq_hif (entryIrq s c) 0
    exact ⟨j, q, by rw [hj, h]⟩
  · exact ⟨i, p, h⟩

theorem writeEntry_out {s : State} {c : Completion} {o : Out} (h : o ∈ (entryOut s c).out) : o ∈ (writeEntry s c).out := by
  have hirq : o ∈ (entryIrq s c).out := by
    unfold entryIrq
    split
    · exact State.mem_out_irq 2 h
    · exact h
  rw [writeEntry_eq]
  split
  · exact State.mem_out_irq 0 hirq
  · exact hirq

/-- CPL is set once COUNT entries are written, or without a delay (R328). -/
theorem writeEntry_cpl {s : State} (c : Completion) (h : max 1 s.hif.coalesceCount ≤ s.hif.cplSince + 1 ∨ s.hif.coalesceDelay = 0) :
    bitOf (writeEntry s c).hif.irqStatus 0 = true := by
  obtain ⟨i, p, hi⟩ := entryIrq_hif s c
  rw [writeEntry_eq, if_pos (by rw [hi]; exact h)]
  exact irq_bit _ 0

theorem writeEntry_irq {s : State} {c : Completion} (h : c.irq = true) : bitOf (writeEntry s c).hif.irqStatus 2 = true := by
  have hirq : bitOf (entryIrq s c).hif.irqStatus 2 = true := by
    rw [entryIrq, if_pos h]
    exact irq_bit _ 2
  rw [writeEntry_eq]
  split
  · exact State.irq_keeps_bit 0 hirq
  · exact hirq

/-- The entry stands in the host's ring, and the ring's registers have moved on (R323, R328). -/
def entryWritten (s : State) (c : Completion) (t : State) : Prop :=
  let a := s.hif.cpl.base + 64 * s.hif.cpl.tail
  let next := (s.hif.cpl.tail + 1) % s.hif.cpl.size
  Out.hostWrite (a + 4) ((cplBytes c s.hif.phase).drop 4) ∈ t.out ∧ Out.hostWrite a ((cplBytes c s.hif.phase).take 4) ∈ t.out ∧
  t.hif.cpl = { s.hif.cpl with tail := next } ∧ (t.hif.phase = if next = 0 then !s.hif.phase else s.hif.phase) ∧
  t.hif.cplSince = s.hif.cplSince + 1 ∧
  (max 1 s.hif.coalesceCount ≤ s.hif.cplSince + 1 ∨ s.hif.coalesceDelay = 0 → bitOf t.hif.irqStatus 0 = true) ∧ (c.irq = true → bitOf t.hif.irqStatus 2 = true)

theorem writeEntry_written {s : State} (c : Completion) (hz : 0 < s.hif.cpl.size) : entryWritten s c (writeEntry s c) := by
  obtain ⟨i, p, h⟩ := writeEntry_hif s c
  have hmax : max 1 s.hif.cpl.size = s.hif.cpl.size := by omega
  have hcpl : (entryOut s c).hif.cpl = { s.hif.cpl with tail := (s.hif.cpl.tail + 1) % s.hif.cpl.size } := by rw [← hmax]; rfl
  have hphase : (entryOut s c).hif.phase = if (s.hif.cpl.tail + 1) % s.hif.cpl.size = 0 then !s.hif.phase else s.hif.phase := by rw [← hmax]; rfl
  refine ⟨writeEntry_out (.tail _ (.head _)), writeEntry_out (.head _), ?_, ?_, ?_, writeEntry_cpl c, writeEntry_irq⟩
  · rw [h]; exact hcpl
  · rw [h]; exact hphase
  · rw [h]; rfl

/-- An entry leaves the queue, the loss count and the warnings as they are. -/
theorem writeEntry_waiting (s : State) (c : Completion) :
    (writeEntry s c).hif.queue = s.hif.queue ∧ (writeEntry s c).hif.lost = s.hif.lost ∧ (writeEntry s c).hif.warnNext = s.hif.warnNext := by
  obtain ⟨i, p, h⟩ := writeEntry_hif s c
  rw [h]
  exact ⟨rfl, rfl, rfl⟩

theorem cmdCompletionEntryWrite_full {s : State} (hz : 0 < s.hif.cpl.size) (hfull : (s.hif.cpl.tail + 1) % s.hif.cpl.size = s.hif.cpl.head) :
    cmdCompletionEntryWrite s = s := by
  have hmax : max 1 s.hif.cpl.size = s.hif.cpl.size := by omega
  unfold cmdCompletionEntryWrite
  rw [if_pos (by simp [hmax, hfull])]

theorem cmdCompletionEntryWrite_none {s : State} (hlost : s.hif.lost = 0) (hq : s.hif.queue = []) : cmdCompletionEntryWrite s = s := by
  simp [cmdCompletionEntryWrite, hlost, hq]

/-- The oldest entry of the queue, with the warnings that await an entry (R322). -/
def warned (s : State) (c : Completion) : Completion :=
  { c with warnStatus := if c.warnStatus = 0 then s.hif.warnNext.1 else c.warnStatus, warnCount := min 65535 (c.warnCount + s.hif.warnNext.2) }

section
variable {s : State} (hen : s.hif.cpl.en = true) (hup : s.linkUp = true) (hz : 0 < s.hif.cpl.size)
  (hroom : (s.hif.cpl.tail + 1) % s.hif.cpl.size ≠ s.hif.cpl.head)
include hen hup hz hroom

/-- With a place in the ring a LOST entry goes first (R324). -/
theorem cmdCompletionEntryWrite_lost (hlost : s.hif.lost ≠ 0) : cmdCompletionEntryWrite s =
    writeEntry (s.modHif fun h => { h with lost := 0 }) { kind := .lost, status := 0x010A, eventTime := s.hif.lost % 2 ^ 32 } := by
  have hmax : max 1 s.hif.cpl.size = s.hif.cpl.size := by omega
  simp [cmdCompletionEntryWrite, hen, hup, hmax, hz.ne', hroom, hlost]

theorem cmdCompletionEntryWrite_oldest (hlost : s.hif.lost = 0) {c : Completion} {cs : List Completion} (hq : s.hif.queue = c :: cs) :
    cmdCompletionEntryWrite s = writeEntry (s.modHif fun h => { h with queue := cs, warnNext := (0, 0) }) (warned s c) := by
  have hmax : max 1 s.hif.cpl.size = s.hif.cpl.size := by omega
  simp [cmdCompletionEntryWrite, hen, hup, hmax, hz.ne', hroom, hlost, hq, warned]

end

/-- Settles O9. -/
theorem completionEntry : Obligations.CompletionEntry := by
  intro s hdie hen hup hz
  refine ⟨fun hroom hlost => gives_of_live hdie rfl ?_, fun hroom hlost c cs hq => gives_of_live hdie rfl ?_,
    fun hlost hq => gives_of_live hdie rfl (cmdCompletionEntryWrite_none hlost hq), fun hfull => gives_of_live hdie rfl (cmdCompletionEntryWrite_full hz hfull)⟩
  · obtain ⟨hqueue, hl, -⟩ := writeEntry_waiting (s.modHif fun h => { h with lost := 0 })
      { kind := .lost, status := 0x010A, eventTime := s.hif.lost % 2 ^ 32 }
    rw [cmdCompletionEntryWrite_lost hen hup hz hroom hlost]
    exact ⟨writeEntry_written (s := s.modHif fun h => { h with lost := 0 }) _ hz, hl, hqueue⟩
  · obtain ⟨hqueue, hl, hw⟩ := writeEntry_waiting (s.modHif fun h => { h with queue := cs, warnNext := (0, 0) }) (warned s c)
    rw [cmdCompletionEntryWrite_oldest hen hup hz hroom hlost hq]
    exact ⟨writeEntry_written (s := s.modHif fun h => { h with queue := cs, warnNext := (0, 0) }) _ hz, hqueue, hl.trans hlost, hw⟩

end Sys2Proof.Machine
end

section
/-! The host interface's registers: ring enables and indices, host activity, the direct-frame mode, and the events of the PCIe link (R232, R233, R315, R317, R331 to R336). -/

set_option Elab.async false

namespace Sys2Proof.Machine

/-! ## What reports leave of the host interface -/

/-- The host interface but for its interrupt registers and the mark of a fallback. -/
def Hif.quiet (h : Hif) : Hif := { h with irqStatus := 0, msixPend := 0, fallback := false }

theorem State.irq_quiet (s : State) (b : Nat) : (s.irq b).hif.quiet = s.hif.quiet := by
  obtain ⟨i, p, h⟩ := State.irq_hif s b
  rw [h]; rfl

theorem State.postWith_quiet (s : State) (f : Bool) (code : Nat) (param : List Nat) : (s.postWith f code param).hif.quiet = s.hif.quiet := by
  cases f with
  | false => exact congrArg Hif.quiet (State.post_hif s code param)
  | true =>
    unfold State.postWith
    dsimp only
    rw [if_pos rfl, State.irq_quiet]
    split <;> simp

theorem State.suspend_hif (s : State) (bit : Nat) : (s.suspend bit).hif = s.hif := by
  unfold State.suspend
  split
  · rfl
  · have huncover : ∀ t : State, t.uncover.hif = t.hif := fun _ => rfl
    rw [huncover, State.post_hif]
    simp

theorem State.refreshFaults_hif (s : State) : s.refreshFaults.hif = s.hif := by
  unfold State.refreshFaults
  dsimp only
  split
  · simp only [State.putB_fields, State.put_fields, State.suspend_hif]
  · simp only [State.putB_fields, State.put_fields, State.resume_hif]

theorem State.settle_hif (s : State) (fam cls : Nat) : (s.settle fam cls).hif = s.hif := by
  unfold State.settle State.settleIf
  split
  · exact State.refreshFaults_hif _
  · rfl

theorem State.raise_quiet (s : State) (fam cls item code : Nat) (param : List Nat) : (s.raise fam cls item code param).hif.quiet = s.hif.quiet := by
  unfold State.raise
  rw [State.refreshFaults_hif]
  refine (State.postWith_quiet _ true code param).trans ?_
  simp

theorem State.regateStream_hif (s : State) : s.regateStream.hif = s.hif := (s.regateStream_frame.1 .hif rfl).symm

/-- LAST_ERROR takes the code and reports it; nothing else of the host interface changes but its interrupt registers. -/
theorem State.lastError_quiet (s : State) (c : Nat) : (s.lastError c).hif.quiet = ({ s.hif with lastError := c } : Hif).quiet := by
  obtain ⟨i, p, h⟩ := State.lastError_hif s c
  rw [h]; rfl

/-! ## Rings (R317) -/

theorem ringEnable_starts (r : Ring) (on : Bool) : ringEnable r on =
    { r with en := on, head := if on = true ∧ r.en = false then 0 else r.head, tail := if on = true ∧ r.en = false then 0 else r.tail } := by
  unfold ringEnable
  cases on <;> cases hen : r.en <;> simp

theorem State.ringBusy_quiet (s : State) : s.ringBusy.hif.quiet = ({ s.hif with lastError := 0x010B } : Hif).quiet := by
  unfold State.ringBusy
  rw [State.lastError_quiet]
  simp

/-- The power of 2 that R317 asks for. -/
theorem pow2In_iff (v : Nat) : pow2In 16 65536 v = true ↔ ∃ k ∈ List.range 17, 4 ≤ k ∧ v = 2 ^ k := by
  simp only [pow2In, Bool.and_eq_true, decide_eq_true_eq, beq_iff_eq, List.mem_range]
  constructor
  · rintro ⟨⟨hlo, hhi⟩, hv⟩
    refine ⟨v.log2, ?_, ?_, hv.symm⟩
    · exact (Nat.pow_lt_pow_iff_right (a := 2) (by decide)).mp (by omega)
    · exact (Nat.le_log2 (by omega)).mpr hlo
  · rintro ⟨k, hk, h4, rfl⟩
    refine ⟨⟨Nat.pow_le_pow_right (n := 2) (by decide) h4, Nat.pow_le_pow_right (n := 2) (by decide) (show k ≤ 16 by omega)⟩, ?_⟩
    rw [Nat.log2_two_pow]

/-! ## Host activity (R335, R336) -/

/-- Activity arms the watchdog and ends a silence while the link is up; nothing else of the host interface changes. -/
theorem State.activity_hif (s : State) : s.activity.hif =
    { s.hif with activity := true, armed := true, silentPeriods := 0, hostSilent := s.hif.hostSilent && !s.linkUp } := by
  have hlink : (s.modHif fun h => { h with activity := true, armed := true, silentPeriods := 0 }).linkUp = s.linkUp := rfl
  unfold State.activity
  dsimp only
  rw [hlink]
  cases hs : s.hif.hostSilent with
  | false => simp [hs]
  | true =>
    cases hu : s.linkUp with
    | false => simp [hs]
    | true => simp [hs, State.post_hif, State.settle_hif]

/-- The activity of a host that is not silent. -/
theorem State.activity_awake {s : State} (h : s.hif.hostSilent = false) :
    s.activity = (s.modHif fun h => { h with activity := true, armed := true, silentPeriods := 0 }).put O.hostState 1 := by
  simp [State.activity, h]

/-- An index below the size is taken. -/
theorem indexWrite_taken {s : State} {size v : Nat} {set : Hif → Nat → Hif} (h : v % 65536 < size) :
    (indexWrite s size v set).hif = set s.activity.hif (v % 65536) := by
  unfold indexWrite
  rw [if_neg (by omega)]
  rfl

/-- One at or above it is ignored and logged. -/
theorem indexWrite_ignored {s : State} {size v : Nat} (set : Hif → Nat → Hif) (hawake : s.hif.hostSilent = false) (h : size ≤ v % 65536) :
    (indexWrite s size v set).hif.quiet = ({ s.activity.hif with lastError := 0x010B } : Hif).quiet ∧ logs s (indexWrite s size v set) [(0x010B, [v % 65536])] := by
  have he : indexWrite s size v set = s.activity.ringBusy.post 0x010B [v % 65536] := if_pos h
  rw [he, State.post_hif, State.ringBusy_quiet]
  refine ⟨rfl, logs_congr ?_ rfl (logs_post _ _ _)⟩
  simp [State.ringBusy, State.activity_awake hawake]

/-! ## The registers of a ring (R317) -/

theorem execRegisterWrite_gives {s : State} {off : Nat} {v : W32} {P : State → Prop} (hdie : s.die = .running) (hoff : off < 0x100000)
    (hP : P (cmdRegisterWrite s off v.toNat)) : gives (.registerWrite off v) s P :=
  gives_of_live hdie rfl (by rwa [if_pos hoff])

theorem ringWrite_enabled {s : State} {r : Ring} (k lo hi v : Nat) (set : Hif → Ring → Hif) (h : r.en = true) : ringWrite s r k lo hi v set = s.ringBusy :=
  if_pos h

theorem ringWrite_size {s : State} {r : Ring} (lo hi v : Nat) (set : Hif → Ring → Hif) (h : r.en = false) : ringWrite s r 8 lo hi v set =
    if pow2In lo hi v then s.modHif fun x => set x { r with size := v } else s.ringBusy := by
  simp [ringWrite, h]

/-- Settles O6. -/
theorem hostRings : Obligations.HostRings := by
  have hbusy : ∀ s : State, s.ringBusy.hif.seg = s.hif.seg ∧ s.ringBusy.hif.lastError = 0x010B := fun s =>
    ⟨(congrArg Hif.seg s.ringBusy_quiet :), (congrArg Hif.lastError s.ringBusy_quiet :)⟩
  refine ⟨fun s on hdie => ⟨gives_of_live hdie rfl ?_, gives_of_live hdie rfl ?_, gives_of_live hdie rfl ?_⟩,
    ⟨fun s v hdie => ⟨fun h => gives_of_live hdie rfl ?_, fun h => gives_of_live hdie rfl ?_, fun h => gives_of_live hdie rfl ?_, fun hawake =>
      ⟨fun h => gives_of_live hdie rfl ?_, fun h => gives_of_live hdie rfl ?_, fun h => gives_of_live hdie rfl ?_⟩⟩,
      fun s hdie => gives_of_live hdie rfl ?_⟩,
    fun s v hdie => ⟨fun hen => ⟨execRegisterWrite_gives hdie (by decide) ?_, execRegisterWrite_gives hdie (by decide) ?_,
      fun hok => execRegisterWrite_gives hdie (by decide) ?_, fun hbad => execRegisterWrite_gives hdie (by decide) ?_⟩, fun hen off hoff => ?_⟩⟩
  · rw [cmdHifSegEn, State.regateStream_hif]
    exact ⟨ringEnable_starts _ _, rfl, rfl⟩
  · exact ⟨ringEnable_starts _ _, rfl, rfl⟩
  · refine ⟨ringEnable_starts _ _, rfl, rfl, ?_⟩
    simp [cmdHifCplEn]
  · rw [cmdSegDoorbell, indexWrite_taken h, State.activity_hif]
    exact ⟨rfl, rfl, rfl⟩
  · rw [cmdFdrTail, indexWrite_taken h, State.activity_hif]
    exact ⟨rfl, rfl, rfl⟩
  · rw [cmdCplHead, indexWrite_taken h, State.activity_hif]
    exact ⟨rfl, rfl, rfl⟩
  · obtain ⟨hq, hlog⟩ := indexWrite_ignored (fun h i => { h with seg := { h.seg with tail := i } }) hawake h
    rw [State.activity_hif] at hq
    exact ⟨(congrArg Hif.seg hq :), (congrArg Hif.lastError hq :), (congrArg Hif.activity hq :), hlog⟩
  · obtain ⟨hq, hlog⟩ := indexWrite_ignored (fun h i => { h with fdr := { h.fdr with tail := i } }) hawake h
    rw [State.activity_hif] at hq
    exact ⟨(congrArg Hif.fdr hq :), (congrArg Hif.lastError hq :), (congrArg Hif.activity hq :), hlog⟩
  · obtain ⟨hq, hlog⟩ := indexWrite_ignored (fun h i => { h with cpl := { h.cpl with head := i } }) hawake h
    rw [State.activity_hif] at hq
    exact ⟨(congrArg Hif.cpl hq :), (congrArg Hif.lastError hq :), (congrArg Hif.activity hq :), hlog⟩
  · rw [cmdHostHeartbeat, State.activity_hif]
    exact ⟨rfl, rfl, rfl⟩
  · simp [cmdRegisterWrite, ringWrite, hen]
  · simp [cmdRegisterWrite, ringWrite, hen]
  · show (ringWrite s s.hif.seg 8 16 65536 v.toNat _).hif.seg = _
    rw [ringWrite_size _ _ _ _ hen, if_pos ((pow2In_iff _).mpr hok)]
    rfl
  · show (ringWrite s s.hif.seg 8 16 65536 v.toNat _).hif.seg = _ ∧ (ringWrite s s.hif.seg 8 16 65536 v.toNat _).hif.lastError = _
    rw [ringWrite_size _ _ _ _ hen, if_neg (fun h => hbad ((pow2In_iff _).mp h))]
    exact hbusy s
  · have hany : ∀ k, off < 0x100000 → cmdRegisterWrite s off v.toNat = ringWrite s s.hif.seg k 16 65536 v.toNat (fun h r => { h with seg := r }) →
        gives (.registerWrite off v) s fun t => t.hif.seg = s.hif.seg ∧ t.hif.lastError = 0x010B := fun k hlt he =>
      execRegisterWrite_gives hdie hlt (by rw [he, ringWrite_enabled _ _ _ _ _ hen]; exact hbusy s)
    rcases hoff with rfl | rfl | rfl
    · exact hany 0 (by decide) rfl
    · exact hany 4 (by decide) rfl
    · exact hany 8 (by decide) rfl

end Sys2Proof.Machine
end

section
/-! Direct-frame mode's registers, and the events of the PCIe link (R232, R233, R315, R331 to R336). -/

set_option Elab.async false

namespace Sys2Proof.Machine

/-! ## DIRECT_REQ and FRAME_COMMIT (R232, R233, R331, R334) -/

theorem cmdDirectReq_refused {s : State} (hreq : s.hif.directReq = false) (hmean : s.nat O.plinthMeanDrive < 65535) :
    cmdDirectReq s true = (s.put O.pdpLastStatus 0x0C08).lastError 0x0C08 := by
  simp [cmdDirectReq, hreq, hmean]

theorem cmdDirectReq_taken {s : State} {on : Bool} (hne : on ≠ s.hif.directReq) (h : on = false ∨ 65535 ≤ s.nat O.plinthMeanDrive) :
    cmdDirectReq s on = s.modHif fun h => { h with directReq := on, directPending := true } := by
  unfold cmdDirectReq
  rw [if_neg hne, if_neg (by rcases h with h | h <;> simp [h])]

/-- A refused commit is counted; the pending pair stays (R233). -/
def commitIgnored (s : State) (code : Nat) : State :=
  ((s.modScan fun x => { x with commitResult := code }).bump O.scanCommitIgnoredCount).put O.scanLastStatus code

theorem commitIgnored_counts (s : State) (code : Nat) : counts s (commitIgnored s code) O.scanCommitIgnoredCount 1 :=
  counts_congr (s := s.modScan fun x => { x with commitResult := code }) (State.modScan_vals _ _ _).2.2.1.symm (State.nat_put_ne (by decide))
    (counts_bump _ _ (w := 4) rfl rfl)

theorem commitIgnored_fields (s : State) (code : Nat) :
    (commitIgnored s code).scan = { s.scan with commitResult := code } ∧ (commitIgnored s code).hif = s.hif := by
  simp [commitIgnored]

/-- A completion entry changes the queue or its losses, and with a loss LAST_ERROR. -/
theorem State.complete_activity (s : State) (c : Completion) : (s.complete c).hif.activity = s.hif.activity := by
  unfold State.complete
  split
  · obtain ⟨i, p, h⟩ := State.lastError_hif
      ((({ s with hif := { s.hif with cplOverflow := true, lost := s.hif.lost + 1 } } : State).bump O.cplLostCount).put O.hifLastStatus 0x010A) 0x010A
    rw [h]
    simp
  · rfl

/-- The entry of a consumed descriptor that is replaced (R334). -/
theorem directEntry_replaced (s : State) (d : FdHeld) : (directEntry s d 0x010D).scan = s.scan ∧ (directEntry s d 0x010D).hif.activity = s.hif.activity ∧
    completes s (directEntry s d 0x010D) [(.direct, 0x010D)] := by
  obtain ⟨i, p, hi⟩ := State.lastError_hif (s.put O.hifLastStatus 0x010D) 0x010D
  have hu : ((s.put O.hifLastStatus 0x010D).lastError 0x010D).hif.queue = s.hif.queue ∧
      ((s.put O.hifLastStatus 0x010D).lastError 0x010D).hif.activity = s.hif.activity := by
    rw [hi]; simp
  unfold directEntry
  rw [if_neg (by decide)]
  refine ⟨by simp, ?_, ?_⟩
  · rw [State.complete_activity]; exact hu.2
  · exact completes_trans (completes_of_eq hu.1) (completes_complete _ _)

/-- The pair stands up for the next latch point (R232). -/
def pairStaged (s : State) (p : Pair) : State := s.modScan fun x => { x with pend := some p, commitResult := 0 }

/-- The pair of a FRAME_COMMIT (R234). -/
def committedPair (s : State) (v : Nat) : Pair := { a := s.scan.addrA, b := s.scan.addrB, crcSkip := bitOf v 1 }

section
variable {s : State} {v : Nat} (hbit : bitOf v 0 = true)
include hbit

theorem cmdFrameCommit_outside (hdir : s.activity.hif.direct = false) : cmdFrameCommit s v = commitIgnored s.activity 0x0B06 := by
  simp only [cmdFrameCommit, hbit, hdir, Bool.not_true, Bool.not_false, Bool.false_eq_true, if_false, if_true]
  rfl

theorem cmdFrameCommit_bad (hdir : s.activity.hif.direct = true) (hbad : pairOk s.activity (committedPair s.activity v) = false) :
    cmdFrameCommit s v = commitIgnored s.activity 0x0B08 := by
  unfold committedPair at hbad
  simp only [cmdFrameCommit, hbit, hdir, hostCommit, hbad, Bool.not_true, Bool.false_eq_true, if_false]
  rfl

/-- A good commit in direct-frame mode that replaces no committed descriptor. -/
theorem cmdFrameCommit_good (hdir : s.activity.hif.direct = true) (hok : pairOk s.activity (committedPair s.activity v) = true)
    (hheld : ∀ d, s.activity.hif.held = some d → d.committed = false) :
    cmdFrameCommit s v = pairStaged s.activity (committedPair s.activity v) := by
  unfold committedPair at hok
  simp only [cmdFrameCommit, hbit, hdir, hostCommit, hok, if_true, Bool.not_true, Bool.false_eq_true, if_false, State.modScan_fields]
  cases hh : s.activity.hif.held with
  | none => rfl
  | some d => simp only [hheld d hh, Bool.false_eq_true, if_false]; rfl

/-- One that takes the place of a descriptor's committed pair. -/
theorem cmdFrameCommit_replaces (hdir : s.activity.hif.direct = true) (hok : pairOk s.activity (committedPair s.activity v) = true)
    {d : FdHeld} (hheld : s.activity.hif.held = some d) (hd : d.committed = true) :
    cmdFrameCommit s v = (directEntry (pairStaged s.activity (committedPair s.activity v)) d 0x010D).modHif fun h => { h with held := none } := by
  unfold committedPair at hok
  simp only [cmdFrameCommit, hbit, hdir, hostCommit, hok, if_true, Bool.not_true, Bool.false_eq_true, if_false, State.modScan_fields, hheld, hd]
  rfl

end

theorem commitIgnored_activity {s : State} (hawake : s.hif.hostSilent = false) (code : Nat) :
    (commitIgnored s.activity code).scan.pend = s.scan.pend ∧ (commitIgnored s.activity code).scan.commitResult = code ∧
    counts s (commitIgnored s.activity code) O.scanCommitIgnoredCount 1 ∧ (commitIgnored s.activity code).hif.activity = true := by
  obtain ⟨hscan, hhif⟩ := commitIgnored_fields s.activity code
  have hcount : s.activity.nat O.scanCommitIgnoredCount = s.nat O.scanCommitIgnoredCount := by
    rw [State.activity_awake hawake, State.nat_put_ne (by decide), (State.modHif_vals _ _ _).2.2.1]
  refine ⟨?_, by rw [hscan], counts_congr hcount.symm rfl (commitIgnored_counts _ _), by rw [hhif, State.activity_hif]⟩
  rw [hscan, State.activity_awake hawake]
  simp

/-- Settles O11. -/
theorem directModeRegisters : Obligations.DirectModeRegisters := by
  refine ⟨fun s on hdie => ⟨fun hne h => gives_of_live hdie rfl ?_, fun hon hreq hmean => gives_of_live hdie rfl ?_⟩,
    fun s v hdie hawake => ?_⟩
  · rw [cmdDirectReq_taken hne h]
    rfl
  · obtain ⟨i, p, hi⟩ := State.lastError_hif (s.put O.pdpLastStatus 0x0C08) 0x0C08
    rw [hon, cmdDirectReq_refused hreq hmean, hi]
    simp [hreq]
  · have hscan : s.activity.scan = s.scan := by rw [State.activity_awake hawake]; simp
    have hdirect : s.activity.hif.direct = s.hif.direct := by rw [State.activity_hif]
    have hheld : s.activity.hif.held = s.hif.held := by rw [State.activity_hif]
    have hactive : s.activity.hif.activity = true := by rw [State.activity_hif]
    have hqueue : s.activity.hif.queue = s.hif.queue := by rw [State.activity_hif]
    have hpair : committedPair s.activity v.toNat = { a := s.scan.addrA, b := s.scan.addrB, crcSkip := bitOf v.toNat 1 } := by
      rw [committedPair, hscan]
    refine ⟨fun hbit hdir hok => gives_of_live hdie rfl ?_, fun hbit hdir hbad => gives_of_live hdie rfl ?_,
      fun hbit hdir => gives_of_live hdie rfl ?_, fun hbit => gives_of_live hdie rfl ?_⟩
    · rw [← hpair] at hok ⊢
      by_cases hc : ∃ d, s.activity.hif.held = some d ∧ d.committed = true
      · obtain ⟨d, hd, hcom⟩ := hc
        obtain ⟨hentry, hact, hcpl⟩ := directEntry_replaced (pairStaged s.activity (committedPair s.activity v.toNat)) d
        rw [cmdFrameCommit_replaces hbit (hdirect.trans hdir) hok hd hcom]
        refine ⟨?_, ?_, ?_, fun e he _ => ⟨rfl, ?_⟩⟩
        · exact congrArg Scan.pend hentry
        · exact congrArg Scan.commitResult hentry
        · exact hact.trans hactive
        · exact completes_trans (completes_of_eq hqueue) hcpl
      · have hnone : ∀ d, s.activity.hif.held = some d → d.committed = false := fun d hd =>
          Bool.eq_false_iff.mpr fun h => hc ⟨d, hd, h⟩
        rw [cmdFrameCommit_good hbit (hdirect.trans hdir) hok hnone]
        exact ⟨rfl, rfl, hactive, fun d hd hcom => absurd hcom (by rw [hnone d (hheld.trans hd)]; decide)⟩
    · rw [← hpair] at hbad
      rw [cmdFrameCommit_bad hbit (hdirect.trans hdir) hbad]
      exact commitIgnored_activity hawake _
    · rw [cmdFrameCommit_outside hbit (hdirect.trans hdir)]
      exact commitIgnored_activity hawake _
    · have he : cmdFrameCommit s v.toNat = s.activity := by simp [cmdFrameCommit, hbit]
      rw [he]
      exact ⟨hscan, hactive⟩

/-! ## Host silence (R336) -/

theorem State.note_hif (s : State) (o : Obj) (code : Nat) (param : List Nat) : (s.note o code param).hif = s.hif := by
  unfold State.note
  rw [State.post_hif]
  simp

/-- A fallback marks itself and reports; nothing else of the host interface changes. -/
theorem startFallback_quiet (s : State) : (startFallback s).hif.quiet = s.hif.quiet := by
  unfold startFallback
  split
  · split
    · rfl
    · simp
  · dsimp only
    split
    · refine (State.raise_quiet _ 9 0 0 0x140C _).trans ?_
      simp
    · unfold State.clpNote beginPlay
      dsimp only
      rw [State.note_hif, State.regateStream_hif]
      simp [Hif.quiet]

theorem logGrows_startFallback (s : State) : logGrows s (startFallback s) := by
  unfold startFallback
  split
  · split
    · exact logGrows_of_eq rfl
    · exact logGrows_of_eq (by simp)
  · dsimp only
    split
    · exact (logGrows_of_eq (by simp)).trans (logGrows_raise _ 9 0 0 0x140C _)
    · unfold State.clpNote State.note beginPlay
      refine (logGrows_of_eq ?_).trans (logGrows_postWith _ false 0x1410 [])
      simp [State.regateStream_log]

/-- The silence as it is declared, before it is reported. -/
def silenced (s : State) : State :=
  (((s.modHif fun h => { h with hostSilent := true, directPending := h.direct || h.directPending, directReq := h.directReq && !h.direct }).put
    O.hostState 2).bump O.hostSilentCount).put O.hifLastStatus 0x0103

theorem declareSilence_declared {s : State} (ha : s.hif.armed = true) (hs : s.hif.hostSilent = false) :
    s.declareSilence = startFallback ((silenced s).raise 9 0 0 0x0103) := by
  unfold State.declareSilence
  rw [if_neg (by simp [ha, hs])]
  rfl

theorem declareSilence_kept {s : State} (h : s.hif.armed = false ∨ s.hif.hostSilent = true) : s.declareSilence = s := by
  unfold State.declareSilence
  rw [if_pos (by rcases h with h | h <;> simp [h])]

/-- What the declaration of a silence shows (R336). -/
theorem declareSilence_shows {s : State} (ha : s.hif.armed = true) (hs : s.hif.hostSilent = false) :
    s.declareSilence.hif.quiet = ({ s.hif with
      hostSilent := true, directPending := s.hif.direct || s.hif.directPending, directReq := s.hif.directReq && !s.hif.direct } : Hif).quiet ∧
    s.declareSilence.nat O.hostState = 2 ∧ counts s s.declareSilence O.hostSilentCount 1 ∧ logged s s.declareSilence (0x0103, []) := by
  have hfall : ∀ {q : Obj} (u : State), touched 1194721826677872827301888 q.key = false → (startFallback u).nat q = u.nat q := fun u hq =>
    (vals_of_fr (startFallback_fr (c := 31676449280) (r := 1194721826677872827301888) rfl rfl (fr_refl u)) rfl rfl (by decide) hq).2.2.1
  have hreport : ∀ {q : Obj}, touched 1194721826677872827301888 q.key = false → touched 306916927898379527127040 q.key = false →
      (startFallback ((silenced s).raise 9 0 0 0x0103)).nat q = (silenced s).nat q := fun hq hr =>
    (hfall _ hq).trans (State.raise_vals _ _ _ _ _ _ hr).2.2.1
  rw [declareSilence_declared ha hs]
  refine ⟨?_, ?_, ?_, ?_⟩
  · rw [startFallback_quiet, State.raise_quiet]
    simp [silenced]
  · rw [hreport (by decide +kernel) (by decide +kernel), silenced, State.nat_put_ne (by decide), State.nat_bump_ne (by decide)]
    exact State.nat_put_fits _ _ 2 (w := 1) rfl rfl (by decide)
  · refine counts_congr (s := (s.modHif _).put O.hostState 2) ?_ ((hreport (by decide +kernel) (by decide +kernel)).trans (State.nat_put_ne (by decide)))
      (counts_bump _ _ (w := 4) rfl rfl)
    rw [State.nat_put_ne (by decide), (State.modHif_vals _ _ _).2.2.1]
  · exact logged_then_grows (logged_raise s _ 9 0 0 0x0103 [] (by simp [silenced])) (logGrows_startFallback _)

/-! ## PCIE_LINK_LOSS and PCIE_RESET (R315, R335) -/

/-- The link itself behind a loss. -/
def linkLost (s : State) : LinkLoss → State
  | .l0Lost => ((s.modHif fun h => { h with linkL0 := false }).put O.pcieLinkSpeed 0).put O.pcieLinkWidth 0
  | .busMasterCleared => s.modHif fun h => { h with busMaster := false }

theorem cmdPcieLinkLoss_eq (s : State) (k : LinkLoss) : cmdPcieLinkLoss s k = (linkLost s k).declareSilence := by cases k <;> rfl

/-- What is lost, and that the rest of the host interface, the log and the count of silences stay. -/
theorem linkLost_shows (s : State) (k : LinkLoss) :
    (∃ l b, (linkLost s k).hif = { s.hif with linkL0 := l, busMaster := b } ∧ (k = .l0Lost → l = false) ∧ (k = .busMasterCleared → b = false)) ∧
    (k = .l0Lost → (linkLost s k).nat O.pcieLinkSpeed = 0 ∧ (linkLost s k).nat O.pcieLinkWidth = 0) ∧
    (linkLost s k).log = s.log ∧ (linkLost s k).nat O.hostSilentCount = s.nat O.hostSilentCount := by
  cases k with
  | l0Lost =>
    refine ⟨⟨false, s.hif.busMaster, by simp [linkLost], fun _ => rfl, nofun⟩, fun _ => ⟨?_, ?_⟩, by simp [linkLost], ?_⟩
    · rw [linkLost, State.nat_put_ne (by decide)]
      exact State.nat_put_fits _ _ 0 (w := 1) rfl rfl (by decide)
    · exact State.nat_put_fits _ _ 0 (w := 1) rfl rfl (by decide)
    · rw [linkLost, State.nat_put_ne (by decide), State.nat_put_ne (by decide), (State.modHif_vals _ _ _).2.2.1]
  | busMasterCleared => exact ⟨⟨s.hif.linkL0, false, rfl, nofun, fun _ => rfl⟩, nofun, rfl, (State.modHif_vals _ _ _).2.2.1⟩

/-- A declared silence leaves the link's objects. -/
theorem declareSilence_link (s : State) {q : Obj} (hq : touched 249230249210866447996141696629866500 q.key = false) :
    s.declareSilence.nat q = s.nat q :=
  (vals_of_fr (State.declareSilence_fr (c := 31676449280) (r := 249230249210866447996141696629866500) rfl rfl (fr_refl s)) rfl rfl (by decide) hq).2.2.1

theorem silence_cases (s : State) : (s.hif.armed = true ∧ s.hif.hostSilent = false) ∨ (s.hif.armed = false ∨ s.hif.hostSilent = true) := by
  cases s.hif.armed <;> cases s.hif.hostSilent <;> simp

/-- Whether the silence is declared or not, nothing else of the host interface changes. -/
theorem declareSilence_rest (s : State) : ∃ silent pending req, s.declareSilence.hif.quiet =
    ({ s.hif with hostSilent := silent, directPending := pending, directReq := req } : Hif).quiet ∧ (s.hif.armed = true → silent = true) ∧
    pending = (s.hif.directPending || (s.hif.armed && !s.hif.hostSilent && s.hif.direct)) ∧ (s.hif.directReq = false → req = false) := by
  rcases silence_cases s with ⟨ha, hs⟩ | hk
  · obtain ⟨hq, -⟩ := declareSilence_shows ha hs
    exact ⟨_, _, _, hq, fun _ => rfl, by simp [ha, hs, Bool.or_comm], fun hr => by simp [hr]⟩
  · rw [declareSilence_kept hk]
    exact ⟨s.hif.hostSilent, s.hif.directPending, s.hif.directReq, rfl, fun ha => by simpa [ha] using hk, by rcases hk with hk | hk <;> simp [hk], id⟩

/-- The pairs up for scanning. -/
def State.pairs (s : State) : Pair × Option Pair := (s.scan.active, s.scan.pend)

theorem State.suspend_pairs (s : State) (bit : Nat) : (s.suspend bit).pairs = s.pairs := by
  unfold State.suspend
  split
  · rfl
  · have huncover : ∀ t : State, t.uncover.pairs = t.pairs := fun _ => rfl
    rw [huncover]
    simp [State.pairs]

theorem State.refreshFaults_pairs (s : State) : s.refreshFaults.pairs = s.pairs := by
  have hput : ∀ (t : State) (o : Obj) (v : Int), (t.put o v).pairs = t.pairs := fun t o v => by simp only [State.pairs, State.put_fields]
  have hresume : ∀ (t : State) (b : Nat), (t.resume b).pairs = t.pairs := fun t b => by simp only [State.pairs, State.resume_fields]
  unfold State.refreshFaults State.putB
  dsimp only
  rw [hput]
  split
  · rw [State.suspend_pairs, hput, hput, hput]
  · rw [hresume, hput, hput, hput]

theorem State.raise_pairs (s : State) (fam cls item code : Nat) (param : List Nat) : (s.raise fam cls item code param).pairs = s.pairs := by
  unfold State.raise
  rw [State.refreshFaults_pairs]
  simp only [State.pairs, State.postFault_fields, State.bump_fields]

theorem startFallback_pairs (s : State) : (startFallback s).pairs = s.pairs := by
  unfold startFallback
  split
  · split <;> simp [State.pairs]
  · dsimp only
    split
    · refine (State.raise_pairs _ 9 0 0 0x140C _).trans ?_
      simp [State.pairs]
    · have hgate : ∀ t : State, t.regateStream.pairs = t.pairs := fun t => by rw [State.pairs, ← (t.regateStream_frame.1 .scan rfl : t.scan = _)]; rfl
      unfold State.clpNote beginPlay
      dsimp only
      have hnote : ∀ (t : State) (o : Obj) (c : Nat) (l : List Nat), (t.note o c l).pairs = t.pairs := fun t o c l => by simp [State.pairs]
      rw [hnote, hgate]
      simp [State.pairs]

theorem declareSilence_pairs (s : State) : s.declareSilence.pairs = s.pairs := by
  rcases silence_cases s with ⟨ha, hs⟩ | hk
  · rw [declareSilence_declared ha hs, startFallback_pairs, State.raise_pairs]
    simp [silenced, State.pairs]
  · rw [declareSilence_kept hk]

/-- The registers behind a reset of PCIe, before the silence is declared. -/
def pcieCleared (s : State) (k : PcieReset) : State :=
  let u := (s.modHif hifReset).modScan fun x => { x with latches := x.latches.filter fun l => 0x400 ≤ l.1 }
  match k with
  | .linkDown => ((u.modHif fun h => { h with linkL0 := false, busMaster := false }).put O.pcieLinkSpeed 0).put O.pcieLinkWidth 0
  | _ => u.modHif fun h => { h with busMaster := false }

theorem cmdPcieReset_eq (s : State) (k : PcieReset) : cmdPcieReset s k = (pcieCleared s k).declareSilence.regateStream := by cases k <;> rfl

theorem pcieCleared_hif (s : State) (k : PcieReset) : ∃ l, (pcieCleared s k).hif = { hifReset s.hif with linkL0 := l, busMaster := false } := by
  cases k with
  | linkDown => exact ⟨false, by simp [pcieCleared]⟩
  | functionLevel => exact ⟨s.hif.linkL0, rfl⟩
  | hot => exact ⟨s.hif.linkL0, rfl⟩

theorem pcieCleared_pairs (s : State) (k : PcieReset) : (pcieCleared s k).pairs = s.pairs := by
  cases k <;> simp [pcieCleared, State.pairs]

/-- Settles O13. -/
theorem pcieEvents : Obligations.PcieEvents := by
  refine ⟨⟨fun s k hdie => gives_of_live hdie rfl ?_, fun s hdie => gives_of_live hdie rfl ?_⟩, fun s k hdie => gives_of_live hdie rfl ?_⟩
  · obtain ⟨⟨l, b, hlost, hl, hb⟩, hobj, hlog, hcount⟩ := linkLost_shows s k
    obtain ⟨silent, pending, req, hrest, -, -, -⟩ := declareSilence_rest (linkLost s k)
    rw [hlost] at hrest
    rw [cmdPcieLinkLoss_eq]
    refine ⟨fun hk => ⟨?_, ?_, ?_⟩, fun hk => ?_, fun ha hs => ?_, fun h => ?_⟩
    · exact (congrArg Hif.linkL0 hrest :).trans (hl hk)
    · exact (declareSilence_link _ (by decide +kernel)).trans (hobj hk).1
    · exact (declareSilence_link _ (by decide +kernel)).trans (hobj hk).2
    · exact (congrArg Hif.busMaster hrest :).trans (hb hk)
    · obtain ⟨hq, hstate, hn, hpost⟩ := declareSilence_shows (s := linkLost s k) (by rw [hlost]; exact ha) (by rw [hlost]; exact hs)
      rw [hlost] at hq
      exact ⟨(congrArg Hif.hostSilent hq :), hstate, counts_congr hcount.symm rfl hn, (congrArg Hif.directReq hq :),
        (congrArg Hif.directPending hq :), logged_congr hlog.symm rfl hpost⟩
    · rw [declareSilence_kept (by rw [hlost]; exact h)]
      exact ⟨by rw [hlost], hlog⟩
  · simp [cmdPcieLinkUp]
  · obtain ⟨l, hcleared⟩ := pcieCleared_hif s k
    obtain ⟨silent, pending, req, hrest, hsilent, hpending, hreq⟩ := declareSilence_rest (pcieCleared s k)
    have hpairs := (declareSilence_pairs (pcieCleared s k)).trans (pcieCleared_pairs s k)
    have hf : Fr0 31676449280 311537811513284379538507652580507652 s (cmdPcieReset s k) := cmdPcieReset_fr rfl rfl (fr_refl s)
    have hscan : (cmdPcieReset s k).scan = (pcieCleared s k).declareSilence.scan := by
      rw [cmdPcieReset_eq]
      exact (State.regateStream_frame _).1 .scan rfl |>.symm
    rw [hcleared] at hrest hsilent hpending hreq
    have hhif : (cmdPcieReset s k).hif = (pcieCleared s k).declareSilence.hif := by rw [cmdPcieReset_eq, State.regateStream_hif]
    have hdirect : pending = s.hif.direct := by
      rw [hpending]
      show (s.hif.direct || (s.hif.armed && !s.hif.hostSilent && s.hif.direct)) = s.hif.direct
      cases s.hif.direct <;> simp
    rw [hhif, hscan]
    exact ⟨(congrArg Hif.seg hrest :), (congrArg Hif.fdr hrest :), (congrArg Hif.cpl hrest :), (congrArg Hif.phase hrest :),
      (congrArg Hif.apertureBase hrest :), (congrArg Hif.irqMask hrest :), (congrArg Hif.directReq hrest :).trans (hreq rfl),
      (congrArg Hif.busMaster hrest :), (congrArg Hif.direct hrest :), (congrArg Hif.directPending hrest :).trans hdirect,
      (congrArg Hif.queue hrest :), fun ha => (congrArg Hif.hostSilent hrest :).trans (hsilent ha), (hf.1 .hbm rfl).symm, (hf.1 .figs rfl).symm,
      (hf.1 .rrec rfl).symm, congrArg Prod.fst hpairs, congrArg Prod.snd hpairs⟩

end Sys2Proof.Machine
end

section
/-! The network ports: frames received and sent, the events of a port, and the heartbeats of Vipex (R340 to R347, R389, R392). -/

set_option Elab.async false

namespace Sys2Proof.Machine

open State (memGet memWrite)

/-! ## Memory and lists -/

/-- A written byte string is read back byte for byte, and the rest of memory is as before. -/
theorem memGet_memWrite (bs : Bytes) {m : List Host.Cell} (a x : Nat) (h : memOk m = true) :
    memGet (memWrite m a bs) x = if a ≤ x ∧ x < a + bs.length then bs.getD (x - a) 0#8 else memGet m x := by
  induction bs generalizing m a with
  | nil =>
    rw [if_neg (by rw [List.length_nil]; omega)]
    rfl
  | cons b bs ih =>
    rw [memWrite, ih (a + 1) (memSet_ok a b h), List.length_cons]
    by_cases hx : x = a
    · rw [if_neg (by omega), if_pos (by omega), hx, memGet_memSet_same a b h, Nat.sub_self]
      rfl
    · rw [memGet_memSet_ne b hx]
      by_cases hin : a + 1 ≤ x ∧ x < a + 1 + bs.length
      · rw [if_pos hin, if_pos (by omega), show x - a = (x - (a + 1)) + 1 by omega, List.getD_cons_succ]
      · rw [if_neg hin, if_neg (by omega)]

theorem getD_modAt_same {α : Type} {l : List α} {i : Nat} (f : α → α) (d : α) (h : i < l.length) : (modAt l i f).getD i d = f (l.getD i d) := by
  simp [modAt, List.getD_eq_getElem?_getD, List.getElem?_eq_getElem h]

theorem getD_modAt_ne {α : Type} {l : List α} {i j : Nat} (f : α → α) (d : α) (h : j ≠ i) : (modAt l i f).getD j d = l.getD j d := by
  simp [modAt, List.getD_eq_getElem?_getD, Ne.symm h]

/-- A port after a change of it. -/
theorem State.modNet_port_same {s : State} {p : Nat} (f : NetPort → NetPort) (h : p < s.tim.ports.length) :
    (s.modNet p f).tim.ports.getD p {} = f (s.tim.ports.getD p {}) := by
  simp only [State.modNet, State.modTim_fields]
  exact getD_modAt_same f {} h

theorem State.modNet_port_ne {s : State} {p q : Nat} (f : NetPort → NetPort) (h : q ≠ p) : (s.modNet p f).tim.ports.getD q {} = s.tim.ports.getD q {} := by
  simp only [State.modNet, State.modTim_fields]
  exact getD_modAt_ne f {} h

@[simp] theorem State.modNet_ports_length (s : State) (p : Nat) (f : NetPort → NetPort) : (s.modNet p f).tim.ports.length = s.tim.ports.length := by
  simp [State.modNet, modAt]

/-! ## Reports -/

/-- A code that is no fault-class code leaves nothing on the block's outputs. -/
theorem State.post_out (s : State) (code : Nat) (param : List Nat) : (s.post code param).out = s.out := by
  unfold State.post State.postWith
  dsimp only
  rw [if_neg (by decide)]
  split <;> simp

theorem State.note_out (s : State) (o : Obj) (code : Nat) (param : List Nat) : (s.note o code param).out = s.out := by
  unfold State.note
  rw [State.post_out]
  simp

theorem State.netNote_nat (s : State) (p code : Nat) {q : Obj} (hq : q.key ≠ (O.portLastStatus p).key) (hl : q.key ≠ O.logLostCount.key) :
    (s.netNote p code).nat q = s.nat q := by
  unfold State.netNote State.note
  rw [State.post_nat _ _ _ hl, State.nat_put_ne hq]

/-- A port's counters and states are none of the objects that its codes change. -/
theorem port_objects (p : Fin 3) :
    (O.portRxFrames p).key ≠ (O.portLastStatus p).key ∧ (O.portRxFrames p).key ≠ O.logLostCount.key ∧
    (O.portTxFrames p).key ≠ (O.portLastStatus p).key ∧ (O.portTxFrames p).key ≠ O.logLostCount.key ∧
    (O.portLink p).key ≠ (O.portLastStatus p).key ∧ (O.portLink p).key ≠ O.logLostCount.key ∧ (O.portLastStatus p).key ≠ O.logLostCount.key := by
  revert p; decide

/-! ## Frames received (R340, R341, R345) -/

/-- A frame that a port takes, counted, before it is classified. -/
def received (s : State) (f : RxFrame) : State := (s.reach f.stamp).bump (O.portRxFrames f.port)

theorem received_fields (s : State) (f : RxFrame) :
    (received s f).tim = s.tim ∧ (received s f).hbm = s.hbm ∧ (received s f).out = s.out ∧ (received s f).log = s.log := by
  simp [received]

theorem received_counts (s : State) (f : RxFrame) : counts s (received s f) (O.portRxFrames f.port) 1 :=
  counts_congr (s := s.reach f.stamp) (State.reach_vals _ _ _).2.2.1.symm rfl (counts_bump _ _ (w := 8) rfl rfl)

theorem received_nat (s : State) (f : RxFrame) {q : Obj} (hq : q.key ≠ (O.portRxFrames f.port).key) : (received s f).nat q = s.nat q := by
  rw [received, State.nat_bump_ne hq, (State.reach_vals _ _ _).2.2.1]

/-- The objects that classify a frame are none of a port's counters. -/
theorem rx_objects (p : Fin 3) :
    (O.portMtu p).key ≠ (O.portRxFrames p).key ∧ (O.portVlan p).key ≠ (O.portRxFrames p).key ∧
    ∀ d : Fin 2, (O.ptpState d).key ≠ (O.portRxFrames p).key ∧ (O.ptpPort d).key ≠ (O.portRxFrames p).key ∧
      (O.ptpTransport d).key ≠ (O.portRxFrames p).key ∧ (O.ptpDomainNumber d).key ≠ (O.portRxFrames p).key := by
  revert p; decide

theorem received_ptpWanted (s : State) (f : RxFrame) : (received s f).ptpWanted f = s.ptpWanted f := by
  obtain ⟨-, -, h⟩ := rx_objects f.port
  obtain ⟨hs0, hp0, ht0, hn0⟩ := h 0
  obtain ⟨hs1, hp1, ht1, hn1⟩ := h 1
  have hrange : List.range 2 = [((0 : Fin 2) : Nat), ((1 : Fin 2) : Nat)] := rfl
  unfold State.ptpWanted
  rw [hrange]
  simp only [List.any_cons, List.any_nil, received_nat s f hs0, received_nat s f hp0, received_nat s f ht0, received_nat s f hn0,
    received_nat s f hs1, received_nat s f hp1, received_nat s f ht1, received_nat s f hn1]

section
variable {s : State} {f : RxFrame} (hon : s.nat (O.portState f.port) = 2) (hfcs : f.fcsOk = true) (hdst : f.dstOk = true)
include hon hfcs hdst

/-- A frame that is too long, or of another VLAN, is dropped. -/
theorem cmdEthFrameRx_dropped (h : s.nat (O.portMtu f.port) < f.length ∨ s.nat (O.portVlan f.port) ≠ 0 ∧ f.vlan ≠ s.nat (O.portVlan f.port)) :
    cmdEthFrameRx s f = (received s f).dropRx f.port := by
  obtain ⟨hm, hv, -⟩ := rx_objects f.port
  rw [← received_nat s f hm, ← received_nat s f hv] at h
  unfold cmdEthFrameRx
  dsimp only
  rw [if_neg (by simp [hon, hfcs, hdst])]
  change (if (received s f).nat (O.portMtu f.port) < f.length then (received s f).dropRx f.port
    else if (received s f).nat (O.portVlan f.port) ≠ 0 ∧ f.vlan ≠ (received s f).nat (O.portVlan f.port) then (received s f).dropRx f.port else _) = _
  rcases h with h | h
  · rw [if_pos h]
  · rw [if_pos h, ite_self]

/-- A service frame goes to queue 3 (R341). -/
theorem cmdEthFrameRx_service {b : Nat × Nat} (hlen : f.length ≤ s.nat (O.portMtu f.port))
    (hvlan : s.nat (O.portVlan f.port) = 0 ∨ f.vlan = s.nat (O.portVlan f.port)) (hfrag : f.fragment = false) (hsum : f.checksumsOk = true)
    (hptp : s.ptpWanted f = false) (hvx : f.udpPort ≠ some 48005) (ha : f.udpPort ≠ some 48006) (hsvc : f.service = true) (hconf : f.conflict = none)
    (hlease : f.lease = none) (hbuf : f.buf = some b) : cmdEthFrameRx s f = (received s f).deliverRx f 3 := by
  obtain ⟨hm, hv, -⟩ := rx_objects f.port
  rw [← received_nat s f hm] at hlen
  rw [← received_nat s f hv] at hvlan
  have hserve : ∀ t : State, t.serviceRx f = t := fun t => by simp [State.serviceRx, hconf, hlease]
  have hpass : ¬ ((received s f).nat (O.portVlan f.port) ≠ 0 ∧ f.vlan ≠ (received s f).nat (O.portVlan f.port)) :=
    fun h => hvlan.elim h.1 h.2
  unfold cmdEthFrameRx
  dsimp only
  rw [if_neg (by simp [hon, hfcs, hdst])]
  change (if (received s f).nat (O.portMtu f.port) < f.length then (received s f).dropRx f.port
    else if (received s f).nat (O.portVlan f.port) ≠ 0 ∧ f.vlan ≠ (received s f).nat (O.portVlan f.port) then (received s f).dropRx f.port
    else if f.fragment then _ else if !f.checksumsOk then _ else if (received s f).ptpWanted f then _ else _) = _
  rw [if_neg (by omega), if_neg hpass, hfrag, hsum, received_ptpWanted, hptp]
  simp [hvx, ha, hsvc, hbuf, hserve]
  rfl

end

/-- What is written back into the descriptor of a delivered frame (R345). -/
def rxWriteBack (s : State) (f : RxFrame) (len : Nat) : Bytes :=
  leBytes 2 f.frame.length ++ leBytes 2 (if len < f.frame.length then 0x0208 else 0) ++
  leBytes 2 (maskOf [true, true, f.vlan != 0, f.ipv6, f.group.isSome]) ++ taiBytes ((f.stamp : Int) - s.int (O.portExtRxLatency f.port)).toNat

theorem rxWriteBack_head (s : State) (f : RxFrame) (len : Nat) :
    (rxWriteBack s f len).take 4 = leBytes 2 f.frame.length ++ leBytes 2 (if len < f.frame.length then 0x0208 else 0) := by
  unfold rxWriteBack
  rw [List.append_assoc (_ ++ _), List.take_left' (by simp [leBytes_length])]

/-- The code of a frame that is longer than its buffer (R345). -/
def rxCut (s : State) (f : RxFrame) (len : Nat) : State := if len < f.frame.length then s.netNote f.port 0x0208 else s

theorem rxCut_logs (s : State) (f : RxFrame) (len : Nat) : logs s (rxCut s f len) (if len < f.frame.length then [(0x0208, [f.port.val])] else []) := by
  unfold rxCut
  split
  · exact logs_note _ _ _ _
  · exact logs_of_eq rfl

theorem rxCut_fields (s : State) (f : RxFrame) (len : Nat) :
    (rxCut s f len).hbm = s.hbm ∧ (rxCut s f len).out = s.out ∧ (rxCut s f len).tim = s.tim := by
  unfold rxCut
  split
  · exact ⟨by simp [State.netNote], State.note_out _ _ _ _, by simp [State.netNote]⟩
  · exact ⟨rfl, rfl, rfl⟩

theorem rxCut_nat (s : State) (f : RxFrame) (len : Nat) : (rxCut s f len).nat (O.portRxFrames f.port) = s.nat (O.portRxFrames f.port) := by
  obtain ⟨hl, hlost, -⟩ := port_objects f.port
  unfold rxCut
  split
  · exact State.netNote_nat _ _ _ hl hlost
  · rfl

/-- The ring of a receive queue behind a delivered frame (R345). -/
def rxAdvanced (r : NetRing) (image : Bytes) : NetRing := { head := r.head + 1, tail := max r.tail (r.head + 1), last := image }

/-- A delivered frame is in its buffer; its descriptor is written back and the head advances (R345). -/
theorem deliverRx_eq (s : State) {f : RxFrame} (q : Nat) {addr len : Nat} (hbuf : f.buf = some (addr, len)) :
    let w := s.hbmWrite addr (f.frame.take len)
    let image := leBytes 8 addr ++ leBytes 4 len ++ zeros 4 ++ rxWriteBack w f len
    s.deliverRx f q = ((rxCut w f len).emit (.ethWb f.port q true (rxWriteBack w f len))).modNet f.port fun n =>
      { n with rxRing := modAt n.rxRing q fun r => rxAdvanced r image } := by
  unfold State.deliverRx
  rw [hbuf]
  rfl

/-- What a delivered service frame shows. -/
theorem received_delivered_shows (s : State) {f : RxFrame} {addr len : Nat} (hok : memOk s.hbm = true) (hbuf : f.buf = some (addr, len)) :
    let t := (received s f).deliverRx f 3
    counts s t (O.portRxFrames f.port) 1 ∧
    (∀ a, memGet t.hbm a = if addr ≤ a ∧ a < addr + min len f.frame.length then f.frame.getD (a - addr) 0#8 else memGet s.hbm a) ∧
    (∃ wb, t.out = .ethWb f.port 3 true wb :: s.out ∧ wb.take 4 = leBytes 2 f.frame.length ++ leBytes 2 (if len < f.frame.length then 0x0208 else 0)) ∧
    logs s t (if len < f.frame.length then [(0x0208, [f.port.val])] else []) ∧
    (f.port.val < s.tim.ports.length → 3 < (s.tim.ports.getD f.port {}).rxRing.length →
      ((t.tim.ports.getD f.port {}).rxRing.getD 3 {}).head = ((s.tim.ports.getD f.port {}).rxRing.getD 3 {}).head + 1) := by
  obtain ⟨htim, hhbm, hout, hlog⟩ := received_fields s f
  intro t
  have ht : t = _ := deliverRx_eq (received s f) 3 hbuf
  obtain ⟨chbm, cout, ctim⟩ := rxCut_fields ((received s f).hbmWrite addr (f.frame.take len)) f len
  refine ⟨?_, fun a => ?_, ⟨rxWriteBack ((received s f).hbmWrite addr (f.frame.take len)) f len, ?_, rxWriteBack_head _ f len⟩, ?_, fun hp hr => ?_⟩
  · refine counts_congr rfl ?_ (received_counts s f)
    rw [ht, (State.modNet_vals _ _ _ _).2.2.1, (State.emit_vals _ _ _).2.2.1, rxCut_nat, (State.hbmWrite_vals _ _ _ _).2.2.1]
  · have hb : t.hbm = memWrite s.hbm addr (f.frame.take len) := by
      rw [ht]; simp [chbm, hhbm]
    rw [hb, memGet_memWrite _ _ _ hok, List.length_take]
    split
    · next h => simp [List.getD_eq_getElem?_getD, show a - addr < len by omega]
    · rfl
  · rw [ht]; simp [cout, hout]
  · rw [ht]
    exact logs_congr (by simp [hlog]) (by simp) (rxCut_logs ((received s f).hbmWrite addr (f.frame.take len)) f len)
  · rw [ht, State.modNet_port_same _ (by simpa [ctim, htim] using hp)]
    simp only [State.emit_fields, ctim, State.hbmWrite_fields, htim]
    rw [getD_modAt_same _ _ hr]
    rfl

theorem portRx_ne_dropped (p : Fin 3) : (O.portRxFrames p).key ≠ (O.portRxDropped p).key := by
  revert p; decide

theorem received_dropped_shows (s : State) (f : RxFrame) :
    let t := (received s f).dropRx f.port
    counts s t (O.portRxFrames f.port) 1 ∧ counts s t (O.portRxDropped f.port) 1 ∧ t.hbm = s.hbm ∧ t.out = s.out := by
  obtain ⟨-, hhbm, hout, -⟩ := received_fields s f
  have hne : (O.portRxFrames f.port).key ≠ (O.portRxDropped f.port).key := portRx_ne_dropped f.port
  refine ⟨counts_congr rfl (State.nat_bump_ne hne) (received_counts s f), ?_, ?_, ?_⟩
  · exact counts_congr (received_nat s f hne.symm).symm rfl (counts_bump _ _ (w := 4) rfl rfl)
  · rw [← hhbm]; simp [State.dropRx]
  · rw [← hout]; simp [State.dropRx]

/-! ## Frames sent (R342, R344) -/

/-- The descriptor served next stands at the head of a queue of the port. -/
theorem nextTx_head {n : NetPort} {q : Nat} {x : TxDesc} (h : nextTx n = some (q, x)) : (n.tx.getD q []).head? = some x := by
  obtain ⟨k, -, hk⟩ := List.exists_of_findSome?_eq_some h
  obtain ⟨y, hy, he⟩ := Option.map_eq_some_iff.mp hk
  obtain ⟨rfl, rfl⟩ := Prod.mk.inj he
  exact hy

theorem nextTx_port {s : State} {p q : Nat} {x : TxDesc} (h : nextTx (s.tim.ports.getD p {}) = some (q, x)) : p < s.tim.ports.length := by
  by_contra hp
  rw [List.getD_eq_default _ _ (by omega)] at h
  exact nomatch (show none = some (q, x) from h)

theorem getD_modAt_tail {α : Type} (l : List (List α)) (q : Nat) : (modAt l q List.tail).getD q [] = (l.getD q []).tail := by
  by_cases h : q < l.length
  · exact getD_modAt_same _ _ h
  · rw [List.getD_eq_default _ _ (by simpa [modAt] using h), List.getD_eq_default _ _ (by omega)]
    rfl

theorem txDone_eq (s : State) (p q status : Nat) (ts : Option Nat) :
    ∃ wb g, s.txDone p q status ts = (s.modNet p g).emit (.ethWb p q false wb) ∧ ∀ n, (g n).tx = modAt n.tx q List.tail :=
  ⟨_, _, rfl, fun _ => rfl⟩

/-- A descriptor given back leaves its queue; it is written to the ring, and no object and no entry of the log changes. -/
theorem txDone_shows {s : State} {p : Nat} (q status : Nat) (ts : Option Nat) (hp : p < s.tim.ports.length) :
    (((s.txDone p q status ts).tim.ports.getD p {}).tx.getD q [] = ((s.tim.ports.getD p {}).tx.getD q []).tail) ∧
    (∃ wb, (s.txDone p q status ts).out = .ethWb p q false wb :: s.out) ∧ (s.txDone p q status ts).log = s.log ∧
    ∀ o, (s.txDone p q status ts).nat o = s.nat o := by
  obtain ⟨wb, g, he, hg⟩ := txDone_eq s p q status ts
  rw [he]
  refine ⟨?_, ⟨wb, by simp⟩, by simp, fun o => by simp⟩
  simp only [State.emit_fields]
  rw [State.modNet_port_same _ hp, hg]
  exact getD_modAt_tail _ q

theorem State.netNote_tim (s : State) (p code : Nat) : (s.netNote p code).tim = s.tim := by simp [State.netNote]

section
variable {s : State} {p : Fin 3} {q : Nat} {x : TxDesc} (hon : s.nat (O.portState p) = 2) (hx : nextTx (s.tim.ports.getD p {}) = some (q, x))
  (hmin : 60 ≤ x.len) (hmax : x.len ≤ s.nat (O.portMtu p) + 18)
include hon hx hmin hmax

/-- The frame leaves with the port's addresses while its link is up (R344). -/
theorem cmdEthFrameTx_sent (hlink : s.nat (O.portLink p) ≠ 0) : ∃ ts, cmdEthFrameTx s p =
    ((s.emit (.eth p q (s.macOf p) (s.vlanTag p x.body) x.dest x.body)).bump (O.portTxFrames p)).txDone p q 0 ts := by
  unfold cmdEthFrameTx State.serveTx
  rw [if_neg (not_not_intro hon), hx]
  dsimp only
  rw [if_neg (by omega), if_neg hlink]
  exact ⟨_, rfl⟩

theorem cmdEthFrameTx_down (hlink : s.nat (O.portLink p) = 0) : cmdEthFrameTx s p = (s.txDone p q 0x0201 none).netNote p 0x0201 := by
  unfold cmdEthFrameTx State.serveTx
  rw [if_neg (not_not_intro hon), hx]
  dsimp only
  rw [if_neg (by omega), if_pos hlink]

theorem ethFrameTx_shows : ((cmdEthFrameTx s p).tim.ports.getD p {}).tx.getD q [] = ((s.tim.ports.getD p {}).tx.getD q []).tail ∧
    (s.nat (O.portLink p) ≠ 0 → counts s (cmdEthFrameTx s p) (O.portTxFrames p) 1 ∧
      ∃ wb, (cmdEthFrameTx s p).out = .ethWb p q false wb :: .eth p q (s.macOf p) (s.vlanTag p x.body) x.dest x.body :: s.out) ∧
    (s.nat (O.portLink p) = 0 → logs s (cmdEthFrameTx s p) [(0x0201, [p.val])] ∧ ∃ wb, (cmdEthFrameTx s p).out = .ethWb p q false wb :: s.out) := by
  have hp := nextTx_port hx
  by_cases hlink : s.nat (O.portLink p) = 0
  · obtain ⟨htx, ⟨wb, hout⟩, hlog, -⟩ := txDone_shows q 0x0201 none hp
    rw [cmdEthFrameTx_down hon hx hmin hmax hlink]
    refine ⟨by rw [State.netNote_tim, htx], fun h => absurd hlink h, fun _ => ⟨logs_congr hlog.symm rfl (logs_note _ _ _ _), wb, ?_⟩⟩
    exact (State.note_out _ _ _ _).trans hout
  · obtain ⟨ts, he⟩ := cmdEthFrameTx_sent hon hx hmin hmax hlink
    obtain ⟨htx, ⟨wb, hout⟩, -, hobj⟩ := txDone_shows (s := (s.emit (.eth p q (s.macOf p) (s.vlanTag p x.body) x.dest x.body)).bump (O.portTxFrames p))
      q 0 ts (by simpa using hp)
    rw [he]
    refine ⟨by rw [htx]; simp, fun _ => ⟨?_, wb, by rw [hout]; simp⟩, fun h => absurd h hlink⟩
    exact counts_congr (s := s.emit _) (State.emit_vals _ _ _).2.2.1.symm (hobj _) (counts_bump _ _ (w := 8) rfl rfl)

end

/-! ## Events of a port (R340, R347, R389) -/

theorem seekLease_keeps (s : State) (p : Nat) : (s.seekLease p).log = s.log ∧ ∀ q, (s.seekLease p).nat q = s.nat q := by
  have hf := State.seekLease_fr (p1 := p) (c := 8388608) (r := 0) rfl rfl (fr_refl s)
  exact ⟨log_of_fr hf rfl, fun q => (vals_of_fr hf rfl rfl (by decide) (touched_none _)).2.2.1⟩

/-- What a link that comes up starts: probes, group reports and the search for a lease. -/
theorem linkUp_keeps (s : State) (p : Nat) : (((s.probeAddrs p).joinGroups p).seekLease p).log = s.log ∧
    ∀ q, (((s.probeAddrs p).joinGroups p).seekLease p).nat q = s.nat q := by
  have hf := State.joinGroups_fr (p1 := p) (c := 8388608) (r := 0) rfl rfl (State.probeAddrs_fr (p1 := p) (c := 8388608) (r := 0) rfl rfl (fr_refl s))
  obtain ⟨hlog, hobj⟩ := seekLease_keeps ((s.probeAddrs p).joinGroups p) p
  exact ⟨hlog.trans (log_of_fr hf rfl), fun q => (hobj q).trans (vals_of_fr hf rfl rfl (by decide) (touched_none _)).2.2.1⟩

theorem portLinkChange_shows {s : State} {p : Fin 3} {link : Nat} (hl : link ≤ 3) (hst : s.nat (O.portState p) ≠ 0) :
    (cmdPortLinkChange s p link).nat (O.portLink p) = link ∧ logs s (cmdPortLinkChange s p link)
      (if s.nat (O.portLink p) = 0 ∧ link ≠ 0 then [(0x0202, [p.val])] else if s.nat (O.portLink p) ≠ 0 ∧ link = 0 then [(0x0201, [p.val])] else []) := by
  obtain ⟨-, -, -, -, hlast, hlost, -⟩ := port_objects p
  have hput : (s.put (O.portLink p) link).nat (O.portLink p) = link := State.nat_put_fits _ _ _ (w := 1) rfl rfl (by omega)
  unfold cmdPortLinkChange
  rw [if_neg (by omega)]
  dsimp only
  split
  · obtain ⟨hlog, hobj⟩ := linkUp_keeps (((s.put (O.portLink p) link).modNet p fun x => { x with conflicts := [] }).netNote p 0x0202) p
    refine ⟨?_, logs_congr ?_ hlog (logs_note _ _ _ _)⟩
    · rw [hobj, State.netNote_nat _ _ _ hlast hlost, (State.modNet_vals _ _ _ _).2.2.1, hput]
    · simp
  · split
    · exact ⟨by rw [State.netNote_nat _ _ _ hlast hlost, hput], logs_congr (by simp) rfl (logs_note (s.put (O.portLink p) link) _ _ _)⟩
    · exact ⟨hput, logs_of_eq (by simp)⟩

/-- A noted code is the subsystem's last status. -/
theorem shows_note (s : State) (o : Obj) (code : Nat) (param : List Nat) (hw : o.ty.width = some 2) (hs : o.ty.isSigned = false)
    (hl : o.key ≠ O.logLostCount.key) : shows (s.note o code param) o code := by
  unfold State.note
  exact shows_congr (State.post_nat _ _ _ hl) (shows_put s o code hw hs)

theorem dhcpRetry_shows {s : State} {p : Fin 3} (hon : s.nat (O.portState p) = 2) (hmode : s.nat (O.ipv4Mode p) = 2)
    (hlease : (s.tim.ports.getD p {}).lease = none) :
    logs s (cmdDhcpRetry s p) [(0x0205, [p.val])] ∧ shows (cmdDhcpRetry s p) (O.portLastStatus p) 0x0205 := by
  obtain ⟨-, -, -, -, -, -, hlost⟩ := port_objects p
  have he : cmdDhcpRetry s p = (s.netNote p 0x0205).seekLease p := by
    unfold cmdDhcpRetry
    rw [hlease, if_pos (by simp [hon, hmode])]
  obtain ⟨hlog, hobj⟩ := seekLease_keeps (s.netNote p 0x0205) p
  rw [he]
  exact ⟨logs_congr rfl hlog (logs_note _ _ _ _), shows_congr (hobj _) (shows_note _ _ _ _ rfl rfl hlost)⟩

theorem heartbeatReceived_shows {s : State} {p : Fin 3} (hon : s.nat (O.portState p) = 2) (hnew : s.dict.conflictAt = none) :
    let t := cmdHeartbeatReceived s p (s.nat O.vipexNodeId) true
    logs s t [(0x1612, [s.nat O.vipexNodeId])] ∧ shows t O.dictLastStatus 0x1612 ∧ t.dict.conflictAt = some s.clk.now := by
  have he : cmdHeartbeatReceived s p (s.nat O.vipexNodeId) true =
      (s.modDict fun d => { d with conflictAt := some s.clk.now }).note O.dictLastStatus 0x1612 [s.nat O.vipexNodeId] := by
    simp [cmdHeartbeatReceived, hon, hnew]
  dsimp only
  rw [he]
  exact ⟨logs_congr (by simp) rfl (logs_note (s.modDict _) _ _ _), shows_note _ _ _ _ rfl rfl (by decide), by simp⟩

/-! ## Heartbeats (R385, R392) -/

/-- A Vipex message of this kind and destination waits in a queue; the rest is as it was but for the alive counter. -/
theorem sendVipex_eq (s : State) (p q kind dst txn : Nat) (payload : Bytes) (dest : Option (Bytes × Nat)) :
    ∃ a g tr m, s.sendVipex p q kind dst txn payload dest = ((s.put O.vipexAliveTx a).modDict g).queueTx p q tr (.vipex m) dest ∧
      fieldN m 3 1 = kind % 2 ^ 8 ∧ fieldN m 6 2 = dst % 2 ^ 16 := by
  have hkind : ∀ (src alive flags seq : Nat) (rest : Bytes), fieldN (vxBody kind src dst alive flags txn seq payload ++ rest) 3 1 = kind % 2 ^ 8 ∧
      fieldN (vxBody kind src dst alive flags txn seq payload ++ rest) 6 2 = dst % 2 ^ 16 := fun src alive flags seq rest => by
    simp [vxBody, List.append_assoc, fieldN_front, fieldN_behind]
  unfold State.sendVipex
  refine ⟨_, _, _, _, rfl, ?_⟩
  split
  · rw [List.append_assoc]
    exact hkind ..
  · exact hkind ..

/-- Whether a port sends the heartbeat (R392). -/
def beats (addr : Bytes) (s : State) (p : Nat) : Bool := s.nat (O.portState p) = 2 && s.hasFamily p addr

/-- The heartbeat of one port. -/
def beat (addr payload : Bytes) (s : State) (p : Nat) : State :=
  if beats addr s p then s.sendVipex p 1 0x10 0xFFF 0 payload (some (addr, 48005)) else s

theorem cmdVipexHeartbeat_eq {s : State} (hms : s.nat O.vipexHeartbeatMs ≠ 0) (haddr : (s.oct O.vipexHeartbeatAddr).all (· == 0) = false) :
    ∃ payload, cmdVipexHeartbeat s = (List.range 3).foldl (beat (s.oct O.vipexHeartbeatAddr) payload) s := by
  unfold cmdVipexHeartbeat
  dsimp only
  rw [if_neg (by simp only [haddr, Bool.or_false, decide_eq_true_eq]; exact hms)]
  exact ⟨_, rfl⟩

/-- What decides whether a port sends a heartbeat is as it was: the objects but the alive counter, and the port's addresses. -/
def sameAddrs (p : Nat) (s t : State) : Prop :=
  (∀ o : Obj, o.key ≠ O.vipexAliveTx.key → t.val o = s.val o) ∧ (t.tim.ports.getD p {}).lease = (s.tim.ports.getD p {}).lease ∧
  (t.tim.ports.getD p {}).conflicts = (s.tim.ports.getD p {}).conflicts

/-- No object of a port's addresses is the alive counter. -/
theorem addr_objects (p : Fin 3) :
    (O.portState p).key ≠ O.vipexAliveTx.key ∧ (O.ipv4Mode p).key ≠ O.vipexAliveTx.key ∧ (O.ipv4Addr p).key ≠ O.vipexAliveTx.key ∧
    (O.ipv6Addr p).key ≠ O.vipexAliveTx.key ∧ (O.ipv6Enable p).key ≠ O.vipexAliveTx.key ∧ O.macBase.key ≠ O.vipexAliveTx.key := by
  revert p; decide

theorem beats_congr {s t : State} (p : Fin 3) (addr : Bytes) (h : sameAddrs p s t) : beats addr t p = beats addr s p := by
  obtain ⟨hval, hlease, hconf⟩ := h
  obtain ⟨hst, hm, ha4, ha6, hen, hmac⟩ := addr_objects p
  have hnat : ∀ o : Obj, o.key ≠ O.vipexAliveTx.key → t.nat o = s.nat o := fun o ho => by rw [State.nat, State.nat, hval o ho]
  have hoct : ∀ o : Obj, o.key ≠ O.vipexAliveTx.key → t.oct o = s.oct o := fun o ho => by rw [State.oct, State.oct, hval o ho]
  have hflag : t.flag (O.ipv6Enable p) = s.flag (O.ipv6Enable p) := by rw [State.flag, State.flag, hval _ hen]
  have hmacOf : t.macOf p = s.macOf p := by rw [State.macOf, State.macOf, hoct _ hmac]
  have hgiven : t.givenAddrs p = s.givenAddrs p := by
    unfold State.givenAddrs
    rw [hnat _ hm, hlease, hnat _ ha4, hoct _ ha6, hflag, hmacOf]
  unfold beats State.hasFamily State.usedAddrs
  rw [hnat _ hst, hgiven, hconf]

/-- A port's heartbeat waits behind what its queue 1 held; the port's addresses and the other ports stay. -/
theorem beat_shows (addr payload : Bytes) {s : State} {p : Nat} (hp : p < s.tim.ports.length) (hq : 1 < (s.tim.ports.getD p {}).tx.length) :
    ∃ l : List TxDesc, ((beat addr payload s p).tim.ports.getD p {}).tx.getD 1 [] = (s.tim.ports.getD p {}).tx.getD 1 [] ++ l ∧
      l.length = (if beats addr s p = true then 1 else 0) ∧
      ∀ x ∈ l, x.dest = some (addr, 48005) ∧ ∃ m, x.body = .vipex m ∧ fieldN m 3 1 = 0x10 ∧ fieldN m 6 2 = 0xFFF := by
  unfold beat
  split
  · next h =>
    obtain ⟨a, g, tr, m, he, hkind, hdst⟩ := sendVipex_eq s p 1 0x10 0xFFF 0 payload (some (addr, 48005))
    have hport : ((s.put O.vipexAliveTx a).modDict g).tim = s.tim := by simp
    rw [he]
    unfold State.queueTx
    rw [State.modNet_port_same _ (by rw [hport]; exact hp), hport]
    refine ⟨_, getD_modAt_same _ _ hq, rfl, fun x hx => ?_⟩
    rw [List.mem_singleton.mp hx]
    exact ⟨rfl, m, rfl, hkind, hdst⟩
  · exact ⟨[], by simp, rfl, nofun⟩

theorem beat_other (addr payload : Bytes) (s : State) {p k : Nat} (h : p ≠ k) :
    (beat addr payload s k).tim.ports.getD p {} = s.tim.ports.getD p {} := by
  unfold beat
  split
  · obtain ⟨a, g, tr, m, he, -⟩ := sendVipex_eq s k 1 0x10 0xFFF 0 payload (some (addr, 48005))
    rw [he]
    unfold State.queueTx
    rw [State.modNet_port_ne _ h]
    simp
  · rfl

theorem beat_frame (addr payload : Bytes) (s : State) (k : Nat) :
    (beat addr payload s k).tim.ports.length = s.tim.ports.length ∧ ∀ o : Obj, o.key ≠ O.vipexAliveTx.key → (beat addr payload s k).val o = s.val o := by
  unfold beat
  split
  · obtain ⟨a, g, tr, m, he, -⟩ := sendVipex_eq s k 1 0x10 0xFFF 0 payload (some (addr, 48005))
    rw [he]
    unfold State.queueTx
    refine ⟨by simp, fun o ho => ?_⟩
    rw [(State.modNet_vals _ _ _ _).1, (State.modDict_vals _ _ _).1, State.val_put_ne ho]
  · exact ⟨rfl, fun _ _ => rfl⟩

/-- The ports beat one after the other: of port `p`, its own heartbeat alone joins its queue. -/
theorem beats_shows (addr payload : Bytes) (p : Fin 3) {ks : List Nat} (hks : ks.Nodup) {s : State} (hp : p.val < s.tim.ports.length)
    (hq : 1 < (s.tim.ports.getD p {}).tx.length) :
    ∃ l : List TxDesc, ((ks.foldl (beat addr payload) s).tim.ports.getD p {}).tx.getD 1 [] = (s.tim.ports.getD p {}).tx.getD 1 [] ++ l ∧
      l.length = (if p.val ∈ ks ∧ beats addr s p = true then 1 else 0) ∧
      ∀ x ∈ l, x.dest = some (addr, 48005) ∧ ∃ m, x.body = .vipex m ∧ fieldN m 3 1 = 0x10 ∧ fieldN m 6 2 = 0xFFF := by
  induction ks generalizing s with
  | nil => exact ⟨[], by simp, by simp, nofun⟩
  | cons k ks ih =>
    obtain ⟨hk, hks⟩ := List.nodup_cons.mp hks
    obtain ⟨hlen, hval⟩ := beat_frame addr payload s k
    rw [List.foldl_cons]
    by_cases hpk : p.val = k
    · subst hpk
      have hrest : ∀ (js : List Nat) (u : State), p.val ∉ js → (js.foldl (beat addr payload) u).tim.ports.getD p {} = u.tim.ports.getD p {} := by
        intro js
        induction js with
        | nil => exact fun u _ => rfl
        | cons j js jh =>
          intro u hj
          rw [List.foldl_cons, jh _ (fun h => hj (List.mem_cons_of_mem _ h)), beat_other _ _ _ fun h => hj (by rw [h]; exact List.mem_cons_self ..)]
      rw [hrest ks _ hk]
      simpa using beat_shows addr payload hp hq
    · have hport := beat_other addr payload s hpk
      have hsame : sameAddrs p s (beat addr payload s k) := ⟨hval, by rw [hport], by rw [hport]⟩
      obtain ⟨l, hl, hn, hx⟩ := ih hks (s := beat addr payload s k) (by rw [hlen]; exact hp) (by rw [hport]; exact hq)
      rw [hport] at hl
      rw [beats_congr p addr hsame] at hn
      exact ⟨l, hl, by simpa [hpk] using hn, hx⟩

/-- Settles O34. -/
theorem portFrames : Obligations.PortFrames := by
  refine ⟨fun s f hdie hok hon hfcs hdst => ⟨fun addr len hlen hvlan hfrag hsum hptp hvx ha hsvc hconf hlease hbuf => gives_of_live hdie rfl ?_,
      fun h => gives_of_live hdie rfl ?_⟩,
    fun s p hdie => ⟨fun q x hon hx hmin hmax => gives_of_live hdie rfl (ethFrameTx_shows hon hx hmin hmax),
      fun link hl hst => gives_of_live hdie rfl (portLinkChange_shows hl hst),
      fun hon hmode hlease => gives_of_live hdie rfl (dhcpRetry_shows hon hmode hlease),
      fun hon hnew => gives_of_live hdie rfl (heartbeatReceived_shows hon hnew), fun hms haddr hports htx => gives_of_live hdie rfl ?_⟩⟩
  · rw [cmdEthFrameRx_service hon hfcs hdst hlen hvlan hfrag hsum hptp hvx ha hsvc hconf hlease hbuf]
    exact received_delivered_shows s hok hbuf
  · rw [cmdEthFrameRx_dropped hon hfcs hdst h]
    exact received_dropped_shows s f
  · obtain ⟨payload, he⟩ := cmdVipexHeartbeat_eq hms haddr
    have hp : p.val < s.tim.ports.length := by omega
    have hq : 1 < (s.tim.ports.getD p {}).tx.length := by
      rw [List.getD_eq_getElem _ _ hp, htx _ (List.getElem_mem hp)]; decide
    obtain ⟨l, hl, hn, hx⟩ := beats_shows (s.oct O.vipexHeartbeatAddr) payload p (List.nodup_range (n := 3)) hp hq
    rw [he]
    exact ⟨l, hl, by simpa [beats, p.isLt] using hn, hx⟩

end Sys2Proof.Machine
end

section
/-! What an answer of the dictionary engine leaves as it is (R364, R370, R393), and the end of a validation and of a copy of the banks (R376, R377, R379). -/

set_option Elab.async false

namespace Sys2Proof.Machine

/-! ## What an answer leaves -/

/-- The objects that keep the most recent status code of their subsystem. -/
def statusObjs : List Obj :=
  [O.hifLastStatus, O.memLastStatus, O.scanLastStatus, O.pdpLastStatus, O.linkLastStatus, O.raspLastStatus, O.audLastStatus, O.thmLastStatus, O.pwrLastStatus,
    O.atlLastStatus, O.clpLastStatus, O.dictLastStatus]

theorem statusObj_mem {code : Nat} {o : Obj} (h : State.statusObj code = some o) : o ∈ statusObjs := by
  unfold State.statusObj at h
  split at h <;> cases h <;> decide

/-- No answer writes the object with this key: it keeps no status code, and counts no lost log entry, busy object or Vipex message. -/
def answerSpares (k : Nat) : Bool :=
  statusObjs.all (·.key != k) && O.dictBusyCount.key != k && !touched 7340032 k && !touched 549755813888 k

theorem State.recent_keeps (s : State) (code : Nat) :
    (∀ q : Obj, answerSpares q.key = true → (s.recent code).val q = s.val q) ∧ (s.recent code).cast = s.cast ∧ (s.recent code).maq = s.maq := by
  unfold State.recent
  split
  · next o h =>
    have hm := statusObj_mem h
    refine ⟨fun q hq => State.val_put_ne fun e => ?_, ?_, by simp⟩
    · simp only [answerSpares, Bool.and_eq_true, List.all_eq_true, bne_iff_ne, ne_eq] at hq
      exact hq.1.1.1 o hm e.symm
    · have hrw : o.access ≠ .rws := (by decide : ∀ o ∈ statusObjs, o.access ≠ .rws) o hm
      unfold State.put State.putV
      rw [if_neg hrw]
  · exact ⟨fun _ _ => rfl, rfl, rfl⟩

/-- What an answer writes, once its code is recorded: nothing of the banks, and no object that it spares. -/
theorem State.answer_keeps (s : State) (a : Ask) (r : Reply) :
    (∀ q : Obj, answerSpares q.key = true → (s.answer a r).val q = s.val q) ∧ (s.answer a r).cast = s.cast ∧ (s.answer a r).maq = s.maq := by
  obtain ⟨hv, hc, hm⟩ := s.recent_keeps r.status
  have hspare : ∀ {q : Obj}, answerSpares q.key = true → O.dictBusyCount.key ≠ q.key ∧ touched 7340032 q.key = false ∧ touched 549755813888 q.key = false := by
    intro q hq
    simp only [answerSpares, Bool.and_eq_true, bne_iff_ne, ne_eq, Bool.not_eq_true'] at hq
    exact ⟨hq.1.1.2, hq.1.2, hq.2⟩
  have hb : ∀ u : State, (if r.status = 0x1601 then u.bump O.dictBusyCount else u).cast = u.cast ∧
      (if r.status = 0x1601 then u.bump O.dictBusyCount else u).maq = u.maq ∧
      ∀ q : Obj, answerSpares q.key = true → (if r.status = 0x1601 then u.bump O.dictBusyCount else u).val q = u.val q := by
    intro u
    split
    · exact ⟨rfl, by simp [State.bump, State.bumpBy], fun q hq => State.val_put_ne (hspare hq).1.symm⟩
    · exact ⟨rfl, rfl, fun _ _ => rfl⟩
  obtain ⟨hbc, hbm, hbv⟩ := hb (s.recent r.status)
  unfold State.answer
  dsimp only
  generalize (if r.status = 0x1601 then (s.recent r.status).bump O.dictBusyCount else s.recent r.status) = u at hbc hbm hbv
  have hu : ∀ {t : State} {c m : Nat}, Fr0 c m u t → c.testBit 0 = false → c.testBit 5 = false → c.testBit 6 = false → m < 2 ^ 247 →
      (∀ q : Obj, answerSpares q.key = true → touched m q.key = false) →
      (∀ q : Obj, answerSpares q.key = true → t.val q = s.val q) ∧ t.cast = s.cast ∧ t.maq = s.maq := fun hf h0 h5 h6 hm' hq =>
    ⟨fun q h => (val_of_fr hf h0 h5 hm' (hq q h)).trans ((hbv q h).trans (hv q h)), (hf.1 .cast h5).symm.trans (hbc.trans hc),
      (hf.1 .maq h6).symm.trans (hbm.trans hm)⟩
  split
  · split
    · exact hu (c := 0) (m := 0) (fr_refl u) rfl rfl rfl (by decide) fun q _ => touched_none _
    · exact hu (State.post_fr (c := 22548578304) (r := 7340032) rfl rfl (fr_refl u)) rfl rfl rfl (by decide) fun q h => (hspare h).2.1
  · split
    · exact hu (State.answerVipex_fr (c := 2155872256) (r := 549755813888) rfl rfl (fr_refl u)) rfl rfl rfl (by decide) fun q h => (hspare h).2.2
    · split
      · exact hu (State.answerWindow_fr (c := 20401094656) (r := 0) rfl rfl (fr_refl u)) rfl rfl rfl (by decide) fun q _ => touched_none _
      · exact ⟨fun q h => (by simp : (u.emit _).val q = u.val q).trans ((hbv q h).trans (hv q h)), hbc.trans hc, hbm.trans hm⟩

theorem State.answer_nat (s : State) (a : Ask) (r : Reply) {q : Obj} (hq : answerSpares q.key = true) : (s.answer a r).nat q = s.nat q := by
  rw [State.nat, State.nat, (s.answer_keeps a r).1 q hq]

theorem State.answer_cfg (s : State) (a : Ask) (r : Reply) : (s.answer a r).cfg = s.cfg :=
  ((State.answer_fr (c := 24704450608) (r := 962080014336) rfl rfl (fr_refl s)).1 .cfg rfl).symm

/-- A request carried out by the swap is answered, where one waits. -/
def answerRequester (s : State) (who : Option Ask) (r : Reply) : State :=
  match who with
  | none => s
  | some a => s.answer a r

theorem answerRequester_keeps (s : State) (who : Option Ask) (r : Reply) :
    (∀ q : Obj, answerSpares q.key = true → (answerRequester s who r).nat q = s.nat q) ∧ (answerRequester s who r).cfg = s.cfg ∧
    (answerRequester s who r).cast = s.cast ∧ (answerRequester s who r).maq = s.maq := by
  cases who with
  | none => exact ⟨fun _ _ => rfl, rfl, rfl, rfl⟩
  | some a => exact ⟨fun q hq => s.answer_nat a r hq, s.answer_cfg a r, (s.answer_keeps a r).2.1, (s.answer_keeps a r).2.2⟩

theorem logGrows_answer (s : State) (a : Ask) (r : Reply) : logGrows s (s.answer a r) := by
  have h1 : (if r.status = 0x1601 then (s.recent r.status).bump O.dictBusyCount else s.recent r.status).log = s.log := by
    have h0 : (s.recent r.status).log = s.log := ((State.recent_fr (c := 48) (r := 137438953472) rfl rfl (fr_refl s)).1 .log rfl).symm
    split
    · simpa [State.bump, State.bumpBy] using h0
    · exact h0
  unfold State.answer
  dsimp only
  generalize (if r.status = 0x1601 then (s.recent r.status).bump O.dictBusyCount else s.recent r.status) = u at h1
  have hu : ∀ {t : State}, t.log = u.log → logGrows s t := fun h => logGrows_of_eq (h.trans h1)
  split
  · split
    · exact hu rfl
    · exact (logGrows_of_eq h1).trans (logGrows_postWith u false _ _)
  · split
    · exact hu ((State.answerVipex_fr (c := 2155872256) (r := 549755813888) rfl rfl (fr_refl u)).1 .log rfl).symm
    · split
      · exact hu ((State.answerWindow_fr (c := 20401094656) (r := 0) rfl rfl (fr_refl u)).1 .log rfl).symm
      · exact hu rfl

theorem logGrows_answerRequester (s : State) (who : Option Ask) (r : Reply) : logGrows s (answerRequester s who r) := by
  cases who with
  | none => exact logGrows_of_eq rfl
  | some a => exact logGrows_answer s a r

/-! ## The end of a validation (R376, R377) -/

/-- The swap is armed, the answer still to come. -/
def swapArmed (s : State) : State :=
  ((((({ s with cfg := { s.cfg with requester := none, retrain := s.retrains, changesTf := s.tfChanges, audioPairs := s.audioChanges } } : State).put
    O.cfgSwapState 2).put O.cfgSwapResult 0).put O.cfgMaquetteDirty 0).abortForSwap)

theorem armSwap_eq (s : State) : s.armSwap = answerRequester (swapArmed s) s.cfg.requester {} := by
  unfold State.armSwap answerRequester swapArmed
  cases s.cfg.requester <;> rfl

theorem swapArmed_keeps (s : State) : (swapArmed s).nat O.cfgSwapState = 2 ∧ (swapArmed s).nat O.cfgSwapResult = 0 ∧
    (swapArmed s).cfg = { s.cfg with requester := none, retrain := s.retrains, changesTf := s.tfChanges, audioPairs := s.audioChanges } ∧
    (swapArmed s).cast = s.cast ∧ (swapArmed s).maq = s.maq := by
  unfold swapArmed
  have hf := fun u : State => State.abortForSwap_fr (c := 22548611328) (r := 155951448601133434903986176) rfl rfl (fr_refl u)
  refine ⟨?_, ?_, (hf _).1 .cfg rfl |>.symm.trans (by simp), (hf _).1 .cast rfl |>.symm.trans (by simp [State.put, State.putV, O.cfgSwapState, O.cfgSwapResult, O.cfgMaquetteDirty]),
    (hf _).1 .maq rfl |>.symm.trans (by simp)⟩
  · rw [(vals_of_fr (hf _) rfl rfl (by decide) (by decide +kernel : touched 155951448601133434903986176 O.cfgSwapState.key = false)).2.2.1, State.nat_put_ne (by decide),
      State.nat_put_ne (by decide), State.nat_put_same]
    decide
  · rw [(vals_of_fr (hf _) rfl rfl (by decide) (by decide +kernel : touched 155951448601133434903986176 O.cfgSwapResult.key = false)).2.2.1, State.nat_put_ne (by decide),
      State.nat_put_same]
    decide

/-- The swap is refused, the answer still to come. -/
def swapRefused (s : State) (code : Nat) : State :=
  (({ (s.put O.cfgSwapState 0).put O.cfgSwapResult code with cfg := { s.cfg with requester := none } } : State).recent code).post 0x1501 [code]

theorem refuseSwap_eq (s : State) (code : Nat) : s.refuseSwap code = answerRequester (swapRefused s code) s.cfg.requester { status := code } := by
  unfold State.refuseSwap answerRequester swapRefused
  cases s.cfg.requester <;> rfl

theorem swapRefused_keeps (s : State) (code : Nat) : (swapRefused s code).nat O.cfgSwapState = 0 ∧ shows (swapRefused s code) O.cfgSwapResult code ∧
    (swapRefused s code).cfg = { s.cfg with requester := none } ∧ (swapRefused s code).cast = s.cast ∧ (swapRefused s code).maq = s.maq := by
  let u : State := { (s.put O.cfgSwapState 0).put O.cfgSwapResult code with cfg := { s.cfg with requester := none } }
  obtain ⟨hv, hc, hm⟩ := u.recent_keeps code
  have hf := State.post_fr (p1 := 0x1501) (p2 := [code]) (c := 22548578304) (r := 7340032) rfl rfl (fr_refl (u.recent code))
  have hval : ∀ {q : Obj}, answerSpares q.key = true → touched 7340032 q.key = false → (swapRefused s code).nat q = u.nat q := fun h1 h2 =>
    (vals_of_fr hf rfl rfl (by decide) h2).2.2.1.trans (by rw [State.nat, State.nat, hv _ h1])
  have hcfg : (u.recent code).cfg = u.cfg := ((State.recent_fr (c := 48) (r := 137438953472) rfl rfl (fr_refl u)).1 .cfg rfl).symm
  refine ⟨(hval (by decide +kernel) (by decide +kernel)).trans ?_, shows_congr (hval (by decide +kernel) (by decide +kernel)) (shows_put (s.put O.cfgSwapState 0) _ _ (w := 2) rfl rfl),
    (hf.1 .cfg rfl).symm.trans hcfg, (hf.1 .cast rfl).symm.trans (hc.trans (by simp [u, State.put, State.putV, O.cfgSwapState, O.cfgSwapResult])),
    (hf.1 .maq rfl).symm.trans (hm.trans (by simp [u]))⟩
  show ((s.put O.cfgSwapState 0).put O.cfgSwapResult code).nat O.cfgSwapState = 0
  rw [State.nat_put_ne (by decide), State.nat_put_same]
  decide

theorem swapRefused_logged (s : State) (code : Nat) : logged s (swapRefused s code) (0x1501, [code]) := by
  refine logged_of_post (u := ({ (s.put O.cfgSwapState 0).put O.cfgSwapResult code with cfg := { s.cfg with requester := none } } : State).recent code)
    false 0x1501 [code] ?_ (logGrows_of_eq rfl)
  exact ((State.recent_fr (c := 48) (r := 137438953472) rfl rfl (fr_refl _)).1 .log rfl).symm.trans (by simp)

/-- Settles O31. -/
theorem swapSteps : Obligations.SwapSteps := by
  refine ⟨fun s hdie hst hcopy => ⟨fun hc => gives_of_live hdie rfl ?_, fun hc => gives_of_live hdie rfl ?_⟩,
    fun s hdie hcopy hwait => gives_of_live hdie rfl ?_⟩
  · have he : cmdSwapValidationDone s = answerRequester (swapArmed s) s.cfg.requester {} := by simp [cmdSwapValidationDone, hst, hcopy, hc, armSwap_eq]
    obtain ⟨hstate, hres, hcfg, hcast, hmaq⟩ := swapArmed_keeps s
    obtain ⟨hn, hc', hcast', hmaq'⟩ := answerRequester_keeps (swapArmed s) s.cfg.requester {}
    rw [he, hn _ (by decide +kernel), hn _ (by decide +kernel), hc', hcfg, hcast', hmaq']
    exact ⟨hstate, hres, rfl, rfl, rfl, hcast, hmaq⟩
  · have he : cmdSwapValidationDone s = answerRequester (swapRefused s s.checkSwap) s.cfg.requester { status := s.checkSwap } := by
      simp [cmdSwapValidationDone, hst, hcopy, hc, refuseSwap_eq]
    obtain ⟨hstate, hres, hcfg, hcast, hmaq⟩ := swapRefused_keeps s s.checkSwap
    obtain ⟨hn, hc', hcast', hmaq'⟩ := answerRequester_keeps (swapRefused s s.checkSwap) s.cfg.requester { status := s.checkSwap }
    rw [he, hn _ (by decide +kernel), hc', hcfg, hcast', hmaq']
    exact ⟨hstate, shows_congr (hn _ (by decide +kernel)) hres, rfl, hcast, hmaq, logged_then_grows (swapRefused_logged s _) (logGrows_answerRequester _ _ _)⟩
  · simp [cmdSwapCopyDone, hcopy, hwait]

end Sys2Proof.Machine
end

section
/-! A sample of the die sensors, the trip, and the learned offsets (R412 to R416, R420, R421). -/

set_option Elab.async false

namespace Sys2Proof.Machine

/-! ## What a stage of a sample leaves -/

/-- A stage of THM_SAMPLE behind the sensors' own: the sensors, the trip's counts, Tj, the die and memory stay. -/
structure SampleKept (s t : State) : Prop where
  sensors : t.thm.sensors = s.thm.sensors
  tripRun : t.thm.tripRun = s.thm.tripRun
  tripCount : t.thm.tripCount = s.thm.tripCount
  die : t.die = s.die
  hbm : t.hbm = s.hbm
  tj : t.int O.thmTj = s.int O.thmTj
  tjSensor : t.nat O.thmTjSensor = s.nat O.thmTjSensor

theorem SampleKept.refl (s : State) : SampleKept s s := ⟨rfl, rfl, rfl, rfl, rfl, rfl, rfl⟩

theorem SampleKept.trans {s t u : State} (h : SampleKept s t) (g : SampleKept t u) : SampleKept s u :=
  ⟨g.sensors.trans h.sensors, g.tripRun.trans h.tripRun, g.tripCount.trans h.tripCount, g.die.trans h.die, g.hbm.trans h.hbm, g.tj.trans h.tj,
    g.tjSensor.trans h.tjSensor⟩

/-- A step that keeps THM, the die, memory and the two objects of Tj. -/
theorem sampleKept_of_fr {c r : Nat} {s t : State} (h : Fr0 c r s t) (hc : ∀ i ∈ [0, 1, 5, 10, 25], c.testBit i = false) (hr : r < 2 ^ 247)
    (hq : (touched r O.thmTj.key || touched r O.thmTjSensor.key) = false) : SampleKept s t := by
  obtain ⟨htj, hsensor⟩ := Bool.or_eq_false_iff.mp hq
  have hpart := hc 0 (by decide)
  have hcast := hc 5 (by decide)
  have hthm : s.thm = t.thm := h.1 .thm (hc 25 (by decide))
  exact ⟨by rw [hthm], by rw [hthm], by rw [hthm], (h.1 .die (hc 1 (by decide))).symm, (h.1 .hbm (hc 10 (by decide))).symm,
    (vals_of_fr h hpart hcast hr htj).2.1, (vals_of_fr h hpart hcast hr hsensor).2.2.1⟩

theorem sampleKept_modThm {s : State} {f : Thm → Thm} (h : (f s.thm).sensors = s.thm.sensors ∧ (f s.thm).tripRun = s.thm.tripRun ∧ (f s.thm).tripCount = s.thm.tripCount) :
    SampleKept s (s.modThm f) := ⟨h.1, h.2.1, h.2.2, rfl, rfl, by simp, by simp⟩

theorem sampleKept_put (s : State) {o : Obj} (v : Int) (h : O.thmTj.key ≠ o.key ∧ O.thmTjSensor.key ≠ o.key) : SampleKept s (s.put o v) :=
  ⟨by simp, by simp, by simp, by simp, by simp, State.int_put_ne h.1, State.nat_put_ne h.2⟩

theorem sampleKept_thmNote (s : State) (code : Nat) (param : List Nat) : SampleKept s (s.thmNote code param) :=
  sampleKept_of_fr (State.thmNote_fr (c := 22548578304) (r := 1461501637330902918203684832716283019655939883008) rfl rfl (fr_refl s)) (by decide) (by decide) (by decide +kernel)

theorem sampleKept_suspend (s : State) (b : Nat) : SampleKept s (s.suspend b) :=
  sampleKept_of_fr (State.suspend_fr (c := 22549643264) (r := 2066035336255477121024) rfl rfl (fr_refl s)) (by decide) (by decide) (by decide +kernel)

theorem sampleKept_resume (s : State) (b : Nat) : SampleKept s (s.resume b) :=
  sampleKept_of_fr (State.resume_fr (c := 22548578304) (r := 885443715538065817600) rfl rfl (fr_refl s)) (by decide) (by decide) (by decide +kernel)

theorem sampleKept_limitStart (s : State) : SampleKept s (limitStart s) := by
  unfold limitStart
  split
  · exact sampleKept_modThm ⟨rfl, rfl, rfl⟩
  · split
    · exact .refl s
    · exact (sampleKept_modThm ⟨rfl, rfl, rfl⟩).trans (sampleKept_thmNote _ _ _)

theorem sampleKept_sensorEvents (s : State) (old new : List Sensor) : SampleKept s (s.sensorEvents old new) :=
  sampleKept_of_fr (State.sensorEvents_fr (c := 31139577856) (r := 1461501637330902918203685139633210918035459670016) rfl rfl (fr_refl s)) (by decide) (by decide)
    (by decide +kernel)

theorem sampleKept_sampleStacks (s : State) (raw : List (Option Int)) : SampleKept s (sampleStacks s raw) :=
  sampleKept_of_fr (sampleStacks_fr (c := 31156355072) (r := 41410478080743382724608535173662152714706653833329236258873525406793728) rfl rfl (fr_refl s)) (by decide)
    (by decide) (by decide +kernel)

theorem sampleKept_uncover (s : State) : SampleKept s s.uncover := ⟨rfl, rfl, rfl, rfl, rfl, by simp, by simp⟩

theorem sampleKept_riseLevel (s : State) : SampleKept s (riseLevel s) := by
  unfold riseLevel
  dsimp only
  generalize hu : s.modThm _ = u
  have h0 : SampleKept s u := hu ▸ sampleKept_modThm ⟨rfl, rfl, rfl⟩
  have hput : ∀ v : Int, SampleKept s (u.put O.thmRiseLevel v) := fun v => h0.trans (sampleKept_put u v (by decide))
  split
  · exact (hput 2).trans ((sampleKept_thmNote _ _ _).trans (sampleKept_suspend _ _))
  · split
    · exact (hput 1).trans (sampleKept_thmNote _ _ _)
    · split
      · exact (hput 1).trans ((sampleKept_thmNote _ _ _).trans (sampleKept_resume _ _))
      · split
        · exact (hput 0).trans (sampleKept_thmNote _ _ _)
        · exact h0

theorem sampleKept_throttleLevel (s : State) : SampleKept s (throttleLevel s) := by
  unfold throttleLevel
  extract_lets start step a b u l ups downs own level v
  clear_value level
  have h0 : SampleKept s u := sampleKept_modThm ⟨rfl, rfl, rfl⟩
  have hput : ∀ v : Int, SampleKept s ((u.put O.thmThrottleLevel v).put O.admThrottleNow v) := fun v =>
    h0.trans ((sampleKept_put u v (by decide)).trans (sampleKept_put _ v (by decide)))
  split
  · exact (hput _).trans (sampleKept_thmNote _ _ _)
  · split
    · exact (hput _).trans (sampleKept_thmNote _ _ _)
    · exact hput _

theorem sampleKept_applyEmergency (s : State) (before : Nat) : SampleKept s (applyEmergency s before) :=
  sampleKept_of_fr (applyEmergency_fr (c := 0) (r := 421249166674228746791672110734681729275580381602196445017243910144) rfl rfl (fr_refl s)) (by decide) (by decide)
    (by decide +kernel)

theorem sampleKept_coldSpell (s : State) : SampleKept s (coldSpell s) := by
  unfold coldSpell
  dsimp only
  split
  · exact sampleKept_modThm ⟨rfl, rfl, rfl⟩
  · split
    · exact (sampleKept_modThm ⟨rfl, rfl, rfl⟩).trans (sampleKept_thmNote _ _ _)
    · exact sampleKept_modThm ⟨rfl, rfl, rfl⟩

theorem sampleKept_foldl {α : Type} {f : State → α → State} (h : ∀ s a, SampleKept s (f s a)) (l : List α) (s : State) : SampleKept s (l.foldl f s) := by
  induction l generalizing s with
  | nil => exact .refl s
  | cons a l ih => exact (h s a).trans (ih _)

theorem sampleKept_nor (s : State) (n : Nor) : SampleKept s { s with nor := n } := ⟨rfl, rfl, rfl, rfl, rfl, rfl, rfl⟩

theorem sampleKept_logTrips (s : State) : SampleKept s (logTrips s) := by
  unfold logTrips
  refine ((sampleKept_foldl (fun u x => sampleKept_thmNote u _ _) s.thm.tripLog s).trans (sampleKept_foldl (fun u x => ?_) _ _)).trans
    (sampleKept_modThm ⟨rfl, rfl, rfl⟩)
  exact (sampleKept_nor u _).trans (sampleKept_thmNote _ _ _)

theorem sampleKept_norWindow (s : State) : SampleKept s (norWindow s) := by
  unfold norWindow
  dsimp only
  generalize hu : s.modThm _ = u
  have h0 : SampleKept s u := hu ▸ sampleKept_modThm ⟨rfl, rfl, rfl⟩
  have hput : ∀ b : Bool, SampleKept s (u.putB O.thmNorWindow b) := fun b => h0.trans (sampleKept_put u _ (by decide))
  split
  · exact (hput true).trans ((sampleKept_thmNote _ _ _).trans (sampleKept_logTrips _))
  · split
    · exact (hput false).trans (sampleKept_thmNote _ _ _)
    · exact h0

/-! ## The sample (R412 to R415, R420) -/

theorem run3_eq_three (n : Nat) (b : Bool) : run3 n b = 3 ↔ 2 ≤ n ∧ b = true := by
  unfold run3
  cases b
  · simp
  · simp only [if_true, and_true]; omega

theorem junction_sensor_le (xs : List Sensor) : (junction xs).2 < 48 := by
  have h : ∀ (l : List Nat) (b : Int × Nat), (∀ k ∈ l, k < 47) → b.2 < 48 →
      (l.foldl (fun b k => let v := (xs.getD (k + 1) {}).val; if b.1 < v then (v, k + 1) else b) b).2 < 48 := by
    intro l
    induction l with
    | nil => exact fun b _ hb => hb
    | cons k l ih =>
      intro b hl hb
      refine ih _ (fun j hj => hl j (List.mem_cons_of_mem _ hj)) ?_
      have hk := hl k List.mem_cons_self
      dsimp only
      split
      · show k + 1 < 48; omega
      · exact hb
  exact h _ _ (fun k hk => List.mem_range.mp hk) (show 0 < 48 by decide)

theorem takeSample_keeps (s : State) (raw : List (Option Int)) :
    let new := sampleSensors s.thm.sensors raw (s.nat O.thmNeighbourTol)
    (takeSample s raw).thm.sensors = new ∧ (takeSample s raw).thm.tripRun = run3 s.thm.tripRun (decide (s.int O.plinthTripPoint ≤ (junction new).1)) ∧
    (takeSample s raw).thm.tripCount = s.thm.tripCount ∧ (takeSample s raw).die = s.die ∧ (takeSample s raw).hbm = s.hbm ∧
    (takeSample s raw).int O.thmTj = O.thmTj.ty.fit (junction new).1 ∧ (takeSample s raw).nat O.thmTjSensor = (junction new).2 := by
  intro new
  have hput : ∀ (u : State) (a b c : Int), ((((u.put O.thmTj a).put O.thmTjSensor b).put O.thmExcludedMask c)).thm = u.thm ∧
      (((u.put O.thmTj a).put O.thmTjSensor b).put O.thmExcludedMask c).die = u.die ∧ (((u.put O.thmTj a).put O.thmTjSensor b).put O.thmExcludedMask c).hbm = u.hbm := by simp
  unfold takeSample
  extract_lets j spread even u
  obtain ⟨hthm, hdie, hhbm⟩ := hput u j.1 j.2 (maskOf (new.map (·.excl)))
  refine ⟨by rw [hthm]; rfl, by rw [hthm]; rfl, by rw [hthm]; rfl, hdie, hhbm, ?_, ?_⟩
  · rw [State.int_put_ne (by decide), State.int_put_ne (by decide), State.int_put_same]
  · rw [State.nat_put_ne (by decide)]
    exact State.nat_put_fits _ _ _ (w := 1) rfl rfl (Nat.lt_trans (junction_sensor_le new) (by decide))

/-- A sample up to the decision on a trip. -/
def sampleTaken (s : State) (raw mems : List (Option Int)) : State :=
  let old := s.thm.sensors
  let s := limitStart (takeSample s raw)
  let s := s.sensorEvents old s.thm.sensors
  let s := sampleStacks s mems
  let s := s.modThm fun t => { t with hist := (s.tj :: t.hist).take 64 }
  let s := if s.tj < -160 ∨ 1680 < s.tj then s.uncover else s
  let rates := (riseRate s.thm.hist).toList ++ (List.range s.stackCount).filterMap fun i => riseRate (s.stack i).hist
  s.put O.thmRiseRate (match rates with | [] => 0 | r :: rs => rs.foldl max r)

theorem sampleTaken_keeps (s : State) (raw mems : List (Option Int)) : SampleKept (takeSample s raw) (sampleTaken s raw mems) := by
  unfold sampleTaken
  extract_lets old a b c d e rates
  have hd : SampleKept (takeSample s raw) d :=
    (sampleKept_limitStart _).trans ((sampleKept_sensorEvents _ _ _).trans ((sampleKept_sampleStacks _ _).trans (sampleKept_modThm ⟨rfl, rfl, rfl⟩)))
  have he : SampleKept (takeSample s raw) e := by
    unfold e
    split
    · exact hd.trans (sampleKept_uncover d)
    · exact hd
  exact he.trans (sampleKept_put e _ (by decide))

/-- The rest of a sample: the trip, or the levels that follow the temperature. -/
def sampleEnded (s : State) (before : Nat) : State :=
  match tripCause s with
  | some c => trip s c
  | none => norWindow (coldSpell (applyEmergency (throttleLevel (riseLevel s)) before))

theorem cmdThmSample_running {s : State} (hdie : s.die = .running) (raw mems : List (Option Int)) :
    cmdThmSample s raw mems = sampleEnded (sampleTaken s raw mems) (s.nat O.thmRiseLevel) := by
  unfold cmdThmSample
  rw [if_neg (by simp [hdie]), if_neg (by simp [hdie])]
  rfl

theorem sampleEnded_trips {s : State} {c : Nat} (h : tripCause s = some c) (before : Nat) : sampleEnded s before = trip s c := by
  unfold sampleEnded
  rw [h]

theorem sampleEnded_goesOn {s : State} (h : tripCause s = none) (before : Nat) : SampleKept s (sampleEnded s before) := by
  unfold sampleEnded
  rw [h]
  exact ((((sampleKept_riseLevel s).trans (sampleKept_throttleLevel _)).trans (sampleKept_applyEmergency _ before)).trans (sampleKept_coldSpell _)).trans
    (sampleKept_norWindow _)

theorem tripCause_isSome (s : State) : (tripCause s).isSome = true ↔ s.thm.tripRun = 3 ∨ 12 < (s.thm.sensors.filter (·.excl)).length := by
  unfold tripCause
  split
  · simp [*]
  · split <;> simp [*]

/-- A suspension leaves its cause's bit set (R198). -/
theorem State.suspend_bit (s : State) {b : Nat} (hb : b < 8) : bitOf ((s.suspend b).nat O.admSuspendCauses) b = true := by
  unfold State.suspend
  split
  · assumption
  · have hpost := State.post_vals (q := O.admSuspendCauses)
      (((s.put O.admSuspendCauses (Nat.lor (s.nat O.admSuspendCauses) (2 ^ b))).put O.admPromiseState 1).bump O.admSuspendCount) 0x0910 [b] (by decide +kernel)
    rw [(State.uncover_vals _ _).2.2.1, hpost.2.2.1, State.nat_bump_ne (by decide), State.nat_put_ne (by decide), State.nat_put_same, Ty.fit_unsigned (w := 1) rfl rfl, bitOf_testBit,
      Nat.testBit_mod_two_pow, ← bitOf_testBit, bitOf_lor]
    simpa using hb

/-- Before the clocks stop: the lanes silent, NOR torn, the rail-down under way. -/
theorem stopDie_thm (s : State) (why : StopCause) : (stopDie s why).thm = { s.thm with thermtrip := true, belowSince := none } := by
  have h : s.thm = (stopRails (tearNor (silenceLanes s))).thm :=
    (stopRails_fr (c := 85966717184) (r := 18446744073709551616) rfl rfl (tearNor_fr rfl rfl (silenceLanes_fr rfl rfl (fr_refl s)))).1 .thm rfl
  unfold stopDie
  simp only [h]

theorem trip_shows (s : State) (cause : Nat) :
    (trip s cause).thm.sensors = s.thm.sensors ∧ (trip s cause).int O.thmTj = s.int O.thmTj ∧ (trip s cause).nat O.thmTjSensor = s.nat O.thmTjSensor ∧
    (trip s cause).die = .stopped ∧ (trip s cause).stop = .trip ∧ (trip s cause).hbm = [] ∧ (trip s cause).thm.thermtrip = true ∧
    (trip s cause).thm.tripCount = satAdd 32 s.thm.tripCount 1 ∧ bitOf ((trip s cause).nat O.admSuspendCauses) 0 = true := by
  unfold trip
  extract_lets u v rcd free w
  have hw : w.thm.sensors = s.thm.sensors ∧ w.thm.tripCount = satAdd 32 s.thm.tripCount 1 := by
    have hv := sampleKept_suspend (u.put O.thmTripCount u.thm.tripCount) 0
    have hput := sampleKept_put u (o := O.thmTripCount) u.thm.tripCount (by decide)
    have hvs : v.thm.sensors = s.thm.sensors := hv.sensors.trans hput.sensors
    have hvc : v.thm.tripCount = satAdd 32 s.thm.tripCount 1 := hv.tripCount.trans hput.tripCount
    unfold w State.modThm
    dsimp only
    split <;> exact ⟨hvs, hvc⟩
  have hvals : ∀ {q : Obj}, touched 713623846352979940529145069206827897378045952 q.key = false →
      (stopDie w .trip).int q = s.int q ∧ (stopDie w .trip).nat q = s.nat q := fun hq =>
    have h := vals_of_fr (trip_fr (p1 := cause) (c := 91370046726) (r := 713623846352979940529145069206827897378045952) rfl rfl (fr_refl s)) rfl rfl (by decide) hq
    ⟨h.2.1, h.2.2.1⟩
  have hcause : bitOf ((stopDie w .trip).nat O.admSuspendCauses) 0 = true := by
    rw [(vals_of_fr (stopDie_fr (p1 := .trip) (c := 86000272646) (r := 18446744073709551616) rfl rfl (fr_refl w)) rfl rfl (by decide) (by decide +kernel)).2.2.1,
      show w.nat O.admSuspendCauses = v.nat O.admSuspendCauses from (State.modThm_vals _ _ _).2.2.1]
    exact State.suspend_bit _ (by decide)
  exact ⟨by rw [stopDie_thm]; exact hw.1, (hvals (by decide +kernel)).1, (hvals (by decide +kernel)).2, rfl, rfl, rfl, by rw [stopDie_thm],
    by rw [stopDie_thm]; exact hw.2, hcause⟩

theorem thmSample_shows {s : State} (hdie : s.die = .running) (raw mems : List (Option Int)) :
    let new := sampleSensors s.thm.sensors raw (s.nat O.thmNeighbourTol)
    let trips : Prop := 2 ≤ s.thm.tripRun ∧ s.int O.plinthTripPoint ≤ (junction new).1 ∨ 12 < (new.filter (·.excl)).length
    let t := cmdThmSample s raw mems
    t.thm.sensors = new ∧ t.int O.thmTj = O.thmTj.ty.fit (junction new).1 ∧ t.nat O.thmTjSensor = (junction new).2 ∧
      (trips → t.die = .stopped ∧ t.stop = .trip ∧ t.hbm = [] ∧ t.thm.thermtrip = true ∧ t.thm.tripCount = satAdd 32 s.thm.tripCount 1 ∧ bitOf (t.nat O.admSuspendCauses) 0 = true) ∧
      (¬ trips → t.die = .running ∧ t.hbm = s.hbm ∧ t.thm.tripCount = s.thm.tripCount) := by
  intro new trips t
  obtain ⟨hsens, hrun, hcount, hd, hhbm, htj, hsensor⟩ := takeSample_keeps s raw
  have hk := sampleTaken_keeps s raw mems
  have ht : t = sampleEnded (sampleTaken s raw mems) (s.nat O.thmRiseLevel) := cmdThmSample_running hdie raw mems
  clear_value t
  generalize sampleTaken s raw mems = u at hk ht
  have htrips : (tripCause u).isSome = true ↔ trips := by
    rw [tripCause_isSome, hk.tripRun, hrun, run3_eq_three, hk.sensors, hsens, decide_eq_true_iff]
  cases hc : tripCause u with
  | some c =>
    obtain ⟨h1, h2, h3, h4, h5, h6, h7, h8, h9⟩ := trip_shows u c
    rw [← sampleEnded_trips hc, ← ht] at h1 h2 h3 h4 h5 h6 h7 h8 h9
    exact ⟨h1.trans (hk.sensors.trans hsens), h2.trans (hk.tj.trans htj), h3.trans (hk.tjSensor.trans hsensor),
      fun _ => ⟨h4, h5, h6, h7, by rw [h8, hk.tripCount, hcount], h9⟩, fun hn => absurd (htrips.mp (by rw [hc]; rfl)) hn⟩
  | none =>
    have hend := hk.trans (ht ▸ sampleEnded_goesOn hc (s.nat O.thmRiseLevel))
    exact ⟨hend.sensors.trans hsens, hend.tj.trans htj, hend.tjSensor.trans hsensor, fun h => absurd (htrips.mpr h) (by rw [hc]; decide),
      fun _ => ⟨hend.die.trans (hd.trans hdie), hend.hbm.trans hhbm, hend.tripCount.trans hcount⟩⟩

/-! ## Learned offsets (R416) -/

/-- The offset of a sensor after a step of learning (R416). -/
def learned (x : Sensor) (total count : Int) : Int :=
  if x.excl = true ∨ 24 ≤ x.trim.natAbs then x.trim else if x.val * count < total then x.trim + 1 else if total < x.val * count then x.trim - 1 else x.trim

theorem learnOne_sensor (s : State) (total : Int) (count n k : Nat) (hn : n < s.thm.sensors.length) :
    (learnOne s total count n).thm.sensors.length = s.thm.sensors.length ∧ (learnOne s total count n).thm.learnAt = s.thm.learnAt ∧
    (learnOne s total count n).clk = s.clk ∧
    (k ≠ n → (learnOne s total count n).thm.sensors.getD k {} = s.thm.sensors.getD k {}) ∧
    ((learnOne s total count n).thm.sensors.getD n {}).trim = learned (s.thm.sensors.getD n {}) total count := by
  unfold learnOne
  extract_lets x d t hit u
  split
  · next h => exact ⟨rfl, rfl, rfl, fun _ => rfl, (if_pos h).symm⟩
  · next h =>
    have hu : u.thm.sensors.length = s.thm.sensors.length ∧ u.thm.learnAt = s.thm.learnAt ∧ u.clk = s.clk ∧ (k ≠ n → u.thm.sensors.getD k {} = s.thm.sensors.getD k {}) ∧
        (u.thm.sensors.getD n {}).trim = learned (s.thm.sensors.getD n {}) total count := by
      refine ⟨by simp [u, State.modThm, modAt], rfl, rfl, fun hk => getD_modAt_ne _ _ hk, ?_⟩
      show ((modAt s.thm.sensors n _).getD n {}).trim = _
      rw [getD_modAt_same _ _ hn, learned, if_neg h]
      show x.trim + d = _
      unfold d
      split
      · rfl
      · split
        · exact Int.sub_eq_add_neg.symm
        · exact Int.add_zero _
    split
    · have hf := State.thmNote_fr (p1 := 0x100E) (p2 := [n]) (c := 22548578304) (r := 1461501637330902918203684832716283019655939883008) rfl rfl (fr_refl u)
      rw [← hf.1 .thm rfl, ← hf.1 .clk rfl]
      exact hu
    · exact hu

theorem learn_fold (total : Int) (count : Nat) (ns : List Nat) (hns : ns.Nodup) (s : State) (hlt : ∀ n ∈ ns, n < s.thm.sensors.length) :
    let t := ns.foldl (fun s n => learnOne s total count n) s
    t.thm.learnAt = s.thm.learnAt ∧ t.clk = s.clk ∧ (∀ k, k ∉ ns → t.thm.sensors.getD k {} = s.thm.sensors.getD k {}) ∧
    ∀ k ∈ ns, (t.thm.sensors.getD k {}).trim = learned (s.thm.sensors.getD k {}) total count := by
  induction ns generalizing s with
  | nil => exact ⟨rfl, rfl, fun _ _ => rfl, nofun⟩
  | cons n ns ih =>
    obtain ⟨hn, hns⟩ := List.nodup_cons.mp hns
    have hone := fun k => learnOne_sensor s total count n k (hlt n List.mem_cons_self)
    obtain ⟨hlen, hat, hclk, -, hown⟩ := hone 0
    obtain ⟨hat', hclk', hout, hin⟩ := ih hns (learnOne s total count n) fun k hk => by rw [hlen]; exact hlt k (List.mem_cons_of_mem _ hk)
    refine ⟨hat'.trans hat, hclk'.trans hclk, fun k hk => ?_, fun k hk => ?_⟩
    · rw [List.foldl_cons, hout k fun h => hk (List.mem_cons_of_mem _ h), (hone k).2.2.2.1 fun h => hk (h ▸ List.mem_cons_self)]
    · rw [List.foldl_cons]
      rcases List.mem_cons.mp hk with rfl | hk'
      · rw [hout k hn, hown]
      · rw [hin k hk', (hone k).2.2.2.1 fun h => hn (h ▸ hk')]

theorem trimLearn_shows {s : State} {since : Nat} (hcalm : s.thm.calmSince = some since) (hmay : mayLearn s = true) (hlen : s.thm.sensors.length = 48) :
    let valid := (s.thm.sensors.filter fun x => !x.excl).map (·.val)
    let total : Int := valid.foldl (· + ·) 0
    let count : Int := valid.length
    let t := cmdTrimLearn s
    since + 600000000000 ≤ t.clk.now ∧ s.thm.learnAt + 60000000000 ≤ t.clk.now ∧ t.thm.learnAt = t.clk.now ∧
    ∀ n x, s.thm.sensors[n]? = some x → (t.thm.sensors.getD n {}).trim = learned x total count := by
  intro valid total count t
  obtain ⟨at', hat'⟩ : ∃ a, a = max (since + 600000000000) (s.thm.learnAt + 60000000000) := ⟨_, rfl⟩
  let u := (s.elapseTo at').modThm fun x => { x with learnAt := (s.elapseTo at').clk.now }
  have hu : u.thm.sensors = s.thm.sensors := by simp [u]
  have ht : t = (List.range 48).foldl (fun s n => learnOne s total valid.length n) u := by
    show cmdTrimLearn s = _
    unfold cmdTrimLearn
    simp only [hcalm, hmay, Bool.not_true, Bool.false_eq_true, if_false, ← hat']
    simp [u, total, valid]
  obtain ⟨hat, hclk, -, hin⟩ := learn_fold total valid.length (List.range 48) List.nodup_range u fun n hn => by rw [hu, hlen]; exact List.mem_range.mp hn
  rw [← ht] at hat hclk hin
  have hreach := s.elapseTo_reached at'
  refine ⟨?_, ?_, ?_, fun n x hx => ?_⟩
  · rw [hclk]; exact Nat.le_trans (hat' ▸ Nat.le_max_left _ _) hreach
  · rw [hclk]; exact Nat.le_trans (hat' ▸ Nat.le_max_right _ _) hreach
  · rw [hat, hclk]; rfl
  · have hn : n < 48 := hlen ▸ (List.getElem?_eq_some_iff.mp hx).1
    rw [hin n (List.mem_range.mpr hn), hu, List.getD_eq_getElem?_getD, hx]
    rfl

/-- Settles O42. -/
theorem thermal : Obligations.Thermal := by
  refine ⟨fun s raw mems hdie => ⟨_, rfl, thmSample_shows hdie raw mems⟩, fun s r hr => ⟨_, rfl, ?_⟩,
    fun s hdie => ⟨fun since hcalm hmay hlen => gives_of_live hdie rfl (trimLearn_shows hcalm hmay hlen), fun hdue hopen hatl => gives_of_live hdie rfl ?_⟩⟩
  · unfold cmdTripRecordProgrammed
    rw [hr]
    exact ⟨by simp, shows_put _ O.thmTripSlotsUsed (s.thm.slots.length + 1) (w := 1) rfl rfl⟩
  · unfold cmdTrimSave
    cases hs : s.thm.trimsSavedAt with
    | none => simp [hopen, hatl]
    | some at' => simp [hopen, hatl, hdue at' hs]

end Sys2Proof.Machine
end

section
/-! The loss of an island's clock and its one restart (R494, R495, R498). -/

set_option Elab.async false

namespace Sys2Proof.Machine

/-! ## What keeps the record of an island's clock -/

/-- What an island records of its clock. -/
def clockMark (x : Island) : Bool × Bool × Bool × Nat × Option Nat := (x.lost, x.held, x.restarting, x.lostAt, x.lastRestart)

/-- The clock records of every island. -/
def State.clockMarks (s : State) : List (Bool × Bool × Bool × Nat × Option Nat) := s.isl.map clockMark

theorem State.clockMarks_congr {s t : State} (h : t.isl = s.isl) : t.clockMarks = s.clockMarks := by simp [State.clockMarks, h]

theorem clockMarks_of_fr {c r : Nat} {s t : State} (h : Fr0 c r s t) (hc : c.testBit 9 = false) : t.clockMarks = s.clockMarks :=
  State.clockMarks_congr (h.1 .isl hc).symm

theorem State.clockMarks_modIsl (s : State) (i : Nat) {f : Island → Island} (hf : ∀ x, clockMark (f x) = clockMark x) : (s.modIsl i f).clockMarks = s.clockMarks := by
  unfold State.clockMarks State.modIsl
  refine List.ext_getElem? fun k => ?_
  simp only [List.getElem?_map, List.getElem?_modify]
  split
  · cases s.isl[k]? <;> simp [hf]
  · simp

theorem State.clockMarks_powerIsl (s : State) (i : Nat) : (s.powerIsl i).clockMarks = s.clockMarks :=
  s.clockMarks_modIsl i fun x => by split <;> rfl

theorem State.clockMarks_gateIsl (s : State) (i : Nat) : (s.gateIsl i).clockMarks = s.clockMarks := s.clockMarks_modIsl i fun _ => rfl

theorem State.clockMarks_powerAll (s : State) (l : List Nat) : (s.powerAll l).clockMarks = s.clockMarks := foldl_keeps State.clockMarks State.clockMarks_powerIsl l s

theorem State.clockMarks_regateStream (s : State) : s.regateStream.clockMarks = s.clockMarks := by
  unfold State.regateStream
  split
  · rw [State.clockMarks_gateIsl, State.clockMarks_gateIsl]
  · rw [State.clockMarks_powerIsl, State.clockMarks_powerIsl]

theorem State.clockMarks_regateOld (s : State) : s.regateOld.clockMarks = s.clockMarks := by
  unfold State.regateOld State.regateRse
  split
  · refine foldl_keeps State.clockMarks (fun u n => ?_) _ s
    split
    · exact u.clockMarks_gateIsl _
    · rfl
  · rfl

theorem State.clockMarks_releaseFrame (s : State) (n : Nat) : (s.releaseFrame n).clockMarks = s.clockMarks := by
  unfold State.releaseFrame
  dsimp only
  rw [State.clockMarks_regateOld, clockMarks_of_fr (State.settleRelief_fr (c := 16384) (r := 65024) rfl rfl (fr_refl _)) rfl,
    clockMarks_of_fr (State.dropDirs_fr (c := 8192) (r := 0) rfl rfl (fr_refl _)) rfl, clockMarks_of_fr (State.dropSlots_fr (c := 8192) (r := 0) rfl rfl (fr_refl _)) rfl]
  rfl

theorem State.clockMarks_raise (s : State) (fam cls item code : Nat) (param : List Nat) : (s.raise fam cls item code param).clockMarks = s.clockMarks :=
  clockMarks_of_fr (State.raise_fr (c := 31139577856) (r := 306916927898379527127040) rfl rfl (fr_refl s)) rfl

theorem State.clockMarks_put (s : State) (o : Obj) (v : Int) : (s.put o v).clockMarks = s.clockMarks := State.clockMarks_congr (by simp)

theorem State.clockMarks_refreshFaults (s : State) : s.refreshFaults.clockMarks = s.clockMarks :=
  clockMarks_of_fr (State.refreshFaults_fr (c := 22549643264) (r := 4685472994722233450496) rfl rfl (fr_refl s)) rfl

theorem State.clockMarks_clpNote (s : State) (code : Nat) (param : List Nat) : (s.clpNote code param).clockMarks = s.clockMarks :=
  clockMarks_of_fr (State.clpNote_fr (c := 22548578304) (r := 151115727451828654178304) rfl rfl (fr_refl s)) rfl

theorem clockMarks_startFallback (s : State) : (startFallback s).clockMarks = s.clockMarks := by
  unfold startFallback
  split
  · split <;> rfl
  · dsimp only
    split
    · rw [State.clockMarks_raise, State.clockMarks_put]
    · rw [State.clockMarks_clpNote]
      unfold beginPlay
      rw [State.clockMarks_regateStream]
      exact State.clockMarks_congr (by simp)

theorem clockMarks_stopPlay (s : State) : (stopPlay s).clockMarks = s.clockMarks := by
  unfold stopPlay
  split
  · rfl
  · split
    · unfold endFallback
      rw [State.clockMarks_regateStream, State.clockMarks_clpNote]
      exact State.clockMarks_congr (by simp)
    · unfold endPlay
      extract_lets due u v
      have hv : v.clockMarks = s.clockMarks := (State.clockMarks_regateStream _).trans (State.clockMarks_congr (by simp [u]))
      split
      · rw [clockMarks_startFallback, hv]
      · exact hv

theorem State.clockMarks_headStarting (s : State) (h : Nat) : (s.headStarting h).clockMarks = s.clockMarks := by
  unfold State.headStarting
  rw [clockMarks_of_fr (State.startSlots_fr (c := 524288) (r := 2251799813685248) rfl rfl (fr_refl _)) rfl, State.clockMarks_powerAll]
  exact clockMarks_of_fr (State.setHead_fr (c := 0) (r := 13510798882111488) rfl rfl (fr_refl s)) rfl

theorem State.clockMarks_startSlots (s : State) (h : Nat) : (s.startSlots h).clockMarks = s.clockMarks :=
  clockMarks_of_fr (State.startSlots_fr (c := 524288) (r := 2251799813685248) rfl rfl (fr_refl s)) rfl

theorem State.clockMarks_endHoldup (s : State) : s.endHoldup.clockMarks = s.clockMarks :=
  clockMarks_of_fr (State.endHoldup_fr (c := 22548840448) (r := 5607810198407711162368) rfl rfl (fr_refl s)) rfl

theorem State.clockMarks_phase (s : State) (p : RailPhase) : (s.phase p).clockMarks = s.clockMarks := rfl

theorem State.clockMarks_settle (s : State) (fam cls : Nat) : (s.settle fam cls).clockMarks = s.clockMarks :=
  clockMarks_of_fr (State.settle_fr (c := 31139577856) (r := 4685472994722233450496) rfl rfl (fr_refl s)) rfl

theorem State.clockMarks_panelOn (s : State) : s.panelOn.clockMarks = s.clockMarks := by
  unfold State.panelOn
  have hhead : ∀ (u : State) (h : Nat), (if u.headState h = 0 && u.headEnabled h then u.headStarting h else u.startSlots h).clockMarks = u.clockMarks := by
    intro u h
    split
    · exact u.clockMarks_headStarting h
    · exact u.clockMarks_startSlots h
  rw [State.clockMarks_endHoldup, foldl_keeps State.clockMarks hhead, State.clockMarks_settle, State.clockMarks_phase, State.clockMarks_put]

theorem State.clockMarks_startRail (s : State) (i : Nat) : (s.startRail i).clockMarks = s.clockMarks := by
  unfold State.startRail
  split
  · exact s.clockMarks_panelOn
  · dsimp only
    split <;> rfl

theorem State.clockMarks_panelStart (s : State) : s.panelStart.clockMarks = s.clockMarks := by
  unfold State.panelStart
  split
  · exact s.clockMarks_put _ _
  · rw [State.clockMarks_startRail, State.clockMarks_put]
    exact State.clockMarks_congr (by simp)

theorem State.clockMarks_panelOff (s : State) : s.panelOff.clockMarks = s.clockMarks := by
  unfold State.panelOff
  dsimp only
  split
  · rw [State.clockMarks_panelStart, State.clockMarks_put, State.clockMarks_phase]; rfl
  · rw [State.clockMarks_put, State.clockMarks_phase]; rfl

theorem State.clockMarks_railsWhenHeadsStopped (s : State) : s.railsWhenHeadsStopped.clockMarks = s.clockMarks := by
  unfold State.railsWhenHeadsStopped
  split
  · unfold State.railsOff
    split
    · exact s.clockMarks_panelOff
    · dsimp only
      split <;> rfl
  · rfl

theorem State.clockMarks_panelStop (s : State) : s.panelStop.clockMarks = s.clockMarks := by
  rw [panelStop_eq, State.clockMarks_railsWhenHeadsStopped]
  exact clockMarks_of_fr (panelDown_frame s) rfl

theorem State.clockMarks_losePort (s : State) (p : Nat) : (s.losePort p).clockMarks = s.clockMarks := by
  unfold State.losePort
  split
  · rfl
  · rw [State.clockMarks_regateStream, State.clockMarks_put]
    exact clockMarks_of_fr (State.closePort_fr (c := 17188257792) (r := 36028797018963968) rfl rfl (fr_refl s)) rfl

theorem State.clockMarks_loseClip (s : State) : s.loseClip.clockMarks = s.clockMarks := by
  unfold State.loseClip
  split
  · rfl
  · rw [State.clockMarks_regateStream, State.clockMarks_put, State.clockMarks_put]
    exact (State.clockMarks_congr rfl).trans (clockMarks_stopPlay s)

theorem State.clockMarks_loseUpdates (s : State) : s.loseUpdates.clockMarks = s.clockMarks := by
  unfold State.loseUpdates
  extract_lets all u
  rw [State.clockMarks_regateStream, clockMarks_of_fr (State.settleRelief_fr (c := 16384) (r := 65024) rfl rfl (fr_refl _)) rfl,
    foldl_keeps State.clockMarks fun v x => clockMarks_of_fr (State.discardUpd_fr (c := 12288) (r := 2326392381538846597626749722506035200) rfl rfl (fr_refl v)) rfl]
  rfl

theorem State.clockMarks_loseRse (s : State) (n : Nat) : (s.loseRse n).clockMarks = s.clockMarks := by
  unfold State.loseRse
  extract_lets given u
  have hu : u.clockMarks = s.clockMarks := rfl
  split
  · exact hu
  · split
    · rw [State.clockMarks_releaseFrame]
      show (State.clearRse _).clockMarks = _
      have hclear : ∀ v : State, v.clearRse.clockMarks = v.clockMarks := fun v => clockMarks_of_fr (State.clearRse_fr (c := 1073807360) (r := 0) rfl rfl (fr_refl v)) rfl
      have hbreak : ∀ (v : State) (f : Frame), (v.promiseBroken f 0x1106).clockMarks = v.clockMarks := fun v f => clockMarks_of_fr (State.promiseBroken_fr (c := 22548578304)
        (r := 10384593717069655257060992665780224) rfl rfl (fr_refl v)) rfl
      have hentry : ∀ (v : State) (f : Frame) (n : Nat), (v.presentedEntry f 0x1106 n).clockMarks = v.clockMarks := fun v f n =>
        clockMarks_of_fr (State.presentedEntry_fr (c := 18253611008) (r := 6) rfl rfl (fr_refl v)) rfl
      have hnote : ∀ (v : State) (f : Frame), (v.noteDiscard f).clockMarks = v.clockMarks := fun v f => clockMarks_of_fr (State.noteDiscard_fr (c := 128) (r := 0) rfl rfl (fr_refl v)) rfl
      exact (hclear _).trans ((hbreak _ _).trans ((hentry _ _ _).trans ((hnote _ _).trans ((State.clockMarks_put _ _ _).trans hu))))
    · exact (show (State.clearRse u).clockMarks = _ from clockMarks_of_fr (State.clearRse_fr (c := 1073807360) (r := 0) rfl rfl (fr_refl u)) rfl).trans hu

theorem clockMarks_declareSilence (s : State) : s.declareSilence.clockMarks = s.clockMarks := by
  unfold State.declareSilence
  split
  · rfl
  · extract_lets u v
    rw [clockMarks_startFallback, State.clockMarks_raise, State.clockMarks_put]
    exact State.clockMarks_congr (by simp [v, u])

/-- The response to a lost clock changes which islands are powered, and none of the clock records (R494). -/
theorem State.clockMarks_clockResponse (s : State) (i : Nat) : (s.clockResponse i).clockMarks = s.clockMarks := by
  have hstop : ∀ u : State, u.clockStopsHeads.clockMarks = u.clockMarks := fun u =>
    clockMarks_of_fr (State.clockStopsHeads_fr (c := 22550151424) (r := 2668840585286910845813403451212693510) rfl rfl (fr_refl u)) rfl
  unfold State.clockResponse
  extract_lets u
  have hu : u.clockMarks = s.clockMarks := rfl
  rw [← hu]
  split
  · exact u.clockMarks_loseRse _
  split
  · rw [cmdPcieReset_eq, State.clockMarks_regateStream, clockMarks_declareSilence]
    exact State.clockMarks_congr (by simp [pcieCleared])
  split
  · exact u.clockMarks_loseClip
  split
  · exact u.clockMarks_losePort _
  split
  · exact u.clockMarks_loseUpdates
  split
  · exact clockMarks_of_fr (State.loseOverlay_fr (c := 2113536) (r := 288230376151711744) rfl rfl (fr_refl u)) rfl
  split
  · exact clockMarks_of_fr (State.loseAudio_fr (c := 4194304) (r := 72059793061183488) rfl rfl (fr_refl u)) rfl
  split
  · exact clockMarks_of_fr (watchdogExpires_fr (c := 102484689072) (r := 632626352617984892346950221824) rfl rfl (fr_refl u)) rfl
  split
  · split
    · exact hstop u
    · rw [State.clockMarks_panelStop, hstop]
  · exact hstop u

theorem State.clockMark_island {s t : State} (h : t.clockMarks = s.clockMarks) (i : Nat) : clockMark (t.island i) = clockMark (s.island i) := by
  have hi : (t.isl[i]?).map clockMark = (s.isl[i]?).map clockMark := by
    rw [← List.getElem?_map, ← List.getElem?_map]
    exact congrArg (·[i]?) h
  unfold State.island
  rw [List.getD_eq_getElem?_getD, List.getD_eq_getElem?_getD]
  rw [← Option.getD_map clockMark, ← Option.getD_map clockMark, hi]

/-- An island whose own record was just written, behind steps that keep every record. -/
theorem State.island_of_marks {s t : State} (h : t.clockMarks = s.clockMarks) (i : Nat) :
    (t.island i).lost = (s.island i).lost ∧ (t.island i).held = (s.island i).held ∧ (t.island i).restarting = (s.island i).restarting ∧
    (t.island i).lostAt = (s.island i).lostAt ∧ (t.island i).lastRestart = (s.island i).lastRestart := by
  have hm := State.clockMark_island h i
  unfold clockMark at hm
  simpa only [Prod.mk.injEq] using hm

theorem State.island_modIsl (s : State) {i : Nat} (f : Island → Island) (hi : i < s.isl.length) : (s.modIsl i f).island i = f (s.island i) :=
  getD_modAt_same f {} hi

/-! ## FAULT_N and the last fault code (R498) -/

theorem maskOf_ne_zero {l : List Bool} (h : true ∈ l) : maskOf l ≠ 0 := by
  induction l with
  | nil => cases h
  | cons b l ih =>
    unfold maskOf
    rcases List.mem_cons.mp h with rfl | h
    · simp [b2n]
    · have := ih h; omega

theorem State.faultN_of_held {s : State} {i : Nat} (hi : i < s.isl.length) (hh : (s.island i).held = true) : s.faultN = true := by
  have hm : s.heldMask ≠ 0 := by
    refine maskOf_ne_zero (List.mem_map.mpr ⟨s.isl[i], List.getElem_mem hi, ?_⟩)
    rw [← hh, State.island, List.getD_eq_getElem?_getD, List.getElem?_eq_getElem hi]
    rfl
  simp [State.faultN, hm]

/-- A held island keeps FAULT_N asserted (R494, R498). -/
theorem State.refreshFaults_held {s : State} {i : Nat} (hi : i < s.isl.length) (hh : (s.island i).held = true) : s.refreshFaults.flag O.faultNAsserted = true := by
  unfold State.refreshFaults
  extract_lets u v
  have hu : u.isl = s.isl := by simp only [u, State.put_fields]
  have hisl : v.isl = s.isl := by
    rw [← hu]
    unfold v
    split
    · exact ((State.suspend_fr (c := 22549643264) (r := 2066035336255477121024) rfl rfl (fr_refl u)).1 .isl rfl).symm
    · exact ((State.resume_fr (c := 22548578304) (r := 885443715538065817600) rfl rfl (fr_refl u)).1 .isl rfl).symm
  have hN : v.faultN = true := State.faultN_of_held (i := i) (by rw [hisl]; exact hi) (by rw [State.island, hisl]; exact hh)
  rw [hN]
  exact (State.flag_put_same _ _ _).trans (by decide)

theorem State.suspend_lastCode (s : State) (b : Nat) : (s.suspend b).nat O.faultLastCode = s.nat O.faultLastCode := by
  unfold State.suspend
  split
  · rfl
  · rw [(State.uncover_vals _ _).2.2.1, State.post_nat _ _ _ (by decide), State.nat_bump_ne (by decide), State.nat_put_ne (by decide), State.nat_put_ne (by decide)]

theorem State.resume_lastCode (s : State) (b : Nat) : (s.resume b).nat O.faultLastCode = s.nat O.faultLastCode := by
  unfold State.resume
  split
  · dsimp only
    split
    · rw [State.post_nat _ _ _ (by decide), State.nat_put_ne (by decide), State.nat_put_ne (by decide)]
    · exact State.nat_put_ne (by decide)
  · rfl

theorem State.refreshFaults_lastCode (s : State) : s.refreshFaults.nat O.faultLastCode = s.nat O.faultLastCode := by
  unfold State.refreshFaults
  extract_lets u v
  have hu : u.nat O.faultLastCode = s.nat O.faultLastCode := by
    rw [State.nat_put_ne (by decide), State.nat_put_ne (by decide), State.nat_put_ne (by decide)]
  have hv : v.nat O.faultLastCode = u.nat O.faultLastCode := by
    unfold v
    split
    · exact u.suspend_lastCode 3
    · exact u.resume_lastCode 3
  exact (State.nat_put_ne (by decide)).trans (hv.trans hu)

theorem State.postFault_lastCode (s : State) (code : Nat) (param : List Nat) (hc : code < 65536) : (s.postFault code param).nat O.faultLastCode = code := by
  unfold State.postFault State.postWith
  dsimp only
  rw [if_pos rfl, (State.irq_vals _ _ _).2.2.1]
  exact State.nat_put_fits _ _ _ (w := 2) rfl rfl hc

theorem State.raise_lastCode (s : State) (fam cls item code : Nat) (param : List Nat) (hc : code < 65536) : (s.raise fam cls item code param).nat O.faultLastCode = code := by
  unfold State.raise
  rw [State.refreshFaults_lastCode, State.postFault_lastCode _ _ _ hc]

theorem State.raise_held (s : State) (fam cls item code : Nat) (param : List Nat) {i : Nat} (hi : i < s.isl.length) (hh : (s.island i).held = true) :
    (s.raise fam cls item code param).flag O.faultNAsserted = true := by
  unfold State.raise
  extract_lets old u
  have hisl : ((u.bump (O.faultFamilyCount fam)).postFault code param).isl = s.isl := by
    rw [State.postFault, (State.postWith_fr (p1 := true) (p2 := code) (p3 := param) (c := 22548578304) (r := 7340032) rfl rfl
      (fr_refl (u.bump (O.faultFamilyCount fam)))).1 .isl rfl |>.symm]
    simp [u, State.bump, State.bumpBy]
  exact State.refreshFaults_held (i := i) (by rw [hisl]; exact hi) (by rw [State.island, hisl]; exact hh)

/-! ## The loss (R494) -/

/-- The island whose clock is lost, held and stamped. -/
def clockStopped (s : State) (i : Nat) : State := s.modIsl i fun x => { x with lost := true, held := true, restarting := false, lostAt := s.clk.now }

theorem clockLost_shows {s : State} {i : Nat} (hdie : s.die = .running) (hi : i < s.isl.length) (hl : (s.island i).lost = false) :
    let t := cmdClockLost s i
    (t.island i).lost = true ∧ (t.island i).held = true ∧ (t.island i).lostAt = s.clk.now ∧
      t.flag O.faultNAsserted = true ∧ (i = 29 → t.die = .stopped ∧ t.stop = .aonLost ∧ t.hbm = []) ∧ (i ≠ 29 → t.die = .running ∧ t.nat O.faultLastCode = 0x1106) := by
  have ht : cmdClockLost s i = if i = 29 then (stopDie (clockStopped s i) .aonLost).refreshFaults else ((clockStopped s i).clockResponse i).raise 7 i 0 0x1106 [i] := by
    unfold cmdClockLost
    rw [hl]
    rfl
  have hown : ∀ t : State, t.clockMarks = (clockStopped s i).clockMarks → (t.island i).lost = true ∧ (t.island i).held = true ∧ (t.island i).lostAt = s.clk.now := by
    intro t hm
    obtain ⟨h1, h2, -, h4, -⟩ := State.island_of_marks hm i
    rw [h1, h2, h4, clockStopped, State.island_modIsl _ _ hi]
    exact ⟨rfl, rfl, rfl⟩
  have hlen : ∀ t : State, t.clockMarks = (clockStopped s i).clockMarks → i < t.isl.length := by
    intro t hm
    have hn : t.isl.length = s.isl.length := by
      simpa [State.clockMarks, clockStopped, State.modIsl] using congrArg List.length hm
    omega
  intro t
  have ht' : t = _ := ht
  clear_value t
  by_cases h29 : i = 29
  · rw [if_pos h29] at ht'
    have hstop : (stopDie (clockStopped s i) .aonLost).clockMarks = (clockStopped s i).clockMarks :=
      clockMarks_of_fr (stopDie_fr (c := 86000272646) (r := 18446744073709551616) rfl rfl (fr_refl _)) rfl
    have hm : t.clockMarks = (clockStopped s i).clockMarks := by rw [ht', State.clockMarks_refreshFaults, hstop]
    obtain ⟨h1, h2, h3⟩ := hown t hm
    have hf := State.refreshFaults_fr (c := 22549643264) (r := 4685472994722233450496) rfl rfl (fr_refl (stopDie (clockStopped s i) .aonLost))
    rw [← ht'] at hf
    refine ⟨h1, h2, h3, ?_, fun _ => ⟨(hf.1 .die rfl).symm, (hf.1 .stop rfl).symm, (hf.1 .hbm rfl).symm⟩, fun h => absurd h29 h⟩
    rw [ht']
    exact State.refreshFaults_held (hlen _ hstop) (hown _ hstop).2.1
  · rw [if_neg h29] at ht'
    have hresp := State.clockMarks_clockResponse (clockStopped s i) i
    obtain ⟨h1, h2, h3⟩ := hown t (by rw [ht', State.clockMarks_raise, hresp])
    refine ⟨h1, h2, h3, ?_, fun h => absurd h h29, fun _ => ⟨?_, ?_⟩⟩
    · rw [ht']
      exact State.raise_held _ 7 i 0 0x1106 [i] (hlen _ hresp) (hown _ hresp).2.1
    · have hf := State.raise_fr (p1 := 7) (p2 := i) (p3 := 0) (p4 := 0x1106) (p5 := [i]) (c := 103028716472 ||| 31139577856)
        (r := 5311963708133112102857205854941150726 ||| 306916927898379527127040) rfl rfl
        (State.clockResponse_fr (p1 := i) rfl rfl (fr_refl (clockStopped s i)))
      rw [← ht'] at hf
      exact (hf.1 .die rfl).symm.trans hdie
    · rw [ht']
      exact State.raise_lastCode _ _ _ _ _ _ (by decide)

/-! ## The restart (R495) -/

theorem powerSeconds_elapse {s : State} {t : Nat} (h : t ≤ s.clk.now + 1000000) : (s.elapseTo t).powerSeconds ≤ s.powerSeconds + 1 := by
  have hnow : (s.elapseTo t).clk.now ≤ s.clk.now + 1000000 := by
    unfold State.elapseTo
    split
    · split
      · exact h
      · show s.clk.now + (t - s.clk.now) ≤ _; omega
    · omega
  have hthm : (s.elapseTo t).thm = s.thm := by simp
  unfold State.powerSeconds
  rw [hthm]
  omega

theorem State.elapseTo_isl (s : State) (t : Nat) : (s.elapseTo t).isl = s.isl := by simp

theorem State.elapseTo_island (s : State) (t i : Nat) : (s.elapseTo t).island i = s.island i := by
  unfold State.island
  rw [s.elapseTo_isl]

/-- The attempt itself, at its instant: the island is released into its trial, or gated where one was made within the hour. -/
def restartTried (u : State) (i : Nat) (last : Option Nat) : State :=
  if last.any (u.powerSeconds < · + 3600) then u.gateIsl i
  else u.modIsl i fun x => { x with restarting := true, lastRestart := some u.powerSeconds, lostAt := u.clk.now }

theorem cmdClockRestartAttempt_eq {s : State} {i : Nat} (hheld : (s.island i).held = true) (hlost : (s.island i).lost = true)
    (hre : (s.island i).restarting = false) (hmay : State.restartable i = true) :
    cmdClockRestartAttempt s i = restartTried (s.elapseTo ((s.island i).lostAt + 1000000)) i (s.island i).lastRestart := by
  unfold cmdClockRestartAttempt restartTried
  exact if_neg (by rw [hheld, hlost, hre, hmay]; decide)

theorem restartTried_first {u : State} {i : Nat} (hi : i < u.isl.length) :
    let t := restartTried u i none
    (t.island i).restarting = true ∧ (t.island i).lastRestart = some t.powerSeconds ∧ t.clk = u.clk ∧ (t.island i).lostAt = t.clk.now := by
  intro t
  have hown : t.island i = { u.island i with restarting := true, lastRestart := some u.powerSeconds, lostAt := u.clk.now } := State.island_modIsl _ _ hi
  rw [hown]
  exact ⟨rfl, rfl, rfl, rfl⟩

theorem restartTried_again {u : State} {i sec : Nat} (hi : i < u.isl.length) (hre : (u.island i).restarting = false) (hsec : u.powerSeconds < sec + 3600) :
    ((restartTried u i (some sec)).island i).restarting = false ∧ ((restartTried u i (some sec)).island i).pow = .gated := by
  have ht : restartTried u i (some sec) = u.gateIsl i := if_pos (by simpa using hsec)
  rw [ht, State.gateIsl, State.island_modIsl _ _ hi]
  exact ⟨hre, rfl⟩

theorem clockRestartAttempt_tries {s : State} {i : Nat} (hi : i < s.isl.length) (hheld : (s.island i).held = true) (hlost : (s.island i).lost = true)
    (hre : (s.island i).restarting = false) (hmay : State.restartable i = true) (hlast : (s.island i).lastRestart = none) :
    let t := cmdClockRestartAttempt s i
    (t.island i).restarting = true ∧ (t.island i).lastRestart = some t.powerSeconds ∧ (s.island i).lostAt + 1000000 ≤ t.clk.now ∧ (t.island i).lostAt = t.clk.now := by
  rw [cmdClockRestartAttempt_eq hheld hlost hre hmay, hlast]
  obtain ⟨h1, h2, h3, h4⟩ := restartTried_first (u := s.elapseTo ((s.island i).lostAt + 1000000)) (i := i) (by rwa [State.elapseTo_isl])
  exact ⟨h1, h2, (s.elapseTo_reached _).trans_eq (congrArg Clock.now h3).symm, h4⟩

theorem clockRestartAttempt_gates {s : State} {i sec : Nat} (hi : i < s.isl.length) (hheld : (s.island i).held = true) (hlost : (s.island i).lost = true)
    (hre : (s.island i).restarting = false) (hmay : State.restartable i = true) (hlast : (s.island i).lastRestart = some sec) (hsec : s.powerSeconds + 1 < sec + 3600)
    (hat : (s.island i).lostAt ≤ s.clk.now) :
    ((cmdClockRestartAttempt s i).island i).restarting = false ∧ ((cmdClockRestartAttempt s i).island i).pow = .gated := by
  rw [cmdClockRestartAttempt_eq hheld hlost hre hmay, hlast]
  have hps := Nat.lt_of_le_of_lt (powerSeconds_elapse (Nat.add_le_add_right hat 1000000)) hsec
  exact restartTried_again (by rwa [State.elapseTo_isl]) (by rwa [State.elapseTo_island]) hps

/-- Clock records, the log and the clock, seen together. -/
def clockView (s : State) : List (Bool × Bool × Bool × Nat × Option Nat) × Log × Clock := (s.clockMarks, s.log, s.clk)

theorem clockView_of_fr {c r : Nat} {s t : State} (h : Fr0 c r s t) (hl : c.testBit 32 = false) (hc : c.testBit 3 = false) (hm : t.clockMarks = s.clockMarks) :
    clockView t = clockView s := by
  unfold clockView
  rw [hm, show s.log = t.log from h.1 .log hl, show s.clk = t.clk from h.1 .clk hc]

theorem clockView_put (s : State) (o : Obj) (v : Int) : clockView (s.put o v) = clockView s := by
  unfold clockView
  rw [s.clockMarks_put]
  simp

theorem clockView_powerIsl (s : State) (i : Nat) : clockView (s.powerIsl i) = clockView s :=
  clockView_of_fr (State.powerIsl_fr (c := 512) (r := 0) rfl rfl (fr_refl s)) rfl rfl (s.clockMarks_powerIsl i)

theorem clockView_regateStream (s : State) : clockView s.regateStream = clockView s :=
  clockView_of_fr (State.regateStream_fr (c := 512) (r := 0) rfl rfl (fr_refl s)) rfl rfl s.clockMarks_regateStream

/-- What an island serves starts without a word in the log, and no island's clock record changes. -/
theorem clockView_fnStarting {i : Nat} {f : Fn} (hf : f ∈ State.islandFns i) (s : State) : clockView (s.fnStarting f) = clockView s := by
  have hport : ∀ p, clockView (s.fnStarting (.port p)) = clockView s := fun p =>
    (clockView_regateStream _).trans ((foldl_keeps clockView clockView_powerIsl _ _).trans ((clockView_put _ _ _).trans (clockView_put _ _ _)))
  have haud : ∀ p, clockView (s.fnStarting (.aud p)) = clockView s := fun p => (clockView_powerIsl _ _).trans (clockView_put _ _ _)
  have hclip : clockView (s.fnStarting .clip) = clockView s := (clockView_powerIsl _ _).trans (clockView_put _ _ _)
  have hoverlay : clockView (s.fnStarting .overlay) = clockView s := by
    have h := State.overlayStarting_fr (c := 2113536) (r := 0) rfl rfl (fr_refl (s.put O.overlayState 1))
    exact (clockView_powerIsl _ _).trans ((clockView_of_fr h rfl rfl (clockMarks_of_fr h rfl)).trans (clockView_put _ _ _))
  unfold State.islandFns at hf
  split at hf
  · rw [List.mem_singleton.mp hf]; exact hclip
  split at hf
  · rw [List.mem_singleton.mp hf]; exact hport 0
  split at hf
  · rw [List.mem_singleton.mp hf]; exact hport 1
  split at hf
  · rw [List.mem_singleton.mp hf]; exact hport 2
  split at hf
  · rw [List.mem_singleton.mp hf]; exact hoverlay
  split at hf
  · obtain ⟨p, -, rfl⟩ := List.mem_map.mp hf
    exact haud p
  · cases hf

theorem foldl_keeps_mem {α β γ : Type} (P : α → γ) {g : α → β → α} {l : List β} (hg : ∀ a, ∀ b ∈ l, P (g a b) = P a) (a : α) : P (l.foldl g a) = P a := by
  induction l generalizing a with
  | nil => rfl
  | cons b l ih => rw [List.foldl_cons, ih fun a c hc => hg a c (List.mem_cons_of_mem _ hc), hg a b List.mem_cons_self]

theorem clockView_clockBack (s : State) (i : Nat) : clockView (s.clockBack i) = clockView s := by
  unfold State.clockBack
  split
  · refine foldl_keeps clockView (fun u h => ?_) _ s
    split
    · exact clockView_of_fr (State.headStarting_fr (c := 524800) (r := 15762598695796736) rfl rfl (fr_refl u)) rfl rfl (u.clockMarks_headStarting h)
    · rfl
  · extract_lets v
    have hv : clockView v = clockView s := by
      refine foldl_keeps_mem clockView (fun u f hf => ?_) s
      split
      · exact clockView_fnStarting hf u
      · rfl
    split
    · exact (clockView_regateStream v).trans hv
    · exact hv

/-- An island whose clock is back, reported, before its functions start. -/
def clockReleased (s : State) (i : Nat) : State :=
  (((s.modIsl i fun x => { x with lost := false, held := false, restarting := false }).pwrNote 0x1107 [i]).settle 7 i).refreshFaults

theorem clockReleased_shows {s : State} {i : Nat} (hi : i < s.isl.length) :
    ((clockReleased s i).island i).lost = false ∧ ((clockReleased s i).island i).held = false ∧ (clockReleased s i).clk = s.clk ∧
    logged s (clockReleased s i) (0x1107, [i]) := by
  let v := s.modIsl i fun x => { x with lost := false, held := false, restarting := false }
  have hnote := State.pwrNote_fr (p1 := 0x1107) (p2 := [i]) (c := 22548578304) (r := 7471104) rfl rfl (fr_refl v)
  have hf : Fr0 (31139577856 ||| 22549643264) (4685472994722233450496 ||| 7471104) v (clockReleased s i) :=
    State.refreshFaults_fr rfl rfl (State.settle_fr rfl rfl (State.pwrNote_fr rfl rfl (fr_refl v)))
  obtain ⟨h1, h2, -⟩ := State.island_of_marks (clockMarks_of_fr hf rfl) i
  have hown : v.island i = { s.island i with lost := false, held := false, restarting := false } := s.island_modIsl _ hi
  refine ⟨by rw [h1, hown], by rw [h2, hown], (hf.1 .clk rfl).symm, ?_⟩
  exact logged_of_post (u := v.put O.pwrLastStatus 0x1107) false 0x1107 [i] (by simp [v])
    ((logGrows_settleIf _ 7 fun f => f.cls == i).trans (logGrows_refreshFaults _))

theorem clockRestart_released {s : State} {i : Nat} (hi : i < s.isl.length) (hre : (s.island i).restarting = true) :
    let t := cmdClockRestartCheck s i true
    (t.island i).lost = false ∧ (t.island i).held = false ∧ (s.island i).lostAt + 10000000 ≤ t.clk.now ∧ logged s t (0x1107, [i]) := by
  have ht : cmdClockRestartCheck s i true = (clockReleased (s.elapseTo ((s.island i).lostAt + 10000000)) i).clockBack i := by
    simp [cmdClockRestartCheck, hre, clockReleased]
  have hreach := s.elapseTo_reached ((s.island i).lostAt + 10000000)
  have hlen : i < (s.elapseTo ((s.island i).lostAt + 10000000)).isl.length := by simpa using hi
  have hslog : s.log = (s.elapseTo ((s.island i).lostAt + 10000000)).log := by simp
  generalize s.elapseTo ((s.island i).lostAt + 10000000) = u at ht hreach hlen hslog
  intro t
  have ht' : t = _ := ht
  clear_value t
  have hview := clockView_clockBack (clockReleased u i) i
  rw [← ht'] at hview
  obtain ⟨hmarks, hrest⟩ := Prod.mk.inj hview
  obtain ⟨hlog, hclk⟩ := Prod.mk.inj hrest
  obtain ⟨h1, h2, -⟩ := State.island_of_marks hmarks i
  obtain ⟨hlost, hheld, hnow, hlogged⟩ := clockReleased_shows hlen
  exact ⟨h1.trans hlost, h2.trans hheld, by rw [hclk, hnow]; exact hreach, logged_congr hslog hlog hlogged⟩

theorem State.refreshFaults_isl (u : State) : u.refreshFaults.isl = u.isl ∧ u.refreshFaults.clk = u.clk :=
  have hf := State.refreshFaults_fr (c := 22549643264) (r := 4685472994722233450496) rfl rfl (fr_refl u)
  ⟨(hf.1 .isl rfl).symm, (hf.1 .clk rfl).symm⟩

theorem cmdClockRestartCheck_failed {s : State} {i : Nat} (hre : (s.island i).restarting = true) :
    cmdClockRestartCheck s i false =
      ((s.elapseTo ((s.island i).lostAt + 10000000)).modIsl i fun x => { x with restarting := false, pow := .gated }).refreshFaults := by
  unfold cmdClockRestartCheck
  simp only [hre, Bool.not_true, Bool.false_eq_true, if_false]

/-- An island whose restart failed: gated, its hold as before. -/
def clockGated (s : State) (i : Nat) : State := (s.modIsl i fun x => { x with restarting := false, pow := .gated }).refreshFaults

theorem clockGated_shows {s : State} {i : Nat} (hi : i < s.isl.length) :
    ((clockGated s i).island i).restarting = false ∧ ((clockGated s i).island i).held = (s.island i).held ∧ ((clockGated s i).island i).pow = .gated ∧
    (clockGated s i).clk = s.clk := by
  obtain ⟨h1, h2⟩ := State.refreshFaults_isl (s.modIsl i fun x => { x with restarting := false, pow := .gated })
  have hown : (clockGated s i).island i = { s.island i with restarting := false, pow := .gated } := by
    rw [clockGated, State.island, h1]
    exact s.island_modIsl _ hi
  rw [hown]
  exact ⟨rfl, rfl, rfl, h2⟩

theorem clockRestart_gated {s : State} {i : Nat} (hi : i < s.isl.length) (hre : (s.island i).restarting = true) :
    let t := cmdClockRestartCheck s i false
    (t.island i).restarting = false ∧ (t.island i).held = (s.island i).held ∧ (t.island i).pow = .gated ∧ (s.island i).lostAt + 10000000 ≤ t.clk.now := by
  have hisl : ∀ n, (s.elapseTo n).isl = s.isl := by simp
  have hheld : ∀ n, ((s.elapseTo n).island i).held = (s.island i).held := fun n => by rw [State.island, hisl, State.island]
  obtain ⟨h1, h2, h3, h4⟩ := clockGated_shows (s := s.elapseTo ((s.island i).lostAt + 10000000)) (i := i) (by rw [hisl]; exact hi)
  intro t
  have ht : t = clockGated (s.elapseTo ((s.island i).lostAt + 10000000)) i := cmdClockRestartCheck_failed hre
  rw [ht]
  refine ⟨h1, h2.trans (hheld _), h3, ?_⟩
  rw [h4]
  exact s.elapseTo_reached _

/-- Settles O43. -/
theorem clockLoss : Obligations.ClockLoss := by
  intro s i hdie hlen
  have hi : i.val < s.isl.length := by rw [hlen]; exact i.isLt
  refine ⟨fun hl => gives_of_live hdie rfl (clockLost_shows hdie hi hl), fun hheld hlost hre hmay => ⟨fun hlast => gives_of_live hdie rfl ?_, fun sec hlast hsec hat => ?_⟩,
    fun hre => ⟨gives_of_live hdie rfl (clockRestart_released hi hre), gives_of_live hdie rfl (clockRestart_gated hi hre)⟩⟩
  · exact clockRestartAttempt_tries hi hheld hlost hre hmay hlast
  · exact gives_of_live hdie rfl (clockRestartAttempt_gates hi hheld hlost hre hmay hlast hsec hat)

end Sys2Proof.Machine
end

section
/-! The commit of Plinth limits (R462 to R466). -/

set_option Elab.async false

namespace Sys2Proof.Machine

/-! ## What a note and the end of a stage leave -/

theorem State.val_putO_ne {s : State} {o q : Obj} {bs : Bytes} (h : q.key ≠ o.key) : (s.putO o bs).val q = s.val q := State.val_putV_ne h

theorem State.plnNote_val (s : State) (code : Nat) (param : List Nat) {q : Obj} (hq : q.key ≠ O.plinthLastResult.key) (hl : touched 7340032 q.key = false) :
    (s.plnNote code param).val q = s.val q :=
  (val_of_fr (State.post_fr (c := 22548578304) (r := 7340032) rfl rfl (fr_refl (s.put O.plinthLastResult code))) rfl rfl (by decide) hl).trans (State.val_put_ne hq)

theorem State.plnNote_nat (s : State) (code : Nat) (param : List Nat) {q : Obj} (hq : q.key ≠ O.plinthLastResult.key) (hl : q.key ≠ O.logLostCount.key) :
    (s.plnNote code param).nat q = s.nat q := (State.post_nat _ _ _ hl).trans (State.nat_put_ne hq)

theorem State.plnNote_result (s : State) {code : Nat} (param : List Nat) (hc : code < 65536) : (s.plnNote code param).nat O.plinthLastResult = code :=
  (State.post_nat _ _ _ (by decide)).trans (State.nat_put_fits s O.plinthLastResult code (w := 2) rfl rfl hc)

theorem State.plnNote_logs {s u : State} (code : Nat) (param : List Nat) (hu : u.log = s.log) : logs s (u.plnNote code param) [(code, param)] :=
  logs_congr (s := u) (t := u.plnNote code param) hu.symm rfl (logs_note u O.plinthLastResult code param)

theorem State.plnNote_pln (s : State) (code : Nat) (param : List Nat) : (s.plnNote code param).pln = s.pln :=
  ((State.plnNote_fr (c := 22548578304) (r := 633825300114114700748358942720) rfl rfl (fr_refl s)).1 .pln rfl).symm

theorem State.unstage_val (s : State) {q : Obj} (hstate : q.key ≠ O.plinthState.key) (hset : q.key ≠ O.plinthStagedSet.key) : s.unstage.val q = s.val q := by
  unfold State.unstage
  rw [(State.modPln_vals _ _ _).1]
  exact (State.val_putV_ne hset).trans (State.val_put_ne hstate)

theorem State.unstage_shows (s : State) : s.unstage.nat O.plinthState = 0 ∧ s.unstage.oct O.plinthStagedSet = [] ∧
    s.unstage.pln = { s.pln with stage := none, confirming := none, fellAt := none, siteSig := [], byConsent := false } ∧ s.unstage.log = s.log := by
  unfold State.unstage
  refine ⟨?_, ?_, by simp [State.modPln], by simp⟩
  · rw [(State.modPln_vals _ _ _).2.2.1, State.nat_putO_ne (by decide)]
    exact State.nat_put_fits s O.plinthState 0 (w := 1) rfl rfl (by decide)
  · rw [(State.modPln_vals _ _ _).2.2.2.2, State.oct_putO_same]

/-! ## The limits of a set (R464) -/

theorem plinthPeakDrive_keys : ∀ k < 32, (∀ j < 32, j ≠ k → (O.plinthPeakDrive j).key ≠ (O.plinthPeakDrive k).key) ∧ touched 7340032 (O.plinthPeakDrive k).key = false ∧
    ∀ q ∈ [O.plinthMeanDrive, O.plinthTripPoint, O.plinthCommitSeq, O.railOrder, O.plinthState, O.plinthStagedSet, O.plinthLastResult], q.key ≠ (O.plinthPeakDrive k).key := by
  decide +kernel

/-- The 32 peak limits of a set. -/
def putPeaks (s : State) (v : Bytes) (l : List Nat) : State := l.foldl (fun s k => s.put (O.plinthPeakDrive k) (fieldN v (0x34 + 2 * k) 2)) s

theorem putPeaks_val {q : Obj} (v : Bytes) {l : List Nat} (hq : ∀ k ∈ l, q.key ≠ (O.plinthPeakDrive k).key) (s : State) : (putPeaks s v l).val q = s.val q :=
  foldl_keeps_mem (fun u : State => u.val q) (fun _ k hk => State.val_put_ne (hq k hk)) s

theorem putPeaks_shows (v : Bytes) {l : List Nat} (hl : l.Nodup) (hlt : ∀ k ∈ l, k < 32) (s : State) {k : Nat} (hk : k ∈ l) :
    shows (putPeaks s v l) (O.plinthPeakDrive k) (fieldN v (0x34 + 2 * k) 2) := by
  induction l generalizing s with
  | nil => cases hk
  | cons j l ih =>
    obtain ⟨hj, hnd⟩ := List.nodup_cons.mp hl
    rcases List.mem_cons.mp hk with rfl | hk'
    · have hrest : (putPeaks (s.put (O.plinthPeakDrive k) (fieldN v (0x34 + 2 * k) 2)) v l).val (O.plinthPeakDrive k) = _ :=
        putPeaks_val v (fun i hi => (plinthPeakDrive_keys i (hlt i (List.mem_cons_of_mem _ hi))).1 k (hlt k hk) fun e => hj (e ▸ hi)) _
      exact shows_congr (t := s.put (O.plinthPeakDrive k) (fieldN v (0x34 + 2 * k) 2)) (congrArg (fun x : Val => x.toInt.toNat) hrest)
        (shows_put s (O.plinthPeakDrive k) _ (w := 2) rfl rfl)
    · exact ih hnd (fun i hi => hlt i (List.mem_cons_of_mem _ hi)) _ hk'

/-- The limits that a set names stand in their objects, and its slot is the active one. -/
structure LimitsShown (t : State) (v : Bytes) : Prop where
  mean : shows t O.plinthMeanDrive (fieldN v 0x1C 2)
  trip : t.int O.plinthTripPoint = O.plinthTripPoint.ty.fit (fieldI v 0x20 2)
  seq : shows t O.plinthCommitSeq (lsSeq v)
  peaks : ∀ k, k < 32 → shows t (O.plinthPeakDrive k) (fieldN v (0x34 + 2 * k) 2)
  rails : t.oct O.railOrder = cut v 0x2C 6
  slot : t.pln.activeSlot = some (lsSlot v)

theorem State.applyLimits_shows (s : State) (v : Bytes) : LimitsShown (s.applyLimits v) v := by
  unfold State.applyLimits
  extract_lets a b c d
  have hd : ∀ {q : Obj}, q ∈ [O.plinthMeanDrive, O.plinthTripPoint, O.plinthCommitSeq, O.railOrder, O.plinthState, O.plinthStagedSet, O.plinthLastResult] →
      (d.modPln fun p => { p with activeSlot := some (lsSlot v) }).val q = c.val q := fun hq =>
    ((State.modPln_vals _ _ _).1).trans (putPeaks_val v (fun k hk => (plinthPeakDrive_keys k (List.mem_range.mp hk)).2.2 _ hq) c)
  have hnat : ∀ {t u : State} {q : Obj}, t.val q = u.val q → t.nat q = u.nat q := fun h => congrArg (fun x : Val => x.toInt.toNat) h
  refine ⟨shows_congr (t := s.put O.plinthMeanDrive (fieldN v 0x1C 2)) (hnat ((hd (by decide)).trans ?_)) (shows_put s _ _ (w := 2) rfl rfl), ?_,
    shows_congr (hnat (hd (by decide))) (shows_put _ O.plinthCommitSeq _ (w := 4) rfl rfl), fun k hk => ?_, ?_, rfl⟩
  · unfold c b a
    rw [State.val_put_ne (by decide), State.val_putO_ne (by decide), State.val_put_ne (by decide), State.val_put_ne (by decide), State.val_put_ne (by decide),
      State.val_put_ne (by decide), State.val_put_ne (by decide)]
  · have h1 : (d.modPln fun p => { p with activeSlot := some (lsSlot v) }).val O.plinthTripPoint = a.val O.plinthTripPoint := (hd (by decide)).trans (by
      unfold c b
      rw [State.val_put_ne (by decide), State.val_putO_ne (by decide), State.val_put_ne (by decide), State.val_put_ne (by decide), State.val_put_ne (by decide)])
    exact (congrArg Val.toInt h1).trans (State.int_put_same _ _ _)
  · exact shows_congr (hnat ((State.modPln_vals _ _ _).1)) (putPeaks_shows v List.nodup_range (fun k hk => List.mem_range.mp hk) c (List.mem_range.mpr hk))
  · have h1 : (d.modPln fun p => { p with activeSlot := some (lsSlot v) }).val O.railOrder = (b.putO O.railOrder (cut v 0x2C 6)).val O.railOrder :=
      (hd (by decide)).trans (State.val_put_ne (by decide))
    exact (congrArg Val.toBytes h1).trans (State.oct_putO_same _ _ _)

theorem State.applyLimits_pln (s : State) (v : Bytes) : (s.applyLimits v).pln = { s.pln with activeSlot := some (lsSlot v) } ∧ (s.applyLimits v).log = s.log := by
  refine ⟨?_, ((State.applyLimits_fr (c := 268435456) (r := 1458647141945490998441568260777384029383167049728) rfl rfl (fr_refl s)).1 .log rfl).symm⟩
  unfold State.applyLimits
  extract_lets a b c d
  have hd : d.pln = s.pln := by
    refine (foldl_keeps State.pln (fun u k => by simp) _ c).trans ?_
    simp [c, b, a]
  show { d.pln with activeSlot := some (lsSlot v) } = _
  rw [hd]

/-! ## A confirmed commit (R463, R464) -/

/-- A set takes effect: its limits and record stand, nothing is staged, and the commit is logged. -/
def limitsInForce (s : State) (g : Stage) : State :=
  ((s.modPln fun p => { p with
    siteKeys := if g.key.isEmpty then p.siteKeys else setAt p.siteKeys (lsSlot g.set) g.key
    toWrite := some (g.set ++ g.sig ++ (if s.pln.byConsent then zeros 96 else s.pln.siteSig)) }).applyLimits g.set).unstage.plnNote 0x1301 [lsSeq g.set, b2n s.pln.byConsent]

theorem limitsInForce_shows (s : State) (g : Stage) :
    (limitsInForce s g).nat O.plinthState = 0 ∧ LimitsShown (limitsInForce s g) g.set ∧ (limitsInForce s g).pln.toWrite.isSome = true ∧
    logs s (limitsInForce s g) [(0x1301, [lsSeq g.set, b2n s.pln.byConsent])] := by
  unfold limitsInForce
  generalize hu : s.modPln _ = u
  have hulog : u.log = s.log := by rw [← hu]; rfl
  have huw : u.pln.toWrite.isSome = true := by rw [← hu]; rfl
  obtain ⟨hstate, -, hpln, hlog⟩ := (u.applyLimits g.set).unstage_shows
  obtain ⟨hpln', hlog'⟩ := u.applyLimits_pln g.set
  obtain ⟨hmean, htrip, hseq, hpeaks, hrails, hslot⟩ := u.applyLimits_shows g.set
  have hval : ∀ {q : Obj}, q.key ≠ O.plinthLastResult.key → q.key ≠ O.plinthState.key → q.key ≠ O.plinthStagedSet.key → touched 7340032 q.key = false →
      ((u.applyLimits g.set).unstage.plnNote 0x1301 [lsSeq g.set, b2n s.pln.byConsent]).val q = (u.applyLimits g.set).val q := fun h1 h2 h3 h4 =>
    (State.plnNote_val _ _ _ h1 h4).trans (State.unstage_val _ h2 h3)
  have hnat : ∀ {t u : State} {q : Obj}, t.val q = u.val q → t.nat q = u.nat q := fun h => congrArg (fun x : Val => x.toInt.toNat) h
  refine ⟨(State.plnNote_nat _ _ _ (by decide) (by decide)).trans hstate, ⟨?_, ?_, ?_, fun k hk => ?_, ?_, ?_⟩, ?_, State.plnNote_logs _ _ (hlog.trans (hlog'.trans hulog))⟩
  · exact shows_congr (hnat (hval (by decide) (by decide) (by decide) (by decide +kernel))) hmean
  · exact (congrArg Val.toInt (hval (by decide) (by decide) (by decide) (by decide +kernel))).trans htrip
  · exact shows_congr (hnat (hval (by decide) (by decide) (by decide) (by decide +kernel))) hseq
  · obtain ⟨-, htouch, hne⟩ := plinthPeakDrive_keys k hk
    exact shows_congr (hnat (hval (hne _ (by decide)).symm (hne _ (by decide)).symm (hne _ (by decide)).symm htouch)) (hpeaks k hk)
  · exact (congrArg Val.toBytes (hval (by decide) (by decide) (by decide) (by decide +kernel))).trans hrails
  · rw [State.plnNote_pln, hpln]; exact hslot
  · rw [State.plnNote_pln, hpln, hpln']; exact huw

/-- A set whose frame period is shorter than Tf allows (R464). -/
def tooShort (s : State) (v : Bytes) : Prop := s.nat O.tfNum * fieldN v 0x28 4 < fieldN v 0x24 4 * s.nat O.tfDen

theorem applyCommit_short {s : State} {g : Stage} (hstate : s.nat O.plinthState = 2) (hg : s.pln.stage = some g) (h : tooShort s g.set) :
    s.applyCommit = s.unstage.plnNote 0x130A := by
  unfold State.applyCommit
  have h' : s.castTf.1 * fieldN g.set 0x28 4 < fieldN g.set 0x24 4 * s.castTf.2 := h
  simp [hstate, hg, h']

theorem applyCommit_inForce {s : State} {g : Stage} (hstate : s.nat O.plinthState = 2) (hg : s.pln.stage = some g) (h : ¬ tooShort s g.set) (hoff : s.nat O.panelPowerState = 0) :
    s.applyCommit = limitsInForce s g := by
  unfold State.applyCommit
  have h' : ¬ s.castTf.1 * fieldN g.set 0x28 4 < fieldN g.set 0x24 4 * s.castTf.2 := h
  simp [hstate, hg, h', hoff, limitsInForce]

/-- A head is STARTING or ON. -/
def headBusy (s : State) : Prop := s.headState 0 = 1 ∨ s.headState 0 = 2 ∨ s.headState 1 = 1 ∨ s.headState 1 = 2

/-- The commit is confirmed, its effect still to come. -/
def confirmedStage (s : State) (consent : Bool) (sig : Bytes) : State := (s.put O.plinthState 2).modPln fun p => { p with byConsent := consent, siteSig := sig }

theorem confirmedStage_nat (s : State) (consent : Bool) (sig : Bytes) {q : Obj} (hq : q.key ≠ O.plinthState.key) : (confirmedStage s consent sig).nat q = s.nat q :=
  (State.modPln_vals _ _ _).2.2.1.trans (State.nat_put_ne hq)

theorem confirmedStage_state (s : State) (consent : Bool) (sig : Bytes) : (confirmedStage s consent sig).nat O.plinthState = 2 :=
  (State.modPln_vals _ _ _).2.2.1.trans (State.nat_put_fits s O.plinthState 2 (w := 1) rfl rfl (by decide))

theorem confirmedStage_head (s : State) (consent : Bool) (sig : Bytes) (h : Nat) : (confirmedStage s consent sig).headState h = s.headState h := by
  unfold State.headState
  split
  · exact confirmedStage_nat s consent sig (by decide)
  · exact confirmedStage_nat s consent sig (by decide)

theorem confirmed_eq (s : State) (consent : Bool) (sig : Bytes) :
    (headBusy s → s.confirmed consent sig = confirmedStage s consent sig) ∧ (¬ headBusy s → s.confirmed consent sig = (confirmedStage s consent sig).applyCommit) := by
  have hany : ((List.range 2).any fun h => (confirmedStage s consent sig).headState h == 1 || (confirmedStage s consent sig).headState h == 2) = true ↔ headBusy s := by
    simp only [confirmedStage_head]
    simp [headBusy, List.range, List.range.loop, or_assoc]
  unfold State.confirmed
  exact ⟨fun h => if_pos (hany.mpr h), fun h => if_neg fun h' => h (hany.mp h')⟩

/-- What a confirmed commit of the set `g`, by consent or by signature, leaves. -/
structure CommitAgrees (s t : State) (g : Stage) (means : Nat) : Prop where
  waits : headBusy s → t.nat O.plinthState = 2 ∧ t.nat O.plinthCommitSeq = s.nat O.plinthCommitSeq
  applies : ¬ headBusy s → ¬ tooShort s g.set → s.nat O.panelPowerState = 0 →
    t.nat O.plinthState = 0 ∧ LimitsShown t g.set ∧ t.pln.toWrite.isSome = true ∧ logs s t [(0x1301, [lsSeq g.set, means])]
  conflicts : ¬ headBusy s → tooShort s g.set →
    t.nat O.plinthState = 0 ∧ t.nat O.plinthLastResult = 0x130A ∧ t.nat O.plinthCommitSeq = s.nat O.plinthCommitSeq ∧ logs s t [(0x130A, [])]

theorem confirmed_agrees {s : State} {g : Stage} (hg : s.pln.stage = some g) (consent : Bool) (sig : Bytes) :
    CommitAgrees s (s.confirmed consent sig) g (b2n consent) := by
  obtain ⟨hbusy, hfree⟩ := confirmed_eq s consent sig
  have hstate := confirmedStage_state s consent sig
  have hseq := confirmedStage_nat s consent sig (q := O.plinthCommitSeq) (by decide)
  have hshort : tooShort (confirmedStage s consent sig) g.set ↔ tooShort s g.set := by
    unfold tooShort
    rw [confirmedStage_nat _ _ _ (by decide), confirmedStage_nat _ _ _ (by decide)]
  have hlog : (confirmedStage s consent sig).log = s.log := by simp [confirmedStage, State.modPln]
  have hg' : (confirmedStage s consent sig).pln.stage = some g := by simpa [confirmedStage, State.modPln] using hg
  refine ⟨fun h => ?_, fun h hns hoff => ?_, fun h hs => ?_⟩
  · rw [hbusy h]; exact ⟨hstate, hseq⟩
  · rw [hfree h, applyCommit_inForce hstate hg' (fun h' => hns (hshort.mp h')) ((confirmedStage_nat _ _ _ (by decide)).trans hoff)]
    obtain ⟨h1, h2, h3, h4⟩ := limitsInForce_shows (confirmedStage s consent sig) g
    exact ⟨h1, h2, h3, logs_congr hlog.symm rfl h4⟩
  · rw [hfree h, applyCommit_short hstate hg' (hshort.mpr hs)]
    obtain ⟨h1, -, -, h4⟩ := (confirmedStage s consent sig).unstage_shows
    refine ⟨(State.plnNote_nat _ _ _ (by decide) (by decide)).trans h1, State.plnNote_result _ _ (by decide), ?_, State.plnNote_logs _ _ (h4.trans hlog)⟩
    rw [State.plnNote_nat _ _ _ (by decide) (by decide), ← hseq]
    exact congrArg (fun x : Val => x.toInt.toNat) (State.unstage_val _ (by decide) (by decide))

/-- What the sequence, the heads and Tf say before the commit decides what it leaves. -/
theorem CommitAgrees.congr {s u t : State} {g : Stage} {means : Nat} (hval : ∀ q : Obj, q.key ≠ O.plinthLastResult.key → u.val q = s.val q) (hlog : u.log = s.log)
    (h : CommitAgrees u t g means) : CommitAgrees s t g means := by
  have hnat : ∀ q : Obj, q.key ≠ O.plinthLastResult.key → u.nat q = s.nat q := fun q hq => congrArg (fun x : Val => x.toInt.toNat) (hval q hq)
  have hhead : ∀ h, u.headState h = s.headState h := fun h => by
    unfold State.headState
    split
    · exact hnat _ (by decide)
    · exact hnat _ (by decide)
  have hbusy : headBusy u ↔ headBusy s := by unfold headBusy; rw [hhead, hhead]
  have hshort : tooShort u g.set ↔ tooShort s g.set := by unfold tooShort; rw [hnat _ (by decide), hnat _ (by decide)]
  obtain ⟨h1, h2, h3⟩ := h
  rw [hnat _ (by decide)] at h1 h2 h3
  refine ⟨fun hb => h1 (hbusy.mpr hb), fun hb hs hoff => ?_, fun hb hs => ?_⟩
  · obtain ⟨a, b, c, d⟩ := h2 (fun h => hb (hbusy.mp h)) (fun h => hs (hshort.mp h)) hoff
    exact ⟨a, b, c, logs_congr hlog.symm rfl d⟩
  · obtain ⟨a, b, c, d⟩ := h3 (fun h => hb (hbusy.mp h)) (hshort.mpr hs)
    exact ⟨a, b, c, logs_congr hlog.symm rfl d⟩

theorem CommitAgrees.applied {s t : State} {g : Stage} {means : Nat} (h : CommitAgrees s t g means) (hfree : ¬ headBusy s) (hfits : ¬ tooShort s g.set)
    (hoff : s.nat O.panelPowerState = 0) :
    t.nat O.plinthState = 0 ∧ shows t O.plinthMeanDrive (fieldN g.set 0x1C 2) ∧ t.int O.plinthTripPoint = O.plinthTripPoint.ty.fit (fieldI g.set 0x20 2) ∧
    shows t O.plinthCommitSeq (lsSeq g.set) ∧ (∀ k, k < 32 → shows t (O.plinthPeakDrive k) (fieldN g.set (0x34 + 2 * k) 2)) ∧ t.oct O.railOrder = cut g.set 0x2C 6 ∧
    t.pln.activeSlot = some (lsSlot g.set) ∧ t.pln.toWrite.isSome = true ∧ logs s t [(0x1301, [lsSeq g.set, means])] := by
  obtain ⟨hstate, ⟨hmean, htrip, hseq, hpeaks, hrails, hslot⟩, hwrite, hlogs⟩ := h.applies hfree hfits hoff
  exact ⟨hstate, hmean, htrip, hseq, hpeaks, hrails, hslot, hwrite, hlogs⟩

/-! ## The commands -/

theorem stageVerified_shows {s : State} {g : Stage} (hg : s.pln.verifying = some g) :
    let t := cmdStageVerified s
    t.pln.verifying = none ∧
      (Config.ecdsaP384 Config.ownerKey (stageDigest g) g.sig = true → t.nat O.plinthState = 1 ∧ t.oct O.plinthStagedSet = g.set ∧
        t.pln.stage = some g ∧ t.pln.windowEnd = s.clk.now + 30000000000 ∧ t.nat O.plinthLastResult = 0 ∧ t.log = s.log) ∧
      (Config.ecdsaP384 Config.ownerKey (stageDigest g) g.sig = false → t.nat O.plinthState = s.nat O.plinthState ∧
        t.nat O.plinthLastResult = 0x1302 ∧ logs s t [(0x1302, [])]) := by
  intro t
  by_cases h : Config.ecdsaP384 Config.ownerKey (stageDigest g) g.sig = true
  · let u : State := (((s.modPln fun p => { p with verifying := none }).put O.plinthState 1).putO O.plinthStagedSet g.set).modPln fun p =>
      { p with stage := some g, windowEnd := s.clk.now + 30000000000, fellAt := none }
    have ht : t = u.put O.plinthLastResult 0 := by
      show cmdStageVerified s = _
      unfold cmdStageVerified
      simp [hg, h, u]
    have hpln : u.pln = { s.pln with verifying := none, stage := some g, windowEnd := s.clk.now + 30000000000, fellAt := none } := by simp [u, State.modPln]
    have hlog : u.log = s.log := by simp [u, State.modPln]
    have hpln' : t.pln = u.pln := by rw [ht]; simp
    refine ⟨by rw [hpln', hpln], fun _ => ⟨?_, ?_, by rw [hpln', hpln], by rw [hpln', hpln], ?_, ?_⟩, fun h' => absurd h (by rw [h']; decide)⟩
    · rw [ht, State.nat_put_ne (by decide), (State.modPln_vals _ _ _).2.2.1, State.nat_putO_ne (by decide)]
      exact State.nat_put_fits _ O.plinthState 1 (w := 1) rfl rfl (by decide)
    · rw [ht, State.oct_put_ne (by decide), (State.modPln_vals _ _ _).2.2.2.2, State.oct_putO_same]
    · rw [ht]; exact State.nat_put_fits _ O.plinthLastResult 0 (w := 2) rfl rfl (by decide)
    · rw [ht, ← hlog]; simp
  · have ht : t = (s.modPln fun p => { p with verifying := none }).plnNote 0x1302 := by
      show cmdStageVerified s = _
      unfold cmdStageVerified
      simp [hg, h]
    rw [ht]
    refine ⟨by rw [State.plnNote_pln]; rfl, fun h' => absurd h' h, fun _ => ⟨?_, State.plnNote_result _ _ (by decide), State.plnNote_logs _ _ rfl⟩⟩
    exact (State.plnNote_nat _ _ _ (by decide) (by decide)).trans (State.modPln_vals _ _ _).2.2.1

theorem confirmVerified_shows {s : State} {g : Stage} {sig key : Bytes} (hsig : s.pln.confirming = some sig) (hg : s.pln.stage = some g)
    (hkey : confirmKey s = some key) (hstate : s.nat O.plinthState = 1) :
    let good := Config.ecdsaP384 key (Config.sha384 ([0x43#8, 0x4E#8, 0x46#8, 0x4D#8] ++ stageDigest g)) sig
    (good = true → CommitAgrees s (cmdConfirmVerified s) g 0) ∧
      (good = false → (cmdConfirmVerified s).nat O.plinthState = 1 ∧ (cmdConfirmVerified s).nat O.plinthLastResult = 0x1303 ∧ logs s (cmdConfirmVerified s) [(0x1303, [])]) := by
  intro good
  let u : State := s.modPln fun p => { p with confirming := none }
  have hu : u.nat O.plinthState = 1 := (State.modPln_vals _ _ _).2.2.1.trans hstate
  have ht : cmdConfirmVerified s = if good = true then (u.put O.plinthLastResult 0).confirmed false sig else u.plnNote 0x1303 := by
    unfold cmdConfirmVerified
    simp only [hsig, hg, hkey]
    rw [if_neg (by simpa [u] using hstate)]
  refine ⟨fun h => ?_, fun h => ?_⟩
  · rw [ht, if_pos h]
    refine (confirmed_agrees (s := u.put O.plinthLastResult 0) (g := g) (by simpa [u, State.modPln] using hg) false sig).congr (fun q hq => ?_) (by simp [u, State.modPln])
    exact (State.val_put_ne hq).trans (State.modPln_vals _ _ _).1
  · rw [ht, if_neg (by simp [h])]
    exact ⟨(State.plnNote_nat _ _ _ (by decide) (by decide)).trans hu, State.plnNote_result _ _ (by decide), State.plnNote_logs _ _ rfl⟩

theorem consentConfirmed_shows {s : State} {g : Stage} {fell : Nat} (hg : s.pln.stage = some g) (hfell : s.pln.fellAt = some fell) (hstate : s.nat O.plinthState = 1)
    (hlow : s.pln.consentLow = true) (hwin : fell + 2000000000 ≤ s.pln.windowEnd) :
    CommitAgrees s (cmdConsentConfirmed s) g 1 ∧ fell + 2000000000 ≤ (cmdConsentConfirmed s).clk.now := by
  have ht : cmdConsentConfirmed s = (s.elapseTo (fell + 2000000000)).confirmed true [] := by
    unfold cmdConsentConfirmed
    simp [hfell, hstate, hlow, hwin]
  have hreach := s.elapseTo_reached (fell + 2000000000)
  have hval : ∀ q, (s.elapseTo (fell + 2000000000)).val q = s.val q := fun q => (State.elapseTo_vals s _ q).1
  have hlog : (s.elapseTo (fell + 2000000000)).log = s.log := by simp
  have hg' : (s.elapseTo (fell + 2000000000)).pln.stage = some g := by simpa using hg
  rw [ht]
  generalize s.elapseTo (fell + 2000000000) = u at hreach hval hlog hg'
  have hclk : (u.confirmed true []).clk = u.clk :=
    ((State.confirmed_fr (c := 22817013760) (r := 1458647141945491002878345361576186934621635608576) rfl rfl (fr_refl u)).1 .clk rfl).symm
  exact ⟨(confirmed_agrees hg' true []).congr (fun q _ => hval q) hlog, by rw [hclk]; exact hreach⟩

/-- The keyswitch is stuck, and reported. -/
def stuckNoted (s : State) : State := (s.modPln fun p => { p with stuck := true, fellAt := none }).post 0x130C

theorem stuckNoted_shows (s : State) : (stuckNoted s).pln = { s.pln with stuck := true, fellAt := none } ∧ (stuckNoted s).clk = s.clk ∧ logs s (stuckNoted s) [(0x130C, [])] := by
  have hf := State.post_fr (p1 := 0x130C) (p2 := []) (c := 22548578304) (r := 7340032) rfl rfl (fr_refl (s.modPln fun p => { p with stuck := true, fellAt := none }))
  exact ⟨(hf.1 .pln rfl).symm, (hf.1 .clk rfl).symm, logs_congr (s := s.modPln fun p => { p with stuck := true, fellAt := none }) rfl rfl (logs_post _ _ _)⟩

theorem consentStuck_shows {s : State} (hlow : s.pln.consentLow = true) (hstuck : s.pln.stuck = false) :
    (cmdConsentStuck s).pln = { s.pln with stuck := true, fellAt := none } ∧ s.pln.lowSince + 60000000000 ≤ (cmdConsentStuck s).clk.now ∧
    logs s (cmdConsentStuck s) [(0x130C, [])] := by
  have ht : cmdConsentStuck s = stuckNoted (s.elapseTo (s.pln.lowSince + 60000000000)) := by
    simp [cmdConsentStuck, hlow, hstuck, stuckNoted]
  obtain ⟨hpln, hclk, hlogs⟩ := stuckNoted_shows (s.elapseTo (s.pln.lowSince + 60000000000))
  rw [ht, hclk, hpln]
  exact ⟨by simp, s.elapseTo_reached _, logs_congr (by simp) rfl hlogs⟩

theorem commitExpired_shows {s : State} (hstate : s.nat O.plinthState = 1) :
    let t := cmdCommitExpired s
    t.nat O.plinthState = 0 ∧ t.pln.stage = none ∧ t.oct O.plinthStagedSet = [] ∧ s.pln.windowEnd ≤ t.clk.now ∧ t.nat O.plinthLastResult = 0x130B ∧ logs s t [(0x130B, [])] := by
  have ht : cmdCommitExpired s = (s.elapseTo s.pln.windowEnd).unstage.plnNote 0x130B := by simp [cmdCommitExpired, hstate]
  have hreach := s.elapseTo_reached s.pln.windowEnd
  have hlog : (s.elapseTo s.pln.windowEnd).log = s.log := by simp
  intro t
  have ht' : t = _ := ht
  clear_value t
  generalize s.elapseTo s.pln.windowEnd = u at ht' hreach hlog
  obtain ⟨h1, h2, h3, h4⟩ := u.unstage_shows
  have hclk : (u.unstage.plnNote 0x130B).clk = u.clk :=
    ((State.plnNote_fr (c := 22817013760) (r := 633825300114114700748358942720 ||| 3802951800684688204490109616128) rfl rfl (State.unstage_fr rfl rfl (fr_refl u))).1 .clk rfl).symm
  rw [ht']
  refine ⟨(State.plnNote_nat _ _ _ (by decide) (by decide)).trans h1, by rw [State.plnNote_pln, h3], ?_, by rw [hclk]; exact hreach, State.plnNote_result _ _ (by decide),
    State.plnNote_logs _ _ (h4.trans hlog)⟩
  exact (congrArg Val.toBytes (State.plnNote_val u.unstage 0x130B [] (q := O.plinthStagedSet) (by decide) (by decide +kernel))).trans h2

/-- Settles O47. -/
theorem limitCommits : Obligations.LimitCommits := by
  intro s hdie
  refine ⟨fun g hg => gives_of_live hdie rfl (stageVerified_shows hg), ⟨fun g sig key hsig hg hkey hstate => gives_of_live hdie rfl ?_,
    fun g fell hg hfell hstate hlow hwin => gives_of_live hdie rfl ?_⟩, fun hhigh => gives_of_live hdie rfl ?_, gives_of_live hdie rfl ?_,
    fun hlow hstuck => gives_of_live hdie rfl (consentStuck_shows hlow hstuck), fun hstate => gives_of_live hdie rfl (commitExpired_shows hstate)⟩
  · obtain ⟨hgood, hbad⟩ := confirmVerified_shows hsig hg hkey hstate
    exact ⟨fun h => ⟨(hgood h).waits, (hgood h).applied, (hgood h).conflicts⟩, hbad⟩
  · obtain ⟨h, hclk⟩ := consentConfirmed_shows hg hfell hstate hlow hwin
    exact ⟨⟨h.waits, h.applied, h.conflicts⟩, hclk⟩
  · rw [cmdConsentFall, hhigh, if_neg (by decide)]
    exact ⟨((State.modPln_vals _ _ _).2.2.2.1.trans (State.flag_put_same _ _ _)).trans (by decide), by simp [State.modPln]⟩
  · exact ⟨((State.modPln_vals _ _ _).2.2.2.1.trans (State.flag_put_same _ _ _)).trans (by decide), by simp [cmdConsentRise, State.modPln]⟩

end Sys2Proof.Machine
end

section
/-! A cold start: what it keeps of NOR and the dictionary, and what a stored configuration may overwrite (R374, R433, R438). -/

set_option Elab.async false

namespace Sys2Proof.Machine

/-- An object that exists once keeps its value over steps that do not name it, whatever they do to the banks. -/
theorem val_of_fr_once {c r : Nat} {s t : State} {q : Obj} (h : Fr0 c r s t) (hp : c.testBit 0 = false) (hq : q.access ≠ .rws) (hr : r < 2 ^ 247)
    (ht : touched r q.key = false) : t.val q = s.val q := by
  have hpart : t.part = s.part := (h.1 .part hp).symm
  unfold State.val State.storeOf
  rw [hpart, if_neg hq, if_neg hq, h.2 q.key fun i hi hcov => ?_]
  have hlt : i < 247 := (Nat.pow_lt_pow_iff_right (a := 2) (by decide)).mp (Nat.lt_of_le_of_lt (Nat.ge_two_pow_of_testBit hi) hr)
  have hhit : touched r q.key = true := List.any_eq_true.mpr ⟨i, List.mem_range.mpr hlt, by rw [hi, Reg.hits_of_covers hcov]; rfl⟩
  rw [hhit] at ht
  exact absurd ht (by decide)

/-! ## A cold start up to the choice of a slot -/

/-- A cold start before the limit records are read: pins, counters and time. -/
def coldPins (s : State) (ue : List NorUe) : State :=
  let s := s.modNor fun n => ue.foldl Nor.lose n
  let tripped : Bool := bitOf (s.nat O.admSuspendCauses) 0
  let pg := s.nat O.railPgStatus
  let s := (((s.coldBase.loadSaved pg).noteNor ue)).senseRgmii
  let s := if tripped then (s.put O.admSuspendCauses 1).put O.admPromiseState 1 else s
  let ms := (Config.freeBits 8 s.free).toNat % 161
  let s := { (s.drawFree) with mem := { s.mem with releasedAt := s.clk.now + (Config.freeBits 6 (s.free + 1)).toNat % (min ms 40 + 1) * 1000000 } }
  let s := (s.elapseTo (s.clk.now + ms * 1000000)).drawFree
  { s with clk := { s.clk with disp := ((s.nor.saved.map (·.time)).getD 0) * 2 ^ 32 } }

/-- A cold start behind the reading of the limit records, before the boot ROM chooses a slot. -/
def coldTold (s : State) : State :=
  let s := if s.thm.restarted then s.thmNote 0x100B else s
  let s := if s.thm.lockout then s.thmNote 0x100C else s
  s.modThm fun t => { t with restarted := false, lockout := false }

theorem coldLoad_eq (s : State) (ue : List NorUe) : s.coldLoad ue = (coldTold (verifyLimits (coldPins s ue))).bootSelect := rfl

theorem coldPins_frame (s : State) (ue : List NorUe) : Fr0 91294269448 2854146936268192755792307428735343377358782464 (s.modNor fun n => ue.foldl Nor.lose n).coldBase (coldPins s ue) := by
  unfold coldPins
  extract_lets a tripped pg b d ms src m e f
  have hb : Fr0 91294269448 2854146936268192755792307428735343377358782464 a.coldBase b := State.senseRgmii_fr rfl rfl (State.noteNor_fr rfl rfl (State.loadSaved_fr rfl rfl (fr_refl a.coldBase)))
  have hd : Fr0 91294269448 2854146936268192755792307428735343377358782464 a.coldBase d := fr0_ite
    (fun _ => State.put_fr rfl rfl (State.put_fr rfl rfl hb (O.admSuspendCauses_ok rfl)) (O.admPromiseState_ok rfl)) fun _ => hb
  have he : Fr0 91294269448 2854146936268192755792307428735343377358782464 a.coldBase e := fr_mem rfl (State.drawFree_fr rfl rfl hd)
  exact fr_clk rfl (State.drawFree_fr rfl rfl (State.elapseTo_fr rfl rfl he))

theorem coldTold_frame (s : State) : Fr0 22582132736 1461501637330902918203684832716283019655939883008 s (coldTold s) := by
  unfold coldTold
  extract_lets a b
  have ha : Fr0 22582132736 1461501637330902918203684832716283019655939883008 s a := fr0_ite (fun _ => State.thmNote_fr rfl rfl (fr_refl s)) fun _ => fr_refl s
  have hb : Fr0 22582132736 1461501637330902918203684832716283019655939883008 s b := fr0_ite (fun _ => State.thmNote_fr rfl rfl ha) fun _ => ha
  exact State.modThm_fr rfl rfl hb

theorem verifyLimits_frame (s : State) : Fr0 22817013760 1458647141945490998441568260777384029383174389760 s (verifyLimits s) := verifyLimits_fr rfl rfl (fr_refl s)

theorem verifyLimits_arb (s : State) : (verifyLimits s).pln.arb = s.pln.arb := by
  unfold verifyLimits
  extract_lets ok u
  have hu : u.pln = s.pln := foldl_keeps State.pln (fun v r => ((State.post_fr (c := 22548578304) (r := 7340032) rfl rfl (fr_refl v)).1 .pln rfl).symm) _ s
  clear_value ok
  cases ok with
  | nil => exact congrArg Pln.arb hu
  | cons r rs => rw [(State.applyLimits_pln _ _).1]; exact (congrArg Pln.arb hu : u.pln.arb = s.pln.arb)

/-- Before a slot is chosen: NOR as it can be read, an empty dictionary engine, the anti-rollback count. -/
theorem coldTold_keeps (s : State) (ue : List NorUe) :
    let u := coldTold (verifyLimits (coldPins s ue))
    u.part = s.part ∧ u.nor = ue.foldl Nor.lose s.nor ∧ u.dict = {} ∧ u.pln.arb = s.pln.arb := by
  intro u
  have h1 := coldPins_frame s ue
  have h2 := verifyLimits_frame (coldPins s ue)
  have h3 := coldTold_frame (verifyLimits (coldPins s ue))
  refine ⟨?_, ?_, ?_, ?_⟩
  · exact (h3.1 .part rfl).symm.trans ((h2.1 .part rfl).symm.trans (h1.1 .part rfl).symm)
  · exact (h3.1 .nor rfl).symm.trans ((h2.1 .nor rfl).symm.trans (h1.1 .nor rfl).symm)
  · exact (h3.1 .dict rfl).symm.trans ((h2.1 .dict rfl).symm.trans (h1.1 .dict rfl).symm)
  · have hp : (verifyLimits (coldPins s ue)).pln = u.pln := h3.1 .pln rfl
    have hp' : (s.modNor fun n => ue.foldl Nor.lose n).coldBase.pln = (coldPins s ue).pln := h1.1 .pln rfl
    rw [← hp, verifyLimits_arb, ← hp']
    rfl

theorem bootSelect_dict (s : State) : s.bootSelect.dict = s.dict :=
  ((State.bootSelect_fr (c := 22749904896) (r := 19807040628566084398393327616) rfl rfl (fr_refl s)).1 .dict rfl).symm

/-- The islands of a recovery, its dictionary engine and state shown. -/
theorem bootRecovery_dict (s : State) (single : Bool) : (s.bootRecovery single).dict = { s.dict with ready := true } := by
  have hput : ∀ (u : State), (u.put O.atlState 4).dict = u.dict := by simp
  unfold State.bootRecovery
  dsimp only
  rw [← (State.refreshFaults_fr (c := 22549643264) (r := 4685472994722233450496) rfl rfl (fr_refl _)).1 .dict rfl]
  refine Eq.trans (State.modAtl_fr (c := 134217728) (r := 4763953136893138488487244504044754960384) rfl rfl
    (State.showSlots_fr rfl rfl (fr_refl _)) |>.1 .dict rfl).symm ?_
  rw [hput]

/-- The firmware is entered and NOR scanned, the stored configuration not yet loaded. -/
def bootEntered (s : State) : State := ((s.enterFirmware).reportTorn).showSlots

/-- The islands, the calibration and the first buffer of a boot. -/
def bootCalibrated (s : State) (single : Bool) : State :=
  let s : State := { s with isl := bootIslands s.stackCount (s.nat O.rseIslandsEnabled) }
  let s := (((s.checkBronze single).centreView).loadPatina).refreshCal
  s.blackBuffer

/-- The boot is loaded: the dictionary engine is ready, and Atelier runs. -/
def bootReady (s : State) : State :=
  ({ s with dict := { s.dict with ready := true }, clk := { s.clk with epoch := s.curEpoch } } : State).put O.atlState 1

theorem bootUp_eq (s : State) (single : Bool) : s.bootUp single = (bootReady (bootCalibrated (bootEntered s).loadConfig single)).bootEnd := by
  unfold State.bootUp State.bootLoad bootReady bootCalibrated bootEntered
  rfl

theorem bootEntered_frame (s : State) : Fr0 91737817088 15652988878382976359943798026259731054592 s (bootEntered s) :=
  State.showSlots_fr rfl rfl (State.reportTorn_fr rfl rfl (State.enterFirmware_fr rfl rfl (fr_refl s)))

theorem bootCalibrated_frame (s : State) (single : Bool) : Fr0 31139611232 304893000761160863570109223068528395943936 s (bootCalibrated s single) :=
  State.blackBuffer_fr rfl rfl (State.refreshCal_fr rfl rfl (State.loadPatina_fr rfl rfl (State.centreView_fr rfl rfl (State.checkBronze_fr rfl rfl (fr_isl rfl (fr_refl s))))))

theorem loadConfig_frame (s : State) : Fr0 96 21778074079088490929069789141018769096704 s s.loadConfig := State.loadConfig_fr rfl rfl (fr_refl s)

theorem bootEnd_frame (s : State) : Fr0 31285101064 5444517870754827301190568975763121242112 s s.bootEnd := State.bootEnd_fr rfl rfl (fr_refl s)

/-- Once the firmware is entered, or the block is in recovery, the dictionary engine is ready and has sent nothing. -/
theorem coldBoot_dict (s : State) (single : Bool) : (s.coldBoot single).dict = { s.dict with ready := true } := by
  unfold State.coldBoot
  split
  · exact bootRecovery_dict s single
  · have hready : ∀ u : State, (bootReady u).dict = { u.dict with ready := true } := fun u => by simp [bootReady]
    rw [bootUp_eq, ← (bootEnd_frame _).1 .dict rfl, hready, ← (bootCalibrated_frame _ _).1 .dict rfl, ← (loadConfig_frame _).1 .dict rfl, ← (bootEntered_frame s).1 .dict rfl]

/-- A cold start leaves a dictionary engine that is ready and has sent nothing. -/
theorem coldStart_dict (s : State) (ue : List NorUe) : (s.coldStart ue).dict = { ready := true } := by
  obtain ⟨-, -, hdict, -⟩ := coldTold_keeps s.allRailsDown ue
  unfold State.coldStart
  rw [coldBoot_dict, coldLoad_eq, bootSelect_dict, hdict]

theorem coldStart_nextAlive (s : State) (ue : List NorUe) : (s.coldStart ue).nextAlive = 0 := by
  unfold State.nextAlive
  rw [coldStart_dict]
  rfl

/-! ## A stored configuration that names a counter -/

theorem allRailsDown_frame (s : State) : Fr0 262408 18446744073709551616 s s.allRailsDown := State.allRailsDown_fr rfl rfl (fr_refl s)

/-- A good active slot boots where no trial is pending (R442). -/
theorem bootSelect_active {s : State} (htrial : s.nor.trial = none) (hboots : s.slotBoots s.nor.active = true) :
    s.bootSelect.atl.bootSlot = some s.nor.active ∧ s.bootSelect.nor = s.nor := by
  unfold State.bootSelect
  rw [htrial]
  unfold State.bootActive
  simp only [hboots, if_true]
  exact ⟨rfl, rfl⟩

theorem bootEntered_config (s : State) : (bootEntered s).nor.config = s.nor.config := by
  unfold bootEntered
  rw [← (State.showSlots_fr (c := 0) (r := 4763953136893138488487244504044754960384) rfl rfl (fr_refl _)).1 .nor rfl]
  unfold State.reportTorn
  have hnote : ∀ (u : State) (l : List Nat), (l.foldl (fun s a => s.atlNote 0x1207 [a]) u).nor = u.nor := fun u l =>
    foldl_keeps State.nor (fun v a => ((State.atlNote_fr (c := 22548578304) (r := 19807040628566084398393327616) rfl rfl (fr_refl v)).1 .nor rfl).symm) l u
  show ((List.foldl _ _ _ : State)).nor.config = _
  rw [hnote, ← (State.enterFirmware_fr (c := 69122129920) (r := 10889035741470030830827987437816582766592) rfl rfl (fr_refl s)).1 .nor rfl]

/-- A stored configuration whose image names `nor_ecc_count`: the store of R381 takes no such object, and the load takes any. -/
def miscounted : State := { nor := { config := some (1, [(O.norEccCount.key, .num 5)]) } }

/-- Loading that image overwrites the count of the uncorrectable reads that this start has made (R374, R438). -/
theorem loadConfig_miscounts {s : State} (h : s.nor.config = miscounted.nor.config) : s.loadConfig.val O.norEccCount = .num 5 := by
  have hrws : ((O.all.filter fun o => o.access == .rws).map (·.key)).contains O.norEccCount.key = false := by decide +kernel
  unfold State.loadConfig
  simp only [h, miscounted, List.filter_cons, List.filter_nil, hrws, Bool.not_false, if_true, Bool.false_eq_true, if_false, List.foldl_cons, List.foldl_nil]
  rw [State.val_put_ne (by decide), State.val_put_ne (by decide)]
  show (storeGet (storeSet s.obj O.norEccCount.key (.num 5)) O.norEccCount.key).getD _ = _
  rw [storeGet_storeSet_same]
  rfl

theorem bootEnd_norEcc (s : State) : s.bootEnd.val O.norEccCount = s.val O.norEccCount :=
  val_of_fr_once (bootEnd_frame s) (by decide) (by decide) (by decide) (by decide +kernel)

theorem State.val_withClock (s : State) (d : Dict) (c : Clock) (q : Obj) : ({ s with dict := d, clk := c } : State).val q = s.val q := State.val_congr rfl rfl

theorem bootReady_norEcc (s : State) : (bootReady s).val O.norEccCount = s.val O.norEccCount :=
  (State.val_put_ne (by decide)).trans (State.val_withClock s _ _ _)

theorem bootCalibrated_norEcc (s : State) (single : Bool) : (bootCalibrated s single).val O.norEccCount = s.val O.norEccCount :=
  val_of_fr_once (bootCalibrated_frame s single) (by decide) (by decide) (by decide) (by decide +kernel)

theorem bootUp_miscounts {s : State} (single : Bool) (h : s.nor.config = miscounted.nor.config) : (s.bootUp single).val O.norEccCount = .num 5 := by
  have hc : (bootEntered s).nor.config = miscounted.nor.config := (bootEntered_config s).trans h
  rw [bootUp_eq, bootEnd_norEcc, bootReady_norEcc, bootCalibrated_norEcc, loadConfig_miscounts hc]

theorem slotBoots_miscounted {s : State} (hnor : s.nor = miscounted.nor) (hpart : s.part = .h4) (harb : s.pln.arb = 0) : s.slotBoots s.nor.active = true := by
  have hbit : bitOf 3 0 = true := by decide
  unfold State.slotBoots
  rw [hnor, hpart, harb]
  simp [miscounted, hbit]

theorem coldChosen_miscounted : (miscounted.allRailsDown.coldLoad []).atl.bootSlot = some 0 ∧ (miscounted.allRailsDown.coldLoad []).nor = miscounted.nor := by
  have hrails := allRailsDown_frame miscounted
  have hrnor : miscounted.nor = miscounted.allRailsDown.nor := hrails.1 .nor rfl
  have hrpln : miscounted.pln = miscounted.allRailsDown.pln := hrails.1 .pln rfl
  have hrpart : miscounted.part = miscounted.allRailsDown.part := hrails.1 .part rfl
  obtain ⟨hpart, hnor, -, harb⟩ := coldTold_keeps miscounted.allRailsDown []
  rw [List.foldl_nil, ← hrnor] at hnor
  rw [← hrpln] at harb
  rw [← hrpart] at hpart
  rw [coldLoad_eq]
  generalize coldTold (verifyLimits (coldPins miscounted.allRailsDown [])) = u at hpart hnor harb
  obtain ⟨hslot, hsel⟩ := bootSelect_active (by rw [hnor]; rfl) (slotBoots_miscounted hnor hpart harb)
  rw [hslot, hsel, hnor]
  exact ⟨rfl, rfl⟩

theorem coldStart_miscounts : (miscounted.coldStart []).nat O.norEccCount = 5 := by
  obtain ⟨hslot, hnor⟩ := coldChosen_miscounted
  unfold State.coldStart State.coldBoot
  rw [if_neg (by rw [hslot]; simp), State.nat, bootUp_miscounts _ (congrArg Nor.config hnor)]
  rfl

/-- Refutes O1: a stored configuration whose image names `nor_ecc_count` overwrites the count of the start's own uncorrectable reads, which is taken before the load; `CFG_STORE`
never stores such an image, but the statement speaks of every state. -/
theorem not_startsAndResets : ¬ Obligations.StartsAndResets := by
  intro h
  obtain ⟨⟨hcold, -⟩, -⟩ := h
  obtain ⟨t, ht, -, -, -, -, -, -, hcount, -⟩ := hcold miscounted [] rfl
  have hrun : exec (.coldStart []) miscounted = .next (cmdColdStart miscounted []) := rfl
  have htold : t = miscounted.coldStart [] := by
    rw [hrun] at ht
    exact (Host.Outcome.next.inj ht).symm.trans (if_pos rfl)
  rw [htold] at hcount
  exact absurd (coldStart_miscounts.symm.trans hcount) (by decide)

end Sys2Proof.Machine
end

section
/-! Warm resets of Atelier, their end, and the confirmation of a trial (R428 to R431, R438, R442, R467, R468). -/

set_option Elab.async false

namespace Sys2Proof.Machine

/-! ## What a warm reset takes -/

/-- What a warm reset shows and counts. -/
def resetObjs : List Obj := [O.atlState, O.atlLastResetCause, O.warmResetCount, O.lockstepCount]

/-- A step that keeps what a warm reset shows and counts, and loses no log entry. -/
structure ResetKept (s t : State) : Prop where
  vals : ∀ q ∈ resetObjs, t.val q = s.val q
  grows : logGrows s t

theorem ResetKept.refl (s : State) : ResetKept s s := ⟨fun _ _ => rfl, logGrows_of_eq rfl⟩

theorem ResetKept.trans {s t u : State} (h : ResetKept s t) (g : ResetKept t u) : ResetKept s u :=
  ⟨fun q hq => (g.vals q hq).trans (h.vals q hq), h.grows.trans g.grows⟩

theorem resetKept_foldl {α : Type} {f : State → α → State} (h : ∀ s a, ResetKept s (f s a)) (l : List α) (s : State) : ResetKept s (l.foldl f s) := by
  induction l generalizing s with
  | nil => exact .refl s
  | cons a l ih => exact (h s a).trans (ih _)

theorem resetObjs_once : ∀ q ∈ resetObjs, q.access ≠ .rws := by decide

theorem resetKept_of_fr {c r : Nat} {s t : State} (h : Fr0 c r s t) (hc : (c.testBit 0 || c.testBit 32) = false) (hr : r < 2 ^ 247)
    (hq : resetObjs.all (fun q => !touched r q.key) = true) : ResetKept s t := by
  obtain ⟨hpart, hlog⟩ := Bool.or_eq_false_iff.mp hc
  refine ⟨fun q hm => val_of_fr_once h hpart (resetObjs_once q hm) hr ?_, logGrows_of_eq (h.1 .log hlog).symm⟩
  simpa using List.all_eq_true.mp hq q hm

theorem resetKept_put (s : State) {o : Obj} (v : Int) (ho : resetObjs.all (fun q => q.key != o.key) = true) : ResetKept s (s.put o v) :=
  ⟨fun q hm => State.val_put_ne (by simpa using List.all_eq_true.mp ho q hm), logGrows_of_eq (by simp)⟩

theorem resetKept_answer (s : State) (a : Ask) (r : Reply) : ResetKept s (s.answer a r) :=
  ⟨fun q hm => (s.answer_keeps a r).1 q ((by decide +kernel : ∀ q ∈ resetObjs, answerSpares q.key = true) q hm), logGrows_answer s a r⟩

theorem resetKept_dropAsk (s : State) (a : Ask) (code : Nat) : ResetKept s (s.dropAsk a code) := by
  unfold State.dropAsk
  split
  · exact .refl s
  · exact resetKept_answer s a _

theorem resetKept_post (s : State) (code : Nat) (param : List Nat) : ResetKept s (s.post code param) :=
  ⟨fun q hm => val_of_fr_once (State.post_fr (p1 := code) (p2 := param) (c := 22548578304) (r := 7340032) rfl rfl (fr_refl s)) rfl (resetObjs_once q hm) (by decide)
      ((by decide +kernel : ∀ q ∈ resetObjs, touched 7340032 q.key = false) q hm),
    logGrows_postWith s false code param⟩

theorem resetKept_recent (s : State) (code : Nat) : ResetKept s (s.recent code) :=
  ⟨fun q hm => (s.recent_keeps code).1 q ((by decide +kernel : ∀ q ∈ resetObjs, answerSpares q.key = true) q hm),
    logGrows_of_eq ((State.recent_fr (c := 48) (r := 137438953472) rfl rfl (fr_refl s)).1 .log rfl).symm⟩

/-- Only the swap's own record differs. -/
theorem resetKept_cfg (s : State) (c : Cfg) : ResetKept s { s with cfg := c } := ⟨fun _ _ => State.val_congr rfl rfl, logGrows_of_eq rfl⟩

theorem resetKept_refuseSwap (s : State) (code : Nat) : ResetKept s (s.refuseSwap code) := by
  rw [refuseSwap_eq]
  have h : ResetKept s (swapRefused s code) :=
    ((((resetKept_put s 0 (by decide)).trans (resetKept_put _ code (by decide))).trans (resetKept_cfg _ _)).trans (resetKept_recent _ code)).trans (resetKept_post _ _ _)
  refine h.trans ?_
  unfold answerRequester
  cases s.cfg.requester with
  | none => exact .refl _
  | some a => exact resetKept_answer _ a _

theorem logGrows_reselect (s : State) (back : Bool) : logGrows s (s.reselect back) := by
  unfold State.reselect
  extract_lets new u
  split
  · exact logGrows_of_eq rfl
  · have hu : logGrows s u := (logGrows_of_eq (t := s.put O.timeSelectedDomain (new.getD 0xFF)) (by simp)).trans
      ((logGrows_postWith _ false _ _).trans (logGrows_of_eq rfl))
    clear_value u new
    cases new with
    | none => exact hu.trans ((logGrows_of_eq (t := (u.put O.timeState (if u.tim.firstSel then 3 else 0)).modTim fun t => { t with target := u.int O.timeRate })
        (by simp)).trans (logGrows_postWith _ false _ _))
    | some d =>
      have h : Fr0 8388608 (33292288 ||| 786432) u (((u.put O.timeState 1).firstStep d).takeUtc (u.ptp d).ann |>.aim (u.int (O.ptpOffset d)) (u.int (O.ptpRate d))) :=
        State.aim_fr rfl rfl (State.takeUtc_fr rfl rfl (State.firstStep_fr rfl rfl (State.put_fr rfl rfl (fr_refl u) (O.timeState_ok rfl))))
      exact hu.trans (logGrows_of_eq (h.1 .log rfl).symm)

theorem resetKept_dropMaster (s : State) (d st : Nat) : ResetKept s (s.dropMaster d st) := by
  refine ⟨fun q hm => val_of_fr_once (State.dropMaster_fr (p1 := d) (p2 := st) (c := 22556966912) (r := 268173312) rfl rfl (fr_refl s)) rfl (resetObjs_once q hm) (by decide)
    ((by decide +kernel : ∀ q ∈ resetObjs, touched 268173312 q.key = false) q hm), ?_⟩
  unfold State.dropMaster
  exact (logGrows_of_eq (by simp)).trans (logGrows_reselect _ false)

/-- The requests that a warm reset answers or forgets, with the transfers and what was sent (R430). -/
def resetDropped (s : State) : State :=
  let s := s.cfg.waiting.foldl (fun s a => s.dropAsk a 0x1203) s
  let who := s.cfg.requester
  let s : State := { s with cfg := { s.cfg with waiting := [], requester := who.filter fun a => a.vx.isNone } }
  let s := if s.nat O.cfgSwapState = 1 then s.refuseSwap 0x1203 else s
  (s.modDict fun d => { d with transfers := [], nodes := [], txAny := false, aliveTx := 0, inbox := [] }).put O.dictDomainOpen 0

/-- The stores, the update engine, PTP and the CRC units at a warm reset (R430). -/
def resetCleared (s : State) : State :=
  let s := tearNor s
  let s := if s.nat O.patinaStoreState = 1 ∨ s.nat O.patinaStoreState = 2 then s.put O.patinaStoreState 4 else s
  let s := if s.nat O.cfgStoreState = 1 ∨ s.nat O.cfgStoreState = 2 then s.put O.cfgStoreState 4 else s
  let s := if 1 ≤ s.nat O.updateState ∧ s.nat O.updateState ≤ 3 then (s.put O.updateState 0).modAtl fun a => { a with image := [] } else s
  let s := (List.range 2).foldl (fun s d => if s.nat (O.ptpState d) = 0 then s else s.dropMaster d 1) s
  s.modAtl fun a => { a with crc := List.replicate 4 {} }

theorem resetEffects_eq (s : State) : s.resetEffects = resetCleared (resetDropped s) := by
  unfold State.resetEffects resetCleared resetDropped
  rfl

theorem resetKept_resetDropped (s : State) : ResetKept s (resetDropped s) := by
  unfold resetDropped
  extract_lets a who src b d
  have ha : ResetKept s a := resetKept_foldl (fun u x => resetKept_dropAsk u x 0x1203) _ s
  have hb : ResetKept s b := ha.trans (resetKept_cfg a _)
  have hd : ResetKept s d := by
    unfold d
    split
    · exact hb.trans (resetKept_refuseSwap b _)
    · exact hb
  have he : ResetKept d (d.modDict fun x => { x with transfers := [], nodes := [], txAny := false, aliveTx := 0, inbox := [] }) :=
    ⟨fun q _ => (State.modDict_vals _ _ _).1, logGrows_of_eq rfl⟩
  exact hd.trans (he.trans (resetKept_put (o := O.dictDomainOpen) _ 0 (by decide)))

theorem resetDropped_dict (s : State) : (resetDropped s).dict.transfers = [] ∧ (resetDropped s).dict.txAny = false := by
  unfold resetDropped
  extract_lets a who src b d
  simp [State.modDict]

/-- A step that keeps what a warm reset shows, and the dictionary's own state. -/
def ResetQuiet (s t : State) : Prop := ResetKept s t ∧ t.dict = s.dict

theorem ResetQuiet.refl (s : State) : ResetQuiet s s := ⟨.refl s, rfl⟩

theorem ResetQuiet.trans {s t u : State} (h : ResetQuiet s t) (g : ResetQuiet t u) : ResetQuiet s u := ⟨h.1.trans g.1, g.2.trans h.2⟩

theorem resetQuiet_put (s : State) {o : Obj} (v : Int) (ho : resetObjs.all (fun q => q.key != o.key) = true) : ResetQuiet s (s.put o v) :=
  ⟨resetKept_put s v ho, by simp⟩

theorem resetQuiet_modAtl (s : State) (f : Atl → Atl) : ResetQuiet s (s.modAtl f) :=
  ⟨⟨fun _ _ => (State.modAtl_vals _ _ _).1, logGrows_of_eq rfl⟩, rfl⟩

theorem ResetQuiet.ite {s t u : State} (c : Prop) [Decidable c] (ht : ResetQuiet s t) (hu : ResetQuiet s u) : ResetQuiet s (if c then t else u) := by
  split
  · exact ht
  · exact hu

theorem resetQuiet_foldl {α : Type} {f : State → α → State} (h : ∀ s a, ResetQuiet s (f s a)) (l : List α) (s : State) : ResetQuiet s (l.foldl f s) := by
  induction l generalizing s with
  | nil => exact .refl s
  | cons a l ih => exact (h s a).trans (ih _)

theorem resetQuiet_tearNor (s : State) : ResetQuiet s (tearNor s) :=
  have h := tearNor_fr (c := 68786585600) (r := 0) rfl rfl (fr_refl s)
  ⟨resetKept_of_fr h rfl (by decide) (by decide +kernel), (h.1 .dict rfl).symm⟩

theorem resetQuiet_dropMaster (s : State) (d st : Nat) : ResetQuiet s (s.dropMaster d st) :=
  ⟨resetKept_dropMaster s d st, ((State.dropMaster_fr (c := 22556966912) (r := 268173312) rfl rfl (fr_refl s)).1 .dict rfl).symm⟩

theorem resetQuiet_resetCleared (s : State) : ResetQuiet s (resetCleared s) := by
  unfold resetCleared
  have hstore : ∀ (u : State) (o : Obj) (c : Prop) [Decidable c], resetObjs.all (fun q => q.key != o.key) = true → ResetQuiet u (if c then u.put o 4 else u) :=
    fun u o c _ ho => .ite c (resetQuiet_put u 4 ho) (.refl u)
  have hupdate : ∀ (u : State) (c : Prop) [Decidable c], ResetQuiet u (if c then (u.put O.updateState 0).modAtl fun a => { a with image := [] } else u) :=
    fun u c _ => .ite c ((resetQuiet_put u 0 (by decide)).trans (resetQuiet_modAtl _ _)) (.refl u)
  have hmasters : ∀ u : State, ResetQuiet u ((List.range 2).foldl (fun s d => if s.nat (O.ptpState d) = 0 then s else s.dropMaster d 1) u) :=
    fun u => resetQuiet_foldl (fun s d => .ite _ (.refl s) (resetQuiet_dropMaster s d 1)) _ u
  exact (resetQuiet_tearNor s).trans ((hstore _ O.patinaStoreState _ (by decide)).trans ((hstore _ O.cfgStoreState _ (by decide)).trans
    ((hupdate _ _).trans ((hmasters _).trans (resetQuiet_modAtl _ _)))))

/-- What a warm reset takes leaves its cause and its counts, and ends every transfer. -/
theorem resetEffects_shows (s : State) : ResetKept s s.resetEffects ∧ s.resetEffects.dict.transfers = [] ∧ s.resetEffects.dict.txAny = false := by
  rw [resetEffects_eq]
  obtain ⟨hk, hd⟩ := resetQuiet_resetCleared (resetDropped s)
  rw [hd]
  exact ⟨(resetKept_resetDropped s).trans hk, resetDropped_dict s⟩

theorem State.atlNote_keeps (s : State) (code : Nat) (param : List Nat) :
    (s.atlNote code param).pln = s.pln ∧ (s.atlNote code param).atl = s.atl ∧ (s.atlNote code param).clk = s.clk ∧ (s.atlNote code param).nor = s.nor := by
  have h := State.atlNote_fr (p1 := code) (p2 := param) (c := 22548578304) (r := 19807040628566084398393327616) rfl rfl (fr_refl s)
  exact ⟨(h.1 .pln rfl).symm, (h.1 .atl rfl).symm, (h.1 .clk rfl).symm, (h.1 .nor rfl).symm⟩

/-! ## The start of a warm reset (R428, R429) -/

/-- The cause of a warm reset, shown, counted and reported. -/
def resetNoted (s : State) (cause code : Nat) : State :=
  let sec := s.powerSeconds
  let s := ((s.put O.atlLastResetCause cause).put O.atlState 2).bump O.warmResetCount
  let s := if cause = 3 then s.bump O.lockstepCount else s
  let s :=
    if 3 ≤ cause ∧ cause ≤ 5 then
      ((s.modAtl fun a => { a with faultResets := (a.faultResets.filter fun t => sec < t + 3600) ++ [sec] }).put O.atlLastStatus code).raise 8 0
        s.atl.faultResets.length code
    else if cause = 6 then s.atlNote code
    else s
  s.modAtl fun a => { a with resetAt := s.clk.now }

/-- The watchdog is off. -/
def disarmed (s : State) : State := { s with pln := { s.pln with armed := false } }

theorem warmReset_eq (s : State) (cause code : Nat) : s.warmReset cause code = disarmed (resetNoted s cause code).resetEffects := by
  unfold State.warmReset
  extract_lets sec a b d e
  have he : e = (resetNoted s cause code).resetEffects := congrArg State.resetEffects rfl
  exact congrArg disarmed he

theorem disarmed_val (s : State) (o : Obj) : (disarmed s).val o = s.val o := State.val_congr rfl rfl

theorem disarmed_keeps (s : State) : (disarmed s).log = s.log ∧ (disarmed s).dict = s.dict ∧ (disarmed s).pln.armed = false := ⟨rfl, rfl, rfl⟩

theorem warmReset_dict (s : State) (cause code : Nat) :
    (s.warmReset cause code).dict.transfers = [] ∧ (s.warmReset cause code).dict.txAny = false ∧ (s.warmReset cause code).pln.armed = false := by
  rw [warmReset_eq]
  obtain ⟨-, h1, h2⟩ := resetEffects_shows (resetNoted s cause code)
  obtain ⟨-, hdict, harm⟩ := disarmed_keeps (resetNoted s cause code).resetEffects
  rw [hdict]
  exact ⟨h1, h2, harm⟩

theorem warmReset_nextAlive (s : State) (cause code : Nat) : (s.warmReset cause code).nextAlive = 0 := by
  unfold State.nextAlive
  rw [(warmReset_dict s cause code).2.1]
  rfl

/-- What a fault of Atelier leaves: the reset begun, its cause shown, counted and logged, and the watchdog off. -/
structure ResetBegun (s t : State) (cause code : Nat) : Prop where
  state : t.nat O.atlState = 2
  cause : t.nat O.atlLastResetCause = cause
  counted : counts s t O.warmResetCount 1
  disarmed : t.pln.armed = false
  dropped : t.dict.transfers = []
  told : logged s t (code, [])

theorem ResetBegun.congr {s u t : State} {cause code : Nat} (hval : ∀ q, u.val q = s.val q) (hlog : u.log = s.log) (h : ResetBegun u t cause code) : ResetBegun s t cause code :=
  ⟨h.state, h.cause, counts_congr (by rw [State.nat, State.nat, hval]) rfl h.counted, h.disarmed, h.dropped, logged_congr hlog.symm rfl h.told⟩

theorem ResetBegun.all {s t : State} {cause code : Nat} (h : ResetBegun s t cause code) : t.nat O.atlState = 2 ∧ t.nat O.atlLastResetCause = cause ∧
    counts s t O.warmResetCount 1 ∧ t.pln.armed = false ∧ t.dict.transfers = [] ∧ logged s t (code, []) :=
  ⟨h.state, h.cause, h.counted, h.disarmed, h.dropped, h.told⟩

/-- A fault reset's report behind the cause and the counts. -/
theorem resetNoted_fault (s : State) {cause : Nat} (code : Nat) (h : 3 ≤ cause ∧ cause ≤ 5) :
    (resetNoted s cause code).nat O.atlState = 2 ∧ (resetNoted s cause code).nat O.atlLastResetCause = cause ∧ counts s (resetNoted s cause code) O.warmResetCount 1 ∧
    (cause = 3 → counts s (resetNoted s cause code) O.lockstepCount 1) ∧ logged s (resetNoted s cause code) (code, []) := by
  unfold resetNoted
  extract_lets sec a b d
  have ha : a.nat O.atlState = 2 ∧ a.nat O.atlLastResetCause = cause ∧ counts s a O.warmResetCount 1 ∧ a.nat O.lockstepCount = s.nat O.lockstepCount ∧ a.log = s.log := by
    refine ⟨?_, ?_, ?_, ?_, by simp [a, State.bump, State.bumpBy]⟩
    · exact (State.nat_bump_ne (by decide)).trans (State.nat_put_fits _ O.atlState 2 (w := 1) rfl rfl (by decide))
    · exact (State.nat_bump_ne (by decide)).trans ((State.nat_put_ne (by decide)).trans (State.nat_put_fits _ O.atlLastResetCause cause (w := 1) rfl rfl
        (Nat.lt_of_le_of_lt h.2 (by decide))))
    · exact counts_congr (s := (s.put O.atlLastResetCause cause).put O.atlState 2) (t := a)
        ((State.nat_put_ne (by decide)).trans (State.nat_put_ne (by decide))).symm rfl (counts_bump _ _ (w := 4) rfl rfl)
    · exact (State.nat_bump_ne (by decide)).trans ((State.nat_put_ne (by decide)).trans (State.nat_put_ne (by decide)))
  obtain ⟨hstate, hcause, hcount, hlock, hlog⟩ := ha
  have hb : b.nat O.atlState = 2 ∧ b.nat O.atlLastResetCause = cause ∧ counts s b O.warmResetCount 1 ∧ (cause = 3 → counts s b O.lockstepCount 1) ∧ b.log = s.log := by
    unfold b
    split
    · exact ⟨(State.nat_bump_ne (by decide)).trans hstate, (State.nat_bump_ne (by decide)).trans hcause, counts_congr rfl (State.nat_bump_ne (by decide)) hcount,
        fun _ => counts_congr hlock.symm rfl (counts_bump _ _ (w := 4) rfl rfl), by simpa [State.bump, State.bumpBy] using hlog⟩
    · next hne => exact ⟨hstate, hcause, hcount, fun h => absurd h hne, hlog⟩
  obtain ⟨hstate, hcause, hcount, hlock, hlog⟩ := hb
  clear_value b a
  let e := (b.modAtl fun a => { a with faultResets := (a.faultResets.filter fun t => sec < t + 3600) ++ [sec] }).put O.atlLastStatus code
  have hd : d = e.raise 8 0 b.atl.faultResets.length code := if_pos h
  have hval : ∀ q ∈ resetObjs, (d.modAtl fun a => { a with resetAt := d.clk.now }).nat q = b.nat q := by
    intro q hq
    rw [(State.modAtl_vals _ _ _).2.2.1, hd, (State.raise_vals _ _ _ _ _ _ ((by decide +kernel : ∀ q ∈ resetObjs, touched 306916927898379527127040 q.key = false) q hq)).2.2.1,
      State.nat_put_ne ((by decide : ∀ q ∈ resetObjs, q.key ≠ O.atlLastStatus.key) q hq), (State.modAtl_vals _ _ _).2.2.1]
  rw [hval _ (by decide), hval _ (by decide)]
  refine ⟨hstate, hcause, counts_congr rfl (hval _ (by decide)) hcount, fun h3 => counts_congr rfl (hval _ (by decide)) (hlock h3), ?_⟩
  refine logged_congr (s := s) (t := d) rfl rfl ?_
  rw [hd]
  exact logged_raise s e 8 0 _ code [] (by simpa [e, State.modAtl] using hlog)

/-- A warm reset shows its cause and its counts as it noted them, and loses no log entry. -/
theorem resetKept_warmReset (s : State) (cause code : Nat) : ResetKept (resetNoted s cause code) (s.warmReset cause code) := by
  rw [warmReset_eq]
  exact (resetEffects_shows _).1.trans ⟨fun q _ => disarmed_val _ q, logGrows_of_eq (disarmed_keeps _).1⟩

theorem warmReset_badKick (s : State) (cause code : Nat) : (s.warmReset cause code).pln.badKick = s.pln.badKick := by
  have hbad : ∀ u : State, (disarmed u).pln.badKick = u.pln.badKick := fun _ => rfl
  have hnoted : (resetNoted s cause code).pln = s.pln := by
    unfold resetNoted
    extract_lets sec a b d
    have hraise : ∀ (u : State) (n : Nat), (u.raise 8 0 n code).pln = u.pln := fun u n =>
      ((State.raise_fr (p1 := 8) (p2 := 0) (p3 := n) (p4 := code) (p5 := []) (c := 31139577856) (r := 306916927898379527127040) rfl rfl (fr_refl u)).1 .pln rfl).symm
    have hb : b.pln = s.pln := by
      unfold b
      split <;> simp [a, State.bump, State.bumpBy]
    have hd : d.pln = b.pln := by
      unfold d
      split
      · rw [hraise]; simp [State.modAtl]
      · split
        · exact (State.atlNote_keeps b code []).1
        · rfl
    exact hd.trans hb
  have heffects : ∀ u : State, u.resetEffects.pln = u.pln := fun u =>
    ((State.resetEffects_fr (c := 93625254064) (r := 594249904483210205445557583872) rfl rfl (fr_refl u)).1 .pln rfl).symm
  rw [warmReset_eq, hbad, heffects, hnoted]

theorem ResetKept.nat {s t : State} (h : ResetKept s t) {q : Obj} (hq : q ∈ resetObjs) : t.nat q = s.nat q := by unfold State.nat; rw [h.vals q hq]

theorem warmReset_fault (s : State) {cause : Nat} (code : Nat) (h : 3 ≤ cause ∧ cause ≤ 5) :
    ResetBegun s (s.warmReset cause code) cause code ∧ (cause = 3 → counts s (s.warmReset cause code) O.lockstepCount 1) := by
  obtain ⟨hstate, hcause, hcount, hlock, hlog⟩ := resetNoted_fault s code h
  obtain ⟨hdrop, -, harm⟩ := warmReset_dict s cause code
  have hkept := resetKept_warmReset s cause code
  exact ⟨⟨(hkept.nat (by decide)).trans hstate, (hkept.nat (by decide)).trans hcause, counts_congr rfl (hkept.nat (by decide)) hcount, harm, hdrop,
    logged_then_grows hlog hkept.grows⟩, fun h3 => counts_congr rfl (hkept.nat (by decide)) (hlock h3)⟩

/-- A lockstep mismatch or lost SRAM word resets Atelier while it runs or resets. -/
theorem atelierFault_begins {s : State} (hstate : s.nat O.atlState = 1 ∨ s.nat O.atlState = 2) :
    (ResetBegun s (cmdLockstepMismatch s) 3 0x1201 ∧ counts s (cmdLockstepMismatch s) O.lockstepCount 1) ∧ ResetBegun s (cmdSramUncorrectable s) 4 0x1202 := by
  unfold cmdLockstepMismatch cmdSramUncorrectable
  rw [if_pos hstate, if_pos hstate]
  obtain ⟨hlock, hcount⟩ := warmReset_fault s 0x1201 (cause := 3) (by decide)
  exact ⟨⟨hlock, hcount rfl⟩, (warmReset_fault s 0x1202 (cause := 4) (by decide)).1⟩

/-! ## The watchdog (R467, R468) -/

theorem watchdogExpires_begins (s : State) (bad : Bool) : ResetBegun s (watchdogExpires s bad) 5 0x1205 ∧ (watchdogExpires s bad).clk = s.clk ∧
    (watchdogExpires s bad).pln.badKick = bad := by
  unfold watchdogExpires
  have hkept : (∀ q, (s.modPln fun p => { p with badKick := bad, armed := false }).val q = s.val q) ∧
      (s.modPln fun p => { p with badKick := bad, armed := false }).log = s.log ∧ (s.modPln fun p => { p with badKick := bad, armed := false }).clk = s.clk ∧
      (s.modPln fun p => { p with badKick := bad, armed := false }).pln.badKick = bad := ⟨fun q => (State.modPln_vals _ _ _).1, rfl, rfl, rfl⟩
  generalize (s.modPln fun p => { p with badKick := bad, armed := false }) = u at hkept
  obtain ⟨hval, hlog, hclk, hbad⟩ := hkept
  have hframe := State.warmReset_fr (p1 := 5) (p2 := 0x1205) (c := 102484689072) (r := 632626352617984892346950221824) rfl rfl (fr_refl u)
  refine ⟨(warmReset_fault u 0x1205 (cause := 5) (by decide)).1.congr hval hlog, (hframe.1 .clk rfl).symm.trans hclk, ?_⟩
  rw [warmReset_badKick, hbad]

theorem watchdogExpiry_begins {s : State} (harmed : s.pln.armed = true) :
    ResetBegun s (cmdWatchdogExpiry s) 5 0x1205 ∧ s.pln.deadline ≤ (cmdWatchdogExpiry s).clk.now := by
  unfold cmdWatchdogExpiry
  rw [if_pos harmed]
  obtain ⟨hbegun, hclk, -⟩ := watchdogExpires_begins (s.elapseTo s.pln.deadline) false
  exact ⟨hbegun.congr (fun q => (State.elapseTo_vals _ _ _).1) (by simp), by rw [hclk]; exact s.elapseTo_reached _⟩

theorem plnWdKick_wrong {s : State} {v : Nat} (harmed : s.pln.armed = true) (hv : v ≠ 65535 - s.pln.token.toNat) :
    ResetBegun s (cmdPlnWdKick s v) 5 0x1205 ∧ (cmdPlnWdKick s v).pln.badKick = true := by
  have ht : cmdPlnWdKick s v = watchdogExpires s true := by simp [cmdPlnWdKick, harmed, hv]
  obtain ⟨hbegun, -, hbad⟩ := watchdogExpires_begins s true
  rw [ht]
  exact ⟨hbegun, hbad⟩

theorem plnWdKick_right {s : State} {v : Nat} (harmed : s.pln.armed = true) (hv : v = 65535 - s.pln.token.toNat) :
    (cmdPlnWdKick s v).pln.armed = true ∧ (cmdPlnWdKick s v).pln.deadline = s.clk.now + s.nat O.plinthWdPeriod * 1000000 ∧ (cmdPlnWdKick s v).obj = s.obj := by
  have hkept : ∀ (u : State) (f : Pln → Pln), (u.modPln f).drawFree.pln = f u.pln ∧ (u.modPln f).drawFree.obj = u.obj := by simp [State.modPln]
  unfold cmdPlnWdKick
  rw [if_neg (by simp [harmed]), if_pos hv, (hkept s _).1, (hkept s _).2]
  exact ⟨harmed, rfl, rfl⟩

/-! ## The end of a warm reset (R429, R431, R438) -/

/-- Atelier halted or in recovery asserts FAULT_N (R498). -/
theorem State.refreshFaults_atelier {s : State} (h : s.nat O.atlState = 3 ∨ s.nat O.atlState = 4) : s.refreshFaults.flag O.faultNAsserted = true := by
  unfold State.refreshFaults
  extract_lets u v
  have hu : u.nat O.atlState = s.nat O.atlState := (State.nat_put_ne (by decide)).trans ((State.nat_put_ne (by decide)).trans (State.nat_put_ne (by decide)))
  have hv : v.nat O.atlState = s.nat O.atlState := by
    rw [← hu]
    unfold v
    split
    · exact (State.suspend_vals u 3 (by decide +kernel)).2.2.1
    · exact (State.resume_vals u 3 (by decide +kernel)).2.2.1
  have hN : v.faultN = true := by
    unfold State.faultN
    rw [hv]
    rcases h with h | h <;> simp [h]
  rw [hN]
  exact (State.flag_put_same _ _ _).trans (by decide)

theorem State.refreshFaults_atlState (s : State) : s.refreshFaults.nat O.atlState = s.nat O.atlState := (State.refreshFaults_vals s (by decide +kernel)).2.2.1

theorem State.atlNote_vals {q : Obj} (s : State) (code : Nat) (param : List Nat) (hq : touched 19807040628566084398393327616 q.key = false) :
    (s.atlNote code param).nat q = s.nat q :=
  (vals_of_fr (State.atlNote_fr (c := 22548578304) (r := 19807040628566084398393327616) rfl rfl (fr_refl s)) rfl rfl (by decide) hq).2.2.1

theorem logGrows_atlNote (s : State) (code : Nat) (param : List Nat) : logGrows s (s.atlNote code param) :=
  (logGrows_of_eq (t := s.put O.atlLastStatus code) (by simp)).trans (logGrows_postWith _ false code param)

theorem logged_atlNote {s u : State} (hs : logGrows s u) (code : Nat) (param : List Nat) : logged s (u.atlNote code param) (code, param) :=
  logged_of_grows hs (logged_of_post (u := u.put O.atlLastStatus code) false code param (by simp) (logGrows_of_eq rfl))

/-- Every uncorrectable read is logged with its address (R438). -/
theorem logged_noteNor (s : State) (ue : List NorUe) : logGrows s (s.noteNor ue) ∧ ∀ u ∈ ue, logged s (s.noteNor ue) (0x1208, [u.addr]) := by
  unfold State.noteNor
  induction ue generalizing s with
  | nil => exact ⟨logGrows_of_eq rfl, fun u hu => absurd hu List.not_mem_nil⟩
  | cons x l ih =>
    have hbump : logGrows s (s.bump O.norEccCount) := logGrows_of_eq (by simp [State.bump, State.bumpBy])
    obtain ⟨hgrows, hall⟩ := ih ((s.bump O.norEccCount).atlNote 0x1208 [x.addr])
    have hone : logGrows s ((s.bump O.norEccCount).atlNote 0x1208 [x.addr]) := hbump.trans (logGrows_atlNote _ _ _)
    refine ⟨hone.trans hgrows, fun u hu => ?_⟩
    rcases List.mem_cons.mp hu with rfl | hu
    · exact logged_then_grows (logged_atlNote hbump _ _) hgrows
    · exact logged_of_grows hone (hall u hu)

/-- NOR read with errors: what it keeps and what it logs. -/
theorem readNor_keeps (s : State) (ue : List NorUe) :
    (s.readNor ue).atl = s.atl ∧ (s.readNor ue).clk = s.clk ∧ (∀ q, touched 696898287454101780213619762104659690389504 q.key = false → (s.readNor ue).nat q = s.nat q) ∧
    logGrows s (s.readNor ue) ∧ ∀ u ∈ ue, logged s (s.readNor ue) (0x1208, [u.addr]) := by
  have h := State.readNor_fr (p1 := ue) (c := 22615687168) (r := 696898287454101780213619762104659690389504) rfl rfl (fr_refl s)
  obtain ⟨hgrows, hall⟩ := logged_noteNor (s.modNor fun n => ue.foldl Nor.lose n) ue
  exact ⟨(h.1 .atl rfl).symm, (h.1 .clk rfl).symm, fun q hq => (vals_of_fr h rfl rfl (by decide) hq).2.2.1, (logGrows_of_eq rfl).trans hgrows,
    fun u hu => logged_congr rfl rfl (hall u hu)⟩

/-- The firmware of a slot is entered (R433, R467). -/
theorem enterFirmware_eq {s : State} {k : Nat} {i : FwImage} (hslot : s.atl.bootSlot = some k) (hfw : s.nor.fw.getD k none = some i) :
    s.enterFirmware = (((({ s with pln := { s.pln with
      armed := true, token := s.nextToken, deadline := s.clk.now + s.nat O.plinthWdPeriod * 1000000 } } : State).drawFree).put O.firmwareVersion i.version).modAtl
        fun x => { x with runningSince := s.clk.now }) := by
  unfold State.enterFirmware
  rw [hslot]
  dsimp only
  rw [hfw]

theorem enterFirmware_shows {s : State} {k : Nat} {i : FwImage} (hslot : s.atl.bootSlot = some k) (hfw : s.nor.fw.getD k none = some i) :
    let t := s.enterFirmware
    t.nat O.atlState = s.nat O.atlState ∧ shows t O.firmwareVersion i.version ∧ t.atl.bootSlot = some k ∧ t.atl.resetAt = s.atl.resetAt ∧ t.pln.armed = true ∧
      t.pln.deadline = s.clk.now + s.nat O.plinthWdPeriod * 1000000 ∧ t.clk = s.clk ∧ t.log = s.log := by
  intro t
  have ht : t = _ := enterFirmware_eq hslot hfw
  have hnat : ∀ (p : Pln) (q : Obj), ({ s with pln := p } : State).nat q = s.nat q := fun _ _ => rfl
  have hatl : ∀ (u : State) (f : Atl → Atl) (q : Obj), (u.modAtl f).nat q = u.nat q := fun u f q => (State.modAtl_vals _ _ _).2.2.1
  rw [ht]
  refine ⟨?_, ?_, ?_, ?_, ?_, ?_, ?_, ?_⟩
  · rw [hatl, State.nat_put_ne (by decide), (State.drawFree_vals _ _).2.2.1, hnat]
  · exact (hatl _ _ _).trans (shows_put _ O.firmwareVersion _ rfl rfl)
  all_goals simp [State.modAtl, hslot]

/-- What a boot tells: faults of Atelier settle, torn areas are logged, the slots are shown. -/
def bootTold (s : State) : State := (s.settle 8 0).reportTorn.showSlots

theorem bootTold_frame (s : State) : Fr0 (31139577856 ||| 22615687168) (4685472994722233450496 ||| 19807040628566084398393327616 ||| 4763953136893138488487244504044754960384) s (bootTold s) :=
  State.showSlots_fr rfl rfl (State.reportTorn_fr rfl rfl (State.settle_fr rfl rfl (fr_refl s)))

theorem logGrows_foldl {α : Type} {f : State → α → State} (h : ∀ s a, logGrows s (f s a)) (l : List α) (s : State) : logGrows s (l.foldl f s) := by
  induction l generalizing s with
  | nil => exact logGrows_of_eq rfl
  | cons a l ih => exact (h s a).trans (ih _)

theorem logGrows_bootTold (s : State) : logGrows s (bootTold s) := by
  have htorn : ∀ u : State, logGrows u u.reportTorn := fun u => by
    unfold State.reportTorn
    exact (logGrows_foldl (fun v a => logGrows_atlNote v 0x1207 [a]) u.nor.torn u).trans (logGrows_of_eq rfl)
  have hshow : ∀ u : State, u.showSlots.log = u.log := fun u => ((State.showSlots_fr (c := 0) (r := 4763953136893138488487244504044754960384) rfl rfl (fr_refl u)).1 .log rfl).symm
  exact (logGrows_settleIf s 8 _).trans ((htorn _).trans (logGrows_of_eq (hshow _)))

/-- The boot of a chosen slot at the end of a warm reset. -/
def resetBooted (b : State) : State :=
  let e := (b.put O.atlState 1).enterFirmware
  (bootTold e).atlNote 0x1206 [((e.settle 8 0).clk.now - (e.settle 8 0).atl.resetAt) / 1000000]

/-- The recovery at the end of a warm reset. -/
def resetRecovered (b : State) : State := ((b.put O.atlState 4).modAtl fun a => { a with wasRecovery := true }).refreshFaults

theorem cmdWarmResetDone_eq {s : State} (ue : List NorUe) (hstate : s.nat O.atlState = 2) (hheld : (s.island 30).held = false)
    (hfault : ¬ (3 ≤ s.nat O.atlLastResetCause ∧ s.nat O.atlLastResetCause ≤ 5 ∧ 3 ≤ s.atl.faultResets.length)) :
    cmdWarmResetDone s ue = let b := (s.readNor ue).bootSelect; if b.atl.bootSlot.isNone then resetRecovered b else resetBooted b := by
  unfold cmdWarmResetDone
  rw [if_neg (by simp [hstate, hheld])]
  dsimp only
  rw [if_neg hfault]
  rfl

theorem warmResetDone_halts {s : State} (ue : List NorUe) (hstate : s.nat O.atlState = 2) (hheld : (s.island 30).held = false)
    (hfault : 3 ≤ s.nat O.atlLastResetCause ∧ s.nat O.atlLastResetCause ≤ 5 ∧ 3 ≤ s.atl.faultResets.length) :
    let t := cmdWarmResetDone s ue
    t.nat O.atlState = 3 ∧ t.flag O.faultNAsserted = true ∧ logged s t (0x1204, []) := by
  have ht : cmdWarmResetDone s ue = ((s.put O.atlState 3).atlNote 0x1204).refreshFaults := by
    unfold cmdWarmResetDone
    rw [if_neg (by simp [hstate, hheld])]
    exact if_pos hfault
  have h3 : ((s.put O.atlState 3).atlNote 0x1204).nat O.atlState = 3 :=
    (State.atlNote_vals _ _ _ (by decide +kernel)).trans (State.nat_put_fits s O.atlState 3 (w := 1) rfl rfl (by decide))
  rw [ht]
  exact ⟨(State.refreshFaults_atlState _).trans h3, State.refreshFaults_atelier (Or.inl h3),
    logged_then_grows (logged_atlNote (logGrows_of_eq (by simp)) _ _) (logGrows_refreshFaults _)⟩

/-- The slot that the boot ROM chooses where no trial is pending, with what the choice leaves. -/
theorem bootSelect_noTrial {s : State} (htrial : s.nor.trial = none) :
    s.bootSelect.atl.bootSlot = (if s.slotBoots s.nor.active then some s.nor.active else if s.slotBoots (1 - s.nor.active) then some (1 - s.nor.active) else none) ∧
    s.bootSelect.nor = s.nor ∧ s.bootSelect.atl.resetAt = s.atl.resetAt ∧ s.bootSelect.clk = s.clk ∧ s.bootSelect.log = s.log ∧ ∀ q, s.bootSelect.nat q = s.nat q := by
  unfold State.bootSelect
  rw [htrial]
  exact ⟨by simp [State.bootActive, State.modAtl], rfl, rfl, rfl, rfl, fun _ => rfl⟩

theorem resetRecovered_shows (b : State) : (resetRecovered b).nat O.atlState = 4 ∧ (resetRecovered b).flag O.faultNAsserted = true ∧ logGrows b (resetRecovered b) := by
  unfold resetRecovered
  have h4 : ((b.put O.atlState 4).modAtl fun a => { a with wasRecovery := true }).nat O.atlState = 4 :=
    ((State.modAtl_vals _ _ _).2.2.1).trans (State.nat_put_fits b O.atlState 4 (w := 1) rfl rfl (by decide))
  exact ⟨(State.refreshFaults_atlState _).trans h4, State.refreshFaults_atelier (Or.inr h4), (logGrows_of_eq (by simp [State.modAtl])).trans (logGrows_refreshFaults _)⟩

theorem resetBooted_shows {b : State} {k : Nat} {i : FwImage} (hslot : b.atl.bootSlot = some k) (hfw : b.nor.fw.getD k none = some i) :
    let t := resetBooted b
    t.nat O.atlState = 1 ∧ t.atl.bootSlot = some k ∧ shows t O.firmwareVersion i.version ∧ t.pln.armed = true ∧
      t.pln.deadline = b.clk.now + b.nat O.plinthWdPeriod * 1000000 ∧ logged b t (0x1206, [(b.clk.now - b.atl.resetAt) / 1000000]) ∧ logGrows b t := by
  intro t
  have ht : t = resetBooted b := rfl
  have hput : (b.put O.atlState 1).atl = b.atl ∧ (b.put O.atlState 1).nor = b.nor ∧ (b.put O.atlState 1).clk = b.clk ∧ (b.put O.atlState 1).log = b.log := by simp
  obtain ⟨hpatl, hpnor, hpclk, hplog⟩ := hput
  obtain ⟨hstate, hversion, hbs, hreset, harmed, hdead, hclk, hlog⟩ := enterFirmware_shows (s := b.put O.atlState 1) (by rw [hpatl]; exact hslot) (by rw [hpnor]; exact hfw)
  have hone : (b.put O.atlState 1).nat O.atlState = 1 := State.nat_put_fits b O.atlState 1 (w := 1) rfl rfl (by decide)
  rw [hone] at hstate
  rw [hpatl] at hreset
  rw [hpclk, State.nat_put_ne (by decide)] at hdead
  rw [hpclk] at hclk
  rw [hplog] at hlog
  unfold resetBooted at ht
  clear_value t
  generalize (b.put O.atlState 1).enterFirmware = e at *
  have hframe := State.atlNote_fr (p1 := 0x1206) (p2 := [((e.settle 8 0).clk.now - (e.settle 8 0).atl.resetAt) / 1000000])
    (c := 31139577856 ||| 22615687168) (r := 4685472994722233450496 ||| 19807040628566084398393327616 ||| 4763953136893138488487244504044754960384) rfl rfl (bootTold_frame e)
  have hlast := logged_atlNote (logGrows_bootTold e) 0x1206 [((e.settle 8 0).clk.now - (e.settle 8 0).atl.resetAt) / 1000000]
  have hgrows := (logGrows_bootTold e).trans (logGrows_atlNote (bootTold e) 0x1206 [((e.settle 8 0).clk.now - (e.settle 8 0).atl.resetAt) / 1000000])
  rw [← ht] at hframe hlast hgrows
  have hnat : ∀ q ∈ [O.atlState, O.firmwareVersion], t.nat q = e.nat q := fun q hq =>
    (vals_of_fr hframe rfl rfl (by decide) ((by decide +kernel : ∀ q ∈ [O.atlState, O.firmwareVersion],
      touched (4685472994722233450496 ||| 19807040628566084398393327616 ||| 4763953136893138488487244504044754960384) q.key = false) q hq)).2.2.1
  have hatl : t.atl = e.atl := (hframe.1 .atl rfl).symm
  have hpln : t.pln = e.pln := (hframe.1 .pln rfl).symm
  have hsettle := State.settle_fr (p1 := 8) (p2 := 0) (c := 31139577856) (r := 4685472994722233450496) rfl rfl (fr_refl e)
  have hsclk : (e.settle 8 0).clk = e.clk := (hsettle.1 .clk rfl).symm
  have hsatl : (e.settle 8 0).atl = e.atl := (hsettle.1 .atl rfl).symm
  rw [hsclk, hsatl, hclk, hreset] at hlast
  refine ⟨(hnat _ (by decide)).trans hstate, by rw [hatl]; exact hbs, shows_congr (hnat _ (by decide)) hversion, by rw [hpln]; exact harmed, by rw [hpln]; exact hdead,
    logged_congr hlog.symm rfl hlast, (logGrows_of_eq hlog).trans hgrows⟩

/-! ## The confirmation of a trial (R442) -/

/-- The trial slot made active, behind the 60 s. -/
def trialBooked (s : State) (k : Nat) : State :=
  let s := s.modAtl fun a => { a with trialRuns := false }
  let s := (s.modNor fun n => n.setSel k none false).bump O.updateCount
  let v := match s.nor.fw.getD k none with
    | none => 0
    | some i => i.arb
  let s : State := { s with pln := { s.pln with arb := max s.pln.arb (min v 128) } }
  (if 128 < v then s.atlNote 0x120F else s).showSlots

theorem cmdTrialConfirm_eq {s : State} {k : Nat} (htrial : s.nor.trial = some k) (hdie : s.die = .running) (hstate : s.nat O.atlState = 1)
    (hruns : s.atl.trialRuns = true) : cmdTrialConfirm s = trialBooked (s.elapseTo (s.atl.runningSince + 60000000000)) k := by
  have hgo : ¬ (!s.atlRuns || !s.atl.trialRuns) = true := by simp [State.atlRuns, State.live, hdie, hstate, hruns]
  unfold cmdTrialConfirm
  rw [htrial]
  exact if_neg hgo

theorem State.showSlots_active (s : State) : shows s.showSlots O.fwActiveSlot s.nor.active := by
  unfold State.showSlots
  have hput : ∀ (u : State) (a b : Int), ((u.put O.fwActiveSlot a).put O.arbCount b).nat O.fwActiveSlot = (u.put O.fwActiveSlot a).nat O.fwActiveSlot := fun u a b => State.nat_put_ne (by decide)
  exact shows_congr (hput _ _ _) (shows_put _ O.fwActiveSlot _ rfl rfl)

theorem trialBooked_shows {s : State} {k : Nat} {i : FwImage} (hfw : s.nor.fw.getD k none = some i) :
    (trialBooked s k).nor = s.nor.setSel k none false ∧ counts s (trialBooked s k) O.updateCount 1 ∧ (trialBooked s k).pln.arb = max s.pln.arb (min i.arb 128) ∧
      (trialBooked s k).clk = s.clk ∧ shows (trialBooked s k) O.fwActiveSlot k := by
  unfold trialBooked
  extract_lets a b v src u
  have hb : b.nor = s.nor.setSel k none false ∧ b.pln = s.pln ∧ b.clk = s.clk := by simp [b, a, State.bump, State.bumpBy, State.modNor, State.modAtl]
  have hcount : counts s b O.updateCount 1 :=
    counts_congr (s := (a.modNor fun n => n.setSel k none false)) (((State.modNor_vals _ _ _).2.2.1.trans (State.modAtl_vals _ _ _).2.2.1).symm) rfl (counts_bump _ _ (w := 4) rfl rfl)
  have hv : v = i.arb := by
    have hbfw : b.nor.fw.getD k none = some i := by rw [hb.1]; exact hfw
    unfold v
    rw [hbfw]
  have hu : u.nor = b.nor ∧ u.pln.arb = max b.pln.arb (min v 128) ∧ u.clk = b.clk ∧ ∀ q, u.nat q = b.nat q := ⟨rfl, rfl, rfl, fun _ => rfl⟩
  clear_value u v src b
  obtain ⟨hunor, hupln, huclk, hunat⟩ := hu
  let w := if 128 < v then u.atlNote 0x120F else u
  have hw : w.nor = u.nor ∧ w.pln = u.pln ∧ w.clk = u.clk ∧ w.nat O.updateCount = u.nat O.updateCount := by
    unfold w
    split
    · obtain ⟨hpln, -, hclk, hnor⟩ := State.atlNote_keeps u 0x120F []
      exact ⟨hnor, hpln, hclk, State.atlNote_vals _ _ _ (by decide +kernel)⟩
    · exact ⟨rfl, rfl, rfl, rfl⟩
  obtain ⟨hwnor, hwpln, hwclk, hwnat⟩ := hw
  have hframe := State.showSlots_fr (c := 0) (r := 4763953136893138488487244504044754960384) rfl rfl (fr_refl w)
  have hnor : w.nor = s.nor.setSel k none false := hwnor.trans (hunor.trans hb.1)
  refine ⟨(hframe.1 .nor rfl).symm.trans hnor, counts_congr rfl ?_ hcount, ?_, (hframe.1 .clk rfl).symm.trans (hwclk.trans (huclk.trans hb.2.2)), ?_⟩
  · exact (vals_of_fr hframe rfl rfl (by decide) (by decide +kernel)).2.2.1.trans (hwnat.trans (hunat _))
  · rw [show w.showSlots.pln = w.pln from (hframe.1 .pln rfl).symm, hwpln, hupln, hb.2.1, hv]
  · have hactive : w.nor.active = k := congrArg Nor.active hnor
    have hshown := w.showSlots_active
    rwa [hactive] at hshown

theorem trialConfirm_shows {s : State} {k : Nat} {i : FwImage} (htrial : s.nor.trial = some k) (hdie : s.die = .running) (hstate : s.nat O.atlState = 1)
    (hruns : s.atl.trialRuns = true) (hfw : s.nor.fw.getD k none = some i) :
    let t := cmdTrialConfirm s
    t.nor = s.nor.setSel k none false ∧ counts s t O.updateCount 1 ∧ t.pln.arb = max s.pln.arb (min i.arb 128) ∧
      s.atl.runningSince + 60000000000 ≤ t.clk.now ∧ shows t O.fwActiveSlot k := by
  have hkept : ∀ t, (s.elapseTo t).nor = s.nor ∧ (s.elapseTo t).pln = s.pln ∧ (s.elapseTo t).nat O.updateCount = s.nat O.updateCount :=
    fun t => ⟨by simp, by simp, (State.elapseTo_vals _ _ _).2.2.1⟩
  rw [cmdTrialConfirm_eq htrial hdie hstate hruns]
  have hreach := s.elapseTo_reached (s.atl.runningSince + 60000000000)
  obtain ⟨hnor, hpln, hcount⟩ := hkept (s.atl.runningSince + 60000000000)
  generalize s.elapseTo (s.atl.runningSince + 60000000000) = e at *
  obtain ⟨h1, h2, h3, h4, h5⟩ := trialBooked_shows (s := e) (k := k) (by rw [hnor]; exact hfw)
  exact ⟨by rw [h1, hnor], counts_congr hcount.symm rfl h2, by rw [h3, hpln], by rw [h4]; exact hreach, h5⟩

/-- Settles O44. -/
theorem warmResets : Obligations.WarmResets := by
  refine ⟨fun s hdie => ⟨fun hstate => ?_, fun harmed => ⟨?_, fun v => ⟨fun hv => ?_, fun hv => ?_⟩⟩⟩, fun s hdie => ⟨fun ue hstate hheld => ⟨fun hfault => ?_, ?_, ?_⟩, ?_⟩⟩
  · obtain ⟨⟨hlock, hcount⟩, hsram⟩ := atelierFault_begins hstate
    exact ⟨gives_of_live hdie rfl ⟨hlock.all, hcount⟩, gives_of_live hdie rfl hsram.all⟩
  · obtain ⟨hbegun, hclk⟩ := watchdogExpiry_begins harmed
    exact gives_of_live hdie rfl ⟨hbegun.all, hclk⟩
  · obtain ⟨hbegun, hbad⟩ := plnWdKick_wrong harmed hv
    exact gives_of_live hdie rfl ⟨hbegun.all, hbad⟩
  · exact gives_of_live hdie rfl (plnWdKick_right harmed hv)
  · exact gives_of_live hdie rfl (warmResetDone_halts ue hstate hheld hfault)
  · intro i hfault htrial hboots hfw
    obtain ⟨hslot, hnor, hreset, hclk, hlog, hnat⟩ := bootSelect_noTrial htrial
    rw [if_pos hboots] at hslot
    obtain ⟨hratl, hrclk, hrnat, hrlog, hrall⟩ := readNor_keeps s ue
    obtain ⟨h1, h2, h3, h4, h5, h6, h7⟩ := resetBooted_shows hslot (by rw [hnor]; exact hfw)
    have ht : cmdWarmResetDone s ue = resetBooted (s.readNor ue).bootSelect := (cmdWarmResetDone_eq ue hstate hheld hfault).trans (if_neg (by rw [hslot]; simp))
    rw [hclk, hreset, hratl, hrclk] at h6
    rw [hclk, hrclk, hnat, hrnat _ (by decide +kernel)] at h5
    rw [← ht] at h1 h2 h3 h4 h5 h6 h7
    exact gives_of_live hdie rfl ⟨h1, h2, h3, h4, h5, logged_of_grows (hrlog.trans (logGrows_of_eq hlog)) h6,
      fun u hu => logged_then_grows (hrall u hu) ((logGrows_of_eq hlog).trans h7)⟩
  · intro hfault htrial hactive hother
    obtain ⟨hslot, -, -, -, hlog, -⟩ := bootSelect_noTrial htrial
    rw [if_neg (by simp [hactive]), if_neg (by simp [hother])] at hslot
    obtain ⟨-, -, -, -, hrall⟩ := readNor_keeps s ue
    obtain ⟨h1, h2, h3⟩ := resetRecovered_shows (s.readNor ue).bootSelect
    have ht : cmdWarmResetDone s ue = resetRecovered (s.readNor ue).bootSelect := (cmdWarmResetDone_eq ue hstate hheld hfault).trans (if_pos (by rw [hslot]; rfl))
    rw [← ht] at h1 h2 h3
    exact gives_of_live hdie rfl ⟨h1, h2, fun u hu => logged_then_grows (hrall u hu) ((logGrows_of_eq hlog).trans h3)⟩
  · intro k i htrial hstate hruns hfw
    exact gives_of_live hdie rfl (trialConfirm_shows htrial hdie hstate hruns hfw)

end Sys2Proof.Machine
end

section
/-! The CRC units and the alive counter (R450 to R453), and how the engine serves a row that writes a command object (R383). -/

set_option Elab.async false

namespace Sys2Proof.Machine

/-! ## The write of a command object -/

/-- A command object: found at its place and written only, with no part in the functions, the banks, the swap and the PTP slots. -/
structure CommandObj (o : Obj) : Prop where
  place : o.index < 0xC000 ∧ objAt o.index o.sub = some o
  access : o.access = .wo
  ty : o.ty ≠ .domain
  swap : o.key ≠ O.cfgSwapRequest.key
  enable : (allFns.find? fun f => f.enableObj.key == o.key) = none
  slot : ¬ (o.index = 0x1200 ∨ o.index = 0x1201)

theorem CommandObj.writable {o : Obj} (ho : CommandObj o) {v : Bytes} (s : State) (hlen : lengthOk o v.length = true) (hrange : rangeOk o v = true) :
    s.writeObj false o.index o.sub v = .ok o := by
  obtain ⟨hlt, hat⟩ := ho.place
  have hfind : findObj o.index o.sub = .ok o := by
    unfold findObj
    rw [if_neg (by omega), if_neg (by omega), hat]
  unfold State.writeObj
  rw [hfind]
  simp [ho.access, ho.ty, hlen, hrange]

theorem CommandObj.effect {o : Obj} (ho : CommandObj o) (s : State) (a : Ask) (v : Bytes) : s.writeEffect a o v = s.writeCommand a o v (leNat v) := by
  unfold State.writeEffect
  rw [ho.enable]
  dsimp only
  rw [if_neg (by rw [ho.access]; decide), if_neg ho.slot]

theorem servable_action {s : State} {p : Party} (h : servable s p) : p.action = none := by
  obtain ⟨-, -, -, ha, -⟩ := h
  exact ha

/-- A command that the engine takes has its effect, and is answered with the effect's status (R383). -/
theorem serves_command {c : Instr} {s : State} {p : Party} {o : Obj} {v : Bytes} {status : Nat} {P : State → Prop}
    (hc : exec c s = .next (s.ifLive fun s => rowWrite s p o v)) (ho : CommandObj o) (hlen : lengthOk o v.length = true) (hrange : rangeOk o v = true)
    (hP : ∀ (d : Dict) (a : Ask), a.party = p → a.vx = none → (({ s with dict := d } : State).writeCommand a o v (leNat v)).1 = status ∧
      P ((({ s with dict := d } : State).writeCommand a o v (leNat v)).2.answer a { status := status })) : serves c s p status P := by
  intro h
  have hact := servable_action h
  obtain ⟨d, -, hd⟩ := asked_eq s p (.write o.index o.sub v)
  obtain ⟨hst, hPt⟩ := hP d { party := p, op := .write o.index o.sub v } rfl rfl
  have hrow : rowWrite s p o v = (({ s with dict := d } : State).writeCommand { party := p, op := .write o.index o.sub v } o v (leNat v)).2.answer
      { party := p, op := .write o.index o.sub v } { status := status } := by
    unfold rowWrite
    rw [request_write h (ho.writable _ hlen hrange) ho.swap (.inl (by rw [ho.access]; decide)), ho.effect, hd, hst]
  refine gives_of_live h.1 hc ?_
  rw [hrow]
  exact ⟨answered_answer _ _ { status := status } hact rfl, hPt⟩

/-! ## The alive counter after a start or a reset (R453) -/

/-- An answer in the window leaves the alive counter. -/
theorem answer_nextAlive (s : State) {a : Ask} (r : Reply) (hroute : a.party.route = .bar2) (ha : a.party.action = none) (hv : a.vx = none) :
    (s.answer a r).nextAlive = s.nextAlive := by
  have hirq : ∀ u : State, (u.irq 6).dict = u.dict := fun u => ((State.irq_fr (c := 18253611008) (r := 0) rfl rfl (fr_refl u)).1 .dict rfl).symm
  have hrecent : (s.recent r.status).dict = s.dict := ((State.recent_fr (c := 48) (r := 137438953472) rfl rfl (fr_refl s)).1 .dict rfl).symm
  unfold State.answer
  extract_lets u w
  have hw : w.dict = s.dict := by
    rw [← hrecent]
    unfold w
    split
    · simp [u, State.bump, State.bumpBy]
    · rfl
  simp only [ha, hv, hroute, if_true]
  unfold State.answerWindow State.nextAlive
  simp only [hirq, State.modDict, hw]

theorem O.atlWarmReset_command : CommandObj O.atlWarmReset := ⟨by decide +kernel, rfl, by decide, by decide, by decide +kernel, by decide⟩

theorem O.updateApply_command : CommandObj O.updateApply := ⟨by decide +kernel, rfl, by decide, by decide, by decide +kernel, by decide⟩

theorem writeCommand_atlWarmReset (s : State) (a : Ask) (v : Bytes) (n : Nat) : s.writeCommand a O.atlWarmReset v n = atlWarmResetWrite s := by
  have hkey : O.atlWarmReset.key = 0xA00002 := by decide
  unfold State.writeCommand
  simp only [hkey]

theorem writeCommand_updateApply (s : State) (a : Ask) (v : Bytes) (n : Nat) : s.writeCommand a O.updateApply v n = updateApplyWrite s := by
  have hkey : O.updateApply.key = 0xA40003 := by decide
  unfold State.writeCommand
  simp only [hkey]

theorem atlWarmReset_nextAlive (s : State) {p : Party} (hroute : p.route = .bar2) (hact : p.action = none) : serves (.atlWarmReset p) s p 0 fun t => t.nextAlive = 0 := by
  refine serves_command rfl O.atlWarmReset_command rfl rfl fun d a hp hv => ?_
  rw [writeCommand_atlWarmReset]
  exact ⟨rfl, (answer_nextAlive _ _ (by rw [hp]; exact hroute) (by rw [hp]; exact hact) hv).trans (warmReset_nextAlive _ _ _)⟩

theorem updateApply_nextAlive {s : State} {p : Party} (hroute : p.route = .bar2) (hact : p.action = none) (hstate : s.nat O.updateState = 4) (hkind : fieldN s.atl.image 6 1 = 1) :
    serves (.updateApply p) s p 0 fun t => t.nextAlive = 0 := by
  refine serves_command rfl O.updateApply_command rfl rfl fun d a hp hv => ?_
  rw [writeCommand_updateApply]
  have hw : ∃ u : State, updateApplyWrite { s with dict := d } = (0, u.warmReset 6 0x120D) :=
    ⟨_, if_neg (by rintro (h | h); exacts [h hstate, h hkind])⟩
  obtain ⟨u, hu⟩ := hw
  rw [hu]
  exact ⟨rfl, (answer_nextAlive _ _ (by rw [hp]; exact hroute) (by rw [hp]; exact hact) hv).trans (warmReset_nextAlive _ _ _)⟩

/-! ## The units (R450 to R453) -/

theorem xor_xor_ones (v : Nat) : Nat.xor (Nat.xor v 0xFFFFFFFF) 0xFFFFFFFF = v := Nat.xor_xor_cancel_right v _

/-- A unit after a change of it, and the others. -/
theorem State.modCrc_units {s : State} {u : Nat} (f : CrcUnit → CrcUnit) (hu : u < s.atl.crc.length) :
    (s.modCrc u f).atl.crc.getD u {} = f (s.atl.crc.getD u {}) ∧ ∀ k, k ≠ u → (s.modCrc u f).atl.crc.getD k {} = s.atl.crc.getD k {} :=
  ⟨getD_modAt_same f {} hu, fun _ hk => getD_modAt_ne f {} hk⟩

theorem cmdCrcAlive_eq {s : State} (hrun : s.atlRuns = true) : cmdCrcAlive s 0 =
    if (s.atl.crc.getD 0 {}).count = 8 then
      ((s.put O.vipexAliveTx s.nextAlive).modDict fun d => { d with txAny := true, aliveTx := s.nextAlive }).modCrc 0 fun c =>
        { c with reg := crcFeed polyC c.reg [BitVec.ofNat 8 s.nextAlive], count := 9, result := s.nextAlive }
    else s.modCrc 0 fun c => { c with aliveErr := true, result := 0xFFFFFFFF } := by
  simp [cmdCrcAlive, hrun]

theorem crcAlive_taken {s : State} (hrun : s.atlRuns = true) (hlen : s.atl.crc.length = 4) (hcount : (s.atl.crc.getD 0 {}).count = 8) :
    let t := cmdCrcAlive s 0
    (t.atl.crc.getD 0 {}).result = s.nextAlive ∧ (t.atl.crc.getD 0 {}).count = 9 ∧
      (t.atl.crc.getD 0 {}).reg = crcFeed polyC (s.atl.crc.getD 0 {}).reg [BitVec.ofNat 8 s.nextAlive] ∧ shows t O.vipexAliveTx s.nextAlive ∧
      t.nextAlive = (if s.nextAlive = 255 then 1 else s.nextAlive + 1) ∧ ∀ k, k ≠ 0 → t.atl.crc.getD k {} = s.atl.crc.getD k {} := by
  rw [cmdCrcAlive_eq hrun, if_pos hcount]
  obtain ⟨hown, hothers⟩ := State.modCrc_units (s := (s.put O.vipexAliveTx s.nextAlive).modDict fun d => { d with txAny := true, aliveTx := s.nextAlive }) (u := 0)
    (fun c => { c with reg := crcFeed polyC c.reg [BitVec.ofNat 8 s.nextAlive], count := 9, result := s.nextAlive }) (by simp [State.modDict, hlen])
  have hatl : ((s.put O.vipexAliveTx s.nextAlive).modDict fun d => { d with txAny := true, aliveTx := s.nextAlive }).atl = s.atl := by simp [State.modDict]
  rw [hatl] at hown hothers
  dsimp only
  rw [hown]
  exact ⟨rfl, rfl, rfl, shows_congr ((State.modAtl_vals _ _ _).2.2.1.trans (State.modDict_vals _ _ _).2.2.1) (shows_put _ O.vipexAliveTx _ rfl rfl), rfl, hothers⟩

theorem crcAlive_refused {s : State} (hrun : s.atlRuns = true) (hlen : s.atl.crc.length = 4) (hcount : (s.atl.crc.getD 0 {}).count ≠ 8) :
    let t := cmdCrcAlive s 0
    t.atl.crc.getD 0 {} = { s.atl.crc.getD 0 {} with aliveErr := true, result := 0xFFFFFFFF } ∧ t.dict = s.dict ∧ t.obj = s.obj ∧
      ∀ k, k ≠ 0 → t.atl.crc.getD k {} = s.atl.crc.getD k {} := by
  rw [cmdCrcAlive_eq hrun, if_neg hcount]
  obtain ⟨hown, hothers⟩ := State.modCrc_units (s := s) (u := 0) (fun c => { c with aliveErr := true, result := 0xFFFFFFFF }) (by omega)
  exact ⟨hown, rfl, rfl, hothers⟩

theorem thermalRestart_nextAlive {s : State} {t0 : Nat} (ue : List NorUe) (hdie : s.die = .stopped) (hstop : s.stop = .trip) (hbelow : s.thm.belowSince = some t0)
    (hleft : (s.elapseTo (t0 + 60000000000)).recentRestarts < s.nat O.thmAutoRestart) : (cmdThermalRestart s ue).nextAlive = 0 := by
  unfold cmdThermalRestart
  rw [hbelow]
  dsimp only
  rw [if_neg (by simp [hdie, hstop])]
  have hauto : ∀ t, (s.elapseTo t).nat O.thmAutoRestart = s.nat O.thmAutoRestart := fun t => (State.elapseTo_vals _ _ _).2.2.1
  rw [← hauto (t0 + 60000000000)] at hleft
  generalize s.elapseTo (t0 + 60000000000) = u at *
  unfold restartNow
  rw [if_neg (by simpa [State.noRestartLeft] using hleft)]
  exact coldStart_nextAlive _ ue

/-- Settles O46. -/
theorem crcUnits : Obligations.CrcUnits := by
  refine ⟨fun s hdie ue => ⟨_, rfl, ?_⟩, fun s t0 ue hdie hstop hbelow hleft => ⟨_, rfl, thermalRestart_nextAlive ue hdie hstop hbelow hleft⟩, fun s p hdie hstate hroute => ?_,
    fun s u hdie hstate hlen => ?_⟩
  · show (cmdColdStart s ue).nextAlive = 0
    rw [cmdColdStart, if_pos hdie]
    exact coldStart_nextAlive s ue
  · have hexpiry : s.pln.armed = true → (cmdWatchdogExpiry s).nextAlive = 0 := fun harmed => by
      unfold cmdWatchdogExpiry watchdogExpires
      rw [if_pos harmed]
      exact warmReset_nextAlive _ _ _
    refine ⟨gives_of_live hdie rfl ?_, gives_of_live hdie rfl ?_, fun harmed => gives_of_live hdie rfl (hexpiry harmed), fun h => atlWarmReset_nextAlive s hroute (servable_action h) h,
      fun hupdate hkind h => updateApply_nextAlive hroute (servable_action h) hupdate hkind h⟩
    · rw [cmdLockstepMismatch, if_pos (Or.inl hstate)]
      exact warmReset_nextAlive _ _ _
    · rw [cmdSramUncorrectable, if_pos (Or.inl hstate)]
      exact warmReset_nextAlive _ _ _
  · have hrun : s.atlRuns = true := by simp [State.atlRuns, State.live, hdie, hstate]
    have hu : u.val < s.atl.crc.length := by omega
    intro unit others
    refine ⟨gives_of_live hdie rfl ?_, fun v => gives_of_live hdie rfl ?_, fun data => gives_of_live hdie rfl ?_, fun h0 hcount => gives_of_live hdie rfl ?_,
      fun h0 hcount => gives_of_live hdie rfl ?_, fun h0 => gives_of_live hdie rfl ?_⟩
    · rw [cmdCrcInit, if_pos hrun]
      exact State.modCrc_units _ hu
    · rw [cmdCrcSeed, if_pos hrun]
      obtain ⟨hown, hothers⟩ := State.modCrc_units (fun c => { c with reg := Nat.xor v.toNat 0xFFFFFFFF, count := 0 }) hu
      refine ⟨?_, congrArg CrcUnit.count hown, hothers⟩
      rw [crcResult, hown]
      exact xor_xor_ones _
    · rw [cmdCrcData, if_pos hrun]
      exact State.modCrc_units _ hu
    · obtain ⟨h1, h2, h3, h4, h5, h6⟩ := crcAlive_taken hrun hlen hcount
      rw [show others = fun t => ∀ k, k ≠ 0 → unit t k = unit s k by simp only [others, h0], h0]
      exact ⟨h1, h2, h3, h4, h5, h6⟩
    · obtain ⟨h1, h2, h3, h4⟩ := crcAlive_refused hrun hlen hcount
      rw [show others = fun t => ∀ k, k ≠ 0 → unit t k = unit s k by simp only [others, h0], h0]
      exact ⟨h1, h2, h3, h4⟩
    · exact if_pos (by simp [h0])

end Sys2Proof.Machine
end

section
/-! Writes that act as commands on the Plinth and the clip store (R462, R463, R465, R477, R481, R482). -/

set_option Elab.async false

namespace Sys2Proof.Machine

/-! ## What an answer leaves -/

/-- An answer leaves the Plinth and the clip store. -/
theorem answer_functions (s : State) (a : Ask) (r : Reply) : (s.answer a r).pln = s.pln ∧ (s.answer a r).clp = s.clp := by
  have h := State.answer_fr (p1 := a) (p2 := r) (c := 24704450608) (r := 962080014336) rfl rfl (fr_refl s)
  exact ⟨(h.1 .pln rfl).symm, (h.1 .clp rfl).symm⟩

/-- The registers of the Plinth and of the clip store that these writes show. -/
def commandShown : List Obj := [O.plinthState, O.plinthLastResult, O.clpCmdState, O.clpCmdResult, O.clpPlayState, O.clpPlayClip]

theorem answer_shown (s : State) (a : Ask) (r : Reply) : ∀ q ∈ commandShown, (s.answer a r).nat q = s.nat q := fun q hq =>
  s.answer_nat a r ((by decide +kernel : ∀ q ∈ commandShown, answerSpares q.key = true) q hq)

/-! ## The Plinth (R462, R463, R465) -/

theorem O.plinthStage_command : CommandObj O.plinthStage := ⟨by decide +kernel, rfl, by decide, by decide, by decide +kernel, by decide⟩

theorem O.plinthConfirm_command : CommandObj O.plinthConfirm := ⟨by decide +kernel, rfl, by decide, by decide, by decide +kernel, by decide⟩

theorem O.plinthCancel_command : CommandObj O.plinthCancel := ⟨by decide +kernel, rfl, by decide, by decide, by decide +kernel, by decide⟩

theorem writeCommand_plinthStage (s : State) (a : Ask) (v : Bytes) (n : Nat) : s.writeCommand a O.plinthStage v n = plinthStageWrite s v := by
  have hkey : O.plinthStage.key = 0xB00002 := by decide
  unfold State.writeCommand
  simp only [hkey]

theorem writeCommand_plinthConfirm (s : State) (a : Ask) (v : Bytes) (n : Nat) : s.writeCommand a O.plinthConfirm v n = plinthConfirmWrite s v := by
  have hkey : O.plinthConfirm.key = 0xB00003 := by decide
  unfold State.writeCommand
  simp only [hkey]

theorem writeCommand_plinthCancel (s : State) (a : Ask) (v : Bytes) (n : Nat) : s.writeCommand a O.plinthCancel v n = plinthCancelWrite s := by
  have hkey : O.plinthCancel.key = 0xB00004 := by decide
  unfold State.writeCommand
  simp only [hkey]

theorem plinthStage_fits {v : Bytes} (hv : v.length = 224 ∨ v.length = 320) : lengthOk O.plinthStage v.length = true ∧ rangeOk O.plinthStage v = true := by
  refine ⟨?_, rfl⟩
  rcases hv with hv | hv <;> rw [hv] <;> rfl

theorem plinthConfirm_fits {v : Bytes} (hv : v.length = 96) : lengthOk O.plinthConfirm v.length = true ∧ rangeOk O.plinthConfirm v = true := by
  rw [hv]
  exact ⟨rfl, rfl⟩

/-- A set staged while another is under way (R462). -/
theorem plinthStageWrite_busy {s : State} {v : Bytes} (h : s.nat O.plinthState ≠ 0) : plinthStageWrite s v = (0x1309, s.plnNote 0x1309) := by
  simp [plinthStageWrite, h]

theorem plinthStageWrite_passes {s : State} {v : Bytes} (hstate : s.nat O.plinthState = 0) (hverify : s.pln.verifying = none) (hform : lsForm s.pln v = true)
    (hserial : cut v 8 16 = (s.oct O.serialNumber ++ zeros 16).take 16) (hseq : lsSeq v = s.nat O.plinthCommitSeq + 1) (hvalues : lsValues s.pln v = true)
    (hceil : lsCeilings s.pln v = true) : plinthStageWrite s v =
      (0, s.modPln fun p => { p with verifying := some { set := v.take 128, key := cut v 128 (v.length - 224), sig := v.drop (v.length - 96) } }) := by
  simp [plinthStageWrite, hstate, hverify, hform, hserial, hseq, hvalues, hceil]

theorem serves_plinthStage (s : State) (p : Party) {v : Bytes} (hv : v.length = 224 ∨ v.length = 320) :
    (s.nat O.plinthState ≠ 0 → serves (.plinthStage p v) s p 0x1309 fun t => t.pln = s.pln ∧ t.nat O.plinthLastResult = 0x1309) ∧
    (s.nat O.plinthState = 0 → s.pln.verifying = none → lsForm s.pln v = true → cut v 8 16 = (s.oct O.serialNumber ++ zeros 16).take 16 →
      lsSeq v = s.nat O.plinthCommitSeq + 1 → lsValues s.pln v = true → lsCeilings s.pln v = true → serves (.plinthStage p v) s p 0 fun t =>
        t.pln = { s.pln with verifying := some { set := v.take 128, key := cut v 128 (v.length - 224), sig := v.drop (v.length - 96) } } ∧ t.nat O.plinthState = 0) := by
  obtain ⟨hlen, hrange⟩ := plinthStage_fits hv
  refine ⟨fun hstate => ?_, fun hstate hverify hform hserial hseq hvalues hceil => ?_⟩
  · refine serves_command rfl O.plinthStage_command hlen hrange fun d a _ _ => ?_
    rw [writeCommand_plinthStage, plinthStageWrite_busy (s := { s with dict := d }) hstate, (answer_functions _ _ _).1, State.plnNote_pln, answer_shown _ _ _ _ (by decide)]
    exact ⟨rfl, rfl, State.plnNote_result _ _ (by decide)⟩
  · refine serves_command rfl O.plinthStage_command hlen hrange fun d a _ _ => ?_
    rw [writeCommand_plinthStage, plinthStageWrite_passes (s := { s with dict := d }) hstate hverify hform hserial hseq hvalues hceil, (answer_functions _ _ _).1,
      answer_shown _ _ _ _ (by decide)]
    exact ⟨rfl, rfl, (State.modPln_vals _ _ _).2.2.1.trans hstate⟩

theorem serves_plinthConfirm (s : State) (p : Party) {v : Bytes} (hv : v.length = 96) :
    (s.nat O.plinthState = 0 → serves (.plinthConfirm p v) s p 0x130D fun t => t.pln = s.pln) ∧
    (s.nat O.plinthState ≠ 0 → (confirmKey s).isSome = true → serves (.plinthConfirm p v) s p 0 fun t => t.pln = { s.pln with confirming := some v }) := by
  obtain ⟨hlen, hrange⟩ := plinthConfirm_fits hv
  refine ⟨fun hstate => ?_, fun hstate hkey => ?_⟩
  · refine serves_command rfl O.plinthConfirm_command hlen hrange fun d a _ _ => ?_
    have hw : plinthConfirmWrite { s with dict := d } v = (0x130D, ({ s with dict := d } : State).plnNote 0x130D) := if_pos hstate
    rw [writeCommand_plinthConfirm, hw, (answer_functions _ _ _).1, State.plnNote_pln]
    exact ⟨rfl, rfl⟩
  · refine serves_command rfl O.plinthConfirm_command hlen hrange fun d a _ _ => ?_
    have hsome : confirmKey { s with dict := d } = confirmKey s := rfl
    have hw : plinthConfirmWrite { s with dict := d } v = (0, ({ s with dict := d } : State).modPln fun p => { p with confirming := some v }) :=
      (if_neg hstate).trans (if_neg (by rw [hsome, Option.isNone_iff_eq_none]; exact Option.isSome_iff_ne_none.mp hkey))
    rw [writeCommand_plinthConfirm, hw, (answer_functions _ _ _).1]
    exact ⟨rfl, rfl⟩

theorem State.unstage_stage (s : State) : s.unstage.pln.stage = none := by
  obtain ⟨-, -, h, -⟩ := s.unstage_shows
  rw [h]

/-- A STAGED set is dropped (R465). -/
theorem plinthCancelWrite_staged {s : State} (h : s.nat O.plinthState = 1) : plinthCancelWrite s = (0, (s.unstage).plnNote 0x130F) := by
  unfold plinthCancelWrite
  simp only [h]

/-- A CONFIRMED set stays (R465). -/
theorem plinthCancelWrite_confirmed {s : State} (h : s.nat O.plinthState = 2) : plinthCancelWrite s = (0x1309, s.plnNote 0x1309) := by
  unfold plinthCancelWrite
  simp only [h]

theorem serves_plinthCancel (s : State) (p : Party) :
    (s.nat O.plinthState = 1 → serves (.plinthCancel p) s p 0 fun t => t.nat O.plinthState = 0 ∧ t.pln.stage = none ∧ t.nat O.plinthLastResult = 0x130F) ∧
    (s.nat O.plinthState = 2 → serves (.plinthCancel p) s p 0x1309 fun t => t.nat O.plinthState = 2 ∧ t.pln = s.pln) := by
  refine ⟨fun hstate => ?_, fun hstate => ?_⟩
  · refine serves_command rfl O.plinthCancel_command rfl rfl fun d a _ _ => ?_
    rw [writeCommand_plinthCancel, plinthCancelWrite_staged (s := { s with dict := d }) hstate, (answer_functions _ _ _).1, State.plnNote_pln,
      answer_shown _ _ _ _ (by decide), answer_shown _ _ _ _ (by decide), State.plnNote_nat _ _ _ (by decide) (by decide)]
    obtain ⟨h1, -, -⟩ := State.unstage_shows { s with dict := d }
    exact ⟨rfl, h1, State.unstage_stage _, State.plnNote_result _ _ (by decide)⟩
  · refine serves_command rfl O.plinthCancel_command rfl rfl fun d a _ _ => ?_
    rw [writeCommand_plinthCancel, plinthCancelWrite_confirmed (s := { s with dict := d }) hstate, (answer_functions _ _ _).1, State.plnNote_pln,
      answer_shown _ _ _ _ (by decide), State.plnNote_nat _ _ _ (by decide) (by decide)]
    exact ⟨rfl, hstate, rfl⟩

/-! ## The clip store (R477, R481, R482) -/

theorem O.clpCommand_command : CommandObj O.clpCommand := ⟨by decide +kernel, rfl, by decide, by decide, by decide +kernel, by decide⟩

theorem writeCommand_clpCommand (s : State) (a : Ask) (v : Bytes) (n : Nat) : s.writeCommand a O.clpCommand v n = clpCommandWrite s v := by
  have hkey : O.clpCommand.key = 0x900007 := by decide
  unfold State.writeCommand
  simp only [hkey]

/-- The command of an opcode's row. -/
def clpRow (p : Party) (v : Bytes) (op : Nat) : Instr :=
  if op = 1 then .clpFormat p v else if op = 2 then .clpCreate p v else if op = 3 then .clpWrite p v
    else if op = 4 then .clpClose p v else if op = 5 then .clpDelete p v else if op = 6 then .clpPlay p v else .clpStop p v

theorem exec_clpRow (s : State) (p : Party) {v : Bytes} {op : Nat} (h1 : 1 ≤ op) (h7 : op ≤ 7) (hop : fieldN v 0 1 = op) :
    exec (clpRow p v op) s = .next (s.ifLive fun s => rowWrite s p O.clpCommand v) := by
  have hrow : ∀ k, fieldN v 0 1 = k → (fun s => cmdClp s p k v) = fun s => rowWrite s p O.clpCommand v := fun k hk => by
    funext u
    exact if_pos hk
  have he : exec (clpRow p v op) s = .next (s.ifLive fun s => cmdClp s p op v) := by
    obtain rfl | rfl | rfl | rfl | rfl | rfl | rfl : op = 1 ∨ op = 2 ∨ op = 3 ∨ op = 4 ∨ op = 5 ∨ op = 6 ∨ op = 7 := by omega
    all_goals rfl
  rw [he, hrow op hop]

/-- A row of the clip store is served with what the write of the command makes of the state. -/
theorem serves_clpRow {s : State} {p : Party} {v : Bytes} {op status : Nat} {P : State → Prop} (hv : v.length = 32) (h1 : 1 ≤ op) (h7 : op ≤ 7) (hop : fieldN v 0 1 = op)
    (hP : ∀ (d : Dict), ∃ u, clpCommandWrite { s with dict := d } v = (status, u) ∧ ∀ t, t.clp = u.clp → (∀ q ∈ commandShown, t.nat q = u.nat q) → P t) :
    serves (clpRow p v op) s p status P := by
  refine serves_command (exec_clpRow s p h1 h7 hop) O.clpCommand_command (by rw [hv]; rfl) rfl fun d a _ _ => ?_
  obtain ⟨u, hu, hPu⟩ := hP d
  rw [writeCommand_clpCommand, hu]
  exact ⟨rfl, hPu _ (answer_functions _ _ _).2 (answer_shown _ _ _)⟩

/-- A failed command shows its code. -/
theorem clpOutcome_fails (s : State) {code : Nat} (h : code ≠ 0) :
    (clpOutcome (code, s)).nat O.clpCmdState = 3 ∧ shows (clpOutcome (code, s)) O.clpCmdResult code ∧ (clpOutcome (code, s)).clp = { s.clp with cmd := none } := by
  let u := (((s.put O.clpCmdState 3).put O.clpCmdResult code).modClp fun c => { c with cmd := none })
  have he : clpOutcome (code, s) = u.clpNote code := by simp [clpOutcome, h, u]
  have hu : u.nat O.clpCmdState = 3 ∧ shows u O.clpCmdResult code ∧ u.clp = { s.clp with cmd := none } := by
    have hmod : ∀ q, u.nat q = ((s.put O.clpCmdState 3).put O.clpCmdResult code).nat q := fun q => (State.modClp_vals _ _ _).2.2.1
    refine ⟨(hmod _).trans ((State.nat_put_ne (by decide)).trans (State.nat_put_fits s O.clpCmdState 3 (w := 1) rfl rfl (by decide))),
      shows_congr (hmod _) (shows_put _ O.clpCmdResult _ rfl rfl), by simp [u, State.modClp]⟩
  clear_value u
  have hnote := State.clpNote_fr (p1 := code) (p2 := []) (c := 22548578304) (r := 151115727451828654178304) rfl rfl (fr_refl u)
  have hnat : ∀ q, touched 151115727451828654178304 q.key = false → (u.clpNote code).nat q = u.nat q := fun q hq => (vals_of_fr hnote rfl rfl (by decide) hq).2.2.1
  obtain ⟨h1, h2, h3⟩ := hu
  rw [he]
  exact ⟨(hnat _ (by decide +kernel)).trans h1, shows_congr (hnat _ (by decide +kernel)) h2, (hnote.1 .clp rfl).symm.trans h3⟩

/-- A play that begins: its record and what is shown of it (R481). -/
theorem beginPlay_shows (s : State) (id passes arg : Nat) :
    (beginPlay s id passes arg false).nat O.clpPlayState = 1 ∧ shows (beginPlay s id passes arg false) O.clpPlayClip id ∧
      (beginPlay s id passes arg false).clp = { s.clp with play := some { clip := id, passes := passes, start := if arg = 0 then earliestStart s else arg, fallback := false } } := by
  unfold beginPlay
  extract_lets start u
  have hu : u.clp = { s.clp with play := some { clip := id, passes := passes, start := start, fallback := false } } := rfl
  clear_value u
  refine ⟨?_, ?_, ?_⟩
  · rw [State.regateStream_nat, State.nat_put_ne (by decide), State.nat_put_ne (by decide)]
    exact State.nat_put_fits u O.clpPlayState 1 (w := 1) rfl rfl (by decide)
  · refine shows_congr ((State.regateStream_nat _ _).trans (State.nat_put_ne (by decide))) (shows_put _ O.clpPlayClip _ rfl rfl)
  · rw [← ((State.regateStream_frame _).1 .clp rfl : _ = _)]
    exact (show (((u.put O.clpPlayState (if false = true then 2 else 1)).put O.clpPlayClip id).put O.clpPlayBase start).clp = u.clp by simp).trans hu

theorem clpCommandWrite_off {s : State} {v : Bytes} (h : s.nat O.clpState ≠ 2) : clpCommandWrite s v = (0x1413, s) := if_pos h

/-- A command that the running clip store takes: by its opcode (R477). -/
theorem clpCommandWrite_taken {s : State} {v : Bytes} {op : Nat} (hop : fieldN v 0 1 = op) (hstate : s.nat O.clpState = 2) (hcmd : s.nat O.clpCmdState ≠ 1) (hheld : s.clpHeld = false)
    (h1 : 1 ≤ op) (h7 : op ≤ 7) (hplay : s.clp.play = none ∨ op = 6 ∨ op = 7) (hsub : op = 1 → fieldN v 1 1 = 1 ∨ fieldN v 1 1 = 2) :
    clpCommandWrite s v = if op = 6 then (0, clpOutcome (clpPlay s v)) else if op = 7 then (0, clpOutcome (clpStopCmd s))
      else (0, (s.put O.clpCmdState 1).modClp fun c => { c with cmd := some v }) := by
  have hbusy : ¬ (s.nat O.clpCmdState = 1 ∨ s.clpHeld = true) := by simp [hcmd, hheld]
  have hplays : ¬ (s.clp.play.isSome = true ∧ op ≠ 6 ∧ op ≠ 7) := by
    rintro ⟨hsome, h6, h7'⟩
    rcases hplay with h | h | h
    · simp [h] at hsome
    · exact h6 h
    · exact h7' h
  have hform : ¬ (op = 0 ∨ 7 < op ∨ (op = 1 ∧ fieldN v 1 1 ≠ 1 ∧ fieldN v 1 1 ≠ 2)) := by omega
  unfold clpCommandWrite
  simp only [hop]
  rw [if_neg (by simp [hstate]), if_neg hbusy, if_neg hplays, if_neg hform]

theorem serves_clpRuns {s : State} {p : Party} {v : Bytes} {op : Nat} (hv : v.length = 32) (hop : fieldN v 0 1 = op) (hstate : s.nat O.clpState = 2)
    (hcmd : s.nat O.clpCmdState ≠ 1) (hheld : s.clpHeld = false) (h1 : 1 ≤ op) (h5 : op ≤ 5) (hplay : s.clp.play = none) (hsub : op = 1 → fieldN v 1 1 = 1 ∨ fieldN v 1 1 = 2) :
    serves (clpRow p v op) s p 0 fun t => t.nat O.clpCmdState = 1 ∧ t.clp = { s.clp with cmd := some v } := by
  refine serves_clpRow hv h1 (by omega) hop fun d => ⟨_, (clpCommandWrite_taken (s := { s with dict := d }) hop hstate hcmd hheld h1 (by omega) (Or.inl hplay) hsub).trans
    ((if_neg (by omega)).trans (if_neg (by omega))), fun t hclp hnat => ⟨?_, ?_⟩⟩
  · exact (hnat _ (by decide)).trans ((State.modClp_vals _ _ _).2.2.1.trans (State.nat_put_fits _ O.clpCmdState 1 (w := 1) rfl rfl (by decide)))
  · rw [hclp]
    simp [State.modClp]

theorem serves_clpPlays {s : State} {p : Party} {v : Bytes} (hv : v.length = 32) (hop : fieldN v 0 1 = 6) (hstate : s.nat O.clpState = 2)
    (hcmd : s.nat O.clpCmdState ≠ 1) (hheld : s.clpHeld = false) (hcheck : playCheck s (fieldN v 2 2) (fieldN v 8 8) true = 0) :
    serves (clpRow p v 6) s p 0 fun t => t.nat O.clpCmdState = 2 ∧ t.nat O.clpPlayState = 1 ∧ shows t O.clpPlayClip (fieldN v 2 2) ∧ t.clp.play = some
      { clip := fieldN v 2 2, passes := fieldN v 0x10 4, start := if fieldN v 8 8 = 0 then earliestStart s else fieldN v 8 8, fallback := false } := by
  refine serves_clpRow hv (by decide) (by decide) hop fun d => ?_
  have hcheck' : playCheck { s with dict := d } (fieldN v 2 2) (fieldN v 8 8) true = 0 := hcheck
  have hw := clpCommandWrite_taken (s := { s with dict := d }) hop hstate hcmd hheld (by decide) (by decide) (Or.inr (Or.inl rfl)) (by simp)
  have hstart : earliestStart { s with dict := d } = earliestStart s := rfl
  rw [if_pos rfl, clpPlay, hcheck'] at hw
  obtain ⟨h1, h2, h3⟩ := beginPlay_shows { s with dict := d } (fieldN v 2 2) (fieldN v 0x10 4) (fieldN v 8 8)
  obtain ⟨g1, -, g3, -, g5⟩ := clpOutcome_done (beginPlay { s with dict := d } (fieldN v 2 2) (fieldN v 0x10 4) (fieldN v 8 8) false)
  refine ⟨_, hw, fun t hclp hnat => ⟨(hnat _ (by decide)).trans g1, ?_, ?_, ?_⟩⟩
  · exact (hnat _ (by decide)).trans ((g5 _ (by decide) (by decide)).trans h1)
  · exact shows_congr ((hnat _ (by decide)).trans (g5 _ (by decide) (by decide))) h2
  · rw [hclp, ← hstart]
    exact (congrArg Clp.play g3).trans (congrArg Clp.play h3)

theorem serves_clpPlay_refused {s : State} {p : Party} {v : Bytes} (hv : v.length = 32) (hop : fieldN v 0 1 = 6) (hstate : s.nat O.clpState = 2)
    (hcmd : s.nat O.clpCmdState ≠ 1) (hheld : s.clpHeld = false) (hcheck : playCheck s (fieldN v 2 2) (fieldN v 8 8) true ≠ 0) :
    serves (clpRow p v 6) s p 0 fun t => t.nat O.clpCmdState = 3 ∧ shows t O.clpCmdResult (playCheck s (fieldN v 2 2) (fieldN v 8 8) true) ∧ t.clp.play = s.clp.play := by
  refine serves_clpRow hv (by decide) (by decide) hop fun d => ?_
  have hsame : playCheck { s with dict := d } (fieldN v 2 2) (fieldN v 8 8) true = playCheck s (fieldN v 2 2) (fieldN v 8 8) true := rfl
  have hw := clpCommandWrite_taken (s := { s with dict := d }) hop hstate hcmd hheld (by decide) (by decide) (Or.inr (Or.inl rfl)) (by simp)
  rw [if_pos rfl, clpPlay, hsame] at hw
  simp only [ne_eq, hcheck, not_false_eq_true, if_true] at hw
  obtain ⟨h1, h2, h3⟩ := clpOutcome_fails { s with dict := d } hcheck
  exact ⟨_, hw, fun t hclp hnat => ⟨(hnat _ (by decide)).trans h1, shows_congr (hnat _ (by decide)) h2, by rw [hclp, h3]⟩⟩

theorem serves_clpStops {s : State} {p : Party} {v : Bytes} {x : Play} (hv : v.length = 32) (hop : fieldN v 0 1 = 7) (hstate : s.nat O.clpState = 2)
    (hcmd : s.nat O.clpCmdState ≠ 1) (hheld : s.clpHeld = false) (hplay : s.clp.play = some x) (hown : x.fallback = false) (hdue : s.clp.fallbackDue = false) :
    serves (clpRow p v 7) s p 0 fun t => t.nat O.clpCmdState = 2 ∧ t.nat O.clpPlayState = 0 ∧ t.clp.play = none := by
  refine serves_clpRow hv (by decide) (by decide) hop fun d => ?_
  have hw := clpCommandWrite_taken (s := { s with dict := d }) hop hstate hcmd hheld (by decide) (by decide) (Or.inr (Or.inr rfl)) (by simp)
  have hstop : clpStopCmd { s with dict := d } = (0, endPlay { s with dict := d }) := by simp [clpStopCmd, hplay, hown]
  rw [if_neg (by decide), if_pos rfl, hstop] at hw
  obtain ⟨h1, h2, -⟩ := endPlay_plain (s := { s with dict := d }) hdue
  obtain ⟨g1, -, g3, -, g5⟩ := clpOutcome_done (endPlay { s with dict := d })
  exact ⟨_, hw, fun t hclp hnat => ⟨(hnat _ (by decide)).trans g1, (hnat _ (by decide)).trans ((g5 _ (by decide) (by decide)).trans h2), by rw [hclp, g3]; exact h1⟩⟩

/-- Settles O53. -/
theorem commissionWrites : Obligations.CommissionWrites := by
  intro s p
  refine ⟨fun v hv => serves_plinthStage s p hv, fun v hv => serves_plinthConfirm s p hv, (serves_plinthCancel s p).1, (serves_plinthCancel s p).2, fun v hv => ⟨?_, ?_⟩⟩
  · intro op h1 h7 hop hoff
    exact serves_clpRow hv h1 h7 hop fun d => ⟨_, clpCommandWrite_off (s := { s with dict := d }) hoff, fun t hclp _ => hclp⟩
  · intro hstate hcmd hheld
    exact ⟨fun op h1 h5 hop hplay hsub => serves_clpRuns hv hop hstate hcmd hheld h1 h5 hplay hsub, fun hop hcheck => serves_clpPlays hv hop hstate hcmd hheld hcheck,
      fun hop hcheck => serves_clpPlay_refused hv hop hstate hcmd hheld hcheck,
      fun x hop hplay hown hdue => serves_clpStops hv hop hstate hcmd hheld hplay hown hdue⟩

end Sys2Proof.Machine
end

section
/-! What is written to NOR: the state and limit records, the event log, and updates (R439, R440, R444, R446 to R449, R466). -/

set_option Elab.async false

namespace Sys2Proof.Machine

theorem atlRuns_of {s : State} (hdie : s.die = .running) (hstate : s.nat O.atlState = 1) : s.atlRuns = true := by simp [State.atlRuns, State.live, hdie, hstate]

/-! ## Records (R449, R466) -/

theorem stateJournalSave_writes {s : State} (hrun : s.atlRuns = true) (hwin : s.flag O.thmNorWindow = true) :
    (cmdStateJournalSave s).nor = { s.nor with saved := (cmdStateJournalSave s).nor.saved, old := { s.nor.old with saved := s.nor.saved } } ∧
    (cmdStateJournalSave s).nor.saved.map (fun r => (r.time, r.rate, r.utc, r.trips)) = some (s.ns, s.tim.base, s.int O.timeUtcOffset, s.thm.tripCount) := by
  have ht : cmdStateJournalSave s = s.saveState := by simp [cmdStateJournalSave, hrun, hwin]
  rw [ht]
  unfold State.saveState
  extract_lets u c
  have hu : u.nor = s.nor ∧ u.ns = s.ns ∧ u.tim = s.tim ∧ u.int O.timeUtcOffset = s.int O.timeUtcOffset ∧ u.thm = s.thm := by
    refine ⟨by simp [u], by simp [u, State.ns], by simp [u], ?_, by simp [u]⟩
    exact (State.drawFree_vals _ _).2.1.trans (State.int_put_ne (by decide))
  clear_value u c
  obtain ⟨h1, h2, h3, h4, h5⟩ := hu
  have hsave : ∀ r, (u.modNor fun n => { n with saved := some r, old := { n.old with saved := n.saved } }).nor =
      { s.nor with saved := some r, old := { s.nor.old with saved := s.nor.saved } } := fun r => by
    rw [← h1]
    rfl
  refine ⟨hsave _, ?_⟩
  rw [hsave, ← h2, ← h3, ← h4, ← h5]
  rfl

theorem limitRecordWrite_writes {s : State} {r : Bytes} (hrun : s.atlRuns = true) (hwin : s.flag O.thmNorWindow = true) (hr : s.pln.toWrite = some r) :
    (cmdLimitRecordWrite s).nor = { s.nor with limits := s.nor.limits ++ [r] } ∧ (cmdLimitRecordWrite s).pln = { s.pln with toWrite := none } := by
  have ht : cmdLimitRecordWrite s = (s.modNor fun n => { n with limits := n.limits ++ [r] }).modPln fun p => { p with toWrite := none } := by
    simp [cmdLimitRecordWrite, hr, hrun, hwin]
  rw [ht]
  exact ⟨rfl, rfl⟩

/-! ## The event log (R446 to R448) -/

/-- Staged entries move to SRAM in order while it has room. -/
theorem foldl_toSram (es : List LogEntry) (s : State) (hroom : s.log.sram.length + es.length ≤ 4096) :
    es.foldl State.toSram s = { s with log := { s.log with sram := s.log.sram ++ es } } := by
  induction es generalizing s with
  | nil => simp
  | cons e es ih =>
    simp only [List.length_cons] at hroom
    have he : s.toSram e = { s with log := { s.log with sram := s.log.sram ++ [e] } } := if_pos (by omega)
    rw [List.foldl_cons, he, ih _ (by simp only [List.length_append, List.length_singleton]; omega)]
    simp

theorem drainStaging_eq {s : State} (hroom : s.log.sram.length + s.log.staging.length ≤ 4096) :
    s.drainStaging = { s with log := { s.log with staging := [], sram := s.log.sram ++ s.log.staging } } := by
  unfold State.drainStaging
  exact foldl_toSram s.log.staging { s with log := { s.log with staging := [] } } hroom

/-- What the writing of the log to NOR keeps as it goes. -/
structure LogWritten (s t : State) (es : List LogEntry) : Prop where
  nor : t.nor = { s.nor with ring := s.nor.ring ++ es, pinned := s.nor.pinned ++ es.filter (·.pinned) }
  lost : t.log.lostSince = 0
  rate : t.log.rateTimes.length ≤ s.log.rateTimes.length + es.length
  staging : t.log.staging = s.log.staging
  sram : t.log.sram = s.log.sram

theorem ringPush_room {sectors : Nat} {l : List LogEntry} (e : LogEntry) (h : l.length < sectors * 127) : ringPush sectors l e = l ++ [e] := by
  unfold ringPush
  rw [if_neg (by omega)]

/-- An entry with room everywhere and no loss to report goes to the ring, and a pinned one to the pinned log (R447, R448). -/
theorem writeLog_room {s : State} (e : LogEntry) (hlost : s.log.lostSince = 0) (hrate : s.log.rateTimes.length < 36000) (hring : s.nor.ring.length < 528 * 127)
    (hpin : s.nor.pinned.length < 16 * 127) : LogWritten s (s.writeLog e) [e] := by
  have hnor : ∀ u : State, u.nor = s.nor → u.log.lostSince = 0 → (u.norLost.norLog e).log = u.log ∧
      (u.norLost.norLog e).nor = { s.nor with ring := s.nor.ring ++ [e], pinned := s.nor.pinned ++ [e].filter (·.pinned) } := by
    intro u hu hl
    have hnone : u.norLost = u := if_pos hl
    rw [hnone]
    refine ⟨rfl, ?_⟩
    simp only [State.norLog, State.modNor, hu, ringPush_room e hring, ringPush_room e hpin]
    cases hp : e.pinned <;> simp [hp]
  unfold State.writeLog
  extract_lets sec recent
  have hfew : recent.length ≤ s.log.rateTimes.length := List.length_filter_le _ _
  split
  · obtain ⟨h1, h2⟩ := hnor s rfl hlost
    exact ⟨h2, by rw [h1]; exact hlost, by rw [h1]; simp, by rw [h1], by rw [h1]⟩
  · rw [if_neg (by omega)]
    obtain ⟨h1, h2⟩ := hnor { s with log := { s.log with rateTimes := recent ++ [sec] } } rfl hlost
    exact ⟨h2, by rw [h1]; exact hlost, by rw [h1]; simpa using hfew, by rw [h1], by rw [h1]⟩

theorem LogWritten.cons {s u t : State} {e : LogEntry} {es : List LogEntry} (h : LogWritten s u [e]) (g : LogWritten u t es) : LogWritten s t (e :: es) := by
  refine ⟨?_, g.lost, ?_, g.staging.trans h.staging, g.sram.trans h.sram⟩
  · have hpin : [e].filter (·.pinned) ++ es.filter (·.pinned) = (e :: es).filter (·.pinned) := (List.filter_append [e] es).symm
    rw [g.nor, h.nor, ← hpin]
    simp only [List.append_assoc, List.singleton_append]
  · have h1 := h.rate
    have h2 := g.rate
    simp only [List.length_cons, List.length_nil] at h1 ⊢
    omega

theorem foldl_writeLog (es : List LogEntry) (s : State) (hlost : s.log.lostSince = 0) (hrate : s.log.rateTimes.length + es.length ≤ 36000)
    (hring : s.nor.ring.length + es.length ≤ 528 * 127) (hpin : s.nor.pinned.length + es.length ≤ 16 * 127) : LogWritten s (es.foldl State.writeLog s) es := by
  induction es generalizing s with
  | nil => exact ⟨by simp, hlost, by simp, rfl, rfl⟩
  | cons e es ih =>
    simp only [List.length_cons] at hrate hring hpin
    have h := writeLog_room e hlost (by omega) (by omega) (by omega)
    have hr := h.rate
    have hp : (s.writeLog e).nor.pinned.length ≤ s.nor.pinned.length + 1 := by
      rw [h.nor, List.length_append]
      exact Nat.add_le_add_left (List.length_filter_le _ _) _
    simp only [List.length_singleton] at hr
    refine h.cons (ih _ h.lost (by omega) ?_ (by omega))
    rw [h.nor, List.length_append, List.length_singleton]
    omega

theorem logNorFlush_writes {s : State} (hrun : s.atlRuns = true) (hwin : s.flag O.thmNorWindow = true) (hroom : s.log.sram.length + s.log.staging.length ≤ 4096) 
    (hlost : s.log.lostSince = 0) (hrate : s.log.rateTimes.length + (s.log.sram ++ s.log.staging).length ≤ 36000)
    (hring : s.nor.ring.length + (s.log.sram ++ s.log.staging).length ≤ 528 * 127) (hpin : s.nor.pinned.length + (s.log.sram ++ s.log.staging).length ≤ 16 * 127) :
    (cmdLogNorFlush s).log.staging = [] ∧ (cmdLogNorFlush s).log.sram = [] ∧ (cmdLogNorFlush s).nor =
      { s.nor with ring := s.nor.ring ++ (s.log.sram ++ s.log.staging), pinned := s.nor.pinned ++ (s.log.sram ++ s.log.staging).filter (·.pinned) } := by
  have ht : cmdLogNorFlush s = ((s.log.sram ++ s.log.staging).foldl State.writeLog { s with log := { s.log with staging := [], sram := [] } }).showLog := by
    have hflag : ∀ l : Log, ({ s with log := l } : State).flag O.thmNorWindow = true := fun _ => hwin
    unfold cmdLogNorFlush
    rw [if_neg (by simp [hrun]), drainStaging_eq hroom]
    exact if_neg (by rw [hflag]; decide)
  obtain ⟨h1, -, -, h4, h5⟩ := foldl_writeLog (s.log.sram ++ s.log.staging) { s with log := { s.log with staging := [], sram := [] } } hlost hrate hring hpin
  have hshow : ∀ u : State, u.showLog.log = u.log ∧ u.showLog.nor = u.nor := fun u => by simp [State.showLog]
  rw [ht, (hshow _).1, (hshow _).2]
  exact ⟨h4, h5, h1⟩

theorem logNorFlush_waits {s : State} (hrun : s.atlRuns = true) (hwin : s.flag O.thmNorWindow = false) (hroom : s.log.sram.length + s.log.staging.length ≤ 4096) :
    (cmdLogNorFlush s).log.staging = [] ∧ (cmdLogNorFlush s).log.sram = s.log.sram ++ s.log.staging ∧ (cmdLogNorFlush s).nor = s.nor := by
  have ht : cmdLogNorFlush s = { s with log := { s.log with staging := [], sram := s.log.sram ++ s.log.staging } } := by
    have hflag : ∀ l : Log, ({ s with log := l } : State).flag O.thmNorWindow = false := fun _ => hwin
    unfold cmdLogNorFlush
    rw [if_neg (by simp [hrun]), drainStaging_eq hroom]
    exact if_pos (by rw [hflag]; decide)
  rw [ht]
  exact ⟨rfl, rfl, rfl⟩

/-! ## Updates (R440, R444) -/

theorem State.showSlots_keeps (s : State) : s.showSlots.nor = s.nor ∧ s.showSlots.log = s.log ∧ ∀ q ∈ [O.updateState, O.updateResult], s.showSlots.nat q = s.nat q := by
  have h := State.showSlots_fr (c := 0) (r := 4763953136893138488487244504044754960384) rfl rfl (fr_refl s)
  exact ⟨(h.1 .nor rfl).symm, (h.1 .log rfl).symm, fun q hq => (vals_of_fr h rfl rfl (by decide)
    ((by decide +kernel : ∀ q ∈ [O.updateState, O.updateResult], touched 4763953136893138488487244504044754960384 q.key = false) q hq)).2.2.1⟩

theorem updateFail_shows (s : State) (code : Nat) : (updateFail s code).nat O.updateState = 5 ∧ shows (updateFail s code) O.updateResult code ∧ logs s (updateFail s code) [(code, [])] := by
  unfold updateFail
  extract_lets u
  have hu : u.nat O.updateState = 5 ∧ shows u O.updateResult code ∧ logs s u [(code, [])] := by
    have hnote : ∀ (w : State) (q : Obj), q ∈ [O.updateState, O.updateResult] → (w.atlNote code).nat q = w.nat q := fun w q hq =>
      State.atlNote_vals _ _ _ ((by decide +kernel : ∀ q ∈ [O.updateState, O.updateResult], touched 19807040628566084398393327616 q.key = false) q hq)
    refine ⟨(hnote _ _ (by decide)).trans ((State.nat_put_ne (by decide)).trans (State.nat_put_fits s O.updateState 5 (w := 1) rfl rfl (by decide))),
      shows_congr (hnote _ _ (by decide)) (shows_put _ O.updateResult _ rfl rfl), ?_⟩
    exact logs_congr (s := (s.put O.updateState 5).put O.updateResult code) (by simp) rfl (logs_note _ _ _ _)
  clear_value u
  obtain ⟨h1, h2, h3⟩ := hu
  split
  · obtain ⟨-, hlog, hnat⟩ := State.showSlots_keeps (u.modNor fun n => { n with fw := setAt n.fw (1 - n.active) none })
    have hmod : ∀ q ∈ [O.updateState, O.updateResult], (u.modNor fun n => { n with fw := setAt n.fw (1 - n.active) none }).showSlots.nat q = u.nat q := fun q hq =>
      (hnat q hq).trans (State.modNor_vals _ _ _).2.2.1
    exact ⟨(hmod _ (by decide)).trans h1, shows_congr (hmod _ (by decide)) h2, logs_congr rfl hlog h3⟩
  · exact ⟨h1, h2, h3⟩

theorem updateVerifyDone_shows {s : State} (hstate : s.nat O.updateState = 1) :
    (imageCheck s s.atl.image = 0 → (cmdUpdateVerifyDone s).nat O.updateState = 2 ∧ (cmdUpdateVerifyDone s).nor = s.nor ∧ (cmdUpdateVerifyDone s).log = s.log) ∧
    (imageCheck s s.atl.image ≠ 0 → (cmdUpdateVerifyDone s).nat O.updateState = 5 ∧ shows (cmdUpdateVerifyDone s) O.updateResult (imageCheck s s.atl.image) ∧
      logs s (cmdUpdateVerifyDone s) [(imageCheck s s.atl.image, [])]) := by
  have ht : cmdUpdateVerifyDone s = if imageCheck s s.atl.image = 0 then s.put O.updateState 2 else updateFail s (imageCheck s s.atl.image) := if_neg (by simp [hstate])
  refine ⟨fun h => ?_, fun h => ?_⟩
  · rw [ht, if_pos h]
    exact ⟨State.nat_put_fits s O.updateState 2 (w := 1) rfl rfl (by decide), by simp, by simp⟩
  · rw [ht, if_neg h]
    exact updateFail_shows s _

theorem updateWriteBegin_shows {s : State} (hstate : s.nat O.updateState = 2) (hwin : s.flag O.thmNorWindow = true) :
    (cmdUpdateWriteBegin s).nat O.updateState = 3 ∧
    (fieldN s.atl.image 6 1 = 1 → (cmdUpdateWriteBegin s).nor = { s.nor with fw := setAt s.nor.fw (updateSlot s) none }) ∧
    (fieldN s.atl.image 6 1 ≠ 1 → (cmdUpdateWriteBegin s).nor = s.nor) := by
  let u := s.put O.updateState 3
  have ht : cmdUpdateWriteBegin s = if fieldN u.atl.image 6 1 = 1 then (u.modNor fun n => { n with fw := setAt n.fw (updateSlot u) none }).showSlots else u :=
    if_neg (by simp [hstate, hwin])
  have hu : u.nat O.updateState = 3 ∧ u.atl = s.atl ∧ u.nor = s.nor ∧ u.nat O.atlState = s.nat O.atlState :=
    ⟨State.nat_put_fits s O.updateState 3 (w := 1) rfl rfl (by decide), by simp [u], by simp [u], State.nat_put_ne (by decide)⟩
  clear_value u
  obtain ⟨h1, hatl, hnor, hatelier⟩ := hu
  have hslot : updateSlot u = updateSlot s := by unfold updateSlot; rw [hatelier, hnor]
  rw [ht, hatl]
  by_cases hkind : fieldN s.atl.image 6 1 = 1
  · obtain ⟨hk, -, hnat⟩ := State.showSlots_keeps (u.modNor fun n => { n with fw := setAt n.fw (updateSlot u) none })
    rw [if_pos hkind]
    refine ⟨(hnat _ (by decide)).trans ((State.modNor_vals _ _ _).2.2.1.trans h1), fun _ => ?_, fun h => absurd hkind h⟩
    rw [hk, hslot, ← hnor]
    rfl
  · rw [if_neg hkind]
    exact ⟨h1, fun h => absurd h hkind, fun _ => hnor⟩

theorem updateWritten_shows (s : State) :
    (updateWritten s).nat O.updateState = 4 ∧ (updateWritten s).nat O.updateResult = 0 ∧
    (fieldN s.atl.image 6 1 = 1 → (updateWritten s).nor = { s.nor with fw := setAt s.nor.fw (updateSlot s) (some
      { version := fieldN s.atl.image 8 4, arb := fieldN s.atl.image 7 1, parts := fieldN s.atl.image 0x80 1, stepping := fieldN s.atl.image 0x81 2 }) }) ∧
    (fieldN s.atl.image 6 1 ≠ 1 → (updateWritten s).nor = { s.nor with bronze := [imageBody s.atl.image, imageBody s.atl.image] } ∧ logs s (updateWritten s) [(0x1216, [])]) := by
  unfold updateWritten
  extract_lets img u
  have hu : u.nat O.updateState = 4 ∧ u.nat O.updateResult = 0 ∧ u.nor = s.nor ∧ u.log = s.log ∧ u.nat O.atlState = s.nat O.atlState :=
    ⟨(State.nat_put_ne (by decide)).trans (State.nat_put_fits s O.updateState 4 (w := 1) rfl rfl (by decide)), State.nat_put_fits _ O.updateResult 0 (w := 2) rfl rfl (by decide),
      by simp [u], by simp [u], (State.nat_put_ne (by decide)).trans (State.nat_put_ne (by decide))⟩
  clear_value u
  obtain ⟨h1, h2, hnor, hlog, hatelier⟩ := hu
  have hslot : updateSlot u = updateSlot s := by unfold updateSlot; rw [hatelier, hnor]
  by_cases hkind : fieldN img 6 1 = 1
  · rw [if_pos hkind]
    obtain ⟨hk, -, hnat⟩ := State.showSlots_keeps (u.modNor fun n => { n with fw := setAt n.fw (updateSlot u) (some
      { version := fieldN img 8 4, arb := fieldN img 7 1, parts := fieldN img 0x80 1, stepping := fieldN img 0x81 2 }) })
    have hmod : ∀ (f : Nor → Nor) (q : Obj), (u.modNor f).nat q = u.nat q := fun f q => (State.modNor_vals _ _ _).2.2.1
    refine ⟨(hnat _ (by decide)).trans ((hmod _ _).trans h1), (hnat _ (by decide)).trans ((hmod _ _).trans h2), fun _ => ?_, fun h => absurd hkind h⟩
    rw [hk, hslot]
    exact congrArg (fun n : Nor => { n with fw := setAt n.fw (updateSlot s) (some
      { version := fieldN img 8 4, arb := fieldN img 7 1, parts := fieldN img 0x80 1, stepping := fieldN img 0x81 2 }) }) hnor
  · rw [if_neg hkind]
    let w := (u.modNor fun n => { n with bronze := [imageBody img, imageBody img] }).bump O.updateCount
    have hw : (∀ q ∈ [O.updateState, O.updateResult], w.nat q = u.nat q) ∧ w.nor = { u.nor with bronze := [imageBody img, imageBody img] } ∧ w.log = u.log :=
      ⟨fun q hq => (State.nat_bump_ne ((by decide : ∀ q ∈ [O.updateState, O.updateResult], q.key ≠ O.updateCount.key) q hq)).trans (State.modNor_vals _ _ _).2.2.1,
        by simp [w, State.bump, State.bumpBy, State.modNor], by simp [w, State.bump, State.bumpBy, State.modNor]⟩
    show (w.atlNote 0x1216).nat O.updateState = 4 ∧ (w.atlNote 0x1216).nat O.updateResult = 0 ∧ _ ∧ (_ → (w.atlNote 0x1216).nor = _ ∧ logs s (w.atlNote 0x1216) _)
    clear_value w
    obtain ⟨hnat, hwnor, hwlog⟩ := hw
    obtain ⟨-, -, -, hk⟩ := State.atlNote_keeps w 0x1216 []
    refine ⟨?_, ?_, fun h => absurd h hkind, fun _ => ⟨?_, logs_congr (hlog.symm.trans hwlog.symm) rfl (logs_note w O.atlLastStatus 0x1216 [])⟩⟩
    · exact (State.atlNote_vals _ _ _ (by decide +kernel)).trans ((hnat _ (by decide)).trans h1)
    · exact (State.atlNote_vals _ _ _ (by decide +kernel)).trans ((hnat _ (by decide)).trans h2)
    · rw [hk, hwnor, hnor]

/-- Settles O45. -/
theorem norWrites : Obligations.NorWrites := by
  intro s hdie
  refine ⟨fun hstate hwin => ⟨?_, fun r hr => ?_, fun hroom hlost hrate hring hpin => ?_⟩, fun hstate hwin hroom => ?_, fun hstate => gives_of_live hdie rfl (updateVerifyDone_shows hstate),
    fun hstate hwin => gives_of_live hdie rfl (updateWriteBegin_shows hstate hwin), fun ue hstate => ⟨fun htries => gives_of_live hdie rfl ?_, fun htries => gives_of_live hdie rfl ?_,
      fun hatl => gives_of_live hdie rfl ?_⟩⟩
  · exact gives_of_live hdie rfl (stateJournalSave_writes (atlRuns_of hdie hstate) hwin)
  · exact gives_of_live hdie rfl (limitRecordWrite_writes (atlRuns_of hdie hstate) hwin hr)
  · exact gives_of_live hdie rfl (logNorFlush_writes (atlRuns_of hdie hstate) hwin (by simpa using hroom) hlost hrate hring hpin)
  · exact gives_of_live hdie rfl (logNorFlush_waits (atlRuns_of hdie hstate) hwin hroom)
  · have ht : cmdUpdateWriteDone s true ue = s.modAtl fun a => { a with updateTries := 1 } := by simp [cmdUpdateWriteDone, hstate, htries]
    rw [ht]
    exact ⟨(State.modAtl_vals _ _ _).2.2.1.trans hstate, rfl, rfl⟩
  · have ht : cmdUpdateWriteDone s true ue = updateFail s 0x1213 := by simp [cmdUpdateWriteDone, hstate, htries]
    rw [ht]
    exact updateFail_shows s 0x1213
  · have ht : cmdUpdateWriteDone s false ue = updateWritten s := by simp [cmdUpdateWriteDone, hstate, hatl]
    rw [ht]
    exact updateWritten_shows s

end Sys2Proof.Machine
end

section
/-! A read that changes an object: UNDERRUN of `aud_port_flags` (R371, R410). -/

set_option Elab.async false

namespace Sys2Proof.Machine

/-- A running die whose audio port 0 shows UNDERRUN. -/
def underran : State := (({ die := .running, dict := { ready := true } } : State).put O.atlState 1).put (O.audPortFlags 0) 1

theorem underran_flags : underran.nat (O.audPortFlags 0) = 1 := State.nat_put_fits _ (O.audPortFlags 0) 1 (w := 1) rfl rfl (by decide)

theorem underran_servable : servable underran { route := .bar2 } := by
  have hatl : underran.nat O.atlState = 1 := (State.nat_put_ne (by decide)).trans (State.nat_put_fits _ O.atlState 1 (w := 1) rfl rfl (by decide))
  exact ⟨by simp [underran], hatl, by simp [underran], rfl, fun _ => by simp [underran], fun h => absurd rfl h⟩

/-- The read of `aud_port_flags` of port 0 by the host. -/
def flagsRead : DictOp := .read 0x7200 6 false

theorem audPortFlags_found : findObj 0x7200 6 = .ok (O.audPortFlags 0) := by decide +kernel

/-- A read of `aud_port_flags` that the engine takes is answered, and then clears UNDERRUN (R410). -/
theorem request_flagsRead {s : State} {p : Party} (h : servable s p) : ∃ r : Reply,
    s.request p flagsRead = ((s.asked p flagsRead).answer { party := p, op := flagsRead } r).audFlag 0 0 false := by
  have hread : (s.asked p flagsRead).readObj 0x7200 6 false = .ok (O.audPortFlags 0, (s.asked p flagsRead).valueBytes (O.audPortFlags 0) false) := by
    unfold State.readObj
    rw [audPortFlags_found]
    rfl
  have hafter : ∀ u : State, u.afterRead (O.audPortFlags 0) = u.audFlag 0 0 false := fun u => by
    unfold State.afterRead
    rw [if_neg (by decide), if_pos (by decide)]
    rfl
  refine ⟨{ value := some ((s.asked p flagsRead).valueBytes (O.audPortFlags 0) false) }, ?_⟩
  unfold State.request
  dsimp only
  rw [servable_admits h]
  simp only [Bool.not_true, Bool.false_eq_true, if_false]
  unfold State.serve
  rw [servable_gate h, if_neg (by simp), ← hafter]
  simp only [flagsRead] at hread ⊢
  rw [hread]

/-- UNDERRUN that stands is cleared. -/
theorem audFlag_clears {s : State} (h : s.nat (O.audPortFlags 0) = 1) : (s.audFlag 0 0 false).nat (O.audPortFlags 0) = 0 := by
  have ht : s.audFlag 0 0 false = s.put (O.audPortFlags 0) (0 : Nat) := by
    have hset : ¬ bitOf 1 0 = false := by decide
    unfold State.audFlag
    simp only [h, if_neg hset, Bool.false_eq_true, if_false]
    rfl
  rw [ht]
  exact State.nat_put_fits s (O.audPortFlags 0) 0 (w := 1) rfl rfl (by decide)

theorem State.nat_withDict (s : State) (d : Dict) (q : Obj) : ({ s with dict := d } : State).nat q = s.nat q := rfl

theorem flagsRead_changes : (underran.request { route := .bar2 } flagsRead).obj ≠ underran.obj := by
  intro hobj
  obtain ⟨r, hr⟩ := request_flagsRead underran_servable
  obtain ⟨d, -, hd⟩ := asked_eq underran { route := .bar2 } flagsRead
  have hnat : (({ underran with dict := d } : State).answer { party := { route := .bar2 }, op := flagsRead } r).nat (O.audPortFlags 0) = 1 :=
    (State.answer_nat _ _ _ (by decide +kernel)).trans ((State.nat_withDict _ _ _).trans underran_flags)
  have hpart : (underran.request { route := .bar2 } flagsRead).part = underran.part := by
    rw [hr, hd]
    exact ((State.audFlag_fr (c := 24704450608) (r := 2199023255552 ||| 962080014336) rfl rfl (State.answer_fr rfl rfl (fr_refl { underran with dict := d }))).1 .part rfl).symm
  have hsame : (underran.request { route := .bar2 } flagsRead).nat (O.audPortFlags 0) = underran.nat (O.audPortFlags 0) :=
    congrArg (fun v : Val => v.toInt.toNat) (State.val_congr hpart hobj)
  rw [underran_flags, hr, hd, audFlag_clears hnat] at hsame
  exact absurd hsame (by decide)

/-- Refutes O49: a read of `aud_port_flags` clears UNDERRUN (R410), so it changes an object that is not `mem_min_tolerance`. -/
theorem not_requests : ¬ Obligations.Requests := by
  intro h
  obtain ⟨-, hread, -⟩ := h underran 0x7200 6 (O.audPortFlags 0) (by decide)
  obtain ⟨t, ht, -, -, -, -, -, hobj⟩ := hread { route := .bar2 } false (by decide +kernel) (by decide) (by decide) underran_servable
  have hexec : exec (.dictRead { route := .bar2 } 0x7200 6 false) underran = .next (underran.request { route := .bar2 } flagsRead) := by
    show Host.Outcome.next (underran.ifLive _) = _
    rw [servable_ifLive underran_servable]
    rfl
  rw [hexec] at ht
  obtain rfl := Host.Outcome.next.inj ht
  exact flagsRead_changes (hobj (by decide))

end Sys2Proof.Machine
end
